-- ==== Sys2Proof/Word.lean ====
section
/-!
DEFINITION. Word.lean: the widths the Salesque's spec works in, and their plainest arithmetic.
-/
namespace Sys2Proof

/-- One byte of a packet, a frame or a memory (00_scope R6). -/
abbrev Byte := BitVec 8

/-- One control-space register (00_scope R590). -/
abbrev Word := BitVec 32

/-- `x` modulo `2 ^ n`. -/
def wrap (n x : Nat) : Nat := x % 2 ^ n

/-- The smaller of a count and its saturation value. -/
def sat (top x : Nat) : Nat := if top < x then top else x

/-- A Bool as the number a one-bit field holds. -/
def b2n (b : Bool) : Nat := if b then 1 else 0

end Sys2Proof
end

