-- ==== Sys2Proof/Syntax.lean ====
section
/-!
DEFINITION. Syntax.lean: the commands the Salesque takes, one constructor of `Instr` per row of
spec/opcode_table.json, and the types of their operands. The table gives no operands: each command
carries what its rule names (which field, engine or lane; the packet, the sampled value, the outcome
of a measurement or of a cryptographic check made outside the model).
-/
namespace Sys2Proof

/-- The two halves of the device (00_scope R9). -/
inductive Half
  | w
  | e
deriving DecidableEq, Repr

/-- Master class of a request (06_warp_weft_network R162): 0 stile, 1 host port, 2 debug, 3 Thimble,
4 to 7 Shuttle queue class 0 to 3, 8 any other hardened block. -/
abbrev MClass := Fin 16

/-- A side of a tile or of a field, in the order of 02_fabric R46. -/
inductive Side
  | north
  | east
  | south
  | west
deriving DecidableEq, Repr

/-- One direction of a hedgerow crossing (02_fabric R56): the sending field, the side it leaves by, and
the row (vertical hedgerow) or column (horizontal) of the crossing inside the field. -/
structure Crossing where
  field : Fin 32
  side  : Side
  index : Fin 200
deriving DecidableEq, Repr

/-- A clock-crossing FIFO: fabric gusset g of a field (02_fabric R62), or stream n of an engine, in0, in1, out0, out1
(04_clover_engines R109). -/
inductive GussetId
  | fabric (f : Fin 32) (g : Fin 64)
  | stream (e : Fin 1536) (n : Fin 4)
deriving DecidableEq, Repr

/-- The inputs one block-memory port sees on one edge of its clock (03_block_memory R79, R81). -/
structure PortIn where
  addr : BitVec 15
  din  : BitVec 72
  we   : BitVec 8
  en   : Bool
  oce  : Bool
  orst : Bool
deriving DecidableEq, Repr

/-- The guard of a Clover slot (05_clover_instruction_set R133): G of its bundle and its stage field. -/
structure Guard where
  g     : Bool
  stage : Fin 8
deriving DecidableEq, Repr

/-- A packet header of the Warp/Weft network (06_warp_weft_network R160). -/
structure Header where
  mclass  : Fin 16
  status  : Fin 16
  tag     : Fin 1024
  srcSlot : Fin 4
  srcKnot : Fin 128
  srcDev  : Fin 8
  dstSlot : Fin 4
  dstKnot : Fin 128
  dstDev  : Fin 8
  cls     : Fin 4
  type    : Fin 8
  lenM1   : Fin 8192
  addr    : BitVec 48
deriving DecidableEq, Repr

/-- A packet that was being received over a link when it was lost: its data, the links it had crossed, and how many of its flits had come
(23_selvedge_links R585). -/
structure CutPacket where
  hd   : Header
  data : List Byte
  hops : Nat
  got  : Nat
deriving DecidableEq, Repr

/-- What a link lost when it left Up (23_selvedge_links R585): lanes, and the packet that was being received, if there was one. -/
structure LinkLoss where
  lanes : List (Fin 144)
  cut   : Option CutPacket := none
deriving DecidableEq, Repr

/-- A packet's payload as it comes over a link: its bytes, and which of its flits are poisoned (06_ R180). -/
structure LinkData where
  bytes  : List Byte
  poison : List Nat := []
deriving DecidableEq, Repr

/-- The end of a Sync exchange (07_lark_time R200): its fourth timestamp, and the TAI − UTC offset of an announce message, if one came with
it. -/
structure SyncEnd where
  t4       : Nat
  announce : Option (BitVec 16) := none
deriving DecidableEq, Repr

/-- Where a packet leaves a knot (06_warp_weft_network R167): a link, or one of the slots. -/
inductive OutPort
  | north
  | east
  | south
  | west
  | slot (n : Fin 4)
deriving DecidableEq, Repr

/-- What a knot's SECDED check found in one 128-bit quarter of a flit (06_ R164): no bit, one bit, or more bits wrong. -/
inductive Quarter
  | clean
  | single
  | double
deriving DecidableEq, Repr

/-- What a knot's check found in the four quarters of the flit it takes (06_ R164, R181). -/
structure FlitErr where
  q0 : Quarter
  q1 : Quarter
  q2 : Quarter
  q3 : Quarter
deriving DecidableEq, Repr

/-- A source or destination of the network (06_ R160). -/
structure NodeId where
  dev  : Fin 8
  knot : Fin 128
  slot : Fin 4
deriving DecidableEq, Repr

/-- A request to a memory channel (13_memory_channels R351, R352): its request id, where its response goes, its
service class, its local DRAM address in the channel and its length in bytes. -/
structure MemReq where
  rid    : Nat
  mclass : MClass
  cls    : Fin 4
  addr   : Nat
  len    : Nat
deriving DecidableEq, Repr

/-- Why a channel enters self-refresh (13_ R360). -/
inductive SrTrigger
  | domain (st : Fin 4)
  | clockFailed
  | deviceReset
deriving DecidableEq, Repr

/-- LUT modes of a cell (02_fabric R39). -/
inductive LutMode
  | whole
  | fractured
  | carry
deriving DecidableEq, Repr

/-- Configuration of one flip-flop (02_ R40, R41). `ce` and `sr` are 0, 1 or 2 = always enabled, none. -/
structure FfCfg where
  fromF : Bool
  clk1  : Bool
  ce    : Fin 3
  sr    : Fin 3
  async : Bool
  srVal : Bool
  init  : Bool
deriving DecidableEq, Repr

/-- Configuration of one cell (02_ R38 to R41). -/
structure CellCfg where
  mode : LutMode
  tt   : BitVec 64
  ff0  : FfCfg
  ff1  : FfCfg
deriving DecidableEq, Repr

/-- Configuration of one tile (02_ R41, R42, R46, R51, R54): its cells by number, its sinks' selects by sink
number, its five control taps, clk0 and clk1, and the enabled hop registers (number 24 side + wire) with
their initial values. A cell, sink or hop register not listed is unused: select 254, no register. -/
structure TileCfg where
  cells  : List (Nat × CellCfg)
  sinks  : List (Nat × BitVec 8)
  ce0    : BitVec 8
  ce1    : BitVec 8
  sr0    : BitVec 8
  sr1    : BitVec 8
  ci     : BitVec 8
  clk0   : Fin 12
  clk1   : Fin 12
  hops   : List (Nat × Bool)
  /-- Bit 0 to 3: the hop registers of the north, east, south, west side use clk1. -/
  hopClk : BitVec 4
deriving DecidableEq, Repr

/-- Read-during-write settings (03_block_memory R82). -/
inductive RdwMode
  | writeFirst
  | readFirst
  | noChange
deriving DecidableEq, Repr

/-- Configuration of one block memory (03_ R75 to R78, R81, R82, R87). Widths are in data bits. -/
structure BramCfg where
  sdp     : Bool
  secded  : Bool
  widthA  : Nat
  widthB  : Nat
  clkA    : Fin 12
  clkB    : Fin 12
  rdwA    : RdwMode
  rdwB    : RdwMode
  oregA   : Bool
  oregB   : Bool
  srValA  : BitVec 72
  srValB  : BitVec 72
  initA   : BitVec 72
  initB   : BitVec 72
deriving DecidableEq, Repr

/-- Configuration of one gusset: its almost-full threshold and its clocks (02_ R62, R63). -/
structure GussetCfg where
  thr   : Fin 32
  wrClk : Fin 12
  rdClk : Fin 12
deriving DecidableEq, Repr

/-- Configuration of one direction of a crossing (02_ R56 to R58): hedged or plain, and 24 hold codes. -/
structure CrossCfg where
  hedged : Bool
  hold   : BitVec 48
deriving DecidableEq, Repr

/-- Where a signature, a tag or a stored stream stood when the loader checked it is outside the model: a
pattern operand gives the image after decryption and inflation. One configuration-frame section (type 1 of
18_patterns_startup R455). -/
structure FrameSec where
  field   : Fin 32
  tiles   : List (Nat × TileCfg)
  brams   : List (Nat × BramCfg)
  gussets : List (Nat × GussetCfg)
  /-- The bypass positions the frames set, one local column per strip (R53). -/
  bypass  : List Nat
deriving DecidableEq, Repr

/-- One pin of a pin-configuration section (18_ R455, 17_pins R451). -/
structure PinSec where
  bank : Fin 8
  pin  : Fin 48
  cfg  : BitVec 32
  own  : BitVec 32
  filt : BitVec 32
deriving DecidableEq, Repr

/-- One driver claim (18_ R464): a pin with its driving field, or a pinned seam spare with its half. -/
inductive DriverClaim
  | pin (bank : Fin 8) (pin : Fin 48) (field : Fin 32)
  | spare (seg : Fin 110) (wire : Fin 146) (h : Half)
deriving DecidableEq, Repr

/-- The body of a section, by type (18_ R455). -/
inductive SectionBody
  | frames (s : FrameSec)
  | bramInit (field : Fin 32) (words : List (Nat × List (BitVec 72)))
  | clover (field : Fin 32) (progs : List (Nat × List (BitVec 64))) (data : List (Nat × List (BitVec 96)))
  | hedges (crossings : List (Crossing × CrossCfg)) (segs : List (Fin 110 × BitVec 32))
      (holds : List (Fin 110 × Fin 24 × BitVec 32))
  | claims (table : List DriverClaim)
  | pins (table : List PinSec)
  | calendar (h : Half) (entries : List (Nat × BitVec 128)) (channels : List (Nat × BitVec 32 × BitVec 32))
  | regs (writes : List (BitVec 48 × BitVec 32))
  | dormant (states : List Byte)
  | reserved (type : Byte)
deriving DecidableEq, Repr

/-- One section with its table entry (18_ R454): flags (bit 0 deflate, bit 1 encrypted), stored and uncompressed length, offset from byte 0
and AES-GCM tag. Type and target are those of the body. -/
structure Section where
  flags  : Byte := 0
  stored : BitVec 32 := 0
  plain  : BitVec 32 := 0
  offset : BitVec 32 := 128
  tag    : BitVec 128 := 0
  body   : SectionBody
deriving DecidableEq, Repr

/-- A pattern image as the loader reads it (18_ R454): the header's fields in order, with byte 7 (`reserved`) and bytes 40 to 127 (`rest`),
the sections, and the signature block. -/
structure Pattern where
  magic    : BitVec 32 := 0x54505A59
  format   : Byte
  flags    : Byte
  keySlot  : Byte := 0
  reserved : Byte := 0
  idcode   : BitVec 32 := 0x1A63D0F1
  region   : BitVec 32
  build    : BitVec 32
  iv       : BitVec 96 := 0
  length   : BitVec 32
  rest     : BitVec 704 := 0
  sections : List Section
  /-- The carried public key, its first byte lowest, and its SHA-384 hash. -/
  key      : BitVec 776
  keyHash  : BitVec 384
  sigR     : BitVec 384
  sigS     : BitVec 384
  /-- Bytes 193 to 255 of the signature block. -/
  sigRest  : BitVec 504 := 0
deriving DecidableEq, Repr

/-- What ends a replay (20_bobbin_replay R514). -/
inductive ReplayEnd
  | gap
  | ringEnd
  | stopIndex
  | missingSource
deriving DecidableEq, Repr

/-- Carriers of the command protocol, in the order of 21_command_protocol R527. -/
inductive Carrier
  | hostW
  | hostE
  | network
  | spiW
  | spiE
  | i2cW
  | i2cE
  | jtag
deriving DecidableEq, Repr

/-- The long operations of the opcode tables (21_ R529, R534, R537, R538, R541). -/
inductive LongOp
  | load
  | scrub (n : Fin 8)
  | lining (i : Fin 16)
  | mend (f : Fin 32)
  | update
deriving DecidableEq, Repr

/-- How a request that passed the packet checks came in (21_ R521, R525): carrier, requester id, sequence
and the header's version. -/
structure ReqCtx where
  carrier : Carrier
  id      : Byte
  seq     : BitVec 16
  major   : Byte
  minor   : Byte
deriving DecidableEq, Repr

/-- The supplies (22_power_package R553, R554). -/
inductive Supply
  | coreIn
  | aux
  | xcvHi
  | vddq
  | vccio (b : Fin 8)
deriving DecidableEq, Repr

/-- The commands of the Salesque: one constructor per row of spec/opcode_table.json, in its order. Each
docstring is the row's rule and summary. -/
inductive Instr
  /-- R590. A 4- or 8-byte write to a register that has no behaviour of its own; a bad size or alignment gets TARGET_ERR, an unassigned offset gets DECODE. -/
  | registerWrite (mc : MClass) (addr : BitVec 48) (data : List Byte)
  /-- R267. The always-on supplies become valid; everything resets, each Lark starts at time 0 and the device goes Blank. -/
  | powerOn (straps : BitVec 3) (pwrupPd : Bool) (gradeI : Bool)
  /-- R268. DEV_RESET_N held low for 1 µs or more starts the device-reset sequence. -/
  | devResetN (lowNs : Nat)
  /-- R573. PWR_OK_IN going low holds the device in reset, as DEV_RESET_N low does. -/
  | pwrOkIn
  /-- R268. cmd 1 in PWR_RESET_CTRL starts the device-reset sequence. -/
  | deviceReset (mc : MClass)
  /-- R267. cmd 2 in PWR_RESET_CTRL resets half W's island and its domains. -/
  | halfResetW (mc : MClass)
  /-- R267. cmd 3 in PWR_RESET_CTRL resets half E's island and its domains. -/
  | halfResetE (mc : MClass)
  /-- R268. On release of a device reset, the system PLL locks and Thimble boots from the record store. -/
  | resetRelease
  /-- R474. Once boot completes, Thimble chooses the valid record-store bank, or ROM firmware, and reports Blank. -/
  | thimbleBoot
  /-- R267. TRST resets the IEEE 1149.1 and 1149.6 test logic only. -/
  | jtagTrst
  /-- R267. After 100 ms without service, the watchdog resets that Thimble's processor and the standby takes over. -/
  | thimbleWatchdog (h : Half)
  /-- R31. In Blank, when the pattern pointer has autoload set, the device starts a full load by itself. -/
  | autoload
  /-- R36. When a lost half's island is back, Thimble recovers that half as the device mode requires. -/
  | halfRecovery (h : Half)
  /-- R43. On a rising edge, each fabric flip-flop and hop register takes the first case that applies: set/reset, enable or hold. -/
  | fabricCycle (f : Fin 32) (r : Fin 12)
  /-- R45. Writing gsr_pulse requests a 256 ns global set/reset pulse for the field, deferred while the field is frozen. -/
  | gsrPulseWrite (f : Fin 32)
  /-- R44. After 256 ns the pulse ends, and registers follow R43 again from the second edge of their clock. -/
  | gsrPulseEnd (f : Fin 32)
  /-- R59. A hedged-channel word transfers on an edge where s_valid and s_ready are both 1, spending one credit. -/
  | hedgeTransfer (c : Crossing) (word : BitVec 22)
  /-- R59. The receiver pops the head word of its buffer, and the credit starts back to the sender. -/
  | hedgePop (c : Crossing)
  /-- R59. A returned credit reaches the sender two cycles after the pop. -/
  | hedgeCreditReturn (c : Crossing)
  /-- R61. After 1 µs without a credit on a hedged channel, hedged_stall is set for that side. -/
  | hedgedStall (c : Crossing)
  /-- R63. An entry is written on a write-clock edge with wr_en; a write while full is dropped and sets the overflow flag. -/
  | gussetWrite (g : GussetId) (word : BitVec 72)
  /-- R63. rd_en pops the head entry; a read while empty sets the underflow flag. -/
  | gussetRead (g : GussetId)
  /-- R64. A written entry becomes visible to the read side on the third or fourth read-clock edge. -/
  | gussetEntryVisible (g : GussetId)
  /-- R64. A popped entry is freed for the write side on the third or fourth write-clock edge. -/
  | gussetEntryFreed (g : GussetId)
  /-- R65. A tick pulse lands on the third edge of its clock after the action time; colliding actions merge and set the merged flag. -/
  | tickLand (f : Fin 32) (t : Fin 16)
  /-- R81. On a port edge with en, the memory writes the enabled bytes and reads addr, resolving collisions and SECDED. -/
  | bramPortAccess (m : Fin 12288) (a b : Option PortIn)
  /-- R90. Every 2^k × 128 ns, the scrubber reads the next address of every SECDED memory in the field. -/
  | bramScrubStep (f : Fin 32)
  /-- R90. A single error is written back in the next idle port-A cycle, unless a user write intervenes. -/
  | bramScrubWriteback (m : Fin 12288)
  /-- R90. After 1,024 cycles with no idle port cycle, the step is skipped and starved is set. -/
  | bramScrubStarved (m : Fin 12288)
  /-- R136. A MAC slot sets Ak to x·y. -/
  | mul (e : Fin 1536) (gd : Guard) (slot1 : Bool) (ak : Fin 4) (x y : Fin 32)
  /-- R136. A MAC slot adds x·y to Ak. -/
  | mac (e : Fin 1536) (gd : Guard) (slot1 : Bool) (ak : Fin 4) (x y : Fin 32)
  /-- R136. A MAC slot adds x·conj(y) to Ak. -/
  | macc (e : Fin 1536) (gd : Guard) (slot1 : Bool) (ak : Fin 4) (x y : Fin 32)
  /-- R141. A memory slot loads a single sample or a pair into c registers, then applies the pointer modify. -/
  | memoryLoad (e : Fin 1536) (gd : Guard) (pair : Bool) (p : Fin 8) (reg : Fin 32) (inc : Bool)
  /-- R141. A memory slot stores a single sample or a pair from c registers, then applies the pointer modify. -/
  | memoryStore (e : Fin 1536) (gd : Guard) (pair : Bool) (p : Fin 8) (reg : Fin 32) (inc : Bool)
  /-- R112. A stream slot takes the next entry of an input stream and copies its last bit, once an entry is visible. -/
  | streamRead (e : Fin 1536) (gd : Guard) (s1 : Bool) (reg : Fin 32)
  /-- R112. A stream slot puts a value on an output stream with a last bit, once there is room. -/
  | streamWrite (e : Fin 1536) (gd : Guard) (s1 : Bool) (reg : Fin 32) (last : Bool)
  /-- R148. An operate or control no-operation. -/
  | nop (e : Fin 1536)
  /-- R148. A complex multiply-accumulate in one of seven modes, including accumulate from the cascade. -/
  | cmac (e : Fin 1536) (gd : Guard) (ak : Fin 4) (x y : Fin 32) (mode : Fin 8)
  /-- R148. Extracts both parts of Aj, or of Aj + Am, into cd. -/
  | ext (e : Fin 1536) (gd : Guard) (dst : Fin 32) (aj am : Fin 4) (sum : Bool) (n : Fin 64) (trunc : Bool)
  /-- R148. Extracts one accumulator into one part of cd. -/
  | ext1 (e : Fin 1536) (gd : Guard) (dst : Fin 32) (ai : Fin 8) (n : Fin 64) (trunc : Bool) (im : Bool)
  /-- R148. Loads Ak from x shifted left by n. -/
  | amov (e : Fin 1536) (gd : Guard) (ak : Fin 4) (x : Fin 32) (n : Fin 64)
  /-- R148. Clears each accumulator named in the mask. -/
  | aclr (e : Fin 1536) (gd : Guard) (mask : BitVec 4)
  /-- R148. Sets Ak to Aj + Am. -/
  | aadd (e : Fin 1536) (gd : Guard) (ak aj am : Fin 4)
  /-- R148. Sets Ak to Aj − Am. -/
  | asub (e : Fin 1536) (gd : Guard) (ak aj am : Fin 4)
  /-- R114. Writes Aj into the cascade register and sets valid, stalling while valid is 1. -/
  | casw (e : Fin 1536) (gd : Guard) (aj : Fin 4)
  /-- R114. Reads the cascade into Ak, or adds it to Ak, and clears valid, stalling while valid is 0. -/
  | casr (e : Fin 1536) (gd : Guard) (ak : Fin 4) (add : Bool)
  /-- R155. Performs one non-restoring division step. -/
  | dstep (e : Fin 1536) (gd : Guard) (ak : Fin 4) (x : Fin 32)
  /-- R155. Finishes the division, correcting and shifting the remainder. -/
  | dfin (e : Fin 1536) (gd : Guard) (ak : Fin 4) (x : Fin 32)
  /-- R149. Sets cd to x + y. -/
  | cadd (e : Fin 1536) (gd : Guard) (dst x y : Fin 32)
  /-- R149. Sets cd to x − y. -/
  | csub (e : Fin 1536) (gd : Guard) (dst x y : Fin 32)
  /-- R149. Sets cd to the conjugate of x. -/
  | cconj (e : Fin 1536) (gd : Guard) (dst x : Fin 32)
  /-- R149. Sets cd to −x. -/
  | cneg (e : Fin 1536) (gd : Guard) (dst x : Fin 32)
  /-- R149. Sets cd to j·x. -/
  | cmulj (e : Fin 1536) (gd : Guard) (dst x : Fin 32)
  /-- R149. Copies x into cd. -/
  | cmov (e : Fin 1536) (gd : Guard) (dst x : Fin 32)
  /-- R149. Shifts each part of x right with rounding. -/
  | cshr (e : Fin 1536) (gd : Guard) (dst x : Fin 32) (n : Fin 32) (trunc : Bool)
  /-- R149. Shifts each part of x left with saturation. -/
  | cshl (e : Fin 1536) (gd : Guard) (dst x : Fin 32) (n : Fin 32)
  /-- R150. Compares one part of two c registers into a predicate. -/
  | pcmp (e : Fin 1536) (gd : Guard) (q : Fin 8) (x y : Fin 32) (cond : Fin 8) (im : Bool)
  /-- R150. Combines predicates by a logic operation. -/
  | plog (e : Fin 1536) (gd : Guard) (q a b : Fin 8) (op : Fin 8)
  /-- R150. Copies an input stream's last flag into a predicate. -/
  | plast (e : Fin 1536) (gd : Guard) (q : Fin 8) (s1 : Bool)
  /-- R150. Applies a signed modify to a pointer. -/
  | pmod (e : Fin 1536) (gd : Guard) (p : Fin 8) (m : BitVec 12)
  /-- R150. Loads in the late half-cycle with a 12-bit modify. -/
  | ldl (e : Fin 1536) (gd : Guard) (dst : Fin 32) (p : Fin 8) (pair : Bool) (m : BitVec 12)
  /-- R150. Stores in the late half-cycle with a 12-bit modify. -/
  | stl (e : Fin 1536) (gd : Guard) (src : Fin 32) (p : Fin 8) (pair : Bool) (m : BitVec 12)
  /-- R138. Loads a 48-bit immediate into cd. -/
  | ldi (e : Fin 1536) (gd : Guard) (dst : Fin 32) (imm : BitVec 48)
  /-- R120. Ends the run: the engine goes Idle, run_count increments and done pulses. -/
  | halt (e : Fin 1536) (gd : Guard)
  /-- R151. A conditional or unconditional branch. -/
  | br (e : Fin 1536) (gd : Guard) (target : BitVec 9) (cond : Fin 8) (q : Fin 8)
  /-- R152. Starts a loop on k0 or k1 with an immediate trip count. -/
  | loop (e : Fin 1536) (gd : Guard) (k1 rotate : Bool) (s1 : Fin 8) (last : BitVec 9) (n : BitVec 16)
  /-- R152. Starts a loop with its trip count taken from a register. -/
  | loopr (e : Fin 1536) (gd : Guard) (k1 rotate : Bool) (s1 : Fin 8) (last : BitVec 9) (x : Fin 32)
  /-- R151. Sets a pointer, base or length register. -/
  | setp (e : Fin 1536) (gd : Guard) (p : Fin 8) (which : Fin 4) (imm : BitVec 16)
  /-- R151. Sets the masked program flag bits. -/
  | flag (e : Fin 1536) (gd : Guard) (value mask : BitVec 4)
  /-- R120. cmd start in CLV_CTRL starts the engine from start_pc, or flags start_err or start_overrun. -/
  | clvStart (e : Fin 1536)
  /-- R120. cmd stop in CLV_CTRL stops a running engine once its in-flight bundles retire. -/
  | clvStop (e : Fin 1536)
  /-- R120. cmd resume in CLV_CTRL returns a stopped engine to Running. -/
  | clvResume (e : Fin 1536)
  /-- R120. cmd clear in CLV_CTRL returns a stopped engine or one in Error to Idle. -/
  | clvClear (e : Fin 1536)
  /-- R123. A rising edge on the fabric start sink starts the engine when fabric_start_en is set. -/
  | fabricStart (e : Fin 1536)
  /-- R591. A rising edge on the fabric stop sink stops the engine. -/
  | fabricStop (e : Fin 1536)
  /-- R591. Requests held while clocks were stopped are applied together, in R121 order, on the third edge after restart. -/
  | heldRequestsApply (e : Fin 1536)
  /-- R124. After a halt and its memory writes, the engine writes run_count and cycle count to CLV_NOTIFY_ADDR. -/
  | notifyWrite (e : Fin 1536)
  /-- R101. A network access to an engine's data memory is served in a free half-cycle. -/
  | clvNetworkAccess (e : Fin 1536) (write : Bool) (off : BitVec 16) (len : Nat) (data : List Byte)
  /-- R101. After 64 cycles without a free half-cycle, the engine inserts a stall cycle and serves the access. -/
  | clvNetworkStarvation (e : Fin 1536) (write : Bool) (off : BitVec 16) (len : Nat) (data : List Byte)
  /-- R101. A network write to the program store while not Running, which clears prog_valid. -/
  | programStoreWrite (e : Fin 1536) (n : Fin 512) (bundle : BitVec 64)
  /-- R129. A write to CLV_STREAM_CLK while not Running applies the new clocks and empties the gussets of changed streams. -/
  | streamClkWrite (e : Fin 1536) (v : BitVec 32)
  /-- R132. An access to an engine's architectural state window, refused while Running. -/
  | stateWindowAccess (e : Fin 1536) (write : Bool) (off : BitVec 12) (len : Nat) (data : List Byte)
  /-- R116. A write to FLD_CLV_CLK changes the column clock glitch-free. -/
  | columnClockChange (f : Fin 32) (v : BitVec 32)
  /-- R116. A column clock above 1,270 MHz is gated off and overspeed is set. -/
  | columnOverspeed (f : Fin 32) (k1 : Bool) (kHz : Nat)
  /-- R117. A critical-path shortfall delays the column's next clock edge by d/8 of a period. -/
  | clockStretch (f : Fin 32) (k1 : Bool) (d : Fin 4)
  /-- R117. After 16 consecutive cycles at d = 4, stretch_max is set and a fault report is sent. -/
  | stretchMax (f : Fin 32) (k1 : Bool)
  /-- R161. A target takes a read request packet and answers it with one read response. -/
  | readRequest (hd : Header)
  /-- R161. A target takes a write request packet, applies it and answers it with one write response. -/
  | writeRequest (hd : Header) (data : List Byte) (poison : List Nat)
  /-- R161. A source receives a read response; one that arrives after its timeout is discarded and sets late_rsp. -/
  | readResponse (hd : Header) (data : List Byte) (poison : List Nat)
  /-- R161. A source receives a write response. -/
  | writeResponse (hd : Header)
  /-- R167. A knot takes a header, routes it in dimension order and arbitrates among virtual channels. -/
  | knotForward (k : Fin 50) (out : OutPort) (err : FlitErr)
  /-- R171. A header that has waited 16 times its class's age limit becomes promoted. -/
  | agePromotion (k : Fin 50) (pid : Nat)
  /-- R179. A source's limit passes, and the request completes with TIMEOUT. -/
  | requestTimeout (src : NodeId) (tag : BitVec 10)
  /-- R176. The fabric issues a request through a stile. -/
  | stileRequest (s : Fin 128) (write : Bool) (addr : BitVec 48) (lenM1 : BitVec 13) (cls : Fin 4) (dev : Fin 8) (tag : BitVec 8) (data : List Byte)
  /-- R177. A request to a stile's window is delivered to the fabric, held, or refused by field state. -/
  | stileInbound (s : Fin 128) (hd : Header) (data : List Byte)
  /-- R176. The fabric answers an inbound request, and the stile builds the response. -/
  | stileInboundAnswer (s : Fin 128) (status : BitVec 4) (data : List Byte)
  /-- R189. A change of clk or tgt_en takes effect once the stile has nothing outstanding. -/
  | stileCtrlApply (s : Fin 128)
  /-- R183. Stitch receivers detect the loss of the other half, and the surviving seam knots answer HALF_DOWN or TRUNCATED. -/
  | halfLossDetect (h : Half)
  /-- R183. Within 1 µs, sources complete their outstanding requests to the lost half with HALF_DOWN. -/
  | halfDownSweep (h : Half)
  /-- R193. A read of LRK_TIME_FRAC latches NS and both seconds registers. -/
  | timeFracRead (h : Half)
  /-- R194. cmd 1 in LRK_CTRL arms a set of the leader's time, accepted only in Free-run. -/
  | setTime (h : Half)
  /-- R194. At the next whole second, the set value loads into the leader and follower counters, and the calendar re-arms. -/
  | setTimeApply (h : Half)
  /-- R216. cmd 2 in LRK_CTRL, written to an aligned follower, requests a swap of leadership. -/
  | takeLeadership (h : Half)
  /-- R216. The roles swap at the next exchange, without a step. -/
  | leadershipSwap
  /-- R214. cmd 3 in LRK_CTRL discards the model, the window and learn_hours. -/
  | clearLearning (h : Half)
  /-- R198. A write to LRK_GRID_CFG stages the grid configuration, which is applied at once, pending or discarded. -/
  | gridCfgWrite (g : Fin 4) (v : BitVec 32)
  /-- R198. At the SFN 1023-to-0 boundary, the pending configuration applies and the grid's entries are re-checked. -/
  | gridConfigApply (g : Fin 4)
  /-- R201. A PPS edge is timestamped and yields a phase sample. -/
  | ppsEdge (n : Fin 8) (rising : Bool)
  /-- R200. Thimble decodes a ZDA or RMC sentence to label a PPS edge with its TAI second. -/
  | gnssSentence (u : Fin 2) (utcSec : Nat)
  /-- R200. Thimble computes one phase sample from a PTP Sync exchange. -/
  | ptpSync (n : Fin 8) (t1 t2 t3 : Nat) (last : SyncEnd)
  /-- R204. The discipline loop updates on a phase sample, and may step, narrow or change time state. -/
  | phaseSample
  /-- R202. A reference that has met its checks for the qualification time becomes qualified and may be selected. -/
  | refQualified (n : Fin 8)
  /-- R202. A failed check, such as a sample timeout, disqualifies a reference, possibly entering Holdover. -/
  | refDisqualified (n : Fin 8) (cause : Fin 8)
  /-- R202. A write to LRK_REF_n that changes its source ends the entry's qualification. -/
  | refConfigWrite (n : Fin 8) (v : BitVec 32)
  /-- R203. Once a better entry has stayed qualified 300 s more, the Lark switches to it. -/
  | revertiveSwitch (n : Fin 8)
  /-- R210. Every 16 s while Locked, the Lark stores one frequency and temperature bin. -/
  | learnBin (h : Half) (freq : Int) (temp : Int)
  /-- R210. Every 16 minutes the Lark refits the oscillator model. -/
  | modelFit (h : Half)
  /-- R210. Each whole hour Locked increments learn_hours and may set model_valid. -/
  | learnHour (h : Half)
  /-- R212. Once a second in Holdover, pred_err is recomputed, moving to Holdover-expired past hold_limit. -/
  | holdoverPredict (h : Half)
  /-- R215. Thimble saves the oscillator model hourly to the record store. -/
  | modelSave (h : Half)
  /-- R211. Thimble reads the I2C oscillator sensor once a second. -/
  | tempRead (h : Half) (temp : Int)
  /-- R211. With no I2C reading for 5 s, θ is held and temp_lost is set. -/
  | tempLost (h : Half)
  /-- R216. Every 1 µs the follower aligns to the leader over the seam time pair, and aligned follows. -/
  | timeExchange
  /-- R217. Every 1 µs a full time word is sent; a block off by more than 1 ns corrects itself and reports it. -/
  | threadTimeWord (h : Half) (block : BitVec 8) (errPs : Int)
  /-- R220. An edge on an enabled capture input is timestamped into the FIFO, or dropped with cap_ovf. -/
  | captureEdge (h : Half) (j : Fin 8) (rising : Bool)
  /-- R220. A read of LRK_CAP_0 pops the head entry and latches the rest. -/
  | capturePop (h : Half)
  /-- R246. cmd 1 in LRK_CAL_CMD writes WDATA to entry idx, checked and re-armed. -/
  | calendarWrite (h : Half) (mc : MClass)
  /-- R246. cmd 2 in LRK_CAL_CMD reads entry idx into RDATA. -/
  | calendarRead (h : Half) (mc : MClass)
  /-- R246. cmd 3 in LRK_CAL_CMD clears valid of entry idx as a re-arm. -/
  | calendarClearValid (h : Half) (mc : MClass)
  /-- R239. The dispatcher delivers the next occurrence to its target, or marks it late, missed or dropped. -/
  | occurrenceDeliver (h : Half)
  /-- R231. A calendar occurrence acts as one tick on a tick line. -/
  | calTick (h : Half) (f : Fin 16) (t : Fin 16)
  /-- R123. A calendar occurrence starts a Clover engine on the third engine-clock edge. -/
  | calCloverStart (h : Half) (e : Fin 768) (arg : BitVec 24)
  /-- R591. A calendar occurrence stops a Clover engine. -/
  | calCloverStop (h : Half) (e : Fin 768)
  /-- R591. A calendar occurrence resumes a Clover engine. -/
  | calCloverResume (h : Half) (e : Fin 768)
  /-- R415. A calendar occurrence kicks a Shuttle queue, skipping the kick_mask check. -/
  | calShuttleKick (h : Half) (n : Fin 8) (q : BitVec 20)
  /-- R233. A calendar occurrence drives the pin's event output low. -/
  | calPinDriveLow (h : Half) (pin : Fin 192)
  /-- R233. A calendar occurrence drives the pin's event output high. -/
  | calPinDriveHigh (h : Half) (pin : Fin 192)
  /-- R233. A calendar occurrence toggles the pin's event output. -/
  | calPinToggle (h : Half) (pin : Fin 192)
  /-- R233. A calendar occurrence drives the pin's event output high for arg × 0.25 ns. -/
  | calPinPulse (h : Half) (pin : Fin 192) (arg : BitVec 24)
  /-- R233. At the end of its pulse, the pin is driven low. -/
  | pinPulseEnd (h : Half) (pin : Fin 192)
  /-- R309. A calendar occurrence takes a lane out of idle with a training burst. -/
  | calLaneExitIdle (h : Half) (lane : Fin 72)
  /-- R309. A calendar occurrence puts a lane into electrical idle. -/
  | calLaneEnterIdle (h : Half) (lane : Fin 72)
  /-- R340. A calendar occurrence gives one SYSREF pulse to a JESD block, aligning or checking its boundary. -/
  | calSysref (h : Half) (j : Fin 4) (ofs : Int)
  /-- R231. A calendar occurrence records a Bobbin marker. -/
  | calBobbinMarker (h : Half) (arg : BitVec 24)
  /-- R508. A calendar occurrence triggers Bobbin. -/
  | calBobbinTrigger (h : Half)
  /-- R31. A calendar occurrence wakes the device from Dormant. -/
  | calWake (h : Half)
  /-- R242. A write to LRK_CH_CTRL_c stages the shadow set for commit, or is refused with ch_err. `range`: the first half of an 8-byte write,
  which goes to LRK_CH_RANGE_c before it (R590). -/
  | channelStage (h : Half) (c : Fin 32) (mc : MClass) (v : BitVec 32) (range : Option (BitVec 32))
  /-- R244. At hand-over point H, the staged set commits atomically and arms its entries. -/
  | channelCommit (h : Half) (c : Fin 32)
  /-- R244. At each hand-over point of the active set, ho_now advances. -/
  | handOverPoint (h : Half) (c : Fin 32)
  /-- R252. Setting en checks the PLL's limits and brings it up, or sets cfg_err. -/
  | pllEnable (n : Fin 16) (v : BitVec 32) (priHz fbHz : Nat)
  /-- R253. A PLL input is lost after missing edges, a lane unlock or a frequency outside ±100 ppm. -/
  | pllInputLoss (p : Fin 18) (fallback : Bool)
  /-- R254. After 16 PFD periods of phase build-out, the loop closes on the new input. -/
  | pllSwitchComplete (p : Fin 18)
  /-- R253. An input that has been within limits for 100 ms counts as good again. -/
  | pllInputGood (p : Fin 18) (fallback : Bool)
  /-- R255. A write of force_fb switches the PLL to its fallback, or lets it leave the fallback. -/
  | forceFallback (n : Fin 16) (v : Bool)
  /-- R256. A write to F is applied at no more than 1 ppm per µs. -/
  | pllFracChange (n : Fin 16) (fallback : Bool) (v : BitVec 24)
  /-- R264. A PLL with no good input dies; the domains that use it are forced, giving Safe hold with cause clock. -/
  | pllDead (n : Fin 16)
  /-- R251. Loss of both system-PLL inputs forces every domain of the half, and its up bit reads 0. -/
  | halfClockLoss (h : Half)
  /-- R265. After 1 ms with its PLLs locked, a forced domain is released in order; Safe hold may end. -/
  | domainClockRelease (d : Fin 64)
  /-- R260. A write that changes sel starts a glitch-free switch of the regional clock. -/
  | rclkSwitch (f : Fin 32) (r : Fin 12) (v : BitVec 32)
  /-- R260. After two falling edges of the new source, the output follows it and switching clears. -/
  | rclkSwitchDone (f : Fin 32) (r : Fin 12)
  /-- R261. A change of divider takes effect at the next rising edge of the divided output. -/
  | rclkDivChange (f : Fin 32) (r : Fin 12) (v : BitVec 4)
  /-- R282. With no valid qualifier pattern for 48 ns, a receiver declares loss, holds and drops seam up. -/
  | seamLoss (g : Fin 110) (intoE : Bool)
  /-- R290. Thimble declares the other half lost after a reset or clock-loss report, or 10 µs of sideband silence. -/
  | halfLost (h : Half) (reported : Bool)
  /-- R284. Training of a segment ends, and both ends adopt the union map. -/
  | seamTrain (g : Fin 110) (failW failE : List (Fin 146))
  /-- R289. Check mismatches reaching par_thr within 65,536 cycles start a remap. -/
  | seamParityThreshold (g : Fin 110)
  /-- R289. 16 flit errors within 65,536 knot cycles start a remap of a network segment. -/
  | seamFlitThreshold (g : Fin 110)
  /-- R281. An elastic-buffer slip sets slip and starts a remap. -/
  | seamSlip (g : Fin 110)
  /-- R288. A spare mismatch on two consecutive cycles stops driving, marks the position failed and starts a remap. -/
  | seamContention (g : Fin 110) (k : Fin 146)
  /-- R289. A qualifier that returns without a declared half loss starts a remap. -/
  | qualifierReturn (g : Fin 110) (intoE : Bool)
  /-- R289. A remap ends within 50 µs, and live data and seam up return. -/
  | remapRelease (g : Fin 110)
  /-- R294. cmd 1 in SEAM_CTRL retrains one segment. -/
  | retrainSegment (mc : MClass) (g : BitVec 7)
  /-- R294. cmd 2 in SEAM_CTRL retrains every segment. -/
  | retrainAll (mc : MClass)
  /-- R292. cmd 3 in SEAM_CTRL arms the release at B, or sets release_err if B has passed. -/
  | armRelease (mc : MClass)
  /-- R292. At B, the trained segments, the weft links and the reloaded fields release together. -/
  | seamRelease
  /-- R303. Setting en applies the lane's settings and locks its synthesiser, or sets cfg_err. -/
  | laneEnable (l : Fin 144) (v : BitVec 32)
  /-- R308. cmd 1 in XCV_LANE_CTRL puts the lane into electrical idle. -/
  | enterIdle (l : Fin 144)
  /-- R309. cmd 2 in XCV_LANE_CTRL takes the lane out of idle with a 1,024 UI burst. -/
  | exitIdle (l : Fin 144)
  /-- R308. A change of the raw port's idle_req level moves the lane into or out of idle. -/
  | idleReq (l : Fin 144) (level : Bool)
  /-- R309. The burst ends, and the first data word begins. -/
  | txBurstDone (l : Fin 144)
  /-- R310. An idle receiver leaves rx_idle, locks on the burst and aligns at its delimiter. -/
  | rxBurst (l : Fin 144)
  /-- R310. With no delimiter within 2,048 UI, burst_err is set and ordinary acquisition follows. -/
  | burstTimeout (l : Fin 144)
  /-- R302. Loss of lock is detected within 1 µs, sets lol and sends a fault report. -/
  | laneLossOfLock (l : Fin 144)
  /-- R299. ref_ok falls, and every enabled lane of the quad is forced into idle. -/
  | refLoss (q : Fin 36)
  /-- R299. After 100 µs of a good reference, the forcing ends. -/
  | refRecover (q : Fin 36)
  /-- R305. Single adaptation converges, holds and sets converged. -/
  | adaptConverged (l : Fin 144) (taps : List (BitVec 32))
  /-- R305. restart returns the adapting stages to their register values. -/
  | adaptRestart (l : Fin 144)
  /-- R316. cmd 1 flips bit 0 of the next transmitted word. -/
  | prbsInject (l : Fin 144)
  /-- R317. cmd 2 sets both PRBS counters to 0. -/
  | prbsClear (l : Fin 144)
  /-- R317. A read of XCV_PRBS_ERR_LO latches the other counter halves. -/
  | prbsErrRead (l : Fin 144)
  /-- R317. After 64 matching bits the checker sets sync and runs free. -/
  | prbsSync (l : Fin 144)
  /-- R317. 32 errors in 128 bits clear sync and set sync_lost. -/
  | prbsSyncLost (l : Fin 144)
  /-- R318. start runs one offset-sampler measurement. -/
  | eyeStart (l : Fin 144)
  /-- R318. The measurement ends, writes XCV_EYE_COUNT and sets done. -/
  | eyeDone (l : Fin 144) (count : Nat)
  /-- R313. The raw port sends one word from its gusset, or an alternating word with tx_udf. -/
  | rawTxWord (l : Fin 144)
  /-- R313. A received word enters the gusset, or is dropped with rx_ovf. -/
  | rawRxWord (l : Fin 144) (word : BitVec 80)
  /-- R313. A rising edge of rx_slip moves the word boundary by one bit or symbol. -/
  | rxSlip (l : Fin 144)
  /-- R326. Enabling an Ethernet block applies cfg, or sets cfg_err. -/
  | ethBlockEnable (m : Fin 16) (v : BitVec 32)
  /-- R328. A received frame is dropped, passed to Thimble as PTP, or matched to a rule. -/
  | ethRxFrame (m : Fin 16) (p : Fin 8) (frame : List Byte)
  /-- R329. A rule delivers its k-th frame as one write. -/
  | ethFrameDeliver (m : Fin 16) (p : Fin 8)
  /-- R329. After the frame write's response, the 32-byte record is written. -/
  | ethRecordWrite (m : Fin 16) (p : Fin 8)
  /-- R330. A write to a port's transmit address enters one frame into the transmit buffer, or is refused. -/
  | ethTxWrite (m : Fin 16) (off : BitVec 16) (data : List Byte)
  /-- R332. A frame leaves, timestamped and optionally one-step corrected. -/
  | ethTxFrame (m : Fin 16) (p : Fin 8)
  /-- R343. A read of ETH_TXTS_0 pops the transmit timestamp FIFO. -/
  | ethTxtsPop (m : Fin 16)
  /-- R334. A host access through BAR2 is issued to control space as master class 1. -/
  | hostBar2Access (h : Half) (write : Bool) (off : BitVec 40) (len : Nat) (data : List Byte)
  /-- R334. A request to the out aperture reaches host memory through the active port. -/
  | hostOutRequest (mc : MClass) (write : Bool) (addr : BitVec 48) (len : Nat) (data : List Byte)
  /-- R335. The host advances req_prod on the command ring, or sets ring_err. -/
  | reqProdWrite (h : Half) (v : BitVec 16)
  /-- R336. cmd 1 in HPT_CTRL moves activity to this host port. -/
  | makeActive (h : Half)
  /-- R336. Thimble moves activity to the other port after a loss or fo_time of link down. -/
  | hostPortFailover
  /-- R337. A partner's Loopback request returns the port to Detect and sets lb_refused. -/
  | loopbackRefused (h : Half)
  /-- R338. Enabling a JESD block brings up its link. -/
  | jesdEnable (j : Fin 8) (v : BitVec 32)
  /-- R340. cmd 1 in JSD_CTRL arms SYSREF alignment. -/
  | jesdArm (j : Fin 8)
  /-- R339. The block writes 256 received octets into the ring. -/
  | jesdRxWrite (j : Fin 8) (octets : List Byte)
  /-- R339. A write appends octets to the transmit buffer, or is answered TARGET_ERR. -/
  | jesdTxWrite (j : Fin 8) (octets : List Byte)
  /-- R341. A lane losing lock restarts the link, which resumes at a later boundary. -/
  | jesdRestart (j : Fin 8)
  /-- R347. Enabling a channel applies MCH_CFG, or sets cfg_err. -/
  | mchEnable (n : Fin 8) (v : BitVec 32)
  /-- R358. A channel coming On trains and self-tests, then serves, or fails. -/
  | channelTraining (n : Fin 8) (seedOk fullOk testOk : Bool) (delays : List (BitVec 32))
  /-- R352. A read is queued, forwarded or decoded, with Lining checks. -/
  | mchRead (n : Fin 8) (rq : MemReq)
  /-- R351. A write enters or merges into the write queue and is answered OK, or is refused. -/
  | mchWrite (n : Fin 8) (rq : MemReq) (data : List Byte)
  /-- R354. In each command slot, the channel picks a legal request, or a refresh, by the priority rules. -/
  | mchSchedule (n : Fin 8) (legal : List Nat)
  /-- R355. A request waiting past its class limit becomes promoted. -/
  | mchPromotion (n : Fin 8) (rid : Nat)
  /-- R357. Every tREFI, each bank's refresh debt rises by one, forcing a refresh at +4. -/
  | refreshDebt (n : Fin 8)
  /-- R357. Every 16 ms, each rank's temperature sets tREFI and hot. -/
  | rankTempRead (n : Fin 8) (rank1 : Bool) (celsius : Int)
  /-- R359. Each interval, a rank's delays move one tap toward the measured centre. -/
  | driftPause (n : Fin 8) (rank1 : Bool) (centres : List (BitVec 32))
  /-- R363. cmd 1 in MCH_CTRL makes one drift pause on each rank now. -/
  | driftPauseNow (n : Fin 8) (centres0 centres1 : List (BitVec 32))
  /-- R360. On a domain change, clock failure or reset, the channel stops credit and enters self-refresh. -/
  | selfRefreshEntry (n : Fin 8) (why : SrTrigger)
  /-- R362. On leaving self-refresh, the channel recalibrates, pauses and refreshes, then serves. -/
  | selfRefreshExit (n : Fin 8)
  /-- R350. A write to THM_DRAM_MAP is applied in Blank or Loading, or refused with map_err. -/
  | dramMapWrite (region1 : Bool) (v : BitVec 32)
  /-- R364. A write to MCH_DLY in state 0 or 1 sets the delay and its window centre. -/
  | dlyWrite (n : Fin 8) (rank1 : Bool) (dev : Fin 20) (v : BitVec 32)
  /-- R370. cmd 1 in MCH_ECC_CTRL marks a device, or retires the rank. -/
  | eccMark (n : Fin 8) (rank1 : Bool) (dev : BitVec 5)
  /-- R370. cmd 2 in MCH_ECC_CTRL removes a mark in state 0 or 1. -/
  | eccUnmark (n : Fin 8) (rank1 : Bool) (dev : BitVec 5)
  /-- R381. cmd 3 in MCH_ECC_CTRL starts converting a retired rank into frames. -/
  | eccSalvage (n : Fin 8) (rank1 : Bool)
  /-- R381. Conversion ends, converting clears and salvaged is set. -/
  | salvageDone (n : Fin 8) (rank1 : Bool)
  /-- R384. cmd 4 in MCH_ECC_CTRL clears the persistent counters of a rank. -/
  | eccClearPersistent (n : Fin 8) (rank1 : Bool)
  /-- R378. Every patrol_gap µs, the scrubber reads the next line and acts on its outcome. -/
  | patrolScrub (n : Fin 8)
  /-- R379. cmd 1 in MCH_SCRUB_CTRL starts a pass from base to limit, or sets scrub_err. -/
  | scrubPassStart (n : Fin 8)
  /-- R378. Each (pass_gap + 1) × 64 ns, the pass checks the next line. -/
  | scrubPassLine (n : Fin 8)
  /-- R379. cmd 2 in MCH_SCRUB_CTRL ends the pass after the current line. -/
  | scrubPassStop (n : Fin 8)
  /-- R383. A write to MCH_INJECT arms an injection into the next whole-line write. -/
  | mchInjectArm (n : Fin 8) (mc : MClass) (v : BitVec 32)
  /-- R385. A write to MCH_RPT_IDX latches that repeat-table entry. -/
  | rptIdxWrite (n : Fin 8) (idx : BitVec 8)
  /-- R592. cmd 1 in LIN_CTRL opens a range with a new key and starts its sweep. -/
  | liningOpen (i : Fin 16) (mode : Bool)
  /-- R592. cmd 2 in LIN_CTRL closes a range by discard or reveal. -/
  | liningClose (i : Fin 16) (mode : Bool)
  /-- R405. cmd 3 in LIN_CTRL starts a re-key with a moving boundary. -/
  | liningRekey (i : Fin 16)
  /-- R593. A sweep reads and mixes, reveals or re-mixes the next line. -/
  | sweepLine (i : Fin 16)
  /-- R400. Each 1 ms, a refused mirror write is retried. -/
  | mirrorRetry (n : Fin 8)
  /-- R415. An 8-byte SHT_DOORBELL write enters the doorbell FIFO and is answered OK. -/
  | doorbellWrite (n : Fin 16) (mc : MClass) (v : BitVec 64)
  /-- R415. Op 0, applied from the FIFO, sets the queue's prod after its checks. -/
  | doorbellProducer (n : Fin 16)
  /-- R415. Op 1 sets the queue's cq_cons. -/
  | doorbellConsumer (n : Fin 16)
  /-- R416. Op 2 kicks a gated queue, setting rel. -/
  | doorbellKick (n : Fin 16)
  /-- R413. A context is fetched into the cache, checking its epoch and CRC. -/
  | contextFetch (n : Fin 16) (q : BitVec 20)
  /-- R417. The engine takes a descriptor from a queue with work, by class and round robin. -/
  | descriptorFetch (n : Fin 16)
  /-- R421. Source data is read, converted and written in packets. -/
  | dataTransfer (n : Fin 16) (q : BitVec 20)
  /-- R423. After every write is answered, a one-byte read-back confirms arrival. -/
  | readback (n : Fin 16) (q : BitVec 20)
  /-- R425. A 16-byte record is written at cq_prod, or the queue waits with cq_full. -/
  | completionRecord (n : Fin 16) (q : BitVec 20)
  /-- R425. Once the record write is answered, cq_prod, cons and done advance, and the interrupt count rises. -/
  | recordAnswer (n : Fin 16) (q : BitVec 20)
  /-- R428. After irq_idle µs with no completion and pending above 0, the interrupt is raised. -/
  | irqIdle (n : Fin 16)
  /-- R429. A write to SHT_SH_RATE stages the shadow set. -/
  | shadowStage (n : Fin 16) (v : BitVec 32) (inHoCycle : Bool)
  /-- R429. At a hand-over point, the staged set commits. -/
  | shadowCommit (n : Fin 16)
  /-- R432. cmd 1 in SHT_QCMD writes a context from QDATA. -/
  | queueContextWrite (n : Fin 16) (mc : MClass)
  /-- R432. cmd 2 in SHT_QCMD reads a context into QDATA. -/
  | queueContextRead (n : Fin 16) (mc : MClass)
  /-- R432. cmd 3 in SHT_QCMD stops a queue after its descriptor in flight. -/
  | queueStop (n : Fin 16) (mc : MClass)
  /-- R427. cmd 4 in SHT_QCMD returns a queue to Ready. -/
  | queueResume (n : Fin 16) (mc : MClass)
  /-- R443. A pad change passes the glitch filter and debounce and updates the filtered input. -/
  | pinInputChange (b : Fin 8) (i : Fin 48) (level : Bool) (samples : Nat) (ticks : Nat)
  /-- R446. A read of GPIO_IN_LO latches GPIO_IN_HI from the same edge. -/
  | gpioInRead (b : Fin 8)
  /-- R447. A mux write starts a break-before-make switch, or is refused with mux_err. -/
  | pinMuxWrite (b : Fin 8) (i : Fin 48) (mc : MClass) (v : BitVec 32)
  /-- R447. At edge 2, the new function applies and switching clears. -/
  | pinSwitchDone (b : Fin 8) (i : Fin 48)
  /-- R438. A level unseen for 10 s clears trk. -/
  | trackTimeout (b : Fin 8) (i : Fin 48) (high : Bool)
  /-- R436. VCCIO_b below 1.6 V clears vio_ok and puts the bank's outputs at high impedance. -/
  | vccioLow (b : Fin 8)
  /-- R463. Pattern data arrives from a source and is written as it streams. -/
  | loadSourceRead (pat : Pattern) (readOk : Bool)
  /-- R460. Once all is written, the signature, tags and rules are checked. -/
  | loadVerify (sigOk : Bool) (tagsOk : Bool) (inflateOk : Bool)
  /-- R465. After the darning sweep, global set/reset releases and the mode becomes Running. -/
  | loadRelease
  /-- R466. The fields of a partial load release together. -/
  | partialRelease
  /-- R470. The darning reader reads the next frame and corrects, flags or reports it. -/
  | darningFrame (f : Fin 32)
  /-- R470. An uncorrectable frame is rewritten from flash within 5 ms. -/
  | frameRewrite (f : Fin 32) (n : Fin 1440)
  /-- R475. Thimble writes a record set to the other bank, header last, and reads it back. -/
  | recordStoreWrite (readBackOk : Bool)
  /-- R498. cmd 1 in FLD_MEND_CTRL triggers a logic-column mend. -/
  | mendColumn (f : Fin 32) (mc : MClass) (target : BitVec 9)
  /-- R498. cmd 2 in FLD_MEND_CTRL triggers a block-memory mend. -/
  | mendBram (f : Fin 32) (mc : MClass) (target : BitVec 9)
  /-- R498. cmd 3 in FLD_MEND_CTRL triggers a Clover-engine mend. -/
  | mendClover (f : Fin 32) (mc : MClass) (target : BitVec 9)
  /-- R484. The mend engine freezes the field and captures and copies state. -/
  | mendStart (f : Fin 32)
  /-- R484. The mend switches, restores and releases the field, and logs MEND_DONE. -/
  | mendComplete (f : Fin 32) (stopUs : Nat) (copyOk : Bool)
  /-- R483. Within 1 ms of a BRAM_DBE or CLV_PARITY report, Thimble triggers a mend. -/
  | autoMendTrigger (f : Fin 32) (clover : Bool) (target : BitVec 9)
  /-- R487. period after the last test, the field moves its bypass one column. -/
  | walkStep (f : Fin 32)
  /-- R488. The freed column's test ends, possibly setting WALK_FAIL and no_spare. -/
  | walkTestDone (f : Fin 32) (pass : Bool)
  /-- R489. A report enters the report FIFO, or is dropped and counted as lost. -/
  | faultReport (h : Half) (cls : BitVec 8) (src : BitVec 24) (detail : BitVec 16)
  /-- R492. The log engine takes a report and updates or opens a log entry. -/
  | logEngineTake (h : Half)
  /-- R492. An entry closes 60 s after its last report. -/
  | logEntryClose (cls : BitVec 8) (src : BitVec 24)
  /-- R494. At the end of a 10 ms window, one interrupt is raised for reports that came meanwhile. -/
  | faultIrqWindow (cls : BitVec 8) (src : BitVec 24)
  /-- R500. A write to THM_LOG_IDX latches that entry into the DATA registers. -/
  | logIdxWrite (idx : BitVec 12)
  /-- R509. cmd 1 in BOB_CTRL empties the rings and starts Recording. -/
  | bobbinArm (mc : MClass)
  /-- R508. cmd 2 in BOB_CTRL triggers while Recording. -/
  | bobbinTrigger (mc : MClass)
  /-- R509. cmd 3 in BOB_CTRL freezes with cause stopped. -/
  | bobbinStop (mc : MClass)
  /-- R512. cmd 4 in BOB_CTRL starts replay if the builds match. -/
  | startReplay (mc : MClass)
  /-- R508. After post MiB in both halves, the state becomes Frozen. -/
  | bobbinFreeze (h : Half)
  /-- R504. Staged records are written to the ring, which freezes on error or full. -/
  | ringWrite (h : Half)
  /-- R505. A GAP record is written after overflow or a disturbing event. -/
  | gapWrite (h : Half) (cause : Fin 8)
  /-- R511. A crossing event is predicted, and SYNC or MISS is written on failure. -/
  | journalEvent (j : BitVec 14) (dir1 : Bool) (s d : BitVec 48)
  /-- R511. Every 2^20 destination cycles, r is measured and RATIO is written on change. -/
  | ratioMeasure (j : BitVec 14) (dir1 : Bool) (ratio : BitVec 32)
  /-- R513. During replay, a domain's gates close until the needed record or entry is there. -/
  | replayGate (f : Fin 32) (ready : Bool)
  /-- R514. Replay ends at a GAP, ring end or stop index, and the fields freeze. -/
  | replayEnd (why : ReplayEnd)
  /-- R518. SPI command 0x02 delivers one packet. -/
  | spiWritePacket (h : Half) (bytes : List Byte)
  /-- R518. SPI command 0x0B shifts out the head reply. -/
  | spiReadReply (h : Half) (whole : Bool)
  /-- R518. SPI command 0x05 shifts the status byte and clears overflow. -/
  | spiStatus (h : Half)
  /-- R518. An I2C write transaction carries one packet. -/
  | i2cWritePacket (h : Half) (bytes : List Byte)
  /-- R518. An I2C read returns the length and the reply. -/
  | i2cReadReply (h : Half) (whole : Bool)
  /-- R520. Update-DR appends a word to the JTAG packet. -/
  | cmdpktUpdate (word : BitVec 32)
  /-- R520. Capture-DR loads the next reply word. -/
  | cmdpktCapture
  /-- R519. Master class 0 advances the network ring's req_prod. -/
  | nrReqProdWrite (mc : MClass) (v : BitVec 16)
  /-- R527. Thimble takes the next command packet in arrival order and checks it. -/
  | requestTake
  /-- R529. A long operation ends and its completion is sent. -/
  | longCompletion (op : LongOp)
  /-- R525. A session closes after 60 s with no request. -/
  | sessionTimeout (car : Carrier) (id : Byte)
  /-- R525. Opens a session and negotiates the version. -/
  | hello (rq : ReqCtx) (lo hi : Nat × Nat) (id : Byte)
  /-- R525. Closes the session. -/
  | bye (rq : ReqCtx)
  /-- R526. Makes a session secure by signature. -/
  | auth (rq : ReqCtx) (slot : Byte) (sigOk : Bool) (key : List Byte)
  /-- R533. Returns THM_DEVICE_STATE and THM_INT_STATUS. -/
  | state (rq : ReqCtx)
  /-- R534. Starts a full or partial pattern load. -/
  | load (rq : ReqCtx) (source ports t : Byte) (startPage : BitVec 32) (hostAddr : BitVec 64)
  /-- R534. Carries JTAG-stream image bytes at the next offset. -/
  | loadData (rq : ReqCtx) (off : BitVec 32) (data : List Byte)
  /-- R534. Aborts the load with cause ABORT. -/
  | loadAbort (rq : ReqCtx)
  /-- R534. Returns THM_LOAD_STATUS and THM_LOAD_BYTES. -/
  | loadStatus (rq : ReqCtx)
  /-- R534. Writes gsr_pulse in each named field. -/
  | gsrPulse (rq : ReqCtx) (fields : BitVec 32)
  /-- R535. Moves Running to Dormant by the dormant profile. -/
  | dormant (rq : ReqCtx)
  /-- R535. Wakes the device from Dormant. -/
  | wake (rq : ReqCtx)
  /-- R535. Replies, then resets the device or one half. -/
  | reset (rq : ReqCtx) (kind : Byte)
  /-- R535. Requests a state for one power domain. -/
  | domainSet (rq : ReqCtx) (dom st : Byte)
  /-- R497. Leaves an integrity halt in the order of R497. -/
  | release (rq : ReqCtx)
  /-- R536. Sets the leader's time through a Lark window. -/
  | lrkSetTime (rq : ReqCtx) (h : Byte) (frac : BitVec 16) (ns : BitVec 32) (sec : BitVec 48)
  /-- R536. Takes leadership or clears learning. -/
  | lrkCmd (rq : ReqCtx) (h cmd : Byte)
  /-- R536. Writes claimed calendar entries in order, stopping at the first refused. -/
  | calWrite (rq : ReqCtx) (h : Byte) (first : BitVec 16) (entries : List (BitVec 128))
  /-- R536. Returns calendar entries. -/
  | calRead (rq : ReqCtx) (h count : Byte) (first : BitVec 16)
  /-- R536. Stages a claimed channel's range and control. -/
  | chSet (rq : ReqCtx) (h channel : Byte) (range ctrl : BitVec 32)
  /-- R537. Runs a scrub pass and returns its summary. -/
  | scrub (rq : ReqCtx) (channel : Byte) (base limit : BitVec 32)
  /-- R537. Makes a drift pause, or locks or unlocks the delays. -/
  | train (rq : ReqCtx) (channel action : Byte) (centres0 centres1 : List (BitVec 32))
  /-- R537. Runs an MCH_ECC_CTRL command on a device. -/
  | mark (rq : ReqCtx) (channel rank device cmd : Byte)
  /-- R537. Sets a range's base, limit and rights together. -/
  | linRange (rq : ReqCtx) (range : Byte) (base limit : BitVec 64) (rights : BitVec 32)
  /-- R537. Opens, closes or re-keys a range. -/
  | linCmd (rq : ReqCtx) (range cmd mode : Byte)
  /-- R538. Requests a mend, which queues under R481. -/
  | mend (rq : ReqCtx) (field kind : Byte) (target : BitVec 16)
  /-- R538. Writes the walk settings of the named fields. -/
  | walk (rq : ReqCtx) (fields : BitVec 32) (walkEn autoMend : Byte) (period : BitVec 16)
  /-- R538. Returns a field's mend and position registers. -/
  | mendStatus (rq : ReqCtx) (field : Byte)
  /-- R538. Retrains one segment or all segments. -/
  | seamRetrain (rq : ReqCtx) (segment : Byte)
  /-- R287. Empties the seam maps, only in Blank. -/
  | seamMapReset (rq : ReqCtx)
  /-- R539. Runs a BOB_CTRL command. -/
  | bobCmd (rq : ReqCtx) (cmd : Byte)
  /-- R539. Returns the Bobbin status and pointers. -/
  | bobStatus (rq : ReqCtx)
  /-- R540. Returns fault-log entries. -/
  | logRead (rq : ReqCtx) (first : BitVec 16) (count : Byte)
  /-- R540. Returns temperatures, voltages and currents. -/
  | sensors (rq : ReqCtx)
  /-- R540. Writes the fault-class enables. -/
  | faultIe (rq : ReqCtx) (words : List (BitVec 32))
  /-- R541. Begins an update of a record type. -/
  | updateBegin (rq : ReqCtx) (rtype : BitVec 16) (total : BitVec 32)
  /-- R541. Carries update bytes at the next offset. -/
  | updateData (rq : ReqCtx) (off : BitVec 32) (data : List Byte)
  /-- R477. Verifies the update and writes a trial record set. -/
  | updateEnd (rq : ReqCtx) (sigOk : Bool) (writeOk : Bool)
  /-- R477. Writes the confirm page of the trial bank. -/
  | updateConfirm (rq : ReqCtx)
  /-- R541. Returns the record-store status. -/
  | rsStatus (rq : ReqCtx)
  /-- R541. Sets the primary or fallback pattern pointer. -/
  | pointerSet (rq : ReqCtx) (which ports t autoload : Byte) (startPage : BitVec 32)
  /-- R541. Enrols a signing-key hash in an empty slot. -/
  | keyEnroll (rq : ReqCtx) (slot : Byte) (digest : BitVec 384)
  /-- R541. Sets a slot's revoked bit. -/
  | keyRevoke (rq : ReqCtx) (slot : Byte)
  /-- R541. Writes a pattern key once. -/
  | patternKey (rq : ReqCtx) (slot : Byte) (key : BitVec 256)
  /-- R548. Claims items atomically, or answers CLAIMED or RANGE. -/
  | claim (rq : ReqCtx) (kind wher : Byte) (first count : BitVec 32)
  /-- R549. Releases the requester's claims. -/
  | unclaim (rq : ReqCtx) (kind wher : Byte) (first count : BitVec 32)
  /-- R550. Moves items to a new holder and logs the override. -/
  | override (rq : ReqCtx) (kind wher : Byte) (first count : BitVec 32) (holder : Byte)
  /-- R542. Returns the holder of an item. -/
  | claimQuery (rq : ReqCtx) (kind wher : Byte) (item : BitVec 32)
  /-- R546. Makes count register reads under the carrier's master class. -/
  | regRead (rq : ReqCtx) (addr : BitVec 48) (count : BitVec 16) (wide : Bool)
  /-- R547. Makes count register writes, checked per window. -/
  | regWrite (rq : ReqCtx) (addr : BitVec 48) (count : BitVec 16) (wide : Bool) (data : List Byte)
  /-- R543. Read-modify-writes one register. -/
  | regRmw (rq : ReqCtx) (addr : BitVec 48) (mask value : BitVec 32)
  /-- R544. Writes a claimed queue's context through its engine. -/
  | queueSet (rq : ReqCtx) (q : BitVec 32) (ctx : List Byte)
  /-- R544. Returns a queue's context. -/
  | queueGet (rq : ReqCtx) (q : BitVec 32)
  /-- R544. Stops or resumes a claimed queue. -/
  | queueCtl (rq : ReqCtx) (q : BitVec 32) (cmd : Byte)
  /-- R545. Returns a link's status registers. -/
  | slvStatus (rq : ReqCtx) (link : Byte)
  /-- R545. Retrains a Selvedge link. -/
  | slvRetrain (rq : ReqCtx) (link : Byte)
  /-- R545. Sets a route-table entry. -/
  | slvRoute (rq : ReqCtx) (dev link : Byte)
  /-- R586. Forwards a packet to another device's Thimble and returns its reply. -/
  | slvForward (rq : ReqCtx) (dev : Byte) (inner : List Byte) (answer : Option (List Byte))
  /-- R560. A write of state_req starts a transition, or waits behind one in progress. -/
  | domainStateRequest (d : Fin 64) (mc : MClass) (st : BitVec 2)
  /-- R559. A domain transition completes, and a waiting request starts. -/
  | domainTransitionDone (d : Fin 64)
  /-- R562. Every 10 µs the adaptive loop moves vout by one 5 mV step. -/
  | avsStep (d : Fin 64) (worstPs : Int)
  /-- R563. vout 40 mV below target for 5 µs sets uv and raises the power interrupt. -/
  | undervoltage (d : Fin 64)
  /-- R563. Current limiting sets oc and raises the power interrupt. -/
  | overcurrent (d : Fin 64)
  /-- R564. Each 1 ms every point is converted, and thresholds are evaluated. -/
  | tempConvert (temps : List (BitVec 16))
  /-- R565. A point at trip for 1 ms drives THERM_TRIP_N low and triggers a device reset. -/
  | thermalTrip (p : Fin 32)
  /-- R565. If Thimble has not reset within 2 ms, island hardware issues the reset. -/
  | tripHwReset
  /-- R554. A supply rises above its valid threshold. -/
  | supplyValid (s : Supply)
  /-- R555. A supply falls below valid, with the effects of R555. -/
  | supplyLoss (s : Supply)
  /-- R578. Setting en starts Training of a Selvedge link. -/
  | linkEnable (s : Fin 8) (v : BitVec 32)
  /-- R578. Training ends on 20 ms or all lanes locked, leading to Negotiating or Failed. -/
  | linkTrainingDone (s : Fin 8)
  /-- R579. The ends exchange ids and versions and go Up, or Failed on an id conflict. -/
  | linkNegotiate (s : Fin 8) (peerDev : BitVec 3) (peerVer : BitVec 2)
  /-- R578. No peer reply within 1 ms fails the link with cause 3. -/
  | negotiationTimeout (s : Fin 8)
  /-- R578. A failed link is retried every 1 s while en is 1. -/
  | linkRetry (s : Fin 8)
  /-- R580. cmd 1 in SLV_CTRL takes an Up link through Training and Negotiating. -/
  | linkRetrain (s : Fin 8) (mc : MClass)
  /-- R583. Every 1 ms a time message is exchanged, updating SLV_DELAY and giving a phase sample. -/
  | selvedgeTimeMessage (s : Fin 8) (roundTrip : Nat) (peerSample : Option Int)
  /-- R582. An arriving packet is routed locally, forwarded in transit, or refused. -/
  | selvedgePacket (s : Fin 8) (hd : Header) (data : LinkData) (hops : Nat)
  /-- R585. A lane loss, CRC failures or a silent peer take the link down, completing traffic with LINK_DOWN. -/
  | linkLeavesUp (s : Fin 8) (loss : LinkLoss)
  /-- R581. A write to THM_SLV_ROUTE applies to headers that arrive after it. -/
  | routeWrite (v : BitVec 32) (mc : MClass)
  /-- R307. A receiver whose input falls below the squelch threshold reports rx_idle and freezes its adaptation. -/
  | rxSquelch (l : Fin 144)
  /-- R310. A receiver that has no burst, or whose burst failed, locks by ordinary acquisition within 50 µs or 10 ms, and locked rises. -/
  | ordinaryAcquisition (l : Fin 144)
  /-- R445. While its level holds, a level interrupt sets its status bit again on each pin clock, including after software has cleared it. -/
  | pinLevelInterrupt (b : Fin 8) (i : Fin 48)
  /-- R327. An Ethernet port's link comes up after auto-negotiation and training, or goes down, which changes link_up and whether transmit writes are refused. -/
  | ethLinkChange (m : Fin 16) (p : Fin 8) (up : Bool)
  /-- R336. A host port's PCIe link trains up or drops, setting link_up, starting or ending the fo_time count and ending TARGET_OFF for new aperture requests. -/
  | hostLinkChange (h : Half) (up : Bool)
  /-- R339. At each octet time a transmitting JESD block sends octets from its buffer, or sends zeros and sets tx_udf when the buffer is empty. -/
  | jesdTxOctet (j : Fin 8) (count : Nat)
  /-- R341. A change on the JSD_SYNC_j input requests resynchronisation of a 204B transmit link, which resumes at a later boundary. -/
  | jesdSyncChange (j : Fin 8) (level : Bool)
  /-- R219. The seam time pair fails beyond its spare while both halves run; each half then leads itself and aligned clears. -/
  | seamTimePairLoss
  /-- R335. A write that advances rsp_cons on the host or network ring frees reply slots, so Thimble writes any replies it was holding back. -/
  | rspConsWrite (h : Option Half) (mc : MClass) (v : BitVec 16)
deriving DecidableEq, Repr

end Sys2Proof
end

