-- ==== Sys2Proof/Decode.lean ====
section
/-!
DEFINITION. Decode.lean: the word form of the commands. spec/opcode_table.json gives no row any bits, so no word spells
a command: the Salesque takes its commands as events at its ports. Command packets (21_command_protocol R521) are parsed
by their own operations (Machine/Packet.lean, Machine/Requests.lean).
-/
namespace Sys2Proof

/-- The command a word of the table spells: none, for no row has bits. -/
def decodeTableWord (_nbits _w : Nat) : Option Instr := none

end Sys2Proof
end

