-- ==== Sys2Proof/Config.lean ====
section
/-!
DEFINITION. Config.lean: what the spec leaves open and the model leaves free. Each constant is opaque: nothing can
evaluate it or prove a value of it, so what is proved holds for every value.
-/
namespace Sys2Proof.Config

/-- A fresh free value: the k-th time the device takes one (`Device.fresh` counts). Log entry 1. -/
opaque freeNat : Nat → Nat

/-- A fresh free choice. Log entry 1. -/
opaque freeBool : Nat → Bool

/-- The bytes the Lining stores in DRAM for a plain line, by the key and the tweak: channel and line, write counter, generation
and key-select bit (15_lining R388; the mix is not given). Log entry 1. -/
opaque mix : Nat → Nat → Nat → Nat → Bool → List Byte → List Byte

/-- What the mix makes of stored bytes when they are read back under a key and a tweak (15_ R388). -/
opaque unmix : Nat → Nat → Nat → Nat → Bool → List Byte → List Byte

/-- What an updated record holds: record type, its bytes, and which of its values (18_ R473 names the records; the spec gives
no layout for their contents). -/
opaque record : Nat → List Byte → Nat → Nat

/-- The source of a non-field domain's block clock where no register names one, as a slot code of 09_clocks_resets R273. Log entry 86. -/
opaque blockClock : Nat → Nat

/-- What the data outputs of an empty gusset show (02_fabric R63 gives the head only while empty is 0): key and bit. -/
opaque idleData : Nat → Nat → Bool

end Sys2Proof.Config
end

