-- ==== Sys2Proof/Machine/RegTable.lean ====
section
/-!
DEFINITION. Machine/RegTable.lean: the registers of the control space, one row per register (or indexed
family of registers) of the spec's register tables: base address, index steps, the bits software writes,
the bits a one clears, and the reset value. A field in neither mask is read-only (or write-only, read as 0).
The Clover control windows are held in each engine's own state and have no rows here.
-/
namespace Sys2Proof.Machine

/-- One row. `dims` lists (step, count) pairs, the largest step first. -/
structure RegRow where
  name  : String
  base  : Nat
  dims  : List (Nat × Nat)
  rw    : Word
  w1c   : Word
  reset : Word
deriving DecidableEq, Repr

/-- Whether offset `o` from a row's base is one of its registers. -/
def dimsHit : List (Nat × Nat) → Nat → Bool
  | [], o => o == 0
  | (step, n) :: ds, o => decide (o / step < n) && dimsHit ds (o - o / step * step)

def RegRow.hit (r : RegRow) (a : Nat) : Bool := decide (r.base ≤ a) && dimsHit r.dims (a - r.base)

/-- Thimble mailbox (00_scope R11, R19; 06_ R187, R188; 13_ R350; 16_ R433; 18_ R478; 19_ R500; 21_ R519; 23_ R588). -/
def regsThm : List RegRow := [
  ⟨"THM_DEVICE_STATE", 0xFF0000000040, [], 0x00000000, 0x00000000, 0x00000000⟩,
  ⟨"THM_INT_STATUS", 0xFF0000000044, [], 0x00000000, 0x0000000F, 0x00000000⟩,
  ⟨"THM_INT_ENABLE", 0xFF0000000048, [], 0x0000000F, 0x00000000, 0x00000000⟩,
  ⟨"THM_WW_AGE", 0xFF0000002000, [], 0xFFFFFF00, 0x00000000, 0x40FF2000⟩,
  ⟨"THM_WW_ERR_n", 0xFF0000002010, [(0x4, 2)], 0x00000000, 0x0000001F, 0x00000000⟩,
  ⟨"THM_WW_CORR_n", 0xFF0000002020, [(0x4, 2)], 0x00000000, 0x00000000, 0x00000000⟩,
  ⟨"THM_DRAM_MAP_n", 0xFF0000002100, [(0x4, 2)], 0x80FF1F00, 0x00000000, 0x00000000⟩,
  ⟨"THM_DRAM_STATUS", 0xFF0000002108, [], 0x00000000, 0x80000000, 0x00000000⟩,
  ⟨"THM_SHT_CTX_LO", 0xFF0000002200, [], 0xFC000000, 0x00000000, 0x00000000⟩,
  ⟨"THM_SHT_CTX_HI", 0xFF0000002204, [], 0x0000FFFF, 0x00000000, 0x00000000⟩,
  ⟨"THM_SHT_EPOCH", 0xFF0000002208, [], 0x00000000, 0x00000000, 0x00000000⟩,
  ⟨"THM_LOAD_STATUS", 0xFF0000002300, [], 0x00000000, 0x01080000, 0x00000000⟩,
  ⟨"THM_LOAD_BYTES", 0xFF0000002304, [], 0x00000000, 0x00000000, 0x00000000⟩,
  ⟨"THM_RS_STATUS", 0xFF0000002310, [], 0x00000000, 0x07000000, 0x00000000⟩,
  ⟨"THM_RS_SEQ", 0xFF0000002314, [], 0x00000000, 0x00000000, 0x00000000⟩,
  ⟨"THM_BOOT_TRY", 0xFF0000002318, [], 0x00000000, 0x00000000, 0x00000000⟩,
  ⟨"THM_FAULT_IE_n", 0xFF0000002400, [(0x4, 8)], 0xFFFFFFFF, 0x00000000, 0x00000000⟩,
  ⟨"THM_LOG_STATUS", 0xFF0000002420, [], 0x00000000, 0x00000000, 0x00000000⟩,
  ⟨"THM_LOG_IDX", 0xFF0000002424, [], 0x00000FFF, 0x00000000, 0x00000000⟩,
  ⟨"THM_LOG_DATA_n", 0xFF0000002430, [(0x4, 8)], 0x00000000, 0x00000000, 0x00000000⟩,
  ⟨"THM_NR_REQ_BASE_LO", 0xFF0000002510, [], 0xFFFFF000, 0x00000000, 0x00000000⟩,
  ⟨"THM_NR_REQ_BASE_HI", 0xFF0000002514, [], 0xFFFFFFFF, 0x00000000, 0x00000000⟩,
  ⟨"THM_NR_RSP_BASE_LO", 0xFF0000002518, [], 0xFFFFF000, 0x00000000, 0x00000000⟩,
  ⟨"THM_NR_RSP_BASE_HI", 0xFF000000251C, [], 0xFFFFFFFF, 0x00000000, 0x00000000⟩,
  ⟨"THM_NR_RING_CFG", 0xFF0000002520, [], 0x0000000F, 0x00000000, 0x00000002⟩,
  ⟨"THM_NR_REQ_PROD", 0xFF0000002524, [], 0x0000FFFF, 0x00000000, 0x00000000⟩,
  ⟨"THM_NR_REQ_CONS", 0xFF0000002528, [], 0x00000000, 0x00000000, 0x00000000⟩,
  ⟨"THM_NR_RSP_PROD", 0xFF000000252C, [], 0x00000000, 0x00000000, 0x00000000⟩,
  ⟨"THM_NR_RSP_CONS", 0xFF0000002530, [], 0x0000FFFF, 0x00000000, 0x00000000⟩,
  ⟨"THM_NR_NOTIFY_LO", 0xFF0000002540, [], 0xFFFFFFF8, 0x00000000, 0x00000000⟩,
  ⟨"THM_NR_NOTIFY_HI", 0xFF0000002544, [], 0x0000FFFF, 0x00000000, 0x00000000⟩,
  ⟨"THM_SLV_ROUTE", 0xFF0000002600, [], 0xFFFFFFFF, 0x00000000, 0x00000000⟩,
  ⟨"THM_SLV_CFG", 0xFF0000002604, [], 0x00000001, 0x00000000, 0x00000000⟩]

/-- Larks W and E (07_ R221 to R226; 08_ R246 to R248). -/
def regsLrk : List RegRow := [
  ⟨"LRK_CTRL", 0xFF0000010000, [(0x10000, 2)], 0x0000000F, 0x00000000, 0x00000009⟩,
  ⟨"LRK_STATUS (W)", 0xFF0000010004, [], 0x00000000, 0x00006000, 0x08000000⟩,
  ⟨"LRK_STATUS (E)", 0xFF0000020004, [], 0x00000000, 0x00006000, 0x00000000⟩,
  ⟨"LRK_TIME_FRAC", 0xFF0000010010, [(0x10000, 2)], 0x00000000, 0x00000000, 0x00000000⟩,
  ⟨"LRK_TIME_NS", 0xFF0000010014, [(0x10000, 2)], 0x00000000, 0x00000000, 0x00000000⟩,
  ⟨"LRK_TIME_SEC_LO", 0xFF0000010018, [(0x10000, 2)], 0x00000000, 0x00000000, 0x00000000⟩,
  ⟨"LRK_TIME_SEC_HI", 0xFF000001001C, [(0x10000, 2)], 0x00000000, 0x00000000, 0x00000000⟩,
  ⟨"LRK_SET_FRAC", 0xFF0000010020, [(0x10000, 2)], 0x0000FFFF, 0x00000000, 0x00000000⟩,
  ⟨"LRK_SET_NS", 0xFF0000010024, [(0x10000, 2)], 0x3FFFFFFF, 0x00000000, 0x00000000⟩,
  ⟨"LRK_SET_SEC_LO", 0xFF0000010028, [(0x10000, 2)], 0xFFFFFFFF, 0x00000000, 0x00000000⟩,
  ⟨"LRK_SET_SEC_HI", 0xFF000001002C, [(0x10000, 2)], 0x0000FFFF, 0x00000000, 0x00000000⟩,
  ⟨"LRK_UTC", 0xFF0000010030, [(0x10000, 2)], 0x0001FFFF, 0x00000000, 0x00000000⟩,
  ⟨"LRK_REF_n", 0xFF0000010040, [(0x10000, 2), (0x4, 8)], 0xFFFFC000, 0x00000000, 0x0F000000⟩,
  ⟨"LRK_REF_DLY_n", 0xFF0000010060, [(0x10000, 2), (0x4, 8)], 0xFFFFFFFF, 0x00000000, 0x00000000⟩,
  ⟨"LRK_REF_STAT_n", 0xFF0000010080, [(0x10000, 2), (0x4, 8)], 0x00000000, 0x00000000, 0x00000000⟩,
  ⟨"LRK_LOOP_CFG", 0xFF00000100C0, [(0x10000, 2)], 0xFFFFFFFF, 0x00000000, 0x19107252⟩,
  ⟨"LRK_PHASE_ERR", 0xFF00000100C4, [(0x10000, 2)], 0x00000000, 0x00000000, 0x00000000⟩,
  ⟨"LRK_FREQ_OFS", 0xFF00000100C8, [(0x10000, 2)], 0x00000000, 0x00000000, 0x00000000⟩,
  ⟨"LRK_HOLD_CFG", 0xFF00000100E0, [(0x10000, 2)], 0xFFFF003F, 0x00000000, 0x05DC0000⟩,
  ⟨"LRK_HOLD_STATUS", 0xFF00000100E4, [(0x10000, 2)], 0x00000000, 0x00000000, 0x00000000⟩,
  ⟨"LRK_HOLD_PRED", 0xFF00000100E8, [(0x10000, 2)], 0x00000000, 0x00000000, 0x00000000⟩,
  ⟨"LRK_GRID_CFG_g", 0xFF0000010100, [(0x10000, 2), (0x10, 4)], 0x83FFFFFF, 0x20000000, 0x00000000⟩,
  ⟨"LRK_GRID_OFS_g", 0xFF0000010104, [(0x10000, 2), (0x10, 4)], 0xFFFFFFFF, 0x00000000, 0x00000000⟩,
  ⟨"LRK_GRID_NOW_LO_g", 0xFF0000010108, [(0x10000, 2), (0x10, 4)], 0x00000000, 0x00000000, 0x00000000⟩,
  ⟨"LRK_GRID_NOW_HI_g", 0xFF000001010C, [(0x10000, 2), (0x10, 4)], 0x00000000, 0x00000000, 0x00000000⟩,
  ⟨"LRK_CAP_CFG", 0xFF0000010140, [(0x10000, 2)], 0x000000FF, 0x00000000, 0x00000000⟩,
  ⟨"LRK_CAP_0", 0xFF0000010144, [(0x10000, 2)], 0x00000000, 0x00000000, 0x00000000⟩,
  ⟨"LRK_CAP_1", 0xFF0000010148, [(0x10000, 2)], 0x00000000, 0x00000000, 0x00000000⟩,
  ⟨"LRK_CAP_2", 0xFF000001014C, [(0x10000, 2)], 0x00000000, 0x00000000, 0x00000000⟩,
  ⟨"LRK_CAP_3", 0xFF0000010150, [(0x10000, 2)], 0x00000000, 0x00000000, 0x00000000⟩,
  ⟨"LRK_CAL_IDX", 0xFF0000010200, [(0x10000, 2)], 0x0001FFFF, 0x00000000, 0x00000000⟩,
  ⟨"LRK_CAL_CMD", 0xFF0000010204, [(0x10000, 2)], 0x00000000, 0x00000000, 0x00000000⟩,
  ⟨"LRK_CAL_WDATA_n", 0xFF0000010210, [(0x10000, 2), (0x4, 4)], 0xFFFFFFFF, 0x00000000, 0x00000000⟩,
  ⟨"LRK_CAL_RDATA_n", 0xFF0000010220, [(0x10000, 2), (0x4, 4)], 0x00000000, 0x00000000, 0x00000000⟩,
  ⟨"LRK_CAL_STATUS", 0xFF0000010230, [(0x10000, 2)], 0x00000000, 0x7E000000, 0x00000000⟩,
  ⟨"LRK_CAL_LATE_COUNT", 0xFF0000010234, [(0x10000, 2)], 0x00000000, 0x00000000, 0x00000000⟩,
  ⟨"LRK_CAL_DROP_COUNT", 0xFF0000010238, [(0x10000, 2)], 0x00000000, 0x00000000, 0x00000000⟩,
  ⟨"LRK_CAL_MISS_COUNT", 0xFF000001023C, [(0x10000, 2)], 0x00000000, 0x00000000, 0x00000000⟩,
  ⟨"LRK_CH_RANGE_c", 0xFF0000010400, [(0x10000, 2), (0x10, 32)], 0xFFFFFFFF, 0x00000000, 0x00000000⟩,
  ⟨"LRK_CH_CTRL_c", 0xFF0000010404, [(0x10000, 2), (0x10, 32)], 0x9F000000, 0x00000000, 0x00000000⟩,
  ⟨"LRK_CH_STATUS_c", 0xFF0000010408, [(0x10000, 2), (0x10, 32)], 0x00000000, 0x00000000, 0x00000000⟩] ++ [
  ⟨"LRK_CH_ACTIVE_c", 0xFF000001040C, [(0x10000, 2), (0x10, 32)], 0x00000000, 0x00000000, 0x00000000⟩]

/-- Memory channels (13_ R363, R364; 14_ R384 to R387; 15_ R410). -/
def regsMch : List RegRow := [
  ⟨"MCH_CTRL", 0xFF0000100000, [(0x10000, 8)], 0x1FFF0000, 0x00000000, 0x080A0000⟩,
  ⟨"MCH_CFG", 0xFF0000100004, [(0x10000, 8)], 0xFF000000, 0x00000000, 0x00000000⟩,
  ⟨"MCH_STATUS", 0xFF0000100008, [(0x10000, 8)], 0x00000000, 0x0000001B, 0x00000000⟩,
  ⟨"MCH_AGE", 0xFF000010000C, [(0x10000, 8)], 0xFFFFFF00, 0x00000000, 0x10400400⟩,
  ⟨"MCH_WQ_MARK", 0xFF0000100010, [(0x10000, 8)], 0x00003F3F, 0x00000000, 0x00003010⟩,
  ⟨"MCH_CNT_RD", 0xFF0000100020, [(0x10000, 8)], 0x00000000, 0x00000000, 0x00000000⟩,
  ⟨"MCH_CNT_WR", 0xFF0000100024, [(0x10000, 8)], 0x00000000, 0x00000000, 0x00000000⟩,
  ⟨"MCH_CNT_FWD", 0xFF0000100028, [(0x10000, 8)], 0x00000000, 0x00000000, 0x00000000⟩,
  ⟨"MCH_CNT_RMW", 0xFF000010002C, [(0x10000, 8)], 0x00000000, 0x00000000, 0x00000000⟩,
  ⟨"MCH_CNT_REF_FORCED", 0xFF0000100030, [(0x10000, 8)], 0x00000000, 0x00000000, 0x00000000⟩,
  ⟨"MCH_CNT_PAUSE", 0xFF0000100034, [(0x10000, 8)], 0x00000000, 0x00000000, 0x00000000⟩,
  ⟨"MCH_DLY_r_d", 0xFF0000100400, [(0x10000, 8), (0x80, 2), (0x4, 20)], 0x03FF03FF, 0x00000000, 0x00000000⟩,
  ⟨"MCH_ECC_CTRL", 0xFF0000100800, [(0x10000, 8)], 0x1F80030F, 0x00000000, 0x00000004⟩,
  ⟨"MCH_ECC_STATUS", 0xFF0000100804, [(0x10000, 8)], 0x00000000, 0x0000003F, 0x00000000⟩,
  ⟨"MCH_ECC_LAST_LO", 0xFF0000100808, [(0x10000, 8)], 0x00000000, 0x00000000, 0x00000000⟩,
  ⟨"MCH_ECC_LAST_HI", 0xFF000010080C, [(0x10000, 8)], 0x00000000, 0x00000000, 0x00000000⟩,
  ⟨"MCH_MARK_r", 0xFF0000100810, [(0x10000, 8), (0x4, 2)], 0x00000000, 0x00000000, 0x00000000⟩,
  ⟨"MCH_ECC_CORR", 0xFF0000100820, [(0x10000, 8)], 0x00000000, 0x00000000, 0x00000000⟩,
  ⟨"MCH_ECC_POISONED", 0xFF0000100824, [(0x10000, 8)], 0x00000000, 0x00000000, 0x00000000⟩,
  ⟨"MCH_ECC_POISON_RD", 0xFF0000100828, [(0x10000, 8)], 0x00000000, 0x00000000, 0x00000000⟩,
  ⟨"MCH_RPT_REWRITES", 0xFF000010082C, [(0x10000, 8)], 0x00000000, 0x00000000, 0x00000000⟩,
  ⟨"MCH_PERSIST_r_n", 0xFF0000100840, [(0x10000, 8), (0x20, 2), (0x4, 5)], 0x00000000, 0x00000000, 0x00000000⟩,
  ⟨"MCH_RPT_IDX", 0xFF0000100880, [(0x10000, 8)], 0x000000FF, 0x00000000, 0x00000000⟩,
  ⟨"MCH_RPT_DATA_0", 0xFF0000100884, [(0x10000, 8)], 0x00000000, 0x00000000, 0x00000000⟩,
  ⟨"MCH_RPT_DATA_1", 0xFF0000100888, [(0x10000, 8)], 0x00000000, 0x00000000, 0x00000000⟩,
  ⟨"MCH_SCRUB_CTRL", 0xFF0000100900, [(0x10000, 8)], 0x10FFFFFF, 0x00000000, 0x100000A0⟩,
  ⟨"MCH_SCRUB_STATUS", 0xFF0000100904, [(0x10000, 8)], 0x00000000, 0x70000000, 0x00000000⟩,
  ⟨"MCH_SCRUB_BASE", 0xFF0000100908, [(0x10000, 8)], 0x1FFFFFFF, 0x00000000, 0x00000000⟩,
  ⟨"MCH_SCRUB_LIMIT", 0xFF000010090C, [(0x10000, 8)], 0x1FFFFFFF, 0x00000000, 0x00000000⟩,
  ⟨"MCH_SCRUB_CHECKED", 0xFF0000100910, [(0x10000, 8)], 0x00000000, 0x00000000, 0x00000000⟩,
  ⟨"MCH_SCRUB_CORRECTED", 0xFF0000100914, [(0x10000, 8)], 0x00000000, 0x00000000, 0x00000000⟩,
  ⟨"MCH_SCRUB_POISONED", 0xFF0000100918, [(0x10000, 8)], 0x00000000, 0x00000000, 0x00000000⟩,
  ⟨"MCH_SCRUB_ELAPSED", 0xFF000010091C, [(0x10000, 8)], 0x00000000, 0x00000000, 0x00000000⟩,
  ⟨"MCH_SCRUB_MARKED", 0xFF0000100920, [(0x10000, 8)], 0x00000000, 0x00000000, 0x00000000⟩,
  ⟨"MCH_INJECT", 0xFF0000100940, [(0x10000, 8)], 0xC00F1F1F, 0x00000000, 0x00000000⟩,
  ⟨"LIN_CH_CFG", 0xFF0000100C00, [(0x10000, 8)], 0x80000000, 0x00000000, 0x00000000⟩,
  ⟨"LIN_CH_STATUS", 0xFF0000100C04, [(0x10000, 8)], 0x00000000, 0x0000000F, 0x00000000⟩,
  ⟨"LIN_CH_HITS", 0xFF0000100C10, [(0x10000, 8)], 0x00000000, 0x00000000, 0x00000000⟩,
  ⟨"LIN_CH_MISSES", 0xFF0000100C14, [(0x10000, 8)], 0x00000000, 0x00000000, 0x00000000⟩,
  ⟨"LIN_CH_CTR_ENDS", 0xFF0000100C18, [(0x10000, 8)], 0x00000000, 0x00000000, 0x00000000⟩] ++ [
  ⟨"LIN_CH_MIRROR_READS", 0xFF0000100C1C, [(0x10000, 8)], 0x00000000, 0x00000000, 0x00000000⟩]

/-- Shuttle engines (16_ R432); SHT_DOORBELL at 0x0100 is write-only. -/
def regsSht : List RegRow := [
  ⟨"SHT_CTRL", 0xFF0000200000, [(0x10000, 16)], 0xC000FFFF, 0x00000000, 0x00000080⟩,
  ⟨"SHT_STATUS", 0xFF0000200004, [(0x10000, 16)], 0x00000000, 0x07F00000, 0x00000000⟩,
  ⟨"SHT_DONE", 0xFF0000200008, [(0x10000, 16)], 0x00000000, 0x00000000, 0x00000000⟩,
  ⟨"SHT_BAD", 0xFF000020000C, [(0x10000, 16)], 0x00000000, 0x00000000, 0x00000000⟩,
  ⟨"SHT_DOORBELL", 0xFF0000200100, [(0x10000, 16), (0x4, 2)], 0x00000000, 0x00000000, 0x00000000⟩,
  ⟨"SHT_SH_IRQ", 0xFF0000200200, [(0x10000, 16)], 0xFFFFFFFF, 0x00000000, 0x00000000⟩,
  ⟨"SHT_SH_RATE", 0xFF0000200204, [(0x10000, 16)], 0x0000FFFF, 0x00000000, 0x00000000⟩,
  ⟨"SHT_ACT_IRQ", 0xFF0000200208, [(0x10000, 16)], 0x00000000, 0x00000000, 0x00000000⟩,
  ⟨"SHT_ACT_RATE", 0xFF000020020C, [(0x10000, 16)], 0x00000000, 0x00000000, 0x00000000⟩,
  ⟨"SHT_HO_STATUS", 0xFF0000200210, [(0x10000, 16)], 0x00000000, 0x00000000, 0x00000000⟩,
  ⟨"SHT_IRQ_STATUS", 0xFF0000200214, [(0x10000, 16)], 0x00000000, 0x80000000, 0x00000000⟩,
  ⟨"SHT_QSEL", 0xFF0000200300, [(0x10000, 16)], 0x000FFFFF, 0x00000000, 0x00000000⟩,
  ⟨"SHT_QCMD", 0xFF0000200304, [(0x10000, 16)], 0x00000000, 0x00000000, 0x00000000⟩,
  ⟨"SHT_QDATA_n", 0xFF0000200310, [(0x10000, 16), (0x4, 16)], 0xFFFFFFFF, 0x00000000, 0x00000000⟩]

/-- Transceiver quads (11_ R321 to R324). -/
def regsXcv : List RegRow := [
  ⟨"XCV_QUAD_CFG", 0xFF0000300000, [(0x10000, 36)], 0x0000003F, 0x00000000, 0x0000003F⟩,
  ⟨"XCV_LANE_CTRL", 0xFF0000300100, [(0x10000, 36), (0x100, 4)], 0x1FFCF3FF, 0x00000000, 0x0000F0A0⟩,
  ⟨"XCV_LANE_N", 0xFF0000300104, [(0x10000, 36), (0x100, 4)], 0x00000FFF, 0x00000000, 0x00000010⟩,
  ⟨"XCV_LANE_F", 0xFF0000300108, [(0x10000, 36), (0x100, 4)], 0x00FFFFFF, 0x00000000, 0x00000000⟩,
  ⟨"XCV_LANE_STATUS", 0xFF000030010C, [(0x10000, 36), (0x100, 4)], 0x00000000, 0x000000FC, 0x00000000⟩,
  ⟨"XCV_LANE_PPM", 0xFF0000300110, [(0x10000, 36), (0x100, 4)], 0x00000000, 0x00000000, 0x00000000⟩,
  ⟨"XCV_TX_FIR", 0xFF0000300120, [(0x10000, 36), (0x100, 4)], 0x3FFFFFFF, 0x00000000, 0x0003F000⟩,
  ⟨"XCV_TX_SWING", 0xFF0000300124, [(0x10000, 36), (0x100, 4)], 0x00000007, 0x00000000, 0x00000004⟩,
  ⟨"XCV_RX_ADAPT", 0xFF0000300128, [(0x10000, 36), (0x100, 4)], 0x0000003F, 0x00000000, 0x0000002A⟩,
  ⟨"XCV_RX_CTLE", 0xFF000030012C, [(0x10000, 36), (0x100, 4)], 0x000000FF, 0x00000000, 0x00000048⟩,
  ⟨"XCV_RX_FFE_0", 0xFF0000300130, [(0x10000, 36), (0x100, 4)], 0xFFFFFFFF, 0x00000000, 0x00400000⟩,
  ⟨"XCV_RX_FFE_1", 0xFF0000300134, [(0x10000, 36), (0x100, 4)], 0xFFFFFFFF, 0x00000000, 0x00000000⟩,
  ⟨"XCV_RX_DFE_n", 0xFF0000300138, [(0x10000, 36), (0x100, 4), (0x4, 3)], 0xFFFFFFFF, 0x00000000, 0x00000000⟩,
  ⟨"XCV_PRBS_CTRL", 0xFF0000300180, [(0x10000, 36), (0x100, 4)], 0x000007F8, 0x00000000, 0x00000000⟩,
  ⟨"XCV_PRBS_STATUS", 0xFF0000300184, [(0x10000, 36), (0x100, 4)], 0x00000000, 0x40000000, 0x00000000⟩,
  ⟨"XCV_PRBS_ERR_LO", 0xFF0000300188, [(0x10000, 36), (0x100, 4)], 0x00000000, 0x00000000, 0x00000000⟩,
  ⟨"XCV_PRBS_ERR_HI", 0xFF000030018C, [(0x10000, 36), (0x100, 4)], 0x00000000, 0x00000000, 0x00000000⟩,
  ⟨"XCV_PRBS_BITS_LO", 0xFF0000300190, [(0x10000, 36), (0x100, 4)], 0x00000000, 0x00000000, 0x00000000⟩,
  ⟨"XCV_PRBS_BITS_HI", 0xFF0000300194, [(0x10000, 36), (0x100, 4)], 0x00000000, 0x00000000, 0x00000000⟩,
  ⟨"XCV_EYE_CTRL", 0xFF00003001A0, [(0x10000, 36), (0x100, 4)], 0x00FC7F7F, 0x00000000, 0x00000000⟩,
  ⟨"XCV_EYE_COUNT", 0xFF00003001A4, [(0x10000, 36), (0x100, 4)], 0x00000000, 0x00000000, 0x00000000⟩]

/-- Pin banks (17_ R451 to R453). -/
def regsGpio : List RegRow := [
  ⟨"GPIO_PIN_CFG_i", 0xFF0000600000, [(0x10000, 8), (0x4, 48)], 0x0FFFFF3F, 0x00000000, 0x0000003F⟩,
  ⟨"GPIO_PIN_OWN_i", 0xFF0000600100, [(0x10000, 8), (0x4, 48)], 0xC00000FF, 0x00000000, 0x00000000⟩,
  ⟨"GPIO_PIN_FILT_i", 0xFF0000600200, [(0x10000, 8), (0x4, 48)], 0xFFFF800F, 0x00000000, 0x00000000⟩,
  ⟨"GPIO_IN_LO", 0xFF0000600400, [(0x10000, 8)], 0x00000000, 0x00000000, 0x00000000⟩,
  ⟨"GPIO_IN_HI", 0xFF0000600404, [(0x10000, 8)], 0x00000000, 0x00000000, 0x00000000⟩,
  ⟨"GPIO_INT_LO", 0xFF0000600410, [(0x10000, 8)], 0x00000000, 0xFFFFFFFF, 0x00000000⟩,
  ⟨"GPIO_INT_HI", 0xFF0000600414, [(0x10000, 8)], 0x00000000, 0x0000FFFF, 0x00000000⟩,
  ⟨"GPIO_INT_EN_LO", 0xFF0000600418, [(0x10000, 8)], 0xFFFFFFFF, 0x00000000, 0x00000000⟩,
  ⟨"GPIO_INT_EN_HI", 0xFF000060041C, [(0x10000, 8)], 0x0000FFFF, 0x00000000, 0x00000000⟩,
  ⟨"GPIO_FORCED_LO", 0xFF0000600420, [(0x10000, 8)], 0x00000000, 0x00000000, 0x00000000⟩,
  ⟨"GPIO_FORCED_HI", 0xFF0000600424, [(0x10000, 8)], 0x00000000, 0x00000000, 0x00000000⟩,
  ⟨"GPIO_TRK_LO", 0xFF0000600428, [(0x10000, 8)], 0x00000000, 0x00000000, 0x00000000⟩,
  ⟨"GPIO_TRK_HI", 0xFF000060042C, [(0x10000, 8)], 0x00000000, 0x00000000, 0x00000000⟩,
  ⟨"GPIO_BANK_STATUS", 0xFF0000600430, [(0x10000, 8)], 0x00000000, 0x00000001, 0x00000000⟩]

/-- Seam controller (10_ R294 to R296). -/
def regsSeam : List RegRow := [
  ⟨"SEAM_CTRL", 0xFF0000700000, [], 0x0000007F, 0x00000000, 0x00000000⟩,
  ⟨"SEAM_STATUS", 0xFF0000700004, [], 0x00000000, 0x3C000000, 0x00000000⟩,
  ⟨"SEAM_RELEASE_NS", 0xFF0000700008, [], 0x3FFFFFFF, 0x00000000, 0x00000000⟩,
  ⟨"SEAM_RELEASE_SEC", 0xFF000070000C, [], 0xFFFFFFFF, 0x00000000, 0x00000000⟩,
  ⟨"SEAM_UP_n", 0xFF0000700010, [(0x4, 4)], 0x00000000, 0x00000000, 0x00000000⟩,
  ⟨"SEAM_SEG_CFG_g", 0xFF0000701000, [(0x40, 100)], 0xFF00FF01, 0x00000000, 0x0400FF00⟩,
  ⟨"SEAM_SEG_CFG_g", 0xFF0000702900, [(0x40, 10)], 0xFF000001, 0x00000000, 0x04000000⟩,
  ⟨"SEAM_SEG_STATUS_g", 0xFF0000701004, [(0x40, 110)], 0x00000000, 0x00000000, 0x00000000⟩,
  ⟨"SEAM_SEG_GEN_g", 0xFF0000701008, [(0x40, 110)], 0x00000000, 0x00000000, 0x00000000⟩,
  ⟨"SEAM_SEG_SPARE_LO_g", 0xFF000070100C, [(0x40, 110)], 0x00000000, 0x00000000, 0xFFFFFFFF⟩,
  ⟨"SEAM_SEG_SPARE_HI_g", 0xFF0000701010, [(0x40, 110)], 0x00000000, 0x00000000, 0xFFFFFFFF⟩,
  ⟨"SEAM_SEG_FAIL_n_g", 0xFF0000701020, [(0x40, 110), (0x4, 5)], 0x00000000, 0x00000000, 0x00000000⟩,
  ⟨"SEAM_HOLD_g_n", 0xFF0000704000, [(0x10, 100), (0x4, 4)], 0xFFFFFFFF, 0x00000000, 0x00000000⟩]

/-- Bobbin (20_ R515, R516). -/
def regsBob : List RegRow := [
  ⟨"BOB_CTRL", 0xFF0000710000, [], 0x10FFFFFF, 0x00000000, 0x00100000⟩,
  ⟨"BOB_STATUS", 0xFF0000710004, [], 0x00000000, 0x03000000, 0x00000000⟩,
  ⟨"BOB_FIELDS", 0xFF0000710008, [], 0xFFFFFFFF, 0x00000000, 0x00000000⟩,
  ⟨"BOB_BUDGET", 0xFF000071000C, [], 0x000000FF, 0x00000000, 0x00000040⟩,
  ⟨"BOB_RING_BASE_LO_h", 0xFF0000710100, [(0x20, 2)], 0xFFF00000, 0x00000000, 0x00000000⟩,
  ⟨"BOB_RING_BASE_HI_h", 0xFF0000710104, [(0x20, 2)], 0x0000FFFF, 0x00000000, 0x00000000⟩,
  ⟨"BOB_RING_SIZE_h", 0xFF0000710108, [(0x20, 2)], 0x0001FFFF, 0x00000000, 0x00000000⟩,
  ⟨"BOB_WPTR_h", 0xFF000071010C, [(0x20, 2)], 0x00000000, 0x00000000, 0x00000000⟩,
  ⟨"BOB_ANCHOR_h", 0xFF0000710110, [(0x20, 2)], 0xFFFFFFFF, 0x00000000, 0x00000000⟩,
  ⟨"BOB_STOP_h", 0xFF0000710114, [(0x20, 2)], 0xFFFFFFFF, 0x00000000, 0xFFFFFFFF⟩,
  ⟨"BOB_PIN_SEL_n", 0xFF0000710200, [(0x4, 16)], 0x80007FCF, 0x00000000, 0x0000000F⟩]

/-- Lining global (15_ R408, R409). -/
def regsLin : List RegRow := [
  ⟨"LIN_CTRL", 0xFF0000720000, [], 0x1000000F, 0x00000000, 0x00000000⟩,
  ⟨"LIN_STATUS", 0xFF0000720004, [], 0x00000000, 0x00000001, 0x00000000⟩,
  ⟨"LIN_FAIL_LO", 0xFF0000720008, [], 0x00000000, 0x00000000, 0x00000000⟩,
  ⟨"LIN_FAIL_HI", 0xFF000072000C, [], 0x00000000, 0x00000000, 0x00000000⟩,
  ⟨"LIN_BASE_LO_i", 0xFF0000720100, [(0x20, 16)], 0xFFFFF000, 0x00000000, 0x00000000⟩,
  ⟨"LIN_BASE_HI_i", 0xFF0000720104, [(0x20, 16)], 0x0000007F, 0x00000000, 0x00000000⟩,
  ⟨"LIN_LIMIT_LO_i", 0xFF0000720108, [(0x20, 16)], 0xFFFFF000, 0x00000000, 0x00000000⟩,
  ⟨"LIN_LIMIT_HI_i", 0xFF000072010C, [(0x20, 16)], 0x0000007F, 0x00000000, 0x00000000⟩,
  ⟨"LIN_RIGHTS_i", 0xFF0000720110, [(0x20, 16)], 0x0003FFFF, 0x00000000, 0x00000000⟩,
  ⟨"LIN_STATE_i", 0xFF0000720114, [(0x20, 16)], 0x00000000, 0x00000000, 0x00000000⟩,
  ⟨"LIN_BOUND_LO_i", 0xFF0000720118, [(0x20, 16)], 0x00000000, 0x00000000, 0x00000000⟩,
  ⟨"LIN_BOUND_HI_i", 0xFF000072011C, [(0x20, 16)], 0x00000000, 0x00000000, 0x00000000⟩]

/-- Power and clocks (09_ R271, R272; 22_ R574, R575). -/
def regsPwr : List RegRow := [
  ⟨"PWR_PLL_CTRL_n", 0xFF0000730100, [(0x20, 16)], 0xFF8000FF, 0x00000000, 0x60000000⟩,
  ⟨"PWR_PLL_PRI_DIV_n", 0xFF0000730104, [(0x20, 16)], 0x003F01FF, 0x00000000, 0x00000010⟩,
  ⟨"PWR_PLL_PRI_FRAC_n", 0xFF0000730108, [(0x20, 16)], 0x00FFFFFF, 0x00000000, 0x00000000⟩,
  ⟨"PWR_PLL_FB_DIV_n", 0xFF000073010C, [(0x20, 16)], 0x003F01FF, 0x00000000, 0x00000010⟩,
  ⟨"PWR_PLL_FB_FRAC_n", 0xFF0000730110, [(0x20, 16)], 0x00FFFFFF, 0x00000000, 0x00000000⟩,
  ⟨"PWR_PLL_OUT_n", 0xFF0000730114, [(0x20, 16)], 0xFFFFFFFF, 0x00000000, 0x00000000⟩,
  ⟨"PWR_PLL_STATUS_n", 0xFF0000730118, [(0x20, 16)], 0x00000000, 0x00000007, 0x00000000⟩,
  ⟨"PWR_SYS_CLK_h", 0xFF0000730300, [(0x4, 2)], 0x000000FF, 0x00000000, 0x00000000⟩,
  ⟨"PWR_GATE_d (fields)", 0xFF0000730400, [(0x4, 32)], 0x00000000, 0x00000000, 0x00000000⟩,
  ⟨"PWR_GATE_d", 0xFF0000730480, [(0x4, 32)], 0x00000007, 0x00000000, 0x00000000⟩,
  ⟨"PWR_RESET_CAUSE", 0xFF0000730500, [], 0x00000000, 0x0000003F, 0x00000000⟩,
  ⟨"PWR_RESET_CTRL", 0xFF0000730504, [], 0x00000000, 0x00000000, 0x00000000⟩,
  ⟨"PWR_DOM_CTRL_d (fields)", 0xFF0000730600, [(0x4, 32)], 0xE0FFFFFF, 0x00000000, 0xE038140C⟩,
  ⟨"PWR_DOM_CTRL_d (transceiver groups)", 0xFF0000730680, [(0x4, 12)], 0xE0FFFFFF, 0x00000000, 0xE0381404⟩,
  ⟨"PWR_DOM_CTRL_d (memory channels)", 0xFF00007306B0, [(0x4, 8)], 0xE0FFFFFF, 0x00000000, 0xE0381403⟩,
  ⟨"PWR_DOM_CTRL_d (Shuttle)", 0xFF00007306D0, [(0x4, 2)], 0xE0FFFFFF, 0x00000000, 0xE0381402⟩,
  ⟨"PWR_DOM_CTRL_d (network)", 0xFF00007306D8, [(0x4, 2)], 0xE0FFFFFF, 0x00000000, 0xE0381406⟩,
  ⟨"PWR_DOM_CTRL_d (Ethernet)", 0xFF00007306E0, [(0x4, 4)], 0xE0FFFFFF, 0x00000000, 0xE0381404⟩,
  ⟨"PWR_DOM_CTRL_d (JESD)", 0xFF00007306F0, [(0x4, 2)], 0xE0FFFFFF, 0x00000000, 0xE0381402⟩,
  ⟨"PWR_DOM_CTRL_d (host ports)", 0xFF00007306F8, [(0x4, 2)], 0xE0FFFFFF, 0x00000000, 0xE0381402⟩,
  ⟨"PWR_DOM_STATUS_d", 0xFF0000730700, [(0x4, 64)], 0x00000000, 0x05008000, 0xC0000000⟩,
  ⟨"PWR_THERM_CFG", 0xFF0000730800, [], 0xFF000000, 0x00000000, 0x646E7800⟩,
  ⟨"PWR_THERM_STATUS", 0xFF0000730804, [], 0x00000000, 0x38000000, 0x00000000⟩,
  ⟨"PWR_TEMP_p", 0xFF0000730880, [(0x4, 32)], 0x00000000, 0x00000000, 0x00000000⟩]

/-- Field control (02_ R66 to R69; 03_ R91, R92; 04_ R118; 06_ R189, R190; 09_ R273; 18_ R479; 19_ R498, R499). -/
def regsFld : List RegRow := [
  ⟨"FLD_LOAD_STATUS", 0xFF0000800000, [(0x10000, 32)], 0x00000000, 0x00000000, 0x00000000⟩,
  ⟨"FLD_DARN_STATUS", 0xFF0000800004, [(0x10000, 32)], 0x00000000, 0x70000000, 0x00000000⟩,
  ⟨"FLD_DARN_CORR", 0xFF0000800008, [(0x10000, 32)], 0x00000000, 0x00000000, 0x00000000⟩,
  ⟨"FLD_DARN_LAST", 0xFF000080000C, [(0x10000, 32)], 0x00000000, 0x00000000, 0x00000000⟩,
  ⟨"FLD_MEND_CTRL", 0xFF0000800010, [(0x10000, 32)], 0x000001FF, 0x00000000, 0x00000000⟩,
  ⟨"FLD_WALK_CFG", 0xFF0000800014, [(0x10000, 32)], 0xC000FFFF, 0x00000000, 0x00000E10⟩,
  ⟨"FLD_MEND_STATUS", 0xFF0000800018, [(0x10000, 32)], 0x00000000, 0x00100000, 0x00000000⟩,
  ⟨"FLD_MEND_COUNT", 0xFF000080001C, [(0x10000, 32)], 0x00000000, 0x00000000, 0x00000000⟩,
  ⟨"FLD_BYPASS_0", 0xFF0000800020, [(0x10000, 32)], 0x00000000, 0x00000000, 0x21084210⟩,
  ⟨"FLD_BYPASS_1", 0xFF0000800024, [(0x10000, 32)], 0x00000000, 0x00000000, 0x00084210⟩,
  ⟨"FLD_NO_SPARE", 0xFF0000800028, [(0x10000, 32)], 0x00000000, 0x00000000, 0x00000000⟩,
  ⟨"FLD_ROWSHIFT_n", 0xFF0000800030, [(0x10000, 32), (0x4, 2)], 0x00000000, 0x00000000, 0x3FFFFFFF⟩,
  ⟨"FLD_GSR_CTRL", 0xFF0000800100, [(0x10000, 32)], 0x00000000, 0x00000000, 0x00000000⟩,
  ⟨"FLD_HEDGE_STATUS", 0xFF0000800104, [(0x10000, 32)], 0x00000000, 0x00000000, 0x00000000⟩,
  ⟨"FLD_TICK_CLK_n", 0xFF0000800110, [(0x10000, 32), (0x4, 2)], 0xFFFFFFFF, 0x00000000, 0xFFFFFFFF⟩,
  ⟨"FLD_TICK_MERGED", 0xFF0000800118, [(0x10000, 32)], 0x00000000, 0x0000FFFF, 0x00000000⟩,
  ⟨"FLD_GUSSET_OVF_n", 0xFF0000800120, [(0x10000, 32), (0x4, 2)], 0x00000000, 0xFFFFFFFF, 0x00000000⟩,
  ⟨"FLD_GUSSET_UDF_n", 0xFF0000800128, [(0x10000, 32), (0x4, 2)], 0x00000000, 0xFFFFFFFF, 0x00000000⟩,
  ⟨"FLD_BRAM_SCRUB_CTRL", 0xFF0000800200, [(0x10000, 32)], 0x0000010F, 0x00000000, 0x00000003⟩,
  ⟨"FLD_BRAM_SCRUB_STATUS", 0xFF0000800204, [(0x10000, 32)], 0x00000000, 0x00000002, 0x00000000⟩,
  ⟨"FLD_BRAM_COLL_n", 0xFF0000800210, [(0x10000, 32), (0x4, 12)], 0x00000000, 0xFFFFFFFF, 0x00000000⟩,
  ⟨"FLD_BRAM_SBE_n", 0xFF0000800240, [(0x10000, 32), (0x4, 12)], 0x00000000, 0xFFFFFFFF, 0x00000000⟩,
  ⟨"FLD_BRAM_DBE_n", 0xFF0000800270, [(0x10000, 32), (0x4, 12)], 0x00000000, 0xFFFFFFFF, 0x00000000⟩,
  ⟨"FLD_CLV_CLK", 0xFF0000800300, [(0x10000, 32)], 0x0000FFFF, 0x00000000, 0x00000000⟩,
  ⟨"FLD_CLV_STRETCH_k", 0xFF0000800304, [(0x10000, 32), (0x4, 2)], 0x00000000, 0x80000000, 0x00000000⟩,
  ⟨"FLD_STILE_CTRL_k", 0xFF0000800400, [(0x10000, 32), (0x4, 4)], 0xFFFFFC00, 0x00000000, 0x0080F000⟩,
  ⟨"FLD_STILE_STATUS_k", 0xFF0000800410, [(0x10000, 32), (0x4, 4)], 0x00000000, 0x0000001F, 0x00000000⟩,
  ⟨"FLD_RCLK_r", 0xFF0000800500, [(0x10000, 32), (0x4, 12)], 0xE00000F3, 0x00000000, 0x00000000⟩,
  ⟨"FLD_RCLK_SRC_r", 0xFF0000800540, [(0x10000, 32), (0x4, 12)], 0x3F3F3F3F, 0x00000000, 0x3F3F3F3F⟩]

/-- Ethernet blocks (12_ R343). -/
def regsEth : List RegRow := [
  ⟨"ETH_BLK_CFG", 0xFF0001000000, [(0x10000, 16)], 0xF0000000, 0x00000003, 0x00000000⟩,
  ⟨"ETH_TXTS_n", 0xFF0001000040, [(0x10000, 16), (0x4, 4)], 0x00000000, 0x00000000, 0x00000000⟩,
  ⟨"ETH_PORT_CTRL_p", 0xFF0001000100, [(0x10000, 16), (0x40, 8)], 0xF8000000, 0x00000000, 0x00000000⟩,
  ⟨"ETH_PORT_STATUS_p", 0xFF0001000104, [(0x10000, 16), (0x40, 8)], 0x00000000, 0x0000007F, 0x00000000⟩,
  ⟨"ETH_TS_ADJ_p", 0xFF0001000108, [(0x10000, 16), (0x40, 8)], 0xFFFFFFFF, 0x00000000, 0x00000000⟩,
  ⟨"ETH_FRAMES_p", 0xFF000100010C, [(0x10000, 16), (0x40, 8)], 0x00000000, 0x00000000, 0x00000000⟩,
  ⟨"ETH_RULE_MATCH", 0xFF0001001000, [(0x10000, 16), (0x100, 8), (0x20, 8)], 0xFFFFFFFF, 0x00000000, 0x00000000⟩,
  ⟨"ETH_RULE_CTRL", 0xFF0001001004, [(0x10000, 16), (0x100, 8), (0x20, 8)], 0xE3FFFFFF, 0x00000000, 0x00000000⟩,
  ⟨"ETH_RULE_DST_LO", 0xFF0001001008, [(0x10000, 16), (0x100, 8), (0x20, 8)], 0xFFFFFFC0, 0x00000000, 0x00000000⟩,
  ⟨"ETH_RULE_DST_HI", 0xFF000100100C, [(0x10000, 16), (0x100, 8), (0x20, 8)], 0x0000FFFF, 0x00000000, 0x00000000⟩,
  ⟨"ETH_RULE_RING", 0xFF0001001010, [(0x10000, 16), (0x100, 8), (0x20, 8)], 0xFFFFFFFF, 0x00000000, 0x00000001⟩,
  ⟨"ETH_RULE_REC_LO", 0xFF0001001014, [(0x10000, 16), (0x100, 8), (0x20, 8)], 0xFFFFFFE0, 0x00000000, 0x00000000⟩,
  ⟨"ETH_RULE_REC_HI", 0xFF0001001018, [(0x10000, 16), (0x100, 8), (0x20, 8)], 0x0000FFFF, 0x00000000, 0x00000000⟩,
  ⟨"ETH_RULE_COUNT", 0xFF000100101C, [(0x10000, 16), (0x100, 8), (0x20, 8)], 0x00000000, 0x00000000, 0x00000000⟩]

/-- JESD blocks (12_ R345). -/
def regsJsd : List RegRow := [
  ⟨"JSD_CTRL", 0xFF0001100000, [(0x10000, 8)], 0xFE3F001F, 0x00000000, 0x003F0000⟩,
  ⟨"JSD_FRAME", 0xFF0001100004, [(0x10000, 8)], 0xFFFFFFFF, 0x00000000, 0x00000000⟩,
  ⟨"JSD_STATUS", 0xFF0001100008, [(0x10000, 8)], 0x00000000, 0x00000007, 0x00000000⟩,
  ⟨"JSD_ILAS_n", 0xFF0001100010, [(0x10000, 8), (0x4, 4)], 0xFFFFFFFF, 0x00000000, 0x00000000⟩,
  ⟨"JSD_DST_LO", 0xFF0001100020, [(0x10000, 8)], 0xFFFFFF00, 0x00000000, 0x00000000⟩,
  ⟨"JSD_DST_HI", 0xFF0001100024, [(0x10000, 8)], 0x0000FFFF, 0x00000000, 0x00000000⟩,
  ⟨"JSD_RING", 0xFF0001100028, [(0x10000, 8)], 0x0000000F, 0x00000000, 0x00000000⟩]

/-- Host ports W and E (12_ R344). -/
def regsHpt : List RegRow := [
  ⟨"HPT_CTRL", 0xFF0001180000, [(0x10000, 2)], 0x1FFF803F, 0x00000000, 0x16050014⟩,
  ⟨"HPT_STATUS", 0xFF0001180004, [(0x10000, 2)], 0x00000000, 0x00000007, 0x00000000⟩,
  ⟨"HPT_REQ_BASE_LO", 0xFF0001180010, [(0x10000, 2)], 0xFFFFF000, 0x00000000, 0x00000000⟩,
  ⟨"HPT_REQ_BASE_HI", 0xFF0001180014, [(0x10000, 2)], 0xFFFFFFFF, 0x00000000, 0x00000000⟩,
  ⟨"HPT_RSP_BASE_LO", 0xFF0001180018, [(0x10000, 2)], 0xFFFFF000, 0x00000000, 0x00000000⟩,
  ⟨"HPT_RSP_BASE_HI", 0xFF000118001C, [(0x10000, 2)], 0xFFFFFFFF, 0x00000000, 0x00000000⟩,
  ⟨"HPT_RING_CFG", 0xFF0001180020, [(0x10000, 2)], 0x0000000F, 0x00000000, 0x00000002⟩,
  ⟨"HPT_REQ_PROD", 0xFF0001180024, [(0x10000, 2)], 0x0000FFFF, 0x00000000, 0x00000000⟩,
  ⟨"HPT_REQ_CONS", 0xFF0001180028, [(0x10000, 2)], 0x00000000, 0x00000000, 0x00000000⟩,
  ⟨"HPT_RSP_PROD", 0xFF000118002C, [(0x10000, 2)], 0x00000000, 0x00000000, 0x00000000⟩,
  ⟨"HPT_RSP_CONS", 0xFF0001180030, [(0x10000, 2)], 0x0000FFFF, 0x00000000, 0x00000000⟩,
  ⟨"HPT_OUT_BASE_LO", 0xFF0001180040, [(0x10000, 2)], 0xFFFFF000, 0x00000000, 0x00000000⟩,
  ⟨"HPT_OUT_BASE_HI", 0xFF0001180044, [(0x10000, 2)], 0xFFFFFFFF, 0x00000000, 0x00000000⟩,
  ⟨"HPT_BAR2_TGT", 0xFF0001180048, [(0x10000, 2)], 0x0FFFFFFF, 0x00000000, 0x00000000⟩]

/-- Selvedge links (23_ R587). -/
def regsSlv : List RegRow := [
  ⟨"SLV_CTRL", 0xFF0001200000, [(0x10000, 8)], 0x1F8001FF, 0x00000000, 0x018001F1⟩,
  ⟨"SLV_STATUS", 0xFF0001200004, [(0x10000, 8)], 0x00000000, 0x00000007, 0x00000000⟩,
  ⟨"SLV_DELAY", 0xFF0001200008, [(0x10000, 8)], 0x00000000, 0x00000000, 0x00000000⟩]

/-- The rows of the window that holds address `a` (00_scope R10). -/
def rowsOf (a : Nat) : List RegRow :=
  if 0xFF0000000000 ≤ a ∧ a < 0xFF0000010000 then regsThm
  else if 0xFF0000010000 ≤ a ∧ a < 0xFF0000030000 then regsLrk
  else if 0xFF0000100000 ≤ a ∧ a < 0xFF0000180000 then regsMch
  else if 0xFF0000200000 ≤ a ∧ a < 0xFF0000300000 then regsSht
  else if 0xFF0000300000 ≤ a ∧ a < 0xFF0000540000 then regsXcv
  else if 0xFF0000600000 ≤ a ∧ a < 0xFF0000680000 then regsGpio
  else if 0xFF0000700000 ≤ a ∧ a < 0xFF0000710000 then regsSeam
  else if 0xFF0000710000 ≤ a ∧ a < 0xFF0000720000 then regsBob
  else if 0xFF0000720000 ≤ a ∧ a < 0xFF0000730000 then regsLin
  else if 0xFF0000730000 ≤ a ∧ a < 0xFF0000740000 then regsPwr
  else if 0xFF0000800000 ≤ a ∧ a < 0xFF0000A00000 then regsFld
  else if 0xFF0001000000 ≤ a ∧ a < 0xFF0001100000 then regsEth
  else if 0xFF0001100000 ≤ a ∧ a < 0xFF0001180000 then regsJsd
  else if 0xFF0001180000 ≤ a ∧ a < 0xFF00011A0000 then regsHpt
  else if 0xFF0001200000 ≤ a ∧ a < 0xFF0001280000 then regsSlv
  else []

/-- The row of a register, if `a` is the address of one. -/
def rowAt (a : Nat) : Option RegRow := (rowsOf a).find? (fun r => r.hit a)

/-- The reset value of the register at `a`. -/
def regReset (a : Nat) : Word :=
  match rowAt a with
  | some r => r.reset
  | none => 0

end Sys2Proof.Machine
end

