-- ==== Sys2Proof/Machine/Tab.lean ====
section
/-!
DEFINITION. Machine/Tab.lean: sparse tables, the one form in which the model holds register files, memories and
per-unit state: (key, value) pairs, keys strictly rising, no entry equal to what an unlisted key reads as.
-/
namespace Sys2Proof.Machine

/-- A sparse table from keys to values. -/
abbrev Tab (α : Type) := List (Nat × α)

/-- What key `k` reads as; `df` says what an unlisted key reads as. -/
def tabGet {α : Type} (df : Nat → α) : Tab α → Nat → α
  | [], k => df k
  | (k', v) :: t, k => if k' = k then v else tabGet df t k

/-- Write `v` at key `k`, keeping the canonical form. -/
def tabSet {α : Type} [DecidableEq α] (df : Nat → α) : Tab α → Nat → α → Tab α
  | [], k, v => if v = df k then [] else [(k, v)]
  | (k', v') :: t, k, v =>
    if k < k' then (if v = df k then (k', v') :: t else (k, v) :: (k', v') :: t)
    else if k = k' then (if v = df k then t else (k, v) :: t)
    else (k', v') :: tabSet df t k v

/-- Whether every key of `t` lies above `lo`. -/
def tabAbove {α : Type} (lo : Nat) : Tab α → Bool
  | [] => true
  | (k, _) :: _ => decide (lo < k)

/-- The canonical form. -/
def tabWf {α : Type} [DecidableEq α] (df : Nat → α) : Tab α → Bool
  | [] => true
  | (k, v) :: t => decide (v ≠ df k) && tabAbove k t && tabWf df t

/-- Forget every key for which `p` holds: it reads as an unlisted key again. -/
def tabDrop {α : Type} (p : Nat → Bool) (t : Tab α) : Tab α := t.filter (fun kv => !p kv.1)

/-- Change the value at one key. -/
def tabMod {α : Type} [DecidableEq α] (df : Nat → α) (t : Tab α) (k : Nat) (f : α → α) : Tab α :=
  tabSet df t k (f (tabGet df t k))

/-- A byte-addressed memory: address and byte pairs in canonical form. A byte that nothing has written reads 0
(DESIGN CHOICE, log entry 2). -/
abbrev Memory := List Host.Cell

def memDefault (_ : Nat) : Byte := 0

def Memory.wf (m : Memory) : Bool := tabWf memDefault m

/-- The byte at `a`. -/
def memRead (m : Memory) (a : Nat) : Byte := tabGet memDefault m a

/-- Write one byte. -/
def memWrite (m : Memory) (a : Nat) (b : Byte) : Memory := tabSet memDefault m a b

/-- The `n` bytes from `a` up. -/
def memReads (m : Memory) (a : Nat) : Nat → List Byte
  | 0 => []
  | n + 1 => memRead m a :: memReads m (a + 1) n

/-- Write bytes from `a` up. -/
def memWrites (m : Memory) (a : Nat) : List Byte → Memory
  | [] => m
  | b :: bs => memWrites (memWrite m a b) (a + 1) bs

/-- A little-endian number from its bytes (00_scope R6). -/
def leNat : List Byte → Nat
  | [] => 0
  | b :: bs => b.toNat + 256 * leNat bs

/-- The `n` little-endian bytes of a number. -/
def leBytes (x : Nat) : Nat → List Byte
  | 0 => []
  | n + 1 => BitVec.ofNat 8 x :: leBytes (x / 256) n

/-- A 32-bit word from the first four bytes of a list. -/
def leWord (bs : List Byte) : Word := BitVec.ofNat 32 (leNat (bs.take 4))

/-- Bits `lo` to `lo + n - 1` of a number. -/
def bitsAt (x lo n : Nat) : Nat := (x >>> lo) % 2 ^ n

/-- `x` with bits `lo` to `lo + n - 1` replaced by `v`. -/
def putBits (x lo n v : Nat) : Nat :=
  x % 2 ^ lo + (v % 2 ^ n) * 2 ^ lo + x / 2 ^ (lo + n) * 2 ^ (lo + n)

/-- Field `[lo + n - 1 : lo]` of a register. -/
def fieldOf (w : Word) (lo n : Nat) : Nat := bitsAt w.toNat lo n

/-- A register with one field replaced. -/
def withField (w : Word) (lo n v : Nat) : Word := BitVec.ofNat 32 (putBits w.toNat lo n v)

/-- A two's-complement number of `n` bits as an integer. -/
def signed (n x : Nat) : Int := if x % 2 ^ n < 2 ^ (n - 1) then (x % 2 ^ n : Nat) else (x % 2 ^ n : Nat) - (2 ^ n : Nat)

/-- An integer as a two's-complement number of `n` bits. -/
def unsign (n : Nat) (x : Int) : Nat := (x % (2 ^ n : Nat)).toNat

/-- Remove the first element that meets `p`. -/
def dropFirst {α : Type} (p : α → Bool) : List α → List α
  | [] => []
  | x :: xs => if p x then xs else x :: dropFirst p xs

/-- The list `0, 1, …, n - 1`. -/
def upto (n : Nat) : List Nat := List.range n

end Sys2Proof.Machine
end

