-- ==== Sys2Proof/Machine/State.lean ====
section
/-!
DEFINITION. Machine/State.lean: everything the spec gives the device, as plain data. What the control space shows as a
register is in `Device.regs`; the rest stands in the structures below. Every default is the reset value (INVENTORY.md,
State).
-/
namespace Sys2Proof.Machine

/-! ### Clover engines (04_clover_engines, 05_clover_instruction_set) -/

/-- An asynchronous FIFO of 32 entries (02_fabric R62 to R64): the entries in order, how many the read side sees,
and how many popped places the write side does not see as free yet. -/
structure Gusset where
  entries : List (BitVec 72) := []
  seen    : Nat := 0
  unfreed : Nat := 0
deriving DecidableEq, Repr

/-- Run states of an engine (04_ R119). -/
inductive RunState
  | idle
  | running
  | stopped
  | error
deriving DecidableEq, Repr

/-- A hardware loop (05_ R152, R154). -/
structure LoopState where
  active : Bool := false
  rotate : Bool := false
  s1     : Nat := 0
  start  : Nat := 0
  last   : Nat := 0
  count  : Nat := 0
deriving DecidableEq, Repr

/-- A result on its way to a complex register (05_ R143, R144): physical register, which parts, value. -/
structure CWrite where
  reg  : Nat
  re   : Bool
  im   : Bool
  val  : BitVec 48
deriving DecidableEq, Repr

/-- Requests held while the engine's clock stands (04_ R591). -/
structure HeldReqs where
  start  : Option Nat := none
  stop   : Bool := false
  clear  : Bool := false
  resume : Bool := false
deriving DecidableEq, Repr

/-- One Clover engine (04_, 05_). Reset values: R126 to R131; every other register reads 0 (R125). -/
structure Engine where
  ctrl      : Word := 0
  flags     : BitVec 10 := 0
  streamClk : BitVec 20 := 0xFFFFF
  runs      : Nat := 0
  cycles    : Nat := 0
  stalls    : Nat := 0
  notifyLo  : Word := 0
  notifyHi  : Word := 0
  state     : RunState := .idle
  cause     : Nat := 0
  pc        : Nat := 0
  rot       : Nat := 0
  /-- Physical predicates Q0 to Q7 (R106). -/
  q         : BitVec 8 := 0
  /-- Physical complex registers C0 to C31. -/
  c         : Tab (BitVec 48) := []
  /-- a0 to a7, as the next bundle's accumulate inputs see them (R144, L = 1). -/
  a         : Tab (BitVec 56) := []
  /-- a0 to a7, as every other read sees them (R144, L = 2). -/
  aOld      : Tab (BitVec 56) := []
  p         : Tab (BitVec 12) := []
  b         : Tab (BitVec 12) := []
  l         : Tab (BitVec 16) := []
  k0        : LoopState := {}
  k1        : LoopState := {}
  /-- Last flags of in0 and in1 (R112). -/
  lastIn    : BitVec 2 := 0
  /-- The program flags flag[3:0] (R151). -/
  pflag     : BitVec 4 := 0
  /-- Results that land after the next issued bundle has read (R144). -/
  land      : List CWrite := []
  /-- Data memory, 1,536 words of 96 bits (R98), and the parts (4 word + part) whose parity is wrong. -/
  mem       : Tab (BitVec 96) := []
  memBad    : List Nat := []
  /-- Program store, 512 bundles (R101), and the bundles whose parity is wrong. -/
  prog      : Tab (BitVec 64) := []
  progBad   : List Nat := []
  in0       : Gusset := {}
  in1       : Gusset := {}
  out0      : Gusset := {}
  out1      : Gusset := {}
  /-- The cascade register this engine owns; `none` while valid is 0 (R114). -/
  cascade   : Option (BitVec 56 × BitVec 56) := none
  held      : HeldReqs := {}
  /-- Cycles without issue still owed to a taken branch (05_ R146). -/
  bubble    : Nat := 0
  /-- done is high in this ctl cycle (R124). -/
  done      : Bool := false
  /-- Notify writes waiting to be made, oldest first: run count and cycles (R124). -/
  notify    : List (Nat × Nat) := []
  /-- Levels of the start and stop sinks on the last ctl edge (R123). -/
  startWas  : Bool := false
  stopWas   : Bool := false
deriving DecidableEq, Repr


/-! ### Fabric (02_fabric) and block memories (03_block_memory) -/

/-- One direction of a hedged crossing (02_ R58, R59): credits at the sender, the word on the crossing register, the
receive buffer (head first), and credits on their way back. -/
structure HedgeChan where
  credits   : Nat := 4
  crossing  : Option (BitVec 22) := none
  buffer    : List (BitVec 22) := []
  returning : Nat := 0
deriving DecidableEq, Repr

/-- One block-memory port's outputs (03_ R81, R83, R89): the latch with its error flags {dbe, sbe}, and the output
register with its own. -/
structure PortOut where
  latch    : BitVec 72 := 0
  latchErr : BitVec 2 := 0
  oreg     : BitVec 72 := 0
  oregErr  : BitVec 2 := 0
deriving DecidableEq, Repr

/-- The fabric of all fields. Tables over tiles are keyed by logical position, that is by the local column counted as if
no mend had been made (02_ R71): tile key 200 · (180 f + column) + row. Reset: unconfigured (log entry 3). -/
structure FabState where
  tiles    : Tab (Option TileCfg) := []
  /-- FF0 and FF1: key 32 · tile + 2 · cell + which. -/
  ffs      : Tab Bool := []
  /-- Hop registers: key 96 · tile + 24 · side + wire. -/
  hops     : Tab Bool := []
  /-- Gusset settings and gussets: key 64 f + g. -/
  gusCfg   : Tab (Option GussetCfg) := []
  gussets  : Tab Gusset := []
  /-- Crossing modes and hold codes, and hedged channels: key of the sending side, 800 · field + 200 · side + index. -/
  crossCfg : Tab (Option CrossCfg) := []
  hedges   : Tab HedgeChan := []
  /-- The 24 values last driven by a plain crossing before its field stopped (R57 code 0b00). -/
  lastVal  : Tab (BitVec 24) := []
  /-- Fields in a 256 ns pulse of global set/reset (R44). -/
  pulse    : List Nat := []
  /-- Clocks that have not given two edges since the pulse or hold ended (R44): key 12 f + r, edges still to pass. -/
  gsrWait  : Tab Nat := []
  /-- Ticks on their way (R65): key 16 f + t, number of actions waiting to land. -/
  ticks    : Tab Nat := []
  /-- Tick lines that are high for this cycle. -/
  tickHigh : List Nat := []
  /-- Hedged channels that have had no credit for 1 µs (R61), by sending key. -/
  stalled  : List Nat := []
deriving DecidableEq, Repr

/-- Block memories, keyed by device number n (R73). -/
structure BramState where
  cfg   : Tab (Option BramCfg) := []
  /-- Wide array: key 512 n + row of 72 bits (R76). -/
  words : Tab (BitVec 72) := []
  /-- Port outputs: key 2 n + port. -/
  ports : Tab PortOut := []
  /-- coll high in this port-B cycle (R86). -/
  coll  : List Nat := []
  /-- Scrubber address of each field (R90). -/
  scrub : Tab Nat := []
  /-- Memories whose port B has had no idle cycle for the next step (R90). -/
  starved : List Nat := []
  /-- Write-backs waiting for an idle port-A cycle: key n, row and corrected word. -/
  wback : Tab (Option (Nat × BitVec 72)) := []
deriving DecidableEq, Repr


/-! ### Warp/Weft network (06_warp_weft_network) -/

/-- A packet in the network (06_ R159, R169). -/
structure Flight where
  pid    : Nat
  hd     : Header
  data   : List Byte
  /-- Payload flits that carry poison (R180, R181). -/
  poison : List Nat
  /-- Its flits, the header among them. -/
  flits  : Nat
  /-- Links the packet has crossed between devices (23_ R581). -/
  hops   : Nat := 0
deriving DecidableEq, Repr

/-- Flits `lo` to `hi` - 1 of a packet, in an input buffer; none where the next one has not come yet (06_ R169). -/
structure FlitRun where
  pid : Nat
  lo  : Nat
  hi  : Nat
deriving DecidableEq, Repr

/-- The input buffer of one virtual channel (06_ R169): its flits, oldest first, and the knot cycle in which the packet at its head
came there (R171). -/
structure Vc where
  runs   : List FlitRun := []
  headAt : Nat := 0
deriving DecidableEq, Repr

/-- A completed request: what its source saw. -/
structure Answer where
  status : Nat := 0
  data   : List Byte := []
  /-- Payload flits that carry poison (R180). -/
  poison : List Nat := []
deriving DecidableEq, Repr

/-- A packet that a request was sent as (06_ R165): its address, the half of its target, whether the header of its response has entered
the surviving seam knot (R183), and its answer once it has one. -/
structure Part where
  addr    : Nat
  half    : Half
  entered : Bool := false
  answer  : Option Answer := none
deriving DecidableEq, Repr

/-- A request to the fabric behind a stile, its data with poisoned flits as zeros, and whether there were any (06_ R176, R180). -/
structure Inbound where
  hd   : Header
  data : List Byte
  bad  : Bool := false
deriving DecidableEq, Repr

/-- A request its source has sent and not completed (06_ R159, R174, R179), with its parts in address order. -/
structure Outst where
  src   : NodeId
  tag   : Nat
  dev   : Nat
  write : Bool
  addr  : Nat
  len   : Nat
  parts : List Part
deriving DecidableEq, Repr

structure NetState where
  flights  : List Flight := []
  nextPid  : Nat := 0
  /-- Input buffers, by knot, port and class (R169). -/
  vcs      : Tab Vc := []
  /-- The packet an output virtual channel belongs to, and the input port it comes from (R169). -/
  owners   : Tab (Option (Nat × Nat)) := []
  /-- Where the fixed order of an output virtual channel begins: after its last winner (R170). -/
  turn     : Tab Nat := []
  /-- Promoted packets and the knots they are promoted at, first promoted first (R171). -/
  promoted : List (Nat × Nat) := []
  /-- The knot cycle, and the outputs that have taken their flit in it (log entry 47). -/
  cycle    : Nat := 0
  taken    : List Nat := []
  /-- Packets delivered to their slots, not yet taken there. -/
  arrived  : List Flight := []
  outst    : List Outst := []
  /-- Completions, newest first, by source and tag. -/
  done     : List (NodeId × Nat × Answer) := []
  /-- Stile s: inbound requests held while its field's clocks stand (R177). -/
  held     : Tab (List Inbound) := []
  /-- Stile s: inbound requests that await the fabric's answer (R176). -/
  inbound  : Tab (List Inbound) := []
  /-- Stile s: responses for the fabric, kept in the response buffer (R176, R177). -/
  rspBuf   : Tab (List (Header × Answer)) := []
  /-- Stile s: what a replay has fed of a response so far (20_ R513). -/
  fed      : Tab Answer := []
  /-- Stile s: clk and tgt_en in force (R189), as the register holds them. -/
  stileNow : Tab Word := []
  /-- Weft seam links of rows 0 to 4 that are down, and segments that are paused (R182). -/
  weftDown   : BitVec 5 := 0
  /-- By network segment 100 + i. -/
  weftPaused : BitVec 10 := 0
deriving DecidableEq, Repr


/-! ### Larks (07_lark_time, 08_lark_calendar) -/

/-- A bin of the learning window (07_ R210): mean frequency (units of 2^−48), mean temperature (1/16 °C), time (s). -/
structure Bin where
  freq : Int
  temp : Int
  at_  : Nat
deriving DecidableEq, Repr

/-- What a least-squares fit leaves for its standard errors (07_ R212): the sum of squared residuals and the determinant, both scaled by
the determinant, the degrees of freedom, and the adjugate of the normal matrix. -/
structure Fit where
  rss : Int
  det : Int
  dof : Nat
  adj : List (List Int)
deriving DecidableEq, Repr

/-- The learned model (07_ R210, R215): c0 in units of 2^−48, c1 in 2^−48 per 2^20 s, c2 and c3 in 2^−48 per 1/16 °C and
its square; the coefficients' standard errors in 10^−18 of the same; the fit itself, which a saved model has not. -/
structure Model where
  c0  : Int := 0
  c1  : Int := 0
  c2  : Int := 0
  c3  : Int := 0
  se0 : Nat := 0
  seA : Nat := 0
  se2 : Nat := 0
  se3 : Nat := 0
  fit : Option Fit := none
  t0  : Nat := 0
  th0 : Int := 0
  hours : Nat := 0
deriving DecidableEq, Repr

/-- A capture (07_ R220). -/
structure Capture where
  input  : Nat
  rising : Bool
  time   : Nat
deriving DecidableEq, Repr

/-- A model with its window, for one temperature input (07_ R210, R211, R215). -/
structure Learned where
  model     : Option Model := none
  bins      : List Bin := []
  waiver    : Bool := false
  fromSaved : Bool := false
deriving DecidableEq, Repr

/-- The record store's models of one Lark: with the on-die point and with the sensor (07_ R211, R215). -/
structure SavedModels where
  die    : Option Model := none
  sensor : Option Model := none
deriving DecidableEq, Repr

/-- One half's Lark. Times are in units of 2^−48 ns (R191, R192). -/
structure Lark where
  time      : Nat := 0
  /-- Steering offset, units of 2^−48 (R192). -/
  steer     : Int := 0
  wasLocked : Bool := false
  ranLoop   : Bool := false
  /-- A set time is armed for the next whole second (R194). -/
  setArmed  : Bool := false
  caps      : List Capture := []
  model     : Option Model := none
  bins      : List Bin := []
  /-- The window condition of R210 is waived. -/
  waiver    : Bool := false
  /-- Whole hours spent Locked (learn_hours). -/
  hours     : Nat := 0
  /-- The model is the saved one: c0, c2 and c3 stay until the window holds 24 hours (R215). -/
  fromSaved : Bool := false
  temp      : Int := 0
  tempSeen  : Bool := false
  /-- The island is powered and not in reset: the counter runs (R192, R219). -/
  on        : Bool := false
  /-- What was learned with the temperature input that temp_src does not choose now (R211). -/
  parked    : Learned := {}
deriving DecidableEq, Repr

/-- What the Lark knows of reference n (07_ R200 to R202): capture time of its last sample and of its last edge, an edge
that waits for the sentence that labels it, the label that the next edge gets, the label of the last pulse with its capture
time, the count of samples beyond unlock_thr, and of pulses whose second did not match. Times in 2^−16 ns, labels in TAI s. -/
structure RefState where
  lastAt  : Option Nat := none
  edgeAt  : Option Nat := none
  waits   : Option Nat := none
  label   : Option Nat := none
  lastTod : Option (Nat × Nat) := none
  unlock  : Nat := 0
  todMiss : Nat := 0
deriving DecidableEq, Repr

/-- The discipline state, which lives in the leader and is copied to the follower (07_ after R220). -/
structure Disc where
  /-- The integral i of R204, units of 2^−48. -/
  integ    : Int := 0
  /-- Bandwidth code b. -/
  b        : Nat := 0
  /-- Consecutive samples within lock_thr. -/
  inRange  : Nat := 0
  /-- The last 64 samples, newest first, units of 2^−16 ns. -/
  hist     : List Int := []
  /-- The next sample is the first since entry to Acquiring, and whether a step may be made (R205). -/
  first    : Bool := false
  mayStep  : Bool := false
  /-- The next sample is the first of a changed reference (R204, R203 rule 4). -/
  changed  : Bool := false
  refs     : Tab RefState := []
  /-- Phase samples taken and not yet used: entry n, e in units of 2^−16 ns, and the time it was captured at. -/
  samples  : List (Nat × Int × Nat) := []
  /-- A second count has been held since the last Locked or set-time (R202, cause 7). -/
  secs     : Bool := false
  /-- Lark time of the last entry to Holdover, and its terms (R212): e_entry (2^−16 ns), sf, sa (10^−18). -/
  holdAt   : Option Nat := none
  eEntry   : Nat := 0
  sf       : Nat := 0
  sa       : Nat := 0
  swapReq  : Bool := false
deriving DecidableEq, Repr

/-- An applied grid configuration (07_ R195); the offset is in units of 2^−16 ns. -/
structure Grid where
  en  : Bool := false
  ext : Bool := false
  mu  : Nat := 0
  k   : Nat := 0
  ofs : Nat := 0
deriving DecidableEq, Repr

/-- An armed entry (08_ R235 to R237): its contents, its arming point A, the time from which its next occurrence is
sought (after it has fired, just past that time), and the split at which it ends. Times in 2^−16 ns. -/
structure Arm where
  entry : BitVec 128
  a     : Nat
  from_ : Nat
  until_ : Option Nat := none
  /-- The grid and, for an absolute trigger, the time T as they were when it was armed. -/
  grid  : Grid := {}
  t0    : Int := 0
  /-- When it was armed. -/
  made  : Nat := 0
  /-- Missed with late_ok (08_ R236): it fires at once. -/
  miss  : Bool := false
  /-- The calendar still holds these contents: the entry has not been written again. -/
  cur   : Bool := true
deriving DecidableEq, Repr

/-- A delivered occurrence that waits to act (08_ R239). -/
structure Occ where
  idx   : Nat
  time  : Nat
  entry : BitVec 128
  late  : Bool
  /-- As in the arm it came from. -/
  cur   : Bool := true
deriving DecidableEq, Repr

/-- At which hand-over point a staged set commits (08_ R244, R245), in 2^−16 ns of Lark time. -/
inductive Plan where
  /-- A pattern's set before Running, or before its half rejoins. -/
  | hold
  /-- The first hand-over point at or after this time. -/
  | from_ (t : Nat)
  /-- This time: the boundary of a rejoin. -/
  | exactly (t : Nat)
deriving DecidableEq, Repr

/-- A staged set: range and control, where it commits, and whether it was held past a hand-over cycle (08_ R242 to R244). -/
structure Staged where
  range : Word
  ctl   : Word
  plan  : Plan
  held  : Bool
deriving DecidableEq, Repr

/-- A channel's sets (08_ R242 to R244): the staged one, and the one whose commit at a hand-over point is decided but not yet
visible. -/
structure Chan where
  staged    : Option Staged := none
  decided   : Option (Staged × Nat) := none
  activeCtrl : Word := 0
deriving DecidableEq, Repr

/-- One half's calendar. -/
structure Calendar where
  entries : Tab (BitVec 128) := []
  arms    : Tab (List Arm) := []
  waiting : List Occ := []
  /-- The whole microsecond of the last delivery, and the deliveries made in it (R239). -/
  usNow   : Nat := 0
  usCount : Nat := 0
  chans   : Tab Chan := []
deriving DecidableEq, Repr

/-- Both Larks with what they share. -/
structure TimeState where
  w      : Lark := {}
  e      : Lark := {}
  disc   : Disc := {}
  /-- Lark E's own discipline state while each half leads itself (R219). -/
  discE  : Disc := {}
  grids  : Tab Grid := []
  /-- Staged grid configurations: CFG and OFS as written (R198). -/
  gridPend : Tab (Option (Word × Word)) := []
  calW   : Calendar := {}
  calE   : Calendar := {}
  /-- Both halves run and each leads itself: which half led before the split (R219). -/
  split  : Option Half := none
  /-- When `aligned` last rose, Lark time in 2^−16 ns (10_ R291 step 5). -/
  alignedAt : Nat := 0
  /-- Saved oscillator models in the record store (R215). -/
  savedW : SavedModels := {}
  savedE : SavedModels := {}
deriving DecidableEq, Repr


/-! ### Clocks (09_clocks_resets), loading (18_), mending and faults (19_), power (22_) -/

/-- What a PLL is doing beyond its status register (09_ R253 to R256). PLL 0 to 15 general, 16 and 17 the system PLLs. -/
structure PllExtra where
  /-- The input a switch is going to: true the fallback. -/
  target  : Option Bool := none
  /-- Primary (or REFCLK_LOCAL of a system PLL) and fallback good. -/
  priGood : Bool := false
  fbGood  : Bool := false
  /-- The next good report of the primary ends a loss, so it has been good for 100 ms (R253). -/
  priLost : Bool := false
  /-- The loop of a system PLL is closed on an input (R250). -/
  closed  : Bool := false
  /-- force_fb has been written from 1 to 0 while the fallback was in use: a return is due (R255). -/
  back    : Bool := false
deriving DecidableEq, Repr

structure ClkState where
  plls    : Tab PllExtra := []
  /-- Regional clocks (key 12 f + r): the slot the output still follows while a switch runs, and the divider still in force
  while a change waits for a rising edge of the output (R260, R261). -/
  rclkOld : Tab (Option Nat) := []
  rclkDiv : Tab (Option Nat) := []
  /-- Alignment pulses of output k of general PLL n, key 4 n + k: the dividers on it restart at each (R261). -/
  aligned : Tab Nat := []
deriving DecidableEq, Repr

/-- Which reset sequence runs (09_ R268). -/
inductive ResetKind
  | powerOn
  | pin
  | command
deriving DecidableEq, Repr

/-- The base mode; Mending and Safe hold are reported from their own facts (00_scope R14). -/
inductive BaseMode
  | blank
  | loading
  | running
  | dormant
deriving DecidableEq, Repr

/-- Device-wide facts (00_scope R11 to R19; 01_organisation R21, R31 to R36; 09_ R267, R268; 22_ R553, R565, R573). -/
structure SysState where
  coreIn    : Bool := false
  aux       : Bool := false
  xcvHi     : Bool := false
  vddq      : Bool := false
  vccio     : BitVec 8 := 0
  straps    : BitVec 3 := 0
  pwrupPd   : Bool := false
  gradeI    : Bool := false
  pwrOkLow  : Bool := false
  resetLow  : Bool := false
  /-- A reset sequence runs; a half's island is in its own reset. -/
  resetSeq  : Option ResetKind := none
  upW       : Bool := false
  upE       : Bool := false
  /-- The half was lost and its recovery has not ended (R36). -/
  lostW     : Bool := false
  lostE     : Bool := false
  booted    : Bool := false
  mode      : BaseMode := .blank
  integrity : Bool := false
  /-- Safe hold was entered from Loading: its exit leads to Blank (01_ R34). -/
  blankOnExit : Bool := false
  /-- A wake is under way (01_ R31). -/
  waking    : Bool := false
  /-- The recovery of a half waits for the end of Safe hold (01_ R36). -/
  deferW    : Bool := false
  deferE    : Bool := false
  primary   : Half := .w
  /-- Thimble processors running. -/
  cpuW      : Bool := false
  cpuE      : Bool := false
  mgmtLine  : Bool := false
  /-- MSI-X messages sent: key 2048 · port + vector. -/
  msix      : Tab Nat := []
  tripLow   : Bool := false
  alertLow  : Bool := false
  /-- A thermal trip waits for its device reset. -/
  tripReset : Bool := false
deriving DecidableEq, Repr

/-- A fault report (19_ R489). -/
structure Report where
  cls    : Nat
  src    : Nat
  detail : Nat
  time   : Nat
deriving DecidableEq, Repr

/-- A log entry (19_ R493). -/
structure LogEntry where
  first  : Nat := 0
  last   : Nat := 0
  cls    : Nat := 0
  src    : Nat := 0
  detail : Nat := 0
  count  : Nat := 0
  open_  : Bool := false
  irq    : Bool := false
  mirrored : Bool := false
deriving DecidableEq, Repr

structure LogState where
  fifoW : List Report := []
  fifoE : List Report := []
  /-- Reports dropped since the last REPORTS_LOST (R489). -/
  dropW : Nat := 0
  dropE : Nat := 0
  ring  : Tab LogEntry := []
  /-- Ring indices of the open entries, the one updated least recently first (R492). -/
  opened : List Nat := []
  /-- Interrupt windows: class, source id, and whether further reports arrived (R494). -/
  windows : List (Nat × Nat × Bool) := []
  /-- PWR_RESET_CAUSE as each boot logged it, the latest first (09_ R270). -/
  causes : List Word := []
deriving DecidableEq, Repr

/-- A domain transition (22_ R559, R560): the state being passed to, the final state asked for, a waiting request. -/
structure DomTrans where
  next    : Nat
  final   : Nat
  waiting : Option Nat
  /-- Waiting for one of the four ramp-up places. -/
  queued  : Bool
deriving DecidableEq, Repr

structure PwrState where
  trans   : Tab (Option DomTrans) := []
  /-- vout held when the domain left On (R562): code v. -/
  lastV   : Tab Nat := []
  /-- Domains the running pattern turned On (18_ R465). -/
  due     : Tab Bool := []
deriving DecidableEq, Repr

/-- A mend waiting or under way (19_ R480, R481). `walk` marks a walking-spare step. -/
structure MendReq where
  kind   : Nat
  target : Nat
  walk   : Bool
deriving DecidableEq, Repr

structure MendState where
  /-- The mend under way in field f. -/
  now    : Tab (Option MendReq) := []
  /-- Accepted and not yet started; further triggers wait in the queue. -/
  pend   : Tab (Option MendReq) := []
  queue  : Tab (List MendReq) := []
  /-- Fields whose waiting mend was raised in Safe hold, in order of arrival (01_ R33). -/
  arrival : List Nat := []
  /-- Walk of field f: offset of the bypass direction (true eastward), and a test running on a freed column. -/
  east   : Tab Bool := []
  test   : Tab (Option Nat) := []
  /-- Failed physical columns of each field (a strip's bypass rests on one). -/
  failed : Tab (List Nat) := []
deriving DecidableEq, Repr

/-- A load in progress (18_ R465, R466). -/
structure LoadJob where
  source  : Nat
  partial_ : Bool
  auto    : Bool
  fallback : Bool
  pat     : Option Pattern
  /-- 1 the header is being read, 2 verifying, 3 darning sweep. -/
  phase   : Nat
  /-- Fields whose darning sweep of phase 3 is complete. -/
  swept   : List Nat := []
  /-- Bytes of a JTAG stream taken so far. -/
  taken   : Nat
  requester : Byte
deriving DecidableEq, Repr

/-- A record-store bank (18_ R472 to R477). -/
structure Bank where
  /-- The header's magic, 0 in an erased bank, and its crc. -/
  magic    : Nat := 0
  seq      : Nat := 0
  crc      : BitVec 32 := 0
  trial    : Bool := false
  confirm  : Bool := false
  /-- Every page decodes. -/
  pagesOk  : Bool := true
  /-- Records in page order: type, contents, and the CRC-32 that the directory holds. -/
  recs     : List (Nat × List Byte × BitVec 32) := []
deriving DecidableEq, Repr

/-- A signing-key slot (18_ R457). -/
structure KeySlot where
  hash     : BitVec 384 := 0
  enrolled : Bool := false
  revoked  : Bool := false
deriving DecidableEq, Repr

/-- A pattern pointer (18_ R473 type 7). -/
structure Pointer where
  ports : Nat := 0
  page  : Nat := 0
  t     : Nat := 0
  auto  : Bool := false
deriving DecidableEq, Repr

structure LoadState where
  job      : Option LoadJob := none
  /-- The pattern the device runs; field contents come back from it at wake (R31). -/
  pattern  : Option Pattern := none
  partials : List Pattern := []
  /-- Requester that loaded it, for claims (08_ R241). -/
  owner    : Byte := 0
  dormant  : List Byte := []
  keys     : Tab KeySlot := []
  patKeys  : Tab (Option (BitVec 256)) := []
  /-- The record set a device ships with is in bank A (DESIGN CHOICE, log entry 42). -/
  bankA    : Bank := { magic := 0x53525A59, crc := 0x11DDF14F }
  bankB    : Bank := {}
  /-- A record write waits: the trial bit it will carry, and whether it is the repeat of a failed one (R475). -/
  rsWrite  : Option (Bool × Bool) := none
  /-- Status and HW_FAULT detail the last update ended with (21_ R541). -/
  updDone  : Nat × Nat := (0, 0)
  primaryPtr  : Pointer := {}
  fallbackPtr : Pointer := {}
  /-- Darning: frame position, and upset bits key 1440 · 81920 f + … of each field's frames; stuck cells (R470). -/
  darnPos  : Tab Nat := []
  upset    : List Nat := []
  stuck    : List Nat := []
  /-- Page decoders failed in island W, E (R463). -/
  decFailW : Bool := false
  decFailE : Bool := false
  /-- The pattern was read from flash (R470). -/
  fromFlash : Bool := false
  /-- The record store names host port E (record type 9, R473; 12_ R336). -/
  hostE    : Bool := false
  /-- Secure pins of the record store (record type 8; 17_ R442): bank, pin, configuration, filter. -/
  secure   : List (Nat × Nat × Word × Word) := []
  /-- Records an update has written, by type, as their bytes (21_ R541). -/
  records  : Tab (List Byte) := []
  /-- Status the last load ended with, for its completion (21_ R529, R534). -/
  outcome  : Nat := 0
  /-- Pointers autoload has tried since it last started afresh: 0 none, 1 primary, 2 both (R477). -/
  tried    : Nat := 0
deriving DecidableEq, Repr


/-! ### Seam (10_seam), lanes (11_transceivers), protocol blocks (12_protocol_blocks) -/

/-- A segment's map as one end holds it (10_ R286): generation, failed positions, spares in use with the position each carries, and the
CRC-32 over them, which the map of a new device has right. -/
structure SegMap where
  gen    : Nat := 0
  failed : List Nat := []
  spares : List (Nat × Nat) := []
  crc    : BitVec 32 := 0x5D6C55D8
deriving DecidableEq, Repr

/-- A seam segment (10_ R274, R282, R283, R289). -/
structure Segment where
  trained  : Bool := false
  released : Bool := false
  remap    : Bool := false
  /-- The receiver of each direction (into W, into E) has declared its sender lost. -/
  lostW    : Bool := false
  lostE    : Bool := false
  mapW     : SegMap := {}
  mapE     : SegMap := {}
  /-- A training result waits for SEAM_TRAIN. -/
  training : Bool := false
  /-- Values on their way east and west, newest first (R280): the receive stitch register is the fourth. -/
  pipeE    : List (BitVec 32) := []
  pipeW    : List (BitVec 32) := []
  /-- Last live values received (R283, hold code 0b00). -/
  lastE    : BitVec 32 := 0
  lastW    : BitVec 32 := 0
deriving DecidableEq, Repr

structure SeamState where
  segs   : Tab Segment := []
  /-- Maps in the record store (R286). -/
  stored : Tab SegMap := []
  /-- Release boundary armed (R291), Lark time in 2^−16 ns. -/
  armed  : Option Nat := none
  /-- Spares the pattern pins (R288): segment, position, and the half that drives it. -/
  pinned : List (Nat × Nat × Half) := []
  /-- A half's fields are being reloaded; training is due after them (R291 steps 2 and 3). -/
  rejoin : Bool := false
  /-- When the last training of a segment that waits for a release ended, Lark time in 2^−16 ns (R291 step 5). -/
  trainedAt : Nat := 0
  /-- Segments whose peer's map failed its CRC each time it was asked for (R286). -/
  mapLost : List Nat := []
deriving DecidableEq, Repr

/-- A lane beyond its registers (11_ R305 to R317). -/
structure Lane where
  /-- Latched idle state of the transmitter (R308). -/
  idle     : Bool := true
  idleReq  : Bool := false
  burst    : Bool := false
  /-- Adaptation frozen, and the starting values of modes 1 and 2 (R305, R306). -/
  frozen   : Bool := false
  start    : List Word := []
  /-- Raw port: words toward the transmitter, words toward the fabric, first word taken since exit (R313). -/
  tx       : List (BitVec 80) := []
  rx       : List (BitVec 80) := []
  txBegun  : Bool := false
  /-- Word sent last, and word boundary slips (R313). -/
  sent     : BitVec 80 := 0
  slip     : Nat := 0
  /-- The last received word as the line carried it. -/
  line     : BitVec 80 := 0
  /-- Level of rx_slip on the last edge of the port's clock (R313). -/
  slipWas  : Bool := false
  inject   : Bool := false
  genState : BitVec 31 := 0x7FFFFFFF
  errs     : Nat := 0
  bits     : Nat := 0
  eyeRun   : Bool := false
  /-- The last 31 received bits, newest lowest, the checker's register, and high in the cycle of a delimiter (R313, R317). -/
  rxHist   : BitVec 31 := 0
  chk      : BitVec 31 := 0
  delim    : Bool := false
deriving DecidableEq, Repr

/-- A received frame that waits for delivery (12_ R328, R329). -/
structure RxFrame where
  port  : Nat
  rule  : Nat
  bytes : List Byte
  stamp : Nat
  vlan  : Bool
deriving DecidableEq, Repr

/-- An egress timestamp (12_ R332). -/
structure TxStamp where
  port : Nat
  mtype : Nat
  seq  : Nat
  time : Nat
deriving DecidableEq, Repr

/-- A frame delivery whose record is still to be written (12_ R329). -/
structure RxRecord where
  port  : Nat
  rule  : Nat
  k     : Nat
  stamp : Nat
  len   : Nat
  vlan  : Bool
  bad   : Bool
deriving DecidableEq, Repr

/-- An Ethernet block (12_ R327 to R332). -/
structure EthBlock where
  rx      : List RxFrame := []
  records : List RxRecord := []
  /-- Frames waiting in the transmit buffers: port and contents, oldest first. -/
  tx      : List (Nat × List Byte) := []
  sent    : List Byte := []
  stamps  : List TxStamp := []
  /-- PTP frames handed to Thimble (R328). -/
  ptp     : List (Nat × List Byte × Nat) := []
deriving DecidableEq, Repr

/-- Host ports and host memory (12_ R334 to R336). -/
structure HostState where
  mem     : Memory := []
  /-- Ports that count toward fo_time. -/
  down    : BitVec 2 := 0
deriving DecidableEq, Repr

/-- A JESD block (12_ R338 to R341). -/
structure Jesd where
  armed    : Bool := false
  aligned  : Bool := false
  data     : Bool := false
  rxCount  : Nat := 0
  tx       : List Byte := []
  sent     : List Byte := []
  sync     : Bool := false
  /-- Link configuration octets 0 to 13 that each lane last sent in an ILAS (R338). -/
  ilas     : List (List Byte) := []
deriving DecidableEq, Repr


/-! ### Memory channels, codes and Lining (13_, 14_, 15_) -/

/-- A queued read (13_ R351, R352); the list order of a queue is arrival order. `order` numbers promotions. -/
structure RdEntry where
  rid    : Nat
  /-- Arrival number in the channel. -/
  seq    : Nat
  mclass : Nat
  cls    : Nat
  addr   : Nat
  len    : Nat
  promoted : Option Nat
deriving DecidableEq, Repr

/-- A write-queue entry: its line and the bytes it holds, (offset, byte) (13_ R351, R353). -/
structure WrEntry where
  rid    : Nat
  seq    : Nat
  mclass : Nat
  cls    : Nat
  line   : Nat
  bytes  : List (Nat × Byte)
  promoted : Option Nat
  /-- Set by a bypass write (15_ R392). -/
  bypass : Bool
deriving DecidableEq, Repr

/-- A repeat-table entry (14_ R372). -/
structure Repeat where
  line    : Nat
  count   : Nat
  rewrites : Nat
  persistent : Bool
  dev     : Nat
  /-- When it was updated last, by count of updates. -/
  stamp   : Nat
deriving DecidableEq, Repr

/-- One memory channel (13_, 14_). Lines are numbered by l[35:7]. -/
structure MemChan where
  rq      : List RdEntry := []
  wq      : List WrEntry := []
  /-- Answers given, newest first, by request id. -/
  answers : List (Nat × Answer) := []
  promos  : Nat := 0
  arrivals : Nat := 0
  /-- Refresh debt of rank r, bank b: key 4 r + b (R357). -/
  debt    : Tab Int := []
  hot     : BitVec 2 := 0
  /-- Open row of each bank: key 32 · rank + 4 · group + bank, row + 1. -/
  openRow : Tab Nat := []
  /-- Window centres (R358, R364): key 20 r + d. -/
  centres : Tab Word := []
  trained : Bool := false
  /-- Self-refresh entered, and why (R360). -/
  sr      : Option SrTrigger := none
  /-- Repeat table, by entry 0 to 255, and its count of updates. -/
  rpt     : Tab (Option Repeat) := []
  updates : Nat := 0
  /-- Lines counted for each device: key 20 r + d (R373). -/
  counted : Tab (List Nat) := []
  patrol  : Nat := 0
  pass    : Option Nat := none
  /-- Lark time at which the pass started, 2^−16 ns. -/
  passAt  : Nat := 0
deriving DecidableEq, Repr

/-- How a lined line stands in DRAM (15_ R388, R392): the key epoch, generation and counter of its tweak; `raw` when the
bytes held are the stored ones (a bypass write), not the plain ones. -/
structure MixInfo where
  key  : Nat
  sel  : Bool
  gen  : Nat
  ctr  : Nat
  raw  : Bool
deriving DecidableEq, Repr

/-- Sweeps of R391 and R405. -/
inductive SweepKind
  | zero
  | adopt
  | discard
  | reveal
  | rekey
deriving DecidableEq, Repr

structure Sweep where
  kind  : SweepKind
  start : Nat
  pos   : Nat
  wrapped : Bool
  oldKey : Nat
deriving DecidableEq, Repr

/-- The DRAM of all channels and the Lining. Lines: key 2^29 · channel + line. -/
structure MemState where
  chans   : Tab MemChan := []
  /-- Byte a of channel n at 2^36 · n + a (R349). -/
  dram    : Memory := []
  /-- Symbols of a stored codeword that are wrong (14_ R365 to R367). -/
  symErr  : Tab (List Nat) := []
  poisoned : Tab Bool := []
  mix     : Tab (Option MixInfo) := []
  /-- Lines whose stored tag does not match, and level blocks (key as in `gens`). -/
  tagBad  : List Nat := []
  blkBad  : List Nat := []
  /-- Level blocks whose mirror copy's tag does not match, by the key of the block. -/
  mirBad  : List Nat := []
  /-- Level blocks whose mirror copy has not been written since they were last changed (15_ R400). -/
  mirOld  : List Nat := []
  /-- Keys: epoch of each range's slot (none: erased), tree-key epoch of each channel. -/
  keys    : Tab (Option Nat) := []
  nextKey : Nat := 1
  treeKey : Tab Nat := []
  sweeps  : Tab (Option Sweep) := []
  /-- Next re-key start of a queued re-key (R405). -/
  queued  : Tab (Option Nat) := []
  /-- Counters and generations of level blocks: key 2^40 · channel + 2^37 · level + counter or block number (level 5: the
  root). -/
  ctrs    : Tab Nat := []
  gens    : Tab Nat := []
  /-- Key select of counter blocks (level 0). -/
  sels    : Tab Bool := []
  /-- Counter cache of each channel, most recently used first: block key, and 0 clean, 1 dirty, 2 dirty with a refused mirror
  write (R400). -/
  cache   : Tab (List (Nat × Nat)) := []
  /-- Lines to poison at release of an integrity halt (R403): channel, first line, how many. -/
  atRelease : List (Nat × Nat × Nat) := []
  /-- Marks and delays of each rank in the record store (14_ R370, 13_ R358): key 2 · channel + rank. -/
  savedMark : Tab Word := []
  savedDly  : Tab (List Word) := []
deriving DecidableEq, Repr


/-! ### Shuttles (16_shuttle_dma), pins (17_pins) -/

/-- A descriptor in flight (16_ R417 to R427). `stage`: 0 data moves, 1 its read-back is due, 2 its record is due, 3 its
record waits for an answer. -/
structure Desc where
  q      : Nat
  cls    : Nat
  words  : BitVec 256
  /-- List entries, address and length, of types 1 and 2. -/
  list   : List (Nat × Nat)
  /-- The destination stream, once its source has been read, and how many write packets of it have gone. -/
  out    : List Byte := []
  moved  : Nat := 0
  /-- Start of the last write packet. -/
  last   : Nat
  stage  : Nat
  status : Nat
  net    : Nat
  stamp  : Nat
  /-- Network status the record write was answered with. -/
  answer : Nat
deriving DecidableEq, Repr

/-- One Shuttle engine beyond its registers. -/
structure Shuttle where
  /-- Doorbell FIFO, oldest first, with the writer's master class (R415). -/
  bells   : List (BitVec 64 × Nat) := []
  flight  : List Desc := []
  /-- The queue last taken in each class (R417). -/
  lastQ   : Tab Nat := []
  /-- A shadow set staged, and one held for a cycle (R429). -/
  staged  : Option (Word × Word) := none
deriving DecidableEq, Repr

/-- A cached queue context (16_ R412, R414): the 64 bytes as one number, byte 0 least significant. -/
structure CtxSlot where
  q     : Nat
  ctx   : BitVec 512
  dirty : Bool
deriving DecidableEq, Repr

structure ShtState where
  engines : Tab Shuttle := []
  /-- Context caches, most recently used first. -/
  cacheW  : List CtxSlot := []
  cacheE  : List CtxSlot := []
  /-- Queues whose context left the cache while they had work: queue, engine, class. -/
  parked  : List (Nat × Nat × Nat) := []
deriving DecidableEq, Repr

/-- A pin beyond its registers (17_ R438, R443, R447 to R450). -/
structure Pin where
  pad       : Bool := false
  filtered  : Bool := false
  seenHigh  : Bool := false
  seenLow   : Bool := false
  /-- The pin has left its power-up state (R449). -/
  configured : Bool := false
  /-- The configuration held until edge 2 of a switch, and the last mux write that came during it (R447, R448). -/
  switch_   : Option Word := none
  heldWrite : Option Word := none
  /-- Event output (08_ R233): level, time of its last edge, time of its last action, and its pulses' ends with the entries they come
from (2^−16 ns). -/
  level     : Bool := false
  lastEdge  : Option Nat := none
  lastAct   : Option Nat := none
  pulseEnds : List (Nat × Nat) := []
deriving DecidableEq, Repr

/-! ### Bobbin (20_bobbin_replay) -/

/-- The predictor of one crossing and direction (20_ R511). -/
structure Predict where
  r     : Nat := 0
  acc   : Nat := 0x800000
  ps    : Nat := 0
  pd    : Nat := 0
  skip  : Nat := 0
  seen  : Bool := false
deriving DecidableEq, Repr

/-- One half's recorder. -/
structure BobHalf where
  /-- Staged records, oldest first. -/
  staging  : List (List Byte) := []
  dropped  : Nat := 0
  dropping : Bool := false
  /-- Bytes that may still be written after a trigger. -/
  postLeft : Option Nat := none
  anchored : Bool := false
  /-- Lark time of the last anchor: cycle counts restart there (R507). -/
  anchorAt : Nat := 0
  /-- Bytes written to the ring since the last TIME record. -/
  sinceTime : Nat := 0
  /-- Next write offset in the ring, and where replay reads next, in bytes. BOB_WPTR shows the low bits of the first. -/
  wptr     : Nat := 0
  rpos     : Nat := 0
deriving DecidableEq, Repr

structure BobState where
  w      : BobHalf := {}
  e      : BobHalf := {}
  /-- The replay set in force since the last arm. -/
  fields : Word := 0
  /-- Key 2 j + direction. -/
  cross  : Tab Predict := []
  /-- Replayed fields whose gates Bobbin holds closed (R513, R514). -/
  gated  : Word := 0
  /-- Replay has begun: the anchoring load was released (R512). -/
  live   : Bool := false
deriving DecidableEq, Repr

/-! ### Command protocol (21_command_protocol) -/

/-- A kept reply (21_ R528). -/
structure Kept where
  seq : Nat
  crc : Nat
  reply : List Byte
deriving DecidableEq, Repr

structure Session where
  id      : Nat
  carrier : Carrier
  secure  : Bool
  tries   : Nat
  major   : Nat
  minor   : Nat
  nonce   : BitVec 384
  kept    : List Kept
  /-- The next reply carries flags bit 2 (R530). -/
  tookOver : Bool
deriving DecidableEq, Repr

/-- A held claim (21_ R548). -/
structure ClaimRec where
  kind  : Nat
  where_ : Nat
  item  : Nat
  holder : Nat
deriving DecidableEq, Repr

/-- A long operation in progress (21_ R529): what it is, and the request it completes. -/
structure LongRun where
  op     : LongOp
  rq     : ReqCtx
  opcode : Nat
  /-- Kind · 65536 + target of a mend. -/
  arg    : Nat := 0
  /-- What it ended with, where that is not read from the block: result and stop time of a mend; status and detail of an update. -/
  result : Option (Nat × Nat) := none
deriving DecidableEq, Repr

/-- An update being received (21_ R541): record type, total length, bytes so far. -/
structure UpdJob where
  rtype : Nat
  total : Nat
  bytes : List Byte
  id    : Nat
deriving DecidableEq, Repr

structure CmdState where
  sessions : List Session := []
  claims   : List ClaimRec := []
  long     : List LongRun := []
  update   : Option UpdJob := none
  /-- Requests whose last byte has arrived, in arrival order. -/
  arrived  : List (Carrier × List Byte) := []
  /-- Replies waiting at the SPI, I2C and JTAG ports, oldest first, and those Thimble holds back. -/
  replies  : List (Carrier × List Byte) := []
  heldBack : List (Carrier × List Byte) := []
  overflow : List Carrier := []
  /-- JTAG: bytes shifted in, and words of the head reply shifted out. -/
  jtagIn   : List Byte := []
  jtagOut  : Nat := 0
  /-- Replies and completions sent, newest first. -/
  sent     : List (Carrier × List Byte) := []
  /-- Overrides carried out, newest first: requester, kind, where, first item, count, new holder (R550). -/
  overrides : List (Nat × Nat × Nat × Nat × Nat × Nat) := []
deriving DecidableEq, Repr

/-! ### Selvedge links (23_selvedge_links) -/

/-- A link beyond its registers (23_ R578 to R583). -/
structure Link where
  lanesUsed : List Nat := []
  /-- Requests that arrived over the link and await a local answer are in flight in the network; the packets the link
  sent are listed with their data, poisoned flits and hop count, newest first. -/
  sent      : List (Header × List Byte × List Nat × Nat) := []
  /-- The last time message sent carried a phase sample (R583). -/
  gives     : Bool := false
deriving DecidableEq, Repr

structure SlvState where
  links : Tab Link := []
deriving DecidableEq, Repr

/-! ### The device -/

/-- Everything the spec gives the device. -/
structure Device where
  /-- Registers of the control space, by address; an unlisted one reads its reset value (RegTable). -/
  regs  : Tab Word := []
  /-- How many free values have been taken (Config). -/
  fresh : Nat := 0
  sys   : SysState := {}
  log   : LogState := {}
  fab   : FabState := {}
  bram  : BramState := {}
  clv   : Tab Engine := []
  net   : NetState := {}
  time  : TimeState := {}
  clk   : ClkState := {}
  pwr   : PwrState := {}
  mend  : MendState := {}
  load  : LoadState := {}
  seam  : SeamState := {}
  lanes : Tab Lane := []
  eth   : Tab EthBlock := []
  host  : HostState := {}
  jesd  : Tab Jesd := []
  mem   : MemState := {}
  sht   : ShtState := {}
  pins  : Tab Pin := []
  bob   : BobState := {}
  cmd   : CmdState := {}
  slv   : SlvState := {}
  /-- The answer of the last control-space access: status code and data. -/
  rsp   : Answer := {}
deriving DecidableEq, Repr

/-- The machine: the device, and the commands that wait, first in, first out. -/
structure State where
  dev     : Device := {}
  pending : List Instr := []
deriving DecidableEq, Repr

/-- No command of the model faults: the spec answers every access that fails with a status (06_ R178). Kept closed and
empty. -/
inductive Fault
deriving DecidableEq, Repr

/-- Why a command is refused. -/
inductive Refusal
  /-- Raised by exec's arm of a command that has no meaning yet; safe. -/
  | notModelled (mnemonic : String)
deriving DecidableEq, Repr

/-- The machine right after reset: unpowered, nothing written, every register at its reset value. -/
def State.reset : State := {}

/-- What an unlisted register reads as. -/
def regDefault (a : Nat) : Word := regReset a

/-- A command's answer: the device after it, the queue as it stands. -/
def State.lift (s : State) (f : Device → Device) : Host.Outcome State Fault Refusal :=
  .next { s with dev := f s.dev }

end Sys2Proof.Machine
end

