-- ==== Sys2Proof/Machine/Ops.lean ====
section
/-!
DEFINITION. Machine/Ops.lean: the named operations over registers, reports and interrupts that every family uses.
-/
namespace Sys2Proof.Machine

/-! ### Registers -/

/-- The register at `a`. -/
def Device.reg (d : Device) (a : Nat) : Word := tabGet regDefault d.regs a

/-- Write the register at `a` whole. -/
def Device.setReg (d : Device) (a : Nat) (v : Word) : Device := { d with regs := tabSet regDefault d.regs a v }

/-- Field `[lo + n - 1 : lo]` of the register at `a`. -/
def Device.fld (d : Device) (a lo n : Nat) : Nat := fieldOf (d.reg a) lo n

/-- Write one field. -/
def Device.setFld (d : Device) (a lo n v : Nat) : Device := d.setReg a (withField (d.reg a) lo n v)

def Device.bit (d : Device) (a k : Nat) : Bool := d.fld a k 1 == 1

def Device.putBit (d : Device) (a k : Nat) (b : Bool) : Device := d.setFld a k 1 (b2n b)

def Device.setBit (d : Device) (a k : Nat) : Device := d.putBit a k true

/-- Add to a field that counts modulo its width. -/
def Device.bump (d : Device) (a lo n by_ : Nat) : Device := d.setFld a lo n (wrap n (d.fld a lo n + by_))

/-- Add to a field that saturates. -/
def Device.bumpSat (d : Device) (a lo n by_ : Nat) : Device := d.setFld a lo n (sat (2 ^ n - 1) (d.fld a lo n + by_))

/-- Reset every register whose address meets `p` to its reset value. -/
def Device.clearRegs (d : Device) (p : Nat → Bool) : Device := { d with regs := tabDrop p d.regs }

/-- Apply `f` for each element, left to right. -/
def Device.each {α : Type} (d : Device) (xs : List α) (f : Device → α → Device) : Device := xs.foldl f d

/-- Apply `f` where `c` holds. -/
def Device.when (d : Device) (c : Bool) (f : Device → Device) : Device := if c then f d else d

/-! ### Register windows (00_scope R10) -/

def thmA (o : Nat) : Nat := 0xFF0000000000 + o

/-- 0 for half W, 1 for half E (06_ and 21_: h). -/
def hn : Half → Nat
  | .w => 0
  | .e => 1

def halfOf (n : Nat) : Half := if n = 0 then .w else .e

def otherHalf : Half → Half
  | .w => .e
  | .e => .w

def lrkA (h : Half) (o : Nat) : Nat := 0xFF0000010000 + hn h * 0x10000 + o
def mchA (n o : Nat) : Nat := 0xFF0000100000 + n * 0x10000 + o
def shtA (n o : Nat) : Nat := 0xFF0000200000 + n * 0x10000 + o
def quadA (q o : Nat) : Nat := 0xFF0000300000 + q * 0x10000 + o
/-- Register `o` (from 0x0100 up) of lane `l` in its quad's window (11_ R321, R322). -/
def laneA (l o : Nat) : Nat := quadA (l / 4) (l % 4 * 0x100 + o)
def gpioA (b o : Nat) : Nat := 0xFF0000600000 + b * 0x10000 + o
def seamA (o : Nat) : Nat := 0xFF0000700000 + o
def bobA (o : Nat) : Nat := 0xFF0000710000 + o
def linA (o : Nat) : Nat := 0xFF0000720000 + o
def pwrA (o : Nat) : Nat := 0xFF0000730000 + o
def fldA (f o : Nat) : Nat := 0xFF0000800000 + f * 0x10000 + o
def ethA (m o : Nat) : Nat := 0xFF0001000000 + m * 0x10000 + o
def jsdA (j o : Nat) : Nat := 0xFF0001100000 + j * 0x10000 + o
def hptA (h : Half) (o : Nat) : Nat := 0xFF0001180000 + hn h * 0x10000 + o
def slvA (s o : Nat) : Nat := 0xFF0001200000 + s * 0x10000 + o

/-! ### Halves, fields and domains (01_ R20, R22; 22_power_package R557) -/

/-- Field f = 4x + y lies in half W for x up to 3. -/
def halfOfField (f : Nat) : Half := if f < 16 then .w else .e

/-- The half a domain belongs to (22_ R557, 01_ R22). Ethernet groups 0 and 1 are half W's (01_ R29, 12_ R326). -/
def halfOfDomain (d : Nat) : Half :=
  if d < 32 then halfOfField d
  else if d < 44 then (if d < 38 then .w else .e)
  else if d < 52 then (if d < 48 then .w else .e)
  else if d < 56 then halfOf (d % 2)
  else if d < 60 then (if d < 58 then .w else .e)
  else halfOf (d % 2)

/-- The half's always-on island and Thimble report alive. -/
def Device.up (d : Device) : Half → Bool
  | .w => d.sys.upW
  | .e => d.sys.upE

def Device.setUp (d : Device) (h : Half) (b : Bool) : Device :=
  match h with
  | .w => { d with sys := { d.sys with upW := b } }
  | .e => { d with sys := { d.sys with upE := b } }

def Device.lost (d : Device) : Half → Bool
  | .w => d.sys.lostW
  | .e => d.sys.lostE

def Device.setLost (d : Device) (h : Half) (b : Bool) : Device :=
  match h with
  | .w => { d with sys := { d.sys with lostW := b } }
  | .e => { d with sys := { d.sys with lostE := b } }

def domCtrlA (n : Nat) : Nat := pwrA (0x600 + 4 * n)
def domStatA (n : Nat) : Nat := pwrA (0x700 + 4 * n)

/-- Current state of domain `n`: 0 On, 1 Sleep, 2 Deep sleep, 3 Off (22_ R574). -/
def Device.domState (d : Device) (n : Nat) : Nat := d.fld (domStatA n) 30 2
def Device.domOn (d : Device) (n : Nat) : Bool := d.domState n == 0
/-- Clock-failed: outputs forced safe (09_ R264). -/
def Device.forced (d : Device) (n : Nat) : Bool := d.bit (domStatA n) 28

/-- Field f is frozen for a mend (19_ R484). -/
def noMend (_ : Nat) : Option MendReq := none
def Device.frozen (d : Device) (f : Nat) : Bool := (tabGet noMend d.mend.now f).isSome

/-- FLD_LOAD_STATUS of field f says it is being loaded, partially (18_ R466, R479). -/
def Device.loadState (d : Device) (f : Nat) : Nat := d.fld (fldA f 0) 29 3
def Device.underLoad (d : Device) (f : Nat) : Bool :=
  decide (1 ≤ d.loadState f ∧ d.loadState f ≤ 3) && d.bit (fldA f 0) 27
/-- The region is loaded and released. -/
def Device.released (d : Device) (f : Nat) : Bool := d.loadState f == 4

/-- Bobbin holds the gates of field f closed (20_ R513, R514). -/
def Device.bobGated (d : Device) (f : Nat) : Bool := bitsAt d.bob.gated.toNat f 1 == 1

/-- A transition runs from On: the gates have closed (22_ R559). -/
def Device.leavingOn (d : Device) (n : Nat) : Bool := d.domOn n && d.bit (domStatA n) 29

/-- Every gate of field f is closed, whatever its enables say (09_ R262, R264; 01_ R33; 19_ R484; 18_ R466). -/
def Device.fieldHeld (d : Device) (f : Nat) : Bool :=
  d.forced f || d.leavingOn f || d.frozen f || d.underLoad f || d.sys.integrity || d.bobGated f || !d.up (halfOfField f)

/-- Field f runs: its domain On and nothing holds it (02_ R60). -/
def Device.fieldRuns (d : Device) (f : Nat) : Bool := d.domOn f && !d.fieldHeld f

/-- Output k of general PLL p gives edges: the loop is closed, or holding through a switch, and its divider is on (09_ R252, R254, R271). -/
def Device.pllGives (d : Device) (p k : Nat) : Bool :=
  d.bit (pwrA (0x118 + 32 * p)) 31 && decide (d.fld (pwrA (0x114 + 32 * p)) (8 * k) 8 ≥ 2)

/-- A slot code of half h names a source that gives edges: a PLL output, or CLKIN_h0 or CLKIN_h1 (09_ R259, R273). -/
def Device.codeGives (d : Device) (h : Half) (c : Nat) : Bool :=
  if c < 32 then d.pllGives (8 * hn h + c / 4) (c % 4) else c == 32 || c == 33

/-- The source that regional clock r of field f selects gives edges (09_ R259). -/
def Device.slotEdges (d : Device) (f r : Nat) : Bool :=
  d.codeGives (halfOfField f) (d.fld (fldA f (0x540 + 4 * r)) (8 * d.fld (fldA f (0x500 + 4 * r)) 0 2) 6)

/-- Regional clock r of field f gives edges (09_ R260, R262, R263): its gate is open, no
switch is under way, and its selected slot names a source that gives edges. -/
def Device.rclkRuns (d : Device) (f r : Nat) : Bool :=
  let c := fldA f (0x500 + 4 * r)
  let en := match d.domState f with
    | 0 => d.bit c 31
    | 1 => d.bit c 30
    | 2 => d.bit c 29
    | _ => false
  en && !d.bit c 8 && !d.fieldHeld f && d.slotEdges f r

def gateA (n : Nat) : Nat := pwrA (0x400 + 4 * n)
/-- The block clock gate of a non-field domain passes its clock in the domain's state (09_ R262, R263). -/
def Device.gateOpen (d : Device) (n : Nat) : Bool := decide (d.domState n < 3) && d.bit (gateA n) (d.domState n)

/-- The block of non-field domain n runs: its domain On with its gate open, and nothing forces or closes it (09_ R262 to R264; 01_ R33). -/
def Device.blockRuns (d : Device) (n : Nat) : Bool :=
  d.domOn n && d.gateOpen n && !d.forced n && !d.leavingOn n && !d.sys.integrity && d.up (halfOfDomain n)

/-! ### Free values -/

/-- Take a free value; log entry 1. -/
def Device.takeFree (d : Device) : Nat × Device := (Config.freeNat d.fresh, { d with fresh := d.fresh + 1 })
def Device.takeFreeBool (d : Device) : Bool × Device := (Config.freeBool d.fresh, { d with fresh := d.fresh + 1 })

/-! ### Lark time as other blocks see it (07_ R191, R217) -/

def Device.lark (d : Device) : Half → Lark
  | .w => d.time.w
  | .e => d.time.e

def Device.setLark (d : Device) (h : Half) (l : Lark) : Device :=
  match h with
  | .w => { d with time := { d.time with w := l } }
  | .e => { d with time := { d.time with e := l } }

/-- Time of half h in units of 2^−16 ns. -/
def Device.now (d : Device) (h : Half) : Nat := (d.lark h).time / 2 ^ 32

/-- The JTAG IDCODE (00_ R3): version, part number, manufacturer and the fixed 1. -/
def idVersion : BitVec 4 := 0x1
def idPart : BitVec 16 := 0xA63D
def idMaker : BitVec 11 := 0x078
def jtagIdcode : Word := idVersion ++ idPart ++ idMaker ++ 1#1

/-- 2^−16 ns in one second. -/
def tSec : Nat := 1000000000 * 65536
def timeFrac (t : Nat) : Nat := t % 65536
def timeNs (t : Nat) : Nat := t / 65536 % 1000000000
def timeSec (t : Nat) : Nat := t / tSec
/-- Lark time as 12 bytes: frac, ns, seconds [47:0]. -/
def timeBytes (t : Nat) : List Byte := leBytes (timeFrac t) 2 ++ leBytes (timeNs t) 4 ++ leBytes (timeSec t) 6

/-- Time state of a Lark (07_ R222): 0 Free-run, 1 Acquiring, 2 Locked, 3 Holdover, 4 Holdover-expired. -/
def Device.timeState (d : Device) (h : Half) : Nat := d.fld (lrkA h 4) 28 3
/-- The half leads (07_ R216). -/
def Device.leads (d : Device) (h : Half) : Bool := d.bit (lrkA h 4) 27

/-! ### Interrupts (00_ R18, R19; 12_ R334, R336) -/

/-- The active host port. -/
def Device.activePort (d : Device) : Option Half :=
  if d.bit (hptA .w 4) 31 then some .w else if d.bit (hptA .e 4) 31 then some .e else none

def natZero (_ : Nat) : Nat := 0

/-- Send an MSI-X message of the active host port. -/
def Device.msix (d : Device) (v : Nat) : Device :=
  match d.activePort with
  | some h => { d with sys := { d.sys with msix := tabMod natZero d.sys.msix (2048 * hn h + v) (· + 1) } }
  | none => d

/-- The management interrupt: raised once on each rise of an enabled status bit (R19). -/
def Device.mgmt (d : Device) : Device :=
  let line := decide ((d.reg (thmA 0x44) &&& d.reg (thmA 0x48)) ≠ 0)
  let d' := { d with sys := { d.sys with mgmtLine := line } }
  if line && !d.sys.mgmtLine then d'.msix 1 else d'

/-- Set a bit of THM_INT_STATUS, whatever its enable says (R19). -/
def Device.raiseInt (d : Device) (k : Nat) : Device := (d.setBit (thmA 0x44) k).mgmt

/-! ### Device state (00_ R11 to R18) -/

/-- Some domain of a half that is up is forced by a dead clock (01_ R33; a half clock loss is never Safe hold, 09_ R251). -/
def Device.clockCause (d : Device) : Bool :=
  (upto 64).any (fun n => d.forced n && d.up (halfOfDomain n))

def Device.safeCause (d : Device) : Nat := b2n d.clockCause + 2 * b2n d.sys.integrity

def Device.mendCount (d : Device) : Nat := d.mend.now.length

/-- Safe hold is not reported while nothing is loaded: in Blank every domain is Off (R14 gives its order). -/
def Device.modeCode (d : Device) : Nat :=
  if d.safeCause ≠ 0 then 5
  else match d.sys.mode with
    | .blank => 0
    | .loading => 1
    | .dormant => 4
    | .running => if d.mendCount ≠ 0 then 3 else 2

/-- Fields of THM_DEVICE_STATE but state_seq, from the facts (R11); a lost half's time state holds (R17). -/
def Device.stateWord (d : Device) : Nat :=
  let old := (d.reg (thmA 0x40)).toNat
  let ts (h : Half) (lo : Nat) := if d.up h then d.timeState h else bitsAt old lo 3
  d.modeCode + 16 * ts .w 4 + 256 * ts .e 8 + 4096 * d.mendCount + 2 ^ 18 * b2n d.sys.upW + 2 ^ 19 * b2n d.sys.upE
    + 2 ^ 20 * d.safeCause

/-- One update of THM_DEVICE_STATE (R16): where some field changes, state_seq advances and state_change is set (R18). -/
def Device.report (d : Device) : Device :=
  let old := (d.reg (thmA 0x40)).toNat
  let new := d.stateWord
  if bitsAt old 0 24 = bitsAt new 0 24 then d
  else
    let seq := wrap 8 (bitsAt old 24 8 + 1)
    (d.setReg (thmA 0x40) (BitVec.ofNat 32 (bitsAt new 0 24 + 2 ^ 24 * seq))).raiseInt 0

/-- An update that advances state_seq by one whatever else changes: a Thimble failover (R16). -/
def Device.reportFailover (d : Device) : Device :=
  let old := (d.reg (thmA 0x40)).toNat
  let seq := wrap 8 (bitsAt old 24 8 + 1)
  (d.setReg (thmA 0x40) (BitVec.ofNat 32 (bitsAt d.stateWord 0 24 + 2 ^ 24 * seq))).raiseInt 0

/-- What one command changes appears in one update (R16), which a failover in it makes whatever else changes. No Thimble writes the register
during a reset sequence. -/
def Device.oneUpdate (f : Device → Device) (d : Device) : Device :=
  let e := f d
  if e.sys.resetSeq.isSome then e
  else if d.sys.resetSeq.isNone && e.sys.primary != d.sys.primary then e.reportFailover
  else e.report

/-- A command's answer where its effect may change what THM_DEVICE_STATE shows. -/
def State.liftReport (s : State) (f : Device → Device) : Host.Outcome State Fault Refusal := s.lift (Device.oneUpdate f)

/-! ### Bobbin records (20_bobbin_replay) -/

def Device.bobState (d : Device) : Nat := d.fld (bobA 4) 29 3

def Device.bobHalf (d : Device) : Half → BobHalf
  | .w => d.bob.w
  | .e => d.bob.e

def Device.setBobHalf (d : Device) (h : Half) (b : BobHalf) : Device :=
  match h with
  | .w => { d with bob := { d.bob with w := b } }
  | .e => { d with bob := { d.bob with e := b } }

/-- Bytes in a half's staging. -/
def stagedBytes (b : BobHalf) : Nat := b.staging.foldl (fun n r => n + r.length) 0

/-- Field f is in the replay set in force (R501, R515). -/
def Device.replayed (d : Device) (f : Nat) : Bool := bitsAt d.bob.fields.toNat f 1 == 1

/-- During replay, the sources of field f are fed only from records (R512). -/
def Device.feeds (d : Device) (f : Nat) : Bool := d.bobState == 4 && d.bob.live && d.replayed f

/-- Lark ns and seconds [31:0], as bytes 8 to 15 of a record (R510). -/
def recTime (t : Nat) : List Byte := leBytes (timeNs t) 4 ++ leBytes (timeSec t) 4

/-- Records are taken: Recording or Triggered, past the first anchor, and the half has not stopped (R508, R509). -/
def Device.bobTakes (d : Device) (h : Half) : Bool :=
  (d.bobState == 1 || d.bobState == 2) && (d.bobHalf h).anchored && (d.bobHalf h).postLeft != some 0

/-- Stage a record, padded to 8 bytes (R505, R510): above 448 KiB the half drops every record but TIME, until its staging
has fallen below 256 KiB. -/
def Device.bobRecord (d : Device) (h : Half) (r : List Byte) : Device :=
  if !d.bobTakes h then d
  else
    let b := d.bobHalf h
    let r := r ++ List.replicate ((8 - r.length % 8) % 8) 0
    let drop := b.dropping || decide (stagedBytes b > 448 * 1024)
    if drop && r.head? != some 1 then d.setBobHalf h { b with dropping := true, dropped := b.dropped + 1 }
    else d.setBobHalf h { b with staging := b.staging ++ [r], dropping := drop }

/-- A record of one type: bytes 0 and 1, then its contents from byte 2. -/
def recOf (ty : Nat) (body : List Byte) : List Byte :=
  let n := (body.length + 2 + 7) / 8
  [BitVec.ofNat 8 ty, BitVec.ofNat 8 (n - 1)] ++ body

/-- A data record (R510, type 0x24): subtype, lane or stile and channel or engine, first cycle or byte offset, data of at
most 2,032 bytes; more is split. -/
def Device.bobData (d : Device) (h : Half) (sub unit start : Nat) (data : List Byte) : Device :=
  d.each (List.range ((data.length + 2031) / 2032)) (fun d i =>
    d.bobRecord h (recOf 0x24 ([BitVec.ofNat 8 sub, 0] ++ leBytes unit 2 ++ [0, 0] ++ leBytes (start + 2032 * i) 6 ++ [0, 0]
      ++ (data.drop (2032 * i)).take 2032)))

/-- A cycle count from the last anchor, in thread-clock ns (R501, R507). -/
def Device.bobCycle (d : Device) (h : Half) : Nat := (d.now h - (d.bobHalf h).anchorAt) / 65536

/-- A TIME record (R510). -/
def Device.bobTime (d : Device) (h : Half) : Device := d.bobRecord h (recOf 1 (timeBytes (d.now h) ++ [0, 0]))

/-- A GAP record with its cause and the dropped count, then a TIME record (R505, R510); gaps counts it. A half that drops records drops the
GAP of an event too: the GAP of the overflow itself (cause 1) stands for it. -/
def Device.bobGap (d : Device) (h : Half) (cause : Nat) : Device :=
  let b := d.bobHalf h
  if !d.bobTakes h then d
  else if cause ≠ 1 && (b.dropping || decide (stagedBytes b > 448 * 1024)) then
    d.setBobHalf h { b with dropping := true, dropped := b.dropped + 1 }
  else
    let r := recOf 3 ([BitVec.ofNat 8 cause, 0] ++ leBytes b.dropped 4 ++ recTime (d.now h))
    let d := d.setBobHalf h { b with staging := b.staging ++ [r], dropping := false, dropped := 0 }
    (d.bump (bobA 4) 0 16 1).bobTime h

/-- Trigger (R508): accepted only while Recording. Each half then writes post MiB more. -/
def Device.bobTrigger (d : Device) (source : Nat) : Device :=
  if d.bobState = 1 then
    let post := d.fld (bobA 0) 16 8 * 1048576
    let d := d.setFld (bobA 4) 29 3 2
    d.each [Half.w, Half.e] (fun d h =>
      let d := d.bobRecord h (recOf 5 ([BitVec.ofNat 8 source, 0, 0, 0, 0, 0] ++ recTime (d.now h)))
      d.setBobHalf h { d.bobHalf h with postLeft := some post })
  else d.bump (bobA 4) 16 8 1

/-- Freeze with a cause (R507 to R509): both halves stop. -/
def Device.bobFreeze (d : Device) (cause : Nat) : Device :=
  if d.bobState = 1 ∨ d.bobState = 2 ∨ d.bobState = 4 then (d.setFld (bobA 4) 29 3 3).setFld (bobA 4) 26 3 cause else d

/-! ### Fault reports (19_ R489, R490) -/

def Device.fifo (d : Device) : Half → List Report
  | .w => d.log.fifoW
  | .e => d.log.fifoE

def Device.setFifo (d : Device) (h : Half) (x : List Report) : Device :=
  match h with
  | .w => { d with log := { d.log with fifoW := x } }
  | .e => { d with log := { d.log with fifoE := x } }

/-- A fault report of half `h` (R489): into its FIFO of 1,024, or dropped and counted. A class Bobbin watches triggers it
(20_ R508). -/
def Device.fault (d : Device) (h : Half) (cls src detail : Nat) : Device :=
  let r : Report := ⟨cls, src, detail, d.now h⟩
  let d :=
    if (d.fifo h).length < 1024 then d.setFifo h (d.fifo h ++ [r])
    else
      let d := d.bumpSat (thmA 0x2420) 0 16 1
      match h with
      | .w => { d with log := { d.log with dropW := d.log.dropW + 1 } }
      | .e => { d with log := { d.log with dropE := d.log.dropE + 1 } }
  if cls ≠ 0 ∧ (cls = d.fld (bobA 0) 0 8 ∨ cls = d.fld (bobA 0) 8 8) then d.bobTrigger 3 else d

/-! ### CRC-32 (00_ R589) and CRC-16 (21_ R521) -/

/-- One step of the reflected CRC-32 per bit. -/
def crcBit (c : BitVec 32) : BitVec 32 := if c.getLsbD 0 then (c >>> 1) ^^^ 0xEDB88320 else c >>> 1

def crcByte (c : BitVec 32) (b : Byte) : BitVec 32 :=
  let c := c ^^^ b.setWidth 32
  crcBit (crcBit (crcBit (crcBit (crcBit (crcBit (crcBit (crcBit c)))))))

/-- The CRC-32 of IEEE 802.3: polynomial 0x04C1_1DB7, reflected (0xEDB8_8320), initial value and final XOR all ones. -/
def crc32 (bs : List Byte) : BitVec 32 := bs.foldl crcByte 0xFFFFFFFF ^^^ 0xFFFFFFFF

/-- Product of two polynomials modulo that of the CRC; bit 31 − i is the coefficient of x^i, so `crcBit` is the product with x. -/
def crcMul (a b : BitVec 32) : BitVec 32 :=
  ((upto 32).foldl (fun (acc : BitVec 32 × BitVec 32) i => (if a.getLsbD (31 - i) then acc.1 ^^^ acc.2 else acc.1, crcBit acc.2)) (0, b)).1

/-- x^n modulo the polynomial, for n below 2^k. -/
def crcPow : Nat → Nat → BitVec 32
  | 0, _ => 0x80000000
  | k + 1, n =>
    let h := crcPow k (n / 2)
    let s := crcMul h h
    if n % 2 = 1 then crcBit s else s

/-- The register after `n` further bytes of 0. -/
def crcZeros (c : BitVec 32) (n : Nat) : BitVec 32 := crcMul c (crcPow 40 (8 * n))

def crc16Bit (c : BitVec 16) : BitVec 16 := if c.getLsbD 15 then (c <<< 1) ^^^ 0x1021 else c <<< 1

/-- Polynomial 0x1021, initial value 0xFFFF, not reflected, no final XOR. -/
def crc16 (bs : List Byte) : BitVec 16 :=
  bs.foldl (fun c b =>
    let c : BitVec 16 := c ^^^ (b.setWidth 16).shiftLeft 8
    crc16Bit (crc16Bit (crc16Bit (crc16Bit (crc16Bit (crc16Bit (crc16Bit (crc16Bit c)))))))) 0xFFFF

/-- The answer of the last control-space access (06_ R178). -/
def Device.answer (d : Device) (st : Nat) (data : List Byte) : Device := { d with rsp := { status := st, data := data } }

/-- A write that only Thimble, master class 3, may make: any other is answered TARGET_ERR and changes nothing. -/
def Device.byThimble (d : Device) (mc : MClass) (f : Device → Device) : Device :=
  if mc.val = 3 then (f d).answer 0 [] else d.answer 8 []

/-- What the hardened block of domain n answers before anything else: HALF_DOWN (4), TARGET_OFF (2) while its domain is not On
or, where `hard` holds, is clock-failed (06_ R178; 12_ R326); else 0. -/
def blockStatus (d : Device) (n : Nat) (hard : Bool) : Nat :=
  if !d.up (halfOfDomain n) then 4 else if !d.domOn n || (hard && d.forced n) then 2 else 0

/-- An access to a block's registers: carried out where the block answers. -/
def Device.atBlock (d : Device) (n : Nat) (hard : Bool) (f : Device → Device) : Device :=
  if blockStatus d n hard = 0 then f d else d.answer (blockStatus d n hard) []

/-! ### Command lookup tables over lists -/

/-- Element `n`, or a default. -/
def nth {α : Type} (xs : List α) (n : Nat) (df : α) : α := xs.getD n df

end Sys2Proof.Machine
end

