-- ==== Sys2Proof/Machine/Fabric.lean ====
section
/-!
DEFINITION. Machine/Fabric.lean: cells, crossbars, hop registers, hedgerows, gussets and tick lines (02_fabric).
Positions are logical: local columns counted as if no mend had been made (R71), so a mend changes none of them.
-/
namespace Sys2Proof.Machine

/-! ### Defaults of the fabric's tables -/

def noTile (_ : Nat) : Option TileCfg := none
def boolFalse (_ : Nat) : Bool := false
def noGusCfg (_ : Nat) : Option GussetCfg := none
def gussetReset (_ : Nat) : Gusset := {}
def noCross (_ : Nat) : Option CrossCfg := none
def hedgeReset (_ : Nat) : HedgeChan := {}
def zero24 (_ : Nat) : BitVec 24 := 0
def noBram (_ : Nat) : Option BramCfg := none
def zero72 (_ : Nat) : BitVec 72 := 0
def portReset (_ : Nat) : PortOut := {}
def noWback (_ : Nat) : Option (Nat × BitVec 72) := none
def engineReset (_ : Nat) : Engine := {}
def segReset (_ : Nat) : Segment := {}
def laneReset (_ : Nat) : Lane := {}
def pinReset (_ : Nat) : Pin := {}

def Device.engine (d : Device) (e : Nat) : Engine := tabGet engineReset d.clv e
def Device.setEngine (d : Device) (e : Nat) (x : Engine) : Device := { d with clv := tabSet engineReset d.clv e x }
def Device.segment (d : Device) (g : Nat) : Segment := tabGet segReset d.seam.segs g
def Device.setSegment (d : Device) (g : Nat) (x : Segment) : Device :=
  { d with seam := { d.seam with segs := tabSet segReset d.seam.segs g x } }
def Device.lane (d : Device) (l : Nat) : Lane := tabGet laneReset d.lanes l
def Device.setLane (d : Device) (l : Nat) (x : Lane) : Device := { d with lanes := tabSet laneReset d.lanes l x }
def Device.pin (d : Device) (b i : Nat) : Pin := tabGet pinReset d.pins (48 * b + i)
def Device.setPin (d : Device) (b i : Nat) (x : Pin) : Device := { d with pins := tabSet pinReset d.pins (48 * b + i) x }
def Device.setFab (d : Device) (x : FabState) : Device := { d with fab := x }

/-! ### Places (R48, 01_ R20, R23) -/

def sideNat : Side → Nat
  | .north => 0
  | .east => 1
  | .south => 2
  | .west => 3

/-- The opposite side. -/
def opp (s : Nat) : Nat := (s + 2) % 4

/-- The field across a side, if the device has one and no seam lies between (R20). -/
def fieldNext (f side : Nat) : Option Nat :=
  match side with
  | 0 => if f % 4 < 3 then some (f + 1) else none
  | 1 => if f / 4 < 7 ∧ f / 4 ≠ 3 then some (f + 4) else none
  | 2 => if f % 4 > 0 then some (f - 1) else none
  | _ => if f / 4 > 0 ∧ f / 4 ≠ 4 then some (f - 4) else none

def tileKey (f col row : Nat) : Nat := 200 * (180 * f + col) + row
def tileField (t : Nat) : Nat := t / 36000
def tileCol (t : Nat) : Nat := t / 200 % 180
def tileRow (t : Nat) : Nat := t % 200

/-- Where a neighbour link of a tile leads: another tile of the field, the tile across a hedgerow, or an edge. -/
inductive Neigh
  | tile (t : Nat)
  | across (f : Nat) (t : Nat)
  | edge
deriving DecidableEq, Repr

/-- The neighbour on a side, in logical columns: the spare column of a strip is stepped over (R53, R71). -/
def neighbour (t side : Nat) : Neigh :=
  let f := tileField t; let c := tileCol t; let r := tileRow t
  match side with
  | 0 => if r < 199 then .tile (t + 1) else match fieldNext f 0 with
    | some g => .across g (tileKey g c 0)
    | none => .edge
  | 2 => if r > 0 then .tile (t - 1) else match fieldNext f 2 with
    | some g => .across g (tileKey g c 199)
    | none => .edge
  | 1 => if c = 179 then (match fieldNext f 1 with
      | some g => .across g (tileKey g 0 r)
      | none => .edge)
    else .tile (t + 200 * (if c % 18 = 15 then 2 else 1))
  | _ => if c = 0 then (match fieldNext f 3 with
      | some g => .across g (tileKey g 179 r)
      | none => .edge)
    else .tile (t - 200 * (if c % 18 = 17 then 2 else 1))

/-- Key of one direction of a crossing: sending field, side, row or column inside the field (R56). -/
def crossKey (f side idx : Nat) : Nat := 800 * f + 200 * side + idx
def crossingKey (c : Crossing) : Nat := crossKey c.field.val (sideNat c.side) c.index.val

/-- Row or column of a boundary tile along the hedgerow of a side. -/
def crossIdx (t side : Nat) : Nat := if side % 2 = 0 then tileCol t else tileRow t

/-- The field a channel enters. -/
def channelTo (k : Nat) : Option Nat := fieldNext (k / 800) (k / 200 % 4)

/-! ### Values that blocks present at port slots (R54) -/

/-- Position of a block-memory hard column in the list 0, 1, 2, 4, 5, 6, 8, 9 (03_ R73). -/
def bramCol (h : Nat) : Nat := if h < 3 then h else if h < 7 then h - 1 else h - 2

/-- Data bits of a block-memory port: its width, or 72 in simple dual-port mode (03_ R75, R77). -/
def portWidth (c : BramCfg) (port : Nat) : Nat := if c.sdp then 72 else if port = 0 then c.widthA else c.widthB

/-- A value on a port's data outputs: bits above those used are 0 (03_ R75). -/
def portMask (c : BramCfg) (port : Nat) (v : BitVec 72) : BitVec 72 := v &&& BitVec.ofNat 72 (2 ^ portWidth c port - 1)

/-- What a block-memory port's data outputs show (03_ R83). -/
def bramDout (d : Device) (n port : Nat) : BitVec 72 :=
  let o := tabGet portReset d.bram.ports (2 * n + port)
  match tabGet noBram d.bram.cfg n with
  | some c => portMask c port (if (if port = 0 then c.oregA else c.oregB) then o.oreg else o.latch)
  | none => 0

/-- The 36 output bits at a port's slots: in simple dual-port mode both ports show halves of port B's word (03_ R77). -/
def bramPortOut (d : Device) (n port : Nat) : BitVec 72 :=
  match tabGet noBram d.bram.cfg n with
  | some c => if c.sdp then (bramDout d n 1).ushiftRight (36 * port) else bramDout d n port
  | none => 0

def bramErr (d : Device) (n : Nat) : BitVec 2 :=
  let o := tabGet portReset d.bram.ports (2 * n + 1)
  match tabGet noBram d.bram.cfg n with
  | some c => if c.oregB then o.oregErr else o.latchErr
  | none => 0

/-- A gusset is full as its write side sees it, or has entries its read side sees (R63, R64). -/
def Gusset.full (g : Gusset) : Bool := decide (g.entries.length + g.unfreed ≥ 32)
def Gusset.level (g : Gusset) : Nat := g.entries.length + g.unfreed
def Gusset.empty (g : Gusset) : Bool := g.seen == 0

/-- Bit of the head entry; free while no entry is visible. -/
def Gusset.headBit (g : Gusset) (key n : Nat) : Bool :=
  if g.empty then Config.idleData key n else (g.entries.headD 0).getLsbD n

/-- Output `n` of fabric gusset `k` (03_ R80): rd_data, then full, almost_full, empty. -/
def gussetOut (d : Device) (k n : Nat) : Bool :=
  let g := tabGet gussetReset d.fab.gussets k
  if n < 72 then g.headBit k n
  else if n = 72 then g.full
  else if n = 73 then (match tabGet noGusCfg d.fab.gusCfg k with
    | some c => decide (g.level ≥ c.thr.val)
    | none => false)
  else g.empty

/-- Stream clock selects of an engine: in0, in1, out0, out1, ctl (04_ R129). -/
def Engine.clkSel (e : Engine) (n : Nat) : Nat := bitsAt e.streamClk.toNat (4 * n) 4
/-- The stream's select is 15: disabled (04_ R112). -/
def Engine.streamOff (e : Engine) (n : Nat) : Bool := e.clkSel n == 15
def Engine.stream (e : Engine) : Nat → Gusset
  | 0 => e.in0
  | 1 => e.in1
  | 2 => e.out0
  | _ => e.out1
def Engine.setStream (e : Engine) (n : Nat) (g : Gusset) : Engine :=
  match n with
  | 0 => { e with in0 := g }
  | 1 => { e with in1 := g }
  | 2 => { e with out0 := g }
  | _ => { e with out1 := g }

/-- Engine outputs at row `r`, slot `n` of its site (04_ R110, R124). With ctl_clk = 15 there is no ctl clock, and what busy, done, err and flag
then show the spec does not say: DESIGN CHOICE, 0 (log entry 85). -/
def cloverOut (d : Device) (e r n : Nat) : Bool :=
  let x := d.engine e
  let ctl := !(x.clkSel 4 == 15)
  match r with
  | 0 => n == 96 && !x.streamOff 0 && !x.in0.full
  | 1 => n == 96 && !x.streamOff 1 && !x.in1.full
  | 2 => if n < 144 then x.out0.headBit (4 * e + 2) (n - 96)
    else if n = 144 then !x.streamOff 2 && !x.out0.empty else n == 145 && x.out0.headBit (4 * e + 2) 48
  | 3 => if n < 144 then x.out1.headBit (4 * e + 3) (n - 96)
    else if n = 144 then !x.streamOff 3 && !x.out1.empty else n == 145 && x.out1.headBit (4 * e + 3) 48
  | 4 => ctl && (match n with
    | 96 => x.state == .running
    | 97 => x.done
    | 98 => x.state == .error
    | 99 | 100 | 101 | 102 => x.pflag.getLsbD (n - 99)
    | _ => false)
  | _ => false

/-- Port slot `n`, 96 to 159, of an interface tile (R54, R65; 03_ R79, R80; 04_ R110). -/
def slotValue (d : Device) (t n : Nat) : Bool :=
  let f := tileField t; let h := tileCol t / 18; let r := tileRow t
  if h = 3 ∨ h = 7 then
    let k := if h = 3 then 0 else 1
    if n = 159 then (r % 25 == 0) && d.fab.tickHigh.contains (16 * f + 8 * k + r / 25)
    else if r < 192 then cloverOut d (48 * f + 24 * k + r / 8) (r % 8) n else false
  else
    let j := bramCol h
    if n = 159 then false
    else if n ≥ 156 then gussetOut d (64 * f + 8 * j + r / 25) (3 * (r % 25) + (n - 156))
    else if r < 192 then
      let m := 384 * f + 48 * j + r / 4
      match r % 4 with
      | 0 => decide (n ≤ 131) && (bramPortOut d m 0).getLsbD (n - 96)
      | 1 => decide (n ≤ 131) && (bramPortOut d m 1).getLsbD (n - 96)
      | 2 => (n == 96 && d.bram.coll.contains m) || (n == 97 && (bramErr d m).getLsbD 0)
          || (n == 98 && (bramErr d m).getLsbD 1)
      | _ => false
    else false

/-! ### Values at the device edges (17_pins R435; 11_transceivers R312, R313) -/

/-- The pin bank and first pin of the 12 that meet the tile in row 0 or 799 of local column 89 or 107 (17_ R434). -/
def edgePin (f col : Nat) (top : Bool) (m : Nat) : Nat × Nat :=
  let j := 2 * (f / 4 % 4) + (if col = 107 then 1 else 0)
  (4 * (f / 16) + (if top then 2 else 0) + j / 4, 12 * (j % 4) + m)

/-- Lane output `p` of a lane's port toward the fabric (11_ R313). -/
def laneOut (d : Device) (l p : Nat) : Bool :=
  let x := d.lane l
  let raw := d.fld (laneA l 0x100) 26 3 == 1 && d.fld (laneA l 0x100) 12 4 != 15
  if p < 80 then raw && (x.rx.headD 0).getLsbD p
  else match p with
    | 80 => raw && !x.rx.isEmpty
    | 81 => raw && decide (x.tx.length < 32)
    | 82 => d.bit (laneA l 0x10C) 30
    | 83 => d.bit (laneA l 0x10C) 29
    | 84 => d.bit (laneA l 0x10C) 28
    | 85 => x.delim
    | _ => false

/-- The lane whose port takes row `r` of field row y, half h, and the port number of wire `w` (11_ R312). -/
def edgeLane (h y r w : Nat) : Option (Nat × Nat) :=
  if r = 0 ∨ r = 199 then none
  else
    let m := (r - 1) / 11
    let p := 24 * ((r - 1) % 11) + w
    if p < 264 then some (72 * h + 18 * y + m, p) else none

/-- Wire `w` of an outward neighbour input (R49). -/
def edgeIn (d : Device) (t side w : Nat) : Bool :=
  let f := tileField t; let c := tileCol t
  match side with
  | 0 => if (c = 89 ∨ c = 107) ∧ w < 12 then
      let q := edgePin f c true w; (d.pin q.1 q.2).filtered
    else false
  | 2 => if (c = 89 ∨ c = 107) ∧ w < 12 then
      let q := edgePin f c false w; (d.pin q.1 q.2).filtered
    else false
  | s =>
    if (s = 3 ∧ f / 4 = 0) ∨ (s = 1 ∧ f / 4 = 7) then
      match edgeLane (if s = 3 then 0 else 1) (f % 4) (tileRow t) w with
      | some (l, p) => laneOut d l p
      | none => false
    else false

/-! ### Seam inputs (10_seam R274, R277, R280, R283) -/

/-- The sender of a direction is live (10_ R282): its field runs, its seam clock too; a network segment's half is up. -/
def segLive (d : Device) (g : Nat) (intoE : Bool) : Bool :=
  if g < 100 then
    let f := if intoE then 12 + g / 25 else 16 + g / 25
    let r := d.fld (seamA (0x1000 + 64 * g)) (if intoE then 8 else 12) 4
    d.fieldRuns f && r < 12 && d.rclkRuns f r
  else d.up (if intoE then .w else .e)

/-- A direction of a segment is up at its receiving end, the east end for `true` (10_ R283). A fabric wire presents the first value launched after
the release three cycles later (R280, R292). -/
def segUp (d : Device) (g : Nat) (intoE : Bool) : Bool :=
  let s := d.segment g
  s.trained && s.released && !s.remap && !d.bit (seamA (0x1004 + 64 * g)) 29
    && !(if intoE then s.lostE else s.lostW) && segLive d g intoE
    && (decide (100 ≤ g) || (if intoE then s.pipeE else s.pipeW).length == 4)

/-- The receive stitch registers of a direction: the fourth value from the newest launched (R280). -/
def seamStitch (s : Segment) (intoE : Bool) : BitVec 32 := nth (if intoE then s.pipeE else s.pipeW) 3 0

/-- Wire `w` of a seam input of the tile in row Y of the seam column; eastward inputs are those of half E. -/
def seamIn (d : Device) (intoE : Bool) (Y w : Nat) : Bool :=
  let g := Y / 8; let j := Y % 8
  if w < 4 then
    let s := d.segment g
    if segUp d g intoE then (seamStitch s intoE).getLsbD (4 * j + w)
    else
      let k := (if intoE then 0 else 32) + 4 * j + w
      match d.fld (seamA (0x4000 + 16 * g + 4 * (k / 16))) (2 * (k % 16)) 2 with
      | 1 => false
      | 2 => true
      | _ => (if intoE then s.lastE else s.lastW).getLsbD (4 * j + w)
  else w == 23 && j == 0 && segUp d g intoE

/-! ### Combinational values (R39, R46 to R52) -/

def Device.tileCfg (d : Device) (t : Nat) : Option TileCfg := tabGet noTile d.fab.tiles t

def listGet {α : Type} (df : α) : List (Nat × α) → Nat → α
  | [], _ => df
  | (k, v) :: xs, n => if k = n then v else listGet df xs n

def selOf (c : TileCfg) (n : Nat) : Nat := (listGet (254 : BitVec 8) c.sinks n).toNat
def cellOf (c : TileCfg) (i : Nat) : Option CellCfg := listGet none (c.cells.map (fun x => (x.1, some x.2))) i
def isCarry (c : TileCfg) (i : Nat) : Bool :=
  match cellOf c i with
  | some x => x.mode == .carry
  | none => false

/-- A wire of a crossing as its receiving tile sees it (R57 to R59): the live wire of a plain crossing, its hold value while
the sender does not run, or the receive side of a hedged channel: data, valid, and on wire 23 the credit state of the
channel the tile itself sends. `k` is the sender's key, `kb` that of the opposite direction. -/
def heldWire (d : Device) (k w : Nat) : Bool :=
  match tabGet noCross d.fab.crossCfg k with
  | some c => (match bitsAt c.hold.toNat (2 * w) 2 with
    | 1 => false
    | 2 => true
    | _ => (tabGet zero24 d.fab.lastVal k).getLsbD w)
  | none => (tabGet zero24 d.fab.lastVal k).getLsbD w

def hedged (d : Device) (k : Nat) : Bool :=
  match tabGet noCross d.fab.crossCfg k with
  | some c => c.hedged
  | none => false

def hedgeWire (d : Device) (k kb w : Nat) : Bool :=
  let ch := tabGet hedgeReset d.fab.hedges k
  if w < 22 then (if ch.buffer.isEmpty then Config.idleData (100000 + k) w else (ch.buffer.headD 0).getLsbD w)
  else if w = 22 then !ch.buffer.isEmpty
  else decide ((tabGet hedgeReset d.fab.hedges kb).credits > 0)

/-- The value of a signal of tile `t`, with fuel for the depth of its combinational path. Codes 0 to 255 are the selects of
R46; code 512 + 24 side + w is neighbour output w of a side (R47, R51). -/
def sig (d : Device) : Nat → Nat → Nat → Bool
  | 0, _, _ => false
  | fuel + 1, t, code =>
    match d.tileCfg t with
    | none =>
      if 96 ≤ code ∧ code < 160 ∧ tileCol t % 18 = 17 then slotValue d t code else code == 255
    | some c =>
      if code < 96 then
        let side := code / 24; let w := code % 24
        match neighbour t side with
        | .tile u => sig d fuel u (512 + 24 * opp side + w)
        | .across g u =>
          let k := crossKey g (opp side) (crossIdx u (opp side))
          if hedged d k then hedgeWire d k (crossKey (tileField t) side (crossIdx t side)) w
          else if d.fieldRuns g then sig d fuel u (512 + 24 * opp side + w)
          else heldWire d k w
        | .edge =>
          let f := tileField t; let Y := 200 * (f % 4) + tileRow t
          if side = 1 ∧ f / 4 = 3 then seamIn d false Y w
          else if side = 3 ∧ f / 4 = 4 then seamIn d true Y w
          else edgeIn d t side w
      else if code < 128 then
        if tileCol t % 18 = 17 then slotValue d t code
        else
          let i := (code - 96) / 2
          match cellOf c i with
          | none => false
          | some x =>
            let pin (p : Nat) : Nat := b2n (sig d fuel t (selOf c (6 * i + p)))
            let low := pin 0 + 2 * pin 1 + 4 * pin 2 + 8 * pin 3 + 16 * pin 4
            let second := code % 2 == 1
            match x.mode with
            | .whole => !second && x.tt.getLsbD (low + 32 * pin 5)
            | .fractured => x.tt.getLsbD (low + if second then 0 else 32)
            | .carry =>
              let p := x.tt.getLsbD (32 + low)
              let g := x.tt.getLsbD low
              let cin := if i > 0 && isCarry c (i - 1) then sig d fuel t (97 + 2 * (i - 1)) else sig d fuel t c.ci.toNat
              if second then (if p then cin else g) else p != cin
      else if code < 160 then
        if tileCol t % 18 = 17 then slotValue d t code
        else tabGet boolFalse d.fab.ffs (32 * t + (code - 128))
      else if code = 253 then
        if tileRow t = 0 then false
        else (match d.tileCfg (t - 1) with
          | some s => isCarry s 15 && sig d fuel (t - 1) 127
          | none => false)
      else if code < 512 then code == 255
      else
        let o := code - 512
        if (listGet none (c.hops.map (fun x => (x.1, some x.2))) o).isSome then tabGet boolFalse d.fab.hops (96 * t + o)
        else sig d fuel t (selOf c (96 + o))

/-- A depth no loop-free configuration exceeds: every signal of every configured tile once (R50). -/
def Device.depth (d : Device) : Nat := 512 * d.fab.tiles.length + 2

def Device.sigAt (d : Device) (t code : Nat) : Bool := sig d d.depth t code

/-- The 24 outputs of a side of a tile. -/
def Device.sideOut (d : Device) (t side : Nat) : BitVec 24 :=
  (upto 24).foldl (fun v w => if d.sigAt t (512 + 24 * side + w) then v ||| (BitVec.ofNat 24 (2 ^ w)) else v) 0

/-! ### Registers of the fabric (R40, R41, R43, R44, R51) -/

def Device.tilesOf (d : Device) (f : Nat) : List (Nat × TileCfg) :=
  d.fab.tiles.filterMap (fun kv => if tileField kv.1 = f then kv.2.map (fun c => (kv.1, c)) else none)

/-- Set/reset control of a flip-flop: tap sr0 or sr1. -/
def srOf (d : Device) (t : Nat) (c : TileCfg) (x : FfCfg) : Bool :=
  match x.sr.val with
  | 0 => d.sigAt t c.sr0.toNat
  | 1 => d.sigAt t c.sr1.toNat
  | _ => false

def ceOf (d : Device) (t : Nat) (c : TileCfg) (x : FfCfg) : Bool :=
  match x.ce.val with
  | 0 => d.sigAt t c.ce0.toNat
  | 1 => d.sigAt t c.ce1.toNat
  | _ => true

/-- Every flip-flop of a field: key, tile, tile configuration, cell, which, configuration. -/
def Device.flopsOf (d : Device) (f : Nat) : List (Nat × Nat × TileCfg × Nat × Bool × FfCfg) :=
  (d.tilesOf f).flatMap (fun tc => tc.2.cells.flatMap (fun ic =>
    [(32 * tc.1 + 2 * ic.1, tc.1, tc.2, ic.1, false, ic.2.ff0), (32 * tc.1 + 2 * ic.1 + 1, tc.1, tc.2, ic.1, true, ic.2.ff1)]))

/-- Every hop register of a field: key, tile, tile configuration, output, initial value. -/
def Device.hopsOf (d : Device) (f : Nat) : List (Nat × Nat × TileCfg × Nat × Bool) :=
  (d.tilesOf f).flatMap (fun tc => tc.2.hops.map (fun h => (96 * tc.1 + h.1, tc.1, tc.2, h.1, h.2)))

/-- A flip-flop after a rising edge of its clock, global set/reset not asserted (R43, cases 2 to 5). -/
def flopNext (d : Device) (x : Nat × Nat × TileCfg × Nat × Bool × FfCfg) : Bool :=
  let t := x.2.1; let c := x.2.2.1; let i := x.2.2.2.1; let ff := x.2.2.2.2.2
  if srOf d t c ff then ff.srVal
  else if ceOf d t c ff then
    (if ff.fromF then d.sigAt t (selOf c (6 * i + 5)) else d.sigAt t (96 + 2 * i + b2n x.2.2.2.2.1))
  else tabGet boolFalse d.fab.ffs x.1

def setBools (t : Tab Bool) (xs : List (Nat × Bool)) : Tab Bool := xs.foldl (fun t x => tabSet boolFalse t x.1 x.2) t

/-- Global set/reset is asserted on field f (R44): Loading, a partial load or a wake until release, or a pulse. -/
def Device.gsrOn (d : Device) (f : Nat) : Bool :=
  (d.sys.mode == .loading) || !d.released f || d.fab.pulse.contains f

/-- The regional clock of a flip-flop: clk0 or clk1 of its tile (R41). -/
def flopClk (c : TileCfg) (x : FfCfg) : Nat := if x.clk1 then c.clk1.val else c.clk0.val

/-- A register of clock r of field f holds its initial value: global set/reset, or the second edge after it is still to
come (R43 case 1, R44). -/
def Device.gsrHeld (d : Device) (f r : Nat) : Bool := d.gsrOn f || decide (tabGet natZero d.fab.gsrWait (12 * f + r) > 0)

/-- The asynchronous cases once over every running field (R43 case 2; case 1 comes first). -/
def asyncOnce (d : Device) : Device :=
  let xs := (upto 32).flatMap (fun f => if d.fieldRuns f then
      (d.flopsOf f).filterMap (fun x =>
        let c := x.2.2.1; let ff := x.2.2.2.2.2
        if ff.async && !d.gsrHeld f (flopClk c ff) && srOf d x.2.1 c ff then some (x.1, ff.srVal) else none) else [])
  d.setFab { d.fab with ffs := setBools d.fab.ffs xs }

/-- Asynchronous set/reset does not wait for an edge: it is applied until nothing changes. `n` bounds the rounds. -/
def asyncLoop (d : Device) : Nat → Device
  | 0 => d
  | n + 1 => let d' := asyncOnce d; if d'.fab = d.fab then d else asyncLoop d' n

/-- What follows at once from a change of any fabric input. -/
def Device.settle (d : Device) : Device := asyncLoop d (32 * d.fab.tiles.length + 1)

/-- Every flip-flop and hop register of field f at its initial value. -/
def Device.initFlops (d : Device) (f : Nat) : Device :=
  d.setFab { d.fab with
    ffs := setBools (tabDrop (fun k => k / 1152000 == f) d.fab.ffs)
      ((d.flopsOf f).map (fun x => (x.1, x.2.2.2.2.2.init)))
    hops := setBools (tabDrop (fun k => k / 3456000 == f) d.fab.hops)
      ((d.hopsOf f).map (fun x => (x.1, x.2.2.2.2))) }

/-- The launch of the sender's seam registers on an edge (10_ R280): eastward from F(3,y), westward from F(4,y). -/
def seamLaunch (d0 : Device) (g : Nat) (east : Bool) (d : Device) : Device :=
  let y := g / 25
  let col := if east then 179 else 0
  let f := if east then 12 + y else 16 + y
  let word := (upto 32).foldl (fun (v : BitVec 32) k =>
    let t := tileKey f col ((8 * g) % 200 + k / 4)
    if d0.sigAt t (512 + 24 * (if east then 1 else 3) + k % 4) then v ||| BitVec.ofNat 32 (2 ^ k) else v) 0
  let s := d.segment g
  if !(s.trained && s.released && !s.remap) then d
  else
  let s := if east then { s with pipeE := (word :: s.pipeE).take 4 } else { s with pipeW := (word :: s.pipeW).take 4 }
  let d := d.setSegment g s
  if segUp d g east then
    d.setSegment g (if east then { s with lastE := seamStitch s true } else { s with lastW := seamStitch s false })
  else d

/-- The seam segments of a field's row that its clock r launches. -/
def seamEdges (f r : Nat) (d0 d : Device) : Device :=
  if f / 4 = 3 ∨ f / 4 = 4 then
    d.each (upto 25) (fun d i =>
      let g := 25 * (f % 4) + i
      let cfg := seamA (0x1000 + 64 * g)
      if d0.bit cfg 0 && d0.fld cfg (if f / 4 = 3 then 8 else 12) 4 == r then seamLaunch d0 g (f / 4 == 3) d else d)
  else d

/-- Values of a table changed in place, the canonical form kept. -/
def tabMap {α : Type} [DecidableEq α] (df : Nat → α) (t : Tab α) (g : Nat → α → α) : Tab α :=
  t.filterMap (fun kv => if g kv.1 kv.2 = df kv.1 then none else some (kv.1, g kv.1 kv.2))

/-- done is high for one ctl cycle (04_ R124). -/
def doneFall (f r : Nat) (d : Device) : Device :=
  let clv : Tab Engine := d.clv
  { d with clv := tabMap engineReset clv (fun k e => if k / 48 == f && e.clkSel 4 == r then { e with done := false } else e) }

/-! ### Stopping a field: what its crossings hold (R57, R60) -/

/-- Boundary tiles of a field's side that are configured. -/
def boundaryTiles (d : Device) (f side : Nat) : List Nat :=
  (d.tilesOf f).filterMap (fun tc =>
    let c := tileCol tc.1; let r := tileRow tc.1
    let on := match side with
      | 0 => r == 199
      | 1 => c == 179
      | 2 => r == 0
      | _ => c == 0
    if on then some tc.1 else none)

/-- Keep the values last driven across every plain crossing out of field f. -/
def Device.holdValues (d : Device) (f : Nat) : Device :=
  let xs := (upto 4).flatMap (fun side => (boundaryTiles d f side).map (fun t =>
    (crossKey f side (crossIdx t side), d.sideOut t side)))
  d.setFab { d.fab with
    lastVal := xs.foldl (fun t x => tabSet zero24 t x.1 x.2) (tabDrop (fun k => k / 800 == f) d.fab.lastVal) }

/-- Do `act`, which stops field f if it ran: its crossings then hold what they last drove; ticks on their way are lost
(R65). -/
def Device.stopping (d : Device) (f : Nat) (act : Device → Device) : Device :=
  if d.fieldRuns f then
    let d' := act (d.holdValues f)
    if d'.fieldRuns f then d'
    else d'.setFab { d'.fab with
      ticks := tabDrop (fun k => k / 16 == f) d'.fab.ticks
      tickHigh := d'.fab.tickHigh.filter (fun k => !(k / 16 == f)) }
  else act d

/-! ### Global set/reset (R44, R45; 04_ R125; 03_ R78) -/

def zero48 (_ : Nat) : BitVec 48 := 0

/-- A result reaches its complex register (05_ R143). -/
def cLand (c : Tab (BitVec 48)) (w : CWrite) : Tab (BitVec 48) :=
  let old := tabGet zero48 c w.reg
  let re := if w.re then w.val.extractLsb' 0 24 else old.extractLsb' 0 24
  let im := if w.im then w.val.extractLsb' 24 24 else old.extractLsb' 24 24
  tabSet zero48 c w.reg (im ++ re)

/-- Every result in flight lands (05_ R147). -/
def landAll (e : Engine) : Engine := { e with c := e.land.foldl cLand e.c, land := [], aOld := e.a, bubble := 0 }

/-- An engine under global set/reset (04_ R125, 05_ R153). -/
def engineGsr (e : Engine) : Engine :=
  { landAll e with
    state := .idle, cause := 7, rot := 0, in0 := {}, in1 := {}, out0 := {}, out1 := {}, cascade := none
    k0 := { e.k0 with active := false }, k1 := { e.k1 with active := false }, held := {} }

/-- A port under global set/reset: its output register, or its latch without one, takes its initial value; the value is no decoded
word, so no error shows with it (03_ R78, R89). -/
def portGsr (c : BramCfg) (port : Nat) (o : PortOut) : PortOut :=
  let v := portMask c port (if port = 0 then c.initA else c.initB)
  if (if port = 0 then c.oregA else c.oregB) then { o with oreg := v, oregErr := 0 } else { o with latch := v, latchErr := 0 }

/-- Global set/reset of field f: registers, block-memory outputs, gussets, engines. Words in the buffers of hedged channels stay but for
a pulse (R45, R60). -/
def Device.gsrField (d : Device) (f : Nat) : Device :=
  let d := d.initFlops f
  let ports := (d.bram.cfg.filter (fun kv => kv.1 / 384 == f)).foldl (fun t kv =>
    match kv.2 with
    | some c =>
      let t := tabSet portReset t (2 * kv.1) (portGsr c 0 (tabGet portReset t (2 * kv.1)))
      tabSet portReset t (2 * kv.1 + 1) (portGsr c 1 (tabGet portReset t (2 * kv.1 + 1)))
    | none => t) d.bram.ports
  let d := { d with bram := { d.bram with ports := ports } }
  let d := d.setFab { d.fab with gussets := tabDrop (fun k => k / 64 == f) d.fab.gussets }
  let es := upto 48
  { d with clv := es.foldl (fun t i =>
      let e := 48 * f + i
      tabSet engineReset t e (engineGsr (tabGet engineReset t e))) d.clv }

/-- A pulse empties the receive buffers of the hedged channels that enter field f; their credits go back (R45). -/
def Device.hedgesFlush (d : Device) (f : Nat) : Device :=
  d.setFab { d.fab with hedges := tabMap hedgeReset d.fab.hedges (fun k c =>
    if channelTo k = some f then { c with buffer := [], returning := c.returning + c.buffer.length } else c) }

/-- Each register follows R43 again from the second edge of its own clock (R44). -/
def Device.gsrRelease (d : Device) (f : Nat) : Device :=
  d.setFab { d.fab with
    pulse := d.fab.pulse.filter (fun x => x != f)
    gsrWait := (upto 12).foldl (fun t r => tabSet natZero t (12 * f + r) 2) d.fab.gsrWait }

/-- A pulse request (R45): deferred while the field is frozen; a second request before the first ends has no effect,
nor has one to a field that is not On. -/
def gsrPulse (f : Nat) (d : Device) : Device :=
  if !d.domOn f then d
  else if d.frozen f then d.setBit (fldA f 0x100) 1
  else if d.fab.pulse.contains f then d
  else
    let d := if d.replayed f then d.bobGap (halfOfField f) 5 else d
    let d := (d.gsrField f).hedgesFlush f
    d.setFab { d.fab with pulse := f :: d.fab.pulse }

/-- GSR_PULSE_WRITE. -/
def execGsrPulseWrite (f : Fin 32) (s : State) : Host.Outcome State Fault Refusal := s.lift (gsrPulse f.val)

/-- GSR_PULSE_END: after 256 ns. -/
def gsrPulseEnd (f : Nat) (d : Device) : Device := if d.fab.pulse.contains f then d.gsrRelease f else d

def execGsrPulseEnd (f : Fin 32) (s : State) : Host.Outcome State Fault Refusal := s.lift (gsrPulseEnd f.val)

/-! ### Hedged channels (R58 to R61) -/

def Device.hedge (d : Device) (k : Nat) : HedgeChan := tabGet hedgeReset d.fab.hedges k
def Device.setHedge (d : Device) (k : Nat) (h : HedgeChan) : Device :=
  d.setFab { d.fab with hedges := tabSet hedgeReset d.fab.hedges k h }

/-- A word on the crossing register enters the buffer on the next cycle (R59). -/
def hedgeAdvance (h : HedgeChan) : HedgeChan :=
  match h.crossing with
  | some w => { h with crossing := none, buffer := h.buffer ++ [w] }
  | none => h

/-- The boundary tile a channel leaves from, and the one it enters. -/
def hedgeTile (k : Nat) : Nat :=
  let f := k / 800; let i := k % 200
  match k / 200 % 4 with
  | 0 => tileKey f i 199
  | 1 => tileKey f 179 i
  | 2 => tileKey f i 0
  | _ => tileKey f 0 i
def hedgeInto (k : Nat) : Option Nat := (channelTo k).map (fun g => hedgeTile (crossKey g (opp (k / 200 % 4)) (k % 200)))

/-- A boundary tile gets edges of its clk0 (R58); a tile that nothing configures has none of its own, and its field runs. -/
def Device.clk0Runs (d : Device) (t : Nat) : Bool :=
  d.fieldRuns (tileField t) && (match d.tileCfg t with
    | some c => d.rclkRuns (tileField t) c.clk0.val
    | none => true)

/-- The word a sender offers: what its tile's outputs toward the neighbour drive while wire 22, s_valid, is 1 (R58, R59). At a tile that
nothing configures, `word` stands for what the design drives. -/
def hedgeOffer (d : Device) (k : Nat) (word : BitVec 22) : Option (BitVec 22) :=
  let t := hedgeTile k
  if (d.tileCfg t).isSome then
    let v := d.sideOut t (k / 200 % 4)
    if v.getLsbD 22 then some (v.setWidth 22) else none
  else some word

/-- A receiver asks for the head: wire 23 of its tile's outputs back toward the sender, r_ready (R58, R59). -/
def hedgeAsks (d : Device) (k : Nat) : Bool :=
  match hedgeInto k with
  | some t => if (d.tileCfg t).isSome then (d.sideOut t (opp (k / 200 % 4))).getLsbD 23 else true
  | none => false

/-- One edge of the sender's clock: an earlier word moves on, and the word offered is taken while a credit is there. -/
def hedgeTake (h : HedgeChan) (offer : Option (BitVec 22)) : HedgeChan :=
  let h := hedgeAdvance h
  match offer with
  | some w => if h.credits > 0 then { h with credits := h.credits - 1, crossing := some w } else h
  | none => h

/-- The receiver pops its head; the credit starts back. -/
def hedgeDrop (h : HedgeChan) : HedgeChan :=
  match h.buffer with
  | [] => h
  | _ :: xs => { h with buffer := xs, returning := h.returning + 1 }

/-- HEDGE_TRANSFER: an edge of the sender's clock with s_valid. The word is taken where s_ready, that is a credit, is there and the
sending field runs. -/
def hedgeTransfer (k : Nat) (word : BitVec 22) (d : Device) : Device :=
  if hedged d k && d.clk0Runs (hedgeTile k) then d.setHedge k (hedgeTake (d.hedge k) (hedgeOffer d k word)) else d

def execHedgeTransfer (c : Crossing) (word : BitVec 22) (s : State) : Host.Outcome State Fault Refusal :=
  s.lift (fun d => (hedgeTransfer (crossingKey c) word d).settle)

/-- HEDGE_POP: an edge of the receiver's clock with r_ready. The head is popped where the receiving field runs; a word on the crossing
register moves into the buffer on the same edge. -/
def hedgePop (k : Nat) (d : Device) : Device :=
  match hedgeInto k with
  | some t =>
    if hedged d k && d.clk0Runs t then
      let h := d.hedge k
      d.setHedge k (hedgeAdvance (if hedgeAsks d k then hedgeDrop h else h))
    else d
  | none => d

def execHedgePop (c : Crossing) (s : State) : Host.Outcome State Fault Refusal :=
  s.lift (fun d => (hedgePop (crossingKey c) d).settle)

/-- HEDGE_CREDIT_RETURN: a credit on its way reaches the sender; the side no longer stalls on this channel. -/
def hedgeCredit (k : Nat) (d : Device) : Device :=
  let h := d.hedge k
  if h.returning > 0 then
    let d := d.setHedge k { h with credits := h.credits + 1, returning := h.returning - 1 }
    d.setFab { d.fab with stalled := d.fab.stalled.filter (fun x => x != k) }
  else d

def execHedgeCreditReturn (c : Crossing) (s : State) : Host.Outcome State Fault Refusal :=
  s.lift (fun d => (hedgeCredit (crossingKey c) d).settle)

/-- HEDGED_STALL: 1 µs with s_ready at 0 in a running field (R61). -/
def hedgedStall (k : Nat) (d : Device) : Device :=
  if hedged d k && d.fieldRuns (k / 800) && (d.hedge k).credits == 0 && !d.fab.stalled.contains k then
    d.setFab { d.fab with stalled := k :: d.fab.stalled }
  else d

def execHedgedStall (c : Crossing) (s : State) : Host.Outcome State Fault Refusal :=
  s.lift (hedgedStall (crossingKey c))

/-- Crossings along a side: 180 columns north and south, 200 rows east and west (R56, 01_ R20). -/
def sideLength (side : Nat) : Nat := if side % 2 = 0 then 180 else 200

/-- FLD_HEDGE_STATUS of field f (R61, R67), from the channels and neighbours as they stand. -/
def hedgeStatus (d : Device) (f : Nat) : Word :=
  let sideBit (side : Nat) : Nat := 3 - side
  let stall := (upto 4).foldl (fun n side =>
    n + (if d.fieldRuns f && d.fab.stalled.any (fun k => k / 800 == f && k / 200 % 4 == side) then 2 ^ sideBit side else 0)) 0
  let hold := (upto 4).foldl (fun n side =>
    n + (match fieldNext f side with
      | some g => if d.fieldRuns f && !d.fieldRuns g && (upto (sideLength side)).any (fun i => !hedged d (crossKey g (opp side) i))
          then 2 ^ (4 + sideBit side) else 0
      | none => 0)) 0
  BitVec.ofNat 32 (stall + hold)

/-! ### Gussets (R62 to R64; 04_ R109, R111, R112) -/

/-- An entry is written at the write side. -/
def Gusset.push (g : Gusset) (w : BitVec 72) : Gusset := { g with entries := g.entries ++ [w] }
/-- The head is popped at the read side; its place is not free yet. -/
def Gusset.pop (g : Gusset) : Gusset := { entries := g.entries.drop 1, seen := g.seen - 1, unfreed := g.unfreed + 1 }
def Gusset.show (g : Gusset) : Gusset := if g.seen < g.entries.length then { g with seen := g.seen + 1 } else g
def Gusset.release (g : Gusset) : Gusset := if g.unfreed > 0 then { g with unfreed := g.unfreed - 1 } else g

def Device.gusset (d : Device) (k : Nat) : Gusset := tabGet gussetReset d.fab.gussets k
def Device.setGusset (d : Device) (k : Nat) (g : Gusset) : Device :=
  d.setFab { d.fab with gussets := tabSet gussetReset d.fab.gussets k g }

/-- An engine's stream has a clock that runs, on the fabric side. -/
def Device.streamClkRuns (d : Device) (e n : Nat) : Bool :=
  let x := d.engine e
  !x.streamOff n && d.rclkRuns (e / 48) (x.clkSel n)

/-- The hard column that position j of the list 0, 1, 2, 4, 5, 6, 8, 9 stands for (R62; 03_ R73). -/
def bramHard (j : Nat) : Nat := nth [0, 1, 2, 4, 5, 6, 8, 9] j 0
/-- Interface tile of hard column h of field f in local row r. -/
def hardTile (f h r : Nat) : Nat := tileKey f (18 * h + 17) r

/-- What sink `n` of an interface tile drives into the hard site behind it (R54). -/
def sinkAt (d : Device) (t n : Nat) : Bool :=
  match d.tileCfg t with
  | some c => d.sigAt t (selOf c n)
  | none => false

/-- Sinks `lo` to `lo + n - 1` of a tile as one number. -/
def sinkBits (d : Device) (t lo n : Nat) : Nat := (upto n).foldl (fun v i => v + b2n (sinkAt d t (lo + i)) * 2 ^ i) 0

/-- The rows of a gusset: local row 25 (g mod 8) + r of its column (R62). -/
def gussetTile (f g r : Nat) : Nat := hardTile f (bramHard (g / 8)) (25 * (g % 8) + r)
def gussetTiled (d : Device) (f g : Nat) : Bool := (upto 25).any (fun r => (d.tileCfg (gussetTile f g r)).isSome)
/-- Input `n` of a gusset: wr_data 0 to 71, wr_en 72, rd_en 73 (03_ R80). -/
def gussetSink (d : Device) (f g n : Nat) : Bool := sinkAt d (gussetTile f g (n / 3)) (93 + n % 3)

/-- What a gusset's write side offers: its sinks where a pattern configures its tiles; else the command's word. -/
def gussetOffer (d : Device) (f g : Nat) (word : BitVec 72) : Option (BitVec 72) :=
  if gussetTiled d f g then
    if gussetSink d f g 72 then some (BitVec.ofNat 72 ((upto 72).foldl (fun v n => v + b2n (gussetSink d f g n) * 2 ^ n) 0)) else none
  else some word
def gussetAsks (d : Device) (f g : Nat) : Bool := if gussetTiled d f g then gussetSink d f g 73 else true

/-- Interface tile of engine e in row r of its site (04_ R110). -/
def cloverTile (e r : Nat) : Nat := hardTile (e / 48) (if e % 48 < 24 then 3 else 7) (8 * (e % 24) + r)
def cloverTiled (d : Device) (e r : Nat) : Bool := (d.tileCfg (cloverTile e r)).isSome

/-- What an input stream's port offers: data 0 to 47 and last at sinks 0 to 47 and 49, valid at 48, in the stream's row (04_ R110). -/
def streamOffer (d : Device) (e n : Nat) (word : BitVec 72) : Option (BitVec 72) :=
  let t := cloverTile e n
  if cloverTiled d e n then
    if sinkAt d t 48 then some (BitVec.ofNat 72 (sinkBits d t 0 48 + b2n (sinkAt d t 49) * 2 ^ 48)) else none
  else some ((word.setWidth 49).setWidth 72)
/-- ready of out0 and out1: sinks 0 and 1 of row 2 (04_ R110). -/
def streamAsks (d : Device) (e n : Nat) : Bool := if cloverTiled d e 2 then sinkAt d (cloverTile e 2) (n - 2) else true

/-- An entry is offered on a fabric gusset's write clock; a write while full is dropped and flagged (R63, R64). -/
def gussetPush (f n : Nat) (offer : Option (BitVec 72)) (d : Device) : Device :=
  let k := 64 * f + n
  match offer with
  | some w => if (d.gusset k).full then d.setBit (fldA f (0x120 + 4 * (n / 32))) (n % 32) else d.setGusset k ((d.gusset k).push w)
  | none => d

/-- rd_en on the read clock; a read while empty changes nothing and is flagged. -/
def gussetPop (f n : Nat) (asks : Bool) (d : Device) : Device :=
  let k := 64 * f + n
  if !asks then d
  else if (d.gusset k).empty then d.setBit (fldA f (0x128 + 4 * (n / 32))) (n % 32)
  else d.setGusset k (d.gusset k).pop

/-- valid on an input stream's port clock: a full stream is not ready, and nothing transfers. -/
def streamPush (e n : Nat) (offer : Option (BitVec 72)) (d : Device) : Device :=
  let x := d.engine e
  match offer with
  | some w => if (x.stream n).full then d else d.setEngine e (x.setStream n ((x.stream n).push w))
  | none => d

def streamPop (e n : Nat) (asks : Bool) (d : Device) : Device :=
  let x := d.engine e
  if asks && !(x.stream n).empty then d.setEngine e (x.setStream n (x.stream n).pop) else d

/-- GUSSET_WRITE: an edge of a fabric gusset's write clock with wr_en, or of an input stream's port clock with valid. -/
def gussetWrite (g : GussetId) (word : BitVec 72) (d : Device) : Device :=
  match g with
  | .fabric f n =>
    (match tabGet noGusCfg d.fab.gusCfg (64 * f.val + n.val) with
    | some c => if d.rclkRuns f.val c.wrClk.val then gussetPush f.val n.val (gussetOffer d f.val n.val word) d else d
    | none => d)
  | .stream e n =>
    if n.val < 2 && d.streamClkRuns e.val n.val then streamPush e.val n.val (streamOffer d e.val n.val word) d else d

def execGussetWrite (g : GussetId) (word : BitVec 72) (s : State) : Host.Outcome State Fault Refusal :=
  s.lift (fun d => (gussetWrite g word d).settle)

/-- GUSSET_READ: an edge of a gusset's read clock with rd_en, or of an output stream's port clock with ready. -/
def gussetRead (g : GussetId) (d : Device) : Device :=
  match g with
  | .fabric f n =>
    (match tabGet noGusCfg d.fab.gusCfg (64 * f.val + n.val) with
    | some c => if d.rclkRuns f.val c.rdClk.val then gussetPop f.val n.val (gussetAsks d f.val n.val) d else d
    | none => d)
  | .stream e n =>
    if n.val ≥ 2 && d.streamClkRuns e.val n.val then streamPop e.val n.val (streamAsks d e.val n.val) d else d

def execGussetRead (g : GussetId) (s : State) : Host.Outcome State Fault Refusal :=
  s.lift (fun d => (gussetRead g d).settle)

/-- Change a gusset or stream where it stands. -/
def gussetMod (g : GussetId) (f : Gusset → Gusset) (d : Device) : Device :=
  match g with
  | .fabric fl n => d.setGusset (64 * fl.val + n.val) (f (d.gusset (64 * fl.val + n.val)))
  | .stream e n => d.setEngine e.val ((d.engine e.val).setStream n.val (f ((d.engine e.val).stream n.val)))

/-- GUSSET_ENTRY_VISIBLE: the third or fourth read-clock edge after a write. -/
def execGussetEntryVisible (g : GussetId) (s : State) : Host.Outcome State Fault Refusal :=
  s.lift (fun d => (gussetMod g Gusset.show d).settle)

/-- GUSSET_ENTRY_FREED: the third or fourth write-clock edge after a pop. -/
def execGussetEntryFreed (g : GussetId) (s : State) : Host.Outcome State Fault Refusal :=
  s.lift (fun d => (gussetMod g Gusset.release d).settle)

/-! ### Tick lines (R65) -/

def tickClk (d : Device) (f t : Nat) : Nat := d.fld (fldA f (0x110 + 4 * (t / 8))) (4 * (t % 8)) 4

/-- An action on a tick line: it is on its way where the line's clock runs, else lost. -/
def tickSend (f t : Nat) (d : Device) : Device :=
  if tickClk d f t < 12 && d.rclkRuns f (tickClk d f t) then
    d.setFab { d.fab with ticks := tabMod natZero d.fab.ticks (16 * f + t) (· + 1) }
  else d

/-- One pulse of tick line t stands for `m` of the actions on their way; more than one, or one that lands on the edge of a pulse that is
already high, sets merged. -/
def tickPulse (f t m : Nat) (d : Device) : Device :=
  let k := 16 * f + t
  let high := d.fab.tickHigh.contains k
  let d := if m > 1 || high then d.setBit (fldA f 0x118) t else d
  let d := d.setFab { d.fab with ticks := tabMod natZero d.fab.ticks k (· - m) }
  if high then d else d.setFab { d.fab with tickHigh := k :: d.fab.tickHigh }

/-- TICK_LAND: the third edge after the action's time; a line that its select has disabled since, or whose clock no longer runs, gives
no pulse. How many of several actions on their way land on this edge depends on the clock's phase and period: free, at least one (log
entry 22). -/
def tickLand (f t : Nat) (d : Device) : Device :=
  let n := tabGet natZero d.fab.ticks (16 * f + t)
  if n = 0 then d
  else if !(tickClk d f t < 12 && d.rclkRuns f (tickClk d f t)) then
    d.setFab { d.fab with ticks := tabSet natZero d.fab.ticks (16 * f + t) 0 }
  else if n = 1 then tickPulse f t 1 d
  else let q := d.takeFree; tickPulse f t (1 + q.1 % n) q.2

/-- A write of FLD_TICK_CLK_0 or _1 has changed the selects of lines `8 j` to `8 j + 7`: a pulse of a line whose clock is another one now
ends (R65, R68). `old` is the register before. -/
def tickReselect (f j : Nat) (old : Word) (d : Device) : Device :=
  d.setFab { d.fab with tickHigh := d.fab.tickHigh.filter (fun k =>
    !(k / 16 == f && k % 16 / 8 == j && fieldOf old (4 * (k % 8)) 4 != tickClk d f (k % 16))) }

/-- The pulses of a clock end at its next edge (R65). -/
def tickFall (f r : Nat) (d : Device) : Device :=
  d.setFab { d.fab with tickHigh := d.fab.tickHigh.filter (fun k => !(k / 16 == f && tickClk d f (k % 16) == r)) }

def execTickLand (f : Fin 32) (t : Fin 16) (s : State) : Host.Outcome State Fault Refusal :=
  s.lift (fun d => (tickLand f.val t.val d).settle)

end Sys2Proof.Machine
end

