-- ==== Sys2Proof/Machine/BlockMem.lean ====
section
/-!
DEFINITION. Machine/BlockMem.lean: block memories, their SECDED code and the scrubber (03_block_memory).
-/
namespace Sys2Proof.Machine

/-! ### The array (R75, R76) -/

/-- Words of a port of width `w` (R75). -/
def widthDepth (w : Nat) : Nat := if w < 9 then 32768 / w else 36864 / w

/-- First wide bit of the word of width `w` at address `a` (R76). -/
def wordBit (w a : Nat) : Nat :=
  if w < 9 then 9 * (a * w / 8) + a * w % 8 else a * w

/-- Row of 72 wide bits and offset in it. -/
def wordRow (w a : Nat) : Nat := wordBit w a / 72
def wordOff (w a : Nat) : Nat := wordBit w a % 72

/-- Data bits a write enables: we[0] for a narrow port, we[k] for bits 9k to 9k + 8 of a wide one. -/
def weMask (w : Nat) (we : BitVec 8) : BitVec 72 :=
  if w < 9 then (if we.getLsbD 0 then BitVec.ofNat 72 (2 ^ w - 1) else 0)
  else (upto (w / 9)).foldl (fun m k => if we.getLsbD k then m ||| BitVec.ofNat 72 (511 * 2 ^ (9 * k)) else m) 0

def rowOf (d : Device) (n r : Nat) : BitVec 72 := tabGet zero72 d.bram.words (512 * n + r)

/-- The word a port reads: its data bits, higher bits 0. -/
def readWord (d : Device) (n w a : Nat) : BitVec 72 :=
  ((rowOf d n (wordRow w a)).ushiftRight (wordOff w a)) &&& BitVec.ofNat 72 (2 ^ w - 1)

/-- Wide bits of row `wordRow w a` that a write of mask `m` touches. -/
def rowMask (w a : Nat) (m : BitVec 72) : BitVec 72 := m.shiftLeft (wordOff w a)

def writeWord (n w a : Nat) (m v : BitVec 72) (d : Device) : Device :=
  let k := 512 * n + wordRow w a
  let old := tabGet zero72 d.bram.words k
  let mm := rowMask w a m
  { d with bram := { d.bram with
    words := tabSet zero72 d.bram.words k ((old &&& ~~~mm) ||| (v.shiftLeft (wordOff w a) &&& mm)) } }

/-! ### SECDED (R88, R89) -/

/-- Positions 3 to 71 that are no power of two, in order: data bit i sits at the i-th. -/
def dataPositions : List Nat := (upto 72).filter (fun p => !(p == 0 || p == 1 || p == 2 || p == 4 || p == 8 || p == 16 || p == 32 || p == 64))

def dataPos (i : Nat) : Nat := nth dataPositions i 0

/-- XOR of the position numbers of the data bits that are 1. -/
def dataSyn (v : BitVec 72) : Nat := (upto 64).foldl (fun s i => if v.getLsbD i then s ^^^ dataPos i else s) 0

def parity (n : Nat) (v : BitVec 72) : Bool := (upto n).foldl (fun p i => p != v.getLsbD i) false

/-- Data in bits 63 to 0, check bits 0 to 7 in bits 71 to 64. -/
def secdedEncode (v : BitVec 72) : BitVec 72 :=
  let data := v &&& BitVec.ofNat 72 (2 ^ 64 - 1)
  let w := data ||| BitVec.ofNat 72 (dataSyn data * 2 ^ 64)
  if parity 71 w then w ||| BitVec.ofNat 72 (2 ^ 71) else w

/-- s[6:0] and s[7] of a stored word. -/
def secdedSyn (v : BitVec 72) : Nat :=
  (dataSyn v ^^^ bitsAt v.toNat 64 7) + 128 * b2n (parity 72 v)

/-- Data bit at a position, if it is one. -/
def posData (p : Nat) : Option Nat := (upto 64).find? (fun i => dataPos i == p)

/-- Corrected data, and whether a single error or an uncorrectable one was found. -/
def secdedDecode (v : BitVec 72) : BitVec 72 × Bool × Bool :=
  let s := secdedSyn v
  let data := v &&& BitVec.ofNat 72 (2 ^ 64 - 1)
  if s = 0 then (data, false, false)
  else if s ≥ 128 ∧ s - 128 ≤ 71 then
    ((match posData (s - 128) with
      | some i => data ^^^ BitVec.ofNat 72 (2 ^ i)
      | none => data), true, false)
  else (data, false, true)

/-! ### Port accesses (R77, R78, R81 to R87) -/

def Device.bramCfg (d : Device) (n : Nat) : Option BramCfg := tabGet noBram d.bram.cfg n

/-- Memory b's bit in the flag registers at `base` (R86, R92). -/
def bramFlag (base n : Nat) (d : Device) : Device :=
  d.setBit (fldA (n / 384) (base + 4 * (n % 384 / 32))) (n % 384 % 32)

/-- One port's part of a cycle: its new output state. `old` is the word before the cycle, `p` its inputs, `wrote` the data
it writes with its mask. -/
def portEdge (rdw : RdwMode) (o : PortOut) (srVal : BitVec 72) (p : PortIn) (old : BitVec 72) (err : BitVec 2)
    (wrote : Option (BitVec 72 × BitVec 72)) : PortOut :=
  let o' : PortOut :=
    if p.orst then { o with oreg := srVal, oregErr := 0 }
    else if p.oce then { o with oreg := o.latch, oregErr := o.latchErr } else o
  if !p.en then o'
  else
    match wrote with
    | none => { o' with latch := old, latchErr := err }
    | some (v, m) =>
      match rdw with
      | .writeFirst => { o' with latch := (old &&& ~~~m) ||| (v &&& m), latchErr := 0 }
      | .readFirst => { o' with latch := old, latchErr := 0 }
      | .noChange => o'

def setPort (n port : Nat) (o : PortOut) (d : Device) : Device :=
  { d with bram := { d.bram with ports := tabSet portReset d.bram.ports (2 * n + port) o } }

def port (d : Device) (n port : Nat) : PortOut := tabGet portReset d.bram.ports (2 * n + port)

/-- A pending scrub write-back of a row the user writes is cancelled (R90). -/
def cancelWback (n row : Nat) (d : Device) : Device :=
  match tabGet noWback d.bram.wback n with
  | some (r, _) => if r = row then { d with bram := { d.bram with wback := tabSet noWback d.bram.wback n none } } else d
  | none => d

/-- The word and write enables of simple dual-port mode: port A's low half, port B's high half (R77). Without an operand for port B, the
high half stands in port A's. -/
def sdpDin (a : PortIn) (b : Option PortIn) : BitVec 72 := match b with
  | some q => (q.din.setWidth 36 ++ a.din.setWidth 36 : BitVec 72)
  | none => a.din
def sdpWe (a : PortIn) (b : Option PortIn) : BitVec 8 := match b with
  | some q => (q.we.setWidth 4 ++ a.we.setWidth 4 : BitVec 8)
  | none => a.we

/-- Simple dual-port: port A writes 72 bits, port B reads (R77); with SECDED, check bits are stored and decoded (R87). -/
def sdpAccess (n : Nat) (c : BramCfg) (a b : Option PortIn) (d : Device) : Device :=
  let d1 := match b with
    | some p =>
      let raw := rowOf d n (bitsAt p.addr.toNat 0 9)
      let dec := secdedDecode raw
      let v := if c.secded then dec.1 ||| BitVec.ofNat 72 (secdedSyn raw * 2 ^ 64) else raw
      let err := if c.secded then BitVec.ofNat 2 (b2n dec.2.1 + 2 * b2n dec.2.2) else 0
      let d1 := if d.gsrOn (n / 384) then d else setPort n 1 (portEdge .readFirst (port d n 1) (portMask c 1 c.srValB) p v err none) d
      if p.en && c.secded then
        let d1 := if dec.2.1 then bramFlag 0x240 n d1 else d1
        if dec.2.2 then bramFlag 0x270 n d1 else d1
      else d1
    | none => d
  match a with
  | some p =>
    let r := bitsAt p.addr.toNat 0 9
    if p.en && (c.secded || sdpWe p b != 0) then
      let d2 := if c.secded then writeWord n 72 r (BitVec.allOnes 72) (secdedEncode (sdpDin p b)) d1
        else writeWord n 72 r (weMask 72 (sdpWe p b)) (sdpDin p b) d1
      cancelWback n r d2
    else d1
  | none => d1

/-- True dual-port (R77, R81, R82, R85). With both edges in one cycle, reads see the array as it was, and where both write
common bits port B's whole write is discarded. -/
def tdpAccess (n : Nat) (c : BramCfg) (a b : Option PortIn) (d : Device) : Device :=
  let adr (p : PortIn) (w : Nat) : Nat := p.addr.toNat % widthDepth w
  let wr (p : Option PortIn) (w : Nat) : Option (PortIn × BitVec 72) := match p with
    | some p => if p.en && weMask w p.we != 0 then some (p, weMask w p.we) else none
    | none => none
  let wa := wr a c.widthA
  let wb := wr b c.widthB
  let clash := match wa, wb with
    | some (p, m), some (q, k) =>
      wordRow c.widthA (adr p c.widthA) == wordRow c.widthB (adr q c.widthB)
        && (rowMask c.widthA (adr p c.widthA) m &&& rowMask c.widthB (adr q c.widthB) k) != 0
    | _, _ => false
  let wb := if clash then none else wb
  let out (p : Option PortIn) (i w : Nat) (rdw : RdwMode) (sr : BitVec 72) (wx : Option (PortIn × BitVec 72)) (e : Device) : Device :=
    match p with
    | some p =>
      if d.gsrOn (n / 384) then e
      else setPort n i (portEdge rdw (port d n i) sr p (readWord d n w (adr p w)) 0 (wx.map (fun x => (x.1.din, x.2)))) e
    | none => e
  let d1 := out b 1 c.widthB c.rdwB (portMask c 1 c.srValB) wb (out a 0 c.widthA c.rdwA (portMask c 0 c.srValA) wa d)
  let put (x : Option (PortIn × BitVec 72)) (w : Nat) (e : Device) : Device := match x with
    | some (p, m) => cancelWback n (wordRow w (adr p w)) (writeWord n w (adr p w) m p.din e)
    | none => e
  let d2 := put wa c.widthA (put wb c.widthB d1)
  let d3 := if b.isSome then { d2 with bram := { d2.bram with coll := d2.bram.coll.filter (fun x => x != n) } } else d2
  if clash then
    let d4 := bramFlag 0x210 n d3
    { d4 with bram := { d4.bram with coll := n :: d4.bram.coll } }
  else d3

/-- Interface tile of memory n in row r of its site (R73, R79). -/
def bramTile (n r : Nat) : Nat := hardTile (n / 384) (bramHard (n % 384 / 48)) (4 * (n % 48) + r)
def bramTiled (d : Device) (n : Nat) : Bool := (d.tileCfg (bramTile n 0)).isSome || (d.tileCfg (bramTile n 1)).isSome

/-- The inputs that the sinks of a port's row drive (R79); in simple dual-port mode port A's high half comes from row 1 (R77). -/
def bramSinks (d : Device) (c : BramCfg) (n port : Nat) : PortIn :=
  let t := bramTile n port
  let high (lo k : Nat) : Nat := if c.sdp && port == 0 then sinkBits d (bramTile n 1) lo k else 0
  { addr := BitVec.ofNat 15 (sinkBits d t 0 15)
    din := BitVec.ofNat 72 (sinkBits d t 15 36 + high 15 36 * 2 ^ 36)
    we := BitVec.ofNat 8 (sinkBits d t 51 4 + high 51 4 * 2 ^ 4)
    en := sinkAt d t 55, oce := sinkAt d t 56, orst := sinkAt d t 57 }

/-- An edge with nothing asked for. -/
def idlePort : PortIn := { addr := 0, din := 0, we := 0, en := false, oce := false, orst := false }

/-- What a port sees on an edge: its sinks where a pattern configures its tiles, else what the command gives. `common`: the edge is one of a
clock that both ports share, so it is an edge of this port too (R85). -/
def bramIn (d : Device) (c : BramCfg) (n port : Nat) (common : Bool) (p : Option PortIn) : Option PortIn :=
  if bramTiled d n then (if p.isSome || common then some (bramSinks d c n port) else none)
  else if p.isNone && common && !(c.sdp && port == 1) then some idlePort
  else p

/-- Edges of the ports with their inputs. -/
def bramEdge (n : Nat) (c : BramCfg) (a b : Option PortIn) (d : Device) : Device :=
  if c.sdp then sdpAccess n c a b d else tdpAccess n c a b d

/-- BRAM_PORT_ACCESS: an edge of port A, of port B, or of both in one cycle (R85); inputs count while the field runs, and the port's clock
(R60, R78). -/
def bramAccess (n : Nat) (a b : Option PortIn) (d : Device) : Device :=
  match d.bramCfg n with
  | none => d
  | some c =>
    let f := n / 384
    let common := c.clkA == c.clkB && (a.isSome || b.isSome)
    let a := if d.fieldRuns f && d.rclkRuns f c.clkA.val then bramIn d c n 0 common a else none
    let b := if d.fieldRuns f && d.rclkRuns f c.clkB.val then bramIn d c n 1 common b else none
    bramEdge n c a b d

def execBramPortAccess (m : Fin 12288) (a b : Option PortIn) (s : State) : Host.Outcome State Fault Refusal :=
  s.lift (fun d => (bramAccess m.val a b d).settle)

/-! ### The scrubber (R90, R91) -/

/-- The scrubber of field f may step: enabled, its clocks running, and the device Running or Mending; R90 names modes of the whole device, so
that a Safe hold which another domain forces stops it too (DEDUCED, log entry 108). -/
def scrubRuns (d : Device) (f : Nat) : Bool :=
  d.bit (fldA f 0x200) 8 && (d.modeCode == 2 || d.modeCode == 3) && d.fieldRuns f

/-- One memory at one address. -/
def scrubOne (n r : Nat) (d : Device) : Device :=
  let v := rowOf d n r
  let dec := secdedDecode v
  if dec.2.2 then (bramFlag 0x270 n d).fault (halfOfField (n / 384)) 0x11 n r
  else if dec.2.1 then
    let d := bramFlag 0x240 n d
    { d with bram := { d.bram with wback := tabSet noWback d.bram.wback n (some (r, secdedEncode dec.1)) } }
  else d

/-- BRAM_SCRUB_STEP: one address of every SECDED memory of the field but those whose port B had no idle cycle; after address 511 a sweep is
complete. -/
def scrubStep (f : Nat) (d : Device) : Device :=
  if !scrubRuns d f then d
  else
    let r := tabGet natZero d.bram.scrub f
    let ms := d.bram.cfg.filterMap (fun kv => match kv.2 with
      | some c => if kv.1 / 384 = f ∧ c.secded ∧ !d.bram.starved.contains kv.1 then some kv.1 else none
      | none => none)
    let d := d.each ms (fun d n => scrubOne n r d)
    let d := { d with bram := { d.bram with
      scrub := tabSet natZero d.bram.scrub f ((r + 1) % 512)
      starved := d.bram.starved.filter (fun n => !(n / 384 == f)) } }
    if r = 511 then (d.bump (fldA f 0x204) 16 16 1).putBit (fldA f 0x204) 0 false else d.setBit (fldA f 0x204) 0

def execBramScrubStep (f : Fin 32) (s : State) : Host.Outcome State Fault Refusal := s.lift (scrubStep f.val)

/-- BRAM_SCRUB_WRITEBACK: the corrected word, in an idle cycle of port A. -/
def scrubWriteback (n : Nat) (d : Device) : Device :=
  match tabGet noWback d.bram.wback n with
  | some (r, v) =>
    if scrubRuns d (n / 384) then
      let d := writeWord n 72 r (BitVec.allOnes 72) v d
      { d with bram := { d.bram with wback := tabSet noWback d.bram.wback n none } }
    else d
  | none => d

def execBramScrubWriteback (m : Fin 12288) (s : State) : Host.Outcome State Fault Refusal := s.lift (scrubWriteback m.val)

/-- BRAM_SCRUB_STARVED: 1,024 cycles of memory n without an idle one. Where a write-back waited for port A it is given up; else the memory
is left out of the step that waited for port B. -/
def scrubStarved (n : Nat) (d : Device) : Device :=
  if scrubRuns d (n / 384) then
    let d := d.setBit (fldA (n / 384) 0x204) 1
    if (tabGet noWback d.bram.wback n).isSome then { d with bram := { d.bram with wback := tabSet noWback d.bram.wback n none } }
    else { d with bram := { d.bram with starved := n :: d.bram.starved.filter (fun x => x != n) } }
  else d

def execBramScrubStarved (m : Fin 12288) (s : State) : Host.Outcome State Fault Refusal := s.lift (scrubStarved m.val)

/-- A field whose domain goes Off loses its configuration, registers and memories (01_ R31; 03_ R78; 04_ R125). Words in the
buffers of its hedged channels are kept (02_ R60). -/
def fieldLost (f : Nat) (d : Device) : Device :=
  let own (n : Nat) (k : Nat) : Bool := k / n == f
  { d with
    fab := { d.fab with
      tiles := tabDrop (own 36000) d.fab.tiles
      ffs := tabDrop (own 1152000) d.fab.ffs
      hops := tabDrop (own 3456000) d.fab.hops
      gusCfg := tabDrop (own 64) d.fab.gusCfg
      gussets := tabDrop (own 64) d.fab.gussets
      pulse := d.fab.pulse.filter (fun x => x != f)
      gsrWait := tabDrop (own 12) d.fab.gsrWait
      ticks := tabDrop (own 16) d.fab.ticks
      tickHigh := d.fab.tickHigh.filter (fun k => !(k / 16 == f))
      stalled := d.fab.stalled.filter (fun k => !(k / 800 == f)) }
    bram := { d.bram with
      cfg := tabDrop (own 384) d.bram.cfg
      words := tabDrop (own 196608) d.bram.words
      ports := tabDrop (own 768) d.bram.ports
      coll := d.bram.coll.filter (fun k => !(k / 384 == f))
      scrub := tabDrop (own 1) d.bram.scrub
      starved := d.bram.starved.filter (fun k => !(k / 384 == f))
      wback := tabDrop (own 384) d.bram.wback }
    clv := tabDrop (own 48) d.clv }

end Sys2Proof.Machine
end

