-- ==== Sys2Proof/Machine/Knots.lean ====
section
/-!
DEFINITION. Machine/Knots.lean: knots, attachments and stiles by place, packets and their flits, and the input buffers of the
knots (01_organisation R27 to R29; 06_warp_weft_network R156 to R174, R183, R188).
-/
namespace Sys2Proof.Machine

/-- Half of a knot of this device (01_ R27; 06_ R158: knot id 16 y + x): x up to 4 is half W. -/
def knotHalf (k : Nat) : Half := if k % 16 ≤ 4 then .w else .e

/-! ### Knots and attachments (01_ R27 to R29; 06_ R157, R158) -/

def knotId (x y : Nat) : Nat := 16 * y + x
def knotX (k : Nat) : Nat := k % 16
def knotY (k : Nat) : Nat := k / 16

/-- The id of knot number k, the knots counted by rows of ten. -/
def knotOf (k : Nat) : Nat := knotId (k % 10) (k / 10)

/-- The hardened blocks attached to knots; the last four have a half. -/
inductive Att
  | eth (pair : Nat)
  | jesd (j : Nat)
  | slv (s : Nat)
  | mch (n : Nat)
  | sht (n : Nat)
  | host (h : Half)
  | thimble (h : Half)
  | lark (h : Half)
  | bobbin (h : Half)
deriving DecidableEq, Repr

/-- The attachments of half W, in the order listed. -/
def attsW : Nat → Nat → List Att
  | 0, 0 => [.eth 0, .jesd 0, .slv 0]
  | 0, 1 => [.eth 1, .jesd 1]
  | 0, 2 => [.slv 1, .slv 2]
  | 0, 3 => [.eth 2, .jesd 2]
  | 0, 4 => [.eth 3, .jesd 3, .slv 3]
  | 1, 0 => [.mch 0, .host .w]
  | 2, 0 => [.sht 0, .sht 1]
  | 3, 0 => [.mch 1, .sht 2]
  | 1, 4 => [.mch 2, .sht 3]
  | 2, 4 => [.sht 4, .sht 5]
  | 3, 4 => [.mch 3, .sht 6]
  | 4, 0 => [.thimble .w, .lark .w, .sht 7]
  | 4, 1 => [.bobbin .w]
  | _, _ => []

/-- The same block in half E. -/
def attE : Att → Att
  | .eth p => .eth (p + 4)
  | .jesd j => .jesd (j + 4)
  | .slv s => .slv (s + 4)
  | .mch n => .mch (n + 4)
  | .sht n => .sht (n + 8)
  | .host _ => .host .e
  | .thimble _ => .thimble .e
  | .lark _ => .lark .e
  | .bobbin _ => .bobbin .e

def attsAt (x y : Nat) : List Att := if x ≤ 4 then attsW x y else (attsW (9 - x) y).map attE

/-- The knot a stile attaches to: stile 4 f + c, field f = 4 x + y. -/
def stileKnot (s : Nat) : Nat :=
  let f := s / 4
  let x := f / 4
  let xw := if x ≤ 3 then x else x + 1
  knotId (xw + s % 2) (f % 4 + s / 2 % 2)

def stilesAt (k : Nat) : List Nat := (upto 128).filter (fun s => stileKnot s == k)
def stileSlot (s : Nat) : Nat :=
  let k := stileKnot s
  (attsAt (knotX k) (knotY k)).length + (stilesAt k).findIdx (fun t => t == s)

/-- The knots in order, and the knot and slot of an attachment. -/
def allKnots : List Nat := (upto 50).map knotOf
def attPlace (a : Att) : Nat × Nat :=
  match allKnots.find? (fun k => (attsAt (knotX k) (knotY k)).contains a) with
  | some k => (k, (attsAt (knotX k) (knotY k)).findIdx (fun b => b == a))
  | none => (0, 0)

/-- The stile at a knot's slot, if one is there. -/
def stileAt (k slot : Nat) : Option Nat :=
  let n := (attsAt (knotX k) (knotY k)).length
  if slot < n then none else (stilesAt k)[slot - n]?

/-- The attachment at a knot's slot, if one is there. -/
def attAt (k slot : Nat) : Option Att := (attsAt (knotX k) (knotY k))[slot]?

/-! ### Headers as bits, payload flits (R160, R161, R163) -/

/-- Write a field of w bits at bit `lo` of a number whose bits from `lo` up are 0. -/
def placed (v lo : Nat) : Nat := v * 2 ^ lo

/-- The header flit (R160): bits 511 to 108 are 0. -/
def headerBits (hd : Header) : BitVec 512 :=
  BitVec.ofNat 512 (placed hd.mclass.val 104 + placed hd.status.val 100 + placed hd.tag.val 90 + placed hd.srcSlot.val 88
    + placed hd.srcKnot.val 81 + placed hd.srcDev.val 78 + placed hd.dstSlot.val 76 + placed hd.dstKnot.val 69
    + placed hd.dstDev.val 66 + placed hd.cls.val 64 + placed hd.type.val 61 + placed hd.lenM1.val 48 + hd.addr.toNat)

/-- The header that a flit carries; its reserved bits are ignored (R160). -/
def headerOf (w : BitVec 512) : Header :=
  let x := w.toNat
  { mclass := Fin.ofNat 16 (bitsAt x 104 4), status := Fin.ofNat 16 (bitsAt x 100 4), tag := Fin.ofNat 1024 (bitsAt x 90 10)
    srcSlot := Fin.ofNat 4 (bitsAt x 88 2), srcKnot := Fin.ofNat 128 (bitsAt x 81 7), srcDev := Fin.ofNat 8 (bitsAt x 78 3)
    dstSlot := Fin.ofNat 4 (bitsAt x 76 2), dstKnot := Fin.ofNat 128 (bitsAt x 69 7), dstDev := Fin.ofNat 8 (bitsAt x 66 3)
    cls := Fin.ofNat 4 (bitsAt x 64 2), type := Fin.ofNat 8 (bitsAt x 61 3), lenM1 := Fin.ofNat 8192 (bitsAt x 48 13)
    addr := BitVec.ofNat 48 x }

def isRequest (hd : Header) : Bool := decide (hd.type.val ≤ 1)
def lenOf (hd : Header) : Nat := hd.lenM1.val + 1

/-- Payload flits of `len` bytes at address a (R163). -/
def flitsIn (a len : Nat) : Nat := (a % 64 + len + 63) / 64
def flitCount (hd : Header) : Nat := flitsIn hd.addr.toNat (lenOf hd)

/-- Whether a packet with this header has a payload (R161). -/
def hasPayload (hd : Header) : Bool := hd.type.val == 1 || (hd.type.val == 2 && (hd.status.val == 0 || hd.status.val == 7))

/-- Exactly `len` bytes: cut, or filled with zero bytes (lanes outside the data are 0, R163). -/
def exactly (len : Nat) (data : List Byte) : List Byte := data.take len ++ List.replicate (len - data.length) 0

/-- The payload flits of `len` bytes at address a (R163): byte i of the data lies in flit (a mod 64 + i) / 64 at lane
(a mod 64 + i) mod 64, and every other lane is 0. -/
def payloadFlits (a len : Nat) (data : List Byte) : List (BitVec 512) :=
  let bs := List.replicate (a % 64) 0 ++ exactly len data
  (List.range (flitsIn a len)).map (fun i => BitVec.ofNat 512 (leNat ((bs.drop (64 * i)).take 64)))

/-- The data that payload flits carry. -/
def flitsData (a len : Nat) (fs : List (BitVec 512)) : List Byte :=
  exactly len ((fs.flatMap (fun w => leBytes w.toNat 64)).drop (a % 64))

/-- The response to a request: source and destination swapped, type and status set. -/
def respond (hd : Header) (st : Nat) : Header :=
  { hd with status := Fin.ofNat 16 st, type := Fin.ofNat 8 (hd.type.val + 2)
            srcSlot := hd.dstSlot, srcKnot := hd.dstKnot, srcDev := hd.dstDev
            dstSlot := hd.srcSlot, dstKnot := hd.srcKnot, dstDev := hd.srcDev }

def srcOf (hd : Header) : NodeId := { dev := hd.srcDev, knot := hd.srcKnot, slot := hd.srcSlot }
def dstOf (hd : Header) : NodeId := { dev := hd.dstDev, knot := hd.dstKnot, slot := hd.dstSlot }
/-- Knot and slot of a packet's destination in this device. -/
def dstPlace (hd : Header) : Nat × Nat := (hd.dstKnot.val, hd.dstSlot.val)

/-! ### Input buffers (R169) -/

/-- Ports of a knot in the fixed order of R170: N, E, S, W, slot 0 to slot 3. -/
def portIdx : OutPort → Nat
  | .north => 0
  | .east => 1
  | .south => 2
  | .west => 3
  | .slot i => 4 + i.val

/-- A virtual channel of a port of a knot, input or output: knot id, port, class. -/
def vcKey (k p c : Nat) : Nat := (8 * k + p) * 4 + c
def vcKnot (key : Nat) : Nat := key / 32

def vc0 (_ : Nat) : Vc := {}
def noOwner (_ : Nat) : Option (Nat × Nat) := none
def Device.vc (d : Device) (key : Nat) : Vc := tabGet vc0 d.net.vcs key

/-- Give a buffer its flits; a packet that thereby comes to its head waits from this knot cycle on (R171). -/
def Device.setRuns (d : Device) (key : Nat) (rs : List FlitRun) : Device :=
  let v := d.vc key
  let same := match v.runs, rs with
    | a :: _, b :: _ => a.pid == b.pid
    | _, _ => false
  let at_ := if rs.isEmpty then 0 else if same then v.headAt else d.net.cycle
  { d with net := { d.net with vcs := tabSet vc0 d.net.vcs key ({ runs := rs, headAt := at_ } : Vc) } }

def vcKeys (d : Device) : List Nat := d.net.vcs.map (fun (kv : Nat × Vc) => kv.1)

/-- Take a packet's flits out of the buffers whose key `p` picks; what it owned there is free again. -/
def dropRuns (pid : Nat) (p : Nat → Bool) (d : Device) : Device :=
  let d := d.each ((vcKeys d).filter p) (fun d k => d.setRuns k ((d.vc k).runs.filter (fun r => r.pid != pid)))
  { d with net := { d.net with
    owners := d.net.owners.filter (fun (kv : Nat × Option (Nat × Nat)) => !(p kv.1 && kv.2.any (fun o => o.1 == pid)))
    promoted := d.net.promoted.filter (fun x => !(x.1 == pid && p (vcKey x.2 0 0))) } }

def dropFlight (pid : Nat) (d : Device) : Device :=
  let d := dropRuns pid (fun _ => true) d
  { d with net := { d.net with flights := d.net.flights.filter (fun g => g.pid != pid) } }

def putFlight (f : Flight) (d : Device) : Device :=
  { d with net := { d.net with flights := d.net.flights.map (fun g => if g.pid == f.pid then f else g) } }

/-- A packet enters the network at a slot: its flits wait there in the order of injection. Of a slot's buffer the first 16 flits are
in the knot; the rest are still at the source (log entry 47). -/
def injectHops (p : Nat × Nat) (hd : Header) (data : List Byte) (poison : List Nat) (hops : Nat) (d : Device) : Device :=
  let n := d.net.nextPid
  let flits := 1 + (if hasPayload hd then flitCount hd else 0)
  let d := { d with net := { d.net with
    flights := d.net.flights ++ [({ pid := n, hd := hd, data := data, poison := poison, flits := flits, hops := hops } : Flight)]
    nextPid := n + 1 } }
  let key := vcKey p.1 (4 + p.2) hd.cls.val
  d.setRuns key ((d.vc key).runs ++ [({ pid := n, lo := 0, hi := flits } : FlitRun)])

def inject (p : Nat × Nat) (hd : Header) (data : List Byte) (poison : List Nat) (d : Device) : Device :=
  injectHops p hd data poison 0 d

/-- Answer a request from a slot. -/
def answerFrom (p : Nat × Nat) (hd : Header) (st : Nat) (data : List Byte) (poison : List Nat) (d : Device) : Device :=
  inject p (respond hd st) (if hd.type.val = 0 ∧ (st = 0 ∨ st = 7) then exactly (lenOf hd) data else []) poison d

/-! ### Arrivals -/

/-- Take a packet with this header from the slots' arrivals: how many links between devices it crossed, and its poison. -/
def takeArrived (hd : Header) (d : Device) : Option Flight × Device :=
  (d.net.arrived.find? (fun f => f.hd == hd), { d with net := { d.net with arrived := dropFirst (fun f => f.hd == hd) d.net.arrived } })

/-- Packets that came before this one and are still at the slots. -/
def arrivedBefore (hd : Header) (d : Device) : List Flight := d.net.arrived.takeWhile (fun f => f.hd != hd)

/-- Two packets that stay in the order of their arrival: the same source, destination and class, and both requests or both
responses (R172). -/
def sameFlow (a b : Header) : Bool :=
  srcOf a == srcOf b && dstOf a == dstOf b && a.cls == b.cls && isRequest a == isRequest b

/-- The bytes of two requests meet (R173). -/
def bytesMeet (a b : Header) : Bool :=
  decide (a.addr.toNat < b.addr.toNat + lenOf b ∧ b.addr.toNat < a.addr.toNat + lenOf a)

/-- An earlier request of the same source and class that touches common bytes is carried out first (R173). -/
def requestWaits (hd : Header) (d : Device) : Bool := (arrivedBefore hd d).any (fun f => sameFlow f.hd hd && bytesMeet f.hd hd)

/-- An earlier packet of the same source, destination and class is taken first (R172). -/
def flowWaits (hd : Header) (d : Device) : Bool := (arrivedBefore hd d).any (fun f => sameFlow f.hd hd)

/-! ### Error registers (R188) and packets that a loss cuts short (R183) -/

/-- A network event at a knot: its sticky bit, its kind, the knot. -/
def wwEvent (k bit kind : Nat) (d : Device) : Device :=
  let a := thmA (0x2010 + 4 * hn (knotHalf k))
  ((d.setBit a bit).setFld a 24 7 k).setFld a 16 3 kind

/-- The packet of which only the first `hi` flits came is completed with poisoned zero flits; a response then has status
TRUNCATED. -/
def truncated (hi : Nat) (f : Flight) : Flight :=
  let first := f.hd.addr.toNat % 64
  { f with
    data := f.data.zipIdx.map (fun x => if hi ≤ (first + x.2) / 64 + 1 then (0 : Byte) else x.1)
    poison := (List.range (f.flits - hi)).map (fun i => hi - 1 + i) ++ f.poison.filter (fun i => decide (i + 1 < hi))
    hd := if isRequest f.hd then f.hd else { f.hd with status := 10 } }

/-- Where a packet's flits are. -/
def runsOf (d : Device) (pid : Nat) : List (Nat × FlitRun) :=
  d.net.vcs.flatMap (fun (kv : Nat × Vc) => (kv.2.runs.filter (fun r => r.pid == pid)).map (fun r => (kv.1, r)))

/-- An output virtual channel over the seam, toward half h. -/
def seamOutput (h : Half) (key : Nat) : Bool :=
  match h with
  | .w => vcKnot key % 16 == 5 && key / 4 % 8 == 3
  | .e => vcKnot key % 16 == 4 && key / 4 % 8 == 1

/-- The packet is being sent over the seam into half h. -/
def sendingTo (d : Device) (h : Half) (pid : Nat) : Bool :=
  d.net.owners.any (fun (kv : Nat × Option (Nat × Nat)) => seamOutput h kv.1 && kv.2.any (fun o => o.1 == pid))

/-- The knots of half h hold nothing any more: packets with no flit elsewhere are lost. -/
def netGone (h : Half) (d : Device) : Device :=
  let mine (key : Nat) : Bool := knotHalf (vcKnot key) == h
  let d := { d with net := { d.net with
    vcs := tabDrop mine d.net.vcs
    owners := tabDrop mine d.net.owners
    turn := tabDrop mine d.net.turn
    promoted := d.net.promoted.filter (fun x => knotHalf x.2 != h) } }
  { d with net := { d.net with flights := d.net.flights.filter (fun f => !(runsOf d f.pid).isEmpty) } }

/-- What the surviving half does with one packet that a loss of half h cuts in two: of one being sent there the rest is discarded; one
being received from there is completed with poisoned zero flits (R183, rules 1 and 2). -/
def cutPacket (h : Half) (f : Flight) (d : Device) : Device :=
  let rs := runsOf d f.pid
  let top := rs.foldl (fun m x => Nat.max m x.2.hi) 0
  if sendingTo d h f.pid then dropFlight f.pid d
  else if top ≥ f.flits then d
  else match rs.find? (fun x => x.2.hi == top) with
    | some (key, _) =>
      let d := putFlight (truncated top f) d
      wwEvent (vcKnot key) 3 4 (d.setRuns key ((d.vc key).runs.map (fun r => if r.pid = f.pid then { r with hi := f.flits } else r)))
    | none => d

/-- Half h's part of the network is lost to the other half (R183). -/
def netCut (h : Half) (d : Device) : Device :=
  let d := netGone h d
  d.each d.net.flights (fun d f => cutPacket h f d)

/-- The weft link of row y fails beyond its spares: what has not crossed of a packet is lost, and its part beyond is completed (R178,
TRUNCATED; log entry 99). -/
def cutRow (y : Nat) (d : Device) : Device :=
  let owned (key pid : Nat) : Bool := (upto 4).any (fun c => (tabGet noOwner d.net.owners (key + c)).any (fun o => o.1 == pid))
  d.each d.net.flights (fun d f =>
    let leave (h : Half) (d : Device) : Device := cutPacket h f (dropRuns f.pid (fun key => knotHalf (vcKnot key) == h) d)
    if owned (vcKey (knotId 4 y) 1 0) f.pid then leave .w d
    else if owned (vcKey (knotId 5 y) 3 0) f.pid then leave .e d
    else d)

/-- The weft link of row y rejoins: its virtual channels restart empty (R184). -/
def restartRow (y : Nat) (d : Device) : Device :=
  let keys := (upto 4).flatMap (fun c => [vcKey (knotId 4 y) 1 c, vcKey (knotId 5 y) 3 c])
  d.each (keys.flatMap (fun key => (d.vc key).runs.map (fun r => r.pid))) (fun d pid => dropFlight pid d)

/-! ### Stiles (R175 to R177, R179, R189, R190) -/

def stileCtrl (s : Nat) : Nat := fldA (s / 4) (0x400 + 4 * (s % 4))
def stileStat (s : Nat) : Nat := fldA (s / 4) (0x410 + 4 * (s % 4))
def stileWord (_ : Nat) : Word := 0x0080F000
def noHeld (_ : Nat) : List Inbound := []
def noKept (_ : Nat) : List (Header × Answer) := []
def noAnswer (_ : Nat) : Answer := {}

def devId (d : Device) : Nat := d.sys.straps.toNat

/-- clk and tgt_en in force. -/
def stileEff (d : Device) (s : Nat) : Word := tabGet stileWord d.net.stileNow s
def stileClk (d : Device) (s : Nat) : Nat := fieldOf (stileEff d s) 12 4

def stileNode (d : Device) (s : Nat) : NodeId :=
  { dev := Fin.ofNat 8 (devId d), knot := Fin.ofNat 128 (stileKnot s), slot := Fin.ofNat 4 (stileSlot s) }
/-- The stile a node names, if it is one of this device. -/
def nodeStile (d : Device) (n : NodeId) : Option Nat := if n.dev.val = devId d then stileAt n.knot.val n.slot.val else none

/-- The fabric side of a stile runs: its field runs and its clock gives edges. -/
def stileRuns (d : Device) (s : Nat) : Bool :=
  d.fieldRuns (s / 4) && decide (stileClk d s < 12) && d.rclkRuns (s / 4) (stileClk d s)
def stileOff (d : Device) (s : Nat) : Bool := d.domState (s / 4) == 3 || fieldOf (stileEff d s) 11 1 == 0 || stileClk d s == 15

def stileOutst (d : Device) (s : Nat) : List Outst := d.net.outst.filter (fun o => o.src == stileNode d s)

/-- outstanding follows the list of requests. -/
def showOutst (s : Nat) (d : Device) : Device := d.setFld (stileStat s) 16 9 (stileOutst d s).length

/-- Forget requests of a stile whose responses are discarded. -/
def dropOutst (s : Nat) (p : Outst → Bool) (d : Device) : Device :=
  let me := stileNode d s
  showOutst s { d with net := { d.net with outst := d.net.outst.filter (fun x => !(x.src == me && p x)) } }

/-- Requests that the stile holds or that its fabric has not answered are refused with a status (R159, R177). -/
def stileRefuse (s st : Nat) (d : Device) : Device :=
  let hs := tabGet noHeld d.net.inbound s ++ tabGet noHeld d.net.held s
  let d := { d with net := { d.net with held := tabSet noHeld d.net.held s [], inbound := tabSet noHeld d.net.inbound s [] } }
  d.each hs (fun d p => answerFrom (dstPlace p.hd) p.hd st [] [] (d.setBit (stileStat s) 4))

/-- Responses that the stile kept are discarded, and counted as late at a partial load (R177). -/
def stileForget (s : Nat) (late : Bool) (d : Device) : Device :=
  let rs := tabGet noKept d.net.rspBuf s
  let d := { d with net := { d.net with rspBuf := tabSet noKept d.net.rspBuf s [] } }
  let d := d.each rs (fun d p => dropOutst s (fun o => o.tag == p.1.tag.val) d)
  d.when (late && !rs.isEmpty) (fun d => d.setBit (stileStat s) 3)

def fieldStiles (f : Nat) : List Nat := [4 * f, 4 * f + 1, 4 * f + 2, 4 * f + 3]

/-- A region comes under partial load: its stiles refuse what they hold with TARGET_STOPPED (R177). -/
def stilesUnderLoad (f : Nat) (d : Device) : Device :=
  d.each (fieldStiles f) (fun d s => stileForget s true (stileRefuse s 3 d))

/-- A field goes Off: its stiles refuse what they hold with TARGET_OFF, and its own requests are forgotten (R177; log entry 93). -/
def stilesOff (f : Nat) (d : Device) : Device :=
  d.each (fieldStiles f) (fun d s => dropOutst s (fun _ => true) (stileForget s false (stileRefuse s 2 d)))

/-- A field comes back from Off with its stile registers at reset, and so are clk and tgt_en in force (R189, R267). -/
def stilesPowered (f : Nat) (d : Device) : Device :=
  { d with net := { d.net with stileNow := tabDrop (fun s => s / 4 == f) d.net.stileNow } }

/-- A change of clk or tgt_en applies while nothing is outstanding (R189); a stile thereby disabled refuses what it holds. -/
def stileApply (s : Nat) (d : Device) : Device :=
  if (stileOutst d s).isEmpty then
    let d := { d with net := { d.net with stileNow := tabSet stileWord d.net.stileNow s (d.reg (stileCtrl s)) } }
    d.when (stileOff d s) (stileRefuse s 2)
  else d

/-- Beats toward the fabric, each as its 64 data bytes and a byte of its other signals (R175; log entry 94): inbound requests with
tq_head and tq_last, the header beat first. -/
def tqBeats (hd : Header) (data : List Byte) : List (List Byte) :=
  let fs := if hd.type.val = 1 then payloadFlits hd.addr.toNat (lenOf hd) data else []
  let n := fs.length
  (headerBits hd :: fs).zipIdx.map (fun x => leBytes x.1.toNat 64 ++ [BitVec.ofNat 8 (b2n (x.2 == 0) + 2 * b2n (x.2 == n))])

/-- Responses: rs_tag, and a byte of rs_status, rs_type, rs_poison and rs_last. A response without data is one beat of zeros (R176). -/
def rsBeats (o : Outst) (a : Answer) : List (List Byte) :=
  let fs := if o.write || !(a.status == 0 || a.status == 7) then [0] else payloadFlits o.addr o.len a.data
  let n := fs.length
  fs.zipIdx.map (fun x => leBytes x.1.toNat 64 ++ [BitVec.ofNat 8 o.tag,
    BitVec.ofNat 8 (a.status % 16 + 16 * b2n o.write + 32 * b2n (a.poison.contains x.2) + 64 * b2n (x.2 + 1 == n))])

/-- Bobbin records the beats of a stile channel of a replayed field on consecutive cycles (20_ R501, R510). -/
def recordBeats (s chan : Nat) (bs : List (List Byte)) (d : Device) : Device :=
  if d.replayed (s / 4) then
    let h := halfOfField (s / 4)
    d.each bs.zipIdx (fun d b => d.bobData h 1 (5 * s + chan) (d.bobCycle h + b.2) b.1)
  else d

/-- A source completes a request with an answer; a stile shows it to the fabric (R175, R179, R190). -/
def netComplete (o : Outst) (a : Answer) (d : Device) : Device :=
  let d := { d with net := { d.net with
    outst := d.net.outst.filter (fun x => !(x.src == o.src && x.tag == o.tag))
    done := (o.src, o.tag, a) :: d.net.done.filter (fun x => !(x.1 == o.src && x.2.1 == o.tag)) } }
  match nodeStile d o.src with
  | none => d
  | some s =>
    let d := d.when (a.status == 9) (fun d => d.setBit (stileStat s) 2)
    let d := d.when (a.status != 0) (fun d => d.setBit (stileStat s) 0)
    stileApply s (showOutst s (recordBeats s 2 (rsBeats o a) d))

/-! ### Parts of a request (R165, R180, R183) -/

/-- Every part has its answer. -/
def partsDone (o : Outst) : Bool := o.parts.all (fun p => p.answer.isSome)

/-- Where part i's data ends: at the next part, or the request's end. -/
def partEnd (o : Outst) (i : Nat) : Nat := ((o.parts[i + 1]?).map (fun p => p.addr)).getD (o.addr + o.len)

/-- The one answer of a request (R165): the first status other than OK; a read's data in address order, with the poison of each part's
flits counted from the first flit of the request, and a part that brings no data as poisoned zeros (log entry 95). -/
def joinParts (o : Outst) : Answer :=
  let as := o.parts.zipIdx.map (fun p => (p.1.addr, partEnd o p.2 - p.1.addr, p.1.answer.getD {}))
  let st := ((as.find? (fun x => x.2.2.status != 0)).map (fun x => x.2.2.status)).getD 0
  if o.write || !(st == 0 || st == 7) then { status := st }
  else
    { status := st
      data := as.flatMap (fun x => exactly x.2.1 x.2.2.data)
      poison := as.flatMap (fun x => (if x.2.2.status = 0 ∨ x.2.2.status = 7 then x.2.2.poison else List.range (flitsIn x.1 x.2.1)).map
        (fun j => x.1 / 64 + j - o.addr / 64)) }

/-- A request whose parts have all been answered completes; else it waits for the others. -/
def settleOutst (o : Outst) (d : Device) : Device :=
  if partsDone o then netComplete o (joinParts o) d
  else { d with net := { d.net with outst := d.net.outst.map (fun x => if x.src == o.src && x.tag == o.tag then o else x) } }

/-- The parts that `p` picks and that have no answer yet are answered. -/
def answerParts (p : Part → Bool) (a : Answer) (o : Outst) (d : Device) : Device :=
  settleOutst { o with parts := o.parts.map (fun x => if x.answer.isNone && p x then { x with answer := some a } else x) } d

end Sys2Proof.Machine
end

