-- ==== Sys2Proof/Machine/Domain.lean ====
section
/-!
DEFINITION. Machine/Domain.lean: what the loss, forcing and release of a power domain does to the blocks in it
(09_clocks_resets R264, R265; 11_transceivers R308, R309, R311, R314; 13_memory_channels R360; 16_shuttle_dma R430).
-/
namespace Sys2Proof.Machine

/-! ### Lanes: electrical idle (11_ R308, R309, R311, R314) -/

/-- The transceiver group domain of a lane. -/
def laneDomain (l : Nat) : Nat := 32 + l / 4 / 3

def laneCtl (l : Nat) : Nat := laneA l 0x100
def laneStat (l : Nat) : Nat := laneA l 0x10C

def Device.laneUse (d : Device) (l : Nat) : Nat := d.fld (laneCtl l) 26 3
def Device.laneOnEn (d : Device) (l : Nat) : Bool := d.bit (laneCtl l) 18

/-- The lanes of a half. -/
def halfLanes (h : Half) : List Nat := (upto 72).map (fun i => 72 * hn h + i)

/-- The domain of the protocol block that uses the lane is clock-failed (09_ R264; 12_ R326). -/
def userForced (d : Device) (l : Nat) : Bool :=
  let h := hn (halfOfDomain (laneDomain l))
  match d.laneUse l with
  | 2 => d.forced (56 + 2 * h) || d.forced (57 + 2 * h)
  | 3 => d.forced (60 + h)
  | 4 => d.forced (62 + h)
  | _ => false

/-- A forcing condition holds (R311). -/
def laneForced (d : Device) (l : Nat) : Bool :=
  d.forced (laneDomain l) || userForced d l || d.sys.integrity || !d.up (halfOfDomain (laneDomain l)) || (d.laneOnEn l && !d.bit (quadA (l / 4) 0) 31)

/-- An inactive host port holds its transmitters in electrical idle (12_ R336). -/
def hostIdle (d : Device) (l : Nat) : Bool :=
  d.laneUse l == 4 && !d.bit (hptA (halfOfDomain (laneDomain l)) 4) 31

/-- The transmitter is in idle: forced, its group not On, not enabled, no user, or as its honoured requests hold. -/
def laneIdle (d : Device) (l : Nat) : Bool :=
  laneForced d l || !d.domOn (laneDomain l) || !d.laneOnEn l || d.laneUse l == 0 || (d.lane l).idle || hostIdle d l
    || (d.laneUse l == 1 && (d.lane l).idleReq)

/-- Bring the lane's transmitter to the state its conditions give; an exit sends a burst (R309). -/
def laneEval (l : Nat) (d : Device) : Device :=
  let was := d.bit (laneStat l) 29
  let now := laneIdle d l
  let d := (d.putBit (laneStat l) 29 now).putBit (laneStat l) 27 (laneForced d l)
  if was && !now then d.setLane l { d.lane l with burst := true, txBegun := false }
  else if now then d.setLane l { d.lane l with burst := false }
  else d

/-- The twelve lanes of a transceiver group domain. -/
def groupLanes (n : Nat) : List Nat := (upto 12).map (fun i => 12 * (n - 32) + i)

/-! ### Memory channels: self-refresh (13_ R360) -/

def chanReset (_ : Nat) : MemChan := {}
def Device.chan (d : Device) (n : Nat) : MemChan := tabGet chanReset d.mem.chans n
def Device.setChan (d : Device) (n : Nat) (c : MemChan) : Device :=
  { d with mem := { d.mem with chans := tabSet chanReset d.mem.chans n c } }

/-- MCH_STATUS state of channel n: 0 disabled, 1 training, 2 serving, 3 self-refresh, 4 failed. -/
def Device.chanState (d : Device) (n : Nat) : Nat := d.fld (mchA n 8) 29 3
def Device.setChanState (d : Device) (n st : Nat) : Device := d.setFld (mchA n 8) 29 3 st

/-- The trigger: from it a serving channel's state reads 3. The entry itself is SELF_REFRESH_ENTRY. -/
def srTrigger (n : Nat) (why : SrTrigger) (d : Device) : Device :=
  if d.chanState n = 2 then (d.setChanState n 3).setChan n { d.chan n with sr := some why } else d

/-! ### Shuttle (16_ R430) -/

def shtReset (_ : Nat) : Shuttle := {}
def Device.shuttle (d : Device) (n : Nat) : Shuttle := tabGet shtReset d.sht.engines n
def Device.setShuttle (d : Device) (n : Nat) (x : Shuttle) : Device :=
  let d := { d with sht := { d.sht with engines := tabSet shtReset d.sht.engines n x } }
  d.setFld (shtA n 4) 29 3 x.flight.length

/-- Requests of the engine's descriptors complete with TIMEOUT: those descriptors are marked bad, status 10 (R424, R426); the time their records
carry is not stated and free (log entry 1). -/
def shtTimeouts (n : Nat) (d : Device) : Device :=
  (d.shuttle n).flight.foldl (fun d q =>
    if q.stage ≤ 1 then
      let s := d.takeFree
      let x := s.2.shuttle n
      s.2.setShuttle n { x with flight := x.flight.map (fun y =>
        if y.q == q.q then { y with stage := 2, status := 10, net := 9, stamp := s.1, out := [] } else y) }
    else d) d

/-- A request of the engine reaches its timeout (06_ R179; R424): the descriptor whose requests have been out longest is marked bad. A limit of
0 disables it (R432). -/
def shtTimeout (n : Nat) (d : Device) : Device :=
  let x := d.shuttle n
  match x.flight.find? (fun q => q.stage ≤ 1) with
  | some q =>
    if d.fld (shtA n 0) 0 16 = 0 then d
    else
      let s := d.takeFree
      s.2.setShuttle n { x with flight := x.flight.map (fun y =>
        if y.q == q.q then { y with stage := 2, status := 10, net := 9, stamp := s.1, out := [] } else y) }
  | none => d

/-! ### Forcing and release (09_ R264, R265) -/

/-- What a domain's outputs do when its clock fails; the forced bit itself is set by the caller. -/
def forceEffects (n : Nat) (d : Device) : Device :=
  if n < 32 then d
  else if n < 44 then d.each (groupLanes n) (fun d l => laneEval l d)
  else if n < 52 then srTrigger (n - 44) .clockFailed d
  else if n < 54 then d.each (upto 8) (fun d i => shtTimeouts (8 * (n - 52) + i) d)
  else if n < 56 then
    d.each (d.net.outst.filter (fun o => knotHalf o.src.knot.val == halfOf (n - 54)
      || o.parts.any (fun p => p.answer.isNone && p.half == halfOf (n - 54)))) (fun d o => netComplete o { status := 9 } d)
  else
    -- Ethernet, JESD and host port: every lane with that user in electrical idle
    d.each (halfLanes (halfOfDomain n)) (fun d l => laneEval l d)

/-- Force a domain (R264): gates closed with state retained, outputs safe. A domain that is Off has no gates to close. -/
def forceDomain (n : Nat) (d : Device) : Device :=
  if d.forced n || d.domState n == 3 then d
  else
    let d := if n < 32 && d.replayed n then d.bobGap (halfOfField n) 2 else d
    let set (d : Device) : Device := d.setBit (domStatA n) 28
    forceEffects n (if n < 32 then d.stopping n set else set d)

/-- Release a forced domain (R265): gates reopen, lanes leave idle, pins follow their field; a memory channel's retraining is
SELF_REFRESH_EXIT. -/
def releaseDomain (n : Nat) (d : Device) : Device :=
  if d.forced n then
    let d := d.putBit (domStatA n) 28 false
    if 32 ≤ n ∧ n < 44 ∨ 56 ≤ n then d.each (halfLanes (halfOfDomain n)) (fun d l => laneEval l d) else d
  else d

/-! ### Registers of a domain (09_ R267) -/

/-- The addresses of a domain's registers. -/
def domRegs (n a : Nat) : Bool :=
  let within (lo hi : Nat) : Bool := decide (lo ≤ a ∧ a < hi)
  if n < 32 then within (fldA n 0) (fldA (n + 1) 0)
  else if n < 44 then within (quadA (3 * (n - 32)) 0) (quadA (3 * (n - 32) + 3) 0)
  else if n < 52 then within (mchA (n - 44) 0) (mchA (n - 43) 0)
  else if n < 54 then within (shtA (8 * (n - 52)) 0) (shtA (8 * (n - 52) + 8) 0)
  else if n < 56 then false
  else if n < 60 then n % 2 == 0 && within (ethA (4 * (n - 56)) 0) (ethA (4 * (n - 56) + 8) 0)
  else if n < 62 then within (jsdA (4 * (n - 60)) 0) (jsdA (4 * (n - 60) + 4) 0)
  else within (hptA (halfOf (n - 62)) 0) (hptA (halfOf (n - 62)) 0x10000)

def ethReset (_ : Nat) : EthBlock := {}
def jesdReset (_ : Nat) : Jesd := {}

/-- Contents a domain loses when it goes Off (22_ R558; 01_ R31; 11_ R314; 13_ R361 keeps DRAM). -/
def domLost (n : Nat) (d : Device) : Device :=
  if n < 32 then stilesOff n (fieldLost n d)
  else if n < 44 then { d with lanes := tabDrop (fun l => l / 12 == n - 32) d.lanes }
  else if n < 52 then
    let c := d.chan (n - 44)
    d.setChan (n - 44) { c with rq := [], wq := [], openRow := [], rpt := [], counted := [], pass := none }
  else if n < 54 then
    let h := n - 52
    { d with sht := { d.sht with
      engines := tabDrop (fun k => k / 8 == h) d.sht.engines
      cacheW := if h = 0 then [] else d.sht.cacheW
      cacheE := if h = 1 then [] else d.sht.cacheE } }
  else if n < 56 then (if d.up (halfOf (n - 54)) then netCut (halfOf (n - 54)) d else netGone (halfOf (n - 54)) d)
  else if n < 60 then (if n % 2 = 0 then { d with eth := tabDrop (fun m => m / 8 == (n - 56) / 2) d.eth } else d)
  else if n < 62 then { d with jesd := tabDrop (fun j => j / 4 == n - 60) d.jesd }
  else d

/-- The requests for a mend of field f that have not ended yet, and that `p` picks by kind · 65536 + target, end with a result and a stop
time (19_ R482; 21_ R538). -/
def mendResult (f : Nat) (p : Nat → Bool) (r stop : Nat) (d : Device) : Device :=
  let mine (x : LongRun) : Bool := (match x.op with
    | .mend g => g.val == f
    | _ => false) && p x.arg && x.result.isNone
  { d with cmd := { d.cmd with long := d.cmd.long.map (fun x => if mine x then { x with result := some (r, stop) } else x) } }

/-- A mend under way or waiting in field f is abandoned (19_ R482 result 5, R486). -/
def mendAbandon (f : Nat) (d : Device) : Device :=
  let d := mendResult f (fun _ => true) 5 0 d
  let d := { d with mend := { d.mend with arrival := d.mend.arrival.filter (fun g => g != f) } }
  match tabGet noMend d.mend.now f with
  | some m =>
    let d := { d with mend := { d.mend with
      now := tabSet noMend d.mend.now f none
      pend := tabSet noMend d.mend.pend f none
      queue := tabDrop (fun k => k == f) d.mend.queue } }
    let d := ((d.setFld (fldA f 0x18) 29 3 0).setFld (fldA f 0x18) 26 3 0).setFld (fldA f 0x18) 23 3 5
    d.fault (halfOfField f) 0x06 (f * 65536 + m.kind * 16384 + m.target) 5
  | none => { d with mend := { d.mend with
      pend := tabSet noMend d.mend.pend f none
      queue := tabDrop (fun k => k == f) d.mend.queue } }

/-- A domain reaches Off at once: gates close, the regulator turns off, contents are lost (22_ R559). -/
def domainOff (n : Nat) (d : Device) : Device :=
  let set (d : Device) : Device :=
    ((((d.setFld (domStatA n) 30 2 3).putBit (domStatA n) 28 false).putBit (domStatA n) 29 false).setFld (domStatA n) 16 8 0).setFld
      (domStatA n) 0 12 0
  let d := if n < 32 then d.stopping n set else set d
  let d := { d with pwr := { d.pwr with trans := tabSet (fun _ => none) d.pwr.trans n none } }
  let d := domLost n (if n < 32 then mendAbandon n d else d)
  if 32 ≤ n ∧ n < 44 then d.each (groupLanes n) (fun d l => laneEval l d) else d

/-- Which supply a domain needs beside VCC_CORE_IN (22_ R553). -/
def supplyOk (d : Device) (n : Nat) : Bool :=
  d.sys.coreIn && (if 32 ≤ n ∧ n < 44 then d.sys.xcvHi else if 44 ≤ n ∧ n < 52 then d.sys.vddq else true)

/-- The domain has reached On from Off (22_ R559, R562): its registers at reset, vout at v_set. Which host port is active is
Thimble's choice and stays (12_ R336). -/
def domainPowered (n : Nat) (d : Device) : Device :=
  let active := 62 ≤ n && d.bit (hptA (halfOf (n - 62)) 4) 31
  let d := (d.clearRegs (domRegs n)).when active (fun d => d.setBit (hptA (halfOf (n - 62)) 4) 31)
  let d := d.when (decide (n < 32)) (stilesPowered n)
  let v := d.fld (domCtrlA n) 16 8
  let d := (d.setFld (domStatA n) 30 2 0).setFld (domStatA n) 16 8 (if v < 36 then 36 else if v > 64 then 64 else v)
  if 32 ≤ n ∧ n < 44 then d.each (groupLanes n) (fun d l => laneEval l d) else d

/-! ### Blank (01_ R31; 08_ R245; 15_ R407; 20_ R509; 21_ R525, R549; 16_ R413) -/

/-- Every calendar register at its reset value, every entry cleared, every channel disabled (R245). -/
def calClear (h : Half) (d : Device) : Device :=
  let d := d.clearRegs (fun a => decide (lrkA h 0x200 ≤ a ∧ a < lrkA h 0x600))
  match h with
  | .w => { d with time := { d.time with calW := {} } }
  | .e => { d with time := { d.time with calE := {} } }

/-- Every key slot, root and tree key is erased and every range returns to Closed (15_ R407). -/
def liningErase (d : Device) : Device :=
  let d := { d with mem := { d.mem with
    keys := [], treeKey := [], sweeps := [], queued := [], cache := [], ctrs := [], gens := [], sels := []
    nextKey := d.mem.nextKey + 1 } }
  d.each (upto 16) (fun d i => d.setReg (linA (0x114 + 0x20 * i)) 0)

/-- The epoch of a half counts entries to Blank and resets of the half (16_ R413). -/
def epochBump (h : Half) (d : Device) : Device := d.bump (thmA 0x2208) (16 * hn h) 16 1

/-- Claims end at entry to Blank, but those of pins the record store configured, held by Thimble (21_ R549; 17_ R442). -/
def claimsBlank (d : Device) : Device :=
  { d with cmd := { d.cmd with sessions := [], long := [], claims := d.cmd.claims.filter (fun c => c.kind == 0 && c.holder == 0) } }

/-- Bobbin at a device reset or entry to Blank: frozen with cause reset (20_ R509). -/
def enterBlankCore (d : Device) : Device :=
  let d := { d with sys := { d.sys with mode := .blank } }
  let d := d.each [Half.w, Half.e] (fun d h => epochBump h (calClear h d))
  claimsBlank (liningErase (d.bobFreeze 4))

/-- All 64 domains Off. -/
def allOff (d : Device) : Device := d.each (upto 64) (fun d n => domainOff n d)

/-- A transition to Blank along R31: loaded domains go Off, nothing runs. -/
def toBlank (d : Device) : Device :=
  let d := (enterBlankCore (allOff d)).each (upto 32) (fun d f => d.setFld (fldA f 0) 29 3 0)
  { d with
    sys := { d.sys with waking := false, deferW := false, deferE := false }
    load := { d.load with job := none, pattern := none, partials := [] }
    mend := { d.mend with now := [], pend := [], queue := [], test := [], arrival := [] } }

end Sys2Proof.Machine
end

