-- ==== Sys2Proof/Machine/LarkBase.lean ====
section
/-!
DEFINITION. Machine/LarkBase.lean: leaders and followers, steering, temperature and radio grids (07_lark_time R191 to R198,
R211, R216, R226).
-/
namespace Sys2Proof.Machine

/-! ### Leader, follower and their registers (R216, R219, R221) -/

def Device.larkSplit (d : Device) : Bool := d.time.split.isSome

/-- The leading half; before any is marked, W. -/
def Device.leader (d : Device) : Half := if d.leads .w then .w else if d.leads .e then .e else .w

/-- The Larks that lead: both while each half leads itself. -/
def Device.leaders (d : Device) : List Half :=
  [Half.w, Half.e].filter (fun h => d.leads h && (d.lark h).on)

/-- A device-wide register that software writes: one copy, in window W. -/
def lrkWide (o : Nat) : Nat := lrkA .w o

/-- A device-wide read-only register as the leading Lark `h` holds it. -/
def Device.roA (d : Device) (h : Half) (o : Nat) : Nat :=
  if d.larkSplit then (match h with
    | .w => lrkA .w o
    | .e => lrkA .e o) else lrkA .w o

/-- The discipline state of the leading Lark `h`. -/
def Device.disc (d : Device) (h : Half) : Disc :=
  if d.larkSplit then (match h with
    | .w => d.time.disc
    | .e => d.time.discE) else d.time.disc

def Device.setDisc (d : Device) (h : Half) (x : Disc) : Device :=
  if d.larkSplit && h == .e then { d with time := { d.time with discE := x } } else { d with time := { d.time with disc := x } }

def statA (h : Half) : Nat := lrkA h 4
def Device.aligned (d : Device) (h : Half) : Bool := d.bit (statA h) 25

/-- The follower shows its leader's state while aligned, else Acquiring (R208), and is Locked with it; Thimble's copy follows. -/
def Device.showStates (d : Device) : Device :=
  let follow (d : Device) (f l : Half) : Device :=
    if d.leads l && !d.leads f && (d.lark f).on then
      let st := if d.aligned f then d.timeState l else 1
      let d := if st = 2 then d.setLark f { d.lark f with wasLocked := true } else d
      d.setFld (statA f) 28 3 st
    else d
  (follow (follow d .e .w) .w .e)

/-! ### Steering (R192) -/

def steerMax : Int := 28147497671

def clampSteer (x : Int) : Int := if x > steerMax then steerMax else if x < -steerMax then -steerMax else x

/-- Set the steering offset of the leading Lark h, in units of 2^−48; LRK_FREQ_OFS shows it in 2^−40. -/
def Device.setSteer (d : Device) (h : Half) (x : Int) : Device :=
  let s := clampSteer x
  let d := d.setLark h { d.lark h with steer := s }
  if d.leads h then d.setReg (d.roA h 0xC8) (BitVec.ofInt 32 (s / 256)) else d

/-! ### Temperature (R211) -/

def tempSrc (d : Device) : Bool := d.bit (lrkWide 0xE0) 5

/-- θ of half h, in 1/16 °C: the I2C sensor or the on-die point. -/
def theta (d : Device) (h : Half) : Int :=
  if tempSrc d then (d.lark h).temp else signed 16 (d.fld (pwrA (0x880 + 4 * d.fld (lrkWide 0xE0) 0 5)) 0 16)

/-- The range of the window's temperatures widened by 5 °C at each end. -/
def tempRange (l : Lark) : Option (Int × Int) :=
  match l.bins with
  | [] => none
  | b :: bs => some (bs.foldl (fun m x => if x.temp < m then x.temp else m) b.temp - 80,
      bs.foldl (fun m x => if x.temp > m then x.temp else m) b.temp + 80)

/-- How far θ lies outside the widened range, in 1/16 °C. -/
def outside (l : Lark) (t : Int) : Nat :=
  match tempRange l with
  | some (lo, hi) => if t < lo then (lo - t).toNat else if t > hi then (t - hi).toNat else 0
  | none => 0

/-- The initial steering of a saved model (R192): at the first temperature read after power-up, without the aging term. -/
def initialSteer (h : Half) (d : Device) : Device :=
  let l := d.lark h
  if l.tempSeen then d
  else
    let d := d.setLark h { l with tempSeen := true }
    match l.model with
    | some m =>
      if l.ranLoop then d
      else
        let x := theta d h - m.th0
        d.setSteer h (m.c0 + m.c2 * x + m.c3 * x * x)
    | none => d

/-- A temperature has been read. -/
def tempRead (h : Half) (d : Device) : Device :=
  let d := initialSteer h d
  d.putBit (statA h) 15 (outside (d.lark h) (theta d h) != 0)

/-! ### Radio grids (R195 to R198) -/

def gridReset (_ : Nat) : Grid := {}
def Device.grid (d : Device) (g : Nat) : Grid := tabGet gridReset d.time.grids g

/-- Units of 2^−16 ns. -/
def tMs : Nat := 1000000 * 65536
def tUs : Nat := 1000 * 65536

/-- A configuration as LRK_GRID_CFG_g and LRK_GRID_OFS_g give it. -/
def gridOf (cfg ofs : Word) : Grid :=
  { en := cfg.getLsbD 31, ext := cfg.getLsbD 25, mu := fieldOf cfg 22 3, k := fieldOf cfg 18 4
    ofs := (fieldOf cfg 0 18 * 65536 + fieldOf ofs 16 16) * 65536 + fieldOf ofs 0 16 }

/-- Valid (R196), with its offset in range. -/
def gridValid (g : Grid) : Bool :=
  decide (g.mu ≤ 4 ∧ g.k ≤ 8 ∧ g.mu ≤ g.k ∧ g.ofs / 65536 ≤ 10239999999) && (!g.ext || g.mu == 2)

/-- Symbols of a slot and of a subframe. -/
def slotSyms (g : Grid) : Nat := if g.ext then 12 else 14
def subSyms (g : Grid) : Nat := slotSyms g * 2 ^ g.mu

/-- Start of symbol j of a subframe in samples (R196): from j up to the subframe's length. -/
def symStart (g : Grid) (j : Nat) : Nat :=
  let p := 2 ^ (g.k - g.mu)
  if g.ext then j * (160 * p)
  else
    let half := 7 * 2 ^ g.mu
    j * (137 * p) + 2 ^ g.k * ((if j ≥ 1 then 1 else 0) + (if j > half then 1 else 0))

def symLen (g : Grid) (j : Nat) : Nat := symStart g (j + 1) - symStart g j

/-- The shortest symbol of the grid. -/
def symShort (g : Grid) : Nat := if g.ext then 160 * 2 ^ (g.k - g.mu) else 137 * 2 ^ (g.k - g.mu)

/-- A number of samples as a time, rounded up to a unit of 2^−16 ns (R197). -/
def sampTime (g : Grid) (n : Nat) : Nat := (n * 102400000 + 3 * 2 ^ g.k - 1) / (3 * 2 ^ g.k)

/-- The last symbol of the subframe, from 0 to n, that starts no later than `x` samples (scaled by 3 · 2^k). -/
def symAt (g : Grid) (x : Nat) : Nat → Nat
  | 0 => 0
  | n + 1 => if symStart g (n + 1) * 102400000 ≤ x then n + 1 else symAt g x n

/-- The coordinate that contains Lark time t (R197); 0 for a disabled grid (R226). -/
def gridNow (g : Grid) (t : Nat) : Nat :=
  if !g.en then 0
  else
    let x : Int := (t : Int) - g.ofs
    let sub := x / (tMs : Int)
    let r := (x % (tMs : Int)).toNat
    let u := r * (3 * 2 ^ g.k)
    let j := symAt g u (subSyms g - 1)
    let sfn := (sub / 10 % 1024).toNat
    let sf := (sub % 10).toNat
    sfn * 2 ^ 30 + sf * 2 ^ 26 + j / slotSyms g * 2 ^ 22 + j % slotSyms g * 2 ^ 18 + (u / 102400000 - symStart g j)

/-- A coordinate that R197 allows on the grid. -/
def coordOk (g : Grid) (c : Nat) : Bool :=
  let slot := bitsAt c 22 4
  let sym := bitsAt c 18 4
  decide (bitsAt c 26 4 ≤ 9 ∧ slot < 2 ^ g.mu ∧ sym < slotSyms g ∧ bitsAt c 16 2 = 0)
    && decide (bitsAt c 0 16 < symLen g (slot * slotSyms g + sym))

/-- Time of the point at subframe `sub` (counted from the grid's origin), symbol j of it, sample n (R197). -/
def gridTime (g : Grid) (sub : Int) (j n : Nat) : Int := g.ofs + sub * tMs + sampTime g (symStart g j + n)

/-- The one time in [now − 2^31 s, now + 2^31 s) whose seconds [31:0] are `lo`, with `frac` of a second (08_ R230). -/
def nearTime (now lo frac : Nat) : Int :=
  let s : Int := now / tSec
  let t : Int := (s - 2 ^ 31 + ((lo : Int) - s + 2 ^ 31) % 2 ^ 32) * tSec + frac
  -- in the first second of the span, a time that lies before it is the one 2^32 s later
  if t < now - 2 ^ 31 * tSec then t + 2 ^ 32 * tSec else t

/-! ### Hand-over boundaries (08_ R243) -/

/-- Start of the last boundary of a unit (0 symbol, 1 slot, 2 subframe, 3 frame) at or before time t. -/
def lastBoundary (g : Grid) (unit t : Nat) : Int :=
  let x : Int := (t : Int) - g.ofs
  let sub := x / (tMs : Int)
  match unit with
  | 3 => g.ofs + sub / 10 * 10 * tMs
  | 2 => g.ofs + sub * tMs
  | _ =>
    let r := (x % (tMs : Int)).toNat
    let step := if unit = 1 then slotSyms g else 1
    let n := subSyms g / step
    let k := (upto n).foldl (fun m i => if sampTime g (symStart g (i * step)) ≤ r then i else m) 0
    gridTime g sub (k * step) 0

/-- Start of the first boundary of a unit at or after time t. -/
def nextBoundary (g : Grid) (unit : Nat) (t : Int) : Int :=
  let x : Int := t - g.ofs
  let up (m : Int) : Int := g.ofs - (-x) / m * m
  match unit with
  | 3 => up (10 * tMs)
  | 2 => up tMs
  | _ =>
    let sub := x / (tMs : Int)
    let r := (x % (tMs : Int)).toNat
    let step := if unit = 1 then slotSyms g else 1
    match (upto (subSyms g / step)).find? (fun i => decide (r ≤ sampTime g (symStart g (i * step)))) with
    | some i => gridTime g sub (i * step) 0
    | none => gridTime g (sub + 1) 0 0

end Sys2Proof.Machine
end

