-- ==== Sys2Proof/Machine/Calendar.lean ====
section
/-!
DEFINITION. Machine/Calendar.lean: calendar entries, arming, dispatch and channels (08_lark_calendar R227 to R248).
-/
namespace Sys2Proof.Machine

def Device.cal (d : Device) : Half → Calendar
  | .w => d.time.calW
  | .e => d.time.calE

def Device.setCal (d : Device) (h : Half) (c : Calendar) : Device :=
  match h with
  | .w => { d with time := { d.time with calW := c } }
  | .e => { d with time := { d.time with calE := c } }

def calStat (h : Half) : Nat := lrkA h 0x230
def chanCtlA (h : Half) (c o : Nat) : Nat := lrkA h (0x400 + 16 * c + o)

def zero128 (_ : Nat) : BitVec 128 := 0
def noArms (_ : Nat) : List Arm := []
def chanReset08 (_ : Nat) : Chan := {}

/-- A status flag with the index that set it (R247). -/
def calFlag (h : Half) (bit idx : Nat) (d : Device) : Device := (d.setBit (calStat h) bit).setFld (calStat h) 0 16 idx

/-! ### Entry fields (R229, R230) -/

def eValid (e : BitVec 128) : Bool := e.getLsbD 63
def eGridKind (e : BitVec 128) : Bool := e.getLsbD 62
def eBits (e : BitVec 128) (lo n : Nat) : Nat := bitsAt e.toNat lo n
def eGrid (e : BitVec 128) : Nat := eBits e 60 2
def eLateOk (e : BitVec 128) : Bool := e.getLsbD 59
def eUnit (e : BitVec 128) : Nat := eBits e 56 3
def eRep (e : BitVec 128) : Nat := eBits e 43 13
def eClass (e : BitVec 128) : Nat := eBits e 39 4
def eIndex (e : BitVec 128) : Nat := eBits e 29 10
def eAction (e : BitVec 128) : Nat := eBits e 25 4
def eArg (e : BitVec 128) : Nat := eBits e 0 24
def eCoord (e : BitVec 128) : Nat := eBits e 64 40
/-- The signed offset of a grid trigger, in 2^−16 ns (R230: units of 0.25 ns). -/
def eOfs (e : BitVec 128) : Int := signed 24 (eBits e 104 24) * 16384
def invalid (e : BitVec 128) : BitVec 128 := e &&& ~~~((1#128).shiftLeft 63)
/-- An entry as it is stored: reserved bit 24 reads 0. -/
def eStored (e : BitVec 128) : BitVec 128 := e &&& ~~~((1#128).shiftLeft 24)

/-- A wake acts as if late_ok were 1 (R240). -/
def lateActs (e : BitVec 128) : Bool := eLateOk e || eClass e == 8

/-- How many indices and actions a target class has (R231); 0 for a reserved class. -/
def classSize : Nat → Nat × Nat
  | 1 => (256, 1)
  | 2 => (768, 3)
  | 3 => (8, 1)
  | 4 => (192, 4)
  | 5 => (72, 2)
  | 6 => (4, 1)
  | 7 => (1, 2)
  | 8 => (1, 1)
  | _ => (0, 0)

/-- A write with valid = 1 is refused (R238). -/
def entryRefused (d : Device) (e : BitVec 128) : Bool :=
  let g := d.grid (eGrid e)
  let u := eUnit e
  let onGrid := eGridKind e || decide (1 ≤ u ∧ u ≤ 4)
  let sz := classSize (eClass e)
  (onGrid && !g.en) || (eGridKind e && !coordOk g (eCoord e)) || (decide (1 ≤ u ∧ u ≤ 4) && !eGridKind e)
    || (u != 0 && eRep e == 0) || (u == 1 && decide (bitsAt (eCoord e) 0 16 ≥ symShort g))
    || decide (eIndex e ≥ sz.1) || decide (eAction e ≥ sz.2)
    || (eClass e == 4 && eAction e == 3 && decide (eArg e < 16))
    || (!eGridKind e && decide (eBits e 66 30 > 999999999))

/-! ### Trigger times (R230, R236, R237) -/

/-- The time of an absolute trigger: the one within 2^31 s of now. -/
def absTime (now : Nat) (e : BitVec 128) : Int := nearTime now (eBits e 96 32) (eBits e 66 30 * 65536 + eBits e 64 2 * 16384)

/-- A coordinate's subframe from the start of its SFN cycle, its symbol in the subframe, and its sample. -/
def coordSub (e : BitVec 128) : Nat := bitsAt (eCoord e) 30 10 * 10 + bitsAt (eCoord e) 26 4
def coordSym (g : Grid) (e : BitVec 128) : Nat := bitsAt (eCoord e) 22 4 * slotSyms g + bitsAt (eCoord e) 18 4
def coordSample (e : BitVec 128) : Nat := bitsAt (eCoord e) 0 16

/-- Time of a coordinate in SFN cycle 0, offset included. -/
def coordBase (g : Grid) (e : BitVec 128) : Int := gridTime g (coordSub e) (coordSym g e) (coordSample e) + eOfs e

/-- 10.24 s in units of 2^−16 ns. -/
def sfnCycle : Int := 10240 * tMs

/-- The coordinate's first time at or after `a`, and its last at or before it. -/
def coordFrom (g : Grid) (e : BitVec 128) (a : Int) : Int := coordBase g e - (coordBase g e - a) / sfnCycle * sfnCycle
def coordUpto (g : Grid) (e : BitVec 128) (a : Int) : Int := coordBase g e + (a - coordBase g e) / sfnCycle * sfnCycle

/-- Time of the k-th member of a symbol or slot series: `p0` its first position from the origin in steps of the unit. -/
def stepTime (g : Grid) (e : BitVec 128) (unit : Nat) (p : Int) : Int :=
  let per : Nat := if unit = 1 then subSyms g else 2 ^ g.mu
  let sub := p / (per : Int)
  let i := (p % (per : Int)).toNat
  let j := if unit = 1 then i else i * slotSyms g + bitsAt (eCoord e) 18 4
  gridTime g sub j (coordSample e) + eOfs e

/-- The first member at or after `a` among the n that follow position p in steps of `r`. -/
def stepFind (g : Grid) (e : BitVec 128) (unit r : Nat) (a p : Int) : Nat → Int
  | 0 => stepTime g e unit p
  | n + 1 => if stepTime g e unit p ≥ a then stepTime g e unit p else stepFind g e unit r a (p + r) n

/-- The first member at or after `a` of a series from `start` in equal steps. -/
def seriesFrom (start step a : Int) : Int := if start ≥ a then start else start + ((a - start + step - 1) / step) * step

/-- The first occurrence of entry e, armed at A on grid g, whose time is at or after `a` (R236, R237); `t` is the time of an absolute
trigger. A non-repeating entry has one occurrence. -/
def occurFrom (g : Grid) (t : Int) (e : BitVec 128) (A a : Int) : Int :=
  let u := eUnit e
  let r := eRep e
  if !eGridKind e then
    if u = 0 then t
    else seriesFrom t ((r * (if u = 5 then tUs else if u = 6 then tMs else tSec) : Nat)) (if a > A then a else A)
  else
    let lo := if a > A then a else A
    match u with
    | 0 => coordFrom g e lo
    | 1 | 2 =>
      let start := coordUpto g e A
      let per : Nat := if u = 1 then subSyms g else 2 ^ g.mu
      let i : Nat := if u = 1 then coordSym g e else bitsAt (eCoord e) 22 4
      let p0 : Int := ((start - eOfs e - g.ofs) / (tMs : Int)) * per + i
      -- skip whole steps that end a subframe before the first member sought
      let sk : Int := ((lo - start) / (tMs : Int) - 1) * per / r
      stepFind g e u r lo (p0 + (if sk > 0 then sk else 0) * r) (4 * per + 4)
    | 3 => seriesFrom (coordUpto g e A) (r * tMs : Nat) lo
    | 4 => seriesFrom (coordUpto g e A) (r * 10 * tMs : Nat) lo
    | 5 => seriesFrom (coordUpto g e A) (r * tUs : Nat) lo
    | 6 => seriesFrom (coordUpto g e A) (r * tMs : Nat) lo
    | _ => seriesFrom (coordUpto g e A) (r * tSec : Nat) lo

/-! ### Arming (R235, R236) -/

def Device.entry (d : Device) (h : Half) (i : Nat) : BitVec 128 := tabGet zero128 (d.cal h).entries i
def Device.setEntry (d : Device) (h : Half) (i : Nat) (e : BitVec 128) : Device :=
  let c := d.cal h
  d.setCal h { c with entries := tabSet zero128 c.entries i e }

/-- An arm's next occurrence, if it has one. -/
def armNext (x : Arm) : Option Int :=
  let t := occurFrom x.grid x.t0 x.entry x.a x.from_
  match x.until_ with
  | some u => if t < u then some t else none
  | none => some t

/-- The set of a channel that arms: the one decided, or else the active one (R243, R244): enabled, with its range. -/
def armingSet (d : Device) (h : Half) (c : Nat) : Bool × Word :=
  match (tabGet chanReset08 (d.cal h).chans c).decided with
  | some (x, _) => (x.ctl.getLsbD 31, x.range)
  | none => (d.bit (chanCtlA h c 8) 29, d.reg (chanCtlA h c 12))

def idxIn (r : Word) (i : Nat) : Bool := decide (fieldOf r 0 16 ≤ i ∧ i ≤ fieldOf r 16 16)

/-- Index i lies in the active range of an enabled channel. -/
def inActive (d : Device) (h : Half) (i : Nat) : Bool :=
  (upto 32).any (fun c => (armingSet d h c).1 && idxIn (armingSet d h c).2 i)

/-- Occurrences of the previous contents at or after A are lost, delivered ones too (R235); `new`: the entry was written. -/
def splitArms (h : Half) (new : Bool) (i A : Nat) (d : Device) : Device :=
  let c := d.cal h
  let cut (x : Arm) : Option Arm :=
    let y := { x with
      cur := x.cur && !new
      until_ := some (match x.until_ with
        | some u => if u < A then u else A
        | none => A) }
    if (armNext y).isSome then some y else none
  let keep (o : Occ) : Option Occ :=
    if o.idx ≠ i then some o else if A ≤ o.time then none else some { o with cur := o.cur && !new }
  d.setCal h { c with arms := tabSet noArms c.arms i ((tabGet noArms c.arms i).filterMap cut), waiting := c.waiting.filterMap keep }

def addArm (h : Half) (i : Nat) (x : Arm) (d : Device) : Device :=
  let c := d.cal h
  d.setCal h { c with arms := tabMod noArms c.arms i (fun (xs : List Arm) => xs ++ [x]) }

/-- An occurrence of what entry i holds, armed before, still stands: delivered, or to come before the split. -/
def stands (d : Device) (h : Half) (i : Nat) : Bool :=
  (tabGet noArms (d.cal h).arms i).any (fun x => x.cur) || (d.cal h).waiting.any (fun o => o.idx == i && o.cur)

/-- A non-repeating absolute trigger before A (R236). -/
def missedAt (d : Device) (h : Half) (A i : Nat) : Bool :=
  let e := d.entry h i
  !eGridKind e && eUnit e == 0 && decide (absTime (d.now h) e < A)

/-- The arm of entry i at A. -/
def armOf (d : Device) (h : Half) (A i : Nat) : Arm :=
  let e := d.entry h i
  { entry := e, a := A, from_ := A, grid := d.grid (eGrid e), t0 := absTime (d.now h) e, made := d.now h }

/-- Entry i is missed: miss is set and counted, valid clears, and with late_ok it fires at once (R236). -/
def missEntry (h : Half) (A i : Nat) (d : Device) : Device :=
  let x := armOf d h A i
  let d := (calFlag h 29 i d).bump (lrkA h 0x23C) 0 32 1
  let d := d.setEntry h i (invalid x.entry)
  if lateActs x.entry then addArm h i { x with from_ := 0, miss := true } d else d

/-- Arm entry i at A, splitting what it held before (R235, R236); an entry that does not repeat and whose occurrence before A still acts
is not armed again. `wait`: a miss comes later, at A itself. -/
def armEntry (h : Half) (new wait : Bool) (A i : Nat) (d : Device) : Device :=
  let d := splitArms h new i A d
  let e := d.entry h i
  if !eValid e || !inActive d h i || (eUnit e == 0 && stands d h i) then d
  else if missedAt d h A i then (if wait then d else missEntry h A i d)
  else addArm h i (armOf d h A i) d

/-- Every entry of a range that holds something, or is armed. -/
def calIndices (d : Device) (h : Half) (p : Nat → Bool) : List Nat :=
  ((d.cal h).entries.map (fun (x : Nat × BitVec 128) => x.1)).filter p

/-! ### Hand-over points (R242 to R244) -/

def Device.chan08 (d : Device) (h : Half) (c : Nat) : Chan := tabGet chanReset08 (d.cal h).chans c
def Device.setChan08 (d : Device) (h : Half) (c : Nat) (x : Chan) : Device :=
  let k := d.cal h
  d.setCal h { k with chans := tabSet chanReset08 k.chans c x }

/-- 2,000 ns: from a write to its arming point, and from a hand-over cycle to its point. -/
def calLead : Nat := 2000 * 65536

/-- The first hand-over point of a set at or after t (R243); a set whose grid is disabled has none. -/
def nextPoint (d : Device) (ctl : Word) (t : Int) : Option Int :=
  if ctl.getLsbD 28 then
    let g := d.grid (fieldOf ctl 26 2)
    if g.en then some (nextBoundary g (fieldOf ctl 24 2) t) else none
  else some (-((-t) / (tUs : Int) * tUs))

/-- H is a hand-over point of the set. -/
def isPoint (d : Device) (ctl : Word) (H : Int) : Bool := nextPoint d ctl H == some H

/-- The first time, in whole units, not before the current thread-clock cycle, and not before the next (R244). -/
def cycleStart (d : Device) (h : Half) : Nat := ((d.lark h).time + 2 ^ 32 - 1) / 2 ^ 32
def cycleEnd (d : Device) (h : Half) : Nat := (((d.lark h).time + 2 ^ 48 : Nat) + (d.lark h).steer + (2 ^ 32 - 1)).toNat / 2 ^ 32

/-- What a write of a set in this cycle gives: it commits at the first hand-over point whose hand-over cycle is yet to come, and is held
where this cycle is one. -/
def stagedNow (d : Device) (h : Half) (r ctl : Word) : Staged :=
  let held := match nextPoint d ctl (cycleStart d h + calLead : Nat) with
    | some H => decide (H < (cycleEnd d h + calLead : Nat))
    | none => false
  ⟨r, ctl, .from_ (cycleEnd d h + calLead), held⟩

/-- The hand-over point at which a staged set commits. -/
def planned (d : Device) (x : Staged) : Option Nat :=
  match x.plan with
  | .hold => none
  | .from_ t => (nextPoint d x.ctl t).map Int.toNat
  | .exactly t => some t

/-- From the hand-over cycle of its point H on, a staged set's commit is decided: what lies at or after H comes from it, armed at H
(R243, R244). -/
def chanDecide (h : Half) (c : Nat) (d : Device) : Device :=
  let x := d.chan08 h c
  match x.decided, x.staged.bind (fun s => (planned d s).map (fun H => (s, H))) with
  | none, some (s, H) =>
    if d.now h + calLead < H then d
    else
      let was := armingSet d h c
      let d := d.setChan08 h c { x with staged := none, decided := some (s, H) }
      let is := calIndices d h (fun i => (was.1 && idxIn was.2 i) || (s.ctl.getLsbD 31 && idxIn s.range i))
      d.each is (fun d i => armEntry h false true H i d)
  | _, _ => d

/-- Every channel with a staged set. -/
def chansDecide (h : Half) (d : Device) : Device :=
  d.each ((d.cal h).chans.filterMap (fun (x : Nat × Chan) => if x.2.staged.isSome then some x.1 else none)) (fun d c => chanDecide h c d)

/-- Staged sets that wait for the moment `old` names take a new one. -/
def replan (h : Half) (old : Staged → Bool) (p : Plan) (d : Device) : Device :=
  let c := d.cal h
  let put (x : Chan) : Chan := match x.staged with
    | some s => if old s then { x with staged := some { s with plan := p } } else x
    | none => x
  chansDecide h (d.setCal h { c with chans := c.chans.map (fun (x : Nat × Chan) => (x.1, put x.2)) })

def heldPlan (s : Staged) : Bool := s.plan == .hold

/-- A pattern's sets commit at their first hand-over point after this moment (R245). -/
def chansStart (d : Device) : Device :=
  d.each [Half.w, Half.e] (fun d h => replan h heldPlan (.from_ (d.now h + 1)) d)

/-- A set that waits for a point to come waits from the current cycle again: Lark time stepped, or its grid changed. -/
def replanNow (h : Half) (old : Staged → Bool) (d : Device) : Device :=
  let waits (s : Staged) : Bool := match s.plan with
    | .from_ _ => old s
    | _ => false
  replan h waits (.from_ (cycleStart d h + calLead)) d

/-- A step of Lark time re-arms what is armed (R235). -/
def calStep (h : Half) (d : Device) : Device :=
  replanNow h (fun _ => true) (d.each (calIndices d h (fun i => inActive d h i && eValid (d.entry h i))) (fun d i =>
    armEntry h false false (d.now h + calLead) i d))

/-- A grid's new configuration applies at boundary A: its armed entries are checked again (R238). -/
def calGridChange (h : Half) (g A : Nat) (d : Device) : Device :=
  let d := d.each (calIndices d h (fun i => inActive d h i && eValid (d.entry h i) && eGrid (d.entry h i) == g
      && (eGridKind (d.entry h i) || decide (1 ≤ eUnit (d.entry h i) ∧ eUnit (d.entry h i) ≤ 4))))
    (fun d i =>
      if entryRefused d (d.entry h i) then
        calFlag h 30 i ((splitArms h true i A d).setEntry h i (invalid (d.entry h i)))
      else armEntry h false false A i d)
  replanNow h (fun s => s.ctl.getLsbD 28 && fieldOf s.ctl 26 2 == g) d

/-! ### Entry commands (R228, R246) -/

def writeArm (d : Device) (h : Half) : Nat := d.now h + calLead

/-- An entry is written: refused entries are stored with valid 0 (R238), and an armed range re-arms (R235). -/
def entryWrite (h : Half) (i : Nat) (e : BitVec 128) (d : Device) : Device :=
  let bad := eValid e && entryRefused d e
  let d := d.setEntry h i (eStored (if bad then invalid e else e))
  let d := if bad then calFlag h 30 i d else d
  armEntry h true false (writeArm d h) i d

/-- Valid is cleared, as a re-arm. -/
def entryClear (h : Half) (i : Nat) (d : Device) : Device := armEntry h true false (writeArm d h) i (d.setEntry h i (invalid (d.entry h i)))

def calIdx (d : Device) (h : Half) : Nat := d.fld (lrkA h 0x200) 0 16
/-- auto_inc after each command. -/
def calInc (h : Half) (d : Device) : Device := if d.bit (lrkA h 0x200) 16 then d.bump (lrkA h 0x200) 0 16 1 else d

/-- The four 32-bit words at `a` as an entry. -/
def entryAt (d : Device) (a : Nat) : BitVec 128 := d.reg (a + 12) ++ d.reg (a + 8) ++ d.reg (a + 4) ++ d.reg a

/-- CALENDAR_WRITE, CALENDAR_READ, CALENDAR_CLEAR_VALID: cmd 1, 2, 3. -/
def calWrite (h : Half) (d : Device) : Device := calInc h (entryWrite h (calIdx d h) (entryAt d (lrkA h 0x210)) d)
def calRead (h : Half) (d : Device) : Device :=
  let e := d.entry h (calIdx d h)
  calInc h (d.each (upto 4) (fun d n => d.setReg (lrkA h (0x220 + 4 * n)) (e.extractLsb' (32 * n) 32)))
def calClearValid (h : Half) (d : Device) : Device := calInc h (entryClear h (calIdx d h) d)

def execCalendarWrite (h : Half) (mc : MClass) (s : State) : Host.Outcome State Fault Refusal := s.lift (fun d => d.byThimble mc (calWrite h))
def execCalendarRead (h : Half) (mc : MClass) (s : State) : Host.Outcome State Fault Refusal := s.lift (fun d => d.byThimble mc (calRead h))
def execCalendarClearValid (h : Half) (mc : MClass) (s : State) : Host.Outcome State Fault Refusal :=
  s.lift (fun d => d.byThimble mc (calClearValid h))

/-! ### Dispatch (R239, R240) -/

/-- The earliest occurrence over all arms, the lowest index among equals: time, index, arm. -/
def nextOcc (d : Device) (h : Half) : Option (Int × Nat × Arm) :=
  (d.cal h).arms.foldl (fun best (kv : Nat × List Arm) =>
    kv.2.foldl (fun best (x : Arm) =>
      match armNext x with
      | some t => (match best with
        | some (t', _) => if t < t' then some (t, kv.1, x) else best
        | none => some (t, kv.1, x))
      | none => best) best) none

/-- The arm has given the occurrence at t: a non-repeating entry's arm ends, another's search starts after it. -/
def armUsed (h : Half) (i : Nat) (x : Arm) (t : Int) (d : Device) : Device :=
  let c := d.cal h
  d.setCal h { c with arms := tabMod noArms c.arms i (fun (xs : List Arm) =>
    if eUnit x.entry = 0 then xs.filter (fun y => y != x)
    else xs.map (fun y => if y = x then { y with from_ := (t + 1).toNat } else y)) }

/-- A non-repeating entry's valid clears when it fires (R236), not that of an entry written since. -/
def firedOnce (h : Half) (i : Nat) (e : BitVec 128) (cur : Bool) (d : Device) : Device :=
  if eUnit e = 0 ∧ cur then d.setEntry h i (invalid (d.entry h i)) else d

/-- late is set, counted and reported (R240). -/
def lateReport (h : Half) (i detail : Nat) (d : Device) : Device :=
  ((calFlag h 28 i d).bump (lrkA h 0x234) 0 32 1).fault h 0x49 (hn h * 65536 + i) detail

/-- Insert in order of time, then index. -/
def occInsert (o : Occ) : List Occ → List Occ
  | [] => [o]
  | x :: xs => if o.time < x.time ∨ (o.time = x.time ∧ o.idx < x.idx) then o :: x :: xs else x :: occInsert o xs

/-- The field of a tick line or engine that an entry names. -/
def actField (h : Half) (e : BitVec 128) : Nat := if eClass e = 1 then 16 * hn h + eIndex e / 16 else 16 * hn h + eIndex e / 48

/-- In replay, actions to targets in the replay set are suppressed (20_ R512). -/
def actFed (h : Half) (e : BitVec 128) (d : Device) : Bool := (eClass e == 1 || eClass e == 2) && d.feeds (actField h e)

/-- A Lark action to a target in the replay set is recorded (20_ R501). -/
def actRecord (h : Half) (o : Occ) (d : Device) : Device :=
  let ty := eClass o.entry
  let i := eIndex o.entry
  let f := actField h o.entry
  if (ty == 1 || ty == 2) && d.replayed f then
    d.bobRecord h (recOf 0x21 (leBytes (ty * 1024 + i) 2 ++ leBytes (eArg o.entry) 3 ++ leBytes (eAction o.entry) 1
      ++ leBytes ((o.time - (d.bobHalf h).anchorAt) / 65536) 6))
  else d

/-- The latest moment at which an arm's occurrence at t is delivered in time: 250 ns before it, or its own time where it was armed later
than that (R239, R240). -/
def lastMoment (x : Arm) (t : Int) : Int := if t - 250 * 65536 < x.made then t else t - 250 * 65536

/-- OCCURRENCE_DELIVER: the dispatcher takes the next occurrence from 2,000 ns before its time; later than R239 asks, or missed, it is
late. -/
def occDeliver (h : Half) (d : Device) : Device :=
  match nextOcc d h with
  | none => d
  | some (t, i, x) =>
    let now : Int := d.now h
    if now < t - calLead ∧ !x.miss then d
    else
      let c := d.cal h
      let us := d.now h / tUs
      let used := if c.usNow = us then c.usCount else 0
      let room := decide (used < 256 ∧ c.waiting.length < 1024)
      let late := x.miss || decide (now > lastMoment x t)
      if actFed h x.entry d then firedOnce h i x.entry x.cur (armUsed h i x t d)
      else if late && !lateActs x.entry then
        let d := (lateReport h i 1 d).bump (lrkA h 0x238) 0 32 1
        firedOnce h i x.entry x.cur (armUsed h i x t d)
      else if !room then d
      else
        let o : Occ := ⟨i, t.toNat, x.entry, late, x.cur⟩
        let d := d.setCal h { c with waiting := occInsert o c.waiting, usNow := us, usCount := used + 1 }
        let d := actRecord h o (armUsed h i x t d)
        if late then lateReport h i 0 d else d

def execOccurrenceDeliver (h : Half) (s : State) : Host.Outcome State Fault Refusal := s.lift (occDeliver h)

/-- When a delivered occurrence acts: at its time, or at once where it is late (R240). -/
def actTime (d : Device) (h : Half) (o : Occ) : Nat := if o.late then d.now h else o.time

/-- Take the delivered occurrence of a target and action, with an argument of this kind, that is due; none waits where no such
one does. -/
def occTake (h : Half) (cls idx act : Nat) (ok : Nat → Bool) (d : Device) : Option Occ × Device :=
  let c := d.cal h
  let due (o : Occ) : Bool :=
    eClass o.entry == cls && eIndex o.entry == idx && eAction o.entry == act && ok (eArg o.entry) && decide (actTime d h o ≤ d.now h)
  match c.waiting.find? due with
  | some o =>
    let d := d.setCal h { c with waiting := dropFirst due c.waiting }
    (some o, firedOnce h o.idx o.entry o.cur d)
  | none => (none, d)

/-- An occurrence dropped under R233 or R234. -/
def occDrop (h : Half) (bit : Nat) (o : Occ) (d : Device) : Device := (calFlag h bit o.idx d).bump (lrkA h 0x238) 0 32 1

/-! ### Channels (R242 to R244) -/

/-- Two index ranges overlap. -/
def rangesMeet (b1 l1 b2 l2 : Nat) : Bool := decide (b1 ≤ l2 ∧ b2 ≤ l1)

/-- Some other channel that is, or will be, enabled holds part of the range. -/
def rangeTaken (d : Device) (h : Half) (c lo hi : Nat) : Bool :=
  let meets (on : Bool) (r : Word) : Bool := on && rangesMeet lo hi (fieldOf r 0 16) (fieldOf r 16 16)
  let will (s : Staged) : Bool := meets (s.ctl.getLsbD 31) s.range
  (upto 32).any (fun k => k != c &&
    (meets (d.bit (chanCtlA h k 8) 29) (d.reg (chanCtlA h k 12)) || (d.chan08 h k).staged.any will
      || (d.chan08 h k).decided.any (fun (x : Staged × Nat) => will x.1)))

/-- A write of control `v` with the range register as it stands is refused (R242). -/
def chanRefused (d : Device) (h : Half) (c : Nat) (v : Word) : Bool :=
  let r := d.reg (chanCtlA h c 0)
  let lo := fieldOf r 0 16
  let hi := fieldOf r 16 16
  decide (lo > hi) || (v.getLsbD 28 && !(d.grid (fieldOf v 26 2)).en) || (v.getLsbD 31 && rangeTaken d h c lo hi)

/-- A write of control `v` stages both shadow registers (R242): a refused one sets ch_err and changes nothing else. `hold`: a set that a
pattern brings (R245). -/
def chanStage (h : Half) (c : Nat) (v : Word) (hold : Bool) (d : Device) : Device :=
  let v := v &&& 0x9F000000
  if chanRefused d h c v then d.setBit (calStat h) 25
  else
    let r := d.reg (chanCtlA h c 0)
    let s : Staged := if hold then ⟨r, v, .hold, false⟩ else stagedNow d h r v
    let d := (d.setReg (chanCtlA h c 4) v).setBit (chanCtlA h c 8) 31
    chanDecide h c (d.setChan08 h c { d.chan08 h c with staged := some s })

/-- CHANNEL_STAGE; in an 8-byte write the range register takes its half first (00_scope R590). -/
def execChannelStage (h : Half) (c : Fin 32) (mc : MClass) (v : BitVec 32) (range : Option (BitVec 32)) (s : State) :
    Host.Outcome State Fault Refusal :=
  s.lift (fun d => d.byThimble mc (fun d =>
    chanStage h c.val v false (match range with
      | some r => d.setReg (chanCtlA h c.val 0) r
      | none => d)))

/-- Entries that the commit at H finds missed: valid, with nothing armed (R236). -/
def commitMisses (h : Half) (r : Word) (H : Nat) (d : Device) : Device :=
  d.each (calIndices d h (idxIn r)) (fun d i =>
    if eValid (d.entry h i) && !stands d h i && missedAt d h H i then missEntry h H i d else d)

/-- CHANNEL_COMMIT: at H itself the decided set shows (R244). -/
def chanCommit (h : Half) (c : Nat) (d : Device) : Device :=
  let d := chanDecide h c d
  let x := d.chan08 h c
  match x.decided with
  | none => d
  | some (s, H) =>
    if d.now h < H then d
    else
      let st := chanCtlA h c 8
      let en := s.ctl.getLsbD 31
      let count := if d.bit st 29 then wrap 8 (d.fld st 16 8 + b2n (isPoint d x.activeCtrl H)) else 0
      let d := d.setChan08 h c { x with decided := none, activeCtrl := s.ctl }
      let d := (((d.putBit st 31 x.staged.isSome).putBit st 30 s.held).putBit st 29 en).setReg (chanCtlA h c 12) s.range
      let d := (d.setFld st 0 8 count).setFld st 16 8 (if en then count else 0)
      chanDecide h c (if en then commitMisses h s.range H d else d)

def execChannelCommit (h : Half) (c : Fin 32) (s : State) : Host.Outcome State Fault Refusal := s.lift (chanCommit h c.val)

/-- HAND_OVER_POINT: ho_now counts the points of the active set. -/
def handOverPoint (h : Half) (c : Nat) (d : Device) : Device :=
  let st := chanCtlA h c 8
  if d.bit st 29 then d.bump st 16 8 1 else d

def execHandOverPoint (h : Half) (c : Fin 32) (s : State) : Host.Outcome State Fault Refusal := s.lift (handOverPoint h c.val)

/-! ### Grids (07_ R198) -/

def gridCfgA (g : Nat) : Nat := lrkWide (0x100 + 16 * g)
def noGridPend (_ : Nat) : Option (Word × Word) := none

/-- Show a configuration in its registers. -/
def gridShow (g : Nat) (x : Grid) (d : Device) : Device :=
  let ns := x.ofs / 65536
  let keep := d.reg (gridCfgA g) &&& 0x60000000
  let v := 2 ^ 31 * b2n x.en + 2 ^ 25 * b2n x.ext + 2 ^ 22 * x.mu + 2 ^ 18 * x.k + ns / 65536
  (d.setReg (gridCfgA g) (keep ||| BitVec.ofNat 32 v)).setReg (gridCfgA g + 4) (BitVec.ofNat 32 (ns % 65536 * 65536 + x.ofs % 65536))

/-- A configuration comes into force at A. -/
def gridApply (g : Nat) (x : Grid) (A : Nat) (d : Device) : Device :=
  let d := { d with time := { d.time with
    grids := tabSet gridReset d.time.grids g x
    gridPend := tabSet noGridPend d.time.gridPend g none } }
  let d := gridShow g x (d.putBit (gridCfgA g) 30 false)
  calGridChange .e g A (calGridChange .w g A d)

/-- GRID_CFG_WRITE: stages CFG with OFS. -/
def gridCfgWrite (g : Nat) (v : Word) (d : Device) : Device :=
  let a := gridCfgA g
  let d := if v.getLsbD 29 then d.putBit a 29 false else d
  let x := gridOf v (d.reg (a + 4))
  if !gridValid x then
    -- discarded: the registers show what is in force, or waits
    let shown := match tabGet noGridPend d.time.gridPend g with
      | some (c, o) => gridOf c o
      | none => d.grid g
    gridShow g shown (d.setBit a 29)
  else if !(d.grid g).en then gridApply g x (d.now d.leader) d
  else
    let d := { d with time := { d.time with gridPend := tabSet noGridPend d.time.gridPend g (some (v, d.reg (a + 4))) } }
    (gridShow g x d).setBit a 30

def execGridCfgWrite (g : Fin 4) (v : BitVec 32) (s : State) : Host.Outcome State Fault Refusal := s.lift (gridCfgWrite g.val v)

/-- GRID_CONFIG_APPLY: the old grid's SFN goes from 1023 to 0. -/
def gridConfigApply (g : Nat) (d : Device) : Device :=
  match tabGet noGridPend d.time.gridPend g with
  | some (c, o) =>
    let old := d.grid g
    let t : Int := d.now d.leader
    let A := (old.ofs : Int) + (t - old.ofs) / sfnCycle * sfnCycle
    gridApply g (gridOf c o) A.toNat d
  | none => d

def execGridConfigApply (g : Fin 4) (s : State) : Host.Outcome State Fault Refusal := s.lift (gridConfigApply g.val)

end Sys2Proof.Machine
end

