-- ==== Sys2Proof/Machine/Power.lean ====
section
/-!
DEFINITION. Machine/Power.lean: domain state requests, regulators and temperatures (22_power_package).
-/
namespace Sys2Proof.Machine

/-! ### Domain transitions (R559 to R561) -/

def noTrans (_ : Nat) : Option DomTrans := none
def Device.trans (d : Device) (n : Nat) : Option DomTrans := tabGet noTrans d.pwr.trans n
def Device.setTrans (d : Device) (n : Nat) (t : Option DomTrans) : Device :=
  let d := { d with pwr := { d.pwr with trans := tabSet noTrans d.pwr.trans n t } }
  d.putBit (domStatA n) 29 t.isSome

/-- The next state on the way (R559): a state between is passed through; Off is reached from any state, and left for On. -/
def nextState (cur target : Nat) : Nat :=
  if target = 3 then 3 else if cur = 3 then 0 else if cur < target then cur + 1 else cur - 1

/-- Domains ramping up from Off now (R559: at most 4). -/
def ramping (d : Device) : Nat :=
  (d.pwr.trans.filter (fun kv => match kv.2 with
    | some t => t.next == 0 && !t.queued && d.domState kv.1 == 3
    | none => false)).length

/-- What starts when a domain leaves On: its gates close. -/
def leaveOn (n : Nat) (d : Device) : Device :=
  let d := { d with pwr := { d.pwr with lastV := tabSet natZero d.pwr.lastV n (d.fld (domStatA n) 16 8) } }
  if n < 32 then (if d.replayed n then d.bobGap (halfOfField n) 2 else d)
  else if n < 44 then d.each (groupLanes n) (fun d l => d.setLane l { d.lane l with frozen := true })
  else if n < 52 then srTrigger (n - 44) (.domain 1) d
  else d

/-- Start the transition toward `target`; the domain accepts one at a time. -/
def startTrans (n target : Nat) (d : Device) : Device :=
  let cur := d.domState n
  if cur = target then d
  else if cur = 3 ∧ !supplyOk d n then d.setBit (domStatA n) 27
  else
    let nxt := nextState cur target
    let d := if cur = 3 then d.putBit (domStatA n) 27 false else d
    let d := if cur = 0 then leaveOn n d else d
    let t : DomTrans := { next := nxt, final := target, waiting := none, queued := cur == 3 && decide (ramping d ≥ 4) }
    let set (d : Device) : Device := d.setTrans n (some t)
    let d := if n < 32 then d.stopping n set else set d
    if 32 ≤ n ∧ n < 44 then d.each (groupLanes n) (fun d l => laneEval l d) else d

/-- A state request (R560): a request that meets a transition waits, and a later one replaces it. -/
def domRequest (n st : Nat) (d : Device) : Device :=
  let d := d.setFld (domCtrlA n) 30 2 st
  match d.trans n with
  | some t => d.setTrans n (some { t with waiting := some st })
  | none => startTrans n st d

/-- DOMAIN_STATE_REQUEST: a write of state_req. A frozen field is busy (R561). -/
def domStateRequest (n : Nat) (mc : MClass) (st : Nat) (d : Device) : Device :=
  if mc.val = 3 ∧ !(n < 32 && d.frozen n) then (domRequest n st d).answer 0 [] else d.answer 8 []

def execDomainStateRequest (d : Fin 64) (mc : MClass) (st : BitVec 2) (s : State) : Host.Outcome State Fault Refusal :=
  s.lift (domStateRequest d.val mc st.toNat)

/-! ### The adaptive loop and the limits (R562, R563) -/

/-- vout code v_set, clamped to 36 to 64. -/
def vSet (d : Device) (n : Nat) : Nat :=
  let v := d.fld (domCtrlA n) 16 8
  if v < 36 then 36 else if v > 64 then 64 else v

/-- AVS_STEP: every 10 µs, one step from the worst monitor margin, in ps. -/
def avsStep (n : Nat) (worst : Int) (d : Device) : Device :=
  if !d.domOn n then d
  else if !d.bit (domCtrlA n) 29 then d.setFld (domStatA n) 16 8 (vSet d n)
  else
    let m : Int := d.fld (domCtrlA n) 8 8
    let v := d.fld (domStatA n) 16 8
    if worst > m + 10 then (if v > 36 then d.setFld (domStatA n) 16 8 (v - 1) else d)
    else if worst < m then (if v < 64 then d.setFld (domStatA n) 16 8 (v + 1) else d.setBit (domStatA n) 26)
    else d

def execAvsStep (d : Fin 64) (worstPs : Int) (s : State) : Host.Outcome State Fault Refusal := s.lift (avsStep d.val worstPs)

/-- UNDERVOLTAGE: vout 40 mV or more low for 5 µs. -/
def execUndervoltage (d : Fin 64) (s : State) : Host.Outcome State Fault Refusal :=
  s.lift (fun x => (x.setBit (domStatA d.val) 24).raiseInt 3)

/-- OVERCURRENT: the limit holds. -/
def execOvercurrent (d : Fin 64) (s : State) : Host.Outcome State Fault Refusal :=
  s.lift (fun x => (x.setBit (domStatA d.val) 15).raiseInt 3)

/-! ### Temperatures (R564, R565) -/

def tempA (p : Nat) : Nat := pwrA (0x880 + 4 * p)
def tempOf (d : Device) (p : Nat) : Int := signed 16 (d.fld (tempA p) 0 16)
def thermStat : Nat := pwrA 0x804

/-- The hottest point: the lowest number among equals. -/
def hottest (d : Device) : Nat := (upto 32).foldl (fun m p => if tempOf d p > tempOf d m then p else m) 0

/-- One threshold with 3 °C of hysteresis: `lo` is the field of the limit in PWR_THERM_CFG, `now` and `flag` its bits. -/
def threshold (lo now flag : Nat) (d : Device) : Device :=
  let t := tempOf d (hottest d)
  let lim : Int := 16 * signed 8 (d.fld (pwrA 0x800) lo 8)
  if d.bit thermStat now then (if t < lim - 48 then d.putBit thermStat now false else d)
  else if t ≥ lim then ((d.setBit thermStat now).setBit thermStat flag).raiseInt 3 else d

/-- TEMP_CONVERT: the conversion of every point. -/
def tempConvert (temps : List (BitVec 16)) (d : Device) : Device :=
  let d := d.each (upto 32) (fun d p => d.setReg (tempA p) ((nth temps p 0).setWidth 32))
  let h := hottest d
  let d := (d.setFld thermStat 16 5 h).setFld thermStat 0 16 (d.fld (tempA h) 0 16)
  let d := threshold 16 30 27 (threshold 24 31 28 d)
  -- the Larks that take their temperature from the die (07_ R211)
  let d := if tempSrc d then d else d.each [Half.w, Half.e] (fun d l => if (d.lark l).on then tempRead l d else d)
  let cool := decide (tempOf d h < 16 * (signed 8 (d.fld (pwrA 0x800) 16 8) - 10))
  { d with sys := { d.sys with alertLow := d.bit thermStat 30, tripLow := d.sys.tripLow && !cool } }

def execTempConvert (temps : List (BitVec 16)) (s : State) : Host.Outcome State Fault Refusal := s.lift (tempConvert temps)

/-- THERMAL_TRIP: point p has held at or above trip for 1 ms. THERM_TRIP_N falls and a device reset is due. -/
def thermalTrip (p : Nat) (d : Device) : Device :=
  if tempOf d p ≥ 16 * signed 8 (d.fld (pwrA 0x800) 8 8) then
    let d := d.setBit thermStat 29
    { d with sys := { d.sys with tripLow := true, tripReset := true } }
  else d

def execThermalTrip (p : Fin 32) (s : State) : Host.Outcome State Fault Refusal := s.lift (thermalTrip p.val)

/-! ### Wake (01_ R31) -/

/-- Domains the running pattern has On: those it names (18_ R465). -/
def dueOn (d : Device) (n : Nat) : Bool := tabGet boolFalse d.pwr.due n

/-- Wake, in Dormant (a device in Safe hold returns to Dormant first, 01_ R34): every domain due On is asked for; Running is reported when the
last is released. A half that is down is woken when it is back. -/
def wakeStart (d : Device) : Device :=
  if d.modeCode = 4 then
    ({ d with sys := { d.sys with waking := true } }).each (upto 64) (fun d n => if dueOn d n && d.up (halfOfDomain n) then domRequest n 0 d else d)
  else d

end Sys2Proof.Machine
end

