-- ==== Sys2Proof/Machine/Pins.lean ====
section
/-!
DEFINITION. Machine/Pins.lean: general-purpose pins (17_pins). What the ball of a pin presents is an
output of the device (padOut); the level of a pad comes back to it as PIN_INPUT_CHANGE.
-/
namespace Sys2Proof.Machine

def pinCfgA (b i : Nat) : Nat := gpioA b (4 * i)
def pinOwnA (b i : Nat) : Nat := gpioA b (0x100 + 4 * i)
def pinFiltA (b i : Nat) : Nat := gpioA b (0x200 + 4 * i)
/-- A register of a LO, HI pair at offset `o`, for pin `i`. -/
def pinWord (b o i : Nat) : Nat := gpioA b (o + 4 * (i / 32))

def Device.pinMux (d : Device) (b i : Nat) : Nat := d.fld (pinCfgA b i) 24 4
def Device.pinOwner (d : Device) (b i : Nat) : Nat := d.fld (pinOwnA b i) 30 2
def bankHalf (b : Nat) : Half := if b < 4 then .w else .e

/-- The field that holds the pin's tile (R434). -/
def pinField (b i : Nat) : Nat :=
  let j := 4 * (b % 2) + i / 12
  4 * (4 * (b / 4) + j / 2) + (if b % 4 < 2 then 0 else 3)

def vioOk (d : Device) (b : Nat) : Bool := bitsAt d.sys.vccio.toNat b 1 == 1

/-- A pin is forced to its safe state (R450). Secure pins never are. -/
def pinForced (d : Device) (b i : Nat) : Bool :=
  let f := pinField b i
  let fn0 := d.pinMux b i == 0
  d.pinOwner b i != 1
    && ((fn0 && (d.underLoad f || d.loadState f == 5)) || (fn0 && (d.forced f || d.domState f == 3))
      || (d.sys.integrity && d.pinOwner b i ≥ 2) || !vioOk d b)

/-! ### Outputs (R435, R439, R447, R449, R450) -/

/-- What a pin's ball presents (17_ R435, R437, R439, R449, R450). -/
inductive PadOut where
  | hiZ
  | pullUp
  | pullDown
  | level (high : Bool)
  /-- Function 10: the clock that clk_src names, coded as in R273. -/
  | clock (src : Nat)
  /-- An output of the function's own unit, with the pin's index. -/
  | unit (fn : Nat) (i : Nat)
deriving DecidableEq, Repr

/-- Wire w of the outward side of the pin's tile (R434, R435): live while its field runs, and what it last drove while it does not (R450). -/
def pinWire (d : Device) (b i w : Nat) : Bool :=
  let f := pinField b i
  let j := 4 * (b % 2) + i / 12
  let col := 89 + 18 * (j % 2)
  let side := if b % 4 < 2 then 2 else 0
  if d.fieldRuns f then d.sigAt (tileKey f col (if b % 4 < 2 then 0 else 199)) (512 + 24 * side + w)
  else (tabGet zero24 d.fab.lastVal (crossKey f side col)).getLsbD w

/-- The fabric's data out and output enable for a pin (R435). -/
def pinData (d : Device) (b i : Nat) : Bool := pinWire d b i (2 * (i % 12))
def pinEnable (d : Device) (b i : Nat) : Bool := pinWire d b i (2 * (i % 12) + 1)

/-- Pins of a unit's function that it drives (R439); an input-only signal never drives. -/
def unitDrives (fn i : Nat) : Bool :=
  match fn with
  | 3 => i == 0 || i == 2
  | 4 => i != 6
  | 5 => i == 12
  | 6 | 7 => true
  | 11 => i == 28
  | 12 => i == 30
  | 14 => i == 37
  | _ => false

/-- The pull of an undriven pin (R437). -/
def pinPull (d : Device) (b i : Nat) : PadOut :=
  match d.fld (pinCfgA b i) 19 2 with
  | 1 => .pullUp
  | 2 => .pullDown
  | _ => .hiZ

/-- What the ball of a pin presents. -/
def padOut (d : Device) (b i : Nat) : PadOut :=
  let fn := d.pinMux b i
  if !vioOk d b then .hiZ
  else if !(d.pin b i).configured then (if d.sys.pwrupPd then .pullDown else .pullUp)
  else if pinForced d b i || d.bit (pinCfgA b i) 29 then
    (match d.fld (pinCfgA b i) 21 3 with
    | 1 => .level false
    | 2 => .level true
    | 3 => .pullUp
    | 4 => .pullDown
    | _ => .hiZ)
  else
    match fn with
    | 0 => if pinEnable d b i then .level (pinData d b i) else pinPull d b i
    | 1 | 8 => .level (d.pin b i).level
    | 10 => .clock (d.fld (pinCfgA b i) 0 6)
    -- frozen-out of Bobbin (20_ R508)
    | 13 => if i = 33 then .level (d.bobState == 3) else pinPull d b i
    | _ => if unitDrives fn i then .unit fn i else pinPull d b i

/-! ### Functions (R439, R440) -/

/-- The pins that offer a function. -/
def muxGroup (fn b i : Nat) : Bool :=
  let k := b % 4
  match fn with
  | 0 | 1 => true
  | 2 => decide (40 ≤ i) && (k == 0 || k == 2)
  | 3 => decide (i ≤ 3)
  | 4 => decide (4 ≤ i ∧ i ≤ 9)
  | 5 => decide (10 ≤ i ∧ i ≤ 13) && k == 0
  | 6 => i == 14 || i == 15
  | 7 => (i == 16 || i == 17) && k == 1
  | 8 => decide (18 ≤ i ∧ i ≤ 23)
  | 9 => i == 24
  | 10 => i == 26 || i == 27
  | 11 => (i == 28 || i == 29) && decide (k < 2)
  | 12 => (i == 30 || i == 31) && k == 3
  | 13 => i == 32 || i == 33
  | 14 => decide (34 ≤ i ∧ i ≤ 37) && k == 0
  | _ => false

/-- The signal a function gives a pin: one number per signal that several pins offer, else the pin's own. -/
def muxSignal (fn b i : Nat) : Nat :=
  1000 * fn + (match fn with
    | 2 => 8 * (b / 4) + (i - 40)
    | 9 => b % 4
    | 11 => 2 * (b % 4) + (i - 28)
    | 13 | 14 => i
    | _ => 48 * b + i)

/-- Another pin selects the same signal. -/
def muxTaken (d : Device) (fn b i : Nat) : Bool :=
  fn ≥ 2 && (upto 384).any (fun n =>
    n != 48 * b + i && d.pinMux (n / 48) (n % 48) == fn && muxSignal fn (n / 48) (n % 48) == muxSignal fn b i)

def muxOk (d : Device) (fn b i : Nat) : Bool := muxGroup fn b i && !muxTaken d fn b i

/-- Idle value of a function's input filter (R447). -/
def muxIdle (fn : Nat) : Bool := fn == 3 || fn == 5 || fn == 6 || fn == 11 || fn == 14

/-- The values a configuration write stores (R451). -/
def pinNorm (v : Word) : Word :=
  let v := v &&& 0x0FFFFF3F
  let v := if fieldOf v 21 3 > 4 then withField v 21 3 0 else v
  let v := if fieldOf v 19 2 = 3 then withField v 19 2 0 else v
  let v := if fieldOf v 17 2 = 3 then withField v 17 2 1 else v
  let v := if fieldOf v 11 3 > 4 then withField v 11 3 4 else v
  if fieldOf v 8 3 > 5 then withField v 8 3 0 else v

/-- Put a configuration into force, but for the switching bit. Tracking starts anew when it is selected (R438). -/
def pinApply (b i : Nat) (v : Word) (d : Device) : Device :=
  let sw := d.fld (pinCfgA b i) 29 1
  let was := d.fld (pinCfgA b i) 17 2
  let d := d.setReg (pinCfgA b i) (withField v 29 1 sw)
  let d := d.setPin b i { d.pin b i with configured := true }
  if fieldOf v 17 2 = was then d
  else
    let p := d.pin b i
    (d.setPin b i { p with seenHigh := false, seenLow := false }).putBit (pinWord b 0x428 i) (i % 32) false

/-- A write of GPIO_PIN_CFG_i (R440, R447, R448). -/
def pinCfgWrite (b i : Nat) (w : Word) (d : Device) : Device :=
  let v := pinNorm w
  let fn := fieldOf v 24 4
  let p := d.pin b i
  if fn = d.pinMux b i then
    (if d.bit (pinCfgA b i) 29 then d.setPin b i { p with switch_ := some v } else pinApply b i v d)
  else if !muxOk d fn b i then d.setBit (gpioA b 0x430) 0
  else if d.bit (pinCfgA b i) 29 then d.setPin b i { p with heldWrite := some v }
  else (pinApply b i v d).setBit (pinCfgA b i) 29

/-- PIN_MUX_WRITE: only Thimble writes the bank registers (R441). -/
def execPinMuxWrite (b : Fin 8) (i : Fin 48) (mc : MClass) (v : BitVec 32) (s : State) : Host.Outcome State Fault Refusal :=
  s.lift (fun d => d.byThimble mc (pinCfgWrite b.val i.val v))

/-- PIN_SWITCH_DONE: edge 2 of a switch, and edge 3 where a later write is held. -/
def pinSwitchDone (b i : Nat) (d : Device) : Device :=
  if !d.bit (pinCfgA b i) 29 then d
  else
    let p := d.pin b i
    let d := d.putBit (pinCfgA b i) 29 false
    let d := match p.switch_ with
      | some v => pinApply b i v d
      | none => d
    let d := d.setPin b i { d.pin b i with filtered := muxIdle (d.pinMux b i), switch_ := none, heldWrite := none }
    (match p.heldWrite with
    | some v => pinCfgWrite b i v d
    | none => d).settle

def execPinSwitchDone (b : Fin 8) (i : Fin 48) (s : State) : Host.Outcome State Fault Refusal :=
  s.lift (pinSwitchDone b.val i.val)

/-! ### Inputs (R438, R443 to R446) -/

/-- A latched interrupt goes to the pin's owner, and may wake the device (R445). -/
def pinInterrupt (b i : Nat) (d : Device) : Device :=
  let d := d.setBit (pinWord b 0x410 i) (i % 32)
  let d := if d.bit (pinWord b 0x418 i) (i % 32) && d.pinOwner b i == 2 then d.raiseInt 1 else d
  if d.bit (pinCfgA b i) 16 then wakeStart d else d

/-- The interrupt mode takes this change of the filtered input. -/
def intTakes (mode : Nat) (level : Bool) : Bool :=
  match mode with
  | 1 | 4 => level
  | 2 | 5 => !level
  | 3 => true
  | _ => false

/-- A PIN record for each entry of BOB_PIN_SEL that names the pin (20_ R501, R510). -/
def pinRecord (b i : Nat) (level : Bool) (d : Device) : Device :=
  d.each (upto 16) (fun d n =>
    let a := bobA (0x200 + 4 * n)
    if d.bit a 31 && d.fld a 12 3 == b && d.fld a 6 6 == i then
      let h := bankHalf b
      let cyc := (d.now h - (d.bobHalf h).anchorAt) / (10 * 65536)
      d.bobRecord h (recOf 0x20 (leBytes n 2 ++ [BitVec.ofNat 8 (b2n level), 0, 0, 0] ++ leBytes cyc 6))
    else d)

/-- The filtered input takes a level. -/
def pinFiltered (b i : Nat) (level : Bool) (d : Device) : Device :=
  let p := d.pin b i
  if p.filtered = level then d
  else
    let d := d.setPin b i { p with filtered := level }
    let d := pinRecord b i level d
    let d := if d.pinMux b i == 13 && i == 32 then d.bobTrigger 0 else d
    if intTakes (d.fld (pinCfgA b i) 8 3) level then pinInterrupt b i d else d

/-- PIN_INPUT_CHANGE: the pad moves to a level that then holds for `samples` samples of the pin clock and, past the glitch
filter, for `ticks` debounce ticks (R443). An unpowered bank's inputs present 0 (R436). -/
def pinInput (b i : Nat) (level : Bool) (samples ticks : Nat) (d : Device) : Device :=
  let level := level && vioOk d b
  let p := d.pin b i
  let track := d.fld (pinCfgA b i) 17 2 == 2
  let p := { p with pad := level, seenHigh := p.seenHigh || (track && level), seenLow := p.seenLow || (track && !level) }
  let d := d.setPin b i p
  let d := if track && p.seenHigh && p.seenLow then d.setBit (pinWord b 0x428 i) (i % 32) else d
  if d.feeds (pinField b i) then d
  else if samples ≥ d.fld (pinFiltA b i) 0 4 ∧ ticks ≥ d.fld (pinFiltA b i) 16 16 then pinFiltered b i level d else d

/-- PIN_LEVEL_INTERRUPT: while its level holds, a level interrupt sets its bit again on each pin clock. -/
def pinLevelInterrupt (b i : Nat) (d : Device) : Device :=
  let m := d.fld (pinCfgA b i) 8 3
  if (m == 4 && (d.pin b i).filtered) || (m == 5 && !(d.pin b i).filtered) then pinInterrupt b i d else d

/-- TRACK_TIMEOUT: a level not seen again for 10 s (R438). -/
def trackTimeout (b i : Nat) (high : Bool) (d : Device) : Device :=
  let p := d.pin b i
  (d.setPin b i (if high then { p with seenHigh := false } else { p with seenLow := false })).putBit
    (pinWord b 0x428 i) (i % 32) false

def execTrackTimeout (b : Fin 8) (i : Fin 48) (high : Bool) (s : State) : Host.Outcome State Fault Refusal :=
  s.lift (trackTimeout b.val i.val high)

/-- Pads `lo` to `lo + n - 1` of a bank as one number. -/
def padWord (d : Device) (b lo n : Nat) : Word :=
  BitVec.ofNat 32 ((upto n).foldl (fun v i => v + (if (d.pin b (lo + i)).pad then 2 ^ i else 0)) 0)

/-- GPIO_IN_READ: a read of GPIO_IN_LO returns the pads and latches GPIO_IN_HI from the same edge (R446). -/
def gpioInRead (b : Nat) (d : Device) : Device :=
  let lo := padWord d b 0 32
  ((d.setReg (gpioA b 0x400) lo).setReg (gpioA b 0x404) (padWord d b 32 16)).answer 0 (leBytes lo.toNat 4)

def execGpioInRead (b : Fin 8) (s : State) : Host.Outcome State Fault Refusal := s.lift (gpioInRead b.val)

/-- VCCIO_LOW: below 1.6 V (R436). -/
def vccioLow (b : Nat) (d : Device) : Device :=
  if !vioOk d b then d
  else
    let d := { d with sys := { d.sys with vccio := d.sys.vccio &&& ~~~(BitVec.ofNat 8 (2 ^ b)) } }
    let d := (d.putBit (gpioA b 0x430) 31 false).fault (bankHalf b) 0x58 b 0
    (d.each (upto 48) (fun d i => pinInput b i false 15 65535 d)).settle


/-! ### Power-up state and release (R449) -/

/-- Every pin in its power-up state; configuration registers at reset. -/
def pinsPowerUp (d : Device) (p : Nat → Bool) : Device :=
  let d := d.clearRegs (fun a => decide (gpioA 0 0 ≤ a ∧ a < gpioA 8 0) && p ((a - gpioA 0 0) / 0x10000)
    && (a - gpioA 0 0) % 0x10000 != 0x430)
  { d with pins := tabDrop (fun k => p (k / 48)) d.pins }

end Sys2Proof.Machine
end

