-- ==== Sys2Proof/Machine/Lark.lean ====
section
/-!
DEFINITION. Machine/Lark.lean: time commands, references, the discipline loop, time states, learned holdover, and the two
Larks (07_lark_time R191 to R220).
-/
namespace Sys2Proof.Machine

/-! ### Reading and setting time (R193, R194) -/

/-- TIME_FRAC_READ: FRAC, NS and the seconds of one edge. -/
def timeFracRead (h : Half) (d : Device) : Device :=
  let t := d.now h
  (((d.setReg (lrkA h 0x10) (BitVec.ofNat 32 (timeFrac t))).setReg (lrkA h 0x14) (BitVec.ofNat 32 (timeNs t))).setReg
    (lrkA h 0x18) (BitVec.ofNat 32 (timeSec t))).setReg (lrkA h 0x1C) (BitVec.ofNat 32 (timeSec t / 2 ^ 32 % 65536))

def execTimeFracRead (h : Half) (s : State) : Host.Outcome State Fault Refusal := s.lift (timeFracRead h)

/-- The LRK_SET registers as a time in units of 2^−48 ns. -/
def setValue (d : Device) : Nat :=
  let sec := d.fld (lrkWide 0x28) 0 32 + 2 ^ 32 * d.fld (lrkWide 0x2C) 0 16
  ((sec * 1000000000 + d.fld (lrkWide 0x24) 0 30) * 65536 + d.fld (lrkWide 0x20) 0 16) * 2 ^ 32

/-- The Lark a set acts on: the leader, or the window's own once each half leads itself. -/
def setTarget (d : Device) (h : Half) : Half := if d.larkSplit then h else d.leader

/-- SET_TIME: cmd 1 (R194). True where it is accepted. -/
def setTimeOk (d : Device) (h : Half) : Bool :=
  d.timeState (setTarget d h) == 0 && decide (d.fld (lrkWide 0x24) 0 30 < 1000000000)

def setTime (h : Half) (d : Device) : Device :=
  if setTimeOk d h then
    let t := setTarget d h
    d.setLark t { d.lark t with setArmed := true }
  else d.setBit (statA h) 13

def execSetTime (h : Half) (s : State) : Host.Outcome State Fault Refusal := s.lift (setTime h)

/-- Both Larks run. -/
def bothOn (d : Device) : Bool := (d.lark .w).on && (d.lark .e).on

def otherFollows (d : Device) (h : Half) : Bool := !d.larkSplit && (d.lark (otherHalf h)).on

/-- Move a Lark's counter by `by_` (2^−48 ns), count the step and re-arm its calendar (R194, R205, 08_ R235). -/
def moveLark (h : Half) (by_ : Int) (d : Device) : Device :=
  let l := d.lark h
  let d := d.setLark h { l with time := ((l.time : Int) + by_).toNat }
  calStep h (d.bump (statA h) 0 8 1)

/-- A step or set of the leading Lark h: the follower moves by the same amount. -/
def stepTime07 (h : Half) (by_ : Int) (d : Device) : Device :=
  let d := moveLark h by_ d
  if otherFollows d h then moveLark (otherHalf h) by_ d else d

/-- SET_TIME_APPLY: the next whole second of the armed Lark. The rule does not say what a rewrite of LRK_SET between the command and the
boundary does: DESIGN CHOICE, the registers' value at the boundary is loaded, its ns not checked again (log entry 102). -/
def setTimeApply (h : Half) (d : Device) : Device :=
  let l := d.lark h
  if !l.setArmed then d
  else
    let d := d.setLark h { l with setArmed := false }
    let d := d.setDisc h { d.disc h with secs := true }
    stepTime07 h ((setValue d : Int) - l.time) d

def execSetTimeApply (h : Half) (s : State) : Host.Outcome State Fault Refusal := s.lift (setTimeApply h)

/-! ### References (R199 to R203, R224) -/

def refA (n : Nat) : Nat := lrkWide (0x40 + 4 * n)
def refEn (d : Device) (n : Nat) : Bool := d.bit (refA n) 31
def refKind (d : Device) (n : Nat) : Nat := d.fld (refA n) 28 3
def refPrio (d : Device) (n : Nat) : Nat := d.fld (refA n) 24 4
def refSrc (d : Device) (n : Nat) : Nat := d.fld (refA n) 16 8
/-- The entry's delay in 2^−16 ns. -/
def refDly (d : Device) (n : Nat) : Int := signed 32 (d.reg (lrkWide (0x60 + 4 * n))).toNat * 256
def refStatA (d : Device) (h : Half) (n : Nat) : Nat := d.roA h (0x80 + 4 * n)
def qualified (d : Device) (h : Half) (n : Nat) : Bool := d.bit (refStatA d h n) 31

def refReset (_ : Nat) : RefState := {}
def Device.ref (d : Device) (h : Half) (n : Nat) : RefState := tabGet refReset (d.disc h).refs n
def Device.setRef (d : Device) (h : Half) (n : Nat) (x : RefState) : Device :=
  let c := d.disc h
  d.setDisc h { c with refs := tabSet refReset c.refs n x }

/-- The bank whose pin selects PPS input i (function 9), or GNSS UART i (function 11). -/
def ppsBank (d : Device) (i : Nat) : Option Nat := (upto 8).find? (fun b => b % 4 == i && d.pinMux b 24 == 9)
def uartBank (d : Device) (i : Nat) : Option Nat :=
  (upto 8).find? (fun b => b % 4 == i && (d.pinMux b 28 == 11 || d.pinMux b 29 == 11))

def pinGood (d : Device) (b i : Nat) : Bool := d.up (bankHalf b) && vioOk d b && !pinForced d b i

/-- The half that holds a reference's source. -/
def refHalf (d : Device) (n : Nat) : Option Half :=
  let s := refSrc d n
  match refKind d n with
  | 0 | 1 => (ppsBank d s).map bankHalf
  | 2 => if s < 128 then some (halfOf (s / 64)) else none
  | 3 => if s < 144 then some (halfOf (s / 72)) else none
  | 4 => if s < 8 then some (halfOf (s / 4)) else none
  | _ => none

/-- The source block's domain is On, its half up, its outputs not forced (R202, cause 4). -/
def refSourceOk (d : Device) (n : Nat) : Bool :=
  let s := refSrc d n
  let dom (k : Nat) : Bool := d.domOn k && !d.forced k
  match refKind d n with
  | 0 => (match ppsBank d s, uartBank d s with
    | some b, some c => pinGood d b 24 && (pinGood d c 28 || pinGood d c 29)
    | _, _ => false)
  | 1 => (match ppsBank d s with
    | some b => pinGood d b 24
    | none => false)
  | 2 => s < 128 && d.up (halfOf (s / 64)) && dom (56 + 2 * (s / 64))
  | 3 => s < 144 && d.up (halfOf (s / 72)) && dom (32 + s / 12)
  | 4 => s < 8 && d.up (halfOf (s / 4))
  | _ => false

/-- A reference whose source lies in half h, wholly or in part: of a GNSS entry its PPS pin and its UART's (R219). -/
def refInHalf (d : Device) (n : Nat) (h : Half) : Bool :=
  refHalf d n == some h || (refKind d n == 0 && (uartBank d (refSrc d n)).any (fun b => bankHalf b == h))

/-- The lane is locked and within ±10 ppm of REFCLK_LOCAL; the link is up (R202, cause 6). -/
def refLinkOk (d : Device) (n : Nat) : Bool :=
  let s := refSrc d n
  match refKind d n with
  | 3 => d.bit (laneA s 0x10C) 30 && decide ((signed 16 (d.fld (laneA s 0x110) 0 16)).natAbs ≤ 1000)
  | 4 => d.fld (slvA s 4) 29 3 == 3
  | _ => true

/-- The selected phase reference and frequency assist of Lark h (R222). -/
def phaseRef (d : Device) (h : Half) : Option Nat := if d.bit (statA h) 20 then some (d.fld (statA h) 17 3) else none
def freqRef (d : Device) (h : Half) : Option Nat := if d.bit (statA h) 24 then some (d.fld (statA h) 21 3) else none

/-- The qualified entry with the lowest prio among those `p` allows; ties to the lower n. -/
def bestRef (d : Device) (h : Half) (p : Nat → Bool) : Option Nat :=
  (upto 8).foldl (fun b n =>
    if !(qualified d h n && p n) then b
    else match b with
      | some m => if refPrio d n < refPrio d m then some n else b
      | none => some n) none

def isPhase (d : Device) (n : Nat) : Bool := refKind d n == 0 || refKind d n == 1 || refKind d n == 2 || refKind d n == 4

/-! ### Time states (R207, R210, R212) -/

def setState (h : Half) (st : Nat) (d : Device) : Device := (d.setFld (statA h) 28 3 st).showStates

/-- model_valid of half h (R210). -/
def modelValid (d : Device) (h : Half) : Bool := d.bit (statA h) 26

def modelEval (h : Half) (d : Device) : Device :=
  let l := d.lark h
  let full := decide (l.bins.length ≥ 4860)
  let l := if full then { l with waiver := false } else l
  (d.setLark h l).putBit (statA h) 26 (decide (l.hours ≥ 72) && (full || l.waiver))

/-- The learned model's steering now (R207, R210). -/
def modelSteer (d : Device) (h : Half) : Option Int :=
  match (d.lark h).model with
  | some m =>
    let x := theta d h - m.th0
    some (m.c0 + m.c1 * ((timeSec (d.now h) : Int) - m.t0) / 2 ^ 20 + m.c2 * x + m.c3 * x * x)
  | none => none

/-- 10 ppm in units of 2^−48. -/
def assistMax : Nat := 2814749767

/-- The frequency error that an assist measures: free, within the ±10 ppm in which its lane qualifies (R202; log entry 59). -/
def assistError (d : Device) : Int × Device :=
  let v := d.takeFree
  ((v.1 % (2 * assistMax + 1) : Nat) - (assistMax : Int), v.2)

/-- Steering without a phase reference (R206, R207): the assist's; in Holdover the valid model's; else the integral. A Lark that has not
run the loop keeps the steering in force (R192). -/
def holdSteer (h : Half) (d : Device) : Device :=
  let st := d.timeState h
  match freqRef d h with
  | some _ =>
    let v := assistError d
    v.2.setSteer h v.1
  | none =>
    match (if st ≠ 0 ∧ modelValid d h then modelSteer d h else none) with
    | some x => d.setSteer h x
    | none => if (d.lark h).ranLoop then d.setSteer h (d.disc h).integ else d

/-- The largest natural number whose square is at most n, below 2^160. -/
def isqrt (n : Nat) : Nat := (List.range 160).reverse.foldl (fun r k => if (r + 2 ^ k) * (r + 2 ^ k) ≤ n then r + 2 ^ k else r) 0

/-- The standard error of a fit's value at x, in 10^−18 for a fit in units of 2^−48: √(s² xᵀ(XᵀX)⁻¹x), rounded down. -/
def stdErr (f : Fit) (x : List Int) : Nat :=
  let q := ((f.adj.map (fun r => (r.zipWith (· * ·) x).foldl (· + ·) 0)).zipWith (· * ·) x).foldl (· + ·) 0
  isqrt ((f.rss * q * 10 ^ 36).toNat / ((f.det * f.det * f.det * f.dof).toNat * 2 ^ 96))

/-- The standard error of the model's frequency at a temperature and a time (R212). Of a saved model only the coefficients' own are
left: the root of the sum of their squares (log entry 59). -/
def modelErr (m : Model) (dt dx : Int) : Nat :=
  match m.fit with
  | some f => stdErr f [1, dt, dx, dx * dx]
  | none => isqrt (m.se0 ^ 2 + (m.seA * dt.natAbs) ^ 2 + (m.se2 * dx.natAbs) ^ 2 + (m.se3 * (dx * dx).natAbs) ^ 2)

/-- sf and sa in units of 10^−18 (R212). -/
def holdTerms (d : Device) (h : Half) : Nat × Nat :=
  if modelValid d h then (match (d.lark h).model with
    | some m => (3 * modelErr m ((timeSec (d.now h) : Int) - m.t0) (theta d h - m.th0), 3 * m.seA)
    | none => (1000000000, 10000))
  else (1000000000, 10000)

/-- Entry to Holdover: the clock of R212 goes on from the last entry, unless Locked was held since. -/
def enterHold (h : Half) (d : Device) : Device :=
  let c := d.disc h
  let d := match c.holdAt with
    | some _ => d
    | none =>
      let n := c.hist.length
      let mean : Int := if n = 0 then 0 else c.hist.foldl (· + ·) 0 / n
      let t := holdTerms d h
      d.setDisc h { c with holdAt := some (d.now h), eEntry := mean.natAbs, sf := t.1, sa := t.2 }
  holdSteer h (setState h 3 d)

/-- pred_err in whole ns, rounded up, t seconds after entry (R212). -/
def predErr (d : Device) (h : Half) (t : Nat) : Nat :=
  let c := d.disc h
  let assisted := (freqRef d h).isSome
  let sf := if assisted then 10000000 else c.sf
  let sa := if assisted then 0 else c.sa
  let dx := outside (d.lark h) (theta d h)
  let lost := b2n (d.bit (statA h) 16)
  let D := 65536 * 2 * 1000000000
  let num := c.eEntry * (2 * 1000000000) + sf * t * (65536 * 2) + sa * t * t * 65536 + dx * t * (D / 160) + lost * t * (D / 2)
  (num + D - 1) / D

/-- No holdover is shown outside Holdover and Holdover-expired. -/
def leaveHold (h : Half) (d : Device) : Device := (d.setReg (d.roA h 0xE8) 0).setFld (d.roA h 0xE4) 0 16 0

/-- Enter Acquiring at bw_acq, from the steering in force (R204, R205). -/
def enterAcq (h : Half) (mayStep : Bool) (d : Device) : Device :=
  let c := d.disc h
  let d := d.setDisc h { c with
    integ := (d.lark h).steer, b := d.fld (lrkWide 0xC0) 8 4, inRange := 0, first := true
    mayStep := mayStep && d.bit (lrkWide 0) 0, changed := false }
  setState h 1 (leaveHold h d)

/-! ### Selection (R203, R206) -/

def showSelected (h : Half) (d : Device) : Device :=
  d.each (upto 8) (fun d n => d.putBit (refStatA d h n) 30 (phaseRef d h == some n || freqRef d h == some n))

/-- Make `new` the phase reference, with what R203, R204 and R207 say follows. -/
def choosePhase (h : Half) (new : Option Nat) (d : Device) : Device :=
  let old := phaseRef d h
  if old = new then d
  else
    let d := match new with
      | some n => (d.setBit (statA h) 20).setFld (statA h) 17 3 n
      | none => (d.putBit (statA h) 20 false).setFld (statA h) 17 3 0
    let st := d.timeState h
    match new with
    | none =>
      if st = 2 then enterHold h d
      else if st = 1 then
        (if (d.lark h).wasLocked then enterHold h d else holdSteer h (setState h 0 d))
      else d
    | some n =>
      let d := d.setRef h n { d.ref h n with unlock := 0 }
      if st = 1 ∨ st = 2 then d.setDisc h { d.disc h with changed := true }
      else enterAcq h (st == 0 || d.bit (lrkWide 0) 1) d

/-- Selection after any change (R203): the current phase reference stays while it is qualified. So does the frequency assist, of which the rule
says only that the lowest prio is selected: DESIGN CHOICE, it gives way to a better entry by REVERTIVE_SWITCH (log entry 103). -/
def select (h : Half) (d : Device) : Device :=
  let cur := match phaseRef d h with
    | some n => if qualified d h n then some n else none
    | none => none
  let new := match cur with
    | some n => some n
    | none => bestRef d h (isPhase d)
  let f := if !d.bit (lrkWide 0) 2 then none
    else match freqRef d h with
      | some n => if qualified d h n then some n else bestRef d h (fun n => refKind d n == 3)
      | none => bestRef d h (fun n => refKind d n == 3)
  let was := d
  let d := match f with
    | some n => (d.setBit (statA h) 24).setFld (statA h) 21 3 n
    | none => (d.putBit (statA h) 24 false).setFld (statA h) 21 3 0
  -- an assist found or lost while there is no phase reference changes the steering (R206)
  let d := d.when (decide (freqRef was h ≠ f) && (phaseRef d h).isNone && new.isNone && d.timeState h != 1) (holdSteer h)
  let d := showSelected h (choosePhase h new d)
  -- the follower's copy of the selection
  let o := otherHalf h
  if otherFollows d h then
    d.setReg (statA o) ((d.reg (statA o) &&& 0xFE01FFFF) ||| (d.reg (statA h) &&& 0x01FE0000))
  else d

/-- REF_QUALIFIED: the entry has met every check for the qualification time (R202). -/
def refQualified (n : Nat) (d : Device) : Device :=
  d.each d.leaders (fun d h =>
    if refEn d n && refKind d n ≤ 4 && !qualified d h n && refSourceOk d n && refLinkOk d n && (refKind d n != 1 || (d.disc h).secs) then
      select h (d.setBit (refStatA d h n) 31)
    else d)

def execRefQualified (n : Fin 8) (s : State) : Host.Outcome State Fault Refusal := s.liftReport (refQualified n.val)

/-- A check of entry n fails at Lark h. -/
def disqualify (h : Half) (n cause : Nat) (d : Device) : Device :=
  if !qualified d h n then d
  else
    let a := refStatA d h n
    let d := ((d.putBit a 31 false).setFld a 16 3 cause).bump a 0 16 1
    let d := d.setRef h n { d.ref h n with unlock := 0, todMiss := 0 }
    select h (d.fault h 0x48 (256 * hn h + n) cause)

/-- REF_DISQUALIFIED. -/
def execRefDisqualified (n : Fin 8) (cause : Fin 8) (s : State) : Host.Outcome State Fault Refusal :=
  s.liftReport (fun d => d.each d.leaders (fun d h => disqualify h n.val cause.val d))

/-- REF_CONFIG_WRITE: a change of en, kind, src, edge or tod_next ends qualification, with no cause counted (R202). -/
def refConfigWrite (n : Nat) (v : Word) (d : Device) : Device :=
  let old := d.reg (refA n)
  let v := v &&& 0xFFFFC000
  let d := d.setReg (refA n) v
  d.each d.leaders (fun d h =>
    if (old ^^^ v) &&& 0xF0FFC000 ≠ 0 then select h ((d.putBit (refStatA d h n) 31 false).setRef h n {})
    else select h d)

def execRefConfigWrite (n : Fin 8) (v : BitVec 32) (s : State) : Host.Outcome State Fault Refusal := s.liftReport (refConfigWrite n.val v)

/-- REVERTIVE_SWITCH: entry n has stayed qualified for a further 300 s and is better (R203). -/
def revertiveSwitch (n : Nat) (d : Device) : Device :=
  d.each d.leaders (fun d h =>
    if d.bit (lrkWide 0) 3 && qualified d h n then
      if isPhase d n then
        (match phaseRef d h with
        | some m => if refPrio d n < refPrio d m ∨ (refPrio d n = refPrio d m ∧ n < m) then select h (choosePhase h (some n) d) else d
        | none => d)
      else (match freqRef d h with
        | some m => if refPrio d n < refPrio d m ∨ (refPrio d n = refPrio d m ∧ n < m) then select h (d.setFld (statA h) 21 3 n) else d
        | none => d)
    else d)

def execRevertiveSwitch (n : Fin 8) (s : State) : Host.Outcome State Fault Refusal := s.liftReport (revertiveSwitch n.val)

/-! ### Phase samples (R200, R201) -/

/-- The leading Larks that can use a source in half `src`: the leader, or while split the one that holds it. -/
def samplers (d : Device) (src : Half) : List Half := d.leaders.filter (fun h => !d.larkSplit || h == src)

def addSample (h : Half) (n : Nat) (e : Int) (t : Nat) (d : Device) : Device :=
  let c := d.disc h
  d.setDisc h { c with samples := c.samples ++ [(n, e, t)] }

/-- A capture time with 0.25 ns resolution. -/
def quarter (t : Nat) : Nat := t / 16384 * 16384

/-- The phase error to the nearest second of a PPS edge captured at t. -/
def ppsError (t : Nat) (dly : Int) : Int :=
  let half : Int := tSec / 2
  (dly - t + half) % (tSec : Int) - half

/-- The second that the Lark expects a pulse captured at t to mark: the nearest of its own time, once it has held a valid second count; before,
the one that follows from the last labelled pulse (R202, cause 3; log entry 60). -/
def expectedSecond (d : Device) (h : Half) (n t : Nat) : Option Nat :=
  if (d.disc h).secs then some (((t : Int) - refDly d n + (tSec / 2 : Nat)) / tSec).toNat
  else (d.ref h n).lastTod.map (fun p => p.1 + (t - p.2 + tSec / 2) / tSec)

/-- A labelled pulse of a GNSS entry: its sample, and the check of its second. -/
def gnssPulse (h : Half) (n label t : Nat) (d : Device) : Device :=
  let r := d.ref h n
  let bad := (expectedSecond d h n t).any (fun s => s != label)
  let miss := if bad then r.todMiss + 1 else 0
  let d := d.setRef h n { r with lastTod := some (label, t), todMiss := miss, waits := none, label := none }
  let d := addSample h n ((label * tSec : Nat) + refDly d n - t) t d
  if miss ≥ 3 then disqualify h n 3 d else d

/-- PPS_EDGE: an edge on the pin of reference n, timestamped by the Lark of the pin's half. -/
def ppsEdge (n : Nat) (rising : Bool) (d : Device) : Device :=
  let k := refKind d n
  match refHalf d n with
  | none => d
  | some src =>
    if !refEn d n || !(k == 0 || k == 1) || (d.bit (refA n) 15 == rising) || !d.up src then d
    else
      let t := quarter (d.now src)
      d.each (samplers d src) (fun d h =>
        let r := d.ref h n
        let gap : Int := match r.edgeAt with
          | some t0 => (t : Int) - t0 - tSec
          | none => 0
        let d := d.setRef h n { r with edgeAt := some t }
        let d := if d.timeState h = 0 ∧ gap.natAbs > 20000 * 65536 then disqualify h n 5 d else d
        if k = 1 then addSample h n (ppsError t (refDly d n)) t d
        else if d.bit (refA n) 14 then
          (match r.label with
          | some s => gnssPulse h n s t d
          | none => d)
        else d.setRef h n { d.ref h n with waits := some t })

def execPpsEdge (n : Fin 8) (rising : Bool) (s : State) : Host.Outcome State Fault Refusal := s.liftReport (ppsEdge n.val rising)

/-- GNSS_SENTENCE: a sentence of UART u with its UTC second, converted with LRK_UTC, labels an edge (R200). -/
def gnssSentence (u utcSec : Nat) (d : Device) : Device :=
  if !d.bit (lrkWide 0x30) 16 then d
  else
    let tai := ((utcSec : Int) + signed 16 (d.fld (lrkWide 0x30) 0 16)).toNat
    d.each (upto 8) (fun d n =>
      if refEn d n && refKind d n == 0 && refSrc d n == u then
        d.each d.leaders (fun d h =>
          if d.bit (refA n) 14 then d.setRef h n { d.ref h n with label := some tai }
          else match (d.ref h n).waits with
            | some t => gnssPulse h n tai t d
            | none => d)
      else d)

def execGnssSentence (u : Fin 2) (utcSec : Nat) (s : State) : Host.Outcome State Fault Refusal := s.liftReport (gnssSentence u.val utcSec)

/-- PTP_SYNC: one sample from the four timestamps of a Sync exchange (R200), in 2^−16 ns; with the TAI − UTC offset where an announce message
came with it, which fills LRK_UTC while the reference is qualified. -/
def ptpSync (n t1 t2 t3 t4 : Nat) (announce : Option (BitVec 16)) (d : Device) : Device :=
  match refHalf d n with
  | some src =>
    if !refEn d n || refKind d n != 2 then d
    else
      let d := match announce with
        | some v => d.when ((samplers d src).any (fun h => qualified d h n)) (fun d => d.setReg (lrkWide 0x30) (0x10000 ||| v.setWidth 32))
        | none => d
      let e := (((t2 : Int) - t1) - ((t4 : Int) - t3)) / 2 + refDly d n
      d.each (samplers d src) (fun d h => addSample h n e (d.now h) d)
  | none => d

def execPtpSync (n : Fin 8) (t1 t2 t3 : Nat) (last : SyncEnd) (s : State) : Host.Outcome State Fault Refusal :=
  s.lift (ptpSync n.val t1 t2 t3 last.t4 last.announce)

/-! ### The discipline loop (R204 to R206) -/

/-- 2π and 4π² in units of 10^−30. -/
def twoPi : Int := 6283185307179586476925286766559
def fourPiSq : Int := 39478417604357434475337963999505

/-- kp · e in units of 2^−48, for e in 2^−16 ns, rounded toward minus infinity. -/
def propTerm (b : Nat) (e : Int) : Int := twoPi * e * 2 ^ 32 / (10 ^ 39 * 2 ^ b)

/-- ki · τ · e in units of 2^−48, for e and τ in 2^−16 ns. -/
def intTerm (b : Nat) (tau : Nat) (e : Int) : Int := fourPiSq * tau * e * 2 ^ 10 / (10 ^ 48 * 2 ^ (2 * b))

/-- slew_max in units of 2^−48: 0.05 ppm per unit. -/
def slewMax (d : Device) : Int := (d.fld (lrkWide 0xC0) 0 4 * 5 * 2 ^ 48 : Nat) / (10 ^ 8 : Nat)

def lockThr (d : Device) : Nat := d.fld (lrkWide 0xC0) 24 8 * 4 * 65536
def unlockThr (d : Device) : Nat := d.fld (lrkWide 0xC0) 16 8 * 64 * 65536

/-- The loop's correction: the integral and the steering after sample e. -/
def loopSteer (d : Device) (h : Half) (tau : Nat) (e : Int) : Device :=
  let c := d.disc h
  let sm := slewMax d
  let u := propTerm c.b e
  let clamped := decide (u > sm ∨ u < -sm)
  let u := if u > sm then sm else if u < -sm then -sm else u
  match freqRef d h with
  | some _ =>
    let v := assistError d
    (v.2.setDisc h { c with integ := v.1 }).setSteer h (v.1 + u)
  | none =>
    let i := if clamped then c.integ else c.integ + intTerm c.b tau e
    (d.setDisc h { c with integ := i }).setSteer h (i + u)

/-- Narrowing, Locked and widening after sample e (R204). -/
def loopState (h : Half) (e : Int) (d : Device) : Device :=
  let c := d.disc h
  let lt := lockThr d
  let lo := d.fld (lrkWide 0xC0) 8 4
  let hi := d.fld (lrkWide 0xC0) 12 4
  if e.natAbs ≤ lt then
    if c.inRange + 1 < 64 then d.setDisc h { c with inRange := c.inRange + 1 }
    else if c.b < hi then d.setDisc h { c with inRange := 0, b := c.b + 1 }
    else
      let d := d.setDisc h { c with inRange := 0 }
      if d.timeState h = 1 then
        let d := d.setDisc h { d.disc h with holdAt := none, secs := true }
        setState h 2 (d.setLark h { d.lark h with wasLocked := true })
      else d
  else
    let b := if d.timeState h = 2 ∧ e.natAbs > 4 * lt then (if c.b > lo then c.b - 1 else c.b) else c.b
    d.setDisc h { c with inRange := 0, b := b }

/-- The first sample of a changed phase reference (R203 rule 4, R204). -/
def firstOfNew (h : Half) (e : Int) (d : Device) : Device :=
  let c := d.disc h
  if !c.changed then d
  else
    let far := decide (e.natAbs > lockThr d)
    let acq := d.fld (lrkWide 0xC0) 8 4
    let d := d.setDisc h { c with changed := false, inRange := 0, b := if far then acq else c.b }
    if far && d.timeState h == 2 then setState h 1 (d.setDisc h { d.disc h with first := false, mayStep := false }) else d

/-- A step by exactly e moves the times at which references were captured too (R205). -/
def stepRefs (h : Half) (e : Int) (d : Device) : Device :=
  let c := d.disc h
  let mv (t : Option Nat) : Option Nat := t.map (fun t => ((t : Int) + e).toNat)
  d.setDisc h { c with refs := c.refs.map (fun (kv : Nat × RefState) =>
    (kv.1, { kv.2 with lastAt := mv kv.2.lastAt, edgeAt := mv kv.2.edgeAt, waits := mv kv.2.waits
                       lastTod := kv.2.lastTod.map (fun p => (p.1, ((p.2 : Int) + e).toNat)) })) }

/-- One phase sample at the leading Lark h. -/
def phaseOne (h : Half) (d : Device) : Device :=
  let c := d.disc h
  match c.samples with
  | [] => d
  | (n, e, t) :: rest =>
    let tau := match (d.ref h n).lastAt with
      | some t0 => t - t0
      | none => 0
    let d := d.setDisc h { c with samples := rest }
    let d := d.setRef h n { d.ref h n with lastAt := some t }
    let d := if qualified d h n then d.bobRecord h (recOf 0x23 ([BitVec.ofNat 8 n, BitVec.ofNat 8 (refKind d n), 0, 0, 0, 0] ++ recTime t)) else d
    if phaseRef d h ≠ some n then d
    else
      let q := e / 256
      let q : Int := if q > 2 ^ 31 - 1 then 2 ^ 31 - 1 else if q < -(2 ^ 31) then -(2 ^ 31) else q
      let d := d.setReg (d.roA h 0xC4) (BitVec.ofInt 32 q)
      let st := d.timeState h
      if st ≠ 1 ∧ st ≠ 2 then d
      else
        let c := d.disc h
        let d := d.setDisc h { c with hist := (e :: c.hist).take 64 }
        let d := d.setLark h { d.lark h with ranLoop := true }
        let d := if otherFollows d h then
            d.setLark (otherHalf h) { d.lark (otherHalf h) with ranLoop := true } else d
        if c.first && c.mayStep && decide (e.natAbs > 1000 * 65536) then
          let d := d.setDisc h { d.disc h with first := false, mayStep := false }
          stepTime07 h (e * 2 ^ 32) (stepRefs h e d)
        else
          let d := d.setDisc h { d.disc h with first := false, mayStep := false }
          let d := loopState h e (loopSteer (firstOfNew h e d) h tau e)
          let r := d.ref h n
          let far := d.timeState h == 2 && decide (e.natAbs > unlockThr d)
          let d := d.setRef h n { r with unlock := if far then r.unlock + 1 else 0 }
          if far && r.unlock + 1 ≥ 8 then disqualify h n 2 d else d

/-- PHASE_SAMPLE. -/
def execPhaseSample (s : State) : Host.Outcome State Fault Refusal :=
  s.liftReport (fun d => d.each d.leaders (fun d h => phaseOne h d))

/-! ### Learned holdover (R210 to R215) -/

/-- The Lark that half h learns from holds Locked with a phase reference. -/
def learning (d : Device) (h : Half) : Bool :=
  let l := if d.leads h then h else d.leader
  (d.lark h).on && d.timeState l == 2 && (phaseRef d l).isSome

/-- LEARN_BIN: the means of 16 s, in 2^−48 and 1/16 °C. -/
def learnBin (h : Half) (freq temp : Int) (d : Device) : Device :=
  if !learning d h then d
  else
    let l := d.lark h
    let t := timeSec (d.now h)
    let bins := (l.bins ++ [(⟨freq, temp, t⟩ : Bin)]).filter (fun (b : Bin) => b.at_ + 86400 > t)
    modelEval h (d.setLark h { l with bins := bins.drop (bins.length - 5400) })

def execLearnBin (h : Half) (freq : Int) (temp : Int) (s : State) : Host.Outcome State Fault Refusal := s.lift (learnBin h freq temp)

/-- Determinant of a square matrix given by rows, by expansion along the first row. -/
def det : Nat → List (List Int) → Int
  | 0, _ => 1
  | n + 1, m =>
    let r := m.headD []
    (List.range (n + 1)).foldl (fun a j =>
      let minor := (m.drop 1).map (fun row => row.take j ++ row.drop (j + 1))
      let t := r.getD j 0 * det n minor
      if j % 2 = 0 then a + t else a - t) 0

/-- Least squares: the coefficients, scaled, of the columns `xs` for the values `ys`: numerators and common denominator. -/
def leastSquares (n : Nat) (rows : List (List Int)) (ys : List Int) : List Int × Int :=
  let dot (i j : Nat) : Int := (rows.map (fun r => r.getD i 0 * r.getD j 0)).foldl (· + ·) 0
  let rhs (i : Nat) : Int := (rows.zipWith (fun r y => r.getD i 0 * y) ys).foldl (· + ·) 0
  let m := (List.range n).map (fun i => (List.range n).map (fun j => dot i j))
  let D := det n m
  ((List.range n).map (fun c => det n ((List.range n).map (fun i => (List.range n).map (fun j => if j = c then rhs i else dot i j)))), D)

/-- Adjugate of a symmetric n by n matrix. -/
def adjugate (n : Nat) (m : List (List Int)) : List (List Int) :=
  let del (i : Nat) (xs : List Int) : List Int := xs.take i ++ xs.drop (i + 1)
  (List.range n).map (fun i => (List.range n).map (fun j =>
    let v := det (n - 1) ((m.take i ++ m.drop (i + 1)).map (del j))
    if (i + j) % 2 = 0 then v else -v))

/-- The fit's leavings for standard errors: rows, values, numerators of the coefficients and their denominator. -/
def fitOf (n : Nat) (rows : List (List Int)) (ys : List Int) (s : List Int × Int) : Fit :=
  let dot (i j : Nat) : Int := (rows.map (fun r => r.getD i 0 * r.getD j 0)).foldl (· + ·) 0
  let res (r : List Int) (y : Int) : Int := y * s.2 - ((r.zipWith (· * ·) s.1).foldl (· + ·) 0)
  { rss := ((rows.zipWith res ys).map (fun x => x * x)).foldl (· + ·) 0, det := s.2, dof := rows.length - n
    adj := adjugate n ((List.range n).map (fun i => (List.range n).map (fun j => dot i j))) }

/-- The standard error of coefficient j. -/
def coefErr (f : Fit) (j : Nat) : Nat := stdErr f ((List.range f.adj.length).map (fun i => if i = j then 1 else 0))

/-- MODEL_FIT: over the window, c0 and c1 always, c2 and c3 where it spans 2 °C; c1 is filtered with 48 hours (R210). -/
def fitModel (l : Lark) : Option Model :=
  let bs := l.bins
  let n : Int := bs.length
  if bs.length < 5 then none
  else
    let t0 := (bs.foldl (fun a b => a + b.at_) 0) / bs.length
    let th0 := bs.foldl (fun a b => a + b.temp) 0 / n
    let old := l.model.getD {}
    let lo := bs.foldl (fun m b => if b.temp < m then b.temp else m) (bs.headD ⟨0, 0, 0⟩).temp
    let hi := bs.foldl (fun m b => if b.temp > m then b.temp else m) (bs.headD ⟨0, 0, 0⟩).temp
    let dt (b : Bin) : Int := (b.at_ : Int) - t0
    let dx (b : Bin) : Int := b.temp - th0
    let wide := decide (hi - lo ≥ 32)
    let n := if wide then 4 else 2
    let rows := if wide then bs.map (fun b => [1, dt b, dx b, dx b * dx b]) else bs.map (fun b => [1, dt b])
    let ys := if wide then bs.map (fun b => b.freq) else bs.map (fun b => b.freq - old.c2 * dx b - old.c3 * dx b * dx b)
    let s := leastSquares n rows ys
    if s.2 = 0 then none
    else
      let f := fitOf n rows ys s
      let fit1 := s.1.getD 1 0 * 2 ^ 20 / s.2
      some { c0 := s.1.getD 0 0 / s.2, c1 := old.c1 + (fit1 - old.c1) / 180
             c2 := if wide then s.1.getD 2 0 / s.2 else old.c2, c3 := if wide then s.1.getD 3 0 / s.2 else old.c3
             se0 := coefErr f 0, seA := coefErr f 1, se2 := if wide then coefErr f 2 else old.se2
             se3 := if wide then coefErr f 3 else old.se3, fit := some f
             t0 := t0, th0 := th0, hours := l.hours }

def modelFit (h : Half) (d : Device) : Device :=
  if !learning d h then d
  else
    let l := d.lark h
    match fitModel l with
    | none => d
    | some m =>
      if l.fromSaved && decide (l.bins.length < 5400) then
        modelEval h (d.setLark h { l with model := l.model.map (fun o => { o with c1 := m.c1, seA := m.seA }) })
      else modelEval h (d.setLark h { l with model := some m, fromSaved := false })

def execModelFit (h : Half) (s : State) : Host.Outcome State Fault Refusal := s.lift (modelFit h)

/-- LRK_HOLD_STATUS shows the leader's learn_hours. -/
def showHours (h : Half) (d : Device) : Device := if d.leads h then d.setFld (d.roA h 0xE4) 16 16 (d.lark h).hours else d

/-- LEARN_HOUR: a further whole hour Locked. -/
def learnHour (h : Half) (d : Device) : Device :=
  if !learning d h then d
  else modelEval h (showHours h (d.setLark h { d.lark h with hours := sat 65535 ((d.lark h).hours + 1) }))

def execLearnHour (h : Half) (s : State) : Host.Outcome State Fault Refusal := s.lift (learnHour h)

/-- CLEAR_LEARNING: cmd 3 (R214). -/
def clearLearning (h : Half) (d : Device) : Device :=
  let l := d.lark h
  let d := d.setLark h { l with model := none, bins := [], hours := 0, waiver := false, fromSaved := false, parked := {} }
  let d := modelEval h (showHours h d)
  if d.leads h && (d.timeState h == 3 || d.timeState h == 4) then
    d.setDisc h { d.disc h with sf := 1000000000, sa := 10000 }
  else d

def execClearLearning (h : Half) (s : State) : Host.Outcome State Fault Refusal := s.lift (clearLearning h)

/-- HOLDOVER_PREDICT: once a second in Holdover and Holdover-expired, at the leader. -/
def holdPredict (h : Half) (d : Device) : Device :=
  let st := d.timeState h
  if !d.leads h || !(st == 3 || st == 4) then d
  else
    let t := (d.now h - (d.disc h).holdAt.getD (d.now h)) / tSec
    let p := predErr d h t
    let d := d.setReg (d.roA h 0xE8) (BitVec.ofNat 32 (sat 4294967295 p))
    let d := d.setFld (d.roA h 0xE4) 0 16 (sat 65535 (t / 60))
    let d := holdSteer h d
    if st = 3 ∧ p > d.fld (lrkWide 0xE0) 16 16 then setState h 4 d else d

def execHoldoverPredict (h : Half) (s : State) : Host.Outcome State Fault Refusal := s.liftReport (holdPredict h)

/-- MODEL_SAVE: the model and learn_hours go to the record store. -/
def modelSave (h : Half) (d : Device) : Device :=
  let l := d.lark h
  let keep (m : Option Model) : Option Model := m.map (fun m => { m with hours := l.hours, fit := none })
  let m : SavedModels := if tempSrc d then { die := keep l.parked.model, sensor := keep l.model }
    else { die := keep l.model, sensor := keep l.parked.model }
  match h with
  | .w => { d with time := { d.time with savedW := m } }
  | .e => { d with time := { d.time with savedE := m } }

def execModelSave (h : Half) (s : State) : Host.Outcome State Fault Refusal := s.lift (modelSave h)

/-- TEMP_READ: the I2C sensor, in 1/16 °C. -/
def sensorRead (h : Half) (temp : Int) (d : Device) : Device :=
  let d := (d.setLark h { d.lark h with temp := temp }).putBit (statA h) 16 false
  if tempSrc d then tempRead h d else d

def execTempRead (h : Half) (temp : Int) (s : State) : Host.Outcome State Fault Refusal := s.lift (sensorRead h temp)

/-- TEMP_LOST: no reading for 5 s. -/
def execTempLost (h : Half) (s : State) : Host.Outcome State Fault Refusal :=
  s.lift (fun d => if tempSrc d then d.setBit (statA h) 16 else d)

/-! ### Two Larks (R216, R217, R219) -/

/-- TAKE_LEADERSHIP: cmd 2 (R216). -/
def takeLeadership (h : Half) (d : Device) : Device :=
  if d.leads h || d.larkSplit then d
  else if !d.aligned h then d.setBit (statA h) 13
  else { d with time := { d.time with disc := { d.time.disc with swapReq := true } } }

def execTakeLeadership (h : Half) (s : State) : Host.Outcome State Fault Refusal := s.lift (takeLeadership h)

/-- The fields of LRK_STATUS that show the discipline: time state, assist, phase reference. -/
def discMask : Word := 0x71FE0000

/-- Half `l` becomes the one leader with the state the old leader showed; the other follows. -/
def leadTo (l : Half) (d : Device) : Device :=
  let o := otherHalf l
  let v := d.reg (statA o) &&& discMask
  let d := d.setReg (statA l) ((d.reg (statA l) &&& ~~~discMask) ||| v)
  let d := if d.timeState l = 2 then d.setLark l { d.lark l with wasLocked := true } else d
  (d.setBit (statA l) 27).putBit (statA o) 27 false

/-- LEADERSHIP_SWAP: at the next exchange, without a step. -/
def leadershipSwap (d : Device) : Device :=
  if !d.time.disc.swapReq || d.larkSplit || !bothOn d then d
  else
    let f := otherHalf d.leader
    let d := { d with time := { d.time with disc := { d.time.disc with swapReq := false } } }
    if !d.aligned f then d
    else
      let o := otherHalf f
      let d := leadTo f d
      let d := (d.putBit (statA f) 25 false).setBit (statA o) 25
      (showHours f d).showStates

def execLeadershipSwap (s : State) : Host.Outcome State Fault Refusal := s.liftReport leadershipSwap

/-- Half ns in units of 2^−48 ns. -/
def alignTol : Nat := 2 ^ 47

/-- TIME_EXCHANGE: the follower measures its offset and aligns. Farther than ±0.5 ns it steps to the leader's time; a split
ends at the first exchange, and the half that led before it leads on (R219). -/
def timeExchange (d : Device) : Device :=
  if !bothOn d then d
  else
    let d := match d.time.split with
      | some l =>
        let o := otherHalf l
        let d := if l = Half.e then
            let ro := [0xC4, 0xC8, 0xE4, 0xE8] ++ (upto 8).map (fun n => 0x80 + 4 * n)
            let d := { d with time := { d.time with disc := d.time.discE } }
            d.each ro (fun d x => d.setReg (lrkA .w x) (d.reg (lrkA .e x)))
          else d
        let d := d.clearRegs (fun a => (0xC4 == a - lrkA .e 0 || 0xC8 == a - lrkA .e 0 || 0xE4 == a - lrkA .e 0
          || 0xE8 == a - lrkA .e 0 || decide (0x80 ≤ a - lrkA .e 0 ∧ a - lrkA .e 0 < 0xA0)) && decide (a ≥ lrkA .e 0))
        { d with time := { d.time with split := none, discE := {} } }.putBit (statA o) 27 false
      | none => d
    let l := d.leader
    let f := otherHalf l
    let tl : Nat := (d.lark l).time
    let off : Int := ((d.lark f).time : Int) - (tl : Int)
    let near := decide (off.natAbs ≤ alignTol)
    let d := if near then d.setLark f { d.lark f with time := tl, steer := (d.lark l).steer }
      else moveLark f (-off) (d.setLark f { d.lark f with steer := (d.lark l).steer })
    let d := if near && !d.aligned f then { d with time := { d.time with alignedAt := d.now l } } else d
    ((d.putBit (statA f) 25 near).putBit (statA l) 25 false).showStates

def execTimeExchange (s : State) : Host.Outcome State Fault Refusal := s.liftReport timeExchange

/-- SEAM_TIME_PAIR_LOSS: both halves run on, each leads itself (R219). -/
def timePairLoss (d : Device) : Device :=
  if d.larkSplit || !bothOn d then d
  else
    let l := d.leader
    let o := otherHalf l
    let ro := [0xC4, 0xC8, 0xE4, 0xE8] ++ (upto 8).map (fun n => 0x80 + 4 * n)
    let d := d.each ro (fun d x => d.setReg (lrkA .e x) (d.reg (lrkA .w x)))
    let v := d.reg (statA l) &&& discMask
    let d := d.setReg (statA o) ((d.reg (statA o) &&& ~~~discMask) ||| v)
    let d := ((d.setBit (statA o) 27).putBit (statA o) 25 false).putBit (statA l) 25 false
    let d := { d with time := { d.time with split := some l, discE := d.time.disc } }
    d

def execSeamTimePairLoss (s : State) : Host.Outcome State Fault Refusal := s.liftReport timePairLoss

/-- The other half is lost: half `h` survives and leads from the point its leader had reached; entries of the lost half are
disqualified with cause 4 (R219). -/
def larkSurvives (h : Half) (d : Device) : Device :=
  let o := otherHalf h
  let d := if d.larkSplit then
      let d := if h = Half.e then
          let ro := [0xC4, 0xC8, 0xE4, 0xE8] ++ (upto 8).map (fun n => 0x80 + 4 * n)
          let d := { d with time := { d.time with disc := d.time.discE } }
          d.each ro (fun d x => d.setReg (lrkA .w x) (d.reg (lrkA .e x)))
        else d
      { d with time := { d.time with split := none, discE := {} } }.putBit (statA o) 27 false
    else if d.leads h then d
    else leadTo h d
  let d := (d.putBit (statA h) 25 false).putBit (statA o) 25 false
  let d := showHours h d
  (d.each (upto 8) (fun d n => if qualified d h n && refInHalf d n o then disqualify h n 4 d else d))

/-- The Lark of an island that powers up (R192, R215, R216): time 0 in Free-run; W leads after power-on of the device, a
returning half follows. `alone`: the other half runs. -/
def larkPowerUp (h : Half) (alone : Bool) (d : Device) : Device :=
  let saved := match h with
    | .w => d.time.savedW
    | .e => d.time.savedE
  let of (m : Option Model) : Learned := { model := m, waiver := m.isSome, fromSaved := m.isSome }
  let now := of (if tempSrc d then saved.sensor else saved.die)
  let hours := ((saved.die.orElse (fun _ => saved.sensor)).map (fun m => m.hours)).getD 0
  let d := d.setLark h { model := now.model, waiver := now.waiver, fromSaved := now.fromSaved, hours := hours, on := true
                         parked := of (if tempSrc d then saved.die else saved.sensor) }
  let own (a : Nat) : Bool :=
    let o := a - lrkA h 0
    decide (lrkA h 0 ≤ a ∧ o < 0x10000) && (decide (o < 0x20 ∧ o ≠ 0) || decide (0x140 ≤ o))
  let d := d.clearRegs own
  let d := if alone then d.putBit (statA h) 27 false else d
  let d := match h with
    | .w => { d with time := { d.time with calW := {} } }
    | .e => { d with time := { d.time with calE := {} } }
  (modelEval h (showHours h d)).showStates

/-! ### Thread and captures (R217, R220) -/

/-- THREAD_TIME_WORD: a block off by more than 1 ns corrects itself and reports. -/
def threadWord (h : Half) (block : Nat) (errPs : Int) (d : Device) : Device :=
  if errPs.natAbs > 1000 then d.fault h 0x4A (256 * hn h + block) (unsign 16 (errPs / 1000)) else d

def execThreadTimeWord (h : Half) (block : BitVec 8) (errPs : Int) (s : State) : Host.Outcome State Fault Refusal :=
  s.lift (threadWord h block.toNat errPs)

/-- CAPTURE_EDGE: 64 entries, further edges dropped. -/
def captureEdge (h : Half) (j : Nat) (rising : Bool) (d : Device) : Device :=
  if !d.bit (lrkA h 0x140) j then d
  else
    let l := d.lark h
    let t := quarter (d.now h)
    let v := d.takeFree
    let d := v.2.bobRecord h (recOf 0x23 ([BitVec.ofNat 8 j, BitVec.ofNat 8 v.1, 0, 0, 0, 0] ++ recTime t))
    if l.caps.length ≥ 64 then d.setBit (statA h) 14 else d.setLark h { l with caps := l.caps ++ [⟨j, rising, t⟩] }

def execCaptureEdge (h : Half) (j : Fin 8) (rising : Bool) (s : State) : Host.Outcome State Fault Refusal :=
  s.lift (captureEdge h j.val rising)

/-- CAPTURE_POP: a read of LRK_CAP_0 shows and pops the head, and latches the other three. -/
def capturePop (h : Half) (d : Device) : Device :=
  let l := d.lark h
  match l.caps with
  | [] => d.putBit (lrkA h 0x144) 31 false
  | c :: cs =>
    let d := d.setLark h { l with caps := cs }
    let d := d.setReg (lrkA h 0x144) (BitVec.ofNat 32 (2 ^ 31 + 2 ^ 28 * c.input + 2 ^ 27 * b2n c.rising + timeFrac c.time))
    ((d.setReg (lrkA h 0x148) (BitVec.ofNat 32 (timeNs c.time))).setReg (lrkA h 0x14C) (BitVec.ofNat 32 (timeSec c.time))).setReg
      (lrkA h 0x150) (BitVec.ofNat 32 (timeSec c.time / 2 ^ 32 % 65536))

def execCapturePop (h : Half) (s : State) : Host.Outcome State Fault Refusal := s.lift (capturePop h)

/-- A read of LRK_GRID_NOW_LO_g latches HI (R226). -/
def gridNowRead (h : Half) (g : Nat) (d : Device) : Device :=
  let t := gridNow (d.grid g) (d.now (if d.larkSplit then h else d.leader))
  (d.setReg (lrkWide (0x108 + 16 * g)) (BitVec.ofNat 32 t)).setReg (lrkWide (0x10C + 16 * g)) (BitVec.ofNat 32 (t / 2 ^ 32))

/-- LRK_LOOP_CFG's stored form (R225). -/
def loopCfgNorm (v : Word) : Word :=
  let q := fieldOf v 4 4
  let s := fieldOf v 0 4
  let acq := fieldOf v 8 4
  let lock := fieldOf v 12 4
  withField (withField (withField v 4 4 (if q = 0 then 1 else q)) 0 4 (if s = 0 then 1 else s)) 12 4 (if lock < acq then acq else lock)

/-- A write of LRK_HOLD_CFG: each choice of temp_src has its own coefficients, learned with its own readings (R211). -/
def holdCfgWrite (v : Word) (d : Device) : Device :=
  let was := tempSrc d
  let d := d.setReg (lrkWide 0xE0) (v &&& 0xFFFF003F)
  if tempSrc d == was then d
  else d.each [Half.w, Half.e] (fun d h =>
    let l := d.lark h
    let p := l.parked
    modelEval h (d.setLark h { l with model := p.model, bins := p.bins, waiver := p.waiver, fromSaved := p.fromSaved
                                      parked := { model := l.model, bins := l.bins, waiver := l.waiver, fromSaved := l.fromSaved } }))

/-- LRK_CTRL through window h: bits 3 to 0, then cmd (R221). -/
def lrkCtrlWrite (h : Half) (v : Word) (d : Device) : Device :=
  let d := d.setReg (lrkWide 0) (v &&& 0xF)
  let d := d.each d.leaders (fun d l => select l d)
  match fieldOf v 29 3 with
  | 1 => setTime h d
  | 2 => takeLeadership h d
  | 3 => clearLearning h d
  | _ => d

end Sys2Proof.Machine
end

