-- ==== Sys2Proof/Machine/Clocks.lean ====
section
/-!
DEFINITION. Machine/Clocks.lean: PLLs, regional clocks, clock-failed domains (09_clocks_resets).
-/
namespace Sys2Proof.Machine

/-! ### PLLs: 0 to 15 general, 16 and 17 the system PLLs (R250, R252 to R255) -/

def pllReset (_ : Nat) : PllExtra := {}
def Device.pll (d : Device) (p : Nat) : PllExtra := tabGet pllReset d.clk.plls p
def Device.setPll (d : Device) (p : Nat) (x : PllExtra) : Device := { d with clk := { d.clk with plls := tabSet pllReset d.clk.plls p x } }

def pllA (n o : Nat) : Nat := pwrA (0x100 + 32 * n + o)
def pllStat (n : Nat) : Nat := pllA n 0x18
def sysClkA (p : Nat) : Nat := pwrA (0x300 + 4 * (p - 16))

/-- The half a PLL belongs to. -/
def pllHalf (p : Nat) : Half := if p < 16 then halfOf (p / 8) else halfOf (p - 16)

/-- The PLL is in use: a general one when enabled, a system one always. -/
def pllOn (d : Device) (p : Nat) : Bool := if p < 16 then d.bit (pllA p 0) 31 else true
def pllFbEn (d : Device) (p : Nat) : Bool := if p < 16 then d.bit (pllA p 0) 29 else true
def pllRevertive (d : Device) (p : Nat) : Bool := if p < 16 then d.bit (pllA p 0) 30 else true
def pllForceFb (d : Device) (p : Nat) : Bool := p < 16 && d.bit (pllA p 0) 28
def pllOnFb (d : Device) (p : Nat) : Bool := if p < 16 then d.bit (pllStat p) 30 else d.bit (sysClkA p) 30
def pllDeadBit (d : Device) (n : Nat) : Bool := d.bit (pllStat n) 29

/-- Good inputs as the status registers show them (R271, R272). -/
def pllShow (p : Nat) (d : Device) : Device :=
  let x := d.pll p
  if p < 16 then (d.putBit (pllStat p) 28 x.priGood).putBit (pllStat p) 27 x.fbGood else d.putBit (sysClkA p) 31 x.priGood

/-- A slot code of half h names an output of general PLL p (R273). -/
def namesPll (h : Half) (code p : Nat) : Bool := code < 32 && 8 * hn h + code / 4 == p

/-- A gate of domain `n` whose enable is set for its state takes its clock from general PLL `p` (R263, R264). Which PLL output feeds the block
clock of a memory channel, Shuttle half, Warp/Weft half, Ethernet group or host port the spec does not say: free (log entry 86). -/
def usesPll (d : Device) (p n : Nat) : Bool :=
  let st := d.domState n
  if st = 3 then false
  else if n < 32 then
    let h := halfOfField n
    (upto 12).any (fun r =>
      let c := fldA n (0x500 + 4 * r)
      d.bit c (31 - st) && namesPll h (d.fld (fldA n (0x540 + 4 * r)) (8 * d.fld c 0 2) 6) p)
    || (st == 0 && (upto 2).any (fun k =>
      let c := fldA n 0x300
      d.bit c (8 * k + 7) && !d.bit c (18 + k) && 8 * hn h + d.fld c (8 * k) 3 == p))
  else
    d.bit (gateA n) st && (if n < 44 then (upto 3).any (fun i =>
        let q := 3 * (n - 32) + i
        namesPll (if q < 18 then .w else .e) (d.fld (quadA q 0) 0 6) p)
      else if 60 ≤ n ∧ n < 62 then (upto 4).any (fun i =>
        namesPll (halfOf (n - 60)) (d.fld (jsdA (4 * (n - 60) + i) 0) 16 6) p)
      else namesPll (halfOfDomain n) (Config.blockClock n) p)

def pllInUse (d : Device) (p : Nat) : Bool := (upto 64).any (fun n => usesPll d p n)

/-- The domain uses a dead PLL (R264). -/
def usesDead (d : Device) (n : Nat) : Bool := (upto 16).any (fun p => pllDeadBit d p && usesPll d p n)

/-- The domain is clock-failed: it uses a dead PLL, or its half has lost its clocks (R251, R264). -/
def clockFailed (d : Device) (n : Nat) : Bool := usesDead d n || !d.up (halfOfDomain n)

/-- Safe hold entered from Loading abandons the load (01_ R34): cause ABORT. -/
def abandonOnHold (d : Device) : Device :=
  if (d.sys.mode == .loading) && d.safeCause ≠ 0 then
    let d := { d with sys := { d.sys with mode := .blank, blankOnExit := true }, load := { d.load with job := none, outcome := 0x31, tried := 0 } }
    ((d.setFld (thmA 0x2300) 29 3 5).setFld (thmA 0x2300) 20 4 11).fault d.sys.primary 0x63 0 11
  else d

/-- Force a clock-failed domain; one in a transition completes it first (22_ R561). -/
def forceFailed (n : Nat) (d : Device) : Device :=
  if (d.trans n).isNone && !d.forced n && clockFailed d n then forceDomain n d else d

/-- A domain that comes to use a dead PLL is clock-failed at that moment (R266, R269). -/
def clockCheck (n : Nat) (d : Device) : Device := abandonOnHold (forceFailed n d)

/-- Where PLL n was dead, it is no longer; where it locks, its outputs give an alignment pulse (R261). -/
def pllLock (n : Nat) (fb : Bool) (d : Device) : Device :=
  if n < 16 then
    let s := pllStat n
    let d := ((d.setBit s 31).putBit s 29 false).putBit s 30 fb
    { d with clk := { d.clk with aligned := (upto 4).foldl (fun t k => tabMod natZero t (4 * n + k) (· + 1)) d.clk.aligned } }
  else (d.setPll n { d.pll n with closed := true }).putBit (sysClkA n) 30 fb

/-- The loop is closed, or holds through a switch. -/
def pllLocked (d : Device) (p : Nat) : Bool := if p < 16 then d.bit (pllStat p) 31 else (d.pll p).closed

/-- A PLL becomes dead (R255, R264, R266): its domains are forced and a fault report goes to Thimble. Ignored during a reset
sequence (R269). -/
def pllDead (n : Nat) (d : Device) : Device :=
  if !pllOn d n || pllDeadBit d n || d.sys.resetSeq.isSome then d
  else
    let d := d.setPll n { d.pll n with target := none }
    let s := pllStat n
    let d := (((d.setBit s 29).setBit s 1).putBit s 31 false).putBit s 26 false
    let d := d.fault (pllHalf n) 0x41 n 0
    abandonOnHold (d.each (upto 64) (fun d k => forceFailed k d))

/-- PLL_DEAD. -/
def execPllDead (n : Fin 16) (s : State) : Host.Outcome State Fault Refusal := s.liftReport (pllDead n.val)

/-- Begin a hitless switch to an input (R254 steps 1 to 3): true the fallback. -/
def pllSwitch (p : Nat) (fb : Bool) (d : Device) : Device :=
  let x := d.pll p
  let d := d.setPll p { x with target := some fb, back := x.back && fb }
  if p < 16 then d.setBit (pllStat p) 26 else d

/-- An input of the PLL is good and may be used. -/
def pllMay (d : Device) (p : Nat) (fb : Bool) : Bool :=
  if fb then (d.pll p).fbGood && pllFbEn d p else (d.pll p).priGood

/-- Go to whichever input is good, or die (R255). A system PLL with no good input is a half clock loss, HALF_CLOCK_LOSS. -/
def pllAny (p : Nat) (d : Device) : Device :=
  if pllMay d p false then pllSwitch p false d
  else if pllMay d p true then pllSwitch p true d
  else if p < 16 then pllDead p d
  else d.setPll p { d.pll p with target := none, closed := false }

/-- What a PLL that is on and not switching does by itself (R250, R253 to R255): an open loop closes on a good input; a held fallback is gone
to; a primary that is good is returned to where revertive says so, or a write of force_fb from 1 to 0 has asked for it. -/
def pllSettle (p : Nat) (d : Device) : Device :=
  if !pllOn d p || (d.pll p).target.isSome then d
  else if !pllLocked d p then
    (if pllForceFb d p && pllMay d p true then pllLock p true d
    else if pllMay d p false then pllLock p false d
    else if pllMay d p true then pllLock p true d else d)
  else if !pllOnFb d p then (if pllForceFb d p && pllMay d p true then pllSwitch p true d else d)
  else if (d.pll p).priGood && !pllForceFb d p && (pllRevertive d p || (d.pll p).back) then pllSwitch p false d
  else d

/-- PLL_INPUT_LOSS (R253 to R255). -/
def pllInputLoss (p : Nat) (fb : Bool) (d : Device) : Device :=
  let x := d.pll p
  let x := if fb then { x with fbGood := false } else { x with priGood := false, priLost := true }
  let d := pllShow p (d.setPll p x)
  if !pllOn d p then d
  else match x.target with
    | some t => if t = fb then pllAny p d else d
    | none => if pllLocked d p && pllOnFb d p == fb then pllAny p d else d

def execPllInputLoss (p : Fin 18) (fallback : Bool) (s : State) : Host.Outcome State Fault Refusal :=
  s.liftReport (pllInputLoss p.val fallback)

/-- PLL_SWITCH_COMPLETE (R254 step 4): the loop closes on the new input. -/
def pllSwitchComplete (p : Nat) (d : Device) : Device :=
  match (d.pll p).target with
  | none => d
  | some t =>
    let d := d.setPll p { d.pll p with target := none }
    let d :=
      if p < 16 then
        let s := pllStat p
        (((((d.putBit s 30 t).setBit s 0).putBit s 26 false).setBit s 31).putBit s 29 false).fault (pllHalf p) 0x40 p (b2n !t)
      else d.putBit (sysClkA p) 30 t
    if pllMay d p t then pllSettle p d else pllAny p d

def execPllSwitchComplete (p : Fin 18) (s : State) : Host.Outcome State Fault Refusal := s.liftReport (pllSwitchComplete p.val)

/-- PLL_INPUT_GOOD (R253, R255). -/
def pllInputGood (p : Nat) (fb : Bool) (d : Device) : Device :=
  let x := d.pll p
  let x := if fb then { x with fbGood := true } else { x with priGood := true, priLost := false }
  pllSettle p (pllShow p (d.setPll p x))

def execPllInputGood (p : Fin 18) (fallback : Bool) (s : State) : Host.Outcome State Fault Refusal :=
  s.lift (pllInputGood p.val fallback)

/-- A write of force_fb (R255): set, the fallback is held; cleared while the fallback is in use or being gone to, a return is due. -/
def forceFallback (n : Nat) (v : Bool) (d : Device) : Device :=
  let was := pllForceFb d n
  let x := d.pll n
  let onFb := pllOnFb d n || x.target == some true
  let d := d.putBit (pllA n 0) 28 v
  pllSettle n (if v then d.setPll n { x with back := false }
    else if was && onFb then d.setPll n { x with back := true } else d)

def execForceFallback (n : Fin 16) (v : Bool) (s : State) : Host.Outcome State Fault Refusal := s.lift (forceFallback n.val v)

/-- PLL_FRAC_CHANGE: writes to F are accepted at any time (R256). -/
def execPllFracChange (n : Fin 16) (fallback : Bool) (v : BitVec 24) (s : State) : Host.Outcome State Fault Refusal :=
  s.lift (fun d => d.setReg (pllA n.val (if fallback then 0x10 else 8)) (v.setWidth 32))

/-- The VCO and output limits of one input's settings (R252), from its nominal frequency in Hz. -/
def pllLimits (d : Device) (n hz div frac : Nat) : Bool :=
  let m := (d.fld (pllA n div) 16 6 + 1) * 2 ^ 24
  let v := hz * (d.fld (pllA n div) 0 9 * 2 ^ 24 + d.fld (pllA n frac) 0 24)
  decide (3200000000 * m ≤ v ∧ v ≤ 6400000000 * m)
    && (upto 4).all (fun k =>
      let dk := d.fld (pllA n 0x14) (8 * k) 8
      dk == 0 || decide (v ≤ 1600000000 * dk * m))

/-- What PWR_PLL_CTRL_n stores (R271). -/
def pllCtrlNorm (v : Word) : Word :=
  let v := v &&& 0xFF8000FF
  let v := if fieldOf v 23 4 > 10 then withField v 23 4 10 else v
  if fieldOf v 0 8 > 73 then withField v 0 8 72 else v

/-- A write of PWR_PLL_CTRL_n: input selection is refused while a gate uses the PLL (R256); setting en checks the limits (R252); force_fb and
revertive act as R255 says. -/
def pllCtrlWrite (n : Nat) (w : Word) (pri fb : Nat) (d : Device) : Device :=
  let old := d.reg (pllA n 0)
  let v := withField (pllCtrlNorm w) 28 1 (fieldOf old 28 1)
  let refused := pllInUse d n && fieldOf v 0 8 != fieldOf old 0 8
  let v := if refused then withField v 0 8 (fieldOf old 0 8) else v
  let d := if refused then d.setBit (pllStat n) 2 else d
  let d := d.setReg (pllA n 0) v
  let d :=
    if fieldOf v 31 1 = 1 ∧ fieldOf old 31 1 = 0 then
      (if pllLimits d n pri 4 8 && pllLimits d n fb 0xC 0x10 then d.setPll n { d.pll n with target := none, priLost := false, back := false }
      else (d.putBit (pllA n 0) 31 false).setBit (pllStat n) 2)
    else if fieldOf v 31 1 = 0 then
      let s := pllStat n
      ((((d.setPll n { d.pll n with target := none, back := false }).putBit s 31 false).putBit s 30 false).putBit s 29 false).putBit s 26 false
    else d
  forceFallback n (fieldOf w 28 1 == 1) d

/-- PLL_ENABLE: the write that sets en, with the nominal input frequencies of the board. -/
def execPllEnable (n : Fin 16) (v : BitVec 32) (priHz fbHz : Nat) (s : State) : Host.Outcome State Fault Refusal :=
  s.lift (pllCtrlWrite n.val v priHz fbHz)

/-! ### Release of clock-failed domains (R265) -/

/-- 1 ms with every PLL the domain uses locked: the domain is released. What the end of Safe hold brings is `holdExit`. -/
def domainClockRelease (n : Nat) (d : Device) : Device :=
  let locked := (upto 16).all (fun p => !usesPll d p n || d.bit (pllStat p) 31)
  if d.forced n && locked && !clockFailed d n then releaseDomain n d else d

/-! ### Regional clocks (R259 to R261, R273) -/

def rclkA (f r : Nat) : Nat := fldA f (0x500 + 4 * r)
def noNat (_ : Nat) : Option Nat := none

/-- An alignment pulse of the PLL output that slot code `c` of half h names: the dividers on it restart together (R261). -/
def alignPulse (h : Half) (c : Nat) (d : Device) : Device :=
  if c < 32 then { d with clk := { d.clk with aligned := tabMod natZero d.clk.aligned (32 * hn h + c) (· + 1) } } else d

/-- Slot code that regional clock r of field f selects. -/
def rclkCode (d : Device) (f r : Nat) : Nat := d.fld (fldA f (0x540 + 4 * r)) (8 * d.fld (rclkA f r) 0 2) 6

/-- Divider in force on regional clock r of field f, less 1 (R261): the register's, or the one before while a change waits for a rising edge. -/
def rclkDivNow (d : Device) (f r : Nat) : Nat :=
  match tabGet noNat d.clk.rclkDiv (12 * f + r) with
  | some v => v
  | none => d.fld (rclkA f r) 4 4

/-- A write gives regional clock r of field f the divider `v`; the one in force stays until a rising edge of the output. -/
def rclkDivide (f r v : Nat) (d : Device) : Device :=
  let k := 12 * f + r
  let now := rclkDivNow d f r
  let d := d.setFld (rclkA f r) 4 4 v
  { d with clk := { d.clk with rclkDiv := tabSet noNat d.clk.rclkDiv k (if now = v then none else some now) } }

/-- A rising edge of the output: a waiting divider takes effect, and the output of its PLL gives an alignment pulse. -/
def rclkEdge (f r : Nat) (d : Device) : Device :=
  let k := 12 * f + r
  if (tabGet noNat d.clk.rclkDiv k).isSome then
    alignPulse (halfOfField f) (rclkCode d f r) { d with clk := { d.clk with rclkDiv := tabSet noNat d.clk.rclkDiv k none } }
  else d

/-- A write of FLD_RCLK_r: a change of sel starts a switch (R260); a divider waits for a rising edge of the output, after a switch the first
one on the new source (R261). -/
def rclkWrite (f r : Nat) (w : Word) (d : Device) : Device :=
  let a := rclkA f r
  let old := d.reg a
  let v := withField (w &&& 0xE0000003) 4 4 (fieldOf old 4 4)
  let k := 12 * f + r
  let d :=
    if fieldOf v 0 2 = fieldOf old 0 2 then d.setReg a (withField v 8 1 (fieldOf old 8 1))
    else
      let d := d.setReg a (withField v 8 1 1)
      { d with clk := { d.clk with rclkOld := tabSet noNat d.clk.rclkOld k (some (fieldOf old 0 2)) } }
  clockCheck f (rclkDivide f r (fieldOf w 4 4) d)

/-- RCLK_SWITCH. -/
def execRclkSwitch (f : Fin 32) (r : Fin 12) (v : BitVec 32) (s : State) : Host.Outcome State Fault Refusal :=
  s.liftReport (rclkWrite f.val r.val v)

/-- RCLK_SWITCH_DONE: two falling edges of the new source; a silent source keeps switching at 1 (R260). -/
def rclkSwitchDone (f r : Nat) (d : Device) : Device :=
  let k := 12 * f + r
  if d.bit (rclkA f r) 8 && d.slotEdges f r then
    let d := d.putBit (rclkA f r) 8 false
    { d with clk := { d.clk with rclkOld := tabSet noNat d.clk.rclkOld k none } }
  else d

def execRclkSwitchDone (f : Fin 32) (r : Fin 12) (s : State) : Host.Outcome State Fault Refusal :=
  s.lift (rclkSwitchDone f.val r.val)

/-- RCLK_DIV_CHANGE: the divider, and the rising edge of the divided output that brings it into force (R261); while a switch runs, the edge is
the first on the new source. -/
def rclkDivChange (f r v : Nat) (d : Device) : Device :=
  let d := rclkDivide f r v d
  if d.bit (rclkA f r) 8 then d else rclkEdge f r d

def execRclkDivChange (f : Fin 32) (r : Fin 12) (v : BitVec 4) (s : State) : Host.Outcome State Fault Refusal :=
  s.lift (rclkDivChange f.val r.val v.toNat)

end Sys2Proof.Machine
end

