-- ==== Sys2Proof/Machine/MemMap.lean ====
section
/-!
DEFINITION. Machine/MemMap.lean: the DRAM part of control space: regions, channels, channel addresses, banks
(13_memory_channels R346, R348, R349).
-/
namespace Sys2Proof.Machine

/-! ### Channels (R346, R349, R363) -/

def chanCfg (n : Nat) : Nat := mchA n 4
def Device.density32 (d : Device) (n : Nat) : Bool := d.bit (chanCfg n) 26
def Device.twoRanks (d : Device) (n : Nat) : Bool := d.bit (chanCfg n) 27 && !d.density32 n

/-- Data capacity of channel n in bytes. -/
def chanCap (d : Device) (n : Nat) : Nat := if d.density32 n || d.twoRanks n then 2 ^ 36 else 2 ^ 35

/-- Rank of a channel address: l[35] with 16 Gb and two ranks. -/
def rankOf (d : Device) (n l : Nat) : Nat := if d.twoRanks n then bitsAt l 35 1 else 0

/-- Row, bank group and bank of a channel address (R349). -/
def dramRow (d : Device) (n l : Nat) : Nat := if d.density32 n then bitsAt l 19 17 else bitsAt l 19 16
def groupOf (d : Device) (n l : Nat) : Nat :=
  if d.bit (chanCfg n) 24 then bitsAt l 14 3 ^^^ bitsAt (dramRow d n l) 0 3 else bitsAt l 14 3
def bankOf (d : Device) (n l : Nat) : Nat :=
  if d.bit (chanCfg n) 24 then bitsAt l 17 2 ^^^ bitsAt (dramRow d n l) 3 2 else bitsAt l 17 2

/-! ### The map (R348) -/

/-- XOR of the w-bit slices of `x` from slice `j` on, `n` of them. -/
def foldSlices (w x : Nat) : Nat → Nat → Nat
  | _, 0 => 0
  | j, n + 1 => bitsAt x (w * j) w ^^^ foldSlices w x (j + 1) n

/-- The map of a region: grain bits g, index bits w, hashing, and the 39-bit offset r to channel index and address. -/
def mapTo (g w : Nat) (hash : Bool) (r : Nat) : Nat × Nat :=
  let i := bitsAt r g w
  let up := bitsAt r (g + w) (39 - (g + w))
  let i := if hash then i ^^^ foldSlices w up 0 39 else i
  (i, up * 2 ^ g + r % 2 ^ g)

/-- The region offset that maps to index i and channel address l. -/
def mapFrom (g w : Nat) (hash : Bool) (i l : Nat) : Nat :=
  let up := l / 2 ^ g
  let i := if hash then i ^^^ foldSlices w up 0 39 else i
  up * 2 ^ (g + w) + i * 2 ^ g + l % 2 ^ g

def mapReg (k : Nat) : Nat := thmA (0x2100 + 4 * k)
def regionOn (d : Device) (k : Nat) : Bool := d.bit (mapReg k) 31
def maskChans (mask : Nat) : List Nat := (upto 8).filter (fun n => bitsAt mask n 1 == 1)
def regionChans (d : Device) (k : Nat) : List Nat := maskChans (d.fld (mapReg k) 16 8)
/-- log2 of a set of 1, 2, 4 or 8 channels. -/
def setLog : Nat → Nat
  | 8 => 3
  | 4 => 2
  | 2 => 1
  | _ => 0
def regionW (d : Device) (k : Nat) : Nat := setLog (regionChans d k).length
def regionG (d : Device) (k : Nat) : Nat := 7 + sat 9 (d.fld (mapReg k) 8 4)
def regionHash (d : Device) (k : Nat) : Bool := d.bit (mapReg k) 12
def regionSize (d : Device) (k : Nat) : Nat :=
  if regionOn d k then 2 ^ regionW d k * chanCap d ((regionChans d k).headD 0) else 0
def regionStart (d : Device) (k : Nat) : Nat := if k = 0 then 0 else regionSize d 0

/-- The region of an address; none at or above the end of the last enabled one. -/
def regionAt (d : Device) (a : Nat) : Option Nat :=
  if a < regionSize d 0 then some 0
  else if a < regionSize d 0 + regionSize d 1 then some 1
  else none

/-- Channel and channel address of a DRAM address. -/
def dramDecode (d : Device) (a : Nat) : Option (Nat × Nat) :=
  match regionAt d a with
  | some k =>
    let q := mapTo (regionG d k) (regionW d k) (regionHash d k) (a - regionStart d k)
    some ((regionChans d k).getD q.1 0, q.2)
  | none => none

/-- The region a channel belongs to, if any. -/
def chanRegion (d : Device) (n : Nat) : Option Nat :=
  (upto 2).find? (fun k => regionOn d k && (regionChans d k).contains n)

/-- The address of channel address l of channel n, if the channel is in a region. -/
def dramAddr (d : Device) (n l : Nat) : Option Nat :=
  match chanRegion d n with
  | some k =>
    let i := (regionChans d k).findIdx (fun m => m == n)
    some (regionStart d k + mapFrom (regionG d k) (regionW d k) (regionHash d k) i l)
  | none => none

/-- Cut `len` bytes from `a` at every multiple of `g` (R165): addresses and lengths, at most `fuel` parts. -/
def cutAt (g : Nat) : Nat → Nat → Nat → List (Nat × Nat)
  | 0, _, _ => []
  | fuel + 1, a, len =>
    if len = 0 then []
    else
      let m := g - a % g
      if len ≤ m then [(a, len)] else (a, m) :: cutAt g fuel (a + m) (len - m)

/-- The parts of a DRAM request: one for each interleave granule it touches. The regions lie end to end in one window, so a request
may go on from the first into the second (R10, R165). -/
def granules (d : Device) (a len : Nat) : List (Nat × Nat) :=
  let cut (k a n : Nat) : List (Nat × Nat) := cutAt (2 ^ regionG d k) (n + 1) a n
  let e := regionSize d 0
  match regionAt d a with
  | some 0 => cut 0 a (Nat.min len (e - a)) ++ (if a + len > e then cut 1 e (a + len - e) else [])
  | some k => cut k a len
  | none => []

/-- DRAM_MAP_WRITE (R350): taken only while Blank or Loading, and only if the sets stay legal; the size is shown. -/
def dramMapWrite (k : Nat) (v : Word) (d : Device) : Device :=
  let old := d.reg (mapReg k)
  let v := if fieldOf v 8 4 > 9 then withField v 8 4 9 else v
  let v := v &&& 0x80FF1F00
  let t := d.setReg (mapReg k) v
  let chans := regionChans t k
  let mode := d.sys.mode == .blank || d.sys.mode == .loading
  let countOk := [1, 2, 4, 8].contains chans.length
  let same := chans.all (fun n => chanCap d n == chanCap d (chans.headD 0)
    && d.bit (mchA n 0xC00) 31 == d.bit (mchA (chans.headD 0) 0xC00) 31)
  let disjoint := !(regionOn t 0 && regionOn t 1) || (regionChans t 0).all (fun n => !(regionChans t 1).contains n)
  let order := !(regionOn t 1 && !regionOn t 0)
  let ok := mode && order && (fieldOf v 31 1 == 0 || (countOk && same && disjoint))
  if ok then t.setFld (thmA 0x2108) 0 10 ((regionSize t 0 + regionSize t 1) / 2 ^ 30)
  else (d.setReg (mapReg k) old).setBit (thmA 0x2108) 31

def execDramMapWrite (region1 : Bool) (v : BitVec 32) (s : State) : Host.Outcome State Fault Refusal :=
  s.lift (dramMapWrite (b2n region1) v)

end Sys2Proof.Machine
end

