-- ==== Sys2Proof/Machine/Codes.lean ====
section
/-!
DEFINITION. Machine/Codes.lean: decoding of stored lines, marks, the repeat table, poisoning, salvage and the ECC commands
(14_memory_codes). A line is held as its data bytes with the symbols of its codeword that are wrong; the code's
arithmetic is that of R367: which patterns are corrected is a matter of counting symbols.
-/
namespace Sys2Proof.Machine

def lineKey (n line : Nat) : Nat := 2 ^ 29 * n + line
def noSyms (_ : Nat) : List Nat := []
def boolNo (_ : Nat) : Bool := false

def Device.symErrs (d : Device) (n line : Nat) : List Nat := tabGet noSyms d.mem.symErr (lineKey n line)
def Device.setSymErrs (d : Device) (n line : Nat) (xs : List Nat) : Device :=
  { d with mem := { d.mem with symErr := tabSet noSyms d.mem.symErr (lineKey n line) xs } }
def Device.isPoisoned (d : Device) (n line : Nat) : Bool := tabGet boolNo d.mem.poisoned (lineKey n line)
def Device.setPoisoned (d : Device) (n line : Nat) (b : Bool) : Device :=
  { d with mem := { d.mem with poisoned := tabSet boolNo d.mem.poisoned (lineKey n line) b } }

/-- The 128 bytes DRAM holds for a line (plain ones for a lined line that is not raw, 15_ R388). -/
def Device.lineBytes (d : Device) (n line : Nat) : List Byte := memReads d.mem.dram (2 ^ 36 * n + 128 * line) 128
def Device.setLineBytes (d : Device) (n line : Nat) (bs : List Byte) : Device :=
  { d with mem := { d.mem with dram := memWrites d.mem.dram (2 ^ 36 * n + 128 * line) (bs.take 128) } }

/-! ### Marks (R370, R371, R385) -/

def markA (n r : Nat) : Nat := mchA n (0x810 + 4 * r)
def eccStat (n : Nat) : Nat := mchA n 0x804

/-- The marked devices of a rank. -/
def marks (d : Device) (n r : Nat) : List Nat :=
  (if d.bit (markA n r) 7 then [d.fld (markA n r) 0 5] else []) ++ (if d.bit (markA n r) 15 then [d.fld (markA n r) 8 5] else [])

def retired (d : Device) (n r : Nat) : Bool := d.bit (markA n r) 31
def salvaged (d : Device) (n r : Nat) : Bool := d.bit (markA n r) 30

def natWordZero (_ : Nat) : Word := 0

/-- Thimble mirrors every change of marks into the record store (R370). -/
def saveMarks (n r : Nat) (d : Device) : Device :=
  { d with mem := { d.mem with savedMark := tabSet natWordZero d.mem.savedMark (2 * n + r) (d.reg (markA n r)) } }

/-- A pass of the scrubber runs. -/
def passBusy (d : Device) (n : Nat) : Bool := d.bit (mchA n 0x904) 31

/-- A device becomes marked, or its rank is retired (R370, R371). -/
def markDevice (n r dev : Nat) (d : Device) : Device :=
  let a := markA n r
  let src := n * 65536 + r * 256 + dev
  let h := halfOf (n / 4)
  if retired d n r || (marks d n r).contains dev then d
  else
    let d := if passBusy d n then d.bumpSat (mchA n 0x920) 0 8 1 else d
    if !d.bit a 7 then
      saveMarks n r ((((d.setFld a 0 5 dev).setBit a 7).setBit (eccStat n) 2).fault h 0x31 src 0)
    else if !d.bit a 15 then
      saveMarks n r ((((d.setFld a 8 5 dev).setBit a 15).setBit (eccStat n) 2).fault h 0x31 src 0)
    else
      saveMarks n r (((((d.setFld a 16 5 dev).setBit a 23).setBit a 31).setBit (eccStat n) 3).fault h 0x32 src dev)

/-- Unmark (R370): m2 moves into a freed mark of a retired rank. -/
def unmarkDevice (n r dev : Nat) (d : Device) : Device :=
  let a := markA n r
  let m2 := d.fld a 16 5
  let noM2 (d : Device) : Device := ((d.putBit a 23 false).setFld a 16 5 0).putBit a 31 false
  let free (lo v : Nat) (d : Device) : Device :=
    if retired d n r then noM2 (d.setFld a lo 5 m2) else (d.putBit a v false).setFld a lo 5 0
  if d.bit a 7 && d.fld a 0 5 == dev then saveMarks n r (free 0 7 d)
  else if d.bit a 15 && d.fld a 8 5 == dev then saveMarks n r (free 8 15 d)
  else if d.bit a 23 && m2 == dev then saveMarks n r (noM2 d)
  else d

/-! ### Decoding (R367, R368, R375) -/

inductive Decoded
  | clean
  | corrected (syms : List Nat) (assured : Bool)
  | poisoned
  | uncorrectable
deriving DecidableEq, Repr

/-- The wrong symbols outside the marked devices. -/
def badSyms (d : Device) (n line : Nat) : List Nat :=
  (d.symErrs n line).filter (fun p => !(marks d n (rankOf d n (128 * line))).contains (p / 8))

/-- Every symbol lies in one device. -/
def oneDevice : List Nat → Bool
  | [] => true
  | p :: ps => ps.all (fun q => q / 8 == p / 8)

/-- Decode the line under the rank's current marks. -/
def decodeLine (d : Device) (n line : Nat) : Decoded :=
  let e := (marks d n (rankOf d n (128 * line))).length
  let bad := badSyms d n line
  let v := bad.length
  if d.isPoisoned n line then (if v ≤ 4 then .poisoned else .uncorrectable)
  else if v = 0 then .clean
  else if 8 * e + 2 * v ≤ 32 ∧ (!d.bit (mchA n 0x800) 9 || oneDevice bad || decide (v ≤ 4)) then .corrected bad (oneDevice bad)
  else .uncorrectable

/-! ### Poisoning (R374 to R377) -/

def rptNone (_ : Nat) : Option Repeat := none
def rptGet (c : MemChan) (k : Nat) : Option Repeat := tabGet rptNone c.rpt k

/-- The entry of a line, if it has one. -/
def rptFind (c : MemChan) (line : Nat) : Option Nat :=
  (upto 256).find? (fun k => match rptGet c k with
    | some e => e.line == line
    | none => false)

def setRpt (n k : Nat) (e : Option Repeat) (d : Device) : Device :=
  let c := d.chan n
  d.setChan n { c with rpt := tabSet rptNone c.rpt k e }

/-- Free a line's repeat entry. -/
def rptFree (n line : Nat) (d : Device) : Device :=
  match rptFind (d.chan n) line with
  | some k => setRpt n k none d
  | none => d

/-- Poison a line: stored poisoned, counted, logged. -/
def poisonLine (n line : Nat) (d : Device) : Device :=
  let l := 128 * line
  let d := rptFree n line ((d.setPoisoned n line true).setSymErrs n line [])
  let d := ((d.bump (mchA n 0x824) 0 32 1).setBit (eccStat n) 1).setFld (mchA n 0x808) 0 32 l
  let d := d.setFld (mchA n 0x80C) 0 4 (l / 2 ^ 32)
  d.fault (halfOf (n / 4)) 0x30 (n * 65536 + rankOf d n l * 256) (line % 65536)

/-! ### Repeat table and persistent counters (R372, R373) -/

/-- A is replaced before B: not persistent, lower count, updated less recently. -/
def rptBefore (a b : Repeat) : Bool :=
  if a.persistent != b.persistent then b.persistent
  else if a.count ≠ b.count then decide (a.count < b.count)
  else decide (a.stamp < b.stamp)

/-- The entry an allocation takes: the lowest free one, else the one to replace. -/
def rptSlot (c : MemChan) : Nat :=
  match (upto 256).find? (fun k => (rptGet c k).isNone) with
  | some k => k
  | none => (upto 256).foldl (fun m k => match rptGet c k, rptGet c m with
      | some e, some f => if rptBefore e f then k else m
      | _, _ => m) 0

def persistA (n r dev : Nat) : Nat := mchA n (0x840 + 0x20 * r + 4 * (dev / 4))

/-- The persistent counter of a device: once per distinct line; at 16 the device is marked. -/
def persistCount (n r line dev : Nat) (d : Device) : Device :=
  let c := d.chan n
  let seen := tabGet noSyms c.counted (20 * r + dev)
  if seen.contains line then d
  else
    let d := d.setChan n { c with counted := tabSet noSyms c.counted (20 * r + dev) (line :: seen) }
    let d := d.bumpSat (persistA n r dev) (8 * (dev % 4)) 8 1
    if d.fld (persistA n r dev) (8 * (dev % 4)) 8 = 16 then markDevice n r dev d else d

/-- The entry of a line, allocated if need be. -/
def rptEntry (n line : Nat) (d : Device) : Nat × Repeat :=
  let c := d.chan n
  let fresh : Repeat := { line := line, count := 0, rewrites := 0, persistent := false, dev := 0, stamp := 0 }
  match rptFind c line with
  | some k => (k, (rptGet c k).getD fresh)
  | none => (rptSlot c, fresh)

/-- A Corrected decode of a line (R367, R372, R373): counted, entered in the table; `scrub` where the scrubber writes the
line back, which counts as a rewrite; a demand correction that reaches repeat_thr rewrites the line. -/
def onCorrected (n line : Nat) (syms : List Nat) (scrub : Bool) (d : Device) : Device :=
  let r := rankOf d n (128 * line)
  let d := (d.setBit (eccStat n) 0).bump (mchA n 0x820) 0 32 1
  let q := rptEntry n line d
  let c := d.chan n
  let d := d.setChan n { c with updates := c.updates + 1 }
  let e : Repeat := { q.2 with dev := syms.getLastD 0 / 8, stamp := c.updates + 1, persistent := q.2.persistent || q.2.rewrites == 2 }
  let d := setRpt n q.1 (some e) d
  let d := if q.2.rewrites = 2 then d.each ((upto 20).filter (fun dev => syms.any (fun p => p / 8 == dev))) (fun d dev => persistCount n r line dev d)
           else d
  let count := if scrub then 0 else sat 15 (e.count + 1)
  if scrub || decide (count ≥ d.fld (mchA n 0x800) 0 4) then
    let d := setRpt n q.1 (some { e with count := 0, rewrites := sat 2 (e.rewrites + 1) }) d
    (d.setSymErrs n line []).bump (mchA n 0x82C) 0 32 1
  else setRpt n q.1 (some { e with count := count }) d

/-- A user write to a line sets its entry's count to 0. -/
def rptWrite (n line : Nat) (d : Device) : Device :=
  match rptFind (d.chan n) line with
  | some k =>
    match rptGet (d.chan n) k with
    | some e =>
      let c := d.chan n
      setRpt n k (some { e with count := 0, stamp := c.updates + 1 }) (d.setChan n { c with updates := c.updates + 1 })
    | none => d
  | none => d

/-! ### Salvage (R381) -/

/-- A line of the void half of a salvaged rank. -/
def voidLine (d : Device) (n line : Nat) : Bool :=
  salvaged d n (rankOf d n (128 * line)) && bitsAt line 5 1 == 1

/-- Wrong bytes of a frame's copies A and B: frame bytes run by burst, then unmarked device, then symbol. -/
def frameBad (d : Device) (n line : Nat) : Nat × Nat :=
  let r := rankOf d n (128 * line)
  let out := marks d n r ++ [d.fld (markA n r) 16 5]
  let at_ (b p : Nat) : Nat := 136 * b + 8 * ((upto (p / 8)).filter (fun x => !out.contains x)).length + p % 8
  let bytes := (upto 64).flatMap (fun b =>
    ((d.symErrs n (line / 64 * 64 + b)).filter (fun p => !out.contains (p / 8))).map (at_ b))
  ((bytes.filter (fun x => decide (x < 4224))).length, (bytes.filter (fun x => decide (4224 ≤ x ∧ x < 8448))).length)

/-- Read a page line in salvage form: copy A, then copy B with a rewrite; both lost poisons the page. A wrong byte
counts as eight wrong bits of the 64 the page code corrects. -/
def salvageRead (n line : Nat) (d : Device) : Device :=
  let q := frameBad d n line
  if 8 * q.1 ≤ 64 then d
  else
    let clear (d : Device) : Device := d.each (upto 64) (fun d b => d.setSymErrs n (line / 64 * 64 + b) [])
    if 8 * q.2 ≤ 64 then clear d
    else d.each (upto 32) (fun d b => poisonLine n (line / 64 * 64 + b) d)

/-! ### Decoding with its consequences -/

/-- Decode a line as a read does, and do what its outcome asks: corrections counted, Uncorrectable poisoned (R372, R376). In
a salvaged rank the page code stands in the code's place. -/
def readLine (n line : Nat) (scrub : Bool) (d : Device) : Decoded × Device :=
  if salvaged d n (rankOf d n (128 * line)) then
    let d := salvageRead n line d
    (if d.isPoisoned n line then .poisoned else .clean, d)
  else
    match decodeLine d n line with
    | .corrected syms a => (.corrected syms a, onCorrected n line syms scrub d)
    | .uncorrectable => (.uncorrectable, poisonLine n line d)
    | x => (x, d)

/-- Store a whole line (R353): poison ends, the injection armed by MCH_INJECT is made when `inject` (R383). -/
def storeLine (n line : Nat) (bs : List Byte) (inject : Bool) (d : Device) : Device :=
  let d := (d.setLineBytes n line bs).setPoisoned n line false
  let a := mchA n 0x940
  if inject && d.bit a 31 then
    let k := d.fld a 16 3 + 1
    let dev (x : Nat) : List Nat := (upto k).map (fun u => 8 * x + u)
    let d' := d.putBit a 31 false
    if d.bit a 30 then rptFree n line ((d'.setPoisoned n line true).setSymErrs n line [])
    else
      let b := if d.bit a 19 && d.fld a 8 5 != d.fld a 0 5 then dev (d.fld a 8 5) else []
      d'.setSymErrs n line ((dev (d.fld a 0 5) ++ b).filter (fun p => decide (p < 160)))
  else d.setSymErrs n line []

/-! ### ECC commands (R370, R373, R381, R384) -/

def eccCmdErr (n : Nat) (d : Device) : Device := d.setBit (eccStat n) 5

/-- The rank and dev fields hold what the command was written with. -/
def eccFields (n r dev : Nat) (d : Device) : Device := (d.setFld (mchA n 0x800) 28 1 r).setFld (mchA n 0x800) 23 5 dev

/-- ECC_MARK; true where it was refused. -/
def eccMark (n r dev : Nat) (d : Device) : Bool × Device :=
  if dev > 19 then (true, eccCmdErr n d) else (false, markDevice n r dev d)

/-- ECC_UNMARK: only while state is 0 or 1, and not on a salvaged rank. -/
def eccUnmark (n r dev : Nat) (d : Device) : Bool × Device :=
  if dev > 19 ∨ d.chanState n > 1 ∨ salvaged d n r then (true, eccCmdErr n d) else (false, unmarkDevice n r dev d)

/-- ECC_SALVAGE: only for a retired rank that is not salvaged yet. -/
def eccSalvage (n r : Nat) (d : Device) : Bool × Device :=
  if retired d n r && !salvaged d n r && !d.bit (markA n r) 29 then (false, saveMarks n r (d.setBit (markA n r) 29))
  else (true, eccCmdErr n d)

/-- SALVAGE_DONE: every unit converted. Lines of the void half are lost; the others keep their contents, or their poison. -/
def salvageDone (n r : Nat) (d : Device) : Device :=
  if !d.bit (markA n r) 29 then d
  else
    let mine (line : Nat) : Bool := rankOf d n (128 * line) == r
    let d := d.each (d.mem.symErr.filter (fun kv => kv.1 / 2 ^ 29 == n && mine (kv.1 % 2 ^ 29))) (fun d kv =>
      let line := kv.1 % 2 ^ 29
      if bitsAt line 5 1 = 1 then d
      else match decodeLine d n line with
        | .uncorrectable => poisonLine n line d
        | .poisoned => d.setSymErrs n line []
        | _ => d.setSymErrs n line [])
    let void (line : Nat) : Bool := mine line && bitsAt line 5 1 == 1
    let d := { d with mem := { d.mem with
      dram := d.mem.dram.filter (fun cell => !(cell.1 / 2 ^ 36 == n && void (cell.1 % 2 ^ 36 / 128)))
      symErr := tabDrop (fun k => k / 2 ^ 29 == n && void (k % 2 ^ 29)) d.mem.symErr
      poisoned := tabDrop (fun k => k / 2 ^ 29 == n && void (k % 2 ^ 29)) d.mem.poisoned
      mix := tabDrop (fun k => k / 2 ^ 29 == n && void (k % 2 ^ 29)) d.mem.mix } }
    saveMarks n r ((d.putBit (markA n r) 29 false).setBit (markA n r) 30)

/-- ECC_CLEAR_PERSISTENT. -/
def eccClear (n r : Nat) (d : Device) : Device :=
  let c := d.chan n
  let d := d.setChan n { c with counted := tabDrop (fun k => k / 20 == r) c.counted }
  d.each (upto 5) (fun d k => d.setReg (mchA n (0x840 + 0x20 * r + 4 * k)) 0)

def execEccMark (n : Fin 8) (rank1 : Bool) (dev : BitVec 5) (s : State) : Host.Outcome State Fault Refusal :=
  s.lift (fun d => d.atBlock (44 + n.val) false (fun d =>
    (eccMark n.val (b2n rank1) dev.toNat (eccFields n.val (b2n rank1) dev.toNat d)).2))
def execEccUnmark (n : Fin 8) (rank1 : Bool) (dev : BitVec 5) (s : State) : Host.Outcome State Fault Refusal :=
  s.lift (fun d => d.atBlock (44 + n.val) false (fun d =>
    (eccUnmark n.val (b2n rank1) dev.toNat (eccFields n.val (b2n rank1) dev.toNat d)).2))
def execEccSalvage (n : Fin 8) (rank1 : Bool) (s : State) : Host.Outcome State Fault Refusal :=
  s.lift (fun d => d.atBlock (44 + n.val) false (fun d =>
    (eccSalvage n.val (b2n rank1) (d.setFld (mchA n.val 0x800) 28 1 (b2n rank1))).2))
def execSalvageDone (n : Fin 8) (rank1 : Bool) (s : State) : Host.Outcome State Fault Refusal :=
  s.lift (salvageDone n.val (b2n rank1))
def execEccClearPersistent (n : Fin 8) (rank1 : Bool) (s : State) : Host.Outcome State Fault Refusal :=
  s.lift (fun d => d.atBlock (44 + n.val) false (fun d =>
    eccClear n.val (b2n rank1) (d.setFld (mchA n.val 0x800) 28 1 (b2n rank1))))

/-- MCH_INJECT_ARM (R383, R387): only Thimble and debug. -/
def injectArm (n : Nat) (mc : MClass) (v : Word) (d : Device) : Device :=
  if mc.val = 2 ∨ mc.val = 3 then (d.setReg (mchA n 0x940) (v &&& 0xC00F1F1F)).answer 0 [] else d.answer 8 []
def execMchInjectArm (n : Fin 8) (mc : MClass) (v : BitVec 32) (s : State) : Host.Outcome State Fault Refusal :=
  s.lift (fun d => d.atBlock (44 + n.val) false (injectArm n.val mc v))

/-- RPT_IDX_WRITE: latches an entry (R385). -/
def rptIdxWrite (n k : Nat) (d : Device) : Device :=
  let d := d.setReg (mchA n 0x880) (BitVec.ofNat 32 k)
  match rptGet (d.chan n) k with
  | some e =>
    let d := d.setReg (mchA n 0x884) (BitVec.ofNat 32 (2 ^ 31 + e.line % 2 ^ 29))
    d.setReg (mchA n 0x888) (BitVec.ofNat 32 (e.count * 2 ^ 28 + e.rewrites * 2 ^ 26 + b2n e.persistent * 2 ^ 25 + e.dev * 2 ^ 20))
  | none => (d.setReg (mchA n 0x884) 0).setReg (mchA n 0x888) 0
def execRptIdxWrite (n : Fin 8) (idx : BitVec 8) (s : State) : Host.Outcome State Fault Refusal :=
  s.lift (fun d => d.atBlock (44 + n.val) false (rptIdxWrite n.val idx.toNat))

end Sys2Proof.Machine
end

