-- ==== Sys2Proof/Machine/Lining.lean ====
section
/-!
DEFINITION. Machine/Lining.lean: lined ranges, rights, the counter tree and its cache, tag checks, integrity halts and
sweeps (15_lining). The mix and the tags have no function in the spec: stored bytes are `Config.mix` of the plain ones, and
a line or block whose tag does not match is listed as such.
-/
namespace Sys2Proof.Machine

/-! ### Ranges and rights (R389, R390, R392, R409) -/

def rngA (i o : Nat) : Nat := linA (0x100 + 0x20 * i + o)
def rngBase (d : Device) (i : Nat) : Nat := d.fld (rngA i 0) 12 20 * 4096 + d.fld (rngA i 4) 0 7 * 2 ^ 32
/-- The last byte of the range. -/
def rngLimit (d : Device) (i : Nat) : Nat := d.fld (rngA i 8) 12 20 * 4096 + d.fld (rngA i 0xC) 0 7 * 2 ^ 32 + 4095
def rngState (d : Device) (i : Nat) : Nat := d.fld (rngA i 0x14) 29 3
def setRngState (i st : Nat) (d : Device) : Device := d.setFld (rngA i 0x14) 29 3 st

/-- The right of a master class: 0 none, 1 read, 2 read-write, 3 bypass; classes 9 to 15 have none. -/
def rngRight (d : Device) (i mc : Nat) : Nat := if mc ≤ 8 then d.fld (rngA i 0x10) (2 * mc) 2 else 0

/-- The range that is not Closed and holds address a. -/
def rangeAt (d : Device) (a : Nat) : Option Nat :=
  (upto 16).find? (fun i => rngState d i != 0 && decide (rngBase d i ≤ a ∧ a ≤ rngLimit d i))

/-- The range of a line. -/
def lineRange (d : Device) (n line : Nat) : Option Nat :=
  match dramAddr d n (128 * line) with
  | some a => rangeAt d a
  | none => none

def noSweep (_ : Nat) : Option Sweep := none
def sweepOf (d : Device) (i : Nat) : Option Sweep := tabGet noSweep d.mem.sweeps i

/-- How the accesses of R390 see a line: not lined, lined in range i, or answered as Lost. -/
inductive LineView
  | raw
  | lined (i : Nat)
  | dead
deriving DecidableEq, Repr

def lineView (d : Device) (n line : Nat) : LineView :=
  match lineRange d n line with
  | none => .raw
  | some i =>
    match rngState d i with
    | 4 =>
      match sweepOf d i with
      | some sw =>
        if sw.kind == .discard then .dead
        else if decide (sw.pos ≤ (dramAddr d n (128 * line)).getD 0) then .lined i else .raw
      | none => .dead
    | 5 => .dead
    | _ => .lined i

/-- Metadata of a channel with meta_en: the top eighth of its addresses (R393). -/
def metaOn (d : Device) (n : Nat) : Bool := d.bit (mchA n 0xC00) 31
def isMeta (d : Device) (n l : Nat) : Bool := metaOn d n && decide (7 * chanCap d n / 8 ≤ l)

/-! ### Stored and plain bytes (R388) -/

def noMix (_ : Nat) : Option MixInfo := none
def mixOf (d : Device) (n line : Nat) : Option MixInfo := tabGet noMix d.mem.mix (lineKey n line)
def setMix (n line : Nat) (x : Option MixInfo) (d : Device) : Device :=
  { d with mem := { d.mem with mix := tabSet noMix d.mem.mix (lineKey n line) x } }

def fit128 (bs : List Byte) : List Byte := (bs ++ List.replicate 128 0).take 128

/-- What DRAM stores for a line. -/
def storedBytes (d : Device) (n line : Nat) : List Byte :=
  match mixOf d n line with
  | some m => if m.raw then d.lineBytes n line else fit128 (Config.mix m.key (lineKey n line) m.ctr m.gen m.sel (d.lineBytes n line))
  | none => d.lineBytes n line

/-- What a lined read of a line returns once its tag has passed. -/
def plainBytes (d : Device) (n line : Nat) : List Byte :=
  match mixOf d n line with
  | some m => if m.raw then fit128 (Config.unmix m.key (lineKey n line) m.ctr m.gen m.sel (d.lineBytes n line)) else d.lineBytes n line
  | none => d.lineBytes n line

/-! ### Counters and blocks (R394, R395) -/

/-- Levels 0 to 4; 5 is the root, 6 stands for the tag blocks. -/
def blkKey (n lvl x : Nat) : Nat := 2 ^ 40 * n + 2 ^ 37 * lvl + x

def getCtr (d : Device) (n lvl c : Nat) : Nat := tabGet natZero d.mem.ctrs (blkKey n lvl c)
def setCtr (n lvl c v : Nat) (d : Device) : Device :=
  { d with mem := { d.mem with ctrs := tabSet natZero d.mem.ctrs (blkKey n lvl c) v } }
def getGen (d : Device) (n lvl x : Nat) : Nat := tabGet natZero d.mem.gens (blkKey n lvl x)
def setGen (n lvl x v : Nat) (d : Device) : Device :=
  { d with mem := { d.mem with gens := tabSet natZero d.mem.gens (blkKey n lvl x) (v % 256) } }
/-- The 32 counters of a block become 0. -/
def zeroCtrs (n lvl x : Nat) (d : Device) : Device :=
  { d with mem := { d.mem with ctrs := tabDrop (fun k => k / 32 == blkKey n lvl (32 * x) / 32) d.mem.ctrs } }
def getSel (d : Device) (n x : Nat) : Bool := tabGet boolNo d.mem.sels (blkKey n 0 x)
def setSel (n x : Nat) (b : Bool) (d : Device) : Device :=
  { d with mem := { d.mem with sels := tabSet boolNo d.mem.sels (blkKey n 0 x) b } }

def ceilDiv (a b : Nat) : Nat := (a + b - 1) / b
/-- Data lines of a channel with metadata. -/
def dataLines (d : Device) (n : Nat) : Nat := 7 * chanCap d n / 1024
/-- Blocks of a level. -/
def lvlBlocks (dl lvl : Nat) : Nat := ceilDiv dl (32 ^ (lvl + 1))
/-- Blocks of the levels below `lvl`. -/
def lvlBefore (dl : Nat) : Nat → Nat
  | 0 => 0
  | k + 1 => lvlBefore dl k + lvlBlocks dl k
/-- The line a block stands in: tag blocks first, then the levels, then the mirror of the partner's levels. -/
def blkLine (d : Device) (n lvl x : Nat) : Nat :=
  let dl := dataLines d n
  if lvl = 6 then dl + x else dl + dl / 32 + lvlBefore dl lvl + x
def mirLine (d : Device) (n lvl x : Nat) : Nat :=
  let dl := dataLines d n
  dl + dl / 32 + lvlBefore dl 5 + lvlBefore dl lvl + x

def partner (n : Nat) : Nat := n ^^^ 1
def partnerServes (d : Device) (n : Nat) : Bool := d.chanState (partner n) == 2
/-- The partner is disabled: one copy is kept. -/
def partnerOff (d : Device) (n : Nat) : Bool := d.chanState (partner n) == 0 || d.chanState (partner n) == 4

/-- The mirror copies in the partner can be written and read: it serves, and its half's network carries the packets (R400). -/
def mirrorUp (d : Device) (n : Nat) : Bool := partnerServes d n && d.blockRuns (54 + n / 4)
/-- Blocks of the channel whose mirror copy is behind. -/
def mirrorBehind (d : Device) (n : Nat) : Bool := d.mem.mirOld.any (fun k => k / 2 ^ 40 == n)

def linCh (n o : Nat) : Nat := mchA n (0xC00 + o)

/-- Four or more bytes the spec does not give (a tag): free. -/
def freeBytes (n : Nat) (d : Device) : List Byte × Device := let q := d.takeFree; (leBytes q.1 n, q.2)

/-- The bytes of a level block (R395); its tag is free. -/
def blkBytes (d : Device) (n lvl x : Nat) : List Byte :=
  (upto 32).flatMap (fun c => leBytes (getCtr d n lvl (32 * x + c)) 3) ++ leBytes (getGen d n lvl x) 1
    ++ leBytes (if lvl = 0 then b2n (getSel d n x) else tabGet natZero d.mem.treeKey n % 2) 1 ++ List.replicate 26 0

/-- Write a block to its own line, and a level block to its mirror when that can be reached. With the partner disabled the
channel runs with one copy: unmirrored reads 1 until every block has its mirror again (R400). -/
def writeBlock (n lvl x : Nat) (d : Device) : Device :=
  if lvl = 6 then
    let q := freeBytes 128 d
    storeLine n (blkLine d n 6 x) q.1 false q.2
  else
    let q := freeBytes 4 d
    let bs := blkBytes d n lvl x ++ q.1
    let d := storeLine n (blkLine d n lvl x) bs false q.2
    let d := { d with mem := { d.mem with blkBad := d.mem.blkBad.filter (fun k => k != blkKey n lvl x) } }
    let old := d.mem.mirOld.filter (fun k => k != blkKey n lvl x)
    if mirrorUp d n then
      let d := storeLine (partner n) (mirLine d (partner n) lvl x) bs false d
      let d := { d with mem := { d.mem with mirBad := d.mem.mirBad.filter (fun k => k != blkKey n lvl x), mirOld := old } }
      d.putBit (linCh n 4) 31 (d.bit (linCh n 4) 31 && mirrorBehind d n)
    else
      let d := { d with mem := { d.mem with mirOld := blkKey n lvl x :: old } }
      if partnerOff d n then d.setBit (linCh n 4) 31 else d

/-! ### Integrity halt (R403, R496; 01_ R33) -/

/-- Tampering: the device is in Safe hold with cause integrity. `what` are the lines to poison at release. -/
def integrityHalt (n lvl l : Nat) (what : Nat × Nat × Nat) (d : Device) : Device :=
  let d := { d with mem := { d.mem with atRelease := d.mem.atRelease ++ [what] } }
  let d := ((d.setBit (linA 4) 31).setFld (linA 4) 28 3 n).setFld (linA 4) 25 3 lvl
  let d := (d.setFld (linA 8) 0 32 l).setFld (linA 0xC) 0 4 (l / 2 ^ 32)
  let d := d.fault (halfOf (n / 4)) 0x3A (n * 65536 + lvl * 256) 0
  if d.sys.integrity then d
  else
    let run := (upto 32).filter (fun f => d.fieldRuns f)
    let d := d.each run (fun d f => (if d.replayed f then d.bobGap (halfOfField f) 2 else d).holdValues f)
    let d := { d with sys := { d.sys with integrity := true } }
    let d := d.setFab { d.fab with
      ticks := tabDrop (fun k => run.contains (k / 16)) d.fab.ticks
      tickHigh := d.fab.tickHigh.filter (fun k => !run.contains (k / 16)) }
    let d := d.each (upto 144) (fun d l => laneEval l d)
    abandonOnHold (d.each [52, 53, 54, 55] (fun d k => forceEffects k d))

/-! ### The counter cache (R397, R400 to R402) -/

inductive Fetch
  | ok
  | tamper
  | lost
deriving DecidableEq, Repr

def cacheNone (_ : Nat) : List (Nat × Nat) := []
def cacheOf (d : Device) (n : Nat) : List (Nat × Nat) := tabGet cacheNone d.mem.cache n
def setCache (n : Nat) (c : List (Nat × Nat)) (d : Device) : Device :=
  { d with mem := { d.mem with cache := tabSet cacheNone d.mem.cache n c } }
/-- Move a block to the front; `st` is what it becomes, unless it is dirtier already. -/
def cacheTouch (n k st : Nat) (d : Device) : Device :=
  let c := cacheOf d n
  let old := (c.find? (fun x => x.1 == k)).map (fun x => x.2)
  let new := match old with
    | some o => if o < st then st else o
    | none => st
  setCache n ((k, new) :: c.filter (fun x => x.1 != k)) d
/-- The tag block and the counter block of a line hold what DRAM does not yet (R397, R400). -/
def touchBlocks (n line : Nat) (d : Device) : Device :=
  cacheTouch n (blkKey n 0 (line / 32)) 1 (cacheTouch n (blkKey n 6 (line / 32)) 1 d)
def cached (d : Device) (n k : Nat) : Bool := (cacheOf d n).any (fun x => x.1 == k)

/-- Lines below a block: first and how many. -/
def linesBelow (d : Device) (n lvl x : Nat) : Nat × Nat :=
  let first := x * 32 ^ (lvl + 1)
  (first, Nat.min (32 ^ (lvl + 1)) (dataLines d n - first))

def poisonRun (n first count : Nat) (d : Device) : Device := d.each (upto count) (fun d k => poisonLine n (first + k) d)

/-- A level block lost in both copies is rebuilt, and every line below it is poisoned (R402). -/
def nodeRebuild (n lvl x : Nat) (d : Device) : Device :=
  let d := zeroCtrs n lvl x d
  let d := setGen n (lvl + 1) (x / 32) (getGen d n (lvl + 1) (x / 32) + 1) d
  let d := (d.setBit (linCh n 4) 3).fault (halfOf (n / 4)) 0x39 (n * 65536 + (lvl + 1) * 256) 0
  let q := linesBelow d n lvl x
  poisonRun n q.1 q.2 (writeBlock n lvl x d)

/-- A memory fault of a line or tag block: set, reported (R401). -/
def tagMemFault (n lvl : Nat) (d : Device) : Device :=
  (d.setBit (linCh n 4) 1).fault (halfOf (n / 4)) 0x38 (n * 65536 + lvl * 256) 0

def assuredDecode : Decoded → Bool
  | .clean => true
  | .corrected _ a => a
  | _ => false
def readable : Decoded → Bool
  | .clean => true
  | .corrected _ _ => true
  | _ => false

/-- Fill: decode and verify a block from DRAM (R401). -/
def fetchBlock (n lvl x : Nat) (d : Device) : Fetch × Device :=
  let q := readLine n (blkLine d n lvl x) false d
  let d := q.2
  if lvl = 6 then
    if readable q.1 then (.ok, d)
    else (.lost, tagMemFault n 0 (writeBlock n 6 x (poisonRun n (32 * x) 32 d)))
  else
    let bad := d.mem.blkBad.contains (blkKey n lvl x)
    let halt (d : Device) : Fetch × Device :=
      let b := linesBelow d n lvl x
      (.tamper, integrityHalt n (lvl + 1) (128 * blkLine d n lvl x) (n, b.1, b.2) d)
    if readable q.1 && !bad then (.ok, d)
    else if assuredDecode q.1 then halt d
    else if !mirrorUp d n || d.mem.mirOld.contains (blkKey n lvl x) then (.lost, nodeRebuild n lvl x d)
    else
      let m := readLine (partner n) (mirLine d (partner n) lvl x) false d
      let d := m.2
      let mbad := d.mem.mirBad.contains (blkKey n lvl x)
      if readable m.1 && !mbad then
        (.ok, writeBlock n lvl x ((d.setBit (linCh n 4) 2).bump (linCh n 0x1C) 0 32 1))
      else if assuredDecode m.1 then halt d
      else (.lost, nodeRebuild n lvl x d)

/-- Find a block in the cache, or fetch it verified from the root down. -/
def need : Nat → Nat → Nat → Nat → Device → Fetch × Device
  | 0, _, _, _, d => (.ok, d)
  | fuel + 1, n, lvl, x, d =>
    if cached d n (blkKey n lvl x) then (.ok, (cacheTouch n (blkKey n lvl x) 0 d).bump (linCh n 0x10) 0 32 1)
    else
      let up := if lvl ≥ 4 then (Fetch.ok, d) else need fuel n (lvl + 1) (x / 32) d
      match up.1 with
      | .ok =>
        let q := fetchBlock n lvl x (up.2.bump (linCh n 0x14) 0 32 1)
        match q.1 with
        | .ok => (.ok, cacheTouch n (blkKey n lvl x) 0 q.2)
        | r => (r, q.2)
      | r => (r, up.2)

/-- A counter end at any level is flagged and counted (R404, R410). -/
def ctrEnd (n : Nat) (d : Device) : Device := (d.setBit (linCh n 4) 0).bump (linCh n 0x18) 0 32 1

/-- A child's write-back increments its counter in the parent (level 1 to 5); a counter that has reached its end starts a
new generation, and at generation 255 the tree key is replaced (R404). -/
def bumpCtr (n lvl c : Nat) (d : Device) : Device :=
  let v := getCtr d n lvl c
  let v' := v + 1
  if v' < 0xFFFFFF then setCtr n lvl c v' d
  else
    let d := ctrEnd n (zeroCtrs n lvl (c / 32) d)
    let g := getGen d n lvl (c / 32)
    if g < 255 then setGen n lvl (c / 32) (g + 1) d
    else
      let d := setGen n lvl (c / 32) 0 d
      { d with mem := { d.mem with treeKey := tabMod natZero d.mem.treeKey n (· + 1) } }

/-- Write a dirty cached block back: its parent's counter counts it. -/
def writeBack (n k : Nat) (d : Device) : Device :=
  let lvl := k / 2 ^ 37 % 8
  let x := k % 2 ^ 37
  if lvl = 6 then setCache n ((cacheOf d n).map (fun e => if e.1 == k then (k, 0) else e)) (writeBlock n 6 x d)
  else if !mirrorUp d n && !partnerOff d n then
    setCache n ((cacheOf d n).map (fun e => if e.1 == k then (k, 2) else e)) d
  else
    let up := if lvl = 4 then (Fetch.ok, d) else need 6 n (lvl + 1) (x / 32) d
    match up.1 with
    | .ok =>
      let d := bumpCtr n (lvl + 1) x up.2
      let d := if lvl = 4 then d else cacheTouch n (blkKey n (lvl + 1) (x / 32)) 1 d
      setCache n ((cacheOf d n).map (fun e => if e.1 == k then (k, 0) else e)) (writeBlock n lvl x d)
    | _ => up.2

/-- Keep the cache at 2,048 blocks: the least recently used one that can go is evicted, a dirty one after its
write-back. -/
def cacheTrim : Nat → Nat → Device → Device
  | 0, _, d => d
  | fuel + 1, n, d =>
    if (cacheOf d n).length ≤ 2048 then d
    else
      let can (e : Nat × Nat) : Bool := e.2 == 0 || e.1 / 2 ^ 37 % 8 == 6 || mirrorUp d n || partnerOff d n
      match (cacheOf d n).reverse.find? can with
      | some e =>
        let d := if e.2 = 0 then d else writeBack n e.1 d
        cacheTrim fuel n (setCache n ((cacheOf d n).filter (fun x => x.1 != e.1)) d)
      | none => d

/-- Every dirty block is written back (R400: the domain leaves On), lower levels first. -/
def cacheFlush (n : Nat) (d : Device) : Device :=
  d.each [6, 0, 1, 2, 3, 4] (fun d lvl =>
    d.each ((cacheOf d n).filter (fun e => e.2 != 0 && e.1 / 2 ^ 37 % 8 == lvl)) (fun d e => writeBack n e.1 d))

/-- MIRROR_RETRY: each 1 ms, blocks whose mirror write was refused. -/
def mirrorRetry (n : Nat) (d : Device) : Device :=
  d.each ((cacheOf d n).filter (fun e => e.2 == 2)) (fun d e => writeBack n e.1 d)
def execMirrorRetry (n : Fin 8) (s : State) : Host.Outcome State Fault Refusal := s.liftReport (mirrorRetry n.val)

/-- The blocks a lined access to a line needs: its tag block and its counter block. -/
def needBlocks (n line : Nat) (d : Device) : Fetch × Device :=
  let t := need 6 n 6 (line / 32) d
  match t.1 with
  | .ok => let c := need 6 n 0 (line / 32) t.2; (c.1, cacheTrim 16 n c.2)
  | r => (r, cacheTrim 16 n t.2)

/-! ### Lines of a range: initialising, checking, re-mixing (R390, R393, R397, R401, R593) -/

def noKey (_ : Nat) : Option Nat := none
def keyOf (d : Device) (i : Nat) : Nat := (tabGet noKey d.mem.keys i).getD 0
def rngSel (d : Device) (i : Nat) : Bool := d.bit (rngA i 0x14) 28

/-- The key epoch of a counter block: the current one where its key_sel says so, else the one before (R405). -/
def blkEpoch (d : Device) (i n x : Nat) : Nat :=
  if getSel d n x == rngSel d i then keyOf d i
  else match sweepOf d i with
    | some sw => sw.oldKey
    | none => keyOf d i

/-- The tweak a line of a block is stored under now. -/
def mixNow (d : Device) (i n line : Nat) : MixInfo :=
  { key := blkEpoch d i n (line / 32), sel := getSel d n (line / 32), gen := getGen d n 0 (line / 32), ctr := getCtr d n 0 line, raw := false }

def dropTagBad (n line : Nat) (d : Device) : Device :=
  { d with mem := { d.mem with tagBad := d.mem.tagBad.filter (fun k => k != lineKey n line) } }

/-- The open sweep reaches a line, or an access does before it (R390, R391, R593). A line of the range that already stands
under the range's key has been initialised. -/
def initLine (i n line : Nat) (d : Device) : Device :=
  let done := match mixOf d n line with
    | some m => m.key == keyOf d i
    | none => false
  if done then d
  else
    match sweepOf d i with
    | some sw =>
      let d := if sw.kind == .zero || sw.kind == .adopt then cacheTrim 16 n (touchBlocks n line (dropTagBad n line d)) else d
      if sw.kind == .zero then setMix n line (some (mixNow d i n line)) (storeLine n line (List.replicate 128 0) false d)
      else if sw.kind == .adopt then
        let q := readLine n line false d
        let d := q.2
        if readable q.1 then setMix n line (some (mixNow d i n line)) (storeLine n line (storedBytes d n line) false d)
        else setMix n line (some (mixNow d i n line)) d
      else d
    | none => d

/-- Check a lined line after its decode and fetches: the outcome of R401 on a tag failure. -/
def tagCheck (n line : Nat) (o : Decoded) (d : Device) : Fetch × Device :=
  if d.mem.tagBad.contains (lineKey n line) then
    if assuredDecode o then (.tamper, integrityHalt n 0 (128 * line) (n, line, 1) d)
    else (.lost, tagMemFault n 0 (poisonLine n line d))
  else (.ok, d)

/-- Read a lined line with its checks: decode, blocks found or fetched, tag (R397 steps 1 to 3). -/
def linedCheck (n line : Nat) (d : Device) : Fetch × Device :=
  let q := readLine n line false d
  if !readable q.1 then (.lost, q.2)
  else
    let b := needBlocks n line q.2
    match b.1 with
    | .ok => tagCheck n line q.1 b.2
    | r => (r, b.2)

/-- A lined read that is not forwarded (R397): status and the plain bytes. -/
def linedRead (n line : Nat) (d : Device) : Nat × List Byte × Device :=
  let t := linedCheck n line d
  match t.1 with
  | .ok => (0, plainBytes t.2 n line, t.2)
  | .tamper => (11, [], t.2)
  | .lost => (7, [], t.2)

/-- What a reveal or re-key sweep reads of a line (R593): its plain bytes, unless it is or becomes poisoned, or halts. -/
def sweepRead (n line : Nat) (d : Device) : Option (List Byte) × Device :=
  let t := linedCheck n line d
  if t.1 == .ok then (some (plainBytes t.2 n line), t.2) else (none, t.2)

/-- Re-mix the 32 lines of a counter block under the range's key: counters and generation 0, key_sel the new epoch (R405). -/
def remixBlock (i n x : Nat) (d : Device) : Device :=
  let plains := (upto 32).foldl (fun (p : List (Nat × Option (List Byte)) × Device) c =>
    let q := sweepRead n (32 * x + c) p.2
    (p.1 ++ [(32 * x + c, q.1)], q.2)) (([] : List (Nat × Option (List Byte))), d)
  if plains.2.sys.integrity && !d.sys.integrity then plains.2
  else
    let d := setSel n x (rngSel plains.2 i) (setGen n 0 x 0 (zeroCtrs n 0 x plains.2))
    let d := d.each plains.1 (fun d p =>
      let d := setMix n p.1 (some (mixNow d i n p.1)) d
      match p.2 with
      | some bs => storeLine n p.1 bs false d
      | none => d)
    cacheTrim 16 n (touchBlocks n (32 * x) d)

/-- Show the boundary of a sweep. -/
def showBound (i a : Nat) (d : Device) : Device :=
  (d.setFld (rngA i 0x18) 7 25 (a / 128)).setFld (rngA i 0x1C) 0 7 (a / 2 ^ 32)

def setSweep (i : Nat) (x : Option Sweep) (d : Device) : Device :=
  let d := { d with mem := { d.mem with sweeps := tabSet noSweep d.mem.sweeps i x } }
  match x with
  | some sw => showBound i sw.pos d
  | none => d

def setKey (i : Nat) (k : Option Nat) (d : Device) : Device :=
  { d with mem := { d.mem with keys := tabSet noKey d.mem.keys i k } }

/-- Start a re-key at an address (R405): a new key, the other epoch. -/
def rekeyStart (i a : Nat) (d : Device) : Device :=
  let old := keyOf d i
  let d := setKey i (some d.mem.nextKey) d
  let d := { d with mem := { d.mem with nextKey := d.mem.nextKey + 1 } }
  let d := (setRngState i 3 d).putBit (rngA i 0x14) 28 (!rngSel d i)
  setSweep i (some { kind := .rekey, start := a, pos := a, wrapped := false, oldKey := old }) d

/-- The counter a lined write of a line is stored under (R397, R404): `none` where the write stalls. -/
def nextCounter (i n line : Nat) (d : Device) : Bool × Device :=
  let x := line / 32
  let v := getCtr d n 0 line
  if v < 0xFFFFFF then (true, setCtr n 0 line (v + 1) d)
  else
    let d := ctrEnd n d
    let g := getGen d n 0 x
    let a := (dramAddr d n (128 * (32 * x))).getD 0
    if g < 255 then
      let d := setGen n 0 x (g + 1) (zeroCtrs n 0 x d)
      -- the other 31 lines are re-mixed with counter 0
      let d := d.each ((upto 32).filter (fun c => 32 * x + c ≠ line)) (fun d c =>
        let q := sweepRead n (32 * x + c) d
        match q.1 with
        | some bs => setMix n (32 * x + c) (some (mixNow q.2 i n (32 * x + c))) (storeLine n (32 * x + c) bs false q.2)
        | none => q.2)
      (true, d)
    else if rngState d i ≠ 2 then
      -- a sweep of the range runs: behind its boundary, or before a first key ends, the re-key waits (R405)
      if rngState d i ≠ 3 || getSel d n x == rngSel d i then
        let d := { d with mem := { d.mem with queued := tabSet noNat d.mem.queued i (some a) } }
        (false, d.setBit (rngA i 0x14) 27)
      else
        let d' := remixBlock i n x d
        if d'.sys.integrity && !d.sys.integrity then (false, d') else (true, setCtr n 0 line 1 d')
    else
      let d' := remixBlock i n x (rekeyStart i a d)
      if d'.sys.integrity && !d.sys.integrity then (false, d') else (true, setCtr n 0 line 1 d')

/-! ### Commands (R389, R391, R592) -/

/-- The validity of a range (R389). -/
def rangeValid (d : Device) (i : Nat) : Bool :=
  let b := rngBase d i
  let l := rngLimit d i
  match regionAt d b with
  | none => false
  | some k =>
    let u := 2 ^ (Nat.max 12 (regionG d k) + regionW d k)
    decide (b ≤ l) && regionAt d l == some k && b % u == 0 && (l + 1) % u == 0
      && (upto 16).all (fun j => j == i || rngState d j == 0 || decide (l < rngBase d j ∨ rngLimit d j < b))
      && (regionChans d k).all (fun n => metaOn d n && metaOn d (partner n) && chanCap d (partner n) == chanCap d n
          && d.bit (chanCfg (partner n)) 31 && partnerServes d n && d.chanState n == 2)

def linCmdErr (d : Device) : Device := d.setBit (linA 4) 0

/-- A key of range i: whether block key k of level 0 lies in it. -/
def inRange (d : Device) (i k : Nat) : Bool :=
  match dramAddr d (k / 2 ^ 40) (128 * (32 * (k % 2 ^ 37 / 32))) with
  | some a => k / 2 ^ 37 % 8 == 0 && decide (rngBase d i ≤ a ∧ a ≤ rngLimit d i)
  | none => false
def inRangeBlk (d : Device) (i k : Nat) : Bool :=
  match dramAddr d (k / 2 ^ 40) (128 * (32 * (k % 2 ^ 37))) with
  | some a => k / 2 ^ 37 % 8 == 0 && decide (rngBase d i ≤ a ∧ a ≤ rngLimit d i)
  | none => false

/-- The counter blocks of a range read as cleared. -/
def clearBlocks (i : Nat) (d : Device) : Device :=
  { d with mem := { d.mem with
    ctrs := tabDrop (inRange d i) d.mem.ctrs
    gens := tabDrop (inRangeBlk d i) d.mem.gens
    sels := tabDrop (inRangeBlk d i) d.mem.sels
    blkBad := d.mem.blkBad.filter (fun k => !inRangeBlk d i k)
    mirBad := d.mem.mirBad.filter (fun k => !inRangeBlk d i k) } }

/-- A Lining command that is refused: BUSY (1) in a sweep of the range, WRONG_MODE (2) with cmd_err, RANGE (3). -/
def linBusy (d : Device) (i : Nat) : Bool := rngState d i == 1 || rngState d i == 3 || rngState d i == 4

/-- LINING_OPEN: 0 accepted. -/
def liningOpen (i : Nat) (mode : Bool) (d : Device) : Nat × Device :=
  if linBusy d i then (1, d)
  else if rngState d i ≠ 0 then (2, linCmdErr d)
  else if !rangeValid d i then (3, d)
  else
    let d := setKey i (some d.mem.nextKey) (clearBlocks i d)
    let d := { d with mem := { d.mem with nextKey := d.mem.nextKey + 1 } }
    let d := (setRngState i 1 d).putBit (rngA i 0x14) 28 false
    let b := rngBase d i
    (0, setSweep i (some { kind := if mode then .adopt else .zero, start := b, pos := b, wrapped := false, oldKey := 0 }) d)

/-- LINING_CLOSE: of a Lost range, at once. -/
def liningClose (i : Nat) (mode : Bool) (d : Device) : Nat × Device :=
  if linBusy d i then (1, d)
  else if rngState d i = 0 then (2, linCmdErr d)
  else if rngState d i = 5 then (0, setRngState i 0 (setKey i none d))
  else
    let b := rngBase d i
    let d := if mode then d else setKey i none d
    (0, setSweep i (some { kind := if mode then .reveal else .discard, start := b, pos := b, wrapped := false, oldKey := 0 })
      (setRngState i 4 d))

/-- LINING_REKEY: from base. -/
def liningRekey (i : Nat) (d : Device) : Nat × Device :=
  if linBusy d i then (1, d)
  else if rngState d i ≠ 2 then (2, linCmdErr d)
  else (0, rekeyStart i (rngBase d i) d)

/-- The fields of LIN_CTRL hold what the command was written with. -/
def linFields (i : Nat) (mode : Bool) (d : Device) : Device := (d.putBit (linA 0) 28 mode).setFld (linA 0) 0 4 i

def execLiningOpen (i : Fin 16) (mode : Bool) (s : State) : Host.Outcome State Fault Refusal :=
  s.lift (fun d => (liningOpen i.val mode (linFields i.val mode d)).2)
def execLiningClose (i : Fin 16) (mode : Bool) (s : State) : Host.Outcome State Fault Refusal :=
  s.lift (fun d => (liningClose i.val mode (linFields i.val mode d)).2)
def execLiningRekey (i : Fin 16) (s : State) : Host.Outcome State Fault Refusal :=
  s.lift (fun d => (liningRekey i.val (d.setFld (linA 0) 0 4 i.val)).2)

/-! ### Sweeps (R391, R405, R406, R593) -/

/-- The queued re-key of a range starts as soon as its sweep has ended (R405). -/
def queuedStart (i : Nat) (d : Device) : Device :=
  match tabGet noNat d.mem.queued i with
  | some a =>
    let d := { d with mem := { d.mem with queued := tabSet noNat d.mem.queued i none } }
    rekeyStart i a (d.putBit (rngA i 0x14) 27 false)
  | none => d
/-- No re-key is queued for the range. -/
def queuedNone (i : Nat) (d : Device) : Device :=
  { d with mem := { d.mem with queued := tabSet noNat d.mem.queued i none } }.putBit (rngA i 0x14) 27 false

/-- The sweep of range i ends. -/
def sweepDone (i : Nat) (k : SweepKind) (d : Device) : Device :=
  let d := setSweep i none d
  match k with
  | .zero => queuedStart i (setRngState i 2 d)
  | .adopt => queuedStart i (setRngState i 2 d)
  | .discard => setRngState i 0 (clearBlocks i d)
  | .reveal => queuedNone i (setRngState i 0 (setKey i none (clearBlocks i d)))
  | .rekey => queuedStart i (setRngState i 2 d)

/-- What the sweep does to a line. -/
def sweepAct (i : Nat) (sw : Sweep) (n line : Nat) (d : Device) : Device :=
  match sw.kind with
  | .zero => initLine i n line d
  | .adopt => initLine i n line d
  | .discard => cacheTrim 16 n (touchBlocks n line (dropTagBad n line d))
  | .reveal =>
    let q := sweepRead n line d
    match q.1 with
    | some bs => setMix n line none (storeLine n line bs false q.2)
    | none => if q.2.sys.integrity then q.2 else setMix n line none q.2
  | .rekey => if getSel d n (line / 32) == rngSel d i then d else remixBlock i n (line / 32) d

/-- Where the sweep goes next; none at its end. -/
def sweepNext (d : Device) (i : Nat) (sw : Sweep) : Option Sweep :=
  let p := sw.pos + 128
  let w := decide (p > rngLimit d i)
  match sw.kind with
  | .rekey =>
    let sw' := if w then { sw with pos := rngBase d i, wrapped := true } else { sw with pos := p }
    if sw'.wrapped && decide (sw.start ≤ sw'.pos) then none else some sw'
  | _ => if w then none else some { sw with pos := p }

/-- SWEEP_LINE: the next line; paused in Safe hold and while its channel is not serving. -/
def sweepLine (i : Nat) (d : Device) : Device :=
  match sweepOf d i with
  | none => d
  | some sw =>
    match dramDecode d sw.pos with
    | none => d
    | some (n, l) =>
      if d.safeCause ≠ 0 ∨ d.chanState n ≠ 2 then d
      else
        let d := sweepAct i sw n (l / 128) d
        if d.sys.integrity then d
        else match sweepNext d i sw with
          | some sw' => setSweep i (some sw') d
          | none => sweepDone i sw.kind d

def execSweepLine (i : Fin 16) (s : State) : Host.Outcome State Fault Refusal := s.liftReport (sweepLine i.val)

/-- A half reset (R407): its roots are erased, and every range with lines in its channels becomes Lost. -/
def liningHalfLost (h : Half) (d : Device) : Device :=
  let mine (n : Nat) : Bool := n / 4 == hn h
  let d := { d with mem := { d.mem with
    cache := tabDrop mine d.mem.cache
    treeKey := tabDrop mine d.mem.treeKey
    ctrs := tabDrop (fun k => mine (k / 2 ^ 40) && k / 2 ^ 37 % 8 == 5) d.mem.ctrs
    gens := tabDrop (fun k => mine (k / 2 ^ 40) && k / 2 ^ 37 % 8 == 5) d.mem.gens } }
  d.each (upto 16) (fun d i =>
    let hit := match regionAt d (rngBase d i) with
      | some k => (regionChans d k).any mine
      | none => false
    if rngState d i ≠ 0 && hit then
      queuedNone i (setSweep i none (setRngState i 5 d))
    else d)

/-- At the release of an integrity halt, the failed lines are poisoned and the halt is cleared (R403, R497). -/
def haltRelease (d : Device) : Device :=
  let d := d.each d.mem.atRelease (fun d (w : Nat × Nat × Nat) => poisonRun w.1 w.2.1 w.2.2 d)
  { d with mem := { d.mem with atRelease := [] } }.putBit (linA 4) 31 false

end Sys2Proof.Machine
end

