-- ==== Sys2Proof/Machine/Channel.lean ====
section
/-!
DEFINITION. Machine/Channel.lean: memory channels: queues, forwarding, scheduling, refresh, training, self-refresh, and the
scrubber (13_memory_channels R350 to R364; 14_memory_codes R377 to R379, R386).
-/
namespace Sys2Proof.Machine

/-- The channel's clock runs: its domain On, its gate open (09_ R262, R263). -/
def mchClock (d : Device) (n : Nat) : Bool := d.domOn (44 + n) && d.gateOpen (44 + n)

/-! ### One line (R352, R353, R377; 15_ R390, R392) -/

/-- A line read from DRAM for a master: status and 128 bytes. -/
def chanReadLine (n line mc : Nat) (d : Device) : Nat × List Byte × Device :=
  let plainDecode (d : Device) : Nat × List Byte × Device :=
    let q := readLine n line false d
    if readable q.1 then (0, storedBytes q.2 n line, q.2) else (7, [], q.2)
  if voidLine d n line then (7, [], d)
  else match lineView d n line with
    | .raw => plainDecode d
    | .dead => (7, [], d)
    | .lined i =>
      let d := if rngState d i = 1 then initLine i n line d else d
      if rngRight d i mc = 3 then plainDecode d else linedRead n line d

/-- The bytes of a line with some replaced. -/
def overlay (base : List Byte) (new : List (Nat × Byte)) : List Byte :=
  (upto 128).map (fun k => match new.find? (fun x => x.1 == k) with
    | some x => x.2
    | none => base.getD k 0)

def entryFor (c : MemChan) (line : Nat) : Option WrEntry := c.wq.find? (fun e => e.line == line)
def wholeLine (e : WrEntry) : Bool := e.bytes.length == 128
def holds (e : WrEntry) (off k : Nat) : Bool := (upto k).all (fun j => e.bytes.any (fun x => x.1 == off + j))

/-- A master's requests to a line pass its mix by (15_ R392). -/
def bypasses (d : Device) (n line mc : Nat) : Bool :=
  match lineRange d n line with
  | some i => rngRight d i mc == 3
  | none => false
/-- A read of k bytes is answered from the entry: it holds them as this master sees them, and the line still answers (R352; 15_
R390, R392). -/
def forwards (d : Device) (n mc : Nat) (e : WrEntry) (off k : Nat) : Bool :=
  holds e off k && e.bypass == bypasses d n e.line mc && lineView d n e.line != .dead

/-- The drain flag follows the write queue's marks (R354). -/
def drainUpdate (n : Nat) (d : Device) : Device :=
  let k := (d.chan n).wq.length
  if k ≥ d.fld (mchA n 0x10) 8 6 then d.setBit (mchA n 8) 27
  else if k ≤ d.fld (mchA n 0x10) 0 6 then d.putBit (mchA n 8) 27 false
  else d

/-- Acknowledged write data is lost. -/
def wqLost (n : Nat) (d : Device) : Device := d.setBit (mchA n 8) 4

/-- Store the new contents of a line for an entry, lined or not; false where the write stalls (15_ R404, R405). -/
def entryStore (n : Nat) (e : WrEntry) (bs : List Byte) (d : Device) : Bool × Device :=
  match lineView d n e.line with
  | .lined i =>
    let q := nextCounter i n e.line d
    if q.1 then
      let d := dropTagBad n e.line q.2
      let d := storeLine n e.line bs (wholeLine e) (setMix n e.line (some { mixNow d i n e.line with raw := e.bypass }) d)
      (true, cacheTrim 16 n (touchBlocks n e.line d))
    else (false, q.2)
  | _ => (true, storeLine n e.line bs (wholeLine e) (setMix n e.line none d))

/-- Issue a write entry (R353): whole lines replace, others read, merge and rewrite. -/
def issueEntry (n : Nat) (e : WrEntry) (d : Device) : Device :=
  let gone (d : Device) : Device :=
    let c := d.chan n
    drainUpdate n (d.setChan n { c with wq := c.wq.filter (fun x => x.line != e.line) })
  let issued (d : Device) : Device :=
    let d := d.bump (mchA n 0x24) 0 32 1
    gone (if wholeLine e then d else d.bump (mchA n 0x2C) 0 32 1)
  let counted (d : Device) : Device := issued (rptWrite n e.line d)
  let lost (d : Device) : Device := issued (wqLost n d)
  let view := lineView d n e.line
  let d := match view with
    | .lined i => if rngState d i = 1 then initLine i n e.line d else d
    | _ => d
  if view == .dead || voidLine d n e.line then gone (wqLost n d)
  else
    let store (bs : List Byte) (d : Device) : Device :=
      let q := entryStore n e bs d
      if q.1 then counted q.2 else q.2
    if wholeLine e then
      match view with
      | .lined _ =>
        let q := needBlocks n e.line d
        if q.1 == .tamper then lost q.2 else store (overlay [] e.bytes) q.2
      | _ => store (overlay [] e.bytes) d
    else
      match view with
      | .lined _ =>
        if e.bypass then
          let q := readLine n e.line false d
          let b := needBlocks n e.line q.2
          if readable q.1 && b.1 == .ok then store (overlay (storedBytes b.2 n e.line) e.bytes) b.2 else lost b.2
        else
          let q := linedRead n e.line d
          if q.1 = 0 then store (overlay q.2.1 e.bytes) q.2.2 else lost q.2.2
      | _ =>
        let q := readLine n e.line false d
        if readable q.1 then store (overlay (storedBytes q.2 n e.line) e.bytes) q.2 else lost q.2

/-- Issue the entry of a line, if there is one. -/
def issueLine (n line : Nat) (d : Device) : Device :=
  match entryFor (d.chan n) line with
  | some e => issueEntry n e d
  | none => d

/-- Issue every entry, oldest first. -/
def drainAll (n : Nat) (d : Device) : Device := d.each (d.chan n).wq (fun d e => issueEntry n e d)

/-! ### Requests (R351, R352, R360, R361; 15_ R390, R392, R393) -/

/-- The parts of a request in the lines it touches: line, offset, length, offset in the request. -/
def lineParts (addr len : Nat) : List (Nat × Nat × Nat × Nat) :=
  (cutAt 128 (len + 1) addr len).map (fun p => (p.1 / 128, p.1 % 128, p.2, p.1 - addr))

/-- Why the channel refuses a request, and 0 where it takes it. -/
def chanCheck (d : Device) (n mc addr len : Nat) (write : Bool) : Nat :=
  let parts := lineParts addr len
  let right (p : Nat × Nat × Nat × Nat) : Nat :=
    match lineRange d n p.1 with
    | some i => rngRight d i mc
    | none => 2
  if d.chanState n ≠ 2 then 2
  else if d.sys.integrity && mc != 3 then 11
  else if isMeta d n (addr + len - 1) then 6
  else if parts.any (fun p => right p == 0 || (write && right p == 1)) then 6
  else if write && parts.any (fun p => lineView d n p.1 == .dead || voidLine d n p.1) then 8
  else 0

/-- A write to a void line is also flagged (14_ R381). -/
def voidFlag (d : Device) (n addr len : Nat) : Bool :=
  d.chanState n == 2 && (lineParts addr len).any (fun p => voidLine d n p.1)

/-- Give an answer to a request. -/
def chanAnswer (n rid : Nat) (a : Answer) (d : Device) : Device :=
  let c := d.chan n
  d.setChan n { c with answers := (rid, a) :: c.answers.filter (fun x => x.1 != rid) }

/-- Payload flits of the bytes from `off`, `k` of them, of a packet with address `addr` (06_ R163). -/
def flitsOf (addr off k : Nat) : List Nat :=
  let f := (addr % 64 + off) / 64
  (upto ((addr % 64 + off + k - 1) / 64 + 1 - f)).map (fun j => f + j)

/-- Serve a read: line by line in address order, forwarded where a write entry holds the bytes. -/
def chanRead (n mc addr len : Nat) (d : Device) : Answer × Device :=
  let r := (lineParts addr len).foldl (fun (acc : Answer × Bool × Device) p =>
    let d := acc.2.2
    let d := match entryFor (d.chan n) p.1 with
      | some e => if forwards d n mc e p.2.1 p.2.2.1 then d else issueEntry n e d
      | none => d
    match entryFor (d.chan n) p.1 with
    | some e =>
      -- forwarded; an entry that still stands although it lacks bytes has stalled, and is overlaid
      if forwards d n mc e p.2.1 p.2.2.1 then
        ({ acc.1 with data := acc.1.data ++ ((overlay [] e.bytes).drop p.2.1).take p.2.2.1 }, acc.2.1, d)
      else
        let q := chanReadLine n p.1 mc d
        if q.1 = 0 then
          ({ acc.1 with data := acc.1.data ++ ((overlay q.2.1 e.bytes).drop p.2.1).take p.2.2.1 }, false, q.2.2)
        else ({ status := if acc.1.status = 11 then 11 else q.1, data := acc.1.data ++ List.replicate p.2.2.1 0,
                poison := acc.1.poison ++ flitsOf addr p.2.2.2 p.2.2.1 }, false, q.2.2)
    | none =>
      let q := chanReadLine n p.1 mc d
      if q.1 = 0 then ({ acc.1 with data := acc.1.data ++ (q.2.1.drop p.2.1).take p.2.2.1 }, false, q.2.2)
      else ({ status := if acc.1.status = 11 then 11 else q.1, data := acc.1.data ++ List.replicate p.2.2.1 0,
              poison := acc.1.poison ++ flitsOf addr p.2.2.2 p.2.2.1 }, false, q.2.2)) ({}, true, d)
  let a := if r.1.status = 11 then { status := 11 } else r.1
  let d := r.2.2.bump (mchA n 0x20) 0 32 1
  let d := if r.2.1 then d.bump (mchA n 0x28) 0 32 1 else d
  (a, if a.status = 7 then d.bump (mchA n 0x828) 0 32 1 else d)

/-- A read request at the channel, served at once: what its source sees (R352 fixes it, whatever the schedule). -/
def chanReadNow (n mc addr len : Nat) (d : Device) : Answer × Device :=
  let st := chanCheck d n mc addr len false
  if st = 0 then chanRead n mc addr len d else ({ status := st }, d)

/-- Free read entries for a class: 8 reserved for each, 96 shared. -/
def readCredit (c : MemChan) (cls : Nat) : Bool :=
  let cnt (k : Nat) : Nat := (c.rq.filter (fun e => e.cls == k)).length
  decide (cnt cls < 8) || decide ((cnt 0 - 8) + (cnt 1 - 8) + (cnt 2 - 8) + (cnt 3 - 8) < 96)

/-- MCH_READ: refused, forwarded, or queued while an entry is free. -/
def mchRead (n : Nat) (rq : MemReq) (d : Device) : Device :=
  let st := chanCheck d n rq.mclass.val rq.addr rq.len false
  if st ≠ 0 then chanAnswer n rq.rid { status := st } d
  else
    let parts := lineParts rq.addr rq.len
    let full (d : Device) : Bool := parts.all (fun p => match entryFor (d.chan n) p.1 with
      | some e => forwards d n rq.mclass.val e p.2.1 p.2.2.1
      | none => false)
    if full d then
      let q := chanRead n rq.mclass.val rq.addr rq.len d
      chanAnswer n rq.rid q.1 q.2
    else if !readCredit (d.chan n) rq.cls.val then d
    else
      let d := d.each parts (fun d p => match entryFor (d.chan n) p.1 with
        | some e => if forwards d n rq.mclass.val e p.2.1 p.2.2.1 then d else issueEntry n e d
        | none => d)
      let c := d.chan n
      let e : RdEntry := { rid := rq.rid, seq := c.arrivals, mclass := rq.mclass.val, cls := rq.cls.val, addr := rq.addr, len := rq.len, promoted := none }
      d.setChan n { c with rq := c.rq ++ [e], arrivals := c.arrivals + 1 }

def execMchRead (n : Fin 8) (rq : MemReq) (s : State) : Host.Outcome State Fault Refusal := s.liftReport (mchRead n.val rq)

/-- A queued read is served and leaves the queue; in an integrity halt only Thimble's is (01_ R33). -/
def serveRead (n : Nat) (e : RdEntry) (d : Device) : Device :=
  let q : Answer × Device := if d.sys.integrity && e.mclass != 3 then ({ status := 11 }, d) else chanRead n e.mclass e.addr e.len d
  let c := q.2.chan n
  chanAnswer n e.rid q.1 (q.2.setChan n { c with rq := c.rq.filter (fun x => x.seq != e.seq) })

/-- Enter a write into the queue: merged into the line's entry, the later write winning. -/
def queueWrite (n rid mc cls addr : Nat) (data : List Byte) (d : Device) : Device :=
  let parts := lineParts addr data.length
  -- reads of these lines that arrived earlier are carried out first (R352)
  let d := d.each ((d.chan n).rq.filter (fun e => (lineParts e.addr e.len).any (fun x => parts.any (fun p => p.1 == x.1)))) (fun d e => serveRead n e d)
  let d := d.each parts (fun d p =>
    let byp := bypasses d n p.1 mc
    -- an entry of the other kind (bypass or not) issues first
    let d := match entryFor (d.chan n) p.1 with
      | some e => if e.bypass == byp then d else issueEntry n e d
      | none => d
    let new := ((data.drop p.2.2.2).take p.2.2.1).zipIdx.map (fun x => (p.2.1 + x.2, x.1))
    let c := d.chan n
    match entryFor c p.1 with
    | some e =>
      let bs := new ++ e.bytes.filter (fun x => !new.any (fun y => y.1 == x.1))
      d.setChan n { c with wq := c.wq.map (fun x => if x.line == p.1 then { x with bytes := bs } else x) }
    | none =>
      let e : WrEntry := { rid := rid, seq := c.arrivals, mclass := mc, cls := cls, line := p.1, bytes := new, promoted := none, bypass := byp }
      d.setChan n { c with wq := c.wq ++ [e], arrivals := c.arrivals + 1 })
  drainUpdate n d

/-- New entries a write needs. -/
def newEntries (c : MemChan) (addr len : Nat) : Nat :=
  ((lineParts addr len).filter (fun p => (entryFor c p.1).isNone)).length

/-- MCH_WRITE: refused at the entry, or answered OK once it is in the write queue; without a free entry it gets no credit. -/
def mchWrite (n : Nat) (rq : MemReq) (data : List Byte) (d : Device) : Device :=
  let st := chanCheck d n rq.mclass.val rq.addr data.length true
  if st ≠ 0 then
    let d := if st = 8 && voidFlag d n rq.addr data.length then d.setBit (eccStat n) 4 else d
    chanAnswer n rq.rid { status := st } d
  else if (d.chan n).wq.length + newEntries (d.chan n) rq.addr data.length > 64 then d
  else chanAnswer n rq.rid {} (queueWrite n rq.rid rq.mclass.val rq.cls.val rq.addr data d)

def execMchWrite (n : Fin 8) (rq : MemReq) (data : List Byte) (s : State) : Host.Outcome State Fault Refusal :=
  s.liftReport (mchWrite n.val rq data)

/-- A write request at the channel: where the queue is full, entries issue, oldest first, until there is room. -/
def chanWriteNow (n mc cls addr : Nat) (data : List Byte) (d : Device) : Nat × Device :=
  let st := chanCheck d n mc addr data.length true
  if st ≠ 0 then (st, if st = 8 && voidFlag d n addr data.length then d.setBit (eccStat n) 4 else d)
  else
    let excess (d : Device) : Nat := (d.chan n).wq.length + newEntries (d.chan n) addr data.length - 64
    let d := d.each ((d.chan n).wq.take (excess d)) (fun d e => issueEntry n e d)
    (0, queueWrite n 0 mc cls addr data d)

/-! ### Scheduling (R354, R355) and refresh (R357) -/

def clsRank : Nat → Nat
  | 0 => 0
  | 1 => 1
  | 3 => 2
  | _ => 3

def lexLt : List Nat → List Nat → Bool
  | [], _ => false
  | _ :: _, [] => false
  | x :: xs, y :: ys => if x = y then lexLt xs ys else decide (x < y)

def bankKey (d : Device) (n l : Nat) : Nat := 32 * rankOf d n l + 4 * groupOf d n l + bankOf d n l
def rowHit (d : Device) (n l : Nat) : Bool := tabGet natZero (d.chan n).openRow (bankKey d n l) == dramRow d n l + 1

/-- The order of R354, the least first: promoted, then (while draining class-0 reads, then writes, then other reads), class,
row hit, age, read before write. -/
def readOrder (d : Device) (n : Nat) (e : RdEntry) : List Nat :=
  let drain := d.bit (mchA n 8) 27
  [if e.promoted.isSome then 0 else 1, e.promoted.getD 0, if drain then (if e.cls = 0 then 0 else 2) else 0, clsRank e.cls,
   if rowHit d n e.addr then 0 else 1, e.seq, 0]
def writeOrder (d : Device) (n : Nat) (e : WrEntry) : List Nat :=
  let drain := d.bit (mchA n 8) 27
  [if e.promoted.isSome then 0 else 1, e.promoted.getD 0, if drain then 1 else 0, clsRank e.cls,
   if rowHit d n (128 * e.line) then 0 else 1, e.seq, 1]

inductive Pick
  | read (e : RdEntry)
  | write (e : WrEntry)

def pickBetter (a : List Nat × Pick) : Option (List Nat × Pick) → Option (List Nat × Pick)
  | some b => if lexLt b.1 a.1 then some b else some a
  | none => some a

/-- The request the channel chooses among those whose next command is legal. -/
def schedPick (d : Device) (n : Nat) (legal : List Nat) : Option (List Nat × Pick) :=
  let c := d.chan n
  let r := (c.rq.filter (fun e => legal.contains e.rid)).foldl (fun b e => pickBetter (readOrder d n e, .read e) b) none
  (c.wq.filter (fun e => legal.contains e.rid)).foldl (fun b e => pickBetter (writeOrder d n e, .write e) b) r

def intZero (_ : Nat) : Int := 0
def debtOf (d : Device) (n k : Nat) : Int := tabGet intZero (d.chan n).debt k
def ranksOf (d : Device) (n : Nat) : Nat := if d.twoRanks n then 2 else 1

/-- Refresh bank b of a rank (key 4 r + b): its debt falls by 1, its rows close. -/
def refresh (n k : Nat) (d : Device) : Device :=
  let c := d.chan n
  let v := debtOf d n k
  d.setChan n { c with debt := tabSet intZero c.debt k (if v > -4 then v - 1 else v)
                       openRow := tabDrop (fun b => b / 32 == k / 4 && b % 4 == k % 4) c.openRow }

/-- A queued request targets bank b of the rank. -/
def bankBusy (d : Device) (n k : Nat) : Bool :=
  let hit (l : Nat) : Bool := rankOf d n l == k / 4 && bankOf d n l == k % 4
  (d.chan n).rq.any (fun e => hit e.addr) || (d.chan n).wq.any (fun e => hit (128 * e.line))

/-- MCH_SCHEDULE: a forced refresh, else one that is due of a bank that no request targets, else the chosen request, else one pulled in. -/
def mchSchedule (n : Nat) (legal : List Nat) (d : Device) : Device :=
  let ks := upto (4 * ranksOf d n)
  if d.chanState n ≠ 2 ∨ !mchClock d n then d
  else match ks.find? (fun k => debtOf d n k == 4) with
    | some k => (refresh n k d).bump (mchA n 0x30) 0 32 1
    | none =>
    match ks.find? (fun k => decide (debtOf d n k ≥ 1) && !bankBusy d n k) with
    | some k => refresh n k d
    | none =>
      let opened (l : Nat) (d : Device) : Device :=
        let c := d.chan n
        d.setChan n { c with openRow := tabSet natZero c.openRow (bankKey d n l) (dramRow d n l + 1) }
      match schedPick d n legal with
      | some (_, .read e) => serveRead n e (opened e.addr d)
      | some (_, .write e) => issueEntry n e (opened (128 * e.line) d)
      | none =>
        let c := d.chan n
        if c.rq.isEmpty && c.wq.isEmpty then
          match ks.find? (fun k => decide (debtOf d n k > -4)) with
          | some k => refresh n k d
          | none => d
        else d

def execMchSchedule (n : Fin 8) (legal : List Nat) (s : State) : Host.Outcome State Fault Refusal := s.liftReport (mchSchedule n.val legal)

/-- MCH_PROMOTION: a request of class 1, 2 or 3 has waited its class's limit. -/
def mchPromotion (n rid : Nat) (d : Device) : Device :=
  let c := d.chan n
  let lim (cls : Nat) : Nat := match cls with
    | 1 => d.fld (mchA n 0xC) 8 8
    | 2 => d.fld (mchA n 0xC) 16 8
    | 3 => d.fld (mchA n 0xC) 24 8
    | _ => 0
  let ok (cls : Nat) (p : Option Nat) : Bool := p.isNone && lim cls != 0
  let rq := c.rq.map (fun e => if e.rid == rid && ok e.cls e.promoted then { e with promoted := some c.promos } else e)
  let wq := c.wq.map (fun e => if e.rid == rid && ok e.cls e.promoted then { e with promoted := some c.promos } else e)
  d.setChan n { c with rq := rq, wq := wq, promos := c.promos + 1 }
def execMchPromotion (n : Fin 8) (rid : Nat) (s : State) : Host.Outcome State Fault Refusal := s.lift (mchPromotion n.val rid)

/-- REFRESH_DEBT: tREFI has passed. -/
def refreshDebt (n : Nat) (d : Device) : Device :=
  if d.chanState n ≠ 2 then d
  else d.each (upto (4 * ranksOf d n)) (fun d k =>
    let c := d.chan n
    let v := debtOf d n k
    d.setChan n { c with debt := tabSet intZero c.debt k (if v < 4 then v + 1 else v) })
def execRefreshDebt (n : Fin 8) (s : State) : Host.Outcome State Fault Refusal := s.lift (refreshDebt n.val)

/-- RANK_TEMP_READ: hot reads 1 while a rank is above 85 °C. -/
def rankTemp (n r : Nat) (t : Int) (d : Device) : Device :=
  let c := d.chan n
  let hot := BitVec.ofNat 2 (putBits c.hot.toNat r 1 (b2n (decide (t > 85))))
  (d.setChan n { c with hot := hot }).putBit (mchA n 8) 28 (decide (hot ≠ 0))
def execRankTempRead (n : Fin 8) (rank1 : Bool) (celsius : Int) (s : State) : Host.Outcome State Fault Refusal :=
  s.lift (rankTemp n.val (b2n rank1) celsius)

/-- Serve every queued read, oldest first. -/
def serveAll (n : Nat) (d : Device) : Device := d.each (d.chan n).rq (fun d e => serveRead n e d)

/-! ### Training and delays (R347, R358, R359, R364) -/

def dlyA (n r k : Nat) : Nat := mchA n (0x400 + 0x80 * r + 4 * k)
def noWords (_ : Nat) : List Word := []

/-- Write a delay and its window centre. -/
def setDelay (n r k : Nat) (v : Word) (d : Device) : Device :=
  let v := v &&& 0x03FF03FF
  let c := d.chan n
  (d.setReg (dlyA n r k) v).setChan n { c with centres := tabSet natWordZero c.centres (20 * r + k) v }

/-- DLY_WRITE (R364): only while state is 0 or 1. -/
def dlyWrite (n r k : Nat) (v : Word) (d : Device) : Device :=
  if d.chanState n ≤ 1 then setDelay n r k v d else d.setBit (mchA n 8) 0
def execDlyWrite (n : Fin 8) (rank1 : Bool) (dev : Fin 20) (v : BitVec 32) (s : State) : Host.Outcome State Fault Refusal :=
  s.lift (fun d => d.atBlock (44 + n.val) false (dlyWrite n.val (b2n rank1) dev.val v))

/-- Step 2 of R358: delays and marks from the record store. -/
def seedChannel (n : Nat) (d : Device) : Device :=
  d.each (upto 2) (fun d r =>
    let d := d.each (tabGet noWords d.mem.savedDly (2 * n + r)).zipIdx (fun d x => setDelay n r x.2 x.1 d)
    let m := tabGet natWordZero d.mem.savedMark (2 * n + r)
    if m = 0 then d else d.setReg (markA n r) m)

/-- MCH_ENABLE: a write of MCH_CFG (R347, R358). Leaving self-refresh is SELF_REFRESH_EXIT. -/
def mchCfgWrite (n : Nat) (v : Word) (d : Device) : Device :=
  let a := chanCfg n
  let old := d.reg a
  let v := v &&& 0xFF000000
  let en := fieldOf v 31 1 == 1
  if fieldOf old 31 1 = 1 then
    let d := if fieldOf v 24 7 = fieldOf old 24 7 then d else d.setBit (mchA n 8) 0
    if en then d else ((drainAll n (serveAll n d)).setReg a (withField old 31 1 0)).setChanState n 0
  else if en && decide (fieldOf v 28 3 ≥ 5) then (d.setReg a (withField v 31 1 0)).setBit (mchA n 8) 0
  else
    let d := d.setReg a v
    if !en || !d.domOn (44 + n) then d
    else
      let d := seedChannel n d
      d.setChanState n (if (d.chan n).sr.isSome then 3 else 1)
def execMchEnable (n : Fin 8) (v : BitVec 32) (s : State) : Host.Outcome State Fault Refusal := 
  s.liftReport (fun d => d.atBlock (44 + n.val) false (mchCfgWrite n.val v))

/-- The channel does not come into service (R358, R382). -/
def chanFailed (n detail : Nat) (d : Device) : Device :=
  let d := d.setChanState n 4
  let d := if detail = 1 then d.setBit (mchA n 8) 1 else d.setBit (eccStat n) 31
  d.fault (halfOf (n / 4)) 0x33 (n * 65536) detail

/-- CHANNEL_TRAINING: the seed check, else a full training whose result is saved, then the self-test. -/
def chanTraining (n : Nat) (seedOk fullOk testOk : Bool) (delays : List Word) (d : Device) : Device :=
  if d.chanState n ≠ 1 ∨ !mchClock d n then d
  else
    let full (d : Device) : Device := d.each (upto (ranksOf d n)) (fun d r =>
      let xs := (delays.drop (20 * r)).take 20
      let d := d.each xs.zipIdx (fun d x => setDelay n r x.2 x.1 d)
      { d with mem := { d.mem with savedDly := tabSet noWords d.mem.savedDly (2 * n + r) xs } })
    if !seedOk && !fullOk then chanFailed n 1 d
    else
      let d := if seedOk then d else full d
      if !testOk then chanFailed n 2 d
      else
        let c := d.chan n
        (d.setChan n { c with trained := true, sr := none }).setChanState n 2
def execChannelTraining (n : Fin 8) (seedOk fullOk testOk : Bool) (delays : List (BitVec 32)) (s : State) :
    Host.Outcome State Fault Refusal := s.lift (chanTraining n.val seedOk fullOk testOk delays)

/-- One delay moves by at most one tap toward the measured value, inside its window; true where the window held it. -/
def driftStep (cur meas centre win : Nat) : Nat × Bool :=
  let want := if meas > cur then cur + 1 else if meas < cur then cur - 1 else cur
  let lo := centre - win
  let hi := sat 1023 (centre + win)
  if want > hi then (hi, true) else if want < lo then (lo, true) else (want, false)

/-- A drift pause of one rank (R359). -/
def driftPause (n r : Nat) (meas : List Word) (d : Device) : Device :=
  let ctl := mchA n 0
  if d.chanState n ≠ 2 ∨ d.bit ctl 28 ∨ !mchClock d n then d
  else
    let win := d.fld ctl 24 4
    let d := d.each (upto 20) (fun d k =>
      let cur := d.reg (dlyA n r k)
      let m := nth meas k cur
      let ctr := tabGet natWordZero (d.chan n).centres (20 * r + k)
      let w := driftStep (fieldOf cur 16 10) (fieldOf m 16 10) (fieldOf ctr 16 10) win
      let q := driftStep (fieldOf cur 0 10) (fieldOf m 0 10) (fieldOf ctr 0 10) win
      let d := d.setReg (dlyA n r k) (BitVec.ofNat 32 (w.1 * 65536 + q.1))
      if w.2 || q.2 then (d.setBit (mchA n 8) 3).fault (halfOf (n / 4)) 0x34 (n * 65536 + r * 256) k else d)
    d.bump (mchA n 0x34) 0 32 1
/-- DRIFT_PAUSE: an interval of 0 disables them (R363). -/
def execDriftPause (n : Fin 8) (rank1 : Bool) (centres : List (BitVec 32)) (s : State) : Host.Outcome State Fault Refusal :=
  s.lift (fun d => if d.fld (mchA n.val 0) 16 8 = 0 then d else driftPause n.val (b2n rank1) centres d)

/-- DRIFT_PAUSE_NOW: cmd 1 of MCH_CTRL, one pause on each rank. -/
def driftNow (n : Nat) (m0 m1 : List Word) (d : Device) : Device :=
  let d' := driftPause n 0 m0 d
  if d.twoRanks n then driftPause n 1 m1 d' else d'
def execDriftPauseNow (n : Fin 8) (centres0 centres1 : List (BitVec 32)) (s : State) : Host.Outcome State Fault Refusal :=
  s.lift (fun d => d.atBlock (44 + n.val) false (driftNow n.val centres0 centres1))

/-! ### Self-refresh (R360 to R362) -/

/-- SELF_REFRESH_ENTRY: what each cause does with the queues. -/
def srEnter (n : Nat) (why : SrTrigger) (d : Device) : Device :=
  let d := srTrigger n why d
  if d.chanState n ≠ 3 then d
  else
    let d := match why with
      | .domain _ =>
        cacheFlush n (drainAll n (serveAll n d))
      | .clockFailed => d
      | .deviceReset =>
        -- drained for as long as the domain is On: how many entries reach DRAM is free
        let q := d.takeFree
        let wq := (d.chan n).wq
        let d := q.2.each (wq.take (q.1 % (wq.length + 1))) (fun d e => issueEntry n e d)
        let c := d.chan n
        let d := if c.wq.isEmpty then d else wqLost n d
        let c := d.chan n
        d.setChan n { c with wq := [], rq := [] }
    let c := d.chan n
    drainUpdate n (d.setChan n { c with sr := some why, openRow := [] })
def execSelfRefreshEntry (n : Fin 8) (why : SrTrigger) (s : State) : Host.Outcome State Fault Refusal := s.liftReport (srEnter n.val why)

/-- A delay after the drift pauses of R362: anywhere inside its window. -/
def freeDelay (centre win : Nat) (d : Device) : Nat × Device :=
  let q := d.takeFree
  let lo := centre - win
  (lo + q.1 % (sat 1023 (centre + win) + 1 - lo), q.2)

/-- SELF_REFRESH_EXIT: pauses until no delay moves, every refresh owed, then the kept writes drain. -/
def srExit (n : Nat) (d : Device) : Device :=
  if !(d.chan n).sr.isSome || d.chanState n != 3 || !mchClock d n || d.forced (44 + n) || !d.bit (chanCfg n) 31 then d
  else
    let win := d.fld (mchA n 0) 24 4
    let d := if d.bit (mchA n 0) 28 then d
      else d.each (upto (ranksOf d n)) (fun d r =>
        let d := d.each (upto 20) (fun d k =>
          let ctr := tabGet natWordZero (d.chan n).centres (20 * r + k)
          let w := freeDelay (fieldOf ctr 16 10) win d
          let q := freeDelay (fieldOf ctr 0 10) win w.2
          q.2.setReg (dlyA n r k) (BitVec.ofNat 32 (w.1 * 65536 + q.1)))
        let q := d.takeFree
        q.2.bump (mchA n 0x34) 0 32 (q.1 + 1))
    let c := d.chan n
    let d := (d.setChan n { c with sr := none, debt := c.debt.filter (fun kv => decide (kv.2 < 0)) }).setChanState n 2
    drainAll n d
def execSelfRefreshExit (n : Fin 8) (s : State) : Host.Outcome State Fault Refusal := s.liftReport (srExit n.val)

/-! ### Scrubbing (14_ R378, R379, R386) -/

def chanLines (d : Device) (n : Nat) : Nat := chanCap d n / 128

/-- Scrub one line: after its write entry, if it has one; corrected lines are written back. -/
def scrubLine (n line : Nat) (d : Device) : Decoded × Device :=
  let d := issueLine n line d
  readLine n line true d

/-- The first line at or above `line` that is not void: void lines come 32 in a row. -/
def skipVoid (d : Device) (n line : Nat) : Nat := if voidLine d n line then line / 32 * 32 + 32 else line

/-- PATROL_SCRUB: the next line, unless a pass runs. -/
def patrolScrub (n : Nat) (d : Device) : Device :=
  if d.chanState n ≠ 2 ∨ !d.bit (mchA n 0x900) 28 ∨ passBusy d n ∨ !mchClock d n then d
  else
    let line := skipVoid d n (d.chan n).patrol
    let wrapNow (line : Nat) (d : Device) : Device :=
      let c := d.chan n
      if line ≥ chanLines d n then (d.setChan n { c with patrol := 0 }).bump (mchA n 0x904) 0 16 1
      else d.setChan n { c with patrol := line }
    if line ≥ chanLines d n then wrapNow line d
    else wrapNow (line + 1) (scrubLine n line d).2
def execPatrolScrub (n : Fin 8) (s : State) : Host.Outcome State Fault Refusal := s.liftReport (patrolScrub n.val)

def scrubStat (n : Nat) : Nat := mchA n 0x904

/-- Elapsed µs of the pass, saturating. -/
def passElapsed (n : Nat) (d : Device) : Device :=
  d.setFld (mchA n 0x91C) 0 32 (sat (2 ^ 32 - 1) ((d.now (halfOf (n / 4)) - (d.chan n).passAt) / 65536 / 1000))

/-- The pass ends: done is set. -/
def passEnd (n : Nat) (stopped : Bool) (d : Device) : Device :=
  let d := passElapsed n d
  let c := d.chan n
  let d := ((d.setChan n { c with pass := none }).putBit (scrubStat n) 31 false).setBit (scrubStat n) 30
  if stopped then d.setBit (scrubStat n) 29 else d

/-- SCRUB_PASS_START: 0 accepted; refused 1 busy, 2 wrong state, 3 base above limit. -/
def passStart (n : Nat) (d : Device) : Nat × Device :=
  let err (d : Device) : Device := d.setBit (scrubStat n) 28
  let base := d.fld (mchA n 0x908) 0 29
  let st := d.chanState n
  if passBusy d n then (1, err d)
  else if st = 0 ∨ st = 1 ∨ st = 4 then (2, err d)
  else if base > d.fld (mchA n 0x90C) 0 29 then (3, err d)
  else
    let c := d.chan n
    let d := d.setChan n { c with pass := some base, passAt := d.now (halfOf (n / 4)) }
    let d := d.each [0x910, 0x914, 0x918, 0x91C, 0x920] (fun d o => d.setReg (mchA n o) 0)
    (0, d.setBit (scrubStat n) 31)
def execScrubPassStart (n : Fin 8) (s : State) : Host.Outcome State Fault Refusal := 
  s.lift (fun d => d.atBlock (44 + n.val) false (fun d => (passStart n.val d).2))

/-- SCRUB_PASS_LINE: the next line of the pass; it waits in self-refresh. Void lines are skipped and not counted. -/
def passLine (n : Nat) (d : Device) : Device :=
  match (d.chan n).pass with
  | none => d
  | some line0 =>
    if d.chanState n ≠ 2 ∨ !mchClock d n then passElapsed n d
    else
      let line := skipVoid d n line0
      let lim := d.fld (mchA n 0x90C) 0 29
      if line > lim then passEnd n false d
      else
        let q := scrubLine n line d
        let d := q.2.bump (mchA n 0x910) 0 32 1
        let d := match q.1 with
          | .corrected _ _ => d.bump (mchA n 0x914) 0 32 1
          | .uncorrectable => d.bump (mchA n 0x918) 0 32 1
          | _ => d
        let c := d.chan n
        let d := passElapsed n (d.setChan n { c with pass := some (line + 1) })
        if line + 1 > lim then passEnd n false d else d
def execScrubPassLine (n : Fin 8) (s : State) : Host.Outcome State Fault Refusal := s.liftReport (passLine n.val)

/-- SCRUB_PASS_STOP: ends a pass after the current line. -/
def passStop (n : Nat) (d : Device) : Device := if passBusy d n then passEnd n true d else d
def execScrubPassStop (n : Fin 8) (s : State) : Host.Outcome State Fault Refusal := 
  s.lift (fun d => d.atBlock (44 + n.val) false (passStop n.val))

end Sys2Proof.Machine
end

