-- ==== Sys2Proof/Machine/Flags.lean ====
section
/-!
DEFINITION. Machine/Flags.lean: the sticky flags of a Clover engine and the computations that set them
(04_clover_engines R95 to R97, R128).
-/
namespace Sys2Proof.Machine

/-! ### CLV_FLAGS bits (R128) -/

def fSat : Nat := 0
def fOvf : Nat := 1
def fDivZero : Nat := 2
def fAddr : Nat := 3
def fAlign : Nat := 4
def fStream : Nat := 5
def fOverrun : Nat := 6
def fStartErr : Nat := 7
def fParity : Nat := 8
def fNotify : Nat := 9

/-- Set a sticky flag where `c` holds. -/
def Engine.flagIf (e : Engine) (k : Nat) (c : Bool) : Engine :=
  if c then { e with flags := e.flags ||| (1#10).shiftLeft k } else e

/-! ### Saturation and overflow (R95, R96) -/

/-- A 24-bit part, saturated, and whether it was. -/
def sat24 (x : Int) : Int × Bool :=
  if x > 8388607 then (8388607, true) else if x < -8388608 then (-8388608, true) else (x, false)

/-- `x` lies outside the 56-bit range. -/
def out56 (x : Int) : Bool := decide (x > 2 ^ 55 - 1 ∨ x < -(2 ^ 55))

/-- A 56-bit result: modulo 2^56, or clamped where `clamp` is set. -/
def fit56 (clamp : Bool) (x : Int) : BitVec 56 :=
  if clamp then (if x > 2 ^ 55 - 1 then BitVec.ofInt 56 (2 ^ 55 - 1) else if x < -(2 ^ 55) then BitVec.ofInt 56 (-(2 ^ 55))
    else BitVec.ofInt 56 x)
  else BitVec.ofInt 56 x

/-! ### Extraction (R97) -/

/-- The shifted and rounded value before saturation. -/
def roundShift (v : Int) (n : Nat) (trunc : Bool) : Int :=
  let q := v / (2 ^ n : Nat)
  let r := v % (2 ^ n : Nat)
  if trunc || n == 0 then q
  else
    let half : Int := (2 ^ (n - 1) : Nat)
    if r > half ∨ (r = half ∧ q % 2 = 1) then q + 1 else q

/-- Extraction of a 24-bit part, and whether it saturated. -/
def extract (v : Int) (n : Nat) (trunc : Bool) : Int × Bool := sat24 (roundShift v n trunc)

/-! ### Comparison (05_ R150) -/

/-- PCMP's conditions; none for a reserved one. -/
def pcmpCond (cond : Nat) (x y : Int) : Option Bool :=
  match cond with
  | 0 => some (decide (x = y))
  | 1 => some (decide (x ≠ y))
  | 2 => some (decide (x < y))
  | 3 => some (decide (x ≤ y))
  | 4 => some (decide (x > y))
  | 5 => some (decide (x ≥ y))
  | _ => none

/-- PLOG's operations; none for a reserved one. -/
def plogOp (op : Nat) (a b : Bool) : Option Bool :=
  match op with
  | 0 => some (a && b)
  | 1 => some (a || b)
  | 2 => some (a != b)
  | 3 => some (a && !b)
  | 4 => some false
  | 5 => some true
  | 6 => some (!a)
  | _ => none

end Sys2Proof.Machine
end

