-- ==== Sys2Proof/Machine/Operands.lean ====
section
/-!
DEFINITION. Machine/Operands.lean: the operand forms of a Clover engine: complex values, rotating registers, pointers and
their modify, data-memory samples, and the decoding of a bundle (04_clover_engines R94, R98 to R100, R103 to R106;
05_clover_instruction_set R133 to R141, R148 to R151).
-/
namespace Sys2Proof.Machine

/-! ### Complex values (R94) -/

def reOf (v : BitVec 48) : Int := (v.extractLsb' 0 24).toInt
def imOf (v : BitVec 48) : Int := (v.extractLsb' 24 24).toInt
def mkC (re im : Int) : BitVec 48 := BitVec.ofInt 24 im ++ BitVec.ofInt 24 re

/-! ### Register naming (R106) -/

/-- Physical register of logical c register `i` under `rot`. -/
def physC (rot i : Nat) : Nat := if i < 16 then i else 16 + (i - 16 + rot) % 16
/-- Physical predicate of logical predicate `j`. -/
def physQ (rot j : Nat) : Nat := (j + rot) % 8

def Engine.creg (e : Engine) (i : Nat) : BitVec 48 := tabGet zero48 e.c (physC e.rot i)
def Engine.qreg (e : Engine) (j : Nat) : Bool := e.q.getLsbD (physQ e.rot j)
/-- Write physical predicate `k`. -/
def Engine.setQ (e : Engine) (k : Nat) (b : Bool) : Engine :=
  { e with q := if b then e.q ||| (1#8).shiftLeft k else e.q &&& ~~~((1#8).shiftLeft k) }

def zero56 (_ : Nat) : BitVec 56 := 0
def zero12 (_ : Nat) : BitVec 12 := 0
def zero16 (_ : Nat) : BitVec 16 := 0
def zero96 (_ : Nat) : BitVec 96 := 0
def zero64 (_ : Nat) : BitVec 64 := 0

/-- An accumulator as an accumulate input sees it, and as every other read does (05_ R144). -/
def Engine.accIn (e : Engine) (i : Nat) : Int := (tabGet zero56 e.a i).toInt
def Engine.accOut (e : Engine) (i : Nat) : Int := (tabGet zero56 e.aOld i).toInt

/-- A 56-bit result stored under acc_sat, or modulo 2^56 where `wrapped` (R96; 05_ R155). -/
def Engine.setAcc (e : Engine) (wrapped : Bool) (i : Nat) (x : Int) : Engine :=
  { e with a := tabSet zero56 e.a i (fit56 (!wrapped && e.ctrl.getLsbD 7) x) }.flagIf fOvf (out56 x)

/-! ### Pointers (R103 to R105) -/

def Engine.preg (e : Engine) (i : Nat) : Nat := (tabGet zero12 e.p i).toNat
def Engine.breg (e : Engine) (i : Nat) : Nat := (tabGet zero12 e.b i).toNat
def Engine.lreg (e : Engine) (i : Nat) : Nat := (tabGet zero16 e.l i).toNat

/-- The low `n` bits of `x` in reverse order. -/
def revBits : Nat → Nat → Nat
  | 0, _ => 0
  | n + 1, x => (x % 2) * 2 ^ n + revBits n (x / 2)

/-- The n of R105: N = 2^n is the largest power of two not greater than l, capped at 2,048. -/
def revLen (l : Nat) : Nat := if l < 2 then 0 else Nat.min (Nat.log2 l) 11

/-- The modified pointer p′ from p, b, l and the signed modifier m. -/
def modPtr (p b lw : Nat) (m : Int) : Nat :=
  let l := lw % 4096
  let brev := lw / 32768 % 2 == 1
  if brev && l ≥ 2 then
    let n := revLen l
    let big : Int := (2 ^ n : Nat)
    let o := (((p : Int) - b) % big).toNat
    let o' := revBits n ((revBits n o + revBits n ((m % big).toNat)) % 2 ^ n)
    (b + o') % 4096
  else if l = 0 || brev then (((p : Int) + m) % 4096).toNat
  else (b + (((p : Int) - b + m) % l).toNat) % 4096

def Engine.setP (e : Engine) (i p : Nat) : Engine := { e with p := tabSet zero12 e.p i (BitVec.ofNat 12 p) }
/-- A post-modify of pointer i, read from `src`. -/
def Engine.modify (e src : Engine) (i : Nat) (m : Int) : Engine :=
  e.setP i (modPtr (src.preg i) (src.breg i) (src.lreg i) m)

/-! ### Data memory (R98 to R100, R102) -/

/-- The sample at address a: 0 from 3,072 up. -/
def Engine.sample (e : Engine) (a : Nat) : BitVec 48 :=
  if a < 3072 then (tabGet zero96 e.mem (a / 2)).extractLsb' (48 * (a % 2)) 48 else 0

/-- Whether a part of the sample has wrong parity. -/
def Engine.sampleBad (e : Engine) (a : Nat) : Bool :=
  decide (a < 3072) && e.memBad.any (fun k => k / 2 == a)

def Engine.setSample (e : Engine) (a : Nat) (v : BitVec 48) : Engine :=
  if a < 3072 then
    let w := tabGet zero96 e.mem (a / 2)
    let w' : BitVec 96 := if a % 2 = 0 then w.extractLsb' 48 48 ++ v else v ++ w.extractLsb' 0 48
    { e with mem := tabSet zero96 e.mem (a / 2) w', memBad := e.memBad.filter (fun k => k / 2 != a) }
  else e

/-! ### Slots and bundles (05_ R133 to R141) -/

/-- A MAC slot: 1 MUL, 2 MAC, 3 MACC. -/
structure MacSlot where
  op : Nat
  ak : Nat
  x  : Nat
  y  : Nat
deriving DecidableEq, Repr

/-- A memory or stream slot; `m` is its signed modifier. -/
inductive MemSlot
  | load (pair : Bool) (p reg : Nat) (m : Int)
  | store (pair : Bool) (p reg : Nat) (m : Int)
  | sread (s1 : Nat) (reg : Nat)
  | swrite (s1 : Nat) (reg : Nat) (last : Bool)
deriving DecidableEq, Repr

/-- The operation slot: operate, control and immediate instructions. -/
inductive ClvOp
  | cmac (ak x y mode : Nat)
  | ext (dst aj am : Nat) (sum : Bool) (n : Nat) (trunc : Bool)
  | ext1 (dst ai n : Nat) (trunc im : Bool)
  | amov (ak x n : Nat)
  | aclr (mask : Nat)
  | aadd (sub : Bool) (ak aj am : Nat)
  | casw (aj : Nat)
  | casr (ak : Nat) (add : Bool)
  | dstep (ak x : Nat)
  | dfin (ak x : Nat)
  | cadd (dst x y : Nat)
  | csub (dst x y : Nat)
  | cconj (dst x : Nat)
  | cneg (dst x : Nat)
  | cmulj (dst x : Nat)
  | cmov (dst x : Nat)
  | cshr (dst x n : Nat) (trunc : Bool)
  | cshl (dst x n : Nat)
  | pcmp (q x y cond : Nat) (im : Bool)
  | plog (q a b op : Nat)
  | plast (q s1 : Nat)
  | pmod (p : Nat) (m : Int)
  | ldi (dst : Nat) (imm : BitVec 48)
  | halt
  | br (target cond q : Nat)
  | loop (k1 rotate : Bool) (s1 last n : Nat)
  | loopr (k1 rotate : Bool) (s1 last x : Nat)
  | setp (p which imm : Nat)
  | flag (value mask : BitVec 4)
deriving DecidableEq, Repr

/-- A bundle: its guard enable and its slots with their stages. -/
structure Bundle where
  g     : Bool
  stage : Nat := 0
  mac0  : Option MacSlot := none
  mac1  : Option MacSlot := none
  early : Option (Nat × MemSlot) := none
  late  : Option (Nat × MemSlot) := none
  op    : Option (Nat × ClvOp) := none
deriving DecidableEq, Repr

/-- A memory slot's 15 bits (R135, R141); none for no access and for reserved stream slots. -/
def decodeMem (w : Nat) : Option (Nat × MemSlot) :=
  let pair := bitsAt w 12 1 == 1
  let p := bitsAt w 9 3
  let reg := bitsAt w 4 5
  let md := bitsAt w 3 1
  let m : Int := if md = 0 then 0 else if pair then 2 else 1
  let stage := bitsAt w 0 3
  match bitsAt w 13 2 with
  | 1 => some (stage, .load pair p reg m)
  | 2 => some (stage, .store pair p reg m)
  | 3 => if pair || bitsAt p 1 1 == 1 then none
      else if bitsAt p 2 1 = 0 then some (stage, .sread (p % 2) reg)
      else some (stage, .swrite (p % 2) reg (md == 1))
  | _ => none

/-- A MAC slot (R136): none for op 0. -/
def decodeMac (op ak x y : Nat) : Option MacSlot := if op = 0 then none else some ⟨op, ak, x, y⟩

/-- An operation slot by opcode (R148 to R150); a reserved opcode or operand value is a no-op (R140). -/
def decodeOperate (w : Nat) : Option ClvOp :=
  match bitsAt w 52 6 with
  | 0x01 => if bitsAt w 37 3 = 7 then none else some (.cmac (bitsAt w 50 2) (bitsAt w 45 5) (bitsAt w 40 5) (bitsAt w 37 3))
  | 0x02 => if bitsAt w 36 6 ≥ 48 then none
      else some (.ext (bitsAt w 47 5) (bitsAt w 45 2) (bitsAt w 43 2) (bitsAt w 42 1 == 1) (bitsAt w 36 6) (bitsAt w 35 1 == 1))
  | 0x03 => if bitsAt w 38 6 ≥ 48 then none
      else some (.ext1 (bitsAt w 47 5) (bitsAt w 44 3) (bitsAt w 38 6) (bitsAt w 37 1 == 1) (bitsAt w 36 1 == 1))
  | 0x04 => if bitsAt w 39 6 > 32 then none else some (.amov (bitsAt w 50 2) (bitsAt w 45 5) (bitsAt w 39 6))
  | 0x05 => some (.aclr (bitsAt w 48 4))
  | 0x06 => some (.aadd false (bitsAt w 50 2) (bitsAt w 48 2) (bitsAt w 46 2))
  | 0x07 => some (.aadd true (bitsAt w 50 2) (bitsAt w 48 2) (bitsAt w 46 2))
  | 0x08 => some (.casw (bitsAt w 50 2))
  | 0x09 => some (.casr (bitsAt w 50 2) (bitsAt w 49 1 == 1))
  | 0x0A => some (.dstep (bitsAt w 50 2) (bitsAt w 45 5))
  | 0x0B => some (.dfin (bitsAt w 50 2) (bitsAt w 45 5))
  | 0x10 => some (.cadd (bitsAt w 47 5) (bitsAt w 42 5) (bitsAt w 37 5))
  | 0x11 => some (.csub (bitsAt w 47 5) (bitsAt w 42 5) (bitsAt w 37 5))
  | 0x12 => some (.cconj (bitsAt w 47 5) (bitsAt w 42 5))
  | 0x13 => some (.cneg (bitsAt w 47 5) (bitsAt w 42 5))
  | 0x14 => some (.cmulj (bitsAt w 47 5) (bitsAt w 42 5))
  | 0x15 => some (.cmov (bitsAt w 47 5) (bitsAt w 42 5))
  | 0x16 => if bitsAt w 37 5 ≥ 24 then none
      else some (.cshr (bitsAt w 47 5) (bitsAt w 42 5) (bitsAt w 37 5) (bitsAt w 36 1 == 1))
  | 0x17 => if bitsAt w 37 5 ≥ 24 then none else some (.cshl (bitsAt w 47 5) (bitsAt w 42 5) (bitsAt w 37 5))
  | 0x20 => if bitsAt w 36 3 ≥ 6 then none
      else some (.pcmp (bitsAt w 49 3) (bitsAt w 44 5) (bitsAt w 39 5) (bitsAt w 36 3) (bitsAt w 35 1 == 1))
  | 0x21 => if bitsAt w 40 3 = 7 then none
      else some (.plog (bitsAt w 49 3) (bitsAt w 46 3) (bitsAt w 43 3) (bitsAt w 40 3))
  | 0x22 => some (.plast (bitsAt w 49 3) (bitsAt w 48 1))
  | 0x28 => some (.pmod (bitsAt w 49 3) (signed 12 (bitsAt w 37 12)))
  | _ => none

/-- LDL and STL: the late memory slot of a format 1 bundle (R150). -/
def decodeLate (w : Nat) : Option MemSlot :=
  let pair := bitsAt w 43 1 == 1
  let m := signed 12 (bitsAt w 31 12)
  match bitsAt w 52 6 with
  | 0x29 => some (.load pair (bitsAt w 44 3) (bitsAt w 47 5) m)
  | 0x2A => some (.store pair (bitsAt w 44 3) (bitsAt w 47 5) m)
  | _ => none

/-- A control operation (R151). -/
def decodeControl (w : Nat) : Option ClvOp :=
  match bitsAt w 52 6 with
  | 0x01 => some .halt
  | 0x02 => if bitsAt w 40 3 ≥ 5 then none else some (.br (bitsAt w 43 9) (bitsAt w 40 3) (bitsAt w 37 3))
  | 0x03 => some (.loop (bitsAt w 51 1 == 1) (bitsAt w 50 1 == 1) (bitsAt w 47 3) (bitsAt w 38 9) (bitsAt w 0 16))
  | 0x04 => some (.loopr (bitsAt w 51 1 == 1) (bitsAt w 50 1 == 1) (bitsAt w 47 3) (bitsAt w 38 9) (bitsAt w 33 5))
  | 0x05 => some (.setp (bitsAt w 49 3) (bitsAt w 47 2) (bitsAt w 0 16))
  | 0x06 => some (.flag (BitVec.ofNat 4 (bitsAt w 48 4)) (BitVec.ofNat 4 (bitsAt w 44 4)))
  | _ => none

/-- A 64-bit bundle. -/
def decodeBundle (w : Nat) : Bundle :=
  let g := bitsAt w 61 1 == 1
  let st := bitsAt w 58 3
  match bitsAt w 62 2 with
  | 0 => { g := g, stage := st
           mac0 := decodeMac (bitsAt w 56 2) (bitsAt w 54 2) (bitsAt w 49 5) (bitsAt w 44 5)
           mac1 := decodeMac (bitsAt w 42 2) (bitsAt w 40 2) (bitsAt w 35 5) (bitsAt w 30 5)
           early := decodeMem (bitsAt w 15 15), late := decodeMem (bitsAt w 0 15) }
  | 1 => { g := g, early := decodeMem (bitsAt w 0 15), late := (decodeLate w).map (fun s => (st, s))
           op := (decodeOperate w).map (fun o => (st, o)) }
  | 2 => { g := g, op := (decodeControl w).map (fun o => (st, o)) }
  | _ => { g := g, op := some (st, .ldi (bitsAt w 53 5) (BitVec.ofNat 48 (bitsAt w 0 48))) }

/-! ### Encoding (R133 to R138, R148 to R151) -/

/-- The modify bit of a memory slot whose modifier it can express. -/
def modBit (pair : Bool) (m : Int) : Option Nat := if m = 0 then some 0 else if m = (if pair then 2 else 1) then some 1 else none

/-- A memory slot's 15 bits; none where its modifier does not fit. -/
def encodeMem (o : Option (Nat × MemSlot)) : Option Nat :=
  match o with
  | none => some 0
  | some (st, .load pair p reg m) =>
    (modBit pair m).map (fun k => 2 ^ 13 + b2n pair * 2 ^ 12 + p * 2 ^ 9 + reg * 2 ^ 4 + k * 2 ^ 3 + st)
  | some (st, .store pair p reg m) =>
    (modBit pair m).map (fun k => 2 * 2 ^ 13 + b2n pair * 2 ^ 12 + p * 2 ^ 9 + reg * 2 ^ 4 + k * 2 ^ 3 + st)
  | some (st, .sread s1 reg) => some (3 * 2 ^ 13 + s1 * 2 ^ 9 + reg * 2 ^ 4 + st)
  | some (st, .swrite s1 reg last) => some (3 * 2 ^ 13 + (4 + s1) * 2 ^ 9 + reg * 2 ^ 4 + b2n last * 2 ^ 3 + st)

def encodeMac (o : Option MacSlot) : Nat × Nat × Nat × Nat :=
  match o with
  | none => (0, 0, 0, 0)
  | some s => (s.op, s.ak, s.x, s.y)

/-- Format, opcode and operand bits of an operation slot. -/
def encodeOp (o : ClvOp) : Nat × Nat × Nat :=
  match o with
  | .cmac ak x y mode => (1, 0x01, ak * 2 ^ 50 + x * 2 ^ 45 + y * 2 ^ 40 + mode * 2 ^ 37)
  | .ext dst aj am sum n trunc =>
    (1, 0x02, dst * 2 ^ 47 + aj * 2 ^ 45 + am * 2 ^ 43 + b2n sum * 2 ^ 42 + n * 2 ^ 36 + b2n trunc * 2 ^ 35)
  | .ext1 dst ai n trunc im => (1, 0x03, dst * 2 ^ 47 + ai * 2 ^ 44 + n * 2 ^ 38 + b2n trunc * 2 ^ 37 + b2n im * 2 ^ 36)
  | .amov ak x n => (1, 0x04, ak * 2 ^ 50 + x * 2 ^ 45 + n * 2 ^ 39)
  | .aclr mask => (1, 0x05, mask * 2 ^ 48)
  | .aadd sub ak aj am => (1, 0x06 + b2n sub, ak * 2 ^ 50 + aj * 2 ^ 48 + am * 2 ^ 46)
  | .casw aj => (1, 0x08, aj * 2 ^ 50)
  | .casr ak add => (1, 0x09, ak * 2 ^ 50 + b2n add * 2 ^ 49)
  | .dstep ak x => (1, 0x0A, ak * 2 ^ 50 + x * 2 ^ 45)
  | .dfin ak x => (1, 0x0B, ak * 2 ^ 50 + x * 2 ^ 45)
  | .cadd dst x y => (1, 0x10, dst * 2 ^ 47 + x * 2 ^ 42 + y * 2 ^ 37)
  | .csub dst x y => (1, 0x11, dst * 2 ^ 47 + x * 2 ^ 42 + y * 2 ^ 37)
  | .cconj dst x => (1, 0x12, dst * 2 ^ 47 + x * 2 ^ 42)
  | .cneg dst x => (1, 0x13, dst * 2 ^ 47 + x * 2 ^ 42)
  | .cmulj dst x => (1, 0x14, dst * 2 ^ 47 + x * 2 ^ 42)
  | .cmov dst x => (1, 0x15, dst * 2 ^ 47 + x * 2 ^ 42)
  | .cshr dst x n trunc => (1, 0x16, dst * 2 ^ 47 + x * 2 ^ 42 + n * 2 ^ 37 + b2n trunc * 2 ^ 36)
  | .cshl dst x n => (1, 0x17, dst * 2 ^ 47 + x * 2 ^ 42 + n * 2 ^ 37)
  | .pcmp q x y cond im => (1, 0x20, q * 2 ^ 49 + x * 2 ^ 44 + y * 2 ^ 39 + cond * 2 ^ 36 + b2n im * 2 ^ 35)
  | .plog q a b op => (1, 0x21, q * 2 ^ 49 + a * 2 ^ 46 + b * 2 ^ 43 + op * 2 ^ 40)
  | .plast q s1 => (1, 0x22, q * 2 ^ 49 + s1 * 2 ^ 48)
  | .pmod p m => (1, 0x28, p * 2 ^ 49 + unsign 12 m * 2 ^ 37)
  | .ldi dst imm => (3, dst * 2, imm.toNat)
  | .halt => (2, 0x01, 0)
  | .br target cond q => (2, 0x02, target * 2 ^ 43 + cond * 2 ^ 40 + q * 2 ^ 37)
  | .loop k1 rotate s1 last n => (2, 0x03, b2n k1 * 2 ^ 51 + b2n rotate * 2 ^ 50 + s1 * 2 ^ 47 + last * 2 ^ 38 + n)
  | .loopr k1 rotate s1 last x => (2, 0x04, b2n k1 * 2 ^ 51 + b2n rotate * 2 ^ 50 + s1 * 2 ^ 47 + last * 2 ^ 38 + x * 2 ^ 33)
  | .setp p which imm => (2, 0x05, p * 2 ^ 49 + which * 2 ^ 47 + imm)
  | .flag value mask => (2, 0x06, value.toNat * 2 ^ 48 + mask.toNat * 2 ^ 44)

/-- LDL or STL as a format 1 bundle's operation field. -/
def encodeLate (m : MemSlot) : Nat :=
  match m with
  | .load pair p reg m => 0x29 * 2 ^ 52 + reg * 2 ^ 47 + p * 2 ^ 44 + b2n pair * 2 ^ 43 + unsign 12 m * 2 ^ 31
  | .store pair p reg m => 0x2A * 2 ^ 52 + reg * 2 ^ 47 + p * 2 ^ 44 + b2n pair * 2 ^ 43 + unsign 12 m * 2 ^ 31
  | _ => 0

/-- The 64 bits of a bundle that some format can express (Bundle.wf). -/
def encodeBundle (b : Bundle) : Nat :=
  let g := b2n b.g * 2 ^ 61
  let early := (encodeMem b.early).getD 0
  match b.op with
  | some (st, o) =>
    let w := encodeOp o
    w.1 * 2 ^ 62 + g + st * 2 ^ 58 + w.2.1 * 2 ^ 52 + w.2.2 + (if w.1 = 1 then early else 0)
  | none =>
    match encodeMem b.late, b.late with
    | none, some (st, m) => 2 ^ 62 + g + st * 2 ^ 58 + encodeLate m + early
    | late, _ =>
      let m0 := encodeMac b.mac0
      let m1 := encodeMac b.mac1
      g + b.stage * 2 ^ 58 + m0.1 * 2 ^ 56 + m0.2.1 * 2 ^ 54 + m0.2.2.1 * 2 ^ 49 + m0.2.2.2 * 2 ^ 44
        + m1.1 * 2 ^ 42 + m1.2.1 * 2 ^ 40 + m1.2.2.1 * 2 ^ 35 + m1.2.2.2 * 2 ^ 30 + early * 2 ^ 15 + late.getD 0

def macWf (o : Option MacSlot) : Bool :=
  match o with
  | none => true
  | some s => decide (1 ≤ s.op ∧ s.op ≤ 3 ∧ s.ak < 4 ∧ s.x < 32 ∧ s.y < 32)

/-- A slot in range; `wide` admits a modifier of 12 signed bits (LDL, STL). -/
def memWf (wide : Bool) (o : Option (Nat × MemSlot)) : Bool :=
  match o with
  | none => true
  | some (st, s) => decide (st < 8) && (match s with
    | .load pair p reg m | .store pair p reg m =>
      decide (p < 8 ∧ reg < 32) && ((modBit pair m).isSome || (wide && decide (-2048 ≤ m ∧ m < 2048)))
    | .sread s1 reg | .swrite s1 reg _ => decide (s1 < 2 ∧ reg < 32))

/-- Operands in the ranges the encoding admits, reserved values left out (R140, R148 to R151). -/
def opWf (o : ClvOp) : Bool :=
  match o with
  | .cmac ak x y mode => decide (ak < 4 ∧ x < 32 ∧ y < 32 ∧ mode < 7)
  | .ext dst aj am _ n _ => decide (dst < 32 ∧ aj < 4 ∧ am < 4 ∧ n < 48)
  | .ext1 dst ai n _ _ => decide (dst < 32 ∧ ai < 8 ∧ n < 48)
  | .amov ak x n => decide (ak < 4 ∧ x < 32 ∧ n ≤ 32)
  | .aclr mask => decide (mask < 16)
  | .aadd _ ak aj am => decide (ak < 4 ∧ aj < 4 ∧ am < 4)
  | .casw aj => decide (aj < 4)
  | .casr ak _ => decide (ak < 4)
  | .dstep ak x | .dfin ak x => decide (ak < 4 ∧ x < 32)
  | .cadd dst x y | .csub dst x y => decide (dst < 32 ∧ x < 32 ∧ y < 32)
  | .cconj dst x | .cneg dst x | .cmulj dst x | .cmov dst x => decide (dst < 32 ∧ x < 32)
  | .cshr dst x n _ | .cshl dst x n => decide (dst < 32 ∧ x < 32 ∧ n < 24)
  | .pcmp q x y cond _ => decide (q < 8 ∧ x < 32 ∧ y < 32 ∧ cond < 6)
  | .plog q a b op => decide (q < 8 ∧ a < 8 ∧ b < 8 ∧ op < 7)
  | .plast q s1 => decide (q < 8 ∧ s1 < 2)
  | .pmod p m => decide (p < 8 ∧ -2048 ≤ m ∧ m < 2048)
  | .ldi dst _ => decide (dst < 32)
  | .halt => true
  | .br target cond q => decide (target < 512 ∧ cond < 5 ∧ q < 8)
  | .loop _ _ s1 last n => decide (s1 < 8 ∧ last < 512 ∧ n < 65536)
  | .loopr _ _ s1 last x => decide (s1 < 8 ∧ last < 512 ∧ x < 32)
  | .setp p which imm => decide (p < 8 ∧ which < 4 ∧ imm < 65536)
  | .flag _ _ => true

/-- A bundle that one of the four formats expresses. -/
def Bundle.wf (b : Bundle) : Bool :=
  match b.op with
  | some (st, o) =>
    b.stage == 0 && b.mac0.isNone && b.mac1.isNone && b.late.isNone && decide (st < 8) && opWf o
      && (if (encodeOp o).1 = 1 then memWf false b.early else b.early.isNone)
  | none =>
    memWf false b.early && memWf true b.late && decide (b.stage < 8) && macWf b.mac0 && macWf b.mac1
      && ((encodeMem b.late).isSome || (b.stage == 0 && b.mac0.isNone && b.mac1.isNone))

end Sys2Proof.Machine
end

