-- ==== Sys2Proof/Machine/CloverIssue.lean ====
section
/-!
DEFINITION. Machine/CloverIssue.lean: how a Clover engine issues one bundle (05_clover_instruction_set R139 to R155;
04_clover_engines R96 to R102, R106 to R108, R112, R114, R115).
-/
namespace Sys2Proof.Machine

/-- What one issue does beside the engine: a value for the cascade register above, a parity error, and the stall that
held the bundle. -/
structure Issue where
  eng    : Engine
  push   : Option (BitVec 56 × BitVec 56) := none
  halt   : Bool := false
  stop   : Option Nat := none
  taken  : Option Nat := none
  enter  : Option (Bool × LoopState) := none
deriving DecidableEq, Repr

/-- A slot of stage `st` runs (R133). -/
def runs (e : Engine) (b : Bundle) (st : Nat) : Bool := !b.g || e.qreg st

/-- The bundle with only the slots that run (R139); of two MAC slots on one accumulator the second is a no-op (R145). -/
def guarded (e : Engine) (b : Bundle) : Bundle :=
  let mac := runs e b b.stage
  let m0 := if mac then b.mac0 else none
  let m1 := if mac then b.mac1 else none
  let m1 := match m0, m1 with
    | some x, some y => if x.ak = y.ak then none else m1
    | _, _ => m1
  let keep {α : Type} (o : Option (Nat × α)) : Option (Nat × α) :=
    match o with
    | some (st, x) => if runs e b st then some (st, x) else none
    | none => none
  { b with mac0 := m0, mac1 := m1, early := keep b.early, late := keep b.late, op := keep b.op }

/-! ### Stalls (R146) -/

def readsOf (s1 : Nat) (o : Option (Nat × MemSlot)) : Nat :=
  match o with
  | some (_, .sread s _) => if s = s1 then 1 else 0
  | _ => 0

def writesOf (s1 : Nat) (o : Option (Nat × MemSlot)) : Nat :=
  match o with
  | some (_, .swrite s _ _) => if s = s1 then 1 else 0
  | _ => 0

/-- The bundle waits for entries, for room, or for the cascade. `site` is the logical site, `full` the valid bit of the
cascade register above. -/
def stalled (site : Nat) (full : Bool) (e : Engine) (b : Bundle) : Bool :=
  let rd (s1 : Nat) : Bool :=
    !e.streamOff s1 && decide ((e.stream s1).seen < readsOf s1 b.early + readsOf s1 b.late)
  let wr (s1 : Nat) : Bool :=
    let n := writesOf s1 b.early + writesOf s1 b.late
    !e.streamOff (2 + s1) && n != 0 && decide ((e.stream (2 + s1)).level + n > 32)
  rd 0 || rd 1 || wr 0 || wr 1 ||
    (match b.op with
    | some (_, .cmac _ _ _ 6) => site != 0 && e.cascade.isNone
    | some (_, .casr _ _) => site != 0 && e.cascade.isNone
    | some (_, .casw _) => site != 23 && full
    | _ => false)

/-! ### Results -/

/-- An L = 1 result of a complex register: both parts saturate (R95). -/
def setC (e src : Engine) (dst : Nat) (re im : Int) : Engine :=
  let r := sat24 re
  let i := sat24 im
  { e with c := cLand e.c ⟨physC src.rot dst, true, true, mkC r.1 i.1⟩ }.flagIf fSat (r.2 || i.2)

/-- An L = 2 result. -/
def landC (e src : Engine) (dst : Nat) (v : BitVec 48) : Engine :=
  { e with land := e.land ++ [⟨physC src.rot dst, true, true, v⟩] }

/-- A complex product, its second factor conjugated where `conj` (R96, R136). -/
def cprod (x y : BitVec 48) (conj : Bool) : Int × Int :=
  let yi := if conj then - imOf y else imOf y
  (reOf x * reOf y - imOf x * yi, reOf x * yi + imOf x * reOf y)

def setPair (e : Engine) (ak : Nat) (re im : Int) : Engine := (e.setAcc false (2 * ak) re).setAcc false (2 * ak + 1) im

/-- A MAC slot (R136). -/
def macSlot (src : Engine) (o : Option MacSlot) (e : Engine) : Engine :=
  match o with
  | none => e
  | some s =>
    let p := cprod (src.creg s.x) (src.creg s.y) (s.op == 3)
    if s.op = 1 then setPair e s.ak p.1 p.2
    else setPair e s.ak (src.accIn (2 * s.ak) + p.1) (src.accIn (2 * s.ak + 1) + p.2)

/-- Address flags of an access (R100). -/
def accessFlags (e : Engine) (pair : Bool) (a : Nat) : Engine :=
  (e.flagIf fAddr (decide (a ≥ 3072))).flagIf fAlign (pair && a % 2 == 1)

/-- A memory or stream slot (R141, R142, R112): the pointer as the earlier slot left it. A read of a disabled stream has no entry and leaves the
last flag (log entry 85). -/
def memSlot (src : Engine) (o : Option (Nat × MemSlot)) (e : Engine) : Engine :=
  match o with
  | none => e
  | some (_, .load pair p reg m) =>
    let a := e.preg p
    let e := accessFlags e pair a
    let e := if pair then
        let w := a / 2 * 2
        let e := e.flagIf fParity (e.sampleBad w || e.sampleBad (w + 1))
        landC (landC e src (reg / 2 * 2) (e.sample w)) src (reg / 2 * 2 + 1) (e.sample (w + 1))
      else landC (e.flagIf fParity (e.sampleBad a)) src reg (e.sample a)
    e.modify e p m
  | some (_, .store pair p reg m) =>
    let a := e.preg p
    let e := accessFlags e pair a
    let e := if pair then
        let w := a / 2 * 2
        (e.setSample w (src.creg (reg / 2 * 2))).setSample (w + 1) (src.creg (reg / 2 * 2 + 1))
      else e.setSample a (src.creg reg)
    e.modify e p m
  | some (_, .sread s reg) =>
    if e.streamOff s then landC (e.flagIf fStream true) src reg 0
    else
      let g := e.stream s
      let w := g.entries.headD 0
      let last := w.getLsbD 48
      let li := if last then e.lastIn ||| (1#2).shiftLeft s else e.lastIn &&& ~~~((1#2).shiftLeft s)
      landC { e.setStream s g.pop with lastIn := li } src reg (w.setWidth 48)
  | some (_, .swrite s reg last) =>
    if e.streamOff (2 + s) then e.flagIf fStream true
    else
      let w : BitVec 72 := (BitVec.ofBool last ++ src.creg reg).setWidth 72
      e.setStream (2 + s) ((e.stream (2 + s)).push w)

/-- The value a cascade read uses (R114, R115). -/
def cascadeIn (site : Nat) (e : Engine) : Int × Int :=
  if site = 0 then (0, 0)
  else match e.cascade with
    | some v => (v.1.toInt, v.2.toInt)
    | none => (0, 0)

/-- DSTEP and DFIN (R155): remainder and quotient. -/
def divStep (r q dd : Int) : Int × Int := (if r ≥ 0 then 2 * r - dd else 2 * r + dd, if (if r ≥ 0 then 2 * r - dd else 2 * r + dd) ≥ 0 then 2 * q + 1 else 2 * q)
def divFin (r dd : Int) : Int := (if r < 0 then r + dd else r) / 2 ^ 24

def divOp (src : Engine) (fin : Bool) (ak x : Nat) (e : Engine) : Engine :=
  let dd : Int := (reOf (src.creg x)).natAbs * 2 ^ 24
  let r := src.accIn (2 * ak)
  let q := src.accIn (2 * ak + 1)
  if dd = 0 then e.flagIf fDivZero true
  else if fin then e.setAcc true (2 * ak) (divFin r dd)
  else
    let v := divStep r q dd
    (e.setAcc true (2 * ak) v.1).setAcc true (2 * ak + 1) v.2

/-- The accumulator arithmetic of CMAC (R148). -/
def cmacOp (site : Nat) (src : Engine) (ak x y mode : Nat) (e : Engine) : Engine :=
  let p := cprod (src.creg x) (src.creg y) (mode == 3 || mode == 4 || mode == 5)
  let ar := src.accIn (2 * ak)
  let ai := src.accIn (2 * ak + 1)
  match mode with
  | 0 => setPair e ak p.1 p.2
  | 1 => setPair e ak (ar + p.1) (ai + p.2)
  | 2 => setPair e ak (ar - p.1) (ai - p.2)
  | 3 => setPair e ak (ar + p.1) (ai + p.2)
  | 4 => setPair e ak (ar - p.1) (ai - p.2)
  | 5 => setPair e ak p.1 p.2
  | 6 =>
    let v := cascadeIn site src
    { setPair e ak (v.1 + p.1) (v.2 + p.2) with cascade := none }
  | _ => e

/-- An AADD or ASUB source: as accumulate input where it is also the destination (R144). -/
def accSrc (src : Engine) (ak j i : Nat) : Int := if j = ak then src.accIn (2 * j + i) else src.accOut (2 * j + i)

/-- SETP's length register: bits 14 to 12 stored as 0, a length above 3,072 stored as 3,072 (R151). -/
def lenNorm (x : Nat) : Nat := x / 32768 % 2 * 32768 + (if x % 4096 > 3072 then 3072 else x % 4096)

/-- A loop's state when it starts (R152). -/
def loopNew (pc : Nat) (k1 rotate : Bool) (s1 last n : Nat) : LoopState :=
  { active := true, rotate := rotate && !k1, s1 := s1, start := pc, last := last, count := n - 1 }

/-- LOOP and LOOPR at issue (R152): with trip count 0 the body is skipped as by a taken branch, and the counter reads 0 in every field (log
entry 85). -/
def loopOp (src : Engine) (k1 rotate : Bool) (s1 last n : Nat) (x : Issue) : Issue :=
  if last ≤ src.pc then x
  else if n = 0 then { x with taken := some (last + 1), enter := some (k1, {}) }
  else
    let e := if rotate && !k1 then { x.eng with q := (1#8).shiftLeft (physQ src.rot 0) } else x.eng
    { x with eng := e, enter := some (k1, loopNew src.pc k1 rotate s1 last n) }

/-- The operation slot. -/
def opSlot (site : Nat) (src : Engine) (o : ClvOp) (x : Issue) : Issue :=
  let e := x.eng
  match o with
  | .cmac ak a b mode => { x with eng := cmacOp site src ak a b mode e }
  | .ext dst aj am sum n trunc =>
    let v (i : Nat) : Int := src.accOut (2 * aj + i) + (if sum then src.accOut (2 * am + i) else 0)
    let r := extract (v 0) n trunc
    let i := extract (v 1) n trunc
    { x with eng := (landC e src dst (mkC r.1 i.1)).flagIf fSat (r.2 || i.2) }
  | .ext1 dst ai n trunc im =>
    let r := extract (src.accOut ai) n trunc
    let w : CWrite := ⟨physC src.rot dst, !im, im, mkC r.1 r.1⟩
    { x with eng := { e with land := e.land ++ [w] }.flagIf fSat r.2 }
  | .amov ak a n => { x with eng := setPair e ak (reOf (src.creg a) * (2 ^ n : Nat)) (imOf (src.creg a) * (2 ^ n : Nat)) }
  | .aclr mask => { x with eng := (upto 4).foldl (fun e k => if bitsAt mask k 1 = 1 then setPair e k 0 0 else e) e }
  | .aadd sub ak aj am =>
    let v (i : Nat) : Int :=
      if sub then accSrc src ak aj i - accSrc src ak am i else accSrc src ak aj i + accSrc src ak am i
    { x with eng := setPair e ak (v 0) (v 1) }
  | .casw aj => { x with push := if site = 23 then none else some (tabGet zero56 src.aOld (2 * aj), tabGet zero56 src.aOld (2 * aj + 1)) }
  | .casr ak add =>
    let v := cascadeIn site src
    let r := if add then src.accIn (2 * ak) else 0
    let i := if add then src.accIn (2 * ak + 1) else 0
    { x with eng := { setPair e ak (v.1 + r) (v.2 + i) with cascade := none } }
  | .dstep ak a => { x with eng := divOp src false ak a e }
  | .dfin ak a => { x with eng := divOp src true ak a e }
  | .cadd dst a b => { x with eng := setC e src dst (reOf (src.creg a) + reOf (src.creg b)) (imOf (src.creg a) + imOf (src.creg b)) }
  | .csub dst a b => { x with eng := setC e src dst (reOf (src.creg a) - reOf (src.creg b)) (imOf (src.creg a) - imOf (src.creg b)) }
  | .cconj dst a => { x with eng := setC e src dst (reOf (src.creg a)) (- imOf (src.creg a)) }
  | .cneg dst a => { x with eng := setC e src dst (- reOf (src.creg a)) (- imOf (src.creg a)) }
  | .cmulj dst a => { x with eng := setC e src dst (- imOf (src.creg a)) (reOf (src.creg a)) }
  | .cmov dst a => { x with eng := setC e src dst (reOf (src.creg a)) (imOf (src.creg a)) }
  | .cshr dst a n trunc => { x with eng := setC e src dst (roundShift (reOf (src.creg a)) n trunc) (roundShift (imOf (src.creg a)) n trunc) }
  | .cshl dst a n => { x with eng := setC e src dst (reOf (src.creg a) * (2 ^ n : Nat)) (imOf (src.creg a) * (2 ^ n : Nat)) }
  | .pcmp q a b cond im =>
    let p (v : BitVec 48) : Int := if im then imOf v else reOf v
    (match pcmpCond cond (p (src.creg a)) (p (src.creg b)) with
    | some r => { x with eng := e.setQ (physQ src.rot q) r }
    | none => x)
  | .plog q a b op =>
    (match plogOp op (src.qreg a) (src.qreg b) with
    | some r => { x with eng := e.setQ (physQ src.rot q) r }
    | none => x)
  | .plast q s1 => { x with eng := e.setQ (physQ src.rot q) (src.lastIn.getLsbD s1) }
  | .pmod p m => { x with eng := e.modify src p m }
  | .ldi dst imm => { x with eng := { e with c := cLand e.c ⟨physC src.rot dst, true, true, imm⟩ } }
  | .halt => { x with halt := true }
  | .br target cond q =>
    let go : Bool := match cond with
      | 0 => true
      | 1 => src.qreg q
      | 2 => !src.qreg q
      | 3 => src.lastIn.getLsbD 0
      | 4 => src.lastIn.getLsbD 1
      | _ => false
    { x with taken := if go then some target else none }
  | .loop k1 rotate s1 last n => loopOp src k1 rotate s1 last n x
  | .loopr k1 rotate s1 last a => loopOp src k1 rotate s1 last ((src.creg a).toNat % 65536) x
  | .setp p which imm =>
    let v := imm % 4096
    let setB (e : Engine) : Engine := { e with b := tabSet zero12 e.b p (BitVec.ofNat 12 v) }
    let setL (n : Nat) (e : Engine) : Engine := { e with l := tabSet zero16 e.l p (BitVec.ofNat 16 n) }
    { x with eng := match which with
      | 0 => e.setP p v
      | 1 => setB e
      | 2 => setL (lenNorm imm) e
      | _ => setL 0 (setB (e.setP p v)) }
  | .flag value mask => { x with eng := { e with pflag := (e.pflag &&& ~~~mask) ||| (value &&& mask) } }

/-! ### The program counter and the loops (R107, R108, R147, R152, R153) -/

/-- An active loop ends where a taken branch leaves its body (R153). -/
def leave (t : Nat) (k : LoopState) : LoopState :=
  if k.active && !(decide (k.start < t ∧ t ≤ k.last)) then { k with active := false } else k

/-- One iteration end; true where the loop loops back (R152 steps 3 and 4). -/
def iterEnd (k : LoopState) (e : Engine) : Bool × LoopState × Engine :=
  let k' := if k.count > 0 then { k with count := k.count - 1 } else k
  if k.rotate then
    let e := { e with rot := (e.rot + 15) % 16 }
    let e := e.setQ (physQ e.rot 0) (decide (k.count > 0))
    ((upto (k.s1 + 1)).any (fun j => e.qreg j), k', e)
  else (decide (k.count > 0), k', e)

/-- The next bundle when no branch is taken: k0 first, k1 only if the k0 loop exits or does not end here (R153). -/
def nextPc (pc : Nat) (e : Engine) : Engine :=
  let step1 (e : Engine) : Engine :=
    if e.k1.active && e.k1.last == pc then
      let r := iterEnd e.k1 e
      if r.1 then { r.2.2 with k1 := r.2.1, pc := (e.k1.start + 1) % 512 }
      else { r.2.2 with k1 := { r.2.1 with active := false }, pc := (pc + 1) % 512 }
    else { e with pc := (pc + 1) % 512 }
  if e.k0.active && e.k0.last == pc then
    let r := iterEnd e.k0 e
    if r.1 then { r.2.2 with k0 := r.2.1, pc := (e.k0.start + 1) % 512 }
    else step1 { r.2.2 with k0 := { r.2.1 with active := false } }
  else step1 e

/-- Control flow after the slots. A predicate that the bundle itself writes stands before its iteration end sets q0 and tests the exit (log
entry 85). -/
def control (pc : Nat) (x : Issue) : Engine :=
  let e := x.eng
  let e := match x.enter with
    | some (false, k) => { e with k0 := k }
    | some (true, k) => { e with k1 := k }
    | none => e
  match x.taken with
  | some t => { e with k0 := leave (t % 512) e.k0, k1 := leave (t % 512) e.k1, pc := t % 512, bubble := 2 }
  | none => nextPc pc e

/-! ### One issue -/

/-- The slots of a bundle, in the order of R145, on the engine whose landed results and flags have been set aside. -/
def slots (site : Nat) (src : Engine) (b : Bundle) : Issue :=
  let e := { src with c := src.land.foldl cLand src.c, land := [], aOld := src.a, flags := 0 }
  let e := memSlot src b.late (memSlot src b.early (macSlot src b.mac1 (macSlot src b.mac0 e)))
  match b.op with
  | some (_, o) => opSlot site src o { eng := e }
  | none => { eng := e }

/-- The lowest stop cause among the errors of a bundle (R120, R127): 4 address, 5 alignment, 6 stream. -/
def errCause (f : BitVec 10) : Nat := if f.getLsbD fAddr then 4 else if f.getLsbD fAlign then 5 else if f.getLsbD fStream then 6 else 0

/-- An engine in Error after what was in flight has landed. -/
def toError (cause : Nat) (e : Engine) : Engine := { landAll e with state := .error, cause := cause }

def countCycle (stall : Bool) (e : Engine) : Engine :=
  { e with cycles := sat 4294967295 (e.cycles + 1), stalls := sat 4294967295 (e.stalls + b2n stall) }

/-- One engine cycle with bundle `b` at the program counter; a bundle that halts, or that stops on an error, retires first (04_ R120), an
iteration end included; `site` and `full` as in `stalled`. The second result is a
push into the cascade register above, the third whether a parity error is to be reported. -/
def issueCycle (site : Nat) (full : Bool) (b : Bundle) (e : Engine) : Engine × Option (BitVec 56 × BitVec 56) × Bool :=
  if e.bubble > 0 then (countCycle true { e with bubble := e.bubble - 1 }, none, false)
  else
    let b := guarded e b
    if stalled site full e b then (countCycle true e, none, false)
    else
      let x := slots site e b
      let x := { x with eng := countCycle false x.eng }
      let f := x.eng.flags
      let all := e.flags ||| f
      if f.getLsbD fParity then
        (toError 3 (countCycle false { e with flags := e.flags ||| (1#10).shiftLeft fParity }), none, true)
      else
        let y := { x with eng := { x.eng with flags := all } }
        let z := control e.pc y
        if x.halt then
          let h := landAll z
          let n := wrap 32 (h.runs + 1)
          let h := { h with
            k0 := { h.k0 with active := false }, k1 := { h.k1 with active := false }
            state := .idle, cause := 1, runs := n, done := true
            notify := if h.ctrl.getLsbD 5 then h.notify ++ [(n, h.cycles)] else h.notify }
          (h, x.push, false)
        else if e.ctrl.getLsbD 6 && errCause f != 0 then (toError (errCause f) { z with pc := e.pc }, x.push, false)
        else (z, x.push, false)

end Sys2Proof.Machine
end

