-- ==== Sys2Proof/Machine/Clover.lean ====
section
/-!
DEFINITION. Machine/Clover.lean: the Clover engines' commands: single operations, run control, network access, clocks
(04_clover_engines, 05_clover_instruction_set).
-/
namespace Sys2Proof.Machine

/-! ### Clocks of an engine (R116, R125) -/

def clvClkA (f : Nat) : Nat := fldA f 0x300
def stretchA (f k : Nat) : Nat := fldA f (0x304 + 4 * k)

/-- Column k of field f has edges: the field runs, the column is enabled and not gated off for overspeed, and the PLL output it names
gives edges (R116). -/
def columnRuns (d : Device) (f k : Nat) : Bool :=
  let a := clvClkA f
  d.fieldRuns f && d.bit a (8 * k + 7) && !d.bit a (18 + k)
    && d.pllGives (8 * hn (halfOfField f) + d.fld a (8 * k) 3) (d.fld a (8 * k + 3) 2)

def engineRuns (d : Device) (e : Nat) : Bool := columnRuns d (e / 48) (e / 24 % 2)

/-- The engine's registers and memories can be reached: its domain is On. -/
def engineOn (d : Device) (e : Nat) : Bool := d.domOn (e / 48)

/-! ### Issue (05_ R143 to R147) -/

/-- One engine cycle of engine e with bundle b, as the cascade above stood at the start of the cycle. -/
def engineStep (e : Nat) (b : Bundle) (d : Device) : Device :=
  let site := e % 24
  let up := d.engine (e + 1)
  let r := issueCycle site (site != 23 && up.cascade.isSome) b (d.engine e)
  let d := d.setEngine e r.1
  let d := match r.2.1 with
    | some v => d.setEngine (e + 1) { d.engine (e + 1) with cascade := some v }
    | none => d
  if r.2.2 then d.fault (halfOfField (e / 48)) 0x18 e (d.engine e).pc else d

/-- A bundle that stands at the program counter of a Running engine whose clock has an edge. -/
def issueOp (e : Nat) (b : Bundle) (d : Device) : Device :=
  if (d.engine e).state == .running && engineRuns d e then (engineStep e b d).settle else d

/-- One engine-clock edge: fetch, with its parity check, and issue (04_ R102; 05_ R144). -/
def fetchIssue (e : Nat) (d : Device) : Device :=
  let x := d.engine e
  if !(x.state == .running && engineRuns d e) then d
  else if x.bubble == 0 && x.progBad.contains x.pc then
    let y := toError 3 (countCycle false { x with flags := x.flags ||| (1#10).shiftLeft fParity })
    (d.setEngine e y).fault (halfOfField (e / 48)) 0x18 e x.pc
  else engineStep e (decodeBundle (tabGet zero64 x.prog x.pc).toNat) d

/-- A command's operation slot as a whole bundle. -/
def opBundle (gd : Guard) (o : ClvOp) : Bundle := { g := gd.g, op := some (gd.stage.val, o) }
/-- A reserved operand value makes the slot a no-op (R140). -/
def opOr (gd : Guard) (o : Option ClvOp) : Bundle := { g := gd.g, op := o.map (fun x => (gd.stage.val, x)) }
def macBundle (gd : Guard) (slot1 : Bool) (s : MacSlot) : Bundle :=
  if slot1 then { g := gd.g, stage := gd.stage.val, mac1 := some s } else { g := gd.g, stage := gd.stage.val, mac0 := some s }
def earlyBundle (gd : Guard) (s : MemSlot) : Bundle := { g := gd.g, early := some (gd.stage.val, s) }
def lateBundle (gd : Guard) (s : MemSlot) : Bundle := { g := gd.g, late := some (gd.stage.val, s) }

/-- m of a memory slot's mod bit (R135). -/
def slotMod (pair inc : Bool) : Int := if inc then (if pair then 2 else 1) else 0

def execMul (e : Fin 1536) (gd : Guard) (slot1 : Bool) (ak : Fin 4) (x y : Fin 32) (s : State) : Host.Outcome State Fault Refusal :=
  s.lift (issueOp e.val (macBundle gd slot1 ⟨1, ak.val, x.val, y.val⟩))

def execMac (e : Fin 1536) (gd : Guard) (slot1 : Bool) (ak : Fin 4) (x y : Fin 32) (s : State) : Host.Outcome State Fault Refusal :=
  s.lift (issueOp e.val (macBundle gd slot1 ⟨2, ak.val, x.val, y.val⟩))

def execMacc (e : Fin 1536) (gd : Guard) (slot1 : Bool) (ak : Fin 4) (x y : Fin 32) (s : State) : Host.Outcome State Fault Refusal :=
  s.lift (issueOp e.val (macBundle gd slot1 ⟨3, ak.val, x.val, y.val⟩))

def execMemoryLoad (e : Fin 1536) (gd : Guard) (pair : Bool) (p : Fin 8) (reg : Fin 32) (inc : Bool) (s : State) :
    Host.Outcome State Fault Refusal :=
  s.lift (issueOp e.val (earlyBundle gd (.load pair p.val reg.val (slotMod pair inc))))

def execMemoryStore (e : Fin 1536) (gd : Guard) (pair : Bool) (p : Fin 8) (reg : Fin 32) (inc : Bool) (s : State) :
    Host.Outcome State Fault Refusal :=
  s.lift (issueOp e.val (earlyBundle gd (.store pair p.val reg.val (slotMod pair inc))))

def execStreamRead (e : Fin 1536) (gd : Guard) (s1 : Bool) (reg : Fin 32) (s : State) : Host.Outcome State Fault Refusal :=
  s.lift (issueOp e.val (earlyBundle gd (.sread (b2n s1) reg.val)))

def execStreamWrite (e : Fin 1536) (gd : Guard) (s1 : Bool) (reg : Fin 32) (last : Bool) (s : State) :
    Host.Outcome State Fault Refusal :=
  s.lift (issueOp e.val (earlyBundle gd (.swrite (b2n s1) reg.val last)))

def execNop (e : Fin 1536) (s : State) : Host.Outcome State Fault Refusal := s.lift (issueOp e.val { g := false })

def execCmac (e : Fin 1536) (gd : Guard) (ak : Fin 4) (x y : Fin 32) (mode : Fin 8) (s : State) : Host.Outcome State Fault Refusal :=
  s.lift (issueOp e.val (opOr gd (if mode.val = 7 then none else some (.cmac ak.val x.val y.val mode.val))))

def execExt (e : Fin 1536) (gd : Guard) (dst : Fin 32) (aj am : Fin 4) (sum : Bool) (n : Fin 64) (trunc : Bool) (s : State) :
    Host.Outcome State Fault Refusal :=
  s.lift (issueOp e.val (opOr gd (if n.val ≥ 48 then none else some (.ext dst.val aj.val am.val sum n.val trunc))))

def execExt1 (e : Fin 1536) (gd : Guard) (dst : Fin 32) (ai : Fin 8) (n : Fin 64) (trunc im : Bool) (s : State) :
    Host.Outcome State Fault Refusal :=
  s.lift (issueOp e.val (opOr gd (if n.val ≥ 48 then none else some (.ext1 dst.val ai.val n.val trunc im))))

def execAmov (e : Fin 1536) (gd : Guard) (ak : Fin 4) (x : Fin 32) (n : Fin 64) (s : State) : Host.Outcome State Fault Refusal :=
  s.lift (issueOp e.val (opOr gd (if n.val > 32 then none else some (.amov ak.val x.val n.val))))

def execAclr (e : Fin 1536) (gd : Guard) (mask : BitVec 4) (s : State) : Host.Outcome State Fault Refusal :=
  s.lift (issueOp e.val (opBundle gd (.aclr mask.toNat)))

def execAadd (e : Fin 1536) (gd : Guard) (ak aj am : Fin 4) (s : State) : Host.Outcome State Fault Refusal :=
  s.lift (issueOp e.val (opBundle gd (.aadd false ak.val aj.val am.val)))

def execAsub (e : Fin 1536) (gd : Guard) (ak aj am : Fin 4) (s : State) : Host.Outcome State Fault Refusal :=
  s.lift (issueOp e.val (opBundle gd (.aadd true ak.val aj.val am.val)))

def execCasw (e : Fin 1536) (gd : Guard) (aj : Fin 4) (s : State) : Host.Outcome State Fault Refusal :=
  s.lift (issueOp e.val (opBundle gd (.casw aj.val)))

def execCasr (e : Fin 1536) (gd : Guard) (ak : Fin 4) (add : Bool) (s : State) : Host.Outcome State Fault Refusal :=
  s.lift (issueOp e.val (opBundle gd (.casr ak.val add)))

def execDstep (e : Fin 1536) (gd : Guard) (ak : Fin 4) (x : Fin 32) (s : State) : Host.Outcome State Fault Refusal :=
  s.lift (issueOp e.val (opBundle gd (.dstep ak.val x.val)))

def execDfin (e : Fin 1536) (gd : Guard) (ak : Fin 4) (x : Fin 32) (s : State) : Host.Outcome State Fault Refusal :=
  s.lift (issueOp e.val (opBundle gd (.dfin ak.val x.val)))

def execCadd (e : Fin 1536) (gd : Guard) (dst x y : Fin 32) (s : State) : Host.Outcome State Fault Refusal :=
  s.lift (issueOp e.val (opBundle gd (.cadd dst.val x.val y.val)))

def execCsub (e : Fin 1536) (gd : Guard) (dst x y : Fin 32) (s : State) : Host.Outcome State Fault Refusal :=
  s.lift (issueOp e.val (opBundle gd (.csub dst.val x.val y.val)))

def execCconj (e : Fin 1536) (gd : Guard) (dst x : Fin 32) (s : State) : Host.Outcome State Fault Refusal :=
  s.lift (issueOp e.val (opBundle gd (.cconj dst.val x.val)))

def execCneg (e : Fin 1536) (gd : Guard) (dst x : Fin 32) (s : State) : Host.Outcome State Fault Refusal :=
  s.lift (issueOp e.val (opBundle gd (.cneg dst.val x.val)))

def execCmulj (e : Fin 1536) (gd : Guard) (dst x : Fin 32) (s : State) : Host.Outcome State Fault Refusal :=
  s.lift (issueOp e.val (opBundle gd (.cmulj dst.val x.val)))

def execCmov (e : Fin 1536) (gd : Guard) (dst x : Fin 32) (s : State) : Host.Outcome State Fault Refusal :=
  s.lift (issueOp e.val (opBundle gd (.cmov dst.val x.val)))

def execCshr (e : Fin 1536) (gd : Guard) (dst x : Fin 32) (n : Fin 32) (trunc : Bool) (s : State) : Host.Outcome State Fault Refusal :=
  s.lift (issueOp e.val (opOr gd (if n.val ≥ 24 then none else some (.cshr dst.val x.val n.val trunc))))

def execCshl (e : Fin 1536) (gd : Guard) (dst x : Fin 32) (n : Fin 32) (s : State) : Host.Outcome State Fault Refusal :=
  s.lift (issueOp e.val (opOr gd (if n.val ≥ 24 then none else some (.cshl dst.val x.val n.val))))

def execPcmp (e : Fin 1536) (gd : Guard) (q : Fin 8) (x y : Fin 32) (cond : Fin 8) (im : Bool) (s : State) :
    Host.Outcome State Fault Refusal :=
  s.lift (issueOp e.val (opBundle gd (.pcmp q.val x.val y.val cond.val im)))

def execPlog (e : Fin 1536) (gd : Guard) (q a b : Fin 8) (op : Fin 8) (s : State) : Host.Outcome State Fault Refusal :=
  s.lift (issueOp e.val (opBundle gd (.plog q.val a.val b.val op.val)))

def execPlast (e : Fin 1536) (gd : Guard) (q : Fin 8) (s1 : Bool) (s : State) : Host.Outcome State Fault Refusal :=
  s.lift (issueOp e.val (opBundle gd (.plast q.val (b2n s1))))

def execPmod (e : Fin 1536) (gd : Guard) (p : Fin 8) (m : BitVec 12) (s : State) : Host.Outcome State Fault Refusal :=
  s.lift (issueOp e.val (opBundle gd (.pmod p.val m.toInt)))

def execLdl (e : Fin 1536) (gd : Guard) (dst : Fin 32) (p : Fin 8) (pair : Bool) (m : BitVec 12) (s : State) :
    Host.Outcome State Fault Refusal :=
  s.lift (issueOp e.val (lateBundle gd (.load pair p.val dst.val m.toInt)))

def execStl (e : Fin 1536) (gd : Guard) (src : Fin 32) (p : Fin 8) (pair : Bool) (m : BitVec 12) (s : State) :
    Host.Outcome State Fault Refusal :=
  s.lift (issueOp e.val (lateBundle gd (.store pair p.val src.val m.toInt)))

def execLdi (e : Fin 1536) (gd : Guard) (dst : Fin 32) (imm : BitVec 48) (s : State) : Host.Outcome State Fault Refusal :=
  s.lift (issueOp e.val (opBundle gd (.ldi dst.val imm)))

def execHalt (e : Fin 1536) (gd : Guard) (s : State) : Host.Outcome State Fault Refusal :=
  s.lift (issueOp e.val (opBundle gd .halt))

def execBr (e : Fin 1536) (gd : Guard) (target : BitVec 9) (cond : Fin 8) (q : Fin 8) (s : State) : Host.Outcome State Fault Refusal :=
  s.lift (issueOp e.val (opBundle gd (.br target.toNat cond.val q.val)))

def execLoop (e : Fin 1536) (gd : Guard) (k1 rotate : Bool) (s1 : Fin 8) (last : BitVec 9) (n : BitVec 16) (s : State) :
    Host.Outcome State Fault Refusal :=
  s.lift (issueOp e.val (opBundle gd (.loop k1 rotate s1.val last.toNat n.toNat)))

def execLoopr (e : Fin 1536) (gd : Guard) (k1 rotate : Bool) (s1 : Fin 8) (last : BitVec 9) (x : Fin 32) (s : State) :
    Host.Outcome State Fault Refusal :=
  s.lift (issueOp e.val (opBundle gd (.loopr k1 rotate s1.val last.toNat x.val)))

def execSetp (e : Fin 1536) (gd : Guard) (p : Fin 8) (which : Fin 4) (imm : BitVec 16) (s : State) : Host.Outcome State Fault Refusal :=
  s.lift (issueOp e.val (opBundle gd (.setp p.val which.val imm.toNat)))

def execFlag (e : Fin 1536) (gd : Guard) (value mask : BitVec 4) (s : State) : Host.Outcome State Fault Refusal :=
  s.lift (issueOp e.val (opBundle gd (.flag value mask)))

/-! ### Requests (04_ R119 to R124, R591) -/

def reqStop (e : Engine) : Engine :=
  if e.state == .running then { landAll e with state := .stopped, cause := 2 } else e

def reqClear (e : Engine) : Engine :=
  if e.state == .stopped || e.state == .error then { e with state := .idle, cause := 0 } else e

def reqResume (e : Engine) : Engine := if e.state == .stopped then { e with state := .running } else e

/-- A start from address `pc` (R120, R122). -/
def reqStart (pc : Nat) (e : Engine) : Engine :=
  match e.state with
  | .running => e.flagIf fOverrun true
  | .error => e.flagIf fStartErr true
  | _ =>
    if !e.ctrl.getLsbD 0 then e.flagIf fStartErr true
    else { e with
      state := .running, pc := pc % 512, rot := 0, k0 := { e.k0 with active := false }, k1 := { e.k1 with active := false }
      cycles := 0, stalls := 0, bubble := 0 }

def startPc (e : Engine) : Nat := bitsAt e.ctrl.toNat 16 9

/-- A request, applied where the engine's clock runs, else held (R591). Under global set/reset, or in a domain
that is Off, it is lost (R125). -/
def request (e : Nat) (now hold : Engine → Engine) (d : Device) : Device :=
  if d.gsrOn (e / 48) || d.domState (e / 48) == 3 then d
  else d.setEngine e ((if engineRuns d e then now else hold) (d.engine e))

def askStart (e pc : Nat) (d : Device) : Device :=
  request e (reqStart pc) (fun x => { x with held := { x.held with start := some pc } }) d
def askStop (e : Nat) (d : Device) : Device :=
  request e reqStop (fun x => { x with held := { x.held with stop := true } }) d
def askResume (e : Nat) (d : Device) : Device :=
  request e reqResume (fun x => { x with held := { x.held with resume := true } }) d
def askClear (e : Nat) (d : Device) : Device :=
  request e reqClear (fun x => { x with held := { x.held with clear := true } }) d

/-- A write to a replayed engine's control window other than cmd start leaves a gap (20_ R505, cause 4). -/
def clvGap (e : Nat) (d : Device) : Device := if d.replayed (e / 48) then d.bobGap (halfOfField (e / 48)) 4 else d

def execClvStart (e : Fin 1536) (s : State) : Host.Outcome State Fault Refusal :=
  s.lift (fun d => askStart e.val (startPc (d.engine e.val)) d)
def execClvStop (e : Fin 1536) (s : State) : Host.Outcome State Fault Refusal := s.lift (fun d => clvGap e.val (askStop e.val d))
def execClvResume (e : Fin 1536) (s : State) : Host.Outcome State Fault Refusal :=
  s.lift (fun d => clvGap e.val (askResume e.val d))
def execClvClear (e : Fin 1536) (s : State) : Host.Outcome State Fault Refusal :=
  s.lift (fun d => clvGap e.val (askClear e.val d))

/-- The engine's ctl clock runs. -/
def ctlRuns (d : Device) (e : Nat) : Bool :=
  (d.engine e).clkSel 4 != 15 && d.rclkRuns (e / 48) ((d.engine e).clkSel 4)

/-- The start and stop sinks of an engine: row 2, sinks 2 and 3 (R110). -/
def startSink (d : Device) (e : Nat) : Bool := sinkAt d (cloverTile e 2) 2
def stopSink (d : Device) (e : Nat) : Bool := sinkAt d (cloverTile e 2) 3

/-- A request from the start sink counts where fabric_start_en is set. -/
def fabricStarts (e : Nat) (d : Device) : Device :=
  if (d.engine e).ctrl.getLsbD 3 then askStart e (startPc (d.engine e)) d else d

/-- FABRIC_START: a rising edge on the start sink, taken on the ctl clock. Where a pattern configures the tile, its sink must be 1 and have
been 0. -/
def fabricStart (e : Nat) (d : Device) : Device :=
  if !ctlRuns d e then d
  else if cloverTiled d e 2 then
    if startSink d e && !(d.engine e).startWas then fabricStarts e (d.setEngine e { d.engine e with startWas := true }) else d
  else fabricStarts e d
def execFabricStart (e : Fin 1536) (s : State) : Host.Outcome State Fault Refusal := s.lift (fabricStart e.val)

/-- FABRIC_STOP: the same on the stop sink. -/
def fabricStop (e : Nat) (d : Device) : Device :=
  if !ctlRuns d e then d
  else if cloverTiled d e 2 then
    if stopSink d e && !(d.engine e).stopWas then askStop e (d.setEngine e { d.engine e with stopWas := true }) else d
  else askStop e d

/-- One ctl-clock edge at an engine whose tile is configured: rising edges of its sinks, as `d0` shows them, count (R123). -/
def ctlSinks (d0 : Device) (e : Nat) (d : Device) : Device :=
  let up := startSink d0 e
  let dn := stopSink d0 e
  let x := d.engine e
  let d' := d.setEngine e { x with startWas := up, stopWas := dn }
  (d'.when (dn && !x.stopWas) (askStop e)).when (up && !x.startWas) (fabricStarts e)
def execFabricStop (e : Fin 1536) (s : State) : Host.Outcome State Fault Refusal := s.lift (fabricStop e.val)

/-- HELD_REQUESTS_APPLY: together, in the order stop, clear, resume, start (R121, R591). -/
def heldApply (e : Nat) (d : Device) : Device :=
  if !engineRuns d e then d
  else
    let x := d.engine e
    let h := x.held
    let x := { x with held := {} }
    let x := if h.stop then reqStop x else x
    let x := if h.clear then reqClear x else x
    let x := if h.resume then reqResume x else x
    d.setEngine e (match h.start with
      | some pc => reqStart pc x
      | none => x)
def execHeldRequestsApply (e : Fin 1536) (s : State) : Host.Outcome State Fault Refusal := s.lift (heldApply e.val)

/-! ### Network access (R101, R102) -/

def memByte (e : Engine) (o : Nat) : Byte :=
  if o % 16 < 12 then (tabGet zero96 e.mem (o / 16)).extractLsb' (8 * (o % 16)) 8 else 0

/-- `v` with byte `k` replaced. -/
def putByte (n : Nat) (v : BitVec n) (k : Nat) (b : Byte) : BitVec n :=
  (v &&& ~~~(((0xFF#n)).shiftLeft (8 * k))) ||| ((b.setWidth n).shiftLeft (8 * k))

def setMemByte (e : Engine) (o : Nat) (b : Byte) : Engine :=
  if o % 16 < 12 then { e with mem := tabMod zero96 e.mem (o / 16) (fun w => putByte 96 w (o % 16) b) } else e

def progByte (e : Engine) (o : Nat) : Byte := (tabGet zero64 e.prog (o / 8)).extractLsb' (8 * (o % 8)) 8
def setProgByte (e : Engine) (o : Nat) (b : Byte) : Engine :=
  { e with prog := tabMod zero64 e.prog (o / 8) (fun w => putByte 64 w (o % 8) b) }

/-- Write bytes from offset `o` up. -/
def putBytes (f : Engine → Nat → Byte → Engine) (e : Engine) (o : Nat) : List Byte → Engine
  | [] => e
  | b :: bs => putBytes f (f e o b) (o + 1) bs

/-- Parity number of the part at byte offset `o`. -/
def partAt (o : Nat) : Nat := o / 16 * 4 + o % 16 / 3

/-- Every byte of the part is written: its parity is computed anew. -/
def partWhole (off len p : Nat) : Bool :=
  let lo := p / 4 * 16 + p % 4 * 3
  decide (off ≤ lo ∧ lo + 3 ≤ off + len)

/-- A network read that meets wrong parity (R102). -/
def parityRead (e : Nat) (d : Device) : Device :=
  (d.setEngine e ((d.engine e).flagIf fParity true)).fault (halfOfField (e / 48)) 0x18 e (d.engine e).pc

/-- An access to the engine's 64 KiB window: its status, its data, the device after it. -/
def cloverAccess (e : Nat) (w : Bool) (off len : Nat) (data : List Byte) (d : Device) : Nat × List Byte × Device :=
  let x := d.engine e
  let top := off + len
  if !engineOn d e then (2, [], d)
  else if top ≤ 0x6000 then
    if w then
      let touched (p : Nat) : Bool := (upto len).any (fun i => (off + i) % 16 < 12 && partAt (off + i) == p)
      let d' := d.setEngine e { putBytes setMemByte x off data with memBad := x.memBad.filter (fun p => !touched p) }
      -- the merge of a part of which some bytes are written reads it, and checks it (R98, R101; log entry 85)
      if x.memBad.any (fun p => touched p && !partWhole off len p) then (7, [], parityRead e d') else (0, [], d')
    else
      let bs := (upto len).map (fun i => memByte x (off + i))
      if (upto len).any (fun i => (off + i) % 16 < 12 && x.memBad.contains (partAt (off + i))) then (7, bs, parityRead e d)
      else (0, bs, d)
  else if 0x8000 ≤ off ∧ top ≤ 0x9000 then
    let o := off - 0x8000
    if x.state == .running then (8, [], d)
    else if w then
      let y := putBytes setProgByte x o data
      (0, [], d.setEngine e { y with
        ctrl := withField y.ctrl 0 1 0
        progBad := x.progBad.filter (fun n => !(decide (o ≤ 8 * n ∧ 8 * n + 8 ≤ o + len))) })
    else
      let bs := (upto len).map (fun i => progByte x (o + i))
      if (upto len).any (fun i => x.progBad.contains ((o + i) / 8)) then (7, bs, parityRead e d) else (0, bs, d)
  else (1, [], d)

/-- A network write to a replayed engine's memories is recorded (20_ R501). -/
def clvRecord (e off : Nat) (data : List Byte) (d : Device) : Device :=
  if d.replayed (e / 48) then d.bobData (halfOfField (e / 48)) 2 e off data else d

/-- An access over the network: writes are recorded, and during replay those to replayed engines do not act (20_ R512). -/
def cloverNet (e : Nat) (w : Bool) (off len : Nat) (data : List Byte) (d : Device) : Nat × List Byte × Device :=
  if w && d.feeds (e / 48) then (0, [], d)
  else
    let r := cloverAccess e w off len data d
    (r.1, r.2.1, if w && r.1 == 0 then clvRecord e off data r.2.2 else r.2.2)

/-- CLV_NETWORK_ACCESS: served in a free half-cycle. -/
def clvAccess (e : Nat) (w : Bool) (off len : Nat) (data : List Byte) (d : Device) : Device :=
  let r := cloverNet e w off len data d
  r.2.2.answer r.1 r.2.1
def execClvNetworkAccess (e : Fin 1536) (write : Bool) (off : BitVec 16) (len : Nat) (data : List Byte) (s : State) :
    Host.Outcome State Fault Refusal := s.lift (clvAccess e.val write off.toNat len data)

/-- CLV_NETWORK_STARVATION: a Running engine issues nothing for one cycle, which counts as a stall. -/
def clvStarved (e : Nat) (w : Bool) (off len : Nat) (data : List Byte) (d : Device) : Device :=
  let d := if (d.engine e).state == .running && engineRuns d e then d.setEngine e (countCycle true (d.engine e)) else d
  clvAccess e w off len data d
def execClvNetworkStarvation (e : Fin 1536) (write : Bool) (off : BitVec 16) (len : Nat) (data : List Byte) (s : State) :
    Host.Outcome State Fault Refusal := s.lift (clvStarved e.val write off.toNat len data)

/-- PROGRAM_STORE_WRITE: bundle n. -/
def execProgramStoreWrite (e : Fin 1536) (n : Fin 512) (bundle : BitVec 64) (s : State) : Host.Outcome State Fault Refusal :=
  s.lift (clvAccess e.val true (0x8000 + 8 * n.val) 8 (leBytes bundle.toNat 8))

/-! ### Control window (R126 to R132; 05_ R154) -/

/-- STREAM_CLK_WRITE: ignored while Running; values 12 to 14 stored as 15; streams whose select changes are emptied. -/
def streamClkWrite (v : Word) (x : Engine) : Engine :=
  if x.state == .running then x
  else
    let one (i : Nat) : Nat := let c := fieldOf v (4 * i) 4; if c ≥ 12 then 15 else c
    let new := (upto 5).foldl (fun a i => a + one i * 2 ^ (4 * i)) 0
    let y := { x with streamClk := BitVec.ofNat 20 new }
    (upto 4).foldl (fun y i => if one i ≠ x.clkSel i then y.setStream i {} else y) y
def execStreamClkWrite (e : Fin 1536) (v : BitVec 32) (s : State) : Host.Outcome State Fault Refusal :=
  s.lift (fun d =>
    if engineOn d e.val then (clvGap e.val ((d.setEngine e.val (streamClkWrite v (d.engine e.val))).answer 0 [])).settle
    else d.answer 2 [])

def loopWord (k : LoopState) : Word :=
  BitVec.ofNat 32 (2 ^ 31 * b2n k.active + 2 ^ 30 * b2n k.rotate + 2 ^ 27 * k.s1 + 2 ^ 18 * k.last + k.count)

/-- Logical predicates q7 to q0 as a number. -/
def qWord (x : Engine) : Nat := (upto 8).foldl (fun a j => a + 2 ^ j * b2n (x.qreg j)) 0

/-- A half of a 64-bit register at offset `o`. -/
def halfWord (v : Nat) (o : Nat) : Word := BitVec.ofNat 32 (if o % 8 = 4 then v / 2 ^ 32 else v)

/-- A 32-bit word of the state window (R132). -/
def windowRead (x : Engine) (o : Nat) : Option Word :=
  if o < 0x500 then some (halfWord (x.creg ((o - 0x400) / 8)).toNat o)
  else if o < 0x540 then some (halfWord (BitVec.ofInt 64 (x.accOut ((o - 0x500) / 8))).toNat o)
  else if o < 0x560 then some (BitVec.ofNat 32 (x.preg ((o - 0x540) / 4)))
  else if o < 0x580 then some (BitVec.ofNat 32 (x.breg ((o - 0x560) / 4)))
  else if o < 0x5A0 then some (BitVec.ofNat 32 (x.lreg ((o - 0x580) / 4)))
  else if o = 0x5A0 then some (loopWord x.k0)
  else if o = 0x5A4 then some (loopWord x.k1)
  else if o = 0x5B0 then some (BitVec.ofNat 32 (qWord x))
  else if o = 0x5B4 then some (BitVec.ofNat 32 x.rot)
  else none

/-- `v` with its low or high 32 bits replaced, by offset. -/
def putHalf (v o : Nat) (w : Word) : Nat := if o % 8 = 4 then putBits v 32 32 w.toNat else putBits v 0 32 w.toNat

/-- A write of one word of the state window. -/
def windowWrite (o : Nat) (w : Word) (x : Engine) : Engine :=
  if o < 0x500 then
    let k := physC x.rot ((o - 0x400) / 8)
    { x with c := tabMod zero48 x.c k (fun v => BitVec.ofNat 48 (putHalf v.toNat o w)) }
  else if o < 0x540 then
    let v := fun (v : BitVec 56) => BitVec.ofNat 56 (putHalf v.toNat o w)
    { x with a := tabMod zero56 x.a ((o - 0x500) / 8) v, aOld := tabMod zero56 x.aOld ((o - 0x500) / 8) v }
  else if o < 0x560 then x.setP ((o - 0x540) / 4) (fieldOf w 0 12)
  else if o < 0x580 then { x with b := tabSet zero12 x.b ((o - 0x560) / 4) (w.setWidth 12) }
  else if o < 0x5A0 then { x with l := tabSet zero16 x.l ((o - 0x580) / 4) (BitVec.ofNat 16 (lenNorm w.toNat)) }
  else if o = 0x5A0 then { x with k0 := { x.k0 with count := fieldOf w 0 16 } }
  else if o = 0x5A4 then { x with k1 := { x.k1 with count := fieldOf w 0 16 } }
  else if o = 0x5B0 then (upto 8).foldl (fun y j => y.setQ (physQ x.rot j) (w.getLsbD j)) x
  else if o = 0x5B4 then { x with rot := fieldOf w 0 4 }
  else x

def inWindow (o : Nat) : Bool := decide (0x400 ≤ o ∧ o < 0x5B8)

def stateCode : RunState → Nat
  | .idle => 0
  | .running => 1
  | .stopped => 2
  | .error => 3

/-- A register of the control window below the state window (R126 to R131). -/
def ctlRead (x : Engine) (o : Nat) : Option Word :=
  match o with
  | 0x000 => some x.ctrl
  | 0x004 => some (BitVec.ofNat 32 (2 ^ 30 * stateCode x.state + 2 ^ 26 * x.cause + 2 ^ 16 * x.pc + 2 ^ 12 * x.rot
      + 16 * qWord x + 2 * b2n x.k1.active + b2n x.k0.active))
  | 0x008 => some (x.flags.setWidth 32)
  | 0x00C => some (x.streamClk.setWidth 32)
  | 0x010 => some (BitVec.ofNat 32 x.runs)
  | 0x014 => some (BitVec.ofNat 32 x.cycles)
  | 0x018 => some (BitVec.ofNat 32 x.stalls)
  | 0x020 => some x.notifyLo
  | 0x024 => some x.notifyHi
  | _ => none

/-- CLV_CTRL's cmd (R126): after the fields. -/
def ctlCmd (e cmd : Nat) (d : Device) : Device :=
  match cmd with
  | 1 => askStart e (startPc (d.engine e)) d
  | 2 => askStop e d
  | 3 => askResume e d
  | 4 => askClear e d
  | _ => d

/-- A write of a register of the control window below the state window. -/
def ctlWrite (e o : Nat) (v : Word) (d : Device) : Device :=
  let x := d.engine e
  match o with
  | 0x000 => ctlCmd e (fieldOf v 29 3) (d.setEngine e { x with ctrl := v &&& 0x01FF00F9 })
  | 0x008 => d.setEngine e { x with flags := x.flags &&& ~~~(v.setWidth 10) }
  | 0x00C => (d.setEngine e (streamClkWrite v x)).settle
  | 0x020 => d.setEngine e { x with notifyLo := v &&& 0xFFFFFFF8 }
  | 0x024 => d.setEngine e { x with notifyHi := v &&& 0x0000FFFF }
  | _ => d

/-- One 32-bit register of the control window: none where unassigned. The state window answers TARGET_ERR while Running;
the caller checks that. -/
def cloverReg (x : Engine) (o : Nat) : Option Word := if inWindow o then windowRead x o else ctlRead x o

def cloverRegWrite (e o : Nat) (v : Word) (d : Device) : Device :=
  if inWindow o then d.setEngine e (windowWrite o v (d.engine e)) else ctlWrite e o v d

/-- An access to the control window (R132; 00_ R590). -/
def cloverControl (e : Nat) (w : Bool) (off len : Nat) (data : List Byte) (d : Device) : Nat × List Byte × Device :=
  let x := d.engine e
  if !engineOn d e then (2, [], d)
  else if (len ≠ 4 ∧ len ≠ 8) ∨ off % len ≠ 0 then (8, [], d)
  else
    let os := if len = 4 then [off] else [off, off + 4]
    if os.all (fun o => (cloverReg x o).isNone) then (1, [], d)
    else if x.state == .running && os.any inWindow then (8, [], d)
    else if w then
      let d := if off = 0 ∧ fieldOf (leWord data) 29 3 = 1 then d else clvGap e d
      (0, [], d.each (os.zip [data, data.drop 4]) (fun d p => if (cloverReg x p.1).isSome then cloverRegWrite e p.1 (leWord p.2) d else d))
    else (0, os.flatMap (fun o => leBytes ((cloverReg x o).getD 0).toNat 4), d)

/-- STATE_WINDOW_ACCESS. -/
def windowAccess (e : Nat) (w : Bool) (off len : Nat) (data : List Byte) (d : Device) : Device :=
  let r := cloverControl e w off len data d
  r.2.2.answer r.1 r.2.1
def execStateWindowAccess (e : Fin 1536) (write : Bool) (off : BitVec 12) (len : Nat) (data : List Byte) (s : State) :
    Host.Outcome State Fault Refusal := s.lift (windowAccess e.val write off.toNat len data)

/-! ### Column clocks (R116, R117) -/

/-- COLUMN_CLOCK_CHANGE: a write of FLD_CLV_CLK; the overspeed bits are not written. A gate enabled on a dead PLL forces the
domain (09_ R266). -/
def columnClock (f : Nat) (v : Word) (d : Device) : Device :=
  let a := clvClkA f
  clockCheck f (d.setReg a ((d.reg a &&& 0xFFFF0000) ||| (v &&& 0x0000FFFF)))
def execColumnClockChange (f : Fin 32) (v : BitVec 32) (s : State) : Host.Outcome State Fault Refusal :=
  s.liftReport (columnClock f.val v)

/-- COLUMN_OVERSPEED: the column's clock, measured against the time thread, in kHz. -/
def columnOverspeed (f : Nat) (k kHz : Nat) (d : Device) : Device := d.putBit (clvClkA f) (18 + k) (decide (kHz > 1270000))
def execColumnOverspeed (f : Fin 32) (k1 : Bool) (kHz : Nat) (s : State) : Host.Outcome State Fault Refusal :=
  s.lift (columnOverspeed f.val (b2n k1) kHz)

/-- CLOCK_STRETCH: the next edge is delayed by d/8 of a period; one stretched cycle is one cycle. -/
def clockStretch (f k n : Nat) (d : Device) : Device :=
  if columnRuns d f k && 1 ≤ n && n ≤ 4 then d.bump (stretchA f k) 0 31 1 else d
def execClockStretch (f : Fin 32) (k1 : Bool) (d : Fin 4) (s : State) : Host.Outcome State Fault Refusal :=
  s.lift (clockStretch f.val (b2n k1) (d.val + 1))

/-- STRETCH_MAX. -/
def stretchMax (f k : Nat) (d : Device) : Device :=
  (d.setBit (stretchA f k) 31).fault (halfOfField f) 0x19 (f * 65536 + k) 0
def execStretchMax (f : Fin 32) (k1 : Bool) (s : State) : Host.Outcome State Fault Refusal := s.lift (stretchMax f.val (b2n k1))

end Sys2Proof.Machine
end

