-- ==== Sys2Proof/Machine/NetMap.lean ====
section
/-!
DEFINITION. Machine/NetMap.lean: where things are on the Warp/Weft network: knots and their slots, target windows, routes
(00_scope R10; 01_organisation R27 to R29; 06_warp_weft_network R156 to R168; 23_selvedge_links R581).
-/
namespace Sys2Proof.Machine

/-! ### Target windows (00_ R10, 06_ R165, R166) -/

/-- What answers at an address. -/
inductive Target
  | dram
  | clover (e : Nat)
  | hostMem
  | stile (s : Nat)
  | thimble
  | lark (h : Half)
  | mch (n : Nat)
  | sht (n : Nat)
  | quad (q : Nat)
  | pins (b : Nat)
  | seam
  | bobbin
  | lining
  | power
  | field (f : Nat)
  | cloverCtl (e : Nat)
  | eth (m : Nat)
  | jesd (j : Nat)
  | host (h : Half)
  | slv (s : Nat)
deriving DecidableEq, Repr

/-- An address in an indexed window: base, window size, count. -/
def windowIdx (a base size count : Nat) : Option Nat :=
  if base ≤ a ∧ a < base + size * count then some ((a - base) / size) else none

/-- The windows of R10 above DRAM: base, size, count, and what they are. -/
def windows : List (Nat × Nat × Nat × (Nat → Target)) := [
  (0xF00000000000, 0x10000, 1536, .clover),
  (0xFD0000000000, 0x10000000000, 1, fun _ => .hostMem),
  (0xFE0000000000, 0x100000000, 128, .stile),
  (0xFF0000000000, 0x10000, 1, fun _ => .thimble),
  (0xFF0000010000, 0x10000, 2, fun i => .lark (halfOf i)),
  (0xFF0000100000, 0x10000, 8, .mch),
  (0xFF0000200000, 0x10000, 16, .sht),
  (0xFF0000300000, 0x10000, 36, .quad),
  (0xFF0000600000, 0x10000, 8, .pins),
  (0xFF0000700000, 0x10000, 1, fun _ => .seam),
  (0xFF0000710000, 0x10000, 1, fun _ => .bobbin)] ++ [
  (0xFF0000720000, 0x10000, 1, fun _ => .lining),
  (0xFF0000730000, 0x10000, 1, fun _ => .power),
  (0xFF0000800000, 0x10000, 32, .field),
  (0xFF0000A00000, 0x1000, 1536, .cloverCtl),
  (0xFF0001000000, 0x10000, 16, .eth),
  (0xFF0001100000, 0x10000, 8, .jesd),
  (0xFF0001180000, 0x10000, 2, fun i => .host (halfOf i)),
  (0xFF0001200000, 0x10000, 8, .slv)]

/-- The DRAM window ends with the last enabled region (13_ R350). -/
def dramSize (d : Device) : Nat := regionSize d 0 + regionSize d 1

/-- The window of an address: what it is, its base and its size. -/
def windowOf (d : Device) (a : Nat) : Option (Target × Nat × Nat) :=
  if a < dramSize d then some (.dram, 0, dramSize d)
  else windows.findSome? (fun w => (windowIdx a w.1 w.2.1 w.2.2.1).map (fun i => (w.2.2.2 i, w.1 + w.2.1 * i, w.2.1)))

/-- The half of a power or clock register at offset o, if it has one: a PLL's, a domain's. -/
def powerHalf (o : Nat) : Option Half :=
  if 0x100 ≤ o ∧ o < 0x300 then some (halfOf ((o - 0x100) / 256))
  else if 0x300 ≤ o ∧ o < 0x308 then some (halfOf ((o - 0x300) / 4))
  else if (0x400 ≤ o ∧ o < 0x500) ∨ (0x600 ≤ o ∧ o < 0x800) then some (halfOfDomain (o % 0x100 / 4))
  else none

/-- The half a register's target lies in; none for DRAM, whose halves are its channels', and for what the whole device has once. -/
def targetHalf (d : Device) (a : Nat) : Target → Option Half
  | .dram => (dramDecode d a).map (fun p => halfOf (p.1 / 4))
  | .clover e => some (halfOfField (e / 48))
  | .cloverCtl e => some (halfOfField (e / 48))
  | .stile s => some (halfOfField (s / 4))
  | .field f => some (halfOfField f)
  | .hostMem => d.activePort
  | .lark h => some h
  | .mch n => some (halfOf (n / 4))
  | .sht n => some (halfOf (n / 8))
  | .quad q => some (if q < 18 then .w else .e)
  | .pins b => some (halfOf (b / 4))
  | .power => powerHalf (a - 0xFF0000730000)
  | .eth m => some (halfOf (m / 8))
  | .jesd j => some (halfOf (j / 4))
  | .host h => some h
  | .slv s => some (halfOf (s / 4))
  | .thimble => none
  | .seam => none
  | .bobbin => none
  | .lining => none

/-- The attachment through which a target is reached: seam, Lining, power and pin registers through the Thimble of their half, those
without a half through the primary's (R29). Where the spec names none (Clover and field windows, quads) it is the field's first
stile, or the Thimble of the half (log entry 20). -/
def targetPlace (d : Device) (t : Target) (a : Nat) : Nat × Nat :=
  let stile (f : Nat) : Nat × Nat := (stileKnot (4 * f), stileSlot (4 * f))
  let ofHalf : Nat × Nat := attPlace (.thimble ((targetHalf d a t).getD d.sys.primary))
  match t with
  | .dram => attPlace (.mch ((dramDecode d a).getD (0, 0)).1)
  | .clover e => stile (e / 48)
  | .cloverCtl e => stile (e / 48)
  | .field f => stile f
  | .stile s => (stileKnot s, stileSlot s)
  | .hostMem => attPlace (.host (d.activePort.getD .w))
  | .host h => attPlace (.host h)
  | .thimble => attPlace (.thimble d.sys.primary)
  | .lark h => attPlace (.lark h)
  | .mch n => attPlace (.mch n)
  | .sht n => attPlace (.sht n)
  | .quad _ => ofHalf
  | .pins _ => ofHalf
  | .seam => ofHalf
  | .bobbin => attPlace (.bobbin d.sys.primary)
  | .lining => ofHalf
  | .power => ofHalf
  | .eth m => attPlace (.eth (m / 2))
  | .jesd j => attPlace (.jesd j)
  | .slv s => attPlace (.slv s)

/-! ### Routes (06_ R167, R168; 23_ R581) -/

/-- The Selvedge link toward another device, if its route entry is valid. -/
def routeLink (d : Device) (dev : Nat) : Option Nat :=
  if d.bit (thmA 0x2600) (4 * dev + 3) then some (d.fld (thmA 0x2600) (4 * dev) 3) else none

/-- State 3 of SLV_STATUS: Up. -/
def linkUp (d : Device) (s : Nat) : Bool := d.fld (slvA s 4) 29 3 == 3

/-- Knot and slot a packet heads for inside this device; none if it is for a device that no entry reaches. -/
def heading (d : Device) (hd : Header) : Option (Nat × Nat) :=
  if hd.dstDev.val = devId d then some (hd.dstKnot.val, hd.dstSlot.val)
  else (routeLink d hd.dstDev.val).map (fun s => attPlace (.slv s))

/-- The output a header takes at a knot: along the row first, then the column, then its slot. -/
def outAt (k : Nat) (goal : Nat × Nat) : OutPort :=
  if knotX k < knotX goal.1 then .east
  else if knotX k > knotX goal.1 then .west
  else if knotY k < knotY goal.1 then .north
  else if knotY k > knotY goal.1 then .south
  else .slot (Fin.ofNat 4 goal.2)

/-- The knot beyond an output. -/
def beyond (k : Nat) : OutPort → Nat
  | .north => k + 16
  | .south => k - 16
  | .east => k + 1
  | .west => k - 1
  | .slot _ => k

/-- The hop crosses the seam. -/
def crossesSeam (k : Nat) (o : OutPort) : Bool := (knotX k == 4 && o == .east) || (knotX k == 5 && o == .west)

/-- A Warp/Weft half carries traffic. -/
def netRuns (d : Device) (h : Half) : Bool := d.blockRuns (54 + hn h)

end Sys2Proof.Machine
end

