-- ==== Sys2Proof/Machine/Network.lean ====
section
/-!
DEFINITION. Machine/Network.lean: stiles, responses, forwarding flit by flit, and the loss of a half as the network sees it
(06_warp_weft_network).
-/
namespace Sys2Proof.Machine

/-! ### Stiles (R175 to R177, R189, R190) -/

def execStileCtrlApply (s : Fin 128) (st : State) : Host.Outcome State Fault Refusal := st.lift (stileApply s.val)

/-- A write of FLD_STILE_CTRL_k: clk 12 to 14 is stored as 15. -/
def stileCtrlWrite (s : Nat) (v : Word) (d : Device) : Device :=
  let v := v &&& 0xFFFFFC00
  stileApply s (d.setReg (stileCtrl s) (if 12 ≤ fieldOf v 12 4 then withField v 12 4 15 else v))

/-- A new request of a stile. -/
def addOutst (s : Nat) (o : Outst) (d : Device) : Device :=
  showOutst s { d with net := { d.net with outst := d.net.outst ++ [o] } }

/-- Response-buffer flits a request reserves (R174): one for a write, the header and the payload for a read. -/
def reserveOf (o : Outst) : Nat := if o.write then 1 else 1 + flitsIn o.addr o.len
/-- Flits the response buffer holds or has promised. -/
def rspUsed (d : Device) (s : Nat) : Nat := (stileOutst d s).foldl (fun n o => n + reserveOf o) 0

/-- The stile takes a request from the fabric (R176): enabled, running, the tag free, room for the response. -/
def stileReady (d : Device) (s tag : Nat) (o : Outst) : Bool :=
  d.bit (stileCtrl s) 10 && stileRuns d s && !(stileOutst d s).any (fun x => x.tag == tag)
    && decide ((stileOutst d s).length < 256) && decide (rspUsed d s + reserveOf o ≤ 512)

/-- The weft seam link of a row carries packets: both directions trained and released (R182, R184). -/
def weftOpen (d : Device) (y : Nat) : Bool :=
  d.up .w && d.up .e && (d.segment (100 + 2 * y)).trained && (d.segment (101 + 2 * y)).trained
    && (d.segment (100 + 2 * y)).released && (d.segment (101 + 2 * y)).released

/-- A request from knot k toward half h has somewhere to go; else its source completes it with HALF_DOWN (R183, R184). -/
def halfReach (d : Device) (k : Nat) (h : Half) : Bool := knotHalf k == h || d.net.weftDown.getLsbD (knotY k) || weftOpen d (knotY k)

/-- One packet of a request: address, length, half of its target, knot and slot that its header names. -/
structure Leg where
  addr : Nat
  len  : Nat
  half : Half
  knot : Nat
  slot : Nat
deriving DecidableEq, Repr

/-- The packet to a target of this device. -/
def legTo (d : Device) (t : Target) (a len : Nat) : Leg :=
  let p := targetPlace d t a
  { addr := a, len := len, half := knotHalf p.1, knot := p.1, slot := p.2 }

/-- The header of one packet of stile s (R160, R162). -/
def legHeader (d : Device) (s : Nat) (write : Bool) (cls dev tag : Nat) (p : Leg) : Header :=
  let src := stileNode d s
  { mclass := 0, status := 0, tag := Fin.ofNat 1024 tag, srcSlot := src.slot, srcKnot := src.knot, srcDev := src.dev
    dstSlot := Fin.ofNat 4 p.slot, dstKnot := Fin.ofNat 128 p.knot, dstDev := Fin.ofNat 8 dev, cls := Fin.ofNat 4 cls
    type := if write then 1 else 0, lenM1 := Fin.ofNat 8192 (p.len - 1), addr := BitVec.ofNat 48 p.addr }

/-- Send a request of stile s as its packets. One to a half that cannot be reached is answered HALF_DOWN at once (R183). -/
def sendLegs (s : Nat) (write : Bool) (addr len cls dev tag : Nat) (data : List Byte) (ps : List Leg) (d : Device) : Device :=
  let reach (p : Leg) : Bool := halfReach d (stileKnot s) p.half
  let part (p : Leg) : Part := { addr := p.addr, half := p.half, answer := if reach p then none else some { status := 4 } }
  let o : Outst := { src := stileNode d s, tag := tag, dev := dev, write := write, addr := addr, len := len, parts := ps.map part }
  let out (p : Leg) : List Byte := if write then ((exactly len data).drop (p.addr - addr)).take p.len else []
  let d := d.each (ps.filter reach) (fun d p => inject (stileKnot s, stileSlot s) (legHeader d s write cls dev tag p) (out p) [] d)
  settleOutst o (addOutst s o d)

/-- STILE_REQUEST (R165, R176, R183; 23_ R581). A stile whose own half of the network does not run completes its requests with
TARGET_OFF (log entry 97); the header of a request to another device names knot 0 and slot 0, and that device decodes the address
(log entry 39). -/
def stileRequest (s : Nat) (write : Bool) (addr lenM1 cls dev tag : Nat) (data : List Byte) (d : Device) : Device :=
  let len := lenM1 + 1
  let o : Outst := { src := stileNode d s, tag := tag, dev := dev, write := write, addr := addr, len := len, parts := [] }
  let fail (st : Nat) (d : Device) : Device := netComplete o { status := st } d
  let send (ps : List Leg) : Device := sendLegs s write addr len cls dev tag data ps d
  if !stileReady d s tag o then d
  else if !netRuns d (knotHalf (stileKnot s)) then fail 2 d
  else if dev ≠ devId d then
    match routeLink d dev with
    | none => fail 5 d
    | some l => send [{ addr := addr, len := len, half := knotHalf (attPlace (.slv l)).1, knot := 0, slot := 0 }]
  else
    match windowOf d addr with
    | none => fail 1 (d.setBit (stileStat s) 1)
    | some (t, base, size) =>
      if addr + len > base + size then fail 1 (d.setBit (stileStat s) 1)
      else if t == .dram then send ((granules d addr len).map (fun p => legTo d .dram p.1 p.2))
      else send [legTo d t addr len]

def execStileRequest (s : Fin 128) (write : Bool) (addr : BitVec 48) (lenM1 : BitVec 13) (cls : Fin 4) (dev : Fin 8) (tag : BitVec 8)
    (data : List Byte) (st : State) : Host.Outcome State Fault Refusal :=
  st.lift (stileRequest s.val write addr.toNat lenM1.toNat cls.val dev.val tag.toNat data)

/-! ### Responses (R174, R177, R179) -/

/-- Poison that came with an arrived packet, and poison named beside it. -/
def poisonOf (f : Option Flight) (more : List Nat) : List Nat :=
  match f with
  | some f => f.poison ++ more.filter (fun i => !f.poison.contains i)
  | none => more

/-- What a response brings. -/
def answerOf (hd : Header) (data : List Byte) (poison : List Nat) : Answer :=
  { status := hd.status.val
    data := if hasPayload hd then exactly (lenOf hd) data else []
    poison := if hasPayload hd then poison else [] }

/-- The request a response answers: its source and tag, and a part at its address that has no answer yet; else it is late (log entry
98). -/
def answeredBy (d : Device) (hd : Header) : Option Outst :=
  d.net.outst.find? (fun o => o.src == dstOf hd && o.tag == hd.tag.val && o.parts.any (fun p => p.answer.isNone && p.addr == hd.addr.toNat))

/-- A response at its source: READ_RESPONSE, WRITE_RESPONSE. It is taken after those sent before it (R172); a stile hands it on as R177
says. -/
def response (hd : Header) (data : List Byte) (poison : List Nat) (d : Device) : Device :=
  if flowWaits hd d then d
  else
    let t := takeArrived hd d
    let d := t.2
    let a := answerOf hd data (poisonOf t.1 poison)
    let finish (o : Outst) (d : Device) : Device := answerParts (fun p => p.addr == hd.addr.toNat) a o d
    match nodeStile d (dstOf hd), answeredBy d hd with
    | some s, some o =>
      if d.feeds (s / 4) then d
      else if d.domState (s / 4) == 3 || (fieldOf (stileEff d s) 11 1 == 0 && !stileRuns d s) then dropOutst s (fun x => x.tag == o.tag) d
      else if d.underLoad (s / 4) then (dropOutst s (fun x => x.tag == o.tag) d).setBit (stileStat s) 3
      else if stileRuns d s then finish o d
      else { d with net := { d.net with rspBuf := tabMod noKept d.net.rspBuf s (· ++ [(hd, a)]) } }
    | some s, none => if d.feeds (s / 4) || d.domState (s / 4) == 3 then d else d.setBit (stileStat s) 3
    | none, some o => finish o d
    | none, none => d

def execReadResponse (hd : Header) (data : List Byte) (poison : List Nat) (s : State) : Host.Outcome State Fault Refusal :=
  s.lift (response hd data poison)
def execWriteResponse (hd : Header) (s : State) : Host.Outcome State Fault Refusal := s.lift (response hd [] [])

/-! ### Inbound requests (R176, R177) -/

def heldOf (d : Device) (s : Nat) : List Inbound := tabGet noHeld d.net.held s
def inboundOf (d : Device) (s : Nat) : List Inbound := tabGet noHeld d.net.inbound s
def inboundFlits (x : Inbound) : Nat := 1 + (if x.hd.type.val = 1 then flitCount x.hd else 0)

/-- The stile shows a request to its fabric and awaits the answer; in replay the fabric sees only recorded requests. -/
def stileDeliver (s : Nat) (x : Inbound) (d : Device) : Device :=
  if d.feeds (s / 4) then d
  else recordBeats s 3 (tqBeats x.hd x.data)
    { d with net := { d.net with inbound := tabSet noHeld d.net.inbound s (inboundOf d s ++ [x]) } }

/-- A stile whose clocks run hands on what it kept: responses, and requests while fewer than 64 await their answers (R176, R177). -/
def stileWake (s : Nat) (d : Device) : Device :=
  if !stileRuns d s then d
  else
    let rs := tabGet noKept d.net.rspBuf s
    let n := 64 - (inboundOf d s).length
    let hs := heldOf d s
    let d := { d with net := { d.net with rspBuf := tabSet noKept d.net.rspBuf s [], held := tabSet noHeld d.net.held s (hs.drop n) } }
    let d := d.each (hs.take n) (fun d x => stileDeliver s x d)
    d.each rs (fun d p => match answeredBy d p.1 with
      | some o => answerParts (fun q => q.addr == p.1.addr.toNat) p.2 o d
      | none => d)

/-- Every stile that kept something. -/
def stilesWake (d : Device) : Device :=
  d.each ((d.net.held.map (fun (kv : Nat × List Inbound) => kv.1)) ++ (d.net.rspBuf.map (fun (kv : Nat × List (Header × Answer)) => kv.1)))
    (fun d s => stileWake s d)

/-- A request as the fabric sees it: the bytes of poisoned flits as zeros (R180; log entry 96). -/
def inboundOfPacket (hd : Header) (data : List Byte) (poison : List Nat) : Inbound :=
  let first := hd.addr.toNat % 64
  let bs := if hd.type.val = 1 then exactly (lenOf hd) data else []
  { hd := hd, data := bs.zipIdx.map (fun x => if poison.contains ((first + x.2) / 64) then (0 : Byte) else x.1), bad := !poison.isEmpty }

/-- How a stile meets a request (R177): the status it is refused with; none if it is taken. -/
def stileRefuses (d : Device) (s : Nat) (x : Inbound) : Option Nat :=
  if stileOff d s then some 2
  else if d.underLoad (s / 4) then some 3
  else if !stileRuns d s && decide ((heldOf d s).foldl (fun n y => n + inboundFlits y) 0 + inboundFlits x > 64) then some 3
  else none

/-- STILE_INBOUND (R177), after earlier requests of its source and class (R172) and what the stile held before. -/
def stileInbound (s : Nat) (hd : Header) (data : List Byte) (poison : List Nat) (d : Device) : Device :=
  if flowWaits hd d then d
  else
    let t := takeArrived hd d
    let x := inboundOfPacket hd data (poisonOf t.1 poison)
    match stileRefuses d s x with
    | some st => (answerFrom (stileKnot s, stileSlot s) hd st [] [] (t.2.setBit (stileStat s) 4)).answer st []
    | none =>
      if stileRuns d s then
        let w := stileWake s t.2
        if (heldOf w s).isEmpty && decide ((inboundOf w s).length < 64) then stileDeliver s x w else d
      else { t.2 with net := { t.2.net with held := tabSet noHeld t.2.net.held s (heldOf t.2 s ++ [x]) } }

def execStileInbound (s : Fin 128) (hd : Header) (data : List Byte) (st : State) : Host.Outcome State Fault Refusal :=
  st.lift (stileInbound s.val hd data [])

/-- Payload flits of a read answer that ended before them (R176). -/
def missingFlits (hd : Header) (data : List Byte) : List Nat :=
  (List.range (flitCount hd)).filter (fun j => decide (data.length < lenOf hd ∧ data.length < 64 * (j + 1) - hd.addr.toNat % 64))

/-- STILE_INBOUND_ANSWER: the fabric answers the oldest inbound request; the stile builds the response header. Codes 12 to 15 are
never generated (R178): which other status a design that gives one has then given is free. A write of which flits were poisoned is
answered DATA_ERR (R180). An answer with DATA_ERR ends at its beat; what it left out is poisoned (log entry 96). -/
def stileAnswer (s status : Nat) (data : List Byte) (d : Device) : Device :=
  match inboundOf d s with
  | [] => d
  | x :: rest =>
    if !stileRuns d s then d
    else
      let d := { d with net := { d.net with inbound := tabSet noHeld d.net.inbound s rest } }
      let q := if status < 12 then (status, d) else let q := d.takeFree; (1 + q.1 % 11, q.2)
      let st := if q.1 = 0 ∧ x.bad then 7 else q.1
      answerFrom (stileKnot s, stileSlot s) x.hd st data (if st = 7 ∧ x.hd.type.val = 0 then missingFlits x.hd data else []) q.2
def execStileInboundAnswer (s : Fin 128) (status : BitVec 4) (data : List Byte) (st : State) : Host.Outcome State Fault Refusal :=
  st.lift (stileAnswer s.val status.toNat data)

/-- A request completes with TIMEOUT (R179): of a stile, only while its field runs and its limit is not 0. Its tag is free from then on
(log entry 98). -/
def requestTimeout (src : NodeId) (tag : Nat) (d : Device) : Device :=
  match d.net.outst.find? (fun o => o.src == src && o.tag == tag) with
  | none => d
  | some o =>
    match nodeStile d src with
    | some s => if stileRuns d s && decide (d.fld (stileCtrl s) 16 16 ≠ 0) then netComplete o { status := 9 } d else d
    | none => netComplete o { status := 9 } d

/-- The Shuttle engine at a node of this device. -/
def nodeShuttle (d : Device) (n : NodeId) : Option Nat :=
  if n.dev.val = devId d then
    match attAt n.knot.val n.slot.val with
    | some (.sht k) => some k
    | _ => none
  else none

/-- REQUEST_TIMEOUT: a source's limit passes. A Shuttle engine's requests are its descriptors' (16_ R424). -/
def sourceTimeout (src : NodeId) (tag : Nat) (d : Device) : Device :=
  match nodeShuttle d src with
  | some n => shtTimeout n d
  | none => requestTimeout src tag d

/-! ### Forwarding (R167 to R171, R181 to R183) -/

/-- The output a packet takes at a knot. One for a device that no link reaches goes no further (R178, LINK_DOWN). -/
def flightNext (d : Device) (k : Nat) (f : Flight) : OutPort := ((heading d f.hd).map (outAt k)).getD (.slot 0)

def flightOf (d : Device) (pid : Nat) : Option Flight := d.net.flights.find? (fun f => f.pid == pid)

/-- The first flit in an input buffer, if it has come: its packet and its number. -/
def frontFlit (d : Device) (key : Nat) : Option (Flight × Nat) :=
  match (d.vc key).runs with
  | r :: _ => if r.lo < r.hi then (flightOf d r.pid).map (fun f => (f, r.lo)) else none
  | [] => none

/-- Inputs whose header at the head of its buffer wants an output virtual channel (R170). -/
def wanting (d : Device) (k : Nat) (out : OutPort) (c : Nat) : List Nat :=
  (upto 8).filter (fun p => match frontFlit d (vcKey k p c) with
    | some (f, i) => i == 0 && flightNext d k f == out
    | none => false)

/-- The header that has waited longest; ties go in the fixed order, from the port after the last winner on (R170). -/
def longestWait (d : Device) (k : Nat) (out : OutPort) (c : Nat) : Option Nat :=
  let first := tabGet (fun _ => 0) d.net.turn (vcKey k (portIdx out) c)
  let rank (p : Nat) : List Nat := [(d.vc (vcKey k p c)).headAt, (p + 8 - first) % 8]
  (wanting d k out c).foldl (fun b p => match b with
    | some q => if lexLt (rank p) (rank q) then some p else some q
    | none => some p) none

/-- The input port, packet and flit that an output virtual channel has ready: of the packet it belongs to, else of the header that wins
it (R169, R170). -/
def readyFlit (d : Device) (k : Nat) (out : OutPort) (c : Nat) : Option (Nat × Flight × Nat) :=
  match tabGet noOwner d.net.owners (vcKey k (portIdx out) c) with
  | some (pid, p) => match frontFlit d (vcKey k p c) with
    | some (f, i) => if f.pid = pid then some (p, f, i) else none
    | none => none
  | none => (longestWait d k out c).bind (fun p => (frontFlit d (vcKey k p c)).map (fun x => (p, x.1, x.2)))

/-- The port of the next knot that a link leads to. -/
def oppositePort : OutPort → Nat
  | .north => 2
  | .east => 3
  | .south => 0
  | .west => 1
  | .slot i => 4 + i.val

/-- Why a header goes no further at this output: HALF_DOWN or LINK_DOWN (R178, R182 to R184). -/
def turnedBack (d : Device) (k : Nat) (out : OutPort) (f : Flight) : Option Nat :=
  match out with
  | .slot _ =>
    if f.hd.dstDev.val = devId d then none
    else match routeLink d f.hd.dstDev.val with
      | some l => if linkUp d l then none else some 5
      | none => some 5
  | _ =>
    if !crossesSeam k out then none
    else if !d.up (knotHalf (beyond k out)) then some 4
    else if d.net.weftDown.getLsbD (knotY k) then some 5
    else if !weftOpen d (knotY k) && !d.net.weftPaused.getLsbD (2 * knotY k + hn (knotHalf k)) then some 4
    else none

/-- A downstream credit: fewer than 16 flits in the buffer beyond a link, which is not paused for a remap (R169, R182). A slot always
takes its flit (log entry 47). -/
def hasCredit (d : Device) (k : Nat) (out : OutPort) (c : Nat) : Bool :=
  match out with
  | .slot _ => true
  | _ =>
    let room := decide (((d.vc (vcKey (beyond k out) (oppositePort out) c)).runs.foldl (fun n r => n + (r.hi - r.lo)) 0) < 16)
    room && !(crossesSeam k out && (d.net.weftPaused.getLsbD (2 * knotY k + hn (knotHalf k)) || !weftOpen d (knotY k)))

/-- Class, input port, packet and flit that may leave by an output in this knot cycle. -/
def mayLeave (d : Device) (k : Nat) (out : OutPort) (c : Nat) : Option (Nat × Nat × Flight × Nat) :=
  match readyFlit d k out c with
  | some (p, f, i) => if hasCredit d k out c || (i == 0 && (turnedBack d k out f).isSome) then some (c, p, f, i) else none
  | none => none

/-- The flit that an output takes (R170): of the packet promoted first at this knot, else by class 0, 1, 3, 2. -/
def forwardPick (d : Device) (k : Nat) (out : OutPort) : Option (Nat × Nat × Flight × Nat) :=
  let rank (x : Nat × Nat × Flight × Nat) : List Nat :=
    let n := d.net.promoted.findIdx (fun y => y == (x.2.2.1.pid, k))
    [n, clsRank x.1]
  ((upto 4).filterMap (mayLeave d k out)).foldl (fun b x => match b with
    | some y => if lexLt (rank x) (rank y) then some x else some y
    | none => some x) none

/-- A request that can go no further is answered at its knot, from the buffer its header is in; a response is lost. -/
def bounce (key st : Nat) (f : Flight) (d : Device) : Device :=
  if isRequest f.hd then
    let rs := ((d.vc key).runs.map (fun r => if r.pid = f.pid then { r with lo := 0, hi := 1 } else r))
    let d := dropRuns f.pid (fun k => k != key) d
    (putFlight { f with hd := respond f.hd st, data := [], poison := [], flits := 1 } d).setRuns key rs
  else dropFlight f.pid d

/-- What the knot's check of a flit found (R181): single errors are corrected, a payload flit with an uncorrectable error is
poisoned, and a packet with a bad or reserved header is discarded. -/
def flitCheck (k : Nat) (err : FlitErr) (i : Nat) (f : Flight) (d : Device) : Option Flight × Device :=
  let h := knotHalf k
  let src := 256 * hn h + k
  let qs := [err.q0, err.q1, err.q2, err.q3]
  let d := d.when (qs.contains .single) (fun d =>
    ((wwEvent k 0 1 d).bump (thmA (0x2020 + 4 * hn h)) 0 32 1).fault h 0x20 src 0)
  if i = 0 then
    if qs.contains .double || decide (f.hd.type.val ≥ 4) then (none, ((wwEvent k 2 3 (dropFlight f.pid d)).fault h 0x21 src 1))
    else (some f, d)
  else if qs.contains .double then
    let g := { f with poison := (i - 1) :: f.poison.filter (· != i - 1) }
    (some g, (wwEvent k 1 2 (putFlight g d)).fault h 0x21 src 0)
  else (some f, d)

/-- A packet whose tail has left by a slot: at its target, or on its way to another device. -/
def leaveNetwork (f : Flight) (d : Device) : Device :=
  let d := dropFlight f.pid d
  if f.hd.dstDev.val = devId d then { d with net := { d.net with arrived := d.net.arrived ++ [f] } }
  else match routeLink d f.hd.dstDev.val with
    | some l =>
      let x := tabGet (fun _ => ({} : Link)) d.slv.links l
      { d with slv := { d.slv with links := tabSet (fun _ => ({} : Link)) d.slv.links l { x with sent := (f.hd, f.data, f.poison, f.hops) :: x.sent } } }
    | none => d

/-- The response whose header enters the surviving side's seam knot is its request's only answer (R183). -/
def markEntered (hd : Header) (d : Device) : Device :=
  if isRequest hd then d
  else { d with net := { d.net with outst := d.net.outst.map (fun o =>
    if o.src == dstOf hd && o.tag == hd.tag.val then
      { o with parts := o.parts.map (fun p => if p.addr == hd.addr.toNat then { p with entered := true } else p) } else o) } }

/-- Flit i of a packet leaves input buffer `key` of knot k by an output: from its header to its tail the output virtual channel belongs
to the packet (R169). -/
def moveFlit (k : Nat) (out : OutPort) (p i : Nat) (f : Flight) (d : Device) : Device :=
  let c := f.hd.cls.val
  let key := vcKey k p c
  let okey := vcKey k (portIdx out) c
  let tail := i + 1 == f.flits
  let rest := match (d.vc key).runs with
    | r :: rs => if tail then rs else { r with lo := i + 1 } :: rs
    | [] => []
  let d := d.setRuns key rest
  let d := { d with net := { d.net with
    owners := tabSet noOwner d.net.owners okey (if tail then none else some (f.pid, p))
    turn := if i = 0 then tabSet (fun _ => 0) d.net.turn okey ((p + 1) % 8) else d.net.turn
    promoted := if tail then d.net.promoted.filter (fun x => x != (f.pid, k)) else d.net.promoted } }
  match out with
  | .slot _ => if tail then leaveNetwork f d else d
  | _ =>
    let next := vcKey (beyond k out) (oppositePort out) c
    let rs := (d.vc next).runs
    let d := d.setRuns next (if i = 0 then rs ++ [({ pid := f.pid, lo := 0, hi := 1 } : FlitRun)]
      else rs.map (fun r => if r.pid = f.pid then { r with hi := i + 1 } else r))
    d.when (i == 0 && crossesSeam k out) (markEntered f.hd)

/-- An output that is named a second time begins the next knot cycle (log entry 47). -/
def knotCycle (k : Nat) (out : OutPort) (d : Device) : Device :=
  let o := vcKey k (portIdx out) 0
  if d.net.taken.contains o then { d with net := { d.net with cycle := d.net.cycle + 1, taken := [o] } }
  else { d with net := { d.net with taken := d.net.taken ++ [o] } }

/-- KNOT_FORWARD: in one knot cycle an output of a knot takes one flit, checked as it came in. -/
def knotForward (n : Nat) (out : OutPort) (err : FlitErr) (d : Device) : Device :=
  let k := knotOf n
  if !netRuns d (knotHalf k) then d
  else
    let d := knotCycle k out d
    match forwardPick d k out with
    | none => d
    | some (c, p, f, i) =>
      let q := flitCheck k err i f d
      match q.1 with
      | none => q.2
      | some f =>
        match (if i = 0 then turnedBack q.2 k out f else none) with
        | some st => bounce (vcKey k p c) st f q.2
        | none => moveFlit k out p i f q.2
def execKnotForward (k : Fin 50) (out : OutPort) (err : FlitErr) (s : State) : Host.Outcome State Fault Refusal :=
  s.lift (knotForward k.val out err)

/-- Age limit of a class (R171, R187): class 0 has none. -/
def ageLimit (d : Device) (c : Nat) : Nat :=
  match c with
  | 1 => d.fld (thmA 0x2000) 8 8
  | 2 => d.fld (thmA 0x2000) 16 8
  | 3 => d.fld (thmA 0x2000) 24 8
  | _ => 0

/-- The packet's header is at the head of an input buffer of the knot. -/
def headerWaits (d : Device) (k : Nat) (f : Flight) : Bool :=
  (upto 8).any (fun p => match frontFlit d (vcKey k p f.hd.cls.val) with
    | some (g, i) => g.pid == f.pid && i == 0
    | none => false)

/-- AGE_PROMOTION (R171): a header that has waited, at the head of its buffer, 16 times its class's limit. -/
def agePromotion (n pid : Nat) (d : Device) : Device :=
  let k := knotOf n
  match flightOf d pid with
  | some f =>
    if headerWaits d k f && ageLimit d f.hd.cls.val != 0 && !d.net.promoted.contains (pid, k) then
      { d with net := { d.net with promoted := d.net.promoted ++ [(pid, k)] } }
    else d
  | none => d
def execAgePromotion (k : Fin 50) (pid : Nat) (s : State) : Host.Outcome State Fault Refusal := s.lift (agePromotion k.val pid)

/-! ### The loss of the other half (R183, R184) -/

/-- HALF_LOSS_DETECT: the knots of the lost half hold nothing more, and packets cut in two are discarded or completed. -/
def halfLossDetect (h : Half) (d : Device) : Device := if d.up h then d else netCut h d
def execHalfLossDetect (h : Half) (s : State) : Host.Outcome State Fault Refusal := s.lift (halfLossDetect h)

/-- HALF_DOWN_SWEEP: requests to the lost half complete with HALF_DOWN, but those whose response had entered. -/
def halfDownSweep (h : Half) (d : Device) : Device :=
  if d.up h then d
  else
    let hit (p : Part) : Bool := p.half == h && !p.entered
    d.each (d.net.outst.filter (fun o => o.parts.any (fun p => p.answer.isNone && hit p) && knotHalf o.src.knot.val != h)) (fun d o =>
      answerParts hit { status := 4 } o d)
def execHalfDownSweep (h : Half) (s : State) : Host.Outcome State Fault Refusal := s.lift (halfDownSweep h)

end Sys2Proof.Machine
end

