-- ==== Sys2Proof/Machine/Seam.lean ====
section
/-!
DEFINITION. Machine/Seam.lean: spare maps, training, remaps, loss and release of the seam's segments (10_seam).
-/
namespace Sys2Proof.Machine

/-! ### Positions and spares (R274, R275, R285) -/

def segCfg (g : Nat) : Nat := seamA (0x1000 + 64 * g)
def segStat (g : Nat) : Nat := seamA (0x1004 + 64 * g)
/-- Working positions, then spares. -/
def segWork (g : Nat) : Nat := if g < 100 then 64 else 138
def segSpares (g : Nat) : Nat := if g < 100 then 4 else 8
def seamStat : Nat := seamA 4

/-- Failed positions in increasing order, each once. -/
def positions (g : Nat) (xs : List Nat) : List Nat := (upto (segWork g + segSpares g)).filter (fun k => xs.contains k)

/-- The half that drives position k: eastward positions are W's (R274, R275). -/
def drivenBy (g k : Nat) : Half := if g < 100 then (if k < 32 then .w else .e) else halfOf (g % 2)

/-- Each failed position, in order, takes the first spare left that may carry it. -/
def spareTake (may : Nat → Nat → Bool) : List Nat → List Nat → List (Nat × Nat)
  | _, [] => []
  | good, k :: ks =>
    match good.find? (fun s => may s k) with
    | some s => (s, k) :: spareTake may (good.erase s) ks
    | none => spareTake may good ks

/-- A pinned spare carries only positions that the half it names drives (R288; log entry 50). -/
def spareMay (g : Nat) (pins : List (Nat × Nat × Half)) (s k : Nat) : Bool :=
  pins.all (fun p => p.1 != g || p.2.1 != segWork g + s || p.2.2 == drivenBy g k)

/-- The fixed rule: failed working positions, in order, take the good spares, in order: (spare index, position). -/
def spareAssign (g : Nat) (pins : List (Nat × Nat × Half)) (failed : List Nat) : List (Nat × Nat) :=
  spareTake (spareMay g pins) ((upto (segSpares g)).filter (fun s => !failed.contains (segWork g + s)))
    (failed.filter (fun k => decide (k < segWork g)))

/-- A map's fields as its CRC covers them: the generation, the bitmap in the words of SEAM_SEG_FAIL, the spares in those of
SEAM_SEG_SPARE (R286; log entry 87). -/
def mapBytes (m : SegMap) : List Byte :=
  leBytes m.gen 4 ++ leBytes (m.failed.foldl (fun v k => v ||| 2 ^ k) 0) 20
    ++ (upto 8).map (fun s => match m.spares.find? (fun x => x.1 == s) with
      | some x => BitVec.ofNat 8 x.2
      | none => 0xFF)
def mapCrcOk (m : SegMap) : Bool := m.crc == crc32 (mapBytes m)
/-- The map with its CRC made anew. -/
def mapSeal (m : SegMap) : SegMap := { m with crc := crc32 (mapBytes m) }

/-- More failed positions than the segment has spares. -/
def segDegraded (g : Nat) (failed : List Nat) : Bool := decide (failed.length > segSpares g)

/-- The union of one end's map, its peer's and what failed in training, with the spares the fixed rule gives (R285, R287). -/
def mapUnion (g : Nat) (pins : List (Nat × Nat × Half)) (a b : SegMap) (more : List Nat) : SegMap :=
  let failed := positions g (a.failed ++ b.failed ++ more)
  mapSeal { gen := wrap 32 (Nat.max a.gen b.gen + 1), failed := failed
            spares := if segDegraded g failed then [] else spareAssign g pins failed }

/-- Position k has failed: it is in the map, and the spare it is carries nothing (R288). -/
def mapFail (g k : Nat) (m : SegMap) : SegMap :=
  let failed := positions g (k :: m.failed)
  mapSeal { m with failed := failed, spares := if segDegraded g failed then [] else m.spares.filter (fun x => x.1 + segWork g != k) }

/-- What an end reads of its peer's map over the sideband (R286): one whose CRC fails is asked for three times more, then taken as empty. -/
def peerMap (m : SegMap) : SegMap := if mapCrcOk m then m else {}

/-- Degraded segments, as SEAM_STATUS counts them, and the rows whose weft link is down (06_ R182). -/
def countDegraded (d : Device) : Device :=
  let bad (g : Nat) : Bool := d.bit (segStat g) 29
  let d := d.setFld seamStat 7 7 ((upto 110).filter bad).length
  let rows := (upto 5).foldl (fun n y => if bad (100 + 2 * y) || bad (101 + 2 * y) then n + 2 ^ y else n) 0
  let d := d.each ((upto 5).filter (fun y => rows / 2 ^ y % 2 == 1 && !d.net.weftDown.getLsbD y)) (fun d y => cutRow y d)
  { d with net := { d.net with weftDown := BitVec.ofNat 5 rows } }

/-- Show a segment's map in its registers. -/
def showMap (g : Nat) (m : SegMap) (d : Device) : Device :=
  let deg := segDegraded g m.failed
  let d := d.setReg (seamA (0x1008 + 64 * g)) (BitVec.ofNat 32 m.gen)
  let d := d.each (upto 8) (fun d s =>
    let v := match m.spares.find? (fun x => x.1 == s) with
      | some x => x.2
      | none => 0xFF
    d.setFld (seamA (0x100C + 64 * g + 4 * (s / 4))) (8 * (s % 4)) 8 v)
  let d := d.each (upto 5) (fun d n =>
    d.setReg (seamA (0x1020 + 64 * g + 4 * n)) (BitVec.ofNat 32 ((m.failed.filter (fun k => k / 32 == n)).foldl (fun v k => v + 2 ^ (k % 32)) 0)))
  let d := (d.setFld (segStat g) 8 8 m.failed.length).setFld (segStat g) 4 4 m.spares.length
  countDegraded (d.putBit (segStat g) 29 deg)

/-- The ends' maps change: Thimble, where the primary is, mirrors its island's into the record store, and the registers show it (R286). -/
def adoptMaps (g : Nat) (mw me : SegMap) (d : Device) : Device :=
  let s := d.segment g
  let m := match d.sys.primary with
    | .w => mw
    | .e => me
  let d := { d with seam := { d.seam with stored := tabSet (fun _ => ({} : SegMap)) d.seam.stored g m } }
  showMap g m (d.setSegment g { s with mapW := mw, mapE := me })

/-- Both ends take a map. -/
def adoptMap (g : Nat) (m : SegMap) (d : Device) : Device := adoptMaps g m m d

/-! ### Seam up and the recorder (20_ R505, cause 3) -/

/-- Segments between two replayed fields: F(3, y) and F(4, y). -/
def watchedSegs (d : Device) : List Nat :=
  (upto 100).filter (fun g => d.replayed (12 + g / 25) && d.replayed (16 + g / 25))

/-- Do `f`; each watched segment whose seam up changed leaves a gap in both rings. -/
def seamWatch (f : Device → Device) (d : Device) : Device :=
  let d' := f d
  d'.each ((watchedSegs d).filter (fun g => segUp d g true != segUp d' g true || segUp d g false != segUp d' g false))
    (fun d _ => (d.bobGap .w 3).bobGap .e 3)

/-! ### Remaps (R287 to R289) -/

/-- The other half is declared lost: remap triggers are ignored (R290). -/
def peerLost (d : Device) : Bool := d.bit seamStat 31 || !d.up .w || !d.up .e

def lastSeg (g : Nat) (d : Device) : Device := d.setFld seamStat 0 7 g

/-- The row of a network segment. -/
def weftRow (g : Nat) : Nat := (g - 100) / 2
def setPaused (g : Nat) (b : Bool) (d : Device) : Device :=
  if g < 100 then d
  else { d with net := { d.net with weftPaused := BitVec.ofNat 10 (putBits d.net.weftPaused.toNat (g - 100) 1 (b2n b)) } }

/-- The segment's pipes hold nothing that was launched after its release (R289, R292). -/
def segEmpty (s : Segment) : Segment := { s with pipeE := [], pipeW := [] }

/-- A trigger: it joins training that has not ended, else it starts a remap. -/
def startRemap (g : Nat) (d : Device) : Device :=
  let s := d.segment g
  if g ≥ 110 ∨ peerLost d then d
  else if s.training then lastSeg g d
  else
    let d := d.setSegment g { s with remap := true, training := true }
    let d := lastSeg g ((d.setBit (segStat g) 28).bump (segStat g) 16 8 1)
    let d := setPaused g true d
    if g < 100 then d
    else wwEvent (knotId 5 (weftRow g)) 4 5 (wwEvent (knotId 4 (weftRow g)) 4 5 d)

/-- SEAM_TRAIN: a segment's training ends with the positions that failed at each end, and each end adopts the union. -/
def seamTrain (g : Nat) (fw fe : List Nat) (d : Device) : Device :=
  let s := d.segment g
  if !d.up .w || !d.up .e || !s.training then d
  else
    let mw := mapUnion g d.seam.pinned s.mapW (peerMap s.mapE) (fw ++ fe)
    let me := mapUnion g d.seam.pinned s.mapE (peerMap s.mapW) (fw ++ fe)
    let d := if mapCrcOk s.mapW && mapCrcOk s.mapE then d else { d with seam := { d.seam with mapLost := g :: d.seam.mapLost } }
    let d := adoptMaps g mw me d
    let d := d.setSegment g { d.segment g with trained := true, training := false, lostW := false, lostE := false }
    let d := if s.remap then d
      else { d.putBit (segStat g) 28 false with seam := { d.seam with trainedAt := d.now d.sys.primary } }
    let d := lastSeg g d
    if segDegraded g mw.failed then d.fault d.sys.primary 0x2A g mw.failed.length else d
def execSeamTrain (g : Fin 110) (failW failE : List (Fin 146)) (s : State) : Host.Outcome State Fault Refusal :=
  s.lift (seamWatch (seamTrain g.val (failW.map (fun k => k.val)) (failE.map (fun k => k.val))))

/-- REMAP_RELEASE: a remapped segment returns on its own. Live data and seam up come with the first value launched from now on. A segment that
was not released before its remap stays down until the release it waits for (R292). -/
def remapRelease (g : Nat) (d : Device) : Device :=
  let s := d.segment g
  if s.remap && !s.training then
    let d := d.setSegment g { segEmpty s with remap := false }
    let d := setPaused g false (lastSeg g (d.putBit (segStat g) 28 false))
    d.fault d.sys.primary 0x29 g s.mapW.failed.length
  else d
def execRemapRelease (g : Fin 110) (s : State) : Host.Outcome State Fault Refusal := s.lift (seamWatch (remapRelease g.val))

/-- SEAM_PARITY_THRESHOLD: par_thr check mismatches within 65,536 seam cycles. -/
def parityThreshold (g : Nat) (d : Device) : Device := startRemap g (lastSeg g (d.setBit seamStat 26))
def execSeamParityThreshold (g : Fin 110) (s : State) : Host.Outcome State Fault Refusal := s.lift (seamWatch (parityThreshold g.val))

/-- SEAM_FLIT_THRESHOLD: 16 bad flits within 65,536 knot cycles, on a network segment. -/
def flitThreshold (g : Nat) (d : Device) : Device := if g < 100 then d else startRemap g d
def execSeamFlitThreshold (g : Fin 110) (s : State) : Host.Outcome State Fault Refusal := s.lift (seamWatch (flitThreshold g.val))

/-- SEAM_SLIP. -/
def seamSlip (g : Nat) (d : Device) : Device := startRemap g (lastSeg g (d.setBit seamStat 27))
def execSeamSlip (g : Fin 110) (s : State) : Host.Outcome State Fault Refusal := s.lift (seamWatch (seamSlip g.val))

/-- An end drives spare position k: its map gives the spare a position that the end's half drives, and the other half is not lost (R288,
R290). -/
def spareDriven (d : Device) (g k : Nat) : Bool :=
  let s := d.segment g
  let by_ (m : SegMap) (h : Half) : Bool := m.spares.any (fun x => segWork g + x.1 == k && drivenBy g x.2 == h)
  !peerLost d && (by_ s.mapW .w || by_ s.mapE .e)

/-- SEAM_CONTENTION: an end senses on a spare that it drives another value than its own; the position is marked failed. -/
def seamContention (g k : Nat) (d : Device) : Device :=
  if !spareDriven d g k then d
  else
    let s := d.segment g
    startRemap g (lastSeg g ((adoptMaps g (mapFail g k s.mapW) (mapFail g k s.mapE) d).setBit seamStat 28))
def execSeamContention (g : Fin 110) (k : Fin 146) (s : State) : Host.Outcome State Fault Refusal := s.lift (seamWatch (seamContention g.val k.val))

/-! ### Loss (R282, R290, R292) -/

/-- A segment that waits for a release trains anew. -/
def segTrainStart (g : Nat) (d : Device) : Device :=
  (d.setSegment g { segEmpty (d.segment g) with trained := false, training := true, released := false, remap := false }).setBit (segStat g) 28

/-- Disarm a release that is pending; the rejoin restarts at its training step (R292). -/
def disarm (d : Device) : Device :=
  if d.seam.armed.isSome then
    let d := { d with seam := { d.seam with armed := none } }.putBit seamStat 30 false
    let atB (s : Staged) : Bool := match s.plan with
      | .exactly _ => true
      | _ => false
    let d := d.each [Half.w, Half.e] (fun d h => replan h atB .hold d)
    d.each ((upto 110).filter (fun g => !(d.segment g).released && !(d.segment g).remap)) (fun d g => segTrainStart g d)
  else d

/-- SEAM_LOSS: a receiver has seen no valid qualifier for 48 ns. `intoE`: the receiver is half E's. -/
def seamLoss (g : Nat) (intoE : Bool) (d : Device) : Device :=
  let s := d.segment g
  let d := d.setSegment g (if intoE then { s with lostE := true } else { s with lostW := true })
  let h : Half := if intoE then .e else .w
  disarm ((lastSeg g d).fault h 0x28 g 0)

def execSeamLoss (g : Fin 110) (intoE : Bool) (s : State) : Host.Outcome State Fault Refusal :=
  s.lift (seamWatch (seamLoss g.val intoE))

/-- QUALIFIER_RETURN: a loss that was not a half loss is handled as a remap. -/
def qualifierReturn (g : Nat) (intoE : Bool) (d : Device) : Device :=
  let s := d.segment g
  if (if intoE then s.lostE else s.lostW) && !peerLost d then
    startRemap g (d.setSegment g (if intoE then { s with lostE := false } else { s with lostW := false }))
  else d
def execQualifierReturn (g : Fin 110) (intoE : Bool) (s : State) : Host.Outcome State Fault Refusal := s.lift (seamWatch (qualifierReturn g.val intoE))

/-- Half h is declared lost (R290): its segments are down at the survivor until a rejoin. -/
def seamHalfLost (h : Half) (d : Device) : Device :=
  let d := disarm ({ d with seam := { d.seam with rejoin := false } }.setBit seamStat 31)
  d.each (upto 110) (fun d g =>
    let s := d.segment g
    let d := setPaused g false (d.putBit (segStat g) 28 false)
    d.setSegment g { segEmpty s with
      trained := false, released := false, remap := false, training := false
      lostE := s.lostE || h == Half.w, lostW := s.lostW || h == Half.e })

/-- The returning half's controller loads its maps from the record store (R291 step 1). -/
def seamMapsLoad (h : Half) (d : Device) : Device :=
  d.each (upto 110) (fun d g =>
    let m := tabGet (fun _ => ({} : SegMap)) d.seam.stored g
    let s := d.segment g
    d.setSegment g (if h = Half.w then { s with mapW := m } else { s with mapE := m }))

/-- A device reset drops every segment; the maps come back from the record store (R293). -/
def seamReset (d : Device) : Device :=
  let d := d.clearRegs (fun a => decide (seamA 0 ≤ a ∧ a < seamA 0x10000))
  let d := { d with
    seam := { d.seam with segs := [], armed := none, pinned := [], rejoin := false, trainedAt := 0, mapLost := [] }
    net := { d.net with weftDown := 0, weftPaused := 0 } }
  d.each d.seam.stored (fun d (kv : Nat × SegMap) => adoptMap kv.1 kv.2 d)

/-- Training starts in every segment (R291 step 3, R293). -/
def seamTrainStart (d : Device) : Device := d.each (upto 110) (fun d g => segTrainStart g (setPaused g false d))

/-- Every trained segment that is not degraded releases; one that is remapping does so when its remap ends (R291 step 6, R292, R293). -/
def seamReleaseAll (d : Device) : Device :=
  d.each (upto 110) (fun d g =>
    let s := d.segment g
    if s.trained && !s.released && !d.bit (segStat g) 29 then
      (d.setSegment g { segEmpty s with released := true }).when (decide (100 ≤ g)) (restartRow (weftRow g))
    else d)

/-! ### Commands of the controller (R289, R291, R292, R294) -/

/-- RETRAIN_SEGMENT, RETRAIN_ALL: only Thimble. -/
def retrainSegment (mc : MClass) (g : Nat) (d : Device) : Device :=
  d.byThimble mc (fun d => startRemap g (d.setFld (seamA 0) 0 7 g))
def execRetrainSegment (mc : MClass) (g : BitVec 7) (s : State) : Host.Outcome State Fault Refusal := s.lift (seamWatch (retrainSegment mc g.toNat))
def retrainAll (mc : MClass) (d : Device) : Device := d.byThimble mc (fun d => d.each (upto 110) (fun d g => startRemap g d))
def execRetrainAll (mc : MClass) (s : State) : Host.Outcome State Fault Refusal := s.lift (seamWatch (retrainAll mc))

/-- B may be armed (R291 steps 3 to 5; log entry 88): training has ended and the Larks are aligned, both 200 µs or more before B, and B is a whole
microsecond. -/
def armable (d : Device) (b : Nat) : Bool :=
  (upto 110).all (fun g => !(d.segment g).training || (d.segment g).remap) && !d.seam.rejoin && (d.aligned .w || d.aligned .e)
    && b % (1000 * 65536) == 0 && decide (Nat.max d.seam.trainedAt d.time.alignedAt + 200000 * 65536 ≤ b)

/-- ARM_RELEASE: only Thimble; a boundary that has passed sets release_err. A returning half's channels commit at the boundary (08_ R245). -/
def armRelease (mc : MClass) (d : Device) : Device :=
  d.byThimble mc (fun d =>
    let now := d.now d.sys.primary
    let b := (nearTime now (d.fld (seamA 0xC) 0 32) (d.fld (seamA 8) 0 30 * 65536)).toNat
    if b ≤ now then d.setBit seamStat 29
    else if armable d b then
      let d := { d with seam := { d.seam with armed := some b } }.setBit seamStat 30
      d.each ([Half.w, Half.e].filter (fun h => d.lost h && d.up h)) (fun d h => replan h heldPlan (.exactly b) d)
    else d)
def execArmRelease (mc : MClass) (s : State) : Host.Outcome State Fault Refusal := s.lift (armRelease mc)

/-- The seam-map reset command empties the maps in both islands and in the record store (R287). -/
def seamMapReset (d : Device) : Device :=
  let d := { d with seam := { d.seam with stored := [], mapLost := [] } }
  d.each (upto 110) (fun d g => adoptMap g {} d)

/-- SEAM_SEG_CFG_g as stored (R295), and a hold register (R296). -/
def segCfgStored (g : Nat) (v : Word) : Word :=
  let clk (v : Word) (lo : Nat) : Word := if g < 100 then (if fieldOf v lo 4 ≥ 12 then withField v lo 4 15 else v) else withField v lo 4 0
  let v := if fieldOf v 24 8 = 0 then withField v 24 8 1 else v
  clk (clk (v &&& 0xFF00FF01) 8) 12
def seamHoldStored (v : Word) : Word := (upto 16).foldl (fun (v : Word) i => if fieldOf v (2 * i) 2 = 3 then withField v (2 * i) 2 0 else v) v

/-- What SEAM_SEG_STATUS_g and SEAM_UP_n read: up in each direction comes from the facts (R283). -/
def segStatRead (d : Device) (g : Nat) : Word :=
  withField (withField (d.reg (segStat g)) 31 1 (b2n (segUp d g false))) 30 1 (b2n (segUp d g true))
def seamUpRead (d : Device) (n : Nat) : Word :=
  BitVec.ofNat 32 (((upto 32).filter (fun i => decide (32 * n + i < 110) && segUp d (32 * n + i) false && segUp d (32 * n + i) true)).foldl
    (fun v i => v + 2 ^ i) 0)

end Sys2Proof.Machine
end

