-- ==== Sys2Proof/Machine/Lanes.lean ====
section
/-!
DEFINITION. Machine/Lanes.lean: serial lanes: enabling, idle and bursts, adaptation, the raw port, measurement
(11_transceivers).
-/
namespace Sys2Proof.Machine

def laneHalf (l : Nat) : Half := if l < 72 then .w else .e
def laneFlag (l k : Nat) (d : Device) : Device := d.setBit (laneStat l) k
/-- w of XCV_LANE_CTRL. -/
def laneWidth (d : Device) (l : Nat) : Nat := match d.fld (laneCtl l) 23 2 with
  | 0 => 32
  | 1 => 40
  | 2 => 64
  | _ => 80
def lanePam4 (d : Device) (l : Nat) : Bool := d.bit (laneCtl l) 25

/-! ### Equaliser registers (R304 to R306, R323) -/

/-- CTLE, FFE and DFE registers, in the order of their offsets, and the stage of each (0 CTLE, 1 FFE, 2 DFE). -/
def eqRegs : List (Nat × Nat) := [(0x12C, 0), (0x130, 1), (0x134, 1), (0x138, 2), (0x13C, 2), (0x140, 2)]
def eqMode (d : Device) (l stage : Nat) : Nat := d.fld (laneA l 0x128) (2 * stage) 2
/-- The register (starting) value of an equaliser register. -/
def eqStart (d : Device) (l i : Nat) : Word := (d.lane l).start.getD i (regDefault (laneA l ((eqRegs.getD i (0x12C, 0)).1)))

/-- Stages that adapt go back to their register values. -/
def eqRestart (all : Bool) (l : Nat) (d : Device) : Device :=
  d.each eqRegs.zipIdx (fun d x => if all || eqMode d l x.1.2 != 0 then d.setReg (laneA l x.1.1) (eqStart d l x.2) else d)

/-- A write of an equaliser register: in use at once, and the new starting point. -/
def eqWrite (l i : Nat) (v : Word) (d : Device) : Device :=
  let x := d.lane l
  let start := (upto 6).map (fun j => if j = i then v else eqStart d l j)
  (d.setLane l { x with start := start }).setReg (laneA l ((eqRegs.getD i (0x12C, 0)).1)) v

/-- A stage that adapts: always in mode 2, until the receiver has converged in mode 1 (R305). -/
def eqAdapts (d : Device) (l stage : Nat) : Bool := eqMode d l stage == 2 || (eqMode d l stage == 1 && !d.bit (laneA l 0x128) 8)

/-- ADAPT_CONVERGED: a locked receiver's stages that adapt take the values adaptation found. -/
def adaptConverged (l : Nat) (taps : List Word) (d : Device) : Device :=
  if !d.laneOnEn l || (d.lane l).frozen || !d.bit (laneStat l) 30 then d
  else
    let d := d.each eqRegs.zipIdx (fun d x => if eqAdapts d l x.1.2 then d.setReg (laneA l x.1.1) (nth taps x.2 (d.reg (laneA l x.1.1))) else d)
    d.setBit (laneA l 0x128) 8
def execAdaptConverged (l : Fin 144) (taps : List (BitVec 32)) (s : State) : Host.Outcome State Fault Refusal :=
  s.lift (adaptConverged l.val taps)

/-- ADAPT_RESTART. -/
def adaptRestart (l : Nat) (d : Device) : Device := (eqRestart false l d).putBit (laneA l 0x128) 8 false
def execAdaptRestart (l : Fin 144) (s : State) : Host.Outcome State Fault Refusal := 
  s.lift (fun d => d.atBlock (laneDomain l.val) false (adaptRestart l.val))

/-- XCV_RX_ADAPT as written: mode 3 is stored as 2; restart acts. -/
def adaptWrite (l : Nat) (v : Word) (d : Device) : Device :=
  let one (v : Word) (lo : Nat) : Word := if fieldOf v lo 2 = 3 then withField v lo 2 2 else v
  let w := one (one (one (v &&& 0x3F) 0) 2) 4
  let a := laneA l 0x128
  let d := d.setReg a (w ||| (d.reg a &&& 0x100))
  if fieldOf v 31 1 = 1 then adaptRestart l d else d

/-- XCV_TX_FIR: a write whose taps sum above 63 is ignored (R304). -/
def firOk (v : Word) : Bool :=
  let t (lo : Nat) : Int := signed 6 (fieldOf v lo 6)
  let side : List Int := [t 24, t 18, t 6, t 0]
  decide (side.foldl (fun n x => n + x.natAbs) (fieldOf v 12 6) ≤ 63) && side.all (fun x => decide (-31 ≤ x))
def firWrite (l : Nat) (v : Word) (d : Device) : Device :=
  let v := v &&& 0x3FFFFFFF
  if firOk v then d.setReg (laneA l 0x120) v else laneFlag l 2 d

/-! ### Idle requests (R308, R309) -/

/-- idle_cmd: honoured of lanes with use 1, 2 or 3. -/
def idleCmd (l : Nat) (enter : Bool) (d : Device) : Device :=
  let u := d.laneUse l
  if u = 1 ∨ u = 2 ∨ u = 3 then laneEval l (d.setLane l { d.lane l with idle := enter }) else laneFlag l 6 d
def execEnterIdle (l : Fin 144) (s : State) : Host.Outcome State Fault Refusal := s.lift (fun d => d.atBlock (laneDomain l.val) false (idleCmd l.val true))
def execExitIdle (l : Fin 144) (s : State) : Host.Outcome State Fault Refusal := s.lift (fun d => d.atBlock (laneDomain l.val) false (idleCmd l.val false))

/-- IDLE_REQ: the port's level; a lane that is not raw does not honour it. -/
def idleReq (l : Nat) (level : Bool) (d : Device) : Device :=
  let d := d.setLane l { d.lane l with idleReq := level }
  if d.laneUse l = 1 then laneEval l d else if level then laneFlag l 6 d else d
def execIdleReq (l : Fin 144) (level : Bool) (s : State) : Host.Outcome State Fault Refusal := s.lift (idleReq l.val level)

/-- The protocol block of a lane moves it (R308). -/
def blockIdle (l : Nat) (enter : Bool) (d : Device) : Device := laneEval l (d.setLane l { d.lane l with idle := enter })

/-! ### Enabling (R300 to R303) -/

/-- With a reference of `hz`, the lane's settings keep to R300, R301 and R302: N and R, f_vco, the baud rate, the parallel clock, the recovered
clock. -/
def laneFits (d : Device) (l hz : Nat) : Bool :=
  let n := d.fld (laneA l 0x104) 0 12
  let r := d.fld (laneCtl l) 0 10
  let unit := 2 ^ 24 * 2 ^ d.fld (laneCtl l) 21 2
  let vco := hz * (n * 2 ^ 24 + d.fld (laneA l 0x108) 0 24)
  let line := if lanePam4 d l then 2 * vco else vco
  let low := if lanePam4 d l then 10000000000 else 1000000000
  decide (16 ≤ n ∧ 16 ≤ r) && decide (8000000000 * 2 ^ 24 ≤ vco ∧ vco ≤ 32000000000 * 2 ^ 24)
    && decide (low * unit ≤ vco ∧ vco ≤ 32000000000 * unit)
    && decide (line ≤ 800000000 * laneWidth d l * unit)
    && decide (10000000 * r * unit ≤ line ∧ line ≤ 500000000 * r * unit)

def quadRefOk (d : Device) (l : Nat) : Bool := d.bit (quadA (l / 4) 0) 31

/-- The lane is disabled: its adaptation is lost. -/
def laneDisable (l : Nat) (d : Device) : Device :=
  let d := eqRestart true l d
  let d := (((d.putBit (laneStat l) 31 false).putBit (laneStat l) 30 false).putBit (laneA l 0x128) 8 false)
  let x := d.lane l
  laneEval l (d.setLane l { x with idle := true, idleReq := false, burst := false, frozen := false, tx := [], rx := [], txBegun := false })

/-- A write of XCV_LANE_CTRL but its cmd. use, pam4, width, d and rclk_div are taken only while en is 0 (R303). The
limits of R300 to R302 rest on the reference's frequency, from 10 to 800 MHz (R299), which the device's state does not hold: free (log entry 1). -/
def laneCtrlWrite (l : Nat) (v : Word) (d : Device) : Device :=
  let a := laneCtl l
  let old := d.reg a
  let v := v &&& 0x1FFCF3FF
  let v := if fieldOf v 12 4 ≥ 12 then withField v 12 4 15 else v
  let fixed : Word := 0x1FE003FF
  let en := fieldOf v 18 1 == 1
  if fieldOf old 18 1 = 1 then
    let d := if v &&& fixed = old &&& fixed then d else laneFlag l 2 d
    let d := d.setReg a ((v &&& ~~~fixed) ||| (old &&& fixed))
    if en then d else laneDisable l d
  else if !en then laneEval l (d.setReg a v)
  else
    let d := d.setReg a v
    let q := d.takeFree
    if !laneFits d l (10000000 + q.1 % 790000001) then laneFlag l 2 (q.2.putBit a 18 false)
    else
      let d := q.2
      let start := eqRegs.map (fun x => d.reg (laneA l x.1))
      laneEval l ((d.setLane l { d.lane l with start := start, idle := true, frozen := false }).putBit (laneStat l) 31 (quadRefOk d l))

/-- The whole register: settings, then cmd. -/
def laneCtrlCmd (l : Nat) (v : Word) (d : Device) : Device :=
  let d := laneCtrlWrite l v d
  match fieldOf v 29 3 with
  | 1 => idleCmd l true d
  | 2 => idleCmd l false d
  | _ => d
def execLaneEnable (l : Fin 144) (v : BitVec 32) (s : State) : Host.Outcome State Fault Refusal := 
  s.lift (fun d => d.atBlock (laneDomain l.val) false (laneCtrlCmd l.val v))

/-- XCV_LANE_N and XCV_LANE_F: taken only while en is 0. -/
def laneRateWrite (l o : Nat) (v : Word) (d : Device) : Device :=
  let a := laneA l o
  if d.laneOnEn l then (if v = d.reg a then d else laneFlag l 2 d) else d.setReg a v

/-! ### The reference (R299) -/

def quadLanes (q : Nat) : List Nat := (upto 4).map (fun i => 4 * q + i)

def refLoss (q : Nat) (d : Device) : Device :=
  let d := d.putBit (quadA q 0) 31 false
  d.each (quadLanes q) (fun d l =>
    let d := if d.laneOnEn l then d.putBit (laneStat l) 30 false else d
    laneEval l d)
def execRefLoss (q : Fin 36) (s : State) : Host.Outcome State Fault Refusal := s.lift (refLoss q.val)

/-- REF_RECOVER: the reference has been good for 100 µs. -/
def refRecover (q : Nat) (d : Device) : Device :=
  if d.fld (quadA q 0) 0 6 = 63 ∨ !d.domOn (32 + q / 3) then d
  else
    let d := d.setBit (quadA q 0) 31
    d.each (quadLanes q) (fun d l => laneEval l (if d.laneOnEn l then d.setBit (laneStat l) 31 else d))
def execRefRecover (q : Fin 36) (s : State) : Host.Outcome State Fault Refusal := s.lift (refRecover q.val)

/-! ### The receiver (R302, R306, R307, R310) -/

/-- The receiver can lock: enabled, its group On, its reference good. -/
def rxAble (d : Device) (l : Nat) : Bool := d.laneOnEn l && d.blockRuns (laneDomain l) && quadRefOk d l

/-- The receiver locks: adaptation goes on from the values it kept. XCV_LANE_PPM shows the offset of what it receives, a free value (R302). -/
def rxLock (l : Nat) (d : Device) : Device :=
  if rxAble d l then
    let d := ((d.setLane l { d.lane l with frozen := false }).putBit (laneStat l) 28 false).setBit (laneStat l) 30
    let q := d.takeFree
    q.2.setFld (laneA l 0x110) 0 16 (q.1 % 65536)
  else d

/-- RX_SQUELCH: the receiver is idle. -/
def rxSquelch (l : Nat) (d : Device) : Device :=
  ((d.setLane l { d.lane l with frozen := true }).setBit (laneStat l) 28).putBit (laneStat l) 30 false
def execRxSquelch (l : Fin 144) (s : State) : Host.Outcome State Fault Refusal := s.lift (rxSquelch l.val)

/-- RX_BURST: an idle receiver locks on the burst; burst is high for a cycle at its delimiter. -/
def rxBurst (l : Nat) (d : Device) : Device :=
  if d.bit (laneStat l) 28 && rxAble d l then
    let d := rxLock l d
    d.setLane l { d.lane l with delim := true, slip := 0 }
  else d
def execRxBurst (l : Fin 144) (s : State) : Host.Outcome State Fault Refusal := s.lift (rxBurst l.val)

/-- BURST_TIMEOUT: rx_idle has fallen and no delimiter came. -/
def burstTimeout (l : Nat) (d : Device) : Device :=
  if d.bit (laneStat l) 28 && rxAble d l then laneFlag l 7 (d.putBit (laneStat l) 28 false) else d
def execBurstTimeout (l : Fin 144) (s : State) : Host.Outcome State Fault Refusal := s.lift (burstTimeout l.val)

/-- ORDINARY_ACQUISITION: locked rises without a burst. -/
def execOrdinaryAcquisition (l : Fin 144) (s : State) : Host.Outcome State Fault Refusal := s.lift (rxLock l.val)

/-- LANE_LOSS_OF_LOCK. -/
def lossOfLock (l : Nat) (d : Device) : Device :=
  if d.bit (laneStat l) 30 && !d.bit (laneStat l) 28 then
    (laneFlag l 3 (d.putBit (laneStat l) 30 false)).fault (laneHalf l) 0x42 l 0
  else d
def execLaneLossOfLock (l : Fin 144) (s : State) : Host.Outcome State Fault Refusal := s.lift (lossOfLock l.val)

/-! ### PRBS (R316, R317) -/

/-- The two taps of a pattern, by gen_sel or chk_sel. -/
def prbsTaps : Nat → Nat × Nat
  | 1 => (7, 6)
  | 2 => (9, 5)
  | 3 => (15, 14)
  | 4 => (23, 18)
  | _ => (31, 28)

/-- The next bit of a sequence from its last 31 bits (the newest lowest). -/
def prbsBit (sel : Nat) (s : BitVec 31) : Bool := s.getLsbD ((prbsTaps sel).1 - 1) ^^ s.getLsbD ((prbsTaps sel).2 - 1)
def shiftIn (s : BitVec 31) (b : Bool) : BitVec 31 := (s.shiftLeft 1) ||| BitVec.ofNat 31 (b2n b)

/-- `n` bits of a sequence as a word, bit 0 first, and the register after them. -/
def prbsWord (sel n : Nat) (inv : Bool) (s : BitVec 31) : BitVec 80 × BitVec 31 :=
  (upto n).foldl (fun (w : BitVec 80 × BitVec 31) i =>
    let b := prbsBit sel w.2
    (if b ^^ inv then w.1 ||| BitVec.ofNat 80 (2 ^ i) else w.1, shiftIn w.2 b)) (0, s)

def prbsCtl (l : Nat) : Nat := laneA l 0x180
def prbsStat (l : Nat) : Nat := laneA l 0x184

/-- The checker over one received word: its register runs free, and each bit that differs counts. -/
def prbsCheck (l : Nat) (word : BitVec 80) (d : Device) : Device :=
  let x := d.lane l
  let n := laneWidth d l
  let hist := (upto n).foldl (fun s i => shiftIn s (word.getLsbD i ^^ d.bit (prbsCtl l) 7)) x.rxHist
  let sel := d.fld (prbsCtl l) 8 3
  if sel = 0 ∨ !d.bit (prbsStat l) 31 then d.setLane l { x with rxHist := hist }
  else
    let q := prbsWord sel n (d.bit (prbsCtl l) 7) x.chk
    let e := ((upto n).filter (fun i => word.getLsbD i != q.1.getLsbD i)).length
    d.setLane l { x with rxHist := hist, chk := q.2, errs := sat (2 ^ 48 - 1) (x.errs + e), bits := sat (2 ^ 48 - 1) (x.bits + n) }

/-- PRBS_SYNC: the checker has matched 64 bits, and runs free from the bits it received. -/
def prbsSync (l : Nat) (d : Device) : Device :=
  if d.fld (prbsCtl l) 8 3 = 0 then d
  else (d.setLane l { d.lane l with chk := (d.lane l).rxHist }).setBit (prbsStat l) 31
def execPrbsSync (l : Fin 144) (s : State) : Host.Outcome State Fault Refusal := s.lift (prbsSync l.val)

def prbsLost (l : Nat) (d : Device) : Device :=
  if d.bit (prbsStat l) 31 then (d.putBit (prbsStat l) 31 false).setBit (prbsStat l) 30 else d
def execPrbsSyncLost (l : Fin 144) (s : State) : Host.Outcome State Fault Refusal := s.lift (prbsLost l.val)

def prbsInject (l : Nat) (d : Device) : Device := d.setLane l { d.lane l with inject := true }
def execPrbsInject (l : Fin 144) (s : State) : Host.Outcome State Fault Refusal := 
  s.lift (fun d => d.atBlock (laneDomain l.val) false (prbsInject l.val))

def prbsClear (l : Nat) (d : Device) : Device := d.setLane l { d.lane l with errs := 0, bits := 0 }
def execPrbsClear (l : Fin 144) (s : State) : Host.Outcome State Fault Refusal := 
  s.lift (fun d => d.atBlock (laneDomain l.val) false (prbsClear l.val))

/-- PRBS_ERR_READ: ERR_LO shows the errors, and the three other halves are latched with it. -/
def prbsErrRead (l : Nat) (d : Device) : Device :=
  let x := d.lane l
  let d := d.setReg (laneA l 0x188) (BitVec.ofNat 32 x.errs)
  let d := d.setReg (laneA l 0x18C) (BitVec.ofNat 32 (x.errs / 2 ^ 32))
  let d := d.setReg (laneA l 0x190) (BitVec.ofNat 32 x.bits)
  d.setReg (laneA l 0x194) (BitVec.ofNat 32 (x.bits / 2 ^ 32))
def execPrbsErrRead (l : Fin 144) (s : State) : Host.Outcome State Fault Refusal :=
  s.lift (fun d => d.atBlock (laneDomain l.val) false (fun d =>
    let d := prbsErrRead l.val d
    d.answer 0 (leBytes (d.reg (laneA l.val 0x188)).toNat 4)))

/-- XCV_PRBS_CTRL but its cmd: selects 6 and 7 are stored as 0; a checker that is turned off or changed leaves sync. -/
def prbsCtrlWrite (l : Nat) (v : Word) (d : Device) : Device :=
  let one (v : Word) (lo : Nat) : Word := if fieldOf v lo 3 ≥ 6 then withField v lo 3 0 else v
  let w := one (one (v &&& 0x7F8) 8) 4
  let old := d.reg (prbsCtl l)
  let d := d.setReg (prbsCtl l) w
  let d := if fieldOf w 7 4 = fieldOf old 7 4 then d else d.putBit (prbsStat l) 31 false
  let d := if fieldOf w 4 3 = fieldOf old 4 3 then d else d.setLane l { d.lane l with genState := 0x7FFFFFFF }
  match fieldOf v 29 3 with
  | 1 => prbsInject l d
  | 2 => prbsClear l d
  | _ => d

/-! ### The eye (R318) -/

def eyeStart (l : Nat) (d : Device) : Device := (d.setLane l { d.lane l with eyeRun := true }).putBit (laneA l 0x1A0) 30 false
def execEyeStart (l : Fin 144) (s : State) : Host.Outcome State Fault Refusal := 
  s.lift (fun d => d.atBlock (laneDomain l.val) false (eyeStart l.val))

def eyeDone (l count : Nat) (d : Device) : Device :=
  if (d.lane l).eyeRun then
    ((d.setLane l { d.lane l with eyeRun := false }).setReg (laneA l 0x1A4) (BitVec.ofNat 32 (sat (2 ^ 32 - 1) count))).setBit (laneA l 0x1A0) 30
  else d
def execEyeDone (l : Fin 144) (count : Nat) (s : State) : Host.Outcome State Fault Refusal := s.lift (eyeDone l.val count)

/-- XCV_EYE_CTRL: eye 3 is stored as 1, offsets clamp; start runs a measurement. -/
def eyeCtrlWrite (l : Nat) (v : Word) (d : Device) : Device :=
  let clamp (lo hi x : Int) : Int := if x < lo then lo else if x > hi then hi else x
  let w := v &&& 0x00FC7F7F
  let w := if fieldOf w 18 2 = 3 then withField w 18 2 1 else w
  let w := withField w 8 7 (unsign 7 (clamp (-31) 31 (signed 7 (fieldOf w 8 7))))
  let w := withField w 0 7 (unsign 7 (clamp (-32) 31 (signed 7 (fieldOf w 0 7))))
  let d := d.setReg (laneA l 0x1A0) (w ||| (d.reg (laneA l 0x1A0) &&& 0x40000000))
  if fieldOf v 31 1 = 1 then eyeStart l d else d

/-! ### The raw port (R301, R309, R312, R313) -/

def maskWord (n : Nat) (w : BitVec 80) : BitVec 80 := w &&& BitVec.ofNat 80 (2 ^ n - 1)
/-- The alternating pattern of R309, as words of bits sent lowest first. -/
def alternating (pam4 : Bool) : BitVec 80 := if pam4 then 0x88888888888888888888 else 0xAAAAAAAAAAAAAAAAAAAA

/-- A word as the line carries it (R301). -/
def lineWord (d : Device) (l : Nat) (w : BitVec 80) : BitVec 80 := maskWord (laneWidth d l) (if d.bit (laneCtl l) 20 then ~~~w else w)

/-- The next n bits of a sequence. -/
def prbsBits (sel : Nat) : Nat → BitVec 31 → List Bool
  | 0, _ => []
  | n + 1, s => prbsBit sel s :: prbsBits sel n (shiftIn s (prbsBit sel s))

/-- The delimiter of a burst, bit 0 first. -/
def delimiter : BitVec 64 := 0x3E5CA1907B24D6F8

/-- The training burst of 1,024 UI: alternating pattern, PRBS9 seeded with all ones, delimiter (R309); one bit a UI in NRZ, two in PAM4. -/
def burstBits (pam4 : Bool) : List Bool :=
  let k := if pam4 then 2 else 1
  (upto (512 * k)).map (fun i => (alternating pam4).getLsbD (i % 4)) ++ prbsBits 2 (448 * k) 0x7FFFFFFF
    ++ (upto (64 * k)).map (fun i => delimiter.getLsbD (i % 64))

/-- The bits of a list as a word, the first lowest. -/
def bitsWord (bs : List Bool) : BitVec 80 := bs.zipIdx.foldl (fun (w : BitVec 80) x => if x.1 then w ||| BitVec.ofNat 80 (2 ^ x.2) else w) 0

/-- TX_BURST_DONE: the burst's last bits have gone, and the first data word begins. -/
def burstDone (l : Nat) (d : Device) : Device :=
  let x := d.lane l
  if x.burst then
    let bs := burstBits (lanePam4 d l)
    d.setLane l { x with burst := false, sent := lineWord d l (bitsWord (bs.drop (bs.length - laneWidth d l))) }
  else d
def execTxBurstDone (l : Fin 144) (s : State) : Host.Outcome State Fault Refusal := s.lift (burstDone l.val)

/-- RAW_TX_WORD: a word time of the transmitter outside idle and burst. -/
def rawTx (l : Nat) (d : Device) : Device :=
  if !d.laneOnEn l || d.bit (laneStat l) 29 || (d.lane l).burst then d
  else
    let x := d.lane l
    let n := laneWidth d l
    let gen := d.fld (prbsCtl l) 4 3
    let out (w : BitVec 80) : BitVec 80 := lineWord d l (if x.inject then w ^^^ 1 else w)
    let raw := d.laneUse l == 1
    if gen ≠ 0 then
      let q := prbsWord gen n (d.bit (prbsCtl l) 3) x.genState
      d.setLane l { x with genState := q.2, sent := out q.1, inject := false, tx := if raw then x.tx.drop 1 else x.tx, txBegun := x.txBegun || (raw && !x.tx.isEmpty) }
    else if !raw then d
    else match x.tx with
      | w :: ws => d.setLane l { x with tx := ws, sent := out w, inject := false, txBegun := true }
      | [] =>
        let d := if x.txBegun then laneFlag l 4 d else d
        d.setLane l { d.lane l with sent := out (alternating (lanePam4 d l)), inject := false }
def execRawTxWord (l : Fin 144) (s : State) : Host.Outcome State Fault Refusal := s.lift (rawTx l.val)

/-- The field whose edge a lane's port lies on (R312). -/
def laneField (l : Nat) : Nat := if l < 72 then l % 72 / 18 else 28 + l % 72 / 18

/-- The word that the boundary cuts out of the last word of the line and this one: `slip` bits back (R313). -/
def slipped (n slip : Nat) (last word : BitVec 80) : BitVec 80 :=
  maskWord n (word.shiftLeft slip ||| (maskWord n last).ushiftRight (n - slip))

/-- RAW_RX_WORD: a received word, as the line carries it. -/
def rawRx (l : Nat) (word : BitVec 80) (d : Device) : Device :=
  if !d.laneOnEn l || !d.bit (laneStat l) 30 then d
  else
    let n := laneWidth d l
    let word := maskWord n (if d.bit (laneCtl l) 19 then ~~~word else word)
    let w := if (d.lane l).slip = 0 then word else slipped n (d.lane l).slip (d.lane l).line word
    let d := prbsCheck l w (d.setLane l { d.lane l with line := word })
    if d.laneUse l ≠ 1 ∨ d.fld (laneCtl l) 12 4 = 15 ∨ d.feeds (laneField l) then d
    else
      let h := laneHalf l
      let d := if d.replayed (laneField l) then d.bobData h 0 l (d.bobCycle h) (leBytes w.toNat ((n + 7) / 8)) else d
      let x := d.lane l
      if x.rx.length < 32 then d.setLane l { x with rx := x.rx ++ [w] } else laneFlag l 5 d
def execRawRxWord (l : Fin 144) (word : BitVec 80) (s : State) : Host.Outcome State Fault Refusal := s.lift (rawRx l.val word)

/-- RX_SLIP: the word boundary moves by one bit, or one symbol. -/
def rxSlip (l : Nat) (d : Device) : Device :=
  if d.laneUse l ≠ 1 then d
  else
    let step := if lanePam4 d l then 2 else 1
    d.setLane l { d.lane l with slip := ((d.lane l).slip + step) % laneWidth d l }
def execRxSlip (l : Fin 144) (s : State) : Host.Outcome State Fault Refusal := s.lift (rxSlip l.val)

/-- XCV_QUAD_CFG.ref_sel as stored: codes of 09_ R273 and 34. -/
def refSelWrite (q : Nat) (v : Word) (d : Device) : Device :=
  let c := if fieldOf v 0 6 ≤ 34 then fieldOf v 0 6 else 63
  if c = d.fld (quadA q 0) 0 6 then d else clockCheck (32 + q / 3) (refLoss q (d.setFld (quadA q 0) 0 6 c))

end Sys2Proof.Machine
end

