-- ==== Sys2Proof/Machine/Ethernet.lean ====
section
/-!
DEFINITION. Machine/Ethernet.lean: the Ethernet blocks up to their network writes, which are in EthDma.lean
(12_protocol_blocks R325 to R333, R343).
-/
namespace Sys2Proof.Machine

def Device.ethBlk (d : Device) (m : Nat) : EthBlock := tabGet ethReset d.eth m
def Device.setEth (d : Device) (m : Nat) (x : EthBlock) : Device := { d with eth := tabSet ethReset d.eth m x }

/-- Clear the write-1-to-clear bits of a register that a write names. -/
def Device.ack (d : Device) (a : Nat) (mask v : Word) : Device := d.setReg a (d.reg a &&& ~~~(v &&& mask))

/-! ### Configuration (R325 to R327) -/

def ethCfgA (m : Nat) : Nat := ethA m 0
def ethCtl (m p : Nat) : Nat := ethA m (0x100 + 0x40 * p)
def ethStat (m p : Nat) : Nat := ethA m (0x104 + 0x40 * p)
def ethRule (m p r o : Nat) : Nat := ethA m (0x1000 + 0x100 * p + 0x20 * r + o)
def ethCfg (d : Device) (m : Nat) : Nat := d.fld (ethCfgA m) 28 3
def ethHalf (m : Nat) : Half := halfOf (m / 8)

/-- Ports of a configuration. -/
def ethPorts (cfg : Nat) : Nat := nth [1, 2, 4, 2, 8, 8, 8] cfg 0

/-- The FEC column: 0 none, 1 RS(544,514), 2 a choice. -/
def ethFec (cfg : Nat) : Nat := nth [1, 1, 1, 2, 1, 2] cfg 0

/-- The port runs with FEC. -/
def ethFecOn (d : Device) (m p : Nat) : Bool := ethFec (ethCfg d m) == 1 || (ethFec (ethCfg d m) == 2 && d.bit (ethCtl m p) 29)

/-- Quads the block reaches (R325). -/
def ethQuads (m : Nat) : List Nat := [18 * (m / 8) + m % 8, 18 * (m / 8) + m % 8 + 8]

/-- The domains a block needs: its own, its half's FEC engines where it uses FEC, and its transceiver groups (R326). -/
def ethDomains (d : Device) (m cfg : Nat) : List Nat :=
  let fec := ethFec cfg == 1 || (ethFec cfg == 2 && (upto (ethPorts cfg)).any (fun p => d.bit (ethCtl m p) 29))
  (56 + 2 * (m / 8)) :: (if fec then [57 + 2 * (m / 8)] else []) ++ (ethQuads m).map (fun q => 32 + q / 3)

/-- A write of ETH_BLK_CFG (R327, with the rule of R303). -/
def ethBlkWrite (m : Nat) (v : Word) (d : Device) : Device :=
  let a := ethCfgA m
  let was := d.bit a 31
  let want := fieldOf v 31 1 == 1
  let cfg := fieldOf v 28 3
  let d := d.ack a 3 v
  if was then
    let d := if cfg = d.fld a 28 3 then d else d.setBit a 0
    if want then d
    else
      let d := d.putBit a 31 false
      d.each (upto 8) (fun d p => d.setFld (ethStat m p) 30 2 0)
  else
    let d := d.setFld a 28 3 cfg
    if !want then d
    else if cfg = 7 || (ethDomains d m cfg).any (fun n => !d.domOn n) then d.setBit a 0
    else
      let d := d.setBit a 31
      d.each (upto 64) (fun d i => d.setReg (ethRule m (i / 8) (i % 8) 0x1C) 0)

/-- ETH_BLOCK_ENABLE. -/
def execEthBlockEnable (m : Fin 16) (v : BitVec 32) (s : State) : Host.Outcome State Fault Refusal := s.lift (ethBlkWrite m.val v)

/-- The port runs: block and port enabled, a port of the configuration, its domain running. -/
def ethPortRuns (d : Device) (m p : Nat) : Bool :=
  d.bit (ethCfgA m) 31 && d.bit (ethCtl m p) 31 && decide (p < ethPorts (ethCfg d m)) && d.blockRuns (56 + 2 * (m / 8))

def ethLinkUp (d : Device) (m p : Nat) : Bool := d.bit (ethStat m p) 31

/-- Lane i of an Ethernet block (R325). -/
def ethLane (m i : Nat) : Nat := 4 * ((ethQuads m).getD (i / 4) 0) + i % 4

/-- The lanes of port p (R327). -/
def ethPortLanes (d : Device) (m p : Nat) : List Nat :=
  let n := nth [8, 4, 2, 4, 1, 1, 1] (ethCfg d m) 8
  (upto n).map (fun i => ethLane m (n * p + i))

/-- ETH_LINK_CHANGE. A block drives lanes only where the pattern makes it their user (R325). -/
def ethLinkChange (m p : Nat) (up : Bool) (d : Device) : Device :=
  let on := up && ethPortRuns d m p && (ethPortLanes d m p).all (fun l => d.laneUse l == 2)
  (d.putBit (ethStat m p) 31 on).putBit (ethStat m p) 30 (on && ethFecOn d m p)
def execEthLinkChange (m : Fin 16) (p : Fin 8) (up : Bool) (s : State) : Host.Outcome State Fault Refusal :=
  s.lift (ethLinkChange m.val p.val up)

/-! ### Timestamps (R331) -/

/-- The stated error of a timestamp, 2^−16 ns; none where the table gives none. -/
def stampBound (d : Device) (m p : Nat) : Option Nat :=
  let cfg := ethCfg d m
  if cfg ≤ 2 ∨ cfg = 4 then some 131072
  else if ethFecOn d m p then some 98304
  else if cfg = 5 ∨ cfg = 6 then some 65536
  else none

/-- A timestamp: Lark time and the board delay, off by an error that is free within its bound. -/
def ethStamp (m p lo : Nat) (d : Device) : Nat × Device :=
  let q := d.takeFree
  let adj := 256 * signed 16 (d.fld (ethA m (0x108 + 0x40 * p)) lo 16)
  let err : Int := match stampBound d m p with
    | some b => ((q.1 % (2 * b + 1) : Nat) : Int) - (b : Nat)
    | none => (q.1 : Int)
  (((d.now (ethHalf m) : Int) + adj + err).toNat, q.2)

/-! ### Frames (R328, R332); layouts of IEEE 802.3, 802.1Q, 1588, UDP/IP and eCPRI are taken from those standards -/

def byteAt (bs : List Byte) (i : Nat) : Nat := (bs.getD i 0).toNat
def be16 (bs : List Byte) (i : Nat) : Nat := 256 * byteAt bs i + byteAt bs (i + 1)
/-- The `n` big-endian bytes of a number. -/
def beBytes (x n : Nat) : List Byte := (leBytes x n).reverse
/-- Replace bytes from `i` up. -/
def patch (bs : List Byte) (i : Nat) (new : List Byte) : List Byte := bs.take i ++ new ++ bs.drop (i + new.length)

/-- A frame carries one 802.1Q tag; where its contents begin; its ethertype. -/
def hasVlan (fr : List Byte) : Bool := be16 fr 12 == 0x8100
def bodyAt (fr : List Byte) : Nat := if hasVlan fr then 18 else 14
def etherType (fr : List Byte) : Nat := be16 fr (bodyAt fr - 2)

/-- Where a UDP header stands, and whether it is over IPv6. -/
def udpAt (fr : List Byte) : Option (Nat × Bool) :=
  let b := bodyAt fr
  if etherType fr = 0x0800 ∧ byteAt fr (b + 9) = 17 then some (b + 4 * (byteAt fr b % 16), false)
  else if etherType fr = 0x86DD ∧ byteAt fr (b + 6) = 17 then some (b + 40, true)
  else none

/-- Where a PTP message stands in a frame (R328: ethertype 0x88F7, or UDP destination port 319 or 320). -/
def ptpAt (fr : List Byte) : Option Nat :=
  if etherType fr = 0x88F7 then some (bodyAt fr)
  else match udpAt fr with
    | some u => if be16 fr (u.1 + 2) = 319 ∨ be16 fr (u.1 + 2) = 320 then some (u.1 + 8) else none
    | none => none

/-- A rule matches a frame. -/
def ruleHits (d : Device) (m p r : Nat) (fr : List Byte) : Bool :=
  let mt := ethRule m p r 0
  let ct := ethRule m p r 4
  let mask := d.fld ct 0 16
  d.bit ct 31 && etherType fr == d.fld mt 16 16
    && (!d.bit ct 30 || (be16 fr (bodyAt fr + 4) &&& mask) == (d.fld mt 0 16 &&& mask))

/-- Bytes a port's frames hold in its receive buffer, and in its transmit buffer. -/
def rxHeld (x : EthBlock) (p : Nat) : Nat := (x.rx.filter (fun f => f.port == p)).foldl (fun n f => n + f.bytes.length) 0
def txHeld (x : EthBlock) (p : Nat) : Nat := (x.tx.filter (fun f => f.1 == p)).foldl (fun n f => n + f.2.length) 0

/-- ETH_RX_FRAME: the frame as received, FCS included. -/
def ethRx (m p : Nat) (frame : List Byte) (d : Device) : Device :=
  let st := ethStat m p
  if !(ethPortRuns d m p && ethLinkUp d m p) then d
  else
    let n := frame.length - 4
    let body := frame.take n
    let short := decide (frame.length < 64)
    let bad := leBytes (crc32 body).toNat 4 != frame.drop n
    if short || bad then
      let d := if bad then d.setBit st 2 else d
      if short then d.setBit st 1 else d
    else
      let s := ethStamp m p 0 d
      let d := s.2
      let x := d.ethBlk m
      if d.bit (ethCtl m p) 28 && (ptpAt body).isSome then d.setEth m { x with ptp := x.ptp ++ [(p, frame, s.1)] }
      else match (upto 8).find? (fun r => ruleHits d m p r body) with
        | none => d.setBit st 3
        | some r =>
          let strip := d.fld (ethRule m p r 4) 16 8
          if n - strip > 8192 then d.setBit st 5
          else if n ≤ strip then d
          else if rxHeld x p + n > 65536 then d.setBit st 4
          else d.setEth m { x with rx := x.rx ++ [{ port := p, rule := r, bytes := body, stamp := s.1, vlan := hasVlan body }] }
def execEthRxFrame (m : Fin 16) (p : Fin 8) (frame : List Byte) (s : State) : Host.Outcome State Fault Refusal :=
  s.lift (ethRx m.val p.val frame)

/-! ### Transmit (R330, R332) -/

/-- A write to offset `off` of the block's transmit addresses: its status, or none while it waits for room. -/
def ethTxWrite (m off : Nat) (data : List Byte) (d : Device) : Option Nat × Device :=
  let p := (off - 0x8000) / 0x800
  if off < 0x8000 ∨ 0xC000 ≤ off ∨ (off - 0x8000) % 0x800 ≠ 0 then (some 1, d)
  else if data.length < 14 ∨ 8192 < data.length ∨ !(ethPortRuns d m p && ethLinkUp d m p) then (some 8, d.setBit (ethStat m p) 0)
  else
    let x := d.ethBlk m
    if txHeld x p + data.length > 65536 then (none, d)
    else (some 0, d.setEth m { x with tx := x.tx ++ [(p, data)] })

/-- ETH_TX_WRITE. -/
def execEthTxWrite (m : Fin 16) (off : BitVec 16) (data : List Byte) (s : State) : Host.Outcome State Fault Refusal :=
  s.lift (fun d => d.atBlock (56 + 2 * (m.val / 8)) true (fun d =>
    let q := ethTxWrite m.val off.toNat data d
    match q.1 with
    | some st => q.2.answer st []
    | none => q.2))

/-- A ones'-complement sum of 16-bit words, unreduced. -/
def wordSum : List Byte → Nat
  | [] => 0
  | [a] => 256 * a.toNat
  | a :: b :: t => 256 * a.toNat + b.toNat + wordSum t

/-- The checksum fix of a changed UDP datagram: checksum 0 on IPv4; on IPv6 the two appended octets take up the change. -/
def udpFix (old new : List Byte) : List Byte :=
  match udpAt old with
  | none => new
  | some (u, false) => patch new (u + 6) [0, 0]
  | some (u, true) =>
    let stop := u + be16 old (u + 4)
    let part (x : List Byte) : Nat := wordSum ((x.drop u).take (stop - 2 - u))
    let odd := (stop - u) % 2 == 1
    let t := if odd then byteAt old (stop - 2) + 256 * byteAt old (stop - 1) else be16 old (stop - 2)
    let t' := (t + part old % 65535 + 65535 - part new % 65535) % 65535
    patch new (stop - 2) (if odd then leBytes t' 2 else beBytes t' 2)

/-- A time as IEEE 1588 writes it: 6 bytes of seconds, 4 of nanoseconds. -/
def ptpTime (t : Nat) : List Byte := beBytes (timeSec t) 6 ++ beBytes (timeNs t) 4

/-- One-step correction of a transmitted frame. -/
def oneStep (fr : List Byte) (t : Nat) : List Byte :=
  match ptpAt fr with
  | some a =>
    if byteAt fr a % 16 = 0 then udpFix fr (patch (patch fr (a + 34) (ptpTime t)) (a + 8) (beBytes (timeFrac t) 8)) else fr
  | none =>
    let b := bodyAt fr
    if etherType fr = 0xAEFE ∧ byteAt fr (b + 1) = 5 ∧ byteAt fr (b + 5) = 0 then patch fr (b + 6) (ptpTime t) else fr

/-- ETH_TX_FRAME: the port's oldest frame leaves. -/
def ethTx (m p : Nat) (d : Device) : Device :=
  let x := d.ethBlk m
  match x.tx.find? (fun f => f.1 == p) with
  | none => d
  | some (_, data) =>
    if !(ethPortRuns d m p && ethLinkUp d m p) then d
    else
      let s := ethStamp m p 16 d
      let one := d.bit (ethCtl m p) 27
      let fr := if one then oneStep data s.1 else data
      let fr := fr ++ List.replicate (60 - fr.length) 0
      let x := { x with tx := dropFirst (fun (f : Nat × List Byte) => f.1 == p) x.tx, sent := fr ++ leBytes (crc32 fr).toNat 4 }
      let d := (s.2.setEth m x).bump (ethA m (0x10C + 0x40 * p)) 16 16 1
      match ptpAt data with
      | some a =>
        if one ∨ 4 ≤ byteAt data a % 16 then d
        else if x.stamps.length ≥ 64 then d.setBit (ethCfgA m) 1
        else d.setEth m { x with stamps := x.stamps ++ [{ port := p, mtype := byteAt data a % 16, seq := be16 data (a + 30), time := s.1 }] }
      | none => d
def execEthTxFrame (m : Fin 16) (p : Fin 8) (s : State) : Host.Outcome State Fault Refusal := s.lift (ethTx m.val p.val)

/-- A read of ETH_TXTS_0: the value it gives, and the latches after it (R343). An empty FIFO reads 0. -/
def ethTxtsRead (m : Nat) (d : Device) : Word × Device :=
  let x := d.ethBlk m
  match x.stamps with
  | [] => (0, d.setReg (ethA m 0x40) 0)
  | t :: rest =>
    let w := BitVec.ofNat 32 (2 ^ 31 + t.port * 2 ^ 28 + t.mtype * 2 ^ 24 + t.seq)
    let d := d.setEth m { x with stamps := rest }
    let d := (d.setReg (ethA m 0x40) w).setReg (ethA m 0x44) (BitVec.ofNat 32 (timeNs t.time))
    (w, (d.setReg (ethA m 0x48) (BitVec.ofNat 32 (timeSec t.time))).setReg (ethA m 0x4C)
      (BitVec.ofNat 32 (timeFrac t.time * 65536 + timeSec t.time / 2 ^ 32 % 65536)))

/-- ETH_TXTS_POP. -/
def execEthTxtsPop (m : Fin 16) (s : State) : Host.Outcome State Fault Refusal :=
  s.lift (fun d => d.atBlock (56 + 2 * (m.val / 8)) true (fun d =>
    let q := ethTxtsRead m.val d
    q.2.answer 0 (leBytes q.1.toNat 4)))

end Sys2Proof.Machine
end

