-- ==== Sys2Proof/Machine/HostPort.lean ====
section
/-!
DEFINITION. Machine/HostPort.lean: activity of the host ports and the indices of the command rings (12_protocol_blocks R334 to
R337, R344; 21_command_protocol R519).
-/
namespace Sys2Proof.Machine

def hptCtl (h : Half) : Nat := hptA h 0
def hptStat (h : Half) : Nat := hptA h 4
def hostActive (d : Device) (h : Half) : Bool := d.bit (hptStat h) 31
def hostUp (d : Device) (h : Half) : Bool := d.bit (hptStat h) 30

/-- The domains a host port needs: its own and those of the quads its width takes (R325, R326). -/
def hostDomains (d : Device) (h : Half) : List Nat :=
  let lanes := 2 ^ sat 4 (d.fld (hptCtl h) 23 3)
  (62 + hn h) :: (upto ((lanes + 3) / 4)).map (fun i => 32 + (18 * hn h + 14 + i) / 3)

/-- Link down: link_up, gen and width read 0, and the fo_time count starts. -/
def hostLinkDown (h : Half) (d : Device) : Device :=
  let d := d.setFld (hptStat h) 24 7 0
  { d with host := { d.host with down := d.host.down ||| BitVec.ofNat 2 (hn h + 1) } }

/-- Carrier of a host ring. -/
def hostCarrier : Half → Carrier
  | .w => .hostW
  | .e => .hostE

/-- Requests that the old ring still holds get no reply on it (R336). -/
def ringDrop (c : Carrier) (d : Device) : Device :=
  { d with cmd := { d.cmd with arrived := d.cmd.arrived.filter (fun x => x.1 != c), heldBack := d.cmd.heldBack.filter (fun x => x.1 != c) } }

/-- Port h becomes the active port: the other goes idle, the new one starts with its link down. -/
def hostActivate (h : Half) (d : Device) : Device :=
  if hostActive d h then d
  else
    let o := otherHalf h
    let d := ringDrop (hostCarrier o) ((d.setFld (hptStat o) 24 8 0).setFld (hptStat h) 24 8 128)
    let d := { d with host := { d.host with down := BitVec.ofNat 2 (hn h + 1) } }
    d.each (halfLanes .w ++ halfLanes .e) (fun d l => if d.laneUse l == 4 then laneEval l d else d)

/-- MAKE_ACTIVE: the make-active command, refused with cfg_err where a needed domain is not On. -/
def makeActive (h : Half) (d : Device) : Device :=
  if hostActive d h then d
  else if !d.up h || (hostDomains d h).any (fun n => !d.domOn n) then d.setBit (hptStat h) 0
  else hostActivate h d
def execMakeActive (h : Half) (s : State) : Host.Outcome State Fault Refusal := s.lift (makeActive h)

/-- HOST_PORT_FAILOVER: the active port's half is lost, its domain is forced, or its link has been down for fo_time. -/
def hostFailover (d : Device) : Device :=
  match d.activePort with
  | none => d
  | some h =>
    let timed := decide (d.fld (hptCtl h) 15 8 ≠ 0) && d.host.down.getLsbD (hn h) && !hostUp d h
    if d.up (otherHalf h) && (!d.up h || d.forced (62 + hn h) || timed) then
      (hostActivate (otherHalf h) d).fault (otherHalf h) 0x61 (hn h) 0
    else d
def execHostPortFailover (s : State) : Host.Outcome State Fault Refusal := s.lift hostFailover

/-- The port can carry its link. -/
def hostRuns (d : Device) (h : Half) : Bool := hostActive d h && d.blockRuns (62 + hn h)

/-- The widest link, as a power of two, on the lanes that the pattern gives the port (R325). -/
def hostWidest (d : Device) (h : Half) : Option Nat :=
  let n := ((upto 16).filter (fun i => d.laneUse (4 * (18 * hn h + 14 + i / 4) + i % 4) == 4)).length
  ([4, 3, 2, 1, 0] : List Nat).find? (fun k => decide (2 ^ k ≤ n))

/-- HOST_LINK_CHANGE: the trained generation and width are free within the port's limits and its lanes. -/
def hostLinkChange (h : Half) (up : Bool) (d : Device) : Device :=
  if !up then hostLinkDown h d
  else if !hostRuns d h then d
  else match hostWidest d h with
  | none => d
  | some widest =>
    let g := d.takeFree
    let w := g.2.takeFree
    let gen := 1 + g.1 % d.fld (hptCtl h) 26 3
    let width := w.1 % (1 + sat widest (d.fld (hptCtl h) 23 3))
    let d := (((w.2).setBit (hptStat h) 30).setFld (hptStat h) 27 3 gen).setFld (hptStat h) 24 3 width
    { d with host := { d.host with down := d.host.down &&& ~~~(BitVec.ofNat 2 (hn h + 1)) } }
def execHostLinkChange (h : Half) (up : Bool) (s : State) : Host.Outcome State Fault Refusal := s.lift (hostLinkChange h up)

/-- LOOPBACK_REFUSED. -/
def loopback (h : Half) (d : Device) : Device := if hostRuns d h then (hostLinkDown h d).setBit (hptStat h) 2 else d
def execLoopbackRefused (h : Half) (s : State) : Host.Outcome State Fault Refusal := s.lift (loopback h)

/-- A write of HPT_CTRL: values R344 stores otherwise, then the command. -/
def hptCtrlWrite (h : Half) (v : Word) (d : Device) : Device :=
  let gen := fieldOf v 26 3
  let bar := fieldOf v 0 6
  let w := v &&& 0x1FFF803F
  let w := if gen = 0 ∨ gen > 5 then withField w 26 3 5 else w
  let w := if fieldOf v 23 3 > 4 then withField w 23 3 (d.fld (hptCtl h) 23 3) else w
  let w := if bar < 20 ∨ bar > 39 then withField w 0 6 (d.fld (hptCtl h) 0 6) else w
  let d := d.setReg (hptCtl h) w
  if fieldOf v 29 3 = 1 then makeActive h d else d

/-! ### Command rings (R335; 21_ R519) -/

/-- Address of ring register `o` (0x10 to 0x30) of a ring carrier. -/
def ringA (c : Carrier) (o : Nat) : Nat :=
  match c with
  | .hostE => hptA .e o
  | .network => thmA (0x2500 + o)
  | _ => hptA .w o

def ringSlots (d : Device) (c : Carrier) : Nat := 2 ^ d.fld (ringA c 0x20) 0 4
def ringIdx (d : Device) (c : Carrier) (o : Nat) : Nat := d.fld (ringA c o) 0 16
/-- Distance of two indices modulo 65,536. -/
def idxGap (a b : Nat) : Nat := (a + 65536 - b) % 65536

/-- A write of req_prod: ignored where it would outrun the replies by more than the ring; else the new slots' packets have
arrived, each to be read from its slot when it is taken. -/
def reqProd (c : Carrier) (v : Nat) (d : Device) : Device :=
  if idxGap v (ringIdx d c 0x30) > ringSlots d c then
    match c with
    | .hostW => d.setBit (hptStat .w) 1
    | .hostE => d.setBit (hptStat .e) 1
    | _ => d
  else
    let gap := idxGap v (ringIdx d c 0x24)
    let n := if gap > ringSlots d c then 0 else gap
    let d := d.setReg (ringA c 0x24) (BitVec.ofNat 32 v)
    { d with cmd := { d.cmd with arrived := d.cmd.arrived ++ List.replicate n (c, []) } }

/-- REQ_PROD_WRITE: only the active port's ring is served. -/
def execReqProdWrite (h : Half) (v : BitVec 16) (s : State) : Host.Outcome State Fault Refusal :=
  s.lift (fun d => reqProd (hostCarrier h) v.toNat d)

/-- NR_REQ_PROD_WRITE: only master class 0 writes the network ring's registers. -/
def execNrReqProdWrite (mc : MClass) (v : BitVec 16) (s : State) : Host.Outcome State Fault Refusal :=
  s.lift (fun d => if mc.val = 0 then (reqProd .network v.toNat d).answer 0 [] else d.answer 8 [])

end Sys2Proof.Machine
end

