-- ==== Sys2Proof/Machine/JesdLink.lean ====
section
/-!
DEFINITION. Machine/JesdLink.lean: the JESD204 link layers up to their network writes, which are in EthDma.lean
(12_protocol_blocks R338 to R341, R345).
-/
namespace Sys2Proof.Machine

def Device.jesdBlk (d : Device) (j : Nat) : Jesd := tabGet jesdReset d.jesd j
def Device.setJesd (d : Device) (j : Nat) (x : Jesd) : Device := { d with jesd := tabSet jesdReset d.jesd j x }

def jsdCtl (j : Nat) : Nat := jsdA j 0
def jsdStat (j : Nat) : Nat := jsdA j 8
def jsdOn (d : Device) (j : Nat) : Bool := d.bit (jsdCtl j) 31
def jsdTx (d : Device) (j : Nat) : Bool := d.bit (jsdCtl j) 30
def jsdC (d : Device) (j : Nat) : Bool := d.bit (jsdCtl j) 29

/-- Domains the link needs (R325, R326): its group, and the transceiver groups of its lanes. -/
def jsdDomains (j lm1 : Nat) : List Nat :=
  (60 + j / 4) :: (upto (lm1 / 4 + 1)).map (fun i => 32 + (18 * (j / 4) + 4 * (j % 4) + i) / 3)

/-- The configuration lies in the limits of R338. -/
def jsdFits (d : Device) (j : Nat) (ctl : Word) : Bool :=
  let f := d.fld (jsdA j 4) 24 8 + 1
  let k := d.fld (jsdA j 4) 19 5 + 1
  decide (fieldOf ctl 0 5 < 16) && (fieldOf ctl 29 1 == 1 || decide (17 ≤ f * k ∧ f * k ≤ 1024))

/-- The block's boundary is set: a subclass 0 link needs none. -/
def jsdReady (d : Device) (j : Nat) : Bool := !d.bit (jsdCtl j) 28 || (d.jesdBlk j).aligned

/-- JESD_ARM: the arm command. -/
def jesdArm (j : Nat) (d : Device) : Device := d.setJesd j { d.jesdBlk j with armed := true }
def execJesdArm (j : Fin 8) (s : State) : Host.Outcome State Fault Refusal := 
  s.lift (fun d => d.atBlock (60 + j.val / 4) true (jesdArm j.val))

/-- The configuration octets of lane i in an ILAS: JSD_ILAS_n, with LID and FCHK filled in by the block (R338). LID stands in bits [4:0] of octet 3
and FCHK in octet 13, as JESD204B lays them out; FCHK is a free value (log entry 104). -/
def ilasOctets (j i fchk : Nat) (d : Device) : List Byte :=
  let o (k : Nat) : Nat := d.fld (jsdA j (0x10 + 4 * (k / 4))) (8 * (k % 4)) 8
  (upto 14).map (fun k => BitVec.ofNat 8 (if k = 3 then o 3 / 32 * 32 + i else if k = 13 then fchk else o k))

/-- A 204B transmitter sends its ILAS on every lane. -/
def ilasSend (j : Nat) (d : Device) : Device :=
  if jsdOn d j && jsdTx d j && !jsdC d j then
    let d := d.setJesd j { d.jesdBlk j with ilas := [] }
    d.each (upto (d.fld (jsdCtl j) 0 5 + 1)) (fun d i =>
      let q := d.takeFree
      q.2.setJesd j { d.jesdBlk j with ilas := (d.jesdBlk j).ilas ++ [ilasOctets j i q.1 d] })
  else d

/-- A write of JSD_CTRL: its fields change only while en is 0. -/
def jsdCtrlWrite (j : Nat) (v : Word) (d : Device) : Device :=
  let a := jsdCtl j
  let want := fieldOf v 31 1 == 1
  let d :=
    if jsdOn d j then
      if want then d
      else
        let d := (d.putBit a 31 false).putBit (jsdStat j) 31 false
        d.setJesd j { d.jesdBlk j with aligned := false, data := false, armed := false }
    else
      let w := v &&& 0x7E3F001F
      let d := d.setReg a w
      if !want then d
      else if (jsdDomains j (fieldOf w 0 5)).any (fun n => !d.domOn n) || !jsdFits d j w then d.setBit (jsdStat j) 0
      else
        let d := (d.setBit a 31).setBit (jsdStat j) 31
        ilasSend j (d.setJesd j { d.jesdBlk j with aligned := false, data := !d.bit a 28, rxCount := 0 })
  let d := clockCheck (60 + j / 4) d
  if fieldOf v 22 3 = 1 then jesdArm j d else d
/-- JESD_ENABLE. -/
def execJesdEnable (j : Fin 8) (v : BitVec 32) (s : State) : Host.Outcome State Fault Refusal := s.liftReport (jsdCtrlWrite j.val v)

/-- Any other RW register of the block: written only while en is 0; r above 10 is stored as 10. -/
def jsdRegWrite (j o : Nat) (v : Word) (d : Device) : Device :=
  if jsdOn d j then d
  else d.setReg (jsdA j o) (if o = 0x28 ∧ fieldOf v 0 4 > 10 then withField v 0 4 10 else v)

/-- The block runs: enabled, its domain On and not forced. -/
def jsdRuns (d : Device) (j : Nat) : Bool :=
  jsdOn d j && d.blockRuns (60 + j / 4)

/-- One SYSREF pulse that lands `ofs` device-clock periods from the boundary (R340). -/
def sysref (j : Nat) (ofs : Int) (d : Device) : Device :=
  let x := d.jesdBlk j
  let align (d : Device) : Device :=
    d.setJesd j { x with aligned := true, armed := false, data := x.data || d.bit (jsdStat j) 31, rxCount := if x.data then x.rxCount else 0 }
  let check (d : Device) : Device :=
    if ofs = 0 then d else (d.setBit (jsdStat j) 2).setFld (jsdStat j) 16 15 (unsign 15 ofs)
  if !jsdRuns d j then d
  else match d.fld (jsdCtl j) 26 2 with
    | 1 => if x.armed then align d else if x.aligned then check d else d
    | 2 => if x.data then check d else align d
    | _ => d

/-- JESD_RESTART: a lane loses lock; the data phase resumes at a later boundary and the event is counted (R341). -/
def jesdRestart (j : Nat) (d : Device) : Device :=
  if !jsdRuns d j then d
  else
    let d := d.bump (jsdStat j) 8 8 1
    d.setJesd j { d.jesdBlk j with data := jsdReady d j }
def execJesdRestart (j : Fin 8) (s : State) : Host.Outcome State Fault Refusal := s.lift (jesdRestart j.val)

/-- JESD_SYNC_CHANGE: the receiver of a 204B transmit link asserts SYNC~ (low) and the data phase ends; it resumes at a later
boundary once SYNC~ is high (R341). -/
def jesdSync (j : Nat) (level : Bool) (d : Device) : Device :=
  let x := d.jesdBlk j
  let d := d.setJesd j { x with sync := level }
  if !(jsdRuns d j && jsdTx d j && !jsdC d j) then d
  else if level then ilasSend j (d.setJesd j { x with sync := level, data := jsdReady d j })
  else if x.data then (d.bump (jsdStat j) 8 8 1).setJesd j { x with sync := level, data := false }
  else d
def execJesdSyncChange (j : Fin 8) (level : Bool) (s : State) : Host.Outcome State Fault Refusal := s.lift (jesdSync j.val level)

/-- A write of octets for transmission: its status (R339). -/
def jesdTxWrite (j : Nat) (octets : List Byte) (d : Device) : Nat × Device :=
  let x := d.jesdBlk j
  if octets.length % 4 ≠ 0 ∨ x.tx.length + octets.length > 65536 then (8, d) else (0, d.setJesd j { x with tx := x.tx ++ octets })
/-- JESD_TX_WRITE. -/
def execJesdTxWrite (j : Fin 8) (octets : List Byte) (s : State) : Host.Outcome State Fault Refusal :=
  s.lift (fun d => d.atBlock (60 + j.val / 4) true (fun d =>
    let q := jesdTxWrite j.val octets d
    q.2.answer q.1 []))

/-- JESD_TX_OCTET: octets leave; zeros once the buffer is empty, and tx_udf (R339). -/
def jesdTxOctet (j count : Nat) (d : Device) : Device :=
  let x := d.jesdBlk j
  if !(jsdRuns d j && jsdTx d j && x.data) then d
  else
    let d' := if x.tx.length < count then d.setBit (jsdStat j) 1 else d
    d'.setJesd j { x with tx := x.tx.drop count, sent := (x.tx ++ List.replicate (count - x.tx.length) 0).take count }
def execJesdTxOctet (j : Fin 8) (count : Nat) (s : State) : Host.Outcome State Fault Refusal := s.lift (jesdTxOctet j.val count)

end Sys2Proof.Machine
end

