-- ==== Sys2Proof/Machine/Shuttle.lean ====
section
/-!
DEFINITION. Machine/Shuttle.lean: queue contexts, doorbells, kicks, interrupts and the shadow set of the Shuttle engines; their
descriptors and data are in ShuttleDma.lean (16_shuttle_dma).
-/
namespace Sys2Proof.Machine

/-! ### DRAM accesses of a hardened block, part by part (06_ R165) -/

/-- Read `len` bytes of DRAM: the first failing status, the data in address order. -/
def dramRead (mc a len : Nat) (d : Device) : Answer × Device :=
  (granules d a len).foldl (fun (acc : Answer × Device) p =>
    match dramDecode acc.2 p.1 with
    | none => ({ acc.1 with status := if acc.1.status = 0 then 1 else acc.1.status }, acc.2)
    | some (n, l) =>
      let q := chanReadNow n mc l p.2 acc.2
      ({ status := if acc.1.status = 0 then q.1.status else acc.1.status, data := acc.1.data ++ q.1.data
         poison := acc.1.poison ++ q.1.poison }, q.2)) ({ status := if (granules d a len).isEmpty then 1 else 0 }, d)

/-- Write bytes of DRAM: the first failing status. -/
def dramWrite (mc cls a : Nat) (data : List Byte) (d : Device) : Nat × Device :=
  (granules d a data.length).foldl (fun (acc : Nat × Device) p =>
    match dramDecode acc.2 p.1 with
    | none => (if acc.1 = 0 then 1 else acc.1, acc.2)
    | some (n, l) =>
      let q := chanWriteNow n mc cls l ((data.drop (p.1 - a)).take p.2) acc.2
      (if acc.1 = 0 then q.1 else acc.1, q.2)) (if (granules d a data.length).isEmpty then 1 else 0, d)

/-! ### Contexts (R412 to R414) -/

abbrev Ctx := BitVec 512

/-- Field of a context: `n` bits from bit `lo` of the 64-bit word at offset `o`. -/
def cfld (c : Ctx) (o lo n : Nat) : Nat := bitsAt c.toNat (8 * o + lo) n
def setCfld (c : Ctx) (o lo n v : Nat) : Ctx := BitVec.ofNat 512 (putBits c.toNat (8 * o + lo) n v)

def cEn (c : Ctx) : Bool := cfld c 0 63 1 == 1
def cGated (c : Ctx) : Bool := cfld c 0 62 1 == 1
def cClass (c : Ctx) : Nat := cfld c 0 60 2
def cEngine (c : Ctx) : Nat := cfld c 0 56 4
def cRingK (c : Ctx) : Nat := cfld c 0 51 5
def cRing (c : Ctx) : Nat := cfld c 0 0 48
def cKickN (c : Ctx) : Nat := cfld c 8 56 8
def cCqK (c : Ctx) : Nat := cfld c 8 51 5
def cCqBase (c : Ctx) : Nat := cfld c 8 0 48
def cCons (c : Ctx) : Nat := cfld c 0x10 32 32
def cProd (c : Ctx) : Nat := cfld c 0x10 0 32
def cCqCons (c : Ctx) : Nat := cfld c 0x18 32 32
def cCqProd (c : Ctx) : Nat := cfld c 0x18 0 32
def cRel (c : Ctx) : Nat := cfld c 0x20 32 32
def cKickMask (c : Ctx) (mc : Nat) : Bool := decide (mc ≤ 8) && cfld c 0x20 (16 + mc) 1 == 1
def cState (c : Ctx) : Nat := cfld c 0x20 0 2

def ctxBytes (c : Ctx) : List Byte := leBytes c.toNat 64
/-- With the CRC that the engine computes over bytes 0x00 to 0x3B. -/
def ctxSeal (c : Ctx) : Ctx := setCfld c 0x38 32 32 (crc32 ((ctxBytes c).take 60)).toNat

/-- Distance of two indices modulo 2^32. -/
def gap32 (a b : Nat) : Nat := (a + 2 ^ 32 - b) % 2 ^ 32

/-- The queue has work (R416). -/
def cWork (c : Ctx) : Bool := if cGated c then cCons c != cRel c else cCons c != cProd c
/-- Enabled, and ready to run. -/
def cLive (c : Ctx) : Bool := cEn c && cState c != 0
def cReady (c : Ctx) : Bool := cEn c && cState c == 1

def ctxBase (d : Device) : Nat := d.fld (thmA 0x2200) 26 6 * 2 ^ 26 + d.fld (thmA 0x2204) 0 16 * 2 ^ 32
def ctxAddr (d : Device) (q : Nat) : Nat := ctxBase d + 64 * q

def engHalf (n : Nat) : Half := halfOf (n / 8)
def epochOf (d : Device) (h : Half) : Nat := d.fld (thmA 0x2208) (16 * hn h) 16

def ctxCache (d : Device) : Half → List CtxSlot
  | .w => d.sht.cacheW
  | .e => d.sht.cacheE
def setCtxCache (h : Half) (xs : List CtxSlot) (d : Device) : Device :=
  match h with
  | .w => { d with sht := { d.sht with cacheW := xs } }
  | .e => { d with sht := { d.sht with cacheE := xs } }

def ctxHit (d : Device) (h : Half) (q : Nat) : Option CtxSlot := (ctxCache d h).find? (fun s => s.q == q)

/-- Write a dirty context back (R412), in master class 8. -/
def ctxWriteBack (s : CtxSlot) (d : Device) : Device :=
  if s.dirty then (dramWrite 8 0 (ctxAddr d s.q) (ctxBytes (ctxSeal s.ctx)) d).2 else d

/-- Put a context first in the cache; beyond 16,384 the least recently used one leaves. -/
def ctxPut (h : Half) (s : CtxSlot) (d : Device) : Device :=
  let xs := s :: (ctxCache d h).filter (fun x => x.q != s.q)
  let d := { d with sht := { d.sht with parked := d.sht.parked.filter (fun (p : Nat × Nat × Nat) => p.1 != s.q) } }
  match xs.drop 16384 with
  | [] => setCtxCache h xs d
  | v :: _ =>
    let d := ctxWriteBack v (setCtxCache h (xs.take 16384) d)
    if cReady v.ctx && cWork v.ctx then { d with sht := { d.sht with parked := (v.q, cEngine v.ctx, cClass v.ctx) :: d.sht.parked } } else d

/-- Flag an event of queue q at engine n: `bit` of SHT_STATUS, and last_q. -/
def shtFlag (n bit q : Nat) (d : Device) : Device := (d.setBit (shtA n 4) bit).setFld (shtA n 4) 0 20 q

def ctxErr (n q : Nat) (d : Device) : Device := (shtFlag n 23 q d).fault (engHalf n) 0x50 (n * 2 ^ 20 + q) 0

/-- The current copy of a context: from the cache, or fetched and checked (R412, R413). A fetch that fails leaves the queue in
Error; one whose epoch is past leaves it disabled. -/
def ctxGet (n q : Nat) (d : Device) : Ctx × Device :=
  let h := engHalf n
  match ctxHit d h q with
  | some s => (s.ctx, ctxPut h s d)
  | none =>
    let r := dramRead 8 (ctxAddr d q) 64 d
    let d := r.2
    let bad (c : Ctx) : Ctx × Device :=
      let c := setCfld c 0x20 0 2 3
      (c, ctxErr n q (ctxPut h { q := q, ctx := c, dirty := false } d))
    if r.1.status ≠ 0 then bad (setCfld 0 0 56 4 n)
    else
      let c : Ctx := BitVec.ofNat 512 (leNat r.1.data)
      if cfld c 0x38 0 16 ≠ epochOf d h then
        let c := setCfld c 0x20 0 2 0
        (c, ctxPut h { q := q, ctx := c, dirty := false } d)
      else if ctxSeal c ≠ c then bad c
      else (c, ctxPut h { q := q, ctx := c, dirty := false } d)

/-- Change the current copy. -/
def ctxSet (n q : Nat) (c : Ctx) (d : Device) : Device := ctxPut (engHalf n) { q := q, ctx := c, dirty := true } d

/-- The engine runs: its domain's clock and its half's network do (01_ R30); a domain on its way out of On still serves the
descriptors in flight (R430). -/
def shtRuns (d : Device) (n : Nat) : Bool :=
  let k := 52 + n / 8
  d.domOn k && d.gateOpen k && !d.forced k && !d.sys.integrity && d.up (engHalf n) && netRuns d (engHalf n)
/-- A Shuttle domain leaves On only once its engines that run have no descriptor in flight (R430). -/
def shtBusy (d : Device) (k : Nat) : Bool :=
  (k == 52 || k == 53) && d.domOn k
    && (upto 8).any (fun i => shtRuns d (8 * (k - 52) + i) && !(d.shuttle (8 * (k - 52) + i)).flight.isEmpty)
/-- The engine works: its domain serves and en is 1. -/
def shtWorks (d : Device) (n : Nat) : Bool := shtRuns d n && d.bit (shtA n 0) 31

/-- CONTEXT_FETCH. -/
def execContextFetch (n : Fin 16) (q : BitVec 20) (s : State) : Host.Outcome State Fault Refusal :=
  s.liftReport (fun d => if shtWorks d n.val then (ctxGet n.val q.toNat d).2 else d)

/-! ### Doorbells and kicks (R415, R416) -/

/-- A doorbell write: its status, or none while the FIFO is full. Op 3 has no effect. -/
def doorbellWrite (n : Nat) (mc : MClass) (v : BitVec 64) (d : Device) : Option Nat × Device :=
  let x := d.shuttle n
  if bitsAt v.toNat 62 2 = 3 then (some 0, d)
  else if x.bells.length ≥ 256 then (none, d)
  else (some 0, d.setShuttle n { x with bells := x.bells ++ [(v, mc.val)] })
def execDoorbellWrite (n : Fin 16) (mc : MClass) (v : BitVec 64) (s : State) : Host.Outcome State Fault Refusal :=
  s.lift (fun d => d.atBlock (52 + n.val / 8) true (fun d =>
    let q := doorbellWrite n.val mc v d
    match q.1 with
    | some st => q.2.answer st []
    | none => d))

/-- A kick of queue q (R416): rel becomes the earlier of prod and max (rel, cons) + kick_n, or prod. Indices are compared by
their difference modulo 2^32. -/
def kick (n q : Nat) (c : Ctx) (d : Device) : Device :=
  if !cGated c then d
  else
    let base := if gap32 (cRel c) (cCons c) < 2 ^ 31 then cRel c else cCons c
    let most := (base + cKickN c) % 2 ^ 32
    let rel := if cKickN c = 0 ∨ gap32 most (cProd c) < 2 ^ 31 then cProd c else most
    let d := if rel = cRel c then d else ctxSet n q (setCfld c 0x20 32 32 rel) d
    if rel = base ∨ gap32 rel base ≥ 2 ^ 31 then shtFlag n 25 q d else d

/-- Apply the FIFO's head if it is a doorbell of this op; a doorbell that fails a check changes nothing but its flag. -/
def bellApply (n op : Nat) (d : Device) : Device :=
  let x := d.shuttle n
  match x.bells with
  | [] => d
  | (v, mc) :: rest =>
    if !shtWorks d n || bitsAt v.toNat 62 2 ≠ op then d
    else
      let d := d.setShuttle n { x with bells := rest }
      let q := bitsAt v.toNat 32 20
      let idx := bitsAt v.toNat 0 32
      let g := ctxGet n q d
      let c := g.1
      let d := g.2
      if !cLive c || cEngine c ≠ n then shtFlag n 20 q d
      else if !cKickMask c mc then shtFlag n 21 q d
      else match op with
        | 0 => if gap32 idx (cCons c) ≤ 2 ^ cRingK c then ctxSet n q (setCfld c 0x10 0 32 idx) d else shtFlag n 22 q d
        | 1 => if gap32 (cCqProd c) idx ≤ 2 ^ cCqK c then ctxSet n q (setCfld c 0x18 32 32 idx) d else shtFlag n 22 q d
        | _ => kick n q c d

def execDoorbellProducer (n : Fin 16) (s : State) : Host.Outcome State Fault Refusal := s.liftReport (bellApply n.val 0)
def execDoorbellConsumer (n : Fin 16) (s : State) : Host.Outcome State Fault Refusal := s.liftReport (bellApply n.val 1)
def execDoorbellKick (n : Fin 16) (s : State) : Host.Outcome State Fault Refusal := s.liftReport (bellApply n.val 2)

/-- A calendar kick skips the kick_mask check (R415). -/
def calKick (n q : Nat) (d : Device) : Device :=
  if !shtWorks d n then d
  else
    let g := ctxGet n q d
    if !cLive g.1 || cEngine g.1 ≠ n then shtFlag n 20 q g.2 else kick n q g.1 g.2

/-! ### The queue commands (R431, R432) -/

def qdata (d : Device) (n : Nat) : Ctx :=
  BitVec.ofNat 512 ((upto 16).foldl (fun x i => x + (d.reg (shtA n (0x310 + 4 * i))).toNat * 2 ^ (32 * i)) 0)

def inFlight (d : Device) (q : Nat) : Bool := (upto 16).any (fun n => (d.shuttle n).flight.any (fun x => x.q == q))

/-- The context leaves the other half's cache: the written one is the current copy. -/
def ctxForget (h : Half) (q : Nat) (d : Device) : Device := setCtxCache h ((ctxCache d h).filter (fun s => s.q != q)) d

/-- Command 1: true where it sets cmd_err. -/
def ctxWrite (n q : Nat) (c : Ctx) (d : Device) : Bool × Device :=
  if inFlight d q || cEngine c ≠ n then (true, shtFlag n 26 q d)
  else (false, ctxSet n q (ctxSeal c) (ctxForget (otherHalf (engHalf n)) q d))

/-- Command 2: the current copy into QDATA. -/
def ctxRead (n q : Nat) (d : Device) : Ctx × Device :=
  let g := ctxGet n q d
  let c := ctxSeal g.1
  (c, g.2.each (upto 16) (fun d i => d.setReg (shtA n (0x310 + 4 * i)) (BitVec.ofNat 32 (bitsAt c.toNat (32 * i) 32))))

/-- Commands 3 and 4: stop after the descriptor in flight; return to Ready. -/
def ctxState (n q cmd : Nat) (d : Device) : Bool × Device :=
  let g := ctxGet n q d
  let c := g.1
  if cEngine c ≠ n then (true, shtFlag n 26 q g.2)
  else if cmd = 3 then (false, if cState c = 1 then ctxSet n q (setCfld c 0x20 0 2 2) g.2 else g.2)
  else (false, if cState c = 2 ∨ cState c = 3 then ctxSet n q (setCfld c 0x20 0 2 1) g.2 else g.2)

/-- A write of SHT_QCMD. -/
def qCmd (n cmd : Nat) (d : Device) : Device :=
  let q := d.fld (shtA n 0x300) 0 20
  match cmd with
  | 1 => (ctxWrite n q (qdata d n) d).2
  | 2 => (ctxRead n q d).2
  | 3 => (ctxState n q 3 d).2
  | 4 => (ctxState n q 4 d).2
  | _ => d

def execQueueContextWrite (n : Fin 16) (mc : MClass) (s : State) : Host.Outcome State Fault Refusal :=
  s.liftReport (fun d => d.atBlock (52 + n.val / 8) true (fun d => d.byThimble mc (qCmd n.val 1)))
def execQueueContextRead (n : Fin 16) (mc : MClass) (s : State) : Host.Outcome State Fault Refusal :=
  s.liftReport (fun d => d.atBlock (52 + n.val / 8) true (fun d => d.byThimble mc (qCmd n.val 2)))
def execQueueStop (n : Fin 16) (mc : MClass) (s : State) : Host.Outcome State Fault Refusal :=
  s.liftReport (fun d => d.atBlock (52 + n.val / 8) true (fun d => d.byThimble mc (qCmd n.val 3)))
def execQueueResume (n : Fin 16) (mc : MClass) (s : State) : Host.Outcome State Fault Refusal :=
  s.liftReport (fun d => d.atBlock (52 + n.val / 8) true (fun d => d.byThimble mc (qCmd n.val 4)))

/-! ### Interrupts and the shadow set (R428, R429) -/

/-- Raise the engine's interrupt. -/
def shtIrq (n : Nat) (d : Device) : Device :=
  let d := d.setReg (shtA n 0x214) 0x80000000
  if d.bit (shtA n 0) 30 then d.msix (2 + n) else d

/-- pending reaches irq_count; 0 disables. -/
def shtCount (n : Nat) (d : Device) : Device :=
  let d := d.bumpSat (shtA n 0x214) 0 16 1
  let k := d.fld (shtA n 0x208) 16 16
  if k ≠ 0 ∧ d.fld (shtA n 0x214) 0 16 ≥ k then shtIrq n d else d

/-- IRQ_IDLE: irq_idle µs without a completion. -/
def irqIdle (n : Nat) (d : Device) : Device :=
  if shtRuns d n && decide (d.fld (shtA n 0x208) 0 16 ≠ 0 ∧ d.fld (shtA n 0x214) 0 16 ≠ 0) then shtIrq n d else d
def execIrqIdle (n : Fin 16) (s : State) : Host.Outcome State Fault Refusal := s.lift (irqIdle n.val)

/-- A write to SHT_SH_RATE stages both shadow registers; in the cycle of a hand-over point, which every cycle without a
descriptor in flight is, it is held for one cycle. -/
def shadowStage (n : Nat) (v : Word) (inHo : Bool) (d : Device) : Device :=
  let v := v &&& 0xFFFF
  let d := d.setReg (shtA n 0x204) v
  let d := d.setShuttle n { d.shuttle n with staged := some (d.reg (shtA n 0x200), v) }
  (d.setBit (shtA n 0x210) 31).putBit (shtA n 0x210) 30 (inHo || (d.shuttle n).flight.isEmpty)
def execShadowStage (n : Fin 16) (v : BitVec 32) (inHoCycle : Bool) (s : State) : Host.Outcome State Fault Refusal :=
  s.lift (fun d => d.atBlock (52 + n.val / 8) true (shadowStage n.val v inHoCycle))

/-- The staged set commits. -/
def shadowTake (n : Nat) (d : Device) : Device :=
  match (d.shuttle n).staged with
  | none => d
  | some (irq, rate) =>
    let d := (d.setReg (shtA n 0x208) irq).setReg (shtA n 0x20C) rate
    let d := d.setShuttle n { d.shuttle n with staged := none }
    (d.setFld (shtA n 0x210) 30 2 0).setFld (shtA n 0x210) 0 8 (d.fld (shtA n 0x210) 16 8)

/-- The hand-over point of a record answer. -/
def shtHandOver (n : Nat) (d : Device) : Device := shadowTake n (d.bump (shtA n 0x210) 16 8 1)

/-- SHADOW_COMMIT: every knot cycle without a descriptor in flight is a hand-over point. -/
def shadowCommit (n : Nat) (d : Device) : Device := if (d.shuttle n).flight.isEmpty && shtRuns d n then shadowTake n d else d
def execShadowCommit (n : Fin 16) (s : State) : Host.Outcome State Fault Refusal := s.lift (shadowCommit n.val)

/-- The cache is written back before a Shuttle domain changes state (R430). -/
def shtFlush (h : Half) (d : Device) : Device :=
  let xs := ctxCache d h
  setCtxCache h (xs.map (fun s => { s with dirty := false })) (d.each xs (fun d s => ctxWriteBack s d))

end Sys2Proof.Machine
end

