-- ==== Sys2Proof/Machine/Bobbin.lean ====
section
/-!
DEFINITION. Machine/Bobbin.lean: the recorder: its commands, ring, journal and replay (20_bobbin_replay).
-/
namespace Sys2Proof.Machine

def ringBase (d : Device) (h : Half) : Nat := d.fld (bobA (0x100 + 0x20 * hn h)) 20 12 * 2 ^ 20 + d.fld (bobA (0x104 + 0x20 * hn h)) 0 16 * 2 ^ 32
def ringBytes (d : Device) (h : Half) : Nat := d.fld (bobA (0x108 + 0x20 * hn h)) 0 17 * 2 ^ 20
def bobHalves : List Half := [.w, .e]
/-- Byte offset of the last ANCHOR record, as its register holds it. -/
def ringAnchor (d : Device) (h : Half) : Nat := 8 * (d.reg (bobA (0x110 + 0x20 * hn h))).toNat

/-- A write of BOB_RING_SIZE_h; one that would take both rings beyond 64 GiB leaves the size as it was. -/
def ringSizeWrite (h : Half) (v : Word) (d : Device) : Device :=
  if fieldOf v 0 17 + d.fld (bobA (0x108 + 0x20 * hn (otherHalf h))) 0 17 > 65536 then d
  else d.setReg (bobA (0x108 + 0x20 * hn h)) (v &&& 0x1FFFF)

/-! ### Anchors (R507) -/

/-- Predictors start anew; the ratio last measured stays. -/
def crossReset (d : Device) : Device :=
  { d with bob := { d.bob with cross := d.bob.cross.map (fun (kv : Nat × Predict) => (kv.1, { r := kv.2.r })) |>.filter (fun (kv : Nat × Predict) => kv.2 != {}) } }

/-- A release of the fields `loaded`: where they cover the replay set it is an anchor, and replay that waits for it begins.
Kind 0 full, 1 partial, 2 wake. -/
def bobAnchor (kind build : Nat) (loaded : Nat → Bool) (d : Device) : Device :=
  if !(upto 32).all (fun f => !d.replayed f || loaded f) then d
  else if d.bobState = 1 ∨ d.bobState = 2 then
    (crossReset d).each bobHalves (fun d h =>
      if !d.up h then d
      else
        let d := d.setBobHalf h { d.bobHalf h with anchored := true, anchorAt := d.now h }
        d.bobRecord h (recOf 2 ([BitVec.ofNat 8 kind, 0] ++ leBytes build 4 ++ recTime (d.now h) ++ leBytes d.bob.fields.toNat 4)))
  else if d.bobState = 4 && !d.bob.live then
    let d := { d with bob := { d.bob with live := true, gated := 0 } }
    d.each bobHalves (fun d h => d.setBobHalf h { d.bobHalf h with rpos := ringAnchor d h })
  else d

/-! ### Commands (R508, R509, R512, R515) -/

def bobCmdErr (d : Device) : Device := d.setBit (bobA 4) 24

/-- Arm: true where it sets cmd_err. -/
def bobArm (d : Device) : Bool × Device :=
  if d.bobState = 0 ∨ d.bobState = 3 then
    let d := { d with bob := { d.bob with w := {}, e := {}, fields := d.reg (bobA 8), cross := [], gated := 0, live := false } }
    let d := d.each bobHalves (fun d h => d.setReg (bobA (0x10C + 0x20 * hn h)) 0)
    (false, (d.setFld (bobA 4) 29 3 1).setFld (bobA 4) 26 3 0)
  else (true, bobCmdErr d)

/-- Stop: a recorder that records or replays freezes with cause stopped. -/
def bobStop (d : Device) : Device := d.bobFreeze 1

/-- The pattern the device runs or loads. -/
def loadedBuild (d : Device) : Option Nat :=
  match d.load.job with
  | some j => j.pat.map (fun p => p.build.toNat)
  | none => d.load.pattern.map (fun p => p.build.toNat)

/-- The ANCHOR record of a ring names this build. -/
def anchorBuild (h : Half) (d : Device) : Option Nat × Device :=
  let r := dramRead 8 (ringBase d h + ringAnchor d h) 8 d
  (if r.1.status = 0 ∧ (r.1.data.getD 0 0) = 2 then some (leNat (r.1.data.drop 4)) else none, r.2)

/-- Start replay: true where it sets cmd_err. -/
def bobReplay (d : Device) : Bool × Device :=
  if d.bobState = 1 ∨ d.bobState = 2 ∨ d.bobState = 4 then (true, bobCmdErr d)
  else
    let rings := bobHalves.filter (fun h => ringBytes d h != 0)
    let q := rings.foldl (fun (acc : Bool × Device) h =>
      let a := anchorBuild h acc.2
      (acc.1 && a.1.isSome && a.1 == loadedBuild d, a.2)) (!rings.isEmpty, d)
    if q.1 then
      let d := q.2
      let d := { d with bob := { d.bob with fields := d.reg (bobA 8), live := false, gated := 0 } }
      (false, d.setFld (bobA 4) 29 3 4)
    else (true, bobCmdErr q.2)

def bobCmd (cmd : Nat) (d : Device) : Bool × Device :=
  match cmd with
  | 1 => bobArm d
  | 2 => (false, d.bobTrigger 2)
  | 3 => (false, bobStop d)
  | 4 => bobReplay d
  | _ => (false, d)

def execBobbinArm (mc : MClass) (s : State) : Host.Outcome State Fault Refusal := s.lift (fun d => d.byThimble mc (fun d => (bobArm d).2))
def execBobbinTrigger (mc : MClass) (s : State) : Host.Outcome State Fault Refusal := s.lift (fun d => d.byThimble mc (fun d => d.bobTrigger 2))
def execBobbinStop (mc : MClass) (s : State) : Host.Outcome State Fault Refusal := s.lift (fun d => d.byThimble mc bobStop)
def execStartReplay (mc : MClass) (s : State) : Host.Outcome State Fault Refusal := s.liftReport (fun d => d.byThimble mc (fun d => (bobReplay d).2))

/-- BOBBIN_FREEZE: half h has written its post bytes; Frozen once both halves have. -/
def bobStopped (d : Device) (h : Half) : Bool := (d.bobHalf h).postLeft == some 0
def freezeDone (h : Half) (d : Device) : Device :=
  if d.bobState = 2 && bobStopped d h && bobStopped d (otherHalf h) then d.bobFreeze 0 else d
def execBobbinFreeze (h : Half) (s : State) : Host.Outcome State Fault Refusal := s.lift (freezeDone h)

/-! ### The ring (R504, R507, R510) -/

/-- Bytes into the ring at its write offset, around its end. -/
def ringPut (h : Half) (bs : List Byte) (d : Device) : Nat × Device :=
  let size := ringBytes d h
  let at_ := (d.bobHalf h).wptr
  let n := size - at_
  let q := dramWrite 8 2 (ringBase d h + at_) (bs.take n) d
  if q.1 ≠ 0 ∨ bs.length ≤ n then q else dramWrite 8 2 (ringBase d h) (bs.drop n) q.2

/-- Write one record; false where the half takes no more. -/
def ringRecord (h : Half) (r : List Byte) (d : Device) : Bool × Device :=
  let size := ringBytes d h
  let b := d.bobHalf h
  let left := b.postLeft
  if decide (size = 0) then (false, d.bobFreeze 2)
  else if left.any (fun n => decide (n < r.length)) then (false, d.setBobHalf h { b with postLeft := some 0 })
  else
    let isAnchor := r.head? == some 2
    -- an ANCHOR record takes the place of the last one as what must stay
    let dist := (b.wptr + size - ringAnchor d h % size) % size
    let tooFar := !isAnchor && decide (dist + r.length > size)
    if tooFar && !d.bit (bobA 0) 28 then (false, d.bobFreeze 2)
    else
      let d := if tooFar then d.setBit (bobA 4) 25 else d
      let q := ringPut h r d
      if q.1 ≠ 0 then (false, q.2.bobFreeze 3)
      else
        let d := q.2
        let next := (b.wptr + r.length) % size
        let isTime := r.head? == some 1
        let d := if isAnchor then d.setReg (bobA (0x110 + 0x20 * hn h)) (BitVec.ofNat 32 (b.wptr / 8)) else d
        let d := d.setBobHalf h { d.bobHalf h with
          wptr := next, postLeft := left.map (· - r.length), sinceTime := if isTime then 0 else b.sinceTime + r.length }
        (true, d.setReg (bobA (0x10C + 0x20 * hn h)) (BitVec.ofNat 32 (next / 8)))

/-- RING_WRITE: every staged record, oldest first, with a TIME record at least every 4 KiB. -/
def ringWrite (h : Half) (d : Device) : Device :=
  if !d.up h then d
  else d.each (d.bobHalf h).staging (fun d r =>
    let runs := (d.bobState == 1 || d.bobState == 2) && !bobStopped d h
    if !runs then d
    else
      let b := d.bobHalf h
      let time := recOf 1 (timeBytes (d.now h) ++ [0, 0])
      let q := if b.sinceTime + r.length + 16 > 4096 then ringRecord h time d else (true, d)
      if !q.1 then q.2
      else
        let q := ringRecord h r q.2
        if q.1 then q.2.setBobHalf h { q.2.bobHalf h with staging := (q.2.bobHalf h).staging.drop 1 } else q.2)
def execRingWrite (h : Half) (s : State) : Host.Outcome State Fault Refusal := s.liftReport (ringWrite h)

/-- GAP_WRITE: after an overflow once staging has fallen below 256 KiB, or for an event that touches the replay set (R505). -/
def gapWrite (h : Half) (cause : Nat) (d : Device) : Device :=
  let b := d.bobHalf h
  if cause = 1 then (if b.dropping && decide (stagedBytes b < 256 * 1024) then d.bobGap h 1 else d) else d.bobGap h cause
def execGapWrite (h : Half) (cause : Fin 8) (s : State) : Host.Outcome State Fault Refusal := s.lift (gapWrite h cause.val)

/-! ### The journal (R502, R511) -/

/-- The field a crossing id belongs to, or its pin's bank. -/
def crossHalf (d : Device) (j : Nat) : Half :=
  let ofField (f : Nat) : Half := halfOfField f
  if j < 2048 then ofField (j / 64)
  else if j < 8192 then ofField ((j - 2048) / 4 / 48)
  else if j < 8832 then ofField ((j - 8192) / 5 / 4)
  else if j < 9120 then laneHalf ((j - 8832) / 2)
  else if j < 9632 then ofField ((j - 9120) / 16)
  else if j < 12704 then ofField ((j - 9632) / 2 / 48)
  else bankHalf (d.fld (bobA (0x200 + 4 * (j - 12704))) 12 3)

/-- The crossing's resource is in the replay set, or its pin entry is in use. -/
def crossWatched (d : Device) (j : Nat) : Bool :=
  if j < 2048 then d.replayed (j / 64)
  else if j < 8192 then d.replayed ((j - 2048) / 4 / 48)
  else if j < 8832 then d.replayed ((j - 8192) / 5 / 4)
  else if j < 9120 then d.replayed (laneField ((j - 8832) / 2))
  else if j < 9632 then d.replayed ((j - 9120) / 16)
  else if j < 12704 then d.replayed ((j - 9632) / 2 / 48)
  else decide (j < 12720) && d.bit (bobA (0x200 + 4 * (j - 12704))) 31 && d.fld (bobA (0x200 + 4 * (j - 12704))) 0 4 != 15

def crossNew (_ : Nat) : Predict := {}
/-- Bytes 2 to 5 of a RATIO or SYNC record. -/
def crossId (j : Nat) (dir1 : Bool) (skip : Nat) : List Byte := leBytes (j + 16384 * b2n dir1) 2 ++ leBytes skip 2

/-- What the rule of R511 makes of one event: the record it writes, and the state after it. -/
def predict (j : Nat) (dir1 : Bool) (s dd : Nat) (x : Predict) : List Byte × Predict :=
  let v : Int := (x.acc : Int) + ((s : Int) - (x.ps : Int)) * (x.r : Int)
  let p : Int := (x.pd : Int) + v / 2 ^ 24
  let acc := (v % 2 ^ 24).toNat
  let e : Int := (dd : Int) - p
  let next : Predict := { x with ps := s, pd := dd, seen := true }
  if !x.seen || decide (e < -128) || decide (e > 127) || decide (x.skip > 65535) then
    (recOf 9 (crossId j dir1 x.skip ++ [0, 0] ++ leBytes s 6 ++ [0, 0] ++ leBytes dd 6), { next with acc := 0x800000, skip := 0 })
  else if e = 0 then ([], { next with acc := acc, skip := x.skip + 1 })
  else (recOf 0x10 (leBytes (j + 16384 * b2n dir1) 2 ++ [BitVec.ofInt 8 e, 0] ++ leBytes x.skip 2), { next with acc := 0x800000, skip := 0 })

/-- JOURNAL_EVENT. -/
def journal (j : Nat) (dir1 : Bool) (s dd : Nat) (d : Device) : Device :=
  let h := crossHalf d j
  if !(crossWatched d j && d.bobTakes h) then d
  else
    let k := 2 * j + b2n dir1
    let q := predict j dir1 s dd (tabGet crossNew d.bob.cross k)
    let d := { d with bob := { d.bob with cross := tabSet crossNew d.bob.cross k q.2 } }
    if q.1.isEmpty then d else d.bobRecord h q.1
def execJournalEvent (j : BitVec 14) (dir1 : Bool) (s d : BitVec 48) (st : State) : Host.Outcome State Fault Refusal :=
  st.lift (journal j.toNat dir1 s.toNat d.toNat)

/-- RATIO_MEASURE: a changed ratio is recorded, and in force from then on. -/
def ratio (j : Nat) (dir1 : Bool) (r : Nat) (d : Device) : Device :=
  let h := crossHalf d j
  let k := 2 * j + b2n dir1
  let x := tabGet crossNew d.bob.cross k
  if !(crossWatched d j && d.bobTakes h) || x.r == r then d
  else
    let d := { d with bob := { d.bob with cross := tabSet crossNew d.bob.cross k { x with r := r, skip := 0 } } }
    d.bobRecord h (recOf 8 (crossId j dir1 x.skip ++ [0, 0] ++ leBytes r 4))
def execRatioMeasure (j : BitVec 14) (dir1 : Bool) (ratio_ : BitVec 32) (s : State) : Host.Outcome State Fault Refusal :=
  s.lift (ratio j.toNat dir1 ratio_.toNat)

/-! ### Replay (R512 to R514) -/

def setGate (f : Nat) (b : Bool) (d : Device) : Device :=
  { d with bob := { d.bob with gated := BitVec.ofNat 32 (putBits d.bob.gated.toNat f 1 (b2n b)) } }

/-- REPLAY_GATE: a replayed domain's gates stay closed until the record or entry it needs is there. -/
def replayGate (f : Nat) (ready : Bool) (d : Device) : Device :=
  if !d.feeds f then d else if ready then setGate f false d else d.stopping f (setGate f true)
def execReplayGate (f : Fin 32) (ready : Bool) (s : State) : Host.Outcome State Fault Refusal := s.lift (replayGate f.val ready)

/-- Replay ends: the gates of every replayed field close, with their state retained. -/
def replayEnd (cause : Nat) (d : Device) : Device :=
  if d.bobState ≠ 4 then d
  else
    let d := d.each (upto 32) (fun d f => if d.replayed f then d.stopping f (setGate f true) else d)
    let d := { d with bob := { d.bob with live := false } }
    d.bobFreeze cause
def execReplayEnd (why : ReplayEnd) (s : State) : Host.Outcome State Fault Refusal :=
  s.lift (replayEnd (match why with
    | .missingSource => 7
    | _ => 6))

/-- A recorded beat of an inbound request: the header beat begins a request, payload beats follow (06_ R175; log entry 94). -/
def feedRequest (s : Nat) (beat : List Byte) (d : Device) : Device :=
  let w := beat.take 64
  let flags := (beat.getD 64 0).toNat
  let q := inboundOf d s
  let q := if flags % 2 = 1 then q ++ [{ hd := headerOf (BitVec.ofNat 512 (leNat w)), data := [] }]
    else match q.getLast? with
      | none => q
      | some x =>
        let raw := x.data ++ w
        q.dropLast ++ [{ x with data := if flags / 2 % 2 = 1 then exactly (lenOf x.hd) (raw.drop (x.hd.addr.toNat % 64)) else raw }]
  { d with net := { d.net with inbound := tabSet noHeld d.net.inbound s q } }

/-- A recorded beat of a response: the last one completes the request with its tag. -/
def feedResponse (s : Nat) (beat : List Byte) (d : Device) : Device :=
  let flags := (beat.getD 65 0).toNat
  let x := tabGet noAnswer d.net.fed s
  let x : Answer := { status := flags % 16, data := x.data ++ beat.take 64
                      poison := if flags / 32 % 2 = 1 then x.poison ++ [x.data.length / 64] else x.poison }
  if flags / 64 % 2 = 0 then { d with net := { d.net with fed := tabSet noAnswer d.net.fed s x } }
  else
    let d := { d with net := { d.net with fed := tabSet noAnswer d.net.fed s {} } }
    match (stileOutst d s).find? (fun o => o.tag == (beat.getD 64 0).toNat) with
    | some o =>
      let bare := o.write || !(x.status == 0 || x.status == 7)
      netComplete o { x with data := if bare then [] else exactly o.len (x.data.drop (o.addr % 64)) } d
    | none => d

/-- Feed one record to its source; none where the source does not exist. -/
def feedRecord (h : Half) (r : List Byte) (d : Device) : Option Device :=
  let b (i : Nat) : Nat := (r.getD i 0).toNat
  let data := r.drop 16
  match b 0 with
  | 0x20 =>
    let a := bobA (0x200 + 4 * (b 2 + 256 * b 3))
    if d.bit a 31 then some (pinFiltered (d.fld a 12 3) (d.fld a 6 6) (b 4 == 1) d) else none
  | 0x21 =>
    let x := b 2 + 256 * b 3
    let e : BitVec 128 := BitVec.ofNat 128 (2 ^ 63 + x / 1024 % 16 * 2 ^ 39 + x % 1024 * 2 ^ 29 + b 7 % 16 * 2 ^ 25 + b 4 + 256 * b 5 + 65536 * b 6)
    let c := d.cal h
    some (d.setCal h { c with waiting := occInsert ⟨65536, d.now h, e, false, false⟩ c.waiting })
  | 0x24 =>
    let u := b 4 + 256 * b 5
    match b 2 with
    | 0 =>
      if d.laneUse u ≠ 1 then none
      else
        let n := (laneWidth d u + 7) / 8
        let x := d.lane u
        let w : BitVec 80 := BitVec.ofNat 80 (leNat (data.take n))
        some (if x.rx.length < 32 then d.setLane u { x with rx := x.rx ++ [w] } else laneFlag u 5 d)
    | 1 =>
      let s := u / 5
      some (if u % 5 = 3 then feedRequest s data d else feedResponse s data d)
    | _ =>
      if decide (u < 1536) then some (cloverAccess u true (leNat ((r.drop 8).take 6)) data.length data d).2.2 else none
  | _ => some d

/-- One half's replay takes its next record; a GAP, the ring's end or the stop offset ends it. -/
def replayFeed (h : Half) (d : Device) : Device :=
  let size := ringBytes d h
  if !(d.bobState == 4 && d.bob.live && d.up h && decide (size ≠ 0)) then d
  else
    let pos := (d.bobHalf h).rpos
    if pos ≥ size ∨ pos / 8 ≥ (d.reg (bobA (0x114 + 0x20 * hn h))).toNat then replayEnd 6 d
    else
      let hd := dramRead 8 (ringBase d h + pos) 8 d
      let n := 8 * ((hd.1.data.getD 1 0).toNat + 1)
      if hd.1.status ≠ 0 then replayEnd 7 hd.2
      else if hd.1.data.head? = some 3 ∨ pos + n > size then replayEnd 6 hd.2
      else
        let r := dramRead 8 (ringBase d h + pos) n hd.2
        match feedRecord h r.1.data r.2 with
        | some d => d.setBobHalf h { d.bobHalf h with rpos := pos + n }
        | none => replayEnd 7 r.2

end Sys2Proof.Machine
end

