-- ==== Sys2Proof/Machine/Faults.lean ====
section
/-!
DEFINITION. Machine/Faults.lean: fault reports, the fault log and its interrupts (19_mending_faults R489 to R495, R500).
-/
namespace Sys2Proof.Machine

def logReset (_ : Nat) : LogEntry := {}
def Device.logEntry (d : Device) (i : Nat) : LogEntry := tabGet logReset d.log.ring i
def Device.setLogEntry (d : Device) (i : Nat) (e : LogEntry) : Device :=
  { d with log := { d.log with ring := tabSet logReset d.log.ring i e } }

/-- FAULT_REPORT (R489). -/
def execFaultReport (h : Half) (cls : BitVec 8) (src : BitVec 24) (detail : BitVec 16) (s : State) :
    Host.Outcome State Fault Refusal :=
  s.lift (fun d => d.fault h cls.toNat src.toNat detail.toNat)

/-- Ring index of the open entry of a fingerprint. -/
def openOf (d : Device) (cls src : Nat) : Option Nat :=
  d.log.opened.find? (fun i => (d.logEntry i).cls == cls && (d.logEntry i).src == src)

/-- Close the entry at an index (R492). -/
def closeEntry (i : Nat) (d : Device) : Device :=
  if d.log.opened.contains i then
    let d := d.setLogEntry i { d.logEntry i with open_ := false }
    { d with log := { d.log with opened := d.log.opened.filter (fun k => k != i) } }
  else d

/-- A class raises the fault interrupt (R494). -/
def irqEnabled (d : Device) (cls src : Nat) : Bool :=
  d.bit (thmA (0x2400 + 4 * (cls / 32))) (cls % 32) && (cls != 0x30 || d.bit (mchA (src / 65536 % 8) 0x800) 8)

/-- The interrupt of a report under its fingerprint's 10 ms window; true where it is raised at once. -/
def reportIrq (cls src : Nat) (d : Device) : Bool × Device :=
  if !irqEnabled d cls src then (false, d)
  else
    let same (w : Nat × Nat × Bool) : Bool := w.1 == cls && w.2.1 == src
    if d.log.windows.any same then
      (false, { d with log := { d.log with windows := d.log.windows.map (fun w => if same w then (w.1, w.2.1, true) else w) } })
    else (true, ({ d with log := { d.log with windows := (cls, src, false) :: d.log.windows } }).raiseInt 2)

/-- Enter a report in the log (R492, R494). -/
def logReport (r : Report) (d : Device) : Device :=
  let q := reportIrq r.cls r.src d
  let d := q.2
  match openOf d r.cls r.src with
  | some i =>
    let e := d.logEntry i
    let d := d.setLogEntry i { e with last := r.time, detail := r.detail, count := sat (2 ^ 32 - 1) (e.count + 1), irq := e.irq || q.1 }
    { d with log := { d.log with opened := d.log.opened.filter (fun k => k != i) ++ [i] } }
  | none =>
    let d := if d.log.opened.length ≥ 256 then closeEntry (d.log.opened.headD 0) d else d
    let i := d.fld (thmA 0x2420) 16 12
    let d := closeEntry i d
    let d := d.setLogEntry i { first := r.time, last := r.time, cls := r.cls, src := r.src, detail := r.detail, count := 1,
                               open_ := true, irq := q.1, mirrored := false }
    let d := { d with log := { d.log with opened := d.log.opened ++ [i] } }
    d.setFld (thmA 0x2420) 16 12 (i + 1)

/-- Room has returned: one REPORTS_LOST report carries the number dropped (R489). -/
def lostReport (h : Half) (d : Device) : Device :=
  let n := match h with
    | .w => d.log.dropW
    | .e => d.log.dropE
  if n = 0 then d
  else
    let d := match h with
      | .w => { d with log := { d.log with dropW := 0 } }
      | .e => { d with log := { d.log with dropE := 0 } }
    d.fault h 0xFF 0 (sat 65535 n)

/-- LOG_ENGINE_TAKE: the log engine of a half takes the report at the head of its FIFO. -/
def logTake (h : Half) (d : Device) : Device :=
  match d.fifo h with
  | [] => d
  | r :: rs => logReport r (lostReport h (d.setFifo h rs))

def execLogEngineTake (h : Half) (s : State) : Host.Outcome State Fault Refusal := s.lift (logTake h)

/-- LOG_ENTRY_CLOSE: 60 s after the last report of a fingerprint. -/
def logClose (cls src : Nat) (d : Device) : Device :=
  match openOf d cls src with
  | some i => closeEntry i d
  | none => d

def execLogEntryClose (cls : BitVec 8) (src : BitVec 24) (s : State) : Host.Outcome State Fault Refusal :=
  s.lift (logClose cls.toNat src.toNat)

/-- FAULT_IRQ_WINDOW: the end of a 10 ms window; one interrupt and a new window if reports arrived in it. -/
def irqWindow (cls src : Nat) (d : Device) : Device :=
  let same (w : Nat × Nat × Bool) : Bool := w.1 == cls && w.2.1 == src
  if d.log.windows.any (fun w => same w && w.2.2) then
    let d := { d with log := { d.log with windows := d.log.windows.map (fun w => if same w then (w.1, w.2.1, false) else w) } }
    let d := match openOf d cls src with
      | some i => d.setLogEntry i { d.logEntry i with irq := true }
      | none => d
    d.raiseInt 2
  else { d with log := { d.log with windows := d.log.windows.filter (fun w => !same w) } }

def execFaultIrqWindow (cls : BitVec 8) (src : BitVec 24) (s : State) : Host.Outcome State Fault Refusal :=
  s.lift (irqWindow cls.toNat src.toNat)

/-- The 32 bytes of an entry (R493). -/
def entryBytes (e : LogEntry) : List Byte :=
  timeBytes e.first ++ leBytes (timeNs e.last) 4 ++ leBytes (timeSec e.last) 4 ++ leBytes e.cls 1 ++ leBytes e.src 3
    ++ leBytes e.count 4 ++ leBytes e.detail 2 ++ leBytes (b2n e.open_ + 2 * b2n e.irq + 4 * b2n e.mirrored) 1 ++ [0]

/-- LOG_IDX_WRITE: latches an entry into THM_LOG_DATA_n (R500). -/
def logIdxWrite (idx : Nat) (d : Device) : Device :=
  let d := d.setFld (thmA 0x2424) 0 12 idx
  let bs := entryBytes (d.logEntry idx)
  d.each (upto 8) (fun d n => d.setReg (thmA (0x2430 + 4 * n)) (leWord (bs.drop (4 * n))))

def execLogIdxWrite (idx : BitVec 12) (s : State) : Host.Outcome State Fault Refusal := s.lift (logIdxWrite idx.toNat)

/-- Classes mirrored into the record store (R495). -/
def mirrorClass (c : Nat) : Bool :=
  [0x02, 0x03, 0x05, 0x06, 0x11, 0x18, 0x2A, 0x31, 0x32, 0x33, 0x38, 0x39, 0x3A, 0x41, 0x60, 0x62].contains c

/-- Entries of the log from the oldest to the newest. -/
def logOldest (d : Device) : List (Nat × LogEntry) :=
  let head := d.fld (thmA 0x2420) 16 12
  let r : List (Nat × LogEntry) := d.log.ring
  r.filter (fun kv => decide (kv.1 ≥ head)) ++ r.filter (fun kv => decide (kv.1 < head))

/-- The last 512 entries of the mirrored classes, oldest first. -/
def mirrorEntries (d : Device) : List (Nat × LogEntry) :=
  let xs := (logOldest d).filter (fun kv => mirrorClass kv.2.cls)
  xs.drop (xs.length - 512)

/-- The fault-log mirror record as it is written: the number of entries, zeros, and the entries as they stand. -/
def mirrorBytes (d : Device) : List Byte :=
  leBytes (mirrorEntries d).length 4 ++ List.replicate 12 0 ++ (mirrorEntries d).flatMap (fun kv => entryBytes kv.2)

/-- Once the record set has been read back, the entries it holds read so. -/
def mirrorHeld (xs : List (Nat × LogEntry)) (d : Device) : Device :=
  d.each xs (fun d (kv : Nat × LogEntry) => d.setLogEntry kv.1 { d.logEntry kv.1 with mirrored := true })

/-- An entry from its 32 bytes (R493). -/
def entryParse (bs : List Byte) : LogEntry :=
  let n (o k : Nat) : Nat := leNat ((bs.drop o).take k)
  { first := n 0 2 + 65536 * n 2 4 + tSec * n 6 6, last := 65536 * n 12 4 + tSec * n 16 4, cls := n 20 1, src := n 21 3,
    count := n 24 4, detail := n 28 2, open_ := n 30 1 % 2 == 1, irq := n 30 1 / 2 % 2 == 1, mirrored := n 30 1 / 4 % 2 == 1 }

/-- The entries of a mirror record. -/
def mirrorParse (bs : List Byte) : List LogEntry :=
  (upto (Nat.min 512 (leNat (bs.take 4)))).map (fun i => entryParse ((bs.drop (16 + 32 * i)).take 32))

/-- A Thimble that boots copies the mirror into its log as closed entries. -/
def mirrorRead (record : List Byte) (d : Device) : Device :=
  let d := { d with log := { d.log with ring := [], opened := [], windows := [] } }
  let d := (d.setFld (thmA 0x2420) 16 12 0)
  d.each (mirrorParse record) (fun d e =>
    let i := d.fld (thmA 0x2420) 16 12
    (d.setLogEntry i { e with open_ := false, mirrored := true }).setFld (thmA 0x2420) 16 12 (i + 1))

end Sys2Proof.Machine
end

