-- ==== Sys2Proof/Machine/Mending.lean ====
section
/-!
DEFINITION. Machine/Mending.lean: mends, the walking spare and darning (19_mending_faults R480 to R488, R498, R499;
18_patterns_startup R469 to R471). The tables of fabric, memories and engines are keyed by logical position, so a mend
moves only what the position registers show.
-/
namespace Sys2Proof.Machine

def mendStat (f : Nat) : Nat := fldA f 0x18

/-! ### Positions (R499) -/

/-- Address and place of a strip's bypass field. -/
def bypAt (f s : Nat) : Nat × Nat := if s < 6 then (fldA f 0x20, 5 * s) else (fldA f 0x24, 5 * (s - 6))
def bypass (d : Device) (f s : Nat) : Nat := let p := bypAt f s; d.fld p.1 p.2 5
def shiftAt (f h : Nat) : Nat × Nat := if h < 5 then (fldA f 0x30, 6 * h) else (fldA f 0x34, 6 * (h - 5))
def rowShift (d : Device) (f h : Nat) : Nat := let p := shiftAt f h; d.fld p.1 p.2 6
def noSpare (d : Device) (f s : Nat) : Bool := d.bit (fldA f 0x28) s

/-- Hard column of block memory b, or of Clover target 24k + s (01_ R23; 03_ R73). -/
def hardCol (kind target : Nat) : Nat :=
  if kind = 2 then nth [0, 1, 2, 4, 5, 6, 8, 9] (target / 48) 0 else if target / 24 = 0 then 3 else 7

/-- Logical site of a memory or engine target. -/
def siteOf (kind target : Nat) : Nat := if kind = 2 then target % 48 else target % 24

/-! ### Requests (R481 to R483) -/

/-- The result a request gets before any freeze, 0 where it is accepted (R482). `waits`: a trigger of darning or the walking
spare, which Safe hold does not refuse (01_ R32). -/
def mendCheck (d : Device) (f : Nat) (m : MendReq) (waits : Bool) : Nat :=
  let mode := d.modeCode
  if (mode == 0 || mode == 1 || mode == 4 || (mode == 5 && !waits)) || d.underLoad f then 6
  else if !d.bit (fldA f 0) 28 then 1
  else if m.kind = 1 then
    let s := m.target / 18
    if m.target ≥ 180 ∨ m.target % 18 = 17 ∨ bypass d f s = m.target % 18 then 3
    else if noSpare d f s then 2 else 0
  else if m.kind = 2 then
    if m.target ≥ 384 then 3 else if rowShift d f (hardCol 2 m.target) ≠ 63 then 2 else 0
  else
    if m.target ≥ 48 then 3 else if rowShift d f (hardCol 3 m.target) ≠ 63 then 2 else 0

def mendSrc (f : Nat) (m : MendReq) : Nat := f * 65536 + m.kind * 16384 + m.target

/-- A refusal: the result is shown and logged, and the fault stays. -/
def mendRefuse (f : Nat) (m : MendReq) (r : Nat) (d : Device) : Device :=
  ((d.setFld (mendStat f) 23 3 r).setFld (mendStat f) 21 2 m.kind).fault (halfOfField f) 0x06 (mendSrc f m) r

def noQueue (_ : Nat) : List MendReq := []

def setQueue (f : Nat) (q : List MendReq) (d : Device) : Device :=
  ({ d with mend := { d.mend with queue := tabSet noQueue d.mend.queue f q } }).setFld (mendStat f) 26 3 q.length

/-- A trigger that comes in Safe hold waits its turn (01_ R33). -/
def mendArrival (f : Nat) (d : Device) : Device :=
  if d.modeCode = 5 then { d with mend := { d.mend with arrival := d.mend.arrival ++ [f] } } else d

/-- Take a mend request: the result, and the device after it (R481). -/
def mendRequest (f : Nat) (m : MendReq) (waits : Bool) (d : Device) : Nat × Device :=
  let r := mendCheck d f m waits
  if r ≠ 0 then (r, mendRefuse f m r d)
  else if !d.frozen f && (tabGet noMend d.mend.pend f).isNone then
    (0, mendArrival f { d with mend := { d.mend with pend := tabSet noMend d.mend.pend f (some m) } })
  else
    let q := (tabGet noMend d.mend.pend f).toList ++ tabGet noQueue d.mend.queue f
    if q.any (fun x => x.kind == m.kind && x.target == m.target) then (0, d)
    else if (tabGet noQueue d.mend.queue f).length ≥ 4 then (4, mendRefuse f m 4 d)
    else (0, mendArrival f (setQueue f (tabGet noQueue d.mend.queue f ++ [m]) d))

/-- A write of cmd 1 to 3 in FLD_MEND_CTRL (R498): Thimble only. -/
def mendCommand (f : Nat) (mc : MClass) (kind target : Nat) (d : Device) : Device :=
  d.byThimble mc (fun d => (mendRequest f ⟨kind, target, false⟩ false (d.setFld (fldA f 0x10) 0 9 target)).2)

/-- MEND_COLUMN. -/
def execMendColumn (f : Fin 32) (mc : MClass) (target : BitVec 9) (s : State) : Host.Outcome State Fault Refusal :=
  s.lift (mendCommand f.val mc 1 target.toNat)

/-- MEND_BRAM. -/
def execMendBram (f : Fin 32) (mc : MClass) (target : BitVec 9) (s : State) : Host.Outcome State Fault Refusal :=
  s.lift (mendCommand f.val mc 2 target.toNat)

/-- MEND_CLOVER. -/
def execMendClover (f : Fin 32) (mc : MClass) (target : BitVec 9) (s : State) : Host.Outcome State Fault Refusal :=
  s.lift (mendCommand f.val mc 3 target.toNat)

/-- Thimble has a report of this fingerprint, in a report FIFO or in its log. -/
def faultSeen (d : Device) (cls src : Nat) : Bool :=
  (d.fifo .w ++ d.fifo .e).any (fun r => r.cls == cls && r.src == src)
    || d.log.ring.any (fun (kv : Nat × LogEntry) => kv.2.cls == cls && kv.2.src == src)

/-- AUTO_MEND_TRIGGER: Thimble mends the reported memory (BRAM_DBE) or engine (CLV_PARITY) of a field with auto_mend (R483). -/
def autoMend (f : Nat) (clover : Bool) (target : Nat) (d : Device) : Device :=
  let seen := if clover then faultSeen d 0x18 (48 * f + target) else faultSeen d 0x11 (384 * f + target)
  if d.bit (fldA f 0x14) 30 && seen then (mendRequest f ⟨if clover then 3 else 2, target, false⟩ true d).2 else d

def execAutoMendTrigger (f : Fin 32) (clover : Bool) (target : BitVec 9) (s : State) : Host.Outcome State Fault Refusal :=
  s.lift (autoMend f.val clover target.toNat)

/-! ### The sequence (R484 to R486) -/

/-- Columns, memories or engines that a mend moves (R480). -/
def mendMoved (d : Device) (f : Nat) (m : MendReq) : Nat :=
  match m.kind with
  | 1 => let p := bypass d f (m.target / 18); let c := m.target % 18; if c ≤ p then p - c else c - p
  | 2 => 48 - siteOf 2 m.target
  | _ => 24 - siteOf 3 m.target

/-- The longest stop of a field in µs for a mend that moves n, where every running clock is 1 MHz or faster (R485). -/
def stopLimit (kind n : Nat) : Nat :=
  match kind with
  | 1 => 11 + 52 * n
  | 2 => 11 + 6 * n
  | _ => 11 + 7 * n

/-- The next waiting trigger becomes the pending one. -/
def mendNext (f : Nat) (d : Device) : Device :=
  let q := tabGet noQueue d.mend.queue f
  setQueue f (q.drop 1) { d with mend := { d.mend with pend := tabSet noMend d.mend.pend f q.head? } }

/-- No mend that came earlier in Safe hold waits and could start (01_ R33). -/
def mendTurn (d : Device) (f : Nat) : Bool :=
  match d.mend.arrival.find? (fun g => d.frozen g || ((tabGet noMend d.mend.pend g).isSome && d.domOn g && !d.underLoad g)) with
  | some g => g == f
  | none => true

/-- The mend of field f that came first in Safe hold waits no more. -/
def mendTaken (f : Nat) (d : Device) : Device := { d with mend := { d.mend with arrival := d.mend.arrival.erase f } }

/-- MEND_START: the field freezes, unless a mend before this one has taken what it needs (R482). A walking test in the same strip is
cancelled. -/
def mendStart (f : Nat) (d : Device) : Device :=
  match tabGet noMend d.mend.pend f with
  | none => d
  | some m =>
    if d.frozen f || !(d.modeCode == 2 || d.modeCode == 3) || d.underLoad f || !d.domOn f || !mendTurn d f then d
    else if mendCheck d f m true ≠ 0 then
      let r := mendCheck d f m true
      mendTaken f (mendNext f (mendRefuse f m r (mendResult f (fun x => x == m.kind * 65536 + m.target) r 0 d)))
    else
      let d := mendTaken f d
      let d := if d.replayed f then d.bobGap (halfOfField f) 2 else d
      let cancel := match tabGet noNatTab d.mend.test f with
        | some c => m.kind == 1 && c / 18 == m.target / 18
        | none => false
      let d := if cancel then { d with mend := { d.mend with test := tabSet noNatTab d.mend.test f none } } else d
      let d := d.stopping f (fun d => { d with mend := { d.mend with
        now := tabSet noMend d.mend.now f (some m)
        pend := tabSet noMend d.mend.pend f none } })
      let d := (d.setFld (mendStat f) 29 3 1).setFld (mendStat f) 21 2 m.kind
      ({ d with load := { d.load with darnPos := tabSet natZero d.load.darnPos f 0 } })
where
  noNatTab (_ : Nat) : Option Nat := none

def execMendStart (f : Fin 32) (s : State) : Host.Outcome State Fault Refusal := s.liftReport (mendStart f.val)

/-- The new positions after the switch step. The bypass of a walk step rests on no failed column. -/
def mendSwitch (f : Nat) (m : MendReq) (d : Device) : Device :=
  if m.kind = 1 then
    let s := m.target / 18
    let p := bypAt f s
    let d := d.setFld p.1 p.2 5 (m.target % 18)
    if m.walk then d else d.setBit (fldA f 0x28) s
  else
    let p := shiftAt f (hardCol m.kind m.target)
    d.setFld p.1 p.2 6 (siteOf m.kind m.target)

/-- Upset bits travel with the frames a column mend copies: columns from the target up to the old bypass move one east, or
one west (R484 step 3). Key 81920 (1440 f + frame) + bit. -/
def moveFrames (f old new : Nat) (k : Nat) : Nat :=
  let frame := k / 81920 % 1440
  let col := frame / 8
  if k / 117964800 ≠ f then k
  else if new ≤ col ∧ col < old then k + 8 * 81920
  else if old < col ∧ col ≤ new then k - 8 * 81920
  else k

/-- MEND_COMPLETE: copy, switch, restore and release, in the field's stop of `stopUs`; a mend in Safe hold waits (01_ R33). -/
def mendComplete (f : Nat) (stopUs : Nat) (copyOk : Bool) (d : Device) : Device :=
  match tabGet noMend d.mend.now f with
  | none => d
  | some m =>
    if d.modeCode = 5 && (d.sys.integrity || d.forced f) then d
    else
      let d := if m.walk then d else mendResult f (fun x => x == m.kind * 65536 + m.target) 0 stopUs d
      let s := m.target / 18
      let old := 18 * s + bypass d f s
      let d := if m.kind = 1 then { d with load := { d.load with upset := d.load.upset.map (moveFrames f old m.target) } } else d
      let d := mendSwitch f m d
      let d := if d.bit (fldA f 0x100) 1 then (((d.putBit (fldA f 0x100) 1 false).gsrField f).hedgesFlush f).gsrRelease f else d
      let d := { d with mend := { d.mend with now := tabSet noMend d.mend.now f none } }
      let d := mendNext f d
      let d := (((d.setFld (mendStat f) 29 3 0).setFld (mendStat f) 23 3 0).setFld (mendStat f) 21 2 m.kind).setFld (mendStat f) 0 12 stopUs
      let d := if m.walk then d.bump (fldA f 0x1C) 0 16 1 else d.bump (fldA f 0x1C) 16 16 1
      let d := if m.walk then
          ({ d with mend := { d.mend with test := tabSet (fun _ => none) d.mend.test f (some m.target) } }).setFld (mendStat f) 29 3 5
        else d
      let d := d.fault (halfOfField f) 0x05 (mendSrc f m) (stopUs % 4096 + if copyOk then 0 else 32768)
      d.settle

def execMendComplete (f : Fin 32) (stopUs : Nat) (copyOk : Bool) (s : State) : Host.Outcome State Fault Refusal :=
  s.liftReport (mendComplete f.val stopUs copyOk)

/-! ### The walking spare (R487, R488) -/

def walkStrip (d : Device) (f : Nat) : Nat := d.fld (mendStat f) 16 4

/-- The next strip with a usable spare, from `s` on, if there is one. -/
def nextStrip (d : Device) (f s : Nat) : Option Nat :=
  ((upto 10).map (fun i => (s + i) % 10)).find? (fun x => !noSpare d f x)

/-- WALK_STEP: the next column of the walk, westward from 16 to 0 and back to 16, then the next strip. -/
def walkStep (f : Nat) (d : Device) : Device :=
  if !d.bit (fldA f 0x14) 31 || d.frozen f || d.underLoad f || !(d.modeCode == 2 || d.modeCode == 3)
      || (tabGet (fun _ => (none : Option Nat)) d.mend.test f).isSome then d
  else
    let s0 := walkStrip d f
    let east := tabGet boolFalse d.mend.east f
    let done := east && bypass d f s0 == 16
    match nextStrip d f (if done then (s0 + 1) % 10 else s0) with
    | none => d
    | some s =>
      let east := if s = s0 ∧ !done then east else false
      let p := bypass d f s
      let east := east || p == 0
      let c := if east then p + 1 else p - 1
      let d := (d.setFld (mendStat f) 16 4 s)
      let d := { d with mend := { d.mend with east := tabSet boolFalse d.mend.east f east } }
      (mendRequest f ⟨1, 18 * s + c, true⟩ true d).2

def execWalkStep (f : Fin 32) (s : State) : Host.Outcome State Fault Refusal := s.lift (walkStep f.val)

/-- WALK_TEST_DONE: a freed column that fails stays the bypass, and the walk goes on with the next strip. -/
def walkTestDone (f : Nat) (pass : Bool) (d : Device) : Device :=
  match tabGet (fun _ => (none : Option Nat)) d.mend.test f with
  | none => d
  | some c =>
    let d := { d with mend := { d.mend with test := tabSet (fun _ => none) d.mend.test f none } }
    let d := if d.fld (mendStat f) 29 3 = 5 then d.setFld (mendStat f) 29 3 0 else d
    if pass then d
    else
      let s := c / 18
      let d := (d.setBit (fldA f 0x28) s).fault (halfOfField f) 0x04 (f * 65536 + c) s
      let d := { d with mend := { d.mend with east := tabSet boolFalse d.mend.east f false } }
      d.setFld (mendStat f) 16 4 ((s + 1) % 10)

def execWalkTestDone (f : Fin 32) (pass : Bool) (s : State) : Host.Outcome State Fault Refusal := s.lift (walkTestDone f.val pass)

/-- A write of FLD_WALK_CFG: walk_en without repair_safe is ignored and sets walk_err (R488); period 0 is stored as 1. -/
def walkCfgWrite (f : Nat) (w : Word) (d : Device) : Device :=
  let v := w &&& 0xC000FFFF
  let v := if fieldOf v 0 16 = 0 then withField v 0 16 1 else v
  if fieldOf v 31 1 = 1 ∧ !d.bit (fldA f 0) 28 then
    (d.setReg (fldA f 0x14) (withField v 31 1 0)).setBit (mendStat f) 20
  else d.setReg (fldA f 0x14) v

/-! ### Darning (18_ R469 to R471) -/

/-- The reader of field f runs; in a field under partial load only for the sweep of that load (R465 step 5, R466; R471). -/
def darnRuns (d : Device) (f : Nat) : Bool :=
  decide (d.domState f ≤ 1) && !d.frozen f && (!d.underLoad f || d.loadState f == 3) && !(d.sys.mode == .dormant)
    && decide (d.loadState f ≥ 3 ∧ d.loadState f ≤ 4)

/-- What bit i of a frame that reads wrong adds to the frame's CRC-32 (R469; 00_ R589). -/
def frameCrcBit (i : Nat) : BitVec 32 := crcMul 1 (crcPow 17 (81920 - i))
/-- Differences of the position code, of the parity and of the CRC-32 of a frame that reads wrong at the bits `bad`. -/
def frameP (bad : List Nat) : Nat := bad.foldl (fun p i => p ^^^ (i + 1)) 0
def frameParity (bad : List Nat) : Bool := bad.length % 2 == 1
def frameCrc (bad : List Nat) : BitVec 32 := bad.foldl (fun c i => c ^^^ frameCrcBit i) 0
/-- The wrong bits once bit i is flipped. -/
def frameFlip (bad : List Nat) (i : Nat) : List Nat := if bad.contains i then bad.filter (fun x => x != i) else i :: bad

/-- What a frame read finds (R470). -/
inductive FrameRead
  | good
  | correct (bit : Nat)
  | other
deriving DecidableEq, Repr

def frameRead (bad : List Nat) : FrameRead :=
  if frameParity bad then
    let i := frameP bad - 1
    if frameP bad ≠ 0 ∧ i < 81920 ∧ frameCrc (frameFlip bad i) = 0 then .correct i else .other
  else if frameCrc bad = 0 then .good else .other

/-- The wrong bits of frame n of field f. -/
def frameWrong (d : Device) (f n : Nat) : List Nat := (d.load.upset.filter (fun k => k / 81920 == 1440 * f + n)).map (· % 81920)

/-- Bit i of frame n of field f is written with the other value; a stuck cell stays. -/
def frameWrite (f n i : Nat) (d : Device) : Device :=
  let k := 81920 * (1440 * f + n) + i
  if d.load.stuck.contains k then d
  else { d with load := { d.load with
    upset := if d.load.upset.contains k then d.load.upset.filter (fun x => x != k) else k :: d.load.upset } }

/-- The sweep of a load is complete in field f. -/
def loadSwept (f : Nat) (d : Device) : Device :=
  match d.load.job with
  | some j => if j.phase = 3 ∧ !j.swept.contains f then { d with load := { d.load with job := some { j with swept := f :: j.swept } } } else d
  | none => d

/-- DARNING_FRAME: the next frame of the field is read; a bit that the codes name is corrected in place and read back (R470). -/
def darnFrame (f : Nat) (d : Device) : Device :=
  if !darnRuns d f then d
  else
    let n := tabGet natZero d.load.darnPos f
    let st := fldA f 4
    let h := halfOfField f
    let src := f * 65536 + n
    let d := d.setBit st 31
    let d := match frameRead (frameWrong d f n) with
      | .good => d
      | .correct bit =>
        let d := ((d.setBit st 28).bump (fldA f 8) 0 32 1).setFld (fldA f 0xC) 0 11 n
        if d.load.stuck.contains (81920 * (1440 * f + n) + bit) then
          let d := (d.setBit st 29).fault h 0x02 src (bit % 65536)
          (mendRequest f ⟨1, n / 8, false⟩ true d).2
        else (frameWrite f n bit d).fault h 0x01 src (bit % 65536)
      | .other =>
        let d := (d.setBit st 30).setFld (fldA f 0xC) 0 11 n
        d.fault h 0x03 src (b2n d.load.fromFlash)
    let d := { d with load := { d.load with darnPos := tabSet natZero d.load.darnPos f ((n + 1) % 1440) } }
    if n = 1439 then loadSwept f ((d.bump st 0 16 1).putBit st 31 false) else d

def execDarningFrame (f : Fin 32) (s : State) : Host.Outcome State Fault Refusal := s.lift (darnFrame f.val)

/-- FRAME_REWRITE: Thimble rereads the frame from a flash pattern and rewrites the cells that differ (R470). -/
def frameRewrite (f n : Nat) (d : Device) : Device :=
  if d.load.fromFlash && darnRuns d f then
    { d with load := { d.load with upset := d.load.upset.filter (fun k => !(k / 81920 == 1440 * f + n && !d.load.stuck.contains k)) } }
  else d

def execFrameRewrite (f : Fin 32) (n : Fin 1440) (s : State) : Host.Outcome State Fault Refusal := s.lift (frameRewrite f.val n.val)

end Sys2Proof.Machine
end

