-- ==== Sys2Proof/Machine/CalActions.lean ====
section
/-!
DEFINITION. Machine/CalActions.lean: what a delivered calendar occurrence does at its target (08_lark_calendar R231 to R234).
-/
namespace Sys2Proof.Machine

def anyArg (_ : Nat) : Bool := true

/-- Take the due occurrence and let it act; it is dropped with target_drop where `reach` does not hold (R234). -/
def calAct (h : Half) (cls idx act : Nat) (ok : Nat → Bool) (reach : Device → Bool) (f : Occ → Device → Device) (d : Device) : Device :=
  match occTake h cls idx act ok d with
  | (some o, d) => if d.up h && reach d then f o d else occDrop h 27 o d
  | (none, d) => d

/-! ### Tick lines, engines, Shuttles -/

def execCalTick (h : Half) (f : Fin 16) (t : Fin 16) (s : State) : Host.Outcome State Fault Refusal :=
  let fld := 16 * hn h + f.val
  s.lift (calAct h 1 (16 * f.val + t.val) 0 anyArg (fun d => d.domOn fld) (fun _ d => tickSend fld t.val d))

/-- A Clover request of the calendar obeys lark_start_en. -/
def calClover (h : Half) (e act : Nat) (ok : Nat → Bool) (ask : Occ → Device → Device) (d : Device) : Device :=
  let n := 768 * hn h + e
  calAct h 2 e act ok (fun d => d.domOn (n / 48)) (fun o d => if (d.engine n).ctrl.getLsbD 4 then ask o d else d) d

/-- Start address (04_ R123): the argument's low bits where its bit 15 is 1. -/
def calStartPc (x : Engine) (arg : Nat) : Nat := if bitsAt arg 15 1 = 1 then bitsAt arg 0 9 else startPc x

def execCalCloverStart (h : Half) (e : Fin 768) (arg : BitVec 24) (s : State) : Host.Outcome State Fault Refusal :=
  s.lift (calClover h e.val 0 (· == arg.toNat) (fun o d =>
    askStart (768 * hn h + e.val) (calStartPc (d.engine (768 * hn h + e.val)) (eArg o.entry)) d))
def execCalCloverStop (h : Half) (e : Fin 768) (s : State) : Host.Outcome State Fault Refusal :=
  s.lift (calClover h e.val 1 anyArg (fun _ d => askStop (768 * hn h + e.val) d))
def execCalCloverResume (h : Half) (e : Fin 768) (s : State) : Host.Outcome State Fault Refusal :=
  s.lift (calClover h e.val 2 anyArg (fun _ d => askResume (768 * hn h + e.val) d))

def execCalShuttleKick (h : Half) (n : Fin 8) (q : BitVec 20) (s : State) : Host.Outcome State Fault Refusal :=
  s.liftReport (calAct h 3 n.val 0 (fun a => bitsAt a 0 20 == q.toNat) (fun d => d.domOn (52 + hn h))
    (fun o d => calKick (8 * hn h + n.val) (bitsAt (eArg o.entry) 0 20) d))

/-! ### Pins (R233) -/

def pinBank (h : Half) (p : Nat) : Nat := 4 * hn h + p / 48

/-- The pin follows its event output. -/
def pinFollows (d : Device) (b i : Nat) : Bool :=
  (d.pinMux b i == 1 || d.pinMux b i == 8) && !d.bit (pinCfgA b i) 29 && !pinForced d b i

/-- An edge of the event output at time t; none where it comes less than 4 ns after the last. -/
def pinEdge (b i : Nat) (level : Bool) (t : Nat) (d : Device) : Option Device :=
  let p := d.pin b i
  if p.level = level then some d
  else if p.lastEdge.any (fun l => decide (t < l + 4 * 65536)) then none
  else some (d.setPin b i { p with level := level, lastEdge := some t })

/-- Another action on the pin at the same time: one that acted, or one of a lower entry that waits (R233). -/
def pinRival (h : Half) (p b i : Nat) (o : Occ) (t : Nat) (d : Device) : Bool :=
  (d.pin b i).lastAct == some t ||
    (d.cal h).waiting.any (fun x => eClass x.entry == 4 && eIndex x.entry == p && actTime d h x == t && decide (x.idx < o.idx))

/-- A pin action: the level it asks for, and when its pulse ends. Of two at one time the lower entry acts, and the other is dropped as an
edge too close is. -/
def calPin (h : Half) (p act : Nat) (ok : Nat → Bool) (level : Pin → Bool) (pulse : Bool) (d : Device) : Device :=
  let b := pinBank h p
  let i := p % 48
  calAct h 4 p act ok (fun d => pinFollows d b i) (fun o d =>
    let t := actTime d h o
    if pinRival h p b i o t d then occDrop h 26 o d
    else
      match pinEdge b i (level (d.pin b i)) t d with
      | none => occDrop h 26 o d
      | some d =>
        let x := { d.pin b i with lastAct := some t }
        d.setPin b i (if pulse then { x with pulseEnds := x.pulseEnds ++ [(t + eArg o.entry * 16384, o.idx)] } else x)) d

def execCalPinDriveLow (h : Half) (pin : Fin 192) (s : State) : Host.Outcome State Fault Refusal :=
  s.lift (calPin h pin.val 0 anyArg (fun _ => false) false)
def execCalPinDriveHigh (h : Half) (pin : Fin 192) (s : State) : Host.Outcome State Fault Refusal :=
  s.lift (calPin h pin.val 1 anyArg (fun _ => true) false)
def execCalPinToggle (h : Half) (pin : Fin 192) (s : State) : Host.Outcome State Fault Refusal :=
  s.lift (calPin h pin.val 2 anyArg (fun p => !p.level) false)
def execCalPinPulse (h : Half) (pin : Fin 192) (arg : BitVec 24) (s : State) : Host.Outcome State Fault Refusal :=
  s.lift (calPin h pin.val 3 (· == arg.toNat) (fun _ => true) true)

/-- The pulse that ends first. -/
def firstEnd : List (Nat × Nat) → Option (Nat × Nat)
  | [] => none
  | x :: xs => match firstEnd xs with
    | some y => some (if y.1 < x.1 then y else x)
    | none => some x

/-- PIN_PULSE_END: the falling edge at its own time; less than 4 ns after the last edge it is dropped with pin_merge. -/
def pulseEnd (h : Half) (p : Nat) (d : Device) : Device :=
  let b := pinBank h p
  let i := p % 48
  match firstEnd (d.pin b i).pulseEnds with
  | none => d
  | some (t, idx) =>
    if d.now h < t then d
    else
      let d := d.setPin b i { d.pin b i with pulseEnds := dropFirst (· == (t, idx)) (d.pin b i).pulseEnds }
      match pinEdge b i false t d with
      | some d => d
      | none => calFlag h 26 idx d
def execPinPulseEnd (h : Half) (pin : Fin 192) (s : State) : Host.Outcome State Fault Refusal := s.lift (pulseEnd h pin.val)

/-! ### Lanes, SYSREF, the recorder, wake -/

def calLane (h : Half) (l act : Nat) (enter : Bool) (d : Device) : Device :=
  let n := 72 * hn h + l
  calAct h 5 l act anyArg (fun d => d.domOn (laneDomain n)) (fun _ d => idleCmd n enter d) d
def execCalLaneExitIdle (h : Half) (lane : Fin 72) (s : State) : Host.Outcome State Fault Refusal := s.lift (calLane h lane.val 0 false)
def execCalLaneEnterIdle (h : Half) (lane : Fin 72) (s : State) : Host.Outcome State Fault Refusal := s.lift (calLane h lane.val 1 true)

def execCalSysref (h : Half) (j : Fin 4) (ofs : Int) (s : State) : Host.Outcome State Fault Refusal :=
  s.lift (calAct h 6 j.val 0 anyArg (fun d => d.domOn (60 + hn h)) (fun _ d => sysref (4 * hn h + j.val) ofs d))

/-- A MARKER record (20_ R510). -/
def execCalBobbinMarker (h : Half) (arg : BitVec 24) (s : State) : Host.Outcome State Fault Refusal :=
  s.lift (calAct h 7 0 0 (· == arg.toNat) (fun _ => true) (fun o d =>
    d.bobRecord h (recOf 4 (leBytes (eArg o.entry) 3 ++ [0, 0, 0] ++ recTime o.time))))

def execCalBobbinTrigger (h : Half) (s : State) : Host.Outcome State Fault Refusal :=
  s.lift (calAct h 7 0 1 anyArg (fun _ => true) (fun _ d => d.bobTrigger 1))

def calWake (h : Half) (d : Device) : Device := calAct h 8 0 0 anyArg (fun _ => true) (fun _ d => wakeStart d) d

end Sys2Proof.Machine
end

