-- ==== Sys2Proof/Machine/Selvedge.lean ====
section
/-!
DEFINITION. Machine/Selvedge.lean: links between devices: bring-up, packets, time, loss (23_selvedge_links).
-/
namespace Sys2Proof.Machine

/-! ### Lanes and registers of a link (R577, R587) -/

def slvCtl (s : Nat) : Nat := slvA s 0
def slvStat (s : Nat) : Nat := slvA s 4
def slvHalf (s : Nat) : Half := halfOf (s / 4)
def slvState (d : Device) (s : Nat) : Nat := d.fld (slvStat s) 29 3
def slvEn (d : Device) (s : Nat) : Bool := d.bit (slvCtl s) 28
def slvKnot (s : Nat) : Nat := (attPlace (.slv s)).1
def linkReset (_ : Nat) : Link := {}
def Device.slvLink (d : Device) (s : Nat) : Link := tabGet linkReset d.slv.links s
def Device.setSlvLink (d : Device) (s : Nat) (x : Link) : Device :=
  { d with slv := { d.slv with links := tabSet linkReset d.slv.links s x } }

/-- Block lane i of link s: slot i mod 4 of quad 18 h + 4 s′ + i div 4. -/
def slvLane (s i : Nat) : Nat := 4 * (18 * (s / 4) + 4 * (s % 4) + i / 4) + i % 4
/-- w of the width field. -/
def slvWidth (d : Device) (s : Nat) : Nat := 4 * (d.fld (slvCtl s) 26 2 + 1)
/-- The bonded lanes, in ascending i: those with use 5. -/
def slvLanes (d : Device) (s : Nat) : List Nat := ((upto (slvWidth d s)).map (slvLane s)).filter (fun l => d.laneUse l == 5)

/-! ### Bring-up (R578 to R580) -/

def slvSetState (s st : Nat) (d : Device) : Device := d.setFld (slvStat s) 29 3 st

/-- Training: the lanes leave idle with a burst and acquire. -/
def slvTrain (s : Nat) (d : Device) : Device :=
  let d := slvSetState s 1 ((d.setFld (slvStat s) 16 2 0).setFld (slvStat s) 27 2 0)
  d.each (slvLanes d s) (fun d l => blockIdle l false d)

/-- What the loss of a link does to traffic (R585 steps 1 to 3): this device's requests outstanding over it complete with
LINK_DOWN; while it is not Up its knot answers new ones. -/
def slvCutTraffic (s : Nat) (d : Device) : Device :=
  d.each (d.net.outst.filter (fun o => o.dev != devId d && routeLink d o.dev == some s)) (fun d o => netComplete o { status := 5 } d)

/-- Step 4: a reference entry that names the link is disqualified with cause 6. -/
def slvCutRef (s : Nat) (d : Device) : Device :=
  d.each d.leaders (fun d h => d.each (upto 8) (fun d n =>
    if refEn d n && refKind d n == 4 && refSrc d n == s then disqualify h n 6 d else d))

/-- The retrain command takes an Up link through Training. -/
def slvRetrainCmd (s : Nat) (d : Device) : Device := if slvState d s = 3 then slvTrain s (slvCutTraffic s d) else d
def execLinkRetrain (s : Fin 8) (mc : MClass) (st : State) : Host.Outcome State Fault Refusal :=
  st.lift (fun d => d.byThimble mc (slvRetrainCmd s.val))

/-- en falls: the link goes Down. -/
def slvDown (s : Nat) (d : Device) : Device :=
  let d := if slvState d s = 3 then slvCutRef s (slvCutTraffic s d) else d
  let d := d.each (slvLanes d s) (fun d l => blockIdle l true d)
  let a := slvStat s
  (((((d.setFld a 29 3 0).setFld a 27 2 0).setFld a 19 5 0).setFld a 18 1 0).setFld a 16 2 0).setSlvLink s { d.slvLink s with lanesUsed := [] }

/-- A write of SLV_CTRL: width and rate are taken only while en is 0 (R587, R303); max_ver 0 is stored as 1. -/
def slvCtrlWrite (s : Nat) (v : Word) (d : Device) : Device :=
  let old := d.reg (slvCtl s)
  let w := v &&& 0x1F8001FF
  let w := if fieldOf w 23 2 = 0 then withField w 23 2 1 else w
  let was := fieldOf old 28 1 == 1
  let en := fieldOf v 28 1 == 1
  let w := if was then withField w 25 3 (fieldOf old 25 3) else w
  let d := if was && !en then slvDown s d else d
  let d := d.setReg (slvCtl s) w
  let d := if !was && en then slvTrain s d else d
  if fieldOf v 29 3 = 1 then slvRetrainCmd s d else d
def execLinkEnable (s : Fin 8) (v : BitVec 32) (st : State) : Host.Outcome State Fault Refusal := st.liftReport (slvCtrlWrite s.val v)

def slvFail (s cause : Nat) (d : Device) : Device := slvSetState s 4 (d.setFld (slvStat s) 16 2 cause)

/-- LINK_TRAINING_DONE: the largest multiple of four locked lanes, in ascending order. -/
def slvTrained (s : Nat) (d : Device) : Device :=
  if slvState d s ≠ 1 then d
  else
    let ls := (slvLanes d s).filter (fun l => d.bit (laneStat l) 30)
    let n := ls.length / 4 * 4
    if n < 4 then slvFail s 1 d
    else
      let d := d.setSlvLink s { d.slvLink s with lanesUsed := ls.take n }
      let a := slvStat s
      slvSetState s 2 ((d.setFld a 19 5 n).putBit a 18 (decide (n < slvWidth d s)))
def execLinkTrainingDone (s : Fin 8) (st : State) : Host.Outcome State Fault Refusal := st.lift (slvTrained s.val)

/-- LINK_NEGOTIATE: the peer's id and max_ver arrive. -/
def slvNegotiate (s peerDev peerVer : Nat) (d : Device) : Device :=
  if slvState d s ≠ 2 then d
  else
    let a := slvStat s
    let d := d.setFld a 24 3 peerDev
    if peerDev = devId d then slvFail s 2 d
    else
      let v := Nat.min (d.fld (slvCtl s) 23 2) (Nat.max peerVer 1)
      slvSetState s 3 ((d.setFld a 27 2 v).bump a 8 8 1)
def execLinkNegotiate (s : Fin 8) (peerDev : BitVec 3) (peerVer : BitVec 2) (st : State) : Host.Outcome State Fault Refusal :=
  st.lift (slvNegotiate s.val peerDev.toNat peerVer.toNat)

def slvNoReply (s : Nat) (d : Device) : Device := if slvState d s = 2 then slvFail s 3 d else d
def execNegotiationTimeout (s : Fin 8) (st : State) : Host.Outcome State Fault Refusal := st.lift (slvNoReply s.val)

def slvRetry (s : Nat) (d : Device) : Device := if slvState d s = 4 && slvEn d s then slvTrain s d else d
def execLinkRetry (s : Fin 8) (st : State) : Host.Outcome State Fault Refusal := st.lift (slvRetry s.val)

/-! ### Packets (R581, R582) -/

/-- ROUTE_WRITE. -/
def execRouteWrite (v : BitVec 32) (mc : MClass) (st : State) : Host.Outcome State Fault Refusal :=
  st.lift (fun d => d.byThimble mc (fun d => d.setReg (thmA 0x2600) v))

/-- A request for this device: the address is decoded here (06_ R165). -/
def slvLocal (s : Nat) (hd : Header) (data : List Byte) (poison : List Nat) (hops : Nat) (d : Device) : Device :=
  let a := hd.addr.toNat
  match windowOf d a with
  | none => answerFrom (attPlace (.slv s)) hd 1 [] [] d
  | some (t, base, size) =>
    if a + lenOf hd > base + size then answerFrom (attPlace (.slv s)) hd 1 [] [] d
    else
      let p := targetPlace d t a
      injectHops (attPlace (.slv s)) { hd with dstKnot := Fin.ofNat 128 p.1, dstSlot := Fin.ofNat 4 p.2 } data poison hops d

/-- A packet that came over link s while it was Up: local, in transit, or refused (R582). -/
def slvTake (s : Nat) (hd : Header) (data : List Byte) (poison : List Nat) (hops : Nat) (d : Device) : Device :=
  let at_ := attPlace (.slv s)
  if hd.dstDev.val = devId d then
    if !isRequest hd then injectHops at_ hd data poison hops d
    else if hd.mclass.val > 8 || !d.bit (slvCtl s) hd.mclass.val then answerFrom at_ hd 8 [] [] (d.setBit (slvStat s) 1)
    else slvLocal s hd data poison hops d
  else
    let version3 (x : Nat) : Bool := slvState d x == 3 && d.fld (slvStat x) 27 2 == 3
    let ok := d.bit (thmA 0x2604) 0 && version3 s && decide (hops < 7) && (routeLink d hd.dstDev.val).any version3
    if ok then injectHops at_ hd data poison (hops + 1) d
    else
      let d := d.setBit (slvStat s) 2
      if isRequest hd then answerFrom at_ hd 5 [] [] d else d

/-- SELVEDGE_PACKET. -/
def slvArrive (s : Nat) (hd : Header) (data : List Byte) (poison : List Nat) (hops : Nat) (d : Device) : Device :=
  if slvState d s ≠ 3 then d else slvTake s hd data poison hops d
def execSelvedgePacket (s : Fin 8) (hd : Header) (data : LinkData) (hops : Nat) (st : State) : Host.Outcome State Fault Refusal :=
  st.lift (slvArrive s.val hd data.bytes data.poison hops)

/-- A packet of which only the first flits came when the link left Up is completed with poisoned flits (R585 step 2). -/
def slvCutPacket (s : Nat) (c : CutPacket) (d : Device) : Device :=
  let f := truncated (Nat.max c.got 1) { pid := 0, hd := c.hd, data := c.data, poison := [], flits := 1 + (if hasPayload c.hd then flitCount c.hd else 0) }
  slvTake s f.hd f.data f.poison c.hops d

/-- LINK_LEAVES_UP (R585), with the packet that was being received. -/
def slvLost (s : Nat) (lost : List Nat) (cut : Option CutPacket) (d : Device) : Device :=
  if slvState d s ≠ 3 then d
  else
    let d := match cut with
      | some c => slvCutPacket s c d
      | none => d
    let d := slvCutRef s (slvCutTraffic s d)
    let d := d.each (lost.filter (fun l => (slvLanes d s).contains l)) (fun d l => lossOfLock l d)
    let d := (d.setBit (slvStat s) 0).setFld (slvStat s) 27 2 0
    if slvEn d s then slvTrain s d else slvSetState s 0 d
def execLinkLeavesUp (s : Fin 8) (loss : LinkLoss) (st : State) : Host.Outcome State Fault Refusal :=
  st.liftReport (slvLost s.val (loss.lanes.map (fun l => l.val)) loss.cut)

/-! ### Time (R583) -/

/-- SELVEDGE_TIME_MESSAGE: half the round trip (2^−8 ns) is shown; the peer's phase sample (2^−16 ns), if it sent one, goes to the
entry that names the link; whether this end's message carries one follows from its own Lark. -/
def slvTime (s roundTrip : Nat) (peer : Option Int) (d : Device) : Device :=
  if slvState d s ≠ 3 then d
  else
    let hl := slvHalf s
    let lead := if d.larkSplit then hl else d.leader
    let own := match phaseRef d lead with
      | some n => refKind d n == 4 && refSrc d n == s
      | none => false
    let st := d.timeState lead
    let d := d.setSlvLink s { d.slvLink s with gives := (st == 2 || st == 3) && !own }
    let d := d.setReg (slvA s 8) (BitVec.ofNat 32 (roundTrip / 2))
    match peer with
    | none => d
    | some e => d.each (upto 8) (fun d n =>
      if refEn d n && refKind d n == 4 && refSrc d n == s then
        d.each (samplers d hl) (fun d h => addSample h n (e + refDly d n) (quarter (d.now hl)) d)
      else d)
def execSelvedgeTimeMessage (s : Fin 8) (roundTrip : Nat) (peerSample : Option Int) (st : State) : Host.Outcome State Fault Refusal :=
  st.lift (slvTime s.val roundTrip peerSample)

end Sys2Proof.Machine
end

