-- ==== Sys2Proof/Machine/Reset.lean ====
section
/-!
DEFINITION. Machine/Reset.lean: power-on, device and half resets, boot, Thimble failover, the loss of a half, and supplies
(01_organisation R31, R35, R36; 09_clocks_resets R251, R267 to R270; 18_patterns_startup R474 to R477; 22_power_package R553 to
R555, R565; 10_seam R290).
-/
namespace Sys2Proof.Machine

/-! ### Thimble failover (R267, R36; 18_ R467, R468; 19_ R490; 21_ R530) -/

/-- The Thimble processor of a half serves. -/
def cpuUp (d : Device) : Half → Bool
  | .w => d.sys.cpuW && d.sys.upW
  | .e => d.sys.cpuE && d.sys.upE

/-- A full load is rejected: the cause is shown and logged, and the device, if it is in Loading, goes to Blank (R468, 01_ R31). -/
def fullReject (cause f : Nat) (d : Device) : Device :=
  let a := thmA 0x2300
  let d := ((d.setFld a 29 3 5).setFld a 20 4 cause).setFld a 0 8 f
  let begun := d.sys.mode == .loading
  let tried := match d.load.job with
    | some j => if cause = 11 then 0 else if !j.auto then d.load.tried else if j.fallback then 2 else 1
    | none => d.load.tried
  let d := { d with load := { d.load with outcome := 0x50, tried := tried } }
  let d := d.fault d.sys.primary 0x63 f cause
  if begun then toBlank d else { d with load := { d.load with job := none } }

/-- A partial load is rejected: its region's domains go Off and the fields present hold values. -/
def partReject (fields : List Nat) (cause f : Nat) (d : Device) : Device :=
  let a := thmA 0x2300
  let d := ((d.setFld a 29 3 5).setFld a 20 4 cause).setFld a 0 8 f
  let d := { (d.fault d.sys.primary 0x63 f cause) with load := { d.load with job := none, outcome := 0x50 } }
  (d.each fields (fun d k => (domainOff k d).setFld (fldA k 0) 29 3 5)).settle

def regionFields (r : BitVec 32) : List Nat := (upto 32).filter (fun f => r.getLsbD f)

/-- Reject the load in progress. -/
def loadReject (cause f : Nat) (d : Device) : Device :=
  match d.load.job with
  | none => d
  | some j => if j.partial_ then partReject (j.pat.elim [] (fun p => regionFields p.region)) cause f d else fullReject cause f d

/-- The standby takes over: sessions go on, kept replies are lost, a load in progress is rejected with ABORT. -/
def thimbleFailover (h : Half) (detail : Nat) (d : Device) : Device :=
  let o := otherHalf h
  if d.sys.primary ≠ h ∨ !cpuUp d o then d
  else
    let d := { d with
      sys := { d.sys with primary := o }
      cmd := { d.cmd with sessions := d.cmd.sessions.map (fun s => { s with kept := [], tookOver := true }) } }
    let d := loadReject 11 0 d
    d.fault o 0x60 (hn h) detail

/-! ### The record store at boot (R472 to R477) -/

/-- Pages that `n` bytes take. -/
def pagesFor (n : Nat) : Nat := (n + 4095) / 4096

/-- The directory of records that begin at page `p`: type, 0, first page, length, CRC-32. -/
def bankDir : Nat → List (Nat × List Byte × BitVec 32) → List Byte
  | _, [] => []
  | p, (ty, bs, c) :: rs =>
    leBytes ty 2 ++ leBytes 0 2 ++ leBytes p 4 ++ leBytes bs.length 4 ++ leBytes c.toNat 4 ++ bankDir (p + pagesFor bs.length) rs

/-- The register of the CRC-32 over `bs` and zeros up to `n` bytes. -/
def crcFilled (c : BitVec 32) (bs : List Byte) (n : Nat) : BitVec 32 := crcZeros (bs.foldl crcByte c) (n - bs.length)

/-- What crc should hold: the CRC-32 of header bytes 16 to 4,095, then of every record page; bytes past a record's end are 0 (log entry 91).
Page 1 of a trial bank is its confirm page. -/
def bankCrc (b : Bank) : BitVec 32 :=
  b.recs.foldl (fun c r => crcFilled c r.2.1 (4096 * pagesFor r.2.1.length))
    (crcFilled 0xFFFFFFFF (bankDir (if b.trial then 2 else 1) b.recs) 4080) ^^^ 0xFFFFFFFF

/-- A bank is valid (R474). -/
def Bank.valid (b : Bank) : Bool :=
  b.magic == 0x53525A59 && b.pagesOk && b.crc == bankCrc b && b.recs.all (fun r => crc32 r.2.1 == r.2.2)

/-- A bank with these records as Thimble writes it, header last (R475). -/
def bankMade (seq : Nat) (trial : Bool) (records : Tab (List Byte)) : Bank :=
  let b : Bank := { magic := 0x53525A59, seq := seq, trial := trial, recs := records.map (fun (kv : Nat × List Byte) => (kv.1, kv.2, crc32 kv.2)) }
  { b with crc := bankCrc b }

/-- Sequence number A is later than B. -/
def seqLater (a b : Nat) : Bool := let x := wrap 32 (a + 2 ^ 32 - b % 2 ^ 32); decide (1 ≤ x ∧ x < 2 ^ 31)

/-- The bank Thimble boots from, if one is valid. -/
def chosenBank (l : LoadState) : Option Bool :=
  if l.bankA.valid && l.bankB.valid then some (seqLater l.bankB.seq l.bankA.seq)
  else if l.bankA.valid then some false
  else if l.bankB.valid then some true
  else none

def rsBank (l : LoadState) (b : Bool) : Bank := if b then l.bankB else l.bankA

/-- THM_RS_STATUS and THM_RS_SEQ for the bank in use. -/
def showBank (b : Option Bool) (d : Device) : Device :=
  let a := thmA 0x2310
  let use : Bank := match b with
    | some b => rsBank d.load b
    | none => {}
  let d := ((d.putBit a 31 (b == some true)).putBit a 30 d.load.bankA.valid).putBit a 29 d.load.bankB.valid
  ((d.putBit a 28 use.trial).putBit a 27 b.isNone).setReg (thmA 0x2314) (BitVec.ofNat 32 use.seq)

/-- A boot: the reset cause is logged (09_ R270); choose the bank; an unconfirmed trial bank counts a try, and the third falls back to the other bank. -/
def bootBank (d : Device) : Device :=
  let t := thmA 0x2318
  let d := { d with log := { d.log with causes := d.reg (pwrA 0x500) :: d.log.causes } }
  let d := if d.load.decFailW || d.load.decFailE then d.setBit (thmA 0x2310) 24 else d
  match (if d.load.decFailW && d.load.decFailE then none else chosenBank d.load) with
  | none => showBank none d
  | some b =>
    let x := rsBank d.load b
    if x.trial && !x.confirm then
      let d := d.setFld t 0 2 (d.fld t 0 2 + 1)
      if d.fld t 0 2 = 3 then
        let d := (d.setFld t 0 2 0).setBit (thmA 0x2310) 26
        showBank (if (rsBank d.load (!b)).valid then some (!b) else none) d
      else showBank (some b) d
    else showBank (some b) d

/-- The device runs ROM firmware (R476). -/
def romBoot (d : Device) : Bool := d.bit (thmA 0x2310) 27

/-- A record of the bank in use; empty where there is none. -/
def bankRecord (d : Device) (ty : Nat) : List Byte :=
  if romBoot d then [] else
    match (rsBank d.load (d.bit (thmA 0x2310) 31)).recs.find? (fun r => r.1 == ty) with
    | some r => r.2.1
    | none => []

/-- Thimble configures the secure pins of the record store (17_ R442). -/
def securePins (d : Device) : Device :=
  d.each d.load.secure (fun d (p : Nat × Nat × Word × Word) =>
    let d := d.setReg (pinCfgA p.1 p.2.1) (pinNorm p.2.2.1)
    let d := (d.setReg (pinOwnA p.1 p.2.1) 0x40000000).setReg (pinFiltA p.1 p.2.1) (p.2.2.2 &&& 0xFFFF800F)
    let d := d.setPin p.1 p.2.1 { d.pin p.1 p.2.1 with configured := true }
    let c : ClaimRec := { kind := 0, where_ := p.1, item := p.2.1, holder := 0 }
    { d with cmd := { d.cmd with claims := c :: d.cmd.claims.filter (fun x => !(x.kind == 0 && x.where_ == p.1 && x.item == p.2.1)) } })

/-- An island's page decoders test themselves when it powers up (14_ R382); whether they pass is not the device's state (log entry 1).
A failure is shown in dec_degraded once Thimble has booted (18_ R463). -/
def pageSelfTest (h : Half) (d : Device) : Device :=
  let q := d.takeFreeBool
  let l := q.2.load
  { q.2 with load := (match h with
    | .w => { l with decFailW := q.1 }
    | .e => { l with decFailE := q.1 }) }

/-- THIMBLE_BOOT: the record store chooses the firmware, pins are configured, Blank is reported. -/
def thimbleBoot (d : Device) : Device :=
  if d.sys.resetSeq.isNone ∨ !d.sys.cpuW then d
  else
    let d := { d with sys := { d.sys with resetSeq := none, booted := true, upW := true, upE := true, lostW := false, lostE := false
                                          primary := .w, mode := .blank } }
    let d := d.each [Half.w, Half.e] (fun d h =>
      if (d.lark h).on then d else pageSelfTest h (larkPowerUp h (d.lark (otherHalf h)).on d))
    let d := bootBank d
    let d := mirrorRead (bankRecord d 6) d
    let d := if romBoot d then d else securePins d
    hostActivate (if d.load.hostE && !romBoot d then .e else .w) d
def execThimbleBoot (s : State) : Host.Outcome State Fault Refusal := s.liftReport thimbleBoot

/-- THIMBLE_WATCHDOG: 100 ms without service. The processor restarts, and the standby takes over. -/
def thimbleWatchdog (h : Half) (d : Device) : Device :=
  if !cpuUp d h then d
  else
    let d := d.setBit (pwrA 0x500) 3
    let was := d.sys.primary == h
    let d := thimbleFailover h 0 d
    -- no standby: the same Thimble boots again, and no copy of the sessions is left
    let d := if was && d.sys.primary == h then { d with cmd := { d.cmd with sessions := [] } } else d
    bootBank d

/-- JTAG_TRST: the test logic only: a packet half shifted in is gone. -/
def execJtagTrst (s : State) : Host.Outcome State Fault Refusal :=
  s.lift (fun d => { d with cmd := { d.cmd with jtagIn := [], jtagOut := 0 } })

/-! ### Device reset (R267 to R269) -/

/-- Warn, hot and trip limits of the grade (22_ R565, R575). -/
def gradeRegs (d : Device) : Device := if d.sys.gradeI then d.setReg (pwrA 0x800) 0x5A646E00 else d

/-- Registers a device reset leaves: the Larks' but the calendar's, Bobbin's, and in the islands the device state, the epochs, the
boot tries, the reset cause and the thermal status. -/
def keptRegs (a : Nat) : Bool :=
  (decide (lrkA .w 0 ≤ a ∧ a < lrkA .e 0x10000)) || (decide (bobA 0 ≤ a ∧ a < bobA 0x10000))
    || [thmA 0x40, thmA 0x2208, thmA 0x2318, pwrA 0x500, pwrA 0x804].contains a

/-- The islands are powered. -/
def islandsOn (d : Device) : Bool := d.sys.coreIn && d.sys.aux

/-- The supply_miss bits: a domain of which a needed supply is not valid reads 1 (R554). -/
def showSupply (d : Device) : Device := d.each (upto 20) (fun d i => d.putBit (domStatA (32 + i)) 27 (!supplyOk d (32 + i)))

/-- A device reset takes effect: pins and lanes safe, channels told to enter self-refresh, domains Off, PLLs disabled, both
Thimbles held in reset. `cause` is its bit in PWR_RESET_CAUSE. -/
def deviceReset (k : ResetKind) (cause : Nat) (d : Device) : Device :=
  if !islandsOn d then d
  else
    let d := d.each (upto 8) (fun d n => if d.chanState n = 2 ∨ d.chanState n = 3 then srEnter n .deviceReset d else d)
    let d := pinsPowerUp (toBlank d) (fun _ => true)
    let d := d.setBit (pwrA 0x500) cause
    let d := gradeRegs (d.clearRegs (fun a => !keptRegs a))
    let d := seamReset d
    let d := { d with
      sys := { d.sys with resetSeq := some k, booted := false, cpuW := false, cpuE := false, integrity := false, blankOnExit := false
                          mgmtLine := false, tripReset := false, mode := .blank }
      net := { weftDown := d.net.weftDown }
      log := { causes := d.log.causes }
      clk := { plls := d.clk.plls.map (fun (kv : Nat × PllExtra) => (kv.1, { kv.2 with target := none, priLost := false })) |>.filter
                 (fun (kv : Nat × PllExtra) => kv.2 != ({} : PllExtra)) }
      pwr := {}
      mend := { failed := d.mend.failed }
      load := { d.load with tried := 0 }
      lanes := []
      eth := []
      jesd := []
      slv := {}
      sht := {}
      cmd := { sent := d.cmd.sent } }
    let d := showSupply (d.each [16, 17] (fun d p => pllShow p d))
    d.each (upto 144) (fun d l => laneEval l d)

/-- DEV_RESET_N low: 1 µs or more resets; under 100 ns it is ignored; between the two the spec does not say (log entry 1). -/
def devResetPin (lowNs : Nat) (d : Device) : Device :=
  if lowNs ≥ 1000 then deviceReset .pin 1 d
  else if lowNs < 100 then d
  else
    let q := d.takeFreeBool
    if q.1 then deviceReset .pin 1 q.2 else q.2
def execDevResetN (lowNs : Nat) (s : State) : Host.Outcome State Fault Refusal := s.liftReport (devResetPin lowNs)

/-- PWR_OK_IN goes low: held in reset, as by DEV_RESET_N. -/
def pwrOkLow (d : Device) : Device :=
  let d := deviceReset .pin 1 d
  { d with sys := { d.sys with pwrOkLow := true } }
def execPwrOkIn (s : State) : Host.Outcome State Fault Refusal := s.liftReport pwrOkLow

/-- DEVICE_RESET: cmd 1 of PWR_RESET_CTRL, only by Thimble. -/
def execDeviceReset (mc : MClass) (s : State) : Host.Outcome State Fault Refusal :=
  s.liftReport (fun d => d.byThimble mc (deviceReset .command 2))

/-- TRIP_HW_RESET: Thimble has not answered a thermal trip within 2 ms. -/
def execTripHwReset (s : State) : Host.Outcome State Fault Refusal :=
  s.liftReport (fun d => if d.sys.tripReset then deviceReset .command 2 d else d)

/-- RESET_RELEASE: the system PLLs lock and the Thimbles start to boot. -/
def resetRelease (d : Device) : Device :=
  if d.sys.resetSeq.isNone then d else { d with sys := { d.sys with cpuW := true, cpuE := true, pwrOkLow := false } }
def execResetRelease (s : State) : Host.Outcome State Fault Refusal := s.liftReport resetRelease

/-! ### Power-on and supplies (R267, R553 to R555) -/

/-- What outlives the loss of the always-on supplies: flash, one-time-programmable storage, DRAM with its own supply, the host's
memory, and what the board drives. -/
def powerLost (d : Device) : Device :=
  { fresh := d.fresh
    sys := { coreIn := d.sys.coreIn, aux := d.sys.aux, xcvHi := d.sys.xcvHi, vddq := d.sys.vddq, vccio := d.sys.vccio
             straps := d.sys.straps, pwrupPd := d.sys.pwrupPd, gradeI := d.sys.gradeI, pwrOkLow := d.sys.pwrOkLow, msix := d.sys.msix }
    log := { causes := d.log.causes }
    time := { savedW := d.time.savedW, savedE := d.time.savedE }
    seam := { stored := d.seam.stored }
    load := { keys := d.load.keys, patKeys := d.load.patKeys, bankA := d.load.bankA, bankB := d.load.bankB
              primaryPtr := d.load.primaryPtr, fallbackPtr := d.load.fallbackPtr, hostE := d.load.hostE, secure := d.load.secure
              records := d.load.records, decFailW := d.load.decFailW, decFailE := d.load.decFailE }
    host := { mem := d.host.mem }
    mem := { dram := d.mem.dram, symErr := d.mem.symErr, poisoned := d.mem.poisoned, mix := d.mem.mix, tagBad := d.mem.tagBad
             blkBad := d.mem.blkBad, mirBad := d.mem.mirBad, mirOld := d.mem.mirOld, nextKey := d.mem.nextKey + 1, savedMark := d.mem.savedMark
             savedDly := d.mem.savedDly }
    mend := { failed := d.mend.failed }
    pins := d.pins.map (fun (kv : Nat × Pin) => (kv.1, ({ pad := kv.2.pad } : Pin))) |>.filter (fun (kv : Nat × Pin) => kv.2 != ({} : Pin))
    cmd := { sent := d.cmd.sent } }

/-- POWER_ON: the always-on supplies become valid: everything resets, each Lark starts at time 0, the straps are sampled. -/
def powerOnReset (straps : BitVec 3) (pd gradeI : Bool) (d : Device) : Device :=
  let d := powerLost d
  let d := { d with sys := { d.sys with coreIn := true, aux := true, straps := straps, pwrupPd := pd, gradeI := gradeI
                                        resetSeq := some .powerOn } }
  let d := (gradeRegs d).setReg (pwrA 0x500) 1
  let d := showSupply (seamReset d)
  let d := d.each [Half.w, Half.e] (fun d h => larkPowerUp h false d)
  let d := pageSelfTest .e (pageSelfTest .w d)
  d.each (upto 8) (fun d b => d.putBit (gpioA b 0x430) 31 (vioOk d b))
def execPowerOn (straps : BitVec 3) (pwrupPd : Bool) (gradeI : Bool) (s : State) : Host.Outcome State Fault Refusal :=
  s.liftReport (powerOnReset straps pwrupPd gradeI)

/-- SUPPLY_VALID: the second of the always-on supplies to become valid is a power-on. -/
def supplyValid (x : Supply) (d : Device) : Device :=
  let was := islandsOn d
  let d := match x with
    | .coreIn => { d with sys := { d.sys with coreIn := true } }
    | .aux => { d with sys := { d.sys with aux := true } }
    | .xcvHi => { d with sys := { d.sys with xcvHi := true } }
    | .vddq => { d with sys := { d.sys with vddq := true } }
    | .vccio b =>
      let d := { d with sys := { d.sys with vccio := d.sys.vccio ||| BitVec.ofNat 8 (2 ^ b.val) } }
      if islandsOn d then d.setBit (gpioA b.val 0x430) 31 else d
  if !was && islandsOn d then powerOnReset d.sys.straps d.sys.pwrupPd d.sys.gradeI d
  else if islandsOn d then (showSupply d).settle else d
def execSupplyValid (x : Supply) (s : State) : Host.Outcome State Fault Refusal := s.liftReport (supplyValid x)

/-- A domain turned On loses its supply, or ramps up without it: it goes Off and supply_miss is set (R555, R561). -/
def supplyMiss (n : Nat) (d : Device) : Device :=
  if d.domState n = 3 ∧ (d.trans n).isNone then d else (domainOff n d).setBit (domStatA n) 27

/-- SUPPLY_LOSS. -/
def supplyLoss (x : Supply) (d : Device) : Device :=
  match x with
  | .coreIn => powerLost { d with sys := { d.sys with coreIn := false } }
  | .aux => powerLost { d with sys := { d.sys with aux := false } }
  | .xcvHi =>
    let d := { d with sys := { d.sys with xcvHi := false } }
    let d := d.each (upto 144) (fun d l => lossOfLock l d)
    showSupply (d.each (upto 12) (fun d i => supplyMiss (32 + i) d))
  | .vddq =>
    let d := showSupply { d with sys := { d.sys with vddq := false } }
    let d := d.each (upto 8) (fun d n =>
      let used := d.chanState n != 0
      let d := supplyMiss (44 + n) d
      if used then d.setChanState n 4 else d)
    { d with mem := { d.mem with dram := [], symErr := [], poisoned := [], mix := [], tagBad := [], blkBad := [], mirBad := [], mirOld := [] } }
  | .vccio b => vccioLow b.val d

/-! ### One half (R36, R251, R267, R290) -/

/-- The half's island is gone: its Lark stands until it powers up again (07_ R219). -/
def larkOff (h : Half) (d : Device) : Device := d.setLark h { d.lark h with on := false }

/-- The other half's Thimble declares half h lost, and the primary moves if it was there. -/
def halfLost (h : Half) (reported : Bool) (d : Device) : Device :=
  if (d.lost h && !d.up h && d.bit seamStat 31) ∨ !d.up (otherHalf h) ∨ (reported && d.up h) then d
  else
    let d := larkOff h ((d.setUp h false).setLost h true)
    let d := seamHalfLost h d
    let d := larkSurvives (otherHalf h) d
    (thimbleFailover h 1 d)

/-- HALF_CLOCK_LOSS: both inputs of the half's system PLL are lost. Every domain of the half is forced; never Safe hold. -/
def halfClockLoss (h : Half) (d : Device) : Device :=
  let p := d.pll (16 + hn h)
  if !d.up h ∨ d.sys.resetSeq.isSome ∨ p.priGood ∨ p.fbGood then d
  else
    let d := larkOff h (d.setUp h false)
    let d := d.each ((upto 64).filter (fun n => halfOfDomain n == h)) (fun d n => forceDomain n d)
    (thimbleFailover h 1 d)

def halfDomains (h : Half) : List Nat := (upto 64).filter (fun n => halfOfDomain n == h)

/-- A half reset: its island, Lark included, and its domains. During a device reset it is part of that (R269). -/
def halfReset (h : Half) (d : Device) : Device :=
  if d.sys.resetSeq.isSome ∨ !islandsOn d then d
  else
    let d := d.setBit (pwrA 0x500) (4 + hn h)
    let d := larkOff h (d.setUp h false)
    let d := d.each (halfDomains h) (fun d n => domainOff n d)
    let d := liningHalfLost h (epochBump h (d.bobFreeze 5))
    let d := pinsPowerUp d (fun b => bankHalf b == h)
    let d := { d with net := { d.net with
      outst := d.net.outst.filter (fun o => knotHalf o.src.knot.val != h)
      arrived := d.net.arrived.filter (fun f => knotHalf f.hd.dstKnot.val != h) } }
    let d := { d with slv := { d.slv with links := tabDrop (fun s => s / 4 == hn h) d.slv.links } }
    let d := d.clearRegs (fun a => decide (slvA (4 * hn h) 0 ≤ a ∧ a < slvA (4 * hn h + 4) 0))
    let d := d.setFifo h []
    (thimbleFailover h 1 d)

end Sys2Proof.Machine
end

