-- ==== Sys2Proof/Machine/Bus.lean ====
section
/-!
DEFINITION. Machine/Bus.lean: what a read or a write of the control space does at its target: the register rules of
00_scope R590, each block's write permissions and write effects, and the windows that are not registers (06_ R165, R166,
R178; 12_ R330, R334, R339).
-/
namespace Sys2Proof.Machine

/-- A register stored by its row's masks: read-write bits take the value, write-one-to-clear bits clear. -/
def maskStore (a : Nat) (v : Word) (d : Device) : Device :=
  match rowAt a with
  | none => d
  | some r => d.setReg a ((d.reg a &&& ~~~r.rw &&& ~~~(v &&& r.w1c)) ||| (v &&& r.rw))

/-- Store a value with one field replaced where it holds a value that the table says is stored as another. -/
def storedAs (v : Word) (lo n : Nat) (bad : Nat → Bool) (as_ : Nat) : Word := if bad (fieldOf v lo n) then withField v lo n as_ else v

def isZero (x : Nat) : Bool := x == 0

/-! ### Writes, by window. `none` is a write refused with TARGET_ERR. -/

/-- Writes that only Thimble may make. -/
def only3 (mc : Nat) (f : Device → Device) (d : Device) : Option Device := if mc = 3 then some (f d) else none

/-- Ring sizes outside 2 to 10 are stored as 2 (12_ R344). -/
def ringK (v : Word) : Word := storedAs v 0 4 (fun k => k < 2 || k > 10) 2

/-- The Thimble mailbox: the context base moves only in Blank and Loading (16_ R433); the network ring is written by
master class 0 only (21_ R519). -/
def wrThimble (mc o : Nat) (v : Word) (d : Device) : Option Device :=
  let a := thmA o
  if o = 0x44 ∨ o = 0x48 then some (maskStore a v d).mgmt
  else if o = 0x2100 then some (dramMapWrite 0 v d)
  else if o = 0x2104 then some (dramMapWrite 1 v d)
  else if o = 0x2200 ∨ o = 0x2204 then
    only3 mc (fun d => if d.sys.mode == .blank || d.sys.mode == .loading then maskStore a v d else d) d
  else if o = 0x2424 then some (logIdxWrite (fieldOf v 0 12) d)
  else if 0x2510 ≤ o ∧ o < 0x2548 then
    if mc ≠ 0 then none
    else if o = 0x2524 then some (reqProd .network (fieldOf v 0 16) d)
    else some (maskStore a (if o = 0x2520 then ringK v else v) d)
  else if 0x2600 ≤ o then only3 mc (maskStore a v) d
  else some (maskStore a v d)

/-- Device-wide Lark registers have one copy, whichever window addresses them (07_ R221). -/
def lrkAddr (d : Device) (h : Half) (o : Nat) : Nat :=
  if (0x80 ≤ o ∧ o < 0xA0) ∨ o = 0xC4 ∨ o = 0xC8 ∨ o = 0xE4 ∨ o = 0xE8 then d.roA h o
  else if o = 0 ∨ (0x20 ≤ o ∧ o < 0x140) then lrkWide o
  else lrkA h o

def wrLark (mc : Nat) (h : Half) (o : Nat) (v : Word) (d : Device) : Option Device :=
  let a := lrkAddr d h o
  if o = 0 then some (lrkCtrlWrite h v d)
  else if 0x40 ≤ o ∧ o < 0x60 then some (refConfigWrite ((o - 0x40) / 4) v d)
  else if o = 0xC0 then some (d.setReg a (loopCfgNorm v))
  else if o = 0xE0 then some (holdCfgWrite v d)
  else if 0x100 ≤ o ∧ o < 0x140 ∧ o % 16 = 0 then some (gridCfgWrite ((o - 0x100) / 16) v d)
  else if 0x200 ≤ o ∧ o < 0x600 then
    if mc ≠ 3 then none
    else if o = 0x204 then
      match fieldOf v 30 2 with
      | 1 => some (calWrite h d)
      | 2 => some (calRead h d)
      | 3 => some (calClearValid h d)
      | _ => some d
    else if 0x400 ≤ o ∧ o % 16 = 4 then some (chanStage h ((o - 0x400) / 16) v false d)
    else some (maskStore a v d)
  else some (maskStore a v d)

/-- Free delays that a drift pause measures where no measurement is given. -/
def freeWords (n : Nat) (d : Device) : List Word × Device :=
  (upto n).foldl (fun (acc : List Word × Device) _ => let q := acc.2.takeFree; (acc.1 ++ [BitVec.ofNat 32 q.1], q.2)) ([], d)

/-- MCH_ECC_CTRL: its fields, then its command (14_ R384). -/
def eccCtrlWrite (n : Nat) (v : Word) (d : Device) : Device :=
  let d := maskStore (mchA n 0x800) (storedAs v 0 4 (fun x => x < 2) 2) d
  let r := fieldOf v 28 1
  match fieldOf v 29 3 with
  | 1 => (eccMark n r (fieldOf v 23 5) d).2
  | 2 => (eccUnmark n r (fieldOf v 23 5) d).2
  | 3 => (eccSalvage n r d).2
  | 4 => eccClear n r d
  | _ => d

def wrChannel (mc n o : Nat) (v : Word) (d : Device) : Option Device :=
  let a := mchA n o
  if o = 0 then
    let d := maskStore a (storedAs v 24 4 isZero 1) d
    some (if fieldOf v 29 3 = 1 then
      let p := freeWords 20 d
      let q := freeWords 20 p.2
      driftNow n p.1 q.1 q.2 else d)
  else if o = 4 then some (mchCfgWrite n v d)
  else if o = 0x10 then
    let v := storedAs v 8 6 isZero 1
    some (maskStore a (storedAs v 0 6 (fun x => x ≥ fieldOf v 8 6) (fieldOf v 8 6 - 1)) d)
  else if 0x400 ≤ o ∧ o < 0x500 then some (dlyWrite n ((o - 0x400) / 0x80) (o % 0x80 / 4) (v &&& 0x03FF03FF) d)
  else if o = 0x800 then some (eccCtrlWrite n v d)
  else if o = 0x880 then some (rptIdxWrite n (fieldOf v 0 8) d)
  else if o = 0x900 then
    let d := maskStore a (storedAs v 0 16 isZero 1) d
    some (match fieldOf v 29 3 with
      | 1 => (passStart n d).2
      | 2 => passStop n d
      | _ => d)
  else if o = 0x940 then if mc = 2 ∨ mc = 3 then some (maskStore a v d) else none
  else if o = 0xC00 then
    only3 mc (fun d => if d.bit (chanCfg n) 31 && fieldOf v 31 1 != d.fld a 31 1 then d.setBit (mchA n 8) 0 else maskStore a v d) d
  else if 0xC00 ≤ o then only3 mc (maskStore a v) d
  else some (maskStore a v d)

/-- A Shuttle window: SHT_DOORBELL takes 8-byte writes only, which `busWrite` makes (16_ R415); queue selection, commands and
SHT_CTRL are Thimble's (R431). -/
def wrShuttle (mc n o : Nat) (v : Word) (d : Device) : Option Device :=
  let a := shtA n o
  if o = 0x100 ∨ o = 0x104 then none
  else if o = 0 then only3 mc (maskStore a v) d
  else if 0x300 ≤ o then only3 mc (fun d => if o = 0x304 then qCmd n (fieldOf v 29 3) d else maskStore a v d) d
  else if o = 0x204 then some (shadowStage n v false d)
  else some (maskStore a v d)

def wrQuad (q o : Nat) (v : Word) (d : Device) : Device :=
  let l := 4 * q + (o - 0x100) / 0x100
  let r := 0x100 + o % 0x100
  if o = 0 then refSelWrite q v d
  else match r with
    | 0x100 => laneCtrlCmd l v d
    | 0x104 => laneRateWrite l r (v &&& 0xFFF) d
    | 0x108 => laneRateWrite l r (v &&& 0xFFFFFF) d
    | 0x120 => firWrite l v d
    | 0x128 => adaptWrite l v d
    | 0x12C => eqWrite l 0 (v &&& 0xFF) d
    | 0x130 => eqWrite l 1 v d
    | 0x134 => eqWrite l 2 v d
    | 0x138 => eqWrite l 3 v d
    | 0x13C => eqWrite l 4 v d
    | 0x140 => eqWrite l 5 v d
    | 0x180 => prbsCtrlWrite l v d
    | 0x1A0 => eyeCtrlWrite l v d
    | _ => maskStore (quadA q o) v d

/-- Owner codes of GPIO_PIN_OWN are stored as written; the mux and its switch follow R447. -/
def wrPins (b o : Nat) (v : Word) (d : Device) : Device :=
  if o < 0xC0 then pinCfgWrite b (o / 4) (pinNorm v) d else maskStore (gpioA b o) v d

def wrSeam (o : Nat) (v : Word) (d : Device) : Device :=
  if o = 0 then
    let d := maskStore (seamA 0) v d
    match fieldOf v 29 3 with
    | 1 => startRemap (fieldOf v 0 7) d
    | 2 => retrainAll 3 d
    | 3 => armRelease 3 d
    | _ => d
  else if 0x1000 ≤ o ∧ o < 0x4000 ∧ o % 64 = 0 then d.setReg (seamA o) (segCfgStored ((o - 0x1000) / 64) v)
  else if 0x4000 ≤ o then d.setReg (seamA o) (seamHoldStored v)
  else maskStore (seamA o) v d

def wrBobbin (o : Nat) (v : Word) (d : Device) : Device :=
  if o = 0 then (bobCmd (fieldOf v 29 3) (maskStore (bobA 0) v d)).2
  else if o = 0xC then maskStore (bobA o) (storedAs v 0 8 isZero 1) d
  else if o = 0x108 then ringSizeWrite .w v d
  else if o = 0x128 then ringSizeWrite .e v d
  else maskStore (bobA o) v d

/-- Lining registers: base and limit are taken only while the range is Closed (15_ R409). -/
def wrLining (o : Nat) (v : Word) (d : Device) : Device :=
  if o = 0 then
    let d := maskStore (linA 0) v d
    let i := fieldOf v 0 4
    match fieldOf v 29 3 with
    | 1 => (liningOpen i (fieldOf v 28 1 == 1) d).2
    | 2 => (liningClose i (fieldOf v 28 1 == 1) d).2
    | 3 => (liningRekey i d).2
    | _ => d
  else if 0x100 ≤ o ∧ o % 0x20 < 0x10 ∧ rngState d ((o - 0x100) / 0x20) ≠ 0 then linCmdErr d
  else maskStore (linA o) v d

/-- D_k of 1 is stored as 0 (09_ R271). -/
def pllOut (v : Word) : Word := (upto 4).foldl (fun v k => storedAs v (8 * k) 8 (· == 1) 0) v

def wrPll (n r : Nat) (v : Word) (d : Device) : Device :=
  let a := pllA n r
  match r with
  | 0 =>
    -- the nominal frequencies of the inputs are not in the device's state
    let p := d.takeFree
    let q := p.2.takeFree
    pllCtrlWrite n v p.1 q.1 q.2
  | 4 | 0xC | 0x14 => if pllInUse d n then d.setBit (pllStat n) 2 else maskStore a (if r = 0x14 then pllOut v else v) d
  | _ => maskStore a v d

def domCtrlNorm (v : Word) : Word :=
  let v := storedAs v 8 8 (· < 20) 20
  let v := storedAs v 0 8 isZero 1
  storedAs (storedAs v 16 8 (· < 36) 36) 16 8 (· > 64) 64

/-- A write of PWR_DOM_CTRL_d: a state request for a frozen field is refused (22_ R561); while avs_en is 0 the output of an On domain
follows v_set (R562). -/
def domCtrlWrite (mc n : Nat) (v : Word) (d : Device) : Option Device :=
  if mc ≠ 3 || (n < 32 && d.frozen n && fieldOf v 30 2 != d.domState n) then none
  else
    let d := domRequest n (fieldOf v 30 2) (maskStore (domCtrlA n) (domCtrlNorm v) d)
    some (if d.domOn n && !d.bit (domCtrlA n) 29 then d.setFld (domStatA n) 16 8 (vSet d n) else d)

/-- Clock and reset registers are open to every class but PWR_RESET_CTRL (09_ R270); the power registers are Thimble's (22_). -/
def wrPower (mc o : Nat) (v : Word) (d : Device) : Option Device :=
  let a := pwrA o
  if 0x100 ≤ o ∧ o < 0x300 then some (wrPll ((o - 0x100) / 32) (o % 32) v d)
  else if o = 0x300 ∨ o = 0x304 then some (maskStore a (storedAs v 0 8 (· > 71) 0) d)
  else if 0x400 ≤ o ∧ o < 0x500 then some (clockCheck ((o - 0x400) / 4) (maskStore a v d))
  else if o = 0x504 then
    only3 mc (fun d => match fieldOf v 29 3 with
      | 1 => deviceReset .command 2 d
      | 2 => halfReset .w d
      | 3 => halfReset .e d
      | _ => d) d
  else if 0x600 ≤ o ∧ o < 0x700 then
    domCtrlWrite mc ((o - 0x600) / 4) v d
  else if 0x700 ≤ o then only3 mc (maskStore a v) d
  else some (maskStore a v d)

/-- Slot codes other than 0 to 33 and 63 are stored as 63 (09_ R273). -/
def slotCodes (v : Word) : Word := (upto 4).foldl (fun v k => storedAs v (8 * k) 6 (fun c => c > 33) 63) v
/-- Tick clocks from 12 to 14 are stored as 15 (02_ R67). -/
def tickCodes (v : Word) : Word := (upto 8).foldl (fun v k => storedAs v (4 * k) 4 (fun c => c ≥ 12) 15) v

/-- A field's window. A write to a replayed field's window, a mend register apart, marks a gap (20_ R513). -/
def wrField (mc f o : Nat) (v : Word) (d : Device) : Option Device :=
  let a := fldA f o
  if 0x10 ≤ o ∧ o < 0x38 then
    only3 mc (fun d =>
      if o = 0x10 then
        let d := maskStore a v d
        let k := fieldOf v 29 3
        if 1 ≤ k ∧ k ≤ 3 then (mendRequest f ⟨k, fieldOf v 0 9, false⟩ false d).2 else d
      else if o = 0x14 then walkCfgWrite f v d
      else maskStore a v d) d
  else
    let d := if d.replayed f then d.bobGap (halfOfField f) 4 else d
    some (
      if o = 0x100 then (if v.getLsbD 0 then gsrPulse f d else d)
      else if o = 0x110 ∨ o = 0x114 then tickReselect f ((o - 0x110) / 4) (d.reg a) (d.setReg a (tickCodes v))
      else if o = 0x300 then columnClock f v d
      else if 0x400 ≤ o ∧ o < 0x410 then stileCtrlWrite (4 * f + (o - 0x400) / 4) v d
      else if 0x500 ≤ o ∧ o < 0x530 then rclkWrite f ((o - 0x500) / 4) v d
      else if 0x540 ≤ o then clockCheck f (maskStore a (slotCodes v) d)
      else maskStore a v d)

def wrEth (m o : Nat) (v : Word) (d : Device) : Device :=
  let a := ethA m o
  if o = 0 then ethBlkWrite m v d
  else if 0x100 ≤ o ∧ o < 0x300 ∧ o % 0x40 = 0 then
    let d := maskStore a v d
    if fieldOf v 31 1 = 1 then d else d.setFld (ethStat m ((o - 0x100) / 0x40)) 30 2 0
  else if 0x1000 ≤ o ∧ o % 0x20 = 0x10 then maskStore a (storedAs v 0 16 isZero 1) d
  else maskStore a v d

def wrJesd (j o : Nat) (v : Word) (d : Device) : Device :=
  if o = 0 then jsdCtrlWrite j v d
  else if o = 8 then maskStore (jsdA j 8) v d
  else match rowAt (jsdA j o) with
    | some r => jsdRegWrite j o (v &&& r.rw) d
    | none => d

/-- The host writes only its ring registers; its writes to any other field are ignored (12_ R344). -/
def wrHost (mc : Nat) (h : Half) (o : Nat) (v : Word) (d : Device) : Device :=
  let a := hptA h o
  if mc = 1 ∧ ¬((0x10 ≤ o ∧ o ≤ 0x24) ∨ o = 0x30) then d
  else if o = 0 then hptCtrlWrite h v d
  else if o = 0x20 then maskStore a (ringK v) d
  else if o = 0x24 then reqProd (hostCarrier h) (fieldOf v 0 16) d
  else maskStore a v d

def wrSlv (s o : Nat) (v : Word) (d : Device) : Device :=
  if o = 0 then slvCtrlWrite s v d else maskStore (slvA s o) v d

/-- Write one 32-bit register. -/
def regWrite (mc : Nat) (t : Target) (o : Nat) (v : Word) (d : Device) : Option Device :=
  match t with
  | .thimble => wrThimble mc o v d
  | .lark h => wrLark mc h o v d
  | .mch n => wrChannel mc n o v d
  | .sht n => wrShuttle mc n o v d
  | .quad q => some (wrQuad q o v d)
  | .pins b => only3 mc (wrPins b o v) d
  | .seam => only3 mc (wrSeam o v) d
  | .bobbin => only3 mc (wrBobbin o v) d
  | .lining => only3 mc (wrLining o v) d
  | .power => wrPower mc o v d
  | .field f => wrField mc f o v d
  | .eth m => some (wrEth m o v d)
  | .jesd j => some (wrJesd j o v d)
  | .host h => some (wrHost mc h o v d)
  | .slv s => only3 mc (wrSlv s o v) d
  | .dram => some d
  | .clover _ => some d
  | .hostMem => some d
  | .stile _ => some d
  | .cloverCtl _ => some d

/-! ### Reads: side effects and derived values -/

/-- Pins of bank b, from `lo`, that are forced (17_ R443). -/
def forcedWord (d : Device) (b lo n : Nat) : Word :=
  BitVec.ofNat 32 (((upto n).filter (fun i => pinForced d b (lo + i))).foldl (fun v i => v + 2 ^ i) 0)

/-- Read one 32-bit register. -/
def regRead (t : Target) (a o : Nat) (d : Device) : Word × Device :=
  match t with
  | .lark h =>
    let d := if o = 0x10 then timeFracRead h d
      else if o = 0x144 then capturePop h d
      else if 0x100 ≤ o ∧ o < 0x140 ∧ o % 16 = 8 then gridNowRead h ((o - 0x100) / 16) d
      else d
    (d.reg (lrkAddr d h o), d)
  | .quad q =>
    let d := if 0x100 ≤ o ∧ o % 0x100 = 0x88 then prbsErrRead (4 * q + (o - 0x100) / 0x100) d else d
    (d.reg a, d)
  | .pins b =>
    if o = 0x400 then let d := gpioInRead b d; (d.reg a, d)
    else if o = 0x420 then (forcedWord d b 0 32, d)
    else if o = 0x424 then (forcedWord d b 32 16, d)
    else (d.reg a, d)
  | .seam =>
    if 0x10 ≤ o ∧ o < 0x20 then (seamUpRead d ((o - 0x10) / 4), d)
    else if 0x1000 ≤ o ∧ o < 0x4000 ∧ o % 64 = 4 then (segStatRead d ((o - 0x1000) / 64), d)
    else (d.reg a, d)
  | .field f => if o = 0x104 then (hedgeStatus d f, d) else (d.reg a, d)
  | .eth m => if o = 0x40 then ethTxtsRead m d else (d.reg a, d)
  | _ => (d.reg a, d)

/-! ### Whether a target answers (06_ R178) -/

/-- The domain that a target's registers and memories lie in, and whether they stop answering while it is clock-failed (R178; 12_ R326).
Always-on blocks and Selvedge links have none; a stile answers by the rules of its own (R177). -/
def targetDomain : Target → Option (Nat × Bool)
  | .field f => some (f, false)
  | .clover e => some (e / 48, false)
  | .cloverCtl e => some (e / 48, false)
  | .mch n => some (44 + n, false)
  | .sht n => some (52 + n / 8, true)
  | .quad q => some (32 + q / 3, false)
  | .eth m => some (56 + 2 * (m / 8), true)
  | .jesd j => some (60 + j / 4, true)
  | .host h => some (62 + hn h, true)
  | _ => none

/-- 0, or the status of a target that cannot answer: HALF_DOWN (4) or TARGET_OFF (2). -/
def targetCheck (d : Device) (t : Target) (a len : Nat) : Nat :=
  let down := match t with
    | .dram => (granules d a len).any (fun p => match dramDecode d p.1 with
        | some q => !d.up (halfOf (q.1 / 4))
        | none => false)
    | _ => (targetHalf d a t).any (fun h => !d.up h)
  if down then 4
  else match targetDomain t with
    | some (n, hard) => if !d.domOn n || (hard && d.forced n) then 2 else 0
    | none => 0

/-! ### Who makes a request (R160, R162) -/

/-- The source of an access: its master class, the node and tag its header names, and whether the access still has the network to
cross (one that the network delivered, or that Thimble makes, has not; log entry 100). -/
structure Requester where
  mc      : Nat
  node    : NodeId
  tag     : Nat := 0
  crosses : Bool := false
deriving DecidableEq, Repr

def placeNode (d : Device) (p : Nat × Nat) : NodeId :=
  { dev := Fin.ofNat 8 (devId d), knot := Fin.ofNat 128 p.1, slot := Fin.ofNat 4 p.2 }

/-- A request by Thimble, in its own name or for a requester of its command protocol; also one of which only the class is known. -/
def byClass (d : Device) (mc : Nat) : Requester := { mc := mc, node := placeNode d (attPlace (.thimble d.sys.primary)) }
/-- A request by a hardened block, at its own attachment. -/
def byBlock (d : Device) (mc : Nat) (a : Att) : Requester := { mc := mc, node := placeNode d (attPlace a), crosses := true }
/-- A request by the engine of a field. -/
def byEngine (d : Device) (e : Nat) : Requester := { mc := 8, node := placeNode d (targetPlace d (.clover e) 0), crosses := true }
/-- A request that came as a packet. -/
def byPacket (hd : Header) : Requester := { mc := hd.mclass.val, node := srcOf hd, tag := hd.tag.val }

/-- 0, or why an access does not reach a place of this device: its own half of the network does not run, the other half is lost or has
not rejoined, the weft link of its row is down, or the other half's network does not run (R30, R178, R182 to R184). -/
def pathCheck (d : Device) (m : Requester) (p : Nat × Nat) : Nat :=
  let k := m.node.knot.val
  let here := knotHalf k
  let there := knotHalf p.1
  if !m.crosses then 0
  else if !netRuns d here then 2
  else if here = there then 0
  else if !d.up there then 4
  else if d.net.weftDown.getLsbD (knotY k) then 5
  else if !weftOpen d (knotY k) then 4
  else if !netRuns d there then 2
  else 0

/-- The places an access touches. -/
def accessPlaces (d : Device) (t : Target) (a len : Nat) : List (Nat × Nat) :=
  if t == .dram then (granules d a len).map (fun p => targetPlace d .dram p.1) else [targetPlace d t a]

/-- 0, or the status an access ends with before its target acts. -/
def accessCheck (d : Device) (m : Requester) (t : Target) (a len : Nat) : Nat :=
  let path := (accessPlaces d t a len).map (pathCheck d m)
  match path.find? (fun x => x != 0) with
  | some st => st
  | none => targetCheck d t a len

/-! ### Windows that are not registers -/

/-- Host memory behind the active port (12_ R334). -/
def hostAddr (d : Device) (a : Nat) : Option Nat :=
  d.activePort.bind (fun h =>
    if hostUp d h then
      some ((d.fld (hptA h 0x40) 12 20 * 4096 + (d.reg (hptA h 0x44)).toNat * 2 ^ 32 + (a - 0xFD0000000000)) % 2 ^ 64)
    else none)

/-- The header of a request to the window of stile s. -/
def ownHeader (d : Device) (m : Requester) (cls : Nat) (write : Bool) (s a len : Nat) : Header :=
  let dst := stileNode d s
  { mclass := Fin.ofNat 16 m.mc, status := 0, tag := Fin.ofNat 1024 m.tag
    srcSlot := m.node.slot, srcKnot := m.node.knot, srcDev := m.node.dev
    dstSlot := dst.slot, dstKnot := dst.knot, dstDev := dst.dev
    cls := Fin.ofNat 4 cls, type := if write then 1 else 0, lenM1 := Fin.ofNat 8192 (len - 1), addr := BitVec.ofNat 48 a }

/-- What the fabric answers to a hardened block, which is not in the device's state: a free status among those that are generated, and
free bytes. -/
def fabricAnswer (write : Bool) (len : Nat) (d : Device) : Answer × Device :=
  let q := d.takeFree
  let st := q.1 % 12
  if write || !(st == 0 || st == 7) then ({ status := st }, q.2)
  else
    let b := freeBytes len q.2
    ({ status := st, data := b.1 }, b.2)

/-- A hardened block's request to the fabric behind stile s (06_ R166, R176, R177). A refused one is answered at once. A running stile
shows it to its fabric, whose answer is free (log entry 31). A stopped one, or one that awaits 64 answers, keeps it: it is answered
in time, or it times out at its source and its response comes late (R179); which is free. -/
def stileAccess (m : Requester) (cls : Nat) (write : Bool) (s a len : Nat) (data : List Byte) (d : Device) : Answer × Device :=
  let x : Inbound := { hd := ownHeader d m cls write s a len, data := data }
  match stileRefuses d s x with
  | some st => ({ status := st }, d.setBit (stileStat s) 4)
  | none =>
    let show_ (d : Device) : Device := if d.feeds (s / 4) then d else recordBeats s 3 (tqBeats x.hd x.data) d
    if stileRuns d s && decide ((inboundOf d s).length < 64) then fabricAnswer write len (show_ d)
    else
      let q := d.takeFreeBool
      if q.1 then fabricAnswer write len (show_ q.2)
      else ({ status := 9 }, if stileRuns d s then q.2 else
        { q.2 with net := { q.2.net with held := tabSet noHeld q.2.net.held s (heldOf q.2 s ++ [x]) } })

/-- Data offsets of the Ethernet and JESD transmit windows. -/
def txWindow (t : Target) (o : Nat) : Bool :=
  match t with
  | .eth _ => decide (0x8000 ≤ o ∧ o < 0xC000)
  | .jesd _ => o == 0x8000
  | _ => false

/-- A register access has a legal size (R590). -/
def regSize (a len : Nat) : Bool := (len == 4 || len == 8) && a % len == 0
def regHalves (a len : Nat) : List Nat := if len = 4 then [a] else [a, a + 4]

/-- What `busWrite` answers for a write that its target holds until there is room (a full transmit buffer or doorbell FIFO, 12_ R330,
16_ R415): not a status of R178. Nothing has changed then, and whoever made the write makes it again later. -/
def notTaken : Nat := 16

/-! ### The access -/

/-- A read of the control space (06_ R178). A read at a transmit offset of an Ethernet or JESD block is the read-back of a Shuttle engine:
a zero byte (16_ R423). The spec gives no other read there: DESIGN CHOICE, one of another length is answered TARGET_ERR, and a read of one byte
answers 0 wherever in the transmit window it lies (log entry 101). -/
def busRead (m : Requester) (a len : Nat) (d : Device) : Answer × Device :=
  let mc := m.mc
  match windowOf d a with
  | none => ({ status := 1 }, d)
  | some (t, base, size) =>
    let o := a - base
    if a + len > base + size then ({ status := 1 }, d)
    else if accessCheck d m t a len ≠ 0 then ({ status := accessCheck d m t a len }, d)
    else match t with
      | .dram => dramRead mc a len d
      | .clover e => let q := cloverNet e false o len [] d; ({ status := q.1, data := q.2.1 }, q.2.2)
      | .cloverCtl e => let q := cloverControl e false o len [] d; ({ status := q.1, data := q.2.1 }, q.2.2)
      | .hostMem =>
        match hostAddr d a with
        | some x => ({ data := memReads d.host.mem x len }, d)
        | none => ({ status := 2 }, d)
      | .stile s => stileAccess m 2 false s a len [] d
      | _ =>
        if txWindow t o then (if len = 1 then ({ data := [0] }, d) else ({ status := 8 }, d))
        else if !regSize a len then ({ status := 8 }, d)
        else if (regHalves a len).all (fun x => (rowAt x).isNone) then ({ status := 1 }, d)
        else
          let q := (regHalves a len).foldl (fun (acc : List Byte × Device) x =>
            if (rowAt x).isNone then (acc.1 ++ leBytes 0 4, acc.2)
            else let q := regRead t x (x - base) acc.2; (acc.1 ++ leBytes q.1.toNat 4, q.2)) ([], d)
          ({ data := q.1 }, q.2)

/-- A write of the control space. A register write of which a half is refused has no effect (R590). -/
def busWrite (m : Requester) (cls a : Nat) (data : List Byte) (d : Device) : Nat × Device :=
  let mc := m.mc
  let len := data.length
  match windowOf d a with
  | none => (1, d)
  | some (t, base, size) =>
    let o := a - base
    if a + len > base + size then (1, d)
    else if accessCheck d m t a len ≠ 0 then (accessCheck d m t a len, d)
    else match t with
      | .dram => dramWrite mc cls a data d
      | .clover e => let q := cloverNet e true o len data d; (q.1, q.2.2)
      | .cloverCtl e => let q := cloverControl e true o len data d; (q.1, q.2.2)
      | .hostMem =>
        match hostAddr d a with
        | some x => (0, { d with host := { d.host with mem := memWrites d.host.mem x data } })
        | none => (2, d)
      | .stile s => let q := stileAccess m cls true s a len data d; (q.1.status, q.2)
      | .eth m =>
        if txWindow t o then
          let q := ethTxWrite m o data d
          (q.1.getD notTaken, q.2)
        else regs mc t base data len d
      | .jesd j => if txWindow t o then jesdTxWrite j data d else regs mc t base data len d
      | .sht n =>
        if o = 0x100 ∧ len = 8 then
          let q := doorbellWrite n (Fin.ofNat 16 mc) (BitVec.ofNat 64 (leNat data)) d
          (q.1.getD notTaken, q.2)
        else regs mc t base data len d
      | _ => regs mc t base data len d
where
  /-- A write of one or two registers of target t. -/
  regs (mc : Nat) (t : Target) (base : Nat) (data : List Byte) (len : Nat) (d : Device) : Nat × Device :=
    if !regSize a len then (8, d)
    else if (regHalves a len).all (fun x => (rowAt x).isNone) then (1, d)
    else
      let q := ((regHalves a len).zip [data, data.drop 4]).foldl (fun (acc : Option Device) p =>
        acc.bind (fun d => if (rowAt p.1).isNone then some d else regWrite mc t (p.1 - base) (leWord p.2) d)) (some d)
      match q with
      | some d => (0, d)
      | none => (8, d)

/-! ### Replies of the command rings -/

/-- Carriers with a ring. -/
def ringed : Carrier → Bool
  | .hostW => true
  | .hostE => true
  | .network => true
  | _ => false

/-- Room for one more reply in its ring (12_ R335). -/
def ringRoom (d : Device) (c : Carrier) : Bool := decide (idxGap (ringIdx d c 0x2C) (ringIdx d c 0x30) < ringSlots d c)

/-- Base address of the reply ring or the request ring, and the slot of an index. -/
def ringSlotAt (d : Device) (c : Carrier) (o idx : Nat) : Nat :=
  d.fld (ringA c o) 12 20 * 4096 + (d.reg (ringA c (o + 4))).toNat * 2 ^ 32 + idx % ringSlots d c * 4096

/-- Write a reply into its ring, advance rsp_prod, and tell the host by vector 0 or the fabric by the NOTIFY write (12_ R335; 21_
R519). -/
def ringPost (c : Carrier) (bs : List Byte) (d : Device) : Device :=
  let at_ := ringSlotAt d c 0x18 (ringIdx d c 0x2C)
  let prod := (ringIdx d c 0x2C + 1) % 65536
  match c with
  | .network =>
    let d := (busWrite (byClass d 3) 3 at_ bs d).2
    let d := d.setReg (ringA c 0x2C) (BitVec.ofNat 32 prod)
    let note := d.fld (thmA 0x2540) 3 29 * 8 + d.fld (thmA 0x2544) 0 16 * 2 ^ 32
    if note = 0 then d else (busWrite (byClass d 3) 3 note (leBytes prod 8) d).2
  | _ =>
    let d := { d with host := { d.host with mem := memWrites d.host.mem at_ bs } }
    (d.setReg (ringA c 0x2C) (BitVec.ofNat 32 prod)).msix 0

/-- Room for one more reply: in the ring, or in the queue of 4 of the SPI, I2C and JTAG ports (21_ R518, R520). -/
def replyRoom (d : Device) (c : Carrier) : Bool :=
  if ringed c then ringRoom d c else decide ((d.cmd.replies.filter (fun x => x.1 == c)).length < 4)

def postReply (c : Carrier) (bs : List Byte) (d : Device) : Device :=
  if ringed c then ringPost c bs d else { d with cmd := { d.cmd with replies := d.cmd.replies ++ [(c, bs)] } }

/-- Send a reply or a completion if there is room, else hold it back. -/
def sendReply (c : Carrier) (bs : List Byte) (d : Device) : Device :=
  let d := { d with cmd := { d.cmd with sent := (c, bs) :: d.cmd.sent } }
  if d.cmd.heldBack.all (fun x => x.1 != c) && replyRoom d c then postReply c bs d
  else { d with cmd := { d.cmd with heldBack := d.cmd.heldBack ++ [(c, bs)] } }

/-- Replies held back for a carrier that now has room, in order. -/
def flushOne (d : Device) : Device :=
  match d.cmd.heldBack.find? (fun x => replyRoom d x.1) with
  | some x => postReply x.1 x.2 { d with cmd := { d.cmd with heldBack := dropFirst (fun y => y == x) d.cmd.heldBack } }
  | none => d

def flushReplies (d : Device) : Device := d.each (List.range d.cmd.heldBack.length) (fun d _ => flushOne d)

/-! ### Commands -/

/-- REGISTER_WRITE: an access to the control space, as its target answers it (00_scope R590; 06_ R178). -/
def registerWrite (mc a : Nat) (data : List Byte) (d : Device) : Device :=
  let q := busWrite (byClass d mc) 2 a data d
  if q.1 = notTaken then d else (flushReplies q.2).answer q.1 []


/-- A request's stile, if it is for the window of one. -/
def stileWindow (d : Device) (a : Nat) : Option Nat :=
  match windowOf d a with
  | some (.stile s, _, _) => some s
  | _ => none

/-- READ_REQUEST at its target, behind earlier requests of its source and class to the same bytes (06_ R173): the response leaves from the
target's attachment (R160, R178). -/
def readRequest (hd : Header) (d : Device) : Device :=
  let a := hd.addr.toNat
  match stileWindow d a with
  | some s => stileInbound s hd [] [] d
  | none =>
    if requestWaits hd d then d
    else
      let q := busRead (byPacket hd) a (lenOf hd) (takeArrived hd d).2
      (answerFrom (dstPlace hd) hd q.1.status q.1.data q.1.poison q.2).answer q.1.status q.1.data

/-- Bytes of the payload that flit k carries: the first flit holds those up to the next 64-byte boundary (06_ R163). -/
def flitSpan (hd : Header) (k : Nat) : Nat × Nat :=
  let o := hd.addr.toNat % 64
  if k = 0 then (0, 64 - o) else (64 * k - o, 64)

/-- The target applies a write: flits with poison are not written, and the answer is then DATA_ERR (06_ R180). The parts between
poisoned flits are written separately, and a part that is refused does not change that answer (log entry 96). -/
def applyWrite (hd : Header) (data : List Byte) (bad : List Nat) (d : Device) : Nat × Device :=
  let a := hd.addr.toNat
  let m := byPacket hd
  if bad.isEmpty then busWrite m hd.cls.val a data d
  else
    (7, (List.range (flitCount hd)).foldl (fun (d : Device) k =>
      let p := flitSpan hd k
      let part := (data.drop p.1).take p.2
      if bad.contains k || part.isEmpty then d else (busWrite m hd.cls.val (a + p.1) part d).2) d)

/-- WRITE_REQUEST at its target, behind earlier requests of its source and class to the same bytes (06_ R173). -/
def writeRequest (hd : Header) (data : List Byte) (poison : List Nat) (d : Device) : Device :=
  match stileWindow d hd.addr.toNat with
  | some s => stileInbound s hd data poison d
  | none =>
    if requestWaits hd d then d
    else
      let t := takeArrived hd d
      let q := applyWrite hd data (poisonOf t.1 poison) t.2
      if q.1 = notTaken then d else (flushReplies (answerFrom (dstPlace hd) hd q.1 [] [] q.2)).answer q.1 []

/-- REQUEST_TIMEOUT: a source gives up a request it has outstanding (06_ R179). -/
def execRequestTimeout (src : NodeId) (tag : BitVec 10) (s : State) : Host.Outcome State Fault Refusal :=
  s.lift (sourceTimeout src tag.toNat)

/-- NOTIFY_WRITE: an engine that halted writes 8 bytes to its notify address, one write for each halt, in order: its cycles low, its run count high (04_ R124). -/
def notifyWrite (e : Nat) (d : Device) : Device :=
  let x := d.engine e
  match x.notify with
  | [] => d
  | (runs, cycles) :: rest =>
    let a := x.notifyLo.toNat / 8 * 8 + x.notifyHi.toNat % 65536 * 2 ^ 32
    let q := busWrite (byEngine d e) 1 a (leBytes cycles 4 ++ leBytes runs 4) (d.setEngine e { x with notify := rest })
    if q.1 = notTaken then d
    else if q.1 = 0 then flushReplies q.2
    else
      let x := q.2.engine e
      q.2.setEngine e { x with flags := x.flags ||| 0x200 }


/-- HOST_BAR2_ACCESS: control space from bar2_tgt, as requester class 1, through an active port whose link is up (12_ R334). -/
def bar2Access (h : Half) (write : Bool) (off len : Nat) (data : List Byte) (d : Device) : Device :=
  let a := d.fld (hptA h 0x48) 0 28 * 2 ^ 20 + off
  if !(hostRuns d h && hostUp d h) || decide (off ≥ 2 ^ d.fld (hptCtl h) 0 6) then d
  else
    let m := byBlock d 1 (.host h)
    if write then
      let q := busWrite m 2 a data d
      if q.1 = notTaken then d else (flushReplies q.2).answer q.1 []
    else
      let q := busRead m a len d
      q.2.answer q.1.status q.1.data


/-- HOST_OUT_REQUEST: a request to the host out aperture. -/
def hostOut (mc : Nat) (write : Bool) (a len : Nat) (data : List Byte) (d : Device) : Device :=
  if a < 0xFD0000000000 ∨ 0xFE0000000000 ≤ a then d
  else if write then registerWrite mc a data d
  else let q := busRead (byClass d mc) a len d; q.2.answer q.1.status q.1.data


/-- RSP_CONS_WRITE: the reader of a reply ring frees slots, and replies held back follow (12_ R335; 21_ R519). -/
def rspCons (h : Option Half) (mc v : Nat) (d : Device) : Device :=
  let go (c : Carrier) : Device := (flushReplies (d.setReg (ringA c 0x30) (BitVec.ofNat 32 v))).answer 0 []
  match h with
  | some h => go (hostCarrier h)
  | none => if mc = 0 then go .network else d.answer 8 []


end Sys2Proof.Machine
end

