-- ==== Sys2Proof/Machine/Load.lean ====
section
/-!
DEFINITION. Machine/Load.lean: patterns and how they load, wake reloads and the recovery of a half, and record-store writes
(18_patterns_startup R454 to R477; 01_organisation R31, R34, R36; 22_ R559 to R561; 10_seam R291).
-/
namespace Sys2Proof.Machine

/-! ### The image (R454, R455) -/

def patEncrypted (p : Pattern) : Bool := p.flags.getLsbD 0
def patPartial (p : Pattern) : Bool := p.flags.getLsbD 1
def patRepairSafe (p : Pattern) : Bool := p.flags.getLsbD 2

/-- Type and target of a section: field f, half h, or 0xFFFF for the device. -/
def secKey : SectionBody → Nat × Nat
  | .frames s => (1, s.field.val)
  | .bramInit f _ => (2, f.val)
  | .clover f _ _ => (3, f.val)
  | .hedges _ _ _ => (4, 0xFFFF)
  | .claims _ => (5, 0xFFFF)
  | .pins _ => (6, 0xFFFF)
  | .calendar h _ _ => (7, hn h)
  | .regs _ => (8, 0xFFFF)
  | .dormant _ => (9, 0xFFFF)
  | .reserved t => (t.toNat, 0xFFFF)

def secDeflate (s : Section) : Bool := s.flags.getLsbD 0
def secEncrypted (s : Section) : Bool := s.flags.getLsbD 1

/-- The 128 bytes of the header (R454). -/
def headerBytes (p : Pattern) : List Byte :=
  leBytes p.magic.toNat 4 ++ [p.format, p.flags, p.keySlot, p.reserved] ++ leBytes p.idcode.toNat 4 ++ leBytes p.region.toNat 4
    ++ leBytes p.sections.length 4 ++ leBytes p.build.toNat 4 ++ leBytes p.iv.toNat 12 ++ leBytes p.length.toNat 4
    ++ leBytes p.rest.toNat 88

/-- The 32 bytes of a section-table entry (R454). -/
def sectionEntry (s : Section) : List Byte :=
  leBytes (secKey s.body).1 1 ++ [s.flags] ++ leBytes (secKey s.body).2 2 ++ leBytes s.stored.toNat 4 ++ leBytes s.plain.toNat 4
    ++ leBytes s.offset.toNat 4 ++ leBytes s.tag.toNat 16

/-- The header and the section table that follows it. -/
def tableBytes (p : Pattern) : List Byte := headerBytes p ++ p.sections.flatMap sectionEntry

/-- The 256 bytes of the signature block: the key, then r and s, big-endian (R454). -/
def signatureBytes (p : Pattern) : List Byte :=
  leBytes p.key.toNat 97 ++ (leBytes p.sigR.toNat 48).reverse ++ (leBytes p.sigS.toNat 48).reverse ++ leBytes p.sigRest.toNat 63

/-- The nonce of section i: iv with bytes 8 to 11 replaced by i + 1 (R459). -/
def sectionNonce (p : Pattern) (i : Nat) : BitVec 96 := BitVec.ofNat 96 (putBits p.iv.toNat 64 32 (i + 1))

/-- Uncompressed KiB of the sections (R478). -/
def patKib (p : Pattern) : Nat := (p.sections.foldl (fun n s => n + s.plain.toNat) 0) / 1024

/-- The section table, or a section, lies outside length. -/
def outsideLength (p : Pattern) : Bool :=
  decide (p.length.toNat < 128 + 32 * p.sections.length) || p.sections.any (fun s => decide (p.length.toNat < s.offset.toNat + s.stored.toNat))

/-- A section that is not deflated has one length (R456). -/
def lengthsBad (p : Pattern) : Bool := p.sections.any (fun s => !secDeflate s && s.stored != s.plain)

def secKeys (p : Pattern) : List (Nat × Nat) := p.sections.map (fun s => secKey s.body)

/-- No element occurs twice. -/
def allDistinct {α : Type} [BEq α] : List α → Bool
  | [] => true
  | x :: xs => !xs.contains x && allDistinct xs

/-- Register-initialisation writes, in order. -/
def patRegs (p : Pattern) : List (BitVec 48 × BitVec 32) := p.sections.flatMap (fun s => match s.body with
  | .regs ws => ws
  | _ => [])
def patPins (p : Pattern) : List PinSec := p.sections.flatMap (fun s => match s.body with
  | .pins ps => ps
  | _ => [])
def patClaims (p : Pattern) : List DriverClaim := p.sections.flatMap (fun s => match s.body with
  | .claims cs => cs
  | _ => [])
def patDormant (p : Pattern) : List Byte := p.sections.flatMap (fun s => match s.body with
  | .dormant bs => bs
  | _ => [])
def patCals (p : Pattern) : List (Half × List (Nat × BitVec 128) × List (Nat × BitVec 32 × BitVec 32)) :=
  p.sections.filterMap (fun s => match s.body with
    | .calendar h es cs => some (h, es, cs)
    | _ => none)

/-- Bad magic, a reserved byte not 0, a section table outside length, a reserved or repeated section (log entry 40). -/
def headerBad (p : Pattern) : Bool :=
  p.magic != 0x54505A59 || p.reserved != 0 || p.rest != 0 || p.sigRest != 0 || decide (p.flags.toNat ≥ 8) || decide (p.keySlot.toNat > 1)
    || (!patEncrypted p && (p.keySlot != 0 || p.iv != 0)) || outsideLength p || p.sections.isEmpty || decide (p.sections.length > 4096)
    || p.sections.any (fun s => decide (s.flags.toNat ≥ 4) || (!secEncrypted s && s.tag != 0) || (secKey s.body).1 == 0 || decide ((secKey s.body).1 ≥ 10))
    || !allDistinct (secKeys p)

/-- First format that carries a section, pinned spares and encryption. -/
def formatNeeded (p : Pattern) : Nat :=
  if patEncrypted p || p.sections.any secEncrypted || (patClaims p).any (fun c => match c with
    | .spare _ _ _ => true
    | .pin _ _ _ => false) then 5
  else if (secKeys p).any (fun k => k.1 == 7 || k.1 == 9) then 4
  else 3

/-- Cause of a header that fails, 0 if none does (R460). -/
def headerCause (p : Pattern) : Nat :=
  if headerBad p then 1
  else if p.format.toNat < 3 ∨ 5 < p.format.toNat ∨ p.format.toNat < formatNeeded p then 2
  else if p.idcode ≠ jtagIdcode then 3
  else 0

/-! ### Pattern rules (R461) -/

/-- Hard columns of Clover engines (01_ R24: hard columns 3 and 7). -/
def cloverColumn (h : Nat) : Bool := h == 3 || h == 7

/-- A sink of an interface tile that has no function (03_ R79, 04_ R110). -/
def sinkUnassigned (h row sink : Nat) : Bool :=
  if sink ≥ 96 then false
  else if cloverColumn h then !(if row % 8 < 2 then decide (sink ≤ 49) else if row % 8 = 2 then decide (sink ≤ 3) else false)
  else decide (58 ≤ sink ∧ sink ≤ 92)

/-- An output that has no seam wire (10_ R277). -/
def seamSinkBad (f col sink : Nat) : Bool :=
  (12 ≤ f && f < 16 && col == 179 && decide (124 ≤ sink ∧ sink ≤ 143)) || (16 ≤ f && f < 20 && col == 0 && decide (172 ≤ sink ∧ sink ≤ 191))

/-- An input of a lane port that has no signal (11_ R312, R313). -/
def laneSinkBad (f col row sink : Nat) : Bool :=
  let lo := if f / 4 = 0 ∧ col = 0 then 168 else if f / 4 = 7 ∧ col = 179 then 120 else 1000
  decide (lo ≤ sink ∧ sink < lo + 24 ∧ 1 ≤ row ∧ row ≤ 198 ∧ 84 ≤ 24 * ((row - 1) % 11) + (sink - lo))

/-- A reserved select, or south carry outside a ci tap (R50). Interface tiles have port slots at 96 to 159 like the cells they stand
for. -/
def selectBad (v : BitVec 8) : Bool := decide (160 ≤ v.toNat ∧ v.toNat ≤ 253)

def tileBad (f k : Nat) (c : TileCfg) : Bool :=
  let col := k / 200
  let row := k % 200
  selectBad c.ce0 || selectBad c.ce1 || selectBad c.sr0 || selectBad c.sr1 || (selectBad c.ci && c.ci != 253)
    || c.sinks.any (fun x => selectBad x.2 || (col % 18 == 17 && sinkUnassigned (col / 18) row x.1 && x.2 != 254)
      || ((seamSinkBad f col x.1 || laneSinkBad f col row x.1) && x.2 != 254))

/-- SECDED needs simple dual-port mode and the output register of the port that reads (R87); a width is one of the table of R75. -/
def bramBad (c : BramCfg) : Bool :=
  (c.secded && !(c.sdp && c.oregB)) || [c.widthA, c.widthB].any (fun w => !([1, 2, 4, 9, 18, 36].contains w || (w == 72 && c.sdp)))

/-- A user memory at site 48 or 49 of its column, which has no number (03_ R73). -/
def bramSiteBad (k : Nat) : Bool := decide (384 ≤ k)

def framesBad (s : FrameSec) : Bool :=
  s.brams.any (fun x => bramSiteBad x.1) || s.bypass.any (fun c => c % 18 != 16) || s.tiles.any (fun x => tileBad s.field.val x.1 x.2) || s.brams.any (fun x => bramBad x.2)

/-- The crossing's other direction, by key. -/
def crossBack (k : Nat) : Option Nat := (channelTo k).map (fun g => crossKey g (opp (k / 200 % 4)) (k % 200))

/-- A reserved hold code, or a crossing whose two directions disagree on its mode (R56, R57). -/
def hedgesBad (cs : List (Crossing × CrossCfg)) : Bool :=
  let keyed := cs.map (fun x => (crossingKey x.1, x.2))
  let mode (k : Nat) : Bool := match keyed.find? (fun x => x.1 == k) with
    | some x => x.2.hedged
    | none => false
  keyed.any (fun x => (upto 24).any (fun w => bitsAt x.2.hold.toNat (2 * w) 2 == 3)
    || (match crossBack x.1 with
      | some b => mode b != x.2.hedged
      | none => x.2.hedged))

/-- The nodes that a node of a pattern's tiles takes its value from without a flip-flop or hop register between: a node is a tile and a
code of `sig` (R46, R47, R50). -/
def loopSources (tiles : List (Nat × TileCfg)) (isHedged : Nat → Bool) (n : Nat × Nat) : List (Nat × Nat) :=
  let t := n.1
  let code := n.2
  match tiles.find? (fun x => x.1 == t) with
  | none => []
  | some (_, c) =>
    if code < 96 then
      let side := code / 24
      let back := 512 + 24 * opp side + code % 24
      match neighbour t side with
      | .tile u => [(u, back)]
      | .across g u => if isHedged (crossKey g (opp side) (crossIdx u (opp side))) then [] else [(u, back)]
      | .edge => []
    else if code < 128 then
      if tileCol t % 18 = 17 then []
      else
        let i := (code - 96) / 2
        match cellOf c i with
        | none => []
        | some x =>
          let pins := (upto (if x.mode = .whole then 6 else 5)).map (fun p => (t, selOf c (6 * i + p)))
          if x.mode = .carry then (t, if i > 0 && isCarry c (i - 1) then 97 + 2 * (i - 1) else c.ci.toNat) :: pins else pins
    else if code = 253 then
      (if tileRow t = 0 || tileCol t % 18 = 17 then []
      else match tiles.find? (fun x => x.1 == t - 1) with
        | some (_, b) => if isCarry b 15 then [(t - 1, 127)] else []
        | none => [])
    else if code < 512 then []
    else if (listGet none (c.hops.map (fun x => (x.1, some x.2))) (code - 512)).isSome then []
    else [(t, selOf c (96 + (code - 512)))]

/-- Take away nodes none of whose sources is left, until nothing changes. -/
def loopRest (sources : Nat × Nat → List (Nat × Nat)) : Nat → List (Nat × Nat) → List (Nat × Nat)
  | 0, ns => ns
  | k + 1, ns =>
    let rest := ns.filter (fun n => (sources n).any (fun m => ns.contains m))
    if rest.length = ns.length then ns else loopRest sources k rest

/-- The pattern contains a combinational loop: a node is left that no chain of sources ends (R50). A crossing whose mode the pattern does not
set has the mode it has. -/
def loopBad (d : Device) (p : Pattern) : Bool :=
  let tiles := p.sections.flatMap (fun s => match s.body with
    | .frames x => x.tiles.map (fun y => (36000 * x.field.val + y.1 % 36000, y.2))
    | _ => [])
  let isHedged (k : Nat) : Bool := if patPartial p then hedged d k else p.sections.any (fun s => match s.body with
    | .hedges cs _ _ => cs.any (fun x => crossingKey x.1 == k && x.2.hedged)
    | _ => false)
  let nodes := tiles.flatMap (fun t => (upto 128 ++ [253] ++ (upto 96).map (fun o => 512 + o)).map (fun c => (t.1, c)))
  !(loopRest (loopSources tiles isHedged) nodes.length nodes).isEmpty

def sectionBad (s : Section) : Bool :=
  match s.body with
  | .frames x => framesBad x
  | .hedges cs _ _ => hedgesBad cs
  | .dormant bs => bs.length != 64 || bs.any (fun b => b != 2 && b != 3)
  | _ => false

/-- Pins as they will stand: a value outside the pin's group, a reserved function, or one signal on two pins (17_ R440); a pin
twice. -/
def pinsBad (d : Device) (p : Pattern) : Bool :=
  let ps := patPins p
  let fn (x : PinSec) : Nat := fieldOf x.cfg 24 4
  ps.any (fun x => !muxGroup (fn x) x.bank.val x.pin.val)
    || !allDistinct (ps.map (fun x => (x.bank.val, x.pin.val)))
    || !allDistinct ((ps.filter (fun x => fn x ≥ 2)).map (fun x => muxSignal (fn x) x.bank.val x.pin.val))
    || ps.any (fun x => fn x ≥ 2 && (upto 384).any (fun n =>
      !ps.any (fun y => 48 * y.bank.val + y.pin.val == n) && d.pinMux (n / 48) (n % 48) == fn x
        && muxSignal (fn x) (n / 48) (n % 48) == muxSignal (fn x) x.bank.val x.pin.val))

/-- A section of a partial pattern that is not allowed, or whose field lies outside the region (R466). -/
def partialBad (p : Pattern) : Bool :=
  (secKeys p).any (fun k => k.1 == 4 || k.1 == 7 || k.1 == 9 || (decide (1 ≤ k.1 ∧ k.1 ≤ 3) && !p.region.getLsbD k.2))

/-- PLL n spreads and feeds a Clover column, a transceiver reference or an Ethernet, JESD or host-port clock (09_ R257; log entry 86). -/
def spreadBad (d : Device) (n : Nat) : Bool :=
  d.bit (pllA n 0) 31 && d.bit (pllA n 0) 27
    && ((upto 32).any (fun f => (upto 2).any (fun k => d.bit (clvClkA f) (8 * k + 7) && 8 * hn (halfOfField f) + d.fld (clvClkA f) (8 * k) 3 == n))
      || (upto 36).any (fun q => namesPll (if q < 18 then .w else .e) (d.fld (quadA q 0) 0 6) n)
      || (upto 8).any (fun j => namesPll (halfOf (j / 4)) (d.fld (jsdA j 0) 16 6) n)
      || ([56, 57, 58, 59, 62, 63] : List Nat).any (fun k => namesPll (halfOfDomain k) (Config.blockClock k) n))

/-- A lane's user is reserved, or cannot reach the lane (11_ R297; 12_ R325; 23_ R578). -/
def laneUseBad (d : Device) (l : Nat) : Bool :=
  match d.laneUse l with
  | 2 | 3 | 5 => decide (l / 4 % 18 ≥ 16)
  | 4 => decide (l / 4 % 18 < 14)
  | 6 | 7 => true
  | _ => false

/-- Lanes that the maps of the blocks in use name: port p of an Ethernet block's configuration, a JESD link's L, a Selvedge link's w, and a
host port's where it has them (12_ R325, R327, R338; 23_ R577). -/
def mapLanes (d : Device) : List Nat :=
  (upto 16).flatMap (fun m =>
    if d.bit (ethCfgA m) 31 then
      let n := 8 / ethPorts (ethCfg d m)
      (upto 8).filterMap (fun i =>
        if d.bit (ethCtl m (i / n)) 31 then some (4 * (18 * (m / 8) + m % 8 + (if i < 4 then 0 else 8)) + i % 4) else none)
    else [])
  ++ (upto 8).flatMap (fun j => if jsdOn d j then (upto (d.fld (jsdCtl j) 0 5 + 1)).map (fun i => 4 * (18 * (j / 4) + 4 * (j % 4)) + i) else [])
  ++ (upto 8).flatMap (fun s => if slvEn d s then (upto (slvWidth d s)).map (slvLane s) else [])
  ++ (upto 144).filter (fun l => d.laneUse l == 4)

/-- The rules that read registers, once register initialisation is done. Whether a SYSREF period is a whole number of device-clock
periods (12_ R340) depends on frequencies that the device's state does not hold: free (log entry 1). -/
def registersBad (d : Device) : Bool × Device :=
  let bad := (upto 16).any (spreadBad d) || (upto 144).any (laneUseBad d) || !allDistinct (mapLanes d)
  if (upto 8).any (fun j => jsdOn d j && d.bit (jsdCtl j) 28) then
    let q := d.takeFreeBool
    (bad || q.1, q.2)
  else (bad, d)

/-! ### Claims (R464; 08_ R241; 17_ R442; 21_ R549) -/

def conductor : DriverClaim → Nat × Nat
  | .pin b i _ => (b.val, i.val)
  | .spare g w _ => (1000 + g.val, w.val)

def claimHolder (d : Device) (kind where_ item : Nat) : Option Nat :=
  (d.cmd.claims.find? (fun c => c.kind == kind && c.where_ == where_ && c.item == item)).map (fun c => c.holder)

/-- The item is held by a requester other than `id`. -/
def heldByOther (d : Device) (kind where_ item id : Nat) : Bool := (claimHolder d kind where_ item).any (fun x => x != id)

def putClaim (kind where_ item id : Nat) (d : Device) : Device :=
  let others := d.cmd.claims.filter (fun c => !(c.kind == kind && c.where_ == where_ && c.item == item))
  { d with cmd := { d.cmd with claims := { kind := kind, where_ := where_, item := item, holder := id } :: others } }

/-- Conductors that loaded patterns claim for fields outside a region. -/
def claimedElsewhere (d : Device) (region : BitVec 32) : List (Nat × Nat) :=
  let pats := d.load.partials ++ (match d.load.pattern with
    | some p => [p]
    | none => [])
  (pats.flatMap patClaims).filterMap (fun c => match c with
    | .pin _ _ f => if region.getLsbD f.val then none else some (conductor c)
    | .spare _ _ _ => some (conductor c))

def claimsBad (d : Device) (p : Pattern) (id : Nat) : Bool :=
  let cs := patClaims p
  !allDistinct (cs.map conductor)
    || (patPartial p && cs.any (fun c => (claimedElsewhere d p.region).contains (conductor c)))
    || cs.any (fun c => match c with
      | .pin b i _ => heldByOther d 0 b.val i.val id
      | .spare _ _ _ => false)
    || (patPins p).any (fun x => heldByOther d 0 x.bank.val x.pin.val id)
    || (patCals p).any (fun x => x.2.1.any (fun e => heldByOther d 1 (hn x.1) (e.1 / 256) id)
      || x.2.2.any (fun c => heldByOther d 2 (hn x.1) c.1 id))

/-- The pattern configures a pin that the record store holds as secure (17_ R442). -/
def securePin (d : Device) (p : Pattern) : Bool :=
  (patPins p).any (fun x => d.load.secure.any (fun (s : Nat × Nat × Word × Word) => s.1 == x.bank.val && s.2.1 == x.pin.val))

/-! ### What sections do -/

/-- Configuration of one field from its frames; what the field held before is gone. -/
def applyFrames (s : FrameSec) (d : Device) : Device :=
  let f := s.field.val
  let tiles := s.tiles.foldl (fun t x => tabSet noTile t (36000 * f + x.1 % 36000) (some x.2)) (tabDrop (fun k => tileField k == f) d.fab.tiles)
  let gus := s.gussets.foldl (fun t x => tabSet noGusCfg t (64 * f + x.1 % 64) (some x.2)) (tabDrop (fun k => k / 64 == f) d.fab.gusCfg)
  let brams := s.brams.foldl (fun t x => tabSet noBram t (384 * f + x.1 % 384) (some x.2)) (tabDrop (fun k => k / 384 == f) d.bram.cfg)
  let d := d.setFab { d.fab with tiles := tiles, gusCfg := gus }
  let mine (k : Nat) : Bool := k / 81920 / 1440 == f
  { d with
    bram := { d.bram with cfg := brams }
    load := { d.load with upset := d.load.upset.filter (fun k => !mine k || d.load.stuck.contains k), darnPos := tabSet natZero d.load.darnPos f 0 } }

def applyBram (f : Nat) (ws : List (Nat × List (BitVec 72))) (d : Device) : Device :=
  let words := ws.foldl (fun t x =>
    ((upto 512).zip x.2).foldl (fun t r => tabSet zero72 t (512 * (384 * f + x.1 % 384) + r.1) r.2) t) d.bram.words
  { d with bram := { d.bram with words := words } }

def zeroBundle (_ : Nat) : BitVec 64 := 0

/-- Programs, with prog_valid = 1, and data-memory images (R465; 04_ R101). -/
def applyClover (f : Nat) (progs : List (Nat × List (BitVec 64))) (data : List (Nat × List (BitVec 96))) (d : Device) : Device :=
  let d := d.each progs (fun d x =>
    let e := 48 * f + x.1 % 48
    let y := d.engine e
    let prog := ((upto 512).zip x.2).foldl (fun t r => tabSet zeroBundle t r.1 r.2) ([] : Tab (BitVec 64))
    d.setEngine e { y with prog := prog, progBad := [], ctrl := y.ctrl ||| 1 })
  d.each data (fun d x =>
    let e := 48 * f + x.1 % 48
    let y := d.engine e
    let mem := ((upto 1536).zip x.2).foldl (fun t r => tabSet zero96 t r.1 r.2) ([] : Tab (BitVec 96))
    d.setEngine e { y with mem := mem, memBad := [] })

/-- Hedgerow modes and hold codes, and seam segment settings (R455 type 4). -/
def applyHedges (cs : List (Crossing × CrossCfg)) (segs : List (Fin 110 × BitVec 32)) (holds : List (Fin 110 × Fin 24 × BitVec 32))
    (d : Device) : Device :=
  let cross := cs.foldl (fun t x => tabSet noCross t (crossingKey x.1) (some x.2)) ([] : Tab (Option CrossCfg))
  let d := d.setFab { d.fab with crossCfg := cross, hedges := [] }
  let d := d.each segs (fun d x => d.setReg (segCfg x.1.val) (segCfgStored x.1.val x.2))
  d.each holds (fun d x => d.setReg (seamA (0x4000 + 16 * x.1.val + 4 * (x.2.1.val % 4))) (seamHoldStored x.2.2))

/-- Sections of one field. -/
def applyField (p : Pattern) (f : Nat) (d : Device) : Device :=
  d.each p.sections (fun d s => match s.body with
    | .frames x => if x.field.val = f then applyFrames x d else d
    | .bramInit g ws => if g.val = f then applyBram f ws d else d
    | .clover g ps ds => if g.val = f then applyClover f ps ds d else d
    | _ => d)

/-- Register initialisation in order (R455 type 8): true when a write is answered other than OK. -/
def applyRegs (ws : List (BitVec 48 × BitVec 32)) (d : Device) : Bool × Device :=
  ws.foldl (fun (acc : Bool × Device) w =>
    if acc.1 then acc
    else
      let q := busWrite (byClass acc.2 3) 2 w.1.toNat (leBytes w.2.toNat 4) acc.2
      (q.1 != 0, q.2)) (false, d)

/-- Pins take their configuration at release, owned by the requester that loaded them: code 3 where the pattern marks them fabric, else
2 (17_ R442, R449). -/
def applyPins (ps : List PinSec) (id : Nat) (d : Device) : Device :=
  d.each ps (fun d x =>
    let b := x.bank.val
    let i := x.pin.val
    let own : Word := BitVec.ofNat 32 ((if fieldOf x.own 30 2 = 3 then 3 else 2) * 2 ^ 30 + id)
    let d := ((d.setReg (pinCfgA b i) (pinNorm x.cfg)).setReg (pinOwnA b i) own).setReg (pinFiltA b i) (x.filt &&& 0xFFFF800F)
    putClaim 0 b i id (d.setPin b i { d.pin b i with configured := true }))

/-- A pattern's calendar section and channel sets, in the pages and channels claimed for the requester; the sets wait for Running, or
for their half's rejoin (08_ R241, R245). -/
def applyEntries (p : Pattern) (hs : List Half) (id : Nat) (d : Device) : Device :=
  d.each ((patCals p).filter (fun x => hs.contains x.1)) (fun d x =>
    let d := d.each x.2.1 (fun d e => putClaim 1 (hn x.1) (e.1 / 256) id (entryWrite x.1 e.1 e.2 d))
    d.each x.2.2 (fun d c =>
      putClaim 2 (hn x.1) c.1 id (chanStage x.1 (c.1 % 32) c.2.2 true (d.setReg (chanCtlA x.1 (c.1 % 32) 0) c.2.1))))

/-! ### Starting a load -/

/-- Set FLD_LOAD_STATUS of a field. -/
def fieldStatus (f st : Nat) (d : Device) : Device := d.setFld (fldA f 0) 29 3 st

/-- The field of the pattern that is being loaded, for THM_LOAD_STATUS. -/
def firstField (p : Pattern) : Nat := (regionFields p.region).headD 0

/-- Domains a load turns On (R465): its region, its sections' fields, and the domains its register initialisation addresses or
turns On (log entry 41). -/
def patDomains (d : Device) (p : Pattern) : List Nat :=
  let fields := regionFields p.region ++ (secKeys p).filterMap (fun k => if 1 ≤ k.1 ∧ k.1 ≤ 3 then some k.2 else none)
  let ofReg (w : BitVec 48 × BitVec 32) : List Nat :=
    match windowOf d w.1.toNat with
    | some (.power, base, _) =>
      let o := w.1.toNat - base
      if 0x600 ≤ o ∧ o < 0x700 ∧ fieldOf w.2 30 2 = 0 then [(o - 0x600) / 4] else []
    | some (.clover e, _, _) => [e / 48]
    | some (.cloverCtl e, _, _) => [e / 48]
    | some (t, _, _) => match targetDomain t with
      | some (n, _) => [n]
      | none => []
    | none => []
  let all := fields ++ (patRegs p).flatMap ofReg
  (upto 64).filter (fun n => all.contains n)

def isFrozen (d : Device) (f : Nat) : Bool := d.frozen f

/-- A load request is taken: Thimble reads the header; nothing shows until the load is accepted (R32, R462). -/
def loadStart (source : Nat) (auto fallback : Bool) (id : Byte) (d : Device) : Device :=
  let j : LoadJob := { source := source, partial_ := false, auto := auto, fallback := fallback, pat := none, phase := 1, taken := 0
                       requester := id }
  { d with load := { d.load with job := some j } }

/-- The request is refused without effect (R32, R466, R467): it completes with a status. -/
def loadRefuse (st : Nat) (d : Device) : Device :=
  { d with load := { d.load with job := none, outcome := st } }

/-- The load is accepted: THM_LOAD_STATUS shows it (R478). -/
def loadShow (p : Pattern) (j : LoadJob) (d : Device) : Device :=
  let a := thmA 0x2300
  (((((d.setFld a 29 3 1).setFld a 26 3 j.source).setFld a 20 4 0).putBit a 25 (patPartial p)).setFld a 0 8 (firstField p)).setReg (thmA 0x2304) 0

/-- R465 step 1: a full load. -/
def fullBegin (p : Pattern) (j : LoadJob) (d : Device) : Device :=
  let d := if d.sys.mode == .running then allOff d else d
  let d := pinsPowerUp d (fun _ => true)
  let d := securePins d
  let d := { d with
    sys := { d.sys with mode := .loading }
    load := { d.load with job := some { j with pat := some p }, pattern := none, partials := [] }
    pwr := { d.pwr with due := [] }
    seam := { d.seam with pinned := (patClaims p).filterMap (fun c => match c with
      | .spare g w h => some (g.val, w.val, h)
      | .pin _ _ _ => none) } }
  let doms := patDomains d p
  let d := { d with pwr := { d.pwr with due := doms.foldl (fun t n => tabSet boolFalse t n true) d.pwr.due } }
  let d := d.each (regionFields p.region) (fun d f => (fieldStatus f 1 d).putBit (fldA f 0) 27 false)
  let d := d.each doms (fun d n => domRequest n 0 d)
  (seamTrainStart d)

/-- R466 steps 1 and 2: a partial load. -/
def partBegin (p : Pattern) (j : LoadJob) (d : Device) : Device :=
  let fs := regionFields p.region
  let d := { d with load := { d.load with job := some { j with pat := some p, partial_ := true } } }
  d.each fs (fun d f =>
    let d := if d.replayed f && d.domOn f then d.bobGap (halfOfField f) 2 else d
    let d := d.stopping f (fun d => (fieldStatus f 1 d).setBit (fldA f 0) 27)
    domRequest f 0 (stilesUnderLoad f (d.gsrField f)))

/-- LOAD_SOURCE_READ: the header and the sections come from the source. -/
def loadRead (p : Pattern) (readOk : Bool) (d : Device) : Device :=
  match d.load.job with
  | none => d
  | some j =>
    if j.phase ≠ 1 ∨ j.pat.isSome then d
    else
      let part := patPartial p
      let mode := d.modeCode
      let fs := regionFields p.region
      if part && mode ≠ 2 && mode ≠ 3 then loadRefuse 0x31 d
      else if part && fs.any (fun f => d.frozen f || d.underLoad f) then loadRefuse 0x30 d
      else if !part && mode = 3 then loadRefuse 0x30 d
      else if !part && mode ≠ 0 && mode ≠ 2 then loadRefuse 0x31 d
      else
        let cause := if headerCause p ≠ 0 then headerCause p else if !readOk then 10 else if part && partialBad p then 12 else 0
        let d := loadShow p j (if part then partBegin p j d else fullBegin p j d)
        if cause ≠ 0 then loadReject cause (firstField p) d
        else if (patDomains d p).any (fun n => !supplyOk d n) then loadReject 9 (firstField p) d
        else
          let d := (d.setFld (thmA 0x2300) 29 3 2).setReg (thmA 0x2304) (BitVec.ofNat 32 (sat 0xFFFFFFFF (patKib p)))
          let d := d.each fs (fun d f => fieldStatus f 2 d)
          match d.load.job with
          | some j => { d with load := { d.load with job := some { j with phase := 2 } } }
          | none => d

/-! ### Checks and application -/

def keyReset (_ : Nat) : KeySlot := {}
def noPatKey (_ : Nat) : Option (BitVec 256) := none

/-- A slot is enrolled. -/
def anyEnrolled (d : Device) : Bool := (upto 4).any (fun i => (tabGet keyReset d.load.keys i).enrolled)

/-- The carried key hashes to an enrolled slot that is not revoked (R458). -/
def keyKnown (d : Device) (hash : BitVec 384) : Bool :=
  (upto 4).any (fun i => let k := tabGet keyReset d.load.keys i; k.enrolled && !k.revoked && k.hash == hash)

/-- Cause of the checks that need the whole image, 0 if all pass (R456 to R461). -/
def verifyCause (p : Pattern) (sigOk tagsOk inflateOk : Bool) (d : Device) : Nat :=
  if !inflateOk || lengthsBad p then 7
  else if p.sections.any sectionBad || loopBad d p || pinsBad d p then 9
  else if !sigOk then 4
  else if anyEnrolled d && !keyKnown d p.keyHash then 5
  else if (patEncrypted p || p.sections.any secEncrypted) && ((tabGet noPatKey d.load.patKeys p.keySlot.toNat).isNone || !tagsOk) then 6
  else 0

/-- Every domain the load turns On is On. -/
def domainsReady (d : Device) (p : Pattern) (part : Bool) : Bool :=
  (if part then regionFields p.region else (upto 64).filter (dueOn d)).all (fun n => d.domOn n && (d.trans n).isNone)

/-- R465 steps 2 and 4: what the sections hold is applied; global set/reset holds the fields. A full pattern without a type-4 section leaves
no hedged crossing and no hold code (02_ R56; DESIGN CHOICE, log entry 111). -/
def loadApply (p : Pattern) (j : LoadJob) (d : Device) : Device :=
  let fs := regionFields p.region
  let id := j.requester.toNat
  let d := d.each fs (fun d f => applyField p f d)
  let d := d.each fs (fun d f => { d with load := { d.load with darnPos := tabSet natZero d.load.darnPos f 0 } })
  let d := if j.partial_ then d else d.setFab { d.fab with crossCfg := [], hedges := [] }
  let d := d.each p.sections (fun d s => match s.body with
    | .hedges cs segs holds => applyHedges cs segs holds d
    | _ => d)
  let d := d.each fs (fun d f => (d.gsrField f).putBit (fldA f 0) 28 (patRepairSafe p))
  let r := applyRegs (patRegs p) d
  let q := registersBad r.2
  if r.1 || q.1 then loadReject 9 (firstField p) q.2
  else if securePin q.2 p then loadReject 13 (firstField p) q.2
  else if claimsBad q.2 p id then loadReject 8 (firstField p) q.2
  else
    let d := if j.partial_ then q.2 else applyEntries p [.w, .e] id q.2
    let d := d.each (patPins p) (fun d x => putClaim 0 x.bank.val x.pin.val id d)
    let d := d.setFld (thmA 0x2300) 29 3 3
    let d := d.each fs (fun d f => fieldStatus f 3 d)
    { d with load := { d.load with job := some { j with phase := 3, swept := [] } } }

/-- LOAD_VERIFY: signature, tags and rules. It waits for the domains, and while Safe hold pauses a partial load (R467). -/
def loadVerify (sigOk tagsOk inflateOk : Bool) (d : Device) : Device :=
  match d.load.job with
  | some j =>
    match j.pat with
    | some p =>
      if j.phase ≠ 2 ∨ (j.partial_ && d.safeCause ≠ 0) ∨ !domainsReady d p j.partial_ then d
      else
        let cause := verifyCause p sigOk tagsOk inflateOk d
        if cause ≠ 0 then loadReject cause (firstField p) d
        else loadApply p j (if anyEnrolled d then d else d.setBit (thmA 0x2300) 19)
    | none => d
  | none => d

/-! ### Release -/

/-- A field is released: global set/reset ends, the load counts. -/
def fieldRelease (f : Nat) (d : Device) : Device := (((fieldStatus f 4 d).bump (fldA f 0) 0 16 1)).gsrRelease f

/-- The load is over and done. -/
def loadDone (j : LoadJob) (d : Device) : Device :=
  { (d.setFld (thmA 0x2300) 29 3 4) with load := { d.load with job := none, outcome := 0, tried := 0, fromFlash := j.source == 0 } }

/-- Darning has swept every field of the load once (R465 step 5; 01_ R31). -/
def sweptAll (p : Pattern) (j : LoadJob) : Bool := (regionFields p.region).all (fun f => j.swept.contains f)

/-- LOAD_RELEASE (R465 step 6). No release while a half is down or coming back: its return rejects the load (01_ R36). -/
def loadRelease (d : Device) : Device :=
  match d.load.job with
  | some j =>
    match j.pat with
    | some p =>
      if j.phase ≠ 3 ∨ j.partial_ ∨ d.safeCause ≠ 0 ∨ !sweptAll p j ∨ [Half.w, Half.e].any (fun h => !d.up h || d.lost h) then d
      else
        let d := loadDone j d
        let prof := patDormant p
        let d := { d with
          sys := { d.sys with mode := .running }
          load := { d.load with pattern := some p, partials := [], owner := j.requester, dormant := prof }
          bob := { d.bob with gated := 0 } }
        let d := d.each (regionFields p.region) (fun d f => fieldRelease f d)
        let d := applyPins (patPins p) j.requester.toNat (seamReleaseAll d)
        let d := chansStart d
        (bobAnchor 0 p.build.toNat d.released d)
    | none => d
  | none => d
def execLoadRelease (s : State) : Host.Outcome State Fault Refusal := s.liftReport (seamWatch loadRelease)

/-- PARTIAL_RELEASE (R466 step 4): the fields release together. -/
def partialRelease (d : Device) : Device :=
  match d.load.job with
  | some j =>
    match j.pat with
    | some p =>
      if j.phase ≠ 3 ∨ !j.partial_ ∨ d.safeCause ≠ 0 ∨ !sweptAll p j then d
      else
        let d := loadDone j d
        let d := { d with load := { d.load with partials := p :: d.load.partials } }
        let d := d.each (regionFields p.region) (fun d f =>
          fieldRelease f { d with pwr := { d.pwr with due := tabSet boolFalse d.pwr.due f true } })
        let d := applyPins (patPins p) j.requester.toNat d
        (bobAnchor 1 p.build.toNat (fun f => p.region.getLsbD f) d).settle
    | none => d
  | none => d
def execPartialRelease (s : State) : Host.Outcome State Fault Refusal := s.liftReport (seamWatch partialRelease)

/-! ### Autoload (R31, R34, R463, R477; 22_ R565) -/

def autoload (d : Device) : Device :=
  let fallback := d.load.tried == 1
  let p := if fallback then d.load.fallbackPtr else d.load.primaryPtr
  if d.modeCode ≠ 0 ∨ !d.sys.booted ∨ !d.up .w ∨ !d.up .e ∨ d.lost .w ∨ d.lost .e ∨ d.load.job.isSome ∨ d.sys.tripLow
      ∨ romBoot d ∨ (d.load.decFailW && d.load.decFailE) ∨ d.load.tried ≥ 2 ∨ !p.auto then d
  else
    let d := if fallback then d.setBit (thmA 0x2300) 24 else d
    loadStart 0 true fallback 0 d
def execAutoload (s : State) : Host.Outcome State Fault Refusal := s.liftReport autoload

/-! ### Reloads (01_ R31, R36) -/

/-- The pattern that last configured field f. -/
def fieldPattern (d : Device) (f : Nat) : Option Pattern :=
  match d.load.partials.find? (fun p => p.region.getLsbD f) with
  | some p => some p
  | none => match d.load.pattern with
    | some p => if p.region.getLsbD f then some p else none
    | none => none

/-- Register writes of a pattern that address field f. -/
def fieldRegs (d : Device) (p : Pattern) (f : Nat) : List (BitVec 48 × BitVec 32) :=
  (patRegs p).filter (fun w => match windowOf d w.1.toNat with
    | some (.field g, _, _) => g == f
    | some (.clover e, _, _) => e / 48 == f
    | some (.cloverCtl e, _, _) => e / 48 == f
    | _ => false)

/-- A field returns from Off: its contents come back from the pattern, flip-flops at their initial values. `hold`: it waits for the
rejoin (10_ R291). -/
def reloadField (f : Nat) (hold : Bool) (d : Device) : Device :=
  match fieldPattern d f with
  | none => d
  | some p =>
    let d := (applyField p f d).gsrField f
    let d := (applyRegs (fieldRegs d p f) d).2
    let d := (d.putBit (fldA f 0) 28 (patRepairSafe p)).putBit (fldA f 0) 27 hold
    if hold then fieldStatus f 3 d else fieldRelease f d

/-! ### The end of a domain transition (22_ R559 to R561) -/

/-- Queued ramps start in increasing order of d, four at most. -/
def rampQueued (d : Device) : Device :=
  d.each (upto 64) (fun d n => match d.trans n with
    | some t => if t.queued && decide (ramping d < 4) then d.setTrans n (some { t with queued := false }) else d
    | none => d)

/-- vout in the state reached (22_ R558): the last On value, 0.55 V in Deep sleep. -/
def stateVout (n st : Nat) (d : Device) : Device :=
  d.setFld (domStatA n) 16 8 (if st = 2 then 10 else tabGet natZero d.pwr.lastV n)

/-- A lane whose group enters state `st` (11_ R314): synthesisers stop in Deep sleep and relock on the way back; adaptation is frozen but in
On, and there while the receiver is idle. -/
def groupLaneState (st : Nat) (d : Device) (l : Nat) : Device :=
  let d := d.putBit (laneStat l) 31 (st != 2 && d.laneOnEn l && quadRefOk d l)
  let d := if st = 2 then d.putBit (laneStat l) 30 false else d
  laneEval l (d.setLane l { d.lane l with frozen := st != 0 || d.bit (laneStat l) 28 })

/-- A memory channel whose domain leaves On has served its reads and drained its writes before (13_ R360). -/
def chanEntered (n : Nat) (d : Device) : Device :=
  let c := d.chan n
  if d.chanState n == 3 && !(c.rq.isEmpty && c.wq.isEmpty) && mchClock d n then srEnter n (.domain 1) d else d

/-- One step of a transition ends in state `st`. -/
def enterState (n st : Nat) (d : Device) : Device :=
  let d := if 44 ≤ n ∧ n < 52 then chanEntered (n - 44) d else d
  let d := if (n = 52 ∨ n = 53) ∧ d.domOn n then shtFlush (halfOf (n - 52)) d else d
  if st = 3 then domainOff n d
  else if d.domState n = 3 then
    let ls := d.loadState n
    let d := domainPowered n (d.putBit (domStatA n) 27 false)
    if n ≥ 32 then d
    else
      let region := match d.load.job with
        | some j => j.pat.any (fun (p : Pattern) => p.region.getLsbD n)
        | none => false
      if region then (fieldStatus n 2 d).putBit (fldA n 0) 27 (d.load.job.any (fun (j : LoadJob) => j.partial_))
      else if ls = 5 then fieldStatus n 5 d
      else if (d.sys.mode == BaseMode.running) || (d.sys.mode == BaseMode.dormant) then
        let hold := d.lost (halfOfField n)
        let e := reloadField n hold d
        -- a reload that covers the replay set is an anchor (20_ R507); a wake's is that of its end
        match fieldPattern d n with
        | some p => if hold || d.sys.mode == .dormant then e else bobAnchor 2 p.build.toNat (fun f => f == n) e
        | none => e
      else d
  else
    let d := stateVout n st (d.setFld (domStatA n) 30 2 st)
    if 32 ≤ n ∧ n < 44 then d.each (groupLanes n) (groupLaneState st) else d

/-- Dormant ends when every domain due On is On and every field of it released (01_ R31); a half that is down is not waited for. -/
def wakeDone (d : Device) : Device :=
  if d.modeCode == 4 && d.sys.waking
      && (upto 64).all (fun n => !dueOn d n || !d.up (halfOfDomain n) || (d.domOn n && (d.trans n).isNone && (n ≥ 32 || d.released n))) then
    let d := { d with sys := { d.sys with mode := .running, waking := false } }
    let build := match d.load.pattern with
      | some p => p.build.toNat
      | none => 0
    (bobAnchor 2 build d.released d)
  else d

/-- The fields of halves that are coming back have been reloaded, and wait for the rejoin: every segment trains (10_ R291 steps 2 and 3). In
Dormant that is at wake (01_ R36). -/
def rejoinCheck (d : Device) : Device :=
  let back := [Half.w, Half.e].filter (fun h => d.lost h)
  if d.seam.rejoin && d.up .w && d.up .e && (d.sys.mode == .running || d.sys.waking)
      && (upto 32).all (fun f => !back.contains (halfOfField f) || !dueOn d f || (d.domOn f && (d.trans f).isNone && d.loadState f == 3)) then
    seamTrainStart { d with seam := { d.seam with rejoin := false } }
  else d

/-- DOMAIN_TRANSITION_DONE: the step under way ends; the domain goes on toward its final state, and then a waiting request
starts. A domain that comes to a state with a gate open on a dead PLL's clock is clock-failed there (09_ R264, R269; R561). -/
def transitionDone (n : Nat) (d : Device) : Device :=
  match d.trans n with
  | none => d
  | some t =>
    if t.queued || shtBusy d n then d
    else if d.domState n = 3 ∧ t.next = 0 ∧ !supplyOk d n then rampQueued (supplyMiss n d)
    else
      let d := enterState n t.next d
      let d := d.setTrans n none
      let d :=
        if t.next ≠ t.final then
          let d := startTrans n t.final d
          match d.trans n with
          | some u => d.setTrans n (some { u with waiting := t.waiting })
          | none => d
        else match t.waiting with
          | some st => startTrans n st d
          | none => d
      (wakeDone (rejoinCheck (clockCheck n (rampQueued d)))).settle

/-! ### Recovery of a half, and the rejoin (01_ R36; 10_ R291) -/

/-- A half's recovery waits for the end of Safe hold (R36). -/
def setDefer (h : Half) (b : Bool) (d : Device) : Device :=
  match h with
  | .w => { d with sys := { d.sys with deferW := b } }
  | .e => { d with sys := { d.sys with deferE := b } }
def deferred (d : Device) : Half → Bool
  | .w => d.sys.deferW
  | .e => d.sys.deferE

/-- What Thimble does with a half whose island is back, by the device's mode. In Dormant the half's domains take the states of the dormant
profile, or On at a wake that is under way; its calendar section is loaded again (08_ R245). -/
def recoverByMode (h : Half) (d : Device) : Device :=
  let back (d : Device) : Device := setDefer h false (d.putBit seamStat 31 false)
  let entries (d : Device) : Device := match d.load.pattern with
    | some p => applyEntries p [h] d.load.owner.toNat d
    | none => d
  let on (d : Device) : Device := d.each ((halfDomains h).filter (dueOn d)) (fun d n => domRequest n 0 d)
  let due (d : Device) : Device := { d with seam := { d.seam with rejoin := true } }
  match d.modeCode with
  | 5 => setDefer h true d
  | 0 => back (d.setLost h false)
  | 1 => loadReject 11 0 (back (d.setLost h false))
  | 4 =>
    let d := due (entries (back (d.setLost h true)))
    if d.sys.waking then on d
    else d.each ((halfDomains h).filter (fun n => 32 ≤ n)) (fun d n => if d.load.dormant.getD n 3 = 2 ∧ dueOn d n then domRequest n 2 d else d)
  | _ => due (entries (on (back (d.setLost h true))))

/-- HALF_RECOVERY: the island of a lost half boots, and its half is recovered. -/
def halfRecovery (h : Half) (d : Device) : Device :=
  if !islandsOn d ∨ d.sys.resetSeq.isSome ∨ !d.sys.booted ∨ (d.up h && !d.lost h) then d
  else
    let d :=
      if d.up h then d
      else
        let d := d.each (halfDomains h) (fun d n => domainOff n d)
        let d := pageSelfTest h (larkPowerUp h true d)
        let d := seamMapsLoad h (d.setUp h true)
        { (d.setLost h true) with sys := { (d.setLost h true).sys with
            cpuW := d.sys.cpuW || h == .w, cpuE := d.sys.cpuE || h == .e } }
    wakeDone (rejoinCheck (recoverByMode h d))

/-- SEAM_RELEASE: the armed boundary B is reached: trained segments and the reloaded fields release (10_ R291 step 6). -/
def seamRelease (d : Device) : Device :=
  match d.seam.armed with
  | none => d
  | some _ =>
    let d := { d with seam := { d.seam with armed := none } }.putBit seamStat 30 false
    let back := [Half.w, Half.e].filter (fun h => d.lost h && d.up h)
    let d := seamReleaseAll d
    let fs := (upto 32).filter (fun f => back.contains (halfOfField f) && d.loadState f == 3 && d.bit (fldA f 0) 27
      && !(d.load.job.any (fun j => j.pat.any (fun p => p.region.getLsbD f))))
    let d := d.each fs (fun d f => fieldRelease f d)
    let d := match d.load.pattern with
      | some p => applyPins ((patPins p).filter (fun x => back.contains (bankHalf x.bank.val))) d.load.owner.toNat d
      | none => d
    let d := d.each back (fun d h => d.setLost h false)
    let d := if fs.isEmpty then d else
      bobAnchor 1 (match d.load.pattern with
        | some p => p.build.toNat
        | none => 0) (fun f => fs.contains f) d
    (wakeDone d).settle

/-! ### The end of Safe hold (01_ R31, R34, R36) -/

/-- Safe hold has ended: a device that entered it from Loading goes to Blank; halves that came back meanwhile are recovered; a wake under way
goes on. -/
def holdExit (d : Device) : Device :=
  let d := if d.sys.blankOnExit then toBlank { d with sys := { d.sys with blankOnExit := false } } else d
  let d := d.each ([Half.w, Half.e].filter (deferred d)) (fun d h => recoverByMode h d)
  wakeDone (rejoinCheck d)

/-- Do `f`; where it ends Safe hold, what follows. -/
def holdEnd (f : Device → Device) (d : Device) : Device :=
  let e := f d
  if d.safeCause ≠ 0 && e.safeCause == 0 then holdExit e else e

/-- Do `f`, and what follows where it moves the device's mode, ends Safe hold or changes seam up. -/
def modeEffects (f : Device → Device) (d : Device) : Device := seamWatch (fun d => wakeDone (holdEnd f d)) d

/-- The answer of a command whose effect may do so. -/
def State.liftMode (s : State) (f : Device → Device) : Host.Outcome State Fault Refusal := s.liftReport (modeEffects f)

/-- LOAD_SOURCE_READ. -/
def execLoadSourceRead (pat : Pattern) (readOk : Bool) (s : State) : Host.Outcome State Fault Refusal := s.liftMode (loadRead pat readOk)
/-- LOAD_VERIFY. -/
def execLoadVerify (sigOk : Bool) (tagsOk : Bool) (inflateOk : Bool) (s : State) : Host.Outcome State Fault Refusal :=
  s.liftMode (loadVerify sigOk tagsOk inflateOk)
/-- DOMAIN_TRANSITION_DONE. -/
def execDomainTransitionDone (d : Fin 64) (s : State) : Host.Outcome State Fault Refusal := s.liftMode (transitionDone d.val)
/-- DOMAIN_CLOCK_RELEASE. -/
def execDomainClockRelease (d : Fin 64) (s : State) : Host.Outcome State Fault Refusal := s.liftMode (domainClockRelease d.val)
/-- SUPPLY_LOSS. -/
def execSupplyLoss (x : Supply) (s : State) : Host.Outcome State Fault Refusal := s.liftMode (supplyLoss x)
/-- HALF_LOST. -/
def execHalfLost (h : Half) (reported : Bool) (s : State) : Host.Outcome State Fault Refusal := s.liftMode (halfLost h reported)
/-- HALF_CLOCK_LOSS. -/
def execHalfClockLoss (h : Half) (s : State) : Host.Outcome State Fault Refusal := s.liftMode (halfClockLoss h)
/-- HALF_RESET_W: only by Thimble. -/
def execHalfResetW (mc : MClass) (s : State) : Host.Outcome State Fault Refusal := s.liftMode (fun d => d.byThimble mc (halfReset .w))
/-- HALF_RESET_E: only by Thimble. -/
def execHalfResetE (mc : MClass) (s : State) : Host.Outcome State Fault Refusal := s.liftMode (fun d => d.byThimble mc (halfReset .e))
/-- HALF_RECOVERY. -/
def execHalfRecovery (h : Half) (s : State) : Host.Outcome State Fault Refusal := s.liftMode (halfRecovery h)
/-- SEAM_RELEASE. -/
def execSeamRelease (s : State) : Host.Outcome State Fault Refusal := s.liftMode seamRelease
/-- THIMBLE_WATCHDOG. -/
def execThimbleWatchdog (h : Half) (s : State) : Host.Outcome State Fault Refusal := s.liftMode (thimbleWatchdog h)

/-- CAL_WAKE. -/
def execCalWake (h : Half) (s : State) : Host.Outcome State Fault Refusal := s.liftMode (calWake h)

/-- PIN_INPUT_CHANGE. -/
def execPinInputChange (b : Fin 8) (i : Fin 48) (level : Bool) (samples : Nat) (ticks : Nat) (s : State) :
    Host.Outcome State Fault Refusal := s.liftMode (fun d => (pinInput b.val i.val level samples ticks d).settle)
/-- VCCIO_LOW. -/
def execVccioLow (b : Fin 8) (s : State) : Host.Outcome State Fault Refusal := s.liftMode (vccioLow b.val)
/-- PIN_LEVEL_INTERRUPT. -/
def execPinLevelInterrupt (b : Fin 8) (i : Fin 48) (s : State) : Host.Outcome State Fault Refusal :=
  s.liftMode (pinLevelInterrupt b.val i.val)

/-! ### Commands that write control space -/

def execRegisterWrite (mc : MClass) (addr : BitVec 48) (data : List Byte) (s : State) : Host.Outcome State Fault Refusal :=
  s.liftMode (registerWrite mc.val addr.toNat data)

def execReadRequest (hd : Header) (s : State) : Host.Outcome State Fault Refusal := s.liftMode (readRequest hd)

def execWriteRequest (hd : Header) (data : List Byte) (poison : List Nat) (s : State) : Host.Outcome State Fault Refusal :=
  s.liftMode (writeRequest hd data poison)

def execNotifyWrite (e : Fin 1536) (s : State) : Host.Outcome State Fault Refusal := s.liftMode (notifyWrite e.val)

def execHostBar2Access (h : Half) (write : Bool) (off : BitVec 40) (len : Nat) (data : List Byte) (s : State) :
    Host.Outcome State Fault Refusal := s.liftMode (bar2Access h write off.toNat len data)

def execHostOutRequest (mc : MClass) (write : Bool) (addr : BitVec 48) (len : Nat) (data : List Byte) (s : State) :
    Host.Outcome State Fault Refusal := s.liftMode (hostOut mc.val write addr.toNat len data)

def execRspConsWrite (h : Option Half) (mc : MClass) (v : BitVec 16) (s : State) : Host.Outcome State Fault Refusal :=
  s.liftMode (rspCons h mc.val v.toNat)

/-! ### The record store (R472 to R477) -/

/-- The record of a type, as an update wrote it, takes effect (R473); the contents' layout is free (log entry 1). -/
def installRecord (ty : Nat) (bs : List Byte) (d : Device) : Device :=
  let r (k : Nat) : Nat := Config.record ty bs k
  let ptr (k : Nat) : Pointer := { ports := r k % 16, page := r (k + 1) % 2 ^ 32, t := r (k + 2) % 256, auto := r (k + 3) % 2 == 1 }
  let d := { d with load := { d.load with records := tabSet (fun _ => []) d.load.records ty bs } }
  match ty with
  | 2 =>
    let t := (upto 16).foldl (fun t k => tabSet noWords t k ((upto 20).map (fun i => BitVec.ofNat 32 (r (20 * k + i))))) d.mem.savedDly
    { d with mem := { d.mem with savedDly := t } }
  | 3 =>
    { d with mem := { d.mem with savedMark := (upto 16).foldl (fun t k => tabSet natWordZero t k (BitVec.ofNat 32 (r k))) d.mem.savedMark } }
  | 5 =>
    let bad (g : Nat) : List Nat := positions g ((upto 146).filter (fun k => r (200 * g + 1 + k) % 2 == 1))
    let seg (g : Nat) : SegMap := { gen := r (200 * g) % 2 ^ 32, failed := bad g, spares := spareAssign g [] (bad g)
                                    crc := BitVec.ofNat 32 (r (200 * g + 147)) }
    { d with seam := { d.seam with stored := (upto 110).foldl (fun t g => tabSet (fun _ => ({} : SegMap)) t g (seg g)) d.seam.stored } }
  | 7 => { d with load := { d.load with primaryPtr := ptr 0, fallbackPtr := ptr 4 } }
  | 8 =>
    let pins := (upto 384).filterMap (fun k =>
      if r (3 * k) % 2 = 1 then some (k / 48, k % 48, BitVec.ofNat 32 (r (3 * k + 1)), BitVec.ofNat 32 (r (3 * k + 2))) else none)
    { d with load := { d.load with secure := pins } }
  | _ => d

def setBank (b : Bool) (x : Bank) (d : Device) : Device :=
  { d with load := (if b then { d.load with bankB := x } else { d.load with bankA := x }) }

/-- Both Thimbles restart on a trial record set, the standby first (R477 steps 2 and 3). -/
def trialRestart (d : Device) : Device :=
  let h := d.sys.primary
  if cpuUp d (otherHalf h) then bootBank (thimbleFailover h 0 (bootBank d)) else bootBank d

/-- A record set is written into the bank not in use, header last, and read back (R475). True when it holds. -/
def rsWriteNow (trial readBackOk : Bool) (d : Device) : Device :=
  let a := thmA 0x2310
  let target := !romBoot d && !d.bit a 31
  let held := mirrorEntries d
  let d := { d with load := { d.load with records := tabSet (fun _ => []) d.load.records 6 (mirrorBytes d) } }
  let x := bankMade (wrap 32 ((d.reg (thmA 0x2314)).toNat + 1)) trial d.load.records
  if readBackOk then
    let d := setBank target x d
    let d := { d with load := { d.load with rsWrite := none } }
    let d := mirrorHeld held (showBank (some target) d)
    if trial then trialRestart d else d
  else
    let d := setBank target { x with pagesOk := false } d
    let d := ((d.setBit a 25).putBit a (if target then 29 else 30) false).fault d.sys.primary 0x62 (b2n target) 0
    match d.load.rsWrite with
    | some (_, true) => { d with load := { d.load with rsWrite := none, updDone := (0x50, 3) } }
    | _ => { d with load := { d.load with rsWrite := some (trial, true) } }

/-- RECORD_STORE_WRITE: a record set is written; during a flash load the write waits (R467). -/
def recordWrite (readBackOk : Bool) (d : Device) : Device :=
  if !d.sys.booted ∨ d.load.job.any (fun j => j.source == 0) then d
  else
    let trial := match d.load.rsWrite with
      | some (t, _) => t
      | none => false
    rsWriteNow trial readBackOk d
def execRecordStoreWrite (readBackOk : Bool) (s : State) : Host.Outcome State Fault Refusal := s.liftMode (recordWrite readBackOk)

end Sys2Proof.Machine
end

