-- ==== Sys2Proof/Machine/EthDma.lean ====
section
/-!
DEFINITION. Machine/EthDma.lean: the network writes of the Ethernet and JESD blocks (12_protocol_blocks R329, R339).
-/
namespace Sys2Proof.Machine

/-- Address held in a register pair: the low word's bits from `lo` up, 16 high bits. -/
def pairAddr (d : Device) (a lo : Nat) : Nat := d.fld a lo (32 - lo) * 2 ^ lo + d.fld (a + 4) 0 16 * 2 ^ 32

/-- ETH_FRAME_DELIVER: the port's oldest frame is delivered by its rule as one write of master class 8 (R329). -/
def ethDeliver (m p : Nat) (d : Device) : Device :=
  let x := d.ethBlk m
  match x.rx.find? (fun f => f.port == p) with
  | none => d
  | some f =>
    if !ethPortRuns d m p then d
    else
      let r := f.rule
      let ct := ethRule m p r 4
      let body := f.bytes.drop (d.fld ct 16 8)
      let stride := 64 * d.fld (ethRule m p r 0x10) 0 16
      let k := (d.reg (ethRule m p r 0x1C)).toNat
      let i := k % (d.fld (ethRule m p r 0x10) 16 16 + 1)
      let gone := d.setEth m { x with rx := dropFirst (fun (y : RxFrame) => y.port == p) x.rx }
      if body.length > stride then gone.setBit (ethStat m p) 5
      else
        let q := busWrite (byBlock d 8 (.eth (m / 2))) (d.fld ct 24 2) (pairAddr d (ethRule m p r 8) 6 + i * stride) body gone
        if q.1 = notTaken then d
        else
          let d := (q.2.bump (ethRule m p r 0x1C) 0 32 1).bump (ethA m (0x10C + 0x40 * p)) 0 16 1
          let d := if q.1 = 0 then d else d.setBit (ethStat m p) 6
          let d :=
            if d.bit ct 29 then
              let x := d.ethBlk m
              d.setEth m { x with records := x.records ++ [{ port := p, rule := r, k := k, stamp := f.stamp, len := f.bytes.length + 4
                                                             vlan := f.vlan, bad := q.1 != 0 }] }
            else d
          flushReplies d
def execEthFrameDeliver (m : Fin 16) (p : Fin 8) (s : State) : Host.Outcome State Fault Refusal :=
  s.liftMode (ethDeliver m.val p.val)

/-- The 32 bytes of a record (R329). -/
def rxRecordBytes (x : RxRecord) : List Byte :=
  timeBytes x.stamp ++ leBytes x.len 2 ++ leBytes x.rule 1 ++ leBytes (b2n x.bad + 2 * b2n x.vlan) 1 ++ leBytes x.k 4 ++ leBytes 0 12

/-- ETH_RECORD_WRITE: the oldest record of the port that waits is written. -/
def ethRecord (m p : Nat) (d : Device) : Device :=
  let x := d.ethBlk m
  match x.records.find? (fun r => r.port == p) with
  | none => d
  | some r =>
    if !ethPortRuns d m p then d
    else
      let i := r.k % (d.fld (ethRule m p r.rule 0x10) 16 16 + 1)
      let at_ := pairAddr d (ethRule m p r.rule 0x14) 5 + 32 * i
      let gone := d.setEth m { x with records := dropFirst (fun (y : RxRecord) => y.port == p) x.records }
      let q := busWrite (byBlock d 8 (.eth (m / 2))) (d.fld (ethRule m p r.rule 4) 24 2) at_ (rxRecordBytes r) gone
      if q.1 = notTaken then d else flushReplies q.2
def execEthRecordWrite (m : Fin 16) (p : Fin 8) (s : State) : Host.Outcome State Fault Refusal :=
  s.liftMode (ethRecord m.val p.val)

/-- JESD_RX_WRITE: 256 octets of a receiving link in its data phase (R339). -/
def jesdRx (j : Nat) (octets : List Byte) (d : Device) : Device :=
  let x := d.jesdBlk j
  if !(jsdRuns d j && !jsdTx d j && x.data) || octets.length != 256 then d
  else
    let at_ := pairAddr d (jsdA j 0x20) 8 + 256 * x.rxCount % (2 ^ d.fld (jsdA j 0x28) 0 4 * 1024)
    let q := busWrite (byBlock d 8 (.jesd j)) 1 at_ octets (d.setJesd j { x with rxCount := x.rxCount + 1 })
    if q.1 = notTaken then d else flushReplies q.2
def execJesdRxWrite (j : Fin 8) (octets : List Byte) (s : State) : Host.Outcome State Fault Refusal :=
  s.liftMode (jesdRx j.val octets)

end Sys2Proof.Machine
end

