-- ==== Sys2Proof/Machine/FabricEdge.lean ====
section
/-!
DEFINITION. Machine/FabricEdge.lean: one whole edge of a regional clock (02_fabric R39 to R65; 03_ R79, R80; 04_ R110, R123; 11_ R313). Every
part reads the device as it stood before the edge, `d0`.
-/
namespace Sys2Proof.Machine

/-- The regional clock of a hop register: the one its side selects (02_ R51). -/
def hopClk (c : TileCfg) (o : Nat) : Nat := if c.hopClk.getLsbD (o / 24) then c.clk1.val else c.clk0.val

/-- Flip-flops and hop registers on clock r of field f (02_ R43, R44, R51): held by global set/reset; passed over on the first edge after it. -/
def fabricRegs (f r : Nat) (d0 d : Device) : Device :=
  let k := 12 * f + r
  let w := tabGet natZero d0.fab.gsrWait k
  if d0.gsrOn f then d
  else if w > 1 then d.setFab { d.fab with gsrWait := tabSet natZero d.fab.gsrWait k (w - 1) }
  else
    let ffs := (d0.flopsOf f).filterMap (fun x => if flopClk x.2.2.1 x.2.2.2.2.2 = r then some (x.1, flopNext d0 x) else none)
    let hops := (d0.hopsOf f).filterMap (fun x =>
      if hopClk x.2.2.1 x.2.2.2.1 = r then some (x.1, d0.sigAt x.2.1 (selOf x.2.2.1 (96 + x.2.2.2.1))) else none)
    d.setFab { d.fab with
      gsrWait := tabSet natZero d.fab.gsrWait k 0
      ffs := setBools d.fab.ffs ffs
      hops := setBools d.fab.hops hops }

/-- Lane port m on the fabric's edge (11_ R313). Where the lane is raw, a word is taken into the transmit gusset where tx_valid and tx_ready hold, the head of the
receive gusset is popped where rx_valid and rx_ready hold, a rising edge of rx_slip moves the word boundary, and idle_req is the level that the
design drives. -/
def lanePort (d0 : Device) (f m : Nat) (d : Device) : Device :=
  let west := f / 4 == 0
  let l := (if west then 0 else 72) + 18 * (f % 4) + m
  let tile (p : Nat) : Nat := tileKey f (if west then 0 else 179) (11 * m + 1 + p / 24)
  let inp (p : Nat) : Bool := d0.sigAt (tile p) (512 + 24 * (if west then 3 else 1) + p % 24)
  let x := d.lane l
  let word := (upto 80).foldl (fun (v : BitVec 80) p => if inp p then v ||| BitVec.ofNat 80 (2 ^ p) else v) 0
  let x := if inp 80 && decide (x.tx.length < 32) then { x with tx := x.tx ++ [word] } else x
  let x := if inp 81 then { x with rx := x.rx.drop 1 } else x
  let raw := d0.laneUse l == 1
  let rise := inp 82 && !x.slipWas
  let d := (d.setLane l { (if raw then x else d.lane l) with slipWas := inp 82 }).when rise (rxSlip l)
  if (d0.tileCfg (tile 83)).isSome && inp 83 != x.idleReq then idleReq l (inp 83) d else d

/-- The lanes of field f whose port clock is r; the cycle of a delimiter ends. -/
def laneEdges (d0 : Device) (f r : Nat) (d : Device) : Device :=
  if f / 4 = 0 ∨ f / 4 = 7 then
    d.each (upto 18) (fun d m =>
      let l := (if f / 4 = 0 then 0 else 72) + 18 * (f % 4) + m
      if d0.fld (laneA l 0x100) 12 4 == r then
        let d := if (d.lane l).delim then d.setLane l { d.lane l with delim := false } else d
        lanePort d0 f m d
      else d)
  else d

/-- A configured tile's clk0 is r. -/
def clk0Is (d : Device) (t r : Nat) : Bool :=
  match d.tileCfg t with
  | some c => c.clk0.val == r
  | none => false

/-- Hedged channels that a configured tile of field f on clock r sends or receives (02_ R58, R59). On the sender's edge a word on the crossing
register moves on too; where the sender does not run, it does on the receiver's. -/
def hedgeEdges (f r : Nat) (d0 d : Device) : Device :=
  if !d0.fieldRuns f then d
  else d.each (d0.fab.crossCfg.map (fun kv => kv.1)) (fun d k =>
    if !hedged d0 k then d
    else
      let send := k / 800 == f && clk0Is d0 (hedgeTile k) r
      let recv := match hedgeInto k with
        | some t => tileField t == f && clk0Is d0 t r
        | none => false
      if send then d.setHedge k (hedgeTake (d.hedge k) (hedgeOffer d0 k 0))
      else if recv then
        let h := if hedgeAsks d0 k && !(d0.hedge k).buffer.isEmpty then hedgeDrop (d.hedge k) else d.hedge k
        d.setHedge k (if d0.clk0Runs (hedgeTile k) then h else hedgeAdvance h)
      else d)

/-- Gussets of field f whose tiles are configured and whose write or read clock is r (02_ R63, R64; 03_ R80). -/
def gussetEdges (f r : Nat) (d0 d : Device) : Device :=
  d.each (d0.fab.gusCfg.filter (fun kv => kv.1 / 64 == f)) (fun d kv =>
    let n := kv.1 % 64
    match kv.2 with
    | some c =>
      if !gussetTiled d0 f n then d
      else
        let d1 := if c.rdClk.val = r then gussetPop f n (gussetAsks d0 f n) d else d
        if c.wrClk.val = r then gussetPush f n (gussetOffer d0 f n 0) d1 else d1
    | none => d)

/-- Block memories of field f whose tiles are configured and of whose ports clock r is the clock (03_ R79, R85). -/
def bramEdges (f r : Nat) (d0 d : Device) : Device :=
  if !d0.fieldRuns f then d
  else d.each (d0.bram.cfg.filter (fun kv => kv.1 / 384 == f)) (fun d kv =>
    match kv.2 with
    | some c =>
      if !bramTiled d0 kv.1 then d
      else
        let p (clk : Fin 12) (i : Nat) : Option PortIn := if clk.val = r then some (bramSinks d0 c kv.1 i) else none
        bramEdge kv.1 c (p c.clkA 0) (p c.clkB 1) d
    | none => d)

/-- Streams and the start and stop sinks of engine e on clock r (04_ R109 to R112, R123). -/
def cloverEdge (r : Nat) (d0 : Device) (e : Nat) (d : Device) : Device :=
  let x := d0.engine e
  let at_ (row n : Nat) : Bool := cloverTiled d0 e row && x.clkSel n == r
  let d := d.each ((upto 2).filter (fun n => at_ n n)) (fun d n => streamPush e n (streamOffer d0 e n 0) d)
  let d := d.each ([2, 3].filter (fun n => at_ 2 n)) (fun d n => streamPop e n (streamAsks d0 e n) d)
  if at_ 2 4 then ctlSinks d0 e d else d

/-- Engines of field f that a configured interface tile serves. -/
def cloverEdges (f r : Nat) (d0 d : Device) : Device :=
  d.each (((d0.tilesOf f).filterMap (fun tc =>
      let c := tileCol tc.1; let row := tileRow tc.1
      if (c == 71 || c == 143) && decide (row < 192) then some (48 * f + (if c = 71 then 0 else 24) + row / 8) else none)).eraseDups)
    (fun d e => cloverEdge r d0 e d)

/-- A rising edge of regional clock r of field f. Pulses of the clock's tick lines end, and done of its engines falls (02_ R65; 04_ R124). -/
def fabricEdge (f r : Nat) (d0 : Device) : Device :=
  if !d0.rclkRuns f r then d0
  else
    let d := doneFall f r (tickFall f r (fabricRegs f r d0 (rclkEdge f r d0)))
    let d := laneEdges d0 f r (seamEdges f r d0 d)
    let d := cloverEdges f r d0 (bramEdges f r d0 (gussetEdges f r d0 (hedgeEdges f r d0 d)))
    d.settle

/-- FABRIC_CYCLE. -/
def execFabricCycle (f : Fin 32) (r : Fin 12) (s : State) : Host.Outcome State Fault Refusal :=
  s.lift (fabricEdge f.val r.val)

end Sys2Proof.Machine
end

