-- ==== Sys2Proof/Machine/ShuttleDma.lean ====
section
/-!
DEFINITION. Machine/ShuttleDma.lean: descriptors, conversion, data movement, read-back and completion of the Shuttle engines
(16_shuttle_dma R417 to R427).
-/
namespace Sys2Proof.Machine

/-! ### Descriptors (R418) -/

def dSrc (w : BitVec 256) : Nat := bitsAt w.toNat 0 48
def dDst (w : BitVec 256) : Nat := bitsAt w.toNat 48 48
def dLen (w : BitVec 256) : Nat := bitsAt w.toNat 96 24
def dWs (w : BitVec 256) : Nat := bitsAt w.toNat 120 3
def dWd (w : BitVec 256) : Nat := bitsAt w.toNat 123 3
def dSwap (w : BitVec 256) : Nat := bitsAt w.toNat 126 2
def dType (w : BitVec 256) : Nat := bitsAt w.toNat 128 2
def dConv (w : BitVec 256) : Nat := bitsAt w.toNat 130 2
def dTag (w : BitVec 256) : Nat := bitsAt w.toNat 144 16
def dMax (w : BitVec 256) : Nat := bitsAt w.toNat 160 24
def dCount (w : BitVec 256) : Nat := bitsAt w.toNat 184 8 + 1

/-- Bits of a width code. -/
def widthBits (code : Nat) : Nat := nth [8, 16, 24, 32, 48, 64, 96, 128] code 8
/-- Bytes of the destination stream. -/
def destLen (w : BitVec 256) : Nat := dLen w / (widthBits (dWs w) / 8) * (widthBits (dWd w) / 8)

/-! ### Conversion (R420) -/

/-- One element of ws bits becomes wd bits. -/
def convElem (ws wd conv x : Nat) : Nat :=
  if wd ≤ ws then (if conv = 2 then x / 2 ^ (ws - wd) else x % 2 ^ wd)
  else if conv = 0 then x
  else if conv = 1 then unsign wd (signed ws x)
  else x * 2 ^ (wd - ws)

/-- Whole elements of `k` bytes of a stream. -/
def elements (k : Nat) : Nat → List Byte → List Nat
  | 0, _ => []
  | n + 1, bs => leNat (bs.take k) :: elements k n (bs.drop k)

/-- The byte at stream offset o goes to o XOR s. -/
def swapBytes (s : Nat) : List Byte → List Byte
  | a :: b :: c :: e :: t => nth [[a, b, c, e], [b, a, e, c], [c, e, a, b], [e, c, b, a]] s [] ++ swapBytes s t
  | [a, b] => if s = 1 then [b, a] else [a, b]
  | t => t

/-- The destination stream of a source stream. -/
def convert (w : BitVec 256) (src : List Byte) : List Byte :=
  let ws := widthBits (dWs w)
  let wd := widthBits (dWd w)
  let xs := elements (ws / 8) (src.length / (ws / 8)) src
  swapBytes (dSwap w) (xs.flatMap (fun x => leBytes (convElem ws wd (dConv w) x) (wd / 8)))

/-! ### Packets (R421, R422) -/

/-- Packets of a run of bytes: at most 4,096 bytes, none across a 4 KiB boundary. -/
def packetsOf (p : Nat × Nat) : List (Nat × Nat) := cutAt 4096 (p.2 + 1) p.1 p.2

def ethTxAddr (d : Device) (a : Nat) : Bool :=
  match windowOf d a with
  | some (.eth _, base, _) => decide (0x8000 ≤ a - base ∧ a - base < 0xC000 ∧ (a - base) % 0x800 = 0)
  | _ => false

/-- A destination piece is one packet at an Ethernet transmit address. -/
def writePackets (d : Device) (p : Nat × Nat) : List (Nat × Nat) := if ethTxAddr d p.1 then [p] else packetsOf p

/-- End of the window that holds an address. -/
def windowEnd (d : Device) (a : Nat) : Option Nat := (windowOf d a).map (fun w => w.2.1 + w.2.2)

/-- The piece is larger, or smaller, than its target declares (R422). -/
def pieceBad (d : Device) (p : Nat × Nat) : Bool :=
  if ethTxAddr d p.1 then decide (p.2 > 8192 ∨ p.2 < 14)
  else match windowEnd d p.1 with
    | some e => decide (p.1 + p.2 > e)
    | none => false

/-! ### Reads and writes of several packets -/

/-- Read packets in order up to the first that fails: data of the others, and the failing status. -/
def readAll (m : Requester) (ps : List (Nat × Nat)) (d : Device) : (List Byte × Nat) × Device :=
  ps.foldl (fun (acc : (List Byte × Nat) × Device) p =>
    if acc.1.2 ≠ 0 then acc
    else
      let q := busRead m p.1 p.2 acc.2
      if q.1.status = 0 then ((acc.1.1 ++ q.1.data, 0), q.2) else ((acc.1.1, q.1.status), q.2)) (([], 0), d)

/-- How far the writes of a descriptor have come: packets gone, start of the last, data left, status of the first that failed,
and whether a target holds the next one. -/
structure WriteRun where
  moved  : Nat
  last   : Nat
  data   : List Byte
  status : Nat
  held   : Bool

/-- Write packets in order, up to one that fails or that its target holds. -/
def writeAll (m : Requester) (cls : Nat) (ps : List (Nat × Nat)) (r : WriteRun) (d : Device) : WriteRun × Device :=
  ps.foldl (fun (acc : WriteRun × Device) p =>
    if acc.1.held || acc.1.status != 0 then acc
    else
      let q := busWrite m cls p.1 (acc.1.data.take p.2) acc.2
      if q.1 = notTaken then ({ acc.1 with held := true }, acc.2)
      else ({ acc.1 with moved := acc.1.moved + 1, last := p.1, data := acc.1.data.drop p.2, status := q.1 }, q.2)) (r, d)

/-! ### The checks of R419 -/

/-- Entries of a list read from memory. -/
def listEntries (n : Nat) (bs : List Byte) : List Nat := elements 16 n bs

/-- Status of the first failing check, and the list. A list that cannot be read fails at its own place in the order. -/
def descCheck (m : Requester) (w : BitVec 256) (d : Device) : (Nat × Nat × List (Nat × Nat)) × Device :=
  let plain := decide (dType w = 0 ∨ dType w = 3)
  let r := if plain || dConv w == 3 then (([], 0), d)
    else readAll m (packetsOf (if dType w = 1 then dSrc w else dDst w, 16 * dCount w)) d
  let d := r.2
  let raw := if plain || r.1.2 != 0 then [] else listEntries (dCount w) r.1.1
  let list := raw.map (fun e => (bitsAt e 0 48, bitsAt e 48 24))
  let total := list.foldl (fun n e => n + e.2) 0
  let bs := widthBits (dWs w) / 8
  let ld := destLen w
  let pieces := if dType w = 2 then list else [(dDst w, ld)]
  let status :=
    if dConv w = 3 ∨ dType w = 3 ∨ raw.any (fun e => e / 2 ^ 72 != 0) then 1
    else if dLen w = 0 then 2
    else if dLen w % bs ≠ 0 ∨ (dSwap w = 1 ∧ ld % 2 ≠ 0) ∨ (dSwap w ≥ 2 ∧ ld % 4 ≠ 0) then 3
    else if r.1.2 ≠ 0 then 4
    else if !plain && (list.any (fun e => e.2 == 0) || total != (if dType w = 1 then dLen w else ld)) then 5
    else if (dMax w ≠ 0 ∧ ld > dMax w) ∨ pieces.any (pieceBad d) then 6
    else 0
  ((status, if status = 4 then r.1.2 else 0, list), d)

/-! ### Descriptors in flight -/

def inEngine (d : Device) (n q : Nat) : Option Desc := (d.shuttle n).flight.find? (fun x => x.q == q)
def putDesc (n : Nat) (x : Desc) (d : Device) : Device :=
  d.setShuttle n { d.shuttle n with flight := (d.shuttle n).flight.map (fun y => if y.q == x.q then x else y) }
def dropDesc (n q : Nat) (d : Device) : Device :=
  d.setShuttle n { d.shuttle n with flight := (d.shuttle n).flight.filter (fun y => y.q != q) }

/-- Queues with work bound to engine n, with their class: those cached and those whose context left the cache. -/
def shtCandidates (d : Device) (n : Nat) : List (Nat × Nat) :=
  let cached := (ctxCache d (engHalf n)).filter (fun s => cReady s.ctx && cWork s.ctx && cEngine s.ctx == n)
  let parked := d.sht.parked.filter (fun (p : Nat × Nat × Nat) => p.2.1 == n)
  (cached.map (fun s => (s.q, cClass s.ctx)) ++ parked.map (fun p => (p.1, p.2.2))).filter (fun x => !inFlight d x.1)

/-- The next queue of a class, round robin by queue id after the last one taken. -/
def roundRobin (qs : List Nat) (last : Nat) : Option Nat :=
  let least (xs : List Nat) : Option Nat := xs.foldl (fun m x => match m with
    | some y => some (if x < y then x else y)
    | none => some x) none
  match least (qs.filter (fun q => last < q)) with
  | some q => some q
  | none => least qs

def natLast (_ : Nat) : Nat := 0

/-- Queue and class of the descriptor that starts next (R417). -/
def shtNext (d : Device) (n : Nat) : Option (Nat × Nat) :=
  let cs := shtCandidates d n
  [0, 1, 3, 2].findSome? (fun c =>
    (roundRobin ((cs.filter (fun x => x.2 == c)).map (fun x => x.1)) (tabGet natLast (d.shuttle n).lastQ c)).map (fun q => (q, c)))

/-- A descriptor fetch answered other than OK (R427). -/
def fetchFail (n q : Nat) (c : Ctx) (d : Device) : Device := ctxErr n q (ctxSet n q (setCfld c 0x20 0 2 3) d)

/-- DESCRIPTOR_FETCH: the engine takes a descriptor, and the checks of R419 run before any data byte moves. -/
def descriptorFetch (n : Nat) (d : Device) : Device :=
  if !shtWorks d n || d.leavingOn (52 + n / 8) || decide ((d.shuttle n).flight.length ≥ 4) then d
  else match shtNext d n with
    | none => d
    | some (q, cls) =>
      let g := ctxGet n q d
      let c := g.1
      let d := g.2.setShuttle n { g.2.shuttle n with lastQ := tabSet natLast (g.2.shuttle n).lastQ cls q }
      if !(cReady c && cWork c && cEngine c == n) then d
      else
        let r := busRead (byBlock d (4 + cClass c) (.sht n)) (cRing c + 32 * (cCons c % 2 ^ cRingK c)) 32 d
        let d := r.2
        if r.1.status ≠ 0 then fetchFail n q c d
        else
          let w : BitVec 256 := BitVec.ofNat 256 (leNat r.1.data)
          let k := descCheck (byBlock d (4 + cClass c) (.sht n)) w d
          let d := k.2
          let x : Desc := { q := q, cls := cClass c, words := w, list := k.1.2.2, last := 0, stage := if k.1.1 = 0 then 0 else 2
                            status := k.1.1, net := k.1.2.1, stamp := d.now (engHalf n), answer := 0 }
          d.setShuttle n { d.shuttle n with flight := (d.shuttle n).flight ++ [x] }
def execDescriptorFetch (n : Fin 16) (s : State) : Host.Outcome State Fault Refusal := s.liftMode (descriptorFetch n.val)

/-- The descriptor is bad: `own` status, or TIMEOUT where a request timed out (R424, R426). Its record's time is not stated: free
(log entry 1). -/
def markBad (n own net : Nat) (x : Desc) (d : Device) : Device :=
  let q := d.takeFree
  putDesc n { x with stage := 2, status := if net = 9 then 10 else own, net := net, stamp := q.1, out := [] } q.2

/-- DATA_TRANSFER: the source is read and converted, and the destination written in packets, as far as targets take them (R420 to
R424). What had been written, or sent, when a request failed is free within what the data read so far covers. -/
def dataTransfer (n q : Nat) (d : Device) : Device :=
  match inEngine d n q with
  | none => d
  | some x =>
    if x.stage ≠ 0 ∨ !shtRuns d n then d
    else
      let w := x.words
      let mc := byBlock d (4 + x.cls) (.sht n)
      let sources := if dType w = 1 then x.list else [(dSrc w, dLen w)]
      let pieces := if dType w = 2 then x.list else [(dDst w, destLen w)]
      let packets := pieces.flatMap (writePackets d)
      let r := if x.out.isEmpty then readAll mc (sources.flatMap packetsOf) d else ((x.out, 0), d)
      let d := r.2
      if r.1.2 ≠ 0 then
        let part := convert w r.1.1
        let q := d.takeFree
        let m := q.1 % (packets.length + 1)
        let covered := ((packets.take m).foldl (fun (acc : Nat × List (Nat × Nat)) p =>
          if acc.1 + p.2 ≤ part.length then (acc.1 + p.2, acc.2 ++ [p]) else (part.length + 1, acc.2)) (0, [])).2
        let run := writeAll mc x.cls covered { moved := 0, last := 0, data := part, status := 0, held := false } q.2
        markBad n 7 r.1.2 x run.2
      else
        let stream := if x.out.isEmpty then convert w r.1.1 else x.out
        let run := writeAll mc x.cls (packets.drop x.moved) { moved := x.moved, last := x.last, data := stream, status := 0, held := false } d
        let v := run.1
        let x := { x with out := v.data, moved := v.moved, last := v.last }
        let d := run.2
        if v.status ≠ 0 then
          let q := d.takeFree
          let more := writeAll mc x.cls ((packets.drop v.moved).take (q.1 % (packets.length + 1)))
            { moved := 0, last := 0, data := v.data, status := 0, held := false } q.2
          flushReplies (markBad n 8 v.status x more.2)
        else if v.held then flushReplies (putDesc n x d)
        else flushReplies (putDesc n { x with stage := 1, out := [] } d)
def execDataTransfer (n : Fin 16) (q : BitVec 20) (s : State) : Host.Outcome State Fault Refusal :=
  s.liftMode (dataTransfer n.val q.toNat)

/-- READBACK: one byte from the start of the last write packet (R423). -/
def readBack (n q : Nat) (d : Device) : Device :=
  match inEngine d n q with
  | none => d
  | some x =>
    if x.stage ≠ 1 ∨ !shtRuns d n then d
    else
      let r := busRead (byBlock d (4 + x.cls) (.sht n)) x.last 1 d
      let st := r.1.status
      putDesc n { x with stage := 2, status := if st = 0 then 0 else if st = 9 then 10 else 9, net := st, stamp := r.2.now (engHalf n) } r.2
def execReadback (n : Fin 16) (q : BitVec 20) (s : State) : Host.Outcome State Fault Refusal := s.liftReport (readBack n.val q.toNat)

/-! ### Completion (R425) -/

/-- The 16 bytes of the record at index i of a ring of 2^k. -/
def recordBytes (x : Desc) (k i : Nat) : List Byte :=
  timeBytes x.stamp ++ leBytes (dTag x.words) 2 ++ leBytes x.status 1 ++ leBytes (16 * x.net + (1 - i / 2 ^ k % 2)) 1

/-- COMPLETION_RECORD: one record at cq_prod, or the queue waits with cq_full. -/
def completionRecord (n q : Nat) (d : Device) : Device :=
  match inEngine d n q with
  | none => d
  | some x =>
    if x.stage ≠ 2 ∨ !shtRuns d n then d
    else
      let g := ctxGet n q d
      let c := g.1
      if gap32 (cCqProd c) (cCqCons c) = 2 ^ cCqK c then shtFlag n 24 q g.2
      else
        let i := cCqProd c
        let r := busWrite (byBlock g.2 (4 + x.cls) (.sht n)) x.cls (cCqBase c + 16 * (i % 2 ^ cCqK c)) (recordBytes x (cCqK c) i) g.2
        if r.1 = notTaken then d else flushReplies (putDesc n { x with stage := 3, answer := r.1 } r.2)
def execCompletionRecord (n : Fin 16) (q : BitVec 20) (s : State) : Host.Outcome State Fault Refusal :=
  s.liftMode (completionRecord n.val q.toNat)

/-- Count of the field at offset 0x28 of a context, bit `lo` up. -/
def bumpCtx (c : Ctx) (o lo : Nat) : Ctx := setCfld c o lo 32 ((cfld c o lo 32 + 1) % 2 ^ 32)

/-- RECORD_ANSWER: indices and counts advance, or the queue goes to Error. -/
def recordAnswer (n q : Nat) (d : Device) : Device :=
  match inEngine d n q with
  | none => d
  | some x =>
    if x.stage ≠ 3 ∨ !shtRuns d n then d
    else
      let g := ctxGet n q d
      let c := g.1
      let d := dropDesc n q g.2
      if x.answer ≠ 0 then shtHandOver n (shtFlag n 23 q (ctxSet n q (setCfld c 0x20 0 2 3) d))
      else
        let c := bumpCtx (bumpCtx (bumpCtx c 0x18 0) 0x10 32) 0x28 0
        let c := if x.status = 0 then c else bumpCtx c 0x28 32
        let d := (ctxSet n q c d).bump (shtA n 8) 0 32 1
        let d := if x.status = 0 then d else d.bump (shtA n 0xC) 0 32 1
        shtHandOver n (shtCount n d)
def execRecordAnswer (n : Fin 16) (q : BitVec 20) (s : State) : Host.Outcome State Fault Refusal := s.liftReport (recordAnswer n.val q.toNat)

end Sys2Proof.Machine
end

