-- ==== Sys2Proof/Machine/Packet.lean ====
section
/-!
DEFINITION. Machine/Packet.lean: carriers, packets, sessions, replies and the checks every request passes (21_command_protocol R517 to
R532).
-/
namespace Sys2Proof.Machine

/-! ### Statuses (R523) -/

def stOk : Nat := 0x00
def stAccepted : Nat := 0x01
def stBadHeader : Nat := 0x10
def stBadCheck : Nat := 0x11
def stBadLength : Nat := 0x12
def stUnknown : Nat := 0x13
def stVersion : Nat := 0x14
def stNotOwner : Nat := 0x20
def stClaimed : Nat := 0x21
def stBusy : Nat := 0x30
def stWrongMode : Nat := 0x31
def stRange : Nat := 0x40
def stHwFault : Nat := 0x50
def stHalted : Nat := 0x51

/-- What an opcode answers: status and parameters, and the device after it. -/
abbrev Res := (Nat × List Byte) × Device

def answerWith (st : Nat) (d : Device) : Res := ((st, []), d)
def ok (ps : List Byte) (d : Device) : Res := ((stOk, ps), d)
def hwFault (detail : Nat) (d : Device) : Res := ((stHwFault, leBytes detail 4), d)

/-! ### Carriers (R517) -/

/-- Requester kinds: 0 host, 1 fabric, 2 debug. -/
def kindOf : Carrier → Nat
  | .network => 1
  | .jtag => 2
  | _ => 0

/-- Master class of the register accesses of a carrier's sessions. -/
def classOf (c : Carrier) : Nat := nth [1, 0, 2] (kindOf c) 1

def spiOf : Half → Carrier
  | .w => .spiW
  | .e => .spiE
def i2cOf : Half → Carrier
  | .w => .i2cW
  | .e => .i2cE

/-! ### Packets (R521) -/

def u8 (p : List Byte) (i : Nat) : Nat := byteAt p i
def u16 (p : List Byte) (i : Nat) : Nat := leNat ((p.drop i).take 2)
def u32 (p : List Byte) (i : Nat) : Nat := leNat ((p.drop i).take 4)
def u64 (p : List Byte) (i : Nat) : Nat := leNat ((p.drop i).take 8)

/-- Bytes of a packet. -/
def packet (rq : ReqCtx) (opcode flags status : Nat) (params : List Byte) : List Byte :=
  let h := [rq.major, rq.minor] ++ leBytes opcode 2 ++ leBytes rq.seq.toNat 2 ++ leBytes flags 1 ++ [rq.id] ++ leBytes params.length 4
  let b := h ++ leBytes (crc16 h).toNat 2 ++ leBytes status 2 ++ params
  b ++ leBytes (crc32 b).toNat 4

/-- CRC-32 of a request. -/
def requestCrc (rq : ReqCtx) (opcode : Nat) (params : List Byte) : Nat :=
  u32 (packet rq opcode 0 0 params) (16 + params.length)

/-! ### Versions (R524, R525) -/

def versions : List (Nat × Nat) := [(1, 0), (1, 1), (1, 2), (1, 3), (1, 4), (2, 0), (2, 1), (2, 2), (2, 3)]
def verLe (a b : Nat × Nat) : Bool := decide (a.1 < b.1) || (a.1 == b.1 && decide (a.2 ≤ b.2))

/-- The highest accepted version in a range. -/
def chosenVersion (lo hi : Nat × Nat) : Option (Nat × Nat) := (versions.filter (fun v => verLe lo v && verLe v hi)).getLast?

def rqVersion (rq : ReqCtx) : Nat × Nat := (rq.major.toNat, rq.minor.toNat)

/-! ### The opcode tables (R533 to R545) -/

/-- One opcode: code, first version, least and greatest parameter length. -/
structure OpRow where
  code : Nat
  since : Nat × Nat
  least : Nat
  most : Nat

def opRows : List OpRow := [
  ⟨0x0001, (1, 0), 8, 8⟩, ⟨0x0002, (1, 0), 0, 0⟩, ⟨0x0003, (2, 0), 100, 196⟩, ⟨0x0004, (1, 0), 0, 0⟩,
  ⟨0x0101, (1, 0), 16, 16⟩, ⟨0x0102, (1, 0), 5, 4076⟩, ⟨0x0103, (1, 0), 0, 0⟩, ⟨0x0104, (1, 0), 0, 0⟩, ⟨0x0105, (1, 1), 4, 4⟩,
  ⟨0x0201, (1, 0), 0, 0⟩, ⟨0x0202, (1, 0), 0, 0⟩, ⟨0x0203, (1, 0), 1, 1⟩, ⟨0x0204, (1, 2), 2, 2⟩, ⟨0x0205, (1, 0), 0, 0⟩,
  ⟨0x0301, (1, 0), 14, 14⟩, ⟨0x0302, (1, 0), 2, 2⟩, ⟨0x0303, (1, 0), 20, 4004⟩, ⟨0x0304, (1, 0), 4, 4⟩, ⟨0x0305, (1, 3), 12, 12⟩,
  ⟨0x0401, (1, 0), 12, 12⟩, ⟨0x0402, (1, 0), 2, 2⟩, ⟨0x0403, (1, 0), 4, 4⟩, ⟨0x0404, (2, 0), 24, 24⟩, ⟨0x0405, (2, 0), 3, 3⟩] ++ [
  ⟨0x0501, (1, 0), 4, 4⟩, ⟨0x0502, (1, 1), 8, 8⟩, ⟨0x0503, (1, 0), 1, 1⟩, ⟨0x0504, (1, 0), 1, 1⟩, ⟨0x0505, (1, 0), 0, 0⟩,
  ⟨0x0601, (1, 0), 1, 1⟩, ⟨0x0602, (1, 0), 0, 0⟩,
  ⟨0x0701, (1, 0), 3, 3⟩, ⟨0x0702, (1, 0), 0, 0⟩, ⟨0x0703, (1, 0), 32, 32⟩,
  ⟨0x0801, (1, 0), 8, 8⟩, ⟨0x0802, (1, 0), 5, 4076⟩, ⟨0x0803, (1, 0), 0, 0⟩, ⟨0x0804, (1, 0), 0, 0⟩, ⟨0x0805, (1, 0), 0, 0⟩,
  ⟨0x0806, (1, 0), 8, 8⟩, ⟨0x0807, (1, 0), 52, 52⟩, ⟨0x0808, (1, 0), 1, 1⟩, ⟨0x0809, (2, 0), 36, 36⟩,
  ⟨0x0901, (1, 0), 12, 12⟩, ⟨0x0902, (1, 0), 12, 12⟩, ⟨0x0903, (2, 0), 13, 13⟩, ⟨0x0904, (1, 0), 8, 8⟩] ++ [
  ⟨0x0A01, (1, 0), 11, 11⟩, ⟨0x0A02, (1, 0), 11, 4076⟩, ⟨0x0A03, (1, 2), 16, 16⟩, ⟨0x0A04, (1, 2), 60, 60⟩, ⟨0x0A05, (1, 2), 4, 4⟩,
  ⟨0x0A06, (1, 2), 8, 8⟩,
  ⟨0x0B01, (1, 0), 1, 1⟩, ⟨0x0B02, (1, 0), 1, 1⟩, ⟨0x0B03, (2, 1), 2, 2⟩, ⟨0x0B04, (2, 2), 4, 4076⟩]

def opRow (op : Nat) (v : Nat × Nat) : Option OpRow := opRows.find? (fun r => r.code == op && verLe r.since v)

/-- The parameter length is the opcode's (R522 step 8). -/
def lengthOk (r : OpRow) (p : List Byte) : Bool :=
  decide (r.least ≤ p.length ∧ p.length ≤ r.most)
    && (r.code != 0x0003 || p.length == 100 || p.length == 196)
    && (r.code != 0x0303 || p.length == 4 + 16 * u8 p 1)
    && (r.code != 0x0A02 || p.length == 11 + u16 p 8 * (if u8 p 10 = 1 then 8 else 4))

/-! ### Who may ask for what (R531, R532) -/

/-- Opcodes served while Safe hold has the integrity cause. -/
def haltServed (op : Nat) : Bool :=
  [0x0001, 0x0002, 0x0003, 0x0004, 0x0205, 0x0104, 0x0701, 0x0702, 0x0805, 0x0503, 0x0904, 0x0A01].contains op

/-- Kind `k` may use the opcode. LOAD_STATUS stands in group 0x01xx. -/
def kindAllowed (k op : Nat) : Bool :=
  match op / 256, k with
  | 0x00, _ => true
  | 0x01, 1 => op == 0x0104
  | 0x01, _ => true
  | 0x02, 0 => op != 0x0205
  | 0x03, 0 => true
  | 0x03, 1 => [0x0303, 0x0304, 0x0305].contains op
  | 0x03, 2 => op == 0x0304
  | 0x04, 0 => [0x0401, 0x0402, 0x0403].contains op
  | 0x04, 2 => op == 0x0403
  | 0x05, 1 => op == 0x0503
  | 0x05, _ => op != 0x0505
  | 0x06, 1 => false
  | 0x06, _ => true
  | 0x07, 0 => true
  | 0x07, _ => op == 0x0701 || op == 0x0702
  | 0x08, 0 => op == 0x0805
  | 0x08, 2 => op == 0x0805
  | 0x09, _ => op != 0x0903
  | 0x0A, _ => true
  | 0x0B, 0 => true
  | 0x0B, 2 => op == 0x0B01
  | _, _ => false

/-- ROM firmware serves sessions, register access and the update commands (18_ R476). -/
def romServes (op : Nat) : Bool := op / 256 == 0 || (decide (0x0801 ≤ op ∧ op ≤ 0x0805)) || (decide (0x0A01 ≤ op ∧ op ≤ 0x0A03))

/-! ### Sessions (R525, R528) -/

def sessionOf (d : Device) (c : Carrier) (id : Nat) : Option Session := d.cmd.sessions.find? (fun s => s.id == id && s.carrier == c)

/-- A session closes; the completions it awaits are discarded (R529). -/
def closeSession (c : Carrier) (id : Nat) (d : Device) : Device :=
  { d with cmd := { d.cmd with
    sessions := d.cmd.sessions.filter (fun s => !(s.id == id && s.carrier == c))
    long := d.cmd.long.filter (fun x => !(x.rq.id.toNat == id && x.rq.carrier == c)) } }

def mapSession (c : Carrier) (id : Nat) (f : Session → Session) (d : Device) : Device :=
  { d with cmd := { d.cmd with sessions := d.cmd.sessions.map (fun s => if s.id == id && s.carrier == c then f s else s) } }

/-- A reply: its bytes, kept by the session with the request's CRC. The first one after a failover carries flags bit 2 (R530). -/
def mkReply (rq : ReqCtx) (op : Nat) (crc : Nat) (st : Nat) (ps : List Byte) (d : Device) : List Byte × Device :=
  let id := rq.id.toNat
  let took := match sessionOf d rq.carrier id with
    | some s => s.tookOver
    | none => false
  let bs := packet rq op (if took then 5 else 1) st ps
  let k : Kept := { seq := rq.seq.toNat, crc := crc, reply := bs }
  (bs, mapSession rq.carrier id (fun s => { s with
    tookOver := false
    kept := (k :: s.kept.filter (fun x => x.seq != k.seq)).take 16 }) d)

/-- A reply that no session keeps. -/
def plainReply (rq : ReqCtx) (op st : Nat) (ps : List Byte) : List Byte := packet rq op 1 st ps

/-- The version check of R522 step 3. -/
def versionBad (d : Device) (rq : ReqCtx) (op : Nat) : Bool :=
  !versions.contains (rqVersion rq) || (op != 0x0001 && (match sessionOf d rq.carrier rq.id.toNat with
    | some s => (s.major, s.minor) != rqVersion rq
    | none => false))

/-- What an opcode answers when it cannot go on now and is carried out later: not a status of R523. -/
def waits : Nat := 0x100

/-- R522 from step 6 on, for a packet whose form is right, and the operation itself: status, bytes of the reply, and the device. -/
def serve (rq : ReqCtx) (op : Nat) (params : List Byte) (crc : Nat) (act : Session → Device → Res) (d : Device) :
    (Nat × List Byte) × Device :=
  let plain (st : Nat) (ps : List Byte) : (Nat × List Byte) × Device := ((st, plainReply rq op st ps), d)
  let none_ : Session := { id := rq.id.toNat, carrier := rq.carrier, secure := false, tries := 0, major := 0, minor := 0, nonce := 0
                           kept := [], tookOver := false }
  if versionBad d rq op then plain stVersion [2, 3]
  else match (if romBoot d && !romServes op then none else opRow op (rqVersion rq)) with
    | none => plain stUnknown []
    | some row =>
      match (if op = 0x0001 then some none_ else sessionOf d rq.carrier rq.id.toNat) with
      | none => plain stNotOwner []
      | some s =>
        match (if op = 0x0001 then none else s.kept.find? (fun k => k.seq == rq.seq.toNat)) with
        | some k => if k.crc = crc then ((stOk + 0x200, k.reply), d) else plain stBadHeader []
        | none =>
          let r : Res :=
            if !lengthOk row params then answerWith stBadLength d
            else if d.sys.integrity && !haltServed op then answerWith stHalted d
            else if !(s.secure || kindAllowed (kindOf rq.carrier) op) then answerWith stNotOwner d
            else act s d
          if r.1.1 = waits then ((waits, []), d)
          else
            let q := mkReply rq op crc r.1.1 r.1.2 r.2
            ((r.1.1, q.1), q.2)

/-- Number of a carrier in the order of R527, and the half it belongs to: that of its port, else the primary Thimble's. -/
def carrierNo : Carrier → Nat
  | .hostW => 0
  | .hostE => 1
  | .network => 2
  | .spiW => 3
  | .spiE => 4
  | .i2cW => 5
  | .i2cE => 6
  | .jtag => 7
def carrierHalf (d : Device) : Carrier → Half
  | .hostW | .spiW | .i2cW => .w
  | .hostE | .spiE | .i2cE => .e
  | .network | .jtag => d.sys.primary

/-- Bobbin's CMD record of a command packet: the whole packet with Lark time, split beyond 2 KiB (20_ R501, R510). -/
def bobPacket (c : Carrier) (bs : List Byte) (d : Device) : Device :=
  let h := carrierHalf d c
  d.each (List.range ((bs.length + 2031) / 2032)) (fun d i =>
    d.bobRecord h (recOf 0x22 (leBytes (carrierNo c) 1 ++ leBytes 0 5 ++ recTime (d.now h) ++ (bs.drop (2032 * i)).take 2032)))

/-- The primary Thimble serves requests. -/
def thimbleServes (d : Device) : Bool := d.sys.booted && d.sys.resetSeq.isNone && cpuUp d d.sys.primary

/-- A request that has passed the packet checks is taken (R527): its reply goes out, and then `after` takes effect if it was
answered OK or ACCEPTED. -/
def serveRequest (rq : ReqCtx) (op : Nat) (params : List Byte) (act : Session → Device → Res) (after : Device → Device) (d : Device) : Device :=
  if !thimbleServes d then d
  else
    let q := serve rq op params (requestCrc rq op params) act (bobPacket rq.carrier (packet rq op 0 0 params) d)
    if q.1.1 = waits then d
    else
      let d := sendReply rq.carrier q.1.2 q.2
      if q.1.1 = stOk ∨ q.1.1 = stAccepted then after d else d

/-! ### Long operations (R529) -/

/-- A long operation starts for a request: the reply is ACCEPTED. -/
def startLong (rq : ReqCtx) (op : LongOp) (opcode arg : Nat) (result : Option (Nat × Nat)) (d : Device) : Res :=
  answerWith stAccepted { d with cmd := { d.cmd with
    long := d.cmd.long ++ [{ op := op, rq := rq, opcode := opcode, arg := arg, result := result }] } }

/-- How a long operation ended, if it has: status and parameters of its completion (R534, R537, R538, R541). -/
def longEnd (d : Device) (x : LongRun) : Option (Nat × List Byte) :=
  match x.op with
  | .load =>
    if d.load.job.isSome then none
    else if d.load.outcome = 0 then some (stOk, leBytes (d.reg (thmA 0x2300)).toNat 4)
    else if d.load.outcome = stHwFault then some (stHwFault, leBytes (d.fld (thmA 0x2300) 20 4) 4)
    else some (d.load.outcome, [])
  | .scrub n =>
    let a (o : Nat) : List Byte := leBytes (d.reg (mchA n.val o)).toNat 4
    if (d.chan n.val).pass.isSome then none
    else some (stOk, a 0x910 ++ a 0x914 ++ a 0x918 ++ a 0x91C ++ leBytes (d.fld (mchA n.val 0x920) 0 8) 1
      ++ leBytes (b2n (d.bit (scrubStat n.val) 29)) 1)
  | .lining i =>
    if linBusy d i.val then none else some (stOk, leBytes (d.reg (rngA i.val 0x14)).toNat 4)
  | .mend _ =>
    match x.result with
    | some r => some (stOk, leBytes r.1 1 ++ [0] ++ leBytes r.2 2)
    | none => none
  | .update =>
    match x.result with
    | some r => some (r.1, if r.1 = stHwFault then leBytes r.2 4 else [])
    | none =>
      if d.load.rsWrite.isSome then none
      else some (d.load.updDone.1, if d.load.updDone.1 = stHwFault then leBytes d.load.updDone.2 4 else [])

/-- LONG_COMPLETION: an operation that has ended completes; a session that has closed gets none. -/
def longCompletion (op : LongOp) (d : Device) : Device :=
  if !thimbleServes d then d
  else match d.cmd.long.find? (fun x => x.op == op && (longEnd d x).isSome) with
    | none => d
    | some x =>
      match longEnd d x with
      | none => d
      | some r =>
        let d := { d with cmd := { d.cmd with long := dropFirst (fun y => y == x) d.cmd.long } }
        sendReply x.rq.carrier (packet x.rq x.opcode 3 r.1 r.2) d
def execLongCompletion (op : LongOp) (s : State) : Host.Outcome State Fault Refusal := s.liftMode (longCompletion op)

/-- SESSION_TIMEOUT: 60 s with no request. -/
def execSessionTimeout (car : Carrier) (id : Byte) (s : State) : Host.Outcome State Fault Refusal := s.lift (closeSession car id.toNat)

/-! ### SPI, I2C and JTAG (R518, R520) -/

/-- The pins of the target are selected: function `fn` on pins lo to lo + n − 1 of bank 4h (17_ R439). -/
def targetPins (d : Device) (h : Half) (fn lo n : Nat) : Bool := d.up h && (upto n).all (fun i => d.pinMux (4 * hn h) (lo + i) == fn)

/-- A whole packet arrives at a port that holds one request. -/
def portPacket (c : Carrier) (bytes : List Byte) (d : Device) : Device :=
  if d.cmd.arrived.any (fun x => x.1 == c) then
    { d with cmd := { d.cmd with overflow := c :: d.cmd.overflow.filter (fun x => x != c) } }
  else { d with cmd := { d.cmd with arrived := d.cmd.arrived ++ [(c, bytes)] } }

def headReply (d : Device) (c : Carrier) : Option (List Byte) := (d.cmd.replies.find? (fun x => x.1 == c)).map (fun x => x.2)
def popReply (c : Carrier) (d : Device) : Device :=
  flushReplies { d with cmd := { d.cmd with replies := dropFirst (fun (x : Carrier × List Byte) => x.1 == c) d.cmd.replies } }

/-- The length and the reply at the head; a read that ends early leaves it there. -/
def portRead (c : Carrier) (whole : Bool) (d : Device) : Device :=
  match headReply d c with
  | none => d.answer 0 [0, 0]
  | some bs => if whole then (popReply c d).answer 0 (leBytes bs.length 2 ++ bs) else d.answer 0 []

/-- SPI_WRITE_PACKET: command byte 0x02. -/
def execSpiWritePacket (h : Half) (bytes : List Byte) (s : State) : Host.Outcome State Fault Refusal :=
  s.lift (fun d => if targetPins d h 5 10 4 then portPacket (spiOf h) bytes d else d)
/-- SPI_READ_REPLY: command byte 0x0B. -/
def execSpiReadReply (h : Half) (whole : Bool) (s : State) : Host.Outcome State Fault Refusal :=
  s.liftMode (fun d => if targetPins d h 5 10 4 then portRead (spiOf h) whole d else d)

/-- SPI_STATUS: command byte 0x05. -/
def spiStatus (h : Half) (d : Device) : Device :=
  let c := spiOf h
  if !targetPins d h 5 10 4 then d
  else
    let v := b2n (headReply d c).isSome + 2 * b2n (d.cmd.arrived.any (fun x => x.1 == c)) + 4 * b2n (d.cmd.overflow.contains c)
    ({ d with cmd := { d.cmd with overflow := d.cmd.overflow.filter (fun x => x != c) } }).answer 0 (leBytes v 1)
def execSpiStatus (h : Half) (s : State) : Host.Outcome State Fault Refusal := s.lift (spiStatus h)

def execI2cWritePacket (h : Half) (bytes : List Byte) (s : State) : Host.Outcome State Fault Refusal :=
  s.lift (fun d => if targetPins d h 6 14 2 then portPacket (i2cOf h) bytes d else d)
def execI2cReadReply (h : Half) (whole : Bool) (s : State) : Host.Outcome State Fault Refusal :=
  s.liftMode (fun d => if targetPins d h 6 14 2 then portRead (i2cOf h) whole d else d)

/-- CMDPKT_UPDATE: a word; the packet is complete after its length, rounded up to a word. -/
def cmdpktUpdate (word : Word) (d : Device) : Device :=
  let bs := d.cmd.jtagIn ++ leBytes word.toNat 4
  if 16 ≤ bs.length ∧ 16 + u32 bs 8 + 4 ≤ bs.length then portPacket .jtag bs { d with cmd := { d.cmd with jtagIn := [] } }
  else { d with cmd := { d.cmd with jtagIn := bs } }
def execCmdpktUpdate (word : BitVec 32) (s : State) : Host.Outcome State Fault Refusal := s.lift (cmdpktUpdate word)

/-- CMDPKT_CAPTURE: the length, then the words of the head reply; it leaves with its last word. -/
def cmdpktCapture (d : Device) : Device :=
  match headReply d .jtag with
  | none => d.answer 0 (leBytes 0 4)
  | some bs =>
    let k := d.cmd.jtagOut
    let w := if k = 0 then leBytes bs.length 4 else leBytes (u32 bs (4 * (k - 1))) 4
    let d := if 4 * k ≥ bs.length then popReply .jtag { d with cmd := { d.cmd with jtagOut := 0 } }
      else { d with cmd := { d.cmd with jtagOut := k + 1 } }
    d.answer 0 w
def execCmdpktCapture (s : State) : Host.Outcome State Fault Refusal := s.liftMode cmdpktCapture

end Sys2Proof.Machine
end

