-- ==== Sys2Proof/Machine/Opcodes.lean ====
section
/-!
DEFINITION. Machine/Opcodes.lean: what each opcode does and answers once a request has passed the checks of Packet.lean, from R522 step
10's claims on (21_command_protocol R525, R526, R533 to R551).
-/
namespace Sys2Proof.Machine

def word4 (d : Device) (a : Nat) : List Byte := leBytes (d.reg a).toNat 4
def words (d : Device) (as : List Nat) : List Byte := as.flatMap (fun a => word4 d a)

/-- Status, or OK with parameters. -/
def rangeUnless (good : Bool) (r : Unit → Res) (d : Device) : Res := if good then r () else answerWith stRange d

/-! ### Claims (R548, R551) -/

/-- A resource held by another: holder, three reserved bytes, the item. -/
def claimed (holder item : Nat) (d : Device) : Res := ((stClaimed, leBytes holder 4 ++ leBytes item 4), d)

/-- The request acts on an item: none where requester `id` holds it, else its refusal (R551). -/
def needClaim (d : Device) (kind wher item id : Nat) : Option Res :=
  match claimHolder d kind wher item with
  | none => some (answerWith stNotOwner d)
  | some x => if x = id then none else some (claimed x item d)

/-- The first refusal of a list of items. -/
def needClaims (d : Device) (kind wher : Nat) (items : List Nat) (id : Nat) : Option Res :=
  items.findSome? (fun i => needClaim d kind wher i id)

/-- Places and items of a kind. -/
def claimPlaces (kind : Nat) : Nat := nth [8, 2, 2, 1, 32] kind 0
def claimItems (kind : Nat) : Nat := nth [48, 256, 32, 2 ^ 20, 64] kind 0
def claimWhere (kind wher : Nat) : Nat := if kind = 3 then 0 else wher
def claimInRange (kind wher first count : Nat) : Bool :=
  decide (kind < 5 ∧ claimWhere kind wher < claimPlaces kind ∧ 1 ≤ count ∧ first + count ≤ claimItems kind)

/-- Claims on items first to first + count − 1 that others hold, the lowest item of them. -/
def firstHeld (d : Device) (kind wher first count id : Nat) : Option ClaimRec :=
  (d.cmd.claims.filter (fun c => c.kind == kind && c.where_ == wher && decide (first ≤ c.item ∧ c.item < first + count)
    && c.holder != id)).foldl (fun m c => match m with
      | some b => some (if c.item < b.item then c else b)
      | none => some c) none

/-- Owner code of a holder: secure 1, fabric 3, else 2. -/
def ownerCode (s : Session) : Nat := if s.secure then 1 else if kindOf s.carrier = 1 then 3 else 2

/-- A claim of a pin shows in GPIO_PIN_OWN_i. -/
def showOwner (kind wher item code id : Nat) (d : Device) : Device :=
  if kind = 0 then d.setReg (pinOwnA wher item) (BitVec.ofNat 32 (code * 2 ^ 30 + id)) else d

def takeClaim (s : Session) (kind wher item : Nat) (d : Device) : Device :=
  showOwner kind wher item (ownerCode s) s.id (putClaim kind wher item s.id d)

def dropClaim (kind wher item : Nat) (d : Device) : Device :=
  showOwner kind wher item 0 0 { d with cmd := { d.cmd with
    claims := d.cmd.claims.filter (fun c => !(c.kind == kind && c.where_ == wher && c.item == item)) } }

def itemsOf (first count : Nat) : List Nat := (List.range count).map (fun i => first + i)

/-- CLAIM: all items or none; for pages with first 0xFFFF_FFFF, the lowest free ones. -/
def claimAct (kind wher first count : Nat) (s : Session) (d : Device) : Res :=
  let w := claimWhere kind wher
  if kind = 1 ∧ first = 0xFFFFFFFF then
    let free := (upto 256).filter (fun p => (claimHolder d 1 w p).isNone)
    if w > 1 ∨ count = 0 ∨ free.length < count then answerWith stRange d
    else
      let ps := free.take count
      ok (leBytes (ps.headD 0) 4 ++ leBytes count 4 ++ leBytes (ps.foldl (fun n p => n + 2 ^ p) 0) 32)
        (d.each ps (fun d p => takeClaim s 1 w p d))
  else match firstHeld d kind w first count s.id with
    | some c => claimed c.holder c.item d
    | none =>
      if !claimInRange kind wher first count then answerWith stRange d
      else ok (leBytes first 4 ++ leBytes count 4) (d.each (itemsOf first count) (fun d i => takeClaim s kind w i d))

/-- UNCLAIM: by the holder; items that nobody holds stay so. -/
def unclaimAct (kind wher first count : Nat) (s : Session) (d : Device) : Res :=
  let w := claimWhere kind wher
  match firstHeld d kind w first count s.id with
  | some c => claimed c.holder c.item d
  | none =>
    if !claimInRange kind wher first count then answerWith stRange d
    else
      let mine := (itemsOf first count).filter (fun i => claimHolder d kind w i == some s.id)
      ok [] (d.each mine (fun d i => dropClaim kind w i d))

/-- OVERRIDE: every item to the new holder; 0x00 releases. The owner code of a pin whose new holder has no session is not stated: free
(log entry 1). -/
def overrideAct (kind wher first count holder : Nat) (s : Session) (d : Device) : Res :=
  let w := claimWhere kind wher
  if !claimInRange kind wher first count ∨ holder = 255 then answerWith stRange d
  else
    let d := { d with cmd := { d.cmd with overrides := (s.id, kind, w, first, count, holder) :: d.cmd.overrides } }
    if holder = 0 then ok [] (d.each (itemsOf first count) (fun d i => dropClaim kind w i d))
    else
      let q := d.takeFree
      let code := match d.cmd.sessions.find? (fun x => x.id == holder) with
        | some x => ownerCode x
        | none => 1 + q.1 % 3
      ok [] (q.2.each (itemsOf first count) (fun d i => showOwner kind w i code holder (putClaim kind w i holder d)))

def claimQueryAct (kind wher item : Nat) (d : Device) : Res :=
  if !claimInRange kind wher item 1 then answerWith stRange d
  else ok (leBytes ((claimHolder d kind (claimWhere kind wher) item).getD 0) 1) d

/-! ### Sessions (R525, R526, R533) -/

/-- HELLO. The firmware build and the nonce are free values (log entry 1). -/
def helloAct (rq : ReqCtx) (lo hi : Nat × Nat) (id : Nat) (d : Device) : Res :=
  match chosenVersion lo hi with
  | none => ((stVersion, [2, 3]), d)
  | some v =>
    if id = 0 ∨ id = 255 ∨ id ≠ rq.id.toNat then answerWith stRange d
    else if d.cmd.sessions.any (fun s => s.id == id && s.carrier != rq.carrier) then answerWith stBusy d
    else
      let d := closeSession rq.carrier id d
      if d.cmd.sessions.length ≥ 32 then answerWith stBusy d
      else
        let b := d.takeFree
        let n := b.2.takeFree
        let nonce : BitVec 384 := BitVec.ofNat 384 n.1
        let s : Session := { id := id, carrier := rq.carrier, secure := false, tries := 0, major := v.1, minor := v.2, nonce := nonce
                             kept := [], tookOver := false }
        let d := n.2
        let d := { d with cmd := { d.cmd with sessions := d.cmd.sessions ++ [s] } }
        ok (leBytes v.1 1 ++ leBytes v.2 1 ++ leBytes id 1 ++ leBytes (devId d) 1 ++ leBytes b.1 4 ++ word4 d (thmA 0x40)
          ++ leBytes nonce.toNat 48) d

def byeAct (s : Session) (d : Device) : Res := ok [] (closeSession s.carrier s.id d)

/-- AUTH: whether the signature verifies is given with the request. -/
def authAct (slot : Nat) (sigOk : Bool) (key : List Byte) (s : Session) (d : Device) : Res :=
  if slot > 3 then answerWith stRange d
  else if s.tries ≥ 3 then answerWith stBusy d
  else
    let d := mapSession s.carrier s.id (fun x => { x with tries := x.tries + 1 }) d
    let good := mapSession s.carrier s.id (fun x => { x with secure := true })
    if !anyEnrolled d then
      if sigOk && key.length == 96 then ok [] ((good d).setBit (thmA 0x2300) 19) else answerWith stNotOwner d
    else
      let k := tabGet keyReset d.load.keys slot
      if k.enrolled && !k.revoked && sigOk then ok [] (good d) else answerWith stNotOwner d

def stateAct (d : Device) : Res := ok (words d [thmA 0x40, thmA 0x44]) d

/-! ### Loading (R534; 18_ R462, R463) -/

/-- Flash ports and t as the page code and the striping take them (14_ R380; 18_ R463). -/
def flashArgsOk (ports t : Nat) : Bool :=
  [1, 2, 4].contains ((upto 4).filter (fun i => bitsAt ports i 1 == 1)).length && decide (ports < 16) && [8, 16, 24, 32, 48, 64].contains t

def loadAct (rq : ReqCtx) (source ports t : Nat) (d : Device) : Res :=
  let mode := d.modeCode
  if source > 4 ∨ (source = 2 && !flashArgsOk ports t) then answerWith stRange d
  else if d.load.job.isSome ∨ d.sys.tripLow then answerWith stBusy d
  else if mode = 1 ∨ mode = 4 ∨ mode = 5 then answerWith stWrongMode d
  else if source ≤ 2 && d.load.decFailW && d.load.decFailE then hwFault 10 d
  else
    startLong rq .load 0x0101 0 none (loadStart (if source ≤ 2 then 0 else source - 2) false (source == 1) rq.id d)

def loadDataAct (off : Nat) (data : List Byte) (d : Device) : Res :=
  match d.load.job with
  | some j =>
    if j.source ≠ 2 then answerWith stWrongMode d
    else if off ≠ j.taken then answerWith stRange d
    else ok [] { d with load := { d.load with job := some { j with taken := j.taken + data.length } } }
  | none => answerWith stWrongMode d

def loadAbortAct (d : Device) : Res :=
  match d.load.job with
  | some j => ok [] (loadReject 11 (j.pat.elim 0 firstField) d)
  | none => answerWith stWrongMode d

def loadStatusAct (d : Device) : Res := ok (words d [thmA 0x2300, thmA 0x2304]) d

def gsrPulseAct (fields : BitVec 32) (d : Device) : Res := ok [] (d.each (regionFields fields) (fun d f => gsrPulse f d))

/-! ### Power and modes (R535; 01_ R31, R32) -/

/-- DORMANT: each domain goes to the state of the pattern's dormant profile, to Off where it has none, and one that is Off stays so (log entry
92). A load request taken before it is carried out first (01_ R35). -/
def dormantAct (d : Device) : Res :=
  let mode := d.modeCode
  if mode = 2 ∧ d.load.job.any (fun (j : LoadJob) => j.phase == 1) then ((waits, []), d)
  else if mode = 3 ∨ (mode = 2 ∧ d.load.job.isSome) then answerWith stBusy d
  else if mode ≠ 2 then answerWith stWrongMode d
  else
    let d := { d with sys := { d.sys with mode := .dormant } }
    let d := d.each (upto 64) (fun d n =>
      if d.domState n = 3 ∧ (d.trans n).isNone then d else domRequest n (d.load.dormant.getD n 3).toNat d)
    ok [] d

def wakeAct (d : Device) : Res := if d.modeCode = 4 then ok [] (wakeStart d) else answerWith stWrongMode d

def resetAct (kind : Nat) (d : Device) : Res := if 1 ≤ kind ∧ kind ≤ 3 then ok [] d else answerWith stRange d
/-- What RESET does once its reply has gone. -/
def resetAfter (kind : Nat) (d : Device) : Device :=
  match kind with
  | 1 => deviceReset .command 2 d
  | 2 => halfReset .w d
  | _ => halfReset .e d

def domainSetAct (n st : Nat) (d : Device) : Res :=
  if n > 63 ∨ st > 3 then answerWith stRange d
  else if d.modeCode ≠ 2 ∧ d.modeCode ≠ 3 then answerWith stWrongMode d
  else if n < 32 && (d.frozen n || d.underLoad n) then answerWith stBusy d
  else if d.domState n = 3 ∧ st ≠ 3 ∧ !supplyOk d n then hwFault 1 (domRequest n st d)
  else ok [] (domRequest n st d)

/-- RELEASE (19_ R497). -/
def releaseAct (d : Device) : Res :=
  if !d.sys.integrity then answerWith stWrongMode d
  else
    let d := haltRelease d
    let d := { d with sys := { d.sys with integrity := false } }
    let d := d.each (upto 144) (fun d l => laneEval l d)
    ok [] d.settle

/-! ### Lark and calendar (R536) -/

/-- A half's island does not answer: HALF_DOWN as the detail. -/
def halfDown (d : Device) : Res := hwFault 4 d

def setTimeAct (h : Half) (frac ns sec : Nat) (d : Device) : Res :=
  if !d.up h then halfDown d
  else if ns ≥ 1000000000 then answerWith stRange (d.setBit (statA h) 13)
  else
    let d := (d.setReg (lrkWide 0x20) (BitVec.ofNat 32 frac)).setReg (lrkWide 0x24) (BitVec.ofNat 32 ns)
    let d := (d.setReg (lrkWide 0x28) (BitVec.ofNat 32 (sec % 2 ^ 32))).setReg (lrkWide 0x2C) (BitVec.ofNat 32 (sec / 2 ^ 32 % 2 ^ 16))
    if setTimeOk d h then ok [] (setTime h d) else answerWith stWrongMode (setTime h d)

def halfOfByte (h : Nat) : Half := if h = 0 then .w else .e

def lrkSetTimeAct (h frac ns sec : Nat) (d : Device) : Res :=
  if h > 1 then answerWith stRange d else setTimeAct (halfOfByte h) frac ns sec d

def lrkCmdAct (h cmd : Nat) (d : Device) : Res :=
  let x := halfOfByte h
  if h > 1 ∨ (cmd ≠ 2 ∧ cmd ≠ 3) then answerWith stRange d
  else if !d.up x then halfDown d
  else if cmd = 3 then ok [] (clearLearning x d)
  else if !d.leads x && !d.larkSplit && !d.aligned x then answerWith stWrongMode (takeLeadership x d)
  else ok [] (takeLeadership x d)

/-- Indices first, first + 1, … modulo 65,536. -/
def calRun (first n : Nat) : List Nat := (List.range n).map (fun i => (first + i) % 65536)

/-- Entries written in order up to the first refused one (08_ R238): true where one was. -/
def calWriteRun (h : Half) (es : List (Nat × BitVec 128)) (d : Device) : Bool × Device :=
  es.foldl (fun (acc : Bool × Device) e =>
    if acc.1 then acc
    else (eValid e.2 && entryRefused acc.2 e.2, entryWrite h e.1 e.2 acc.2)) (false, d)

def calWriteAct (h first : Nat) (es : List (BitVec 128)) (s : Session) (d : Device) : Res :=
  let is := calRun first es.length
  match needClaims d 1 h (is.map (fun i => i / 256)) s.id with
  | some r => r
  | none =>
    if h > 1 then answerWith stRange d
    else if !d.up (halfOfByte h) then halfDown d
    else
      let q := calWriteRun (halfOfByte h) (is.zip es) d
      if q.1 then answerWith stRange q.2 else ok (leBytes es.length 1 ++ [0] ++ leBytes (is.getLastD 0) 2) q.2

def calReadAct (h count first : Nat) (d : Device) : Res :=
  if h > 1 ∨ count = 0 ∨ count > 250 then answerWith stRange d
  else if !d.up (halfOfByte h) then halfDown d
  else ok ((calRun first count).flatMap (fun i => leBytes (d.entry (halfOfByte h) i).toNat 16)) d

def chSetAct (h c : Nat) (range ctrl : Word) (s : Session) (d : Device) : Res :=
  match needClaim d 2 h c s.id with
  | some r => r
  | none =>
    let x := halfOfByte h
    if h > 1 ∨ c > 31 then answerWith stRange d
    else if !d.up x then halfDown d
    else
      let d := d.setReg (chanCtlA x c 0) range
      let bad := chanRefused d x c (ctrl &&& 0x9F000000)
      let d := chanStage x c ctrl false d
      if bad then answerWith stRange d else ok (word4 d (chanCtlA x c 8)) d

/-! ### Memory and Lining (R537) -/

def scrubAct (rq : ReqCtx) (n base limit : Nat) (d : Device) : Res :=
  if h : n < 8 then
    if passBusy d n || d.cmd.long.any (fun x => x.op == .scrub ⟨n, h⟩) then answerWith stBusy d
    else if base ≥ 2 ^ 29 ∨ limit ≥ 2 ^ 29 then answerWith stRange d
    else
      let q := passStart n ((d.setFld (mchA n 0x908) 0 29 base).setFld (mchA n 0x90C) 0 29 limit)
      match q.1 with
      | 0 => startLong rq (.scrub ⟨n, h⟩) 0x0401 0 none q.2
      | 1 => answerWith stBusy q.2
      | 2 => answerWith stWrongMode q.2
      | _ => answerWith stRange q.2
  else answerWith stRange d

/-- TRAIN: a drift pause measures the centres it is given; it needs a serving, unlocked channel. -/
def trainAct (n action : Nat) (m0 m1 : List Word) (d : Device) : Res :=
  if n > 7 ∨ action > 2 then answerWith stRange d
  else
    let ctl := mchA n 0
    if action = 0 ∧ (d.chanState n ≠ 2 ∨ d.bit ctl 28) then answerWith stRange d
    else
      let d := match action with
        | 0 => driftNow n m0 m1 d
        | 1 => d.putBit ctl 28 true
        | _ => d.putBit ctl 28 false
      ok (word4 d (mchA n 8)) d

def markAct (n r dev cmd : Nat) (d : Device) : Res :=
  if n > 7 ∨ r > 1 ∨ cmd = 0 ∨ cmd > 4 ∨ dev > 31 then answerWith stRange d
  else
    let d := eccFields n r dev d
    let q := match cmd with
      | 1 => eccMark n r dev d
      | 2 => eccUnmark n r dev d
      | 3 => eccSalvage n r d
      | _ => (false, eccClear n r d)
    if q.1 then answerWith stWrongMode q.2 else ok (word4 q.2 (markA n r)) q.2

def linRangeAct (i base limit rights : Nat) (d : Device) : Res :=
  if i > 15 ∨ base ≥ 2 ^ 39 ∨ limit ≥ 2 ^ 39 ∨ base % 4096 ≠ 0 ∨ limit % 4096 ≠ 4095 then answerWith stRange d
  else
    let put (d : Device) : Device := d.setReg (rngA i 0x10) (BitVec.ofNat 32 (rights % 2 ^ 18))
    if rngState d i = 0 then
      let d := (d.setReg (rngA i 0) (BitVec.ofNat 32 (base % 2 ^ 32))).setReg (rngA i 4) (BitVec.ofNat 32 (base / 2 ^ 32))
      let d := (d.setReg (rngA i 8) (BitVec.ofNat 32 (limit % 2 ^ 32 / 4096 * 4096))).setReg (rngA i 0xC) (BitVec.ofNat 32 (limit / 2 ^ 32))
      let d := put d
      ok (word4 d (rngA i 0x14)) d
    else if base = rngBase d i ∧ limit = rngLimit d i then let d := put d; ok (word4 d (rngA i 0x14)) d
    else answerWith stWrongMode d

def linCmdAct (rq : ReqCtx) (i cmd mode : Nat) (d : Device) : Res :=
  if h : i < 16 then
    if cmd = 0 ∨ cmd > 3 ∨ mode > 1 then answerWith stRange d
    else
      let d := linFields i (mode == 1) d
      let q := match cmd with
        | 1 => liningOpen i (mode == 1) d
        | 2 => liningClose i (mode == 1) d
        | _ => liningRekey i d
      match q.1 with
      | 0 => startLong rq (.lining ⟨i, h⟩) 0x0405 0 none q.2
      | 1 => answerWith stBusy q.2
      | 2 => answerWith stWrongMode q.2
      | _ => answerWith stRange q.2
  else answerWith stRange d

/-! ### Mending and seam (R538) -/

def mendAct (rq : ReqCtx) (f kind target : Nat) (d : Device) : Res :=
  if h : f < 32 then
    if kind = 0 ∨ kind > 3 then answerWith stRange d
    else
      let mode := d.modeCode
      let load := d.underLoad f && (mode == 2 || mode == 3)
      let q := mendRequest f ⟨kind, target, false⟩ false (d.setFld (fldA f 0x10) 0 9 target)
      if q.1 = 6 then ((if load then stBusy else stWrongMode, [6, 0, 0, 0]), q.2)
      else startLong rq (.mend ⟨f, h⟩) 0x0501 (kind * 65536 + target) (if q.1 = 0 then none else some (q.1, 0)) q.2
  else answerWith stRange d

/-- WALK: a field whose pattern is not repair-safe refuses walk_en (19_ R488): RANGE, the other settings stand. -/
def walkAct (fields : BitVec 32) (walkEn autoMend period : Nat) (d : Device) : Res :=
  if walkEn > 1 ∨ autoMend > 1 then answerWith stRange d
  else
    let fs := regionFields fields
    let refused := walkEn == 1 && fs.any (fun f => !d.bit (fldA f 0) 28)
    let d := d.each fs (fun d f => walkCfgWrite f (BitVec.ofNat 32 (walkEn * 2 ^ 31 + autoMend * 2 ^ 30 + period)) d)
    if refused then answerWith stRange d else ok [] d

def mendStatusAct (f : Nat) (d : Device) : Res :=
  if f > 31 then answerWith stRange d
  else ok (words d [fldA f 0x18, fldA f 0x20, fldA f 0x24, fldA f 0x28, fldA f 0x30, fldA f 0x34]) d

def seamRetrainAct (g : Nat) (d : Device) : Res :=
  if g = 255 then ok [] (retrainAll 3 d)
  else if g > 109 then answerWith stRange d
  else ok [] (retrainSegment 3 g d)

def seamMapResetAct (d : Device) : Res := if d.modeCode = 0 then ok [] (seamMapReset d) else answerWith stWrongMode d

/-! ### Bobbin, log and sensors (R539, R540) -/

def bobStatusAct (d : Device) : Res := ok (words d [bobA 4, bobA 0x10C, bobA 0x12C, bobA 0x110, bobA 0x130]) d
def bobCmdAct (cmd : Nat) (d : Device) : Res :=
  if cmd = 0 ∨ cmd > 4 then answerWith stRange d
  else
    let q := bobCmd cmd d
    if q.1 then answerWith stWrongMode q.2 else ok (word4 q.2 (bobA 4)) q.2

def logReadAct (first count : Nat) (d : Device) : Res :=
  if first > 4095 ∨ count = 0 ∨ count > 120 then answerWith stRange d
  else ok (leBytes (d.fld (thmA 0x2420) 16 12) 2 ++ leBytes (d.fld (thmA 0x2420) 0 16) 2
    ++ (List.range count).flatMap (fun i => entryBytes (d.logEntry ((first + i) % 4096)))) d

/-- Voltage of domain n in mV: 0 while Off (22_ R558, R574). -/
def domMilli (d : Device) (n : Nat) : Nat := if d.domState n = 3 then 0 else 500 + 5 * d.fld (domStatA n) 16 8

def sensorsAct (d : Device) : Res :=
  ok ((upto 32).flatMap (fun p => leBytes (d.fld (tempA p) 0 16) 2)
    ++ (upto 64).flatMap (fun n => leBytes (domMilli d n) 2 ++ leBytes (d.fld (domStatA n) 0 12) 2)) d

def faultIeAct (ws : List Word) (d : Device) : Res :=
  ok [] (d.each (upto 8) (fun d i => d.setReg (thmA (0x2400 + 4 * i)) (nth ws i 0)))

/-! ### Updates, the record store and keys (R541; 18_ R457, R473 to R478) -/

def updateBeginAct (s : Session) (ty total : Nat) (d : Device) : Res :=
  if !([1, 2, 3, 5, 7, 8] : List Nat).contains ty then answerWith stRange d
  else if d.cmd.update.isSome || d.cmd.long.any (fun x => x.op == .update) then answerWith stBusy d
  else ok [] { d with cmd := { d.cmd with update := some { rtype := ty, total := total, bytes := [], id := s.id } } }

def updateDataAct (off : Nat) (data : List Byte) (d : Device) : Res :=
  match d.cmd.update with
  | none => answerWith stWrongMode d
  | some u =>
    if off ≠ u.bytes.length ∨ off + data.length > u.total then answerWith stRange d
    else ok [] { d with cmd := { d.cmd with update := some { u with bytes := u.bytes ++ data } } }

/-- UPDATE_END: the length, then the firmware's signature; the record set is then to be written with trial = 1 (18_ R477). -/
def updateEndAct (rq : ReqCtx) (sigOk : Bool) (d : Device) : Res :=
  match d.cmd.update with
  | none => answerWith stWrongMode d
  | some u =>
    let d := { d with cmd := { d.cmd with update := none } }
    if u.bytes.length ≠ u.total then startLong rq .update 0x0803 0 (some (stHwFault, 2)) d
    else if u.rtype = 1 ∧ !sigOk then startLong rq .update 0x0803 0 (some (stHwFault, 1)) d
    else
      let d := installRecord u.rtype u.bytes d
      startLong rq .update 0x0803 0 none { d with load := { d.load with updDone := (0, 0), rsWrite := some (true, false) } }

/-- Once ACCEPTED has gone the record set is written, unless a flash load makes it wait (R467). -/
def updateEndAfter (writeOk : Bool) (d : Device) : Device :=
  if d.cmd.long.any (fun x => x.op == .update && x.result.isNone) && !d.load.job.any (fun (j : LoadJob) => j.source == 0) then
    rsWriteNow true writeOk d
  else d

/-- UPDATE_CONFIRM: the confirm page of the bank in use (18_ R472, R477 step 4). -/
def updateConfirmAct (d : Device) : Res :=
  let b := d.bit (thmA 0x2310) 31
  if romBoot d then ok [] d
  else ok [] ((setBank b { rsBank d.load b with confirm := true } d).setFld (thmA 0x2318) 0 2 0)

def rsStatusAct (d : Device) : Res := ok (words d [thmA 0x2310, thmA 0x2314, thmA 0x2318]) d

def pointerSetAct (which ports t auto page : Nat) (d : Device) : Res :=
  if which > 1 ∨ auto > 1 ∨ !flashArgsOk ports t then answerWith stRange d
  else
    let p : Pointer := { ports := ports, page := page, t := t, auto := auto == 1 }
    let l := if which = 0 then { d.load with primaryPtr := p } else { d.load with fallbackPtr := p }
    ok [] { d with load := { l with rsWrite := some (l.rsWrite.getD (false, false)) } }

def keyEnrollAct (slot : Nat) (digest : BitVec 384) (d : Device) : Res :=
  if slot > 3 ∨ (tabGet keyReset d.load.keys slot).enrolled then answerWith stRange d
  else ok [] { d with load := { d.load with keys := tabSet keyReset d.load.keys slot { tabGet keyReset d.load.keys slot with
    hash := digest, enrolled := true } } }

def keyRevokeAct (slot : Nat) (d : Device) : Res :=
  if slot > 3 then answerWith stRange d
  else ok [] { d with load := { d.load with keys := tabSet keyReset d.load.keys slot { tabGet keyReset d.load.keys slot with
    revoked := true } } }

def patternKeyAct (slot : Nat) (key : BitVec 256) (d : Device) : Res :=
  if slot > 1 ∨ (tabGet noPatKey d.load.patKeys slot).isSome then answerWith stRange d
  else ok [] { d with load := { d.load with patKeys := tabSet noPatKey d.load.patKeys slot (some key) } }

/-! ### Register access (R546, R547) -/

/-- Windows of R547: 1 the requester holds the pin, 2 secure sessions only, 3 not fabric; 0 any other address. -/
def windowKind (d : Device) (a : Nat) : Nat :=
  match windowOf d a with
  | some (.pins _, base, _) =>
    let o := a - base
    if o < 0xC0 ∨ (0x200 ≤ o ∧ o < 0x2C0) ∨ (0x418 ≤ o ∧ o < 0x420) then 1 else if 0x100 ≤ o ∧ o < 0x1C0 then 2 else 0
  | some (.lark _, base, _) => let o := a - base; if (0x200 ≤ o ∧ o < 0x240) ∨ (0x400 ≤ o ∧ o < 0x600) then 2 else 0
  | some (.sht _, base, _) => let o := a - base; if o < 4 then 3 else if 0x300 ≤ o ∧ o < 0x350 then 2 else 0
  | some (.thimble, base, _) => let o := a - base; if 0x2200 ≤ o ∧ o < 0x2208 then 2 else 0
  | some (.lining, _, _) => 2
  | some (.field _, base, _) => let o := a - base; if 0x10 ≤ o ∧ o < 0x20 then 2 else 0
  | some (.power, base, _) => let o := a - base; if 0x504 ≤ o ∧ o < 0x508 then 2 else 0
  | some (.seam, _, _) => 3
  | some (.bobbin, _, _) => 3
  | some (.mch _, base, _) => let o := a - base; if 0x940 ≤ o ∧ o < 0x944 then 3 else if 0xC00 ≤ o then 2 else 0
  | _ => 0

/-- Pins that a write of value v to a bank register acts on: the one of GPIO_PIN_CFG_i or GPIO_PIN_FILT_i, or those whose enable
changes. -/
def pinsWritten (d : Device) (a : Nat) (v : Word) : Nat × List Nat :=
  match windowOf d a with
  | some (.pins b, base, _) =>
    let o := a - base
    (b, if o < 0xC0 then [o / 4]
      else if o < 0x2C0 then [(o - 0x200) / 4]
      else
        let lo := if o < 0x41C then 0 else 32
        ((upto 32).filter (fun i => decide (lo + i < 48) && ((d.reg a ^^^ v).getLsbD i))).map (fun i => lo + i))
  | _ => (0, [])

/-- The rule of R547 for one 32-bit write: its refusal, if any. -/
def writeRule (s : Session) (a : Nat) (v : Word) (d : Device) : Option Res :=
  match windowKind d a with
  | 1 => let p := pinsWritten d a v; needClaims d 0 p.1 p.2 s.id
  | 2 => if s.secure then none else some (answerWith stNotOwner d)
  | 3 => if s.secure || kindOf s.carrier != 1 then none else some (answerWith stNotOwner d)
  | _ => none

/-- Master class of an access of `len` bytes at a. -/
def accessClass (s : Session) (a len : Nat) (d : Device) : Nat :=
  if (regHalves a len).any (fun x => windowKind d x != 0) then 3 else classOf s.carrier

/-- Addresses of count accesses. -/
def accesses (a count len : Nat) : List Nat := (List.range count).map (fun i => (a + len * i) % 2 ^ 48)

def regReadAct (a count width : Nat) (s : Session) (d : Device) : Res :=
  let len := if width = 1 then 8 else 4
  if width > 1 ∨ count = 0 ∨ count > 4000 / len then answerWith stRange d
  else
    let q := (accesses a count len).foldl (fun (acc : (Nat × Nat × List Byte) × Device) x =>
      if acc.1.2.1 ≠ 0 then acc
      else
        let r := busRead (byClass acc.2 (accessClass s x len acc.2)) x len acc.2
        if r.1.status = 0 then ((acc.1.1 + 1, 0, acc.1.2.2 ++ r.1.data), r.2) else ((acc.1.1, r.1.status, acc.1.2.2), r.2)) ((0, 0, []), d)
    ok (leBytes q.1.1 2 ++ leBytes q.1.2.1 1 ++ [0] ++ q.1.2.2) q.2

/-- Data of access i. -/
def accessData (len : Nat) (data : List Byte) (i : Nat) : List Byte := (data.drop (len * i)).take len

/-- The first refusal of R547 among the writes of a request. -/
def writeRules (s : Session) (as : List Nat) (len : Nat) (data : List Byte) (d : Device) : Option Res :=
  ((List.range as.length).zip as).findSome? (fun p =>
    (regHalves p.2 len).findSome? (fun x => writeRule s x (leWord ((accessData len data p.1).drop (x - p.2))) d))

/-- A write that its target holds keeps the whole request waiting. -/
def regWriteAct (a count width : Nat) (data : List Byte) (s : Session) (d : Device) : Res :=
  let len := if width = 1 then 8 else 4
  let as := accesses a count len
  match writeRules s as len data d with
  | some r => r
  | none =>
    if width > 1 ∨ count = 0 ∨ count > 4000 / len then answerWith stRange d
    else
      let q := ((List.range count).zip as).foldl (fun (acc : (Nat × Nat) × Device) p =>
        if acc.1.2 ≠ 0 then acc
        else
          let r := busWrite (byClass acc.2 (accessClass s p.2 len acc.2)) 2 p.2 (accessData len data p.1) acc.2
          if r.1 = 0 then ((acc.1.1 + 1, 0), r.2) else ((acc.1.1, r.1), r.2)) ((0, 0), d)
      if q.1.2 = notTaken then ((waits, []), d) else ok (leBytes q.1.1 2 ++ leBytes q.1.2 1) q.2

/-- REG_RMW: one read, one write. The old value of a read that fails is free (log entry 1). -/
def regRmwAct (a : Nat) (mask value : Word) (s : Session) (d : Device) : Res :=
  let r := busRead (byClass d (accessClass s a 4 d)) a 4 d
  let old := leWord r.1.data
  let new := (old &&& ~~~mask) ||| (value &&& mask)
  match writeRule s a new d with
  | some e => e
  | none =>
    if r.1.status ≠ 0 then let q := r.2.takeFree; ok (leBytes q.1 4 ++ leBytes r.1.status 1) q.2
    else
      let w := busWrite (byClass r.2 (accessClass s a 4 r.2)) 2 a (leBytes new.toNat 4) r.2
      if w.1 = notTaken then ((waits, []), d) else ok (leBytes old.toNat 4 ++ leBytes w.1 1) w.2

/-! ### Shuttle queues (R544) -/

/-- The engine that the current copy of a context names, 0 where it cannot be read. -/
def queueEngine (d : Device) (q : Nat) : Nat :=
  match ctxHit d .w q, ctxHit d .e q with
  | some s, _ => cEngine s.ctx
  | none, some s => cEngine s.ctx
  | none, none => cEngine (BitVec.ofNat 512 (leNat (dramRead 8 (ctxAddr d q) 64 d).1.data))

/-- The engine's window does not answer: TARGET_OFF as the detail. -/
def engineOff (d : Device) : Res := hwFault 2 d

def queueSetAct (q : Nat) (ctx : List Byte) (s : Session) (d : Device) : Res :=
  match needClaim d 3 0 q s.id with
  | some r => r
  | none =>
    let c : Ctx := BitVec.ofNat 512 (leNat (ctx.take 56))
    let n := cEngine c
    if q ≥ 2 ^ 20 then answerWith stRange d
    else if !shtRuns d n then engineOff d
    else
      let c := setCfld c 0x38 0 16 (epochOf d (engHalf n))
      let d := (d.setFld (shtA n 0x300) 0 20 q).each (upto 16) (fun d i =>
        d.setReg (shtA n (0x310 + 4 * i)) (BitVec.ofNat 32 (bitsAt c.toNat (32 * i) 32)))
      let r := ctxWrite n q c d
      if r.1 then answerWith stRange r.2 else ok (word4 r.2 (shtA n 4)) r.2

def queueGetAct (q : Nat) (d : Device) : Res :=
  if q ≥ 2 ^ 20 then answerWith stRange d
  else
    let n := queueEngine d q
    if !shtRuns d n then engineOff d
    else let r := ctxRead n q (d.setFld (shtA n 0x300) 0 20 q); ok (ctxBytes r.1) r.2

def queueCtlAct (q cmd : Nat) (s : Session) (d : Device) : Res :=
  match needClaim d 3 0 q s.id with
  | some r => r
  | none =>
    if q ≥ 2 ^ 20 ∨ (cmd ≠ 3 ∧ cmd ≠ 4) then answerWith stRange d
    else
      let n := queueEngine d q
      if !shtRuns d n then engineOff d
      else
        let r := ctxState n q cmd (d.setFld (shtA n 0x300) 0 20 q)
        if r.1 then answerWith stRange r.2
        else let g := ctxGet n q r.2; ok (leBytes (cfld g.1 0x20 0 64) 8) g.2

/-! ### Selvedge (R545) -/

def slvStatusAct (s : Nat) (d : Device) : Res := if s > 7 then answerWith stRange d else ok (words d [slvA s 4, slvA s 8]) d
def slvRetrainAct (s : Nat) (d : Device) : Res := if s > 7 then answerWith stRange d else ok [] (slvRetrainCmd s d)
def slvRouteAct (dev link : Nat) (d : Device) : Res :=
  if dev > 7 ∨ link > 7 then answerWith stRange d else ok [] (d.setFld (thmA 0x2600) (4 * dev) 4 (8 + link))

/-- SLV_FORWARD: the reply of the remote Thimble, if it is reached and answers in time. -/
def slvForwardAct (dev : Nat) (answer : Option (List Byte)) (d : Device) : Res :=
  if dev > 7 then answerWith stRange d
  else match (if (routeLink d dev).any (fun s => slvState d s == 3) then answer else none) with
    | some bs => ok (bs.take 4076) d
    | none => hwFault 5 d

end Sys2Proof.Machine
end

