-- ==== Sys2Proof/Machine/Requests.lean ====
section
/-!
DEFINITION. Machine/Requests.lean: Thimble takes raw packets in order of arrival (21_command_protocol R522, R527), and one meaning for
each opcode's own command, whose packet checks have passed.
-/
namespace Sys2Proof.Machine

def ctxOf (c : Carrier) (bs : List Byte) : ReqCtx :=
  { carrier := c, id := bs.getD 7 0, seq := BitVec.ofNat 16 (u16 bs 4), major := bs.getD 0 0, minor := bs.getD 1 0 }

/-- A pair of version bytes. -/
def verAt (p : List Byte) (i : Nat) : Nat × Nat := (u8 p i, u8 p (i + 1))

/-- `n` words from offset i. -/
def wordsAt (p : List Byte) (i n : Nat) : List Word := (List.range n).map (fun k => BitVec.ofNat 32 (u32 p (i + 4 * k)))

/-- Runs `f` with a free choice: whether a signature verifies is not computed (log entry 1). -/
def withFree (f : Bool → Device → Res) (d : Device) : Res := let q := d.takeFreeBool; f q.1 q.2

/-- TRAIN from a packet: the centres that a drift pause measures are free (log entry 1). -/
def trainFree (n action : Nat) (d : Device) : Res :=
  let p := freeWords 20 d
  let q := freeWords 20 p.2
  trainAct n action p.1 q.1 q.2

/-- The operation of an opcode on parameters as they came. -/
def opAct (rq : ReqCtx) (op : Nat) (p : List Byte) (s : Session) (d : Device) : Res :=
  match op with
  | 0x0001 => helloAct rq (verAt p 0) (verAt p 2) (u8 p 4) d
  | 0x0002 => byeAct s d
  | 0x0003 => withFree (fun ok d => authAct (u8 p 0) ok (p.drop 100) s d) d
  | 0x0004 => stateAct d
  | 0x0101 => loadAct rq (u8 p 0) (u8 p 1) (u8 p 2) d
  | 0x0102 => loadDataAct (u32 p 0) (p.drop 4) d
  | 0x0103 => loadAbortAct d
  | 0x0104 => loadStatusAct d
  | 0x0105 => gsrPulseAct (BitVec.ofNat 32 (u32 p 0)) d
  | 0x0201 => dormantAct d
  | 0x0202 => wakeAct d
  | 0x0203 => resetAct (u8 p 0) d
  | 0x0204 => domainSetAct (u8 p 0) (u8 p 1) d
  | 0x0205 => releaseAct d
  | 0x0301 => lrkSetTimeAct (u8 p 0) (u16 p 2) (u32 p 4) (u32 p 8 + 2 ^ 32 * u16 p 12) d
  | 0x0302 => lrkCmdAct (u8 p 0) (u8 p 1) d
  | 0x0303 => calWriteAct (u8 p 0) (u16 p 2) ((elements 16 (u8 p 1) (p.drop 4)).map (fun e => BitVec.ofNat 128 e)) s d
  | 0x0304 => calReadAct (u8 p 0) (u8 p 1) (u16 p 2) d
  | 0x0305 => chSetAct (u8 p 0) (u8 p 1) (BitVec.ofNat 32 (u32 p 4)) (BitVec.ofNat 32 (u32 p 8)) s d
  | 0x0401 => scrubAct rq (u8 p 0) (u32 p 4) (u32 p 8) d
  | 0x0402 => trainFree (u8 p 0) (u8 p 1) d
  | 0x0403 => markAct (u8 p 0) (u8 p 1) (u8 p 2) (u8 p 3) d
  | 0x0404 => linRangeAct (u8 p 0) (u64 p 4) (u64 p 12) (u32 p 20) d
  | 0x0405 => linCmdAct rq (u8 p 0) (u8 p 1) (u8 p 2) d
  | 0x0501 => mendAct rq (u8 p 0) (u8 p 1) (u16 p 2) d
  | 0x0502 => walkAct (BitVec.ofNat 32 (u32 p 0)) (u8 p 4) (u8 p 5) (u16 p 6) d
  | 0x0503 => mendStatusAct (u8 p 0) d
  | 0x0504 => seamRetrainAct (u8 p 0) d
  | 0x0505 => seamMapResetAct d
  | 0x0601 => bobCmdAct (u8 p 0) d
  | 0x0602 => bobStatusAct d
  | 0x0701 => logReadAct (u16 p 0) (u8 p 2) d
  | 0x0702 => sensorsAct d
  | 0x0703 => faultIeAct (wordsAt p 0 8) d
  | 0x0801 => updateBeginAct s (u16 p 0) (u32 p 4) d
  | 0x0802 => updateDataAct (u32 p 0) (p.drop 4) d
  | 0x0803 => withFree (fun ok d => updateEndAct rq ok d) d
  | 0x0804 => updateConfirmAct d
  | 0x0805 => rsStatusAct d
  | 0x0806 => pointerSetAct (u8 p 0) (u8 p 1) (u8 p 2) (u8 p 3) (u32 p 4) d
  | 0x0807 => keyEnrollAct (u8 p 0) (BitVec.ofNat 384 (leNat (p.drop 4))) d
  | 0x0808 => keyRevokeAct (u8 p 0) d
  | 0x0809 => patternKeyAct (u8 p 0) (BitVec.ofNat 256 (leNat (p.drop 4))) d
  | 0x0901 => claimAct (u8 p 0) (u8 p 1) (u32 p 4) (u32 p 8) s d
  | 0x0902 => unclaimAct (u8 p 0) (u8 p 1) (u32 p 4) (u32 p 8) s d
  | 0x0903 => overrideAct (u8 p 0) (u8 p 1) (u32 p 4) (u32 p 8) (u8 p 12) s d
  | 0x0904 => claimQueryAct (u8 p 0) (u8 p 1) (u32 p 4) d
  | 0x0A01 => regReadAct (u64 p 0 % 2 ^ 48) (u16 p 8) (u8 p 10) s d
  | 0x0A02 => regWriteAct (u64 p 0 % 2 ^ 48) (u16 p 8) (u8 p 10) (p.drop 11) s d
  | 0x0A03 => regRmwAct (u64 p 0 % 2 ^ 48) (BitVec.ofNat 32 (u32 p 8)) (BitVec.ofNat 32 (u32 p 12)) s d
  | 0x0A04 => queueSetAct (u32 p 0) (p.drop 4) s d
  | 0x0A05 => queueGetAct (u32 p 0) d
  | 0x0A06 => queueCtlAct (u32 p 0) (u8 p 4) s d
  | 0x0B01 => slvStatusAct (u8 p 0) d
  | 0x0B02 => slvRetrainAct (u8 p 0) d
  | 0x0B03 => slvRouteAct (u8 p 0) (u8 p 1) d
  | _ =>
    -- 0x0B04 to another device: what its Thimble answers, and whether in time, is free
    let q := d.takeFreeBool
    let n := q.2.takeFree
    let b := freeBytes (n.1 % 4077) n.2
    slvForwardAct (u8 p 0) (if q.1 then some b.1 else none) b.2

/-- What an opcode does once its reply has gone. -/
def opAfter (op : Nat) (p : List Byte) (d : Device) : Device :=
  match op with
  | 0x0203 => resetAfter (u8 p 0) d
  | 0x0803 => let q := d.takeFreeBool; updateEndAfter q.1 q.2
  | _ => d

/-- A packet that Thimble takes: status, reply, and the device after it. A packet for this device's own Thimble inside SLV_FORWARD runs
with the session's carrier, at most `fuel` deep. -/
def packetReply : Nat → Carrier → List Byte → Device → (Nat × List Byte) × Device
  | fuel, c, bs, d =>
    let rq := ctxOf c bs
    let op := u16 bs 2
    let n := u32 bs 8
    let plain (st : Nat) (ps : List Byte) : (Nat × List Byte) × Device := ((st, plainReply rq op st ps), d)
    if bs.length < 20 ∨ u16 bs 12 ≠ (crc16 (bs.take 12)).toNat then plain stBadCheck []
    else if u8 bs 6 ≠ 0 ∨ u16 bs 14 ≠ 0 then plain stBadHeader []
    else if versionBad d rq op then plain stVersion [2, 3]
    else if n > bs.length - 20 ∨ 20 + n > 4096 then plain stBadLength []
    else
      let crc := u32 bs (16 + n)
      let p := (bs.drop 16).take n
      if crc ≠ (crc32 (bs.take (16 + n))).toNat then plain stBadCheck []
      else match fuel with
        | 0 => serve rq op p crc (opAct rq op p) d
        | k + 1 =>
          if op = 0x0B04 ∧ u8 p 0 = devId d then
            serve rq op p crc (fun _ d =>
              let q := packetReply k c (p.drop 4) d
              if q.1.1 = waits then ((waits, []), d) else ok (q.1.2.take 4076) (if q.1.1 = stOk ∨ q.1.1 = stAccepted then
                opAfter (u16 p 6) ((p.drop 20).take (u32 p 12)) q.2 else q.2)) d
          else serve rq op p crc (opAct rq op p) d

/-- A ring carrier is read from its slots; a host port needs its link. -/
def carrierReady (d : Device) (c : Carrier) : Bool :=
  match c with
  | .hostW => hostRuns d .w && hostUp d .w
  | .hostE => hostRuns d .e && hostUp d .e
  | _ => true

/-- The packet's bytes: of a ring, the 4 KiB slot at req_cons, which is then free. -/
def fetchPacket (c : Carrier) (held : List Byte) (d : Device) : List Byte × Device :=
  if !ringed c then (held, d)
  else
    let idx := ringIdx d c 0x28
    let at_ := ringSlotAt d c 0x10 idx
    let next (d : Device) : Device := d.setReg (ringA c 0x28) (BitVec.ofNat 32 ((idx + 1) % 65536))
    match c with
    | .network => let q := busRead (byClass d 3) at_ 4096 d; (if q.1.status = 0 then q.1.data else [], next q.2)
    | _ => (memReads d.host.mem at_ 4096, next d)

/-- REQUEST_TAKE: the next packet in order of arrival (R527). -/
def requestTake (d : Device) : Device :=
  if !thimbleServes d then d
  else match d.cmd.arrived.find? (fun x => carrierReady d x.1) with
    | none => d
    | some (c, held) =>
      let f := fetchPacket c held { d with cmd := { d.cmd with arrived := dropFirst (fun x => carrierReady d x.1) d.cmd.arrived } }
      let bs := f.1
      let q := packetReply 8 c bs (bobPacket c bs f.2)
      if q.1.1 = waits then d
      else
        let d := sendReply c q.1.2 q.2
        if q.1.1 = stOk ∨ q.1.1 = stAccepted then opAfter (u16 bs 2) ((bs.drop 16).take (u32 bs 8)) d else d
def execRequestTake (s : State) : Host.Outcome State Fault Refusal := s.liftMode requestTake

/-! ### One command for each opcode -/

def verBytes (v : Nat × Nat) : List Byte := leBytes v.1 1 ++ leBytes v.2 1
def noAfter (d : Device) : Device := d

/-- A request whose operation needs no session and has no effect after its reply. -/
def plainRequest (rq : ReqCtx) (op : Nat) (p : List Byte) (act : Device → Res) (s : State) : Host.Outcome State Fault Refusal :=
  s.liftMode (serveRequest rq op p (fun _ d => act d) noAfter)

def sessionRequest (rq : ReqCtx) (op : Nat) (p : List Byte) (act : Session → Device → Res) (s : State) : Host.Outcome State Fault Refusal :=
  s.liftMode (serveRequest rq op p act noAfter)

def execHello (rq : ReqCtx) (lo hi : Nat × Nat) (id : Byte) (s : State) : Host.Outcome State Fault Refusal :=
  plainRequest rq 0x0001 (verBytes lo ++ verBytes hi ++ [id] ++ leBytes 0 3) (helloAct rq lo hi id.toNat) s
def execBye (rq : ReqCtx) (s : State) : Host.Outcome State Fault Refusal := sessionRequest rq 0x0002 [] byeAct s
/-- AUTH: the signature's bytes are not carried by the command, only whether it verifies; they count as zeros in the request's CRC. -/
def execAuth (rq : ReqCtx) (slot : Byte) (sigOk : Bool) (key : List Byte) (s : State) : Host.Outcome State Fault Refusal :=
  sessionRequest rq 0x0003 ([slot] ++ leBytes 0 3 ++ leBytes 0 96 ++ key) (authAct slot.toNat sigOk key) s
def execState (rq : ReqCtx) (s : State) : Host.Outcome State Fault Refusal := plainRequest rq 0x0004 [] stateAct s

def execLoad (rq : ReqCtx) (source ports t : Byte) (startPage : BitVec 32) (hostAddr : BitVec 64) (s : State) :
    Host.Outcome State Fault Refusal :=
  plainRequest rq 0x0101 ([source, ports, t, 0] ++ leBytes startPage.toNat 4 ++ leBytes hostAddr.toNat 8)
    (loadAct rq source.toNat ports.toNat t.toNat) s
def execLoadData (rq : ReqCtx) (off : BitVec 32) (data : List Byte) (s : State) : Host.Outcome State Fault Refusal :=
  plainRequest rq 0x0102 (leBytes off.toNat 4 ++ data) (loadDataAct off.toNat data) s
def execLoadAbort (rq : ReqCtx) (s : State) : Host.Outcome State Fault Refusal := plainRequest rq 0x0103 [] loadAbortAct s
def execLoadStatus (rq : ReqCtx) (s : State) : Host.Outcome State Fault Refusal := plainRequest rq 0x0104 [] loadStatusAct s
def execGsrPulse (rq : ReqCtx) (fields : BitVec 32) (s : State) : Host.Outcome State Fault Refusal :=
  plainRequest rq 0x0105 (leBytes fields.toNat 4) (gsrPulseAct fields) s

def execDormant (rq : ReqCtx) (s : State) : Host.Outcome State Fault Refusal := plainRequest rq 0x0201 [] dormantAct s
def execWake (rq : ReqCtx) (s : State) : Host.Outcome State Fault Refusal := plainRequest rq 0x0202 [] wakeAct s
def execReset (rq : ReqCtx) (kind : Byte) (s : State) : Host.Outcome State Fault Refusal :=
  s.liftMode (serveRequest rq 0x0203 [kind] (fun _ d => resetAct kind.toNat d) (resetAfter kind.toNat))
def execDomainSet (rq : ReqCtx) (dom st : Byte) (s : State) : Host.Outcome State Fault Refusal :=
  plainRequest rq 0x0204 [dom, st] (domainSetAct dom.toNat st.toNat) s
def execRelease (rq : ReqCtx) (s : State) : Host.Outcome State Fault Refusal := plainRequest rq 0x0205 [] releaseAct s

def execLrkSetTime (rq : ReqCtx) (h : Byte) (frac : BitVec 16) (ns : BitVec 32) (sec : BitVec 48) (s : State) :
    Host.Outcome State Fault Refusal :=
  plainRequest rq 0x0301 ([h, 0] ++ leBytes frac.toNat 2 ++ leBytes ns.toNat 4 ++ leBytes sec.toNat 6)
    (lrkSetTimeAct h.toNat frac.toNat ns.toNat sec.toNat) s
def execLrkCmd (rq : ReqCtx) (h cmd : Byte) (s : State) : Host.Outcome State Fault Refusal :=
  plainRequest rq 0x0302 [h, cmd] (lrkCmdAct h.toNat cmd.toNat) s
def execCalWrite (rq : ReqCtx) (h : Byte) (first : BitVec 16) (entries : List (BitVec 128)) (s : State) : Host.Outcome State Fault Refusal :=
  sessionRequest rq 0x0303 ([h] ++ leBytes entries.length 1 ++ leBytes first.toNat 2 ++ entries.flatMap (fun e => leBytes e.toNat 16))
    (calWriteAct h.toNat first.toNat entries) s
def execCalRead (rq : ReqCtx) (h count : Byte) (first : BitVec 16) (s : State) : Host.Outcome State Fault Refusal :=
  plainRequest rq 0x0304 ([h, count] ++ leBytes first.toNat 2) (calReadAct h.toNat count.toNat first.toNat) s
def execChSet (rq : ReqCtx) (h channel : Byte) (range ctrl : BitVec 32) (s : State) : Host.Outcome State Fault Refusal :=
  sessionRequest rq 0x0305 ([h, channel, 0, 0] ++ leBytes range.toNat 4 ++ leBytes ctrl.toNat 4)
    (chSetAct h.toNat channel.toNat range ctrl) s

def execScrub (rq : ReqCtx) (channel : Byte) (base limit : BitVec 32) (s : State) : Host.Outcome State Fault Refusal :=
  plainRequest rq 0x0401 ([channel, 0, 0, 0] ++ leBytes base.toNat 4 ++ leBytes limit.toNat 4)
    (scrubAct rq channel.toNat base.toNat limit.toNat) s
def execTrain (rq : ReqCtx) (channel action : Byte) (centres0 centres1 : List (BitVec 32)) (s : State) : Host.Outcome State Fault Refusal :=
  plainRequest rq 0x0402 [channel, action] (trainAct channel.toNat action.toNat centres0 centres1) s
def execMark (rq : ReqCtx) (channel rank device cmd : Byte) (s : State) : Host.Outcome State Fault Refusal :=
  plainRequest rq 0x0403 [channel, rank, device, cmd] (markAct channel.toNat rank.toNat device.toNat cmd.toNat) s
def execLinRange (rq : ReqCtx) (range : Byte) (base limit : BitVec 64) (rights : BitVec 32) (s : State) : Host.Outcome State Fault Refusal :=
  plainRequest rq 0x0404 ([range, 0, 0, 0] ++ leBytes base.toNat 8 ++ leBytes limit.toNat 8 ++ leBytes rights.toNat 4)
    (linRangeAct range.toNat base.toNat limit.toNat rights.toNat) s
def execLinCmd (rq : ReqCtx) (range cmd mode : Byte) (s : State) : Host.Outcome State Fault Refusal :=
  plainRequest rq 0x0405 [range, cmd, mode] (linCmdAct rq range.toNat cmd.toNat mode.toNat) s

def execMend (rq : ReqCtx) (field kind : Byte) (target : BitVec 16) (s : State) : Host.Outcome State Fault Refusal :=
  plainRequest rq 0x0501 ([field, kind] ++ leBytes target.toNat 2) (mendAct rq field.toNat kind.toNat target.toNat) s
def execWalk (rq : ReqCtx) (fields : BitVec 32) (walkEn autoMend : Byte) (period : BitVec 16) (s : State) : Host.Outcome State Fault Refusal :=
  plainRequest rq 0x0502 (leBytes fields.toNat 4 ++ [walkEn, autoMend] ++ leBytes period.toNat 2)
    (walkAct fields walkEn.toNat autoMend.toNat period.toNat) s
def execMendStatus (rq : ReqCtx) (field : Byte) (s : State) : Host.Outcome State Fault Refusal :=
  plainRequest rq 0x0503 [field] (mendStatusAct field.toNat) s
def execSeamRetrain (rq : ReqCtx) (segment : Byte) (s : State) : Host.Outcome State Fault Refusal :=
  plainRequest rq 0x0504 [segment] (seamRetrainAct segment.toNat) s
def execSeamMapReset (rq : ReqCtx) (s : State) : Host.Outcome State Fault Refusal := plainRequest rq 0x0505 [] seamMapResetAct s

def execBobCmd (rq : ReqCtx) (cmd : Byte) (s : State) : Host.Outcome State Fault Refusal := plainRequest rq 0x0601 [cmd] (bobCmdAct cmd.toNat) s
def execBobStatus (rq : ReqCtx) (s : State) : Host.Outcome State Fault Refusal := plainRequest rq 0x0602 [] bobStatusAct s

def execLogRead (rq : ReqCtx) (first : BitVec 16) (count : Byte) (s : State) : Host.Outcome State Fault Refusal :=
  plainRequest rq 0x0701 (leBytes first.toNat 2 ++ [count]) (logReadAct first.toNat count.toNat) s
def execSensors (rq : ReqCtx) (s : State) : Host.Outcome State Fault Refusal := plainRequest rq 0x0702 [] sensorsAct s
def execFaultIe (rq : ReqCtx) (words : List (BitVec 32)) (s : State) : Host.Outcome State Fault Refusal :=
  plainRequest rq 0x0703 (words.flatMap (fun w => leBytes w.toNat 4)) (faultIeAct words) s

def execUpdateBegin (rq : ReqCtx) (rtype : BitVec 16) (total : BitVec 32) (s : State) : Host.Outcome State Fault Refusal :=
  sessionRequest rq 0x0801 (leBytes rtype.toNat 2 ++ [0, 0] ++ leBytes total.toNat 4) (fun x => updateBeginAct x rtype.toNat total.toNat) s
def execUpdateData (rq : ReqCtx) (off : BitVec 32) (data : List Byte) (s : State) : Host.Outcome State Fault Refusal :=
  plainRequest rq 0x0802 (leBytes off.toNat 4 ++ data) (updateDataAct off.toNat data) s
def execUpdateEnd (rq : ReqCtx) (sigOk : Bool) (writeOk : Bool) (s : State) : Host.Outcome State Fault Refusal :=
  s.liftMode (serveRequest rq 0x0803 [] (fun _ d => updateEndAct rq sigOk d) (updateEndAfter writeOk))
def execUpdateConfirm (rq : ReqCtx) (s : State) : Host.Outcome State Fault Refusal := plainRequest rq 0x0804 [] updateConfirmAct s
def execRsStatus (rq : ReqCtx) (s : State) : Host.Outcome State Fault Refusal := plainRequest rq 0x0805 [] rsStatusAct s
def execPointerSet (rq : ReqCtx) (which ports t autoload : Byte) (startPage : BitVec 32) (s : State) : Host.Outcome State Fault Refusal :=
  plainRequest rq 0x0806 ([which, ports, t, autoload] ++ leBytes startPage.toNat 4)
    (pointerSetAct which.toNat ports.toNat t.toNat autoload.toNat startPage.toNat) s
def execKeyEnroll (rq : ReqCtx) (slot : Byte) (digest : BitVec 384) (s : State) : Host.Outcome State Fault Refusal :=
  plainRequest rq 0x0807 ([slot] ++ leBytes 0 3 ++ leBytes digest.toNat 48) (keyEnrollAct slot.toNat digest) s
def execKeyRevoke (rq : ReqCtx) (slot : Byte) (s : State) : Host.Outcome State Fault Refusal :=
  plainRequest rq 0x0808 [slot] (keyRevokeAct slot.toNat) s
def execPatternKey (rq : ReqCtx) (slot : Byte) (key : BitVec 256) (s : State) : Host.Outcome State Fault Refusal :=
  plainRequest rq 0x0809 ([slot] ++ leBytes 0 3 ++ leBytes key.toNat 32) (patternKeyAct slot.toNat key) s

def claimBytes (kind wher : Byte) (first count : BitVec 32) : List Byte :=
  [kind, wher, 0, 0] ++ leBytes first.toNat 4 ++ leBytes count.toNat 4
def execClaim (rq : ReqCtx) (kind wher : Byte) (first count : BitVec 32) (s : State) : Host.Outcome State Fault Refusal :=
  sessionRequest rq 0x0901 (claimBytes kind wher first count) (claimAct kind.toNat wher.toNat first.toNat count.toNat) s
def execUnclaim (rq : ReqCtx) (kind wher : Byte) (first count : BitVec 32) (s : State) : Host.Outcome State Fault Refusal :=
  sessionRequest rq 0x0902 (claimBytes kind wher first count) (unclaimAct kind.toNat wher.toNat first.toNat count.toNat) s
def execOverride (rq : ReqCtx) (kind wher : Byte) (first count : BitVec 32) (holder : Byte) (s : State) : Host.Outcome State Fault Refusal :=
  sessionRequest rq 0x0903 (claimBytes kind wher first count ++ [holder])
    (overrideAct kind.toNat wher.toNat first.toNat count.toNat holder.toNat) s
def execClaimQuery (rq : ReqCtx) (kind wher : Byte) (item : BitVec 32) (s : State) : Host.Outcome State Fault Refusal :=
  plainRequest rq 0x0904 ([kind, wher, 0, 0] ++ leBytes item.toNat 4) (claimQueryAct kind.toNat wher.toNat item.toNat) s

def execRegRead (rq : ReqCtx) (addr : BitVec 48) (count : BitVec 16) (wide : Bool) (s : State) : Host.Outcome State Fault Refusal :=
  sessionRequest rq 0x0A01 (leBytes addr.toNat 8 ++ leBytes count.toNat 2 ++ leBytes (b2n wide) 1)
    (regReadAct addr.toNat count.toNat (b2n wide)) s
def execRegWrite (rq : ReqCtx) (addr : BitVec 48) (count : BitVec 16) (wide : Bool) (data : List Byte) (s : State) :
    Host.Outcome State Fault Refusal :=
  sessionRequest rq 0x0A02 (leBytes addr.toNat 8 ++ leBytes count.toNat 2 ++ leBytes (b2n wide) 1 ++ data)
    (regWriteAct addr.toNat count.toNat (b2n wide) data) s
def execRegRmw (rq : ReqCtx) (addr : BitVec 48) (mask value : BitVec 32) (s : State) : Host.Outcome State Fault Refusal :=
  sessionRequest rq 0x0A03 (leBytes addr.toNat 8 ++ leBytes mask.toNat 4 ++ leBytes value.toNat 4) (regRmwAct addr.toNat mask value) s
def execQueueSet (rq : ReqCtx) (q : BitVec 32) (ctx : List Byte) (s : State) : Host.Outcome State Fault Refusal :=
  sessionRequest rq 0x0A04 (leBytes q.toNat 4 ++ ctx) (queueSetAct q.toNat ctx) s
def execQueueGet (rq : ReqCtx) (q : BitVec 32) (s : State) : Host.Outcome State Fault Refusal :=
  plainRequest rq 0x0A05 (leBytes q.toNat 4) (queueGetAct q.toNat) s
def execQueueCtl (rq : ReqCtx) (q : BitVec 32) (cmd : Byte) (s : State) : Host.Outcome State Fault Refusal :=
  sessionRequest rq 0x0A06 (leBytes q.toNat 4 ++ [cmd] ++ leBytes 0 3) (queueCtlAct q.toNat cmd.toNat) s

def execSlvStatus (rq : ReqCtx) (link : Byte) (s : State) : Host.Outcome State Fault Refusal :=
  plainRequest rq 0x0B01 [link] (slvStatusAct link.toNat) s
def execSlvRetrain (rq : ReqCtx) (link : Byte) (s : State) : Host.Outcome State Fault Refusal :=
  plainRequest rq 0x0B02 [link] (slvRetrainAct link.toNat) s
def execSlvRoute (rq : ReqCtx) (dev link : Byte) (s : State) : Host.Outcome State Fault Refusal :=
  plainRequest rq 0x0B03 [dev, link] (slvRouteAct dev.toNat link.toNat) s

/-- SLV_FORWARD: for this device's own id the inner packet runs here (23_ R586). -/
def slvForwardOwn (rq : ReqCtx) (dev : Nat) (inner : List Byte) (answer : Option (List Byte)) (d : Device) : Res :=
  if dev = devId d then
    let q := packetReply 8 rq.carrier inner d
    if q.1.1 = waits then ((waits, []), d)
    else ok (q.1.2.take 4076) (if q.1.1 = stOk ∨ q.1.1 = stAccepted then
      opAfter (u16 inner 2) ((inner.drop 16).take (u32 inner 8)) q.2 else q.2)
  else slvForwardAct dev answer d
def execSlvForward (rq : ReqCtx) (dev : Byte) (inner : List Byte) (answer : Option (List Byte)) (s : State) :
    Host.Outcome State Fault Refusal :=
  plainRequest rq 0x0B04 ([dev, 0, 0, 0] ++ inner) (slvForwardOwn rq dev.toNat inner answer) s

end Sys2Proof.Machine
end

