-- ==== Sys2Proof/Machine/Dispatch.lean ====
section
/-!
DEFINITION. Machine/Dispatch.lean: one arm per command; each calls its meaning.
-/
namespace Sys2Proof.Machine

open Sys2Proof

def exec (i : Instr) (s : State) : Host.Outcome State Fault Refusal :=
  match i with
  | .registerWrite mc addr data => Sys2Proof.Machine.execRegisterWrite mc addr data s
  | .powerOn straps pwrupPd gradeI => Sys2Proof.Machine.execPowerOn straps pwrupPd gradeI s
  | .devResetN lowNs => Sys2Proof.Machine.execDevResetN lowNs s
  | .pwrOkIn => Sys2Proof.Machine.execPwrOkIn s
  | .deviceReset mc => Sys2Proof.Machine.execDeviceReset mc s
  | .halfResetW mc => Sys2Proof.Machine.execHalfResetW mc s
  | .halfResetE mc => Sys2Proof.Machine.execHalfResetE mc s
  | .resetRelease => Sys2Proof.Machine.execResetRelease s
  | .thimbleBoot => Sys2Proof.Machine.execThimbleBoot s
  | .jtagTrst => Sys2Proof.Machine.execJtagTrst s
  | .thimbleWatchdog h => Sys2Proof.Machine.execThimbleWatchdog h s
  | .autoload => Sys2Proof.Machine.execAutoload s
  | .halfRecovery h => Sys2Proof.Machine.execHalfRecovery h s
  | .fabricCycle f r => Sys2Proof.Machine.execFabricCycle f r s
  | .gsrPulseWrite f => Sys2Proof.Machine.execGsrPulseWrite f s
  | .gsrPulseEnd f => Sys2Proof.Machine.execGsrPulseEnd f s
  | .hedgeTransfer c word => Sys2Proof.Machine.execHedgeTransfer c word s
  | .hedgePop c => Sys2Proof.Machine.execHedgePop c s
  | .hedgeCreditReturn c => Sys2Proof.Machine.execHedgeCreditReturn c s
  | .hedgedStall c => Sys2Proof.Machine.execHedgedStall c s
  | .gussetWrite g word => Sys2Proof.Machine.execGussetWrite g word s
  | .gussetRead g => Sys2Proof.Machine.execGussetRead g s
  | .gussetEntryVisible g => Sys2Proof.Machine.execGussetEntryVisible g s
  | .gussetEntryFreed g => Sys2Proof.Machine.execGussetEntryFreed g s
  | .tickLand f t => Sys2Proof.Machine.execTickLand f t s
  | .bramPortAccess m a b => Sys2Proof.Machine.execBramPortAccess m a b s
  | .bramScrubStep f => Sys2Proof.Machine.execBramScrubStep f s
  | .bramScrubWriteback m => Sys2Proof.Machine.execBramScrubWriteback m s
  | .bramScrubStarved m => Sys2Proof.Machine.execBramScrubStarved m s
  | .mul e gd slot1 ak x y => Sys2Proof.Machine.execMul e gd slot1 ak x y s
  | .mac e gd slot1 ak x y => Sys2Proof.Machine.execMac e gd slot1 ak x y s
  | .macc e gd slot1 ak x y => Sys2Proof.Machine.execMacc e gd slot1 ak x y s
  | .memoryLoad e gd pair p reg inc => Sys2Proof.Machine.execMemoryLoad e gd pair p reg inc s
  | .memoryStore e gd pair p reg inc => Sys2Proof.Machine.execMemoryStore e gd pair p reg inc s
  | .streamRead e gd s1 reg => Sys2Proof.Machine.execStreamRead e gd s1 reg s
  | .streamWrite e gd s1 reg last => Sys2Proof.Machine.execStreamWrite e gd s1 reg last s
  | .nop e => Sys2Proof.Machine.execNop e s
  | .cmac e gd ak x y mode => Sys2Proof.Machine.execCmac e gd ak x y mode s
  | .ext e gd dst aj am sum n trunc => Sys2Proof.Machine.execExt e gd dst aj am sum n trunc s
  | .ext1 e gd dst ai n trunc im => Sys2Proof.Machine.execExt1 e gd dst ai n trunc im s
  | .amov e gd ak x n => Sys2Proof.Machine.execAmov e gd ak x n s
  | .aclr e gd mask => Sys2Proof.Machine.execAclr e gd mask s
  | .aadd e gd ak aj am => Sys2Proof.Machine.execAadd e gd ak aj am s
  | .asub e gd ak aj am => Sys2Proof.Machine.execAsub e gd ak aj am s
  | .casw e gd aj => Sys2Proof.Machine.execCasw e gd aj s
  | .casr e gd ak add => Sys2Proof.Machine.execCasr e gd ak add s
  | .dstep e gd ak x => Sys2Proof.Machine.execDstep e gd ak x s
  | .dfin e gd ak x => Sys2Proof.Machine.execDfin e gd ak x s
  | .cadd e gd dst x y => Sys2Proof.Machine.execCadd e gd dst x y s
  | .csub e gd dst x y => Sys2Proof.Machine.execCsub e gd dst x y s
  | .cconj e gd dst x => Sys2Proof.Machine.execCconj e gd dst x s
  | .cneg e gd dst x => Sys2Proof.Machine.execCneg e gd dst x s
  | .cmulj e gd dst x => Sys2Proof.Machine.execCmulj e gd dst x s
  | .cmov e gd dst x => Sys2Proof.Machine.execCmov e gd dst x s
  | .cshr e gd dst x n trunc => Sys2Proof.Machine.execCshr e gd dst x n trunc s
  | .cshl e gd dst x n => Sys2Proof.Machine.execCshl e gd dst x n s
  | .pcmp e gd q x y cond im => Sys2Proof.Machine.execPcmp e gd q x y cond im s
  | .plog e gd q a b op => Sys2Proof.Machine.execPlog e gd q a b op s
  | .plast e gd q s1 => Sys2Proof.Machine.execPlast e gd q s1 s
  | .pmod e gd p m => Sys2Proof.Machine.execPmod e gd p m s
  | .ldl e gd dst p pair m => Sys2Proof.Machine.execLdl e gd dst p pair m s
  | .stl e gd src p pair m => Sys2Proof.Machine.execStl e gd src p pair m s
  | .ldi e gd dst imm => Sys2Proof.Machine.execLdi e gd dst imm s
  | .halt e gd => Sys2Proof.Machine.execHalt e gd s
  | .br e gd target cond q => Sys2Proof.Machine.execBr e gd target cond q s
  | .loop e gd k1 rotate s1 last n => Sys2Proof.Machine.execLoop e gd k1 rotate s1 last n s
  | .loopr e gd k1 rotate s1 last x => Sys2Proof.Machine.execLoopr e gd k1 rotate s1 last x s
  | .setp e gd p which imm => Sys2Proof.Machine.execSetp e gd p which imm s
  | .flag e gd value mask => Sys2Proof.Machine.execFlag e gd value mask s
  | .clvStart e => Sys2Proof.Machine.execClvStart e s
  | .clvStop e => Sys2Proof.Machine.execClvStop e s
  | .clvResume e => Sys2Proof.Machine.execClvResume e s
  | .clvClear e => Sys2Proof.Machine.execClvClear e s
  | .fabricStart e => Sys2Proof.Machine.execFabricStart e s
  | .fabricStop e => Sys2Proof.Machine.execFabricStop e s
  | .heldRequestsApply e => Sys2Proof.Machine.execHeldRequestsApply e s
  | .notifyWrite e => Sys2Proof.Machine.execNotifyWrite e s
  | .clvNetworkAccess e write off len data => Sys2Proof.Machine.execClvNetworkAccess e write off len data s
  | .clvNetworkStarvation e write off len data => Sys2Proof.Machine.execClvNetworkStarvation e write off len data s
  | .programStoreWrite e n bundle => Sys2Proof.Machine.execProgramStoreWrite e n bundle s
  | .streamClkWrite e v => Sys2Proof.Machine.execStreamClkWrite e v s
  | .stateWindowAccess e write off len data => Sys2Proof.Machine.execStateWindowAccess e write off len data s
  | .columnClockChange f v => Sys2Proof.Machine.execColumnClockChange f v s
  | .columnOverspeed f k1 kHz => Sys2Proof.Machine.execColumnOverspeed f k1 kHz s
  | .clockStretch f k1 d => Sys2Proof.Machine.execClockStretch f k1 d s
  | .stretchMax f k1 => Sys2Proof.Machine.execStretchMax f k1 s
  | .readRequest hd => Sys2Proof.Machine.execReadRequest hd s
  | .writeRequest hd data poison => Sys2Proof.Machine.execWriteRequest hd data poison s
  | .readResponse hd data poison => Sys2Proof.Machine.execReadResponse hd data poison s
  | .writeResponse hd => Sys2Proof.Machine.execWriteResponse hd s
  | .knotForward k out err => Sys2Proof.Machine.execKnotForward k out err s
  | .agePromotion k pid => Sys2Proof.Machine.execAgePromotion k pid s
  | .requestTimeout src tag => Sys2Proof.Machine.execRequestTimeout src tag s
  | .stileRequest sel write addr lenM1 cls dev tag data => Sys2Proof.Machine.execStileRequest sel write addr lenM1 cls dev tag data s
  | .stileInbound sel hd data => Sys2Proof.Machine.execStileInbound sel hd data s
  | .stileInboundAnswer sel status data => Sys2Proof.Machine.execStileInboundAnswer sel status data s
  | .stileCtrlApply sel => Sys2Proof.Machine.execStileCtrlApply sel s
  | .halfLossDetect h => Sys2Proof.Machine.execHalfLossDetect h s
  | .halfDownSweep h => Sys2Proof.Machine.execHalfDownSweep h s
  | .timeFracRead h => Sys2Proof.Machine.execTimeFracRead h s
  | .setTime h => Sys2Proof.Machine.execSetTime h s
  | .setTimeApply h => Sys2Proof.Machine.execSetTimeApply h s
  | .takeLeadership h => Sys2Proof.Machine.execTakeLeadership h s
  | .leadershipSwap => Sys2Proof.Machine.execLeadershipSwap s
  | .clearLearning h => Sys2Proof.Machine.execClearLearning h s
  | .gridCfgWrite g v => Sys2Proof.Machine.execGridCfgWrite g v s
  | .gridConfigApply g => Sys2Proof.Machine.execGridConfigApply g s
  | .ppsEdge n rising => Sys2Proof.Machine.execPpsEdge n rising s
  | .gnssSentence u utcSec => Sys2Proof.Machine.execGnssSentence u utcSec s
  | .ptpSync n t1 t2 t3 last => Sys2Proof.Machine.execPtpSync n t1 t2 t3 last s
  | .phaseSample => Sys2Proof.Machine.execPhaseSample s
  | .refQualified n => Sys2Proof.Machine.execRefQualified n s
  | .refDisqualified n cause => Sys2Proof.Machine.execRefDisqualified n cause s
  | .refConfigWrite n v => Sys2Proof.Machine.execRefConfigWrite n v s
  | .revertiveSwitch n => Sys2Proof.Machine.execRevertiveSwitch n s
  | .learnBin h freq temp => Sys2Proof.Machine.execLearnBin h freq temp s
  | .modelFit h => Sys2Proof.Machine.execModelFit h s
  | .learnHour h => Sys2Proof.Machine.execLearnHour h s
  | .holdoverPredict h => Sys2Proof.Machine.execHoldoverPredict h s
  | .modelSave h => Sys2Proof.Machine.execModelSave h s
  | .tempRead h temp => Sys2Proof.Machine.execTempRead h temp s
  | .tempLost h => Sys2Proof.Machine.execTempLost h s
  | .timeExchange => Sys2Proof.Machine.execTimeExchange s
  | .threadTimeWord h block errPs => Sys2Proof.Machine.execThreadTimeWord h block errPs s
  | .captureEdge h j rising => Sys2Proof.Machine.execCaptureEdge h j rising s
  | .capturePop h => Sys2Proof.Machine.execCapturePop h s
  | .calendarWrite h mc => Sys2Proof.Machine.execCalendarWrite h mc s
  | .calendarRead h mc => Sys2Proof.Machine.execCalendarRead h mc s
  | .calendarClearValid h mc => Sys2Proof.Machine.execCalendarClearValid h mc s
  | .occurrenceDeliver h => Sys2Proof.Machine.execOccurrenceDeliver h s
  | .calTick h f t => Sys2Proof.Machine.execCalTick h f t s
  | .calCloverStart h e arg => Sys2Proof.Machine.execCalCloverStart h e arg s
  | .calCloverStop h e => Sys2Proof.Machine.execCalCloverStop h e s
  | .calCloverResume h e => Sys2Proof.Machine.execCalCloverResume h e s
  | .calShuttleKick h n q => Sys2Proof.Machine.execCalShuttleKick h n q s
  | .calPinDriveLow h pin => Sys2Proof.Machine.execCalPinDriveLow h pin s
  | .calPinDriveHigh h pin => Sys2Proof.Machine.execCalPinDriveHigh h pin s
  | .calPinToggle h pin => Sys2Proof.Machine.execCalPinToggle h pin s
  | .calPinPulse h pin arg => Sys2Proof.Machine.execCalPinPulse h pin arg s
  | .pinPulseEnd h pin => Sys2Proof.Machine.execPinPulseEnd h pin s
  | .calLaneExitIdle h lane => Sys2Proof.Machine.execCalLaneExitIdle h lane s
  | .calLaneEnterIdle h lane => Sys2Proof.Machine.execCalLaneEnterIdle h lane s
  | .calSysref h j ofs => Sys2Proof.Machine.execCalSysref h j ofs s
  | .calBobbinMarker h arg => Sys2Proof.Machine.execCalBobbinMarker h arg s
  | .calBobbinTrigger h => Sys2Proof.Machine.execCalBobbinTrigger h s
  | .calWake h => Sys2Proof.Machine.execCalWake h s
  | .channelStage h c mc v range => Sys2Proof.Machine.execChannelStage h c mc v range s
  | .channelCommit h c => Sys2Proof.Machine.execChannelCommit h c s
  | .handOverPoint h c => Sys2Proof.Machine.execHandOverPoint h c s
  | .pllEnable n v priHz fbHz => Sys2Proof.Machine.execPllEnable n v priHz fbHz s
  | .pllInputLoss p fallback => Sys2Proof.Machine.execPllInputLoss p fallback s
  | .pllSwitchComplete p => Sys2Proof.Machine.execPllSwitchComplete p s
  | .pllInputGood p fallback => Sys2Proof.Machine.execPllInputGood p fallback s
  | .forceFallback n v => Sys2Proof.Machine.execForceFallback n v s
  | .pllFracChange n fallback v => Sys2Proof.Machine.execPllFracChange n fallback v s
  | .pllDead n => Sys2Proof.Machine.execPllDead n s
  | .halfClockLoss h => Sys2Proof.Machine.execHalfClockLoss h s
  | .domainClockRelease d => Sys2Proof.Machine.execDomainClockRelease d s
  | .rclkSwitch f r v => Sys2Proof.Machine.execRclkSwitch f r v s
  | .rclkSwitchDone f r => Sys2Proof.Machine.execRclkSwitchDone f r s
  | .rclkDivChange f r v => Sys2Proof.Machine.execRclkDivChange f r v s
  | .seamLoss g intoE => Sys2Proof.Machine.execSeamLoss g intoE s
  | .halfLost h reported => Sys2Proof.Machine.execHalfLost h reported s
  | .seamTrain g failW failE => Sys2Proof.Machine.execSeamTrain g failW failE s
  | .seamParityThreshold g => Sys2Proof.Machine.execSeamParityThreshold g s
  | .seamFlitThreshold g => Sys2Proof.Machine.execSeamFlitThreshold g s
  | .seamSlip g => Sys2Proof.Machine.execSeamSlip g s
  | .seamContention g k => Sys2Proof.Machine.execSeamContention g k s
  | .qualifierReturn g intoE => Sys2Proof.Machine.execQualifierReturn g intoE s
  | .remapRelease g => Sys2Proof.Machine.execRemapRelease g s
  | .retrainSegment mc g => Sys2Proof.Machine.execRetrainSegment mc g s
  | .retrainAll mc => Sys2Proof.Machine.execRetrainAll mc s
  | .armRelease mc => Sys2Proof.Machine.execArmRelease mc s
  | .seamRelease => Sys2Proof.Machine.execSeamRelease s
  | .laneEnable l v => Sys2Proof.Machine.execLaneEnable l v s
  | .enterIdle l => Sys2Proof.Machine.execEnterIdle l s
  | .exitIdle l => Sys2Proof.Machine.execExitIdle l s
  | .idleReq l level => Sys2Proof.Machine.execIdleReq l level s
  | .txBurstDone l => Sys2Proof.Machine.execTxBurstDone l s
  | .rxBurst l => Sys2Proof.Machine.execRxBurst l s
  | .burstTimeout l => Sys2Proof.Machine.execBurstTimeout l s
  | .laneLossOfLock l => Sys2Proof.Machine.execLaneLossOfLock l s
  | .refLoss q => Sys2Proof.Machine.execRefLoss q s
  | .refRecover q => Sys2Proof.Machine.execRefRecover q s
  | .adaptConverged l taps => Sys2Proof.Machine.execAdaptConverged l taps s
  | .adaptRestart l => Sys2Proof.Machine.execAdaptRestart l s
  | .prbsInject l => Sys2Proof.Machine.execPrbsInject l s
  | .prbsClear l => Sys2Proof.Machine.execPrbsClear l s
  | .prbsErrRead l => Sys2Proof.Machine.execPrbsErrRead l s
  | .prbsSync l => Sys2Proof.Machine.execPrbsSync l s
  | .prbsSyncLost l => Sys2Proof.Machine.execPrbsSyncLost l s
  | .eyeStart l => Sys2Proof.Machine.execEyeStart l s
  | .eyeDone l count => Sys2Proof.Machine.execEyeDone l count s
  | .rawTxWord l => Sys2Proof.Machine.execRawTxWord l s
  | .rawRxWord l word => Sys2Proof.Machine.execRawRxWord l word s
  | .rxSlip l => Sys2Proof.Machine.execRxSlip l s
  | .ethBlockEnable m v => Sys2Proof.Machine.execEthBlockEnable m v s
  | .ethRxFrame m p frame => Sys2Proof.Machine.execEthRxFrame m p frame s
  | .ethFrameDeliver m p => Sys2Proof.Machine.execEthFrameDeliver m p s
  | .ethRecordWrite m p => Sys2Proof.Machine.execEthRecordWrite m p s
  | .ethTxWrite m off data => Sys2Proof.Machine.execEthTxWrite m off data s
  | .ethTxFrame m p => Sys2Proof.Machine.execEthTxFrame m p s
  | .ethTxtsPop m => Sys2Proof.Machine.execEthTxtsPop m s
  | .hostBar2Access h write off len data => Sys2Proof.Machine.execHostBar2Access h write off len data s
  | .hostOutRequest mc write addr len data => Sys2Proof.Machine.execHostOutRequest mc write addr len data s
  | .reqProdWrite h v => Sys2Proof.Machine.execReqProdWrite h v s
  | .makeActive h => Sys2Proof.Machine.execMakeActive h s
  | .hostPortFailover => Sys2Proof.Machine.execHostPortFailover s
  | .loopbackRefused h => Sys2Proof.Machine.execLoopbackRefused h s
  | .jesdEnable j v => Sys2Proof.Machine.execJesdEnable j v s
  | .jesdArm j => Sys2Proof.Machine.execJesdArm j s
  | .jesdRxWrite j octets => Sys2Proof.Machine.execJesdRxWrite j octets s
  | .jesdTxWrite j octets => Sys2Proof.Machine.execJesdTxWrite j octets s
  | .jesdRestart j => Sys2Proof.Machine.execJesdRestart j s
  | .mchEnable n v => Sys2Proof.Machine.execMchEnable n v s
  | .channelTraining n seedOk fullOk testOk delays => Sys2Proof.Machine.execChannelTraining n seedOk fullOk testOk delays s
  | .mchRead n rq => Sys2Proof.Machine.execMchRead n rq s
  | .mchWrite n rq data => Sys2Proof.Machine.execMchWrite n rq data s
  | .mchSchedule n legal => Sys2Proof.Machine.execMchSchedule n legal s
  | .mchPromotion n rid => Sys2Proof.Machine.execMchPromotion n rid s
  | .refreshDebt n => Sys2Proof.Machine.execRefreshDebt n s
  | .rankTempRead n rank1 celsius => Sys2Proof.Machine.execRankTempRead n rank1 celsius s
  | .driftPause n rank1 centres => Sys2Proof.Machine.execDriftPause n rank1 centres s
  | .driftPauseNow n centres0 centres1 => Sys2Proof.Machine.execDriftPauseNow n centres0 centres1 s
  | .selfRefreshEntry n why => Sys2Proof.Machine.execSelfRefreshEntry n why s
  | .selfRefreshExit n => Sys2Proof.Machine.execSelfRefreshExit n s
  | .dramMapWrite region1 v => Sys2Proof.Machine.execDramMapWrite region1 v s
  | .dlyWrite n rank1 dev v => Sys2Proof.Machine.execDlyWrite n rank1 dev v s
  | .eccMark n rank1 dev => Sys2Proof.Machine.execEccMark n rank1 dev s
  | .eccUnmark n rank1 dev => Sys2Proof.Machine.execEccUnmark n rank1 dev s
  | .eccSalvage n rank1 => Sys2Proof.Machine.execEccSalvage n rank1 s
  | .salvageDone n rank1 => Sys2Proof.Machine.execSalvageDone n rank1 s
  | .eccClearPersistent n rank1 => Sys2Proof.Machine.execEccClearPersistent n rank1 s
  | .patrolScrub n => Sys2Proof.Machine.execPatrolScrub n s
  | .scrubPassStart n => Sys2Proof.Machine.execScrubPassStart n s
  | .scrubPassLine n => Sys2Proof.Machine.execScrubPassLine n s
  | .scrubPassStop n => Sys2Proof.Machine.execScrubPassStop n s
  | .mchInjectArm n mc v => Sys2Proof.Machine.execMchInjectArm n mc v s
  | .rptIdxWrite n idx => Sys2Proof.Machine.execRptIdxWrite n idx s
  | .liningOpen idx mode => Sys2Proof.Machine.execLiningOpen idx mode s
  | .liningClose idx mode => Sys2Proof.Machine.execLiningClose idx mode s
  | .liningRekey idx => Sys2Proof.Machine.execLiningRekey idx s
  | .sweepLine idx => Sys2Proof.Machine.execSweepLine idx s
  | .mirrorRetry n => Sys2Proof.Machine.execMirrorRetry n s
  | .doorbellWrite n mc v => Sys2Proof.Machine.execDoorbellWrite n mc v s
  | .doorbellProducer n => Sys2Proof.Machine.execDoorbellProducer n s
  | .doorbellConsumer n => Sys2Proof.Machine.execDoorbellConsumer n s
  | .doorbellKick n => Sys2Proof.Machine.execDoorbellKick n s
  | .contextFetch n q => Sys2Proof.Machine.execContextFetch n q s
  | .descriptorFetch n => Sys2Proof.Machine.execDescriptorFetch n s
  | .dataTransfer n q => Sys2Proof.Machine.execDataTransfer n q s
  | .readback n q => Sys2Proof.Machine.execReadback n q s
  | .completionRecord n q => Sys2Proof.Machine.execCompletionRecord n q s
  | .recordAnswer n q => Sys2Proof.Machine.execRecordAnswer n q s
  | .irqIdle n => Sys2Proof.Machine.execIrqIdle n s
  | .shadowStage n v inHoCycle => Sys2Proof.Machine.execShadowStage n v inHoCycle s
  | .shadowCommit n => Sys2Proof.Machine.execShadowCommit n s
  | .queueContextWrite n mc => Sys2Proof.Machine.execQueueContextWrite n mc s
  | .queueContextRead n mc => Sys2Proof.Machine.execQueueContextRead n mc s
  | .queueStop n mc => Sys2Proof.Machine.execQueueStop n mc s
  | .queueResume n mc => Sys2Proof.Machine.execQueueResume n mc s
  | .pinInputChange b idx level samples ticks => Sys2Proof.Machine.execPinInputChange b idx level samples ticks s
  | .gpioInRead b => Sys2Proof.Machine.execGpioInRead b s
  | .pinMuxWrite b idx mc v => Sys2Proof.Machine.execPinMuxWrite b idx mc v s
  | .pinSwitchDone b idx => Sys2Proof.Machine.execPinSwitchDone b idx s
  | .trackTimeout b idx high => Sys2Proof.Machine.execTrackTimeout b idx high s
  | .vccioLow b => Sys2Proof.Machine.execVccioLow b s
  | .loadSourceRead pat readOk => Sys2Proof.Machine.execLoadSourceRead pat readOk s
  | .loadVerify sigOk tagsOk inflateOk => Sys2Proof.Machine.execLoadVerify sigOk tagsOk inflateOk s
  | .loadRelease => Sys2Proof.Machine.execLoadRelease s
  | .partialRelease => Sys2Proof.Machine.execPartialRelease s
  | .darningFrame f => Sys2Proof.Machine.execDarningFrame f s
  | .frameRewrite f n => Sys2Proof.Machine.execFrameRewrite f n s
  | .recordStoreWrite readBackOk => Sys2Proof.Machine.execRecordStoreWrite readBackOk s
  | .mendColumn f mc target => Sys2Proof.Machine.execMendColumn f mc target s
  | .mendBram f mc target => Sys2Proof.Machine.execMendBram f mc target s
  | .mendClover f mc target => Sys2Proof.Machine.execMendClover f mc target s
  | .mendStart f => Sys2Proof.Machine.execMendStart f s
  | .mendComplete f stopUs copyOk => Sys2Proof.Machine.execMendComplete f stopUs copyOk s
  | .autoMendTrigger f clover target => Sys2Proof.Machine.execAutoMendTrigger f clover target s
  | .walkStep f => Sys2Proof.Machine.execWalkStep f s
  | .walkTestDone f pass => Sys2Proof.Machine.execWalkTestDone f pass s
  | .faultReport h cls src detail => Sys2Proof.Machine.execFaultReport h cls src detail s
  | .logEngineTake h => Sys2Proof.Machine.execLogEngineTake h s
  | .logEntryClose cls src => Sys2Proof.Machine.execLogEntryClose cls src s
  | .faultIrqWindow cls src => Sys2Proof.Machine.execFaultIrqWindow cls src s
  | .logIdxWrite idx => Sys2Proof.Machine.execLogIdxWrite idx s
  | .bobbinArm mc => Sys2Proof.Machine.execBobbinArm mc s
  | .bobbinTrigger mc => Sys2Proof.Machine.execBobbinTrigger mc s
  | .bobbinStop mc => Sys2Proof.Machine.execBobbinStop mc s
  | .startReplay mc => Sys2Proof.Machine.execStartReplay mc s
  | .bobbinFreeze h => Sys2Proof.Machine.execBobbinFreeze h s
  | .ringWrite h => Sys2Proof.Machine.execRingWrite h s
  | .gapWrite h cause => Sys2Proof.Machine.execGapWrite h cause s
  | .journalEvent j dir1 sel d => Sys2Proof.Machine.execJournalEvent j dir1 sel d s
  | .ratioMeasure j dir1 ratio => Sys2Proof.Machine.execRatioMeasure j dir1 ratio s
  | .replayGate f ready => Sys2Proof.Machine.execReplayGate f ready s
  | .replayEnd why => Sys2Proof.Machine.execReplayEnd why s
  | .spiWritePacket h bytes => Sys2Proof.Machine.execSpiWritePacket h bytes s
  | .spiReadReply h whole => Sys2Proof.Machine.execSpiReadReply h whole s
  | .spiStatus h => Sys2Proof.Machine.execSpiStatus h s
  | .i2cWritePacket h bytes => Sys2Proof.Machine.execI2cWritePacket h bytes s
  | .i2cReadReply h whole => Sys2Proof.Machine.execI2cReadReply h whole s
  | .cmdpktUpdate word => Sys2Proof.Machine.execCmdpktUpdate word s
  | .cmdpktCapture => Sys2Proof.Machine.execCmdpktCapture s
  | .nrReqProdWrite mc v => Sys2Proof.Machine.execNrReqProdWrite mc v s
  | .requestTake => Sys2Proof.Machine.execRequestTake s
  | .longCompletion op => Sys2Proof.Machine.execLongCompletion op s
  | .sessionTimeout car id => Sys2Proof.Machine.execSessionTimeout car id s
  | .hello rq lo hi id => Sys2Proof.Machine.execHello rq lo hi id s
  | .bye rq => Sys2Proof.Machine.execBye rq s
  | .auth rq slot sigOk key => Sys2Proof.Machine.execAuth rq slot sigOk key s
  | .state rq => Sys2Proof.Machine.execState rq s
  | .load rq source ports t startPage hostAddr => Sys2Proof.Machine.execLoad rq source ports t startPage hostAddr s
  | .loadData rq off data => Sys2Proof.Machine.execLoadData rq off data s
  | .loadAbort rq => Sys2Proof.Machine.execLoadAbort rq s
  | .loadStatus rq => Sys2Proof.Machine.execLoadStatus rq s
  | .gsrPulse rq fields => Sys2Proof.Machine.execGsrPulse rq fields s
  | .dormant rq => Sys2Proof.Machine.execDormant rq s
  | .wake rq => Sys2Proof.Machine.execWake rq s
  | .reset rq kind => Sys2Proof.Machine.execReset rq kind s
  | .domainSet rq dom st => Sys2Proof.Machine.execDomainSet rq dom st s
  | .release rq => Sys2Proof.Machine.execRelease rq s
  | .lrkSetTime rq h frac ns sec => Sys2Proof.Machine.execLrkSetTime rq h frac ns sec s
  | .lrkCmd rq h cmd => Sys2Proof.Machine.execLrkCmd rq h cmd s
  | .calWrite rq h first entries => Sys2Proof.Machine.execCalWrite rq h first entries s
  | .calRead rq h count first => Sys2Proof.Machine.execCalRead rq h count first s
  | .chSet rq h channel range ctrl => Sys2Proof.Machine.execChSet rq h channel range ctrl s
  | .scrub rq channel base limit => Sys2Proof.Machine.execScrub rq channel base limit s
  | .train rq channel action centres0 centres1 => Sys2Proof.Machine.execTrain rq channel action centres0 centres1 s
  | .mark rq channel rank device cmd => Sys2Proof.Machine.execMark rq channel rank device cmd s
  | .linRange rq range base limit rights => Sys2Proof.Machine.execLinRange rq range base limit rights s
  | .linCmd rq range cmd mode => Sys2Proof.Machine.execLinCmd rq range cmd mode s
  | .mend rq field kind target => Sys2Proof.Machine.execMend rq field kind target s
  | .walk rq fields walkEn autoMend period => Sys2Proof.Machine.execWalk rq fields walkEn autoMend period s
  | .mendStatus rq field => Sys2Proof.Machine.execMendStatus rq field s
  | .seamRetrain rq segment => Sys2Proof.Machine.execSeamRetrain rq segment s
  | .seamMapReset rq => Sys2Proof.Machine.execSeamMapReset rq s
  | .bobCmd rq cmd => Sys2Proof.Machine.execBobCmd rq cmd s
  | .bobStatus rq => Sys2Proof.Machine.execBobStatus rq s
  | .logRead rq first count => Sys2Proof.Machine.execLogRead rq first count s
  | .sensors rq => Sys2Proof.Machine.execSensors rq s
  | .faultIe rq words => Sys2Proof.Machine.execFaultIe rq words s
  | .updateBegin rq rtype total => Sys2Proof.Machine.execUpdateBegin rq rtype total s
  | .updateData rq off data => Sys2Proof.Machine.execUpdateData rq off data s
  | .updateEnd rq sigOk writeOk => Sys2Proof.Machine.execUpdateEnd rq sigOk writeOk s
  | .updateConfirm rq => Sys2Proof.Machine.execUpdateConfirm rq s
  | .rsStatus rq => Sys2Proof.Machine.execRsStatus rq s
  | .pointerSet rq which ports t autoload startPage => Sys2Proof.Machine.execPointerSet rq which ports t autoload startPage s
  | .keyEnroll rq slot digest => Sys2Proof.Machine.execKeyEnroll rq slot digest s
  | .keyRevoke rq slot => Sys2Proof.Machine.execKeyRevoke rq slot s
  | .patternKey rq slot key => Sys2Proof.Machine.execPatternKey rq slot key s
  | .claim rq kind wher first count => Sys2Proof.Machine.execClaim rq kind wher first count s
  | .unclaim rq kind wher first count => Sys2Proof.Machine.execUnclaim rq kind wher first count s
  | .override rq kind wher first count holder => Sys2Proof.Machine.execOverride rq kind wher first count holder s
  | .claimQuery rq kind wher item => Sys2Proof.Machine.execClaimQuery rq kind wher item s
  | .regRead rq addr count wide => Sys2Proof.Machine.execRegRead rq addr count wide s
  | .regWrite rq addr count wide data => Sys2Proof.Machine.execRegWrite rq addr count wide data s
  | .regRmw rq addr mask value => Sys2Proof.Machine.execRegRmw rq addr mask value s
  | .queueSet rq q ctx => Sys2Proof.Machine.execQueueSet rq q ctx s
  | .queueGet rq q => Sys2Proof.Machine.execQueueGet rq q s
  | .queueCtl rq q cmd => Sys2Proof.Machine.execQueueCtl rq q cmd s
  | .slvStatus rq link => Sys2Proof.Machine.execSlvStatus rq link s
  | .slvRetrain rq link => Sys2Proof.Machine.execSlvRetrain rq link s
  | .slvRoute rq dev link => Sys2Proof.Machine.execSlvRoute rq dev link s
  | .slvForward rq dev inner answer => Sys2Proof.Machine.execSlvForward rq dev inner answer s
  | .domainStateRequest d mc st => Sys2Proof.Machine.execDomainStateRequest d mc st s
  | .domainTransitionDone d => Sys2Proof.Machine.execDomainTransitionDone d s
  | .avsStep d worstPs => Sys2Proof.Machine.execAvsStep d worstPs s
  | .undervoltage d => Sys2Proof.Machine.execUndervoltage d s
  | .overcurrent d => Sys2Proof.Machine.execOvercurrent d s
  | .tempConvert temps => Sys2Proof.Machine.execTempConvert temps s
  | .thermalTrip p => Sys2Proof.Machine.execThermalTrip p s
  | .tripHwReset => Sys2Proof.Machine.execTripHwReset s
  | .supplyValid sel => Sys2Proof.Machine.execSupplyValid sel s
  | .supplyLoss sel => Sys2Proof.Machine.execSupplyLoss sel s
  | .linkEnable sel v => Sys2Proof.Machine.execLinkEnable sel v s
  | .linkTrainingDone sel => Sys2Proof.Machine.execLinkTrainingDone sel s
  | .linkNegotiate sel peerDev peerVer => Sys2Proof.Machine.execLinkNegotiate sel peerDev peerVer s
  | .negotiationTimeout sel => Sys2Proof.Machine.execNegotiationTimeout sel s
  | .linkRetry sel => Sys2Proof.Machine.execLinkRetry sel s
  | .linkRetrain sel mc => Sys2Proof.Machine.execLinkRetrain sel mc s
  | .selvedgeTimeMessage sel roundTrip peerSample => Sys2Proof.Machine.execSelvedgeTimeMessage sel roundTrip peerSample s
  | .selvedgePacket sel hd data hops => Sys2Proof.Machine.execSelvedgePacket sel hd data hops s
  | .linkLeavesUp sel loss => Sys2Proof.Machine.execLinkLeavesUp sel loss s
  | .routeWrite v mc => Sys2Proof.Machine.execRouteWrite v mc s
  | .rxSquelch l => Sys2Proof.Machine.execRxSquelch l s
  | .ordinaryAcquisition l => Sys2Proof.Machine.execOrdinaryAcquisition l s
  | .pinLevelInterrupt b idx => Sys2Proof.Machine.execPinLevelInterrupt b idx s
  | .ethLinkChange m p up => Sys2Proof.Machine.execEthLinkChange m p up s
  | .hostLinkChange h up => Sys2Proof.Machine.execHostLinkChange h up s
  | .jesdTxOctet j count => Sys2Proof.Machine.execJesdTxOctet j count s
  | .jesdSyncChange j level => Sys2Proof.Machine.execJesdSyncChange j level s
  | .seamTimePairLoss => Sys2Proof.Machine.execSeamTimePairLoss s
  | .rspConsWrite h mc v => Sys2Proof.Machine.execRspConsWrite h mc v s

end Sys2Proof.Machine
end

