-- ==== Sys2Proof/Machine/Tick.lean ====
section
/-!
DEFINITION. Machine/Tick.lean: what happens at a tick of the clock when no command waits (DESIGN CHOICE, log entry 4): one
edge of the thread clocks, one edge of every running engine clock, stiles hand on what they kept, a replay takes its next
record.
-/
namespace Sys2Proof.Machine

/-- One second in units of 2^−48 ns, and the number of seconds Lark time counts (07_lark_time R191). -/
def secUnits : Nat := 1000000000 * 2 ^ 48
def larkSpan : Nat := 2 ^ 48 * secUnits

/-- Lark time after one edge of the thread clock: 1 ns plus the steering offset (07_ R192). -/
def larkEdgeTime (l : Lark) : Nat := ((l.time + 2 ^ 48 : Nat) + l.steer).toNat % larkSpan

/-- One edge of half h's thread clock, while the half's always-on island runs (07_ R192, R219); in a hand-over cycle the commit is decided
(08_ R244). -/
def larkEdge (h : Half) (d : Device) : Device :=
  if (d.lark h).on then chansDecide h (d.setLark h { d.lark h with time := larkEdgeTime (d.lark h) }) else d

/-- One edge of every engine's clock; a cascade's reader issues before its writer (log entry 21). -/
def engineEdges (d : Device) : Device :=
  (d.each (d.clv.map (fun (kv : Nat × Engine) => kv.1)).reverse (fun d e => fetchIssue e d)).settle

/-- A tick. -/
def tick (d : Device) : Device :=
  replayFeed .e (replayFeed .w (stilesWake (engineEdges (larkEdge .e (larkEdge .w d)))))

end Sys2Proof.Machine
end

