-- ==== Sys2Proof/Safety.lean ====
section
/-!
DEFINITION. Safety.lean: what counts as a safe step, and the facts of the state that every step is to keep.
-/
namespace Sys2Proof.Machine

/-- A step is safe where the device goes on: it neither faults nor refuses. -/
def State.stepsOn (s : State) : Prop := ∃ t, step s = .next t

/-- The register table and the two byte memories, DRAM and host memory, are in canonical form. -/
def Device.canonical (d : Device) : Bool :=
  tabWf regDefault d.regs && Memory.wf d.mem.dram && Memory.wf d.host.mem

/-- Credits that a hedged crossing's sender and receiver account for (02_fabric R58, R59). -/
def HedgeChan.held (c : HedgeChan) : Nat :=
  c.credits + (if c.crossing.isSome then 1 else 0) + c.buffer.length + c.returning

/-- Every hedged channel has its four credits: with the sender, on the crossing register, in the buffer or on their way back. -/
def Device.hedgesOk (d : Device) : Prop := ∀ kv ∈ d.fab.hedges, HedgeChan.held kv.2 = 4

end Sys2Proof.Machine

/-- The commands of the fabric's clocks, pulses, channels, gussets and ticks (02_fabric). -/
def Sys2Proof.Instr.isFabric : Sys2Proof.Instr → Bool
  | .fabricCycle .. | .gsrPulseWrite .. | .gsrPulseEnd .. | .hedgeTransfer .. | .hedgePop .. | .hedgeCreditReturn ..
  | .hedgedStall .. | .gussetWrite .. | .gussetRead .. | .gussetEntryVisible .. | .gussetEntryFreed .. | .tickLand .. => true
  | _ => false


/-- Command `i` completes in state `s`: it answers the next state whose device is `d`, with the waiting commands as they were. -/
def Sys2Proof.Machine.gives (i : Sys2Proof.Instr) (s : Sys2Proof.Machine.State) (d : Sys2Proof.Machine.Device) : Prop :=
  Sys2Proof.Machine.exec i s = .next { s with dev := d }

/-- The device that a command leaves whose own effect turns `d` into `x`, once THM_DEVICE_STATE shows it (00_scope R16). -/
def Sys2Proof.Machine.Device.updated (d x : Sys2Proof.Machine.Device) : Sys2Proof.Machine.Device :=
  Sys2Proof.Machine.Device.oneUpdate (fun _ => x) d

/-- The same where the effect may also end Safe hold or a wake, or change seam up. -/
def Sys2Proof.Machine.Device.moved (d x : Sys2Proof.Machine.Device) : Sys2Proof.Machine.Device :=
  Sys2Proof.Machine.Device.oneUpdate (Sys2Proof.Machine.modeEffects (fun _ => x)) d

/-- The registers of the device state and its interrupt, which a device update may change. -/
def Sys2Proof.Machine.stateReg (a : Nat) : Bool := a == Sys2Proof.Machine.thmA 0x40 || a == Sys2Proof.Machine.thmA 0x44

/-- A flit in which a knot's check finds nothing (06_ R164). -/
def Sys2Proof.Machine.noFlitErr : Sys2Proof.FlitErr := ⟨.clean, .clean, .clean, .clean⟩

/-- A request reaches its operation: Thimble serves, and every check of 21_command_protocol R522 that comes before the operation's own
passes, in the open session `x`, with no reply kept for its sequence. -/
def Sys2Proof.Machine.Device.asks (d : Sys2Proof.Machine.Device) (rq : Sys2Proof.ReqCtx) (op : Nat) (x : Sys2Proof.Machine.Session) : Prop :=
  Sys2Proof.Machine.thimbleServes d = true ∧ Sys2Proof.Machine.versionBad d rq op = false ∧
  (Sys2Proof.Machine.romBoot d = true → Sys2Proof.Machine.romServes op = true) ∧
  (Sys2Proof.Machine.opRow op (Sys2Proof.Machine.rqVersion rq)).isSome = true ∧
  Sys2Proof.Machine.sessionOf d rq.carrier rq.id.toNat = some x ∧ x.kept.find? (fun k => k.seq == rq.seq.toNat) = none ∧
  (d.sys.integrity = true → Sys2Proof.Machine.haltServed op = true) ∧
  (x.secure || Sys2Proof.Machine.kindAllowed (Sys2Proof.Machine.kindOf rq.carrier) op) = true

/-- The same where Bobbin takes no CMD record of the request (20_bobbin_replay R510), so that its operation acts on the device as it is. -/
def Sys2Proof.Machine.Device.admits (d : Sys2Proof.Machine.Device) (rq : Sys2Proof.ReqCtx) (op : Nat) (x : Sys2Proof.Machine.Session) : Prop :=
  d.asks rq op x ∧ d.bobTakes (Sys2Proof.Machine.carrierHalf d rq.carrier) = false

/-- The device after the reply to a request has been made, kept by the session, and sent. -/
def Sys2Proof.Machine.Device.replied (rq : Sys2Proof.ReqCtx) (op : Nat) (params : List Sys2Proof.Byte) (st : Nat)
    (ps : List Sys2Proof.Byte) (d : Sys2Proof.Machine.Device) : Sys2Proof.Machine.Device :=
  let q := Sys2Proof.Machine.mkReply rq op (Sys2Proof.Machine.requestCrc rq op params) st ps d
  Sys2Proof.Machine.sendReply rq.carrier q.1 q.2

/-- Command `i` completes: its operation leaves device `d`, the reply with status `st` and parameters `ps` follows, and then what that may
move of the device's mode and shown state. -/
def Sys2Proof.Machine.serves (i : Sys2Proof.Instr) (s : Sys2Proof.Machine.State) (rq : Sys2Proof.ReqCtx) (op : Nat)
    (params : List Sys2Proof.Byte) (st : Nat) (ps : List Sys2Proof.Byte) (d : Sys2Proof.Machine.Device) : Prop :=
  Sys2Proof.Machine.gives i s (s.dev.moved (d.replied rq op params st ps))
end

