-- ==== Sys2Proof/Certificates/Slice0/Obligations.lean ====
section
/-!
DEFINITION. Certificates/Slice0/Obligations.lean: what the model claims, for the provers.
-/

open Sys2Proof Sys2Proof.Machine

/-! ### The machine -/

/-- A step with a command in front runs it with the queue's rest. -/
def Obligations.StepRunsFront : Prop :=
  ∀ (c : Instr) (s : State) (rest : List Instr), s.pending = c :: rest → step s = exec c { s with pending := rest }

/-- The model's choice (log entry 4): a step with no command waiting is one tick of the clock. Each Lark whose island runs counts one
edge of its thread clock, 1 ns plus its steering offset modulo 2^48 s (R191, R192), and no command appears; here no engine, stile, replay or
staged channel set has anything to do. -/
def Obligations.TickOnEmptyQueue : Prop :=
  ∀ s : State, s.pending = [] → s.dev.clv = [] → s.dev.net.held = [] → s.dev.net.rspBuf = [] → s.dev.bobState ≠ 4 →
    (∀ h, ∀ kv ∈ (s.dev.cal h).chans, kv.2.staged = none) →
    ∃ t, step s = .next t ∧ t.pending = [] ∧ t.dev.regs = s.dev.regs ∧ t.dev.mem = s.dev.mem ∧
      ∀ h, (((s.dev.lark h).on = true → (t.dev.lark h).time =
          (((s.dev.lark h).time + 2 ^ 48 : Nat) + (s.dev.lark h).steer).toNat % (2 ^ 48 * (1000000000 * 2 ^ 48))) ∧
        ((s.dev.lark h).on = false → t.dev.lark h = s.dev.lark h))

/-- What reset leaves: no command waiting; every register at the reset value of its row; all 64 domains Off, all engines Idle; registers
and memories in canonical form. -/
def Obligations.ResetState : Prop :=
  State.reset.pending = [] ∧ State.reset.dev.canonical = true ∧
  (∀ n, n < 64 → State.reset.dev.domState n = 3) ∧
  (∀ n, n < 32 → State.reset.dev.reg (domCtrlA n) = 0xE038140C) ∧
  (∀ n, 32 ≤ n → n < 44 → State.reset.dev.reg (domCtrlA n) = 0xE0381404) ∧
  (∀ n, 44 ≤ n → n < 52 → State.reset.dev.reg (domCtrlA n) = 0xE0381403) ∧
  (∀ e, (State.reset.dev.engine e).state = .idle) ∧
  (∀ n, n < 8 → State.reset.dev.chanState n = 0) ∧
  State.reset.dev.reg (pwrA 0x800) = 0x646E7800 ∧
  (∀ h, State.reset.dev.fld (lrkA h 0xC0) 24 8 = 0x19 ∧ State.reset.dev.fld (lrkA h 0xC0) 16 8 = 0x10 ∧
    State.reset.dev.fld (lrkA h 0xE0) 16 16 = 0x05DC) ∧
  State.reset.dev.sys.upW = false ∧ State.reset.dev.sys.upE = false

/-- The register table, the DRAM contents and the host's memory keep their canonical form over every step, whatever command is in front:
equal contents are then equal data. -/
def Obligations.CanonicalKept : Prop :=
  ∀ s t : State, s.dev.canonical = true → step s = .next t → t.dev.canonical = true

/-! ### Fabric and block memories -/

/-- R43: on a rising edge of its clock, the second after global set/reset or a later one (R44), a synchronous flip-flop takes the first case that applies: its set/reset value, D where
its enable is 1, else its own value. -/
def Obligations.FlopEdge : Prop :=
  ∀ (s : State) (f : Fin 32) (r : Fin 12) (x : Nat × Nat × TileCfg × Nat × Bool × FfCfg),
    s.dev.rclkRuns f.val r.val = true → s.dev.gsrOn f.val = false →
    tabGet natZero s.dev.fab.gsrWait (12 * f.val + r.val) ≤ 1 →
    tabWf boolFalse s.dev.fab.ffs = true →
    (((upto 32).flatMap s.dev.flopsOf).map (fun y => y.1)).Nodup →
    x ∈ s.dev.flopsOf f.val → x.2.2.2.2.2.async = false →
    flopClk x.2.2.1 x.2.2.2.2.2 = r.val →
    ∃ t, exec (.fabricCycle f r) s = .next t ∧
      tabGet boolFalse t.dev.fab.ffs x.1 =
        (if srOf s.dev x.2.1 x.2.2.1 x.2.2.2.2.2 then x.2.2.2.2.2.srVal
         else if ceOf s.dev x.2.1 x.2.2.1 x.2.2.2.2.2 then
           (if x.2.2.2.2.2.fromF then s.dev.sigAt x.2.1 (selOf x.2.2.1 (6 * x.2.2.2.1 + 5))
            else s.dev.sigAt x.2.1 (96 + 2 * x.2.2.2.1 + b2n x.2.2.2.2.1))
         else tabGet boolFalse s.dev.fab.ffs x.1)

/-- Where the fabric's commands complete: an edge of a running clock, a pulse of global set/reset and its end, the transfers of
hedged channels and gussets, a tick. -/
def Obligations.FabricCompletes : Prop :=
  (∀ (s : State) (f : Fin 32) (r : Fin 12), s.dev.rclkRuns f.val r.val = true → s.dev.gsrOn f.val = false →
    ∃ t, exec (.fabricCycle f r) s = .next t ∧ t.pending = s.pending ∧ t.dev.mem = s.dev.mem ∧ t.dev.host = s.dev.host ∧
      t.dev.time = s.dev.time ∧ t.dev.fab.tiles = s.dev.fab.tiles ∧
      ((∀ kv ∈ s.dev.fab.gusCfg, kv.1 / 64 ≠ f.val) → t.dev.fab.gussets = s.dev.fab.gussets) ∧
      ((∀ k, hedged s.dev k = false) → t.dev.fab.hedges = s.dev.fab.hedges)) ∧
  (∀ (s : State) (f : Fin 32), s.dev.domOn f.val = true → s.dev.frozen f.val = false → f.val ∉ s.dev.fab.pulse →
    s.dev.replayed f.val = false →
    ∃ t, exec (.gsrPulseWrite f) s = .next t ∧ t.pending = s.pending ∧ f.val ∈ t.dev.fab.pulse ∧
      (∀ g, g < 64 → t.dev.gusset (64 * f.val + g) = {}) ∧
      (∀ k, channelTo k = some f.val → (t.dev.hedge k).buffer = []) ∧ t.dev.regs = s.dev.regs ∧ t.dev.bram.words = s.dev.bram.words) ∧
  (∀ (s : State) (f : Fin 32), s.dev.domOn f.val = true → s.dev.frozen f.val = true →
    exec (.gsrPulseWrite f) s = .next { s with dev := s.dev.setBit (fldA f.val 0x100) 1 }) ∧
  (∀ (s : State) (f : Fin 32), s.dev.frozen f.val = false → f.val ∈ s.dev.fab.pulse → exec (.gsrPulseWrite f) s = .next s) ∧
  (∀ (s : State) (f : Fin 32), f.val ∈ s.dev.fab.pulse → tabWf natZero s.dev.fab.gsrWait = true →
    ∃ t, exec (.gsrPulseEnd f) s = .next t ∧ f.val ∉ t.dev.fab.pulse ∧
      ∀ r : Fin 12, tabGet natZero t.dev.fab.gsrWait (12 * f.val + r.val) = 2) ∧
  (∀ (s : State) (c : Crossing) (w v : BitVec 22), hedged s.dev (crossingKey c) = true →
    s.dev.clk0Runs (hedgeTile (crossingKey c)) = true → hedgeOffer s.dev (crossingKey c) w = some v →
    0 < (s.dev.hedge (crossingKey c)).credits →
    exec (.hedgeTransfer c w) s = .next { s with dev := (s.dev.setHedge (crossingKey c)
      { hedgeAdvance (s.dev.hedge (crossingKey c)) with
          credits := (s.dev.hedge (crossingKey c)).credits - 1, crossing := some v }).settle }) ∧
  (∀ (s : State) (c : Crossing) (g : Nat) (x : BitVec 22) (xs : List (BitVec 22)),
    hedgeInto (crossingKey c) = some g → hedged s.dev (crossingKey c) = true → s.dev.clk0Runs g = true →
    hedgeAsks s.dev (crossingKey c) = true →
    (s.dev.hedge (crossingKey c)).buffer = x :: xs →
    exec (.hedgePop c) s = .next { s with dev := (s.dev.setHedge (crossingKey c) (hedgeAdvance
      { s.dev.hedge (crossingKey c) with buffer := xs, returning := (s.dev.hedge (crossingKey c)).returning + 1 })).settle }) ∧
  (∀ (s : State) (c : Crossing), 0 < (s.dev.hedge (crossingKey c)).returning → tabWf hedgeReset s.dev.fab.hedges = true →
    ∃ t, exec (.hedgeCreditReturn c) s = .next t ∧
      (t.dev.hedge (crossingKey c)).credits = (s.dev.hedge (crossingKey c)).credits + 1 ∧
      (t.dev.hedge (crossingKey c)).returning = (s.dev.hedge (crossingKey c)).returning - 1 ∧
      crossingKey c ∉ t.dev.fab.stalled) ∧
  (∀ (s : State) (c : Crossing), hedged s.dev (crossingKey c) = true → s.dev.fieldRuns c.field.val = true →
    (s.dev.hedge (crossingKey c)).credits = 0 → crossingKey c ∉ s.dev.fab.stalled →
    exec (.hedgedStall c) s = .next { s with dev := s.dev.setFab { s.dev.fab with stalled := crossingKey c :: s.dev.fab.stalled } }) ∧
  (∀ (s : State) (f : Fin 32) (n : Fin 64) (w v : BitVec 72) (c : GussetCfg),
    tabGet noGusCfg s.dev.fab.gusCfg (64 * f.val + n.val) = some c →
    (s.dev.rclkRuns f.val c.wrClk.val = true → gussetOffer s.dev f.val n.val w = some v →
      (s.dev.gusset (64 * f.val + n.val)).full = false →
      exec (.gussetWrite (.fabric f n) w) s = .next { s with dev := (s.dev.setGusset (64 * f.val + n.val)
        { s.dev.gusset (64 * f.val + n.val) with entries := (s.dev.gusset (64 * f.val + n.val)).entries ++ [v] }).settle }) ∧
    (s.dev.rclkRuns f.val c.rdClk.val = true → gussetAsks s.dev f.val n.val = true →
      (s.dev.gusset (64 * f.val + n.val)).empty = false →
      exec (.gussetRead (.fabric f n)) s = .next { s with dev := (s.dev.setGusset (64 * f.val + n.val)
        (s.dev.gusset (64 * f.val + n.val)).pop).settle })) ∧
  (∀ (s : State) (f : Fin 32) (n : Fin 64),
    exec (.gussetEntryVisible (.fabric f n)) s = .next { s with dev := (s.dev.setGusset (64 * f.val + n.val)
      (s.dev.gusset (64 * f.val + n.val)).show).settle } ∧
    exec (.gussetEntryFreed (.fabric f n)) s = .next { s with dev := (s.dev.setGusset (64 * f.val + n.val)
      (s.dev.gusset (64 * f.val + n.val)).release).settle }) ∧
  (∀ (s : State) (e : Fin 1536) (n : Fin 4),
    exec (.gussetEntryVisible (.stream e n)) s = .next { s with dev := (s.dev.setEngine e.val
      ((s.dev.engine e.val).setStream n.val ((s.dev.engine e.val).stream n.val).show)).settle } ∧
    exec (.gussetEntryFreed (.stream e n)) s = .next { s with dev := (s.dev.setEngine e.val
      ((s.dev.engine e.val).setStream n.val ((s.dev.engine e.val).stream n.val).release)).settle }) ∧
  (∀ (s : State) (e : Fin 1536) (n : Fin 4) (w v : BitVec 72), s.dev.streamClkRuns e.val n.val = true →
    (n.val < 2 → streamOffer s.dev e.val n.val w = some v → ((s.dev.engine e.val).stream n.val).full = false →
      exec (.gussetWrite (.stream e n) w) s = .next { s with dev := (s.dev.setEngine e.val
        ((s.dev.engine e.val).setStream n.val (((s.dev.engine e.val).stream n.val).push v))).settle }) ∧
    (2 ≤ n.val → streamAsks s.dev e.val n.val = true → ((s.dev.engine e.val).stream n.val).empty = false →
      exec (.gussetRead (.stream e n)) s = .next { s with dev := (s.dev.setEngine e.val
        ((s.dev.engine e.val).setStream n.val ((s.dev.engine e.val).stream n.val).pop)).settle })) ∧
  (∀ (s : State) (f : Fin 32) (l : Fin 16), tabGet natZero s.dev.fab.ticks (16 * f.val + l.val) = 1 →
    tickClk s.dev f.val l.val < 12 → s.dev.rclkRuns f.val (tickClk s.dev f.val l.val) = true → 16 * f.val + l.val ∉ s.dev.fab.tickHigh →
    ∃ t, exec (.tickLand f l) s = .next t ∧ t.pending = s.pending ∧ t.dev.regs = s.dev.regs ∧
      16 * f.val + l.val ∈ t.dev.fab.tickHigh)

/-- R64: a write to a full gusset is dropped and sets its bit in FLD_GUSSET_OVF; a read while empty changes nothing and sets its
bit in FLD_GUSSET_UDF. -/
def Obligations.GussetErrors : Prop :=
  ∀ (s : State) (f : Fin 32) (n : Fin 64) (w v : BitVec 72) (c : GussetCfg),
    tabGet noGusCfg s.dev.fab.gusCfg (64 * f.val + n.val) = some c → tabWf regDefault s.dev.regs = true →
    (s.dev.rclkRuns f.val c.wrClk.val = true → gussetOffer s.dev f.val n.val w = some v → (s.dev.gusset (64 * f.val + n.val)).full = true →
      ∃ t, exec (.gussetWrite (.fabric f n) w) s = .next t ∧ t.dev.fab.gussets = s.dev.fab.gussets ∧
        t.dev.bit (fldA f.val (0x120 + 4 * (n.val / 32))) (n.val % 32) = true ∧
        ∀ a, a ≠ fldA f.val (0x120 + 4 * (n.val / 32)) → t.dev.reg a = s.dev.reg a) ∧
    (s.dev.rclkRuns f.val c.rdClk.val = true → gussetAsks s.dev f.val n.val = true → (s.dev.gusset (64 * f.val + n.val)).empty = true →
      ∃ t, exec (.gussetRead (.fabric f n)) s = .next t ∧ t.dev.fab.gussets = s.dev.fab.gussets ∧
        t.dev.bit (fldA f.val (0x128 + 4 * (n.val / 32))) (n.val % 32) = true ∧
        ∀ a, a ≠ fldA f.val (0x128 + 4 * (n.val / 32)) → t.dev.reg a = s.dev.reg a)

/-- R58, R59: the four credits of every hedged channel are accounted for at all times: held by the sender, on the crossing
register, in the receive buffer, or on their way back. Every command of the fabric's clocks, channels and pulses keeps this. -/
def Obligations.HedgeCreditsKept : Prop :=
  ∀ (s t : State) (i : Instr), s.dev.hedgesOk → i.isFabric = true → exec i s = .next t → t.dev.hedgesOk

/-- R85: where both ports of a true dual-port memory write a common bit in one cycle, port A's write is stored, port B's whole
write is discarded and the collision flag is set; without a common bit both are stored. -/
def Obligations.BramCollision : Prop :=
  ∀ (s : State) (m : Fin 12288) (c : BramCfg) (a b : PortIn), s.dev.bramCfg m.val = some c → c.sdp = false →
    s.dev.fieldRuns (m.val / 384) = true → bramTiled s.dev m.val = false →
    s.dev.rclkRuns (m.val / 384) c.clkA.val = true → s.dev.rclkRuns (m.val / 384) c.clkB.val = true →
    a.en = true → b.en = true → weMask c.widthA a.we ≠ 0 → weMask c.widthB b.we ≠ 0 →
    tabWf regDefault s.dev.regs = true → tabWf zero72 s.dev.bram.words = true →
    wordRow c.widthA (a.addr.toNat % widthDepth c.widthA) = wordRow c.widthB (b.addr.toNat % widthDepth c.widthB) →
    rowMask c.widthA (a.addr.toNat % widthDepth c.widthA) (weMask c.widthA a.we)
      &&& rowMask c.widthB (b.addr.toNat % widthDepth c.widthB) (weMask c.widthB b.we) ≠ 0 →
    ∃ t, exec (.bramPortAccess m (some a) (some b)) s = .next t ∧
      t.dev.bit (fldA (m.val / 384) (0x210 + 4 * (m.val % 384 / 32))) (m.val % 384 % 32) = true ∧
      m.val ∈ t.dev.bram.coll ∧
      t.dev.bram.words = (writeWord m.val c.widthA (a.addr.toNat % widthDepth c.widthA) (weMask c.widthA a.we) a.din s.dev).bram.words

/-- R88, R89: every stored word decodes without error; a word with one bit flipped decodes to the stored data with sbe, and one
with two bits flipped is reported with dbe and not corrected. -/
def Obligations.SecdedCorrects : Prop :=
  ∀ (v : BitVec 72),
    secdedDecode (secdedEncode v) = (v &&& BitVec.ofNat 72 (2 ^ 64 - 1), false, false) ∧
    (∀ i : Fin 72, secdedDecode (secdedEncode v ^^^ BitVec.ofNat 72 (2 ^ i.val)) = (v &&& BitVec.ofNat 72 (2 ^ 64 - 1), true, false)) ∧
    (∀ i j : Fin 72, i ≠ j →
      (secdedDecode (secdedEncode v ^^^ BitVec.ofNat 72 (2 ^ i.val) ^^^ BitVec.ofNat 72 (2 ^ j.val))).2 = (false, true))

/-- Where block-memory and scrubber commands complete. -/
def Obligations.BramCompletes : Prop :=
  (∀ (s : State) (m : Fin 12288) (c : BramCfg) (a b : PortIn), s.dev.bramCfg m.val = some c → c.sdp = true → c.secded = true →
    s.dev.fieldRuns (m.val / 384) = true → bramTiled s.dev m.val = false →
    s.dev.rclkRuns (m.val / 384) c.clkA.val = true → s.dev.rclkRuns (m.val / 384) c.clkB.val = true →
    a.en = true → b.en = true → tabWf zero72 s.dev.bram.words = true → tabWf portReset s.dev.bram.ports = true →
    s.dev.gsrOn (m.val / 384) = false →
    ∃ t, exec (.bramPortAccess m (some a) (some b)) s = .next t ∧ t.pending = s.pending ∧
      tabGet zero72 t.dev.bram.words (512 * m.val + bitsAt a.addr.toNat 0 9) = secdedEncode (sdpDin a (some b)) ∧
      (port t.dev m.val 1).latch &&& BitVec.ofNat 72 (2 ^ 64 - 1) =
        (secdedDecode (rowOf s.dev m.val (bitsAt b.addr.toNat 0 9))).1) ∧
  (∀ (s : State) (f : Fin 32), scrubRuns s.dev f.val = true →
    tabWf natZero s.dev.bram.scrub = true →
    ∃ t, exec (.bramScrubStep f) s = .next t ∧
      tabGet natZero t.dev.bram.scrub f.val = (tabGet natZero s.dev.bram.scrub f.val + 1) % 512) ∧
  (∀ (s : State) (m : Fin 12288) (r : Nat) (v : BitVec 72), tabGet noWback s.dev.bram.wback m.val = some (r, v) →
    scrubRuns s.dev (m.val / 384) = true → r < 512 → tabWf zero72 s.dev.bram.words = true →
    tabWf noWback s.dev.bram.wback = true →
    ∃ t, exec (.bramScrubWriteback m) s = .next t ∧ tabGet zero72 t.dev.bram.words (512 * m.val + r) = v ∧
      tabGet noWback t.dev.bram.wback m.val = none ∧ t.dev.regs = s.dev.regs) ∧
  (∀ (s : State) (m : Fin 12288), scrubRuns s.dev (m.val / 384) = true → tabWf regDefault s.dev.regs = true →
    ∃ t, exec (.bramScrubStarved m) s = .next t ∧ t.dev.bit (fldA (m.val / 384) 0x204) 1 = true ∧
      t.dev.bram.words = s.dev.bram.words)

/-! ### Clover engines -/

/-- Where the Clover instructions complete: in a Running engine whose clock has an edge, that owes no cycle to a branch and
that does not stall, each of them issues as the one slot of its bundle, with the slots, flags and program counter that 05_ gives
(`slots`, `control`), and the engine goes on. -/
def Obligations.CloverOpsIssue : Prop :=
  ∀ (s : State) (e : Fin 1536) (gd : Guard), (s.dev.engine e.val).state = .running → engineRuns s.dev e.val = true →
    (exec (.nop e) s = .next { s with dev := (engineStep e.val { g := false } s.dev).settle }) ∧
    (∀ (slot1 : Bool) (ak : Fin 4) (x y : Fin 32),
      exec (.mul e gd slot1 ak x y) s = .next { s with dev := (engineStep e.val (macBundle gd slot1 ⟨1, ak.val, x.val, y.val⟩) s.dev).settle } ∧
      exec (.mac e gd slot1 ak x y) s = .next { s with dev := (engineStep e.val (macBundle gd slot1 ⟨2, ak.val, x.val, y.val⟩) s.dev).settle } ∧
      exec (.macc e gd slot1 ak x y) s = .next { s with dev := (engineStep e.val (macBundle gd slot1 ⟨3, ak.val, x.val, y.val⟩) s.dev).settle }) ∧
    (∀ (pair : Bool) (p : Fin 8) (reg : Fin 32) (inc : Bool),
      exec (.memoryLoad e gd pair p reg inc) s = .next { s with dev := (engineStep e.val (earlyBundle gd (.load pair p.val reg.val (slotMod pair inc))) s.dev).settle } ∧
      exec (.memoryStore e gd pair p reg inc) s = .next { s with dev := (engineStep e.val (earlyBundle gd (.store pair p.val reg.val (slotMod pair inc))) s.dev).settle }) ∧
    (∀ (s1 : Bool) (reg : Fin 32),
      exec (.streamRead e gd s1 reg) s = .next { s with dev := (engineStep e.val (earlyBundle gd (.sread (b2n s1) reg.val)) s.dev).settle }) ∧
    (∀ (s1 : Bool) (reg : Fin 32) (last : Bool),
      exec (.streamWrite e gd s1 reg last) s = .next { s with dev := (engineStep e.val (earlyBundle gd (.swrite (b2n s1) reg.val last)) s.dev).settle }) ∧
    (∀ (ak : Fin 4) (x y : Fin 32) (m : Fin 7),
      exec (.cmac e gd ak x y (Fin.ofNat 8 m.val)) s = .next { s with dev := (engineStep e.val (opBundle gd (.cmac ak.val x.val y.val m.val)) s.dev).settle }) ∧
    (∀ (dst : Fin 32) (aj am : Fin 4) (sum : Bool) (n : Fin 48) (tr : Bool),
      exec (.ext e gd dst aj am sum (Fin.ofNat 64 n.val) tr) s = .next { s with dev := (engineStep e.val (opBundle gd (.ext dst.val aj.val am.val sum n.val tr)) s.dev).settle }) ∧
    (∀ (dst : Fin 32) (ai : Fin 8) (n : Fin 48) (tr im : Bool),
      exec (.ext1 e gd dst ai (Fin.ofNat 64 n.val) tr im) s = .next { s with dev := (engineStep e.val (opBundle gd (.ext1 dst.val ai.val n.val tr im)) s.dev).settle }) ∧
    (∀ (ak : Fin 4) (x : Fin 32) (n : Fin 33),
      exec (.amov e gd ak x (Fin.ofNat 64 n.val)) s = .next { s with dev := (engineStep e.val (opBundle gd (.amov ak.val x.val n.val)) s.dev).settle }) ∧
    (∀ (mask : BitVec 4),
      exec (.aclr e gd mask) s = .next { s with dev := (engineStep e.val (opBundle gd (.aclr mask.toNat)) s.dev).settle }) ∧
    (∀ (ak aj am : Fin 4),
      exec (.aadd e gd ak aj am) s = .next { s with dev := (engineStep e.val (opBundle gd (.aadd false ak.val aj.val am.val)) s.dev).settle } ∧
      exec (.asub e gd ak aj am) s = .next { s with dev := (engineStep e.val (opBundle gd (.aadd true ak.val aj.val am.val)) s.dev).settle }) ∧
    (∀ (aj : Fin 4),
      exec (.casw e gd aj) s = .next { s with dev := (engineStep e.val (opBundle gd (.casw aj.val)) s.dev).settle }) ∧
    (∀ (ak : Fin 4) (add : Bool),
      exec (.casr e gd ak add) s = .next { s with dev := (engineStep e.val (opBundle gd (.casr ak.val add)) s.dev).settle }) ∧
    (∀ (ak : Fin 4) (x : Fin 32),
      exec (.dstep e gd ak x) s = .next { s with dev := (engineStep e.val (opBundle gd (.dstep ak.val x.val)) s.dev).settle } ∧
      exec (.dfin e gd ak x) s = .next { s with dev := (engineStep e.val (opBundle gd (.dfin ak.val x.val)) s.dev).settle }) ∧
    (∀ (dst x y : Fin 32),
      exec (.cadd e gd dst x y) s = .next { s with dev := (engineStep e.val (opBundle gd (.cadd dst.val x.val y.val)) s.dev).settle } ∧
      exec (.csub e gd dst x y) s = .next { s with dev := (engineStep e.val (opBundle gd (.csub dst.val x.val y.val)) s.dev).settle }) ∧
    (∀ (dst x : Fin 32),
      exec (.cconj e gd dst x) s = .next { s with dev := (engineStep e.val (opBundle gd (.cconj dst.val x.val)) s.dev).settle } ∧
      exec (.cneg e gd dst x) s = .next { s with dev := (engineStep e.val (opBundle gd (.cneg dst.val x.val)) s.dev).settle } ∧
      exec (.cmulj e gd dst x) s = .next { s with dev := (engineStep e.val (opBundle gd (.cmulj dst.val x.val)) s.dev).settle } ∧
      exec (.cmov e gd dst x) s = .next { s with dev := (engineStep e.val (opBundle gd (.cmov dst.val x.val)) s.dev).settle }) ∧
    (∀ (dst x : Fin 32) (n : Fin 24) (tr : Bool),
      exec (.cshr e gd dst x (Fin.ofNat 32 n.val) tr) s = .next { s with dev := (engineStep e.val (opBundle gd (.cshr dst.val x.val n.val tr)) s.dev).settle }) ∧
    (∀ (dst x : Fin 32) (n : Fin 24),
      exec (.cshl e gd dst x (Fin.ofNat 32 n.val)) s = .next { s with dev := (engineStep e.val (opBundle gd (.cshl dst.val x.val n.val)) s.dev).settle }) ∧
    (∀ (q : Fin 8) (x y : Fin 32) (cond : Fin 8) (im : Bool),
      exec (.pcmp e gd q x y cond im) s = .next { s with dev := (engineStep e.val (opBundle gd (.pcmp q.val x.val y.val cond.val im)) s.dev).settle }) ∧
    (∀ (q a b op : Fin 8),
      exec (.plog e gd q a b op) s = .next { s with dev := (engineStep e.val (opBundle gd (.plog q.val a.val b.val op.val)) s.dev).settle }) ∧
    (∀ (q : Fin 8) (s1 : Bool),
      exec (.plast e gd q s1) s = .next { s with dev := (engineStep e.val (opBundle gd (.plast q.val (b2n s1))) s.dev).settle }) ∧
    (∀ (p : Fin 8) (m : BitVec 12),
      exec (.pmod e gd p m) s = .next { s with dev := (engineStep e.val (opBundle gd (.pmod p.val m.toInt)) s.dev).settle }) ∧
    (∀ (dst : Fin 32) (p : Fin 8) (pair : Bool) (m : BitVec 12),
      exec (.ldl e gd dst p pair m) s = .next { s with dev := (engineStep e.val (lateBundle gd (.load pair p.val dst.val m.toInt)) s.dev).settle }) ∧
    (∀ (src : Fin 32) (p : Fin 8) (pair : Bool) (m : BitVec 12),
      exec (.stl e gd src p pair m) s = .next { s with dev := (engineStep e.val (lateBundle gd (.store pair p.val src.val m.toInt)) s.dev).settle }) ∧
    (∀ (dst : Fin 32) (imm : BitVec 48),
      exec (.ldi e gd dst imm) s = .next { s with dev := (engineStep e.val (opBundle gd (.ldi dst.val imm)) s.dev).settle }) ∧
    (exec (.halt e gd) s = .next { s with dev := (engineStep e.val (opBundle gd .halt) s.dev).settle }) ∧
    (∀ (target : BitVec 9) (cond q : Fin 8),
      exec (.br e gd target cond q) s = .next { s with dev := (engineStep e.val (opBundle gd (.br target.toNat cond.val q.val)) s.dev).settle }) ∧
    (∀ (k1 rotate : Bool) (s1 : Fin 8) (last : BitVec 9) (n : BitVec 16),
      exec (.loop e gd k1 rotate s1 last n) s = .next { s with dev := (engineStep e.val (opBundle gd (.loop k1 rotate s1.val last.toNat n.toNat)) s.dev).settle }) ∧
    (∀ (k1 rotate : Bool) (s1 : Fin 8) (last : BitVec 9) (x : Fin 32),
      exec (.loopr e gd k1 rotate s1 last x) s = .next { s with dev := (engineStep e.val (opBundle gd (.loopr k1 rotate s1.val last.toNat x.val)) s.dev).settle }) ∧
    (∀ (p : Fin 8) (which : Fin 4) (imm : BitVec 16),
      exec (.setp e gd p which imm) s = .next { s with dev := (engineStep e.val (opBundle gd (.setp p.val which.val imm.toNat)) s.dev).settle }) ∧
    (∀ (value mask : BitVec 4),
      exec (.flag e gd value mask) s = .next { s with dev := (engineStep e.val (opBundle gd (.flag value mask)) s.dev).settle })

/-- R139, R146: a cycle without issue changes nothing of an engine but its two counters: one for a stream that has no entry or
no room or a cascade register that is not ready, one owed to a taken branch. -/
def Obligations.CloverStall : Prop :=
  ∀ (site : Nat) (full : Bool) (b : Bundle) (e : Engine),
    (e.bubble = 0 → stalled site full e (guarded e b) = true →
      (issueCycle site full b e).1 = { e with cycles := sat 4294967295 (e.cycles + 1), stalls := sat 4294967295 (e.stalls + 1) }) ∧
    (0 < e.bubble → (issueCycle site full b e).1 =
      { e with bubble := e.bubble - 1, cycles := sat 4294967295 (e.cycles + 1), stalls := sat 4294967295 (e.stalls + 1) })

/-- R96, R136, R144: MAC and MACC add the exact complex product to the accumulator pair modulo 2^56 where acc_sat is 0, set
acc_ovf exactly where a result lies outside the 56-bit range, and leave every other accumulator, the address registers, the data
memory and the predicates as they are; results in flight land. -/
def Obligations.MacAccumulates : Prop :=
  ∀ (site : Nat) (full : Bool) (e : Engine) (ak x y : Nat) (conj : Bool), ak < 4 → x < 32 → y < 32 → e.bubble = 0 →
    e.ctrl.getLsbD 7 = false → e.ctrl.getLsbD 6 = false → tabWf zero56 e.a = true →
    ∀ e', e' = (issueCycle site full { g := false, mac0 := some ⟨if conj then 3 else 2, ak, x, y⟩ } e).1 →
      (∀ (re im : Int),
        re = reOf (e.creg x) * reOf (e.creg y) - imOf (e.creg x) * (if conj then - imOf (e.creg y) else imOf (e.creg y)) →
        im = reOf (e.creg x) * (if conj then - imOf (e.creg y) else imOf (e.creg y)) + imOf (e.creg x) * reOf (e.creg y) →
        tabGet zero56 e'.a (2 * ak) = BitVec.ofInt 56 (e.accIn (2 * ak) + re) ∧
        tabGet zero56 e'.a (2 * ak + 1) = BitVec.ofInt 56 (e.accIn (2 * ak + 1) + im) ∧
        e'.flags = (if out56 (e.accIn (2 * ak) + re) ∨ out56 (e.accIn (2 * ak + 1) + im) then e.flags ||| 2 else e.flags)) ∧
      (∀ j, j ≠ 2 * ak → j ≠ 2 * ak + 1 → tabGet zero56 e'.a j = tabGet zero56 e.a j) ∧
      e'.aOld = e.a ∧ e'.p = e.p ∧ e'.b = e.b ∧ e'.l = e.l ∧ e'.mem = e.mem ∧ e'.land = [] ∧
      e'.c = e.land.foldl cLand e.c ∧ e'.cycles = sat 4294967295 (e.cycles + 1) ∧ e'.stalls = sat 4294967295 e.stalls

/-- R97: extraction is the nearest 24-bit integer to v / 2^n, ties to even, or the floor when truncating; what lies outside the 24-bit
range is clamped to it and sets sat; the extracting instructions change no accumulator. -/
def Obligations.ExtractRounds : Prop :=
  (∀ (v : Int) (n : Nat), n < 48 →
    (2 * (2 ^ n : Nat) * roundShift v n false - 2 * v ≤ (2 ^ n : Nat)) ∧ (2 * v - 2 * (2 ^ n : Nat) * roundShift v n false ≤ (2 ^ n : Nat)) ∧
    ((2 * (2 ^ n : Nat) * roundShift v n false - 2 * v = (2 ^ n : Nat) ∨ 2 * v - 2 * (2 ^ n : Nat) * roundShift v n false = (2 ^ n : Nat)) →
      0 < n → roundShift v n false % 2 = 0) ∧
    roundShift v n true * (2 ^ n : Nat) ≤ v ∧ v < (roundShift v n true + 1) * (2 ^ n : Nat) ∧
    (∀ tr, (extract v n tr).1 = max (-0x800000) (min 0x7FFFFF (roundShift v n tr)) ∧
      ((extract v n tr).2 = true ↔ roundShift v n tr < -0x800000 ∨ 0x7FFFFF < roundShift v n tr))) ∧
  (∀ (site : Nat) (full : Bool) (e : Engine) (gd : Guard) (dst aj am ai n : Nat) (sum tr im : Bool),
    (issueCycle site full (opBundle gd (.ext dst aj am sum n tr)) e).1.a = e.a ∧
    (issueCycle site full (opBundle gd (.ext1 dst ai n tr im)) e).1.a = e.a)

/-- R104, R105: a linear modify adds modulo 4,096; a circular one leads into the buffer, by m modulo its length; a
bit-reversed one leads into the first N samples of the buffer. -/
def Obligations.PointerModify : Prop :=
  (∀ (p b : Nat) (m : Int), modPtr p b 0 m = (((p : Int) + m) % 4096).toNat) ∧
  (∀ (p b l : Nat) (m : Int), 1 ≤ l → l ≤ 3072 → b + l ≤ 4096 →
    b ≤ modPtr p b l m ∧ modPtr p b l m < b + l ∧ ((modPtr p b l m : Int) - b - ((p : Int) - b + m)) % l = 0) ∧
  (∀ (p b l : Nat) (m : Int), 2 ≤ l → l ≤ 3072 → b + 2 ^ revLen l ≤ 4096 →
    b ≤ modPtr p b (0x8000 + l) m ∧ modPtr p b (0x8000 + l) m < b + 2 ^ revLen l) ∧
  modPtr 0x25C 0x200 96 8 = 0x204 ∧ modPtr 0x202 0x200 96 (-8) = 0x25A ∧
  modPtr 0x100 0x100 0x8008 4 = 0x104 ∧ modPtr 0x104 0x100 0x8008 4 = 0x102 ∧ modPtr 0x102 0x100 0x8008 4 = 0x106 ∧
  modPtr 0x106 0x100 0x8008 4 = 0x101 ∧ modPtr 0x107 0x100 0x8008 4 = 0x100

/-- R155: with a dividend X from 0 to d·2^24 − 1 and a quotient of 0, 24 division steps and one finish leave the floor of X / d
and X mod d. -/
def Obligations.DivisionResult : Prop :=
  ∀ (X d : Int), 0 < d → d ≤ 2 ^ 23 → 0 ≤ X → X < d * 2 ^ 24 →
    ∀ r q, (r, q) = (fun (p : Int × Int) => divStep p.1 p.2 (d * 2 ^ 24))^[24] (X, 0) →
      divFin r (d * 2 ^ 24) = X % d ∧ q = X / d

/-- R106, R107, R152: at an iteration end of a rotating loop rot decrements modulo 16, the count falls to no less than 0, logical
q0 becomes 1 exactly where iterations remain, every other predicate keeps its physical place, and the loop goes on exactly while
one of its S stage predicates reads 1. -/
def Obligations.RotatingLoop : Prop :=
  ∀ (k : LoopState) (e : Engine), k.rotate = true → k.s1 < 8 → e.rot < 16 →
    (iterEnd k e).2.2.rot = (e.rot + 15) % 16 ∧ (iterEnd k e).2.1.count = k.count - 1 ∧
    (iterEnd k e).2.2.qreg 0 = decide (0 < k.count) ∧
    (∀ j, j < 7 → (iterEnd k e).2.2.qreg (j + 1) = e.qreg j) ∧
    (∀ j, j < 15 → (iterEnd k e).2.2.creg (16 + j + 1) = e.creg (16 + j)) ∧
    ((iterEnd k e).1 = true ↔ ∃ j, j ≤ k.s1 ∧ (iterEnd k e).2.2.qreg j = true)

/-- Every bundle that a format can express reads back from its 64 bits, whatever its slots and operands (R133 to R138, R148 to
R151). -/
def Obligations.BundleRoundTrip : Prop :=
  ∀ b : Bundle, b.wf = true → encodeBundle b < 2 ^ 64 ∧ decodeBundle (encodeBundle b) = b

/-- R120: a start from Idle or Stopped with prog_valid runs the engine from its start address; without prog_valid, or in Error, it
sets start_err; while Running it sets start_overrun. Stop, resume and clear act in their states only. -/
def Obligations.RunRequests : Prop :=
  ∀ (s : State) (e : Fin 1536), engineRuns s.dev e.val = true → s.dev.gsrOn (e.val / 48) = false → s.dev.domState (e.val / 48) ≠ 3 →
    s.dev.replayed (e.val / 48) = false → tabWf engineReset s.dev.clv = true →
    ∀ (x : Engine) (started stopped : Engine → Engine), x = s.dev.engine e.val →
    started = (fun x => match x.state with
      | .running => { x with flags := x.flags ||| 0x40 }
      | .error => { x with flags := x.flags ||| 0x80 }
      | _ => if x.ctrl.getLsbD 0 then
          { x with
            state := .running, pc := bitsAt x.ctrl.toNat 16 9, rot := 0, k0 := { x.k0 with active := false }
            k1 := { x.k1 with active := false }, cycles := 0, stalls := 0, bubble := 0 }
        else { x with flags := x.flags ||| 0x80 }) →
    stopped = (fun x => if x.state = .running then { landAll x with state := .stopped, cause := 2 } else x) →
    (∃ t, exec (.clvStart e) s = .next t ∧ t.dev.engine e.val = started x) ∧
    (∃ t, exec (.clvStop e) s = .next t ∧ t.dev.engine e.val = stopped x) ∧
    (∃ t, exec (.clvResume e) s = .next t ∧ t.dev.engine e.val = (if x.state = .stopped then { x with state := .running } else x)) ∧
    (∃ t, exec (.clvClear e) s = .next t ∧ t.dev.engine e.val =
      (if x.state = .stopped ∨ x.state = .error then { x with state := .idle, cause := 0 } else x)) ∧
    -- the ports' rising edges, at an engine whose tile is configured and at one whose tile is not
    (ctlRuns s.dev e.val = true → cloverTiled s.dev e.val 2 = true → x.ctrl.getLsbD 3 = true → startSink s.dev e.val = true →
      x.startWas = false → ∃ t, exec (.fabricStart e) s = .next t ∧ t.dev.engine e.val = started { x with startWas := true }) ∧
    (ctlRuns s.dev e.val = true → cloverTiled s.dev e.val 2 = true → (startSink s.dev e.val = false ∨ x.startWas = true) →
      exec (.fabricStart e) s = .next s) ∧
    (ctlRuns s.dev e.val = true → cloverTiled s.dev e.val 2 = true → stopSink s.dev e.val = true → x.stopWas = false →
      ∃ t, exec (.fabricStop e) s = .next t ∧ t.dev.engine e.val = stopped { x with stopWas := true }) ∧
    (ctlRuns s.dev e.val = true → cloverTiled s.dev e.val 2 = true → (stopSink s.dev e.val = false ∨ x.stopWas = true) →
      exec (.fabricStop e) s = .next s) ∧
    (ctlRuns s.dev e.val = true → cloverTiled s.dev e.val 2 = false →
      (x.ctrl.getLsbD 3 = true → ∃ t, exec (.fabricStart e) s = .next t ∧ t.dev.engine e.val = started x) ∧
      (x.ctrl.getLsbD 3 = false → exec (.fabricStart e) s = .next s) ∧
      ∃ t, exec (.fabricStop e) s = .next t ∧ t.dev.engine e.val = stopped x) ∧
    (∀ pc, x.held = { start := some pc, stop := true } → x.state = .running → x.ctrl.getLsbD 0 = true →
      ∃ t, exec (.heldRequestsApply e) s = .next t ∧ (t.dev.engine e.val).state = .running ∧ (t.dev.engine e.val).pc = pc % 512 ∧
        (t.dev.engine e.val).held = {})

/-- Where the accesses to an engine complete: network reads and writes of its memories, a bundle written to its program store
(which clears prog_valid), its stream clocks, its state window, and its notify write. -/
def Obligations.CloverAccessCompletes : Prop :=
  (∀ (s : State) (e : Fin 1536), engineOn s.dev e.val = true → s.dev.replayed (e.val / 48) = false → s.dev.feeds (e.val / 48) = false →
    tabWf engineReset s.dev.clv = true → ∀ x, x = s.dev.engine e.val →
    (∀ (off : BitVec 16) (len : Nat), off.toNat + len ≤ 0x6000 → x.memBad = [] →
      exec (.clvNetworkAccess e false off len []) s =
        .next { s with dev := s.dev.answer 0 ((upto len).map (fun i => memByte x (off.toNat + i))) }) ∧
    (∀ (off : BitVec 16) (data : List Byte), off.toNat + data.length ≤ 0x6000 → x.memBad = [] →
      ∃ t, exec (.clvNetworkAccess e true off data.length data) s = .next t ∧ t.dev.rsp.status = 0 ∧
        (t.dev.engine e.val).mem = (putBytes setMemByte x off.toNat data).mem ∧ (t.dev.engine e.val).prog = x.prog ∧
        t.dev.regs = s.dev.regs) ∧
    (∀ (off : BitVec 16) (len : Nat), x.state = .running → engineRuns s.dev e.val = true → off.toNat + len ≤ 0x6000 → x.memBad = [] →
      ∃ t, exec (.clvNetworkStarvation e false off len []) s = .next t ∧ t.dev.rsp.status = 0 ∧
        (t.dev.engine e.val).stalls = sat 4294967295 (x.stalls + 1) ∧ (t.dev.engine e.val).pc = x.pc) ∧
    (∀ (n : Fin 512) (w : BitVec 64), x.state ≠ .running → tabWf zero64 x.prog = true →
      ∃ t, exec (.programStoreWrite e n w) s = .next t ∧ t.dev.rsp.status = 0 ∧
        tabGet zero64 (t.dev.engine e.val).prog n.val = w ∧ (t.dev.engine e.val).ctrl.getLsbD 0 = false ∧
        (t.dev.engine e.val).mem = x.mem) ∧
    (∀ (n : Fin 512) (w : BitVec 64), x.state = .running →
      exec (.programStoreWrite e n w) s = .next { s with dev := s.dev.answer 8 [] }) ∧
    (∀ v : BitVec 32, x.state ≠ .running → (∀ i, i < 5 → fieldOf v (4 * i) 4 < 12) →
      ∃ t, exec (.streamClkWrite e v) s = .next t ∧ t.dev.rsp.status = 0 ∧ (t.dev.engine e.val).streamClk = v.setWidth 20 ∧
        (∀ i : Fin 4, (t.dev.engine e.val).stream i.val = (if fieldOf v (4 * i.val) 4 = x.clkSel i.val then x.stream i.val else {}))) ∧
    (∀ i : Fin 32, x.state ≠ .running →
      exec (.stateWindowAccess e false (BitVec.ofNat 12 (0x400 + 8 * i.val)) 8 []) s =
        .next { s with dev := s.dev.answer 0 (leBytes (x.creg i.val).toNat 8) }) ∧
    (x.state = .running → exec (.stateWindowAccess e false 0x400 8 []) s = .next { s with dev := s.dev.answer 8 [] })) ∧
  -- R124: with notify writes due, 8 bytes of the first, the cycles low and the run count high, go to the notify address; it is no
  -- longer due
  (∀ (s : State) (e : Fin 1536) (runs cycles : Nat) (rest : List (Nat × Nat)), (s.dev.engine e.val).notify = (runs, cycles) :: rest →
    ∀ (st : Nat) (d : Device), st ≠ notTaken →
      (st, d) = busWrite (byEngine s.dev e.val) 1 ((s.dev.engine e.val).notifyLo.toNat / 8 * 8 + (s.dev.engine e.val).notifyHi.toNat % 65536 * 2 ^ 32)
        (leBytes cycles 4 ++ leBytes runs 4) (s.dev.setEngine e.val { s.dev.engine e.val with notify := rest }) →
      gives (.notifyWrite e) s (s.dev.moved
        (if st = 0 then flushReplies d else d.setEngine e.val { d.engine e.val with flags := (d.engine e.val).flags ||| 0x200 })))

/-- R116 to R118: a column's clock register takes its low half only, a clock above 1,270 MHz gates the column off and a slower one
releases it, a stretched cycle is counted, and the largest stretch for 16 cycles sets stretch_max. -/
def Obligations.ColumnClocks : Prop :=
  (∀ (s : State) (f : Fin 32) (v : BitVec 32), tabWf regDefault s.dev.regs = true →
    clockFailed (s.dev.setReg (clvClkA f.val) ((s.dev.reg (clvClkA f.val) &&& 0xFFFF0000) ||| (v &&& 0x0000FFFF))) f.val = false →
    s.dev.sys.mode ≠ .loading →
    ∃ t, exec (.columnClockChange f v) s = .next t ∧
      t.dev.reg (clvClkA f.val) = ((s.dev.reg (clvClkA f.val) &&& 0xFFFF0000) ||| (v &&& 0x0000FFFF)) ∧
      ∀ a, a ≠ clvClkA f.val → stateReg a = false → t.dev.reg a = s.dev.reg a) ∧
  (∀ (s : State) (f : Fin 32) (k : Bool) (kHz : Nat), tabWf regDefault s.dev.regs = true →
    ∃ t, exec (.columnOverspeed f k kHz) s = .next t ∧ t.dev.bit (clvClkA f.val) (18 + b2n k) = decide (1270000 < kHz)) ∧
  (∀ (s : State) (f : Fin 32) (k : Bool) (d : Fin 4), tabWf regDefault s.dev.regs = true → columnRuns s.dev f.val (b2n k) = true →
    ∃ t, exec (.clockStretch f k d) s = .next t ∧
      t.dev.fld (stretchA f.val (b2n k)) 0 31 = (s.dev.fld (stretchA f.val (b2n k)) 0 31 + 1) % 2 ^ 31 ∧ t.dev.clv = s.dev.clv) ∧
  (∀ (s : State) (f : Fin 32) (k : Bool), s.dev.bobState ≠ 1 → tabWf regDefault s.dev.regs = true →
    (s.dev.fifo (halfOfField f.val)).length < 1024 →
    ∃ t, exec (.stretchMax f k) s = .next t ∧ t.dev.bit (stretchA f.val (b2n k)) 31 = true ∧
      t.dev.fifo (halfOfField f.val) = s.dev.fifo (halfOfField f.val) ++
        [⟨0x19, f.val * 65536 + b2n k, 0, s.dev.now (halfOfField f.val)⟩])

/-! ### Warp/Weft network -/

/-- R161: a response copies addr, len_m1, class, tag and mclass from its request, swaps the source and destination fields, and sets
type and status; the response to a read request carries data only with status OK or DATA_ERR. A request waits at its target for an
earlier one of its source and class to the same bytes (R173). R160, R163: every header reads back from its flit, of which bits 511 to 108
are 0, and the data of a payload from theirs. -/
def Obligations.ResponseHeader : Prop :=
  (∀ (s : State) (hd : Header), hd.type.val ≤ 1 → stileWindow s.dev hd.addr.toNat = none →
    (requestWaits hd s.dev = true → gives (.readRequest hd) s (s.dev.moved s.dev)) ∧
    (requestWaits hd s.dev = false →
    ∀ q, q = busRead (byPacket hd) hd.addr.toNat (lenOf hd) (takeArrived hd s.dev).2 → q.1.status < 16 →
    ∃ x f, gives (.readRequest hd) s (s.dev.moved x) ∧ x.rsp.status = q.1.status ∧
      x.net.flights = q.2.net.flights ++ [f] ∧ f.poison = q.1.poison ∧ x.net.arrived = q.2.net.arrived ∧
      f.hd.addr = hd.addr ∧ f.hd.lenM1 = hd.lenM1 ∧ f.hd.cls = hd.cls ∧ f.hd.tag = hd.tag ∧ f.hd.mclass = hd.mclass ∧
      f.hd.srcSlot = hd.dstSlot ∧ f.hd.srcKnot = hd.dstKnot ∧ f.hd.srcDev = hd.dstDev ∧
      f.hd.dstSlot = hd.srcSlot ∧ f.hd.dstKnot = hd.srcKnot ∧ f.hd.dstDev = hd.srcDev ∧
      f.hd.type.val = hd.type.val + 2 ∧ f.hd.status.val = q.1.status ∧
      f.data = (if hd.type.val = 0 ∧ (q.1.status = 0 ∨ q.1.status = 7) then exactly (lenOf hd) q.1.data else []))) ∧
  (∀ hd : Header, headerOf (headerBits hd) = hd ∧ (headerBits hd).toNat < 2 ^ 108) ∧
  (∀ (a len : Nat) (data : List Byte), data.length = len →
    (payloadFlits a len data).length = flitsIn a len ∧ flitsData a len (payloadFlits a len data) = data)

/-- R167: a packet moves along its row until its column is the destination's, then along its column until its row is, and then
leaves at its slot; every hop brings it one knot nearer. -/
def Obligations.DimensionOrder : Prop :=
  ∀ (x y gx gy slot : Nat), x < 10 → y < 5 → gx < 10 → gy < 5 → slot < 4 →
    (x < gx → outAt (knotId x y) (knotId gx gy, slot) = .east ∧ beyond (knotId x y) .east = knotId (x + 1) y) ∧
    (gx < x → outAt (knotId x y) (knotId gx gy, slot) = .west ∧ beyond (knotId x y) .west = knotId (x - 1) y) ∧
    (x = gx → y < gy → outAt (knotId x y) (knotId gx gy, slot) = .north ∧ beyond (knotId x y) .north = knotId x (y + 1)) ∧
    (x = gx → gy < y → outAt (knotId x y) (knotId gx gy, slot) = .south ∧ beyond (knotId x y) .south = knotId x (y - 1)) ∧
    (x = gx → y = gy → outAt (knotId x y) (knotId gx gy, slot) = .slot (Fin.ofNat 4 slot))

/-- Where the network's commands complete. -/
def Obligations.NetworkCompletes : Prop :=
  (∀ (s : State) (hd : Header) (data : List Byte), stileWindow s.dev hd.addr.toNat = none → requestWaits hd s.dev = false →
    (∀ f, (takeArrived hd s.dev).1 = some f → f.poison = []) →
    ∀ q, q = busWrite (byPacket hd) hd.cls.val hd.addr.toNat data (takeArrived hd s.dev).2 → q.1 ≠ notTaken →
    gives (.writeRequest hd data []) s
      (s.dev.moved ((flushReplies (answerFrom (dstPlace hd) hd q.1 [] [] q.2)).answer q.1 []))) ∧
  -- R172, R179: a response in its turn completes the request it answers; a write's answer is its status alone
  (∀ (s : State) (hd : Header) (data : List Byte) (o : Outst) (p : Part), nodeStile s.dev (dstOf hd) = none →
    flowWaits hd s.dev = false → hd.status.val = 0 → (∀ f, (takeArrived hd s.dev).1 = some f → f.poison = []) →
    answeredBy s.dev hd = some o → o.parts = [p] → p.answer = none → o.addr = hd.addr.toNat → p.addr = o.addr → o.len = lenOf hd →
    (hd.type.val = 2 → o.write = false → ∃ t, exec (.readResponse hd data []) s = .next t ∧
      t.dev.net.done.head? = some (o.src, o.tag, { status := 0, data := exactly (lenOf hd) data }) ∧ o ∉ t.dev.net.outst ∧
      t.dev.regs = s.dev.regs) ∧
    (hd.type.val = 3 → o.write = true → ∃ t, exec (.writeResponse hd) s = .next t ∧
      t.dev.net.done.head? = some (o.src, o.tag, { status := 0, data := [] }) ∧ o ∉ t.dev.net.outst ∧ t.dev.regs = s.dev.regs)) ∧
  -- R169, R170: the flit an output picks leaves by it; one that is a whole packet's tail and leaves by its slot has arrived
  (∀ (s : State) (k : Fin 50) (out : OutPort) (c p i : Nat) (f : Flight), netRuns s.dev (knotHalf (knotOf k.val)) = true →
    forwardPick (knotCycle (knotOf k.val) out s.dev) (knotOf k.val) out = some (c, p, f, i) → (i = 0 → f.hd.type.val ≤ 3) →
    (i = 0 → turnedBack (knotCycle (knotOf k.val) out s.dev) (knotOf k.val) out f = none) →
    gives (.knotForward k out noFlitErr) s (moveFlit (knotOf k.val) out p i f (knotCycle (knotOf k.val) out s.dev)) ∧
    (∀ n : Fin 4, out = .slot n → i + 1 = f.flits → f.hd.dstDev.val = devId s.dev →
      ∃ t, exec (.knotForward k out noFlitErr) s = .next t ∧ t.dev.net.arrived = s.dev.net.arrived ++ [f] ∧
        (∀ g ∈ t.dev.net.flights, g.pid ≠ f.pid) ∧ t.dev.regs = s.dev.regs)) ∧
  -- R178, R182: a header that can go no further is turned back where it is
  (∀ (s : State) (k : Fin 50) (out : OutPort) (c p st : Nat) (f : Flight), netRuns s.dev (knotHalf (knotOf k.val)) = true →
    forwardPick (knotCycle (knotOf k.val) out s.dev) (knotOf k.val) out = some (c, p, f, 0) → f.hd.type.val ≤ 3 →
    turnedBack (knotCycle (knotOf k.val) out s.dev) (knotOf k.val) out f = some st →
    gives (.knotForward k out noFlitErr) s (bounce (vcKey (knotOf k.val) p c) st f (knotCycle (knotOf k.val) out s.dev))) ∧
  (∀ (s : State) (k : Fin 50) (f : Flight), flightOf s.dev f.pid = some f → headerWaits s.dev (knotOf k.val) f = true →
    ageLimit s.dev f.hd.cls.val ≠ 0 → (f.pid, knotOf k.val) ∉ s.dev.net.promoted →
    ∃ t, exec (.agePromotion k f.pid) s = .next t ∧ t.dev.net.promoted = s.dev.net.promoted ++ [(f.pid, knotOf k.val)] ∧
      t.dev.net.flights = s.dev.net.flights ∧ t.dev.net.vcs = s.dev.net.vcs ∧ t.dev.regs = s.dev.regs) ∧
  (∀ (s : State) (src : NodeId) (tag : BitVec 10) (o : Outst), nodeShuttle s.dev src = none →
    s.dev.net.outst.find? (fun o => o.src == src && o.tag == tag.toNat) = some o →
    (∀ k, nodeStile s.dev src = some k → stileRuns s.dev k = true ∧ s.dev.fld (stileCtrl k) 16 16 ≠ 0) →
    ∃ t, exec (.requestTimeout src tag) s = .next t ∧ t.dev.net.done.head? = some (o.src, o.tag, { status := 9, data := [] }) ∧
      o ∉ t.dev.net.outst) ∧
  (∀ (s : State) (st : Fin 128) (addr : BitVec 48) (lenM1 : BitVec 13) (cls : Fin 4) (tag : BitVec 8) (t : Target) (base size : Nat),
    stileReady s.dev st.val tag.toNat
      ⟨stileNode s.dev st.val, tag.toNat, devId s.dev, false, addr.toNat, lenM1.toNat + 1, []⟩ = true →
    netRuns s.dev (knotHalf (stileKnot st.val)) = true →
    windowOf s.dev addr.toNat = some (t, base, size) → t ≠ .dram → addr.toNat + (lenM1.toNat + 1) ≤ base + size →
    halfReach s.dev (stileKnot st.val) (knotHalf (targetPlace s.dev t addr.toNat).1) = true →
    ∃ u f, exec (.stileRequest st false addr lenM1 cls (Fin.ofNat 8 (devId s.dev)) tag []) s = .next u ∧
      u.dev.net.flights = s.dev.net.flights ++ [f] ∧ f.hd.addr = addr ∧ f.hd.type = 0 ∧ f.flits = 1 ∧
      f.hd.mclass = 0 ∧ f.hd.lenM1.val = lenM1.toNat ∧ f.hd.cls = cls ∧ f.hd.tag.val = tag.toNat ∧
      f.hd.dstKnot.val = (targetPlace s.dev t addr.toNat).1 % 128 ∧
      u.dev.net.outst.length = s.dev.net.outst.length + 1) ∧
  (∀ (s : State) (st : Fin 128) (hd : Header) (data : List Byte), flowWaits hd s.dev = false → stileOff s.dev st.val = false →
    s.dev.underLoad (st.val / 4) = false → stileRuns s.dev st.val = true → (inboundOf s.dev st.val).length < 64 →
    heldOf s.dev st.val = [] → tabGet noKept s.dev.net.rspBuf st.val = [] →
    (∀ f, (takeArrived hd s.dev).1 = some f → f.poison = []) →
    s.dev.feeds (st.val / 4) = false → s.dev.replayed (st.val / 4) = false →
    tabWf noHeld s.dev.net.inbound = true → tabWf noHeld s.dev.net.held = true → tabWf noKept s.dev.net.rspBuf = true →
    ∃ t, exec (.stileInbound st hd data) s = .next t ∧
      inboundOf t.dev st.val = inboundOf s.dev st.val ++ [inboundOfPacket hd data []] ∧ t.dev.regs = s.dev.regs) ∧
  (∀ (s : State) (st : Fin 128) (status : BitVec 4) (data : List Byte) (x : Inbound) (rest : List Inbound),
    inboundOf s.dev st.val = x :: rest → stileRuns s.dev st.val = true → status.toNat < 12 → x.bad = false →
    tabWf noHeld s.dev.net.inbound = true →
    ∃ t f, exec (.stileInboundAnswer st status data) s = .next t ∧ inboundOf t.dev st.val = rest ∧
      t.dev.net.flights = s.dev.net.flights ++ [f] ∧ f.hd = respond x.hd status.toNat) ∧
  (∀ (s : State) (st : Fin 128), stileOutst s.dev st.val = [] → tabWf stileWord s.dev.net.stileNow = true →
    ∃ t, exec (.stileCtrlApply st) s = .next t ∧ stileEff t.dev st.val = s.dev.reg (stileCtrl st.val)) ∧
  (∀ (s : State) (h : Half), s.dev.up h = false →
    ∃ t, exec (.halfLossDetect h) s = .next t ∧ t.dev.mem = s.dev.mem ∧
      ∀ key, knotHalf (vcKnot key) = h → (t.dev.vc key).runs = []) ∧
  (∀ (s : State) (h : Half) (o : Outst) (p : Part), s.dev.up h = false → s.dev.net.outst = [o] → o.parts = [p] → p.half = h →
    p.entered = false → p.answer = none → knotHalf o.src.knot.val ≠ h → nodeStile s.dev o.src = none →
    ∃ t, exec (.halfDownSweep h) s = .next t ∧ t.dev.net.outst = [] ∧
      t.dev.net.done.head? = some (o.src, o.tag, { status := 4, data := [] }))

/-! ### Lark time -/

/-- R203 rule 1: the phase reference selected is a qualified one of those allowed, with the lowest prio, ties going to the lower n;
none is selected only where no entry qualifies. -/
def Obligations.ReferenceSelection : Prop :=
  ∀ (d : Device) (h : Half) (p : Nat → Bool),
    (∀ n, bestRef d h p = some n → n < 8 ∧ qualified d h n = true ∧ p n = true ∧
      ∀ m, m < 8 → qualified d h m = true → p m = true →
        refPrio d n < refPrio d m ∨ (refPrio d n = refPrio d m ∧ n ≤ m)) ∧
    (bestRef d h p = none → ∀ m, m < 8 → ¬ (qualified d h m = true ∧ p m = true))

/-- R196, R197: on every valid grid the symbols of a subframe follow one another without a gap and fill its 1,920 × 2^k samples,
which last one millisecond, and the coordinate shown at any time is one that the grid has. -/
def Obligations.GridCoordinates : Prop :=
  ∀ g : Grid, gridValid g = true →
    symStart g 0 = 0 ∧ (∀ j, j < subSyms g → symStart g j < symStart g (j + 1)) ∧ symStart g (subSyms g) = 1920 * 2 ^ g.k ∧
    sampTime g (1920 * 2 ^ g.k) = tMs ∧
    (g.en = true → ∀ t, coordOk g (gridNow g t) = true ∧ gridNow g t < 2 ^ 40) ∧
    (g.en = false → ∀ t, gridNow g t = 0)

/-- R193: a read of FRAC shows the time of one edge in all four registers and changes no other register; R194: an accepted set
loads the LRK_SET value at the next whole second and counts a step in both Larks' registers, while a refused one sets set_err. -/
def Obligations.TimeReadAndSet : Prop :=
  ∀ (s : State) (h : Half), tabWf regDefault s.dev.regs = true →
    (∃ t, exec (.timeFracRead h) s = .next t ∧ t.dev.lark h = s.dev.lark h ∧
      t.dev.reg (lrkA h 0x10) = BitVec.ofNat 32 (timeFrac (s.dev.now h)) ∧
      t.dev.reg (lrkA h 0x14) = BitVec.ofNat 32 (timeNs (s.dev.now h)) ∧
      t.dev.reg (lrkA h 0x18) = BitVec.ofNat 32 (timeSec (s.dev.now h)) ∧
      t.dev.reg (lrkA h 0x1C) = BitVec.ofNat 32 (timeSec (s.dev.now h) / 2 ^ 32 % 65536) ∧
      ∀ a, a ≠ lrkA h 0x10 → a ≠ lrkA h 0x14 → a ≠ lrkA h 0x18 → a ≠ lrkA h 0x1C → t.dev.reg a = s.dev.reg a) ∧
    (setTimeOk s.dev h = true → ∃ t, exec (.setTime h) s = .next t ∧ (t.dev.lark (setTarget s.dev h)).setArmed = true ∧
      t.dev.regs = s.dev.regs) ∧
    (setTimeOk s.dev h = false → ∃ t, exec (.setTime h) s = .next t ∧ t.dev.bit (statA h) 13 = true ∧ t.dev.time = s.dev.time ∧
      ∀ a, a ≠ statA h → t.dev.reg a = s.dev.reg a) ∧
    ((s.dev.lark h).setArmed = true → s.dev.larkSplit = true →
      ∃ t, exec (.setTimeApply h) s = .next t ∧ (t.dev.lark h).time = setValue s.dev ∧ (t.dev.lark h).setArmed = false ∧
        t.dev.fld (statA h) 0 8 = (s.dev.fld (statA h) 0 8 + 1) % 256 ∧
        t.dev.lark (otherHalf h) = s.dev.lark (otherHalf h)) ∧
    ((s.dev.lark h).setArmed = false → exec (.setTimeApply h) s = .next s)

/-- Where the Lark's commands complete, and what each leaves. -/
def Obligations.LarkCompletes : Prop :=
  ∀ (s : State) (h : Half), tabWf regDefault s.dev.regs = true →
    -- R216: take-leadership of an aligned follower asks for the swap; an unaligned one sets set_err; the leader ignores it
    (s.dev.leads h = false → s.dev.larkSplit = false → s.dev.aligned h = true →
      gives (.takeLeadership h) s { s.dev with time := { s.dev.time with disc := { s.dev.time.disc with swapReq := true } } }) ∧
    (s.dev.leads h = false → s.dev.larkSplit = false → s.dev.aligned h = false →
      gives (.takeLeadership h) s (s.dev.setBit (statA h) 13)) ∧
    (s.dev.leads h = true → gives (.takeLeadership h) s s.dev) ∧
    (s.dev.time.disc.swapReq = true → s.dev.larkSplit = false → bothOn s.dev = true → s.dev.leader = h →
      s.dev.aligned (otherHalf h) = true →
      gives .leadershipSwap s (s.dev.updated ((showHours (otherHalf h) (((leadTo (otherHalf h)
        { s.dev with time := { s.dev.time with disc := { s.dev.time.disc with swapReq := false } } }).putBit
          (statA (otherHalf h)) 25 false).setBit (statA h) 25)).showStates))) ∧
    -- R214
    (s.dev.timeState h = 2 → ∃ t, exec (.clearLearning h) s = .next t ∧ (t.dev.lark h).model = none ∧ (t.dev.lark h).bins = [] ∧
      (t.dev.lark h).hours = 0 ∧ (t.dev.lark h).time = (s.dev.lark h).time ∧ t.dev.time.disc = s.dev.time.disc) ∧
    -- R202: every check met
    (∀ n : Fin 8, s.dev.leaders = [h] → refEn s.dev n.val = true → refKind s.dev n.val = 2 → qualified s.dev h n.val = false →
      refSourceOk s.dev n.val = true →
      gives (.refQualified n) s (s.dev.updated (select h (s.dev.setBit (refStatA s.dev h n.val) 31)))) ∧
    (∀ n c : Fin 8, s.dev.leaders = [h] → qualified s.dev h n.val = true →
      gives (.refDisqualified n c) s (s.dev.updated (disqualify h n.val c.val s.dev))) ∧
    (∀ (n : Fin 8) (v : BitVec 32), s.dev.leaders = [h] → (s.dev.reg (refA n.val) ^^^ (v &&& 0xFFFFC000)) &&& 0xF0FFC000 = 0 →
      gives (.refConfigWrite n v) s (s.dev.updated (select h (s.dev.setReg (refA n.val) (v &&& 0xFFFFC000))))) ∧
    (∀ n m : Fin 8, s.dev.leaders = [h] → s.dev.bit (lrkWide 0) 3 = true → qualified s.dev h n.val = true → isPhase s.dev n.val = true →
      phaseRef s.dev h = some m.val → refPrio s.dev n.val < refPrio s.dev m.val →
      gives (.revertiveSwitch n) s (s.dev.updated (select h (choosePhase h (some n.val) s.dev)))) ∧
    -- R200, R201: the samples that references give
    (∀ n : Fin 8, s.dev.leaders = [h] → s.dev.larkSplit = false → refEn s.dev n.val = true → refKind s.dev n.val = 1 →
      s.dev.bit (refA n.val) 15 = false → refHalf s.dev n.val = some h → s.dev.up h = true → s.dev.timeState h ≠ 0 →
      gives (.ppsEdge n true) s (s.dev.updated (addSample h n.val (ppsError (quarter (s.dev.now h)) (refDly s.dev n.val)) (quarter (s.dev.now h))
        (s.dev.setRef h n.val { s.dev.ref h n.val with edgeAt := some (quarter (s.dev.now h)) })))) ∧
    (∀ (u : Fin 2) (sec : Nat), s.dev.bit (lrkWide 0x30) 16 = true → s.dev.leaders = [h] →
      (∀ n, n < 8 → (refEn s.dev n && refKind s.dev n == 0 && refSrc s.dev n == u.val) = decide (n = 0)) →
      s.dev.bit (refA 0) 14 = true →
      gives (.gnssSentence u sec) s (s.dev.updated (s.dev.setRef h 0 { s.dev.ref h 0 with
        label := some ((sec : Int) + signed 16 (s.dev.fld (lrkWide 0x30) 0 16)).toNat }))) ∧
    (∀ (n : Fin 8) (t1 t2 t3 t4 : Nat), refHalf s.dev n.val = some h → s.dev.leaders = [h] → s.dev.larkSplit = false →
      refEn s.dev n.val = true → refKind s.dev n.val = 2 →
      gives (.ptpSync n t1 t2 t3 ⟨t4, none⟩) s (addSample h n.val
        ((((t2 : Int) - t1) - ((t4 : Int) - t3)) / 2 + refDly s.dev n.val) (s.dev.now h) s.dev) ∧
      -- an announce message of the qualified reference fills LRK_UTC
      (qualified s.dev h n.val = true → ∀ v : BitVec 16, ∃ t, exec (.ptpSync n t1 t2 t3 ⟨t4, some v⟩) s = .next t ∧
        t.dev.reg (lrkWide 0x30) = 0x10000 ||| v.setWidth 32 ∧ ∀ a, a ≠ lrkWide 0x30 → t.dev.reg a = s.dev.reg a)) ∧
    (s.dev.leaders = [h] → gives .phaseSample s (s.dev.updated (phaseOne h s.dev))) ∧
    -- R210: learning, only while Locked with a phase reference
    (learning s.dev h = true → ∀ f x : Int,
      (∃ t, exec (.learnBin h f x) s = .next t ∧ t.dev.time.disc = s.dev.time.disc ∧
        (⟨f, x, timeSec (s.dev.now h)⟩ : Bin) ∈ (t.dev.lark h).bins ∧
        (t.dev.lark h).bins.length ≤ 5400) ∧
      (∃ t, exec (.learnHour h) s = .next t ∧ (t.dev.lark h).hours = sat 65535 ((s.dev.lark h).hours + 1)) ∧
      (∀ m, fitModel (s.dev.lark h) = some m → (s.dev.lark h).fromSaved = false →
        gives (.modelFit h) s (modelEval h (s.dev.setLark h { s.dev.lark h with model := some m, fromSaved := false })))) ∧
    (learning s.dev h = false → ∀ f x : Int, exec (.learnBin h f x) s = .next s ∧ exec (.learnHour h) s = .next s ∧
      exec (.modelFit h) s = .next s) ∧
    -- R212
    (s.dev.leads h = true → s.dev.timeState h = 3 → modelValid s.dev h = false → freqRef s.dev h = none →
      s.dev.larkSplit = false → ∀ p, p = predErr s.dev h ((s.dev.now h - (s.dev.disc h).holdAt.getD (s.dev.now h)) / tSec) →
      p ≤ s.dev.fld (lrkWide 0xE0) 16 16 →
      ∃ t, exec (.holdoverPredict h) s = .next t ∧ t.dev.reg (lrkWide 0xE8) = BitVec.ofNat 32 p ∧ t.dev.timeState h = 3) ∧
    -- R215: each temperature source's coefficients and standard errors, with learn_hours
    (∃ t, exec (.modelSave h) s = .next t ∧ t.dev.regs = s.dev.regs ∧
      (∀ m : Model, (s.dev.lark h).model = some m → ∃ m' : Model,
        (let x := (match h with
          | .w => t.dev.time.savedW
          | .e => t.dev.time.savedE)
         if tempSrc s.dev then x.sensor else x.die) = some m' ∧
        m'.c0 = m.c0 ∧ m'.c1 = m.c1 ∧ m'.c2 = m.c2 ∧ m'.c3 = m.c3 ∧ m'.se0 = m.se0 ∧ m'.seA = m.seA ∧ m'.se2 = m.se2 ∧
        m'.se3 = m.se3 ∧ m'.hours = (s.dev.lark h).hours)) ∧
    (∀ x : Int, tempSrc s.dev = false →
      gives (.tempRead h x) s ((s.dev.setLark h { s.dev.lark h with temp := x }).putBit (statA h) 16 false)) ∧
    (tempSrc s.dev = true → gives (.tempLost h) s (s.dev.setBit (statA h) 16)) ∧
    (tempSrc s.dev = false → exec (.tempLost h) s = .next s) ∧
    -- R216: within ±0.5 ns the follower takes the leader's time and is aligned
    (bothOn s.dev = true → s.dev.larkSplit = false → s.dev.leader = h → ∀ f, f = otherHalf h → s.dev.aligned f = true →
      (((s.dev.lark f).time : Int) - ((s.dev.lark h).time : Int)).natAbs ≤ alignTol →
      gives .timeExchange s (s.dev.updated (((s.dev.setLark f { s.dev.lark f with time := (s.dev.lark h).time, steer := (s.dev.lark h).steer }).putBit
        (statA f) 25 true).putBit (statA h) 25 false).showStates)) ∧
    -- R217
    (∀ (b : BitVec 8) (e : Int), 1000 < e.natAbs →
      gives (.threadTimeWord h b e) s (s.dev.fault h 0x4A (256 * hn h + b.toNat) (unsign 16 (e / 1000)))) ∧
    (∀ (b : BitVec 8) (e : Int), e.natAbs ≤ 1000 → exec (.threadTimeWord h b e) s = .next s) ∧
    -- R220
    (∀ (j : Fin 8) (up : Bool), s.dev.bit (lrkA h 0x140) j.val = true → s.dev.bobTakes h = false →
      ((s.dev.lark h).caps.length < 64 → ∃ t, exec (.captureEdge h j up) s = .next t ∧
        (t.dev.lark h).caps = (s.dev.lark h).caps ++ [⟨j.val, up, quarter (s.dev.now h)⟩] ∧ t.dev.regs = s.dev.regs) ∧
      (64 ≤ (s.dev.lark h).caps.length → ∃ t, exec (.captureEdge h j up) s = .next t ∧ t.dev.time = s.dev.time ∧
        t.dev.regs = (s.dev.setBit (statA h) 14).regs)) ∧
    (∀ (c : Capture) (cs : List Capture), (s.dev.lark h).caps = c :: cs →
      ∃ t, exec (.capturePop h) s = .next t ∧ (t.dev.lark h).caps = cs ∧
        t.dev.reg (lrkA h 0x148) = BitVec.ofNat 32 (timeNs c.time) ∧
        ∀ a, (a < lrkA h 0x144 ∨ lrkA h 0x154 ≤ a) → t.dev.reg a = s.dev.reg a) ∧
    -- R219
    (s.dev.larkSplit = false → bothOn s.dev = true →
      gives .seamTimePairLoss s (s.dev.updated (timePairLoss s.dev)) ∧ (timePairLoss s.dev).larkSplit = true)

/-! ### Calendar -/

/-- R230: an absolute trigger means the one time in [now − 2^31 s, now + 2^31 s) whose seconds [31:0] are sec_lo and whose rest is ns
and qtr: absTime is such a time, and no other is. -/
def Obligations.AbsoluteTrigger : Prop :=
  ∀ (now : Nat) (e : BitVec 128), eBits e 66 30 ≤ 999999999 → ∀ T : Int,
    (T = absTime now e ↔
      (now : Int) - 2 ^ 31 * (tSec : Int) ≤ T ∧ T < (now : Int) + 2 ^ 31 * (tSec : Int) ∧
      T / (tSec : Int) % 2 ^ 32 = (eBits e 96 32 : Int) ∧
      T % (tSec : Int) = ((eBits e 66 30 * 65536 + eBits e 64 2 * 16384 : Nat) : Int))

/-- R239, R240: the dispatcher takes the next occurrence no earlier than 2,000 ns before its time; one it takes later than 250 ns
before its time, though it was armed in time for that, is late: counted, reported, and dropped unless its entry has late_ok or is a wake. Delivered occurrences wait in order of time, and those of
one time in order of index: delivering one keeps the order and loses none. -/
def Obligations.OccurrenceDelivery : Prop :=
  (∀ (s : State) (h : Half) (t : Int) (i : Nat) (x : Arm), tabWf regDefault s.dev.regs = true → nextOcc s.dev h = some (t, i, x) →
    actFed h x.entry s.dev = false → x.miss = false → (x.made : Int) ≤ t - 250 * 65536 →
    ((s.dev.now h : Int) < t - 2000 * 65536 → exec (.occurrenceDeliver h) s = .next s) ∧
    (t - 2000 * 65536 ≤ (s.dev.now h : Int) → (s.dev.now h : Int) ≤ t - 250 * 65536 →
      (if (s.dev.cal h).usNow = s.dev.now h / tUs then (s.dev.cal h).usCount else 0) < 256 → (s.dev.cal h).waiting.length < 1024 →
      ∃ u, exec (.occurrenceDeliver h) s = .next u ∧ u.dev.regs = s.dev.regs ∧
        (u.dev.cal h).waiting = occInsert ⟨i, t.toNat, x.entry, false, x.cur⟩ (s.dev.cal h).waiting) ∧
    (t - 250 * 65536 < (s.dev.now h : Int) → lateActs x.entry = false → s.dev.fld (bobA 0) 0 16 = 0 →
      (s.dev.fifo h).length < 1024 →
      ∃ u, exec (.occurrenceDeliver h) s = .next u ∧ (u.dev.cal h).waiting = (s.dev.cal h).waiting ∧
        u.dev.bit (calStat h) 28 = true ∧ u.dev.fld (calStat h) 0 16 = i % 65536 ∧
        u.dev.reg (lrkA h 0x234) = s.dev.reg (lrkA h 0x234) + 1 ∧ u.dev.reg (lrkA h 0x238) = s.dev.reg (lrkA h 0x238) + 1 ∧
        u.dev.fifo h = s.dev.fifo h ++ [⟨0x49, hn h * 65536 + i, 1, s.dev.now h⟩])) ∧
  (∀ (o : Occ) (xs : List Occ),
    xs.Pairwise (fun a b => a.time < b.time ∨ (a.time = b.time ∧ a.idx ≤ b.idx)) →
    (occInsert o xs).Pairwise (fun a b => a.time < b.time ∨ (a.time = b.time ∧ a.idx ≤ b.idx)) ∧
    (occInsert o xs).Perm (o :: xs))

/-- R228, R238, R246: the calendar commands work on the entry that IDX names, for Thimble only; a refused write is stored with valid 0
and sets write_err. -/
def Obligations.CalendarCommands : Prop :=
  ∀ (s : State) (h : Half) (mc : MClass), tabWf regDefault s.dev.regs = true →
    tabWf zero128 (s.dev.cal h).entries = true → s.dev.bit (lrkA h 0x200) 16 = false →
    inActive s.dev h (calIdx s.dev h) = false →
    (mc.val ≠ 3 → exec (.calendarWrite h mc) s = .next { s with dev := s.dev.answer 8 [] } ∧
      exec (.calendarRead h mc) s = .next { s with dev := s.dev.answer 8 [] } ∧
      exec (.calendarClearValid h mc) s = .next { s with dev := s.dev.answer 8 [] }) ∧
    (mc.val = 3 →
      (entryRefused s.dev (entryAt s.dev (lrkA h 0x210)) = false →
        ∃ t, exec (.calendarWrite h mc) s = .next t ∧ t.dev.rsp.status = 0 ∧ t.dev.regs = s.dev.regs ∧
          t.dev.entry h (calIdx s.dev h) = eStored (entryAt s.dev (lrkA h 0x210)) ∧
          ∀ i, i ≠ calIdx s.dev h → t.dev.entry h i = s.dev.entry h i) ∧
      (entryRefused s.dev (entryAt s.dev (lrkA h 0x210)) = true → eValid (entryAt s.dev (lrkA h 0x210)) = true →
        ∃ t, exec (.calendarWrite h mc) s = .next t ∧ t.dev.rsp.status = 0 ∧ t.dev.bit (calStat h) 30 = true ∧
          t.dev.entry h (calIdx s.dev h) = eStored (invalid (entryAt s.dev (lrkA h 0x210)))) ∧
      (∃ t, exec (.calendarRead h mc) s = .next t ∧ t.dev.rsp.status = 0 ∧ t.dev.time = s.dev.time ∧
        entryAt t.dev (lrkA h 0x220) = s.dev.entry h (calIdx s.dev h) ∧
        ∀ a, a ≠ lrkA h 0x220 → a ≠ lrkA h 0x224 → a ≠ lrkA h 0x228 → a ≠ lrkA h 0x22C → t.dev.reg a = s.dev.reg a) ∧
      (∃ t, exec (.calendarClearValid h mc) s = .next t ∧ t.dev.rsp.status = 0 ∧ t.dev.regs = s.dev.regs ∧
        t.dev.entry h (calIdx s.dev h) = invalid (s.dev.entry h (calIdx s.dev h))))

/-- R198, R242 to R244: grids and channels: a first configuration applies at once and a later one waits for its boundary; a refused
set sets ch_err and changes nothing else; an accepted one waits for the first hand-over point whose hand-over cycle, 2,000 ns before it,
is yet to come, and takes effect at that point. -/
def Obligations.GridsAndChannels : Prop :=
  ∀ (s : State) (h : Half) (c : Fin 32) (v : BitVec 32), tabWf regDefault s.dev.regs = true →
    tabWf chanReset08 (s.dev.cal h).chans = true → tabWf gridReset s.dev.time.grids = true → tabWf noGridPend s.dev.time.gridPend = true →
    (∀ g : Fin 4, v.getLsbD 29 = false → gridValid (gridOf v (s.dev.reg (gridCfgA g.val + 4))) = true →
      ((s.dev.grid g.val).en = false → ∃ t, exec (.gridCfgWrite g v) s = .next t ∧
        t.dev.grid g.val = gridOf v (s.dev.reg (gridCfgA g.val + 4)) ∧ t.dev.bit (gridCfgA g.val) 30 = false) ∧
      ((s.dev.grid g.val).en = true → ∃ t, exec (.gridCfgWrite g v) s = .next t ∧ t.dev.time.grids = s.dev.time.grids ∧
        tabGet noGridPend t.dev.time.gridPend g.val = some (v, s.dev.reg (gridCfgA g.val + 4)) ∧
        t.dev.bit (gridCfgA g.val) 30 = true)) ∧
    (∀ (g : Fin 4) (c o : Word), tabGet noGridPend s.dev.time.gridPend g.val = some (c, o) →
      ∃ t, exec (.gridConfigApply g) s = .next t ∧ t.dev.grid g.val = gridOf c o ∧ tabGet noGridPend t.dev.time.gridPend g.val = none ∧
        t.dev.bit (gridCfgA g.val) 30 = false) ∧
    (chanRefused s.dev h c.val (v &&& 0x9F000000) = true →
      ∃ t, exec (.channelStage h c 3 v none) s = .next t ∧ t.dev.bit (calStat h) 25 = true ∧ t.dev.time = s.dev.time ∧
        ∀ a, a ≠ calStat h → t.dev.reg a = s.dev.reg a) ∧
    -- R590: an 8-byte write carries out the range register's half first
    (∀ r : BitVec 32, exec (.channelStage h c 3 v (some r)) s =
      exec (.channelStage h c 3 v none) { s with dev := s.dev.setReg (chanCtlA h c.val 0) r }) ∧
    (chanRefused s.dev h c.val (v &&& 0x9F000000) = false → s.dev.now h < cycleEnd s.dev h →
      ∃ t, exec (.channelStage h c 3 v none) s = .next t ∧ t.dev.bit (chanCtlA h c.val 8) 31 = true ∧
        t.dev.reg (chanCtlA h c.val 4) = v &&& 0x9F000000 ∧
        (t.dev.chan08 h c.val).staged = some (stagedNow s.dev h (s.dev.reg (chanCtlA h c.val 0)) (v &&& 0x9F000000))) ∧
    (∀ (x : Staged) (H : Nat), (s.dev.chan08 h c.val).decided = some (x, H) →
      (s.dev.now h < H → exec (.channelCommit h c) s = .next s) ∧
      (H ≤ s.dev.now h → (s.dev.chan08 h c.val).staged = none →
        ∃ t, exec (.channelCommit h c) s = .next t ∧ (t.dev.chan08 h c.val).decided = none ∧
          t.dev.bit (chanCtlA h c.val 8) 29 = x.ctl.getLsbD 31 ∧ t.dev.bit (chanCtlA h c.val 8) 30 = x.held ∧
          t.dev.bit (chanCtlA h c.val 8) 31 = false ∧ t.dev.reg (chanCtlA h c.val 12) = x.range ∧
          (s.dev.bit (chanCtlA h c.val 8) 29 = false → t.dev.fld (chanCtlA h c.val 8) 16 8 = 0))) ∧
    (s.dev.bit (chanCtlA h c.val 8) 29 = true → ∃ t, exec (.handOverPoint h c) s = .next t ∧
      t.dev.fld (chanCtlA h c.val 8) 16 8 = (s.dev.fld (chanCtlA h c.val 8) 16 8 + 1) % 256 ∧ t.dev.time = s.dev.time ∧
      ∀ a, a ≠ chanCtlA h c.val 8 → t.dev.reg a = s.dev.reg a)

/-- R231 to R234: an action that is due and reaches its target takes effect there, with nothing left of its occurrence; one that does
not reach it is dropped, with target_drop and its count. -/
def Obligations.CalendarActions : Prop :=
  ∀ (s : State) (h : Half) (o : Occ) (rest : List Occ), (s.dev.cal h).waiting = o :: rest →
    actTime s.dev h o ≤ s.dev.now h → s.dev.up h = true → eUnit o.entry ≠ 0 → ∀ d, d = s.dev.setCal h { s.dev.cal h with waiting := rest } →
    (∀ f t : Fin 16, eClass o.entry = 1 → eIndex o.entry = 16 * f.val + t.val → eAction o.entry = 0 →
      (s.dev.domOn (16 * hn h + f.val) = true → gives (.calTick h f t) s (tickSend (16 * hn h + f.val) t.val d)) ∧
      (s.dev.domOn (16 * hn h + f.val) = false → gives (.calTick h f t) s (occDrop h 27 o d))) ∧
    (∀ e : Fin 768, eClass o.entry = 2 → eIndex o.entry = e.val → s.dev.domOn ((768 * hn h + e.val) / 48) = true →
      (s.dev.engine (768 * hn h + e.val)).ctrl.getLsbD 4 = true →
      (∀ a : BitVec 24, eAction o.entry = 0 → eArg o.entry = a.toNat →
        gives (.calCloverStart h e a) s (askStart (768 * hn h + e.val) (calStartPc (s.dev.engine (768 * hn h + e.val)) a.toNat) d)) ∧
      (eAction o.entry = 1 → gives (.calCloverStop h e) s (askStop (768 * hn h + e.val) d)) ∧
      (eAction o.entry = 2 → gives (.calCloverResume h e) s (askResume (768 * hn h + e.val) d))) ∧
    (∀ (n : Fin 8) (q : BitVec 20), eClass o.entry = 3 → eIndex o.entry = n.val → eAction o.entry = 0 → bitsAt (eArg o.entry) 0 20 = q.toNat →
      s.dev.domOn (52 + hn h) = true → gives (.calShuttleKick h n q) s (s.dev.updated (calKick (8 * hn h + n.val) q.toNat d))) ∧
    (∀ p : Fin 192, eClass o.entry = 4 → eIndex o.entry = p.val → pinFollows s.dev (pinBank h p.val) (p.val % 48) = true →
      tabWf pinReset s.dev.pins = true →
      ∀ x, x = s.dev.pin (pinBank h p.val) (p.val % 48) → ∀ T, T = actTime s.dev h o →
      -- an edge too close to the last, or a second action of one time
      (eAction o.entry = 2 → pinRival h p.val (pinBank h p.val) (p.val % 48) o T d = true ∨ (∃ l, x.lastEdge = some l ∧ T < l + 4 * 65536) →
        gives (.calPinToggle h p) s (occDrop h 26 o d)) ∧
      (pinRival h p.val (pinBank h p.val) (p.val % 48) o T d = false → (∀ l, x.lastEdge = some l → l + 4 * 65536 ≤ T) →
        (eAction o.entry = 0 → x.level = true → ∃ t, exec (.calPinDriveLow h p) s = .next t ∧ t.dev.regs = s.dev.regs ∧
          t.dev.pin (pinBank h p.val) (p.val % 48) = { x with level := false, lastEdge := some T, lastAct := some T }) ∧
        (eAction o.entry = 1 → x.level = false → ∃ t, exec (.calPinDriveHigh h p) s = .next t ∧ t.dev.regs = s.dev.regs ∧
          t.dev.pin (pinBank h p.val) (p.val % 48) = { x with level := true, lastEdge := some T, lastAct := some T }) ∧
        (eAction o.entry = 2 → ∃ t, exec (.calPinToggle h p) s = .next t ∧ t.dev.regs = s.dev.regs ∧
          t.dev.pin (pinBank h p.val) (p.val % 48) = { x with level := !x.level, lastEdge := some T, lastAct := some T }) ∧
        (∀ a : BitVec 24, eAction o.entry = 3 → eArg o.entry = a.toNat → x.level = false →
          ∃ t, exec (.calPinPulse h p a) s = .next t ∧ t.dev.regs = s.dev.regs ∧
            t.dev.pin (pinBank h p.val) (p.val % 48) = { x with level := true, lastEdge := some T, lastAct := some T, pulseEnds := x.pulseEnds ++ [(T + a.toNat * 16384, o.idx)] }))) ∧
    (∀ l : Fin 72, eClass o.entry = 5 → eIndex o.entry = l.val → s.dev.domOn (laneDomain (72 * hn h + l.val)) = true →
      (eAction o.entry = 0 → gives (.calLaneExitIdle h l) s (idleCmd (72 * hn h + l.val) false d)) ∧
      (eAction o.entry = 1 → gives (.calLaneEnterIdle h l) s (idleCmd (72 * hn h + l.val) true d))) ∧
    (∀ (j : Fin 4) (ofs : Int), eClass o.entry = 6 → eIndex o.entry = j.val → eAction o.entry = 0 → s.dev.domOn (60 + hn h) = true →
      gives (.calSysref h j ofs) s (sysref (4 * hn h + j.val) ofs d)) ∧
    (eClass o.entry = 7 → eIndex o.entry = 0 →
      (∀ a : BitVec 24, eAction o.entry = 0 → eArg o.entry = a.toNat →
        gives (.calBobbinMarker h a) s (d.bobRecord h (recOf 4 (leBytes a.toNat 3 ++ [0, 0, 0] ++ recTime o.time)))) ∧
      (eAction o.entry = 1 → gives (.calBobbinTrigger h) s (d.bobTrigger 1))) ∧
    (eClass o.entry = 8 → eIndex o.entry = 0 → eAction o.entry = 0 → gives (.calWake h) s (s.dev.moved (wakeStart d))) ∧
    (∀ (p : Fin 192) (t i : Nat), (s.dev.pin (pinBank h p.val) (p.val % 48)).pulseEnds = [(t, i)] → t ≤ s.dev.now h →
      (s.dev.pin (pinBank h p.val) (p.val % 48)).level = true → tabWf pinReset s.dev.pins = true →
      (∀ l, (s.dev.pin (pinBank h p.val) (p.val % 48)).lastEdge = some l → l + 4 * 65536 ≤ t) →
      ∃ u, exec (.pinPulseEnd h p) s = .next u ∧ (u.dev.pin (pinBank h p.val) (p.val % 48)).level = false ∧
        (u.dev.pin (pinBank h p.val) (p.val % 48)).pulseEnds = [] ∧ u.dev.regs = s.dev.regs)

/-! ### Clocks, resets and power -/

/-- R253 to R256, R260 to R266: where the commands of PLLs and clocks complete, and what they leave. -/
def Obligations.ClocksComplete : Prop :=
  ∀ s : State, tabWf regDefault s.dev.regs = true → tabWf pllReset s.dev.clk.plls = true →
    (∀ n : Fin 16, ∀ x, x = s.dev.pll n.val →
      (∀ (fb : Bool) (v : BitVec 24), ∃ t, exec (.pllFracChange n fb v) s = .next t ∧
        t.dev.reg (pllA n.val (if fb then 0x10 else 8)) = v.setWidth 32 ∧
        ∀ a, a ≠ pllA n.val (if fb then 0x10 else 8) → t.dev.reg a = s.dev.reg a) ∧
      -- the primary of a PLL that runs on it is lost: the switch to a good fallback begins
      (pllOn s.dev n.val = true → pllOnFb s.dev n.val = false → pllFbEn s.dev n.val = true → x.fbGood = true → x.target = none →
        s.dev.bit (pllStat n.val) 31 = true →
        ∃ t, exec (.pllInputLoss (Fin.ofNat 18 n.val) false) s = .next t ∧
          t.dev.pll n.val = { x with priGood := false, priLost := true, target := some true } ∧
          t.dev.bit (pllStat n.val) 28 = false ∧ t.dev.bit (pllStat n.val) 26 = true ∧ t.dev.bit (pllStat n.val) 31 = true) ∧
      -- the switch ends on a good fallback
      (x.target = some true → x.fbGood = true → pllFbEn s.dev n.val = true → x.priGood = false → s.dev.fld (bobA 0) 0 16 = 0 → (s.dev.fifo (pllHalf n.val)).length < 1024 →
        ∃ t, exec (.pllSwitchComplete (Fin.ofNat 18 n.val)) s = .next t ∧ t.dev.pll n.val = { x with target := none } ∧
          t.dev.bit (pllStat n.val) 30 = true ∧ t.dev.bit (pllStat n.val) 31 = true ∧ t.dev.bit (pllStat n.val) 26 = false ∧
          t.dev.fifo (pllHalf n.val) = s.dev.fifo (pllHalf n.val) ++ [⟨0x40, n.val, 0, s.dev.now (pllHalf n.val)⟩]) ∧
      -- the primary of a revertive PLL is good again
      (pllOn s.dev n.val = true → s.dev.bit (pllStat n.val) 31 = true → pllOnFb s.dev n.val = true → x.target = none →
        pllRevertive s.dev n.val = true → pllForceFb s.dev n.val = false →
        ∃ t, exec (.pllInputGood (Fin.ofNat 18 n.val) false) s = .next t ∧
          t.dev.pll n.val = { x with priGood := true, priLost := false, target := some false, back := false } ∧ t.dev.bit (pllStat n.val) 28 = true) ∧
      (pllOn s.dev n.val = true → x.target = none → pllOnFb s.dev n.val = false → pllFbEn s.dev n.val = true → x.fbGood = true →
        s.dev.bit (pllStat n.val) 31 = true →
        ∃ t, exec (.forceFallback n true) s = .next t ∧ t.dev.pll n.val = { x with target := some true, back := false } ∧
          t.dev.bit (pllA n.val 0) 28 = true) ∧
      -- a dead PLL that one field uses: the field is forced, and the device is in Safe hold
      (∀ f : Fin 32, pllOn s.dev n.val = true → pllDeadBit s.dev n.val = false → s.dev.sys.resetSeq = none →
        (∀ p k, p < 16 → k < 64 → usesPll s.dev p k = decide (p = n.val ∧ k = f.val)) → s.dev.up .w = true → s.dev.up .e = true →
        s.dev.trans f.val = none → s.dev.domState f.val ≠ 3 → s.dev.sys.mode = .running → s.dev.replayed f.val = false → s.dev.forced f.val = false →
        ∃ t, exec (.pllDead n) s = .next t ∧ t.dev.bit (pllStat n.val) 29 = true ∧ t.dev.bit (pllStat n.val) 31 = false ∧
          t.dev.forced f.val = true ∧ t.dev.modeCode = 5) ∧
      -- a write that sets en with the limits met, and one that does not meet them
      (∀ (v : BitVec 32) (pri fb : Nat), s.dev.bit (pllA n.val 0) 31 = false → v.getLsbD 31 = true → pllInUse s.dev n.val = false →
        (pllLimits s.dev n.val pri 4 8 && pllLimits s.dev n.val fb 0xC 0x10) = true → x.priGood = true →
        s.dev.bit (pllStat n.val) 31 = false →
        ∃ t, exec (.pllEnable n v pri fb) s = .next t ∧ t.dev.bit (pllA n.val 0) 31 = true ∧ t.dev.bit (pllStat n.val) 31 = true) ∧
      (∀ (v : BitVec 32) (pri fb : Nat), s.dev.bit (pllA n.val 0) 31 = false → v.getLsbD 31 = true → pllInUse s.dev n.val = false →
        (pllLimits s.dev n.val pri 4 8 && pllLimits s.dev n.val fb 0xC 0x10) = false →
        ∃ t, exec (.pllEnable n v pri fb) s = .next t ∧ t.dev.bit (pllA n.val 0) 31 = false ∧ t.dev.bit (pllStat n.val) 2 = true)) ∧
    (∀ n : Fin 64, s.dev.forced n.val = true → (∀ p, p < 16 → usesPll s.dev p n.val = true → s.dev.bit (pllStat p) 31 = true) →
      usesDead s.dev n.val = false → s.dev.up (halfOfDomain n.val) = true →
      gives (.domainClockRelease n) s (s.dev.moved (releaseDomain n.val s.dev))) ∧
    (∀ h : Half, s.dev.up h = true → s.dev.sys.resetSeq = none → (s.dev.pll (16 + hn h)).priGood = false →
      (s.dev.pll (16 + hn h)).fbGood = false → s.dev.sys.primary ≠ h →
      ∃ t, exec (.halfClockLoss h) s = .next t ∧ t.dev.up h = false ∧ t.dev.up (otherHalf h) = s.dev.up (otherHalf h) ∧
        t.dev.sys.primary = s.dev.sys.primary) ∧
    (∀ (f : Fin 32) (r : Fin 12), tabWf noNat s.dev.clk.rclkOld = true → tabWf noNat s.dev.clk.rclkDiv = true →
      (∀ v : BitVec 32, (∀ p, p < 16 → pllDeadBit s.dev p = false) → s.dev.up (halfOfField f.val) = true → s.dev.sys.mode ≠ .loading →
        fieldOf v 0 2 ≠ s.dev.fld (rclkA f.val r.val) 0 2 →
        ∃ t, exec (.rclkSwitch f r v) s = .next t ∧ t.dev.bit (rclkA f.val r.val) 8 = true ∧
          t.dev.fld (rclkA f.val r.val) 0 2 = fieldOf v 0 2 ∧ t.dev.fld (rclkA f.val r.val) 4 4 = fieldOf v 4 4 ∧
          rclkDivNow t.dev f.val r.val = rclkDivNow s.dev f.val r.val ∧
          tabGet noNat t.dev.clk.rclkOld (12 * f.val + r.val) = some (s.dev.fld (rclkA f.val r.val) 0 2) ∧
          ∀ a, a ≠ rclkA f.val r.val → stateReg a = false → t.dev.reg a = s.dev.reg a) ∧
      (s.dev.bit (rclkA f.val r.val) 8 = true → s.dev.slotEdges f.val r.val = true →
        ∃ t, exec (.rclkSwitchDone f r) s = .next t ∧ t.dev.bit (rclkA f.val r.val) 8 = false ∧
          tabGet noNat t.dev.clk.rclkOld (12 * f.val + r.val) = none ∧ ∀ a, a ≠ rclkA f.val r.val → t.dev.reg a = s.dev.reg a) ∧
      (s.dev.slotEdges f.val r.val = false → exec (.rclkSwitchDone f r) s = .next s) ∧
      (∀ v : BitVec 4, ∃ t, exec (.rclkDivChange f r v) s = .next t ∧ t.dev.fld (rclkA f.val r.val) 4 4 = v.toNat ∧
        (s.dev.bit (rclkA f.val r.val) 8 = false → rclkDivNow t.dev f.val r.val = v.toNat) ∧
        ∀ a, a ≠ rclkA f.val r.val → t.dev.reg a = s.dev.reg a))

/-- R35, R36, R267 to R270, R476, R530, R554, R555: where resets, boots, failovers, supplies and their recovery complete, and what they
leave: time and the memories' contents live through a device reset, and DRAM through the loss of the always-on supplies. -/
def Obligations.ResetsComplete : Prop :=
  ∀ s : State, tabWf regDefault s.dev.regs = true →
    (∀ (straps : BitVec 3) (pd g : Bool), ∃ t, exec (.powerOn straps pd g) s = .next t ∧
      t.dev.sys.resetSeq = some .powerOn ∧ t.dev.sys.straps = straps ∧ t.dev.sys.mode = .blank ∧ t.dev.sys.booted = false ∧
      (t.dev.lark .w).time = 0 ∧ (t.dev.lark .e).time = 0 ∧ t.dev.reg (pwrA 0x500) = 1 ∧
      t.dev.mem.dram = s.dev.mem.dram ∧ t.dev.host.mem = s.dev.host.mem ∧ t.dev.load.bankA = s.dev.load.bankA) ∧
    -- R268: 1 µs or more resets, less than 100 ns is ignored; between the two, which of both is a free value
    (∀ ns : Nat, ns < 100 → gives (.devResetN ns) s (s.dev.updated s.dev)) ∧
    (∀ ns : Nat, 1000 ≤ ns → gives (.devResetN ns) s (s.dev.updated (deviceReset .pin 1 s.dev))) ∧
    (∀ ns : Nat, 100 ≤ ns → ns < 1000 → gives (.devResetN ns) s (s.dev.updated
      (if s.dev.takeFreeBool.1 then deviceReset .pin 1 s.dev.takeFreeBool.2 else s.dev.takeFreeBool.2))) ∧
    (islandsOn s.dev = true →
      (∃ t, exec (.deviceReset 3) s = .next t ∧ t.dev.rsp.status = 0 ∧ t.dev.sys.resetSeq = some .command ∧ t.dev.sys.mode = .blank ∧
        t.dev.sys.booted = false ∧ t.dev.sys.cpuW = false ∧ t.dev.sys.cpuE = false ∧ t.dev.cmd.sessions = [] ∧
        (t.dev.lark .w).time = (s.dev.lark .w).time ∧ (t.dev.lark .e).time = (s.dev.lark .e).time ∧ t.dev.mend.now = [] ∧
        t.dev.load.job = none) ∧
      (∃ t, exec .pwrOkIn s = .next t ∧ t.dev.sys.pwrOkLow = true ∧ t.dev.sys.resetSeq = some .pin)) ∧
    (∀ mc : MClass, mc.val ≠ 3 → gives (.deviceReset mc) s (s.dev.updated (s.dev.answer 8 []))) ∧
    (s.dev.sys.tripReset = true → gives .tripHwReset s (s.dev.updated (deviceReset .command 2 s.dev))) ∧
    (s.dev.sys.tripReset = false → gives .tripHwReset s (s.dev.updated s.dev)) ∧
    (s.dev.sys.resetSeq.isSome = true → gives .resetRelease s
      { s.dev with sys := { s.dev.sys with cpuW := true, cpuE := true, pwrOkLow := false } }) ∧
    (s.dev.sys.resetSeq = none → gives .resetRelease s (s.dev.updated s.dev)) ∧
    (s.dev.sys.resetSeq.isSome = true → s.dev.sys.cpuW = true →
      ∃ t, exec .thimbleBoot s = .next t ∧ t.dev.sys.resetSeq = none ∧ t.dev.sys.booted = true ∧ t.dev.sys.mode = .blank ∧
        t.dev.sys.primary = .w ∧ t.dev.up .w = true ∧ t.dev.up .e = true) ∧
    gives .jtagTrst s { s.dev with cmd := { s.dev.cmd with jtagIn := [], jtagOut := 0 } } ∧
    (∀ h : Half, cpuUp s.dev h = true → cpuUp s.dev (otherHalf h) = true → s.dev.load.job = none →
      ∃ t, exec (.thimbleWatchdog h) s = .next t ∧ t.dev.bit (pwrA 0x500) 3 = true ∧ t.dev.sys.primary = otherHalf h ∧
        (s.dev.sys.primary = h → t.dev.cmd.sessions = s.dev.cmd.sessions.map (fun x => { x with kept := [], tookOver := true }))) ∧
    -- R269: a half reset takes its island and its Lark down; the other half's time goes on
    (s.dev.sys.resetSeq = none → islandsOn s.dev = true →
      (∃ t, exec (.halfResetW 3) s = .next t ∧ t.dev.rsp.status = 0 ∧ t.dev.up .w = false ∧ t.dev.up .e = s.dev.up .e ∧
        (t.dev.lark .e).time = (s.dev.lark .e).time) ∧
      (∃ t, exec (.halfResetE 3) s = .next t ∧ t.dev.rsp.status = 0 ∧ t.dev.up .e = false ∧ t.dev.up .w = s.dev.up .w ∧
        (t.dev.lark .w).time = (s.dev.lark .w).time)) ∧
    (∀ mc : MClass, mc.val ≠ 3 → gives (.halfResetW mc) s (s.dev.moved (s.dev.answer 8 [])) ∧
      gives (.halfResetE mc) s (s.dev.moved (s.dev.answer 8 []))) ∧
    (∀ h : Half, s.dev.sys.resetSeq = none → islandsOn s.dev = true → s.dev.sys.primary ≠ h →
      (s.dev.lost h = false → s.dev.up (otherHalf h) = true → deferred s.dev h = false →
        ∃ t, exec (.halfLost h false) s = .next t ∧ t.dev.up h = false ∧ t.dev.lost h = true) ∧
      (s.dev.sys.booted = true → s.dev.up h = false → s.dev.up (otherHalf h) = true → s.dev.modeCode = 0 →
        ∃ t, exec (.halfRecovery h) s = .next t ∧ t.dev.up h = true ∧ t.dev.lost h = false)) ∧
    (s.dev.modeCode = 0 → s.dev.sys.booted = true → s.dev.up .w = true → s.dev.up .e = true → s.dev.lost .w = false →
      s.dev.lost .e = false → s.dev.load.job = none → s.dev.sys.tripLow = false → romBoot s.dev = false → s.dev.load.decFailW = false →
      s.dev.load.tried = 0 → s.dev.load.primaryPtr.auto = true →
      gives .autoload s (s.dev.updated (loadStart 0 true false 0 s.dev))) ∧
    (s.dev.load.primaryPtr.auto = false → s.dev.load.tried = 0 → gives .autoload s (s.dev.updated s.dev)) ∧
    (islandsOn s.dev = true → gives (.supplyValid .xcvHi) s
      (s.dev.updated (showSupply { s.dev with sys := { s.dev.sys with xcvHi := true } }).settle)) ∧
    gives (.supplyLoss .coreIn) s (s.dev.moved (powerLost { s.dev with sys := { s.dev.sys with coreIn := false } })) ∧
    (∃ t, exec (.supplyLoss .vddq) s = .next t ∧ t.dev.mem.dram = [] ∧ t.dev.sys.vddq = false)

/-- R559 to R565: where the commands of domains, regulators and temperatures complete, and what they leave. -/
def Obligations.PowerCompletes : Prop :=
  ∀ s : State, tabWf regDefault s.dev.regs = true → tabWf noTrans s.dev.pwr.trans = true →
    (∀ n : Fin 64, s.dev.trans n.val = none → s.dev.domState n.val = 2 → (n.val < 32 → s.dev.frozen n.val = false) →
      -- from Deep sleep to On: Sleep is passed through
      ∃ t, exec (.domainStateRequest n 3 0) s = .next t ∧ t.dev.rsp.status = 0 ∧ t.dev.bit (domStatA n.val) 29 = true ∧
        t.dev.trans n.val = some { next := 1, final := 0, waiting := none, queued := false } ∧ t.dev.domState n.val = 2) ∧
    (∀ (n : Fin 64) (x : DomTrans) (st : BitVec 2), s.dev.trans n.val = some x → n.val ≥ 32 →
      ∃ t, exec (.domainStateRequest n 3 st) s = .next t ∧ t.dev.trans n.val = some { x with waiting := some st.toNat }) ∧
    (∀ (n : Fin 64) (mc : MClass) (st : BitVec 2), mc.val ≠ 3 →
      exec (.domainStateRequest n mc st) s = .next { s with dev := s.dev.answer 8 [] }) ∧
    (∀ n : Fin 64, 44 ≤ n.val → s.dev.pwr.trans = [(n.val, some { next := 1, final := 1, waiting := none, queued := false })] →
      s.dev.domState n.val = 0 → s.dev.sys.mode = .running → shtBusy s.dev n.val = false →
      ∃ t, exec (.domainTransitionDone n) s = .next t ∧ t.dev.domState n.val = 1 ∧ t.dev.trans n.val = none ∧
        t.dev.bit (domStatA n.val) 29 = false) ∧
    (∀ n : Fin 64, s.dev.trans n.val = none → gives (.domainTransitionDone n) s (s.dev.moved s.dev)) ∧
    -- R562: one 5 mV step down, up, or none
    (∀ (n : Fin 64) (worst : Int), s.dev.domOn n.val = true → s.dev.bit (domCtrlA n.val) 29 = true →
      ∀ m v : Nat, m = s.dev.fld (domCtrlA n.val) 8 8 → v = s.dev.fld (domStatA n.val) 16 8 →
      ((m : Int) + 10 < worst → 36 < v → gives (.avsStep n worst) s (s.dev.setFld (domStatA n.val) 16 8 (v - 1))) ∧
      (worst < (m : Int) → v < 64 → gives (.avsStep n worst) s (s.dev.setFld (domStatA n.val) 16 8 (v + 1))) ∧
      (worst < (m : Int) → 64 ≤ v → gives (.avsStep n worst) s (s.dev.setBit (domStatA n.val) 26)) ∧
      ((m : Int) ≤ worst → worst ≤ (m : Int) + 10 → exec (.avsStep n worst) s = .next s)) ∧
    -- R563
    (∀ n : Fin 64,
      (∃ t, exec (.undervoltage n) s = .next t ∧ t.dev.bit (domStatA n.val) 24 = true ∧ t.dev.bit (thmA 0x44) 3 = true) ∧
      (∃ t, exec (.overcurrent n) s = .next t ∧ t.dev.bit (domStatA n.val) 15 = true ∧ t.dev.bit (thmA 0x44) 3 = true)) ∧
    -- R564, R565
    (∀ (xs : List (BitVec 16)) (p : Fin 32), tempSrc s.dev = true → xs.length = 32 →
      ∃ t, exec (.tempConvert xs) s = .next t ∧ t.dev.fld (tempA p.val) 0 16 = (nth xs p.val 0).toNat ∧
        t.dev.fld thermStat 16 5 = hottest t.dev ∧ tempOf t.dev p.val ≤ tempOf t.dev (hottest t.dev)) ∧
    (∀ p : Fin 32, 16 * signed 8 (s.dev.fld (pwrA 0x800) 8 8) ≤ tempOf s.dev p.val →
      ∃ t, exec (.thermalTrip p) s = .next t ∧ t.dev.sys.tripLow = true ∧ t.dev.sys.tripReset = true ∧ t.dev.bit thermStat 29 = true) ∧
    (∀ p : Fin 32, tempOf s.dev p.val < 16 * signed 8 (s.dev.fld (pwrA 0x800) 8 8) → exec (.thermalTrip p) s = .next s)

/-! ### The seam -/

/-- R275, R285 to R288: the union of the two ends' maps is the same for both, holds every position that failed at either end or in this
training, each once and in order, has a newer generation and a CRC that fits it; every spare it assigns is a good one, that carries one
failed working position which it may carry; and where no spare is pinned, while the failed positions are no more than the spares every failed
working position has its own, in order. -/
def Obligations.SeamSpares : Prop :=
  ∀ (g : Nat) (pins : List (Nat × Nat × Half)) (a b : SegMap) (more : List Nat), a.gen < 2 ^ 32 - 1 → b.gen < 2 ^ 32 - 1 →
    ∀ m, m = mapUnion g pins a b more →
    m = mapUnion g pins b a more ∧
    (∀ k, k < segWork g + segSpares g → (k ∈ m.failed ↔ k ∈ a.failed ∨ k ∈ b.failed ∨ k ∈ more)) ∧
    m.failed.Pairwise (· < ·) ∧ a.gen < m.gen ∧ b.gen < m.gen ∧ mapCrcOk m = true ∧
    (segDegraded g m.failed = true → m.spares = []) ∧
    (∀ p ∈ m.spares, p.1 < segSpares g ∧ segWork g + p.1 ∉ m.failed ∧ p.2 ∈ m.failed ∧ p.2 < segWork g ∧ spareMay g pins p.1 p.2 = true) ∧
    m.spares.Pairwise (fun p q => p.1 ≠ q.1 ∧ p.2 < q.2) ∧
    (pins = [] → segDegraded g m.failed = false →
      (∀ k ∈ m.failed, k < segWork g → ∃ s, (s, k) ∈ m.spares) ∧ m.spares.Pairwise (fun p q => p.1 < q.1))

/-- R282 to R292: where the seam's commands complete, and what they leave; no segment between replayed fields changes. -/
def Obligations.SeamCompletes : Prop :=
  ∀ (s : State) (g : Fin 110), tabWf regDefault s.dev.regs = true → tabWf segReset s.dev.seam.segs = true → watchedSegs s.dev = [] →
    s.dev.fld (bobA 0) 0 16 = 0 → ∀ x, x = s.dev.segment g.val →
    (∀ fw fe : List (Fin 146), s.dev.up .w = true → s.dev.up .e = true → x.training = true →
      ∃ t, exec (.seamTrain g fw fe) s = .next t ∧ (t.dev.segment g.val).trained = true ∧ (t.dev.segment g.val).training = false ∧
        (t.dev.segment g.val).mapW = mapUnion g.val s.dev.seam.pinned x.mapW (peerMap x.mapE) ((fw ++ fe).map (fun k => k.val)) ∧
        (t.dev.segment g.val).mapE = mapUnion g.val s.dev.seam.pinned x.mapE (peerMap x.mapW) ((fw ++ fe).map (fun k => k.val)) ∧ (t.dev.segment g.val).remap = x.remap ∧
        (∀ k, k ≠ g.val → t.dev.segment k = s.dev.segment k)) ∧
    (s.dev.up .w = true → s.dev.up .e = true → s.dev.bit seamStat 31 = false → x.remap = false → x.training = false →
      ∀ y, y = { x with remap := true, training := true } →
      (∃ t, exec (.seamParityThreshold g) s = .next t ∧ t.dev.segment g.val = y ∧ t.dev.bit seamStat 26 = true ∧
        t.dev.bit (segStat g.val) 28 = true ∧ t.dev.fld (segStat g.val) 16 8 = (s.dev.fld (segStat g.val) 16 8 + 1) % 256) ∧
      (∃ t, exec (.seamSlip g) s = .next t ∧ t.dev.segment g.val = y ∧ t.dev.bit seamStat 27 = true) ∧
      (100 ≤ g.val → ∃ t, exec (.seamFlitThreshold g) s = .next t ∧ t.dev.segment g.val = y) ∧
      (∀ k : Fin 146, k.val < segWork g.val + segSpares g.val → spareDriven s.dev g.val k.val = true →
        ∃ t, exec (.seamContention g k) s = .next t ∧ t.dev.bit seamStat 28 = true ∧ (t.dev.segment g.val).remap = true ∧
          k.val ∈ (t.dev.segment g.val).mapW.failed ∧ k.val ∈ (t.dev.segment g.val).mapE.failed) ∧
      (∃ t, exec (.retrainSegment 3 (BitVec.ofNat 7 g.val)) s = .next t ∧ t.dev.rsp.status = 0 ∧ t.dev.segment g.val = y) ∧
      (∃ t, exec (.retrainAll 3) s = .next t ∧ t.dev.rsp.status = 0 ∧ t.dev.segment g.val = y) ∧
      (x.lostE = true → ∃ t, exec (.qualifierReturn g true) s = .next t ∧ t.dev.segment g.val = { y with lostE := false })) ∧
    (g.val < 100 → exec (.seamFlitThreshold g) s = .next s) ∧
    (∀ k : Fin 146, spareDriven s.dev g.val k.val = false → exec (.seamContention g k) s = .next s) ∧
    (∀ mc : MClass, mc.val ≠ 3 → exec (.retrainSegment mc (BitVec.ofNat 7 g.val)) s = .next { s with dev := s.dev.answer 8 [] } ∧
      exec (.retrainAll mc) s = .next { s with dev := s.dev.answer 8 [] } ∧ exec (.armRelease mc) s = .next { s with dev := s.dev.answer 8 [] }) ∧
    (x.remap = true → x.training = false → (s.dev.fifo s.dev.sys.primary).length < 1024 →
      ∃ t, exec (.remapRelease g) s = .next t ∧ t.dev.segment g.val = { segEmpty x with remap := false } ∧
        t.dev.bit (segStat g.val) 28 = false ∧
        t.dev.fifo s.dev.sys.primary = s.dev.fifo s.dev.sys.primary ++
          [⟨0x29, g.val, x.mapW.failed.length, s.dev.now s.dev.sys.primary⟩]) ∧
    (∀ intoE : Bool, s.dev.seam.armed = none → (s.dev.fifo (if intoE then .e else .w)).length < 1024 →
      ∃ t, exec (.seamLoss g intoE) s = .next t ∧
        t.dev.segment g.val = (if intoE then { x with lostE := true } else { x with lostW := true }) ∧
        t.dev.fifo (if intoE then .e else .w) = s.dev.fifo (if intoE then .e else .w) ++
          [⟨0x28, g.val, 0, s.dev.now (if intoE then .e else .w)⟩]) ∧
    (∀ b, b = (nearTime (s.dev.now s.dev.sys.primary) (s.dev.fld (seamA 0xC) 0 32) (s.dev.fld (seamA 8) 0 30 * 65536)).toNat →
      (b ≤ s.dev.now s.dev.sys.primary → gives (.armRelease 3) s ((s.dev.setBit seamStat 29).answer 0 [])) ∧
      (s.dev.now s.dev.sys.primary < b → armable s.dev b = true → ∃ t, exec (.armRelease 3) s = .next t ∧ t.dev.seam.armed = some b ∧
        t.dev.bit seamStat 30 = true ∧ t.dev.rsp.status = 0) ∧
      (s.dev.now s.dev.sys.primary < b → armable s.dev b = false → gives (.armRelease 3) s (s.dev.answer 0 []))) ∧
    (∀ b, s.dev.seam.armed = some b → s.dev.load.pattern = none → s.dev.lost .w = false → s.dev.lost .e = false →
      x.trained = true → x.released = false → s.dev.bit (segStat g.val) 29 = false →
      ∃ t, exec .seamRelease s = .next t ∧ t.dev.seam.armed = none ∧ t.dev.segment g.val = { segEmpty x with released := true } ∧
        t.dev.bit seamStat 30 = false) ∧
    (s.dev.seam.armed = none → gives .seamRelease s (s.dev.moved s.dev))

/-! ### Lanes -/

/-- R316: the generator's sequence for each pattern obeys its polynomial: the next bit is the sum of the two taps, whatever came before,
and a word of n bits moves the register on by n bits. -/
def Obligations.PrbsSequence : Prop :=
  ∀ (sel n : Nat) (inv : Bool) (x : BitVec 31), 1 ≤ sel → sel ≤ 5 → n ≤ 80 →
    (∀ i, i < n → (prbsWord sel n inv x).1.getLsbD i =
      ((prbsBit sel ((fun y => shiftIn y (prbsBit sel y))^[i] x)) ^^ inv)) ∧
    (∀ i, n ≤ i → i < 80 → (prbsWord sel n inv x).1.getLsbD i = false) ∧
    (prbsWord sel n inv x).2 = (fun y => shiftIn y (prbsBit sel y))^[n] x ∧
    (∀ m, n + m ≤ 80 → (prbsWord sel (n + m) inv x).2 = (prbsWord sel m inv (prbsWord sel n inv x).2).2)

/-- R299 to R318: where the lanes' commands complete, and what they leave. -/
def Obligations.LanesComplete : Prop :=
  ∀ (s : State) (l : Fin 144), tabWf regDefault s.dev.regs = true → tabWf laneReset s.dev.lanes = true → ∀ x, x = s.dev.lane l.val →
    -- through the lane's registers: where its group answers
    (blockStatus s.dev (laneDomain l.val) false = 0 →
      (s.dev.laneUse l.val = 1 → gives (.enterIdle l) s (laneEval l.val (s.dev.setLane l.val { x with idle := true })) ∧
        gives (.exitIdle l) s (laneEval l.val (s.dev.setLane l.val { x with idle := false }))) ∧
      (s.dev.laneUse l.val = 4 → gives (.enterIdle l) s (s.dev.setBit (laneStat l.val) 6)) ∧
      gives (.prbsInject l) s (s.dev.setLane l.val { x with inject := true }) ∧
      gives (.prbsClear l) s (s.dev.setLane l.val { x with errs := 0, bits := 0 }) ∧
      (∃ t, exec (.prbsErrRead l) s = .next t ∧ t.dev.rsp.status = 0 ∧ t.dev.reg (laneA l.val 0x188) = BitVec.ofNat 32 x.errs ∧
        t.dev.reg (laneA l.val 0x18C) = BitVec.ofNat 32 (x.errs / 2 ^ 32) ∧ t.dev.reg (laneA l.val 0x190) = BitVec.ofNat 32 x.bits ∧
        t.dev.reg (laneA l.val 0x194) = BitVec.ofNat 32 (x.bits / 2 ^ 32) ∧ t.dev.lanes = s.dev.lanes) ∧
      gives (.eyeStart l) s ((s.dev.setLane l.val { x with eyeRun := true }).putBit (laneA l.val 0x1A0) 30 false) ∧
      (∃ t, exec (.adaptRestart l) s = .next t ∧ t.dev.bit (laneA l.val 0x128) 8 = false ∧ t.dev.lanes = s.dev.lanes ∧
        (eqMode s.dev l.val 0 = 1 → t.dev.reg (laneA l.val 0x12C) = eqStart s.dev l.val 0)) ∧
      -- R303: while enabled, the fixed settings stay and ctrl_err is set
      (∀ v : BitVec 32, s.dev.laneOnEn l.val = true → fieldOf v 18 1 = 1 → fieldOf v 29 3 = 0 → fieldOf v 12 4 < 12 →
        (v &&& 0x1FE003FF) ≠ (s.dev.reg (laneCtl l.val) &&& 0x1FE003FF) →
        ∃ t, exec (.laneEnable l v) s = .next t ∧ t.dev.bit (laneStat l.val) 2 = true ∧
          t.dev.reg (laneCtl l.val) &&& 0x1FE003FF = s.dev.reg (laneCtl l.val) &&& 0x1FE003FF) ∧
      (∀ v : BitVec 32, s.dev.laneOnEn l.val = false → fieldOf v 18 1 = 1 → fieldOf v 29 3 = 0 → fieldOf v 12 4 < 12 →
        s.dev.fld (laneA l.val 0x104) 0 12 < 16 →
        ∃ t, exec (.laneEnable l v) s = .next t ∧ t.dev.bit (laneStat l.val) 2 = true ∧ t.dev.laneOnEn l.val = false) ∧
      -- R300 to R303: an enable is taken where the settings keep to the limits with the reference's frequency, a free value of 10 to 800 MHz,
      -- and refused with ctrl_err where they do not
      (∀ v : BitVec 32, s.dev.laneOnEn l.val = false → fieldOf v 18 1 = 1 → fieldOf v 29 3 = 0 → fieldOf v 12 4 < 12 →
        ∃ t, exec (.laneEnable l v) s = .next t ∧ ∀ hz, hz = 10000000 + s.dev.takeFree.1 % 790000001 →
          (laneFits (s.dev.setReg (laneCtl l.val) (v &&& 0x1FFCF3FF)) l.val hz = true → t.dev.laneOnEn l.val = true ∧
            t.dev.reg (laneCtl l.val) = v &&& 0x1FFCF3FF ∧ (t.dev.lane l.val).idle = true ∧
            t.dev.bit (laneStat l.val) 31 = quadRefOk s.dev l.val ∧ t.dev.bit (laneStat l.val) 2 = s.dev.bit (laneStat l.val) 2) ∧
          (laneFits (s.dev.setReg (laneCtl l.val) (v &&& 0x1FFCF3FF)) l.val hz = false → t.dev.laneOnEn l.val = false ∧
            t.dev.bit (laneStat l.val) 2 = true ∧ t.dev.lanes = s.dev.lanes)) ∧
      -- and a disable
      (∀ v : BitVec 32, s.dev.laneOnEn l.val = true → fieldOf v 18 1 = 0 → fieldOf v 29 3 = 0 →
        ∃ t, exec (.laneEnable l v) s = .next t ∧ t.dev.laneOnEn l.val = false ∧ t.dev.bit (laneStat l.val) 31 = false ∧
          t.dev.bit (laneStat l.val) 30 = false ∧ (t.dev.lane l.val).tx = [] ∧ (t.dev.lane l.val).rx = [])) ∧
    (blockStatus s.dev (laneDomain l.val) false = 2 → exec (.prbsClear l) s = .next { s with dev := s.dev.answer 2 [] }) ∧
    (∀ v : Bool, s.dev.laneUse l.val = 1 → gives (.idleReq l v) s (laneEval l.val (s.dev.setLane l.val { x with idleReq := v }))) ∧
    (x.burst = true → ∃ t, exec (.txBurstDone l) s = .next t ∧ (t.dev.lane l.val).burst = false ∧
      (t.dev.lane l.val).sent = lineWord s.dev l.val (bitsWord ((burstBits (lanePam4 s.dev l.val)).drop
        ((burstBits (lanePam4 s.dev l.val)).length - laneWidth s.dev l.val))) ∧ t.dev.regs = s.dev.regs) ∧
    (x.burst = false → exec (.txBurstDone l) s = .next s) ∧
    -- the receiver
    (rxAble s.dev l.val = true → s.dev.bit (laneStat l.val) 28 = true →
      (∃ t, exec (.rxBurst l) s = .next t ∧ t.dev.bit (laneStat l.val) 30 = true ∧ t.dev.bit (laneStat l.val) 28 = false ∧
        t.dev.lane l.val = { x with frozen := false, delim := true, slip := 0 }) ∧
      (∃ t, exec (.burstTimeout l) s = .next t ∧ t.dev.bit (laneStat l.val) 28 = false ∧ t.dev.bit (laneStat l.val) 7 = true)) ∧
    (rxAble s.dev l.val = true → ∃ t, exec (.ordinaryAcquisition l) s = .next t ∧ t.dev.bit (laneStat l.val) 30 = true ∧
      t.dev.lane l.val = { x with frozen := false }) ∧
    (∃ t, exec (.rxSquelch l) s = .next t ∧ t.dev.bit (laneStat l.val) 28 = true ∧ t.dev.bit (laneStat l.val) 30 = false ∧
      t.dev.lane l.val = { x with frozen := true }) ∧
    (s.dev.bit (laneStat l.val) 30 = true → s.dev.bit (laneStat l.val) 28 = false → s.dev.fld (bobA 0) 0 16 = 0 →
      (s.dev.fifo (laneHalf l.val)).length < 1024 →
      ∃ t, exec (.laneLossOfLock l) s = .next t ∧ t.dev.bit (laneStat l.val) 30 = false ∧ t.dev.bit (laneStat l.val) 3 = true ∧
        t.dev.fifo (laneHalf l.val) = s.dev.fifo (laneHalf l.val) ++ [⟨0x42, l.val, 0, s.dev.now (laneHalf l.val)⟩]) ∧
    (∀ q : Fin 36, s.dev.fld (quadA q.val 0) 0 6 ≠ 63 → s.dev.domOn (32 + q.val / 3) = true →
      (∃ t, exec (.refLoss q) s = .next t ∧ t.dev.bit (quadA q.val 0) 31 = false ∧
        ∀ i, i < 4 → s.dev.laneOnEn (4 * q.val + i) = true → t.dev.bit (laneStat (4 * q.val + i)) 30 = false) ∧
      (∃ t, exec (.refRecover q) s = .next t ∧ t.dev.bit (quadA q.val 0) 31 = true ∧
        ∀ i, i < 4 → s.dev.laneOnEn (4 * q.val + i) = true → t.dev.bit (laneStat (4 * q.val + i)) 31 = true)) ∧
    (∀ taps : List Word, s.dev.laneOnEn l.val = true → x.frozen = false → s.dev.bit (laneStat l.val) 30 = true → taps.length = 6 →
      ∃ t, exec (.adaptConverged l taps) s = .next t ∧ t.dev.bit (laneA l.val 0x128) 8 = true ∧ t.dev.lanes = s.dev.lanes ∧
        (eqAdapts s.dev l.val 0 = true → t.dev.reg (laneA l.val 0x12C) = nth taps 0 0) ∧
        (eqAdapts s.dev l.val 0 = false → t.dev.reg (laneA l.val 0x12C) = s.dev.reg (laneA l.val 0x12C))) ∧
    -- measurement
    (s.dev.fld (prbsCtl l.val) 8 3 ≠ 0 → gives (.prbsSync l) s ((s.dev.setLane l.val { x with chk := x.rxHist }).setBit (prbsStat l.val) 31)) ∧
    (s.dev.bit (prbsStat l.val) 31 = true →
      ∃ t, exec (.prbsSyncLost l) s = .next t ∧ t.dev.bit (prbsStat l.val) 31 = false ∧ t.dev.bit (prbsStat l.val) 30 = true) ∧
    (∀ n : Nat, x.eyeRun = true → ∃ t, exec (.eyeDone l n) s = .next t ∧ (t.dev.lane l.val).eyeRun = false ∧
      t.dev.reg (laneA l.val 0x1A4) = BitVec.ofNat 32 (sat (2 ^ 32 - 1) n) ∧ t.dev.bit (laneA l.val 0x1A0) 30 = true) ∧
    -- R312, R313: the raw port
    (s.dev.laneOnEn l.val = true → s.dev.laneUse l.val = 1 → s.dev.fld (prbsCtl l.val) 4 3 = 0 → s.dev.bit (laneStat l.val) 29 = false →
      x.burst = false → x.inject = false → s.dev.bit (laneCtl l.val) 20 = false →
      (∀ (w : BitVec 80) (ws : List (BitVec 80)), x.tx = w :: ws →
        gives (.rawTxWord l) s (s.dev.setLane l.val
          { x with tx := ws, sent := maskWord (laneWidth s.dev l.val) w, inject := false, txBegun := true })) ∧
      (x.tx = [] → x.txBegun = true → ∃ t, exec (.rawTxWord l) s = .next t ∧ t.dev.bit (laneStat l.val) 4 = true ∧
        (t.dev.lane l.val).sent = maskWord (laneWidth s.dev l.val) (alternating (lanePam4 s.dev l.val)))) ∧
    (∀ w : BitVec 80, s.dev.laneOnEn l.val = true → s.dev.bit (laneStat l.val) 30 = true → s.dev.laneUse l.val = 1 →
      s.dev.fld (laneCtl l.val) 12 4 < 12 → s.dev.bit (laneCtl l.val) 19 = false → s.dev.replayed (laneField l.val) = false →
      (x.rx.length < 32 → ∃ t, exec (.rawRxWord l w) s = .next t ∧
        (t.dev.lane l.val).line = maskWord (laneWidth s.dev l.val) w ∧
        (t.dev.lane l.val).rx = x.rx ++ [if x.slip = 0 then maskWord (laneWidth s.dev l.val) w
          else slipped (laneWidth s.dev l.val) x.slip x.line (maskWord (laneWidth s.dev l.val) w)] ∧ t.dev.regs = s.dev.regs) ∧
      (32 ≤ x.rx.length → ∃ t, exec (.rawRxWord l w) s = .next t ∧ (t.dev.lane l.val).rx = x.rx ∧ t.dev.bit (laneStat l.val) 5 = true)) ∧
    (s.dev.laneUse l.val = 1 → gives (.rxSlip l) s (s.dev.setLane l.val { x with
      slip := (x.slip + (if lanePam4 s.dev l.val then 2 else 1)) % laneWidth s.dev l.val }))

/-! ### Ethernet, the host ports and JESD links -/

/-- R326 to R333, R343: where the commands of an Ethernet block complete, and what they leave. A frame of a port is delivered by the rule
that took it, its record follows, and a full transmit buffer holds a write back. -/
def Obligations.EthernetCompletes : Prop :=
  ∀ (s : State) (m : Fin 16), tabWf regDefault s.dev.regs = true → tabWf ethReset s.dev.eth = true → ∀ x, x = s.dev.ethBlk m.val →
    -- R326: enabled where every domain it needs is On, refused otherwise
    (∀ v : BitVec 32, s.dev.bit (ethCfgA m.val) 31 = false → fieldOf v 31 1 = 1 → fieldOf v 28 3 < 7 → v &&& 3 = 0 →
      ((∀ n ∈ ethDomains s.dev m.val (fieldOf v 28 3), s.dev.domOn n = true) →
        ∃ t, exec (.ethBlockEnable m v) s = .next t ∧ t.dev.bit (ethCfgA m.val) 31 = true ∧ ethCfg t.dev m.val = fieldOf v 28 3 ∧
          t.dev.bit (ethCfgA m.val) 0 = s.dev.bit (ethCfgA m.val) 0 ∧ ∀ p r, p < 8 → r < 8 → t.dev.reg (ethRule m.val p r 0x1C) = 0) ∧
      ((∃ n ∈ ethDomains s.dev m.val (fieldOf v 28 3), s.dev.domOn n = false) →
        ∃ t, exec (.ethBlockEnable m v) s = .next t ∧ t.dev.bit (ethCfgA m.val) 31 = false ∧ t.dev.bit (ethCfgA m.val) 0 = true)) ∧
    (∀ (p : Fin 8), ethPortRuns s.dev m.val p.val = true →
      ((∀ l ∈ ethPortLanes s.dev m.val p.val, s.dev.laneUse l = 2) → ∃ t, exec (.ethLinkChange m p true) s = .next t ∧ ethLinkUp t.dev m.val p.val = true ∧
        t.dev.bit (ethStat m.val p.val) 30 = ethFecOn s.dev m.val p.val ∧
        ∀ a, a ≠ ethStat m.val p.val → t.dev.reg a = s.dev.reg a) ∧
      (∃ t, exec (.ethLinkChange m p false) s = .next t ∧ ethLinkUp t.dev m.val p.val = false)) ∧
    -- R328: the first enabled rule that matches takes a good frame; a bad one is counted as such
    (∀ (p : Fin 8) (frame : List Byte), ethPortRuns s.dev m.val p.val = true → ethLinkUp s.dev m.val p.val = true →
      64 ≤ frame.length → ∀ body, body = frame.take (frame.length - 4) →
      (frame.drop (frame.length - 4) ≠ leBytes (crc32 body).toNat 4 →
        ∃ t, exec (.ethRxFrame m p frame) s = .next t ∧ t.dev.bit (ethStat m.val p.val) 2 = true ∧ t.dev.eth = s.dev.eth) ∧
      (frame.drop (frame.length - 4) = leBytes (crc32 body).toNat 4 → ptpAt body = none →
        (∀ r : Nat, (upto 8).find? (fun r => ruleHits s.dev m.val p.val r body) = some r →
          s.dev.fld (ethRule m.val p.val r 4) 16 8 < body.length → body.length - s.dev.fld (ethRule m.val p.val r 4) 16 8 ≤ 8192 →
          rxHeld x p.val + body.length ≤ 65536 →
          ∃ t f, exec (.ethRxFrame m p frame) s = .next t ∧ (t.dev.ethBlk m.val).rx = x.rx ++ [f] ∧ f.port = p.val ∧ f.rule = r ∧
            f.bytes = body ∧ f.vlan = hasVlan body ∧ t.dev.regs = s.dev.regs) ∧
        ((∀ r, r < 8 → ruleHits s.dev m.val p.val r body = false) →
          ∃ t, exec (.ethRxFrame m p frame) s = .next t ∧ t.dev.bit (ethStat m.val p.val) 3 = true ∧ t.dev.eth = s.dev.eth))) ∧
    -- R329: a delivery to host memory behind the active port, then its record
    (∀ (p : Fin 8) (f : RxFrame) (rest : List RxFrame) (at_ b : Nat), x.rx = f :: rest → f.port = p.val → f.rule < 8 →
      ethPortRuns s.dev m.val p.val = true → s.dev.cmd.heldBack = [] →
      ∀ body, body = f.bytes.drop (s.dev.fld (ethRule m.val p.val f.rule 4) 16 8) →
      body.length ≤ 64 * s.dev.fld (ethRule m.val p.val f.rule 0x10) 0 16 →
      at_ = pairAddr s.dev (ethRule m.val p.val f.rule 8) 6 +
        (s.dev.reg (ethRule m.val p.val f.rule 0x1C)).toNat % (s.dev.fld (ethRule m.val p.val f.rule 0x10) 16 16 + 1) *
          (64 * s.dev.fld (ethRule m.val p.val f.rule 0x10) 0 16) →
      0xFD0000000000 ≤ at_ → at_ + body.length ≤ 0xFE0000000000 → hostAddr s.dev at_ = some b →
      accessCheck s.dev (byBlock s.dev 8 (.eth (m.val / 2))) .hostMem at_ body.length = 0 →
      ∃ t, exec (.ethFrameDeliver m p) s = .next t ∧ t.dev.host.mem = memWrites s.dev.host.mem b body ∧ (t.dev.ethBlk m.val).rx = rest ∧
        t.dev.reg (ethRule m.val p.val f.rule 0x1C) = s.dev.reg (ethRule m.val p.val f.rule 0x1C) + 1 ∧
        (s.dev.bit (ethRule m.val p.val f.rule 4) 29 = true →
          ∃ r, (t.dev.ethBlk m.val).records = x.records ++ [r] ∧ r.stamp = f.stamp ∧ r.len = f.bytes.length + 4 ∧ r.bad = false ∧
            r.rule = f.rule ∧ r.vlan = f.vlan ∧ r.k = (s.dev.reg (ethRule m.val p.val f.rule 0x1C)).toNat)) ∧
    (∀ (p : Fin 8) (r : RxRecord) (rest : List RxRecord) (at_ b : Nat), x.records = r :: rest → r.port = p.val →
      ethPortRuns s.dev m.val p.val = true → s.dev.cmd.heldBack = [] →
      at_ = pairAddr s.dev (ethRule m.val p.val r.rule 0x14) 5 + 32 * (r.k % (s.dev.fld (ethRule m.val p.val r.rule 0x10) 16 16 + 1)) →
      0xFD0000000000 ≤ at_ → at_ + 32 ≤ 0xFE0000000000 → hostAddr s.dev at_ = some b →
      accessCheck s.dev (byBlock s.dev 8 (.eth (m.val / 2))) .hostMem at_ 32 = 0 →
      gives (.ethRecordWrite m p) s (s.dev.moved { s.dev.setEth m.val { x with records := rest } with
        host := { s.dev.host with mem := memWrites s.dev.host.mem b (rxRecordBytes r) } })) ∧
    -- R330: a write to a port's transmit address; a full buffer holds it
    (∀ (p : Fin 8) (data : List Byte), blockStatus s.dev (56 + 2 * (m.val / 8)) true = 0 → ethPortRuns s.dev m.val p.val = true →
      ethLinkUp s.dev m.val p.val = true → 14 ≤ data.length → data.length ≤ 8192 →
      (txHeld x p.val + data.length ≤ 65536 →
        gives (.ethTxWrite m (BitVec.ofNat 16 (0x8000 + 0x800 * p.val)) data) s
          ((s.dev.setEth m.val { x with tx := x.tx ++ [(p.val, data)] }).answer 0 [])) ∧
      (65536 < txHeld x p.val + data.length → exec (.ethTxWrite m (BitVec.ofNat 16 (0x8000 + 0x800 * p.val)) data) s = .next s)) ∧
    -- R332: the oldest frame of the port leaves, padded to 60 bytes, with its FCS
    (∀ (p : Fin 8) (data : List Byte) (rest : List (Nat × List Byte)), x.tx = (p.val, data) :: rest → ethPortRuns s.dev m.val p.val = true →
      ethLinkUp s.dev m.val p.val = true → s.dev.bit (ethCtl m.val p.val) 27 = false → ptpAt data = none →
      ∀ fr, fr = data ++ List.replicate (60 - data.length) 0 →
      ∃ t, exec (.ethTxFrame m p) s = .next t ∧ (t.dev.ethBlk m.val).sent = fr ++ leBytes (crc32 fr).toNat 4 ∧
        (t.dev.ethBlk m.val).tx = rest ∧ (t.dev.ethBlk m.val).stamps = x.stamps ∧
        t.dev.fld (ethA m.val (0x10C + 0x40 * p.val)) 16 16 = (s.dev.fld (ethA m.val (0x10C + 0x40 * p.val)) 16 16 + 1) % 65536) ∧
    -- R343: a read pops the oldest transmit timestamp and latches the rest of it
    (∀ (st : TxStamp) (rest : List TxStamp), x.stamps = st :: rest → blockStatus s.dev (56 + 2 * (m.val / 8)) true = 0 →
      ∃ t, exec (.ethTxtsPop m) s = .next t ∧ (t.dev.ethBlk m.val).stamps = rest ∧ t.dev.rsp.status = 0 ∧
        t.dev.reg (ethA m.val 0x40) = BitVec.ofNat 32 (2 ^ 31 + st.port * 2 ^ 28 + st.mtype * 2 ^ 24 + st.seq) ∧
        t.dev.reg (ethA m.val 0x44) = BitVec.ofNat 32 (timeNs st.time) ∧ t.dev.reg (ethA m.val 0x48) = BitVec.ofNat 32 (timeSec st.time)) ∧
    (x.stamps = [] → blockStatus s.dev (56 + 2 * (m.val / 8)) true = 0 →
      ∃ t, exec (.ethTxtsPop m) s = .next t ∧ t.dev.rsp.data = [0, 0, 0, 0] ∧ t.dev.eth = s.dev.eth)

/-- R334 to R337, R344, R519: where the commands of the host ports and of the command rings complete, and what they leave. -/
def Obligations.HostCompletes : Prop :=
  ∀ (s : State) (h : Half), tabWf regDefault s.dev.regs = true → tabWf laneReset s.dev.lanes = true →
    tabWf memDefault s.dev.host.mem = true →
    -- an access from the host: through a running port whose link is up, within the aperture
    (∀ (off : BitVec 40) (len : Nat) (data : List Byte), hostRuns s.dev h = true → hostUp s.dev h = true →
      off.toNat < 2 ^ s.dev.fld (hptCtl h) 0 6 → ∀ a, a = s.dev.fld (hptA h 0x48) 0 28 * 2 ^ 20 + off.toNat →
      (∀ q, q = busWrite (byBlock s.dev 1 (.host h)) 2 a data s.dev →
        (q.1 ≠ notTaken → gives (.hostBar2Access h true off len data) s (s.dev.moved ((flushReplies q.2).answer q.1 []))) ∧
        (q.1 = notTaken → gives (.hostBar2Access h true off len data) s (s.dev.moved s.dev))) ∧
      (∀ q, q = busRead (byBlock s.dev 1 (.host h)) a len s.dev →
        gives (.hostBar2Access h false off len data) s (s.dev.moved (q.2.answer q.1.status q.1.data)))) ∧
    (∀ (off : BitVec 40) (len : Nat) (data : List Byte), 2 ^ s.dev.fld (hptCtl h) 0 6 ≤ off.toNat →
      ∀ w, gives (.hostBar2Access h w off len data) s (s.dev.moved s.dev)) ∧
    -- the host out aperture, behind the active port
    (∀ (mc : MClass) (a : BitVec 48) (data : List Byte) (b : Nat), 0xFD0000000000 ≤ a.toNat → a.toNat + data.length ≤ 0xFE0000000000 →
      s.dev.activePort = some h → s.dev.up h = true → hostAddr s.dev a.toNat = some b → s.dev.cmd.heldBack = [] →
      a.toNat < 0xFE0000000000 →
      gives (.hostOutRequest mc true a data.length data) s (s.dev.moved
        (Device.answer { s.dev with host := { s.dev.host with mem := memWrites s.dev.host.mem b data } } 0 [])) ∧
      gives (.hostOutRequest mc false a data.length []) s (s.dev.moved (s.dev.answer 0 (memReads s.dev.host.mem b data.length)))) ∧
    -- the producer and the consumer of a ring
    (∀ v : BitVec 16, idxGap v.toNat (ringIdx s.dev (hostCarrier h) 0x30) ≤ ringSlots s.dev (hostCarrier h) →
      idxGap v.toNat (ringIdx s.dev (hostCarrier h) 0x24) ≤ ringSlots s.dev (hostCarrier h) →
      ∃ t, exec (.reqProdWrite h v) s = .next t ∧ t.dev.reg (ringA (hostCarrier h) 0x24) = v.setWidth 32 ∧
        t.dev.cmd.arrived = s.dev.cmd.arrived ++
          List.replicate (idxGap v.toNat (ringIdx s.dev (hostCarrier h) 0x24)) (hostCarrier h, [])) ∧
    (∀ v : BitVec 16, ringSlots s.dev (hostCarrier h) < idxGap v.toNat (ringIdx s.dev (hostCarrier h) 0x30) →
      gives (.reqProdWrite h v) s (s.dev.setBit (hptStat h) 1)) ∧
    (∀ v : BitVec 16, s.dev.cmd.heldBack = [] →
      gives (.rspConsWrite (some h) 1 v) s (s.dev.moved ((s.dev.setReg (ringA (hostCarrier h) 0x30) (v.setWidth 32)).answer 0 []))) ∧
    -- R336: the make-active command, and the failover
    (hostActive s.dev h = false →
      ((s.dev.up h = false ∨ ∃ n ∈ hostDomains s.dev h, s.dev.domOn n = false) → gives (.makeActive h) s (s.dev.setBit (hptStat h) 0)) ∧
      (s.dev.up h = true → (∀ n ∈ hostDomains s.dev h, s.dev.domOn n = true) →
        ∃ t, exec (.makeActive h) s = .next t ∧ hostActive t.dev h = true ∧ hostActive t.dev (otherHalf h) = false ∧
          hostUp t.dev h = false ∧ t.dev.activePort = some h)) ∧
    (s.dev.activePort = some h → hostActive s.dev (otherHalf h) = false → s.dev.up h = false → s.dev.up (otherHalf h) = true → s.dev.fld (bobA 0) 0 16 = 0 →
      (s.dev.fifo (otherHalf h)).length < 1024 →
      ∃ t, exec .hostPortFailover s = .next t ∧ hostActive t.dev (otherHalf h) = true ∧ hostActive t.dev h = false ∧
        t.dev.fifo (otherHalf h) = s.dev.fifo (otherHalf h) ++ [⟨0x61, hn h, 0, s.dev.now (otherHalf h)⟩]) ∧
    (s.dev.activePort = none → exec .hostPortFailover s = .next s) ∧
    -- links
    (hostRuns s.dev h = true →
      (∃ t, exec (.loopbackRefused h) s = .next t ∧ hostUp t.dev h = false ∧ t.dev.bit (hptStat h) 2 = true ∧
        hostActive t.dev h = true ∧ t.dev.host.mem = s.dev.host.mem) ∧
      (1 ≤ s.dev.fld (hptCtl h) 26 3 → (hostWidest s.dev h).isSome = true → ∃ t, exec (.hostLinkChange h true) s = .next t ∧ hostUp t.dev h = true ∧
        1 ≤ t.dev.fld (hptStat h) 27 3 ∧ t.dev.fld (hptStat h) 27 3 ≤ s.dev.fld (hptCtl h) 26 3 ∧
        t.dev.fld (hptStat h) 24 3 ≤ s.dev.fld (hptCtl h) 23 3)) ∧
    (∃ t, exec (.hostLinkChange h false) s = .next t ∧ hostUp t.dev h = false ∧ t.dev.fld (hptStat h) 24 6 = 0 ∧
      hostActive t.dev h = hostActive s.dev h)

/-- R338 to R341, R345: where the commands of a JESD link complete, and what they leave. -/
def Obligations.JesdCompletes : Prop :=
  ∀ (s : State) (j : Fin 8), tabWf regDefault s.dev.regs = true → tabWf jesdReset s.dev.jesd = true → ∀ x, x = s.dev.jesdBlk j.val →
    (∀ v : BitVec 32, jsdOn s.dev j.val = false → fieldOf v 31 1 = 1 → fieldOf v 22 3 = 0 → ∀ w, w = v &&& 0x7E3F001F →
      ((∀ n ∈ jsdDomains j.val (fieldOf w 0 5), s.dev.domOn n = true) → jsdFits s.dev j.val w = true →
        ∃ t, exec (.jesdEnable j v) s = .next t ∧ jsdOn t.dev j.val = true ∧ t.dev.bit (jsdStat j.val) 31 = true ∧
          t.dev.reg (jsdCtl j.val) &&& 0x7E3F001F = w ∧ (t.dev.jesdBlk j.val).aligned = false) ∧
      (jsdFits s.dev j.val w = false →
        ∃ t, exec (.jesdEnable j v) s = .next t ∧ jsdOn t.dev j.val = false ∧ t.dev.bit (jsdStat j.val) 0 = true)) ∧
    (blockStatus s.dev (60 + j.val / 4) true = 0 → gives (.jesdArm j) s (s.dev.setJesd j.val { x with armed := true })) ∧
    (blockStatus s.dev (60 + j.val / 4) true = 2 → exec (.jesdArm j) s = .next { s with dev := s.dev.answer 2 [] }) ∧
    -- R339: octets received go to DRAM or wherever the buffer lies, 256 at a time, here to host memory
    (∀ (octets : List Byte) (at_ b : Nat), octets.length = 256 → jsdRuns s.dev j.val = true → jsdTx s.dev j.val = false → x.data = true →
      s.dev.cmd.heldBack = [] →
      at_ = pairAddr s.dev (jsdA j.val 0x20) 8 + 256 * x.rxCount % (2 ^ s.dev.fld (jsdA j.val 0x28) 0 4 * 1024) →
      0xFD0000000000 ≤ at_ → at_ + 256 ≤ 0xFE0000000000 → hostAddr s.dev at_ = some b →
      accessCheck s.dev (byBlock s.dev 8 (.jesd j.val)) .hostMem at_ 256 = 0 →
      gives (.jesdRxWrite j octets) s (s.dev.moved { s.dev.setJesd j.val { x with rxCount := x.rxCount + 1 } with
        host := { s.dev.host with mem := memWrites s.dev.host.mem b octets } })) ∧
    (∀ octets : List Byte, x.data = false → gives (.jesdRxWrite j octets) s (s.dev.moved s.dev)) ∧
    (∀ octets : List Byte, blockStatus s.dev (60 + j.val / 4) true = 0 →
      (octets.length % 4 = 0 → x.tx.length + octets.length ≤ 65536 →
        gives (.jesdTxWrite j octets) s ((s.dev.setJesd j.val { x with tx := x.tx ++ octets }).answer 0 [])) ∧
      (octets.length % 4 ≠ 0 ∨ 65536 < x.tx.length + octets.length →
        gives (.jesdTxWrite j octets) s (s.dev.answer 8 []))) ∧
    (∀ count : Nat, jsdRuns s.dev j.val = true → jsdTx s.dev j.val = true → x.data = true →
      (count ≤ x.tx.length →
        gives (.jesdTxOctet j count) s (s.dev.setJesd j.val { x with tx := x.tx.drop count, sent := x.tx.take count })) ∧
      (x.tx.length < count → ∃ t, exec (.jesdTxOctet j count) s = .next t ∧ t.dev.bit (jsdStat j.val) 1 = true ∧
        (t.dev.jesdBlk j.val).tx = [] ∧ (t.dev.jesdBlk j.val).sent = x.tx ++ List.replicate (count - x.tx.length) 0)) ∧
    (jsdRuns s.dev j.val = true →
      ∃ t, exec (.jesdRestart j) s = .next t ∧ t.dev.fld (jsdStat j.val) 8 8 = (s.dev.fld (jsdStat j.val) 8 8 + 1) % 256 ∧
        (t.dev.jesdBlk j.val).data = jsdReady s.dev j.val ∧ ∀ a, a ≠ jsdStat j.val → t.dev.reg a = s.dev.reg a) ∧
    (jsdRuns s.dev j.val = true → jsdTx s.dev j.val = true → jsdC s.dev j.val = false →
      (x.data = true → ∃ t, exec (.jesdSyncChange j false) s = .next t ∧ t.dev.jesdBlk j.val = { x with sync := false, data := false } ∧
        t.dev.fld (jsdStat j.val) 8 8 = (s.dev.fld (jsdStat j.val) 8 8 + 1) % 256) ∧
      gives (.jesdSyncChange j true) s (ilasSend j.val (s.dev.setJesd j.val { x with sync := true, data := jsdReady s.dev j.val })))

/-! ### Memory channels and their codes -/

/-- R348: the map of a region is one-to-one, with or without hashing: the channel index and channel address of an offset give the offset
back, the index is one of the set, and hashing changes the index alone. -/
def Obligations.DramMapOneToOne : Prop :=
  ∀ (g w r : Nat) (hash : Bool), 7 ≤ g → g ≤ 16 → w ≤ 3 → r < 2 ^ 39 →
    mapFrom g w hash (mapTo g w hash r).1 (mapTo g w hash r).2 = r ∧ (mapTo g w hash r).1 < 2 ^ w ∧
    (mapTo g w hash r).2 < 2 ^ (39 - w) ∧ (mapTo g w hash r).2 = (mapTo g w false r).2 ∧
    (∀ i l, i < 2 ^ w → l < 2 ^ (39 - w) → mapFrom g w hash i l < 2 ^ 39 ∧ mapTo g w hash (mapFrom g w hash i l) = (i, l))

/-- R347, R350 to R362, R364: where the commands of a memory channel complete, and what they leave. -/
def Obligations.MemoryCompletes : Prop :=
  ∀ (s : State) (n : Fin 8), tabWf regDefault s.dev.regs = true → tabWf chanReset s.dev.mem.chans = true →
    tabWf intZero (s.dev.chan n.val).debt = true → ∀ x, x = s.dev.chan n.val →
    -- R350: DRAM regions change only in Blank and Loading
    (∀ v : BitVec 32, fieldOf v 8 4 ≤ 9 → ∀ t, t = s.dev.setReg (mapReg 0) (v &&& 0x80FF1F00) →
      (s.dev.sys.mode = .blank → fieldOf v 31 1 = 1 → (regionChans t 0).length = 1 → regionOn t 1 = false →
        gives (.dramMapWrite false v) s (t.setFld (thmA 0x2108) 0 10 ((regionSize t 0 + regionSize t 1) / 2 ^ 30))) ∧
      (s.dev.sys.mode = .running → gives (.dramMapWrite false v) s (s.dev.setBit (thmA 0x2108) 31))) ∧
    -- R347, R358: enabling and training
    (blockStatus s.dev (44 + n.val) false = 0 →
      (∀ v : BitVec 32, s.dev.bit (chanCfg n.val) 31 = false → fieldOf v 31 1 = 1 →
        (fieldOf v 28 3 < 5 → x.sr = none →
          ∃ t, exec (.mchEnable n v) s = .next t ∧ t.dev.reg (chanCfg n.val) = v &&& 0xFF000000 ∧ t.dev.chanState n.val = 1) ∧
        (5 ≤ fieldOf v 28 3 →
          ∃ t, exec (.mchEnable n v) s = .next t ∧ t.dev.bit (chanCfg n.val) 31 = false ∧ t.dev.bit (mchA n.val 8) 0 = true)) ∧
      (∀ (r : Bool) (k : Fin 20) (v : BitVec 32),
        (s.dev.chanState n.val ≤ 1 → gives (.dlyWrite n r k v) s (setDelay n.val (b2n r) k.val v s.dev)) ∧
        (1 < s.dev.chanState n.val → gives (.dlyWrite n r k v) s (s.dev.setBit (mchA n.val 8) 0))) ∧
      (∀ m0 m1 : List Word, s.dev.twoRanks n.val = false → gives (.driftPauseNow n m0 m1) s (driftPause n.val 0 m0 s.dev)) ∧
      (∀ m0 m1 : List Word, s.dev.twoRanks n.val = true →
        gives (.driftPauseNow n m0 m1) s (driftPause n.val 1 m1 (driftPause n.val 0 m0 s.dev)))) ∧
    (∀ delays : List Word, s.dev.chanState n.val = 1 → mchClock s.dev n.val = true →
      gives (.channelTraining n true true true delays) s ((s.dev.setChan n.val { x with trained := true, sr := none }).setChanState n.val 2) ∧
      ∃ t, exec (.channelTraining n false false true delays) s = .next t ∧ t.dev.chanState n.val = 4 ∧ t.dev.bit (mchA n.val 8) 1 = true) ∧
    -- R351 to R353: a request is refused, queued, or answered once it is in the write queue
    (∀ rq : MemReq, 0 < rq.len →
      (chanCheck s.dev n.val rq.mclass.val rq.addr rq.len false ≠ 0 →
        gives (.mchRead n rq) s (s.dev.updated (chanAnswer n.val rq.rid
          { status := chanCheck s.dev n.val rq.mclass.val rq.addr rq.len false } s.dev))) ∧
      (chanCheck s.dev n.val rq.mclass.val rq.addr rq.len false = 0 → x.wq = [] → readCredit x rq.cls.val = true →
        gives (.mchRead n rq) s (s.dev.updated (s.dev.setChan n.val
          { x with rq := x.rq ++ [{ rid := rq.rid, seq := x.arrivals, mclass := rq.mclass.val, cls := rq.cls.val, addr := rq.addr
                                    len := rq.len, promoted := none }]
                   arrivals := x.arrivals + 1 }))) ∧
      (∀ data : List Byte, data.length = rq.len → rq.addr % 128 + rq.len ≤ 128 → x.wq = [] → x.rq = [] →
        chanCheck s.dev n.val rq.mclass.val rq.addr rq.len true = 0 →
        ∃ t e, exec (.mchWrite n rq data) s = .next t ∧ (t.dev.chan n.val).wq = [e] ∧ e.line = rq.addr / 128 ∧ e.rid = rq.rid ∧
          e.bytes = data.zipIdx.map (fun y => (rq.addr % 128 + y.2, y.1)) ∧ t.dev.mem.dram = s.dev.mem.dram ∧
          (t.dev.chan n.val).answers = (rq.rid, {}) :: x.answers.filter (fun y => y.1 != rq.rid))) ∧
    -- R354 to R357: scheduling, promotion and refresh
    (∀ legal : List Nat,
      (s.dev.chanState n.val ≠ 2 → gives (.mchSchedule n legal) s (s.dev.updated s.dev)) ∧
      (mchClock s.dev n.val = true → ∀ k, s.dev.chanState n.val = 2 → k < 4 * ranksOf s.dev n.val → (∀ j, j < 8 → debtOf s.dev n.val j ≠ 4) →
        1 ≤ debtOf s.dev n.val k → bankBusy s.dev n.val k = false →
        (∀ j, j < k → debtOf s.dev n.val j < 1 ∨ bankBusy s.dev n.val j = true) →
        gives (.mchSchedule n legal) s (s.dev.updated (refresh n.val k s.dev))) ∧
      (∀ k, s.dev.chanState n.val = 2 → mchClock s.dev n.val = true → k < 4 * ranksOf s.dev n.val → debtOf s.dev n.val k = 4 → (∀ j, j < k → debtOf s.dev n.val j ≠ 4) →
        gives (.mchSchedule n legal) s (s.dev.updated ((refresh n.val k s.dev).bump (mchA n.val 0x30) 0 32 1))) ∧
      (∀ e : RdEntry, s.dev.chanState n.val = 2 → mchClock s.dev n.val = true →
        (∀ k, k < 8 → debtOf s.dev n.val k < 1 ∨ (debtOf s.dev n.val k ≠ 4 ∧ bankBusy s.dev n.val k = true)) → x.rq = [e] → x.wq = [] → e.rid ∈ legal →
        gives (.mchSchedule n legal) s (s.dev.updated (serveRead n.val e (s.dev.setChan n.val
          { x with openRow := tabSet natZero x.openRow (bankKey s.dev n.val e.addr) (dramRow s.dev n.val e.addr + 1) }))))) ∧
    (∀ e : RdEntry, x.rq = [e] → x.wq = [] → e.promoted = none → e.cls = 1 → s.dev.fld (mchA n.val 0xC) 8 8 ≠ 0 →
      gives (.mchPromotion n e.rid) s (s.dev.setChan n.val { x with rq := [{ e with promoted := some x.promos }], promos := x.promos + 1 })) ∧
    (s.dev.chanState n.val = 2 → ∃ t, exec (.refreshDebt n) s = .next t ∧ t.dev.regs = s.dev.regs ∧
      ∀ k, k < 4 * ranksOf s.dev n.val →
        debtOf t.dev n.val k = if debtOf s.dev n.val k < 4 then debtOf s.dev n.val k + 1 else debtOf s.dev n.val k) ∧
    (∀ (r : Bool) (c : Int), ∃ t, exec (.rankTempRead n r c) s = .next t ∧ bitsAt (t.dev.chan n.val).hot.toNat (b2n r) 1 = b2n (decide (85 < c)) ∧
      bitsAt (t.dev.chan n.val).hot.toNat (1 - b2n r) 1 = bitsAt x.hot.toNat (1 - b2n r) 1 ∧
      t.dev.bit (mchA n.val 8) 28 = decide ((t.dev.chan n.val).hot ≠ 0)) ∧
    -- R359: a delay moves by at most one tap, toward the measured one, inside its window
    (∀ (r : Bool) (meas : List Word), s.dev.chanState n.val = 2 → mchClock s.dev n.val = true → s.dev.fld (mchA n.val 0) 16 8 ≠ 0 →
      s.dev.bit (mchA n.val 0) 28 = false →
      ∃ t, exec (.driftPause n r meas) s = .next t ∧ t.dev.fld (mchA n.val 0x34) 0 32 = (s.dev.fld (mchA n.val 0x34) 0 32 + 1) % 2 ^ 32 ∧
        ∀ k lo, k < 20 → lo = 0 ∨ lo = 16 → t.dev.fld (dlyA n.val (b2n r) k) lo 10 =
          (driftStep (s.dev.fld (dlyA n.val (b2n r) k) lo 10) (fieldOf (nth meas k (s.dev.reg (dlyA n.val (b2n r) k))) lo 10)
            (fieldOf (tabGet natWordZero x.centres (20 * b2n r + k)) lo 10) (s.dev.fld (mchA n.val 0) 24 4)).1) ∧
    -- R360 to R362: self-refresh
    (s.dev.chanState n.val = 2 →
      (∀ st : Fin 4, x.rq = [] → x.wq = [] → cacheOf s.dev n.val = [] →
        ∃ t, exec (.selfRefreshEntry n (.domain st)) s = .next t ∧ t.dev.chanState n.val = 3 ∧
          t.dev.chan n.val = { x with sr := some (.domain st), openRow := [] }) ∧
      (∃ t, exec (.selfRefreshEntry n .clockFailed) s = .next t ∧ t.dev.chanState n.val = 3 ∧
        t.dev.chan n.val = { x with sr := some .clockFailed, openRow := [] })) ∧
    (s.dev.chanState n.val = 3 → x.sr.isSome = true → mchClock s.dev n.val = true → s.dev.forced (44 + n.val) = false →
      s.dev.bit (chanCfg n.val) 31 = true → s.dev.bit (mchA n.val 0) 28 = true → x.wq = [] →
      ∃ t, exec (.selfRefreshExit n) s = .next t ∧ t.dev.chanState n.val = 2 ∧ (t.dev.chan n.val).sr = none ∧
        (t.dev.chan n.val).debt = x.debt.filter (fun kv => decide (kv.2 < 0)) ∧ t.dev.mem.dram = s.dev.mem.dram)

/-- R370 to R373, R378 to R387: where the commands of a channel's codes and of its scrubber complete, and what they leave. -/
def Obligations.EccCompletes : Prop :=
  ∀ (s : State) (n : Fin 8), tabWf regDefault s.dev.regs = true → tabWf chanReset s.dev.mem.chans = true → ∀ x, x = s.dev.chan n.val →
    (blockStatus s.dev (44 + n.val) false = 0 → ∀ (r : Bool) (a : Nat), a = markA n.val (b2n r) →
      (∀ dev : BitVec 5, dev.toNat ≤ 19 →
        (s.dev.bit a 31 = false → s.dev.bit a 7 = false → s.dev.bit a 15 = false →
          ∃ t, exec (.eccMark n r dev) s = .next t ∧ marks t.dev n.val (b2n r) = [dev.toNat] ∧ t.dev.bit (eccStat n.val) 2 = true) ∧
        (s.dev.bit a 31 = false → s.dev.bit a 7 = true → s.dev.bit a 15 = true → dev.toNat ≠ s.dev.fld a 0 5 → dev.toNat ≠ s.dev.fld a 8 5 →
          ∃ t, exec (.eccMark n r dev) s = .next t ∧ retired t.dev n.val (b2n r) = true ∧ t.dev.fld a 16 5 = dev.toNat ∧
            t.dev.bit (eccStat n.val) 3 = true) ∧
        (s.dev.chanState n.val ≤ 1 → salvaged s.dev n.val (b2n r) = false → s.dev.bit a 31 = false → s.dev.bit a 7 = true →
          s.dev.fld a 0 5 = dev.toNat →
          ∃ t, exec (.eccUnmark n r dev) s = .next t ∧ t.dev.bit a 7 = false ∧ t.dev.bit a 15 = s.dev.bit a 15)) ∧
      (∀ dev : BitVec 5, 19 < dev.toNat →
        ∃ t, exec (.eccMark n r dev) s = .next t ∧ t.dev.bit (eccStat n.val) 5 = true ∧ t.dev.reg a = s.dev.reg a) ∧
      (s.dev.bit a 31 = true → s.dev.bit a 30 = false → s.dev.bit a 29 = false →
        ∃ t, exec (.eccSalvage n r) s = .next t ∧ t.dev.bit a 29 = true ∧ t.dev.bit (eccStat n.val) 5 = s.dev.bit (eccStat n.val) 5) ∧
      (∃ t, exec (.eccClearPersistent n r) s = .next t ∧ (∀ k, k < 5 → t.dev.reg (mchA n.val (0x840 + 0x20 * b2n r + 4 * k)) = 0) ∧
        (t.dev.chan n.val).counted = tabDrop (fun k => k / 20 == b2n r) x.counted)) ∧
    (∀ r : Bool, s.dev.mem.symErr = [] → s.dev.bit (markA n.val (b2n r)) 29 = true →
      ∃ t, exec (.salvageDone n r) s = .next t ∧ salvaged t.dev n.val (b2n r) = true ∧ t.dev.bit (markA n.val (b2n r)) 29 = false) ∧
    (∀ r : Bool, s.dev.bit (markA n.val (b2n r)) 29 = false → exec (.salvageDone n r) s = .next s) ∧
    -- R378, R379: a clean line is left as it is
    (s.dev.chanState n.val = 2 → mchClock s.dev n.val = true → s.dev.bit (mchA n.val 0x900) 28 = true → passBusy s.dev n.val = false → x.wq = [] →
      salvaged s.dev n.val 0 = false → salvaged s.dev n.val 1 = false → decodeLine s.dev n.val x.patrol = .clean →
      x.patrol + 1 < chanLines s.dev n.val → 
      gives (.patrolScrub n) s (s.dev.updated (s.dev.setChan n.val { x with patrol := x.patrol + 1 }))) ∧
    (passBusy s.dev n.val = true → gives (.patrolScrub n) s (s.dev.updated s.dev)) ∧
    (blockStatus s.dev (44 + n.val) false = 0 →
      (passBusy s.dev n.val = false → s.dev.chanState n.val = 2 →
        (s.dev.fld (mchA n.val 0x908) 0 29 ≤ s.dev.fld (mchA n.val 0x90C) 0 29 →
          ∃ t, exec (.scrubPassStart n) s = .next t ∧ passBusy t.dev n.val = true ∧
            (t.dev.chan n.val).pass = some (s.dev.fld (mchA n.val 0x908) 0 29) ∧ t.dev.reg (mchA n.val 0x910) = 0) ∧
        (s.dev.fld (mchA n.val 0x90C) 0 29 < s.dev.fld (mchA n.val 0x908) 0 29 →
          gives (.scrubPassStart n) s (s.dev.setBit (scrubStat n.val) 28))) ∧
      (passBusy s.dev n.val = true → ∃ t, exec (.scrubPassStop n) s = .next t ∧ passBusy t.dev n.val = false ∧
        t.dev.bit (scrubStat n.val) 30 = true ∧ t.dev.bit (scrubStat n.val) 29 = true ∧ (t.dev.chan n.val).pass = none) ∧
      (passBusy s.dev n.val = false → gives (.scrubPassStop n) s s.dev) ∧
      (∀ (mc : MClass) (v : BitVec 32),
        (mc.val = 2 ∨ mc.val = 3 → gives (.mchInjectArm n mc v) s ((s.dev.setReg (mchA n.val 0x940) (v &&& 0xC00F1F1F)).answer 0 [])) ∧
        (mc.val ≠ 2 → mc.val ≠ 3 → gives (.mchInjectArm n mc v) s (s.dev.answer 8 []))) ∧
      (∀ (k : BitVec 8) (e : Repeat), rptGet x k.toNat = some e →
        ∃ t, exec (.rptIdxWrite n k) s = .next t ∧ t.dev.bit (mchA n.val 0x884) 31 = true ∧
          t.dev.fld (mchA n.val 0x884) 0 29 = e.line % 2 ^ 29 ∧ t.dev.mem = s.dev.mem) ∧
      (∀ k : BitVec 8, rptGet x k.toNat = none →
        ∃ t, exec (.rptIdxWrite n k) s = .next t ∧ t.dev.reg (mchA n.val 0x884) = 0 ∧ t.dev.reg (mchA n.val 0x888) = 0)) ∧
    (∀ line : Nat, x.pass = some line → s.dev.chanState n.val = 2 → mchClock s.dev n.val = true → x.wq = [] → salvaged s.dev n.val 0 = false →
      salvaged s.dev n.val 1 = false → decodeLine s.dev n.val line = .clean → line < s.dev.fld (mchA n.val 0x90C) 0 29 →
      ∃ t, exec (.scrubPassLine n) s = .next t ∧ t.dev.chan n.val = { x with pass := some (line + 1) } ∧
        t.dev.fld (mchA n.val 0x910) 0 32 = (s.dev.fld (mchA n.val 0x910) 0 32 + 1) % 2 ^ 32 ∧ t.dev.mem.dram = s.dev.mem.dram)

/-! ### The Lining -/

/-- R389 to R391, R400, R405, R592, R593: where the Lining's commands complete, and what they leave. -/
def Obligations.LiningCompletes : Prop :=
  ∀ (s : State) (i : Fin 16), tabWf regDefault s.dev.regs = true → tabWf noSweep s.dev.mem.sweeps = true →
    tabWf noKey s.dev.mem.keys = true →
    -- opening: zeros or what is there, from the base on, under a new key
    (∀ mode : Bool, ∀ d, d = linFields i.val mode s.dev →
      (rngState s.dev i.val = 0 → rangeValid s.dev i.val = true →
        ∃ t, exec (.liningOpen i mode) s = .next t ∧ rngState t.dev i.val = 1 ∧ rngSel t.dev i.val = false ∧
          tabGet noKey t.dev.mem.keys i.val = some s.dev.mem.nextKey ∧ t.dev.mem.nextKey = s.dev.mem.nextKey + 1 ∧
          sweepOf t.dev i.val = some { kind := if mode then .adopt else .zero, start := rngBase s.dev i.val, pos := rngBase s.dev i.val
                                       wrapped := false, oldKey := 0 }) ∧
      (rngState s.dev i.val = 0 → rangeValid s.dev i.val = false → gives (.liningOpen i mode) s d) ∧
      (linBusy s.dev i.val = true → gives (.liningOpen i mode) s d ∧ gives (.liningClose i mode) s d) ∧
      (rngState s.dev i.val = 2 → gives (.liningOpen i mode) s (linCmdErr d)) ∧
      -- closing: a Lost range at once; the key of a discarded one is erased before the sweep
      (rngState s.dev i.val = 0 → gives (.liningClose i mode) s (linCmdErr d)) ∧
      (rngState s.dev i.val = 5 → ∃ t, exec (.liningClose i mode) s = .next t ∧ rngState t.dev i.val = 0 ∧
        tabGet noKey t.dev.mem.keys i.val = none) ∧
      (rngState s.dev i.val = 2 → ∃ t, exec (.liningClose i mode) s = .next t ∧ rngState t.dev i.val = 4 ∧
        tabGet noKey t.dev.mem.keys i.val = (if mode then tabGet noKey s.dev.mem.keys i.val else none) ∧
        sweepOf t.dev i.val = some { kind := if mode then .reveal else .discard, start := rngBase s.dev i.val, pos := rngBase s.dev i.val
                                     wrapped := false, oldKey := 0 })) ∧
    -- re-keying: a new key and the other epoch
    (rngState s.dev i.val = 2 → ∃ t, exec (.liningRekey i) s = .next t ∧ rngState t.dev i.val = 3 ∧ rngSel t.dev i.val = !rngSel s.dev i.val ∧
      tabGet noKey t.dev.mem.keys i.val = some s.dev.mem.nextKey ∧
      sweepOf t.dev i.val = some { kind := .rekey, start := rngBase s.dev i.val, pos := rngBase s.dev i.val, wrapped := false
                                   oldKey := keyOf s.dev i.val }) ∧
    -- the sweep: one line, then the next; the end of a discard closes the range
    (sweepOf s.dev i.val = none → gives (.sweepLine i) s (s.dev.updated s.dev)) ∧
    (∀ (sw : Sweep) (n l : Nat), sweepOf s.dev i.val = some sw → sw.kind = .discard → dramDecode s.dev sw.pos = some (n, l) →
      s.dev.safeCause = 0 → s.dev.chanState n = 2 → (cacheOf s.dev n).length ≤ 2046 →
      (sw.pos + 128 ≤ rngLimit s.dev i.val → ∃ t, exec (.sweepLine i) s = .next t ∧
        sweepOf t.dev i.val = some { sw with pos := sw.pos + 128 } ∧ rngState t.dev i.val = rngState s.dev i.val ∧
        t.dev.mem.dram = s.dev.mem.dram) ∧
      (rngLimit s.dev i.val < sw.pos + 128 → ∃ t, exec (.sweepLine i) s = .next t ∧ sweepOf t.dev i.val = none ∧ rngState t.dev i.val = 0)) ∧
    (∀ (sw : Sweep) (n l : Nat), sweepOf s.dev i.val = some sw → sw.kind = .zero → dramDecode s.dev sw.pos = some (n, l) →
      s.dev.safeCause = 0 → s.dev.chanState n = 2 → (cacheOf s.dev n).length ≤ 2046 → mixOf s.dev n (l / 128) = none → s.dev.mem.dram.wf = true →
      ∃ t, exec (.sweepLine i) s = .next t ∧ t.dev.lineBytes n (l / 128) = List.replicate 128 0 ∧
        (∀ a, a < 2 ^ 36 * n + l / 128 * 128 ∨ 2 ^ 36 * n + l / 128 * 128 + 128 ≤ a → memRead t.dev.mem.dram a = memRead s.dev.mem.dram a)) ∧
    (∀ (sw : Sweep) (n l : Nat), sweepOf s.dev i.val = some sw → dramDecode s.dev sw.pos = some (n, l) → s.dev.chanState n ≠ 2 →
      gives (.sweepLine i) s (s.dev.updated s.dev)) ∧
    -- R400: a block whose mirror write was refused is written back again
    (∀ (n : Fin 8) (k : Nat), (cacheOf s.dev n.val).filter (fun e => e.2 == 2) = [(k, 2)] →
      gives (.mirrorRetry n) s (s.dev.updated (writeBack n.val k s.dev))) ∧
    (∀ n : Fin 8, (cacheOf s.dev n.val).filter (fun e => e.2 == 2) = [] → gives (.mirrorRetry n) s (s.dev.updated s.dev))

/-! ### Shuttle -/

/-- R412 to R432: where the commands of a Shuttle engine complete, and what they leave, for a queue whose context is in the cache of the
engine's half: doorbells, kicks, the queue commands, the shadow set, a plain descriptor from fetch to record answer. -/
def Obligations.ShuttleCompletes : Prop :=
  ∀ (s : State) (n : Fin 16), tabWf regDefault s.dev.regs = true → tabWf shtReset s.dev.sht.engines = true → watchedSegs s.dev = [] →
    ∀ x h, x = s.dev.shuttle n.val → h = engHalf n.val → (ctxCache s.dev h).length ≤ 16384 →
    -- R415: the FIFO takes 256 doorbells and holds the next one; op 3 has no effect
    (∀ (mc : MClass) (v : BitVec 64), blockStatus s.dev (52 + n.val / 8) true = 0 →
      (bitsAt v.toNat 62 2 ≠ 3 → x.bells.length < 256 →
        gives (.doorbellWrite n mc v) s ((s.dev.setShuttle n.val { x with bells := x.bells ++ [(v, mc.val)] }).answer 0 [])) ∧
      (bitsAt v.toNat 62 2 ≠ 3 → 256 ≤ x.bells.length → exec (.doorbellWrite n mc v) s = .next s) ∧
      (bitsAt v.toNat 62 2 = 3 → gives (.doorbellWrite n mc v) s (s.dev.answer 0 []))) ∧
    (∀ (v : BitVec 64) (mc : Nat) (rest : List (BitVec 64 × Nat)) (sl : CtxSlot), x.bells = (v, mc) :: rest → shtWorks s.dev n.val = true →
      ctxHit s.dev h (bitsAt v.toNat 32 20) = some sl → ∀ c d q idx, c = sl.ctx → q = bitsAt v.toNat 32 20 → idx = bitsAt v.toNat 0 32 →
      d = ctxPut h sl (s.dev.setShuttle n.val { x with bells := rest }) →
      (bitsAt v.toNat 62 2 = 0 →
        (cLive c = false ∨ cEngine c ≠ n.val → gives (.doorbellProducer n) s (s.dev.updated (shtFlag n.val 20 q d))) ∧
        (cLive c = true → cEngine c = n.val → cKickMask c mc = false → gives (.doorbellProducer n) s (s.dev.updated (shtFlag n.val 21 q d))) ∧
        (cLive c = true → cEngine c = n.val → cKickMask c mc = true → gap32 idx (cCons c) ≤ 2 ^ cRingK c →
          gives (.doorbellProducer n) s (s.dev.updated (ctxSet n.val q (setCfld c 0x10 0 32 idx) d))) ∧
        (cLive c = true → cEngine c = n.val → cKickMask c mc = true → 2 ^ cRingK c < gap32 idx (cCons c) →
          gives (.doorbellProducer n) s (s.dev.updated (shtFlag n.val 22 q d)))) ∧
      (cLive c = true → cEngine c = n.val → cKickMask c mc = true →
        (bitsAt v.toNat 62 2 = 1 → gap32 (cCqProd c) idx ≤ 2 ^ cCqK c →
          gives (.doorbellConsumer n) s (s.dev.updated (ctxSet n.val q (setCfld c 0x18 32 32 idx) d))) ∧
        -- R416: a kick releases kick_n descriptors beyond what is released and done, or all there are
        (bitsAt v.toNat 62 2 = 2 → cGated c = true → ∀ base most rel,
          base = (if gap32 (cRel c) (cCons c) < 2 ^ 31 then cRel c else cCons c) → most = (base + cKickN c) % 2 ^ 32 →
          rel = (if cKickN c = 0 ∨ gap32 most (cProd c) < 2 ^ 31 then cProd c else most) →
          (rel ≠ base → gap32 rel base < 2 ^ 31 → rel ≠ cRel c →
            gives (.doorbellKick n) s (s.dev.updated (ctxSet n.val q (setCfld c 0x20 32 32 rel) d))) ∧
          (rel = base → rel = cRel c → gives (.doorbellKick n) s (s.dev.updated (shtFlag n.val 25 q d)))))) ∧
    -- R412, R413: a fetch from DRAM whose epoch and CRC are good, and one whose epoch has passed
    (∀ (q : BitVec 20) (bs : List Byte) (d : Device), shtWorks s.dev n.val = true → ctxHit s.dev h q.toNat = none →
      dramRead 8 (ctxAddr s.dev q.toNat) 64 s.dev = ({ data := bs }, d) → ∀ c : Ctx, c = BitVec.ofNat 512 (leNat bs) →
      (cfld c 0x38 0 16 = epochOf d h → ctxSeal c = c →
        gives (.contextFetch n q) s (s.dev.updated (ctxPut h { q := q.toNat, ctx := c, dirty := false } d))) ∧
      (cfld c 0x38 0 16 ≠ epochOf d h →
        gives (.contextFetch n q) s (s.dev.updated (ctxPut h { q := q.toNat, ctx := setCfld c 0x20 0 2 0, dirty := false } d)))) ∧
    -- R431: the queue commands, for Thimble
    (blockStatus s.dev (52 + n.val / 8) true = 0 → ∀ q, q = s.dev.fld (shtA n.val 0x300) 0 20 →
      (inFlight s.dev q = false → cEngine (qdata s.dev n.val) = n.val →
        gives (.queueContextWrite n 3) s (s.dev.updated
          ((ctxSet n.val q (ctxSeal (qdata s.dev n.val)) (ctxForget (otherHalf h) q s.dev)).answer 0 []))) ∧
      (inFlight s.dev q = true → gives (.queueContextWrite n 3) s (s.dev.updated ((shtFlag n.val 26 q s.dev).answer 0 []))) ∧
      (∀ sl : CtxSlot, ctxHit s.dev h q = some sl →
        (∃ t, exec (.queueContextRead n 3) s = .next t ∧ t.dev.rsp.status = 0 ∧
          ∀ i, i < 16 → t.dev.reg (shtA n.val (0x310 + 4 * i)) = BitVec.ofNat 32 (bitsAt (ctxSeal sl.ctx).toNat (32 * i) 32)) ∧
        (cEngine sl.ctx = n.val →
          (cState sl.ctx = 1 →
            gives (.queueStop n 3) s (s.dev.updated ((ctxSet n.val q (setCfld sl.ctx 0x20 0 2 2) (ctxPut h sl s.dev)).answer 0 []))) ∧
          (cState sl.ctx = 2 ∨ cState sl.ctx = 3 →
            gives (.queueResume n 3) s (s.dev.updated ((ctxSet n.val q (setCfld sl.ctx 0x20 0 2 1) (ctxPut h sl s.dev)).answer 0 []))))) ∧
      (∀ mc : MClass, mc.val ≠ 3 → gives (.queueContextWrite n mc) s (s.dev.updated (s.dev.answer 8 [])) ∧
        gives (.queueContextRead n mc) s (s.dev.updated (s.dev.answer 8 [])) ∧
        gives (.queueStop n mc) s (s.dev.updated (s.dev.answer 8 [])) ∧ gives (.queueResume n mc) s (s.dev.updated (s.dev.answer 8 [])))) ∧
    -- R428, R429: the idle interrupt and the shadow set
    (shtRuns s.dev n.val = true → s.dev.fld (shtA n.val 0x208) 0 16 ≠ 0 →
      (s.dev.fld (shtA n.val 0x214) 0 16 ≠ 0 → gives (.irqIdle n) s (shtIrq n.val s.dev)) ∧
      (s.dev.fld (shtA n.val 0x214) 0 16 = 0 → exec (.irqIdle n) s = .next s)) ∧
    (∀ (v : BitVec 32) (ho : Bool), blockStatus s.dev (52 + n.val / 8) true = 0 →
      ∃ t, exec (.shadowStage n v ho) s = .next t ∧ (t.dev.shuttle n.val).staged = some (s.dev.reg (shtA n.val 0x200), v &&& 0xFFFF) ∧
        t.dev.reg (shtA n.val 0x204) = v &&& 0xFFFF ∧ t.dev.bit (shtA n.val 0x210) 31 = true ∧ t.dev.bit (shtA n.val 0x210) 30 = (ho || x.flight.isEmpty)) ∧
    (∀ irq rate : Word, x.staged = some (irq, rate) → x.flight = [] → shtRuns s.dev n.val = true →
      ∃ t, exec (.shadowCommit n) s = .next t ∧ t.dev.reg (shtA n.val 0x208) = irq ∧ t.dev.reg (shtA n.val 0x20C) = rate ∧
        t.dev.shuttle n.val = { x with staged := none } ∧ t.dev.fld (shtA n.val 0x210) 30 2 = 0) ∧
    (x.flight ≠ [] → exec (.shadowCommit n) s = .next s) ∧
    -- R417 to R419: the descriptor at the queue's consumer index, read from its ring
    (∀ (q cls : Nat) (sl : CtxSlot) (bs : List Byte) (d' : Device), shtWorks s.dev n.val = true → s.dev.leavingOn (52 + n.val / 8) = false → x.flight = [] →
      shtNext s.dev n.val = some (q, cls) → ctxHit s.dev h q = some sl → ∀ c, c = sl.ctx → cReady c = true → cWork c = true →
      cEngine c = n.val → ∀ d, d = (ctxPut h sl s.dev).setShuttle n.val { x with lastQ := tabSet natLast x.lastQ cls q } →
      ∀ m, m = byBlock d (4 + cClass c) (.sht n.val) → busRead m (cRing c + 32 * (cCons c % 2 ^ cRingK c)) 32 d = ({ data := bs }, d') →
      ∀ w : BitVec 256, w = BitVec.ofNat 256 (leNat bs) → ∀ k, k = descCheck (byBlock d' (4 + cClass c) (.sht n.val)) w d' →
      (dLen w = 0 → dConv w ≠ 3 → dType w = 0 → k.1.1 = 2) ∧
      gives (.descriptorFetch n) s (s.dev.moved (k.2.setShuttle n.val { k.2.shuttle n.val with flight := (k.2.shuttle n.val).flight ++
        [{ q := q, cls := cClass c, words := w, list := k.1.2.2, last := 0, stage := if k.1.1 = 0 then 0 else 2, status := k.1.1
           net := k.1.2.1, stamp := k.2.now h, answer := 0 }] }))) ∧
    -- R420, R423: the data of a plain descriptor, and the read-back
    (∀ (q : BitVec 20) (y : Desc) (bs : List Byte) (v : WriteRun) (d0 d : Device), inEngine s.dev n.val q.toNat = some y → y.stage = 0 →
      y.out = [] → y.moved = 0 → shtRuns s.dev n.val = true → dType y.words = 0 →
      readAll (byBlock s.dev (4 + y.cls) (.sht n.val)) (packetsOf (dSrc y.words, dLen y.words)) s.dev = ((bs, 0), d0) →
      writeAll (byBlock s.dev (4 + y.cls) (.sht n.val)) y.cls (writePackets s.dev (dDst y.words, destLen y.words))
        { moved := 0, last := y.last, data := convert y.words bs, status := 0, held := false } d0 = (v, d) →
      v.status = 0 → v.held = false →
      gives (.dataTransfer n q) s (s.dev.moved
        (flushReplies (putDesc n.val { y with stage := 1, out := [], moved := v.moved, last := v.last } d)))) ∧
    (∀ (q : BitVec 20) (y : Desc) (b : Byte) (d0 : Device), inEngine s.dev n.val q.toNat = some y → y.stage = 1 → shtRuns s.dev n.val = true →
      busRead (byBlock s.dev (4 + y.cls) (.sht n.val)) y.last 1 s.dev = ({ data := [b] }, d0) →
      gives (.readback n q) s (s.dev.updated (putDesc n.val { y with stage := 2, status := 0, net := 0, stamp := d0.now h } d0))) ∧
    -- R425: a full completion ring holds the record; an answered record advances the indices
    (∀ (q : BitVec 20) (y : Desc) (sl : CtxSlot), inEngine s.dev n.val q.toNat = some y → shtRuns s.dev n.val = true →
      ctxHit s.dev h q.toNat = some sl → ∀ c d, c = sl.ctx → d = ctxPut h sl s.dev →
      (y.stage = 2 → gap32 (cCqProd c) (cCqCons c) = 2 ^ cCqK c → gives (.completionRecord n q) s (s.dev.moved (shtFlag n.val 24 q.toNat d))) ∧
      (∀ d', y.stage = 2 → gap32 (cCqProd c) (cCqCons c) ≠ 2 ^ cCqK c →
        busWrite (byBlock d (4 + y.cls) (.sht n.val)) y.cls (cCqBase c + 16 * (cCqProd c % 2 ^ cCqK c)) (recordBytes y (cCqK c) (cCqProd c)) d = (0, d') →
        gives (.completionRecord n q) s (s.dev.moved (flushReplies (putDesc n.val { y with stage := 3, answer := 0 } d')))) ∧
      (y.stage = 3 → y.answer = 0 → y.status = 0 →
        gives (.recordAnswer n q) s (s.dev.updated (shtHandOver n.val (shtCount n.val ((ctxSet n.val q.toNat
          (bumpCtx (bumpCtx (bumpCtx c 0x18 0) 0x10 32) 0x28 0) (dropDesc n.val q.toNat d)).bump (shtA n.val 8) 0 32 1))))) ∧
      (y.stage = 3 → y.answer ≠ 0 →
        gives (.recordAnswer n q) s (s.dev.updated (shtHandOver n.val (shtFlag n.val 23 q.toNat
          (ctxSet n.val q.toNat (setCfld c 0x20 0 2 3) (dropDesc n.val q.toNat d)))))))

/-- R420: conversion: whole elements give as many destination bytes as R419 counts, equal widths without a swap give the source back, a
byte swap undoes itself, and ws 24, wd 32, conv 2 and swap 3 turn 0x56, 0x34, 0x12 into 0x12, 0x34, 0x56, 0x00. -/
def Obligations.ShuttleConversion : Prop :=
  ∀ (w : BitVec 256) (bs : List Byte), bs.length = dLen w → dLen w % (widthBits (dWs w) / 8) = 0 →
    (convert w bs).length = destLen w ∧
    (dWs w = dWd w → dConv w ≤ 2 → dSwap w = 0 → convert w bs = bs) ∧
    (∀ k : Nat, k < 4 → bs.length % 4 = 0 → swapBytes k (swapBytes k bs) = bs) ∧
    (dWs w = 2 → dWd w = 3 → dConv w = 2 → dSwap w = 3 → bs = [0x56, 0x34, 0x12] → convert w bs = [0x12, 0x34, 0x56, 0x00])

/-! ### Pins -/

/-- R436, R438 to R441, R443 to R448: where the commands of a pin complete, and what they leave. -/
def Obligations.PinsComplete : Prop :=
  ∀ (s : State) (b : Fin 8) (i : Fin 48), tabWf regDefault s.dev.regs = true → tabWf pinReset s.dev.pins = true →
    ∀ x, x = s.dev.pin b.val i.val →
    -- R443: the filters; R445: the interrupt it raises
    (∀ (level : Bool) (samples ticks : Nat), vioOk s.dev b.val = true → s.dev.fld (pinCfgA b.val i.val) 17 2 ≠ 2 →
      s.dev.feeds (pinField b.val i.val) = false →
      (samples < s.dev.fld (pinFiltA b.val i.val) 0 4 →
        gives (.pinInputChange b i level samples ticks) s (s.dev.moved (s.dev.setPin b.val i.val { x with pad := level }).settle)) ∧
      (s.dev.fld (pinFiltA b.val i.val) 0 4 ≤ samples → s.dev.fld (pinFiltA b.val i.val) 16 16 ≤ ticks → x.filtered ≠ level →
        s.dev.pinMux b.val i.val ≠ 13 → (∀ n, n < 16 → s.dev.bit (bobA (0x200 + 4 * n)) 31 = false) →
        (intTakes (s.dev.fld (pinCfgA b.val i.val) 8 3) level = false →
          gives (.pinInputChange b i level samples ticks) s
            (s.dev.moved (s.dev.setPin b.val i.val { x with pad := level, filtered := level }).settle)) ∧
        (intTakes (s.dev.fld (pinCfgA b.val i.val) 8 3) level = true →
          gives (.pinInputChange b i level samples ticks) s
            (s.dev.moved (pinInterrupt b.val i.val (s.dev.setPin b.val i.val { x with pad := level, filtered := level })).settle)))) ∧
    (∀ samples ticks : Nat, vioOk s.dev b.val = false → s.dev.fld (pinCfgA b.val i.val) 17 2 ≠ 2 →
      s.dev.feeds (pinField b.val i.val) = false → samples < s.dev.fld (pinFiltA b.val i.val) 0 4 →
      gives (.pinInputChange b i true samples ticks) s (s.dev.moved (s.dev.setPin b.val i.val { x with pad := false }).settle)) ∧
    (s.dev.fld (pinCfgA b.val i.val) 8 3 = 4 → x.filtered = true → gives (.pinLevelInterrupt b i) s (s.dev.moved (pinInterrupt b.val i.val s.dev))) ∧
    (s.dev.fld (pinCfgA b.val i.val) 8 3 = 5 → x.filtered = false → gives (.pinLevelInterrupt b i) s (s.dev.moved (pinInterrupt b.val i.val s.dev))) ∧
    (s.dev.fld (pinCfgA b.val i.val) 8 3 < 4 → gives (.pinLevelInterrupt b i) s (s.dev.moved s.dev)) ∧
    -- R446: the pads of a bank, of one edge
    (∃ t, exec (.gpioInRead b) s = .next t ∧ t.dev.rsp = { status := 0, data := leBytes (padWord s.dev b.val 0 32).toNat 4 } ∧
      t.dev.reg (gpioA b.val 0x404) = padWord s.dev b.val 32 16 ∧ t.dev.pins = s.dev.pins) ∧
    -- R440, R441, R447: a new function, one that a pin does not offer or another holds, and a write that is not Thimble's
    (∀ v w : BitVec 32, w = pinNorm v →
      (fieldOf w 24 4 ≠ s.dev.pinMux b.val i.val → muxOk s.dev (fieldOf w 24 4) b.val i.val = true →
        s.dev.bit (pinCfgA b.val i.val) 29 = false →
        ∃ t, exec (.pinMuxWrite b i 3 v) s = .next t ∧ t.dev.rsp.status = 0 ∧ t.dev.pinMux b.val i.val = fieldOf w 24 4 ∧
          t.dev.bit (pinCfgA b.val i.val) 29 = true) ∧
      (fieldOf w 24 4 ≠ s.dev.pinMux b.val i.val → muxOk s.dev (fieldOf w 24 4) b.val i.val = false →
        gives (.pinMuxWrite b i 3 v) s ((s.dev.setBit (gpioA b.val 0x430) 0).answer 0 [])) ∧
      (∀ mc : MClass, mc.val ≠ 3 → gives (.pinMuxWrite b i mc v) s (s.dev.answer 8 []))) ∧
    (s.dev.bit (pinCfgA b.val i.val) 29 = true → x.switch_ = none → x.heldWrite = none →
      gives (.pinSwitchDone b i) s ((s.dev.putBit (pinCfgA b.val i.val) 29 false).setPin b.val i.val
        { x with filtered := muxIdle (s.dev.pinMux b.val i.val) }).settle) ∧
    (s.dev.bit (pinCfgA b.val i.val) 29 = false → exec (.pinSwitchDone b i) s = .next s) ∧
    (∀ high : Bool, gives (.trackTimeout b i high) s
      ((s.dev.setPin b.val i.val (if high then { x with seenHigh := false } else { x with seenLow := false })).putBit
        (pinWord b.val 0x428 i.val) (i.val % 32) false)) ∧
    -- R436
    (vioOk s.dev b.val = true → s.dev.safeCause = 0 → s.dev.sys.mode = .running → watchedSegs s.dev = [] → s.dev.fld (bobA 0) 0 16 = 0 → (s.dev.fifo (bankHalf b.val)).length < 1024 →
      (∀ k, k < 48 → (s.dev.pin b.val k).pad = false ∧ (s.dev.pin b.val k).filtered = false ∧ s.dev.fld (pinCfgA b.val k) 17 2 ≠ 2) →
      ∃ t, exec (.vccioLow b) s = .next t ∧ vioOk t.dev b.val = false ∧ t.dev.bit (gpioA b.val 0x430) 31 = false ∧
        t.dev.fifo (bankHalf b.val) = s.dev.fifo (bankHalf b.val) ++ [⟨0x58, b.val, 0, s.dev.now (bankHalf b.val)⟩]) ∧
    (vioOk s.dev b.val = false → gives (.vccioLow b) s (s.dev.moved s.dev))

/-! ### Patterns and loads -/

/-- R454, R462 to R467, R469 to R471, R475: where the steps of a load, darning and record-store writes complete, and what they leave. -/
def Obligations.LoadCompletes : Prop :=
  ∀ s : State, tabWf regDefault s.dev.regs = true → watchedSegs s.dev = [] →
    -- the header is read and is good: Blank becomes Loading, and the fields wait for their configuration
    (∀ (j : LoadJob) (p : Pattern), s.dev.load.job = some j → j.phase = 1 → j.pat = none → patPartial p = false →
      s.dev.sys.mode = .blank → s.dev.safeCause = 0 → headerCause p = 0 → (∀ n, n < 64 → supplyOk s.dev n = true) → s.dev.load.secure = [] →
      ∃ t, exec (.loadSourceRead p true) s = .next t ∧ t.dev.load.job = some { j with pat := some p, phase := 2 } ∧
        t.dev.sys.mode = .loading ∧ t.dev.fld (thmA 0x2300) 29 3 = 2 ∧ ∀ f ∈ regionFields p.region, t.dev.loadState f = 2) ∧
    -- a partial pattern needs a running device
    (∀ (j : LoadJob) (p : Pattern) (ok : Bool), s.dev.load.job = some j → j.phase = 1 → j.pat = none → patPartial p = true →
      s.dev.modeCode = 0 →
      ∃ t, exec (.loadSourceRead p ok) s = .next t ∧ t.dev.load = { s.dev.load with job := none, outcome := 0x31 } ∧ t.dev.sys = s.dev.sys ∧
        ∀ a, stateReg a = false → t.dev.reg a = s.dev.reg a) ∧
    (∀ (p : Pattern) (ok : Bool), s.dev.load.job = none → gives (.loadSourceRead p ok) s (s.dev.moved s.dev)) ∧
    -- the checks of the whole image, once the domains are On; one that passes them, here of sections that write no register
    (∀ (j : LoadJob) (p : Pattern), s.dev.load.job = some j → j.pat = some p → j.phase = 2 → j.partial_ = false →
      (domainsReady s.dev p false = false → ∀ a b c, gives (.loadVerify a b c) s (s.dev.moved s.dev)) ∧
      (domainsReady s.dev p false = true →
        (∀ a b, gives (.loadVerify a b false) s (s.dev.moved (loadReject 7 (firstField p) s.dev))) ∧
        (s.dev.sys.mode = .loading → s.dev.safeCause = 0 → (∀ x ∈ p.sections, x.body = .regs []) → verifyCause p true true true s.dev = 0 → (registersBad s.dev).1 = false →
          ∃ t, exec (.loadVerify true true true) s = .next t ∧ t.dev.load.job = some { j with phase := 3, swept := [] } ∧
            t.dev.fld (thmA 0x2300) 29 3 = 3 ∧ ∀ f ∈ regionFields p.region, t.dev.loadState f = 3))) ∧
    -- the release, once darning has swept the region; it waits for the sweep, and while a half is down
    (∀ (j : LoadJob) (p : Pattern), s.dev.load.job = some j → j.pat = some p → j.phase = 3 → sweptAll p j = false →
      gives .loadRelease s (s.dev.updated s.dev) ∧ gives .partialRelease s (s.dev.updated s.dev)) ∧
    (∀ h, s.dev.up h = false → gives .loadRelease s (s.dev.updated s.dev)) ∧
    (∀ (j : LoadJob) (p : Pattern), s.dev.load.job = some j → j.pat = some p → j.phase = 3 → s.dev.safeCause = 0 → sweptAll p j = true →
      (∀ x ∈ p.sections, x.body = .regs []) →
      ((∀ h, s.dev.up h = true ∧ s.dev.lost h = false) → j.partial_ = false → ∃ t, exec .loadRelease s = .next t ∧ t.dev.sys.mode = .running ∧ t.dev.load.job = none ∧
        t.dev.load.pattern = some p ∧ t.dev.load.owner = j.requester ∧ ∀ f ∈ regionFields p.region, t.dev.released f = true) ∧
      (j.partial_ = true → ∃ t, exec .partialRelease s = .next t ∧ t.dev.sys.mode = s.dev.sys.mode ∧ t.dev.load.job = none ∧
        t.dev.load.partials = p :: s.dev.load.partials ∧ ∀ f ∈ regionFields p.region, t.dev.released f = true)) ∧
    (s.dev.safeCause ≠ 0 → gives .loadRelease s (s.dev.updated s.dev) ∧ gives .partialRelease s (s.dev.updated s.dev)) ∧
    -- darning: a frame with no wrong bit, one that is corrected, and one that is not
    (∀ (f : Fin 32) (n : Nat), darnRuns s.dev f.val = true → n = tabGet natZero s.dev.load.darnPos f.val →
      tabWf natZero s.dev.load.darnPos = true → n < 1439 → s.dev.fld (bobA 0) 0 16 = 0 → (s.dev.fifo (halfOfField f.val)).length < 1024 →
      ∀ bad, bad = s.dev.load.upset.filter (fun k => k / 81920 == 1440 * f.val + n) →
      (bad = [] → ∃ t, exec (.darningFrame f) s = .next t ∧ tabGet natZero t.dev.load.darnPos f.val = n + 1 ∧
        t.dev.bit (fldA f.val 4) 31 = true ∧ t.dev.load.upset = s.dev.load.upset ∧ t.dev.log = s.dev.log) ∧
      (∀ k, bad = [k] → s.dev.load.stuck.contains k = false → ∃ t, exec (.darningFrame f) s = .next t ∧
        k ∉ t.dev.load.upset ∧ t.dev.reg (fldA f.val 8) = s.dev.reg (fldA f.val 8) + 1 ∧ t.dev.bit (fldA f.val 4) 28 = true ∧
        t.dev.fifo (halfOfField f.val) = s.dev.fifo (halfOfField f.val) ++
          [⟨0x01, f.val * 65536 + n, k % 81920 % 65536, s.dev.now (halfOfField f.val)⟩]) ∧
      (frameRead (frameWrong s.dev f.val n) = .other → ∃ t, exec (.darningFrame f) s = .next t ∧ t.dev.load.upset = s.dev.load.upset ∧
        t.dev.bit (fldA f.val 4) 30 = true ∧ t.dev.fifo (halfOfField f.val) = s.dev.fifo (halfOfField f.val) ++
          [⟨0x03, f.val * 65536 + n, b2n s.dev.load.fromFlash, s.dev.now (halfOfField f.val)⟩])) ∧
    (∀ (f : Fin 32) (n : Fin 1440),
      (s.dev.load.fromFlash = true → darnRuns s.dev f.val = true → gives (.frameRewrite f n) s { s.dev with load := { s.dev.load with
        upset := s.dev.load.upset.filter (fun k => !(k / 81920 == 1440 * f.val + n.val && !s.dev.load.stuck.contains k)) } }) ∧
      (s.dev.load.fromFlash = false → exec (.frameRewrite f n) s = .next s)) ∧
    -- the record store: the bank not in use is written, and holds once it reads back
    (s.dev.sys.booted = true → s.dev.safeCause = 0 → s.dev.load.job = none → s.dev.load.rsWrite = none → romBoot s.dev = false →
      s.dev.bit (thmA 0x2310) 31 = false →
      ∀ x, x = bankMade (wrap 32 ((s.dev.reg (thmA 0x2314)).toNat + 1)) false (tabSet (fun _ => []) s.dev.load.records 6 (mirrorBytes s.dev)) →
      (∃ t, exec (.recordStoreWrite true) s = .next t ∧ t.dev.load.bankB = x ∧ t.dev.load.bankB.valid = true ∧
        t.dev.load.bankA = s.dev.load.bankA ∧ t.dev.bit (thmA 0x2310) 31 = true) ∧
      (∃ t, exec (.recordStoreWrite false) s = .next t ∧ t.dev.load.bankB = { x with pagesOk := false } ∧ t.dev.load.bankA = s.dev.load.bankA ∧
        t.dev.load.rsWrite = some (false, true) ∧ t.dev.bit (thmA 0x2310) 25 = true)) ∧
    (∀ j, s.dev.load.job = some j → j.source = 0 → ∀ ok, gives (.recordStoreWrite ok) s (s.dev.moved s.dev))

/-! ### Mends and the fault log -/

/-- R480 to R488, R498, R499: where the commands of mends and of the walking spare complete, and what they leave. -/
def Obligations.MendCompletes : Prop :=
  ∀ (s : State) (f : Fin 32), tabWf regDefault s.dev.regs = true → tabWf noMend s.dev.mend.pend = true → tabWf noMend s.dev.mend.now = true →
    tabWf noQueue s.dev.mend.queue = true → s.dev.fld (bobA 0) 0 16 = 0 → (s.dev.fifo (halfOfField f.val)).length < 1024 →
    -- requests: from Thimble, by darning, by the walking spare
    (∀ target : BitVec 9, ∀ d, d = s.dev.setFld (fldA f.val 0x10) 0 9 target.toNat →
      (∀ mc : MClass, mc.val ≠ 3 → gives (.mendColumn f mc target) s (s.dev.answer 8 []) ∧ gives (.mendBram f mc target) s (s.dev.answer 8 []) ∧
        gives (.mendClover f mc target) s (s.dev.answer 8 [])) ∧
      (s.dev.frozen f.val = false → tabGet noMend s.dev.mend.pend f.val = none → ∀ k, ∀ e : Device → Device,
        (e = fun d => ({ d with mend := { d.mend with pend := tabSet noMend d.mend.pend f.val (some ⟨k, target.toNat, false⟩) } })) →
        (k = 1 → mendCheck d f.val ⟨1, target.toNat, false⟩ false = 0 → gives (.mendColumn f 3 target) s ((e d).answer 0 [])) ∧
        (k = 2 → mendCheck d f.val ⟨2, target.toNat, false⟩ false = 0 → gives (.mendBram f 3 target) s ((e d).answer 0 [])) ∧
        (k = 3 → mendCheck d f.val ⟨3, target.toNat, false⟩ false = 0 → gives (.mendClover f 3 target) s ((e d).answer 0 [])) ∧
        (k = 2 → s.dev.bit (fldA f.val 0x14) 30 = true → faultSeen s.dev 0x11 (384 * f.val + target.toNat) = true → s.dev.modeCode ≠ 5 →
          mendCheck s.dev f.val ⟨2, target.toNat, false⟩ true = 0 →
          gives (.autoMendTrigger f false target) s (e s.dev))) ∧
      (∀ r, r ≠ 0 → mendCheck d f.val ⟨1, target.toNat, false⟩ false = r →
        gives (.mendColumn f 3 target) s ((mendRefuse f.val ⟨1, target.toNat, false⟩ r d).answer 0 []))) ∧
    (∀ (c : Bool) (target : BitVec 9), s.dev.bit (fldA f.val 0x14) 30 = false ∨
        faultSeen s.dev (if c then 0x18 else 0x11) ((if c then 48 else 384) * f.val + target.toNat) = false →
      exec (.autoMendTrigger f c target) s = .next s) ∧
    (∀ p : Nat, s.dev.bit (fldA f.val 0x14) 31 = true → s.dev.frozen f.val = false → s.dev.underLoad f.val = false → s.dev.modeCode = 2 →
      tabGet (fun _ => (none : Option Nat)) s.dev.mend.test f.val = none → walkStrip s.dev f.val < 10 →
      noSpare s.dev f.val (walkStrip s.dev f.val) = false → tabGet boolFalse s.dev.mend.east f.val = false →
      bypass s.dev f.val (walkStrip s.dev f.val) = p + 1 → tabGet noMend s.dev.mend.pend f.val = none →
      mendCheck s.dev f.val ⟨1, 18 * walkStrip s.dev f.val + p, true⟩ true = 0 →
      ∃ t, exec (.walkStep f) s = .next t ∧
        tabGet noMend t.dev.mend.pend f.val = some ⟨1, 18 * walkStrip s.dev f.val + p, true⟩ ∧ t.dev.regs = s.dev.regs) ∧
    (s.dev.bit (fldA f.val 0x14) 31 = false → exec (.walkStep f) s = .next s) ∧
    (∀ c : Nat, tabGet (fun _ => (none : Option Nat)) s.dev.mend.test f.val = some c →
      tabWf (fun _ => (none : Option Nat)) s.dev.mend.test = true → c < 180 →
      (∃ t, exec (.walkTestDone f true) s = .next t ∧ tabGet (fun _ => (none : Option Nat)) t.dev.mend.test f.val = none ∧
        t.dev.log = s.dev.log) ∧
      (∃ t, exec (.walkTestDone f false) s = .next t ∧ noSpare t.dev f.val (c / 18) = true ∧ walkStrip t.dev f.val = (c / 18 + 1) % 10 ∧
        t.dev.fifo (halfOfField f.val) = s.dev.fifo (halfOfField f.val) ++
          [⟨0x04, f.val * 65536 + c, c / 18, s.dev.now (halfOfField f.val)⟩])) ∧
    -- the freeze
    (∀ m : MendReq, tabGet noMend s.dev.mend.pend f.val = some m → s.dev.mend.now = [] → s.dev.modeCode = 2 → s.dev.underLoad f.val = false →
      s.dev.domOn f.val = true → mendTurn s.dev f.val = true → s.dev.replayed f.val = false → mendCheck s.dev f.val m true = 0 →
      ∃ t, exec (.mendStart f) s = .next t ∧ t.dev.frozen f.val = true ∧ t.dev.fieldRuns f.val = false ∧
        tabGet noMend t.dev.mend.pend f.val = none ∧ t.dev.fld (mendStat f.val) 29 3 = 1 ∧ t.dev.modeCode = 3) ∧
    (tabGet noMend s.dev.mend.pend f.val = none → gives (.mendStart f) s (s.dev.updated s.dev)) ∧
    -- the switch and the release
    (∀ (m : MendReq) (us : Nat) (ok : Bool), tabGet noMend s.dev.mend.now f.val = some m → m.walk = false → s.dev.modeCode ≠ 5 → us < 4096 →
      s.dev.bit (fldA f.val 0x100) 1 = false → tabGet noQueue s.dev.mend.queue f.val = [] →
      ∃ t, exec (.mendComplete f us ok) s = .next t ∧ t.dev.frozen f.val = false ∧ t.dev.fld (mendStat f.val) 29 3 = 0 ∧
        t.dev.fld (mendStat f.val) 0 12 = us ∧ t.dev.fld (fldA f.val 0x1C) 16 16 = (s.dev.fld (fldA f.val 0x1C) 16 16 + 1) % 65536 ∧
        (m.kind = 1 → m.target < 180 → m.target % 18 ≠ 17 →
          bypass t.dev f.val (m.target / 18) = m.target % 18 ∧ noSpare t.dev f.val (m.target / 18) = true) ∧
        (m.kind = 2 → m.target < 384 → rowShift t.dev f.val (hardCol 2 m.target) = m.target % 48) ∧
        (m.kind = 3 → m.target < 48 → rowShift t.dev f.val (hardCol 3 m.target) = m.target % 24) ∧
        t.dev.fifo (halfOfField f.val) = s.dev.fifo (halfOfField f.val) ++
          [⟨0x05, mendSrc f.val m, us + (if ok then 0 else 32768), s.dev.now (halfOfField f.val)⟩]) ∧
    (∀ (us : Nat) (ok : Bool), tabGet noMend s.dev.mend.now f.val = none → gives (.mendComplete f us ok) s (s.dev.updated s.dev))

/-- R489 to R495, R500: where the fault log's commands complete, and what they leave. -/
def Obligations.LogCompletes : Prop :=
  ∀ s : State, tabWf regDefault s.dev.regs = true → tabWf logReset s.dev.log.ring = true →
    (∀ (h : Half) (c : BitVec 8) (src : BitVec 24) (det : BitVec 16), s.dev.fld (bobA 0) 0 16 = 0 →
      ((s.dev.fifo h).length < 1024 →
        gives (.faultReport h c src det) s (s.dev.setFifo h (s.dev.fifo h ++ [⟨c.toNat, src.toNat, det.toNat, s.dev.now h⟩]))) ∧
      (1024 ≤ (s.dev.fifo h).length → ∃ t, exec (.faultReport h c src det) s = .next t ∧ t.dev.fifo h = s.dev.fifo h ∧
        t.dev.fld (thmA 0x2420) 0 16 = sat 65535 (s.dev.fld (thmA 0x2420) 0 16 + 1))) ∧
    (∀ h : Half, s.dev.fifo h = [] → exec (.logEngineTake h) s = .next s) ∧
    (∀ (h : Half) (r : Report) (rest : List Report), s.dev.fifo h = r :: rest → (if h = .w then s.dev.log.dropW else s.dev.log.dropE) = 0 →
      irqEnabled s.dev r.cls r.src = false →
      -- a new fingerprint takes the entry at the head; a report of an open one is counted in its entry
      (∀ i, i = s.dev.fld (thmA 0x2420) 16 12 → openOf s.dev r.cls r.src = none → s.dev.log.opened.length < 256 →
        s.dev.log.opened.contains i = false →
        ∃ t, exec (.logEngineTake h) s = .next t ∧ t.dev.fifo h = rest ∧ t.dev.fld (thmA 0x2420) 16 12 = (i + 1) % 4096 ∧
          t.dev.logEntry i = { first := r.time, last := r.time, cls := r.cls, src := r.src, detail := r.detail, count := 1
                               open_ := true, irq := false, mirrored := false } ∧
          ∀ k, k ≠ i → t.dev.logEntry k = s.dev.logEntry k) ∧
      (∀ i, openOf s.dev r.cls r.src = some i →
        ∃ t, exec (.logEngineTake h) s = .next t ∧ t.dev.fifo h = rest ∧ t.dev.regs = s.dev.regs ∧
          t.dev.logEntry i = { s.dev.logEntry i with last := r.time, detail := r.detail
                                                     count := sat (2 ^ 32 - 1) ((s.dev.logEntry i).count + 1) } ∧
          ∀ k, k ≠ i → t.dev.logEntry k = s.dev.logEntry k)) ∧
    (∀ (c : BitVec 8) (src : BitVec 24),
      (∀ i, openOf s.dev c.toNat src.toNat = some i → ∃ t, exec (.logEntryClose c src) s = .next t ∧
        t.dev.logEntry i = { s.dev.logEntry i with open_ := false } ∧ i ∉ t.dev.log.opened) ∧
      (openOf s.dev c.toNat src.toNat = none → exec (.logEntryClose c src) s = .next s) ∧
      -- the end of a 10 ms window, with reports in it and without
      (s.dev.log.windows = [(c.toNat, src.toNat, true)] → ∃ t, exec (.faultIrqWindow c src) s = .next t ∧
        t.dev.log.windows = [(c.toNat, src.toNat, false)] ∧ t.dev.bit (thmA 0x44) 2 = true) ∧
      (s.dev.log.windows = [(c.toNat, src.toNat, false)] →
        gives (.faultIrqWindow c src) s { s.dev with log := { s.dev.log with windows := [] } })) ∧
    (∀ i : BitVec 12, ∃ t, exec (.logIdxWrite i) s = .next t ∧ t.dev.fld (thmA 0x2424) 0 12 = i.toNat ∧ t.dev.log = s.dev.log ∧
      ∀ n, n < 8 → t.dev.reg (thmA (0x2430 + 4 * n)) = leWord ((entryBytes (s.dev.logEntry i.toNat)).drop (4 * n)))

/-! ### Bobbin -/

/-- R501, R504 to R515: where the recorder's commands complete, and what they leave. -/
def Obligations.BobbinCompletes : Prop :=
  (∀ (s : State) (h : Half), tabWf regDefault s.dev.regs = true → tabWf crossNew s.dev.bob.cross = true → ∀ x, x = s.dev.bobHalf h →
    (∀ mc : MClass, mc.val ≠ 3 → gives (.bobbinArm mc) s (s.dev.answer 8 []) ∧ gives (.bobbinTrigger mc) s (s.dev.answer 8 []) ∧
      gives (.bobbinStop mc) s (s.dev.answer 8 []) ∧ gives (.startReplay mc) s (s.dev.updated (s.dev.answer 8 []))) ∧
    -- R508, R509: arm, trigger, stop, freeze
    (s.dev.bobState = 0 ∨ s.dev.bobState = 3 → ∃ t, exec (.bobbinArm 3) s = .next t ∧ t.dev.rsp.status = 0 ∧ t.dev.bobState = 1 ∧
      t.dev.bobHalf h = {} ∧ t.dev.bob.fields = s.dev.reg (bobA 8) ∧ t.dev.reg (bobA (0x10C + 0x20 * hn h)) = 0 ∧
      t.dev.fld (bobA 4) 26 3 = 0) ∧
    (s.dev.bobState = 1 →
      gives (.bobbinArm 3) s ((bobCmdErr s.dev).answer 0 []) ∧ gives (.startReplay 3) s (s.dev.updated ((bobCmdErr s.dev).answer 0 [])) ∧
      ∃ t, exec (.bobbinTrigger 3) s = .next t ∧ t.dev.bobState = 2 ∧
        (t.dev.bobHalf h).postLeft = some (s.dev.fld (bobA 0) 16 8 * 1048576)) ∧
    (s.dev.bobState ≠ 1 → ∃ t, exec (.bobbinTrigger 3) s = .next t ∧ t.dev.bobState = s.dev.bobState ∧
      t.dev.fld (bobA 4) 16 8 = (s.dev.fld (bobA 4) 16 8 + 1) % 256 ∧ t.dev.bob = s.dev.bob) ∧
    (s.dev.bobState = 1 ∨ s.dev.bobState = 2 ∨ s.dev.bobState = 4 →
      ∃ t, exec (.bobbinStop 3) s = .next t ∧ t.dev.bobState = 3 ∧ t.dev.fld (bobA 4) 26 3 = 1 ∧ t.dev.bob = s.dev.bob) ∧
    (s.dev.bobState = 2 → (s.dev.bobHalf .w).postLeft = some 0 → (s.dev.bobHalf .e).postLeft = some 0 →
      ∃ t, exec (.bobbinFreeze h) s = .next t ∧ t.dev.bobState = 3 ∧ t.dev.fld (bobA 4) 26 3 = 0) ∧
    (x.postLeft ≠ some 0 → exec (.bobbinFreeze h) s = .next s) ∧
    -- R512, R515: replay starts where the anchor of each ring names the build that is loaded
    (∀ (b : Nat) (d : Device), s.dev.bobState = 3 → ringBytes s.dev .w ≠ 0 → ringBytes s.dev .e = 0 → anchorBuild .w s.dev = (some b, d) →
      tabWf regDefault d.regs = true →
      (loadedBuild s.dev = some b → ∃ t, exec (.startReplay 3) s = .next t ∧ t.dev.bobState = 4 ∧ t.dev.bob.live = false ∧
        t.dev.bob.fields = d.reg (bobA 8)) ∧
      (loadedBuild s.dev ≠ some b → gives (.startReplay 3) s (s.dev.updated ((bobCmdErr d).answer 0 [])))) ∧
    -- R504, R510: a staged record goes into the ring at its write offset
    (∀ (r : List Byte) (d : Device), s.dev.up h = true → x.staging = [r] → s.dev.bobState = 1 → x.postLeft = none →
      ringBytes s.dev h ≠ 0 → x.sinceTime + r.length + 16 ≤ 4096 → r.head? ≠ some 1 → r.head? ≠ some 2 →
      (x.wptr + ringBytes s.dev h - ringAnchor s.dev h % ringBytes s.dev h) % ringBytes s.dev h + r.length ≤ ringBytes s.dev h →
      ringPut h r s.dev = (0, d) → d.bob = s.dev.bob → d.up h = true → tabWf regDefault d.regs = true → ∀ next,
      next = (x.wptr + r.length) % ringBytes s.dev h →
      ∃ t, exec (.ringWrite h) s = .next t ∧ t.dev.bobHalf h = { x with staging := [], wptr := next, sinceTime := x.sinceTime + r.length } ∧
        t.dev.reg (bobA (0x10C + 0x20 * hn h)) = BitVec.ofNat 32 (next / 8) ∧ t.dev.mem = d.mem) ∧
    (s.dev.up h = false → gives (.ringWrite h) s (s.dev.updated s.dev)) ∧
    -- R505: a gap is written with the count of what was dropped, and counted
    (∀ c : Fin 8, c.val ≠ 1 → s.dev.bobTakes h = true → x.dropping = true →
      gives (.gapWrite h c) s (s.dev.setBobHalf h { x with dropped := x.dropped + 1 })) ∧
    (∀ c : Fin 8, c.val ≠ 1 → s.dev.bobTakes h = true → x.dropping = false → stagedBytes x + 16 ≤ 448 * 1024 →
      ∃ t, exec (.gapWrite h c) s = .next t ∧ (t.dev.bobHalf h).dropped = 0 ∧ (t.dev.bobHalf h).dropping = false ∧
        (t.dev.bobHalf h).staging = x.staging ++
          [recOf 3 ([BitVec.ofNat 8 c.val, 0] ++ leBytes x.dropped 4 ++ recTime (s.dev.now h)), recOf 1 (timeBytes (s.dev.now h) ++ [0, 0])] ∧
        t.dev.fld (bobA 4) 0 16 = (s.dev.fld (bobA 4) 0 16 + 1) % 65536) ∧
    (x.dropping = false → exec (.gapWrite h 1) s = .next s) ∧
    -- R502, R511: an event is predicted, and what the prediction asks for is recorded
    (∀ (j : BitVec 14) (dir : Bool) (a b : BitVec 48), crossWatched s.dev j.toNat = true → s.dev.bobTakes (crossHalf s.dev j.toNat) = true →
      ∀ q d, q = predict j.toNat dir a.toNat b.toNat (tabGet crossNew s.dev.bob.cross (2 * j.toNat + b2n dir)) →
      d = { s.dev with bob := { s.dev.bob with cross := tabSet crossNew s.dev.bob.cross (2 * j.toNat + b2n dir) q.2 } } →
      (q.1 = [] → gives (.journalEvent j dir a b) s d) ∧
      (q.1 ≠ [] → gives (.journalEvent j dir a b) s (d.bobRecord (crossHalf s.dev j.toNat) q.1))) ∧
    (∀ (j : BitVec 14) (dir : Bool) (a b : BitVec 48) (r : BitVec 32), crossWatched s.dev j.toNat = false →
      exec (.journalEvent j dir a b) s = .next s ∧ exec (.ratioMeasure j dir r) s = .next s) ∧
    (∀ (j : BitVec 14) (dir : Bool) (r : BitVec 32), crossWatched s.dev j.toNat = true → s.dev.bobTakes (crossHalf s.dev j.toNat) = true →
      ∀ p, p = tabGet crossNew s.dev.bob.cross (2 * j.toNat + b2n dir) →
      (p.r ≠ r.toNat → ∃ t, exec (.ratioMeasure j dir r) s = .next t ∧
        tabGet crossNew t.dev.bob.cross (2 * j.toNat + b2n dir) = { p with r := r.toNat, skip := 0 } ∧ t.dev.regs = s.dev.regs) ∧
      (p.r = r.toNat → exec (.ratioMeasure j dir r) s = .next s)) ∧
    -- R513, R514: the gates of a replayed field, and the end of a replay
    (∀ f : Fin 32, s.dev.feeds f.val = true →
      (∃ t, exec (.replayGate f false) s = .next t ∧ t.dev.bobGated f.val = true ∧ t.dev.fieldRuns f.val = false) ∧
      (∃ t, exec (.replayGate f true) s = .next t ∧ t.dev.bobGated f.val = false ∧ t.dev.regs = s.dev.regs)) ∧
    (∀ f : Fin 32, s.dev.feeds f.val = false → ∀ r, exec (.replayGate f r) s = .next s) ∧
    (s.dev.bobState = 4 → ∃ t, exec (.replayEnd .missingSource) s = .next t ∧ t.dev.bobState = 3 ∧ t.dev.fld (bobA 4) 26 3 = 7 ∧
      t.dev.bob.live = false ∧ ∀ f, f < 32 → s.dev.replayed f = true → t.dev.bobGated f = true) ∧
    (s.dev.bobState ≠ 4 → ∀ w, exec (.replayEnd w) s = .next s)) ∧
  -- R511: an event that its prediction meets writes no record and lengthens the run; one that misses by a little writes the miss, and a
  -- first event a SYNC record: each of the two starts the prediction anew from what was recorded
  (∀ (j : Nat) (dir : Bool) (a b : Nat) (x : Predict) (v e : Int), v = (x.acc : Int) + ((a : Int) - (x.ps : Int)) * (x.r : Int) →
    e = (b : Int) - ((x.pd : Int) + v / 2 ^ 24) →
    (x.seen = true → x.skip ≤ 65535 → e = 0 →
      (predict j dir a b x).1 = [] ∧ (predict j dir a b x).2 = { x with ps := a, pd := b, acc := (v % 2 ^ 24).toNat, skip := x.skip + 1 }) ∧
    (x.seen = true → x.skip ≤ 65535 → e ≠ 0 → -128 ≤ e → e ≤ 127 →
      ((predict j dir a b x).1).length = 8 ∧ ((predict j dir a b x).1).head? = some 0x10 ∧
      (((predict j dir a b x).1).getD 4 0).toInt = e ∧ (predict j dir a b x).2 = { x with ps := a, pd := b, acc := 0x800000, skip := 0 }) ∧
    (x.seen = false → ((predict j dir a b x).1).length = 22 ∧ ((predict j dir a b x).1).head? = some 9 ∧
      (predict j dir a b x).2 = { x with ps := a, pd := b, seen := true, acc := 0x800000, skip := 0 }))

/-! ### The command protocol -/

/-- R517 to R520, R525, R529 and R590: where the carriers' commands complete, and what they leave. -/
def Obligations.CarriersComplete : Prop :=
  (∀ (s : State) (h : Half), targetPins s.dev h 5 10 4 = true → s.dev.cmd.heldBack = [] →
    (∀ bs, s.dev.cmd.arrived.any (fun x => x.1 == spiOf h) = false →
      gives (.spiWritePacket h bs) s { s.dev with cmd := { s.dev.cmd with arrived := s.dev.cmd.arrived ++ [(spiOf h, bs)] } }) ∧
    (∀ bs, s.dev.cmd.arrived.any (fun x => x.1 == spiOf h) = true →
      ∃ t, exec (.spiWritePacket h bs) s = .next t ∧ t.dev.cmd.arrived = s.dev.cmd.arrived ∧ t.dev.cmd.overflow.contains (spiOf h) = true) ∧
    (∀ w, headReply s.dev (spiOf h) = none → gives (.spiReadReply h w) s (s.dev.moved (s.dev.answer 0 [0, 0]))) ∧
    (∀ bs, headReply s.dev (spiOf h) = some bs →
      gives (.spiReadReply h false) s (s.dev.moved (s.dev.answer 0 [])) ∧
      gives (.spiReadReply h true) s (s.dev.moved ({ s.dev with cmd := { s.dev.cmd with replies := dropFirst (fun (x : Carrier × List Byte) => x.1 == spiOf h) s.dev.cmd.replies } }.answer 0 (leBytes bs.length 2 ++ bs)))) ∧
    (∃ t, exec (.spiStatus h) s = .next t ∧ t.dev.rsp.status = 0 ∧ t.dev.cmd.overflow.contains (spiOf h) = false ∧
      t.dev.rsp.data = leBytes (b2n (headReply s.dev (spiOf h)).isSome + 2 * b2n (s.dev.cmd.arrived.any (fun x => x.1 == spiOf h))
        + 4 * b2n (s.dev.cmd.overflow.contains (spiOf h))) 1 ∧ t.dev.cmd.arrived = s.dev.cmd.arrived ∧ t.dev.cmd.replies = s.dev.cmd.replies)) ∧
  (∀ (s : State) (h : Half), targetPins s.dev h 6 14 2 = true → s.dev.cmd.heldBack = [] →
    (∀ bs, s.dev.cmd.arrived.any (fun x => x.1 == i2cOf h) = false →
      gives (.i2cWritePacket h bs) s { s.dev with cmd := { s.dev.cmd with arrived := s.dev.cmd.arrived ++ [(i2cOf h, bs)] } }) ∧
    (∀ bs, s.dev.cmd.arrived.any (fun x => x.1 == i2cOf h) = true →
      ∃ t, exec (.i2cWritePacket h bs) s = .next t ∧ t.dev.cmd.arrived = s.dev.cmd.arrived ∧ t.dev.cmd.overflow.contains (i2cOf h) = true) ∧
    (∀ w, headReply s.dev (i2cOf h) = none → gives (.i2cReadReply h w) s (s.dev.moved (s.dev.answer 0 [0, 0]))) ∧
    (∀ bs, headReply s.dev (i2cOf h) = some bs →
      gives (.i2cReadReply h false) s (s.dev.moved (s.dev.answer 0 [])) ∧
      gives (.i2cReadReply h true) s (s.dev.moved ({ s.dev with cmd := { s.dev.cmd with replies := dropFirst (fun (x : Carrier × List Byte) => x.1 == i2cOf h) s.dev.cmd.replies } }.answer 0 (leBytes bs.length 2 ++ bs))))) ∧
  -- R520: JTAG words make a packet; replies leave word by word after their length
  (∀ (s : State) (w : BitVec 32) (bs : List Byte), bs = s.dev.cmd.jtagIn ++ leBytes w.toNat 4 →
    (bs.length < 16 ∨ bs.length < 20 + u32 bs 8 → gives (.cmdpktUpdate w) s { s.dev with cmd := { s.dev.cmd with jtagIn := bs } }) ∧
    (20 + u32 bs 8 ≤ bs.length → s.dev.cmd.arrived.any (fun x => x.1 == Carrier.jtag) = false →
      gives (.cmdpktUpdate w) s { s.dev with cmd := { s.dev.cmd with jtagIn := [], arrived := s.dev.cmd.arrived ++ [(.jtag, bs)] } })) ∧
  (∀ s : State, headReply s.dev .jtag = none → gives .cmdpktCapture s (s.dev.moved (s.dev.answer 0 [0, 0, 0, 0]))) ∧
  (∀ (s : State) (bs : List Byte), headReply s.dev .jtag = some bs → 4 * s.dev.cmd.jtagOut < bs.length →
    gives .cmdpktCapture s (s.dev.moved ({ s.dev with cmd := { s.dev.cmd with jtagOut := s.dev.cmd.jtagOut + 1 } }.answer 0
      (if s.dev.cmd.jtagOut = 0 then leBytes bs.length 4 else leBytes (u32 bs (4 * (s.dev.cmd.jtagOut - 1))) 4)))) ∧
  (∀ (s : State) (bs : List Byte), headReply s.dev .jtag = some bs → bs.length ≤ 4 * s.dev.cmd.jtagOut → 0 < s.dev.cmd.jtagOut →
    s.dev.cmd.heldBack = [] →
    gives .cmdpktCapture s (s.dev.moved ({ s.dev with cmd := { s.dev.cmd with jtagOut := 0, replies := dropFirst (fun (x : Carrier × List Byte) => x.1 == Carrier.jtag) s.dev.cmd.replies } }.answer 0
        (leBytes (u32 bs (4 * (s.dev.cmd.jtagOut - 1))) 4)))) ∧
  -- R519: only master class 0 moves the network ring
  (∀ (s : State) (mc : MClass) (v : BitVec 16), tabWf regDefault s.dev.regs = true →
    (mc.val ≠ 0 → gives (.nrReqProdWrite mc v) s (s.dev.answer 8 [])) ∧
    (mc.val = 0 → idxGap v.toNat (ringIdx s.dev .network 0x30) ≤ ringSlots s.dev .network →
      idxGap v.toNat (ringIdx s.dev .network 0x24) ≤ ringSlots s.dev .network →
      ∃ t, exec (.nrReqProdWrite mc v) s = .next t ∧ t.dev.rsp.status = 0 ∧ t.dev.reg (ringA .network 0x24) = BitVec.ofNat 32 v.toNat ∧
        t.dev.cmd.arrived = s.dev.cmd.arrived ++
          List.replicate (idxGap v.toNat (ringIdx s.dev .network 0x24)) (Carrier.network, ([] : List Byte)))) ∧
  -- R527: the next packet in order of arrival; R518: a reply waits where there is room, and is held back where there is none
  -- (R510: a recording Bobbin first takes the packet into its CMD record)
  (∀ (s : State) (c : Carrier) (bs : List Byte) (rest : List (Carrier × List Byte)) (st : Nat) (ps : List Byte) (d : Device),
    thimbleServes s.dev = true → ringed c = false → s.dev.cmd.arrived = (c, bs) :: rest →
    packetReply 8 c bs (bobPacket c bs { s.dev with cmd := { s.dev.cmd with arrived := rest } }) = ((st, ps), d) → st ≠ waits →
    (st ≠ stOk → st ≠ stAccepted → gives .requestTake s (s.dev.moved (sendReply c ps d))) ∧
    (st = stOk ∨ st = stAccepted →
      gives .requestTake s (s.dev.moved (opAfter (u16 bs 2) ((bs.drop 16).take (u32 bs 8)) (sendReply c ps d))))) ∧
  (∀ (c : Carrier) (bs : List Byte) (d : Device), d.bobTakes (carrierHalf d c) = false → bobPacket c bs d = d) ∧
  (∀ (c : Carrier) (bs : List Byte) (d : Device), ringed c = false → d.cmd.heldBack = [] →
    ((d.cmd.replies.filter (fun x => x.1 == c)).length < 4 →
      sendReply c bs d = { d with cmd := { d.cmd with sent := (c, bs) :: d.cmd.sent, replies := d.cmd.replies ++ [(c, bs)] } }) ∧
    (4 ≤ (d.cmd.replies.filter (fun x => x.1 == c)).length →
      sendReply c bs d = { d with cmd := { d.cmd with sent := (c, bs) :: d.cmd.sent, heldBack := [(c, bs)] } })) ∧
  -- R529: a long operation that has ended answers its request
  (∀ (s : State) (x : LongRun) (st : Nat) (ps : List Byte), thimbleServes s.dev = true → s.dev.cmd.long = [x] → longEnd s.dev x = some (st, ps) →
    gives (.longCompletion x.op) s
      (s.dev.moved (sendReply x.rq.carrier (packet x.rq x.opcode 3 st ps) { s.dev with cmd := { s.dev.cmd with long := [] } }))) ∧
  (∀ (s : State) (op : LongOp), s.dev.cmd.long = [] → gives (.longCompletion op) s (s.dev.moved s.dev)) ∧
  -- R525: after 60 s with no request the session is closed
  (∀ (s : State) (c : Carrier) (id : Byte), ∃ t, exec (.sessionTimeout c id) s = .next t ∧ sessionOf t.dev c id.toNat = none ∧
    t.dev.cmd.claims = s.dev.cmd.claims ∧ t.dev.regs = s.dev.regs ∧
    ∀ c' i, ¬ (c' = c ∧ i = id.toNat) → sessionOf t.dev c' i = sessionOf s.dev c' i) ∧
  -- R590, R178: a register takes a write by its masks: read-write bits the value, write-one-to-clear bits clear; a wrong size
  -- or class is TARGET_ERR and an address with no register DECODE
  (∀ (s : State) (mc : MClass) (v : BitVec 32), tabWf regDefault s.dev.regs = true → watchedSegs s.dev = [] → s.dev.safeCause = 0 →
    s.dev.sys.mode = .running → s.dev.cmd.heldBack = [] →
    regionAt s.dev 0xFF0000730800 = none → regionAt s.dev 0xFF0000730804 = none → regionAt s.dev 0xFF0000730004 = none →
    (mc.val = 3 → ∃ t, exec (.registerWrite mc 0xFF0000730800 (leBytes v.toNat 4)) s = .next t ∧ t.dev.rsp.status = 0 ∧
      t.dev.reg 0xFF0000730800 = (s.dev.reg 0xFF0000730800 &&& 0x00FFFFFF) ||| (v &&& 0xFF000000) ∧
      (∀ a, a ≠ 0xFF0000730800 → stateReg a = false → t.dev.reg a = s.dev.reg a) ∧ t.dev.mem = s.dev.mem) ∧
    (mc.val = 3 → ∃ t, exec (.registerWrite mc 0xFF0000730804 (leBytes v.toNat 4)) s = .next t ∧ t.dev.rsp.status = 0 ∧
      t.dev.reg 0xFF0000730804 = s.dev.reg 0xFF0000730804 &&& ~~~(v &&& 0x38000000) ∧
      (∀ a, a ≠ 0xFF0000730804 → stateReg a = false → t.dev.reg a = s.dev.reg a) ∧ t.dev.mem = s.dev.mem) ∧
    (mc.val ≠ 3 → gives (.registerWrite mc 0xFF0000730800 (leBytes v.toNat 4)) s (s.dev.moved (s.dev.answer 8 []))) ∧
    (∀ n : Fin 64, n.val ≠ 4 → n.val ≠ 8 → gives (.registerWrite mc 0xFF0000730800 (leBytes v.toNat n.val)) s (s.dev.moved (s.dev.answer 8 []))) ∧
    gives (.registerWrite mc 0xFF0000730004 (leBytes v.toNat 4)) s (s.dev.moved (s.dev.answer 1 [])))

/-- R521, R522, R524, R528: the packet checks in their order, each answered without any effect; a packet that passes them is the
request that its header and parameters say, the same as the request's own command. -/
def Obligations.PacketChecks : Prop :=
  (∀ (n : Nat) (c : Carrier) (bs : List Byte) (d : Device),
    (bs.length < 20 ∨ u16 bs 12 ≠ (crc16 (bs.take 12)).toNat → (packetReply n c bs d).1.1 = stBadCheck ∧ (packetReply n c bs d).2 = d) ∧
    (20 ≤ bs.length → u16 bs 12 = (crc16 (bs.take 12)).toNat →
      (u8 bs 6 ≠ 0 ∨ u16 bs 14 ≠ 0 → (packetReply n c bs d).1.1 = stBadHeader ∧ (packetReply n c bs d).2 = d) ∧
      (u8 bs 6 = 0 → u16 bs 14 = 0 →
        (¬ (u8 bs 0, u8 bs 1) ∈ [(1, 0), (1, 1), (1, 2), (1, 3), (1, 4), (2, 0), (2, 1), (2, 2), (2, 3)] →
          packetReply n c bs d = ((stVersion, plainReply (ctxOf c bs) (u16 bs 2) stVersion [2, 3]), d)) ∧
        (versionBad d (ctxOf c bs) (u16 bs 2) = false →
          (bs.length - 20 < u32 bs 8 ∨ 4096 < 20 + u32 bs 8 → (packetReply n c bs d).1.1 = stBadLength ∧ (packetReply n c bs d).2 = d) ∧
          (u32 bs 8 ≤ bs.length - 20 → 20 + u32 bs 8 ≤ 4096 → u32 bs (16 + u32 bs 8) ≠ (crc32 (bs.take (16 + u32 bs 8))).toNat →
            (packetReply n c bs d).1.1 = stBadCheck ∧ (packetReply n c bs d).2 = d))))) ∧
  (∀ (n : Nat) (rq : ReqCtx) (op : Nat) (p extra : List Byte) (d : Device), op < 65536 → p.length ≤ 4076 → versionBad d rq op = false →
    (op = 0x0B04 → u8 p 0 ≠ devId d) →
    packetReply n rq.carrier (packet rq op 0 0 p ++ extra) d = serve rq op p (requestCrc rq op p) (opAct rq op p) d) ∧
  (∀ (rq : ReqCtx) (op : Nat) (p : List Byte) (crc : Nat) (act : Session → Device → Res) (d : Device) (x : Session) (k : Kept),
    versionBad d rq op = false → (romBoot d = true → romServes op = true) → (opRow op (rqVersion rq)).isSome = true → op ≠ 1 →
    (sessionOf d rq.carrier rq.id.toNat = none → (serve rq op p crc act d).1.1 = stNotOwner ∧ (serve rq op p crc act d).2 = d) ∧
    (sessionOf d rq.carrier rq.id.toNat = some x → x.kept.find? (fun k => k.seq == rq.seq.toNat) = some k →
      (k.crc = crc → (serve rq op p crc act d).1.2 = k.reply ∧ (serve rq op p crc act d).2 = d) ∧
      (k.crc ≠ crc → (serve rq op p crc act d).1.1 = stBadHeader ∧ (serve rq op p crc act d).2 = d))) ∧
  (∀ (d : Device) (rq : ReqCtx), (rq.major.toNat, rq.minor.toNat) ∈ [(1, 0), (1, 1), (1, 2), (1, 3), (1, 4), (2, 0), (2, 1), (2, 2), (2, 3)] →
    versionBad d rq 1 = false)

/-! ### The opcodes -/

/-- R525, R526, R533 to R536: where the requests for sessions, loading, power, Lark and the calendar complete, what they answer, and what
they leave. -/
def Obligations.SessionRequestsComplete : Prop :=
  ∀ (s : State) (rq : ReqCtx) (x : Session),
    -- R525: HELLO opens a session of its own; the firmware build and the nonce are free values
    (∀ (lo hi v : Nat × Nat), thimbleServes s.dev = true → versions.contains (rqVersion rq) = true → chosenVersion lo hi = some v →
      s.dev.bobTakes (carrierHalf s.dev rq.carrier) = false → rq.id ≠ 0 → rq.id ≠ 255 → s.dev.cmd.sessions.any (fun y => y.id == rq.id.toNat && y.carrier != rq.carrier) = false →
      (closeSession rq.carrier rq.id.toNat s.dev).cmd.sessions.length < 32 → ∃ build nonce : Nat, ∀ y d : _,
      y = ({ id := rq.id.toNat, carrier := rq.carrier, secure := false, tries := 0, major := v.1, minor := v.2
             nonce := BitVec.ofNat 384 nonce, kept := [], tookOver := false } : Session) →
      d = closeSession rq.carrier rq.id.toNat s.dev →
      serves (.hello rq lo hi rq.id) s rq 0x0001 (verBytes lo ++ verBytes hi ++ [rq.id] ++ leBytes 0 3) 0
        (leBytes v.1 1 ++ leBytes v.2 1 ++ [rq.id] ++ leBytes (devId s.dev) 1 ++ leBytes build 4 ++ word4 s.dev (thmA 0x40)
          ++ leBytes (BitVec.ofNat 384 nonce).toNat 48)
        { d with fresh := s.dev.fresh + 2, cmd := { d.cmd with sessions := d.cmd.sessions ++ [y] } }) ∧
    (s.dev.admits rq 0x0002 x → serves (.bye rq) s rq 0x0002 [] 0 [] (closeSession rq.carrier rq.id.toNat s.dev)) ∧
    -- R526: a signature of an enrolled, unrevoked slot makes the session secure; each attempt counts
    (∀ (slot : Byte) (ok : Bool), s.dev.admits rq 0x0003 x → slot.toNat ≤ 3 → x.tries < 3 → anyEnrolled s.dev = true →
      ∀ k d, k = tabGet keyReset s.dev.load.keys slot.toNat →
      d = mapSession rq.carrier rq.id.toNat (fun y => { y with tries := y.tries + 1 }) s.dev →
      (k.enrolled = true → k.revoked = false → ok = true → serves (.auth rq slot ok []) s rq 0x0003 ([slot] ++ leBytes 0 3 ++ leBytes 0 96) 0 []
        (mapSession rq.carrier rq.id.toNat (fun y => { y with secure := true }) d)) ∧
      (k.enrolled = false ∨ k.revoked = true ∨ ok = false →
        serves (.auth rq slot ok []) s rq 0x0003 ([slot] ++ leBytes 0 3 ++ leBytes 0 96) stNotOwner [] d)) ∧
    (s.dev.admits rq 0x0004 x → serves (.state rq) s rq 0x0004 [] 0 (words s.dev [thmA 0x40, thmA 0x44]) s.dev) ∧
    -- R510: a recording Bobbin takes the whole packet first; the operation then runs the same
    (s.dev.asks rq 0x0004 x → ∀ d, d = bobPacket rq.carrier (packet rq 0x0004 0 0 []) s.dev →
      serves (.state rq) s rq 0x0004 [] 0 (words s.dev [thmA 0x40, thmA 0x44]) d) ∧
    -- R534
    (∀ (source ports t : Byte) (page : BitVec 32) (host : BitVec 64), s.dev.admits rq 0x0101 x → source.toNat ≤ 4 →
      (source.toNat = 2 → flashArgsOk ports.toNat t.toNat = true) → s.dev.load.job = none → s.dev.sys.tripLow = false →
      s.dev.modeCode ≠ 1 → s.dev.modeCode ≠ 4 → s.dev.modeCode ≠ 5 → s.dev.load.decFailW = false →
      serves (.load rq source ports t page host) s rq 0x0101 ([source, ports, t, 0] ++ leBytes page.toNat 4 ++ leBytes host.toNat 8) 1 []
        (startLong rq .load 0x0101 0 none
          (loadStart (if source.toNat ≤ 2 then 0 else source.toNat - 2) false (source.toNat == 1) rq.id s.dev)).2) ∧
    (∀ (off : BitVec 32) (data : List Byte) (j : LoadJob), s.dev.admits rq 0x0102 x → 1 ≤ data.length → data.length ≤ 4072 →
      s.dev.load.job = some j → j.source = 2 →
      (j.taken = off.toNat → serves (.loadData rq off data) s rq 0x0102 (leBytes off.toNat 4 ++ data) 0 []
        { s.dev with load := { s.dev.load with job := some { j with taken := j.taken + data.length } } }) ∧
      (j.taken ≠ off.toNat → serves (.loadData rq off data) s rq 0x0102 (leBytes off.toNat 4 ++ data) stRange [] s.dev)) ∧
    (s.dev.admits rq 0x0103 x → ∀ j, s.dev.load.job = some j →
      serves (.loadAbort rq) s rq 0x0103 [] 0 [] (loadReject 11 (j.pat.elim 0 firstField) s.dev)) ∧
    (s.dev.admits rq 0x0104 x → serves (.loadStatus rq) s rq 0x0104 [] 0 (words s.dev [thmA 0x2300, thmA 0x2304]) s.dev) ∧
    (∀ fields : BitVec 32, s.dev.admits rq 0x0105 x →
      serves (.gsrPulse rq fields) s rq 0x0105 (leBytes fields.toNat 4) 0 [] (s.dev.each (regionFields fields) (fun d f => gsrPulse f d))) ∧
    -- R535, R31, R32
    (s.dev.admits rq 0x0201 x → s.dev.modeCode = 2 → s.dev.load.job = none → ∃ d, serves (.dormant rq) s rq 0x0201 [] 0 [] d ∧
      d.sys.mode = .dormant) ∧
    (s.dev.admits rq 0x0201 x → s.dev.modeCode = 3 → serves (.dormant rq) s rq 0x0201 [] stBusy [] s.dev) ∧
    (s.dev.admits rq 0x0202 x → (s.dev.modeCode = 4 → serves (.wake rq) s rq 0x0202 [] 0 [] (wakeStart s.dev)) ∧
      (s.dev.modeCode ≠ 4 → serves (.wake rq) s rq 0x0202 [] stWrongMode [] s.dev)) ∧
    (s.dev.admits rq 0x0203 x →
      gives (.reset rq 1) s (s.dev.moved (deviceReset .command 2 (s.dev.replied rq 0x0203 [1] 0 []))) ∧
      gives (.reset rq 2) s (s.dev.moved (halfReset .w (s.dev.replied rq 0x0203 [2] 0 []))) ∧
      gives (.reset rq 3) s (s.dev.moved (halfReset .e (s.dev.replied rq 0x0203 [3] 0 []))) ∧
      serves (.reset rq 0) s rq 0x0203 [0] stRange [] s.dev) ∧
    (∀ dom st : Byte, s.dev.admits rq 0x0204 x → dom.toNat ≤ 63 → st.toNat ≤ 3 → s.dev.modeCode = 2 ∨ s.dev.modeCode = 3 →
      ((dom.toNat < 32 → s.dev.frozen dom.toNat = false ∧ s.dev.underLoad dom.toNat = false) → s.dev.domState dom.toNat ≠ 3 ∨ supplyOk s.dev dom.toNat = true →
        serves (.domainSet rq dom st) s rq 0x0204 [dom, st] 0 [] (domRequest dom.toNat st.toNat s.dev)) ∧
      (dom.toNat < 32 → s.dev.frozen dom.toNat = true ∨ s.dev.underLoad dom.toNat = true →
        serves (.domainSet rq dom st) s rq 0x0204 [dom, st] stBusy [] s.dev)) ∧
    (s.dev.admits rq 0x0205 x → (s.dev.sys.integrity = true → ∃ d, serves (.release rq) s rq 0x0205 [] 0 [] d ∧ d.sys.integrity = false) ∧
      (s.dev.sys.integrity = false → serves (.release rq) s rq 0x0205 [] stWrongMode [] s.dev)) ∧
    -- R536, R194, R216
    (∀ (h : Half) (frac : BitVec 16) (ns : BitVec 32) (sec : BitVec 48), s.dev.admits rq 0x0301 x → s.dev.up h = true →
      tabWf regDefault s.dev.regs = true → s.dev.timeState (setTarget s.dev h) = 0 → ns.toNat < 1000000000 →
      ∃ d, serves (.lrkSetTime rq (BitVec.ofNat 8 (hn h)) frac ns sec) s rq 0x0301
          ([BitVec.ofNat 8 (hn h), 0] ++ leBytes frac.toNat 2 ++ leBytes ns.toNat 4 ++ leBytes sec.toNat 6) 0 [] d ∧
        (d.lark (setTarget s.dev h)).setArmed = true ∧ d.reg (lrkWide 0x20) = BitVec.ofNat 32 frac.toNat ∧
        d.reg (lrkWide 0x24) = ns ∧ d.reg (lrkWide 0x28) = BitVec.ofNat 32 (sec.toNat % 2 ^ 32) ∧
        d.reg (lrkWide 0x2C) = BitVec.ofNat 32 (sec.toNat / 2 ^ 32)) ∧
    (∀ h : Half, s.dev.admits rq 0x0302 x → s.dev.up h = true →
      serves (.lrkCmd rq (BitVec.ofNat 8 (hn h)) 3) s rq 0x0302 [BitVec.ofNat 8 (hn h), 3] 0 [] (clearLearning h s.dev) ∧
      (s.dev.leads h = true → serves (.lrkCmd rq (BitVec.ofNat 8 (hn h)) 2) s rq 0x0302 [BitVec.ofNat 8 (hn h), 2] 0 [] s.dev) ∧
      (s.dev.leads h = false → s.dev.larkSplit = false → s.dev.aligned h = true →
        ∃ d, serves (.lrkCmd rq (BitVec.ofNat 8 (hn h)) 2) s rq 0x0302 [BitVec.ofNat 8 (hn h), 2] 0 [] d ∧ d.time.disc.swapReq = true) ∧
      (s.dev.leads h = false → s.dev.larkSplit = false → s.dev.aligned h = false →
        serves (.lrkCmd rq (BitVec.ofNat 8 (hn h)) 2) s rq 0x0302 [BitVec.ofNat 8 (hn h), 2] stWrongMode [] (s.dev.setBit (statA h) 13))) ∧
    (∀ (h : Half) (first : BitVec 16) (e : BitVec 128), s.dev.admits rq 0x0303 x → s.dev.up h = true →
      needClaim s.dev 1 (hn h) (first.toNat / 256) rq.id.toNat = none →
      (eValid e && entryRefused s.dev e) = false →
      serves (.calWrite rq (BitVec.ofNat 8 (hn h)) first [e]) s rq 0x0303 ([BitVec.ofNat 8 (hn h), 1] ++ leBytes first.toNat 2 ++ leBytes e.toNat 16)
        0 ([1, 0] ++ leBytes first.toNat 2) (entryWrite h first.toNat e s.dev)) ∧
    (∀ (h : Half) (first : BitVec 16) (e : BitVec 128) (more : List (BitVec 128)), s.dev.admits rq 0x0303 x → s.dev.up h = true →
      more.length < 250 → (∀ i : Nat, i ≤ more.length → needClaim s.dev 1 (hn h) ((first.toNat + i) % 65536 / 256) rq.id.toNat = none) →
      eValid e = true → entryRefused s.dev e = true →
      serves (.calWrite rq (BitVec.ofNat 8 (hn h)) first (e :: more)) s rq 0x0303 ([BitVec.ofNat 8 (hn h)] ++ leBytes (more.length + 1) 1
          ++ leBytes first.toNat 2 ++ (e :: more).flatMap (fun y => leBytes y.toNat 16)) stRange [] (entryWrite h first.toNat e s.dev)) ∧
    (∀ (h : Half) (count : Byte) (first : BitVec 16), s.dev.admits rq 0x0304 x → s.dev.up h = true → 1 ≤ count.toNat → count.toNat ≤ 250 →
      serves (.calRead rq (BitVec.ofNat 8 (hn h)) count first) s rq 0x0304 ([BitVec.ofNat 8 (hn h), count] ++ leBytes first.toNat 2) 0
        ((List.range count.toNat).flatMap (fun i => leBytes (s.dev.entry h ((first.toNat + i) % 65536)).toNat 16)) s.dev) ∧
    (∀ (h : Half) (c : Fin 32) (range ctrl : BitVec 32), s.dev.admits rq 0x0305 x → s.dev.up h = true →
      needClaim s.dev 2 (hn h) c.val rq.id.toNat = none →
      chanRefused (s.dev.setReg (chanCtlA h c.val 0) range) h c.val (ctrl &&& 0x9F000000) = false →
      ∀ d, d = chanStage h c.val ctrl false (s.dev.setReg (chanCtlA h c.val 0) range) →
      serves (.chSet rq (BitVec.ofNat 8 (hn h)) (BitVec.ofNat 8 c.val) range ctrl) s rq 0x0305
        ([BitVec.ofNat 8 (hn h), BitVec.ofNat 8 c.val, 0, 0] ++ leBytes range.toNat 4 ++ leBytes ctrl.toNat 4) 0 (word4 d (chanCtlA h c.val 8)) d)

/-- R537 to R545, R548 to R551: where the requests for memory, mending, recording, updates, keys, claims, registers, queues and links
complete, what they answer, and what they leave. -/
def Obligations.BlockRequestsComplete : Prop :=
  ∀ (s : State) (rq : ReqCtx) (x : Session),
    -- R537
    (∀ (n : Fin 8) (base limit : BitVec 32) (d : Device), s.dev.admits rq 0x0401 x → passBusy s.dev n.val = false →
      s.dev.cmd.long.any (fun y => y.op == .scrub n) = false → base.toNat < 2 ^ 29 → limit.toNat < 2 ^ 29 →
      passStart n.val ((s.dev.setFld (mchA n.val 0x908) 0 29 base.toNat).setFld (mchA n.val 0x90C) 0 29 limit.toNat) = (0, d) →
      serves (.scrub rq (BitVec.ofNat 8 n.val) base limit) s rq 0x0401 ([BitVec.ofNat 8 n.val, 0, 0, 0] ++ leBytes base.toNat 4 ++ leBytes limit.toNat 4)
        1 [] (startLong rq (.scrub n) 0x0401 0 none d).2) ∧
    (∀ (n : Fin 8) (c0 c1 : List (BitVec 32)), s.dev.admits rq 0x0402 x →
      (∀ d, d = s.dev.putBit (mchA n.val 0) 28 true →
        serves (.train rq (BitVec.ofNat 8 n.val) 1 c0 c1) s rq 0x0402 [BitVec.ofNat 8 n.val, 1] 0 (word4 d (mchA n.val 8)) d) ∧
      (∀ d, d = s.dev.putBit (mchA n.val 0) 28 false →
        serves (.train rq (BitVec.ofNat 8 n.val) 2 c0 c1) s rq 0x0402 [BitVec.ofNat 8 n.val, 2] 0 (word4 d (mchA n.val 8)) d) ∧
      (s.dev.chanState n.val = 2 → s.dev.bit (mchA n.val 0) 28 = false → ∀ d, d = driftNow n.val c0 c1 s.dev →
        serves (.train rq (BitVec.ofNat 8 n.val) 0 c0 c1) s rq 0x0402 [BitVec.ofNat 8 n.val, 0] 0 (word4 d (mchA n.val 8)) d)) ∧
    (∀ (n : Fin 8) (r : Fin 2) (dev : Fin 32) (d : Device), s.dev.admits rq 0x0403 x →
      (eccMark n.val r.val dev.val (eccFields n.val r.val dev.val s.dev) = (false, d) →
        serves (.mark rq (BitVec.ofNat 8 n.val) (BitVec.ofNat 8 r.val) (BitVec.ofNat 8 dev.val) 1) s rq 0x0403
          [BitVec.ofNat 8 n.val, BitVec.ofNat 8 r.val, BitVec.ofNat 8 dev.val, 1] 0 (word4 d (markA n.val r.val)) d) ∧
      (eccMark n.val r.val dev.val (eccFields n.val r.val dev.val s.dev) = (true, d) →
        serves (.mark rq (BitVec.ofNat 8 n.val) (BitVec.ofNat 8 r.val) (BitVec.ofNat 8 dev.val) 1) s rq 0x0403
          [BitVec.ofNat 8 n.val, BitVec.ofNat 8 r.val, BitVec.ofNat 8 dev.val, 1] stWrongMode [] d)) ∧
    (∀ (i : Fin 16) (base limit : BitVec 64) (rights : BitVec 32), s.dev.admits rq 0x0404 x → tabWf regDefault s.dev.regs = true →
      base.toNat < 2 ^ 39 → limit.toNat < 2 ^ 39 → base.toNat % 4096 = 0 → limit.toNat % 4096 = 4095 → ∀ p,
      p = [BitVec.ofNat 8 i.val, 0, 0, 0] ++ leBytes base.toNat 8 ++ leBytes limit.toNat 8 ++ leBytes rights.toNat 4 →
      (rngState s.dev i.val = 0 → ∃ d, serves (.linRange rq (BitVec.ofNat 8 i.val) base limit rights) s rq 0x0404 p 0 (word4 d (rngA i.val 0x14)) d ∧
        rngBase d i.val = base.toNat ∧ rngLimit d i.val = limit.toNat ∧ d.reg (rngA i.val 0x10) = rights &&& 0x3FFFF ∧ d.mem = s.dev.mem) ∧
      (rngState s.dev i.val ≠ 0 → ¬ (base.toNat = rngBase s.dev i.val ∧ limit.toNat = rngLimit s.dev i.val) →
        serves (.linRange rq (BitVec.ofNat 8 i.val) base limit rights) s rq 0x0404 p stWrongMode [] s.dev)) ∧
    (∀ (i : Fin 16) (mode : Bool) (d : Device), s.dev.admits rq 0x0405 x → ∀ m : Byte, m = (if mode then 1 else 0) →
      (liningOpen i.val mode (linFields i.val mode s.dev) = (0, d) →
        serves (.linCmd rq (BitVec.ofNat 8 i.val) 1 m) s rq 0x0405 [BitVec.ofNat 8 i.val, 1, m] 1 [] (startLong rq (.lining i) 0x0405 0 none d).2) ∧
      (liningClose i.val mode (linFields i.val mode s.dev) = (0, d) →
        serves (.linCmd rq (BitVec.ofNat 8 i.val) 2 m) s rq 0x0405 [BitVec.ofNat 8 i.val, 2, m] 1 [] (startLong rq (.lining i) 0x0405 0 none d).2) ∧
      (liningRekey i.val (linFields i.val mode s.dev) = (0, d) →
        serves (.linCmd rq (BitVec.ofNat 8 i.val) 3 m) s rq 0x0405 [BitVec.ofNat 8 i.val, 3, m] 1 [] (startLong rq (.lining i) 0x0405 0 none d).2)) ∧
    -- R538
    (∀ (f : Fin 32) (k : Fin 3) (target : BitVec 16) (d : Device), s.dev.admits rq 0x0501 x →
      mendRequest f.val ⟨k.val + 1, target.toNat, false⟩ false (s.dev.setFld (fldA f.val 0x10) 0 9 target.toNat) = (0, d) →
      serves (.mend rq (BitVec.ofNat 8 f.val) (BitVec.ofNat 8 (k.val + 1)) target) s rq 0x0501
        ([BitVec.ofNat 8 f.val, BitVec.ofNat 8 (k.val + 1)] ++ leBytes target.toNat 2) 1 []
        (startLong rq (.mend f) 0x0501 ((k.val + 1) * 65536 + target.toNat) none d).2) ∧
    (∀ (fields : BitVec 32) (we am : Bool) (period : BitVec 16), s.dev.admits rq 0x0502 x → ∀ a b : Byte, a = (if we then 1 else 0) → b = (if am then 1 else 0) →
      (we = true → ∀ f ∈ regionFields fields, s.dev.bit (fldA f 0) 28 = true) →
      serves (.walk rq fields a b period) s rq 0x0502 (leBytes fields.toNat 4 ++ [a, b] ++ leBytes period.toNat 2) 0 []
        (s.dev.each (regionFields fields) (fun d f => walkCfgWrite f (BitVec.ofNat 32 (b2n we * 2 ^ 31 + b2n am * 2 ^ 30 + period.toNat)) d))) ∧
    (∀ f : Fin 32, s.dev.admits rq 0x0503 x → serves (.mendStatus rq (BitVec.ofNat 8 f.val)) s rq 0x0503 [BitVec.ofNat 8 f.val] 0
      (words s.dev [fldA f.val 0x18, fldA f.val 0x20, fldA f.val 0x24, fldA f.val 0x28, fldA f.val 0x30, fldA f.val 0x34]) s.dev) ∧
    (s.dev.admits rq 0x0504 x → serves (.seamRetrain rq 255) s rq 0x0504 [255] 0 [] (retrainAll 3 s.dev) ∧
      ∀ g : Fin 110, serves (.seamRetrain rq (BitVec.ofNat 8 g.val)) s rq 0x0504 [BitVec.ofNat 8 g.val] 0 [] (retrainSegment 3 g.val s.dev)) ∧
    (s.dev.admits rq 0x0505 x → (s.dev.modeCode = 0 → serves (.seamMapReset rq) s rq 0x0505 [] 0 [] (seamMapReset s.dev)) ∧
      (s.dev.modeCode ≠ 0 → serves (.seamMapReset rq) s rq 0x0505 [] stWrongMode [] s.dev)) ∧
    -- R539, R540
    (∀ (k : Fin 4) (d : Device), s.dev.admits rq 0x0601 x →
      (bobCmd (k.val + 1) s.dev = (false, d) → serves (.bobCmd rq (BitVec.ofNat 8 (k.val + 1))) s rq 0x0601 [BitVec.ofNat 8 (k.val + 1)] 0 (word4 d (bobA 4)) d) ∧
      (bobCmd (k.val + 1) s.dev = (true, d) → serves (.bobCmd rq (BitVec.ofNat 8 (k.val + 1))) s rq 0x0601 [BitVec.ofNat 8 (k.val + 1)] stWrongMode [] d)) ∧
    (s.dev.admits rq 0x0602 x → serves (.bobStatus rq) s rq 0x0602 [] 0 (words s.dev [bobA 4, bobA 0x10C, bobA 0x12C, bobA 0x110, bobA 0x130]) s.dev) ∧
    (∀ (first : BitVec 16) (count : Byte), s.dev.admits rq 0x0701 x →
      (first.toNat ≤ 4095 → 1 ≤ count.toNat → count.toNat ≤ 120 →
        serves (.logRead rq first count) s rq 0x0701 (leBytes first.toNat 2 ++ [count]) 0 (leBytes (s.dev.fld (thmA 0x2420) 16 12) 2
          ++ leBytes (s.dev.fld (thmA 0x2420) 0 16) 2 ++ (List.range count.toNat).flatMap (fun i => entryBytes (s.dev.logEntry ((first.toNat + i) % 4096)))) s.dev) ∧
      (count = 0 ∨ 120 < count.toNat → serves (.logRead rq first count) s rq 0x0701 (leBytes first.toNat 2 ++ [count]) stRange [] s.dev)) ∧
    (s.dev.admits rq 0x0702 x → ∃ ps, serves (.sensors rq) s rq 0x0702 [] 0 ps s.dev ∧ ps.length = 320) ∧
    (∀ ws : List (BitVec 32), s.dev.admits rq 0x0703 x → ws.length = 8 → tabWf regDefault s.dev.regs = true →
      ∃ d, serves (.faultIe rq ws) s rq 0x0703 (ws.flatMap (fun w => leBytes w.toNat 4)) 0 [] d ∧
        (∀ i, i < 8 → d.reg (thmA (0x2400 + 4 * i)) = ws.getD i 0) ∧ ∀ a, (∀ i, i < 8 → a ≠ thmA (0x2400 + 4 * i)) → d.reg a = s.dev.reg a) ∧
    -- R541
    (∀ (ty : BitVec 16) (total : BitVec 32), s.dev.admits rq 0x0801 x → ty.toNat ∈ [1, 2, 3, 5, 7, 8] → s.dev.cmd.update = none →
      s.dev.cmd.long.any (fun y => y.op == .update) = false →
      serves (.updateBegin rq ty total) s rq 0x0801 (leBytes ty.toNat 2 ++ [0, 0] ++ leBytes total.toNat 4) 0 []
        { s.dev with cmd := { s.dev.cmd with update := some { rtype := ty.toNat, total := total.toNat, bytes := [], id := x.id } } }) ∧
    (∀ (off : BitVec 32) (data : List Byte) (u : UpdJob), s.dev.admits rq 0x0802 x → 1 ≤ data.length → data.length ≤ 4072 → s.dev.cmd.update = some u →
      (off.toNat = u.bytes.length → off.toNat + data.length ≤ u.total → serves (.updateData rq off data) s rq 0x0802 (leBytes off.toNat 4 ++ data) 0 []
        { s.dev with cmd := { s.dev.cmd with update := some { u with bytes := u.bytes ++ data } } }) ∧
      (off.toNat ≠ u.bytes.length → serves (.updateData rq off data) s rq 0x0802 (leBytes off.toNat 4 ++ data) stRange [] s.dev)) ∧
    (∀ (sig wr : Bool) (u : UpdJob) (q : Res), s.dev.admits rq 0x0803 x → s.dev.cmd.update = some u → updateEndAct rq sig s.dev = q →
      q.1 = (1, []) ∧ gives (.updateEnd rq sig wr) s (s.dev.moved (updateEndAfter wr (q.2.replied rq 0x0803 [] 1 [])))) ∧
    (s.dev.admits rq 0x0804 x → romBoot s.dev = false → serves (.updateConfirm rq) s rq 0x0804 [] 0 []
      ((setBank (s.dev.bit (thmA 0x2310) 31) { rsBank s.dev.load (s.dev.bit (thmA 0x2310) 31) with confirm := true } s.dev).setFld (thmA 0x2318) 0 2 0)) ∧
    (s.dev.admits rq 0x0805 x → serves (.rsStatus rq) s rq 0x0805 [] 0 (words s.dev [thmA 0x2310, thmA 0x2314, thmA 0x2318]) s.dev) ∧
    (∀ (fallback auto : Bool) (ports t : Byte) (page : BitVec 32), s.dev.admits rq 0x0806 x → flashArgsOk ports.toNat t.toNat = true →
      ∀ a b : Byte, a = (if fallback then 1 else 0) → b = (if auto then 1 else 0) → ∃ d,
      serves (.pointerSet rq a ports t b page) s rq 0x0806 ([a, ports, t, b] ++ leBytes page.toNat 4) 0 [] d ∧
      (if fallback then d.load.fallbackPtr else d.load.primaryPtr) = { ports := ports.toNat, page := page.toNat, t := t.toNat, auto := auto } ∧
      (if fallback then d.load.primaryPtr = s.dev.load.primaryPtr else d.load.fallbackPtr = s.dev.load.fallbackPtr) ∧ d.regs = s.dev.regs) ∧
    (∀ (slot : Fin 4) (digest : BitVec 384), s.dev.admits rq 0x0807 x → tabWf keyReset s.dev.load.keys = true → ∀ p,
      p = [BitVec.ofNat 8 slot.val] ++ leBytes 0 3 ++ leBytes digest.toNat 48 →
      ((tabGet keyReset s.dev.load.keys slot.val).enrolled = false → ∃ d, serves (.keyEnroll rq (BitVec.ofNat 8 slot.val) digest) s rq 0x0807 p 0 [] d ∧
        tabGet keyReset d.load.keys slot.val = { tabGet keyReset s.dev.load.keys slot.val with hash := digest, enrolled := true } ∧
        ∀ j, j ≠ slot.val → tabGet keyReset d.load.keys j = tabGet keyReset s.dev.load.keys j) ∧
      ((tabGet keyReset s.dev.load.keys slot.val).enrolled = true → serves (.keyEnroll rq (BitVec.ofNat 8 slot.val) digest) s rq 0x0807 p stRange [] s.dev)) ∧
    (∀ slot : Fin 4, s.dev.admits rq 0x0808 x → tabWf keyReset s.dev.load.keys = true →
      ∃ d, serves (.keyRevoke rq (BitVec.ofNat 8 slot.val)) s rq 0x0808 [BitVec.ofNat 8 slot.val] 0 [] d ∧ (tabGet keyReset d.load.keys slot.val).revoked = true) ∧
    (∀ (slot : Fin 2) (key : BitVec 256), s.dev.admits rq 0x0809 x → tabWf noPatKey s.dev.load.patKeys = true → ∀ p,
      p = [BitVec.ofNat 8 slot.val] ++ leBytes 0 3 ++ leBytes key.toNat 32 →
      (tabGet noPatKey s.dev.load.patKeys slot.val = none → ∃ d, serves (.patternKey rq (BitVec.ofNat 8 slot.val) key) s rq 0x0809 p 0 [] d ∧
        tabGet noPatKey d.load.patKeys slot.val = some key) ∧
      (tabGet noPatKey s.dev.load.patKeys slot.val ≠ none → serves (.patternKey rq (BitVec.ofNat 8 slot.val) key) s rq 0x0809 p stRange [] s.dev)) ∧
    -- R542, R548 to R550: claims of items are whole or none
    (∀ (kind wher : Byte) (first count : BitVec 32) (w : Nat), w = claimWhere kind.toNat wher.toNat →
      claimInRange kind.toNat wher.toNat first.toNat count.toNat = true →
      (s.dev.admits rq 0x0901 x →
        (∀ c, firstHeld s.dev kind.toNat w first.toNat count.toNat x.id = some c →
          serves (.claim rq kind wher first count) s rq 0x0901 (claimBytes kind wher first count) stClaimed (leBytes c.holder 4 ++ leBytes c.item 4) s.dev) ∧
        (firstHeld s.dev kind.toNat w first.toNat count.toNat x.id = none →
          ∃ d, serves (.claim rq kind wher first count) s rq 0x0901 (claimBytes kind wher first count) 0 (leBytes first.toNat 4 ++ leBytes count.toNat 4) d ∧
            (∀ i, first.toNat ≤ i → i < first.toNat + count.toNat → claimHolder d kind.toNat w i = some x.id) ∧
            ∀ k v i, ¬ (k = kind.toNat ∧ v = w ∧ first.toNat ≤ i ∧ i < first.toNat + count.toNat) → claimHolder d k v i = claimHolder s.dev k v i)) ∧
      (s.dev.admits rq 0x0902 x → firstHeld s.dev kind.toNat w first.toNat count.toNat x.id = none →
        ∃ d, serves (.unclaim rq kind wher first count) s rq 0x0902 (claimBytes kind wher first count) 0 [] d ∧
          (∀ i, first.toNat ≤ i → i < first.toNat + count.toNat → claimHolder d kind.toNat w i = none) ∧
          ∀ k v i, ¬ (k = kind.toNat ∧ v = w ∧ first.toNat ≤ i ∧ i < first.toNat + count.toNat) → claimHolder d k v i = claimHolder s.dev k v i) ∧
      (∀ holder : Byte, s.dev.admits rq 0x0903 x → holder ≠ 255 →
        ∃ d, serves (.override rq kind wher first count holder) s rq 0x0903 (claimBytes kind wher first count ++ [holder]) 0 [] d ∧
          (∀ i, first.toNat ≤ i → i < first.toNat + count.toNat → claimHolder d kind.toNat w i = (if holder = 0 then none else some holder.toNat)) ∧
          ∀ k v i, ¬ (k = kind.toNat ∧ v = w ∧ first.toNat ≤ i ∧ i < first.toNat + count.toNat) → claimHolder d k v i = claimHolder s.dev k v i)) ∧
    (∀ (kind wher : Byte) (item : BitVec 32), s.dev.admits rq 0x0904 x → claimInRange kind.toNat wher.toNat item.toNat 1 = true →
      serves (.claimQuery rq kind wher item) s rq 0x0904 ([kind, wher, 0, 0] ++ leBytes item.toNat 4) 0
        (leBytes ((claimHolder s.dev kind.toNat (claimWhere kind.toNat wher.toNat) item.toNat).getD 0) 1) s.dev) ∧
    -- R543, R546, R547: one access, under the class of the carrier or Thimble's own
    (∀ (a : BitVec 48) (wide : Bool) (len : Nat), len = (if wide then 8 else 4) →
      (∀ (r : Answer) (d : Device), s.dev.admits rq 0x0A01 x → busRead (byClass s.dev (accessClass x a.toNat len s.dev)) a.toNat len s.dev = (r, d) →
        serves (.regRead rq a 1 wide) s rq 0x0A01 (leBytes a.toNat 8 ++ [1, 0] ++ leBytes (b2n wide) 1) 0
          (if r.status = 0 then [1, 0, 0, 0] ++ r.data else [0, 0] ++ leBytes r.status 1 ++ [0]) d) ∧
      (∀ (data : List Byte) (st : Nat) (d : Device), s.dev.admits rq 0x0A02 x → data.length = len → writeRules x [a.toNat] len data s.dev = none →
        busWrite (byClass s.dev (accessClass x a.toNat len s.dev)) 2 a.toNat data s.dev = (st, d) →
        (st ≠ notTaken → serves (.regWrite rq a 1 wide data) s rq 0x0A02 (leBytes a.toNat 8 ++ [1, 0] ++ leBytes (b2n wide) 1 ++ data) 0
          (leBytes (if st = 0 then 1 else 0) 2 ++ leBytes st 1) d) ∧
        (st = notTaken → gives (.regWrite rq a 1 wide data) s (s.dev.moved s.dev)))) ∧
    (∀ (a : BitVec 48) (mask value : BitVec 32) (r : Answer) (d d' : Device) (st : Nat), s.dev.admits rq 0x0A03 x →
      busRead (byClass s.dev (accessClass x a.toNat 4 s.dev)) a.toNat 4 s.dev = (r, d) → r.status = 0 → ∀ old new : BitVec 32, old = leWord r.data →
      new = (old &&& ~~~mask) ||| (value &&& mask) → writeRule x a.toNat new s.dev = none →
      busWrite (byClass d (accessClass x a.toNat 4 d)) 2 a.toNat (leBytes new.toNat 4) d = (st, d') → st ≠ notTaken →
      serves (.regRmw rq a mask value) s rq 0x0A03 (leBytes a.toNat 8 ++ leBytes mask.toNat 4 ++ leBytes value.toNat 4) 0
        (leBytes old.toNat 4 ++ leBytes st 1) d') ∧
    -- R544
    (∀ (q : BitVec 32) (ctx : List Byte) (d : Device), s.dev.admits rq 0x0A04 x → ctx.length = 56 → q.toNat < 2 ^ 20 →
      needClaim s.dev 3 0 q.toNat rq.id.toNat = none → ∀ n c, n = cEngine (BitVec.ofNat 512 (leNat ctx)) → shtRuns s.dev n = true →
      c = setCfld (BitVec.ofNat 512 (leNat ctx)) 0x38 0 16 (epochOf s.dev (engHalf n)) →
      ctxWrite n q.toNat c ((s.dev.setFld (shtA n 0x300) 0 20 q.toNat).each (upto 16) (fun d i =>
        d.setReg (shtA n (0x310 + 4 * i)) (BitVec.ofNat 32 (bitsAt c.toNat (32 * i) 32)))) = (false, d) →
      serves (.queueSet rq q ctx) s rq 0x0A04 (leBytes q.toNat 4 ++ ctx) 0 (word4 d (shtA n 4)) d) ∧
    (∀ (q : BitVec 32) (c : Ctx) (d : Device) (n : Nat), s.dev.admits rq 0x0A05 x → q.toNat < 2 ^ 20 → n = queueEngine s.dev q.toNat → shtRuns s.dev n = true →
      ctxRead n q.toNat (s.dev.setFld (shtA n 0x300) 0 20 q.toNat) = (c, d) →
      serves (.queueGet rq q) s rq 0x0A05 (leBytes q.toNat 4) 0 (ctxBytes c) d) ∧
    (∀ (q : BitVec 32) (cmd : Byte) (d : Device) (n : Nat), s.dev.admits rq 0x0A06 x → q.toNat < 2 ^ 20 → cmd = 3 ∨ cmd = 4 →
      needClaim s.dev 3 0 q.toNat rq.id.toNat = none → n = queueEngine s.dev q.toNat → shtRuns s.dev n = true →
      ctxState n q.toNat cmd.toNat (s.dev.setFld (shtA n 0x300) 0 20 q.toNat) = (false, d) →
      serves (.queueCtl rq q cmd) s rq 0x0A06 (leBytes q.toNat 4 ++ [cmd] ++ leBytes 0 3) 0
        (leBytes (cfld (ctxGet n q.toNat d).1 0x20 0 64) 8) (ctxGet n q.toNat d).2) ∧
    -- R545, R586
    (∀ k : Fin 8, (s.dev.admits rq 0x0B01 x → serves (.slvStatus rq (BitVec.ofNat 8 k.val)) s rq 0x0B01 [BitVec.ofNat 8 k.val] 0
        (words s.dev [slvA k.val 4, slvA k.val 8]) s.dev) ∧
      (s.dev.admits rq 0x0B02 x → serves (.slvRetrain rq (BitVec.ofNat 8 k.val)) s rq 0x0B02 [BitVec.ofNat 8 k.val] 0 [] (slvRetrainCmd k.val s.dev)) ∧
      (∀ dev : Fin 8, s.dev.admits rq 0x0B03 x → serves (.slvRoute rq (BitVec.ofNat 8 dev.val) (BitVec.ofNat 8 k.val)) s rq 0x0B03
        [BitVec.ofNat 8 dev.val, BitVec.ofNat 8 k.val] 0 [] (s.dev.setFld (thmA 0x2600) (4 * dev.val) 4 (8 + k.val)))) ∧
    (∀ (dev : Fin 8) (inner : List Byte) (ans : Option (List Byte)), s.dev.admits rq 0x0B04 x → 1 ≤ inner.length → inner.length ≤ 4072 → dev.val ≠ devId s.dev →
      (∀ bs, (routeLink s.dev dev.val).any (fun k => slvState s.dev k == 3) = true → ans = some bs →
        serves (.slvForward rq (BitVec.ofNat 8 dev.val) inner ans) s rq 0x0B04 ([BitVec.ofNat 8 dev.val, 0, 0, 0] ++ inner) 0 (bs.take 4076) s.dev) ∧
      ((routeLink s.dev dev.val).any (fun k => slvState s.dev k == 3) = false ∨ ans = none →
        serves (.slvForward rq (BitVec.ofNat 8 dev.val) inner ans) s rq 0x0B04 ([BitVec.ofNat 8 dev.val, 0, 0, 0] ++ inner) stHwFault [5, 0, 0, 0] s.dev)) ∧
    (∀ (inner bs : List Byte) (ans : Option (List Byte)) (st : Nat) (d : Device), s.dev.admits rq 0x0B04 x → 1 ≤ inner.length → inner.length ≤ 4072 →
      packetReply 8 rq.carrier inner s.dev = ((st, bs), d) → st ≠ waits → st ≠ stOk → st ≠ stAccepted →
      serves (.slvForward rq (BitVec.ofNat 8 (devId s.dev)) inner ans) s rq 0x0B04 ([BitVec.ofNat 8 (devId s.dev), 0, 0, 0] ++ inner) 0 (bs.take 4076) d)

/-! ### Selvedge -/

/-- R578 to R583, R585 to R587: where the commands of a link between devices complete, and what they leave. -/
def Obligations.SelvedgeCompletes : Prop :=
  ∀ (s : State) (n : Fin 8), tabWf regDefault s.dev.regs = true → tabWf linkReset s.dev.slv.links = true →
    (∀ v : BitVec 32, fieldOf v 29 3 = 0 →
      (slvEn s.dev n.val = false → fieldOf v 28 1 = 1 → ∃ t, exec (.linkEnable n v) s = .next t ∧ slvEn t.dev n.val = true ∧
        slvState t.dev n.val = 1 ∧ t.dev.fld (slvStat n.val) 16 2 = 0) ∧
      (slvEn s.dev n.val = true → slvState s.dev n.val ≠ 3 → fieldOf v 28 1 = 0 → ∃ t, exec (.linkEnable n v) s = .next t ∧
        slvEn t.dev n.val = false ∧ slvState t.dev n.val = 0 ∧ (t.dev.slvLink n.val).lanesUsed = [])) ∧
    -- R578, R579: training and negotiation
    (∀ ls k, ls = (slvLanes s.dev n.val).filter (fun l => s.dev.bit (laneStat l) 30) → k = ls.length / 4 * 4 → slvState s.dev n.val = 1 →
      (4 ≤ k → ∃ t, exec (.linkTrainingDone n) s = .next t ∧ slvState t.dev n.val = 2 ∧ (t.dev.slvLink n.val).lanesUsed = ls.take k ∧
        t.dev.fld (slvStat n.val) 19 5 = k % 32) ∧
      (k < 4 → ∃ t, exec (.linkTrainingDone n) s = .next t ∧ slvState t.dev n.val = 4 ∧ t.dev.fld (slvStat n.val) 16 2 = 1)) ∧
    (slvState s.dev n.val = 2 →
      (∀ (p : BitVec 3) (v : BitVec 2), p.toNat ≠ devId s.dev → ∃ t, exec (.linkNegotiate n p v) s = .next t ∧ slvState t.dev n.val = 3 ∧
        t.dev.fld (slvStat n.val) 24 3 = p.toNat ∧ t.dev.fld (slvStat n.val) 27 2 = Nat.min (s.dev.fld (slvCtl n.val) 23 2) (Nat.max v.toNat 1)) ∧
      (∀ (p : BitVec 3) (v : BitVec 2), p.toNat = devId s.dev → ∃ t, exec (.linkNegotiate n p v) s = .next t ∧ slvState t.dev n.val = 4 ∧
        t.dev.fld (slvStat n.val) 16 2 = 2) ∧
      (∃ t, exec (.negotiationTimeout n) s = .next t ∧ slvState t.dev n.val = 4 ∧ t.dev.fld (slvStat n.val) 16 2 = 3)) ∧
    (slvState s.dev n.val ≠ 2 → exec (.negotiationTimeout n) s = .next s) ∧
    (slvState s.dev n.val = 4 → slvEn s.dev n.val = true → ∃ t, exec (.linkRetry n) s = .next t ∧ slvState t.dev n.val = 1 ∧
      t.dev.fld (slvStat n.val) 16 2 = 0) ∧
    (∀ mc : MClass, mc.val ≠ 3 → gives (.linkRetrain n mc) s (s.dev.answer 8 []) ∧ ∀ v, gives (.routeWrite v mc) s (s.dev.answer 8 [])) ∧
    (∀ v : BitVec 32, gives (.routeWrite v 3) s ((s.dev.setReg (thmA 0x2600) v).answer 0 [])) ∧
    (slvState s.dev n.val ≠ 3 → gives (.linkRetrain n 3) s (s.dev.answer 0 []) ∧
      (∀ rt p, exec (.selvedgeTimeMessage n rt p) s = .next s) ∧ (∀ hd bs po k, exec (.selvedgePacket n hd ⟨bs, po⟩ k) s = .next s) ∧
      (∀ ls c, gives (.linkLeavesUp n ⟨ls, c⟩) s (s.dev.updated s.dev))) ∧
    -- R580, R585: a link that leaves Up
    (slvState s.dev n.val = 3 → s.dev.net.outst = [] → (∀ h m, m < 8 → h ∈ s.dev.leaders → refSrc s.dev m ≠ n.val) →
      (∃ t, exec (.linkRetrain n 3) s = .next t ∧ t.dev.rsp.status = 0 ∧ slvState t.dev n.val = 1) ∧
      (∃ t, exec (.linkLeavesUp n ⟨[], none⟩) s = .next t ∧ slvState t.dev n.val = (if slvEn s.dev n.val then 1 else 0) ∧
        t.dev.bit (slvStat n.val) 0 = true ∧ t.dev.fld (slvStat n.val) 27 2 = 0)) ∧
    -- R585 step 2: the packet of which only the first flits came is completed first
    (∀ (ls : List (Fin 144)) (c : CutPacket) (d : Device), slvState s.dev n.val = 3 → d = slvCutPacket n.val c s.dev → slvState d n.val = 3 →
      gives (.linkLeavesUp n ⟨ls, some c⟩) s (s.dev.updated (slvLost n.val (ls.map (fun l => l.val)) none d))) ∧
    -- R581, R582: an arriving packet is for this device, in transit, or refused
    (∀ (hd : Header) (bs : List Byte) (po : List Nat) (k : Nat) (p : Nat × Nat), slvState s.dev n.val = 3 → p = attPlace (.slv n.val) →
      (hd.dstDev.val = devId s.dev → isRequest hd = false → gives (.selvedgePacket n hd ⟨bs, po⟩ k) s (injectHops p hd bs po k s.dev)) ∧
      (hd.dstDev.val = devId s.dev → isRequest hd = true → (8 < hd.mclass.val ∨ s.dev.bit (slvCtl n.val) hd.mclass.val = false) →
        gives (.selvedgePacket n hd ⟨bs, po⟩ k) s (answerFrom p hd 8 [] [] (s.dev.setBit (slvStat n.val) 1))) ∧
      (hd.dstDev.val = devId s.dev → isRequest hd = true → hd.mclass.val ≤ 8 → s.dev.bit (slvCtl n.val) hd.mclass.val = true →
        gives (.selvedgePacket n hd ⟨bs, po⟩ k) s (slvLocal n.val hd bs po k s.dev)) ∧
      (∀ m, hd.dstDev.val ≠ devId s.dev → s.dev.bit (thmA 0x2604) 0 = true → s.dev.fld (slvStat n.val) 27 2 = 3 → k < 7 →
        routeLink s.dev hd.dstDev.val = some m → slvState s.dev m = 3 → s.dev.fld (slvStat m) 27 2 = 3 →
        gives (.selvedgePacket n hd ⟨bs, po⟩ k) s (injectHops p hd bs po (k + 1) s.dev)) ∧
      (hd.dstDev.val ≠ devId s.dev → (7 ≤ k ∨ s.dev.bit (thmA 0x2604) 0 = false) → isRequest hd = false →
        gives (.selvedgePacket n hd ⟨bs, po⟩ k) s (s.dev.setBit (slvStat n.val) 2)) ∧
      (hd.dstDev.val ≠ devId s.dev → (7 ≤ k ∨ s.dev.bit (thmA 0x2604) 0 = false) → isRequest hd = true →
        gives (.selvedgePacket n hd ⟨bs, po⟩ k) s (answerFrom p hd 5 [] [] (s.dev.setBit (slvStat n.val) 2)))) ∧
    -- R583
    (∀ rt : Nat, slvState s.dev n.val = 3 → ∃ t, exec (.selvedgeTimeMessage n rt none) s = .next t ∧
      t.dev.reg (slvA n.val 8) = BitVec.ofNat 32 (rt / 2) ∧ ∀ a, a ≠ slvA n.val 8 → t.dev.reg a = s.dev.reg a)
end

