-- ==== Sys2Proof/Laws/Bits.lean ====
section
/-!
SUPPORT. Laws/Bits.lean: the laws of bit fields: what a field reads after a field of the same word is written.
-/
namespace Sys2Proof.Machine

theorem bitsAt_eq (x lo n : Nat) : bitsAt x lo n = x / 2 ^ lo % 2 ^ n := by
  simp [bitsAt, Nat.shiftRight_eq_div_pow]

/-- The three parts of a word around a field. -/
theorem putBits_lt (x lo n v w : Nat) (hx : x < 2 ^ w) (hw : lo + n ≤ w) : putBits x lo n v < 2 ^ w := by
  unfold putBits
  have h1 : x % 2 ^ lo < 2 ^ lo := Nat.mod_lt _ (Nat.two_pow_pos _)
  have h2 : v % 2 ^ n < 2 ^ n := Nat.mod_lt _ (Nat.two_pow_pos _)
  have hp : 2 ^ w = 2 ^ (lo + n) * 2 ^ (w - (lo + n)) := by rw [← Nat.pow_add]; congr 1; omega
  have h3 : x / 2 ^ (lo + n) < 2 ^ (w - (lo + n)) := by
    apply Nat.div_lt_of_lt_mul
    rw [← hp]; exact hx
  have h4 : x % 2 ^ lo + v % 2 ^ n * 2 ^ lo < 2 ^ (lo + n) := by
    have : (v % 2 ^ n + 1) * 2 ^ lo ≤ 2 ^ n * 2 ^ lo := Nat.mul_le_mul_right _ h2
    rw [Nat.pow_add, Nat.mul_comm (2 ^ lo)]
    rw [Nat.add_mul] at this
    omega
  have h5 : (x / 2 ^ (lo + n) + 1) * 2 ^ (lo + n) ≤ 2 ^ (w - (lo + n)) * 2 ^ (lo + n) := Nat.mul_le_mul_right _ h3
  rw [hp, Nat.mul_comm (2 ^ (lo + n))]
  rw [Nat.add_mul] at h5
  omega

/-- Bits of a sum of a low part, a field and a high part. -/
theorem putBits_same (x lo n v : Nat) : bitsAt (putBits x lo n v) lo n = v % 2 ^ n := by
  rw [bitsAt_eq]
  unfold putBits
  have h1 : x % 2 ^ lo < 2 ^ lo := Nat.mod_lt _ (Nat.two_pow_pos _)
  have e : x % 2 ^ lo + v % 2 ^ n * 2 ^ lo + x / 2 ^ (lo + n) * 2 ^ (lo + n)
      = x % 2 ^ lo + 2 ^ lo * (v % 2 ^ n + 2 ^ n * (x / 2 ^ (lo + n))) := by
    rw [Nat.pow_add]; ring
  rw [e, Nat.add_mul_div_left _ _ (Nat.two_pow_pos _), Nat.div_eq_of_lt h1, Nat.zero_add, Nat.add_mul_mod_self_left]
  exact Nat.mod_mod _ _

/-- A field below the written one. -/
theorem putBits_below (x lo n v lo' n' : Nat) (h : lo' + n' ≤ lo) : bitsAt (putBits x lo n v) lo' n' = bitsAt x lo' n' := by
  rw [bitsAt_eq, bitsAt_eq]
  unfold putBits
  have hp : 2 ^ lo = 2 ^ lo' * (2 ^ n' * 2 ^ (lo - lo' - n')) := by rw [← Nat.pow_add, ← Nat.pow_add]; congr 1; omega
  have e : x % 2 ^ lo + v % 2 ^ n * 2 ^ lo + x / 2 ^ (lo + n) * 2 ^ (lo + n)
      = x + 2 ^ lo' * (2 ^ n' * (2 ^ (lo - lo' - n') * (v % 2 ^ n)))
        - 2 ^ lo' * (2 ^ n' * (2 ^ (lo - lo' - n') * (x / 2 ^ lo % 2 ^ n))) := by
    have hx := Nat.div_add_mod x (2 ^ lo)
    have hq := Nat.div_add_mod (x / 2 ^ lo) (2 ^ n)
    rw [Nat.div_div_eq_div_mul, ← Nat.pow_add] at hq
    have e1 : 2 ^ lo' * (2 ^ n' * (2 ^ (lo - lo' - n') * (v % 2 ^ n))) = v % 2 ^ n * 2 ^ lo := by rw [hp]; ring
    have e2 : 2 ^ lo' * (2 ^ n' * (2 ^ (lo - lo' - n') * (x / 2 ^ lo % 2 ^ n))) = x / 2 ^ lo % 2 ^ n * 2 ^ lo := by rw [hp]; ring
    rw [e1, e2]
    have e3 : x = x % 2 ^ lo + (x / 2 ^ lo % 2 ^ n) * 2 ^ lo + x / 2 ^ (lo + n) * 2 ^ (lo + n) := by
      rw [Nat.pow_add]
      calc x = 2 ^ lo * (x / 2 ^ lo) + x % 2 ^ lo := hx.symm
        _ = 2 ^ lo * (2 ^ n * (x / 2 ^ (lo + n)) + x / 2 ^ lo % 2 ^ n) + x % 2 ^ lo := by rw [hq]
        _ = _ := by rw [Nat.pow_add]; ring
    omega
  have key : ∀ y z : Nat, 2 ^ lo' * (2 ^ n' * z) ≤ y → (y - 2 ^ lo' * (2 ^ n' * z)) / 2 ^ lo' % 2 ^ n' = y / 2 ^ lo' % 2 ^ n' := by
    intro y z hz
    obtain ⟨k, rfl⟩ := Nat.exists_eq_add_of_le hz
    rw [Nat.add_sub_cancel_left, Nat.add_comm (2 ^ lo' * _), Nat.add_mul_div_left _ _ (Nat.two_pow_pos _),
      Nat.add_mul_mod_self_left]
  have hle : 2 ^ lo' * (2 ^ n' * (2 ^ (lo - lo' - n') * (x / 2 ^ lo % 2 ^ n)))
      ≤ x + 2 ^ lo' * (2 ^ n' * (2 ^ (lo - lo' - n') * (v % 2 ^ n))) := by
    have e2 : 2 ^ lo' * (2 ^ n' * (2 ^ (lo - lo' - n') * (x / 2 ^ lo % 2 ^ n))) = x / 2 ^ lo % 2 ^ n * 2 ^ lo := by rw [hp]; ring
    rw [e2]
    have := Nat.mod_le (x / 2 ^ lo) (2 ^ n)
    have h3 := Nat.mul_le_mul_right (2 ^ lo) this
    have h4 := Nat.div_mul_le_self x (2 ^ lo)
    omega
  rw [e, key _ _ hle, Nat.add_mul_div_left _ _ (Nat.two_pow_pos _), Nat.add_mul_mod_self_left]

/-- A field above the written one. -/
theorem putBits_above (x lo n v lo' n' : Nat) (h : lo + n ≤ lo') : bitsAt (putBits x lo n v) lo' n' = bitsAt x lo' n' := by
  rw [bitsAt_eq, bitsAt_eq]
  unfold putBits
  have h1 : x % 2 ^ lo < 2 ^ lo := Nat.mod_lt _ (Nat.two_pow_pos _)
  have h2 : v % 2 ^ n < 2 ^ n := Nat.mod_lt _ (Nat.two_pow_pos _)
  have h4 : x % 2 ^ lo + v % 2 ^ n * 2 ^ lo < 2 ^ (lo + n) := by
    have : (v % 2 ^ n + 1) * 2 ^ lo ≤ 2 ^ n * 2 ^ lo := Nat.mul_le_mul_right _ h2
    rw [Nat.pow_add, Nat.mul_comm (2 ^ lo)]
    rw [Nat.add_mul] at this
    omega
  have hp : 2 ^ lo' = 2 ^ (lo + n) * 2 ^ (lo' - (lo + n)) := by rw [← Nat.pow_add]; congr 1; omega
  rw [hp, ← Nat.div_div_eq_div_mul, ← Nat.div_div_eq_div_mul, Nat.mul_comm (x / 2 ^ (lo + n)),
    Nat.add_mul_div_left _ _ (Nat.two_pow_pos _), Nat.div_eq_of_lt h4, Nat.zero_add]

theorem withField_toNat (w : Word) (lo n v : Nat) (h : lo + n ≤ 32) : (withField w lo n v).toNat = putBits w.toNat lo n v := by
  unfold withField
  rw [BitVec.toNat_ofNat]
  exact Nat.mod_eq_of_lt (putBits_lt _ _ _ _ _ w.isLt h)

/-- The written field reads what was written, cut to its width. -/
theorem fieldOf_withField_same (w : Word) (lo n v : Nat) (h : lo + n ≤ 32) : fieldOf (withField w lo n v) lo n = v % 2 ^ n := by
  rw [fieldOf, withField_toNat w lo n v h, putBits_same]

/-- A field that shares no bit with the written one reads as before. -/
theorem fieldOf_withField_ne (w : Word) (lo n v lo' n' : Nat) (h : lo + n ≤ 32) (hd : lo + n ≤ lo' ∨ lo' + n' ≤ lo) :
    fieldOf (withField w lo n v) lo' n' = fieldOf w lo' n' := by
  rw [fieldOf, withField_toNat w lo n v h]
  rcases hd with hd | hd
  · exact putBits_above _ _ _ _ _ _ hd
  · exact putBits_below _ _ _ _ _ _ hd

end Sys2Proof.Machine
end

