-- ==== Sys2Proof/Laws/Tab.lean ====
section
/-!
SUPPORT. Laws/Tab.lean: the laws of sparse tables and of byte memories: what a read gives after a write, and that every
operation keeps the canonical form.
-/
namespace Sys2Proof.Machine

variable {α : Type} [DecidableEq α] (df : Nat → α)

omit [DecidableEq α] in
theorem tabAbove_mono {lo lo' : Nat} (t : Tab α) (h : lo' ≤ lo) (ht : tabAbove lo t = true) : tabAbove lo' t = true := by
  cases t with
  | nil => rfl
  | cons p t => simp [tabAbove] at *; omega

/-- An unlisted key below the first one reads the default. -/
theorem tabGet_above (t : Tab α) (k : Nat) (hw : tabWf df t = true) (ha : tabAbove k t = true) : tabGet df t k = df k := by
  induction t with
  | nil => rfl
  | cons p t ih =>
    obtain ⟨k', v⟩ := p
    simp only [tabAbove, decide_eq_true_eq] at ha
    simp only [tabWf, Bool.and_eq_true, decide_eq_true_eq] at hw
    have hne : ¬ k' = k := by omega
    simp only [tabGet, hne, if_false]
    exact ih hw.2 (tabAbove_mono t (Nat.le_of_lt ha) hw.1.2)

/-- A read at the written key gives the value written. -/
theorem tabGet_tabSet_same (t : Tab α) (k : Nat) (v : α) (hw : tabWf df t = true) : tabGet df (tabSet df t k v) k = v := by
  induction t with
  | nil => by_cases h : v = df k <;> simp [tabSet, tabGet, h]
  | cons p t ih =>
    obtain ⟨k', v'⟩ := p
    have hw' := hw
    simp only [tabWf, Bool.and_eq_true, decide_eq_true_eq] at hw
    simp only [tabSet]
    by_cases h1 : k < k'
    · by_cases h2 : v = df k
      · simp only [h1, h2, if_true]
        exact tabGet_above df _ k hw' (by simp [tabAbove, h1])
      · simp [h1, h2, tabGet]
    · by_cases h3 : k = k'
      · subst h3
        by_cases h2 : v = df k
        · simp only [h1, if_false, if_true, h2]
          exact tabGet_above df _ k hw.2 hw.1.2
        · simp [h2, tabGet]
      · have h4 : ¬ k' = k := fun h => h3 h.symm
        simp only [h1, h3, if_false, tabGet, h4]
        exact ih hw.2

/-- A read at another key gives what it gave before. -/
theorem tabGet_tabSet_ne (t : Tab α) (k j : Nat) (v : α) (hj : j ≠ k) (hw : tabWf df t = true) :
    tabGet df (tabSet df t k v) j = tabGet df t j := by
  induction t with
  | nil =>
    have hk : ¬ k = j := fun h => hj h.symm
    by_cases h : v = df k <;> simp [tabSet, tabGet, h, hk]
  | cons p t ih =>
    obtain ⟨k', v'⟩ := p
    simp only [tabWf, Bool.and_eq_true, decide_eq_true_eq] at hw
    have hk : ¬ k = j := fun h => hj h.symm
    simp only [tabSet]
    by_cases h1 : k < k'
    · by_cases h2 : v = df k
      · simp [h1, h2]
      · simp [h1, h2, tabGet, hk]
    · by_cases h3 : k = k'
      · subst h3
        by_cases h2 : v = df k
        · simp [h2, tabGet, hk]
        · simp [h2, tabGet, hk]
      · simp only [h1, h3, if_false, tabGet]
        rw [ih hw.2]

theorem tabAbove_tabSet (t : Tab α) (lo k : Nat) (v : α) (hk : lo < k) (hw : tabWf df t = true)
    (ht : tabAbove lo t = true) : tabAbove lo (tabSet df t k v) = true := by
  cases t with
  | nil => by_cases h : v = df k <;> simp [tabSet, tabAbove, h, hk]
  | cons p t =>
    obtain ⟨k', v'⟩ := p
    simp only [tabAbove, decide_eq_true_eq] at ht
    simp only [tabWf, Bool.and_eq_true, decide_eq_true_eq] at hw
    simp only [tabSet]
    by_cases h1 : k < k'
    · by_cases h2 : v = df k <;> simp [h1, h2, tabAbove, hk, ht]
    · by_cases h3 : k = k'
      · subst h3
        by_cases h2 : v = df k
        · simp only [h1, if_false, if_true, h2]
          exact tabAbove_mono t (Nat.le_of_lt hk) hw.1.2
        · simp [h2, tabAbove, hk]
      · simp [h1, h3, tabAbove, ht]

/-- A write keeps the canonical form. -/
theorem tabWf_tabSet (t : Tab α) (k : Nat) (v : α) (hw : tabWf df t = true) : tabWf df (tabSet df t k v) = true := by
  induction t with
  | nil => by_cases h : v = df k <;> simp [tabSet, tabWf, tabAbove, h]
  | cons p t ih =>
    obtain ⟨k', v'⟩ := p
    have hw' := hw
    simp only [tabWf, Bool.and_eq_true, decide_eq_true_eq] at hw
    simp only [tabSet]
    by_cases h1 : k < k'
    · by_cases h2 : v = df k
      · simp only [h1, if_true, h2]
        exact hw'
      · simp only [h1, if_true, h2, if_false, tabWf, Bool.and_eq_true, decide_eq_true_eq]
        exact ⟨⟨h2, by simp [tabAbove, h1]⟩, hw⟩
    · by_cases h3 : k = k'
      · subst h3
        by_cases h2 : v = df k
        · simp [h2, hw.2]
        · simp [h2, tabWf, hw.1.2, hw.2]
      · simp only [h1, h3, if_false, tabWf, Bool.and_eq_true, decide_eq_true_eq]
        exact ⟨⟨hw.1.1, tabAbove_tabSet df t k' k v (by omega) hw.2 hw.1.2⟩, ih hw.2⟩

/-- Changing one key keeps the canonical form. -/
theorem tabWf_tabMod (t : Tab α) (k : Nat) (f : α → α) (hw : tabWf df t = true) : tabWf df (tabMod df t k f) = true :=
  tabWf_tabSet df t k _ hw

omit [DecidableEq α] in
theorem tabAbove_of_forall (t : Tab α) (lo : Nat) (h : ∀ p ∈ t, lo < p.1) : tabAbove lo t = true := by
  cases t with
  | nil => rfl
  | cons p t =>
    obtain ⟨k, v⟩ := p
    simpa [tabAbove] using h (k, v) (by simp)

theorem tabWf_forall (t : Tab α) (lo : Nat) (hw : tabWf df t = true) (ha : tabAbove lo t = true) : ∀ p ∈ t, lo < p.1 := by
  induction t generalizing lo with
  | nil => simp
  | cons p t ih =>
    obtain ⟨k, v⟩ := p
    simp only [tabAbove, decide_eq_true_eq] at ha
    simp only [tabWf, Bool.and_eq_true, decide_eq_true_eq] at hw
    intro q hq
    rcases List.mem_cons.1 hq with rfl | hq
    · exact ha
    · exact Nat.lt_trans ha (ih k hw.2 hw.1.2 q hq)

/-- Forgetting keys keeps the canonical form. -/
theorem tabWf_tabDrop (p : Nat → Bool) (t : Tab α) (hw : tabWf df t = true) : tabWf df (tabDrop p t) = true := by
  induction t with
  | nil => rfl
  | cons q t ih =>
    obtain ⟨k, v⟩ := q
    have hw' := hw
    simp only [tabWf, Bool.and_eq_true, decide_eq_true_eq] at hw
    have ih' := ih hw.2
    simp only [tabDrop] at ih' ⊢
    by_cases hp : p k = true
    · simpa [List.filter_cons, hp] using ih'
    · have hp' : p k = false := by simpa using hp
      simp only [List.filter_cons, hp', Bool.not_false, if_true, tabWf, Bool.and_eq_true, decide_eq_true_eq]
      refine ⟨⟨hw.1.1, tabAbove_of_forall _ _ ?_⟩, ih'⟩
      intro q hq
      exact tabWf_forall df t k hw.2 hw.1.2 q (List.mem_filter.1 hq).1

/-! ### Byte memories -/

theorem memRead_memWrite_same (m : Memory) (a : Nat) (b : Byte) (hw : m.wf = true) : memRead (memWrite m a b) a = b :=
  tabGet_tabSet_same memDefault m a b hw

theorem memRead_memWrite_ne (m : Memory) (a c : Nat) (b : Byte) (hc : c ≠ a) (hw : m.wf = true) :
    memRead (memWrite m a b) c = memRead m c :=
  tabGet_tabSet_ne memDefault m a c b hc hw

theorem memWrite_wf (m : Memory) (a : Nat) (b : Byte) (hw : m.wf = true) : (memWrite m a b).wf = true :=
  tabWf_tabSet memDefault m a b hw

/-- Writing bytes keeps the canonical form. -/
theorem memWrites_wf (m : Memory) (a : Nat) (bs : List Byte) (hw : m.wf = true) : (memWrites m a bs).wf = true := by
  induction bs generalizing m a with
  | nil => exact hw
  | cons b bs ih => exact ih _ _ (memWrite_wf m a b hw)

/-- A byte outside the written ones reads as before. -/
theorem memRead_memWrites_outside (m : Memory) (a c : Nat) (bs : List Byte) (hw : m.wf = true)
    (hc : c < a ∨ a + bs.length ≤ c) : memRead (memWrites m a bs) c = memRead m c := by
  induction bs generalizing m a with
  | nil => rfl
  | cons b bs ih =>
    simp only [List.length_cons] at hc
    rw [memWrites, ih _ _ (memWrite_wf m a b hw) (by omega), memRead_memWrite_ne m a c b (by omega) hw]

/-- The written bytes read back. -/
theorem memReads_memWrites (m : Memory) (a : Nat) (bs : List Byte) (hw : m.wf = true) :
    memReads (memWrites m a bs) a bs.length = bs := by
  induction bs generalizing m a with
  | nil => rfl
  | cons b bs ih =>
    rw [memWrites, List.length_cons, memReads, ih _ _ (memWrite_wf m a b hw),
      memRead_memWrites_outside _ _ _ _ (memWrite_wf m a b hw) (by omega), memRead_memWrite_same m a b hw]

end Sys2Proof.Machine
end

