-- ==== Sys2Proof/Laws/State.lean ====
section
/-!
SUPPORT. Laws/State.lean: one lemma for each field of the device and each named update of Machine/Ops.lean, and what a
register or a field reads after a register was written.
-/
namespace Sys2Proof.Machine

@[simp] theorem State.lift_eq (s : State) (f : Device → Device) : s.lift f = .next { s with dev := f s.dev } := rfl

@[simp] theorem Device.setReg_fresh (d : Device) (a : Nat) (v : Word) : (d.setReg a v).fresh = d.fresh := rfl
@[simp] theorem Device.setReg_sys (d : Device) (a : Nat) (v : Word) : (d.setReg a v).sys = d.sys := rfl
@[simp] theorem Device.setReg_log (d : Device) (a : Nat) (v : Word) : (d.setReg a v).log = d.log := rfl
@[simp] theorem Device.setReg_fab (d : Device) (a : Nat) (v : Word) : (d.setReg a v).fab = d.fab := rfl
@[simp] theorem Device.setReg_bram (d : Device) (a : Nat) (v : Word) : (d.setReg a v).bram = d.bram := rfl
@[simp] theorem Device.setReg_clv (d : Device) (a : Nat) (v : Word) : (d.setReg a v).clv = d.clv := rfl
@[simp] theorem Device.setReg_net (d : Device) (a : Nat) (v : Word) : (d.setReg a v).net = d.net := rfl
@[simp] theorem Device.setReg_time (d : Device) (a : Nat) (v : Word) : (d.setReg a v).time = d.time := rfl
@[simp] theorem Device.setReg_clk (d : Device) (a : Nat) (v : Word) : (d.setReg a v).clk = d.clk := rfl
@[simp] theorem Device.setReg_pwr (d : Device) (a : Nat) (v : Word) : (d.setReg a v).pwr = d.pwr := rfl
@[simp] theorem Device.setReg_mend (d : Device) (a : Nat) (v : Word) : (d.setReg a v).mend = d.mend := rfl
@[simp] theorem Device.setReg_load (d : Device) (a : Nat) (v : Word) : (d.setReg a v).load = d.load := rfl
@[simp] theorem Device.setReg_seam (d : Device) (a : Nat) (v : Word) : (d.setReg a v).seam = d.seam := rfl
@[simp] theorem Device.setReg_lanes (d : Device) (a : Nat) (v : Word) : (d.setReg a v).lanes = d.lanes := rfl
@[simp] theorem Device.setReg_eth (d : Device) (a : Nat) (v : Word) : (d.setReg a v).eth = d.eth := rfl
@[simp] theorem Device.setReg_host (d : Device) (a : Nat) (v : Word) : (d.setReg a v).host = d.host := rfl
@[simp] theorem Device.setReg_jesd (d : Device) (a : Nat) (v : Word) : (d.setReg a v).jesd = d.jesd := rfl
@[simp] theorem Device.setReg_mem (d : Device) (a : Nat) (v : Word) : (d.setReg a v).mem = d.mem := rfl
@[simp] theorem Device.setReg_sht (d : Device) (a : Nat) (v : Word) : (d.setReg a v).sht = d.sht := rfl
@[simp] theorem Device.setReg_pins (d : Device) (a : Nat) (v : Word) : (d.setReg a v).pins = d.pins := rfl
@[simp] theorem Device.setReg_bob (d : Device) (a : Nat) (v : Word) : (d.setReg a v).bob = d.bob := rfl
@[simp] theorem Device.setReg_cmd (d : Device) (a : Nat) (v : Word) : (d.setReg a v).cmd = d.cmd := rfl
@[simp] theorem Device.setReg_slv (d : Device) (a : Nat) (v : Word) : (d.setReg a v).slv = d.slv := rfl
@[simp] theorem Device.setReg_rsp (d : Device) (a : Nat) (v : Word) : (d.setReg a v).rsp = d.rsp := rfl

@[simp] theorem Device.setFld_fresh (d : Device) (a lo n v : Nat) : (d.setFld a lo n v).fresh = d.fresh := rfl
@[simp] theorem Device.setFld_sys (d : Device) (a lo n v : Nat) : (d.setFld a lo n v).sys = d.sys := rfl
@[simp] theorem Device.setFld_log (d : Device) (a lo n v : Nat) : (d.setFld a lo n v).log = d.log := rfl
@[simp] theorem Device.setFld_fab (d : Device) (a lo n v : Nat) : (d.setFld a lo n v).fab = d.fab := rfl
@[simp] theorem Device.setFld_bram (d : Device) (a lo n v : Nat) : (d.setFld a lo n v).bram = d.bram := rfl
@[simp] theorem Device.setFld_clv (d : Device) (a lo n v : Nat) : (d.setFld a lo n v).clv = d.clv := rfl
@[simp] theorem Device.setFld_net (d : Device) (a lo n v : Nat) : (d.setFld a lo n v).net = d.net := rfl
@[simp] theorem Device.setFld_time (d : Device) (a lo n v : Nat) : (d.setFld a lo n v).time = d.time := rfl
@[simp] theorem Device.setFld_clk (d : Device) (a lo n v : Nat) : (d.setFld a lo n v).clk = d.clk := rfl
@[simp] theorem Device.setFld_pwr (d : Device) (a lo n v : Nat) : (d.setFld a lo n v).pwr = d.pwr := rfl
@[simp] theorem Device.setFld_mend (d : Device) (a lo n v : Nat) : (d.setFld a lo n v).mend = d.mend := rfl
@[simp] theorem Device.setFld_load (d : Device) (a lo n v : Nat) : (d.setFld a lo n v).load = d.load := rfl
@[simp] theorem Device.setFld_seam (d : Device) (a lo n v : Nat) : (d.setFld a lo n v).seam = d.seam := rfl
@[simp] theorem Device.setFld_lanes (d : Device) (a lo n v : Nat) : (d.setFld a lo n v).lanes = d.lanes := rfl
@[simp] theorem Device.setFld_eth (d : Device) (a lo n v : Nat) : (d.setFld a lo n v).eth = d.eth := rfl
@[simp] theorem Device.setFld_host (d : Device) (a lo n v : Nat) : (d.setFld a lo n v).host = d.host := rfl
@[simp] theorem Device.setFld_jesd (d : Device) (a lo n v : Nat) : (d.setFld a lo n v).jesd = d.jesd := rfl
@[simp] theorem Device.setFld_mem (d : Device) (a lo n v : Nat) : (d.setFld a lo n v).mem = d.mem := rfl
@[simp] theorem Device.setFld_sht (d : Device) (a lo n v : Nat) : (d.setFld a lo n v).sht = d.sht := rfl
@[simp] theorem Device.setFld_pins (d : Device) (a lo n v : Nat) : (d.setFld a lo n v).pins = d.pins := rfl
@[simp] theorem Device.setFld_bob (d : Device) (a lo n v : Nat) : (d.setFld a lo n v).bob = d.bob := rfl
@[simp] theorem Device.setFld_cmd (d : Device) (a lo n v : Nat) : (d.setFld a lo n v).cmd = d.cmd := rfl
@[simp] theorem Device.setFld_slv (d : Device) (a lo n v : Nat) : (d.setFld a lo n v).slv = d.slv := rfl
@[simp] theorem Device.setFld_rsp (d : Device) (a lo n v : Nat) : (d.setFld a lo n v).rsp = d.rsp := rfl

@[simp] theorem Device.putBit_fresh (d : Device) (a k : Nat) (b : Bool) : (d.putBit a k b).fresh = d.fresh := rfl
@[simp] theorem Device.putBit_sys (d : Device) (a k : Nat) (b : Bool) : (d.putBit a k b).sys = d.sys := rfl
@[simp] theorem Device.putBit_log (d : Device) (a k : Nat) (b : Bool) : (d.putBit a k b).log = d.log := rfl
@[simp] theorem Device.putBit_fab (d : Device) (a k : Nat) (b : Bool) : (d.putBit a k b).fab = d.fab := rfl
@[simp] theorem Device.putBit_bram (d : Device) (a k : Nat) (b : Bool) : (d.putBit a k b).bram = d.bram := rfl
@[simp] theorem Device.putBit_clv (d : Device) (a k : Nat) (b : Bool) : (d.putBit a k b).clv = d.clv := rfl
@[simp] theorem Device.putBit_net (d : Device) (a k : Nat) (b : Bool) : (d.putBit a k b).net = d.net := rfl
@[simp] theorem Device.putBit_time (d : Device) (a k : Nat) (b : Bool) : (d.putBit a k b).time = d.time := rfl
@[simp] theorem Device.putBit_clk (d : Device) (a k : Nat) (b : Bool) : (d.putBit a k b).clk = d.clk := rfl
@[simp] theorem Device.putBit_pwr (d : Device) (a k : Nat) (b : Bool) : (d.putBit a k b).pwr = d.pwr := rfl
@[simp] theorem Device.putBit_mend (d : Device) (a k : Nat) (b : Bool) : (d.putBit a k b).mend = d.mend := rfl
@[simp] theorem Device.putBit_load (d : Device) (a k : Nat) (b : Bool) : (d.putBit a k b).load = d.load := rfl
@[simp] theorem Device.putBit_seam (d : Device) (a k : Nat) (b : Bool) : (d.putBit a k b).seam = d.seam := rfl
@[simp] theorem Device.putBit_lanes (d : Device) (a k : Nat) (b : Bool) : (d.putBit a k b).lanes = d.lanes := rfl
@[simp] theorem Device.putBit_eth (d : Device) (a k : Nat) (b : Bool) : (d.putBit a k b).eth = d.eth := rfl
@[simp] theorem Device.putBit_host (d : Device) (a k : Nat) (b : Bool) : (d.putBit a k b).host = d.host := rfl
@[simp] theorem Device.putBit_jesd (d : Device) (a k : Nat) (b : Bool) : (d.putBit a k b).jesd = d.jesd := rfl
@[simp] theorem Device.putBit_mem (d : Device) (a k : Nat) (b : Bool) : (d.putBit a k b).mem = d.mem := rfl
@[simp] theorem Device.putBit_sht (d : Device) (a k : Nat) (b : Bool) : (d.putBit a k b).sht = d.sht := rfl
@[simp] theorem Device.putBit_pins (d : Device) (a k : Nat) (b : Bool) : (d.putBit a k b).pins = d.pins := rfl
@[simp] theorem Device.putBit_bob (d : Device) (a k : Nat) (b : Bool) : (d.putBit a k b).bob = d.bob := rfl
@[simp] theorem Device.putBit_cmd (d : Device) (a k : Nat) (b : Bool) : (d.putBit a k b).cmd = d.cmd := rfl
@[simp] theorem Device.putBit_slv (d : Device) (a k : Nat) (b : Bool) : (d.putBit a k b).slv = d.slv := rfl
@[simp] theorem Device.putBit_rsp (d : Device) (a k : Nat) (b : Bool) : (d.putBit a k b).rsp = d.rsp := rfl

@[simp] theorem Device.setBit_fresh (d : Device) (a k : Nat) : (d.setBit a k).fresh = d.fresh := rfl
@[simp] theorem Device.setBit_sys (d : Device) (a k : Nat) : (d.setBit a k).sys = d.sys := rfl
@[simp] theorem Device.setBit_log (d : Device) (a k : Nat) : (d.setBit a k).log = d.log := rfl
@[simp] theorem Device.setBit_fab (d : Device) (a k : Nat) : (d.setBit a k).fab = d.fab := rfl
@[simp] theorem Device.setBit_bram (d : Device) (a k : Nat) : (d.setBit a k).bram = d.bram := rfl
@[simp] theorem Device.setBit_clv (d : Device) (a k : Nat) : (d.setBit a k).clv = d.clv := rfl
@[simp] theorem Device.setBit_net (d : Device) (a k : Nat) : (d.setBit a k).net = d.net := rfl
@[simp] theorem Device.setBit_time (d : Device) (a k : Nat) : (d.setBit a k).time = d.time := rfl
@[simp] theorem Device.setBit_clk (d : Device) (a k : Nat) : (d.setBit a k).clk = d.clk := rfl
@[simp] theorem Device.setBit_pwr (d : Device) (a k : Nat) : (d.setBit a k).pwr = d.pwr := rfl
@[simp] theorem Device.setBit_mend (d : Device) (a k : Nat) : (d.setBit a k).mend = d.mend := rfl
@[simp] theorem Device.setBit_load (d : Device) (a k : Nat) : (d.setBit a k).load = d.load := rfl
@[simp] theorem Device.setBit_seam (d : Device) (a k : Nat) : (d.setBit a k).seam = d.seam := rfl
@[simp] theorem Device.setBit_lanes (d : Device) (a k : Nat) : (d.setBit a k).lanes = d.lanes := rfl
@[simp] theorem Device.setBit_eth (d : Device) (a k : Nat) : (d.setBit a k).eth = d.eth := rfl
@[simp] theorem Device.setBit_host (d : Device) (a k : Nat) : (d.setBit a k).host = d.host := rfl
@[simp] theorem Device.setBit_jesd (d : Device) (a k : Nat) : (d.setBit a k).jesd = d.jesd := rfl
@[simp] theorem Device.setBit_mem (d : Device) (a k : Nat) : (d.setBit a k).mem = d.mem := rfl
@[simp] theorem Device.setBit_sht (d : Device) (a k : Nat) : (d.setBit a k).sht = d.sht := rfl
@[simp] theorem Device.setBit_pins (d : Device) (a k : Nat) : (d.setBit a k).pins = d.pins := rfl
@[simp] theorem Device.setBit_bob (d : Device) (a k : Nat) : (d.setBit a k).bob = d.bob := rfl
@[simp] theorem Device.setBit_cmd (d : Device) (a k : Nat) : (d.setBit a k).cmd = d.cmd := rfl
@[simp] theorem Device.setBit_slv (d : Device) (a k : Nat) : (d.setBit a k).slv = d.slv := rfl
@[simp] theorem Device.setBit_rsp (d : Device) (a k : Nat) : (d.setBit a k).rsp = d.rsp := rfl

@[simp] theorem Device.bump_fresh (d : Device) (a lo n x : Nat) : (d.bump a lo n x).fresh = d.fresh := rfl
@[simp] theorem Device.bump_sys (d : Device) (a lo n x : Nat) : (d.bump a lo n x).sys = d.sys := rfl
@[simp] theorem Device.bump_log (d : Device) (a lo n x : Nat) : (d.bump a lo n x).log = d.log := rfl
@[simp] theorem Device.bump_fab (d : Device) (a lo n x : Nat) : (d.bump a lo n x).fab = d.fab := rfl
@[simp] theorem Device.bump_bram (d : Device) (a lo n x : Nat) : (d.bump a lo n x).bram = d.bram := rfl
@[simp] theorem Device.bump_clv (d : Device) (a lo n x : Nat) : (d.bump a lo n x).clv = d.clv := rfl
@[simp] theorem Device.bump_net (d : Device) (a lo n x : Nat) : (d.bump a lo n x).net = d.net := rfl
@[simp] theorem Device.bump_time (d : Device) (a lo n x : Nat) : (d.bump a lo n x).time = d.time := rfl
@[simp] theorem Device.bump_clk (d : Device) (a lo n x : Nat) : (d.bump a lo n x).clk = d.clk := rfl
@[simp] theorem Device.bump_pwr (d : Device) (a lo n x : Nat) : (d.bump a lo n x).pwr = d.pwr := rfl
@[simp] theorem Device.bump_mend (d : Device) (a lo n x : Nat) : (d.bump a lo n x).mend = d.mend := rfl
@[simp] theorem Device.bump_load (d : Device) (a lo n x : Nat) : (d.bump a lo n x).load = d.load := rfl
@[simp] theorem Device.bump_seam (d : Device) (a lo n x : Nat) : (d.bump a lo n x).seam = d.seam := rfl
@[simp] theorem Device.bump_lanes (d : Device) (a lo n x : Nat) : (d.bump a lo n x).lanes = d.lanes := rfl
@[simp] theorem Device.bump_eth (d : Device) (a lo n x : Nat) : (d.bump a lo n x).eth = d.eth := rfl
@[simp] theorem Device.bump_host (d : Device) (a lo n x : Nat) : (d.bump a lo n x).host = d.host := rfl
@[simp] theorem Device.bump_jesd (d : Device) (a lo n x : Nat) : (d.bump a lo n x).jesd = d.jesd := rfl
@[simp] theorem Device.bump_mem (d : Device) (a lo n x : Nat) : (d.bump a lo n x).mem = d.mem := rfl
@[simp] theorem Device.bump_sht (d : Device) (a lo n x : Nat) : (d.bump a lo n x).sht = d.sht := rfl
@[simp] theorem Device.bump_pins (d : Device) (a lo n x : Nat) : (d.bump a lo n x).pins = d.pins := rfl
@[simp] theorem Device.bump_bob (d : Device) (a lo n x : Nat) : (d.bump a lo n x).bob = d.bob := rfl
@[simp] theorem Device.bump_cmd (d : Device) (a lo n x : Nat) : (d.bump a lo n x).cmd = d.cmd := rfl
@[simp] theorem Device.bump_slv (d : Device) (a lo n x : Nat) : (d.bump a lo n x).slv = d.slv := rfl
@[simp] theorem Device.bump_rsp (d : Device) (a lo n x : Nat) : (d.bump a lo n x).rsp = d.rsp := rfl

@[simp] theorem Device.bumpSat_fresh (d : Device) (a lo n x : Nat) : (d.bumpSat a lo n x).fresh = d.fresh := rfl
@[simp] theorem Device.bumpSat_sys (d : Device) (a lo n x : Nat) : (d.bumpSat a lo n x).sys = d.sys := rfl
@[simp] theorem Device.bumpSat_log (d : Device) (a lo n x : Nat) : (d.bumpSat a lo n x).log = d.log := rfl
@[simp] theorem Device.bumpSat_fab (d : Device) (a lo n x : Nat) : (d.bumpSat a lo n x).fab = d.fab := rfl
@[simp] theorem Device.bumpSat_bram (d : Device) (a lo n x : Nat) : (d.bumpSat a lo n x).bram = d.bram := rfl
@[simp] theorem Device.bumpSat_clv (d : Device) (a lo n x : Nat) : (d.bumpSat a lo n x).clv = d.clv := rfl
@[simp] theorem Device.bumpSat_net (d : Device) (a lo n x : Nat) : (d.bumpSat a lo n x).net = d.net := rfl
@[simp] theorem Device.bumpSat_time (d : Device) (a lo n x : Nat) : (d.bumpSat a lo n x).time = d.time := rfl
@[simp] theorem Device.bumpSat_clk (d : Device) (a lo n x : Nat) : (d.bumpSat a lo n x).clk = d.clk := rfl
@[simp] theorem Device.bumpSat_pwr (d : Device) (a lo n x : Nat) : (d.bumpSat a lo n x).pwr = d.pwr := rfl
@[simp] theorem Device.bumpSat_mend (d : Device) (a lo n x : Nat) : (d.bumpSat a lo n x).mend = d.mend := rfl
@[simp] theorem Device.bumpSat_load (d : Device) (a lo n x : Nat) : (d.bumpSat a lo n x).load = d.load := rfl
@[simp] theorem Device.bumpSat_seam (d : Device) (a lo n x : Nat) : (d.bumpSat a lo n x).seam = d.seam := rfl
@[simp] theorem Device.bumpSat_lanes (d : Device) (a lo n x : Nat) : (d.bumpSat a lo n x).lanes = d.lanes := rfl
@[simp] theorem Device.bumpSat_eth (d : Device) (a lo n x : Nat) : (d.bumpSat a lo n x).eth = d.eth := rfl
@[simp] theorem Device.bumpSat_host (d : Device) (a lo n x : Nat) : (d.bumpSat a lo n x).host = d.host := rfl
@[simp] theorem Device.bumpSat_jesd (d : Device) (a lo n x : Nat) : (d.bumpSat a lo n x).jesd = d.jesd := rfl
@[simp] theorem Device.bumpSat_mem (d : Device) (a lo n x : Nat) : (d.bumpSat a lo n x).mem = d.mem := rfl
@[simp] theorem Device.bumpSat_sht (d : Device) (a lo n x : Nat) : (d.bumpSat a lo n x).sht = d.sht := rfl
@[simp] theorem Device.bumpSat_pins (d : Device) (a lo n x : Nat) : (d.bumpSat a lo n x).pins = d.pins := rfl
@[simp] theorem Device.bumpSat_bob (d : Device) (a lo n x : Nat) : (d.bumpSat a lo n x).bob = d.bob := rfl
@[simp] theorem Device.bumpSat_cmd (d : Device) (a lo n x : Nat) : (d.bumpSat a lo n x).cmd = d.cmd := rfl
@[simp] theorem Device.bumpSat_slv (d : Device) (a lo n x : Nat) : (d.bumpSat a lo n x).slv = d.slv := rfl
@[simp] theorem Device.bumpSat_rsp (d : Device) (a lo n x : Nat) : (d.bumpSat a lo n x).rsp = d.rsp := rfl

@[simp] theorem Device.clearRegs_fresh (d : Device) (p : Nat → Bool) : (d.clearRegs p).fresh = d.fresh := rfl
@[simp] theorem Device.clearRegs_sys (d : Device) (p : Nat → Bool) : (d.clearRegs p).sys = d.sys := rfl
@[simp] theorem Device.clearRegs_log (d : Device) (p : Nat → Bool) : (d.clearRegs p).log = d.log := rfl
@[simp] theorem Device.clearRegs_fab (d : Device) (p : Nat → Bool) : (d.clearRegs p).fab = d.fab := rfl
@[simp] theorem Device.clearRegs_bram (d : Device) (p : Nat → Bool) : (d.clearRegs p).bram = d.bram := rfl
@[simp] theorem Device.clearRegs_clv (d : Device) (p : Nat → Bool) : (d.clearRegs p).clv = d.clv := rfl
@[simp] theorem Device.clearRegs_net (d : Device) (p : Nat → Bool) : (d.clearRegs p).net = d.net := rfl
@[simp] theorem Device.clearRegs_time (d : Device) (p : Nat → Bool) : (d.clearRegs p).time = d.time := rfl
@[simp] theorem Device.clearRegs_clk (d : Device) (p : Nat → Bool) : (d.clearRegs p).clk = d.clk := rfl
@[simp] theorem Device.clearRegs_pwr (d : Device) (p : Nat → Bool) : (d.clearRegs p).pwr = d.pwr := rfl
@[simp] theorem Device.clearRegs_mend (d : Device) (p : Nat → Bool) : (d.clearRegs p).mend = d.mend := rfl
@[simp] theorem Device.clearRegs_load (d : Device) (p : Nat → Bool) : (d.clearRegs p).load = d.load := rfl
@[simp] theorem Device.clearRegs_seam (d : Device) (p : Nat → Bool) : (d.clearRegs p).seam = d.seam := rfl
@[simp] theorem Device.clearRegs_lanes (d : Device) (p : Nat → Bool) : (d.clearRegs p).lanes = d.lanes := rfl
@[simp] theorem Device.clearRegs_eth (d : Device) (p : Nat → Bool) : (d.clearRegs p).eth = d.eth := rfl
@[simp] theorem Device.clearRegs_host (d : Device) (p : Nat → Bool) : (d.clearRegs p).host = d.host := rfl
@[simp] theorem Device.clearRegs_jesd (d : Device) (p : Nat → Bool) : (d.clearRegs p).jesd = d.jesd := rfl
@[simp] theorem Device.clearRegs_mem (d : Device) (p : Nat → Bool) : (d.clearRegs p).mem = d.mem := rfl
@[simp] theorem Device.clearRegs_sht (d : Device) (p : Nat → Bool) : (d.clearRegs p).sht = d.sht := rfl
@[simp] theorem Device.clearRegs_pins (d : Device) (p : Nat → Bool) : (d.clearRegs p).pins = d.pins := rfl
@[simp] theorem Device.clearRegs_bob (d : Device) (p : Nat → Bool) : (d.clearRegs p).bob = d.bob := rfl
@[simp] theorem Device.clearRegs_cmd (d : Device) (p : Nat → Bool) : (d.clearRegs p).cmd = d.cmd := rfl
@[simp] theorem Device.clearRegs_slv (d : Device) (p : Nat → Bool) : (d.clearRegs p).slv = d.slv := rfl
@[simp] theorem Device.clearRegs_rsp (d : Device) (p : Nat → Bool) : (d.clearRegs p).rsp = d.rsp := rfl

@[simp] theorem Device.answer_regs (d : Device) (st : Nat) (data : List Byte) : (d.answer st data).regs = d.regs := rfl
@[simp] theorem Device.answer_fresh (d : Device) (st : Nat) (data : List Byte) : (d.answer st data).fresh = d.fresh := rfl
@[simp] theorem Device.answer_sys (d : Device) (st : Nat) (data : List Byte) : (d.answer st data).sys = d.sys := rfl
@[simp] theorem Device.answer_log (d : Device) (st : Nat) (data : List Byte) : (d.answer st data).log = d.log := rfl
@[simp] theorem Device.answer_fab (d : Device) (st : Nat) (data : List Byte) : (d.answer st data).fab = d.fab := rfl
@[simp] theorem Device.answer_bram (d : Device) (st : Nat) (data : List Byte) : (d.answer st data).bram = d.bram := rfl
@[simp] theorem Device.answer_clv (d : Device) (st : Nat) (data : List Byte) : (d.answer st data).clv = d.clv := rfl
@[simp] theorem Device.answer_net (d : Device) (st : Nat) (data : List Byte) : (d.answer st data).net = d.net := rfl
@[simp] theorem Device.answer_time (d : Device) (st : Nat) (data : List Byte) : (d.answer st data).time = d.time := rfl
@[simp] theorem Device.answer_clk (d : Device) (st : Nat) (data : List Byte) : (d.answer st data).clk = d.clk := rfl
@[simp] theorem Device.answer_pwr (d : Device) (st : Nat) (data : List Byte) : (d.answer st data).pwr = d.pwr := rfl
@[simp] theorem Device.answer_mend (d : Device) (st : Nat) (data : List Byte) : (d.answer st data).mend = d.mend := rfl
@[simp] theorem Device.answer_load (d : Device) (st : Nat) (data : List Byte) : (d.answer st data).load = d.load := rfl
@[simp] theorem Device.answer_seam (d : Device) (st : Nat) (data : List Byte) : (d.answer st data).seam = d.seam := rfl
@[simp] theorem Device.answer_lanes (d : Device) (st : Nat) (data : List Byte) : (d.answer st data).lanes = d.lanes := rfl
@[simp] theorem Device.answer_eth (d : Device) (st : Nat) (data : List Byte) : (d.answer st data).eth = d.eth := rfl
@[simp] theorem Device.answer_host (d : Device) (st : Nat) (data : List Byte) : (d.answer st data).host = d.host := rfl
@[simp] theorem Device.answer_jesd (d : Device) (st : Nat) (data : List Byte) : (d.answer st data).jesd = d.jesd := rfl
@[simp] theorem Device.answer_mem (d : Device) (st : Nat) (data : List Byte) : (d.answer st data).mem = d.mem := rfl
@[simp] theorem Device.answer_sht (d : Device) (st : Nat) (data : List Byte) : (d.answer st data).sht = d.sht := rfl
@[simp] theorem Device.answer_pins (d : Device) (st : Nat) (data : List Byte) : (d.answer st data).pins = d.pins := rfl
@[simp] theorem Device.answer_bob (d : Device) (st : Nat) (data : List Byte) : (d.answer st data).bob = d.bob := rfl
@[simp] theorem Device.answer_cmd (d : Device) (st : Nat) (data : List Byte) : (d.answer st data).cmd = d.cmd := rfl
@[simp] theorem Device.answer_slv (d : Device) (st : Nat) (data : List Byte) : (d.answer st data).slv = d.slv := rfl

@[simp] theorem Device.setUp_regs (d : Device) (h : Half) (b : Bool) : (d.setUp h b).regs = d.regs := by cases h <;> rfl
@[simp] theorem Device.setUp_fresh (d : Device) (h : Half) (b : Bool) : (d.setUp h b).fresh = d.fresh := by cases h <;> rfl
@[simp] theorem Device.setUp_log (d : Device) (h : Half) (b : Bool) : (d.setUp h b).log = d.log := by cases h <;> rfl
@[simp] theorem Device.setUp_fab (d : Device) (h : Half) (b : Bool) : (d.setUp h b).fab = d.fab := by cases h <;> rfl
@[simp] theorem Device.setUp_bram (d : Device) (h : Half) (b : Bool) : (d.setUp h b).bram = d.bram := by cases h <;> rfl
@[simp] theorem Device.setUp_clv (d : Device) (h : Half) (b : Bool) : (d.setUp h b).clv = d.clv := by cases h <;> rfl
@[simp] theorem Device.setUp_net (d : Device) (h : Half) (b : Bool) : (d.setUp h b).net = d.net := by cases h <;> rfl
@[simp] theorem Device.setUp_time (d : Device) (h : Half) (b : Bool) : (d.setUp h b).time = d.time := by cases h <;> rfl
@[simp] theorem Device.setUp_clk (d : Device) (h : Half) (b : Bool) : (d.setUp h b).clk = d.clk := by cases h <;> rfl
@[simp] theorem Device.setUp_pwr (d : Device) (h : Half) (b : Bool) : (d.setUp h b).pwr = d.pwr := by cases h <;> rfl
@[simp] theorem Device.setUp_mend (d : Device) (h : Half) (b : Bool) : (d.setUp h b).mend = d.mend := by cases h <;> rfl
@[simp] theorem Device.setUp_load (d : Device) (h : Half) (b : Bool) : (d.setUp h b).load = d.load := by cases h <;> rfl
@[simp] theorem Device.setUp_seam (d : Device) (h : Half) (b : Bool) : (d.setUp h b).seam = d.seam := by cases h <;> rfl
@[simp] theorem Device.setUp_lanes (d : Device) (h : Half) (b : Bool) : (d.setUp h b).lanes = d.lanes := by cases h <;> rfl
@[simp] theorem Device.setUp_eth (d : Device) (h : Half) (b : Bool) : (d.setUp h b).eth = d.eth := by cases h <;> rfl
@[simp] theorem Device.setUp_host (d : Device) (h : Half) (b : Bool) : (d.setUp h b).host = d.host := by cases h <;> rfl
@[simp] theorem Device.setUp_jesd (d : Device) (h : Half) (b : Bool) : (d.setUp h b).jesd = d.jesd := by cases h <;> rfl
@[simp] theorem Device.setUp_mem (d : Device) (h : Half) (b : Bool) : (d.setUp h b).mem = d.mem := by cases h <;> rfl
@[simp] theorem Device.setUp_sht (d : Device) (h : Half) (b : Bool) : (d.setUp h b).sht = d.sht := by cases h <;> rfl
@[simp] theorem Device.setUp_pins (d : Device) (h : Half) (b : Bool) : (d.setUp h b).pins = d.pins := by cases h <;> rfl
@[simp] theorem Device.setUp_bob (d : Device) (h : Half) (b : Bool) : (d.setUp h b).bob = d.bob := by cases h <;> rfl
@[simp] theorem Device.setUp_cmd (d : Device) (h : Half) (b : Bool) : (d.setUp h b).cmd = d.cmd := by cases h <;> rfl
@[simp] theorem Device.setUp_slv (d : Device) (h : Half) (b : Bool) : (d.setUp h b).slv = d.slv := by cases h <;> rfl
@[simp] theorem Device.setUp_rsp (d : Device) (h : Half) (b : Bool) : (d.setUp h b).rsp = d.rsp := by cases h <;> rfl

@[simp] theorem Device.setLost_regs (d : Device) (h : Half) (b : Bool) : (d.setLost h b).regs = d.regs := by cases h <;> rfl
@[simp] theorem Device.setLost_fresh (d : Device) (h : Half) (b : Bool) : (d.setLost h b).fresh = d.fresh := by cases h <;> rfl
@[simp] theorem Device.setLost_log (d : Device) (h : Half) (b : Bool) : (d.setLost h b).log = d.log := by cases h <;> rfl
@[simp] theorem Device.setLost_fab (d : Device) (h : Half) (b : Bool) : (d.setLost h b).fab = d.fab := by cases h <;> rfl
@[simp] theorem Device.setLost_bram (d : Device) (h : Half) (b : Bool) : (d.setLost h b).bram = d.bram := by cases h <;> rfl
@[simp] theorem Device.setLost_clv (d : Device) (h : Half) (b : Bool) : (d.setLost h b).clv = d.clv := by cases h <;> rfl
@[simp] theorem Device.setLost_net (d : Device) (h : Half) (b : Bool) : (d.setLost h b).net = d.net := by cases h <;> rfl
@[simp] theorem Device.setLost_time (d : Device) (h : Half) (b : Bool) : (d.setLost h b).time = d.time := by cases h <;> rfl
@[simp] theorem Device.setLost_clk (d : Device) (h : Half) (b : Bool) : (d.setLost h b).clk = d.clk := by cases h <;> rfl
@[simp] theorem Device.setLost_pwr (d : Device) (h : Half) (b : Bool) : (d.setLost h b).pwr = d.pwr := by cases h <;> rfl
@[simp] theorem Device.setLost_mend (d : Device) (h : Half) (b : Bool) : (d.setLost h b).mend = d.mend := by cases h <;> rfl
@[simp] theorem Device.setLost_load (d : Device) (h : Half) (b : Bool) : (d.setLost h b).load = d.load := by cases h <;> rfl
@[simp] theorem Device.setLost_seam (d : Device) (h : Half) (b : Bool) : (d.setLost h b).seam = d.seam := by cases h <;> rfl
@[simp] theorem Device.setLost_lanes (d : Device) (h : Half) (b : Bool) : (d.setLost h b).lanes = d.lanes := by cases h <;> rfl
@[simp] theorem Device.setLost_eth (d : Device) (h : Half) (b : Bool) : (d.setLost h b).eth = d.eth := by cases h <;> rfl
@[simp] theorem Device.setLost_host (d : Device) (h : Half) (b : Bool) : (d.setLost h b).host = d.host := by cases h <;> rfl
@[simp] theorem Device.setLost_jesd (d : Device) (h : Half) (b : Bool) : (d.setLost h b).jesd = d.jesd := by cases h <;> rfl
@[simp] theorem Device.setLost_mem (d : Device) (h : Half) (b : Bool) : (d.setLost h b).mem = d.mem := by cases h <;> rfl
@[simp] theorem Device.setLost_sht (d : Device) (h : Half) (b : Bool) : (d.setLost h b).sht = d.sht := by cases h <;> rfl
@[simp] theorem Device.setLost_pins (d : Device) (h : Half) (b : Bool) : (d.setLost h b).pins = d.pins := by cases h <;> rfl
@[simp] theorem Device.setLost_bob (d : Device) (h : Half) (b : Bool) : (d.setLost h b).bob = d.bob := by cases h <;> rfl
@[simp] theorem Device.setLost_cmd (d : Device) (h : Half) (b : Bool) : (d.setLost h b).cmd = d.cmd := by cases h <;> rfl
@[simp] theorem Device.setLost_slv (d : Device) (h : Half) (b : Bool) : (d.setLost h b).slv = d.slv := by cases h <;> rfl
@[simp] theorem Device.setLost_rsp (d : Device) (h : Half) (b : Bool) : (d.setLost h b).rsp = d.rsp := by cases h <;> rfl

@[simp] theorem Device.setLark_regs (d : Device) (h : Half) (l : Lark) : (d.setLark h l).regs = d.regs := by cases h <;> rfl
@[simp] theorem Device.setLark_fresh (d : Device) (h : Half) (l : Lark) : (d.setLark h l).fresh = d.fresh := by cases h <;> rfl
@[simp] theorem Device.setLark_sys (d : Device) (h : Half) (l : Lark) : (d.setLark h l).sys = d.sys := by cases h <;> rfl
@[simp] theorem Device.setLark_log (d : Device) (h : Half) (l : Lark) : (d.setLark h l).log = d.log := by cases h <;> rfl
@[simp] theorem Device.setLark_fab (d : Device) (h : Half) (l : Lark) : (d.setLark h l).fab = d.fab := by cases h <;> rfl
@[simp] theorem Device.setLark_bram (d : Device) (h : Half) (l : Lark) : (d.setLark h l).bram = d.bram := by cases h <;> rfl
@[simp] theorem Device.setLark_clv (d : Device) (h : Half) (l : Lark) : (d.setLark h l).clv = d.clv := by cases h <;> rfl
@[simp] theorem Device.setLark_net (d : Device) (h : Half) (l : Lark) : (d.setLark h l).net = d.net := by cases h <;> rfl
@[simp] theorem Device.setLark_clk (d : Device) (h : Half) (l : Lark) : (d.setLark h l).clk = d.clk := by cases h <;> rfl
@[simp] theorem Device.setLark_pwr (d : Device) (h : Half) (l : Lark) : (d.setLark h l).pwr = d.pwr := by cases h <;> rfl
@[simp] theorem Device.setLark_mend (d : Device) (h : Half) (l : Lark) : (d.setLark h l).mend = d.mend := by cases h <;> rfl
@[simp] theorem Device.setLark_load (d : Device) (h : Half) (l : Lark) : (d.setLark h l).load = d.load := by cases h <;> rfl
@[simp] theorem Device.setLark_seam (d : Device) (h : Half) (l : Lark) : (d.setLark h l).seam = d.seam := by cases h <;> rfl
@[simp] theorem Device.setLark_lanes (d : Device) (h : Half) (l : Lark) : (d.setLark h l).lanes = d.lanes := by cases h <;> rfl
@[simp] theorem Device.setLark_eth (d : Device) (h : Half) (l : Lark) : (d.setLark h l).eth = d.eth := by cases h <;> rfl
@[simp] theorem Device.setLark_host (d : Device) (h : Half) (l : Lark) : (d.setLark h l).host = d.host := by cases h <;> rfl
@[simp] theorem Device.setLark_jesd (d : Device) (h : Half) (l : Lark) : (d.setLark h l).jesd = d.jesd := by cases h <;> rfl
@[simp] theorem Device.setLark_mem (d : Device) (h : Half) (l : Lark) : (d.setLark h l).mem = d.mem := by cases h <;> rfl
@[simp] theorem Device.setLark_sht (d : Device) (h : Half) (l : Lark) : (d.setLark h l).sht = d.sht := by cases h <;> rfl
@[simp] theorem Device.setLark_pins (d : Device) (h : Half) (l : Lark) : (d.setLark h l).pins = d.pins := by cases h <;> rfl
@[simp] theorem Device.setLark_bob (d : Device) (h : Half) (l : Lark) : (d.setLark h l).bob = d.bob := by cases h <;> rfl
@[simp] theorem Device.setLark_cmd (d : Device) (h : Half) (l : Lark) : (d.setLark h l).cmd = d.cmd := by cases h <;> rfl
@[simp] theorem Device.setLark_slv (d : Device) (h : Half) (l : Lark) : (d.setLark h l).slv = d.slv := by cases h <;> rfl
@[simp] theorem Device.setLark_rsp (d : Device) (h : Half) (l : Lark) : (d.setLark h l).rsp = d.rsp := by cases h <;> rfl

@[simp] theorem Device.setBobHalf_regs (d : Device) (h : Half) (b : BobHalf) : (d.setBobHalf h b).regs = d.regs := by cases h <;> rfl
@[simp] theorem Device.setBobHalf_fresh (d : Device) (h : Half) (b : BobHalf) : (d.setBobHalf h b).fresh = d.fresh := by cases h <;> rfl
@[simp] theorem Device.setBobHalf_sys (d : Device) (h : Half) (b : BobHalf) : (d.setBobHalf h b).sys = d.sys := by cases h <;> rfl
@[simp] theorem Device.setBobHalf_log (d : Device) (h : Half) (b : BobHalf) : (d.setBobHalf h b).log = d.log := by cases h <;> rfl
@[simp] theorem Device.setBobHalf_fab (d : Device) (h : Half) (b : BobHalf) : (d.setBobHalf h b).fab = d.fab := by cases h <;> rfl
@[simp] theorem Device.setBobHalf_bram (d : Device) (h : Half) (b : BobHalf) : (d.setBobHalf h b).bram = d.bram := by cases h <;> rfl
@[simp] theorem Device.setBobHalf_clv (d : Device) (h : Half) (b : BobHalf) : (d.setBobHalf h b).clv = d.clv := by cases h <;> rfl
@[simp] theorem Device.setBobHalf_net (d : Device) (h : Half) (b : BobHalf) : (d.setBobHalf h b).net = d.net := by cases h <;> rfl
@[simp] theorem Device.setBobHalf_time (d : Device) (h : Half) (b : BobHalf) : (d.setBobHalf h b).time = d.time := by cases h <;> rfl
@[simp] theorem Device.setBobHalf_clk (d : Device) (h : Half) (b : BobHalf) : (d.setBobHalf h b).clk = d.clk := by cases h <;> rfl
@[simp] theorem Device.setBobHalf_pwr (d : Device) (h : Half) (b : BobHalf) : (d.setBobHalf h b).pwr = d.pwr := by cases h <;> rfl
@[simp] theorem Device.setBobHalf_mend (d : Device) (h : Half) (b : BobHalf) : (d.setBobHalf h b).mend = d.mend := by cases h <;> rfl
@[simp] theorem Device.setBobHalf_load (d : Device) (h : Half) (b : BobHalf) : (d.setBobHalf h b).load = d.load := by cases h <;> rfl
@[simp] theorem Device.setBobHalf_seam (d : Device) (h : Half) (b : BobHalf) : (d.setBobHalf h b).seam = d.seam := by cases h <;> rfl
@[simp] theorem Device.setBobHalf_lanes (d : Device) (h : Half) (b : BobHalf) : (d.setBobHalf h b).lanes = d.lanes := by cases h <;> rfl
@[simp] theorem Device.setBobHalf_eth (d : Device) (h : Half) (b : BobHalf) : (d.setBobHalf h b).eth = d.eth := by cases h <;> rfl
@[simp] theorem Device.setBobHalf_host (d : Device) (h : Half) (b : BobHalf) : (d.setBobHalf h b).host = d.host := by cases h <;> rfl
@[simp] theorem Device.setBobHalf_jesd (d : Device) (h : Half) (b : BobHalf) : (d.setBobHalf h b).jesd = d.jesd := by cases h <;> rfl
@[simp] theorem Device.setBobHalf_mem (d : Device) (h : Half) (b : BobHalf) : (d.setBobHalf h b).mem = d.mem := by cases h <;> rfl
@[simp] theorem Device.setBobHalf_sht (d : Device) (h : Half) (b : BobHalf) : (d.setBobHalf h b).sht = d.sht := by cases h <;> rfl
@[simp] theorem Device.setBobHalf_pins (d : Device) (h : Half) (b : BobHalf) : (d.setBobHalf h b).pins = d.pins := by cases h <;> rfl
@[simp] theorem Device.setBobHalf_cmd (d : Device) (h : Half) (b : BobHalf) : (d.setBobHalf h b).cmd = d.cmd := by cases h <;> rfl
@[simp] theorem Device.setBobHalf_slv (d : Device) (h : Half) (b : BobHalf) : (d.setBobHalf h b).slv = d.slv := by cases h <;> rfl
@[simp] theorem Device.setBobHalf_rsp (d : Device) (h : Half) (b : BobHalf) : (d.setBobHalf h b).rsp = d.rsp := by cases h <;> rfl

@[simp] theorem Device.setFifo_regs (d : Device) (h : Half) (x : List Report) : (d.setFifo h x).regs = d.regs := by cases h <;> rfl
@[simp] theorem Device.setFifo_fresh (d : Device) (h : Half) (x : List Report) : (d.setFifo h x).fresh = d.fresh := by cases h <;> rfl
@[simp] theorem Device.setFifo_sys (d : Device) (h : Half) (x : List Report) : (d.setFifo h x).sys = d.sys := by cases h <;> rfl
@[simp] theorem Device.setFifo_fab (d : Device) (h : Half) (x : List Report) : (d.setFifo h x).fab = d.fab := by cases h <;> rfl
@[simp] theorem Device.setFifo_bram (d : Device) (h : Half) (x : List Report) : (d.setFifo h x).bram = d.bram := by cases h <;> rfl
@[simp] theorem Device.setFifo_clv (d : Device) (h : Half) (x : List Report) : (d.setFifo h x).clv = d.clv := by cases h <;> rfl
@[simp] theorem Device.setFifo_net (d : Device) (h : Half) (x : List Report) : (d.setFifo h x).net = d.net := by cases h <;> rfl
@[simp] theorem Device.setFifo_time (d : Device) (h : Half) (x : List Report) : (d.setFifo h x).time = d.time := by cases h <;> rfl
@[simp] theorem Device.setFifo_clk (d : Device) (h : Half) (x : List Report) : (d.setFifo h x).clk = d.clk := by cases h <;> rfl
@[simp] theorem Device.setFifo_pwr (d : Device) (h : Half) (x : List Report) : (d.setFifo h x).pwr = d.pwr := by cases h <;> rfl
@[simp] theorem Device.setFifo_mend (d : Device) (h : Half) (x : List Report) : (d.setFifo h x).mend = d.mend := by cases h <;> rfl
@[simp] theorem Device.setFifo_load (d : Device) (h : Half) (x : List Report) : (d.setFifo h x).load = d.load := by cases h <;> rfl
@[simp] theorem Device.setFifo_seam (d : Device) (h : Half) (x : List Report) : (d.setFifo h x).seam = d.seam := by cases h <;> rfl
@[simp] theorem Device.setFifo_lanes (d : Device) (h : Half) (x : List Report) : (d.setFifo h x).lanes = d.lanes := by cases h <;> rfl
@[simp] theorem Device.setFifo_eth (d : Device) (h : Half) (x : List Report) : (d.setFifo h x).eth = d.eth := by cases h <;> rfl
@[simp] theorem Device.setFifo_host (d : Device) (h : Half) (x : List Report) : (d.setFifo h x).host = d.host := by cases h <;> rfl
@[simp] theorem Device.setFifo_jesd (d : Device) (h : Half) (x : List Report) : (d.setFifo h x).jesd = d.jesd := by cases h <;> rfl
@[simp] theorem Device.setFifo_mem (d : Device) (h : Half) (x : List Report) : (d.setFifo h x).mem = d.mem := by cases h <;> rfl
@[simp] theorem Device.setFifo_sht (d : Device) (h : Half) (x : List Report) : (d.setFifo h x).sht = d.sht := by cases h <;> rfl
@[simp] theorem Device.setFifo_pins (d : Device) (h : Half) (x : List Report) : (d.setFifo h x).pins = d.pins := by cases h <;> rfl
@[simp] theorem Device.setFifo_bob (d : Device) (h : Half) (x : List Report) : (d.setFifo h x).bob = d.bob := by cases h <;> rfl
@[simp] theorem Device.setFifo_cmd (d : Device) (h : Half) (x : List Report) : (d.setFifo h x).cmd = d.cmd := by cases h <;> rfl
@[simp] theorem Device.setFifo_slv (d : Device) (h : Half) (x : List Report) : (d.setFifo h x).slv = d.slv := by cases h <;> rfl
@[simp] theorem Device.setFifo_rsp (d : Device) (h : Half) (x : List Report) : (d.setFifo h x).rsp = d.rsp := by cases h <;> rfl

/-! ### What the updates write -/

@[simp] theorem Device.setReg_regs (d : Device) (a : Nat) (v : Word) : (d.setReg a v).regs = tabSet regDefault d.regs a v := rfl
@[simp] theorem Device.answer_rsp (d : Device) (st : Nat) (data : List Byte) : (d.answer st data).rsp = { status := st, data := data } := rfl
@[simp] theorem Device.answer_reg (d : Device) (st : Nat) (data : List Byte) (a : Nat) : (d.answer st data).reg a = d.reg a := rfl

/-- A register reads what was written to it, in a device whose register table is in canonical form. -/
theorem Device.reg_setReg_same (d : Device) (a : Nat) (v : Word) (hw : tabWf regDefault d.regs = true) : (d.setReg a v).reg a = v :=
  tabGet_tabSet_same regDefault d.regs a v hw

/-- Every other register reads as before. -/
theorem Device.reg_setReg_ne (d : Device) (a b : Nat) (v : Word) (h : b ≠ a) (hw : tabWf regDefault d.regs = true) :
    (d.setReg a v).reg b = d.reg b :=
  tabGet_tabSet_ne regDefault d.regs a b v h hw

/-- Writing a register keeps the table's canonical form. -/
theorem Device.setReg_wf (d : Device) (a : Nat) (v : Word) (hw : tabWf regDefault d.regs = true) :
    tabWf regDefault (d.setReg a v).regs = true :=
  tabWf_tabSet regDefault d.regs a v hw

/-- Resetting registers keeps the table's canonical form. -/
theorem Device.clearRegs_wf (d : Device) (p : Nat → Bool) (hw : tabWf regDefault d.regs = true) :
    tabWf regDefault (d.clearRegs p).regs = true :=
  tabWf_tabDrop regDefault p d.regs hw

/-- A field reads what was written to it, cut to its width. -/
theorem Device.fld_setFld_same (d : Device) (a lo n v : Nat) (h : lo + n ≤ 32) (hw : tabWf regDefault d.regs = true) :
    (d.setFld a lo n v).fld a lo n = v % 2 ^ n := by
  unfold Device.fld Device.setFld
  rw [Device.reg_setReg_same _ _ _ hw]
  exact fieldOf_withField_same _ _ _ _ h

/-- Every other field of the register reads as before. -/
theorem Device.fld_setFld_ne (d : Device) (a lo n v lo' n' : Nat) (h : lo + n ≤ 32) (hd : lo + n ≤ lo' ∨ lo' + n' ≤ lo)
    (hw : tabWf regDefault d.regs = true) : (d.setFld a lo n v).fld a lo' n' = d.fld a lo' n' := by
  unfold Device.fld Device.setFld
  rw [Device.reg_setReg_same _ _ _ hw]
  exact fieldOf_withField_ne _ _ _ _ _ _ h hd

/-- Fields of other registers read as before. -/
theorem Device.fld_setReg_ne (d : Device) (a b : Nat) (v : Word) (lo n : Nat) (h : b ≠ a) (hw : tabWf regDefault d.regs = true) :
    (d.setReg a v).fld b lo n = d.fld b lo n := by
  unfold Device.fld
  rw [Device.reg_setReg_ne _ _ _ _ h hw]

@[simp] theorem Device.lark_setLark (d : Device) (h : Half) (l : Lark) : (d.setLark h l).lark h = l := by cases h <;> rfl

theorem Device.lark_setLark_other (d : Device) (h : Half) (l : Lark) : (d.setLark h l).lark (otherHalf h) = d.lark (otherHalf h) := by
  cases h <;> rfl

end Sys2Proof.Machine
end

