-- ==== Sys2Proof/Laws/Fabric.lean ====
section
/-!
SUPPORT. Laws/Fabric.lean: what the fabric's shared operations can do.
-/
namespace Sys2Proof.Machine

/-- An asynchronous round changes flip-flops only. -/
theorem asyncOnce_eq (d : Device) : asyncOnce d = { d with fab := { d.fab with ffs := (asyncOnce d).fab.ffs } } := rfl

theorem asyncLoop_eq (n : Nat) (d : Device) : asyncLoop d n = { d with fab := { d.fab with ffs := (asyncLoop d n).fab.ffs } } := by
  induction n generalizing d with
  | zero => rfl
  | succ n ih =>
    simp only [asyncLoop]
    by_cases h : (asyncOnce d).fab = d.fab
    · simp only [h, if_true]
    · simp only [h, if_false]
      rw [ih (asyncOnce d), asyncOnce_eq d]

/-- Settling changes flip-flops only. -/
theorem settle_eq (d : Device) : d.settle = { d with fab := { d.fab with ffs := d.settle.fab.ffs } } := asyncLoop_eq _ d

@[simp] theorem settle_regs (d : Device) : d.settle.regs = d.regs := by rw [settle_eq]
@[simp] theorem settle_bram (d : Device) : d.settle.bram = d.bram := by rw [settle_eq]
@[simp] theorem settle_clv (d : Device) : d.settle.clv = d.clv := by rw [settle_eq]
@[simp] theorem settle_mem (d : Device) : d.settle.mem = d.mem := by rw [settle_eq]
@[simp] theorem settle_tiles (d : Device) : d.settle.fab.tiles = d.fab.tiles := by rw [settle_eq]
@[simp] theorem settle_hedges (d : Device) : d.settle.fab.hedges = d.fab.hedges := by rw [settle_eq]
@[simp] theorem settle_gussets (d : Device) : d.settle.fab.gussets = d.fab.gussets := by rw [settle_eq]
@[simp] theorem settle_stalled (d : Device) : d.settle.fab.stalled = d.fab.stalled := by rw [settle_eq]
@[simp] theorem settle_tickHigh (d : Device) : d.settle.fab.tickHigh = d.fab.tickHigh := by rw [settle_eq]
@[simp] theorem settle_reg (d : Device) (a : Nat) : d.settle.reg a = d.reg a := by simp [Device.reg]
@[simp] theorem settle_bit (d : Device) (a k : Nat) : d.settle.bit a k = d.bit a k := by simp [Device.bit, Device.fld]
@[simp] theorem settle_hedge (d : Device) (k : Nat) : d.settle.hedge k = d.hedge k := by simp [Device.hedge]

end Sys2Proof.Machine
end

