-- ==== Sys2Proof/Laws/Canonical.lean ====
section
/-!
SUPPORT. Laws/Canonical.lean: every operation that writes registers, DRAM or host memory keeps Device.canonical, and the setters of the
other parts of the device do not touch it.
-/
namespace Sys2Proof.Machine

/-- What canonical says, part by part. -/
theorem Device.canonical_iff (d : Device) :
    d.canonical = true ↔ tabWf regDefault d.regs = true ∧ Memory.wf d.mem.dram = true ∧ Memory.wf d.host.mem = true := by
  simp [Device.canonical, and_assoc]

/-- It depends on the register table and the two byte memories alone. -/
theorem Device.canonical_congr (d t : Device) (hr : t.regs = d.regs) (hm : t.mem.dram = d.mem.dram) (hh : t.host.mem = d.host.mem) :
    t.canonical = d.canonical := by
  simp [Device.canonical, hr, hm, hh]

/-! ### Registers -/

theorem Device.setReg_canonical (d : Device) (a : Nat) (v : Word) (h : d.canonical = true) : (d.setReg a v).canonical = true := by
  rw [Device.canonical_iff] at h ⊢
  exact ⟨Device.setReg_wf d a v h.1, h.2⟩
theorem Device.setFld_canonical (d : Device) (a lo n v : Nat) (h : d.canonical = true) : (d.setFld a lo n v).canonical = true :=
  Device.setReg_canonical _ _ _ h
theorem Device.putBit_canonical (d : Device) (a k : Nat) (b : Bool) (h : d.canonical = true) : (d.putBit a k b).canonical = true :=
  Device.setReg_canonical _ _ _ h
theorem Device.setBit_canonical (d : Device) (a k : Nat) (h : d.canonical = true) : (d.setBit a k).canonical = true :=
  Device.setReg_canonical _ _ _ h
theorem Device.bump_canonical (d : Device) (a lo n x : Nat) (h : d.canonical = true) : (d.bump a lo n x).canonical = true :=
  Device.setReg_canonical _ _ _ h
theorem Device.bumpSat_canonical (d : Device) (a lo n x : Nat) (h : d.canonical = true) : (d.bumpSat a lo n x).canonical = true :=
  Device.setReg_canonical _ _ _ h
theorem Device.clearRegs_canonical (d : Device) (p : Nat → Bool) (h : d.canonical = true) : (d.clearRegs p).canonical = true := by
  rw [Device.canonical_iff] at h ⊢
  exact ⟨Device.clearRegs_wf d p h.1, h.2⟩

/-! ### Control -/

theorem Device.each_canonical {α : Type} (xs : List α) (f : Device → α → Device) (d : Device)
    (hf : ∀ d x, d.canonical = true → (f d x).canonical = true) (h : d.canonical = true) : (d.each xs f).canonical = true := by
  unfold Device.each
  induction xs generalizing d with
  | nil => exact h
  | cons x xs ih => exact ih (f d x) (hf d x h)
theorem Device.when_canonical (d : Device) (c : Bool) (f : Device → Device)
    (hf : ∀ d, d.canonical = true → (f d).canonical = true) (h : d.canonical = true) : (d.when c f).canonical = true := by
  unfold Device.when
  split
  · exact hf d h
  · exact h

/-! ### The two memories -/

theorem Device.dramWrites_canonical (d : Device) (a : Nat) (bs : List Byte) (h : d.canonical = true) :
    ({ d with mem := { d.mem with dram := memWrites d.mem.dram a bs } } : Device).canonical = true := by
  rw [Device.canonical_iff] at h ⊢
  exact ⟨h.1, memWrites_wf _ _ _ h.2.1, h.2.2⟩
theorem Device.hostWrites_canonical (d : Device) (a : Nat) (bs : List Byte) (h : d.canonical = true) :
    ({ d with host := { d.host with mem := memWrites d.host.mem a bs } } : Device).canonical = true := by
  rw [Device.canonical_iff] at h ⊢
  exact ⟨h.1, h.2.1, memWrites_wf _ _ _ h.2.2⟩
theorem Device.setLineBytes_canonical (d : Device) (n line : Nat) (bs : List Byte) (h : d.canonical = true) :
    (d.setLineBytes n line bs).canonical = true := Device.dramWrites_canonical d _ _ h

/-- Taking the listed bytes of some addresses away keeps the canonical form (a salvage voids lines, 14_ R381). -/
theorem memory_filter_wf (p : Nat → Bool) (m : Memory) (hw : m.wf = true) : Memory.wf (m.filter (fun cell => !p cell.1)) = true :=
  tabWf_tabDrop memDefault p m hw

/-! ### Setters of the other parts -/

@[simp] theorem Device.setEngine_canonical (d : Device) (e : Nat) (x : Engine) : (d.setEngine e x).canonical = d.canonical := rfl
@[simp] theorem Device.setSegment_canonical (d : Device) (g : Nat) (x : Segment) : (d.setSegment g x).canonical = d.canonical := rfl
@[simp] theorem Device.setLane_canonical (d : Device) (l : Nat) (x : Lane) : (d.setLane l x).canonical = d.canonical := rfl
@[simp] theorem Device.setPin_canonical (d : Device) (b i : Nat) (x : Pin) : (d.setPin b i x).canonical = d.canonical := rfl
@[simp] theorem Device.setFab_canonical (d : Device) (x : FabState) : (d.setFab x).canonical = d.canonical := rfl
@[simp] theorem Device.setHedge_canonical (d : Device) (k : Nat) (h : HedgeChan) : (d.setHedge k h).canonical = d.canonical := rfl
@[simp] theorem Device.setGusset_canonical (d : Device) (k : Nat) (g : Gusset) : (d.setGusset k g).canonical = d.canonical := rfl
@[simp] theorem Device.setLogEntry_canonical (d : Device) (i : Nat) (e : LogEntry) : (d.setLogEntry i e).canonical = d.canonical := rfl
@[simp] theorem Device.setJesd_canonical (d : Device) (j : Nat) (x : Jesd) : (d.setJesd j x).canonical = d.canonical := rfl
@[simp] theorem Device.setEth_canonical (d : Device) (m : Nat) (x : EthBlock) : (d.setEth m x).canonical = d.canonical := rfl
@[simp] theorem Device.setChan_canonical (d : Device) (n : Nat) (c : MemChan) : (d.setChan n c).canonical = d.canonical := rfl
@[simp] theorem Device.setSymErrs_canonical (d : Device) (n line : Nat) (xs : List Nat) : (d.setSymErrs n line xs).canonical = d.canonical := rfl
@[simp] theorem Device.setPoisoned_canonical (d : Device) (n line : Nat) (b : Bool) : (d.setPoisoned n line b).canonical = d.canonical := rfl
@[simp] theorem Device.setPll_canonical (d : Device) (p : Nat) (x : PllExtra) : (d.setPll p x).canonical = d.canonical := rfl
@[simp] theorem Device.setSlvLink_canonical (d : Device) (s : Nat) (x : Link) : (d.setSlvLink s x).canonical = d.canonical := rfl
@[simp] theorem Device.answer_canonical (d : Device) (st : Nat) (data : List Byte) : (d.answer st data).canonical = d.canonical := rfl
@[simp] theorem Device.setCal_canonical (d : Device) (h : Half) (c : Calendar) : (d.setCal h c).canonical = d.canonical := by cases h <;> rfl
@[simp] theorem Device.setEntry_canonical (d : Device) (h : Half) (i : Nat) (e : BitVec 128) : (d.setEntry h i e).canonical = d.canonical := by cases h <;> rfl
@[simp] theorem Device.setChan08_canonical (d : Device) (h : Half) (c : Nat) (x : Chan) : (d.setChan08 h c x).canonical = d.canonical := by cases h <;> rfl
@[simp] theorem Device.setUp_canonical (d : Device) (h : Half) (b : Bool) : (d.setUp h b).canonical = d.canonical := by cases h <;> rfl
@[simp] theorem Device.setLost_canonical (d : Device) (h : Half) (b : Bool) : (d.setLost h b).canonical = d.canonical := by cases h <;> rfl
@[simp] theorem Device.setLark_canonical (d : Device) (h : Half) (l : Lark) : (d.setLark h l).canonical = d.canonical := by cases h <;> rfl
@[simp] theorem Device.setBobHalf_canonical (d : Device) (h : Half) (b : BobHalf) : (d.setBobHalf h b).canonical = d.canonical := by cases h <;> rfl
@[simp] theorem Device.setFifo_canonical (d : Device) (h : Half) (x : List Report) : (d.setFifo h x).canonical = d.canonical := by cases h <;> rfl
@[simp] theorem Device.takeFree_canonical (d : Device) : d.takeFree.2.canonical = d.canonical := rfl
@[simp] theorem Device.takeFreeBool_canonical (d : Device) : d.takeFreeBool.2.canonical = d.canonical := rfl

theorem Device.setDisc_canonical (d : Device) (h : Half) (x : Disc) : (d.setDisc h x).canonical = d.canonical := by
  unfold Device.setDisc
  split <;> rfl
theorem Device.setRef_canonical (d : Device) (h : Half) (n : Nat) (x : RefState) : (d.setRef h n x).canonical = d.canonical :=
  Device.setDisc_canonical _ _ _
theorem Device.setShuttle_canonical (d : Device) (n : Nat) (x : Shuttle) (h : d.canonical = true) : (d.setShuttle n x).canonical = true :=
  Device.setFld_canonical _ _ _ _ _ h
theorem Device.setTrans_canonical (d : Device) (n : Nat) (t : Option DomTrans) (h : d.canonical = true) : (d.setTrans n t).canonical = true :=
  Device.putBit_canonical _ _ _ _ h

/-! ### Shared operations -/

@[simp] theorem Device.msix_canonical (d : Device) (v : Nat) : (d.msix v).canonical = d.canonical := by
  unfold Device.msix
  split <;> rfl
@[simp] theorem Device.mgmt_canonical (d : Device) : d.mgmt.canonical = d.canonical := by
  unfold Device.mgmt
  simp only
  split
  · rw [Device.msix_canonical]; rfl
  · rfl
theorem Device.raiseInt_canonical (d : Device) (k : Nat) (h : d.canonical = true) : (d.raiseInt k).canonical = true := by
  unfold Device.raiseInt
  rw [Device.mgmt_canonical]
  exact Device.setBit_canonical _ _ _ h
theorem Device.report_canonical (d : Device) (h : d.canonical = true) : d.report.canonical = true := by
  unfold Device.report
  simp only
  split
  · exact h
  · exact Device.raiseInt_canonical _ _ (Device.setReg_canonical _ _ _ h)
theorem Device.reportFailover_canonical (d : Device) (h : d.canonical = true) : d.reportFailover.canonical = true :=
  Device.raiseInt_canonical _ _ (Device.setReg_canonical _ _ _ h)
@[simp] theorem Device.bobRecord_canonical (d : Device) (h : Half) (r : List Byte) : (d.bobRecord h r).canonical = d.canonical := by
  unfold Device.bobRecord
  simp only
  split
  · rfl
  · split <;> exact Device.setBobHalf_canonical _ _ _
theorem Device.bobGap_canonical (d : Device) (h : Half) (c : Nat) (hc : d.canonical = true) : (d.bobGap h c).canonical = true := by
  unfold Device.bobGap
  simp only
  split
  · exact hc
  · split
    · rw [Device.setBobHalf_canonical]; exact hc
    · unfold Device.bobTime
      rw [Device.bobRecord_canonical]
      exact Device.bump_canonical _ _ _ _ _ (by rw [Device.setBobHalf_canonical]; exact hc)
theorem Device.bobTrigger_canonical (d : Device) (source : Nat) (h : d.canonical = true) : (d.bobTrigger source).canonical = true := by
  unfold Device.bobTrigger
  split
  · refine Device.each_canonical _ _ _ (fun d x hd => ?_) (Device.setFld_canonical _ _ _ _ _ h)
    simp only
    rw [Device.setBobHalf_canonical, Device.bobRecord_canonical]
    exact hd
  · exact Device.bump_canonical _ _ _ _ _ h
theorem Device.bobFreeze_canonical (d : Device) (cause : Nat) (h : d.canonical = true) : (d.bobFreeze cause).canonical = true := by
  unfold Device.bobFreeze
  split
  · exact Device.setFld_canonical _ _ _ _ _ (Device.setFld_canonical _ _ _ _ _ h)
  · exact h
theorem Device.fault_canonical (d : Device) (h : Half) (cls src detail : Nat) (hd : d.canonical = true) :
    (d.fault h cls src detail).canonical = true := by
  have key : ∀ e : Device, e.canonical = true →
      (if cls ≠ 0 ∧ (cls = e.fld (bobA 0) 0 8 ∨ cls = e.fld (bobA 0) 8 8) then e.bobTrigger 3 else e).canonical = true := by
    intro e he
    split
    · exact Device.bobTrigger_canonical _ _ he
    · exact he
  unfold Device.fault
  refine key _ ?_
  split
  · rw [Device.setFifo_canonical]; exact hd
  · cases h <;> exact Device.bumpSat_canonical _ _ _ _ _ hd
theorem Device.byThimble_canonical (d : Device) (mc : MClass) (f : Device → Device)
    (hf : ∀ d, d.canonical = true → (f d).canonical = true) (h : d.canonical = true) : (d.byThimble mc f).canonical = true := by
  unfold Device.byThimble
  split
  · exact hf d h
  · exact h
theorem Device.atBlock_canonical (d : Device) (n : Nat) (hard : Bool) (f : Device → Device)
    (hf : ∀ d, d.canonical = true → (f d).canonical = true) (h : d.canonical = true) : (d.atBlock n hard f).canonical = true := by
  unfold Device.atBlock
  split
  · exact hf d h
  · exact h
theorem Device.settle_canonical (d : Device) : d.settle.canonical = d.canonical := by
  rw [settle_eq]
  rfl

end Sys2Proof.Machine
end

