-- ==== Sys2Proof/Laws/Hedges.lean ====
section
/-!
SUPPORT. Laws/Hedges.lean: what each operation on a hedged channel does to its credits (02_fabric R58, R59).
-/
namespace Sys2Proof.Machine

/-- A word that moves from the crossing register into the buffer keeps its credit. -/
@[simp] theorem hedgeAdvance_held (h : HedgeChan) : (hedgeAdvance h).held = h.held := by
  unfold hedgeAdvance HedgeChan.held
  split
  · simp_all; omega
  · rfl

/-- After an edge of either side nothing is left on the crossing register. -/
@[simp] theorem hedgeAdvance_crossing (h : HedgeChan) : (hedgeAdvance h).crossing = none := by
  unfold hedgeAdvance
  split <;> simp_all

/-- A word that is taken takes a credit with it. -/
@[simp] theorem hedgeTake_held (h : HedgeChan) (o : Option (BitVec 22)) : (hedgeTake h o).held = h.held := by
  rw [← hedgeAdvance_held h]
  have hc := hedgeAdvance_crossing h
  unfold hedgeTake
  split
  · simp only
    split
    · simp_all [HedgeChan.held]; omega
    · rfl
  · rfl

/-- A word is taken only where a credit is there. -/
theorem hedgeTake_crossing (h : HedgeChan) (w : BitVec 22) (hc : 0 < (hedgeAdvance h).credits) : (hedgeTake h (some w)).crossing = some w := by
  simp [hedgeTake, hc]

/-- A popped word's credit is on its way back. -/
@[simp] theorem hedgeDrop_held (h : HedgeChan) : (hedgeDrop h).held = h.held := by
  unfold hedgeDrop HedgeChan.held
  split
  · rfl
  · simp_all; omega

/-- A channel that no operation has touched has its four credits. -/
@[simp] theorem hedgeReset_held (k : Nat) : (hedgeReset k).held = 4 := rfl

end Sys2Proof.Machine
end

