-- ==== Sys2Proof/Laws/Updates.lean ====
section
/-!
SUPPORT. Laws/Updates.lean: what follows a command's own effect: the update of THM_DEVICE_STATE, the end of Safe hold, the end of a wake,
and Bobbin's record of a command packet.
-/
namespace Sys2Proof.Machine

/-! ### The three ways in which a command answers -/

theorem lift_gives (s : State) (f : Device → Device) : s.lift f = .next { s with dev := f s.dev } := rfl
theorem liftReport_gives (s : State) (f : Device → Device) : s.liftReport f = .next { s with dev := s.dev.updated (f s.dev) } := rfl
theorem modeEffects_const (f : Device → Device) (d : Device) : modeEffects f d = modeEffects (fun _ => f d) d := by
  unfold modeEffects seamWatch holdEnd
  with_reducible rfl
theorem liftMode_gives (s : State) (f : Device → Device) : s.liftMode f = .next { s with dev := s.dev.moved (f s.dev) } := by
  unfold Device.moved State.liftMode State.liftReport State.lift Device.oneUpdate
  rw [modeEffects_const f]

/-- The update writes registers, the interrupt line and the count of MSI-X messages, and nothing else (00_scope R16, R19). -/
theorem updated_eq (d x : Device) : ∃ r y, d.updated x = { x with regs := r, sys := y } ∧ y.mode = x.sys.mode ∧ y.primary = x.sys.primary := by
  have hm : ∀ e : Device, ∃ y, e.mgmt = { e with sys := y } ∧ y.mode = e.sys.mode ∧ y.primary = e.sys.primary := by
    intro e
    unfold Device.mgmt Device.msix
    simp only
    split
    · split
      · exact ⟨_, rfl, rfl, rfl⟩
      · exact ⟨_, rfl, rfl, rfl⟩
    · exact ⟨_, rfl, rfl, rfl⟩
  have hr : ∀ (e : Device) (a : Nat) (v : Word), ∃ r y, (e.setReg a v).raiseInt 0 = { e with regs := r, sys := y } ∧ y.mode = e.sys.mode
      ∧ y.primary = e.sys.primary := by
    intro e a v
    obtain ⟨y, h, h1, h2⟩ := hm ((e.setReg a v).setBit (thmA 0x44) 0)
    exact ⟨((e.setReg a v).setBit (thmA 0x44) 0).regs, y, h, h1, h2⟩
  unfold Device.updated Device.oneUpdate
  simp only
  split
  · exact ⟨x.regs, x.sys, rfl, rfl, rfl⟩
  · split
    · exact hr x _ _
    · unfold Device.report
      simp only
      split
      · exact ⟨x.regs, x.sys, rfl, rfl, rfl⟩
      · exact hr x _ _

@[simp] theorem updated_fresh (d x : Device) : (d.updated x).fresh = x.fresh := by obtain ⟨r, y, h, -⟩ := updated_eq d x; rw [h]
@[simp] theorem updated_log (d x : Device) : (d.updated x).log = x.log := by obtain ⟨r, y, h, -⟩ := updated_eq d x; rw [h]
@[simp] theorem updated_fab (d x : Device) : (d.updated x).fab = x.fab := by obtain ⟨r, y, h, -⟩ := updated_eq d x; rw [h]
@[simp] theorem updated_bram (d x : Device) : (d.updated x).bram = x.bram := by obtain ⟨r, y, h, -⟩ := updated_eq d x; rw [h]
@[simp] theorem updated_clv (d x : Device) : (d.updated x).clv = x.clv := by obtain ⟨r, y, h, -⟩ := updated_eq d x; rw [h]
@[simp] theorem updated_net (d x : Device) : (d.updated x).net = x.net := by obtain ⟨r, y, h, -⟩ := updated_eq d x; rw [h]
@[simp] theorem updated_time (d x : Device) : (d.updated x).time = x.time := by obtain ⟨r, y, h, -⟩ := updated_eq d x; rw [h]
@[simp] theorem updated_clk (d x : Device) : (d.updated x).clk = x.clk := by obtain ⟨r, y, h, -⟩ := updated_eq d x; rw [h]
@[simp] theorem updated_pwr (d x : Device) : (d.updated x).pwr = x.pwr := by obtain ⟨r, y, h, -⟩ := updated_eq d x; rw [h]
@[simp] theorem updated_mend (d x : Device) : (d.updated x).mend = x.mend := by obtain ⟨r, y, h, -⟩ := updated_eq d x; rw [h]
@[simp] theorem updated_load (d x : Device) : (d.updated x).load = x.load := by obtain ⟨r, y, h, -⟩ := updated_eq d x; rw [h]
@[simp] theorem updated_seam (d x : Device) : (d.updated x).seam = x.seam := by obtain ⟨r, y, h, -⟩ := updated_eq d x; rw [h]
@[simp] theorem updated_lanes (d x : Device) : (d.updated x).lanes = x.lanes := by obtain ⟨r, y, h, -⟩ := updated_eq d x; rw [h]
@[simp] theorem updated_eth (d x : Device) : (d.updated x).eth = x.eth := by obtain ⟨r, y, h, -⟩ := updated_eq d x; rw [h]
@[simp] theorem updated_host (d x : Device) : (d.updated x).host = x.host := by obtain ⟨r, y, h, -⟩ := updated_eq d x; rw [h]
@[simp] theorem updated_jesd (d x : Device) : (d.updated x).jesd = x.jesd := by obtain ⟨r, y, h, -⟩ := updated_eq d x; rw [h]
@[simp] theorem updated_mem (d x : Device) : (d.updated x).mem = x.mem := by obtain ⟨r, y, h, -⟩ := updated_eq d x; rw [h]
@[simp] theorem updated_sht (d x : Device) : (d.updated x).sht = x.sht := by obtain ⟨r, y, h, -⟩ := updated_eq d x; rw [h]
@[simp] theorem updated_pins (d x : Device) : (d.updated x).pins = x.pins := by obtain ⟨r, y, h, -⟩ := updated_eq d x; rw [h]
@[simp] theorem updated_bob (d x : Device) : (d.updated x).bob = x.bob := by obtain ⟨r, y, h, -⟩ := updated_eq d x; rw [h]
@[simp] theorem updated_cmd (d x : Device) : (d.updated x).cmd = x.cmd := by obtain ⟨r, y, h, -⟩ := updated_eq d x; rw [h]
@[simp] theorem updated_slv (d x : Device) : (d.updated x).slv = x.slv := by obtain ⟨r, y, h, -⟩ := updated_eq d x; rw [h]
@[simp] theorem updated_rsp (d x : Device) : (d.updated x).rsp = x.rsp := by obtain ⟨r, y, h, -⟩ := updated_eq d x; rw [h]
@[simp] theorem updated_mode (d x : Device) : (d.updated x).sys.mode = x.sys.mode := by obtain ⟨r, y, h, h1, -⟩ := updated_eq d x; rw [h]; exact h1
@[simp] theorem updated_primary (d x : Device) : (d.updated x).sys.primary = x.sys.primary := by
  obtain ⟨r, y, h, -, h2⟩ := updated_eq d x; rw [h]; exact h2

/-- Where no cause of Safe hold was set before, no seam segment is watched and no wake is running, nothing but the update follows. -/
theorem moved_eq (d x : Device) (h0 : d.safeCause = 0) (hs : watchedSegs d = []) (hw : x.sys.waking = false) : d.moved x = d.updated x := by
  have hk : wakeDone x = x := by unfold wakeDone; simp [hw]
  have hm : modeEffects (fun _ => x) d = x := by
    unfold modeEffects seamWatch holdEnd
    simp [h0, hs, hk, Device.each]
  unfold Device.moved Device.updated Device.oneUpdate
  rw [hm]

/-! ### Bobbin's records (20_bobbin_replay R505, R510) -/

/-- Staging a record changes the recorder only. -/
theorem bobRecord_eq (d : Device) (h : Half) (r : List Byte) : ∃ b, d.bobRecord h r = { d with bob := b } := by
  unfold Device.bobRecord
  simp only
  split
  · exact ⟨d.bob, rfl⟩
  · split <;> cases h <;> exact ⟨_, rfl⟩

/-- So does the record of a command packet. -/
theorem bobPacket_eq (c : Carrier) (bs : List Byte) (d : Device) : ∃ b, bobPacket c bs d = { d with bob := b } := by
  have key : ∀ (f : Device → Nat → List Byte) (h : Half) (xs : List Nat) (d : Device),
      ∃ b, d.each xs (fun d i => d.bobRecord h (f d i)) = { d with bob := b } := by
    intro f h xs
    induction xs with
    | nil => intro d; exact ⟨d.bob, rfl⟩
    | cons x xs ih =>
      intro d
      obtain ⟨b, hb⟩ := bobRecord_eq d h (f d x)
      obtain ⟨b', hb'⟩ := ih (d.bobRecord h (f d x))
      exact ⟨b', by unfold Device.each at *; rw [List.foldl_cons, hb', hb]⟩
  exact key _ _ _ d

/-- With no recorder taking records the packet leaves the device as it is. -/
theorem bobPacket_none (c : Carrier) (bs : List Byte) (d : Device) (h : d.bobTakes (carrierHalf d c) = false) : bobPacket c bs d = d := by
  have one : ∀ r, d.bobRecord (carrierHalf d c) r = d := by intro r; unfold Device.bobRecord; simp [h]
  have key : ∀ (f : Device → Nat → List Byte) (xs : List Nat), d.each xs (fun e i => e.bobRecord (carrierHalf d c) (f e i)) = d := by
    intro f xs
    induction xs with
    | nil => rfl
    | cons x xs ih => unfold Device.each at *; rw [List.foldl_cons, one]; exact ih
  exact key _ _

end Sys2Proof.Machine
end

