-- ==== Sys2Proof/Machine/ChipCode.lean ====
section
/-!
DEFINITION. Machine/ChipCode.lean: the arithmetic of the chip-loss code and of the page code, and where their symbols lie
(14_memory_codes R365, R366, R374, R375, R380, R381). The channel decodes by counting wrong symbols (Machine/Codes.lean, R367); here stand the
codewords those symbols belong to.
-/
namespace Sys2Proof.Machine

/-! ### GF(2⁸) and the Reed–Solomon code (R365) -/

/-- Times α, modulo x⁸ + x⁴ + x³ + x² + 1. -/
def gfDouble (a : Byte) : Byte := if a.getLsbD 7 then a.shiftLeft 1 ^^^ 0x1D else a.shiftLeft 1

/-- The product over the low `n` bits of `b`. -/
def gfMulBits (a b : Byte) : Nat → Byte
  | 0 => 0
  | n + 1 => gfDouble (gfMulBits a b n) ^^^ (if b.getLsbD (7 - n) then a else 0)
def gfMul (a b : Byte) : Byte := gfMulBits a b 8

/-- α to the n. -/
def gfAlpha : Nat → Byte
  | 0 => 1
  | n + 1 => gfDouble (gfAlpha n)

/-- A polynomial, highest coefficient first, times (x − r). -/
def timesRoot (g : List Byte) (r : Byte) : List Byte :=
  List.zipWith (fun x y => x ^^^ y) (g ++ [0]) (0 :: g.map (gfMul r))

/-- g(x), its 33 coefficients, highest first. -/
def rsGen : List Byte := (upto 32).foldl (fun g i => timesRoot g (gfAlpha i)) [1]

/-- One step of the division by g(x). -/
def rsStep (rem : List Byte) (b : Byte) : List Byte :=
  let q := b ^^^ rem.headD 0
  List.zipWith (fun x y => x ^^^ y) (rem.drop 1 ++ [0]) ((rsGen.drop 1).map (gfMul q))

/-- The 32 check symbols of 128 data bytes: the remainder of the data polynomial, positions 128 to 159. -/
def rsCheck (data : List Byte) : List Byte := data.foldl rsStep (List.replicate 32 0)

/-- The codeword of a line: symbols c_0 to c_159. -/
def codeword (data : List Byte) : List Byte := data ++ rsCheck data

/-- A poisoned line as it is stored (R374): all-zero data, every check symbol XORed with 0xFF. -/
def poisonWord : List Byte := List.replicate 128 0 ++ (rsCheck (List.replicate 128 0)).map (fun x => x ^^^ 0xFF)

/-- What the poison test decodes (R375). -/
def poisonTest (w : List Byte) : List Byte := w.take 128 ++ (w.drop 128).map (fun x => x ^^^ 0xFF)

/-! ### Symbols on devices (R366) -/

/-- The device of symbol p, and its number there. -/
def symDevice (p : Nat) : Nat := p / 8
def symPart (p : Nat) : Nat := p % 8

/-- Beat and DQ line of bit b of symbol p: lines 0 to 63 are DQ, 64 to 79 the check bits CB. -/
def symBit (p b : Nat) : Nat × Nat := (2 * symPart p + b / 4, 4 * symDevice p + b % 4)

/-- The word that the devices hold for a line: every wrong symbol is one that an injection XORed with 0xFF (R383). For a line under the
Lining's mix these are the plain bytes' symbols (15_ R388). -/
def Device.storedWord (d : Device) (n line : Nat) : List Byte :=
  let w := if d.isPoisoned n line then poisonWord else codeword (d.lineBytes n line)
  w.zipIdx.map (fun x => if (d.symErrs n line).contains x.2 then x.1 ^^^ 0xFF else x.1)

/-- The 80 lines of one of the 16 beats of a burst. -/
def Device.burstBeat (d : Device) (n line beat : Nat) : BitVec 80 :=
  let w := d.storedWord n line
  (upto 80).foldl (fun (v : BitVec 80) q =>
    let p := 8 * (q / 4) + beat / 2
    if (w.getD p 0).getLsbD (4 * (beat % 2) + q % 4) then v ||| BitVec.ofNat 80 (2 ^ q) else v) 0

/-! ### GF(2¹⁶) and the page code (R380) -/

def gf16Double (a : BitVec 16) : BitVec 16 := if a.getLsbD 15 then a.shiftLeft 1 ^^^ 0x100B else a.shiftLeft 1
def gf16MulBits (a b : BitVec 16) : Nat → BitVec 16
  | 0 => 0
  | n + 1 => gf16Double (gf16MulBits a b n) ^^^ (if b.getLsbD (15 - n) then a else 0)
def gf16Mul (a b : BitVec 16) : BitVec 16 := gf16MulBits a b 16
def gf16Alpha : Nat → BitVec 16
  | 0 => 1
  | n + 1 => gf16Double (gf16Alpha n)

/-- The exponents i · 2^k modulo 2¹⁶ − 1: the conjugates of α^i. -/
def conjugates (i : Nat) : List Nat := ((upto 16).map (fun k => i * 2 ^ k % 65535)).eraseDups

/-- The minimal polynomial of α^i, highest coefficient first; its coefficients are 0 and 1. -/
def minimalPoly (i : Nat) : List Bool :=
  let g : List (BitVec 16) := (conjugates i).foldl (fun g e =>
    List.zipWith (fun x y => x ^^^ y) (g ++ [0]) (0 :: g.map (gf16Mul (gf16Alpha e)))) [1]
  g.map (fun x => x != 0)

/-- The product of two binary polynomials, highest coefficient first. -/
def bitsMul (a b : List Bool) : List Bool :=
  a.foldl (fun acc x => List.zipWith (fun p q => p ^^ q) (acc ++ [false]) (List.replicate (acc.length + 1 - b.length) false ++
    b.map (fun y => x && y))) (List.replicate (b.length - 1) false)

/-- g(x) of the page code: the least common multiple of the minimal polynomials of α¹ to α^(2t), highest coefficient first. -/
def pageGen (t : Nat) : List Bool :=
  (((upto (2 * t)).map (fun i => minimalPoly (i + 1))).eraseDups).foldl bitsMul [true]

/-- The 16·t parity bits of a page, highest coefficient first: the remainder of the data polynomial modulo g(x). -/
def pageParityBits (t : Nat) (page : List Byte) : List Bool :=
  let g := (pageGen t).drop 1
  let bits := page.flatMap (fun b => (upto 8).map (fun i => b.getLsbD i))
  bits.foldl (fun rem x =>
    let q := x ^^ rem.headD false
    List.zipWith (fun p y => p ^^ (q && y)) (rem.drop 1 ++ [false]) g) (List.replicate (16 * t) false)

/-- Bits as bytes, the first bit lowest. -/
def packBits (bs : List Bool) : List Byte :=
  (upto ((bs.length + 7) / 8)).map (fun i =>
    ((bs.drop (8 * i)).take 8).zipIdx.foldl (fun (v : Byte) x => if x.1 then v ||| BitVec.ofNat 8 (2 ^ x.2) else v) 0)

/-- A page of 4,096 bytes as it is stored: with its parity from byte 4,096 up. -/
def pageWord (t : Nat) (page : List Byte) : List Byte := page ++ packBits (pageParityBits t page)

/-- A flash page: 4,096 data bytes, parity and 0xFF fill (18_ R463). -/
def flashPage (t : Nat) (page : List Byte) : List Byte :=
  let w := pageWord t page
  w ++ List.replicate (4224 - w.length) 0xFF

/-- Where image page k of an image on n ports from page s lies: the port's place among the n, and the byte of that port (18_ R463). -/
def imagePlace (n s k : Nat) : Nat × Nat := (k % n, 4224 * (s + k / n))

/-- A frame of a salvaged rank (R381): the page with 128 parity bytes twice, then zeros. -/
def salvageFrame (page : List Byte) : List Byte := pageWord 64 page ++ pageWord 64 page ++ List.replicate 256 0

/-- The place of frame byte x: burst of the frame, and symbol of the unmarked devices in ascending order. -/
def framePlace (out : List Nat) (x : Nat) : Nat × Nat :=
  let live := (upto 20).filter (fun dev => !out.contains dev)
  (x / 136, 8 * live.getD (x % 136 / 8) 0 + x % 8)

end Sys2Proof.Machine
end

