-- ==== Sys2Proof/WellFormed.lean ====
section
/-!
DEFINITION. WellFormed.lean: what a command's operands must satisfy beyond their types. A command that comes from
outside with other operands is not one the spec speaks of; its meaning is defined all the same, and no statement
rests on it.
-/
namespace Sys2Proof

/-- A packet's data length against its header (06_warp_weft_network R160). -/
def Header.fits (hd : Header) (data : List Byte) : Bool := data.length == hd.lenM1.val + 1

/-- A Clover single-word memory access or pair (05_ R141, R142): a pair names an even register. -/
def pairOk (pair : Bool) (reg : Fin 32) : Bool := !pair || reg.val % 2 == 0

/-- The checks, one per kind of operand the types leave open. -/
def Instr.wf : Instr → Bool
  | .readResponse hd data _ => hd.status.val != 0 || hd.fits data
  | .writeRequest hd data _ => hd.fits data
  | .stileRequest _ w _ lenM1 _ _ _ data => !w || data.length == lenM1.toNat + 1
  | .clvNetworkAccess _ w _ len data => !w || data.length == len
  | .clvNetworkStarvation _ w _ len data => !w || data.length == len
  | .stateWindowAccess _ w _ len data => !w || data.length == len
  | .hostBar2Access _ w _ len data => !w || data.length == len
  | .hostOutRequest _ w _ len data => !w || data.length == len
  | .mchWrite _ rq data => data.length == rq.len
  | .memoryLoad _ _ pair _ reg _ => pairOk pair reg
  | .memoryStore _ _ pair _ reg _ => pairOk pair reg
  | .channelTraining _ _ _ _ delays => delays.length == 40
  | .driftPause _ _ centres => centres.length == 20
  | .driftPauseNow _ c0 c1 => c0.length == 20 && c1.length == 20
  | .tempConvert temps => temps.length == 32
  | .train _ _ _ c0 c1 => c0.length == 20 && c1.length == 20
  | .faultIe _ words => words.length == 8
  | .queueSet _ _ ctx => ctx.length == 56
  | _ => true

end Sys2Proof
end

