-- ==== Sys2Proof/Tests/Slice0.lean ====
section
/-!
SUPPORT. Tests/Slice0.lean: the model's own tests, with the spec's values by hand, and for each statement with hypotheses one theorem
that shows a state and operands which meet them.
-/
namespace Sys2Proof.Machine
set_option Elab.async false

/-! ### Values -/

/-- 00_scope R589: the CRC-32 of the nine ASCII bytes 123456789. -/
theorem test_crc32_check : crc32 [0x31, 0x32, 0x33, 0x34, 0x35, 0x36, 0x37, 0x38, 0x39] = 0xCBF43926 := by decide +kernel

/-- 05_ R97's examples, n = 23. -/
theorem test_extract_examples :
    extract (0x2C00000 : Int) 23 false = (6, false) ∧ extract (0x2C00000 : Int) 23 true = (5, false) ∧
    extract (0x3400000 : Int) 23 false = (6, false) ∧ extract (0x3400000 : Int) 23 true = (6, false) ∧
    extract (-46137344) 23 false = (-6, false) ∧ extract (-46137344) 23 true = (-6, false) ∧
    extract (2 ^ 46) 23 false = (0x7FFFFF, true) ∧ extract (2 ^ 46) 23 true = (0x7FFFFF, true) := by decide +kernel

/-! ### Well-formed operands: one ill-formed command for each check -/

def hd0 : Header := { mclass := 0, status := 0, tag := 0, srcSlot := 0, srcKnot := 0, srcDev := 0, dstSlot := 0, dstKnot := 0, dstDev := 0, cls := 0, type := 0, lenM1 := 7, addr := 0 }
def rq0 : ReqCtx := { carrier := .jtag, id := 9, seq := 1, major := 2, minor := 3 }

theorem test_wf_refuses :
    Instr.wf (.readResponse hd0 [1] []) = false ∧ Instr.wf (.writeRequest hd0 [1] []) = false ∧
    Instr.wf (.stileRequest 0 true 0 7 0 0 0 [1]) = false ∧ Instr.wf (.clvNetworkAccess 0 true 0 8 [1]) = false ∧
    Instr.wf (.clvNetworkStarvation 0 true 0 8 [1]) = false ∧ Instr.wf (.stateWindowAccess 0 true 0 8 [1]) = false ∧
    Instr.wf (.hostBar2Access .w true 0 4 [1]) = false ∧ Instr.wf (.hostOutRequest 1 true 0 4 [1]) = false ∧
    Instr.wf (.memoryLoad 0 ⟨false, 0⟩ true 0 1 false) = false ∧ Instr.wf (.memoryStore 0 ⟨false, 0⟩ true 0 1 false) = false ∧
    Instr.wf (.faultIe rq0 [1]) = false ∧ Instr.wf (.queueSet rq0 0 [1]) = false ∧ Instr.wf (.tempConvert []) = false ∧
    Instr.wf (.train rq0 0 0 [] []) = false ∧ Instr.wf (.driftPauseNow 0 [] []) = false ∧ Instr.wf (.faultIe rq0 (List.replicate 8 0)) = true := by
  decide +kernel

/-! ### States that the witnesses use -/

/-- The named domains On, the block clock gates open. -/
def wOn (ns : List Nat) (d : Device) : Device :=
  d.each ns (fun d n => (d.setFld (domStatA n) 30 2 0).when (decide (32 ≤ n)) (fun d => d.setBit (gateA n) 0))

/-- A booted device in Running: supplies valid, both halves up, Thimble W serving. -/
def wDev : Device :=
  { sys := { coreIn := true, aux := true, xcvHi := true, vddq := true, vccio := 255, upW := true, upE := true, booted := true
             mode := .running, cpuW := true, cpuE := true } }

/-- The same with the domains On, and fields among them released. -/
def wRun (ns : List Nat) : Device :=
  (wOn ns wDev).each (ns.filter (fun n => n < 32)) (fun d f => d.setFld (fldA f 0) 29 3 4)

/-- Regional clock r of field f runs, from CLKIN_h0. -/
def wClk (f r : Nat) (d : Device) : Device := (d.putBit (fldA f (0x500 + 4 * r)) 31 true).setReg (fldA f (0x540 + 4 * r)) 0x20

/-- Output 0 of PLL 0 gives edges. -/
def wPll (d : Device) : Device := (d.setBit (pllStat 0) 31).setReg (pllA 0 0x14) 2

def at_ (d : Device) : State := { dev := d }

/-! ### The machine -/

theorem wit_TickOnEmptyQueue : (at_ wDev).pending = [] ∧ wDev.clv = [] ∧ wDev.net.held = [] ∧ wDev.net.rspBuf = [] ∧ wDev.bobState ≠ 4 ∧
    (wDev.cal .w).chans = [] ∧ (wDev.cal .e).chans = [] ∧ (wDev.lark .w).on = false ∧ ((wDev.setLark .e { on := true }).lark .e).on = true := by decide +kernel

theorem wit_CanonicalKept : (at_ wDev).dev.canonical = true ∧
    (match step { at_ wDev with pending := [.gsrPulseWrite 3] } with | .next t => t.dev.canonical | _ => false) = true := by decide +kernel

/-! ### Fabric and block memories -/

def wFf : FfCfg := { fromF := true, clk1 := false, ce := 0, sr := 0, async := false, srVal := false, init := false }
def wTile : TileCfg :=
  { cells := [(0, { mode := .whole, tt := 1, ff0 := wFf, ff1 := { wFf with fromF := false } })], sinks := [], ce0 := 0, ce1 := 0, sr0 := 0, sr1 := 0, ci := 0
    clk0 := 0, clk1 := 0, hops := [], hopClk := 0 }
def wFab : Device := wClk 0 0 (wRun [0, 1])
def wTiled : Device := { wFab with fab := { tiles := [(5, some wTile)] } }

theorem wit_FlopEdge : wTiled.rclkRuns 0 0 = true ∧ wTiled.gsrOn 0 = false ∧ tabGet natZero wTiled.fab.gsrWait 0 ≤ 1 ∧
    tabWf boolFalse wTiled.fab.ffs = true ∧ (((upto 32).flatMap wTiled.flopsOf).map (fun y => y.1)).Nodup ∧
    (160, 5, wTile, 0, false, wFf) ∈ wTiled.flopsOf 0 ∧ wFf.async = false ∧ flopClk wTile wFf = 0 := by decide +kernel

def wPulse : Device := { wFab with fab := { pulse := [0] } }
/-- One action on its way on tick line 3 of field 0, of which the clock is 0. -/
def wTick : Device := { wFab.setReg (fldA 0 0x110) 0 with fab := { ticks := [(3, 1)] } }
def wFrozen : Device := { wFab with mend := { now := [(0, some ⟨1, 0, false⟩)] } }
def wCross : Crossing := ⟨0, .north, 3⟩
def wHedge (c : HedgeChan) : Device :=
  { wFab with fab := { crossCfg := [(crossingKey wCross, some ⟨true, 0⟩)], hedges := [(crossingKey wCross, c)] } }
def wGus (g : Gusset) : Device := { wFab with fab := { gusCfg := [(7, some ⟨0, 0, 0⟩)], gussets := [(7, g)] } }
def wStream : Device := (wFab.setEngine 0 { wFab.engine 0 with streamClk := 0, ctrl := 1, out0 := { entries := [1], seen := 1 } })

theorem wit_FabricCompletes :
    (wFab.rclkRuns 0 0 = true ∧ wFab.gsrOn 0 = false ∧ wFab.domOn 0 = true ∧ wFab.frozen 0 = false ∧ wFab.replayed 0 = false ∧ 0 ∉ wFab.fab.pulse) ∧
    (wFrozen.domOn 0 = true ∧ wFrozen.frozen 0 = true) ∧ (0 ∈ wPulse.fab.pulse ∧ wPulse.frozen 0 = false ∧ tabWf natZero wPulse.fab.gsrWait = true) ∧
    (hedged (wHedge { credits := 1, returning := 3 }) (crossingKey wCross) = true ∧ (wHedge { credits := 1, returning := 3 }).fieldRuns 0 = true ∧
      (wHedge { credits := 1, returning := 3 }).clk0Runs (hedgeTile (crossingKey wCross)) = true ∧
      hedgeOffer (wHedge { credits := 1, returning := 3 }) (crossingKey wCross) 7 = some 7 ∧
      hedgeInto (crossingKey wCross) = some (hedgeTile (crossKey 1 2 3)) ∧ wFab.clk0Runs (hedgeTile (crossKey 1 2 3)) = true ∧
      hedgeAsks (wHedge { credits := 3, buffer := [5] }) (crossingKey wCross) = true ∧ tabWf hedgeReset (wHedge { credits := 1, returning := 3 }).fab.hedges = true) ∧
    ((wHedge { credits := 3, buffer := [5] }).hedge (crossingKey wCross)).buffer = [5] ∧
    ((wHedge { credits := 0, returning := 4 }).hedge (crossingKey wCross)).credits = 0 ∧ crossingKey wCross ∉ (wHedge { credits := 0 }).fab.stalled ∧
    (tabGet noGusCfg (wGus {}).fab.gusCfg 7 = some ⟨0, 0, 0⟩ ∧ (wGus {}).rclkRuns 0 0 = true ∧ ((wGus {}).gusset 7).full = false ∧
      gussetOffer (wGus {}) 0 7 9 = some 9 ∧ gussetAsks (wGus { entries := [1], seen := 1 }) 0 7 = true ∧
      ((wGus { entries := [1], seen := 1 }).gusset 7).empty = false) ∧
    (wStream.streamClkRuns 0 0 = true ∧ ((wStream.engine 0).stream 0).full = false ∧ wStream.streamClkRuns 0 2 = true ∧
      streamOffer wStream 0 0 5 = some 5 ∧ streamAsks wStream 0 2 = true ∧ ((wStream.engine 0).stream 2).empty = false) ∧
    (tabGet natZero wTick.fab.ticks 3 = 1 ∧ tickClk wTick 0 3 = 0 ∧ wTick.rclkRuns 0 0 = true ∧ 3 ∉ wTick.fab.tickHigh) ∧
    ((∀ kv ∈ wFab.fab.gusCfg, kv.1 / 64 ≠ 0) ∧ wFab.fab.crossCfg = []) := by decide +kernel

theorem wit_GussetErrors : tabGet noGusCfg (wGus {}).fab.gusCfg 7 = some ⟨0, 0, 0⟩ ∧ tabWf regDefault (wGus {}).regs = true ∧
    (wGus {}).rclkRuns 0 0 = true ∧ ((wGus { entries := List.replicate 32 1, seen := 32 }).gusset 7).full = true ∧ ((wGus {}).gusset 7).empty = true ∧
    gussetOffer (wGus {}) 0 7 9 = some 9 ∧ gussetAsks (wGus {}) 0 7 = true := by
  decide +kernel

theorem wit_HedgeCreditsKept : (wHedge { credits := 1, crossing := some 1, buffer := [5], returning := 1 }).hedgesOk ∧
    Instr.isFabric (.hedgePop wCross) = true ∧
    ∃ t, exec (.hedgePop wCross) (at_ (wHedge { credits := 1, crossing := some 1, buffer := [5], returning := 1 })) = .next t := by
  refine ⟨?_, by decide +kernel, _, rfl⟩
  intro kv h
  simp [wHedge] at h
  subst h
  rfl

def wBr : BramCfg := { sdp := false, secded := false, widthA := 9, widthB := 9, clkA := 0, clkB := 0, rdwA := .readFirst, rdwB := .readFirst
                       oregA := false, oregB := false, srValA := 0, srValB := 0, initA := 0, initB := 0 }
def wPort : PortIn := { addr := 4095, din := 3, we := 1, en := true, oce := true, orst := false }
def wBram (c : BramCfg) : Device := { wFab with bram := { cfg := [(2, some c)], wback := [(2, some (511, 9))] } }
def wScrub : Device := (wBram wBr).setReg (fldA 0 0x200) 0x100

theorem wit_BramCollision : (wBram wBr).bramCfg 2 = some wBr ∧ (wBram wBr).rclkRuns 0 0 = true ∧ (wBram wBr).fieldRuns 0 = true ∧ bramTiled (wBram wBr) 2 = false ∧ weMask 9 wPort.we ≠ 0 ∧
    tabWf regDefault (wBram wBr).regs = true ∧ tabWf zero72 (wBram wBr).bram.words = true ∧
    rowMask 9 (4095 % widthDepth 9) (weMask 9 wPort.we) &&& rowMask 9 (4095 % widthDepth 9) (weMask 9 wPort.we) ≠ 0 := by decide +kernel

theorem wit_BramCompletes : (wBram { wBr with sdp := true, secded := true }).bramCfg 2 = some { wBr with sdp := true, secded := true } ∧
    (wBram wBr).rclkRuns 0 0 = true ∧ (wBram wBr).fieldRuns 0 = true ∧ bramTiled (wBram wBr) 2 = false ∧ (wBram wBr).gsrOn 0 = false ∧ tabWf portReset (wBram wBr).bram.ports = true ∧
    scrubRuns wScrub 0 = true ∧ tabWf natZero wScrub.bram.scrub = true ∧ tabGet noWback wScrub.bram.wback 2 = some (511, 9) ∧
    tabWf noWback wScrub.bram.wback = true ∧ tabWf regDefault wScrub.regs = true := by decide +kernel

/-! ### Clover engines -/

/-- 05_'s example of a complex dot product, bundle 4, by the fields written there: two MACC slots under stage 2 and two pair loads. -/
theorem test_bundle_example : decodeBundle 0x2B082D28D8243228 =
    { g := true, stage := 2, mac0 := some ⟨3, 0, 4, 2⟩, mac1 := some ⟨3, 1, 5, 3⟩
      early := some (0, .load true 0 4 2), late := some (0, .load true 1 2 2) } := by decide +kernel

def wEng (x : Engine) : Device := (wPll (wRun [0])).setReg (clvClkA 0) 0x80 |>.setEngine 0 x
def wRunning : Engine := { state := .running, ctrl := 9, streamClk := 0 }

theorem wit_CloverOpsIssue : ((wEng wRunning).engine 0).state = .running ∧ engineRuns (wEng wRunning) 0 = true := by decide +kernel

theorem wit_CloverStall : stalled 0 false wRunning (guarded wRunning { g := false, early := some (0, .sread 0 3) }) = true ∧ 0 < ({ bubble := 2 } : Engine).bubble := by
  decide +kernel

theorem wit_MacAccumulates : wRunning.bubble = 0 ∧ wRunning.ctrl.getLsbD 7 = false ∧ wRunning.ctrl.getLsbD 6 = false ∧ tabWf zero56 wRunning.a = true := by decide +kernel

theorem wit_ExtractRounds : 2 * (2 ^ 23 : Nat) * roundShift 0x2C00000 23 false - 2 * 0x2C00000 = (2 ^ 23 : Nat) := by decide +kernel

theorem wit_PointerModify : 0x400 + 3072 ≤ 4096 ∧ 0x800 + 2 ^ revLen 3072 ≤ 4096 := by decide +kernel

theorem wit_DivisionResult : (0 : Int) < 7 ∧ (1000 : Int) < 7 * 2 ^ 24 ∧
    ((upto 24).foldl (fun (p : Int × Int) _ => divStep p.1 p.2 (7 * 2 ^ 24)) (1000, 0)).2 = 142 := by decide +kernel

theorem wit_RotatingLoop : ({ rotate := true, s1 := 7, count := 0 } : LoopState).rotate = true ∧ ({ rot := 15 } : Engine).rot < 16 := by decide +kernel

theorem wit_BundleRoundTrip : Bundle.wf { g := true, stage := 7, mac0 := some ⟨3, 3, 31, 31⟩ } = true ∧
    Bundle.wf { g := false, op := some (0, .ldi 31 0xFFFFFFFFFFFF) } = true := by decide +kernel

/-- The tile of engine 0 in row 2 of its site, of which the start and stop sinks select 1. -/
def wSinks (x : Engine) : Device :=
  let d := wClk 0 0 (wEng x)
  { d with fab := { d.fab with tiles := [(cloverTile 0 2, some { wTile with cells := [], sinks := [(2, 255), (3, 255)] })] } }

theorem wit_RunRequests : ctlRuns (wSinks wRunning) 0 = true ∧ cloverTiled (wSinks wRunning) 0 2 = true ∧ startSink (wSinks wRunning) 0 = true ∧
    stopSink (wSinks wRunning) 0 = true ∧ wRunning.startWas = false ∧ wRunning.stopWas = false ∧ wRunning.ctrl.getLsbD 3 = true ∧
    cloverTiled (wClk 0 0 (wEng wRunning)) 0 2 = false ∧ engineRuns (wEng wRunning) 0 = true ∧ (wEng wRunning).gsrOn 0 = false ∧ (wEng wRunning).domState 0 ≠ 3 ∧
    (wEng wRunning).replayed 0 = false ∧ tabWf engineReset (wEng wRunning).clv = true ∧ ctlRuns (wClk 0 0 (wEng wRunning)) 0 = true ∧
    ((wEng { wRunning with held := { start := some 511, stop := true } }).engine 0).held = { start := some 511, stop := true } ∧
    wRunning.ctrl.getLsbD 0 = true := by decide +kernel

def wNotify : Device := wEng { notify := [(1, 5), (2, 9)], notifyLo := 0x00800000, notifyHi := 0xFF00 }

theorem wit_CloverAccessCompletes : engineOn (wEng {}) 0 = true ∧ (wEng {}).replayed 0 = false ∧ (wEng {}).feeds 0 = false ∧
    tabWf engineReset (wEng {}).clv = true ∧ engineRuns (wEng wRunning) 0 = true ∧ wRunning.memBad = [] ∧ ({} : Engine).state ≠ .running ∧
    (0x5FFF : BitVec 16).toNat + 1 ≤ 0x6000 ∧ (∀ i, i < 5 → fieldOf 0xBBBBB (4 * i) 4 < 12) ∧ tabWf zero64 wRunning.prog = true ∧
    (wNotify.engine 0).notify = (1, 5) :: [(2, 9)] ∧
    (busWrite (byEngine wNotify 0) 1 0xFF0000800000 (leBytes 5 4 ++ leBytes 1 4) (wNotify.setEngine 0 { wNotify.engine 0 with notify := [(2, 9)] })).1 ≠ notTaken := by
  decide +kernel

theorem wit_ColumnClocks : tabWf regDefault (wEng {}).regs = true ∧
    clockFailed ((wEng {}).setReg (clvClkA 0) (((wEng {}).reg (clvClkA 0) &&& 0xFFFF0000) ||| (0x83 &&& 0x0000FFFF))) 0 = false ∧ (wEng {}).sys.mode ≠ .loading ∧
    columnRuns (wEng {}) 0 0 = true ∧ (wEng {}).bobState ≠ 1 ∧ ((wEng {}).fifo .w).length < 1024 := by decide +kernel

/-! ### Network -/

def wKnot (x y : Nat) : NodeId := { dev := 0, knot := Fin.ofNat 128 (knotId x y), slot := 0 }
/-- A header from knot F to knot T of this device. -/
def wHd (ty st : Nat) (f t : NodeId) : Header :=
  { hd0 with type := Fin.ofNat 8 ty, status := Fin.ofNat 16 st, tag := 5, srcKnot := f.knot, dstKnot := t.knot, srcSlot := f.slot, dstSlot := t.slot, cls := 1, addr := 0xFF0000730800 }
/-- A request with one packet, not answered yet. -/
def wOut (n : NodeId) (write : Bool) : Outst :=
  { src := n, tag := 5, dev := 0, write := write, addr := 0xFF0000730800, len := 8, parts := [{ addr := 0xFF0000730800, half := .w }] }
/-- A node where the network has a hardened block, not a stile. -/
def wThm : NodeId := { dev := 0, knot := Fin.ofNat 128 (attPlace (.thimble .w)).1, slot := Fin.ofNat 4 (attPlace (.thimble .w)).2 }
def wNet (n : NetState) : Device := { (wClk 0 0 (wRun [0, 54, 55])) with net := n }
/-- A read request of one flit, at the head of port p's buffer of knot k. -/
def wFlight (k p : Nat) (t : NodeId) : NetState :=
  { flights := [{ pid := 3, hd := wHd 0 0 wThm t, data := [], poison := [], flits := 1 }]
    vcs := [(vcKey k p 1, { runs := [{ pid := 3, lo := 0, hi := 1 }] })], nextPid := 4 }
/-- Stile 0 enabled on regional clock 0, with requests served. -/
def wStile (n : NetState) : Device := ((wNet { n with stileNow := [(0, 0x00800800)] }).setReg (stileCtrl 0) 0x00800C00)
def wInb : Inbound := { hd := wHd 0 0 wThm (wKnot 0 0), data := [] }

theorem wit_ResponseHeader : (wHd 0 0 (wKnot 1 1) wThm).type.val ≤ 1 ∧ stileWindow (wNet {}) 0xFF0000730800 = none ∧
    requestWaits (wHd 0 0 (wKnot 1 1) wThm) (wNet {}) = false ∧
    (busRead (byPacket (wHd 0 0 (wKnot 1 1) wThm)) 0xFF0000730800 8 (takeArrived (wHd 0 0 (wKnot 1 1) wThm) (wNet {})).2).1.status < 16 ∧
    requestWaits (wHd 0 0 (wKnot 1 1) wThm) (wNet { arrived :=
      [{ pid := 1, hd := { wHd 0 0 (wKnot 1 1) wThm with tag := 9 }, data := [], poison := [], flits := 1 }] }) = true := by decide +kernel

theorem wit_ResponseHeader_flits : ([1, 2, 3] : List Byte).length = 3 ∧ (payloadFlits 62 3 [1, 2, 3]).length = 2 := by decide +kernel

theorem wit_NetworkCompletes :
    (stileWindow (wNet {}) (wHd 1 0 (wKnot 1 1) wThm).addr.toNat = none ∧ requestWaits (wHd 1 0 (wKnot 1 1) wThm) (wNet {}) = false ∧
      (takeArrived (wHd 1 0 (wKnot 1 1) wThm) (wNet {})).1 = none ∧
      (busWrite (byPacket (wHd 1 0 (wKnot 1 1) wThm)) 1 0xFF0000730800 [1, 2, 3, 4] (wNet {})).1 ≠ notTaken) ∧
    (nodeStile (wNet {}) wThm = none ∧ flowWaits (wHd 2 0 (wKnot 1 1) wThm) (wNet {}) = false ∧
      answeredBy (wNet { outst := [wOut wThm false] }) (wHd 2 0 (wKnot 1 1) wThm) = some (wOut wThm false) ∧
      answeredBy (wNet { outst := [wOut wThm true] }) (wHd 3 0 (wKnot 1 1) wThm) = some (wOut wThm true) ∧
      (wOut wThm false).addr = (wHd 2 0 (wKnot 1 1) wThm).addr.toNat ∧ (wOut wThm false).len = lenOf (wHd 2 0 (wKnot 1 1) wThm)) ∧
    (let d := wNet (wFlight (knotId 2 1) 3 (wKnot 2 1))
     netRuns d (knotHalf (knotOf 12)) = true ∧ knotOf 12 = knotId 2 1 ∧
     (forwardPick (knotCycle (knotId 2 1) (.slot 0) d) (knotId 2 1) (.slot 0)).map (fun x => (x.1, x.2.1, x.2.2.2)) = some (1, 3, 0) ∧
     (∀ f ∈ d.net.flights, flightOf d 3 = some f ∧ turnedBack d (knotId 2 1) (.slot 0) f = none ∧ f.hd.dstDev.val = devId d ∧ 0 + 1 = f.flits)) ∧
    (let d := (wNet (wFlight (knotId 4 1) 3 (wKnot 9 1))).setUp .e false
     netRuns d (knotHalf (knotOf 14)) = true ∧ knotOf 14 = knotId 4 1 ∧
     (forwardPick (knotCycle (knotId 4 1) .east d) (knotId 4 1) .east).map (fun x => (x.1, x.2.1, x.2.2.2)) = some (1, 3, 0) ∧
     (∀ f ∈ d.net.flights, flightOf d 3 = some f ∧ turnedBack d (knotId 4 1) .east f = some 4)) ∧
    (let d := wNet (wFlight (knotId 2 1) 3 wThm)
     ageLimit d 1 ≠ 0 ∧ d.net.promoted = [] ∧ ∀ f ∈ d.net.flights, flightOf d 3 = some f ∧ headerWaits d (knotId 2 1) f = true ∧ f.hd.cls.val = 1) ∧
    (nodeShuttle (wNet {}) wThm = none ∧
      (wNet { outst := [wOut wThm false] }).net.outst.find? (fun o => o.src == wThm && o.tag == 5) = some (wOut wThm false) ∧
      nodeStile (wStile {}) (stileNode (wStile {}) 0) = some 0 ∧ (wStile {}).fld (stileCtrl 0) 16 16 ≠ 0) ∧
    (stileReady (wStile {}) 0 9 ⟨stileNode (wStile {}) 0, 9, devId (wStile {}), false, 0xFF0000730800, 8, []⟩ = true ∧
      windowOf (wStile {}) 0xFF0000730800 = some (.power, 0xFF0000730000, 0x10000) ∧
      halfReach (wStile {}) (stileKnot 0) (knotHalf (targetPlace (wStile {}) .power 0xFF0000730800).1) = true) ∧
    (flowWaits wInb.hd (wStile {}) = false ∧ stileOff (wStile {}) 0 = false ∧ (wStile {}).underLoad 0 = false ∧ stileRuns (wStile {}) 0 = true ∧
      (wStile {}).feeds 0 = false ∧ (wStile {}).replayed 0 = false ∧ (inboundOf (wStile {}) 0).length < 64 ∧ heldOf (wStile {}) 0 = [] ∧
      tabGet noKept (wStile {}).net.rspBuf 0 = [] ∧ (takeArrived wInb.hd (wStile {})).1 = none ∧ tabWf noHeld (wStile {}).net.inbound = true ∧
      inboundOf (wStile { inbound := [(0, [wInb])] }) 0 = [wInb]) ∧
    (stileOutst (wStile {}) 0 = [] ∧ tabWf stileWord (wStile {}).net.stileNow = true) ∧
    (let o := wOut { wThm with knot := Fin.ofNat 128 (attPlace (.thimble .e)).1 } false
     let d := (wNet { outst := [o] }).setUp .w false
     d.up .w = false ∧ d.net.outst = [o] ∧ o.parts = [{ addr := 0xFF0000730800, half := .w }] ∧ knotHalf o.src.knot.val ≠ .w ∧
     nodeStile d o.src = none) := by
  refine ⟨?_, ?_, ?_, ?_, ?_, ?_, ?_, ?_, ?_, ?_⟩ <;> decide +kernel

/-! ### Lark time -/

/-- Both Larks run with time state `st`; half W leads, or neither is marked. -/
def wLark (st : Nat) (lead : Bool) : Device :=
  let d := wOn [56, 58] wDev
  let d := ((d.setFld (statA .w) 28 3 st).setFld (statA .e) 28 3 st).putBit (statA .w) 27 lead
  { d with time := { d.time with w := { on := true }, e := { on := true } } }
/-- Reference 0: enabled, kind k, source s, with the given prio, and qualified or not. -/
def wRefd (k s prio : Nat) (q : Bool) (d : Device) : Device :=
  (d.setReg (refA 0) (BitVec.ofNat 32 (2 ^ 31 + k * 2 ^ 28 + prio * 2 ^ 24 + s * 2 ^ 16))).putBit (refStatA d .w 0) 31 q

theorem wit_ReferenceSelection : bestRef (wRefd 2 0 3 true (wLark 2 true)) .w (fun _ => true) = some 0 ∧
    bestRef (wLark 2 true) .w (fun _ => true) = none := by decide +kernel

theorem wit_GridCoordinates : gridValid { en := true, mu := 1, k := 6 } = true ∧ gridValid { en := false, mu := 2, k := 2, ext := true } = true := by decide +kernel

theorem wit_TimeReadAndSet : tabWf regDefault (wLark 0 true).regs = true ∧ setTimeOk (wLark 0 true) .w = true ∧ setTimeOk (wLark 2 true) .w = false ∧
    (let d := { wLark 0 true with time := { (wLark 0 true).time with split := some .w, w := { setArmed := true } } }
     (d.lark .w).setArmed = true ∧ d.larkSplit = true) ∧ ((wLark 0 true).lark .w).setArmed = false := by decide +kernel

def wLearnt : Lark := { on := true, bins := [⟨0, 0, 16⟩, ⟨1, 2, 32⟩, ⟨2, 4, 48⟩, ⟨3, 5, 64⟩, ⟨4, 7, 80⟩] }

theorem wit_LarkCompletes :
    ((wLark 2 true).leads .w = true ∧ (wLark 2 true).leads .e = false ∧ (wLark 2 true).larkSplit = false ∧ (wLark 2 true).aligned .e = false ∧
      ((wLark 2 true).setBit (statA .e) 25).aligned .e = true ∧ (wLark 2 true).leader = .w ∧ (wLark 2 true).leaders = [.w] ∧
      (wLark 2 true).timeState .w = 2) ∧
    (let d := { (wLark 2 true).setBit (statA .e) 25 with time := { (wLark 2 true).time with disc := { swapReq := true } } }
     d.time.disc.swapReq = true ∧ bothOn d = true ∧ d.aligned .e = true ∧ d.larkSplit = false) ∧
    (let d := wRefd 2 0 3 false (wLark 2 true)
     refEn d 0 = true ∧ refKind d 0 = 2 ∧ qualified d .w 0 = false ∧ refSourceOk d 0 = true ∧ refHalf d 0 = some .w ∧ qualified (wRefd 2 0 3 true (wLark 2 true)) .w 0 = true ∧
     (d.reg (refA 0) ^^^ ((0xA3000000 : Word) &&& 0xFFFFC000)) &&& 0xF0FFC000 = 0) ∧
    (let d := ((wRefd 2 0 3 true (wLark 2 true)).setReg (refA 1) 0xA5000000).setBit (refStatA (wLark 2 true) .w 1) 31
     let d := ((d.setBit (lrkWide 0) 3).setBit (statA .w) 20).setFld (statA .w) 17 3 1
     d.leaders = [.w] ∧ d.bit (lrkWide 0) 3 = true ∧ qualified d .w 0 = true ∧ isPhase d 0 = true ∧ phaseRef d .w = some 1 ∧ refPrio d 0 < refPrio d 1) ∧
    (let d := (wRefd 1 0 3 true (wLark 2 true)).setFld (pinCfgA 0 24) 24 4 9
     refEn d 0 = true ∧ refKind d 0 = 1 ∧ d.bit (refA 0) 15 = false ∧ refHalf d 0 = some .w ∧ d.up .w = true ∧ d.timeState .w ≠ 0 ∧ d.leaders = [.w]) ∧
    (let d := ((wRefd 0 1 3 true (wLark 2 true)).setBit (lrkWide 0x30) 16).setBit (refA 0) 14
     d.bit (lrkWide 0x30) 16 = true ∧ d.leaders = [.w] ∧ d.bit (refA 0) 14 = true ∧
     ∀ n, n < 8 → (refEn d n && refKind d n == 0 && refSrc d n == 1) = decide (n = 0)) := by decide +kernel

theorem wit_LarkCompletes_learning :
    (let d := { (wLark 2 true).setBit (statA .w) 20 with time := { w := wLearnt } }
     learning d .w = true ∧ (fitModel (d.lark .w)).isSome = true ∧ (d.lark .w).fromSaved = false) ∧
    learning (wLark 3 true) .w = false ∧
    (let d := wLark 3 true
     d.leads .w = true ∧ d.timeState .w = 3 ∧ modelValid d .w = false ∧ freqRef d .w = none ∧ d.larkSplit = false ∧
     predErr d .w ((d.now .w - (d.disc .w).holdAt.getD (d.now .w)) / tSec) ≤ d.fld (lrkWide 0xE0) 16 16) ∧
    (tempSrc (wLark 2 true) = false ∧ tempSrc ((wLark 2 true).setBit (lrkWide 0xE0) 5) = true) ∧
    (let d := (wLark 2 true).setBit (statA .e) 25
     d.aligned .e = true ∧ bothOn d = true ∧ (((d.lark .e).time : Int) - ((d.lark .w).time : Int)).natAbs ≤ alignTol) ∧
    (let d := (wLark 2 true).setLark .w { wLearnt with model := some { c1 := 3 } }
     (d.lark .w).model = some { c1 := 3 } ∧ tempSrc d = false ∧ tempSrc (d.setBit (lrkWide 0xE0) 5) = true) ∧
    (1000 < (1001 : Int).natAbs ∧ (-1000 : Int).natAbs ≤ 1000) ∧
    (((wLark 2 true).setBit (lrkA .w 0x140) 7).bit (lrkA .w 0x140) 7 = true ∧ (wLark 2 true).bobTakes .w = false ∧ ((wLark 2 true).lark .w).caps.length < 64 ∧
      64 ≤ ({ caps := List.replicate 64 ⟨0, true, 5⟩ } : Lark).caps.length) := by decide +kernel

/-! ### Calendar -/

/-- An entry: valid, class, index, action and argument, with an absolute trigger at `ns` ns of second 0, repeating every rep microseconds. -/
def wEnt (cls idx act arg rep ns : Nat) : BitVec 128 :=
  BitVec.ofNat 128 (2 ^ 63 + (if rep = 0 then 0 else 5) * 2 ^ 56 + rep * 2 ^ 43 + cls * 2 ^ 39 + idx * 2 ^ 29 + act * 2 ^ 25 + arg + ns * 2 ^ 66)

theorem wit_AbsoluteTrigger : eBits (wEnt 1 0 0 0 0 999999999) 66 30 ≤ 999999999 ∧
    absTime 5 (wEnt 1 0 0 0 0 999999999) = 999999999 * 65536 := by decide +kernel

/-- Entry 5 armed with its first occurrence at 10,000 ns, and the time that Lark W holds. -/
def wArmed (now : Nat) : Device :=
  { wLark 2 true with time := { w := { time := now, on := true }, calW := { arms := [(5, [{ entry := wEnt 8 0 0 0 0 10000, a := 0, from_ := 0, t0 := 655360000 }])] } } }
def wArmedTick (now : Nat) : Device :=
  { wLark 2 true with time := { w := { time := now, on := true }, calW := { arms := [(5, [{ entry := wEnt 1 0 0 0 0 10000, a := 0, from_ := 0, t0 := 655360000 }])] } } }

theorem wit_OccurrenceDelivery :
    (let d := wArmed 0
     tabWf regDefault d.regs = true ∧ (nextOcc d .w).map (fun x => (x.1, x.2.1)) = some (655360000, 5) ∧ (d.now .w : Int) < 655360000 - 2000 * 65536) ∧
    (let d := wArmed (9000 * 65536 * 2 ^ 32)
     (nextOcc d .w).map (fun x => x.1) = some 655360000 ∧ (nextOcc d .w).all (fun x => !x.2.2.miss && decide ((x.2.2.made : Int) ≤ 655360000 - 250 * 65536)) = true ∧
     actFed .w (wEnt 8 0 0 0 0 10000) d = false ∧ 655360000 - 2000 * 65536 ≤ (d.now .w : Int) ∧
     (d.now .w : Int) ≤ 655360000 - 250 * 65536 ∧ (d.cal .w).waiting.length < 1024) ∧
    (let d := wArmedTick (9900 * 65536 * 2 ^ 32)
     (nextOcc d .w).map (fun x => x.1) = some 655360000 ∧ actFed .w (wEnt 1 0 0 0 0 10000) d = false ∧
     655360000 - 250 * 65536 < (d.now .w : Int) ∧ lateActs (wEnt 1 0 0 0 0 10000) = false ∧ d.fld (bobA 0) 0 16 = 0 ∧ (d.fifo .w).length < 1024) := by
  decide +kernel

/-- The write buffer of Lark W holds an entry. -/
def wWrite (e : BitVec 128) : Device :=
  (upto 4).foldl (fun d n => d.setReg (lrkA .w (0x210 + 4 * n)) (e.extractLsb' (32 * n) 32)) (wLark 2 true)

theorem wit_CalendarCommands :
    (let d := wWrite (wEnt 4 7 0 0 0 50000)
     tabWf regDefault d.regs = true ∧ tabWf zero128 (d.cal .w).entries = true ∧ d.bit (lrkA .w 0x200) 16 = false ∧ inActive d .w (calIdx d .w) = false ∧
     entryRefused d (entryAt d (lrkA .w 0x210)) = false) ∧
    (let d := wWrite (wEnt 15 7 0 0 0 50000)
     entryRefused d (entryAt d (lrkA .w 0x210)) = true ∧ eValid (entryAt d (lrkA .w 0x210)) = true) := by decide +kernel

/-- Channel 3 of Lark W: a decided set that enables entries 0 to 9 by the microsecond, at 20 µs. -/
def wStagedSet : Staged := ⟨0x00090000, 0x80000000, .from_ 5, true⟩
def wStaged : Device := (wArmed (21000 * 65536 * 2 ^ 32)).setChan08 .w 3 { decided := some (wStagedSet, 20000 * 65536) }

theorem wit_GridsAndChannels :
    (let d := wStaged
     tabWf regDefault d.regs = true ∧ tabWf chanReset08 (d.cal .w).chans = true ∧ tabWf gridReset d.time.grids = true ∧ tabWf noGridPend d.time.gridPend = true ∧
     gridValid (gridOf 0x80180000 (d.reg (gridCfgA 1 + 4))) = true ∧ (d.grid 1).en = false ∧
     (d.chan08 .w 3).decided = some (wStagedSet, 20000 * 65536) ∧ (d.chan08 .w 3).staged = none ∧ 20000 * 65536 ≤ d.now .w ∧
     (wArmed 0).now .w < 20000 * 65536 ∧ d.now .w < cycleEnd d .w ∧
     chanRefused (d.setReg (chanCtlA .w 4 0) 0x00040010) .w 4 0x80000000 = true ∧
     chanRefused (d.setReg (chanCtlA .w 4 0) 0x00140010) .w 4 0x80000000 = false ∧
     (d.setBit (chanCtlA .w 3 8) 29).bit (chanCtlA .w 3 8) 29 = true) ∧
    (let d := { wStaged with time := { grids := [(1, { en := true, mu := 1, k := 6 })], gridPend := [(1, some (0x80180000, 0))] } }
     tabWf gridReset d.time.grids = true ∧ tabWf noGridPend d.time.gridPend = true ∧ (d.grid 1).en = true ∧
     tabGet noGridPend d.time.gridPend 1 = some (0x80180000, 0)) := by decide +kernel

/-- An occurrence that is due, alone in the queue of Lark W. -/
def wDue (cls idx act arg : Nat) : Device :=
  let d := wRun [0, 52, 32, 60]
  ({ d with time := { w := { time := 2 ^ 70, on := true }, calW := { waiting := [⟨5, 2 ^ 20, wEnt cls idx act arg 1 0, false, true⟩] } } }).setFld (pinCfgA 0 7) 24 4 8

theorem wit_CalendarActions :
    (let d := wDue 1 3 0 0
     (d.cal .w).waiting.length = 1 ∧ (d.cal .w).waiting.all (fun o => decide (actTime d .w o ≤ d.now .w)) = true ∧ d.up .w = true ∧ eUnit (wEnt 1 3 0 0 1 0) ≠ 0 ∧ eClass (wEnt 1 3 0 0 1 0) = 1 ∧
     eIndex (wEnt 1 3 0 0 1 0) = 3 ∧ eAction (wEnt 1 3 0 0 1 0) = 0 ∧ d.domOn 0 = true ∧ d.domOn 1 = false) ∧
    (let d := (wDue 2 5 0 0x8010).setEngine 5 { ctrl := 0x10 }
     eClass (wEnt 2 5 2 0x8010 1 0) = 2 ∧ eIndex (wEnt 2 5 2 0x8010 1 0) = 5 ∧ eAction (wEnt 2 5 2 0x8010 1 0) = 2 ∧ eArg (wEnt 2 5 2 0x8010 1 0) = 0x8010 ∧
     (d.engine 5).ctrl.getLsbD 4 = true ∧ d.domOn 0 = true) ∧
    (let d := wDue 3 7 0 9
     eIndex (wEnt 3 7 0 9 1 0) = 7 ∧ bitsAt (eArg (wEnt 3 7 0 9 1 0)) 0 20 = 9 ∧ d.domOn 52 = true) ∧
    (let d := wDue 4 7 3 20
     eIndex (wEnt 4 7 3 20 1 0) = 7 ∧ pinFollows d (pinBank .w 7) 7 = true ∧ d.pin (pinBank .w 7) 7 = {} ∧ tabWf pinReset d.pins = true ∧
     pinRival .w 7 (pinBank .w 7) 7 ⟨5, 2 ^ 20, wEnt 4 7 3 20 1 0, false, true⟩ (2 ^ 20) (d.setCal .w {}) = false ∧
     pinRival .w 7 (pinBank .w 7) 7 ⟨5, 2 ^ 20, wEnt 4 7 3 20 1 0, false, true⟩ (2 ^ 20) ((d.setCal .w {}).setPin 0 7 { lastAct := some (2 ^ 20) }) = true ∧
     pinFollows (d.setPin 0 7 { level := true }) 0 7 = true ∧ ((d.setPin 0 7 { level := true, pulseEnds := [(7, 5)] }).pin 0 7).pulseEnds = [(7, 5)] ∧
     tabWf pinReset (d.setPin 0 7 { level := true, pulseEnds := [(7, 5)] }).pins = true ∧ 7 ≤ d.now .w) ∧
    (eIndex (wEnt 5 0 1 0 1 0) = 0 ∧ (wDue 5 0 1 0).domOn (laneDomain 0) = true ∧ eIndex (wEnt 6 2 0 0 1 0) = 2 ∧ (wDue 6 2 0 0).domOn 60 = true ∧
     eIndex (wEnt 7 0 1 0 1 0) = 0 ∧ eAction (wEnt 7 0 1 0 1 0) = 1 ∧ eClass (wEnt 8 0 0 0 1 0) = 8) := by decide +kernel

/-! ### Clocks, resets and power -/

/-- PLL 3 with control c and status t and inputs x; field 0 On, its regional clock 0 from output slot 0, which names PLL 3. -/
def wPllIn (c t : Word) (x : PllExtra) : Device :=
  let d := wRun [0]
  let d := ((d.setReg (pllA 3 0) c).setReg (pllStat 3) t).setPll 3 x
  (d.putBit (fldA 0 0x500) 31 true).setReg (fldA 0 0x540) 12

/-- M = 0, N = 40, D = 8 for both inputs of PLL 3: 4 GHz from 100 MHz. -/
def wPllSet : Device := (((wPllIn 0 0 { priGood := true }).setReg (pllA 3 4) 40).setReg (pllA 3 0xC) 40).setReg (pllA 3 0x14) 8
def wPllOff : Device := { wPllSet with regs := wPllSet.regs.filter (fun (kv : Nat × Word) => kv.1 != fldA 0 0x500) }

theorem wit_ClocksComplete :
    (let d := wPllIn 0xA0000000 0x80000000 { priGood := true, fbGood := true }
     tabWf regDefault d.regs = true ∧ tabWf pllReset d.clk.plls = true ∧ pllOn d 3 = true ∧ pllOnFb d 3 = false ∧ pllFbEn d 3 = true ∧
     (d.pll 3).fbGood = true ∧ (d.pll 3).target = none ∧ d.bit (pllStat 3) 31 = true ∧ d.fld (bobA 0) 0 16 = 0 ∧ (d.fifo (pllHalf 3)).length < 1024) ∧
    (let d := wPllIn 0xA0000000 0x84000000 { priGood := false, fbGood := true, priLost := true, target := some true }
     tabWf pllReset d.clk.plls = true ∧ (d.pll 3).target = some true ∧ (d.pll 3).fbGood = true ∧ pllFbEn d 3 = true ∧ (d.pll 3).priGood = false) ∧
    (let d := wPllIn 0xE0000000 0xC0000000 { priGood := false, fbGood := true, priLost := true }
     pllOn d 3 = true ∧ d.bit (pllStat 3) 31 = true ∧ pllOnFb d 3 = true ∧ (d.pll 3).target = none ∧ pllRevertive d 3 = true ∧ pllForceFb d 3 = false) := by decide +kernel

theorem wit_ClocksComplete_uses :
    (let d := wPllIn 0xA0000000 0x80000000 {}
     d.sys.resetSeq = none ∧ (∀ p, p < 16 → ∀ k, k < 64 → usesPll d p k = decide (p = 3 ∧ k = 0)) ∧ d.up .w = true ∧ d.up .e = true ∧ d.trans 0 = none ∧ d.domState 0 ≠ 3 ∧ d.sys.mode = .running ∧ pllDeadBit d 3 = false ∧
     d.replayed 0 = false ∧ d.forced 0 = false) ∧
    (let d := wPllOff
     d.bit (pllA 3 0) 31 = false ∧ pllInUse d 3 = false ∧ (pllLimits d 3 100000000 4 8 && pllLimits d 3 100000000 0xC 0x10) = true ∧ (d.pll 3).priGood = true ∧
     d.bit (pllStat 3) 31 = false ∧ (pllLimits d 3 10000000 4 8 && pllLimits d 3 10000000 0xC 0x10) = false) ∧
    (let d := (wPllIn 0xA0000000 0x80000000 {}).setBit (domStatA 0) 28
     d.forced 0 = true ∧ (∀ p, p < 16 → usesPll d p 0 = true → d.bit (pllStat p) 31 = true) ∧ usesDead d 0 = false ∧ d.up (halfOfDomain 0) = true) ∧
    (wDev.up .e = true ∧ wDev.sys.resetSeq = none ∧ wDev.sys.primary ≠ .e ∧ (wDev.pll 17).priGood = false ∧ (wDev.pll 17).fbGood = false) ∧
    (let d := wPllSet.setReg (pllStat 3) 0x80000000
     tabWf noNat d.clk.rclkOld = true ∧ tabWf noNat d.clk.rclkDiv = true ∧ (∀ p, p < 16 → pllDeadBit d p = false) ∧
     d.up (halfOfField 0) = true ∧ d.sys.mode ≠ .loading ∧ fieldOf 1 0 2 ≠ d.fld (rclkA 0 0) 0 2 ∧ d.slotEdges 0 0 = true ∧ (d.setBit (rclkA 0 0) 8).bit (rclkA 0 0) 8 = true ∧ wPllSet.slotEdges 0 0 = false) := by
  decide +kernel

theorem wit_ResetsComplete : tabWf regDefault wDev.regs = true ∧ islandsOn wDev = true ∧
    ({ wDev with sys := { wDev.sys with tripReset := true } } : Device).sys.tripReset = true ∧ wDev.sys.tripReset = false ∧
    ({ wDev with sys := { wDev.sys with resetSeq := some .pin } } : Device).sys.resetSeq.isSome = true ∧ wDev.sys.cpuW = true ∧
    cpuUp wDev .w = true ∧ cpuUp wDev .e = true ∧ wDev.load.job = none ∧ deferred wDev .e = false ∧ wDev.sys.resetSeq = none ∧
    wDev.sys.primary ≠ .e ∧ wDev.lost .e = false ∧ wDev.up .w = true ∧
    (let d := { wDev with sys := { wDev.sys with upE := false, lostE := true, mode := .blank } }
     d.sys.booted = true ∧ d.up .e = false ∧ d.up .w = true ∧ d.modeCode = 0 ∧ islandsOn d = true) ∧
    (let d := { wDev with sys := { wDev.sys with mode := .blank } }
     d.modeCode = 0 ∧ d.up .e = true ∧ d.sys.tripLow = false ∧ romBoot d = false ∧ d.load.decFailW = false ∧ d.load.tried = 0 ∧ d.load.primaryPtr.auto = false ∧
     ({ d with load := { primaryPtr := { auto := true } } } : Device).load.primaryPtr.auto = true) := by decide +kernel

theorem wit_PowerCompletes :
    (let d := (wRun [0]).setFld (domStatA 0) 30 2 2
     tabWf regDefault d.regs = true ∧ tabWf noTrans d.pwr.trans = true ∧ d.trans 0 = none ∧ d.domState 0 = 2 ∧ d.frozen 0 = false) ∧
    (let d := (wRun [44]).setTrans 44 (some { next := 1, final := 1, waiting := none, queued := false })
     tabWf noTrans d.pwr.trans = true ∧ d.trans 44 = some { next := 1, final := 1, waiting := none, queued := false } ∧
     d.pwr.trans = [(44, some { next := 1, final := 1, waiting := none, queued := false })] ∧ d.domState 44 = 0 ∧ d.sys.mode = .running ∧ shtBusy d 44 = false) ∧
    (let d := ((wRun [44]).setBit (domCtrlA 44) 29).setFld (domStatA 44) 16 8 50
     d.domOn 44 = true ∧ d.bit (domCtrlA 44) 29 = true ∧ d.fld (domCtrlA 44) 8 8 = 20 ∧ d.fld (domStatA 44) 16 8 = 50 ∧
     (d.setFld (domStatA 44) 16 8 64).fld (domStatA 44) 16 8 = 64) ∧
    (tempSrc (wDev.setBit (lrkWide 0xE0) 5) = true ∧ 16 * signed 8 (wDev.fld (pwrA 0x800) 8 8) ≤ tempOf (wDev.setReg (tempA 4) 0x7D0) 4 ∧
     tempOf wDev 4 < 16 * signed 8 (wDev.fld (pwrA 0x800) 8 8)) := by decide +kernel

/-! ### The seam -/

/-- Segment g holds x. -/
def wSeg (g : Nat) (x : Segment) : Device := { wDev with seam := { segs := [(g, x)] } }

theorem wit_SeamSpares : ({ gen := 7, failed := [3, 66] } : SegMap).gen < 2 ^ 32 - 1 ∧
    (let m := mapUnion 5 [] { gen := 7, failed := [3, 66] } { gen := 2, failed := [3, 60] } [1]
     segDegraded 5 m.failed = false ∧ m.spares = [(0, 1), (1, 3), (3, 60)]) ∧
    -- spare 0, at position 64, is pinned to half W and cannot carry a westward position
    (mapUnion 5 [(5, 64, .w)] { failed := [40] } {} [2]).spares = [(0, 2), (1, 40)] ∧
    segDegraded 5 (mapUnion 5 [] { failed := [1, 2, 3, 4, 5] } {} []).failed = true := by decide +kernel

theorem wit_SeamCompletes :
    (let d := wSeg 5 { trained := true, released := true, lostE := true, mapW := { spares := [(0, 3)] } }
     tabWf regDefault d.regs = true ∧ tabWf segReset d.seam.segs = true ∧ watchedSegs d = [] ∧ d.fld (bobA 0) 0 16 = 0 ∧ d.up .w = true ∧ d.up .e = true ∧
     d.bit seamStat 31 = false ∧ (d.segment 5).remap = false ∧ (d.segment 5).training = false ∧ (d.segment 5).lostE = true ∧ d.seam.armed = none ∧
     (d.fifo .e).length < 1024 ∧ 64 < segWork 5 + segSpares 5 ∧ spareDriven d 5 64 = true ∧ spareDriven d 5 65 = false) ∧
    ((wSeg 5 { training := true }).segment 5).training = true ∧
    (let d := wSeg 105 { trained := true, remap := true }
     tabWf segReset d.seam.segs = true ∧ (d.segment 105).remap = true ∧ (d.segment 105).training = false ∧ (d.fifo d.sys.primary).length < 1024) ∧
    (let d := (({ wSeg 5 { trained := true } with time := { w := { time := 2 ^ 70, on := true } } }).setReg (seamA 8) 10000000).setBit (statA .e) 25
     (nearTime (d.now d.sys.primary) (d.fld (seamA 0xC) 0 32) (d.fld (seamA 8) 0 30 * 65536)).toNat = 10000000 * 65536 ∧
     d.now d.sys.primary < 10000000 * 65536 ∧ armable d (10000000 * 65536) = true ∧ armable d (10000000 * 65536 + 1) = false ∧
     (nearTime (d.now d.sys.primary) 0 5).toNat ≤ d.now d.sys.primary) ∧
    (let d := { wDev with seam := { segs := [(5, { trained := true })], armed := some 99 } }
     d.seam.armed = some 99 ∧ d.load.pattern = none ∧ d.lost .w = false ∧ d.lost .e = false ∧
     (d.segment 5).trained = true ∧ (d.segment 5).released = false ∧ d.bit (segStat 5) 29 = false ∧ tabWf segReset d.seam.segs = true) := by decide +kernel

/-! ### Lanes -/

theorem wit_PrbsSequence : 1 ≤ 2 ∧ 2 ≤ 5 ∧ 80 ≤ 80 ∧ prbsBit 2 0x1FF = false := by decide +kernel

/-- Lane 7 in a group that is On, with a good reference, its control c, its status t and x. -/
def wLane (c t : Word) (x : Lane) : Device :=
  ((((wOn [32] wDev).setReg (quadA 1 0) 0x80000000).setReg (laneCtl 7) c).setReg (laneStat 7) t).setLane 7 x

theorem wit_LanesComplete :
    (let d := wLane 0x04040000 0x40000000 { idle := false, tx := [5], txBegun := true, eyeRun := true }
     tabWf regDefault d.regs = true ∧ tabWf laneReset d.lanes = true ∧ blockStatus d (laneDomain 7) false = 0 ∧ d.laneUse 7 = 1 ∧ d.laneOnEn 7 = true ∧
     fieldOf 0x04040001 18 1 = 1 ∧ fieldOf 0x04040001 29 3 = 0 ∧ fieldOf 0x04040001 12 4 < 12 ∧
     ((0x04040001 : Word) &&& 0x1FE003FF) ≠ (d.reg (laneCtl 7) &&& 0x1FE003FF) ∧ rxAble d 7 = true ∧ d.bit (laneStat 7) 30 = true ∧ d.bit (laneStat 7) 28 = false ∧
     d.fld (bobA 0) 0 16 = 0 ∧ (d.fifo (laneHalf 7)).length < 1024 ∧ d.domOn 32 = true ∧ (d.lane 7).frozen = false ∧ d.fld (prbsCtl 7) 4 3 = 0 ∧
     d.bit (laneStat 7) 29 = false ∧ (d.lane 7).burst = false ∧ (d.lane 7).inject = false ∧ d.bit (laneCtl 7) 20 = false ∧ d.fld (laneCtl 7) 12 4 < 12 ∧
     d.bit (laneCtl 7) 19 = false ∧ d.replayed (laneField 7) = false ∧ (d.lane 7).rx.length < 32 ∧ (d.lane 7).tx = [5] ∧ (d.lane 7).eyeRun = true) ∧
    (let d := (wLane 0x10000000 0x10000000 {}).setReg (laneA 7 0x104) 5
     d.laneUse 7 = 4 ∧ d.laneOnEn 7 = false ∧ d.fld (laneA 7 0x104) 0 12 < 16 ∧ d.bit (laneStat 7) 28 = true) ∧
    (let d := wLane 0x04040000 0x10000000 { txBegun := true }
     rxAble d 7 = true ∧ d.bit (laneStat 7) 28 = true ∧ (d.lane 7).tx = [] ∧ (d.lane 7).txBegun = true) ∧
    ((wLane 0x04040000 0 { burst := true }).lane 7).burst = true ∧ fieldOf (0x04000000 : Word) 18 1 = 0 ∧ fieldOf (0x04000000 : Word) 29 3 = 0 ∧
    eqAdapts ((wLane 0x04040000 0 {}).setReg (laneA 7 0x128) 1) 7 0 = true ∧ eqAdapts ((wLane 0x04040000 0 {}).setReg (laneA 7 0x128) 0) 7 0 = false ∧
    blockStatus wDev (laneDomain 7) false = 2 ∧ (wDev.setReg (quadA 1 0) 5).fld (quadA 1 0) 0 6 ≠ 63 ∧
    (wDev.setReg (prbsCtl 7) 0x300).fld (prbsCtl 7) 8 3 ≠ 0 ∧ (wDev.setReg (prbsStat 7) 0x80000000).bit (prbsStat 7) 31 = true ∧
    32 ≤ ({ rx := List.replicate 32 0 } : Lane).rx.length := by decide +kernel

/-! ### Ethernet, the host ports and JESD links -/

/-- Host port W is active with its link up. -/
def wHost (d : Device) : Device := ((d.setBit (hptStat .w) 31).setBit (hptStat .w) 30).setReg (hptA .w 0x44) 0x10
/-- Block 0 as configuration 6 with port 2 enabled and its link up; rule 3 of it takes ethertype 0x88B5 into 16 slots of 128 bytes. -/
def wEth (x : EthBlock) : Device :=
  let d := wHost (wRun [32, 34, 54, 55, 56, 57, 62])
  let d := d.each (upto 32) (fun d i => d.setReg (laneCtl i) 0x08000000)
  let d := ((d.setReg (ethCfgA 0) 0xE0000000).setReg (ethCtl 0 2) 0x80000000).setReg (ethStat 0 2) 0x80000000
  let d := ((d.setReg (ethRule 0 2 3 0) 0x88B50000).setReg (ethRule 0 2 3 4) 0xA0000000).setReg (ethRule 0 2 3 0x10) 0x000F0002
  let d := ((d.setReg (ethRule 0 2 3 0xC) 0xFD00).setReg (ethRule 0 2 3 0x14) 0x10000).setReg (ethRule 0 2 3 0x18) 0xFD00
  d.setEth 0 x
def wBody : List Byte := List.replicate 12 1 ++ [0x88, 0xB5] ++ List.replicate 46 7
def wFrame : RxFrame := { port := 2, rule := 3, bytes := wBody, stamp := 5, vlan := false }
def wRec : RxRecord := { port := 2, rule := 3, stamp := 5, len := 64, bad := false, vlan := false, k := 0 }

theorem wit_EthernetCompletes :
    (let d := wOn [32, 34, 56, 57] wDev
     d.bit (ethCfgA 3) 31 = false ∧ fieldOf 0xE0000000 31 1 = 1 ∧ fieldOf 0xE0000000 28 3 < 7 ∧ (0xE0000000 : Word) &&& 3 = 0 ∧
     (∀ n ∈ ethDomains d 0 6, d.domOn n = true) ∧ wDev.domOn 56 = false ∧ 56 ∈ ethDomains wDev 0 6) ∧
    (let d := wEth { rx := [wFrame], records := [wRec], tx := [(2, wBody)], stamps := [⟨2, 1, 77, 9⟩] }
     tabWf regDefault d.regs = true ∧ tabWf ethReset d.eth = true ∧ ethPortRuns d 0 2 = true ∧ ethLinkUp d 0 2 = true ∧ ptpAt wBody = none ∧
     (upto 8).find? (fun r => ruleHits d 0 2 r wBody) = some 3 ∧ rxHeld (d.ethBlk 0) 2 + wBody.length ≤ 65536 ∧ d.fld (ethRule 0 2 3 4) 16 8 < wBody.length ∧
     (∀ r, r < 8 → ruleHits d 0 2 r (List.replicate 60 1) = false) ∧ d.cmd.heldBack = [] ∧
     (∀ l ∈ ethPortLanes d 0 2, d.laneUse l = 2) ∧
     accessCheck d (byBlock d 8 (.eth 0)) .hostMem 0xFD0000000000 wBody.length = 0 ∧ accessCheck d (byBlock d 8 (.eth 0)) .hostMem 0xFD0000010000 32 = 0 ∧
     wBody.length ≤ 64 * d.fld (ethRule 0 2 3 0x10) 0 16 ∧ pairAddr d (ethRule 0 2 3 8) 6 = 0xFD0000000000 ∧ (hostAddr d 0xFD0000000000).isSome = true ∧
     d.activePort = some .w ∧ d.up .w = true ∧ pairAddr d (ethRule 0 2 3 0x14) 5 = 0xFD0000010000 ∧ (hostAddr d 0xFD0000010000).isSome = true ∧
     blockStatus d 56 true = 0 ∧ txHeld (d.ethBlk 0) 2 + 60 ≤ 65536 ∧ d.bit (ethCtl 0 2) 27 = false ∧ (d.ethBlk 0).stamps = [⟨2, 1, 77, 9⟩] ∧
     d.bit (ethRule 0 2 3 4) 29 = true ∧ 65536 < txHeld { tx := List.replicate 9 (2, List.replicate 8192 0) } 2 + 14) := by decide +kernel

theorem wit_HostCompletes :
    (let d := wHost (wRun [62])
     tabWf regDefault d.regs = true ∧ tabWf laneReset d.lanes = true ∧ tabWf memDefault d.host.mem = true ∧ hostRuns d .w = true ∧
     hostUp d .w = true ∧ 5 < 2 ^ d.fld (hptCtl .w) 0 6 ∧ d.fld (hptCtl .w) 0 6 < 40 ∧ d.activePort = some .w ∧ d.up .w = true ∧
     (hostAddr d 0xFD0000001000).isSome = true ∧ d.cmd.heldBack = [] ∧
     idxGap 1 (ringIdx d .hostW 0x30) ≤ ringSlots d .hostW ∧ ringSlots d .hostW < idxGap 60000 (ringIdx d .hostW 0x30) ∧ 1 ≤ d.fld (hptCtl .w) 26 3 ∧ (hostWidest (d.setReg (laneCtl 56) 0x10000000) .w).isSome = true) ∧
    (let d := wHost (wRun ([62, 63] ++ (upto 12).map (fun i => 32 + i)))
     hostActive d .e = false ∧ d.up .e = true ∧ (∀ n ∈ hostDomains d .e, d.domOn n = true) ∧ (∃ n ∈ hostDomains wDev .e, wDev.domOn n = false)) ∧
    (let d := (wHost (wRun [62])).setUp .w false
     d.activePort = some .w ∧ hostActive d .e = false ∧ d.up .w = false ∧ d.up .e = true ∧ d.fld (bobA 0) 0 16 = 0 ∧ (d.fifo .e).length < 1024) ∧
    wDev.activePort = none := by decide +kernel

/-- Link 0 enabled, subclass 0, 204B, with its group On. -/
def wJesd (c : Word) (x : Jesd) : Device :=
  (((wHost (wRun [32, 54, 60, 62])).setReg (jsdCtl 0) c).setReg (jsdA 0 0x24) 0xFD00).setJesd 0 x

theorem wit_JesdCompletes :
    (let d := (wOn [32, 60] wDev).setReg (jsdA 0 4) 0x03F80000
     tabWf regDefault d.regs = true ∧ tabWf jesdReset d.jesd = true ∧ jsdOn d 0 = false ∧ (∀ n ∈ jsdDomains 0 3, d.domOn n = true) ∧
     jsdFits d 0 ((0x80000003 : Word) &&& 0x7E3F001F) = true ∧ jsdFits d 0 ((0x8000001F : Word) &&& 0x7E3F001F) = false ∧ blockStatus d 60 true = 0) ∧
    (let d := wJesd 0x80000000 { data := true }
     jsdRuns d 0 = true ∧ jsdTx d 0 = false ∧ (d.jesdBlk 0).data = true ∧ d.cmd.heldBack = [] ∧ accessCheck d (byBlock d 8 (.jesd 0)) .hostMem 0xFD0000000000 256 = 0 ∧
     pairAddr d (jsdA 0 0x20) 8 = 0xFD0000000000 ∧ (hostAddr d 0xFD0000000000).isSome = true ∧ d.activePort = some .w ∧ d.up .w = true) ∧
    (let d := wJesd 0xC0000000 { data := true, tx := [1, 2, 3, 4] }
     jsdTx d 0 = true ∧ jsdC d 0 = false ∧ jsdRuns d 0 = true ∧ (d.jesdBlk 0).data = true ∧ 3 ≤ (d.jesdBlk 0).tx.length ∧ (d.jesdBlk 0).tx.length < 7) ∧
    (wJesd 0 {}).bit (jsdCtl 0) 31 = false ∧ blockStatus wDev 60 true = 2 := by decide +kernel

/-! ### Memory channels, their codes and the Lining -/

theorem wit_DramMapOneToOne : 7 ≤ 12 ∧ 12 ≤ 16 ∧ 3 ≤ 3 ∧ 0x7FFFFFFFFF < 2 ^ 39 := by decide +kernel

/-- Channels 0 and 1 On, enabled and in state st, in region 0; channel 0 holds x. -/
def wMch (st : Nat) (x : MemChan) : Device :=
  let d := (wOn [44, 45] wDev).setReg (mapReg 0) 0x80030000
  let d := (d.setReg (chanCfg 0) 0x80000000).setReg (chanCfg 1) 0x80000000
  ((d.setChanState 0 st).setChanState 1 st).setChan 0 x
def wReq (addr len : Nat) : MemReq := { rid := 7, mclass := 1, cls := 1, addr := addr, len := len }
def wRd : RdEntry := { rid := 7, seq := 0, mclass := 1, cls := 1, addr := 256, len := 8, promoted := none }

theorem wit_MemoryCompletes :
    (let d := wOn [44] wDev
     tabWf regDefault d.regs = true ∧ tabWf chanReset d.mem.chans = true ∧ tabWf intZero (d.chan 0).debt = true ∧ fieldOf 0x80010000 8 4 ≤ 9 ∧
     fieldOf 0x80010000 31 1 = 1 ∧ (regionChans (d.setReg (mapReg 0) (0x80010000 &&& 0x80FF1F00)) 0).length = 1 ∧
     regionOn (d.setReg (mapReg 0) (0x80010000 &&& 0x80FF1F00)) 1 = false ∧ d.sys.mode = .running ∧ blockStatus d 44 false = 0 ∧
     d.bit (chanCfg 0) 31 = false ∧ fieldOf 0xB0000000 31 1 = 1 ∧ fieldOf 0xB0000000 28 3 < 5 ∧ 5 ≤ fieldOf 0xD0000000 28 3 ∧ (d.chan 0).sr = none ∧
     d.chanState 0 ≤ 1 ∧ d.twoRanks 0 = false ∧ (d.setReg (chanCfg 0) 0x88000000).twoRanks 0 = true ∧ (wMch 1 {}).chanState 0 = 1) ∧
    (let d := wMch 2 {}
     chanCheck d 0 1 256 8 false = 0 ∧ chanCheck (wMch 1 {}) 0 1 256 8 false ≠ 0 ∧ (d.chan 0).wq = [] ∧ readCredit (d.chan 0) 1 = true ∧
     256 % 128 + 8 ≤ 128 ∧ (d.chan 0).rq = [] ∧ chanCheck d 0 1 256 8 true = 0 ∧ d.chanState 0 = 2 ∧ mchClock d 0 = true ∧
     (∀ k, k < 8 → debtOf d 0 k < 1 ∨ (debtOf d 0 k ≠ 4 ∧ bankBusy d 0 k = true)) ∧ d.fld (mchA 0 0) 16 8 ≠ 0 ∧
     d.bit (mchA 0 0) 28 = false ∧ cacheOf d 0 = [] ∧ 1 < d.chanState 0) ∧
    (let d := wMch 2 { rq := [wRd], debt := [(2, 4)] }
     debtOf d 0 2 = 4 ∧ (∀ j, j < 2 → debtOf d 0 j ≠ 4) ∧ 2 < 4 * ranksOf d 0 ∧ (d.chan 0).rq = [wRd] ∧ d.fld (mchA 0 0xC) 8 8 ≠ 0 ∧ tabWf intZero (d.chan 0).debt = true) ∧
    (let d := wMch 2 { debt := [(3, 2)] }
     (∀ j, j < 8 → debtOf d 0 j ≠ 4) ∧ 1 ≤ debtOf d 0 3 ∧ bankBusy d 0 3 = false ∧ (∀ j, j < 3 → debtOf d 0 j < 1 ∨ bankBusy d 0 j = true)) ∧
    (let d := (wMch 3 { sr := some .clockFailed }).setBit (mchA 0 0) 28
     d.chanState 0 = 3 ∧ (d.chan 0).sr.isSome = true ∧ mchClock d 0 = true ∧ d.forced 44 = false ∧ d.bit (chanCfg 0) 31 = true ∧ d.bit (mchA 0 0) 28 = true) := by
  decide +kernel

theorem wit_EccCompletes :
    (let d := wMch 0 {}
     blockStatus d 44 false = 0 ∧ d.bit (markA 0 0) 31 = false ∧ d.bit (markA 0 0) 7 = false ∧ d.bit (markA 0 0) 15 = false ∧ d.chanState 0 ≤ 1 ∧
     d.mem.symErr = []) ∧
    (let d := (wMch 0 {}).setReg (markA 0 1) 0x8280
     d.bit (markA 0 1) 7 = true ∧ d.bit (markA 0 1) 15 = true ∧ 5 ≠ d.fld (markA 0 1) 0 5 ∧ 5 ≠ d.fld (markA 0 1) 8 5 ∧ salvaged d 0 1 = false ∧
     d.fld (markA 0 1) 0 5 = 0) ∧
    ((wMch 2 {}).setReg (markA 0 1) 0xA0000000).bit (markA 0 1) 29 = true ∧ ((wMch 2 {}).setReg (markA 0 1) 0x80000000).bit (markA 0 1) 31 = true ∧
    (let d := ((wMch 2 { pass := some 3 }).setBit (mchA 0 0x900) 28).setReg (mchA 0 0x90C) 9
     d.chanState 0 = 2 ∧ mchClock d 0 = true ∧ d.bit (mchA 0 0x900) 28 = true ∧ passBusy d 0 = false ∧ salvaged d 0 0 = false ∧ decodeLine d 0 0 = .clean ∧ 1 < chanLines d 0 ∧
     d.fld (mchA 0 0x908) 0 29 ≤ d.fld (mchA 0 0x90C) 0 29 ∧ (d.chan 0).pass = some 3 ∧ decodeLine d 0 3 = .clean ∧ 3 < d.fld (mchA 0 0x90C) 0 29 ∧
     passBusy (d.setBit (mchA 0 0x904) 31) 0 = true ∧ (d.setReg (mchA 0 0x908) 99).fld (mchA 0 0x90C) 0 29 < (d.setReg (mchA 0 0x908) 99).fld (mchA 0 0x908) 0 29) ∧
    rptGet { rpt := [(4, some ⟨77, 1, 0, false, 3, 0⟩)] } 4 = some ⟨77, 1, 0, false, 3, 0⟩ ∧ rptGet {} 4 = none := by decide +kernel

/-- Range 2 in state st, from 0 to 8,191, with metadata in both channels. -/
def wLin (st : Nat) (sw : Option Sweep) : Device :=
  let d := ((wMch 2 {}).setBit (mchA 0 0xC00) 31).setBit (mchA 1 0xC00) 31
  let d := (d.setReg (rngA 2 8) 0x1000).setFld (rngA 2 0x14) 29 3 st
  { d with mem := { d.mem with keys := [(2, some 1)], nextKey := 2, sweeps := if sw.isSome then [(2, sw)] else [] } }
def wSweep (k : SweepKind) (p : Nat) : Sweep := { kind := k, start := 0, pos := p, wrapped := false, oldKey := 0 }

theorem wit_LiningCompletes :
    (let d := wLin 0 none
     tabWf regDefault d.regs = true ∧ tabWf noSweep d.mem.sweeps = true ∧ tabWf noKey d.mem.keys = true ∧ rngState d 2 = 0 ∧ rangeValid d 2 = true ∧
     rangeValid (d.setReg (rngA 2 8) 0x2000) 2 = false) ∧
    (linBusy (wLin 3 none) 2 = true ∧ rngState (wLin 5 none) 2 = 5 ∧ rngState (wLin 2 none) 2 = 2) ∧
    (let d := wLin 4 (some (wSweep .discard 0x1F80))
     sweepOf d 2 = some (wSweep .discard 0x1F80) ∧ tabWf noSweep d.mem.sweeps = true ∧ (dramDecode d 0x1F80).isSome = true ∧ d.safeCause = 0 ∧
     d.chanState 0 = 2 ∧ d.chanState 1 = 2 ∧ (cacheOf d 0).length ≤ 2046 ∧ (cacheOf d 1).length ≤ 2046 ∧ rngLimit d 2 < 0x1F80 + 128 ∧ 0x80 + 128 ≤ rngLimit d 2) ∧
    (let d := wLin 1 (some (wSweep .zero 0x80))
     mixOf d 0 1 = none ∧ d.mem.dram.wf = true ∧ dramDecode d 0x80 = some (1, 0) ∧ (wMch 1 {}).chanState 0 ≠ 2) ∧
    (let d := { wLin 2 none with mem := { cache := [(0, [(5, 2)])] } }
     (cacheOf d 0).filter (fun e => e.2 == 2) = [(5, 2)] ∧ (cacheOf wDev 0).filter (fun e => e.2 == 2) = []) := by decide +kernel

/-! ### Shuttle -/

/-- A context: enabled, Ready, not gated, class 1, engine 0, a ring of 16 descriptors and a completion ring of 16 records in host memory, kicks from class 3. -/
def wCtx (cons prod cqCons cqProd : Nat) : Ctx :=
  BitVec.ofNat 512 (2 ^ 63 + 2 ^ 60 + 4 * 2 ^ 51 + 0xFD0000000000 + 2 ^ 64 * (4 * 2 ^ 51 + 0xFD0000010000)
    + 2 ^ 128 * (prod + 2 ^ 32 * cons) + 2 ^ 192 * (cqProd + 2 ^ 32 * cqCons) + 2 ^ 256 * (1 + 2 ^ 19))
/-- Engine 0's accesses for a queue of class 1. -/
def wBy (d : Device) : Requester := byBlock d 5 (.sht 0)
def wSlot (c : Ctx) : CtxSlot := { q := 5, ctx := c, dirty := false }
def wDesc (st : Nat) : Desc := { q := 5, cls := 1, words := BitVec.ofNat 256 (0xFD0000020000 + 2 ^ 48 * 0xFD0000030000 + 2 ^ 96 * 8), list := [], last := 0xFD0000030000, stage := st, status := 0, net := 0, stamp := 9, answer := 0 }
/-- Engine 0 works, queue 5's context is cached, and the engine holds x. -/
def wSht (c : Ctx) (x : Shuttle) : Device :=
  let d := (wHost (wRun [52, 54, 62])).setBit (shtA 0 0) 31
  { d with sht := { engines := [(0, x)], cacheW := [wSlot c] }, host := { mem := [(0x1000020000, 3), (0x1000020001, 4)] } }
def wBell (op idx : Nat) : BitVec 64 := BitVec.ofNat 64 (2 ^ 62 * op + 2 ^ 32 * 5 + idx)
def wGated (c : Ctx) : Ctx := setCfld c 0 62 1 1

theorem wit_ShuttleCompletes :
    (let d := wSht (wCtx 0 3 0 0) { bells := [(wBell 0 4, 3)] }
     tabWf regDefault d.regs = true ∧ tabWf shtReset d.sht.engines = true ∧ watchedSegs d = [] ∧ (ctxCache d .w).length ≤ 16384 ∧ blockStatus d 52 true = 0 ∧
     shtWorks d 0 = true ∧ ctxHit d .w 5 = some (wSlot (wCtx 0 3 0 0)) ∧ cLive (wCtx 0 3 0 0) = true ∧ cEngine (wCtx 0 3 0 0) = 0 ∧
     cKickMask (wCtx 0 3 0 0) 3 = true ∧ cKickMask (wCtx 0 3 0 0) 1 = false ∧ gap32 4 0 ≤ 2 ^ cRingK (wCtx 0 3 0 0) ∧
     2 ^ cRingK (wCtx 0 3 0 0) < gap32 99 0 ∧ bitsAt (wBell 0 4).toNat 62 2 = 0 ∧ bitsAt (wBell 0 4).toNat 32 20 = 5 ∧
     gap32 (cCqProd (wCtx 0 3 0 2)) 1 ≤ 2 ^ cCqK (wCtx 0 3 0 2) ∧ cGated (wGated (wCtx 0 3 0 2)) = true ∧ cGated (wCtx 0 3 0 2) = false ∧
     cState (wCtx 0 3 0 0) = 1 ∧ inFlight d 5 = false ∧ cEngine (qdata d 0) = 0 ∧ ctxHit d .w 6 = none) ∧
    (let d := (wSht (wCtx 0 3 0 0) { staged := some (1, 2) }).setReg (shtA 0 0x208) 7
     shtRuns d 0 = true ∧ d.fld (shtA 0 0x208) 0 16 ≠ 0 ∧ d.fld (shtA 0 0x214) 0 16 = 0 ∧ (d.shuttle 0).staged = some (1, 2) ∧ (d.shuttle 0).flight = [] ∧
     (d.setReg (shtA 0 0x214) 3).fld (shtA 0 0x214) 0 16 ≠ 0) ∧
    (let d := wSht (wCtx 0 3 0 0) {}
     let d' := (ctxPut .w (wSlot (wCtx 0 3 0 0)) d).setShuttle 0 { lastQ := [(1, 5)] }
     d.leavingOn 52 = false ∧ shtNext d 0 = some (5, 1) ∧ cReady (wCtx 0 3 0 0) = true ∧ cWork (wCtx 0 3 0 0) = true ∧
     busRead (wBy d') (0xFD0000000000 + 32 * (0 % 16)) 32 d' = ({ data := List.replicate 32 0 }, d') ∧ dType (BitVec.ofNat 256 0) = 0 ∧ dConv (BitVec.ofNat 256 0) ≠ 3 ∧ dLen (BitVec.ofNat 256 0) = 0) ∧
    (let d := wSht (wCtx 0 3 0 0) { flight := [wDesc 0] }
     inEngine d 0 5 = some (wDesc 0) ∧ shtRuns d 0 = true ∧ dType (wDesc 0).words = 0 ∧
     readAll (wBy d) (packetsOf (dSrc (wDesc 0).words, dLen (wDesc 0).words)) d = (([3, 4, 0, 0, 0, 0, 0, 0], 0), d) ∧
     (let r := writeAll (wBy d) 1 (writePackets d (dDst (wDesc 0).words, destLen (wDesc 0).words))
        { moved := 0, last := 0xFD0000030000, data := convert (wDesc 0).words [3, 4, 0, 0, 0, 0, 0, 0], status := 0, held := false } d
      r.1.status = 0 ∧ r.1.held = false)) ∧
    (let d := wSht (wCtx 0 3 0 0) { flight := [wDesc 1] }
     inEngine d 0 5 = some (wDesc 1) ∧ busRead (wBy d) (wDesc 1).last 1 d = ({ data := [0] }, d)) ∧
    (gap32 (cCqProd (wCtx 0 3 0 16)) (cCqCons (wCtx 0 3 0 16)) = 2 ^ cCqK (wCtx 0 3 0 16) ∧
     gap32 (cCqProd (wCtx 0 3 0 15)) (cCqCons (wCtx 0 3 0 15)) ≠ 2 ^ cCqK (wCtx 0 3 0 15) ∧
     (let d := ctxPut .w (wSlot (wCtx 0 3 0 15)) (wSht (wCtx 0 3 0 15) { flight := [wDesc 2] })
      (busWrite (wBy d) 1 0xFD00000100F0 (recordBytes (wDesc 2) 4 15) d).1 = 0) ∧
     inEngine (wSht (wCtx 0 3 0 0) { flight := [wDesc 3] }) 0 5 = some (wDesc 3) ∧ ({ wDesc 3 with answer := 4 } : Desc).answer ≠ 0) := by decide +kernel

theorem wit_ShuttleCompletes_kick :
    (let c := wGated (wCtx 0 3 0 2)
     cRel c = 0 ∧ gap32 (cRel c) (cCons c) < 2 ^ 31 ∧ cKickN c = 0 ∧ cProd c ≠ 0 ∧ gap32 (cProd c) 0 < 2 ^ 31 ∧ cProd (wGated (wCtx 0 0 0 2)) = 0) := by
  decide +kernel

/-- A context in DRAM behind channel 0: of a past epoch, and sealed. -/
def wCtxMem (e : Nat) : Device :=
  let d := (((wOn [44, 52, 54] wDev).setReg (mapReg 0) 0x80010000).setReg (chanCfg 0) 0x80000000).setChanState 0 2
  let d := (d.setBit (shtA 0 0) 31).setReg (thmA 0x2208) (BitVec.ofNat 32 e)
  { d with mem := { d.mem with dram := memWrites [] (64 * 6) (ctxBytes (ctxSeal (wCtx 0 3 0 0))) } }
theorem wit_ShuttleFetch :
    (let r := dramRead 8 (ctxAddr (wCtxMem 0) 6) 64 (wCtxMem 0)
     shtWorks (wCtxMem 0) 0 = true ∧ ctxHit (wCtxMem 0) .w 6 = none ∧ r.1 = { data := r.1.data } ∧
     cfld (BitVec.ofNat 512 (leNat r.1.data)) 0x38 0 16 = epochOf r.2 .w ∧ ctxSeal (BitVec.ofNat 512 (leNat r.1.data)) = BitVec.ofNat 512 (leNat r.1.data)) ∧
    (let r := dramRead 8 (ctxAddr (wCtxMem 1) 6) 64 (wCtxMem 1)
     r.1 = { data := r.1.data } ∧ cfld (BitVec.ofNat 512 (leNat r.1.data)) 0x38 0 16 ≠ epochOf r.2 .w) := by decide +kernel

/-- ws 24, wd 32, conv 2, swap 3, three bytes. -/
def wConv : BitVec 256 := BitVec.ofNat 256 (2 ^ 96 * 3 + 2 ^ 120 * 2 + 2 ^ 123 * 3 + 2 ^ 126 * 3 + 2 ^ 130 * 2)
theorem wit_ShuttleConversion : [0x56, 0x34, 0x12].length = dLen wConv ∧ dLen wConv % (widthBits (dWs wConv) / 8) = 0 ∧ dWs wConv = 2 ∧ dWd wConv = 3 ∧
    dConv wConv = 2 ∧ dSwap wConv = 3 := by decide +kernel

/-! ### Pins -/

theorem wit_PinsComplete :
    (let d := wRun [0]
     tabWf regDefault d.regs = true ∧ tabWf pinReset d.pins = true ∧ vioOk d 0 = true ∧ d.fld (pinCfgA 0 5) 17 2 ≠ 2 ∧ d.feeds (pinField 0 5) = false ∧
     d.fld (pinFiltA 0 5) 0 4 ≤ 15 ∧ (d.pin 0 5).filtered ≠ true ∧ d.pinMux 0 5 ≠ 13 ∧ (∀ n, n < 16 → d.bit (bobA (0x200 + 4 * n)) 31 = false) ∧
     intTakes (d.fld (pinCfgA 0 5) 8 3) true = false ∧ muxOk d 4 0 5 = true ∧ muxOk d 3 0 5 = false ∧ fieldOf (pinNorm 0x04000000) 24 4 ≠ d.pinMux 0 5 ∧
     d.bit (pinCfgA 0 5) 29 = false ∧ d.fld (bobA 0) 0 16 = 0 ∧ (d.fifo (bankHalf 0)).length < 1024 ∧
     (∀ k, k < 48 → (d.pin 0 k).pad = false ∧ (d.pin 0 k).filtered = false ∧ d.fld (pinCfgA 0 k) 17 2 ≠ 2)) ∧
    intTakes ((wDev.setFld (pinCfgA 0 5) 8 3 3).fld (pinCfgA 0 5) 8 3) true = true ∧
    (let d := ({ wDev with sys := { wDev.sys with vccio := 0xFE } }).setReg (pinFiltA 0 5) 4
     vioOk d 0 = false ∧ 3 < d.fld (pinFiltA 0 5) 0 4) ∧
    ((wDev.setFld (pinCfgA 0 5) 8 3 4).setPin 0 5 { filtered := true }).fld (pinCfgA 0 5) 8 3 = 4 ∧ (wDev.setFld (pinCfgA 0 5) 8 3 5).fld (pinCfgA 0 5) 8 3 = 5 ∧
    (wDev.setBit (pinCfgA 0 5) 29).bit (pinCfgA 0 5) 29 = true := by decide +kernel

/-! ### Patterns, mends, the fault log -/

def wPat (flags : Byte) : Pattern := { format := 5, flags := flags, region := 6, build := 7, length := 160, sections := [{ body := .regs [] }], key := 4, keyHash := 0, sigR := 0, sigS := 0 }
def wJob (phase : Nat) (part : Bool) (p : Option Pattern) : LoadJob := { source := 1, partial_ := part, auto := false, fallback := false, pat := p, phase := phase, taken := 0, requester := 9, swept := if phase = 3 then [1, 2] else [] }
def wLoad (m : BaseMode) (j : Option LoadJob) : Device :=
  let d := wRun [1, 2]
  { d with sys := { d.sys with mode := m }, load := { d.load with job := j }, pwr := { due := [(1, true), (2, true)] } }

theorem wit_LoadCompletes :
    (let d := wLoad .blank (some (wJob 1 false none))
     tabWf regDefault d.regs = true ∧ watchedSegs d = [] ∧ patPartial (wPat 4) = false ∧ d.safeCause = 0 ∧ headerCause (wPat 4) = 0 ∧ (∀ x ∈ (wPat 4).sections, x.body = .regs []) ∧
     (∀ n, n < 64 → supplyOk d n = true) ∧ d.load.secure = [] ∧ patPartial (wPat 6) = true ∧ d.modeCode = 0) ∧
    (let d := wLoad .loading (some (wJob 2 false (some (wPat 4))))
     d.load.job = some (wJob 2 false (some (wPat 4))) ∧ domainsReady d (wPat 4) false = true ∧ verifyCause (wPat 4) true true true d = 0 ∧
     (registersBad d).1 = false ∧ domainsReady ({ d with pwr := { due := [(9, true)] } } : Device) (wPat 4) false = false) ∧
    ({ wDev with sys := { wDev.sys with integrity := true } } : Device).safeCause ≠ 0 ∧
    (sweptAll (wPat 4) (wJob 3 false (some (wPat 4))) = true ∧ sweptAll (wPat 4) { wJob 3 false (some (wPat 4)) with swept := [1] } = false ∧
     (wDev.up .w = true ∧ wDev.lost .w = false ∧ wDev.up .e = true ∧ wDev.lost .e = false) ∧ (wDev.setUp .e false).up .e = false) ∧
    (let d := (wRun [1]).setFld (fldA 1 0) 29 3 3
     darnRuns d 1 = true ∧ tabGet natZero d.load.darnPos 1 = 0 ∧ tabWf natZero d.load.darnPos = true ∧ d.fld (bobA 0) 0 16 = 0 ∧
     (d.fifo (halfOfField 1)).length < 1024 ∧ [81920 * 1440 + 5].filter (fun k => k / 81920 == 1440 * 1 + 0) = [81920 * 1440 + 5] ∧
     frameRead (frameWrong { d with load := { d.load with upset := [81920 * 1440 + 5, 81920 * 1440 + 6] } } 1 0) = .other) ∧
    (wDev.sys.booted = true ∧ wDev.load.job = none ∧ wDev.load.rsWrite = none ∧ romBoot wDev = false ∧ wDev.bit (thmA 0x2310) 31 = false) := by
  decide +kernel

/-- 02_ R50: a LUT that reads its own output is a combinational loop; one that reads its flip-flop is none. -/
def wLoop (sel : BitVec 8) : Pattern :=
  { wPat 4 with sections := [{ body := .frames ⟨1, [(5, { wTile with cells := [(0, ⟨.whole, 1, wFf, wFf⟩)], sinks := [(0, sel)] })], [], [], []⟩ }] }
theorem test_loop : loopBad wDev (wLoop 96) = true ∧ loopBad wDev (wLoop 128) = false := by decide +kernel

/-- Field 1 runs a repair-safe pattern. -/
def wSafe : Device := (wRun [1]).setBit (fldA 1 0) 28
def wReq1 (k t : Nat) : MendReq := ⟨k, t, false⟩

theorem wit_MendCompletes :
    (let d := wSafe
     tabWf noMend d.mend.pend = true ∧ tabWf noMend d.mend.now = true ∧ tabWf noQueue d.mend.queue = true ∧ d.fld (bobA 0) 0 16 = 0 ∧
     (d.fifo (halfOfField 1)).length < 1024 ∧ d.frozen 1 = false ∧ tabGet noMend d.mend.pend 1 = none ∧
     mendCheck (d.setFld (fldA 1 0x10) 0 9 20) 1 (wReq1 1 20) false = 0 ∧ mendCheck (d.setFld (fldA 1 0x10) 0 9 20) 1 (wReq1 2 20) false = 0 ∧
     mendCheck (d.setFld (fldA 1 0x10) 0 9 20) 1 (wReq1 3 20) false = 0 ∧ mendCheck d 1 (wReq1 2 20) true = 0 ∧ (d.setBit (fldA 1 0x14) 30).bit (fldA 1 0x14) 30 = true ∧
     faultSeen (d.setFifo .w [⟨0x11, 384 * 1 + 20, 0, 0⟩]) 0x11 (384 * 1 + 20) = true ∧ d.modeCode ≠ 5 ∧ faultSeen d 0x18 (48 * 1 + 20) = false ∧
     mendCheck (d.setFld (fldA 1 0x10) 0 9 35) 1 (wReq1 1 35) false = 3) ∧
    (let d := wSafe.setBit (fldA 1 0x14) 31
     d.bit (fldA 1 0x14) 31 = true ∧ d.underLoad 1 = false ∧ d.modeCode = 2 ∧ tabGet (fun _ => (none : Option Nat)) d.mend.test 1 = none ∧ walkStrip d 1 < 10 ∧
     noSpare d 1 (walkStrip d 1) = false ∧ tabGet boolFalse d.mend.east 1 = false ∧ bypass d 1 (walkStrip d 1) = 15 + 1 ∧
     mendCheck d 1 ⟨1, 18 * walkStrip d 1 + 15, true⟩ true = 0) ∧
    (let d := { wSafe with mend := { pend := [(1, some (wReq1 1 20))], test := [(1, some 20)] } }
     tabGet (fun _ => (none : Option Nat)) d.mend.test 1 = some 20 ∧ tabWf (fun _ => (none : Option Nat)) d.mend.test = true ∧
     tabGet noMend d.mend.pend 1 = some (wReq1 1 20) ∧ d.mend.now = [] ∧ d.modeCode = 2 ∧ d.domOn 1 = true ∧ mendTurn d 1 = true ∧ d.replayed 1 = false ∧
     mendCheck d 1 (wReq1 1 20) true = 0) ∧
    (let d := { wSafe with mend := { now := [(1, some (wReq1 1 20))] } }
     tabGet noMend d.mend.now 1 = some (wReq1 1 20) ∧ d.modeCode ≠ 5 ∧ d.bit (fldA 1 0x100) 1 = false ∧ tabGet noQueue d.mend.queue 1 = [] ∧ tabWf noMend d.mend.now = true) := by
  decide +kernel

def wRep : Report := ⟨0x28, 5, 7, 99⟩
def wLog (ring : Tab LogEntry) (opened : List Nat) : Device := { wDev with log := { fifoW := [wRep], ring := ring, opened := opened } }
def wEntry : LogEntry := { first := 1, last := 2, cls := 0x28, src := 5, detail := 3, count := 4, open_ := true, irq := false, mirrored := false }

theorem wit_LogCompletes :
    (let d := wLog [] []
     tabWf regDefault d.regs = true ∧ tabWf logReset d.log.ring = true ∧ d.fld (bobA 0) 0 16 = 0 ∧ (d.fifo .w).length < 1024 ∧ d.fifo .e = [] ∧
     d.log.dropW = 0 ∧ irqEnabled d 0x28 5 = false ∧ openOf d 0x28 5 = none ∧ d.log.opened.length < 256 ∧ d.log.opened.contains (d.fld (thmA 0x2420) 16 12) = false ∧
     1024 ≤ (List.replicate 1024 wRep).length) ∧
    (let d := wLog [(3, wEntry)] [3]
     tabWf logReset d.log.ring = true ∧ openOf d 0x28 5 = some 3) := by decide +kernel

/-! ### Bobbin -/

/-- Bobbin in state st with half W's record x, ring W of 1 MiB in DRAM, and the fields of `fs` in the replay set. -/
def wBob (st : Nat) (fs : Word) (x : BobHalf) : Device :=
  let d := (((wOn [44] (wRun [0])).setReg (mapReg 0) 0x80010000).setReg (chanCfg 0) 0x80000000).setChanState 0 2
  let d := ((d.setFld (bobA 4) 29 3 st).setReg (bobA 0x108) 1).setFld (bobA 0) 16 8 2
  { d with bob := { w := x, fields := fs } }
/-- The ring of W begins with an anchor for build 7, the build that runs. -/
def wReplay : Device := { wBob 3 1 {} with mem := { (wBob 3 1 {}).mem with dram := memWrites [] 0 [2, 0, 0, 0, 7, 0, 0, 0] }, load := { pattern := some (wPat 4) } }
def wRow : List Byte := [0x20, 1, 2, 3, 4, 5, 6, 7]

theorem wit_BobbinCompletes :
    (tabWf regDefault (wBob 0 0 {}).regs = true ∧ tabWf crossNew (wBob 0 0 {}).bob.cross = true ∧ (wBob 0 0 {}).bobState = 0 ∧ (wBob 1 0 {}).bobState = 1) ∧
    (let d := { wBob 2 0 { postLeft := some 0 } with bob := { w := { postLeft := some 0 }, e := { postLeft := some 0 } } }
     d.bobState = 2 ∧ (d.bobHalf .w).postLeft = some 0 ∧ (d.bobHalf .e).postLeft = some 0) ∧
    (let d := wReplay
     d.bobState = 3 ∧ ringBytes d .w ≠ 0 ∧ ringBytes d .e = 0 ∧ (anchorBuild .w d).1 = some 7 ∧ tabWf regDefault (anchorBuild .w d).2.regs = true ∧ loadedBuild d = some 7) ∧
    (let d := wBob 1 1 { staging := [wRow], anchored := true }
     let q := ringPut .w wRow d
     d.up .w = true ∧ d.bobState = 1 ∧ (d.bobHalf .w).postLeft = none ∧ ringBytes d .w ≠ 0 ∧ 0 + wRow.length + 16 ≤ 4096 ∧ wRow.head? ≠ some 1 ∧ wRow.head? ≠ some 2 ∧
     (0 + ringBytes d .w - ringAnchor d .w % ringBytes d .w) % ringBytes d .w + wRow.length ≤ ringBytes d .w ∧ q.1 = 0 ∧ q.2.bob = d.bob ∧ q.2.up .w = true ∧
     tabWf regDefault q.2.regs = true ∧ d.bobTakes .w = true ∧ (d.bobHalf .w).dropping = false ∧ stagedBytes (d.bobHalf .w) + 16 ≤ 448 * 1024 ∧
     (wBob 1 1 { dropping := true, anchored := true }).bobTakes .w = true ∧
     crossWatched d 5 = true ∧ d.bobTakes (crossHalf d 5) = true ∧ crossWatched d 2047 = false ∧ (tabGet crossNew d.bob.cross 10).r ≠ 9) ∧
    (let d := { wBob 4 1 {} with bob := { fields := 1, live := true } }
     d.feeds 0 = true ∧ d.feeds 1 = false ∧ d.bobState = 4) ∧
    (predict 5 false 100 200 {}).1 ≠ [] ∧ (predict 5 false 100 200 { seen := true, r := 2 ^ 25 }).1 = [] := by decide +kernel

/-! ### The command protocol -/

def wKept : Kept := { seq := 1, crc := 5, reply := [1] }
def wSess (c : Carrier) (k : List Kept) : Session := { id := 9, carrier := c, secure := true, tries := 0, major := 2, minor := 3, nonce := 0, kept := k, tookOver := false }
/-- One secure session, id 9, at JTAG. -/
def wCmd : Device := { wHost (wRun (upto 64)) with cmd := { sessions := [wSess .jtag []] } }
/-- Pins lo to lo + n − 1 of bank 0 carry function fn. -/
def wPins (fn lo n : Nat) : Device := wCmd.each (upto n) (fun d i => d.setFld (pinCfgA 0 (lo + i)) 24 4 fn)
def wPkt (op : Nat) (p : List Byte) : List Byte := packet rq0 op 0 0 p
def wHas (c : Carrier) (d : Device) : Device := { d with cmd := { d.cmd with arrived := [(c, [1])], replies := [(c, [7, 8])], overflow := [c] } }
def wLong : LongRun := { op := .load, rq := rq0, opcode := 0x0101 }

theorem wit_CarriersComplete :
    (targetPins (wPins 5 10 4) .w 5 10 4 = true ∧ targetPins (wPins 6 14 2) .w 6 14 2 = true ∧ (wHas .spiW (wPins 5 10 4)).cmd.heldBack = [] ∧
     (wHas .spiW wCmd).cmd.arrived.any (fun x => x.1 == Carrier.spiW) = true ∧ headReply (wHas .spiW wCmd) .spiW = some [7, 8] ∧
     wCmd.cmd.arrived = [] ∧ headReply wCmd .spiW = none ∧ headReply wCmd .jtag = none ∧ headReply (wHas .jtag wCmd) .jtag = some [7, 8] ∧ wCmd.cmd.jtagOut = 0) ∧
    (idxGap 1 (ringIdx wCmd .network 0x30) ≤ ringSlots wCmd .network ∧ idxGap 1 (ringIdx wCmd .network 0x24) ≤ ringSlots wCmd .network ∧ tabWf regDefault wCmd.regs = true) ∧
    (20 + u32 (wPkt 4 []) 8 ≤ (wPkt 4 []).length ∧ (wPkt 4 []).length = 20) ∧
    (thimbleServes wCmd = true ∧ watchedSegs wCmd = [] ∧ wCmd.safeCause = 0 ∧ wCmd.sys.mode = .running ∧ wCmd.bobTakes (carrierHalf wCmd .jtag) = false ∧
     (packetReply 8 .jtag (wPkt 4 []) (bobPacket .jtag (wPkt 4 []) wCmd)).1.1 = stOk ∧ (packetReply 8 .jtag [] (bobPacket .jtag [] wCmd)).1.1 = stBadCheck ∧ stOk ≠ waits ∧ stBadCheck ≠ stOk ∧ stBadCheck ≠ stAccepted) ∧
    (List.replicate 4 (Carrier.jtag, [(1 : Byte)])).length = 4 ∧ ringed .jtag = false ∧ longEnd wCmd wLong = some (0, [0, 0, 0, 0]) ∧
    regionAt wCmd 0xFF0000730800 = none ∧ regionAt wCmd 0xFF0000730804 = none ∧ regionAt wCmd 0xFF0000730004 = none := by decide +kernel

theorem wit_PacketChecks :
    ([] : List Byte).length < 20 ∧
    (let b := wPkt 4 []
     20 ≤ b.length ∧ u16 b 12 = (crc16 (b.take 12)).toNat ∧ u8 b 6 = 0 ∧ u16 b 14 = 0 ∧ versionBad wCmd (ctxOf .jtag b) (u16 b 2) = false ∧
     u32 b 8 ≤ b.length - 20 ∧ 20 + u32 b 8 ≤ 4096 ∧ u16 (b.set 5 9) 12 ≠ (crc16 ((b.set 5 9).take 12)).toNat ∧
     u32 (b.set 16 (u8 b 16 + 1)) (16 + u32 b 8) ≠ (crc32 ((b.set 16 (u8 b 16 + 1)).take (16 + u32 b 8))).toNat) ∧
    (let b := packet rq0 4 1 0 []
     u8 b 6 ≠ 0 ∨ u16 b 14 ≠ 0) ∧
    ¬ (u8 (packet { rq0 with major := 3 } 4 0 0 []) 0, u8 (packet { rq0 with major := 3 } 4 0 0 []) 1) ∈
      [(1, 0), (1, 1), (1, 2), (1, 3), (1, 4), (2, 0), (2, 1), (2, 2), (2, 3)] ∧
    ((wPkt 0x0101 (List.replicate 16 0)).take 24).length - 20 < u32 ((wPkt 0x0101 (List.replicate 16 0)).take 24) 8 ∧
    versionBad wCmd rq0 4 = false ∧ romBoot wCmd = false ∧ (opRow 4 (rqVersion rq0)).isSome = true ∧
    sessionOf wDev rq0.carrier rq0.id.toNat = none ∧ versionBad wDev rq0 4 = false ∧
    sessionOf ({ wCmd with cmd := { wCmd.cmd with sessions := [wSess .jtag [wKept]] } } : Device) .jtag 9 = some (wSess .jtag [wKept]) ∧
    ([wKept].find? (fun k => k.seq == rq0.seq.toNat) = some wKept) ∧
    (rq0.major.toNat, rq0.minor.toNat) ∈ [(1, 0), (1, 1), (1, 2), (1, 3), (1, 4), (2, 0), (2, 1), (2, 2), (2, 3)] ∧ devId wCmd ≠ 7 := by decide +kernel

/-! ### Selvedge -/

/-- Link 0 in state st with negotiated version v, enabled, its 4 lanes locked. -/
def wLink (st v : Nat) : Device :=
  let d := wRun [0]
  let d := (upto 4).foldl (fun d i => (d.setReg (laneCtl (slvLane 0 i)) 0x14040000).setReg (laneStat (slvLane 0 i)) 0x40000000) d
  ((d.setBit (slvCtl 0) 28).setFld (slvStat 0) 29 3 st).setFld (slvStat 0) 27 2 v
def wHead (dev mc ty : Nat) : Header := { hd0 with dstDev := Fin.ofNat 8 dev, mclass := Fin.ofNat 16 mc, type := Fin.ofNat 8 ty }

theorem wit_SelvedgeCompletes :
    (let d := wLink 1 0
     tabWf regDefault d.regs = true ∧ tabWf linkReset d.slv.links = true ∧ fieldOf 0x10000000 29 3 = 0 ∧ slvEn wDev 0 = false ∧ fieldOf 0x10000000 28 1 = 1 ∧
     slvEn d 0 = true ∧ slvState d 0 = 1 ∧ 4 ≤ ((slvLanes d 0).filter (fun l => d.bit (laneStat l) 30)).length / 4 * 4 ∧
     ((slvLanes wDev 0).filter (fun l => wDev.bit (laneStat l) 30)).length / 4 * 4 < 4) ∧
    (slvState (wLink 2 0) 0 = 2 ∧ (3 : BitVec 3).toNat ≠ devId (wLink 2 0) ∧ (0 : BitVec 3).toNat = devId (wLink 2 0)) ∧
    (slvState (wLink 4 0) 0 = 4 ∧ slvEn (wLink 4 0) 0 = true) ∧
    (let d := ((wLink 3 3).setReg (thmA 0x2600) 0x90).setBit (slvCtl 0) 1
     slvState d 0 = 3 ∧ slvState (slvCutPacket 0 { hd := wHead 0 9 0, data := [], got := 1, hops := 0 } d) 0 = 3 ∧ d.net.outst = [] ∧ (∀ m, m < 8 → refSrc (d.each (upto 8) (fun d m => d.setReg (refA m) 0x30000)) m ≠ 0) ∧
     (wHead 0 1 0).dstDev.val = devId d ∧ isRequest (wHead 0 1 2) = false ∧ isRequest (wHead 0 1 0) = true ∧ (wHead 0 1 0).mclass.val ≤ 8 ∧
     d.bit (slvCtl 0) 1 = true ∧ 8 < (wHead 0 9 0).mclass.val ∧ (wHead 1 1 0).dstDev.val ≠ devId d ∧ (d.setBit (thmA 0x2604) 0).bit (thmA 0x2604) 0 = true ∧
     d.bit (thmA 0x2604) 0 = false ∧ d.fld (slvStat 0) 27 2 = 3 ∧ routeLink d 1 = some 1 ∧
     slvState (d.setFld (slvStat 1) 27 5 15) 1 = 3 ∧ (d.setFld (slvStat 1) 27 5 15).fld (slvStat 1) 27 2 = 3) := by decide +kernel

/-! ### The opcodes -/

/-- d with one secure session, id 9 at JTAG, which holds a claim of each kind but pins. -/
def wAs (d : Device) : Device :=
  { d with cmd := { sessions := [wSess .jtag []], claims := [⟨1, 0, 0, 9⟩, ⟨2, 0, 0, 9⟩, ⟨3, 0, 5, 9⟩, ⟨4, 1, 7, 8⟩] } }
def wMode (m : BaseMode) : Device := { wAs wDev with sys := { wDev.sys with mode := m } }
def wKeys : Device := let d := wAs wDev; { d with load := { d.load with keys := [(0, { enrolled := true, revoked := false, hash := 0 })], patKeys := [(0, some 1)] } }

/-- A secure session asks for any opcode of the tables but HELLO. -/
theorem wit_Admitted : ∀ r ∈ opRows, r.code ≠ 1 → (wAs wDev).admits rq0 r.code (wSess .jtag []) := by
  unfold Device.admits Device.asks
  decide +kernel

theorem wit_SessionRequestsComplete :
    (let d := wAs (wRun (upto 64))
     thimbleServes d = true ∧ versions.contains (rqVersion rq0) = true ∧ chosenVersion (1, 0) (2, 3) = some (2, 3) ∧ d.bobTakes (carrierHalf d rq0.carrier) = false ∧ rq0.id ≠ 0 ∧
     rq0.id ≠ 255 ∧ d.cmd.sessions.any (fun y => y.id == rq0.id.toNat && y.carrier != rq0.carrier) = false ∧
     (closeSession rq0.carrier rq0.id.toNat d).cmd.sessions.length < 32 ∧ d.load.job = none ∧ d.sys.tripLow = false ∧ d.modeCode = 2 ∧ d.load.decFailW = false ∧
     d.frozen 1 = false ∧ d.underLoad 1 = false ∧ supplyOk d 1 = true ∧ d.domState 1 ≠ 3 ∧ d.up .w = true ∧ tabWf regDefault d.regs = true ∧
     d.timeState (setTarget d .w) = 0 ∧ d.leads .w = true ∧ d.leads .e = false ∧ d.larkSplit = false ∧ d.aligned .e = false ∧ (d.setBit (statA .e) 25).aligned .e = true ∧
     needClaim d 1 0 0 9 = none ∧ needClaim d 2 0 0 9 = none ∧ chanRefused (d.setReg (chanCtlA .w 0 0) 0x00050001) .w 0 0x80000000 = false ∧
     eValid 1 = false ∧ eValid (2 ^ 63) = true ∧ entryRefused d (2 ^ 63 + 2 ^ 56) = true) ∧
    (anyEnrolled wKeys = true ∧ (tabGet keyReset wKeys.load.keys 0).enrolled = true ∧ (tabGet keyReset wKeys.load.keys 1).enrolled = false) ∧
    flashArgsOk 1 8 = true ∧ (wMode .dormant).modeCode = 4 ∧ (wMode .blank).modeCode = 0 ∧
    ({ wDev with mend := { now := [(1, some ⟨1, 2, false⟩)] } } : Device).frozen 1 = true := by decide +kernel

theorem wit_BlockRequestsComplete :
    (let d := wAs (wMch 2 {})
     passBusy d 0 = false ∧ d.cmd.long = [] ∧ (passStart 0 ((d.setFld (mchA 0 0x908) 0 29 0).setFld (mchA 0 0x90C) 0 29 5)).1 = 0 ∧ d.chanState 0 = 2 ∧
     d.bit (mchA 0 0) 28 = false ∧ (eccMark 0 0 5 (eccFields 0 0 5 d)).1 = false ∧ (eccMark 0 0 25 (eccFields 0 0 25 d)).1 = true) ∧
    (let d := wAs (wLin 0 none)
     rngState d 2 = 0 ∧ tabWf regDefault d.regs = true ∧ (liningOpen 2 false (linFields 2 false d)).1 = 0 ∧ (liningClose 2 true (linFields 2 true (wAs (wLin 2 none)))).1 = 0 ∧
     (liningRekey 2 (linFields 2 false (wAs (wLin 2 none)))).1 = 0 ∧ rngState (wLin 2 none) 2 ≠ 0 ∧ ¬ (0x1000 = rngBase (wLin 2 none) 2)) ∧
    (let d := wAs wSafe
     (mendRequest 1 ⟨1, 20, false⟩ false (d.setFld (fldA 1 0x10) 0 9 20)).1 = 0 ∧ (∀ f ∈ regionFields 2, d.bit (fldA f 0) 28 = true) ∧ d.modeCode ≠ 0) ∧
    (let d := wAs (wBob 0 0 {})
     (bobCmd 1 d).1 = false ∧ (bobCmd 4 d).1 = true) ∧
    (let d : Device := { wAs wDev with cmd := { (wAs wDev).cmd with update := some { rtype := 1, total := 2, bytes := [5, 6], id := 9 } } }
     d.cmd.update = some { rtype := 1, total := 2, bytes := [5, 6], id := 9 } ∧ (updateEndAct rq0 true d).1 = (1, []) ∧ romBoot d = false ∧ d.cmd.long = []) ∧
    (tabWf keyReset wKeys.load.keys = true ∧ tabWf noPatKey wKeys.load.patKeys = true ∧ tabGet noPatKey wKeys.load.patKeys 1 = none ∧
     tabGet noPatKey wKeys.load.patKeys 0 ≠ none) ∧
    (let d := wAs wDev
     claimInRange 4 1 7 1 = true ∧ firstHeld d 4 1 7 1 9 = some ⟨4, 1, 7, 8⟩ ∧ firstHeld d 4 1 8 2 9 = none ∧ claimInRange 4 1 8 2 = true) ∧
    (let d := wAs (wRun (upto 64))
     (busRead (byClass d (accessClass (wSess .jtag []) 0xFF0000730800 4 d)) 0xFF0000730800 4 d).1.status = 0 ∧ writeRule (wSess .jtag []) 0xFF0000730800 0 d = none ∧
     writeRules (wSess .jtag []) [0xFF0000730800] 4 [0, 0, 0, 1] d = none ∧ (busWrite (byClass d (accessClass (wSess .jtag []) 0xFF0000730800 4 d)) 2 0xFF0000730800 [0, 0, 0, 1] d).1 ≠ notTaken) ∧
    (let d := wAs (wSht (wCtx 0 3 0 0) {})
     needClaim d 3 0 5 9 = none ∧ shtRuns d 0 = true ∧ queueEngine d 5 = 0 ∧ (ctxBytes (wCtx 0 3 0 0)).take 56 ≠ [] ∧ ((ctxBytes (wCtx 0 3 0 0)).take 56).length = 56 ∧
     cEngine (BitVec.ofNat 512 (leNat ((ctxBytes (wCtx 0 3 0 0)).take 56))) = 0 ∧
     (ctxWrite 0 5 (wCtx 0 3 0 0) (d.setFld (shtA 0 0x300) 0 20 5)).1 = false ∧ (ctxState 0 5 3 (d.setFld (shtA 0 0x300) 0 20 5)).1 = false) ∧
    (let d := wAs ((wLink 3 3).setReg (thmA 0x2600) 0x80)
     (routeLink d 1).any (fun k => slvState d k == 3) = true ∧ (routeLink d 2).any (fun k => slvState d k == 3) = false ∧ 1 ≠ devId d ∧
     (packetReply 8 rq0.carrier [1] d).1.1 = stBadCheck) := by decide +kernel

end Sys2Proof.Machine
end

section
/-!
The canonical form of registers and memories over every step. `Canonical` restates `Device.canonical` as a proposition with one lemma
for each operation of the model, in the order of the model's text: each says that the operation keeps the form, by the shape of the
operation's own definition. A command is one such operation, lifted to the state. Where an operation reads a memory at an address made
of literals, its proof forgets the values of the local definitions (`clear_value`), which the kernel would else evaluate.
-/
namespace Sys2Proof.Machine

/-- The device's registers and memories are in canonical form, as a proposition of its own: each operation has a lemma `Canonical.op`,
so that `hd.op₁.op₂` reads as the run of the operations on a device with `hd : Canonical d`. -/
structure Canonical (d : Device) : Prop where
  holds : d.canonical = true

/-- An operation keeps the canonical form. -/
def Keeps (f : Device → Device) : Prop := ∀ ⦃d⦄, Canonical d → Canonical (f d)

/-- The same of an operation with a further result. -/
def KeepsSnd {α : Type} (f : Device → α × Device) : Prop := ∀ ⦃d⦄, Canonical d → Canonical (f d).2

/-- A device in canonical form, where there is one at all. -/
def AllCanonical (o : Option Device) : Prop := ∀ ⦃d⦄, o = some d → Canonical d

section
variable {d e t : Device}

/-! ### The shape of programs: frames, choices, pairs and loops -/

theorem Canonical.regs (hd : Canonical d) : tabWf regDefault d.regs = true := ((Device.canonical_iff d).mp hd.holds).1
theorem Canonical.dram (hd : Canonical d) : d.mem.dram.wf = true := ((Device.canonical_iff d).mp hd.holds).2.1
theorem Canonical.hostMem (hd : Canonical d) : d.host.mem.wf = true := ((Device.canonical_iff d).mp hd.holds).2.2

section
variable {r : Tab Word} {m mh : Memory} {fresh sys log fab bram clv net time clk pwr mend load seam lanes eth down jesd chans symErr
  poisoned mix tagBad blkBad mirBad mirOld keys nextKey treeKey sweeps queued ctrs gens sels cache atRelease savedMark savedDly sht
  pins bob cmd slv rsp}

/-- A device is in canonical form where its registers and its two memories are, whatever else it holds. -/
theorem Canonical.intro (hr : tabWf regDefault r = true) (hm : m.wf = true) (hh : mh.wf = true) :
    Canonical ⟨r, fresh, sys, log, fab, bram, clv, net, time, clk, pwr, mend, load, seam, lanes, eth, ⟨mh, down⟩, jesd,
      ⟨chans, m, symErr, poisoned, mix, tagBad, blkBad, mirBad, mirOld, keys, nextKey, treeKey, sweeps, queued, ctrs, gens, sels, cache,
        atRelease, savedMark, savedDly⟩, sht, pins, bob, cmd, slv, rsp⟩ :=
  ⟨(Device.canonical_iff _).mpr ⟨hr, hm, hh⟩⟩

/-- An update `{ d with … }` of anything but the registers, the memory channels and the host. -/
theorem Canonical.frame (hd : Canonical d) :
    Canonical ⟨d.regs, fresh, sys, log, fab, bram, clv, net, time, clk, pwr, mend, load, seam, lanes, eth, d.host, jesd, d.mem, sht,
      pins, bob, cmd, slv, rsp⟩ :=
  .intro hd.regs hd.dram hd.hostMem

/-- An update `{ d with mem := { d.mem with … } }` of the memory channels' state, with the DRAM contents `m`. -/
theorem Canonical.frameDram (hd : Canonical d) (hm : m.wf = true) :
    Canonical ⟨d.regs, fresh, sys, log, fab, bram, clv, net, time, clk, pwr, mend, load, seam, lanes, eth, d.host, jesd,
      ⟨chans, m, symErr, poisoned, mix, tagBad, blkBad, mirBad, mirOld, keys, nextKey, treeKey, sweeps, queued, ctrs, gens, sels, cache,
        atRelease, savedMark, savedDly⟩, sht, pins, bob, cmd, slv, rsp⟩ :=
  .intro hd.regs hm hd.hostMem

/-- The same where the DRAM contents stay. -/
theorem Canonical.frameMem (hd : Canonical d) :
    Canonical ⟨d.regs, fresh, sys, log, fab, bram, clv, net, time, clk, pwr, mend, load, seam, lanes, eth, d.host, jesd,
      ⟨chans, d.mem.dram, symErr, poisoned, mix, tagBad, blkBad, mirBad, mirOld, keys, nextKey, treeKey, sweeps, queued, ctrs, gens, sels,
        cache, atRelease, savedMark, savedDly⟩, sht, pins, bob, cmd, slv, rsp⟩ :=
  hd.frameDram hd.dram

/-- An update `{ d with host := … }` that leaves the host's memory. -/
theorem Canonical.frameHost (hd : Canonical d) :
    Canonical ⟨d.regs, fresh, sys, log, fab, bram, clv, net, time, clk, pwr, mend, load, seam, lanes, eth, ⟨d.host.mem, down⟩, jesd,
      d.mem, sht, pins, bob, cmd, slv, rsp⟩ :=
  .intro hd.regs hd.dram hd.hostMem

end

section
variable {c : Prop} [Decidable c] {α β : Type}

theorem Canonical.ite (hd : Canonical d) (he : Canonical e) : Canonical (if c then d else e) := by
  split <;> assumption

theorem Canonical.ite_snd {p q : α × Device} (hp : Canonical p.2) (hq : Canonical q.2) : Canonical (if c then p else q).2 := by
  split <;> assumption

theorem Canonical.ite_third {p q : α × β × Device} (hp : Canonical p.2.2) (hq : Canonical q.2.2) :
    Canonical (if c then p else q).2.2 := by
  split <;> assumption

theorem AllCanonical.none : AllCanonical none := fun _ h => nomatch h

theorem AllCanonical.some (hd : Canonical d) : AllCanonical (some d) :=
  fun _ h => Option.some.inj h ▸ hd

theorem AllCanonical.ite {o p : Option Device} (ho : AllCanonical o) (hp : AllCanonical p) : AllCanonical (if c then o else p) := by
  split <;> assumption

theorem AllCanonical.bind {o : Option Device} {f : Device → Option Device} (ho : AllCanonical o)
    (hf : ∀ e, Canonical e → AllCanonical (f e)) : AllCanonical (o.bind f) := fun _ h =>
  have ⟨e, he, hfe⟩ := Option.bind_eq_some_iff.mp h
  hf e (ho he) hfe

theorem Canonical.snd_of_eq {p : α × Device} {x : α} (hp : Canonical p.2) (h : p = (x, e)) : Canonical e := by
  rwa [h] at hp

theorem Canonical.pair {x : α} (hd : Canonical d) : Canonical (x, d).2 := hd

theorem Canonical.triple {x : α} {y : β} (hd : Canonical d) : Canonical (x, y, d).2.2 := hd

theorem Canonical.foldl {xs : List α} {f : Device → α → Device} (hd : Canonical d) (hf : ∀ e x, Canonical e → Canonical (f e x)) :
    Canonical (xs.foldl f d) :=
  List.foldlRecOn xs f hd fun e he x _ => hf e x he

theorem Canonical.foldl_snd {xs : List α} {f : β × Device → α → β × Device} {p : β × Device} (hp : Canonical p.2)
    (hf : ∀ (q : β × Device) x, Canonical q.2 → Canonical (f q x).2) : Canonical (xs.foldl f p).2 :=
  List.foldlRecOn (motive := fun q => Canonical q.2) xs f hp fun q hq x _ => hf q x hq

theorem Canonical.foldl_third {γ : Type} {xs : List α} {f : β × γ × Device → α → β × γ × Device} {p : β × γ × Device} (hp : Canonical p.2.2)
    (hf : ∀ (q : β × γ × Device) x, Canonical q.2.2 → Canonical (f q x).2.2) : Canonical (xs.foldl f p).2.2 :=
  List.foldlRecOn (motive := fun q => Canonical q.2.2) xs f hp fun q hq x _ => hf q x hq

theorem Canonical.each {xs : List α} {f : Device → α → Device} (hd : Canonical d) (hf : ∀ e x, Canonical e → Canonical (f e x)) :
    Canonical (d.each xs f) := hd.foldl hf

end

theorem Canonical.when {c f} (hd : Canonical d) (hf : Keeps f) : Canonical (d.when c f) :=
  ⟨Device.when_canonical _ _ _ (fun _ he => (hf ⟨he⟩).holds) hd.holds⟩
theorem Canonical.byThimble {mc f} (hd : Canonical d) (hf : Keeps f) : Canonical (d.byThimble mc f) :=
  ⟨Device.byThimble_canonical _ _ _ (fun _ he => (hf ⟨he⟩).holds) hd.holds⟩
theorem Canonical.atBlock {n hard f} (hd : Canonical d) (hf : Keeps f) : Canonical (d.atBlock n hard f) :=
  ⟨Device.atBlock_canonical _ _ _ _ (fun _ he => (hf ⟨he⟩).holds) hd.holds⟩
theorem Canonical.hostWrites {a bs} (hd : Canonical d) : Canonical { d with host := { d.host with mem := memWrites d.host.mem a bs } } :=
  ⟨Device.hostWrites_canonical _ _ _ hd.holds⟩

/-! ### Registers, reports and the setters of the device's parts -/

theorem Canonical.setReg {a v} (hd : Canonical d) : Canonical (d.setReg a v) := ⟨Device.setReg_canonical _ _ _ hd.holds⟩
theorem Canonical.setFld {a lo n v} (hd : Canonical d) : Canonical (d.setFld a lo n v) := ⟨Device.setFld_canonical _ _ _ _ _ hd.holds⟩
theorem Canonical.putBit {a k b} (hd : Canonical d) : Canonical (d.putBit a k b) := ⟨Device.putBit_canonical _ _ _ _ hd.holds⟩
theorem Canonical.setBit {a k} (hd : Canonical d) : Canonical (d.setBit a k) := ⟨Device.setBit_canonical _ _ _ hd.holds⟩
theorem Canonical.bump {a lo n x} (hd : Canonical d) : Canonical (d.bump a lo n x) := ⟨Device.bump_canonical _ _ _ _ _ hd.holds⟩
theorem Canonical.bumpSat {a lo n x} (hd : Canonical d) : Canonical (d.bumpSat a lo n x) := ⟨Device.bumpSat_canonical _ _ _ _ _ hd.holds⟩
theorem Canonical.clearRegs {p} (hd : Canonical d) : Canonical (d.clearRegs p) := ⟨Device.clearRegs_canonical _ _ hd.holds⟩
theorem Canonical.setLineBytes {n line bs} (hd : Canonical d) : Canonical (d.setLineBytes n line bs) :=
  ⟨Device.setLineBytes_canonical _ _ _ _ hd.holds⟩
theorem Canonical.setEngine {e x} (hd : Canonical d) : Canonical (d.setEngine e x) := ⟨(Device.setEngine_canonical _ _ _).trans hd.holds⟩
theorem Canonical.setSegment {g x} (hd : Canonical d) : Canonical (d.setSegment g x) :=
  ⟨(Device.setSegment_canonical _ _ _).trans hd.holds⟩
theorem Canonical.setLane {l x} (hd : Canonical d) : Canonical (d.setLane l x) := ⟨(Device.setLane_canonical _ _ _).trans hd.holds⟩
theorem Canonical.setPin {b i x} (hd : Canonical d) : Canonical (d.setPin b i x) := ⟨(Device.setPin_canonical _ _ _ _).trans hd.holds⟩
theorem Canonical.setFab {x} (hd : Canonical d) : Canonical (d.setFab x) := ⟨(Device.setFab_canonical _ _).trans hd.holds⟩
theorem Canonical.setHedge {k h} (hd : Canonical d) : Canonical (d.setHedge k h) := ⟨(Device.setHedge_canonical _ _ _).trans hd.holds⟩
theorem Canonical.setGusset {k g} (hd : Canonical d) : Canonical (d.setGusset k g) := ⟨(Device.setGusset_canonical _ _ _).trans hd.holds⟩
theorem Canonical.setLogEntry {i e} (hd : Canonical d) : Canonical (d.setLogEntry i e) :=
  ⟨(Device.setLogEntry_canonical _ _ _).trans hd.holds⟩
theorem Canonical.setJesd {j x} (hd : Canonical d) : Canonical (d.setJesd j x) := ⟨(Device.setJesd_canonical _ _ _).trans hd.holds⟩
theorem Canonical.setEth {m x} (hd : Canonical d) : Canonical (d.setEth m x) := ⟨(Device.setEth_canonical _ _ _).trans hd.holds⟩
theorem Canonical.setChan {n c} (hd : Canonical d) : Canonical (d.setChan n c) := ⟨(Device.setChan_canonical _ _ _).trans hd.holds⟩
theorem Canonical.setSymErrs {n line xs} (hd : Canonical d) : Canonical (d.setSymErrs n line xs) :=
  ⟨(Device.setSymErrs_canonical _ _ _ _).trans hd.holds⟩
theorem Canonical.setPoisoned {n line b} (hd : Canonical d) : Canonical (d.setPoisoned n line b) :=
  ⟨(Device.setPoisoned_canonical _ _ _ _).trans hd.holds⟩
theorem Canonical.setPll {p x} (hd : Canonical d) : Canonical (d.setPll p x) := ⟨(Device.setPll_canonical _ _ _).trans hd.holds⟩
theorem Canonical.setSlvLink {s x} (hd : Canonical d) : Canonical (d.setSlvLink s x) :=
  ⟨(Device.setSlvLink_canonical _ _ _).trans hd.holds⟩
theorem Canonical.answer {st data} (hd : Canonical d) : Canonical (d.answer st data) := ⟨(Device.answer_canonical _ _ _).trans hd.holds⟩
theorem Canonical.setCal {h c} (hd : Canonical d) : Canonical (d.setCal h c) := ⟨(Device.setCal_canonical _ _ _).trans hd.holds⟩
theorem Canonical.setEntry {h i e} (hd : Canonical d) : Canonical (d.setEntry h i e) :=
  ⟨(Device.setEntry_canonical _ _ _ _).trans hd.holds⟩
theorem Canonical.setChan08 {h c x} (hd : Canonical d) : Canonical (d.setChan08 h c x) :=
  ⟨(Device.setChan08_canonical _ _ _ _).trans hd.holds⟩
theorem Canonical.setUp {h b} (hd : Canonical d) : Canonical (d.setUp h b) := ⟨(Device.setUp_canonical _ _ _).trans hd.holds⟩
theorem Canonical.setLost {h b} (hd : Canonical d) : Canonical (d.setLost h b) := ⟨(Device.setLost_canonical _ _ _).trans hd.holds⟩
theorem Canonical.setLark {h l} (hd : Canonical d) : Canonical (d.setLark h l) := ⟨(Device.setLark_canonical _ _ _).trans hd.holds⟩
theorem Canonical.setBobHalf {h b} (hd : Canonical d) : Canonical (d.setBobHalf h b) :=
  ⟨(Device.setBobHalf_canonical _ _ _).trans hd.holds⟩
theorem Canonical.setFifo {h x} (hd : Canonical d) : Canonical (d.setFifo h x) := ⟨(Device.setFifo_canonical _ _ _).trans hd.holds⟩
theorem Canonical.takeFree (hd : Canonical d) : Canonical d.takeFree.2 := ⟨(Device.takeFree_canonical _).trans hd.holds⟩
theorem Canonical.takeFreeBool (hd : Canonical d) : Canonical d.takeFreeBool.2 := ⟨(Device.takeFreeBool_canonical _).trans hd.holds⟩
theorem Canonical.setDisc {h x} (hd : Canonical d) : Canonical (d.setDisc h x) := ⟨(Device.setDisc_canonical _ _ _).trans hd.holds⟩
theorem Canonical.setRef {h n x} (hd : Canonical d) : Canonical (d.setRef h n x) := ⟨(Device.setRef_canonical _ _ _ _).trans hd.holds⟩
theorem Canonical.setShuttle {n x} (hd : Canonical d) : Canonical (d.setShuttle n x) := ⟨Device.setShuttle_canonical _ _ _ hd.holds⟩
theorem Canonical.setTrans {n t} (hd : Canonical d) : Canonical (d.setTrans n t) := ⟨Device.setTrans_canonical _ _ _ hd.holds⟩
theorem Canonical.msix {v} (hd : Canonical d) : Canonical (d.msix v) := ⟨(Device.msix_canonical _ _).trans hd.holds⟩
theorem Canonical.mgmt (hd : Canonical d) : Canonical d.mgmt := ⟨(Device.mgmt_canonical _).trans hd.holds⟩
theorem Canonical.raiseInt {k} (hd : Canonical d) : Canonical (d.raiseInt k) := ⟨Device.raiseInt_canonical _ _ hd.holds⟩
theorem Canonical.report (hd : Canonical d) : Canonical d.report := ⟨Device.report_canonical _ hd.holds⟩
theorem Canonical.reportFailover (hd : Canonical d) : Canonical d.reportFailover := ⟨Device.reportFailover_canonical _ hd.holds⟩
theorem Canonical.bobRecord {h r} (hd : Canonical d) : Canonical (d.bobRecord h r) := ⟨(Device.bobRecord_canonical _ _ _).trans hd.holds⟩
theorem Canonical.bobGap {h c} (hd : Canonical d) : Canonical (d.bobGap h c) := ⟨Device.bobGap_canonical _ _ _ hd.holds⟩
theorem Canonical.bobTrigger {source} (hd : Canonical d) : Canonical (d.bobTrigger source) := ⟨Device.bobTrigger_canonical _ _ hd.holds⟩
theorem Canonical.bobFreeze {cause} (hd : Canonical d) : Canonical (d.bobFreeze cause) := ⟨Device.bobFreeze_canonical _ _ hd.holds⟩
theorem Canonical.fault {h cls src detail} (hd : Canonical d) : Canonical (d.fault h cls src detail) :=
  ⟨Device.fault_canonical _ _ _ _ _ hd.holds⟩
theorem Canonical.settle (hd : Canonical d) : Canonical d.settle := ⟨(Device.settle_canonical _).trans hd.holds⟩

end

/-! ### The operations every unit uses (Machine/Ops.lean) -/

theorem Canonical.oneUpdate {f d} (hd : Canonical d) (hf : Keeps f) : Canonical (d.oneUpdate f) :=
  .ite (hf hd) (.ite (hf hd).reportFailover (hf hd).report)
theorem Canonical.bobData {d h sub unit start data} (hd : Canonical d) : Canonical (d.bobData h sub unit start data) :=
  hd.each fun _ _ he => he.bobRecord

/-! ### The fabric (Machine/Fabric.lean) -/

theorem Canonical.initFlops {d f} (hd : Canonical d) : Canonical (d.initFlops f) := hd.setFab
theorem Canonical.seamLaunch {d0 g east d} (hd : Canonical d) : Canonical (seamLaunch d0 g east d) :=
  .ite hd (.ite hd.setSegment.setSegment hd.setSegment)
theorem Canonical.seamEdges {f r d0 d} (hd : Canonical d) : Canonical (seamEdges f r d0 d) :=
  .ite (hd.each fun _ _ he => .ite he.seamLaunch he) hd
theorem Canonical.doneFall {f r d} (hd : Canonical d) : Canonical (doneFall f r d) := hd.frame
theorem Canonical.holdValues {d f} (hd : Canonical d) : Canonical (d.holdValues f) := hd.setFab
theorem Canonical.stopping {d f act} (hd : Canonical d) (hact : Keeps act) : Canonical (d.stopping f act) :=
  .ite (.ite (hact hd.holdValues) (hact hd.holdValues).setFab) (hact hd)
theorem Canonical.gsrField {d f} (hd : Canonical d) : Canonical (d.gsrField f) := hd.initFlops.frame.setFab.frame
theorem Canonical.hedgesFlush {d f} (hd : Canonical d) : Canonical (d.hedgesFlush f) := hd.setFab
theorem Canonical.gsrRelease {d f} (hd : Canonical d) : Canonical (d.gsrRelease f) := hd.setFab
theorem Canonical.gsrPulse {f d} (hd : Canonical d) : Canonical (gsrPulse f d) :=
  .ite hd (.ite hd.setBit (.ite hd (Canonical.ite hd.bobGap hd).gsrField.hedgesFlush.setFab))
theorem Canonical.gsrPulseEnd {f d} (hd : Canonical d) : Canonical (gsrPulseEnd f d) := .ite hd.gsrRelease hd
theorem Canonical.hedgeTransfer {k word d} (hd : Canonical d) : Canonical (hedgeTransfer k word d) := .ite hd.setHedge hd

theorem Canonical.hedgePop {k d} (hd : Canonical d) : Canonical (hedgePop k d) := by
  unfold Machine.hedgePop
  split
  · exact .ite hd.setHedge hd
  · exact hd

theorem Canonical.hedgeCredit {k d} (hd : Canonical d) : Canonical (hedgeCredit k d) := .ite hd.setHedge.setFab hd
theorem Canonical.hedgedStall {k d} (hd : Canonical d) : Canonical (hedgedStall k d) := .ite hd.setFab hd

theorem Canonical.gussetPush {f n offer d} (hd : Canonical d) : Canonical (gussetPush f n offer d) := by
  unfold Machine.gussetPush
  extract_lets
  split
  · exact .ite hd.setBit hd.setGusset
  · exact hd

theorem Canonical.gussetPop {f n asks d} (hd : Canonical d) : Canonical (gussetPop f n asks d) := .ite hd (.ite hd.setBit hd.setGusset)

theorem Canonical.streamPush {e n offer d} (hd : Canonical d) : Canonical (streamPush e n offer d) := by
  unfold Machine.streamPush
  extract_lets
  split
  · exact .ite hd hd.setEngine
  · exact hd

theorem Canonical.streamPop {e n asks d} (hd : Canonical d) : Canonical (streamPop e n asks d) := .ite hd.setEngine hd

theorem Canonical.gussetWrite {g word d} (hd : Canonical d) : Canonical (gussetWrite g word d) := by
  unfold Machine.gussetWrite
  split
  · split
    · exact .ite hd.gussetPush hd
    · exact hd
  · exact .ite hd.streamPush hd

theorem Canonical.gussetRead {g d} (hd : Canonical d) : Canonical (gussetRead g d) := by
  unfold Machine.gussetRead
  split
  · split
    · exact .ite hd.gussetPop hd
    · exact hd
  · exact .ite hd.streamPop hd

theorem Canonical.gussetMod {g f d} (hd : Canonical d) : Canonical (gussetMod g f d) := by
  unfold Machine.gussetMod
  split
  · exact hd.setGusset
  · exact hd.setEngine

theorem Canonical.tickSend {f t d} (hd : Canonical d) : Canonical (tickSend f t d) := .ite hd.setFab hd
theorem Canonical.tickPulse {f t m d} (hd : Canonical d) : Canonical (tickPulse f t m d) :=
  .ite (Canonical.ite hd.setBit hd).setFab (Canonical.ite hd.setBit hd).setFab.setFab
theorem Canonical.tickLand {f t d} (hd : Canonical d) : Canonical (tickLand f t d) :=
  .ite hd (.ite hd.setFab (.ite hd.tickPulse hd.takeFree.tickPulse))
theorem Canonical.tickReselect {f j old d} (hd : Canonical d) : Canonical (tickReselect f j old d) := hd.setFab
theorem Canonical.tickFall {f r d} (hd : Canonical d) : Canonical (tickFall f r d) := hd.setFab

/-! ### Block memories and their scrubber (Machine/BlockMem.lean) -/

theorem Canonical.writeWord {n w a m v d} (hd : Canonical d) : Canonical (writeWord n w a m v d) := hd.frame
theorem Canonical.bramFlag {base n d} (hd : Canonical d) : Canonical (bramFlag base n d) := hd.setBit
theorem Canonical.setPort {n port o d} (hd : Canonical d) : Canonical (setPort n port o d) := hd.frame

theorem Canonical.cancelWback {n row d} (hd : Canonical d) : Canonical (cancelWback n row d) := by
  unfold Machine.cancelWback
  split
  · exact .ite hd.frame hd
  · exact hd

theorem Canonical.sdpAccess {n c a b d} (hd : Canonical d) : Canonical (sdpAccess n c a b d) := by
  unfold Machine.sdpAccess
  extract_lets d1
  have hd1 : Canonical d1 := by
    unfold d1
    split
    · exact .ite (.ite (Canonical.ite (Canonical.ite hd hd.setPort).bramFlag (.ite hd hd.setPort)).bramFlag
        (.ite (Canonical.ite hd hd.setPort).bramFlag (.ite hd hd.setPort))) (.ite hd hd.setPort)
    · exact hd
  split
  · exact .ite (Canonical.ite hd1.writeWord hd1.writeWord).cancelWback hd1
  · exact hd1

theorem Canonical.tdpAccess {n c a b d} (hd : Canonical d) : Canonical (tdpAccess n c a b d) := by
  unfold Machine.tdpAccess
  extract_lets _ _ _ _ _ _ out d1 put d2 _ d3 d4
  have hout : ∀ p i w rdw sr wx, Keeps (out p i w rdw sr wx) := by
    intro p i w rdw sr wx d5 hd1
    unfold out
    split
    · exact .ite hd1 hd1.setPort
    · exact hd1
  clear_value out
  have hd1 : Canonical d1 := hout _ _ _ _ _ _ (hout _ _ _ _ _ _ hd)
  have hput : ∀ x w, Keeps (put x w) := by
    intro x w d5 hd2
    unfold put
    split
    · exact hd2.writeWord.cancelWback
    · exact hd2
  clear_value put
  have hd2 : Canonical d2 := hput _ _ (hput _ _ hd1)
  have hd3 : Canonical d3 := .ite hd2.frame hd2
  have hd4 : Canonical d4 := hd3.bramFlag
  exact .ite hd4.frame hd3

theorem Canonical.bramEdge {n c a b d} (hd : Canonical d) : Canonical (bramEdge n c a b d) := .ite hd.sdpAccess hd.tdpAccess

theorem Canonical.bramAccess {n a b d} (hd : Canonical d) : Canonical (bramAccess n a b d) := by
  unfold Machine.bramAccess
  split
  · exact hd
  · exact hd.bramEdge

theorem Canonical.scrubOne {n r d} (hd : Canonical d) : Canonical (scrubOne n r d) := by
  unfold Machine.scrubOne
  extract_lets
  exact .ite hd.bramFlag.fault (.ite hd.bramFlag.frame hd)

theorem Canonical.scrubStep {f d} (hd : Canonical d) : Canonical (scrubStep f d) :=
  .ite hd (.ite (hd.each fun _ _ he => he.scrubOne).frame.bump.putBit (hd.each fun _ _ hx => hx.scrubOne).frame.setBit)

theorem Canonical.scrubWriteback {n d} (hd : Canonical d) : Canonical (scrubWriteback n d) := by
  unfold Machine.scrubWriteback
  split
  · exact .ite hd.writeWord.frame hd
  · exact hd

theorem Canonical.scrubStarved {n d} (hd : Canonical d) : Canonical (scrubStarved n d) := .ite (.ite hd.setBit.frame hd.setBit.frame) hd
theorem Canonical.fieldLost {f d} (hd : Canonical d) : Canonical (fieldLost f d) := hd.frame

/-! ### Knots, Hedges and Gussets (Machine/Knots.lean) -/

theorem Canonical.setRuns {d key rs} (hd : Canonical d) : Canonical (d.setRuns key rs) := hd.frame
theorem Canonical.dropRuns {pid p d} (hd : Canonical d) : Canonical (dropRuns pid p d) := (hd.each fun _ _ he => he.setRuns).frame
theorem Canonical.dropFlight {pid d} (hd : Canonical d) : Canonical (dropFlight pid d) := hd.dropRuns.frame
theorem Canonical.putFlight {f d} (hd : Canonical d) : Canonical (putFlight f d) := hd.frame
theorem Canonical.injectHops {p hdr data poison hops d} (hd : Canonical d) : Canonical (injectHops p hdr data poison hops d) :=
  hd.frame.setRuns
theorem Canonical.inject {p hdr data poison d} (hd : Canonical d) : Canonical (inject p hdr data poison d) := hd.injectHops
theorem Canonical.answerFrom {p hdr st data poison d} (hd : Canonical d) : Canonical (answerFrom p hdr st data poison d) := hd.inject
theorem Canonical.takeArrived {hdr d} (hd : Canonical d) : Canonical (takeArrived hdr d).2 := .pair hd.frame
theorem Canonical.wwEvent {k bit kind d} (hd : Canonical d) : Canonical (wwEvent k bit kind d) := hd.setBit.setFld.setFld
theorem Canonical.netGone {h d} (hd : Canonical d) : Canonical (netGone h d) := hd.frame.frame

theorem Canonical.cutPacket {h f d} (hd : Canonical d) : Canonical (cutPacket h f d) := by
  unfold Machine.cutPacket
  extract_lets _ _ d1
  have hd1 : Canonical d1 := hd.putFlight
  refine .ite hd.dropFlight ?_
  refine .ite hd ?_
  split
  · exact hd1.setRuns.wwEvent
  · exact hd

theorem Canonical.netCut {h d} (hd : Canonical d) : Canonical (netCut h d) := hd.netGone.each fun _ _ he => he.cutPacket
theorem Canonical.cutRow {y d} (hd : Canonical d) : Canonical (cutRow y d) :=
  hd.each fun _ _ he => .ite he.dropRuns.cutPacket (.ite he.dropRuns.cutPacket he)
theorem Canonical.restartRow {y d} (hd : Canonical d) : Canonical (restartRow y d) := hd.each fun _ _ he => he.dropFlight
theorem Canonical.showOutst {s d} (hd : Canonical d) : Canonical (showOutst s d) := hd.setFld
theorem Canonical.dropOutst {s p d} (hd : Canonical d) : Canonical (dropOutst s p d) := hd.frame.showOutst
theorem Canonical.stileRefuse {s st d} (hd : Canonical d) : Canonical (stileRefuse s st d) :=
  hd.frame.each fun _ _ he => he.setBit.answerFrom
theorem Canonical.stileForget {s late d} (hd : Canonical d) : Canonical (stileForget s late d) :=
  (hd.frame.each fun _ _ he => he.dropOutst).when fun _ hx => hx.setBit
theorem Canonical.stilesUnderLoad {f d} (hd : Canonical d) : Canonical (stilesUnderLoad f d) :=
  hd.each fun _ _ he => he.stileRefuse.stileForget
theorem Canonical.stilesOff {f d} (hd : Canonical d) : Canonical (stilesOff f d) :=
  hd.each fun _ _ he => he.stileRefuse.stileForget.dropOutst
theorem Canonical.stilesPowered {f d} (hd : Canonical d) : Canonical (stilesPowered f d) := hd.frame
theorem Canonical.stileApply {s d} (hd : Canonical d) : Canonical (stileApply s d) := .ite (hd.frame.when fun _ he => he.stileRefuse) hd
theorem Canonical.recordBeats {s chan bs d} (hd : Canonical d) : Canonical (recordBeats s chan bs d) :=
  .ite (hd.each fun _ _ he => he.bobData) hd

theorem Canonical.netComplete {o a d} (hd : Canonical d) : Canonical (netComplete o a d) := by
  unfold Machine.netComplete
  extract_lets _ d1
  have hd1 : Canonical d1 := hd.frame
  split
  · exact hd1
  · exact ((hd1.when fun _ he => he.setBit).when fun _ hx => hx.setBit).recordBeats.showOutst.stileApply

theorem Canonical.settleOutst {o d} (hd : Canonical d) : Canonical (settleOutst o d) := .ite hd.netComplete hd.frame
theorem Canonical.answerParts {p a o d} (hd : Canonical d) : Canonical (answerParts p a o d) := hd.settleOutst

/-! ### Domains (Machine/Domain.lean) -/

theorem Canonical.laneEval {l d} (hd : Canonical d) : Canonical (laneEval l d) :=
  .ite hd.putBit.putBit.setLane (.ite hd.putBit.putBit.setLane hd.putBit.putBit)
theorem Canonical.setChanState {d n st} (hd : Canonical d) : Canonical (d.setChanState n st) := hd.setFld
theorem Canonical.srTrigger {n why d} (hd : Canonical d) : Canonical (srTrigger n why d) := .ite hd.setChanState.setChan hd
theorem Canonical.shtTimeouts {n d} (hd : Canonical d) : Canonical (shtTimeouts n d) :=
  hd.foldl fun _ _ he => .ite he.takeFree.setShuttle he

theorem Canonical.shtTimeout {n d} (hd : Canonical d) : Canonical (shtTimeout n d) := by
  unfold Machine.shtTimeout
  extract_lets _ s
  have hs : Canonical s.2 := hd.takeFree
  split
  · exact .ite hd hs.setShuttle
  · exact hd

theorem Canonical.forceEffects {n d} (hd : Canonical d) : Canonical (forceEffects n d) := by
  unfold Machine.forceEffects
  exact .ite hd (.ite (hd.each fun _ _ he => he.laneEval)
    (.ite hd.srTrigger (.ite (hd.each fun _ _ hx => hx.shtTimeouts)
    (.ite (hd.each fun _ _ hy => hy.netComplete) (hd.each fun _ _ hz => hz.laneEval)))))

theorem Canonical.forceDomain {n d} (hd : Canonical d) : Canonical (forceDomain n d) :=
  .ite hd (Canonical.ite ((Canonical.ite hd.bobGap hd).stopping fun _ he => he.setBit) (Canonical.ite hd.bobGap hd).setBit).forceEffects
theorem Canonical.releaseDomain {n d} (hd : Canonical d) : Canonical (releaseDomain n d) :=
  .ite (.ite (hd.putBit.each fun _ _ he => he.laneEval) hd.putBit) hd

theorem Canonical.domLost {n d} (hd : Canonical d) : Canonical (domLost n d) :=
  .ite hd.fieldLost.stilesOff (.ite hd.frame
    (.ite hd.setChan (.ite hd.frame (.ite (.ite hd.netCut hd.netGone) (.ite (.ite hd.frame hd) (.ite hd.frame hd))))))

theorem Canonical.mendResult {f p r stop d} (hd : Canonical d) : Canonical (mendResult f p r stop d) := hd.frame

theorem Canonical.mendAbandon {f d} (hd : Canonical d) : Canonical (mendAbandon f d) := by
  unfold Machine.mendAbandon
  extract_lets d1 _ d2 _ d3 d4
  have hd1 : Canonical d1 := hd.mendResult
  have hd2 : Canonical d2 := hd1.frame
  have hd3 : Canonical d3 := hd2.frame
  have hd4 : Canonical d4 := hd3.setFld.setFld.setFld
  split
  · exact hd4.fault
  · exact hd2.frame

theorem Canonical.domainOff {n d} (hd : Canonical d) : Canonical (domainOff n d) := by
  unfold Machine.domainOff
  extract_lets set d1 _ d2 d3
  have hset : Keeps set := fun _ he => he.setFld.putBit.putBit.setFld.setFld
  have hd1 : Canonical d1 := .ite (hd.stopping fun _ he => hset he) (hset hd)
  have hd2 : Canonical d2 := hd1.frame
  have hd3 : Canonical d3 := (Canonical.ite hd2.mendAbandon hd2).domLost
  exact .ite (hd3.each fun _ _ he => he.laneEval) hd3

theorem Canonical.domainPowered {n d} (hd : Canonical d) : Canonical (domainPowered n d) := by
  unfold Machine.domainPowered
  exact .ite (((hd.clearRegs.when fun _ he => he.setBit).when fun _ hx => hx.stilesPowered).setFld.setFld.each fun _ _ hy => hy.laneEval)
    ((hd.clearRegs.when fun _ hz => hz.setBit).when fun _ hu => hu.stilesPowered).setFld.setFld

theorem Canonical.calClear {h d} (hd : Canonical d) : Canonical (calClear h d) := by
  unfold Machine.calClear
  extract_lets d1
  have hd1 : Canonical d1 := hd.clearRegs
  split <;> exact hd1.frame

theorem Canonical.liningErase {d} (hd : Canonical d) : Canonical (liningErase d) := hd.frameMem.each fun _ _ he => he.setReg
theorem Canonical.epochBump {h d} (hd : Canonical d) : Canonical (epochBump h d) := hd.bump
theorem Canonical.claimsBlank {d} (hd : Canonical d) : Canonical (claimsBlank d) := hd.frame
theorem Canonical.enterBlankCore {d} (hd : Canonical d) : Canonical (enterBlankCore d) :=
  (hd.frame.each fun _ _ he => he.calClear.epochBump).bobFreeze.liningErase.claimsBlank
theorem Canonical.allOff {d} (hd : Canonical d) : Canonical (allOff d) := hd.each fun _ _ he => he.domainOff
theorem Canonical.toBlank {d} (hd : Canonical d) : Canonical (toBlank d) := (hd.allOff.enterBlankCore.each fun _ _ he => he.setFld).frame

/-! ### Lark: the shared operations (Machine/LarkBase.lean) -/

theorem Canonical.showStates {d} (hd : Canonical d) : Canonical d.showStates := by
  unfold Device.showStates
  exact .ite (Canonical.ite (Canonical.ite (Canonical.ite hd.setLark hd).setFld hd).setLark
    (.ite (Canonical.ite hd.setLark hd).setFld hd)).setFld (.ite (Canonical.ite hd.setLark hd).setFld hd)

theorem Canonical.setSteer {d h x} (hd : Canonical d) : Canonical (d.setSteer h x) := .ite hd.setLark.setReg hd.setLark

theorem Canonical.initialSteer {h d} (hd : Canonical d) : Canonical (initialSteer h d) := by
  unfold Machine.initialSteer
  extract_lets _ d1
  have hd1 : Canonical d1 := hd.setLark
  refine .ite hd ?_
  split
  · exact .ite hd1 hd1.setSteer
  · exact hd1

theorem Canonical.tempRead {h d} (hd : Canonical d) : Canonical (tempRead h d) := hd.initialSteer.putBit

/-! ### The calendar (Machine/Calendar.lean) -/

theorem Canonical.calFlag {h bit idx d} (hd : Canonical d) : Canonical (calFlag h bit idx d) := hd.setBit.setFld
theorem Canonical.splitArms {h new i A d} (hd : Canonical d) : Canonical (splitArms h new i A d) := hd.setCal
theorem Canonical.addArm {h i x d} (hd : Canonical d) : Canonical (addArm h i x d) := hd.setCal
theorem Canonical.missEntry {h A i d} (hd : Canonical d) : Canonical (missEntry h A i d) :=
  .ite hd.calFlag.bump.setEntry.addArm hd.calFlag.bump.setEntry
theorem Canonical.armEntry {h new wait A i d} (hd : Canonical d) : Canonical (armEntry h new wait A i d) :=
  .ite hd.splitArms (.ite (.ite hd.splitArms hd.splitArms.missEntry) hd.splitArms.addArm)

theorem Canonical.chanDecide {h c d} (hd : Canonical d) : Canonical (chanDecide h c d) := by
  unfold Machine.chanDecide
  extract_lets
  split
  · exact .ite hd (hd.setChan08.each fun _ _ he => he.armEntry)
  · exact hd

theorem Canonical.chansDecide {h d} (hd : Canonical d) : Canonical (chansDecide h d) := hd.each fun _ _ he => he.chanDecide
theorem Canonical.replan {h old p d} (hd : Canonical d) : Canonical (replan h old p d) := hd.setCal.chansDecide
theorem Canonical.chansStart {d} (hd : Canonical d) : Canonical (chansStart d) := hd.each fun _ _ he => he.replan
theorem Canonical.replanNow {h old d} (hd : Canonical d) : Canonical (replanNow h old d) := hd.replan
theorem Canonical.calStep {h d} (hd : Canonical d) : Canonical (calStep h d) := (hd.each fun _ _ he => he.armEntry).replanNow
theorem Canonical.calGridChange {h g A d} (hd : Canonical d) : Canonical (calGridChange h g A d) :=
  (hd.each fun _ _ he => .ite he.splitArms.setEntry.calFlag he.armEntry).replanNow
theorem Canonical.entryWrite {h i e d} (hd : Canonical d) : Canonical (entryWrite h i e d) :=
  (Canonical.ite hd.setEntry.calFlag hd.setEntry).armEntry
theorem Canonical.entryClear {h i d} (hd : Canonical d) : Canonical (entryClear h i d) := hd.setEntry.armEntry
theorem Canonical.calInc {h d} (hd : Canonical d) : Canonical (calInc h d) := .ite hd.bump hd
theorem Canonical.calWrite {h d} (hd : Canonical d) : Canonical (calWrite h d) := hd.entryWrite.calInc
theorem Canonical.calRead {h d} (hd : Canonical d) : Canonical (calRead h d) := (hd.each fun _ _ he => he.setReg).calInc
theorem Canonical.calClearValid {h d} (hd : Canonical d) : Canonical (calClearValid h d) := hd.entryClear.calInc
theorem Canonical.armUsed {h i x t d} (hd : Canonical d) : Canonical (armUsed h i x t d) := hd.setCal
theorem Canonical.firedOnce {h i e cur d} (hd : Canonical d) : Canonical (firedOnce h i e cur d) := .ite hd.setEntry hd
theorem Canonical.lateReport {h i detail d} (hd : Canonical d) : Canonical (lateReport h i detail d) := hd.calFlag.bump.fault
theorem Canonical.actRecord {h o d} (hd : Canonical d) : Canonical (actRecord h o d) := .ite hd.bobRecord hd

theorem Canonical.occDeliver {h d} (hd : Canonical d) : Canonical (occDeliver h d) := by
  unfold Machine.occDeliver
  split
  · exact hd
  · exact .ite hd (.ite hd.armUsed.firedOnce (.ite hd.lateReport.bump.armUsed.firedOnce (.ite hd (.ite
        hd.setCal.armUsed.actRecord.lateReport hd.setCal.armUsed.actRecord))))

theorem Canonical.occTake {h cls idx act ok d} (hd : Canonical d) : Canonical (occTake h cls idx act ok d).2 := by
  unfold Machine.occTake
  extract_lets _ _ d1
  have hd1 : Canonical d1 := hd.setCal
  split
  · exact .pair hd1.firedOnce
  · exact .pair hd

theorem Canonical.occDrop {h bit o d} (hd : Canonical d) : Canonical (occDrop h bit o d) := hd.calFlag.bump
theorem Canonical.chanStage {h c v hold d} (hd : Canonical d) : Canonical (chanStage h c v hold d) :=
  .ite hd.setBit hd.setReg.setBit.setChan08.chanDecide
theorem Canonical.commitMisses {h r H d} (hd : Canonical d) : Canonical (commitMisses h r H d) :=
  hd.each fun _ _ he => .ite he.missEntry he

theorem Canonical.chanCommit {h c d} (hd : Canonical d) : Canonical (chanCommit h c d) := by
  unfold Machine.chanCommit
  extract_lets d1
  have hd1 : Canonical d1 := hd.chanDecide
  split
  · exact hd1
  · exact .ite hd1 (Canonical.ite hd1.setChan08.putBit.putBit.putBit.setReg.setFld.setFld.commitMisses
        hd1.setChan08.putBit.putBit.putBit.setReg.setFld.setFld).chanDecide

theorem Canonical.handOverPoint {h c d} (hd : Canonical d) : Canonical (handOverPoint h c d) := .ite hd.bump hd
theorem Canonical.gridShow {g x d} (hd : Canonical d) : Canonical (gridShow g x d) := hd.setReg.setReg
theorem Canonical.gridApply {g x A d} (hd : Canonical d) : Canonical (gridApply g x A d) :=
  hd.frame.putBit.gridShow.calGridChange.calGridChange

theorem Canonical.gridCfgWrite {g v d} (hd : Canonical d) : Canonical (gridCfgWrite g v d) :=
  .ite (Canonical.ite hd.putBit hd).setBit.gridShow
    (.ite (Canonical.ite hd.putBit hd).gridApply (Canonical.ite hd.putBit hd).frame.gridShow.setBit)

theorem Canonical.gridConfigApply {g d} (hd : Canonical d) : Canonical (gridConfigApply g d) := by
  unfold Machine.gridConfigApply
  split
  · exact hd.gridApply
  · exact hd

/-! ### Power (Machine/Power.lean) -/

theorem Canonical.leaveOn {n d} (hd : Canonical d) : Canonical (leaveOn n d) :=
  .ite (.ite hd.frame.bobGap hd.frame) (.ite (hd.frame.each fun _ _ he => he.setLane) (.ite hd.frame.srTrigger hd.frame))

theorem Canonical.startTrans {n target d} (hd : Canonical d) : Canonical (startTrans n target d) := by
  unfold Machine.startTrans
  extract_lets _ _ d1 d2 _ set d3
  have hd1 : Canonical d1 := .ite hd.putBit hd
  have hd2 : Canonical d2 := .ite hd1.leaveOn hd1
  have hset : Keeps set := fun _ he => he.setTrans
  have hd3 : Canonical d3 := .ite (hd2.stopping fun _ he => hset he) (hset hd2)
  exact .ite hd (.ite hd.setBit (.ite (hd3.each fun _ _ he => he.laneEval) hd3))

theorem Canonical.domRequest {n st d} (hd : Canonical d) : Canonical (domRequest n st d) := by
  unfold Machine.domRequest
  extract_lets d1
  have hd1 : Canonical d1 := hd.setFld
  split
  · exact hd1.setTrans
  · exact hd1.startTrans

theorem Canonical.domStateRequest {n mc st d} (hd : Canonical d) : Canonical (domStateRequest n mc st d) :=
  .ite hd.domRequest.answer hd.answer
theorem Canonical.avsStep {n worst d} (hd : Canonical d) : Canonical (avsStep n worst d) :=
  .ite hd (.ite hd.setFld (.ite (.ite hd.setFld hd) (.ite (.ite hd.setFld hd.setBit) hd)))
theorem Canonical.threshold {lo now flag d} (hd : Canonical d) : Canonical (threshold lo now flag d) :=
  .ite (.ite hd.putBit hd) (.ite hd.setBit.setBit.raiseInt hd)

theorem Canonical.tempConvert {temps d} (hd : Canonical d) : Canonical (tempConvert temps d) := by
  unfold Machine.tempConvert
  exact (Canonical.ite (hd.each fun _ _ he => he.setReg).setFld.setFld.threshold.threshold ((hd.each fun _ _ hx =>
      hx.setReg).setFld.setFld.threshold.threshold.each fun _ _ hy => .ite hy.tempRead hy)).frame

theorem Canonical.thermalTrip {p d} (hd : Canonical d) : Canonical (thermalTrip p d) := .ite hd.setBit.frame hd
theorem Canonical.wakeStart {d} (hd : Canonical d) : Canonical (wakeStart d) :=
  .ite (hd.frame.each fun _ _ he => .ite he.domRequest he) hd

/-! ### Pins (Machine/Pins.lean) -/

theorem Canonical.pinApply {b i v d} (hd : Canonical d) : Canonical (pinApply b i v d) :=
  .ite hd.setReg.setPin hd.setReg.setPin.setPin.putBit
theorem Canonical.pinCfgWrite {b i w d} (hd : Canonical d) : Canonical (pinCfgWrite b i w d) :=
  .ite (.ite hd.setPin hd.pinApply) (.ite hd.setBit (.ite hd.setPin hd.pinApply.setBit))

theorem Canonical.pinSwitchDone {b i d} (hd : Canonical d) : Canonical (pinSwitchDone b i d) := by
  unfold Machine.pinSwitchDone
  refine .ite hd ?_
  extract_lets _ d1 d2 _ d3
  have hd1 : Canonical d1 := hd.putBit
  have hd2 : Canonical d2 := by
    unfold d2
    split
    · exact hd1.pinApply
    · exact hd1
  have hd3 : Canonical d3 := hd2.setPin
  refine .settle ?_
  split
  · exact hd3.pinCfgWrite
  · exact hd3

theorem Canonical.pinInterrupt {b i d} (hd : Canonical d) : Canonical (pinInterrupt b i d) :=
  .ite (Canonical.ite hd.setBit.raiseInt hd.setBit).wakeStart (.ite hd.setBit.raiseInt hd.setBit)
theorem Canonical.pinRecord {b i level d} (hd : Canonical d) : Canonical (pinRecord b i level d) :=
  hd.each fun _ _ he => .ite he.bobRecord he

theorem Canonical.pinFiltered {b i level d} (hd : Canonical d) : Canonical (pinFiltered b i level d) :=
  .ite hd (.ite (Canonical.ite hd.setPin.pinRecord.bobTrigger hd.setPin.pinRecord).pinInterrupt
    (.ite hd.setPin.pinRecord.bobTrigger hd.setPin.pinRecord))

theorem Canonical.pinInput {b i level samples ticks d} (hd : Canonical d) : Canonical (pinInput b i level samples ticks d) :=
  .ite (.ite hd.setPin.setBit hd.setPin) (.ite (Canonical.ite hd.setPin.setBit hd.setPin).pinFiltered (.ite hd.setPin.setBit hd.setPin))
theorem Canonical.pinLevelInterrupt {b i d} (hd : Canonical d) : Canonical (pinLevelInterrupt b i d) := .ite hd.pinInterrupt hd
theorem Canonical.trackTimeout {b i high d} (hd : Canonical d) : Canonical (trackTimeout b i high d) := hd.setPin.putBit
theorem Canonical.gpioInRead {b d} (hd : Canonical d) : Canonical (gpioInRead b d) := hd.setReg.setReg.answer
theorem Canonical.vccioLow {b d} (hd : Canonical d) : Canonical (vccioLow b d) :=
  .ite hd (hd.frame.putBit.fault.each fun _ _ he => he.pinInput).settle
theorem Canonical.pinsPowerUp {d p} (hd : Canonical d) : Canonical (pinsPowerUp d p) := hd.clearRegs.frame

/-! ### Lark time (Machine/Lark.lean) -/

theorem Canonical.timeFracRead {h d} (hd : Canonical d) : Canonical (timeFracRead h d) := hd.setReg.setReg.setReg.setReg
theorem Canonical.setTime {h d} (hd : Canonical d) : Canonical (setTime h d) := .ite hd.setLark hd.setBit
theorem Canonical.moveLark {h by_ d} (hd : Canonical d) : Canonical (moveLark h by_ d) := hd.setLark.bump.calStep
theorem Canonical.stepTime07 {h by_ d} (hd : Canonical d) : Canonical (stepTime07 h by_ d) := .ite hd.moveLark.moveLark hd.moveLark
theorem Canonical.setTimeApply {h d} (hd : Canonical d) : Canonical (setTimeApply h d) := .ite hd hd.setLark.setDisc.stepTime07
theorem Canonical.setState {h st d} (hd : Canonical d) : Canonical (setState h st d) := hd.setFld.showStates
theorem Canonical.modelEval {h d} (hd : Canonical d) : Canonical (modelEval h d) := hd.setLark.putBit
theorem Canonical.assistError {d} (hd : Canonical d) : Canonical (assistError d).2 := .pair hd.takeFree

theorem Canonical.holdSteer {h d} (hd : Canonical d) : Canonical (holdSteer h d) := by
  unfold Machine.holdSteer
  extract_lets _ v
  have hv : Canonical v.2 := hd.assistError
  split
  · exact hv.setSteer
  · split
    · exact hd.setSteer
    · exact .ite hd.setSteer hd

theorem Canonical.enterHold {h d} (hd : Canonical d) : Canonical (enterHold h d) := by
  unfold Machine.enterHold
  extract_lets _ _ _ _ d1
  have hd1 : Canonical d1 := by
    unfold d1
    split
    · exact hd
    · exact hd.setDisc
  exact hd1.setState.holdSteer

theorem Canonical.leaveHold {h d} (hd : Canonical d) : Canonical (leaveHold h d) := hd.setReg.setFld
theorem Canonical.enterAcq {h mayStep d} (hd : Canonical d) : Canonical (enterAcq h mayStep d) := hd.setDisc.leaveHold.setState
theorem Canonical.showSelected {h d} (hd : Canonical d) : Canonical (showSelected h d) := hd.each fun _ _ he => he.putBit

theorem Canonical.choosePhase {h new d} (hd : Canonical d) : Canonical (choosePhase h new d) := by
  unfold Machine.choosePhase
  extract_lets _ d1
  have hd1 : Canonical d1 := by
    unfold d1
    split
    · exact hd.setBit.setFld
    · exact hd.putBit.setFld
  refine .ite hd ?_
  split
  · exact .ite hd1.enterHold (.ite (.ite hd1.enterHold hd1.setState.holdSteer) hd1)
  · exact .ite hd1.setRef.setDisc hd1.setRef.enterAcq

theorem Canonical.select {h d} (hd : Canonical d) : Canonical (select h d) := by
  unfold Machine.select
  extract_lets _ _ f _ d1 d2 d3
  have hd1 : Canonical d1 := by
    unfold d1
    clear_value f
    split
    · exact hd.setBit.setFld
    · exact hd.putBit.setFld
  have hd2 : Canonical d2 := hd1.when fun _ he => he.holdSteer
  have hd3 : Canonical d3 := hd2.choosePhase.showSelected
  exact .ite hd3.setReg hd3

theorem Canonical.refQualified {n d} (hd : Canonical d) : Canonical (refQualified n d) := hd.each fun _ _ he => .ite he.setBit.select he
theorem Canonical.disqualify {h n cause d} (hd : Canonical d) : Canonical (disqualify h n cause d) :=
  .ite hd hd.putBit.setFld.bump.setRef.fault.select
theorem Canonical.refConfigWrite {n v d} (hd : Canonical d) : Canonical (refConfigWrite n v d) :=
  hd.setReg.each fun _ _ he => .ite he.putBit.setRef.select he.select

theorem Canonical.revertiveSwitch {n d} (hd : Canonical d) : Canonical (revertiveSwitch n d) := by
  unfold Machine.revertiveSwitch
  refine hd.each fun _ _ he => ?_
  refine .ite ?_ he
  refine .ite ?_ ?_
  · split
    · exact .ite he.choosePhase.select he
    · exact he
  · split
    · exact .ite he.setFld.select he
    · exact he

theorem Canonical.addSample {h n e t d} (hd : Canonical d) : Canonical (addSample h n e t d) := hd.setDisc
theorem Canonical.gnssPulse {h n label t d} (hd : Canonical d) : Canonical (gnssPulse h n label t d) :=
  .ite hd.setRef.addSample.disqualify hd.setRef.addSample

theorem Canonical.ppsEdge {n rising d} (hd : Canonical d) : Canonical (ppsEdge n rising d) := by
  unfold Machine.ppsEdge
  extract_lets
  split
  · exact hd
  · refine .ite hd ?_
    extract_lets
    refine hd.each fun _ _ he => ?_
    extract_lets _ _ d1 d2
    have hd1 : Canonical d1 := he.setRef
    have hd2 : Canonical d2 := .ite hd1.disqualify hd1
    refine .ite hd2.addSample ?_
    refine .ite ?_ hd2.setRef
    split
    · exact hd2.gnssPulse
    · exact hd2

theorem Canonical.gnssSentence {u utcSec d} (hd : Canonical d) : Canonical (gnssSentence u utcSec d) := by
  unfold Machine.gnssSentence
  refine .ite hd ?_
  extract_lets
  refine hd.each fun _ _ he => ?_
  refine .ite ?_ he
  refine he.each fun _ _ he1 => ?_
  refine .ite he1.setRef ?_
  split
  · exact he1.gnssPulse
  · exact he1

theorem Canonical.ptpSync {n t1 t2 t3 t4 announce d} (hd : Canonical d) : Canonical (ptpSync n t1 t2 t3 t4 announce d) := by
  unfold Machine.ptpSync
  split
  · refine .ite hd ?_
    extract_lets d1
    have hd1 : Canonical d1 := by
      unfold d1
      split
      · exact hd.when fun _ he => he.setReg
      · exact hd
    exact hd1.each fun _ _ he => he.addSample
  · exact hd

theorem Canonical.loopSteer {d h tau e} (hd : Canonical d) : Canonical (loopSteer d h tau e) := by
  unfold Machine.loopSteer
  extract_lets _ _ _ _ _ v
  have hv : Canonical v.2 := hd.assistError
  split
  · exact hv.setDisc.setSteer
  · exact hd.setDisc.setSteer

theorem Canonical.loopState {h e d} (hd : Canonical d) : Canonical (loopState h e d) :=
  .ite (.ite hd.setDisc (.ite hd.setDisc (.ite hd.setDisc.setDisc.setLark.setState hd.setDisc))) hd.setDisc
theorem Canonical.firstOfNew {h e d} (hd : Canonical d) : Canonical (firstOfNew h e d) :=
  .ite hd (.ite hd.setDisc.setDisc.setState hd.setDisc)
theorem Canonical.stepRefs {h e d} (hd : Canonical d) : Canonical (stepRefs h e d) := hd.setDisc

theorem Canonical.phaseOne {h d} (hd : Canonical d) : Canonical (phaseOne h d) := by
  unfold Machine.phaseOne
  extract_lets
  split
  · exact hd
  · extract_lets _ d1 _ d2 d3 _ _ d4 _ _ d5 _ d6 _ d7 _ d8 d9 _ _ d10
    have hd1 : Canonical d1 := hd.setDisc
    have hd2 : Canonical d2 := hd1.setRef
    have hd3 : Canonical d3 := .ite hd2.bobRecord hd2
    have hd4 : Canonical d4 := hd3.setReg
    have hd5 : Canonical d5 := hd4.setDisc
    have hd6 : Canonical d6 := hd5.setLark
    have hd7 : Canonical d7 := .ite hd6.setLark hd6
    have hd8 : Canonical d8 := hd7.setDisc
    have hd9 : Canonical d9 := hd8.firstOfNew.loopSteer.loopState
    have hd10 : Canonical d10 := hd9.setRef
    exact .ite hd3 (.ite hd4 (.ite hd8.stepRefs.stepTime07 (.ite hd10.disqualify hd10)))

theorem Canonical.learnBin {h freq temp d} (hd : Canonical d) : Canonical (learnBin h freq temp d) := .ite hd hd.setLark.modelEval

theorem Canonical.modelFit {h d} (hd : Canonical d) : Canonical (modelFit h d) := by
  unfold Machine.modelFit
  refine .ite hd ?_
  extract_lets
  split
  · exact hd
  · exact .ite hd.setLark.modelEval hd.setLark.modelEval

theorem Canonical.showHours {h d} (hd : Canonical d) : Canonical (showHours h d) := .ite hd.setFld hd
theorem Canonical.learnHour {h d} (hd : Canonical d) : Canonical (learnHour h d) := .ite hd hd.setLark.showHours.modelEval
theorem Canonical.clearLearning {h d} (hd : Canonical d) : Canonical (clearLearning h d) :=
  .ite hd.setLark.showHours.modelEval.setDisc hd.setLark.showHours.modelEval
theorem Canonical.holdPredict {h d} (hd : Canonical d) : Canonical (holdPredict h d) :=
  .ite hd (.ite hd.setReg.setFld.holdSteer.setState hd.setReg.setFld.holdSteer)

theorem Canonical.modelSave {h d} (hd : Canonical d) : Canonical (modelSave h d) := by
  unfold Machine.modelSave
  extract_lets
  split <;> exact hd.frame

theorem Canonical.sensorRead {h temp d} (hd : Canonical d) : Canonical (sensorRead h temp d) :=
  .ite hd.setLark.putBit.tempRead hd.setLark.putBit
theorem Canonical.takeLeadership {h d} (hd : Canonical d) : Canonical (takeLeadership h d) := .ite hd (.ite hd.setBit hd.frame)
theorem Canonical.leadTo {l d} (hd : Canonical d) : Canonical (leadTo l d) := (Canonical.ite hd.setReg.setLark hd.setReg).setBit.putBit
theorem Canonical.leadershipSwap {d} (hd : Canonical d) : Canonical (leadershipSwap d) :=
  .ite hd (.ite hd.frame hd.frame.leadTo.putBit.setBit.showHours.showStates)

theorem Canonical.timeExchange {d} (hd : Canonical d) : Canonical (timeExchange d) := by
  unfold Machine.timeExchange
  refine .ite hd ?_
  extract_lets _ _ d1 d2 _ _ _ _ _ _ d3 _ d4
  have hd1 : Canonical d1 := hd.frame
  have hd2 : Canonical d2 := by
    unfold d2
    split
    · exact (Canonical.ite (hd1.each fun _ _ he => he.setReg) hd).clearRegs.frame.putBit
    · exact hd
  have hd3 : Canonical d3 := .ite hd2.setLark hd2.setLark.moveLark
  have hd4 : Canonical d4 := .ite hd3.frame hd3
  exact hd4.putBit.putBit.showStates

theorem Canonical.timePairLoss {d} (hd : Canonical d) : Canonical (timePairLoss d) :=
  .ite hd (hd.each fun _ _ he => he.setReg).setReg.setBit.putBit.putBit.frame

theorem Canonical.larkSurvives {h d} (hd : Canonical d) : Canonical (larkSurvives h d) := by
  unfold Machine.larkSurvives
  exact (Canonical.ite (Canonical.ite (hd.frame.each fun _ _ he => he.setReg) hd).frame.putBit (.ite hd
      hd.leadTo)).putBit.putBit.showHours.each fun _ _ hx => .ite hx.disqualify hx

theorem Canonical.larkPowerUp {h alone d} (hd : Canonical d) : Canonical (larkPowerUp h alone d) := by
  unfold Machine.larkPowerUp
  extract_lets _ _ _ _ d1 _ d2 d3 _ d4
  have hd1 : Canonical d1 := hd.setLark
  have hd2 : Canonical d2 := hd1.clearRegs
  have hd3 : Canonical d3 := .ite hd2.putBit hd2
  have hd4 : Canonical d4 := by
    unfold d4
    split <;> exact hd3.frame
  exact hd4.showHours.modelEval.showStates

theorem Canonical.threadWord {h block errPs d} (hd : Canonical d) : Canonical (threadWord h block errPs d) := .ite hd.fault hd
theorem Canonical.captureEdge {h j rising d} (hd : Canonical d) : Canonical (captureEdge h j rising d) :=
  .ite hd (.ite hd.takeFree.bobRecord.setBit hd.takeFree.bobRecord.setLark)

theorem Canonical.capturePop {h d} (hd : Canonical d) : Canonical (capturePop h d) := by
  unfold Machine.capturePop
  extract_lets
  split
  · exact hd.putBit
  · exact hd.setLark.setReg.setReg.setReg.setReg

theorem Canonical.gridNowRead {h g d} (hd : Canonical d) : Canonical (gridNowRead h g d) := hd.setReg.setReg
theorem Canonical.holdCfgWrite {v d} (hd : Canonical d) : Canonical (holdCfgWrite v d) :=
  .ite hd.setReg (hd.setReg.each fun _ _ he => he.setLark.modelEval)

theorem Canonical.lrkCtrlWrite {h v d} (hd : Canonical d) : Canonical (lrkCtrlWrite h v d) := by
  unfold Machine.lrkCtrlWrite
  extract_lets d1 d2
  have hd1 : Canonical d1 := hd.setReg
  have hd2 : Canonical d2 := hd1.each fun _ _ he => he.select
  split
  · exact hd2.setTime
  · exact hd2.takeLeadership
  · exact hd2.clearLearning
  · exact hd2

/-! ### Clocks (Machine/Clocks.lean) -/

theorem Canonical.pllShow {p d} (hd : Canonical d) : Canonical (pllShow p d) := .ite hd.putBit.putBit hd.putBit
theorem Canonical.abandonOnHold {d} (hd : Canonical d) : Canonical (abandonOnHold d) := .ite hd.frame.setFld.setFld.fault hd
theorem Canonical.forceFailed {n d} (hd : Canonical d) : Canonical (forceFailed n d) := .ite hd.forceDomain hd
theorem Canonical.clockCheck {n d} (hd : Canonical d) : Canonical (clockCheck n d) := hd.forceFailed.abandonOnHold
theorem Canonical.pllLock {n fb d} (hd : Canonical d) : Canonical (pllLock n fb d) := .ite hd.setBit.putBit.putBit.frame hd.setPll.putBit
theorem Canonical.pllDead {n d} (hd : Canonical d) : Canonical (pllDead n d) :=
  .ite hd (hd.setPll.setBit.setBit.putBit.putBit.fault.each fun _ _ he => he.forceFailed).abandonOnHold
theorem Canonical.pllSwitch {p fb d} (hd : Canonical d) : Canonical (pllSwitch p fb d) := .ite hd.setPll.setBit hd.setPll
theorem Canonical.pllAny {p d} (hd : Canonical d) : Canonical (pllAny p d) :=
  .ite hd.pllSwitch (.ite hd.pllSwitch (.ite hd.pllDead hd.setPll))
theorem Canonical.pllSettle {p d} (hd : Canonical d) : Canonical (pllSettle p d) :=
  .ite hd (.ite (.ite hd.pllLock (.ite hd.pllLock (.ite hd.pllLock hd))) (.ite (.ite hd.pllSwitch hd) (.ite hd.pllSwitch hd)))

theorem Canonical.pllInputLoss {p fb d} (hd : Canonical d) : Canonical (pllInputLoss p fb d) := by
  unfold Machine.pllInputLoss
  extract_lets _ _ d1
  have hd1 : Canonical d1 := hd.setPll.pllShow
  refine .ite hd1 ?_
  split <;> exact .ite hd1.pllAny hd1

theorem Canonical.pllSwitchComplete {p d} (hd : Canonical d) : Canonical (pllSwitchComplete p d) := by
  unfold Machine.pllSwitchComplete
  split
  · exact hd
  · exact .ite (Canonical.ite hd.setPll.putBit.setBit.putBit.setBit.putBit.fault hd.setPll.putBit).pllSettle
      (Canonical.ite hd.setPll.putBit.setBit.putBit.setBit.putBit.fault hd.setPll.putBit).pllAny

theorem Canonical.pllInputGood {p fb d} (hd : Canonical d) : Canonical (pllInputGood p fb d) := hd.setPll.pllShow.pllSettle
theorem Canonical.forceFallback {n v d} (hd : Canonical d) : Canonical (forceFallback n v d) :=
  (Canonical.ite hd.putBit.setPll (.ite hd.putBit.setPll hd.putBit)).pllSettle

theorem Canonical.pllCtrlWrite {n w pri fb d} (hd : Canonical d) : Canonical (pllCtrlWrite n w pri fb d) := by
  unfold Machine.pllCtrlWrite
  exact (Canonical.ite (.ite (Canonical.ite hd.setBit hd).setReg.setPll (Canonical.ite hd.setBit hd).setReg.putBit.setBit)
    (.ite (Canonical.ite hd.setBit hd).setReg.setPll.putBit.putBit.putBit.putBit (Canonical.ite hd.setBit hd).setReg)).forceFallback

theorem Canonical.domainClockRelease {n d} (hd : Canonical d) : Canonical (domainClockRelease n d) := .ite hd.releaseDomain hd
theorem Canonical.alignPulse {h c d} (hd : Canonical d) : Canonical (alignPulse h c d) := .ite hd.frame hd
theorem Canonical.rclkDivide {f r v d} (hd : Canonical d) : Canonical (rclkDivide f r v d) := hd.setFld.frame
theorem Canonical.rclkEdge {f r d} (hd : Canonical d) : Canonical (rclkEdge f r d) := .ite hd.frame.alignPulse hd
theorem Canonical.rclkWrite {f r w d} (hd : Canonical d) : Canonical (rclkWrite f r w d) :=
  (Canonical.ite hd.setReg hd.setReg.frame).rclkDivide.clockCheck
theorem Canonical.rclkSwitchDone {f r d} (hd : Canonical d) : Canonical (rclkSwitchDone f r d) := .ite hd.putBit.frame hd
theorem Canonical.rclkDivChange {f r v d} (hd : Canonical d) : Canonical (rclkDivChange f r v d) :=
  .ite hd.rclkDivide hd.rclkDivide.rclkEdge

/-! ### The memory map (Machine/MemMap.lean) -/

theorem Canonical.dramMapWrite {k v d} (hd : Canonical d) : Canonical (dramMapWrite k v d) := .ite hd.setReg.setFld hd.setReg.setBit

/-! ### The memory channels' codes and patrol (Machine/Codes.lean) -/

theorem Canonical.saveMarks {n r d} (hd : Canonical d) : Canonical (saveMarks n r d) := hd.frameMem

theorem Canonical.markDevice {n r dev d} (hd : Canonical d) : Canonical (markDevice n r dev d) := by
  unfold Machine.markDevice
  exact .ite hd (.ite (Canonical.ite hd.bumpSat hd).setFld.setBit.setBit.fault.saveMarks
    (.ite (Canonical.ite hd.bumpSat hd).setFld.setBit.setBit.fault.saveMarks
    (Canonical.ite hd.bumpSat hd).setFld.setBit.setBit.setBit.fault.saveMarks))

theorem Canonical.unmarkDevice {n r dev d} (hd : Canonical d) : Canonical (unmarkDevice n r dev d) := by
  unfold Machine.unmarkDevice
  exact .ite (Canonical.ite hd.setFld.putBit.setFld.putBit hd.putBit.setFld).saveMarks
    (.ite (Canonical.ite hd.setFld.putBit.setFld.putBit hd.putBit.setFld).saveMarks (.ite hd.putBit.setFld.putBit.saveMarks hd))

theorem Canonical.setRpt {n k e d} (hd : Canonical d) : Canonical (setRpt n k e d) := hd.setChan

theorem Canonical.rptFree {n line d} (hd : Canonical d) : Canonical (rptFree n line d) := by
  unfold Machine.rptFree
  split
  · exact hd.setRpt
  · exact hd

theorem Canonical.poisonLine {n line d} (hd : Canonical d) : Canonical (poisonLine n line d) :=
  hd.setPoisoned.setSymErrs.rptFree.bump.setBit.setFld.setFld.fault
theorem Canonical.persistCount {n r line dev d} (hd : Canonical d) : Canonical (persistCount n r line dev d) :=
  .ite hd (.ite hd.setChan.bumpSat.markDevice hd.setChan.bumpSat)

theorem Canonical.onCorrected {n line syms scrub d} (hd : Canonical d) : Canonical (onCorrected n line syms scrub d) := by
  unfold Machine.onCorrected
  exact .ite (Canonical.ite (hd.setBit.bump.setChan.setRpt.each fun _ _ he => he.persistCount)
      hd.setBit.bump.setChan.setRpt).setRpt.setSymErrs.bump (Canonical.ite (hd.setBit.bump.setChan.setRpt.each fun _ _ hx =>
      hx.persistCount) hd.setBit.bump.setChan.setRpt).setRpt

theorem Canonical.rptWrite {n line d} (hd : Canonical d) : Canonical (rptWrite n line d) := by
  unfold Machine.rptWrite
  split
  · split
    · exact hd.setChan.setRpt
    · exact hd
  · exact hd

theorem Canonical.salvageRead {n line d} (hd : Canonical d) : Canonical (salvageRead n line d) :=
  .ite hd (.ite (hd.each fun _ _ he => he.setSymErrs) (hd.each fun _ _ hx => hx.poisonLine))

theorem Canonical.readLine {n line scrub d} (hd : Canonical d) : Canonical (readLine n line scrub d).2 := by
  unfold Machine.readLine
  refine .ite_snd (.pair hd.salvageRead) ?_
  split
  · exact .pair hd.onCorrected
  · exact .pair hd.poisonLine
  · exact .pair hd

theorem Canonical.storeLine {n line bs inject d} (hd : Canonical d) : Canonical (storeLine n line bs inject d) :=
  .ite (.ite hd.setLineBytes.setPoisoned.putBit.setPoisoned.setSymErrs.rptFree hd.setLineBytes.setPoisoned.putBit.setSymErrs)
    hd.setLineBytes.setPoisoned.setSymErrs

theorem Canonical.eccCmdErr {n d} (hd : Canonical d) : Canonical (eccCmdErr n d) := hd.setBit
theorem Canonical.eccFields {n r dev d} (hd : Canonical d) : Canonical (eccFields n r dev d) := hd.setFld.setFld
theorem Canonical.eccMark {n r dev d} (hd : Canonical d) : Canonical (eccMark n r dev d).2 :=
  .ite_snd (.pair hd.eccCmdErr) (.pair hd.markDevice)
theorem Canonical.eccUnmark {n r dev d} (hd : Canonical d) : Canonical (eccUnmark n r dev d).2 :=
  .ite_snd (.pair hd.eccCmdErr) (.pair hd.unmarkDevice)
theorem Canonical.eccSalvage {n r d} (hd : Canonical d) : Canonical (eccSalvage n r d).2 :=
  .ite_snd (.pair hd.setBit.saveMarks) (.pair hd.eccCmdErr)

theorem Canonical.salvageDone {n r d} (hd : Canonical d) : Canonical (salvageDone n r d) := by
  unfold Machine.salvageDone
  refine .ite hd ?_
  extract_lets mine d1 void _ d2
  have hd1 : Canonical d1 := hd.each fun e kv he => by
    extract_lets line
    refine .ite he ?_
    split
    · exact he.poisonLine
    · exact he.setSymErrs
    · exact he.setSymErrs
  have hd2 : Canonical d2 :=
    hd1.frameDram (memory_filter_wf (fun a => a / 2 ^ 36 == n && void (a % 2 ^ 36 / 128)) _ hd1.dram)
  exact hd2.putBit.setBit.saveMarks

theorem Canonical.eccClear {n r d} (hd : Canonical d) : Canonical (eccClear n r d) := hd.setChan.each fun _ _ he => he.setReg
theorem Canonical.injectArm {n mc v d} (hd : Canonical d) : Canonical (injectArm n mc v d) := .ite hd.setReg.answer hd.answer

theorem Canonical.rptIdxWrite {n k d} (hd : Canonical d) : Canonical (rptIdxWrite n k d) := by
  unfold Machine.rptIdxWrite
  extract_lets d1
  have hd1 : Canonical d1 := hd.setReg
  split <;> exact hd1.setReg.setReg

/-! ### Lining (Machine/Lining.lean) -/

theorem Canonical.setRngState {i st d} (hd : Canonical d) : Canonical (setRngState i st d) := hd.setFld
theorem Canonical.setMix {n line x d} (hd : Canonical d) : Canonical (setMix n line x d) := hd.frameMem
theorem Canonical.setCtr {n lvl c v d} (hd : Canonical d) : Canonical (setCtr n lvl c v d) := hd.frameMem
theorem Canonical.setGen {n lvl x v d} (hd : Canonical d) : Canonical (setGen n lvl x v d) := hd.frameMem
theorem Canonical.zeroCtrs {n lvl x d} (hd : Canonical d) : Canonical (zeroCtrs n lvl x d) := hd.frameMem
theorem Canonical.setSel {n x b d} (hd : Canonical d) : Canonical (setSel n x b d) := hd.frameMem
theorem Canonical.freeBytes {n d} (hd : Canonical d) : Canonical (freeBytes n d).2 := .pair hd.takeFree

theorem Canonical.writeBlock {n lvl x d} (hd : Canonical d) : Canonical (writeBlock n lvl x d) := by
  unfold Machine.writeBlock
  exact .ite hd.freeBytes.storeLine (.ite hd.freeBytes.storeLine.frameMem.storeLine.frameMem.putBit (.ite
      hd.freeBytes.storeLine.frameMem.frameMem.setBit hd.freeBytes.storeLine.frameMem.frameMem))

theorem Canonical.integrityHalt {n lvl l what d} (hd : Canonical d) : Canonical (integrityHalt n lvl l what d) := by
  unfold Machine.integrityHalt
  extract_lets _ d1 d2 d3 d4 _ d5 _ d6 _ d7 d8
  have hd1 : Canonical d1 := hd.frameMem
  have hd2 : Canonical d2 := hd1.setBit.setFld.setFld
  have hd3 : Canonical d3 := hd2.setFld.setFld
  have hd4 : Canonical d4 := hd3.fault
  have hd5 : Canonical d5 := hd4.each fun _ _ he => (Canonical.ite he.bobGap he).holdValues
  have hd6 : Canonical d6 := hd5.frame
  have hd7 : Canonical d7 := hd6.setFab
  have hd8 : Canonical d8 := hd7.each fun _ _ he => he.laneEval
  exact .ite hd4 (hd8.each fun _ _ he => he.forceEffects).abandonOnHold

theorem Canonical.setCache {n c d} (hd : Canonical d) : Canonical (setCache n c d) := hd.frameMem
theorem Canonical.cacheTouch {n k st d} (hd : Canonical d) : Canonical (cacheTouch n k st d) := hd.setCache
theorem Canonical.touchBlocks {n line d} (hd : Canonical d) : Canonical (touchBlocks n line d) := hd.cacheTouch.cacheTouch
theorem Canonical.poisonRun {n first count d} (hd : Canonical d) : Canonical (poisonRun n first count d) :=
  hd.each fun _ _ he => he.poisonLine
theorem Canonical.nodeRebuild {n lvl x d} (hd : Canonical d) : Canonical (nodeRebuild n lvl x d) :=
  hd.zeroCtrs.setGen.setBit.fault.writeBlock.poisonRun
theorem Canonical.tagMemFault {n lvl d} (hd : Canonical d) : Canonical (tagMemFault n lvl d) := hd.setBit.fault

theorem Canonical.fetchBlock {n lvl x d} (hd : Canonical d) : Canonical (fetchBlock n lvl x d).2 := by
  unfold Machine.fetchBlock
  extract_lets q d1 _ halt m d2
  have hq : Canonical q.2 := hd.readLine
  have hd1 : Canonical d1 := hq
  have hhalt : ∀ d, Canonical d → Canonical (halt d).2 := fun _ he => .pair he.integrityHalt
  clear_value halt
  have hm : Canonical m.2 := hd1.readLine
  have hd2 : Canonical d2 := hm
  exact .ite_snd (.ite_snd (.pair hd1) (.pair hd1.poisonRun.writeBlock.tagMemFault))
    (.ite_snd (.pair hd1) (.ite_snd (hhalt _ hd1)
    (.ite_snd (.pair hd1.nodeRebuild) (.ite_snd (.pair hd2.setBit.bump.writeBlock) (.ite_snd (hhalt _ hd2) (.pair hd2.nodeRebuild))))))

/-- By recursion on the levels above the block. -/
theorem Canonical.need : ∀ {fuel n lvl x d}, Canonical d → Canonical (need fuel n lvl x d).2
  | 0, _, _, _, _, hd => hd
  | fuel + 1, n, lvl, x, d, hd => by
    unfold Machine.need
    refine .ite_snd (.pair hd.cacheTouch.bump) ?_
    extract_lets up q
    have hup : Canonical up.2 := .ite_snd hd hd.need
    have hq : Canonical q.2 := hup.bump.fetchBlock
    clear_value up q
    split
    · split
      · exact hq.cacheTouch
      · exact hq
    · exact hup

theorem Canonical.ctrEnd {n d} (hd : Canonical d) : Canonical (ctrEnd n d) := hd.setBit.bump
theorem Canonical.bumpCtr {n lvl c d} (hd : Canonical d) : Canonical (bumpCtr n lvl c d) :=
  .ite hd.setCtr (.ite hd.zeroCtrs.ctrEnd.setGen hd.zeroCtrs.ctrEnd.setGen.frameMem)

theorem Canonical.writeBack {n k d} (hd : Canonical d) : Canonical (writeBack n k d) := by
  unfold Machine.writeBack
  extract_lets _ _ up d1 d2
  have hup : Canonical up.2 := .ite_snd (.pair hd) hd.need
  have hd1 : Canonical d1 := hup.bumpCtr
  have hd2 : Canonical d2 := .ite hd1 hd1.cacheTouch
  refine .ite hd.writeBlock.setCache ?_
  refine .ite hd.setCache ?_
  split
  · exact hd2.writeBlock.setCache
  · exact hup

/-- By recursion on the bound of the evictions. -/
theorem Canonical.cacheTrim : ∀ {fuel n d}, Canonical d → Canonical (cacheTrim fuel n d)
  | 0, _, _, hd => hd
  | fuel + 1, n, d, hd => by
    unfold Machine.cacheTrim
    refine .ite hd ?_
    extract_lets can
    split
    · exact (Canonical.ite hd hd.writeBack).setCache.cacheTrim
    · exact hd

theorem Canonical.cacheFlush {n d} (hd : Canonical d) : Canonical (cacheFlush n d) :=
  hd.each fun _ _ he => he.each fun _ _ hx => hx.writeBack
theorem Canonical.mirrorRetry {n d} (hd : Canonical d) : Canonical (mirrorRetry n d) := hd.each fun _ _ he => he.writeBack

theorem Canonical.needBlocks {n line d} (hd : Canonical d) : Canonical (needBlocks n line d).2 := by
  unfold Machine.needBlocks
  extract_lets t c
  have ht : Canonical t.2 := hd.need
  have hc : Canonical c.2 := ht.need
  split
  · exact .pair hc.cacheTrim
  · exact .pair ht.cacheTrim

theorem Canonical.dropTagBad {n line d} (hd : Canonical d) : Canonical (dropTagBad n line d) := hd.frameMem

theorem Canonical.initLine {i n line d} (hd : Canonical d) : Canonical (initLine i n line d) := by
  unfold Machine.initLine
  extract_lets
  refine .ite hd ?_
  split
  · extract_lets d1 q d2
    have hd1 : Canonical d1 := .ite hd.dropTagBad.touchBlocks.cacheTrim hd
    have hq : Canonical q.2 := hd1.readLine
    have hd2 : Canonical d2 := hq
    exact .ite hd1.storeLine.setMix (.ite (.ite hd2.storeLine.setMix hd2.setMix) hd1)
  · exact hd

theorem Canonical.tagCheck {n line o d} (hd : Canonical d) : Canonical (tagCheck n line o d).2 :=
  .ite_snd (.ite_snd (.pair hd.integrityHalt) (.pair hd.poisonLine.tagMemFault)) (.pair hd)

theorem Canonical.linedCheck {n line d} (hd : Canonical d) : Canonical (linedCheck n line d).2 := by
  unfold Machine.linedCheck
  extract_lets q b
  have hq : Canonical q.2 := hd.readLine
  have hb : Canonical b.2 := hq.needBlocks
  refine .ite_snd (.pair hq) ?_
  split
  · exact hb.tagCheck
  · exact .pair hb

theorem Canonical.linedRead {n line d} (hd : Canonical d) : Canonical (linedRead n line d).2.2 := by
  unfold Machine.linedRead
  extract_lets t
  have ht : Canonical t.2 := hd.linedCheck
  split <;> exact .triple ht

theorem Canonical.sweepRead {n line d} (hd : Canonical d) : Canonical (sweepRead n line d).2 :=
  .ite_snd (.pair hd.linedCheck) (.pair hd.linedCheck)

theorem Canonical.remixBlock {i n x d} (hd : Canonical d) : Canonical (remixBlock i n x d) := by
  unfold Machine.remixBlock
  extract_lets plains d1 d2
  have hplains : Canonical plains.2 := (Canonical.pair hd).foldl_snd fun _ _ he => .pair he.sweepRead
  have hd1 : Canonical d1 := hplains.zeroCtrs.setGen.setSel
  have hd2 : Canonical d2 := by
    unfold d2
    refine hd1.each fun _ _ he => ?_
    extract_lets d3
    have hd3 : Canonical d3 := he.setMix
    split
    · exact hd3.storeLine
    · exact hd3
  exact .ite hplains hd2.touchBlocks.cacheTrim

theorem Canonical.showBound {i a d} (hd : Canonical d) : Canonical (showBound i a d) := hd.setFld.setFld

theorem Canonical.setSweep {i x d} (hd : Canonical d) : Canonical (setSweep i x d) := by
  unfold Machine.setSweep
  extract_lets _ d1
  have hd1 : Canonical d1 := hd.frameMem
  split
  · exact hd1.showBound
  · exact hd1

theorem Canonical.setKey {i k d} (hd : Canonical d) : Canonical (setKey i k d) := hd.frameMem

theorem Canonical.rekeyStart {i a d} (hd : Canonical d) : Canonical (rekeyStart i a d) := by
  unfold Machine.rekeyStart
  exact hd.setKey.frameMem.setRngState.putBit.setSweep

theorem Canonical.nextCounter {i n line d} (hd : Canonical d) : Canonical (nextCounter i n line d).2 := by
  unfold Machine.nextCounter
  extract_lets _ _ d1 _ _ d2 d3 _ d4 d' d'1
  have hd1 : Canonical d1 := hd.ctrEnd
  have hd2 : Canonical d2 := hd1.zeroCtrs.setGen
  have hd3 : Canonical d3 := by
    unfold d3
    refine hd2.each fun _ _ he => ?_
    extract_lets q
    have hq : Canonical q.2 := he.sweepRead
    split
    · exact hq.storeLine.setMix
    · exact hq
  have hd4 : Canonical d4 := hd1.frameMem
  have hd' : Canonical d' := hd1.remixBlock
  have hd'1 : Canonical d'1 := hd1.rekeyStart.remixBlock
  exact .ite_snd (.pair hd.setCtr) (.ite_snd (.pair hd3) (.ite_snd (.ite_snd (.pair hd4.setBit) (.ite_snd (.pair hd') (.pair hd'.setCtr)))
    (.ite_snd (.pair hd'1) (.pair hd'1.setCtr))))

theorem Canonical.linCmdErr {d} (hd : Canonical d) : Canonical (linCmdErr d) := hd.setBit
theorem Canonical.clearBlocks {i d} (hd : Canonical d) : Canonical (clearBlocks i d) := hd.frameMem

theorem Canonical.liningOpen {i mode d} (hd : Canonical d) : Canonical (liningOpen i mode d).2 :=
  .ite_snd (.pair hd) (.ite_snd (.pair hd.linCmdErr) (.ite_snd (.pair hd) (.pair
      hd.clearBlocks.setKey.frameMem.setRngState.putBit.setSweep)))

theorem Canonical.liningClose {i mode d} (hd : Canonical d) : Canonical (liningClose i mode d).2 :=
  .ite_snd (.pair hd) (.ite_snd (.pair hd.linCmdErr)
    (.ite_snd (.pair hd.setKey.setRngState) (.pair (Canonical.ite hd hd.setKey).setRngState.setSweep)))

theorem Canonical.liningRekey {i d} (hd : Canonical d) : Canonical (liningRekey i d).2 :=
  .ite_snd (.pair hd) (.ite_snd (.pair hd.linCmdErr) (.pair hd.rekeyStart))
theorem Canonical.linFields {i mode d} (hd : Canonical d) : Canonical (linFields i mode d) := hd.putBit.setFld

theorem Canonical.queuedStart {i d} (hd : Canonical d) : Canonical (queuedStart i d) := by
  unfold Machine.queuedStart
  split
  · exact hd.frameMem.putBit.rekeyStart
  · exact hd

theorem Canonical.queuedNone {i d} (hd : Canonical d) : Canonical (queuedNone i d) := hd.frameMem.putBit

theorem Canonical.sweepDone {i k d} (hd : Canonical d) : Canonical (sweepDone i k d) := by
  unfold Machine.sweepDone
  extract_lets d1
  have hd1 : Canonical d1 := hd.setSweep
  split
  · exact hd1.setRngState.queuedStart
  · exact hd1.setRngState.queuedStart
  · exact hd1.clearBlocks.setRngState
  · exact hd1.clearBlocks.setKey.setRngState.queuedNone
  · exact hd1.setRngState.queuedStart

theorem Canonical.sweepAct {i sw n line d} (hd : Canonical d) : Canonical (sweepAct i sw n line d) := by
  unfold Machine.sweepAct
  split
  · exact hd.initLine
  · exact hd.initLine
  · exact hd.dropTagBad.touchBlocks.cacheTrim
  · extract_lets q
    have hq : Canonical q.2 := hd.sweepRead
    split
    · exact hq.storeLine.setMix
    · exact .ite hq hq.setMix
  · exact .ite hd hd.remixBlock

theorem Canonical.sweepLine {i d} (hd : Canonical d) : Canonical (sweepLine i d) := by
  unfold Machine.sweepLine
  split
  · exact hd
  · split
    · exact hd
    · refine .ite hd ?_
      extract_lets d1
      have hd1 : Canonical d1 := hd.sweepAct
      refine .ite hd1 ?_
      split
      · exact hd1.setSweep
      · exact hd1.sweepDone

theorem Canonical.liningHalfLost {h d} (hd : Canonical d) : Canonical (liningHalfLost h d) :=
  hd.frameMem.each fun _ _ he => .ite he.setRngState.setSweep.queuedNone he
theorem Canonical.haltRelease {d} (hd : Canonical d) : Canonical (haltRelease d) := (hd.each fun _ _ he => he.poisonRun).frameMem.putBit

/-! ### The memory channels (Machine/Channel.lean) -/

theorem Canonical.chanReadLine {n line mc d} (hd : Canonical d) : Canonical (chanReadLine n line mc d).2.2 := by
  unfold Machine.chanReadLine
  extract_lets plainDecode
  have hplainDecode : ∀ d, Canonical d → Canonical (plainDecode d).2.2 := fun _ he => .ite_third (.triple he.readLine)
    (.triple he.readLine)
  clear_value plainDecode
  refine .ite_third (.triple hd) ?_
  split
  · exact hplainDecode _ hd
  · exact .triple hd
  · exact .ite_third (hplainDecode _ (.ite hd.initLine hd)) (Canonical.ite hd.initLine hd).linedRead

theorem Canonical.drainUpdate {n d} (hd : Canonical d) : Canonical (drainUpdate n d) := .ite hd.setBit (.ite hd.putBit hd)
theorem Canonical.wqLost {n d} (hd : Canonical d) : Canonical (wqLost n d) := hd.setBit

theorem Canonical.entryStore {n e bs d} (hd : Canonical d) : Canonical (entryStore n e bs d).2 := by
  unfold Machine.entryStore
  split
  · exact .ite_snd (.pair hd.nextCounter.dropTagBad.setMix.storeLine.touchBlocks.cacheTrim) (.pair hd.nextCounter)
  · exact .pair hd.setMix.storeLine

theorem Canonical.issueEntry {n e d} (hd : Canonical d) : Canonical (issueEntry n e d) := by
  unfold Machine.issueEntry
  extract_lets gone issued counted lost view d1 store q q1 b q2
  have hgone : Keeps gone := fun _ he => he.setChan.drainUpdate
  have hissued : Keeps issued := fun _ he => hgone (.ite he.bump he.bump.bump)
  have hcounted : Keeps counted := fun _ he => hissued he.rptWrite
  have hlost : Keeps lost := fun _ he => hissued he.wqLost
  have hd1 : Canonical d1 := by
    unfold d1
    clear_value view
    split
    · exact .ite hd.initLine hd
    · exact hd
  have hstore : ∀ bs, Keeps (store bs) := fun _ _ he => .ite (hcounted he.entryStore) he.entryStore
  clear_value store
  have hq : Canonical q.2 := hd1.needBlocks
  have hq1 : Canonical q1.2 := hd1.readLine
  have hb : Canonical b.2 := hq1.needBlocks
  have hq2 : Canonical q2.2.2 := hd1.linedRead
  refine .ite (hgone hd1.wqLost) ?_
  refine .ite ?_ ?_
  · clear_value view
    split
    · exact .ite (hlost hq) (hstore _ hq)
    · exact hstore _ hd1
  · clear_value view
    split
    · exact .ite (.ite (hstore _ hb) (hlost hb)) (.ite (hstore _ hq2) (hlost hq2))
    · exact .ite (hstore _ hq1) (hlost hq1)

theorem Canonical.issueLine {n line d} (hd : Canonical d) : Canonical (issueLine n line d) := by
  unfold Machine.issueLine
  split
  · exact hd.issueEntry
  · exact hd

theorem Canonical.drainAll {n d} (hd : Canonical d) : Canonical (drainAll n d) := hd.each fun _ _ he => he.issueEntry
theorem Canonical.chanAnswer {n rid a d} (hd : Canonical d) : Canonical (chanAnswer n rid a d) := hd.setChan

theorem Canonical.chanRead {n mc addr len d} (hd : Canonical d) : Canonical (chanRead n mc addr len d).2 := by
  unfold Machine.chanRead
  extract_lets r _ d1 d2
  have hr : Canonical r.2.2 := by
    unfold r
    refine (Canonical.triple hd).foldl_third fun _ _ he => ?_
    extract_lets d3 d4 _ q
    have hd3 : Canonical d3 := he
    have hd4 : Canonical d4 := by
      unfold d4
      split
      · exact .ite hd3 hd3.issueEntry
      · exact hd3
    have hq : Canonical q.2.2 := hd4.chanReadLine
    split
    · exact .ite_third (.triple hd4) (.ite_third (.triple hq) (.triple hq))
    · exact .ite_third (.triple hq) (.triple hq)
  have hd1 : Canonical d1 := hr.bump
  have hd2 : Canonical d2 := .ite hd1.bump hd1
  exact .pair (.ite hd2.bump hd2)

theorem Canonical.chanReadNow {n mc addr len d} (hd : Canonical d) : Canonical (chanReadNow n mc addr len d).2 :=
  .ite_snd hd.chanRead (.pair hd)

theorem Canonical.mchRead {n rq d} (hd : Canonical d) : Canonical (mchRead n rq d) := by
  unfold Machine.mchRead
  extract_lets _ _ _ q d1
  have hq : Canonical q.2 := hd.chanRead
  have hd1 : Canonical d1 := by
    unfold d1
    refine hd.each fun _ _ he => ?_
    split
    · exact .ite he he.issueEntry
    · exact he
  exact .ite hd.chanAnswer (.ite hq.chanAnswer (.ite hd hd1.setChan))

theorem Canonical.serveRead {n e d} (hd : Canonical d) : Canonical (serveRead n e d) :=
  (Canonical.ite_snd (.pair hd) hd.chanRead).setChan.chanAnswer

theorem Canonical.queueWrite {n rid mc cls addr data d} (hd : Canonical d) : Canonical (queueWrite n rid mc cls addr data d) := by
  unfold Machine.queueWrite
  extract_lets _ d1 d2
  have hd1 : Canonical d1 := hd.each fun _ _ he => he.serveRead
  have hd2 : Canonical d2 := by
    unfold d2
    refine hd1.each fun _ _ he => ?_
    extract_lets _ d3
    have hd3 : Canonical d3 := by
      unfold d3
      split
      · exact .ite he he.issueEntry
      · exact he
    split <;> exact hd3.setChan
  exact hd2.drainUpdate

theorem Canonical.mchWrite {n rq data d} (hd : Canonical d) : Canonical (mchWrite n rq data d) :=
  .ite (Canonical.ite hd.setBit hd).chanAnswer (.ite hd hd.queueWrite.chanAnswer)
theorem Canonical.chanWriteNow {n mc cls addr data d} (hd : Canonical d) : Canonical (chanWriteNow n mc cls addr data d).2 :=
  .ite_snd (.pair (.ite hd.setBit hd)) (.pair (hd.each fun _ _ he => he.issueEntry).queueWrite)
theorem Canonical.refresh {n k d} (hd : Canonical d) : Canonical (refresh n k d) := hd.setChan

theorem Canonical.mchSchedule {n legal d} (hd : Canonical d) : Canonical (mchSchedule n legal d) := by
  unfold Machine.mchSchedule
  extract_lets _ opened
  have hopened : ∀ l, Keeps (opened l) := fun _ _ he => he.setChan
  clear_value opened
  refine .ite hd ?_
  split
  · exact hd.refresh.bump
  · split
    · exact hd.refresh
    · split
      · exact (hopened _ hd).serveRead
      · exact (hopened _ hd).issueEntry
      · refine .ite ?_ hd
        split
        · exact hd.refresh
        · exact hd

theorem Canonical.mchPromotion {n rid d} (hd : Canonical d) : Canonical (mchPromotion n rid d) := hd.setChan
theorem Canonical.refreshDebt {n d} (hd : Canonical d) : Canonical (refreshDebt n d) := .ite hd (hd.each fun _ _ he => he.setChan)
theorem Canonical.rankTemp {n r t d} (hd : Canonical d) : Canonical (rankTemp n r t d) := hd.setChan.putBit
theorem Canonical.serveAll {n d} (hd : Canonical d) : Canonical (serveAll n d) := hd.each fun _ _ he => he.serveRead
theorem Canonical.setDelay {n r k v d} (hd : Canonical d) : Canonical (setDelay n r k v d) := hd.setReg.setChan
theorem Canonical.dlyWrite {n r k v d} (hd : Canonical d) : Canonical (dlyWrite n r k v d) := .ite hd.setDelay hd.setBit
theorem Canonical.seedChannel {n d} (hd : Canonical d) : Canonical (seedChannel n d) :=
  hd.each fun _ _ he => .ite (he.each fun _ _ hx => hx.setDelay) (he.each fun _ _ hy => hy.setDelay).setReg

theorem Canonical.mchCfgWrite {n v d} (hd : Canonical d) : Canonical (mchCfgWrite n v d) := by
  unfold Machine.mchCfgWrite
  exact .ite (.ite (.ite hd hd.setBit) (Canonical.ite hd hd.setBit).serveAll.drainAll.setReg.setChanState)
    (.ite hd.setReg.setBit (.ite hd.setReg hd.setReg.seedChannel.setChanState))

theorem Canonical.chanFailed {n detail d} (hd : Canonical d) : Canonical (chanFailed n detail d) :=
  (Canonical.ite hd.setChanState.setBit hd.setChanState.setBit).fault

theorem Canonical.chanTraining {n seedOk fullOk testOk delays d} (hd : Canonical d) :
    Canonical (chanTraining n seedOk fullOk testOk delays d) := by
  unfold Machine.chanTraining
  exact .ite hd (.ite hd.chanFailed (.ite (Canonical.ite hd (hd.each fun _ _ he => (he.each fun _ _ hx =>
      hx.setDelay).frameMem)).chanFailed (Canonical.ite hd (hd.each fun _ _ hy => (hy.each fun _ _ hz =>
      hz.setDelay).frameMem)).setChan.setChanState))

theorem Canonical.driftPause {n r meas d} (hd : Canonical d) : Canonical (driftPause n r meas d) :=
  .ite hd (hd.each fun _ _ he => .ite he.setReg.setBit.fault he.setReg).bump
theorem Canonical.driftNow {n m0 m1 d} (hd : Canonical d) : Canonical (driftNow n m0 m1 d) := .ite hd.driftPause.driftPause hd.driftPause

theorem Canonical.srEnter {n why d} (hd : Canonical d) : Canonical (srEnter n why d) := by
  unfold Machine.srEnter
  extract_lets d1 q _ d2 _ d3 _ d4
  have hd1 : Canonical d1 := hd.srTrigger
  have hq : Canonical q.2 := hd1.takeFree
  have hd2 : Canonical d2 := hq.each fun _ _ he => he.issueEntry
  have hd3 : Canonical d3 := .ite hd2 hd2.wqLost
  have hd4 : Canonical d4 := by
    unfold d4
    split
    · exact hd1.serveAll.drainAll.cacheFlush
    · exact hd1
    · exact hd3.setChan
  exact .ite hd1 hd4.setChan.drainUpdate

theorem Canonical.freeDelay {centre win d} (hd : Canonical d) : Canonical (freeDelay centre win d).2 := .pair hd.takeFree

theorem Canonical.srExit {n d} (hd : Canonical d) : Canonical (srExit n d) :=
  .ite hd (Canonical.ite hd (hd.each fun _ _ he => (he.each fun _ _ hx =>
      hx.freeDelay.freeDelay.setReg).takeFree.bump)).setChan.setChanState.drainAll

theorem Canonical.scrubLine {n line d} (hd : Canonical d) : Canonical (scrubLine n line d).2 := hd.issueLine.readLine
theorem Canonical.patrolScrub {n d} (hd : Canonical d) : Canonical (patrolScrub n d) :=
  .ite hd (.ite (.ite hd.setChan.bump hd.setChan) (.ite hd.scrubLine.setChan.bump hd.scrubLine.setChan))
theorem Canonical.passElapsed {n d} (hd : Canonical d) : Canonical (passElapsed n d) := hd.setFld
theorem Canonical.passEnd {n stopped d} (hd : Canonical d) : Canonical (passEnd n stopped d) :=
  .ite hd.passElapsed.setChan.putBit.setBit.setBit hd.passElapsed.setChan.putBit.setBit

theorem Canonical.passStart {n d} (hd : Canonical d) : Canonical (passStart n d).2 :=
  .ite_snd (.pair hd.setBit) (.ite_snd (.pair hd.setBit) (.ite_snd (.pair hd.setBit) (.pair (hd.setChan.each fun _ _ he =>
      he.setReg).setBit)))

theorem Canonical.passLine {n d} (hd : Canonical d) : Canonical (passLine n d) := by
  unfold Machine.passLine
  split
  · exact hd
  · refine .ite hd.passElapsed ?_
    extract_lets _ _ q d1 d2 _ d3
    have hq : Canonical q.2 := hd.scrubLine
    have hd1 : Canonical d1 := hq.bump
    have hd2 : Canonical d2 := by
      unfold d2
      split
      · exact hd1.bump
      · exact hd1.bump
      · exact hd1
    have hd3 : Canonical d3 := hd2.setChan.passElapsed
    exact .ite hd.passEnd (.ite hd3.passEnd hd3)

theorem Canonical.passStop {n d} (hd : Canonical d) : Canonical (passStop n d) := .ite hd.passEnd hd

/-! ### The Clover engines (Machine/Clover.lean) -/

theorem Canonical.engineStep {e b d} (hd : Canonical d) : Canonical (engineStep e b d) := by
  unfold Machine.engineStep
  extract_lets _ _ _ d1 _ d2
  have hd1 : Canonical d1 := hd.setEngine
  have hd2 : Canonical d2 := by
    unfold d2
    split
    · exact hd1.setEngine
    · exact hd1
  exact .ite hd2.fault hd2

theorem Canonical.issueOp {e b d} (hd : Canonical d) : Canonical (issueOp e b d) := .ite hd.engineStep.settle hd
theorem Canonical.fetchIssue {e d} (hd : Canonical d) : Canonical (fetchIssue e d) := .ite hd (.ite hd.setEngine.fault hd.engineStep)
theorem Canonical.request {e now hold d} (hd : Canonical d) : Canonical (request e now hold d) := .ite hd hd.setEngine
theorem Canonical.askStart {e pc d} (hd : Canonical d) : Canonical (askStart e pc d) := hd.request
theorem Canonical.askStop {e d} (hd : Canonical d) : Canonical (askStop e d) := hd.request
theorem Canonical.askResume {e d} (hd : Canonical d) : Canonical (askResume e d) := hd.request
theorem Canonical.askClear {e d} (hd : Canonical d) : Canonical (askClear e d) := hd.request
theorem Canonical.clvGap {e d} (hd : Canonical d) : Canonical (clvGap e d) := .ite hd.bobGap hd
theorem Canonical.fabricStarts {e d} (hd : Canonical d) : Canonical (fabricStarts e d) := .ite hd.askStart hd
theorem Canonical.fabricStart {e d} (hd : Canonical d) : Canonical (fabricStart e d) :=
  .ite hd (.ite (.ite hd.setEngine.fabricStarts hd) hd.fabricStarts)
theorem Canonical.fabricStop {e d} (hd : Canonical d) : Canonical (fabricStop e d) :=
  .ite hd (.ite (.ite hd.setEngine.askStop hd) hd.askStop)
theorem Canonical.ctlSinks {d0 e d} (hd : Canonical d) : Canonical (ctlSinks d0 e d) :=
  (hd.setEngine.when fun _ he => he.askStop).when fun _ hx => hx.fabricStarts
theorem Canonical.heldApply {e d} (hd : Canonical d) : Canonical (heldApply e d) := .ite hd hd.setEngine
theorem Canonical.parityRead {e d} (hd : Canonical d) : Canonical (parityRead e d) := hd.setEngine.fault

theorem Canonical.cloverAccess {e w off len data d} (hd : Canonical d) : Canonical (cloverAccess e w off len data d).2.2 := by
  unfold Machine.cloverAccess
  extract_lets _ _ _ _ d'
  have hd' : Canonical d' := hd.setEngine
  refine .ite_third (.triple hd) ?_
  refine .ite_third (.ite_third (.ite_third (.triple hd'.parityRead) (.triple hd')) (.ite_third (.triple hd.parityRead) (.triple hd)))
    (.ite_third (.ite_third (.triple hd) (.ite_third (.triple hd.setEngine) (.ite_third (.triple hd.parityRead) (.triple hd))))
    (.triple hd))

theorem Canonical.clvRecord {e off data d} (hd : Canonical d) : Canonical (clvRecord e off data d) := .ite hd.bobData hd
theorem Canonical.cloverNet {e w off len data d} (hd : Canonical d) : Canonical (cloverNet e w off len data d).2.2 :=
  .ite_third (.triple hd) (.triple (.ite hd.cloverAccess.clvRecord hd.cloverAccess))
theorem Canonical.clvAccess {e w off len data d} (hd : Canonical d) : Canonical (clvAccess e w off len data d) := hd.cloverNet.answer
theorem Canonical.clvStarved {e w off len data d} (hd : Canonical d) : Canonical (clvStarved e w off len data d) :=
  (Canonical.ite hd.setEngine hd).clvAccess

theorem Canonical.ctlCmd {e cmd d} (hd : Canonical d) : Canonical (ctlCmd e cmd d) := by
  unfold Machine.ctlCmd
  split
  · exact hd.askStart
  · exact hd.askStop
  · exact hd.askResume
  · exact hd.askClear
  · exact hd

theorem Canonical.ctlWrite {e o v d} (hd : Canonical d) : Canonical (ctlWrite e o v d) := by
  unfold Machine.ctlWrite
  extract_lets
  split
  · exact hd.setEngine.ctlCmd
  · exact hd.setEngine
  · exact hd.setEngine.settle
  · exact hd.setEngine
  · exact hd.setEngine
  · exact hd

theorem Canonical.cloverRegWrite {e o v d} (hd : Canonical d) : Canonical (cloverRegWrite e o v d) := .ite hd.setEngine hd.ctlWrite

theorem Canonical.cloverControl {e w off len data d} (hd : Canonical d) : Canonical (cloverControl e w off len data d).2.2 := by
  unfold Machine.cloverControl
  exact .ite_third (.triple hd) (.ite_third (.triple hd)
    (.ite_third (.triple hd) (.ite_third (.triple hd)
    (.ite_third (.triple ((Canonical.ite hd hd.clvGap).each fun _ _ he => .ite he.cloverRegWrite he)) (.triple hd)))))

theorem Canonical.windowAccess {e w off len data d} (hd : Canonical d) : Canonical (windowAccess e w off len data d) :=
  hd.cloverControl.answer
theorem Canonical.columnClock {f v d} (hd : Canonical d) : Canonical (columnClock f v d) := hd.setReg.clockCheck
theorem Canonical.columnOverspeed {f k kHz d} (hd : Canonical d) : Canonical (columnOverspeed f k kHz d) := hd.putBit
theorem Canonical.clockStretch {f k n d} (hd : Canonical d) : Canonical (clockStretch f k n d) := .ite hd.bump hd
theorem Canonical.stretchMax {f k d} (hd : Canonical d) : Canonical (stretchMax f k d) := hd.setBit.fault

/-! ### Stiles and packets on the network (Machine/Network.lean) -/

theorem Canonical.stileCtrlWrite {s v d} (hd : Canonical d) : Canonical (stileCtrlWrite s v d) := hd.setReg.stileApply
theorem Canonical.addOutst {s o d} (hd : Canonical d) : Canonical (addOutst s o d) := hd.frame.showOutst

theorem Canonical.sendLegs {s write addr len cls dev tag data ps d} (hd : Canonical d) :
    Canonical (sendLegs s write addr len cls dev tag data ps d) :=
  (hd.each fun _ _ he => he.inject).addOutst.settleOutst

theorem Canonical.stileRequest {s write addr lenM1 cls dev tag data d} (hd : Canonical d) :
    Canonical (stileRequest s write addr lenM1 cls dev tag data d) := by
  unfold Machine.stileRequest
  extract_lets _ _ fail send
  have hfail : ∀ st, Keeps (fail st) := fun _ _ he => he.netComplete
  clear_value fail
  have hsend : ∀ ps, Canonical (send ps) := fun _ => hd.sendLegs
  clear_value send
  refine .ite hd ?_
  refine .ite (hfail _ hd) ?_
  refine .ite ?_ ?_
  · split
    · exact hfail _ hd
    · exact hsend _
  · split
    · exact hfail _ hd.setBit
    · exact .ite (hfail _ hd.setBit) (.ite (hsend _) (hsend _))

theorem Canonical.response {hdr data poison d} (hd : Canonical d) : Canonical (response hdr data poison d) := by
  unfold Machine.response
  refine .ite hd ?_
  extract_lets t d1 _ finish
  have ht : Canonical t.2 := hd.takeArrived
  have hd1 : Canonical d1 := ht
  have hfinish : ∀ o, Keeps (finish o) := fun _ _ he => he.answerParts
  clear_value finish
  split
  · exact .ite hd1 (.ite hd1.dropOutst (.ite hd1.dropOutst.setBit (.ite (hfinish _ hd1) hd1.frame)))
  · exact .ite hd1 hd1.setBit
  · exact hfinish _ hd1
  · exact hd1

theorem Canonical.stileDeliver {s x d} (hd : Canonical d) : Canonical (stileDeliver s x d) := .ite hd hd.frame.recordBeats

theorem Canonical.stileWake {s d} (hd : Canonical d) : Canonical (stileWake s d) := by
  unfold Machine.stileWake
  refine .ite hd ?_
  extract_lets _ _ _ _ d1 d2
  have hd1 : Canonical d1 := hd.frame
  have hd2 : Canonical d2 := hd1.each fun _ _ he => he.stileDeliver
  refine hd2.each fun _ _ he => ?_
  split
  · exact he.answerParts
  · exact he

theorem Canonical.stilesWake {d} (hd : Canonical d) : Canonical (stilesWake d) := hd.each fun _ _ he => he.stileWake

theorem Canonical.stileInbound {s hdr data poison d} (hd : Canonical d) : Canonical (stileInbound s hdr data poison d) := by
  unfold Machine.stileInbound
  refine .ite hd ?_
  extract_lets t _ w
  have ht : Canonical t.2 := hd.takeArrived
  have hw : Canonical w := ht.stileWake
  split
  · exact ht.setBit.answerFrom.answer
  · exact .ite (.ite hw.stileDeliver hd) ht.frame

theorem Canonical.stileAnswer {s status data d} (hd : Canonical d) : Canonical (stileAnswer s status data d) := by
  unfold Machine.stileAnswer
  split
  · exact hd
  · exact .ite hd (Canonical.ite_snd (.pair hd.frame) (.pair hd.frame.takeFree)).answerFrom

theorem Canonical.requestTimeout {src tag d} (hd : Canonical d) : Canonical (requestTimeout src tag d) := by
  unfold Machine.requestTimeout
  split
  · exact hd
  · split
    · exact .ite hd.netComplete hd
    · exact hd.netComplete

theorem Canonical.sourceTimeout {src tag d} (hd : Canonical d) : Canonical (sourceTimeout src tag d) := by
  unfold Machine.sourceTimeout
  split
  · exact hd.shtTimeout
  · exact hd.requestTimeout

theorem Canonical.bounce {key st f d} (hd : Canonical d) : Canonical (bounce key st f d) :=
  .ite hd.dropRuns.putFlight.setRuns hd.dropFlight

theorem Canonical.flitCheck {k err i f d} (hd : Canonical d) : Canonical (flitCheck k err i f d).2 := by
  unfold Machine.flitCheck
  extract_lets _ _ _ d1
  have hd1 : Canonical d1 := hd.when fun _ he => he.wwEvent.bump.fault
  exact .ite_snd (.ite_snd (.pair hd1.dropFlight.wwEvent.fault) (.pair hd1)) (.ite_snd (.pair hd1.putFlight.wwEvent.fault) (.pair hd1))

theorem Canonical.leaveNetwork {f d} (hd : Canonical d) : Canonical (leaveNetwork f d) := by
  unfold Machine.leaveNetwork
  extract_lets d1
  have hd1 : Canonical d1 := hd.dropFlight
  refine .ite hd1.frame ?_
  split
  · exact hd1.frame
  · exact hd1

theorem Canonical.markEntered {hdr d} (hd : Canonical d) : Canonical (markEntered hdr d) := .ite hd hd.frame

theorem Canonical.moveFlit {k out p i f d} (hd : Canonical d) : Canonical (moveFlit k out p i f d) := by
  unfold Machine.moveFlit
  extract_lets _ _ _ _ _ d1 _ d2 _ _ d3
  have hd1 : Canonical d1 := hd.setRuns
  have hd2 : Canonical d2 := hd1.frame
  have hd3 : Canonical d3 := hd2.setRuns
  split
  · exact .ite hd2.leaveNetwork hd2
  · exact hd3.when fun _ he => he.markEntered

theorem Canonical.knotCycle {k out d} (hd : Canonical d) : Canonical (knotCycle k out d) := .ite hd.frame hd.frame

theorem Canonical.knotForward {n out err d} (hd : Canonical d) : Canonical (knotForward n out err d) := by
  unfold Machine.knotForward
  extract_lets _ d1
  have hd1 : Canonical d1 := hd.knotCycle
  refine .ite hd ?_
  split
  · exact hd1
  · extract_lets q
    have hq : Canonical q.2 := hd1.flitCheck
    split
    · exact hq
    · split
      · exact hq.bounce
      · exact hq.moveFlit

theorem Canonical.agePromotion {n pid d} (hd : Canonical d) : Canonical (agePromotion n pid d) := by
  unfold Machine.agePromotion
  extract_lets
  split
  · exact .ite hd.frame hd
  · exact hd

theorem Canonical.halfLossDetect {h d} (hd : Canonical d) : Canonical (halfLossDetect h d) := .ite hd hd.netCut
theorem Canonical.halfDownSweep {h d} (hd : Canonical d) : Canonical (halfDownSweep h d) := .ite hd (hd.each fun _ _ he => he.answerParts)

/-! ### Seam (Machine/Seam.lean) -/

theorem Canonical.countDegraded {d} (hd : Canonical d) : Canonical (countDegraded d) := (hd.setFld.each fun _ _ he => he.cutRow).frame
theorem Canonical.showMap {g m d} (hd : Canonical d) : Canonical (showMap g m d) :=
  ((hd.setReg.each fun _ _ he => he.setFld).each fun _ _ hx => hx.setReg).setFld.setFld.putBit.countDegraded
theorem Canonical.adoptMaps {g mw me d} (hd : Canonical d) : Canonical (adoptMaps g mw me d) := hd.frame.setSegment.showMap
theorem Canonical.adoptMap {g m d} (hd : Canonical d) : Canonical (adoptMap g m d) := hd.adoptMaps
theorem Canonical.seamWatch {f d} (hd : Canonical d) (hf : Keeps f) : Canonical (seamWatch f d) :=
  (hf hd).each fun _ _ he => he.bobGap.bobGap
theorem Canonical.lastSeg {g d} (hd : Canonical d) : Canonical (lastSeg g d) := hd.setFld
theorem Canonical.setPaused {g b d} (hd : Canonical d) : Canonical (setPaused g b d) := .ite hd hd.frame
theorem Canonical.startRemap {g d} (hd : Canonical d) : Canonical (startRemap g d) :=
  .ite hd (.ite hd.lastSeg (.ite hd.setSegment.setBit.bump.lastSeg.setPaused hd.setSegment.setBit.bump.lastSeg.setPaused.wwEvent.wwEvent))

theorem Canonical.seamTrain {g fw fe d} (hd : Canonical d) : Canonical (seamTrain g fw fe d) := by
  unfold Machine.seamTrain
  extract_lets _ _ _ _ d1 d2 _ d3 _ _ d4 d5
  have hd1 : Canonical d1 := .ite hd hd.frame
  have hd2 : Canonical d2 := hd1.adoptMaps
  have hd3 : Canonical d3 := hd2.setSegment
  have hd4 : Canonical d4 := .ite hd3 hd3.putBit.frame
  have hd5 : Canonical d5 := hd4.lastSeg
  exact .ite hd (.ite hd5.fault hd5)

theorem Canonical.remapRelease {g d} (hd : Canonical d) : Canonical (remapRelease g d) :=
  .ite hd.setSegment.putBit.lastSeg.setPaused.fault hd
theorem Canonical.parityThreshold {g d} (hd : Canonical d) : Canonical (parityThreshold g d) := hd.setBit.lastSeg.startRemap
theorem Canonical.flitThreshold {g d} (hd : Canonical d) : Canonical (flitThreshold g d) := .ite hd hd.startRemap
theorem Canonical.seamSlip {g d} (hd : Canonical d) : Canonical (seamSlip g d) := hd.setBit.lastSeg.startRemap
theorem Canonical.seamContention {g k d} (hd : Canonical d) : Canonical (seamContention g k d) :=
  .ite hd hd.adoptMaps.setBit.lastSeg.startRemap
theorem Canonical.segTrainStart {g d} (hd : Canonical d) : Canonical (segTrainStart g d) := hd.setSegment.setBit
theorem Canonical.disarm {d} (hd : Canonical d) : Canonical (disarm d) :=
  .ite ((hd.frame.putBit.each fun _ _ he => he.replan).each fun _ _ hx => hx.segTrainStart) hd
theorem Canonical.seamLoss {g intoE d} (hd : Canonical d) : Canonical (seamLoss g intoE d) := hd.setSegment.lastSeg.fault.disarm
theorem Canonical.qualifierReturn {g intoE d} (hd : Canonical d) : Canonical (qualifierReturn g intoE d) :=
  .ite hd.setSegment.startRemap hd
theorem Canonical.seamHalfLost {h d} (hd : Canonical d) : Canonical (seamHalfLost h d) :=
  hd.frame.setBit.disarm.each fun _ _ he => he.putBit.setPaused.setSegment
theorem Canonical.seamMapsLoad {h d} (hd : Canonical d) : Canonical (seamMapsLoad h d) := hd.each fun _ _ he => he.setSegment
theorem Canonical.seamReset {d} (hd : Canonical d) : Canonical (seamReset d) := hd.clearRegs.frame.each fun _ _ he => he.adoptMap
theorem Canonical.seamTrainStart {d} (hd : Canonical d) : Canonical (seamTrainStart d) := hd.each fun _ _ he => he.setPaused.segTrainStart
theorem Canonical.seamReleaseAll {d} (hd : Canonical d) : Canonical (seamReleaseAll d) :=
  hd.each fun _ _ he => .ite (he.setSegment.when fun _ hx => hx.restartRow) he
theorem Canonical.retrainSegment {mc g d} (hd : Canonical d) : Canonical (retrainSegment mc g d) :=
  hd.byThimble fun _ he => he.setFld.startRemap
theorem Canonical.retrainAll {mc d} (hd : Canonical d) : Canonical (retrainAll mc d) :=
  hd.byThimble fun _ he => he.each fun _ _ hx => hx.startRemap
theorem Canonical.armRelease {mc d} (hd : Canonical d) : Canonical (armRelease mc d) :=
  hd.byThimble fun _ he => .ite he.setBit (.ite (he.frame.setBit.each fun _ _ hx => hx.replan) he)
theorem Canonical.seamMapReset {d} (hd : Canonical d) : Canonical (seamMapReset d) := hd.frame.each fun _ _ he => he.adoptMap

/-! ### Transceiver lanes (Machine/Lanes.lean) -/

theorem Canonical.laneFlag {l k d} (hd : Canonical d) : Canonical (laneFlag l k d) := hd.setBit
theorem Canonical.eqRestart {all l d} (hd : Canonical d) : Canonical (eqRestart all l d) := hd.each fun _ _ he => .ite he.setReg he
theorem Canonical.eqWrite {l i v d} (hd : Canonical d) : Canonical (eqWrite l i v d) := hd.setLane.setReg
theorem Canonical.adaptConverged {l taps d} (hd : Canonical d) : Canonical (adaptConverged l taps d) :=
  .ite hd (hd.each fun _ _ he => .ite he.setReg he).setBit
theorem Canonical.adaptRestart {l d} (hd : Canonical d) : Canonical (adaptRestart l d) := hd.eqRestart.putBit
theorem Canonical.adaptWrite {l v d} (hd : Canonical d) : Canonical (adaptWrite l v d) := .ite hd.setReg.adaptRestart hd.setReg
theorem Canonical.firWrite {l v d} (hd : Canonical d) : Canonical (firWrite l v d) := .ite hd.setReg hd.laneFlag
theorem Canonical.idleCmd {l enter d} (hd : Canonical d) : Canonical (idleCmd l enter d) := .ite hd.setLane.laneEval hd.laneFlag
theorem Canonical.idleReq {l level d} (hd : Canonical d) : Canonical (idleReq l level d) :=
  .ite hd.setLane.laneEval (.ite hd.setLane.laneFlag hd.setLane)
theorem Canonical.blockIdle {l enter d} (hd : Canonical d) : Canonical (blockIdle l enter d) := hd.setLane.laneEval
theorem Canonical.laneDisable {l d} (hd : Canonical d) : Canonical (laneDisable l d) := hd.eqRestart.putBit.putBit.putBit.setLane.laneEval

theorem Canonical.laneCtrlWrite {l v d} (hd : Canonical d) : Canonical (laneCtrlWrite l v d) := by
  unfold Machine.laneCtrlWrite
  exact .ite (.ite (Canonical.ite hd hd.laneFlag).setReg (Canonical.ite hd hd.laneFlag).setReg.laneDisable)
    (.ite hd.setReg.laneEval (.ite hd.setReg.takeFree.putBit.laneFlag hd.setReg.takeFree.setLane.putBit.laneEval))

theorem Canonical.laneCtrlCmd {l v d} (hd : Canonical d) : Canonical (laneCtrlCmd l v d) := by
  unfold Machine.laneCtrlCmd
  extract_lets d1
  have hd1 : Canonical d1 := hd.laneCtrlWrite
  split
  · exact hd1.idleCmd
  · exact hd1.idleCmd
  · exact hd1

theorem Canonical.laneRateWrite {l o v d} (hd : Canonical d) : Canonical (laneRateWrite l o v d) := .ite (.ite hd hd.laneFlag) hd.setReg
theorem Canonical.refLoss {q d} (hd : Canonical d) : Canonical (refLoss q d) :=
  hd.putBit.each fun _ _ he => (Canonical.ite he.putBit he).laneEval
theorem Canonical.refRecover {q d} (hd : Canonical d) : Canonical (refRecover q d) :=
  .ite hd (hd.setBit.each fun _ _ he => (Canonical.ite he.setBit he).laneEval)
theorem Canonical.rxLock {l d} (hd : Canonical d) : Canonical (rxLock l d) := .ite hd.setLane.putBit.setBit.takeFree.setFld hd
theorem Canonical.rxSquelch {l d} (hd : Canonical d) : Canonical (rxSquelch l d) := hd.setLane.setBit.putBit
theorem Canonical.rxBurst {l d} (hd : Canonical d) : Canonical (rxBurst l d) := .ite hd.rxLock.setLane hd
theorem Canonical.burstTimeout {l d} (hd : Canonical d) : Canonical (burstTimeout l d) := .ite hd.putBit.laneFlag hd
theorem Canonical.lossOfLock {l d} (hd : Canonical d) : Canonical (lossOfLock l d) := .ite hd.putBit.laneFlag.fault hd
theorem Canonical.prbsCheck {l word d} (hd : Canonical d) : Canonical (prbsCheck l word d) := .ite hd.setLane hd.setLane
theorem Canonical.prbsSync {l d} (hd : Canonical d) : Canonical (prbsSync l d) := .ite hd hd.setLane.setBit
theorem Canonical.prbsLost {l d} (hd : Canonical d) : Canonical (prbsLost l d) := .ite hd.putBit.setBit hd
theorem Canonical.prbsInject {l d} (hd : Canonical d) : Canonical (prbsInject l d) := hd.setLane
theorem Canonical.prbsClear {l d} (hd : Canonical d) : Canonical (prbsClear l d) := hd.setLane
theorem Canonical.prbsErrRead {l d} (hd : Canonical d) : Canonical (prbsErrRead l d) := hd.setReg.setReg.setReg.setReg

theorem Canonical.prbsCtrlWrite {l v d} (hd : Canonical d) : Canonical (prbsCtrlWrite l v d) := by
  unfold Machine.prbsCtrlWrite
  extract_lets _ _ _ d1 d2 _ d3
  have hd1 : Canonical d1 := hd.setReg
  have hd2 : Canonical d2 := .ite hd1 hd1.putBit
  have hd3 : Canonical d3 := .ite hd2 hd2.setLane
  split
  · exact hd3.prbsInject
  · exact hd3.prbsClear
  · exact hd3

theorem Canonical.eyeStart {l d} (hd : Canonical d) : Canonical (eyeStart l d) := hd.setLane.putBit
theorem Canonical.eyeDone {l count d} (hd : Canonical d) : Canonical (eyeDone l count d) := .ite hd.setLane.setReg.setBit hd
theorem Canonical.eyeCtrlWrite {l v d} (hd : Canonical d) : Canonical (eyeCtrlWrite l v d) := .ite hd.setReg.eyeStart hd.setReg
theorem Canonical.burstDone {l d} (hd : Canonical d) : Canonical (burstDone l d) := .ite hd.setLane hd

theorem Canonical.rawTx {l d} (hd : Canonical d) : Canonical (rawTx l d) := by
  unfold Machine.rawTx
  refine .ite hd ?_
  extract_lets _ _ _ _ _ _ d1
  have hd1 : Canonical d1 := .ite hd.laneFlag hd
  refine .ite hd.setLane ?_
  refine .ite hd ?_
  split
  · exact hd.setLane
  · exact hd1.setLane

theorem Canonical.rawRx {l word d} (hd : Canonical d) : Canonical (rawRx l word d) := by
  unfold Machine.rawRx
  exact .ite hd (.ite hd.setLane.prbsCheck (.ite (Canonical.ite hd.setLane.prbsCheck.bobData hd.setLane.prbsCheck).setLane
    (Canonical.ite hd.setLane.prbsCheck.bobData hd.setLane.prbsCheck).laneFlag))

theorem Canonical.rxSlip {l d} (hd : Canonical d) : Canonical (rxSlip l d) := .ite hd hd.setLane
theorem Canonical.refSelWrite {q v d} (hd : Canonical d) : Canonical (refSelWrite q v d) := .ite hd hd.setFld.refLoss.clockCheck

/-! ### Ethernet (Machine/Ethernet.lean) -/

theorem Canonical.ack {d a mask v} (hd : Canonical d) : Canonical (d.ack a mask v) := hd.setReg

theorem Canonical.ethBlkWrite {m v d} (hd : Canonical d) : Canonical (ethBlkWrite m v d) := by
  unfold Machine.ethBlkWrite
  exact .ite (.ite (.ite hd.ack hd.ack.setBit) ((Canonical.ite hd.ack hd.ack.setBit).putBit.each fun _ _ he => he.setFld))
    (.ite hd.ack.setFld (.ite hd.ack.setFld.setBit (hd.ack.setFld.setBit.each fun _ _ hx => hx.setReg)))

theorem Canonical.ethLinkChange {m p up d} (hd : Canonical d) : Canonical (ethLinkChange m p up d) := hd.putBit.putBit
theorem Canonical.ethStamp {m p lo d} (hd : Canonical d) : Canonical (ethStamp m p lo d).2 := .pair hd.takeFree

theorem Canonical.ethRx {m p frame d} (hd : Canonical d) : Canonical (ethRx m p frame d) := by
  unfold Machine.ethRx
  extract_lets _ _ _ _ _ d1 s d2
  have hd1 : Canonical d1 := .ite hd.setBit hd
  have hs : Canonical s.2 := hd.ethStamp
  have hd2 : Canonical d2 := hs
  refine .ite hd ?_
  refine .ite (.ite hd1.setBit hd1) ?_
  refine .ite hd2.setEth ?_
  split
  · exact hd2.setBit
  · exact .ite hd2.setBit (.ite hd2 (.ite hd2.setBit hd2.setEth))

theorem Canonical.ethTxWrite {m off data d} (hd : Canonical d) : Canonical (ethTxWrite m off data d).2 :=
  .ite_snd (.pair hd) (.ite_snd (.pair hd.setBit) (.ite_snd (.pair hd) (.pair hd.setEth)))

theorem Canonical.ethTx {m p d} (hd : Canonical d) : Canonical (ethTx m p d) := by
  unfold Machine.ethTx
  extract_lets _ s
  have hs : Canonical s.2 := hd.ethStamp
  split
  · exact hd
  · refine .ite hd ?_
    extract_lets _ _ _ d1
    have hd1 : Canonical d1 := hs.setEth.bump
    split
    · exact .ite hd1 (.ite hd1.setBit hd1.setEth)
    · exact hd1

theorem Canonical.ethTxtsRead {m d} (hd : Canonical d) : Canonical (ethTxtsRead m d).2 := by
  unfold Machine.ethTxtsRead
  extract_lets
  split
  · exact .pair hd.setReg
  · exact .pair hd.setEth.setReg.setReg.setReg.setReg

/-! ### The host port (Machine/HostPort.lean) -/

theorem Canonical.hostLinkDown {h d} (hd : Canonical d) : Canonical (hostLinkDown h d) := hd.setFld.frameHost
theorem Canonical.ringDrop {c d} (hd : Canonical d) : Canonical (ringDrop c d) := hd.frame
theorem Canonical.hostActivate {h d} (hd : Canonical d) : Canonical (hostActivate h d) :=
  .ite hd (hd.setFld.setFld.ringDrop.frameHost.each fun _ _ he => .ite he.laneEval he)
theorem Canonical.makeActive {h d} (hd : Canonical d) : Canonical (makeActive h d) := .ite hd (.ite hd.setBit hd.hostActivate)

theorem Canonical.hostFailover {d} (hd : Canonical d) : Canonical (hostFailover d) := by
  unfold Machine.hostFailover
  split
  · exact hd
  · exact .ite hd.hostActivate.fault hd

theorem Canonical.hostLinkChange {h up d} (hd : Canonical d) : Canonical (hostLinkChange h up d) := by
  unfold Machine.hostLinkChange
  refine .ite hd.hostLinkDown ?_
  refine .ite hd ?_
  split
  · exact hd
  · exact hd.takeFree.takeFree.setBit.setFld.setFld.frameHost

theorem Canonical.loopback {h d} (hd : Canonical d) : Canonical (loopback h d) := .ite hd.hostLinkDown.setBit hd
theorem Canonical.hptCtrlWrite {h v d} (hd : Canonical d) : Canonical (hptCtrlWrite h v d) := .ite hd.setReg.makeActive hd.setReg

theorem Canonical.reqProd {c v d} (hd : Canonical d) : Canonical (reqProd c v d) := by
  unfold Machine.reqProd
  refine .ite ?_ hd.setReg.frame
  split
  · exact hd.setBit
  · exact hd.setBit
  · exact hd

/-! ### JESD links (Machine/JesdLink.lean) -/

theorem Canonical.jesdArm {j d} (hd : Canonical d) : Canonical (jesdArm j d) := hd.setJesd
theorem Canonical.ilasSend {j d} (hd : Canonical d) : Canonical (ilasSend j d) :=
  .ite (hd.setJesd.each fun _ _ he => he.takeFree.setJesd) hd

theorem Canonical.jsdCtrlWrite {j v d} (hd : Canonical d) : Canonical (jsdCtrlWrite j v d) := by
  unfold Machine.jsdCtrlWrite
  extract_lets _ _ d1 _ _ d2 d3 _ d4 d5
  have hd1 : Canonical d1 := hd.putBit.putBit
  have hd2 : Canonical d2 := hd.setReg
  have hd3 : Canonical d3 := hd2.setBit.setBit
  have hd4 : Canonical d4 := .ite (.ite hd hd1.setJesd) (.ite hd2 (.ite hd2.setBit hd3.setJesd.ilasSend))
  have hd5 : Canonical d5 := hd4.clockCheck
  exact .ite hd5.jesdArm hd5

theorem Canonical.jsdRegWrite {j o v d} (hd : Canonical d) : Canonical (jsdRegWrite j o v d) := .ite hd hd.setReg

theorem Canonical.sysref {j ofs d} (hd : Canonical d) : Canonical (sysref j ofs d) := by
  unfold Machine.sysref
  extract_lets _ align check
  have halign : Keeps align := fun _ he => he.setJesd
  have hcheck : Keeps check := fun _ he => .ite he he.setBit.setFld
  refine .ite hd ?_
  split
  · exact .ite (halign hd) (.ite (hcheck hd) hd)
  · exact .ite (hcheck hd) (halign hd)
  · exact hd

theorem Canonical.jesdRestart {j d} (hd : Canonical d) : Canonical (jesdRestart j d) := .ite hd hd.bump.setJesd
theorem Canonical.jesdSync {j level d} (hd : Canonical d) : Canonical (jesdSync j level d) :=
  .ite hd.setJesd (.ite hd.setJesd.setJesd.ilasSend (.ite hd.setJesd.bump.setJesd hd.setJesd))
theorem Canonical.jesdTxWrite {j octets d} (hd : Canonical d) : Canonical (jesdTxWrite j octets d).2 :=
  .ite_snd (.pair hd) (.pair hd.setJesd)
theorem Canonical.jesdTxOctet {j count d} (hd : Canonical d) : Canonical (jesdTxOctet j count d) :=
  .ite hd (Canonical.ite hd.setBit hd).setJesd

/-! ### Shuttle (Machine/Shuttle.lean) -/

theorem Canonical.dramRead {mc a len d} (hd : Canonical d) : Canonical (dramRead mc a len d).2 := by
  unfold Machine.dramRead
  refine (Canonical.pair hd).foldl_snd fun _ _ he => ?_
  split
  · exact .pair he
  · exact .pair he.chanReadNow

theorem Canonical.dramWrite {mc cls a data d} (hd : Canonical d) : Canonical (dramWrite mc cls a data d).2 := by
  unfold Machine.dramWrite
  refine (Canonical.pair hd).foldl_snd fun _ _ he => ?_
  split
  · exact .pair he
  · exact .pair he.chanWriteNow

theorem Canonical.setCtxCache {h xs d} (hd : Canonical d) : Canonical (setCtxCache h xs d) := by
  unfold Machine.setCtxCache
  split <;> exact hd.frame

theorem Canonical.ctxWriteBack {s d} (hd : Canonical d) : Canonical (ctxWriteBack s d) := .ite hd.dramWrite hd

theorem Canonical.ctxPut {h s d} (hd : Canonical d) : Canonical (ctxPut h s d) := by
  unfold Machine.ctxPut
  extract_lets _ _ d1
  have hd1 : Canonical d1 := hd.frame
  split
  · exact hd1.setCtxCache
  · exact .ite hd1.setCtxCache.ctxWriteBack.frame hd1.setCtxCache.ctxWriteBack

theorem Canonical.shtFlag {n bit q d} (hd : Canonical d) : Canonical (shtFlag n bit q d) := hd.setBit.setFld
theorem Canonical.ctxErr {n q d} (hd : Canonical d) : Canonical (ctxErr n q d) := hd.shtFlag.fault

theorem Canonical.ctxGet {n q d} (hd : Canonical d) : Canonical (ctxGet n q d).2 := by
  unfold Machine.ctxGet
  extract_lets h r d1 bad c c1
  clear_value h c c1
  have hr : Canonical r.2 := hd.dramRead
  clear_value r
  have hd1 : Canonical d1 := hr
  have hbad : ∀ c, Canonical (bad c).2 := fun _ => .pair hd1.ctxPut.ctxErr
  clear_value bad
  split
  · exact .pair hd.ctxPut
  · exact .ite_snd (hbad _) (.ite_snd (.pair hd1.ctxPut) (.ite_snd (hbad _) (.pair hd1.ctxPut)))

theorem Canonical.ctxSet {n q c d} (hd : Canonical d) : Canonical (ctxSet n q c d) := hd.ctxPut
theorem Canonical.doorbellWrite {n mc v d} (hd : Canonical d) : Canonical (doorbellWrite n mc v d).2 :=
  .ite_snd (.pair hd) (.ite_snd (.pair hd) (.pair hd.setShuttle))
theorem Canonical.kick {n q c d} (hd : Canonical d) : Canonical (kick n q c d) :=
  .ite hd (.ite (Canonical.ite hd hd.ctxSet).shtFlag (.ite hd hd.ctxSet))

theorem Canonical.bellApply {n op d} (hd : Canonical d) : Canonical (bellApply n op d) := by
  unfold Machine.bellApply
  extract_lets
  split
  · exact hd
  · refine .ite hd ?_
    extract_lets d1 _ _ g _ d2
    have hd1 : Canonical d1 := hd.setShuttle
    have hg : Canonical g.2 := hd1.ctxGet
    have hd2 : Canonical d2 := hg
    refine .ite hd2.shtFlag ?_
    refine .ite hd2.shtFlag ?_
    split
    · exact .ite hd2.ctxSet hd2.shtFlag
    · exact .ite hd2.ctxSet hd2.shtFlag
    · exact hd2.kick

theorem Canonical.calKick {n q d} (hd : Canonical d) : Canonical (calKick n q d) := .ite hd (.ite hd.ctxGet.shtFlag hd.ctxGet.kick)
theorem Canonical.ctxForget {h q d} (hd : Canonical d) : Canonical (ctxForget h q d) := hd.setCtxCache
theorem Canonical.ctxWrite {n q c d} (hd : Canonical d) : Canonical (ctxWrite n q c d).2 :=
  .ite_snd (.pair hd.shtFlag) (.pair hd.ctxForget.ctxSet)
theorem Canonical.ctxRead {n q d} (hd : Canonical d) : Canonical (ctxRead n q d).2 := .pair (hd.ctxGet.each fun _ _ he => he.setReg)
theorem Canonical.ctxState {n q cmd d} (hd : Canonical d) : Canonical (ctxState n q cmd d).2 :=
  .ite_snd (.pair hd.ctxGet.shtFlag) (.ite_snd (.pair (.ite hd.ctxGet.ctxSet hd.ctxGet)) (.pair (.ite hd.ctxGet.ctxSet hd.ctxGet)))

theorem Canonical.qCmd {n cmd d} (hd : Canonical d) : Canonical (qCmd n cmd d) := by
  unfold Machine.qCmd
  extract_lets
  split
  · exact hd.ctxWrite
  · exact hd.ctxRead
  · exact hd.ctxState
  · exact hd.ctxState
  · exact hd

theorem Canonical.shtIrq {n d} (hd : Canonical d) : Canonical (shtIrq n d) := .ite hd.setReg.msix hd.setReg
theorem Canonical.shtCount {n d} (hd : Canonical d) : Canonical (shtCount n d) := .ite hd.bumpSat.shtIrq hd.bumpSat
theorem Canonical.irqIdle {n d} (hd : Canonical d) : Canonical (irqIdle n d) := .ite hd.shtIrq hd
theorem Canonical.shadowStage {n v inHo d} (hd : Canonical d) : Canonical (shadowStage n v inHo d) := hd.setReg.setShuttle.setBit.putBit

theorem Canonical.shadowTake {n d} (hd : Canonical d) : Canonical (shadowTake n d) := by
  unfold Machine.shadowTake
  split
  · exact hd
  · exact hd.setReg.setReg.setShuttle.setFld.setFld

theorem Canonical.shtHandOver {n d} (hd : Canonical d) : Canonical (shtHandOver n d) := hd.bump.shadowTake
theorem Canonical.shadowCommit {n d} (hd : Canonical d) : Canonical (shadowCommit n d) := .ite hd.shadowTake hd
theorem Canonical.shtFlush {h d} (hd : Canonical d) : Canonical (shtFlush h d) := (hd.each fun _ _ he => he.ctxWriteBack).setCtxCache

/-! ### Bobbin (Machine/Bobbin.lean) -/

theorem Canonical.ringSizeWrite {h v d} (hd : Canonical d) : Canonical (ringSizeWrite h v d) := .ite hd hd.setReg
theorem Canonical.crossReset {d} (hd : Canonical d) : Canonical (crossReset d) := hd.frame
theorem Canonical.bobAnchor {kind build loaded d} (hd : Canonical d) : Canonical (bobAnchor kind build loaded d) :=
  .ite hd (.ite (hd.crossReset.each fun _ _ he => .ite he he.setBobHalf.bobRecord) (.ite (hd.frame.each fun _ _ hx => hx.setBobHalf) hd))
theorem Canonical.bobCmdErr {d} (hd : Canonical d) : Canonical (bobCmdErr d) := hd.setBit
theorem Canonical.bobArm {d} (hd : Canonical d) : Canonical (bobArm d).2 :=
  .ite_snd (.pair (hd.frame.each fun _ _ he => he.setReg).setFld.setFld) (.pair hd.bobCmdErr)
theorem Canonical.bobStop {d} (hd : Canonical d) : Canonical (bobStop d) := hd.bobFreeze
theorem Canonical.anchorBuild {h d} (hd : Canonical d) : Canonical (anchorBuild h d).2 := .pair hd.dramRead

/-- Start replay's look at the ANCHOR records of the rings, one ring after the other: whether each names the loaded build. -/
def anchorsMatch (rings : List Half) (d : Device) : Bool × Device :=
  rings.foldl (fun acc h =>
    let a := anchorBuild h acc.2
    (acc.1 && a.1.isSome && a.1 == loadedBuild d, a.2)) (!rings.isEmpty, d)

theorem Canonical.anchorsMatch {rings d} (hd : Canonical d) : Canonical (anchorsMatch rings d).2 :=
  .foldl_snd hd fun _ _ he => .pair he.anchorBuild

/-- Start replay after that look: the replay begins, or cmd_err is set. -/
def replayBegin (q : Bool × Device) : Bool × Device :=
  if q.1 then
    (false, ({ q.2 with bob := { q.2.bob with fields := q.2.reg (bobA 8), live := false, gated := 0 } } : Device).setFld (bobA 4) 29 3 4)
  else (true, bobCmdErr q.2)

theorem Canonical.replayBegin {q} (hq : Canonical q.2) : Canonical (replayBegin q).2 := .ite_snd hq.frame.setFld hq.bobCmdErr

/-- `bobReplay` by its two parts, so that no later proof unfolds the reads of the rings. -/
theorem bobReplay_eq (d : Device) : bobReplay d =
    if d.bobState = 1 ∨ d.bobState = 2 ∨ d.bobState = 4 then (true, bobCmdErr d)
    else replayBegin (anchorsMatch (bobHalves.filter fun h => ringBytes d h != 0) d) := rfl

theorem Canonical.bobReplay {d} (hd : Canonical d) : Canonical (bobReplay d).2 := by
  rw [bobReplay_eq]
  exact .ite_snd (.pair hd.bobCmdErr) hd.anchorsMatch.replayBegin

theorem Canonical.bobCmd {cmd d} (hd : Canonical d) : Canonical (bobCmd cmd d).2 := by
  unfold Machine.bobCmd
  split
  · exact hd.bobArm
  · exact .pair hd.bobTrigger
  · exact .pair hd.bobStop
  · exact hd.bobReplay
  · exact .pair hd

theorem Canonical.freezeDone {h d} (hd : Canonical d) : Canonical (freezeDone h d) := .ite hd.bobFreeze hd
theorem Canonical.ringPut {h bs d} (hd : Canonical d) : Canonical (ringPut h bs d).2 := .ite_snd hd.dramWrite hd.dramWrite.dramWrite

theorem Canonical.ringRecord {h r d} (hd : Canonical d) : Canonical (ringRecord h r d).2 := by
  unfold Machine.ringRecord
  extract_lets size b left isAnchor dist tooFar d1 q d2 next isTime d3 _ d4
  clear_value size b left isAnchor dist tooFar next isTime
  have hd1 : Canonical d1 := .ite hd.setBit hd
  have hq : Canonical q.2 := hd1.ringPut
  clear_value q
  have hd2 : Canonical d2 := hq
  have hd3 : Canonical d3 := .ite hd2.setReg hd2
  have hd4 : Canonical d4 := hd3.setBobHalf
  exact .ite_snd (.pair hd.bobFreeze) (.ite_snd (.pair hd.setBobHalf)
    (.ite_snd (.pair hd.bobFreeze) (.ite_snd (.pair hq.bobFreeze) (.pair hd4.setReg))))

theorem Canonical.ringWrite {h d} (hd : Canonical d) : Canonical (ringWrite h d) := by
  unfold Machine.ringWrite
  exact .ite hd (hd.each fun _ _ he => .ite he
    (.ite (.ite_snd he.ringRecord (.pair he)) (.ite (Canonical.ite_snd he.ringRecord (.pair he)).ringRecord.setBobHalf
    (Canonical.ite_snd he.ringRecord (.pair he)).ringRecord)))

theorem Canonical.gapWrite {h cause d} (hd : Canonical d) : Canonical (gapWrite h cause d) := .ite (.ite hd.bobGap hd) hd.bobGap
theorem Canonical.journal {j dir1 s dd d} (hd : Canonical d) : Canonical (journal j dir1 s dd d) :=
  .ite hd (.ite hd.frame hd.frame.bobRecord)
theorem Canonical.ratio {j dir1 r d} (hd : Canonical d) : Canonical (ratio j dir1 r d) := .ite hd hd.frame.bobRecord
theorem Canonical.setGate {f b d} (hd : Canonical d) : Canonical (setGate f b d) := hd.frame
theorem Canonical.replayGate {f ready d} (hd : Canonical d) : Canonical (replayGate f ready d) :=
  .ite hd (.ite hd.setGate (hd.stopping fun _ he => he.setGate))
theorem Canonical.replayEnd {cause d} (hd : Canonical d) : Canonical (replayEnd cause d) :=
  .ite hd (hd.each fun _ _ he => .ite (he.stopping fun _ hx => hx.setGate) he).frame.bobFreeze
theorem Canonical.feedRequest {s beat d} (hd : Canonical d) : Canonical (feedRequest s beat d) := hd.frame

theorem Canonical.feedResponse {s beat d} (hd : Canonical d) : Canonical (feedResponse s beat d) := by
  unfold Machine.feedResponse
  extract_lets _ _ _ _ d1
  have hd1 : Canonical d1 := hd.frame
  refine .ite hd.frame ?_
  split
  · exact hd1.netComplete
  · exact hd1

theorem Canonical.feedRecord {h r d} (hd : Canonical d) : AllCanonical (feedRecord h r d) := by
  unfold Machine.feedRecord
  extract_lets
  split
  · exact .ite (.some hd.pinFiltered) .none
  · exact .some hd.setCal
  · split
    · exact .ite .none (.some (.ite hd.setLane hd.laneFlag))
    · exact .some (.ite hd.feedRequest hd.feedResponse)
    · exact .ite (.some hd.cloverAccess) .none
  · exact .some hd

theorem Canonical.replayFeed {h d} (hd : Canonical d) : Canonical (replayFeed h d) := by
  unfold Machine.replayFeed
  extract_lets size pos head n r
  clear_value size pos n
  have hhead : Canonical head.2 := hd.dramRead
  clear_value head
  have hr : Canonical r.2 := hhead.dramRead
  clear_value r
  refine .ite hd (.ite hd.replayEnd (.ite hhead.replayEnd (.ite hhead.replayEnd ?_)))
  split
  next d1 hq => exact (hr.feedRecord hq).setBobHalf
  · exact hr.replayEnd

/-! ### Faults (Machine/Faults.lean) -/

theorem Canonical.closeEntry {i d} (hd : Canonical d) : Canonical (closeEntry i d) := .ite hd.setLogEntry.frame hd
theorem Canonical.reportIrq {cls src d} (hd : Canonical d) : Canonical (reportIrq cls src d).2 :=
  .ite_snd (.pair hd) (.ite_snd (.pair hd.frame) (.pair hd.frame.raiseInt))

theorem Canonical.logReport {r d} (hd : Canonical d) : Canonical (logReport r d) := by
  unfold Machine.logReport
  extract_lets q d1 d2 _ d3 d4 _ d5
  have hq : Canonical q.2 := hd.reportIrq
  have hd1 : Canonical d1 := hq
  have hd2 : Canonical d2 := .ite hd1.closeEntry hd1
  have hd3 : Canonical d3 := hd2.closeEntry
  have hd4 : Canonical d4 := hd3.setLogEntry
  have hd5 : Canonical d5 := hd4.frame
  split
  · exact hd1.setLogEntry.frame
  · exact hd5.setFld

theorem Canonical.lostReport {h d} (hd : Canonical d) : Canonical (lostReport h d) := by
  unfold Machine.lostReport
  extract_lets _ _ d1
  have hd1 : Canonical d1 := by
    unfold d1
    split <;> exact hd.frame
  exact .ite hd hd1.fault

theorem Canonical.logTake {h d} (hd : Canonical d) : Canonical (logTake h d) := by
  unfold Machine.logTake
  split
  · exact hd
  · exact hd.setFifo.lostReport.logReport

theorem Canonical.logClose {cls src d} (hd : Canonical d) : Canonical (logClose cls src d) := by
  unfold Machine.logClose
  split
  · exact hd.closeEntry
  · exact hd

theorem Canonical.irqWindow {cls src d} (hd : Canonical d) : Canonical (irqWindow cls src d) := by
  unfold Machine.irqWindow
  extract_lets _ _ d1 d2
  have hd1 : Canonical d1 := hd.frame
  have hd2 : Canonical d2 := by
    unfold d2
    split
    · exact hd1.setLogEntry
    · exact hd1
  exact .ite hd2.raiseInt hd.frame

theorem Canonical.logIdxWrite {idx d} (hd : Canonical d) : Canonical (logIdxWrite idx d) := hd.setFld.each fun _ _ he => he.setReg
theorem Canonical.mirrorHeld {xs d} (hd : Canonical d) : Canonical (mirrorHeld xs d) := hd.each fun _ _ he => he.setLogEntry
theorem Canonical.mirrorRead {record d} (hd : Canonical d) : Canonical (mirrorRead record d) :=
  hd.frame.setFld.each fun _ _ he => he.setLogEntry.setFld

/-! ### Mending (Machine/Mending.lean) -/

theorem Canonical.mendRefuse {f m r d} (hd : Canonical d) : Canonical (mendRefuse f m r d) := hd.setFld.setFld.fault
theorem Canonical.setQueue {f q d} (hd : Canonical d) : Canonical (setQueue f q d) := hd.frame.setFld
theorem Canonical.mendArrival {f d} (hd : Canonical d) : Canonical (mendArrival f d) := .ite hd.frame hd

theorem Canonical.mendRequest {f m waits d} (hd : Canonical d) : Canonical (mendRequest f m waits d).2 :=
  .ite_snd (.pair hd.mendRefuse) (.ite_snd (.pair hd.frame.mendArrival)
    (.ite_snd (.pair hd) (.ite_snd (.pair hd.mendRefuse) (.pair hd.setQueue.mendArrival))))

theorem Canonical.mendCommand {f mc kind target d} (hd : Canonical d) : Canonical (mendCommand f mc kind target d) :=
  hd.byThimble fun _ he => he.setFld.mendRequest
theorem Canonical.autoMend {f clover target d} (hd : Canonical d) : Canonical (autoMend f clover target d) := .ite hd.mendRequest hd
theorem Canonical.mendNext {f d} (hd : Canonical d) : Canonical (mendNext f d) := hd.frame.setQueue
theorem Canonical.mendTaken {f d} (hd : Canonical d) : Canonical (mendTaken f d) := hd.frame

theorem Canonical.mendStart {f d} (hd : Canonical d) : Canonical (mendStart f d) := by
  unfold Machine.mendStart
  split
  · exact hd
  · exact .ite hd (.ite hd.mendResult.mendRefuse.mendNext.mendTaken
      ((Canonical.ite (Canonical.ite hd.mendTaken.bobGap hd.mendTaken).frame (.ite hd.mendTaken.bobGap hd.mendTaken)).stopping fun _ he =>
      he.frame).setFld.setFld.frame)

theorem Canonical.mendSwitch {f m d} (hd : Canonical d) : Canonical (mendSwitch f m d) := .ite (.ite hd.setFld hd.setFld.setBit) hd.setFld

theorem Canonical.mendComplete {f stopUs copyOk d} (hd : Canonical d) : Canonical (mendComplete f stopUs copyOk d) := by
  unfold Machine.mendComplete
  split
  · exact hd
  · refine .ite hd ?_
    extract_lets d1 _ _ _ d2 d3 d4 _ d5 d6 d7 d8 _ d9 d10
    have hd1 : Canonical d1 := .ite hd hd.mendResult
    have hd2 : Canonical d2 := .ite hd1.frame hd1
    have hd3 : Canonical d3 := hd2.mendSwitch
    have hd4 : Canonical d4 := .ite hd3.putBit.gsrField.hedgesFlush.gsrRelease hd3
    have hd5 : Canonical d5 := hd4.frame
    have hd6 : Canonical d6 := hd5.mendNext
    have hd7 : Canonical d7 := hd6.setFld.setFld.setFld.setFld
    have hd8 : Canonical d8 := .ite hd7.bump hd7.bump
    have hd9 : Canonical d9 := .ite hd8.frame.setFld hd8
    have hd10 : Canonical d10 := hd9.fault
    exact hd10.settle

theorem Canonical.walkStep {f d} (hd : Canonical d) : Canonical (walkStep f d) := by
  unfold Machine.walkStep
  refine .ite hd ?_
  extract_lets
  split
  · exact hd
  · exact hd.setFld.frame.mendRequest

theorem Canonical.walkTestDone {f pass d} (hd : Canonical d) : Canonical (walkTestDone f pass d) := by
  unfold Machine.walkTestDone
  split
  · exact hd
  · exact .ite (.ite hd.frame.setFld hd.frame) (Canonical.ite hd.frame.setFld hd.frame).setBit.fault.frame.setFld

theorem Canonical.walkCfgWrite {f w d} (hd : Canonical d) : Canonical (walkCfgWrite f w d) := .ite hd.setReg.setBit hd.setReg
theorem Canonical.frameWrite {f n i d} (hd : Canonical d) : Canonical (frameWrite f n i d) := .ite hd hd.frame

theorem Canonical.loadSwept {f d} (hd : Canonical d) : Canonical (loadSwept f d) := by
  unfold Machine.loadSwept
  split
  · exact .ite hd.frame hd
  · exact hd

theorem Canonical.darnFrame {f d} (hd : Canonical d) : Canonical (darnFrame f d) := by
  unfold Machine.darnFrame
  refine .ite hd ?_
  extract_lets _ _ _ _ d1 d2 d3 d4 _ d5
  have hd1 : Canonical d1 := hd.setBit
  have hd2 : Canonical d2 := hd1.setBit.bump.setFld
  have hd3 : Canonical d3 := hd1.setBit.setFld
  have hd4 : Canonical d4 := by
    unfold d4
    split
    · exact hd1
    · exact .ite hd2.setBit.fault.mendRequest hd2.frameWrite.fault
    · exact hd3.fault
  have hd5 : Canonical d5 := hd4.frame
  exact .ite hd5.bump.putBit.loadSwept hd5

theorem Canonical.frameRewrite {f n d} (hd : Canonical d) : Canonical (frameRewrite f n d) := .ite hd.frame hd

/-! ### Actions of the calendar (Machine/CalActions.lean) -/

theorem Canonical.calAct {h cls idx act ok reach f d} (hd : Canonical d) (hf : ∀ x0, Keeps (f x0)) :
    Canonical (calAct h cls idx act ok reach f d) := by
  unfold Machine.calAct
  split
  next d1 hq =>
    have hd1 := hd.occTake.snd_of_eq hq
    exact .ite (hf _ hd1) hd1.occDrop
  next d1 hq => exact hd.occTake.snd_of_eq hq

theorem Canonical.calClover {h e act ok ask d} (hd : Canonical d) (hask : ∀ x0, Keeps (ask x0)) :
    Canonical (calClover h e act ok ask d) :=
  hd.calAct fun _ _ he => .ite (hask _ he) he

theorem Canonical.pinEdge {b i level t d} (hd : Canonical d) : AllCanonical (pinEdge b i level t d) :=
  .ite (.some hd) (.ite .none (.some hd.setPin))

theorem Canonical.calPin {h p act ok level pulse d} (hd : Canonical d) : Canonical (calPin h p act ok level pulse d) := by
  unfold Machine.calPin
  extract_lets
  refine hd.calAct fun _ _ he => ?_
  extract_lets
  refine .ite he.occDrop ?_
  split
  · exact he.occDrop
  next d1 hq =>
    have hd1 := he.pinEdge hq
    exact hd1.setPin

theorem Canonical.pulseEnd {h p d} (hd : Canonical d) : Canonical (pulseEnd h p d) := by
  unfold Machine.pulseEnd
  extract_lets
  split
  · exact hd
  · refine .ite hd ?_
    extract_lets d1
    have hd1 : Canonical d1 := hd.setPin
    split
    next d2 hq => exact hd1.pinEdge hq
    · exact hd1.calFlag

theorem Canonical.calLane {h l act enter d} (hd : Canonical d) : Canonical (calLane h l act enter d) := hd.calAct fun _ _ he => he.idleCmd
theorem Canonical.calWake {h d} (hd : Canonical d) : Canonical (calWake h d) := hd.calAct fun _ _ he => he.wakeStart

/-! ### Selvedge (Machine/Selvedge.lean) -/

theorem Canonical.slvSetState {s st d} (hd : Canonical d) : Canonical (slvSetState s st d) := hd.setFld
theorem Canonical.slvTrain {s d} (hd : Canonical d) : Canonical (slvTrain s d) :=
  hd.setFld.setFld.slvSetState.each fun _ _ he => he.blockIdle
theorem Canonical.slvCutTraffic {s d} (hd : Canonical d) : Canonical (slvCutTraffic s d) := hd.each fun _ _ he => he.netComplete
theorem Canonical.slvCutRef {s d} (hd : Canonical d) : Canonical (slvCutRef s d) :=
  hd.each fun _ _ he => he.each fun _ _ hx => .ite hx.disqualify hx
theorem Canonical.slvRetrainCmd {s d} (hd : Canonical d) : Canonical (slvRetrainCmd s d) := .ite hd.slvCutTraffic.slvTrain hd
theorem Canonical.slvDown {s d} (hd : Canonical d) : Canonical (slvDown s d) :=
  ((Canonical.ite hd.slvCutTraffic.slvCutRef hd).each fun _ _ he => he.blockIdle).setFld.setFld.setFld.setFld.setFld.setSlvLink

theorem Canonical.slvCtrlWrite {s v d} (hd : Canonical d) : Canonical (slvCtrlWrite s v d) := by
  unfold Machine.slvCtrlWrite
  exact .ite (Canonical.ite (Canonical.ite hd.slvDown hd).setReg.slvTrain (Canonical.ite hd.slvDown hd).setReg).slvRetrainCmd
    (.ite (Canonical.ite hd.slvDown hd).setReg.slvTrain (Canonical.ite hd.slvDown hd).setReg)

theorem Canonical.slvFail {s cause d} (hd : Canonical d) : Canonical (slvFail s cause d) := hd.setFld.slvSetState
theorem Canonical.slvTrained {s d} (hd : Canonical d) : Canonical (slvTrained s d) :=
  .ite hd (.ite hd.slvFail hd.setSlvLink.setFld.putBit.slvSetState)
theorem Canonical.slvNegotiate {s peerDev peerVer d} (hd : Canonical d) : Canonical (slvNegotiate s peerDev peerVer d) :=
  .ite hd (.ite hd.setFld.slvFail hd.setFld.setFld.bump.slvSetState)
theorem Canonical.slvNoReply {s d} (hd : Canonical d) : Canonical (slvNoReply s d) := .ite hd.slvFail hd
theorem Canonical.slvRetry {s d} (hd : Canonical d) : Canonical (slvRetry s d) := .ite hd.slvTrain hd

theorem Canonical.slvLocal {s hdr data poison hops d} (hd : Canonical d) : Canonical (slvLocal s hdr data poison hops d) := by
  unfold Machine.slvLocal
  extract_lets
  split
  · exact hd.answerFrom
  · exact .ite hd.answerFrom hd.injectHops

theorem Canonical.slvTake {s hdr data poison hops d} (hd : Canonical d) : Canonical (slvTake s hdr data poison hops d) :=
  .ite (.ite hd.injectHops (.ite hd.setBit.answerFrom hd.slvLocal)) (.ite hd.injectHops (.ite hd.setBit.answerFrom hd.setBit))
theorem Canonical.slvArrive {s hdr data poison hops d} (hd : Canonical d) : Canonical (slvArrive s hdr data poison hops d) :=
  .ite hd hd.slvTake
theorem Canonical.slvCutPacket {s c d} (hd : Canonical d) : Canonical (slvCutPacket s c d) := hd.slvTake

theorem Canonical.slvLost {s lost cut d} (hd : Canonical d) : Canonical (slvLost s lost cut d) := by
  unfold Machine.slvLost
  refine .ite hd ?_
  extract_lets d1 d2 d3 d4
  have hd1 : Canonical d1 := by
    unfold d1
    split
    · exact hd.slvCutPacket
    · exact hd
  have hd2 : Canonical d2 := hd1.slvCutTraffic.slvCutRef
  have hd3 : Canonical d3 := hd2.each fun _ _ he => he.lossOfLock
  have hd4 : Canonical d4 := hd3.setBit.setFld
  exact .ite hd4.slvTrain hd4.slvSetState

theorem Canonical.slvTime {s roundTrip peer d} (hd : Canonical d) : Canonical (slvTime s roundTrip peer d) := by
  unfold Machine.slvTime
  refine .ite hd ?_
  extract_lets _ _ _ _ _ d1 d2
  have hd1 : Canonical d1 := hd.setSlvLink
  have hd2 : Canonical d2 := hd1.setReg
  split
  · exact hd2
  · exact hd2.each fun _ _ he => .ite (he.each fun _ _ hx => hx.addSample) he

/-! ### Reset and supplies (Machine/Reset.lean) -/

theorem Canonical.fullReject {cause f d} (hd : Canonical d) : Canonical (fullReject cause f d) :=
  .ite hd.setFld.setFld.setFld.frame.fault.toBlank hd.setFld.setFld.setFld.frame.fault.frame
theorem Canonical.partReject {fields cause f d} (hd : Canonical d) : Canonical (partReject fields cause f d) :=
  (hd.setFld.setFld.setFld.fault.frame.each fun _ _ he => he.domainOff.setFld).settle

theorem Canonical.loadReject {cause f d} (hd : Canonical d) : Canonical (loadReject cause f d) := by
  unfold Machine.loadReject
  split
  · exact hd
  · exact .ite hd.partReject hd.fullReject

theorem Canonical.thimbleFailover {h detail d} (hd : Canonical d) : Canonical (thimbleFailover h detail d) :=
  .ite hd hd.frame.loadReject.fault
theorem Canonical.showBank {b d} (hd : Canonical d) : Canonical (showBank b d) := hd.putBit.putBit.putBit.putBit.putBit.setReg

theorem Canonical.bootBank {d} (hd : Canonical d) : Canonical (bootBank d) := by
  unfold Machine.bootBank
  extract_lets _ _ d1 d2 d3 d4
  have hd1 : Canonical d1 := hd.frame
  have hd2 : Canonical d2 := .ite hd1.setBit hd1
  have hd3 : Canonical d3 := hd2.setFld
  have hd4 : Canonical d4 := hd3.setFld.setBit
  split
  · exact hd2.showBank
  · exact .ite (.ite hd4.showBank hd3.showBank) hd2.showBank

theorem Canonical.securePins {d} (hd : Canonical d) : Canonical (securePins d) :=
  hd.each fun _ _ he => he.setReg.setReg.setReg.setPin.frame
theorem Canonical.pageSelfTest {h d} (hd : Canonical d) : Canonical (pageSelfTest h d) := hd.takeFreeBool.frame

theorem Canonical.thimbleBoot {d} (hd : Canonical d) : Canonical (thimbleBoot d) := by
  unfold Machine.thimbleBoot
  exact .ite hd (Canonical.ite (hd.frame.each fun _ _ he => .ite he he.larkPowerUp.pageSelfTest).bootBank.mirrorRead
    (hd.frame.each fun _ _ hx => .ite hx hx.larkPowerUp.pageSelfTest).bootBank.mirrorRead.securePins).hostActivate

theorem Canonical.thimbleWatchdog {h d} (hd : Canonical d) : Canonical (thimbleWatchdog h d) :=
  .ite hd (Canonical.ite hd.setBit.thimbleFailover.frame hd.setBit.thimbleFailover).bootBank
theorem Canonical.gradeRegs {d} (hd : Canonical d) : Canonical (gradeRegs d) := .ite hd.setReg hd
theorem Canonical.showSupply {d} (hd : Canonical d) : Canonical (showSupply d) := hd.each fun _ _ he => he.putBit

theorem Canonical.deviceReset {k cause d} (hd : Canonical d) : Canonical (deviceReset k cause d) := by
  unfold Machine.deviceReset
  exact .ite hd (((hd.each fun _ _ he => .ite he.srEnter he).toBlank.pinsPowerUp.setBit.clearRegs.gradeRegs.seamReset.frame.each fun _ _
    hx => hx.pllShow).showSupply.each fun _ _ hy => hy.laneEval)

theorem Canonical.devResetPin {lowNs d} (hd : Canonical d) : Canonical (devResetPin lowNs d) :=
  .ite hd.deviceReset (.ite hd (.ite hd.takeFreeBool.deviceReset hd.takeFreeBool))
theorem Canonical.pwrOkLow {d} (hd : Canonical d) : Canonical (pwrOkLow d) := hd.deviceReset.frame
theorem Canonical.resetRelease {d} (hd : Canonical d) : Canonical (resetRelease d) := .ite hd hd.frame
theorem Canonical.powerLost {d} (hd : Canonical d) : Canonical (powerLost d) := .intro rfl hd.dram hd.hostMem

theorem Canonical.powerOnReset {straps pd gradeI d} (hd : Canonical d) : Canonical (powerOnReset straps pd gradeI d) :=
  (hd.powerLost.frame.gradeRegs.setReg.seamReset.showSupply.each fun _ _ he => he.larkPowerUp).pageSelfTest.pageSelfTest.each fun _ _ hx
    => hx.putBit

theorem Canonical.supplyValid {x d} (hd : Canonical d) : Canonical (supplyValid x d) := by
  unfold Machine.supplyValid
  extract_lets _ _ d1
  have hd1 : Canonical d1 := by
    unfold d1
    split
    · exact hd.frame
    · exact hd.frame
    · exact hd.frame
    · exact hd.frame
    · exact .ite hd.frame.setBit hd.frame
  exact .ite hd1.powerOnReset (.ite hd1.showSupply.settle hd1)

theorem Canonical.supplyMiss {n d} (hd : Canonical d) : Canonical (supplyMiss n d) := .ite hd hd.domainOff.setBit

theorem Canonical.supplyLoss {x d} (hd : Canonical d) : Canonical (supplyLoss x d) := by
  unfold Machine.supplyLoss
  split
  · exact hd.frame.powerLost
  · exact hd.frame.powerLost
  · exact ((hd.frame.each fun _ _ he => he.lossOfLock).each fun _ _ he => he.supplyMiss).showSupply
  · refine Canonical.frameDram ?_ rfl
    exact hd.frame.showSupply.each fun _ _ he => .ite he.supplyMiss.setChanState he.supplyMiss
  · exact hd.vccioLow

theorem Canonical.larkOff {h d} (hd : Canonical d) : Canonical (larkOff h d) := hd.setLark
theorem Canonical.halfLost {h reported d} (hd : Canonical d) : Canonical (halfLost h reported d) :=
  .ite hd hd.setUp.setLost.larkOff.seamHalfLost.larkSurvives.thimbleFailover
theorem Canonical.halfClockLoss {h d} (hd : Canonical d) : Canonical (halfClockLoss h d) :=
  .ite hd (hd.setUp.larkOff.each fun _ _ he => he.forceDomain).thimbleFailover

theorem Canonical.halfReset {h d} (hd : Canonical d) : Canonical (halfReset h d) :=
  .ite hd (hd.setBit.setUp.larkOff.each fun _ _ he =>
      he.domainOff).bobFreeze.epochBump.liningHalfLost.pinsPowerUp.frame.frame.clearRegs.setFifo.thimbleFailover

/-! ### Register writes and the bus (Machine/Bus.lean) -/

theorem Canonical.maskStore {a v d} (hd : Canonical d) : Canonical (maskStore a v d) := by
  unfold Machine.maskStore
  split
  · exact hd
  · exact hd.setReg

theorem Canonical.only3 {mc f d} (hd : Canonical d) (hf : Keeps f) : AllCanonical (only3 mc f d) := .ite (.some (hf hd)) .none

theorem Canonical.wrThimble {mc o v d} (hd : Canonical d) : AllCanonical (wrThimble mc o v d) := by
  unfold Machine.wrThimble
  extract_lets
  refine .ite (.some hd.maskStore.mgmt) ?_
  refine .ite (.some hd.dramMapWrite) ?_
  exact .ite (.some hd.dramMapWrite) (.ite (hd.only3 fun _ he => .ite he.maskStore he)
    (.ite (.some hd.logIdxWrite) (.ite (.ite .none (.ite (.some hd.reqProd) (.some hd.maskStore)))
    (.ite (hd.only3 fun _ hx => hx.maskStore) (.some hd.maskStore)))))

theorem Canonical.wrLark {mc h o v d} (hd : Canonical d) : AllCanonical (wrLark mc h o v d) := by
  unfold Machine.wrLark
  extract_lets
  refine .ite (.some hd.lrkCtrlWrite) ?_
  refine .ite (.some hd.refConfigWrite) ?_
  refine .ite (.some hd.setReg) ?_
  refine .ite (.some hd.holdCfgWrite) ?_
  refine .ite (.some hd.gridCfgWrite) ?_
  refine .ite ?_ (.some hd.maskStore)
  refine .ite .none ?_
  refine .ite ?_ (.ite (.some hd.chanStage) (.some hd.maskStore))
  split
  · exact .some hd.calWrite
  · exact .some hd.calRead
  · exact .some hd.calClearValid
  · exact .some hd

theorem Canonical.freeWords {n d} (hd : Canonical d) : Canonical (freeWords n d).2 :=
  (Canonical.pair hd).foldl_snd fun _ _ he => .pair he.takeFree

theorem Canonical.eccCtrlWrite {n v d} (hd : Canonical d) : Canonical (eccCtrlWrite n v d) := by
  unfold Machine.eccCtrlWrite
  extract_lets d1
  have hd1 : Canonical d1 := hd.maskStore
  split
  · exact hd1.eccMark
  · exact hd1.eccUnmark
  · exact hd1.eccSalvage
  · exact hd1.eccClear
  · exact hd1

theorem Canonical.wrChannel {mc n o v d} (hd : Canonical d) : AllCanonical (wrChannel mc n o v d) := by
  unfold Machine.wrChannel
  extract_lets _ d1 p q _ d2
  have hd1 : Canonical d1 := hd.maskStore
  have hp : Canonical p.2 := hd1.freeWords
  have hq : Canonical q.2 := hp.freeWords
  have hd2 : Canonical d2 := hd.maskStore
  refine .ite (.some (.ite hq.driftNow hd1)) ?_
  refine .ite (.some hd.mchCfgWrite) ?_
  refine .ite (.some hd.maskStore) ?_
  refine .ite (.some hd.dlyWrite) ?_
  refine .ite (.some hd.eccCtrlWrite) ?_
  refine .ite (.some hd.rptIdxWrite) ?_
  refine .ite ?_ (.ite (.ite (.some hd.maskStore) .none)
    (.ite (hd.only3 fun _ he => .ite he.setBit he.maskStore) (.ite (hd.only3 fun _ hx => hx.maskStore) (.some hd.maskStore))))
  refine .some ?_
  split
  · exact hd2.passStart
  · exact hd2.passStop
  · exact hd2

theorem Canonical.wrShuttle {mc n o v d} (hd : Canonical d) : AllCanonical (wrShuttle mc n o v d) :=
  .ite .none (.ite (hd.only3 fun _ he => he.maskStore)
    (.ite (hd.only3 fun _ hx => .ite hx.qCmd hx.maskStore) (.ite (.some hd.shadowStage) (.some hd.maskStore))))

theorem Canonical.wrQuad {q o v d} (hd : Canonical d) : Canonical (wrQuad q o v d) := by
  unfold Machine.wrQuad
  extract_lets _ r
  refine .ite hd.refSelWrite ?_
  clear_value r
  split
  · exact hd.laneCtrlCmd
  · exact hd.laneRateWrite
  · exact hd.laneRateWrite
  · exact hd.firWrite
  · exact hd.adaptWrite
  · exact hd.eqWrite
  · exact hd.eqWrite
  · exact hd.eqWrite
  · exact hd.eqWrite
  · exact hd.eqWrite
  · exact hd.eqWrite
  · exact hd.prbsCtrlWrite
  · exact hd.eyeCtrlWrite
  · exact hd.maskStore

theorem Canonical.wrPins {b o v d} (hd : Canonical d) : Canonical (wrPins b o v d) := .ite hd.pinCfgWrite hd.maskStore

theorem Canonical.wrSeam {o v d} (hd : Canonical d) : Canonical (wrSeam o v d) := by
  unfold Machine.wrSeam
  refine .ite ?_ (.ite hd.setReg (.ite hd.setReg hd.maskStore))
  extract_lets d1
  have hd1 : Canonical d1 := hd.maskStore
  split
  · exact hd1.startRemap
  · exact hd1.retrainAll
  · exact hd1.armRelease
  · exact hd1

theorem Canonical.wrBobbin {o v d} (hd : Canonical d) : Canonical (wrBobbin o v d) :=
  .ite hd.maskStore.bobCmd (.ite hd.maskStore (.ite hd.ringSizeWrite (.ite hd.ringSizeWrite hd.maskStore)))

theorem Canonical.wrLining {o v d} (hd : Canonical d) : Canonical (wrLining o v d) := by
  unfold Machine.wrLining
  refine .ite ?_ (.ite hd.linCmdErr hd.maskStore)
  extract_lets d1
  have hd1 : Canonical d1 := hd.maskStore
  split
  · exact hd1.liningOpen
  · exact hd1.liningClose
  · exact hd1.liningRekey
  · exact hd1

theorem Canonical.wrPll {n r v d} (hd : Canonical d) : Canonical (wrPll n r v d) := by
  unfold Machine.wrPll
  extract_lets _ p q
  have hp : Canonical p.2 := hd.takeFree
  have hq : Canonical q.2 := hp.takeFree
  split
  · exact hq.pllCtrlWrite
  · exact .ite hd.setBit hd.maskStore
  · exact .ite hd.setBit hd.maskStore
  · exact .ite hd.setBit hd.maskStore
  · exact hd.maskStore

theorem Canonical.domCtrlWrite {mc n v d} (hd : Canonical d) : AllCanonical (domCtrlWrite mc n v d) :=
  .ite .none (.some (.ite hd.maskStore.domRequest.setFld hd.maskStore.domRequest))

theorem Canonical.wrPower {mc o v d} (hd : Canonical d) : AllCanonical (wrPower mc o v d) := by
  unfold Machine.wrPower
  extract_lets
  refine .ite (.some hd.wrPll) ?_
  refine .ite (.some hd.maskStore) ?_
  refine .ite (.some hd.maskStore.clockCheck) ?_
  refine .ite ?_ (.ite hd.domCtrlWrite (.ite (hd.only3 fun _ he => he.maskStore) (.some hd.maskStore)))
  refine hd.only3 fun _ he => ?_
  split
  · exact he.deviceReset
  · exact he.halfReset
  · exact he.halfReset
  · exact he

theorem Canonical.wrField {mc f o v d} (hd : Canonical d) : AllCanonical (wrField mc f o v d) := by
  unfold Machine.wrField
  extract_lets _ _ d1
  have hd1 : Canonical d1 := .ite hd.bobGap hd
  refine .ite (hd.only3 fun _ he => .ite (.ite he.maskStore.mendRequest he.maskStore) (.ite he.walkCfgWrite he.maskStore))
    (.some (.ite (.ite hd1.gsrPulse hd1) (.ite hd1.setReg.tickReselect
    (.ite hd1.columnClock (.ite hd1.stileCtrlWrite (.ite hd1.rclkWrite (.ite hd1.maskStore.clockCheck hd1.maskStore)))))))

theorem Canonical.wrEth {m o v d} (hd : Canonical d) : Canonical (wrEth m o v d) :=
  .ite hd.ethBlkWrite (.ite (.ite hd.maskStore hd.maskStore.setFld) (.ite hd.maskStore hd.maskStore))

theorem Canonical.wrJesd {j o v d} (hd : Canonical d) : Canonical (wrJesd j o v d) := by
  unfold Machine.wrJesd
  refine .ite hd.jsdCtrlWrite ?_
  refine .ite hd.maskStore ?_
  split
  · exact hd.jsdRegWrite
  · exact hd

theorem Canonical.wrHost {mc h o v d} (hd : Canonical d) : Canonical (wrHost mc h o v d) :=
  .ite hd (.ite hd.hptCtrlWrite (.ite hd.maskStore (.ite hd.reqProd hd.maskStore)))
theorem Canonical.wrSlv {s o v d} (hd : Canonical d) : Canonical (wrSlv s o v d) := .ite hd.slvCtrlWrite hd.maskStore

theorem Canonical.regWrite {mc t o v d} (hd : Canonical d) : AllCanonical (regWrite mc t o v d) := by
  unfold Machine.regWrite
  split
  · exact hd.wrThimble
  · exact hd.wrLark
  · exact hd.wrChannel
  · exact hd.wrShuttle
  · exact .some hd.wrQuad
  · exact hd.only3 fun _ he => he.wrPins
  · exact hd.only3 fun _ he => he.wrSeam
  · exact hd.only3 fun _ he => he.wrBobbin
  · exact hd.only3 fun _ he => he.wrLining
  · exact hd.wrPower
  · exact hd.wrField
  · exact .some hd.wrEth
  · exact .some hd.wrJesd
  · exact .some hd.wrHost
  · exact hd.only3 fun _ he => he.wrSlv
  · exact .some hd
  · exact .some hd
  · exact .some hd
  · exact .some hd
  · exact .some hd

theorem Canonical.regRead {t a o d} (hd : Canonical d) : Canonical (regRead t a o d).2 := by
  unfold Machine.regRead
  split
  · exact .pair (.ite hd.timeFracRead (.ite hd.capturePop (.ite hd.gridNowRead hd)))
  · exact .pair (.ite hd.prbsErrRead hd)
  · exact .ite_snd (.pair hd.gpioInRead) (.ite_snd (.pair hd) (.ite_snd (.pair hd) (.pair hd)))
  · exact .ite_snd (.pair hd) (.ite_snd (.pair hd) (.pair hd))
  · exact .ite_snd (.pair hd) (.pair hd)
  · exact .ite_snd hd.ethTxtsRead (.pair hd)
  · exact .pair hd

theorem Canonical.fabricAnswer {write len d} (hd : Canonical d) : Canonical (fabricAnswer write len d).2 :=
  .ite_snd (.pair hd.takeFree) (.pair hd.takeFree.freeBytes)

theorem Canonical.stileAccess {m cls write s a len data d} (hd : Canonical d) : Canonical (stileAccess m cls write s a len data d).2 := by
  unfold Machine.stileAccess
  extract_lets _ show_ q
  have hshow_ : Keeps show_ := fun _ he => .ite he he.recordBeats
  have hq : Canonical q.2 := hd.takeFreeBool
  split
  · exact .pair hd.setBit
  · exact .ite_snd (hshow_ hd).fabricAnswer (.ite_snd (hshow_ hq).fabricAnswer (.pair (.ite hq hq.frame)))

theorem Canonical.busRead {m a len d} (hd : Canonical d) : Canonical (busRead m a len d).2 := by
  unfold Machine.busRead
  extract_lets
  split
  · exact .pair hd
  · extract_lets _ q
    have hq : Canonical q.2 := (Canonical.pair hd).foldl_snd fun _ _ he => .ite_snd (.pair he) (.pair he.regRead)
    refine .ite_snd (.pair hd) ?_
    refine .ite_snd (.pair hd) ?_
    split
    · exact hd.dramRead
    · exact .pair hd.cloverNet
    · exact .pair hd.cloverControl
    · split <;> exact .pair hd
    · exact hd.stileAccess
    · exact .ite_snd (.ite_snd (.pair hd) (.pair hd)) (.ite_snd (.pair hd) (.ite_snd (.pair hd) (.pair hq)))

theorem Canonical.busWrite_regs {a mc t base data len d} (hd : Canonical d) : Canonical (busWrite.regs a mc t base data len d).2 := by
  unfold Machine.busWrite.regs
  refine .ite_snd (.pair hd) (.ite_snd (.pair hd) ?_)
  extract_lets q
  have hq : AllCanonical q :=
    List.foldlRecOn _ _ (.some hd) fun _ ho _ _ => ho.bind fun _ he => .ite (.some he) he.regWrite
  clear_value q
  split
  · exact hq rfl
  · exact hd

theorem Canonical.busWrite {m cls a data d} (hd : Canonical d) : Canonical (busWrite m cls a data d).2 := by
  unfold Machine.busWrite
  extract_lets mc len
  split
  · exact hd
  · extract_lets o
    refine .ite_snd (.pair hd) (.ite_snd (.pair hd) ?_)
    split
    · exact hd.dramWrite
    · exact .pair hd.cloverNet
    · exact .pair hd.cloverControl
    · split
      · exact .pair hd.hostWrites
      · exact hd
    · exact .pair hd.stileAccess
    · exact .ite_snd (.pair hd.ethTxWrite) hd.busWrite_regs
    · exact .ite_snd hd.jesdTxWrite hd.busWrite_regs
    · exact .ite_snd (.pair hd.doorbellWrite) hd.busWrite_regs
    · exact hd.busWrite_regs

theorem Canonical.ringPost {c bs d} (hd : Canonical d) : Canonical (ringPost c bs d) := by
  unfold Machine.ringPost
  split
  · exact .ite hd.busWrite.setReg hd.busWrite.setReg.busWrite
  · exact hd.hostWrites.setReg.msix

theorem Canonical.postReply {c bs d} (hd : Canonical d) : Canonical (postReply c bs d) := .ite hd.ringPost hd.frame
theorem Canonical.sendReply {c bs d} (hd : Canonical d) : Canonical (sendReply c bs d) := .ite hd.frame.postReply hd.frame.frame

theorem Canonical.flushOne {d} (hd : Canonical d) : Canonical (flushOne d) := by
  unfold Machine.flushOne
  split
  · exact hd.frame.postReply
  · exact hd

theorem Canonical.flushReplies {d} (hd : Canonical d) : Canonical (flushReplies d) := hd.each fun _ _ he => he.flushOne
theorem Canonical.registerWrite {mc a data d} (hd : Canonical d) : Canonical (registerWrite mc a data d) :=
  .ite hd hd.busWrite.flushReplies.answer

theorem Canonical.readRequest {hdr d} (hd : Canonical d) : Canonical (readRequest hdr d) := by
  unfold Machine.readRequest
  extract_lets _ q
  have hq : Canonical q.2 := hd.takeArrived.busRead
  split
  · exact hd.stileInbound
  · exact .ite hd hq.answerFrom.answer

theorem Canonical.applyWrite {hdr data bad d} (hd : Canonical d) : Canonical (applyWrite hdr data bad d).2 :=
  .ite_snd hd.busWrite (.pair (hd.foldl fun _ _ he => .ite he he.busWrite))

theorem Canonical.writeRequest {hdr data poison d} (hd : Canonical d) : Canonical (writeRequest hdr data poison d) := by
  unfold Machine.writeRequest
  split
  · exact hd.stileInbound
  · exact .ite hd (.ite hd hd.takeArrived.applyWrite.answerFrom.flushReplies.answer)

theorem Canonical.notifyWrite {e d} (hd : Canonical d) : Canonical (notifyWrite e d) := by
  unfold Machine.notifyWrite
  extract_lets
  split
  · exact hd
  · exact .ite hd (.ite hd.setEngine.busWrite.flushReplies hd.setEngine.busWrite.setEngine)

theorem Canonical.bar2Access {h write off len data d} (hd : Canonical d) : Canonical (bar2Access h write off len data d) :=
  .ite hd (.ite (.ite hd hd.busWrite.flushReplies.answer) hd.busRead.answer)
theorem Canonical.hostOut {mc write a len data d} (hd : Canonical d) : Canonical (hostOut mc write a len data d) :=
  .ite hd (.ite hd.registerWrite hd.busRead.answer)

theorem Canonical.rspCons {h mc v d} (hd : Canonical d) : Canonical (rspCons h mc v d) := by
  unfold Machine.rspCons
  extract_lets go
  have hgo : ∀ c, Canonical (go c) := fun _ => hd.setReg.flushReplies.answer
  clear_value go
  split
  · exact hgo _
  · exact .ite (hgo _) hd.answer

/-! ### Loading and modes (Machine/Load.lean) -/

theorem Canonical.registersBad {d} (hd : Canonical d) : Canonical (registersBad d).2 := .ite_snd (.pair hd.takeFreeBool) (.pair hd)
theorem Canonical.putClaim {kind where_ item id d} (hd : Canonical d) : Canonical (putClaim kind where_ item id d) := hd.frame
theorem Canonical.applyFrames {s d} (hd : Canonical d) : Canonical (applyFrames s d) := hd.setFab.frame
theorem Canonical.applyBram {f ws d} (hd : Canonical d) : Canonical (applyBram f ws d) := hd.frame
theorem Canonical.applyClover {f progs data d} (hd : Canonical d) : Canonical (applyClover f progs data d) :=
  (hd.each fun _ _ he => he.setEngine).each fun _ _ hx => hx.setEngine
theorem Canonical.applyHedges {cs segs holds d} (hd : Canonical d) : Canonical (applyHedges cs segs holds d) :=
  (hd.setFab.each fun _ _ he => he.setReg).each fun _ _ hx => hx.setReg

theorem Canonical.applyField {p f d} (hd : Canonical d) : Canonical (applyField p f d) := by
  unfold Machine.applyField
  refine hd.each fun _ _ he => ?_
  split
  · exact .ite he.applyFrames he
  · exact .ite he.applyBram he
  · exact .ite he.applyClover he
  · exact he

theorem Canonical.applyRegs {ws d} (hd : Canonical d) : Canonical (applyRegs ws d).2 :=
  (Canonical.pair hd).foldl_snd fun _ _ he => .ite_snd he (.pair he.busWrite)
theorem Canonical.applyPins {ps id d} (hd : Canonical d) : Canonical (applyPins ps id d) :=
  hd.each fun _ _ he => he.setReg.setReg.setReg.setPin.putClaim
theorem Canonical.applyEntries {p hs id d} (hd : Canonical d) : Canonical (applyEntries p hs id d) :=
  hd.each fun _ _ he => (he.each fun _ _ hx => hx.entryWrite.putClaim).each fun _ _ hy => hy.setReg.chanStage.putClaim
theorem Canonical.fieldStatus {f st d} (hd : Canonical d) : Canonical (fieldStatus f st d) := hd.setFld
theorem Canonical.loadStart {source auto fallback id d} (hd : Canonical d) : Canonical (loadStart source auto fallback id d) := hd.frame
theorem Canonical.loadRefuse {st d} (hd : Canonical d) : Canonical (loadRefuse st d) := hd.frame
theorem Canonical.loadShow {p j d} (hd : Canonical d) : Canonical (loadShow p j d) := hd.setFld.setFld.setFld.putBit.setFld.setReg

theorem Canonical.fullBegin {p j d} (hd : Canonical d) : Canonical (fullBegin p j d) :=
  (((Canonical.ite hd.allOff hd).pinsPowerUp.securePins.frame.frame.each fun _ _ he => he.fieldStatus.putBit).each fun _ _ hx =>
      hx.domRequest).seamTrainStart

theorem Canonical.partBegin {p j d} (hd : Canonical d) : Canonical (partBegin p j d) :=
  hd.frame.each fun _ _ he => ((Canonical.ite he.bobGap he).stopping fun _ hx =>
      hx.fieldStatus.setBit).gsrField.stilesUnderLoad.domRequest

theorem Canonical.loadRead {p readOk d} (hd : Canonical d) : Canonical (loadRead p readOk d) := by
  unfold Machine.loadRead
  split
  · exact hd
  · refine .ite hd ?_
    extract_lets _ _ _ _ d1 d2 d3
    have hd1 : Canonical d1 := (Canonical.ite hd.partBegin hd.fullBegin).loadShow
    have hd2 : Canonical d2 := hd1.setFld.setReg
    have hd3 : Canonical d3 := hd2.each fun _ _ he => he.fieldStatus
    refine .ite hd.loadRefuse ?_
    refine .ite hd.loadRefuse ?_
    refine .ite hd.loadRefuse ?_
    refine .ite hd.loadRefuse ?_
    refine .ite hd1.loadReject ?_
    refine .ite hd1.loadReject ?_
    split
    · exact hd3.frame
    · exact hd3

theorem Canonical.loadApply {p j d} (hd : Canonical d) : Canonical (loadApply p j d) := by
  unfold Machine.loadApply
  extract_lets _ _ d1 d2 _ d3 d4 d5 r q d6 d7 d8 d9
  have hd1 : Canonical d1 := hd.each fun _ _ he => he.applyField
  have hd2 : Canonical d2 := hd1.each fun _ _ he => he.frame
  have hd3 : Canonical d3 := .ite hd2 hd2.setFab
  have hd4 : Canonical d4 := by
    unfold d4
    refine hd3.each fun _ _ he => ?_
    split
    · exact he.applyHedges
    · exact he
  have hd5 : Canonical d5 := hd4.each fun _ _ he => he.gsrField.putBit
  have hr : Canonical r.2 := hd5.applyRegs
  have hq : Canonical q.2 := hr.registersBad
  have hd6 : Canonical d6 := .ite hq hq.applyEntries
  have hd7 : Canonical d7 := hd6.each fun _ _ he => he.putClaim
  have hd8 : Canonical d8 := hd7.setFld
  have hd9 : Canonical d9 := hd8.each fun _ _ he => he.fieldStatus
  exact .ite hq.loadReject (.ite hq.loadReject (.ite hq.loadReject hd9.frame))

theorem Canonical.loadVerify {sigOk tagsOk inflateOk d} (hd : Canonical d) : Canonical (loadVerify sigOk tagsOk inflateOk d) := by
  unfold Machine.loadVerify
  split
  · split
    · exact .ite hd (.ite hd.loadReject (Canonical.ite hd hd.setBit).loadApply)
    · exact hd
  · exact hd

theorem Canonical.fieldRelease {f d} (hd : Canonical d) : Canonical (fieldRelease f d) := hd.fieldStatus.bump.gsrRelease
theorem Canonical.loadDone {j d} (hd : Canonical d) : Canonical (loadDone j d) := hd.setFld.frame

theorem Canonical.loadRelease {d} (hd : Canonical d) : Canonical (loadRelease d) := by
  unfold Machine.loadRelease
  split
  · split
    · exact .ite hd (hd.loadDone.frame.each fun _ _ he => he.fieldRelease).seamReleaseAll.applyPins.chansStart.bobAnchor
    · exact hd
  · exact hd

theorem Canonical.partialRelease {d} (hd : Canonical d) : Canonical (partialRelease d) := by
  unfold Machine.partialRelease
  split
  · split
    · exact .ite hd (hd.loadDone.frame.each fun _ _ he => he.frame.fieldRelease).applyPins.bobAnchor.settle
    · exact hd
  · exact hd

theorem Canonical.autoload {d} (hd : Canonical d) : Canonical (autoload d) := .ite hd (Canonical.ite hd.setBit hd).loadStart

theorem Canonical.reloadField {f hold d} (hd : Canonical d) : Canonical (reloadField f hold d) := by
  unfold Machine.reloadField
  split
  · exact hd
  · exact .ite hd.applyField.gsrField.applyRegs.putBit.putBit.fieldStatus hd.applyField.gsrField.applyRegs.putBit.putBit.fieldRelease

theorem Canonical.rampQueued {d} (hd : Canonical d) : Canonical (rampQueued d) := by
  unfold Machine.rampQueued
  refine hd.each fun _ _ he => ?_
  split
  · exact .ite he.setTrans he
  · exact he

theorem Canonical.stateVout {n st d} (hd : Canonical d) : Canonical (stateVout n st d) := hd.setFld
theorem Canonical.groupLaneState {st d l} (hd : Canonical d) : Canonical (groupLaneState st d l) :=
  (Canonical.ite hd.putBit.putBit hd.putBit).setLane.laneEval
theorem Canonical.chanEntered {n d} (hd : Canonical d) : Canonical (chanEntered n d) := .ite hd.srEnter hd

theorem Canonical.enterState {n st d} (hd : Canonical d) : Canonical (enterState n st d) := by
  unfold Machine.enterState
  extract_lets d1 d2 _ d3 _ _ e d4
  have hd1 : Canonical d1 := .ite hd.chanEntered hd
  have hd2 : Canonical d2 := .ite hd1.shtFlush hd1
  have hd3 : Canonical d3 := hd2.putBit.domainPowered
  have he : Canonical e := hd3.reloadField
  have hd4 : Canonical d4 := hd2.setFld.stateVout
  refine .ite hd2.domainOff ?_
  refine .ite ?_ (.ite (hd4.each fun _ _ hx => hx.groupLaneState) hd4)
  refine .ite hd3 ?_
  refine .ite hd3.fieldStatus.putBit ?_
  refine .ite hd3.fieldStatus ?_
  refine .ite ?_ hd3
  split
  · exact .ite he he.bobAnchor
  · exact he

theorem Canonical.wakeDone {d} (hd : Canonical d) : Canonical (wakeDone d) := .ite hd.frame.bobAnchor hd
theorem Canonical.rejoinCheck {d} (hd : Canonical d) : Canonical (rejoinCheck d) := .ite hd.frame.seamTrainStart hd

theorem Canonical.transitionDone {n d} (hd : Canonical d) : Canonical (transitionDone n d) := by
  unfold Machine.transitionDone
  split
  · exact hd
  · refine .ite hd ?_
    refine .ite hd.supplyMiss.rampQueued ?_
    extract_lets d1 d2 d3 d4
    have hd1 : Canonical d1 := hd.enterState
    have hd2 : Canonical d2 := hd1.setTrans
    have hd3 : Canonical d3 := hd2.startTrans
    have hd4 : Canonical d4 := by
      unfold d4
      refine .ite ?_ ?_
      · split
        · exact hd3.setTrans
        · exact hd3
      · split
        · exact hd2.startTrans
        · exact hd2
    exact hd4.rampQueued.clockCheck.rejoinCheck.wakeDone.settle

theorem Canonical.setDefer {h b d} (hd : Canonical d) : Canonical (setDefer h b d) := by
  unfold Machine.setDefer
  split <;> exact hd.frame

theorem Canonical.recoverByMode {h d} (hd : Canonical d) : Canonical (recoverByMode h d) := by
  unfold Machine.recoverByMode
  extract_lets back entries on due d1
  have hback : Keeps back := fun _ he => he.putBit.setDefer
  have hentries : Keeps entries := by
    intro d2 hd1
    unfold entries
    split
    · exact hd1.applyEntries
    · exact hd1
  have hon : Keeps on := fun _ he => he.each fun _ _ hx => hx.domRequest
  have hdue : Keeps due := fun _ he => he.frame
  have hd1 : Canonical d1 := hdue (hentries (hback hd.setLost))
  split
  · exact hd.setDefer
  · exact hback hd.setLost
  · exact (hback hd.setLost).loadReject
  · exact .ite (hon hd1) (hd1.each fun _ _ he => .ite he.domRequest he)
  · exact hdue (hentries (hon (hback hd.setLost)))

theorem Canonical.halfRecovery {h d} (hd : Canonical d) : Canonical (halfRecovery h d) :=
  .ite hd (Canonical.ite hd (hd.each fun _ _ he =>
      he.domainOff).larkPowerUp.pageSelfTest.setUp.seamMapsLoad.setLost.frame).recoverByMode.rejoinCheck.wakeDone

theorem Canonical.seamRelease {d} (hd : Canonical d) : Canonical (seamRelease d) := by
  unfold Machine.seamRelease
  split
  · exact hd
  · extract_lets _ d1 _ d2 _ d3 d4 d5 d6
    have hd1 : Canonical d1 := hd.frame.putBit
    have hd2 : Canonical d2 := hd1.seamReleaseAll
    have hd3 : Canonical d3 := hd2.each fun _ _ he => he.fieldRelease
    have hd4 : Canonical d4 := by
      unfold d4
      split
      · exact hd3.applyPins
      · exact hd3
    have hd5 : Canonical d5 := hd4.each fun _ _ he => he.setLost
    have hd6 : Canonical d6 := .ite hd5 hd5.bobAnchor
    exact hd6.wakeDone.settle

theorem Canonical.holdExit {d} (hd : Canonical d) : Canonical (holdExit d) :=
  ((Canonical.ite hd.frame.toBlank hd).each fun _ _ he => he.recoverByMode).rejoinCheck.wakeDone
theorem Canonical.holdEnd {f d} (hd : Canonical d) (hf : Keeps f) : Canonical (holdEnd f d) := .ite (hf hd).holdExit (hf hd)
theorem Canonical.modeEffects {f d} (hd : Canonical d) (hf : Keeps f) : Canonical (modeEffects f d) :=
  hd.seamWatch fun _ he => (he.holdEnd fun _ hx => hf hx).wakeDone

theorem Canonical.installRecord {ty bs d} (hd : Canonical d) : Canonical (installRecord ty bs d) := by
  unfold Machine.installRecord
  extract_lets _ _ _ d1
  have hd1 : Canonical d1 := hd.frame
  split
  · exact hd1.frameMem
  · exact hd1.frameMem
  · exact hd1.frame
  · exact hd1.frame
  · exact hd1.frame
  · exact hd1

theorem Canonical.setBank {b x d} (hd : Canonical d) : Canonical (setBank b x d) := hd.frame
theorem Canonical.trialRestart {d} (hd : Canonical d) : Canonical (trialRestart d) :=
  .ite hd.bootBank.thimbleFailover.bootBank hd.bootBank

theorem Canonical.rsWriteNow {trial readBackOk d} (hd : Canonical d) : Canonical (rsWriteNow trial readBackOk d) := by
  unfold Machine.rsWriteNow
  extract_lets _ _ _ _ d1 _ d2 _ d3 d4 d5 d6
  have hd1 : Canonical d1 := hd.frame
  have hd2 : Canonical d2 := hd1.setBank
  have hd3 : Canonical d3 := hd2.frame
  have hd4 : Canonical d4 := hd3.showBank.mirrorHeld
  have hd5 : Canonical d5 := hd1.setBank
  have hd6 : Canonical d6 := hd5.setBit.putBit.fault
  refine .ite (.ite hd4.trialRestart hd4) ?_
  split <;> exact hd6.frame

theorem Canonical.recordWrite {readBackOk d} (hd : Canonical d) : Canonical (recordWrite readBackOk d) := .ite hd hd.rsWriteNow

/-! ### Ethernet's own accesses (Machine/EthDma.lean) -/

theorem Canonical.ethDeliver {m p d} (hd : Canonical d) : Canonical (ethDeliver m p d) := by
  unfold Machine.ethDeliver
  extract_lets _ gone
  have hgone : Canonical gone := hd.setEth
  split
  · exact hd
  · exact .ite hd (.ite hgone.setBit (.ite hd (Canonical.ite (Canonical.ite hgone.busWrite.bump.bump
        hgone.busWrite.bump.bump.setBit).setEth (.ite hgone.busWrite.bump.bump hgone.busWrite.bump.bump.setBit)).flushReplies))

theorem Canonical.ethRecord {m p d} (hd : Canonical d) : Canonical (ethRecord m p d) := by
  unfold Machine.ethRecord
  extract_lets _ gone
  have hgone : Canonical gone := hd.setEth
  split
  · exact hd
  · exact .ite hd (.ite hd hgone.busWrite.flushReplies)

theorem Canonical.jesdRx {j octets d} (hd : Canonical d) : Canonical (jesdRx j octets d) :=
  .ite hd (.ite hd hd.setJesd.busWrite.flushReplies)

/-! ### The fabric's edge (Machine/FabricEdge.lean) -/

theorem Canonical.fabricRegs {f r d0 d} (hd : Canonical d) : Canonical (fabricRegs f r d0 d) := .ite hd (.ite hd.setFab hd.setFab)
theorem Canonical.lanePort {d0 f m d} (hd : Canonical d) : Canonical (lanePort d0 f m d) :=
  .ite (hd.setLane.when fun _ he => he.rxSlip).idleReq (hd.setLane.when fun _ hx => hx.rxSlip)
theorem Canonical.laneEdges {d0 f r d} (hd : Canonical d) : Canonical (laneEdges d0 f r d) :=
  .ite (hd.each fun _ _ he => .ite (Canonical.ite he.setLane he).lanePort he) hd
theorem Canonical.hedgeEdges {f r d0 d} (hd : Canonical d) : Canonical (hedgeEdges f r d0 d) :=
  .ite hd (hd.each fun _ _ he => .ite he (.ite he.setHedge (.ite he.setHedge he)))

theorem Canonical.gussetEdges {f r d0 d} (hd : Canonical d) : Canonical (gussetEdges f r d0 d) := by
  unfold Machine.gussetEdges
  refine hd.each fun _ _ he => ?_
  extract_lets
  split
  · exact .ite he (.ite (Canonical.ite he.gussetPop he).gussetPush (.ite he.gussetPop he))
  · exact he

theorem Canonical.bramEdges {f r d0 d} (hd : Canonical d) : Canonical (bramEdges f r d0 d) := by
  unfold Machine.bramEdges
  refine .ite hd ?_
  refine hd.each fun _ _ he => ?_
  split
  · exact .ite he he.bramEdge
  · exact he

theorem Canonical.cloverEdge {r d0 e d} (hd : Canonical d) : Canonical (cloverEdge r d0 e d) :=
  .ite ((hd.each fun _ _ he => he.streamPush).each fun _ _ hx => hx.streamPop).ctlSinks
    ((hd.each fun _ _ hy => hy.streamPush).each fun _ _ hz => hz.streamPop)

theorem Canonical.cloverEdges {f r d0 d} (hd : Canonical d) : Canonical (cloverEdges f r d0 d) := hd.each fun _ _ he => he.cloverEdge
theorem Canonical.fabricEdge {f r d0} (hd0 : Canonical d0) : Canonical (fabricEdge f r d0) :=
  .ite hd0 hd0.rclkEdge.fabricRegs.tickFall.doneFall.seamEdges.laneEdges.hedgeEdges.gussetEdges.bramEdges.cloverEdges.settle

/-! ### Shuttle's own accesses (Machine/ShuttleDma.lean) -/

theorem Canonical.readAll {m ps d} (hd : Canonical d) : Canonical (readAll m ps d).2 :=
  (Canonical.pair hd).foldl_snd fun _ _ he => .ite_snd he (.ite_snd (.pair he.busRead) (.pair he.busRead))
theorem Canonical.writeAll {m cls ps r d} (hd : Canonical d) : Canonical (writeAll m cls ps r d).2 :=
  (Canonical.pair hd).foldl_snd fun _ _ he => .ite_snd he (.ite_snd (.pair he) (.pair he.busWrite))
theorem Canonical.descCheck {m w d} (hd : Canonical d) : Canonical (descCheck m w d).2 := .pair (.ite_snd (.pair hd) hd.readAll)
theorem Canonical.putDesc {n x d} (hd : Canonical d) : Canonical (putDesc n x d) := hd.setShuttle
theorem Canonical.dropDesc {n q d} (hd : Canonical d) : Canonical (dropDesc n q d) := hd.setShuttle
theorem Canonical.fetchFail {n q c d} (hd : Canonical d) : Canonical (fetchFail n q c d) := hd.ctxSet.ctxErr

theorem Canonical.descriptorFetch {n d} (hd : Canonical d) : Canonical (descriptorFetch n d) := by
  unfold Machine.descriptorFetch
  refine .ite hd ?_
  split
  · exact hd
  · exact .ite hd.ctxGet.setShuttle (.ite hd.ctxGet.setShuttle.busRead.fetchFail hd.ctxGet.setShuttle.busRead.descCheck.setShuttle)

theorem Canonical.markBad {n own net x d} (hd : Canonical d) : Canonical (markBad n own net x d) := hd.takeFree.putDesc

theorem Canonical.dataTransfer {n q d} (hd : Canonical d) : Canonical (dataTransfer n q d) := by
  unfold Machine.dataTransfer
  split
  · exact hd
  · refine .ite hd ?_
    extract_lets _ _ _ _ _ r d1 _ q1 _ _ run _ run1 _ _ d2 q2 more
    have hr : Canonical r.2 := .ite_snd hd.readAll (.pair hd)
    have hd1 : Canonical d1 := hr
    have hq1 : Canonical q1.2 := hd1.takeFree
    have hrun : Canonical run.2 := hq1.writeAll
    have hrun1 : Canonical run1.2 := hd1.writeAll
    have hd2 : Canonical d2 := hrun1
    have hq2 : Canonical q2.2 := hd2.takeFree
    have hmore : Canonical more.2 := hq2.writeAll
    exact .ite hrun.markBad (.ite hmore.markBad.flushReplies (.ite hd2.putDesc.flushReplies hd2.putDesc.flushReplies))

theorem Canonical.readBack {n q d} (hd : Canonical d) : Canonical (readBack n q d) := by
  unfold Machine.readBack
  split
  · exact hd
  · exact .ite hd hd.busRead.putDesc

theorem Canonical.completionRecord {n q d} (hd : Canonical d) : Canonical (completionRecord n q d) := by
  unfold Machine.completionRecord
  split
  · exact hd
  · exact .ite hd (.ite hd.ctxGet.shtFlag (.ite hd hd.ctxGet.busWrite.putDesc.flushReplies))

theorem Canonical.recordAnswer {n q d} (hd : Canonical d) : Canonical (recordAnswer n q d) := by
  unfold Machine.recordAnswer
  split
  · exact hd
  · exact .ite hd (.ite hd.ctxGet.dropDesc.ctxSet.shtFlag.shtHandOver
      (Canonical.ite hd.ctxGet.dropDesc.ctxSet.bump hd.ctxGet.dropDesc.ctxSet.bump.bump).shtCount.shtHandOver)

/-! ### Sessions and replies (Machine/Packet.lean) -/

theorem Canonical.answerWith {st d} (hd : Canonical d) : Canonical (answerWith st d).2 := .pair hd
theorem Canonical.ok {ps d} (hd : Canonical d) : Canonical (ok ps d).2 := .pair hd
theorem Canonical.hwFault {detail d} (hd : Canonical d) : Canonical (hwFault detail d).2 := .pair hd
theorem Canonical.closeSession {c id d} (hd : Canonical d) : Canonical (closeSession c id d) := hd.frame
theorem Canonical.mapSession {c id f d} (hd : Canonical d) : Canonical (mapSession c id f d) := hd.frame
theorem Canonical.mkReply {rq op crc st ps d} (hd : Canonical d) : Canonical (mkReply rq op crc st ps d).2 := .pair hd.mapSession

theorem Canonical.serve {rq op params crc act d} (hd : Canonical d) (hact : ∀ x0, KeepsSnd (act x0)) :
    Canonical (serve rq op params crc act d).2 := by
  unfold Machine.serve
  extract_lets plain
  have hplain : ∀ st ps, Canonical (plain st ps).2 := fun _ _ => .pair hd
  clear_value plain
  refine .ite_snd (hplain _ _) ?_
  split
  · exact hplain _ _
  · split
    · exact hplain _ _
    · split
      · exact .ite_snd (.pair hd) (hplain _ _)
      · exact .ite_snd (.pair hd) (.pair (Canonical.ite_snd hd.answerWith
          (.ite_snd hd.answerWith (.ite_snd hd.answerWith (hact _ hd)))).mkReply)

theorem Canonical.bobPacket {c bs d} (hd : Canonical d) : Canonical (bobPacket c bs d) := hd.each fun _ _ he => he.bobRecord

theorem Canonical.serveRequest {rq op params act after d} (hd : Canonical d) (hact : ∀ x0, KeepsSnd (act x0)) (hafter : Keeps after) :
    Canonical (serveRequest rq op params act after d) :=
  .ite hd (.ite hd (.ite (hafter (hd.bobPacket.serve fun _ _ he => hact _ he).sendReply)
    (hd.bobPacket.serve fun _ _ hx => hact _ hx).sendReply))

theorem Canonical.startLong {rq op opcode arg result d} (hd : Canonical d) : Canonical (startLong rq op opcode arg result d).2 :=
  hd.frame.answerWith

theorem Canonical.longCompletion {op d} (hd : Canonical d) : Canonical (longCompletion op d) := by
  unfold Machine.longCompletion
  refine .ite hd ?_
  split
  · exact hd
  · split
    · exact hd
    · exact hd.frame.sendReply

theorem Canonical.portPacket {c bytes d} (hd : Canonical d) : Canonical (portPacket c bytes d) := .ite hd.frame hd.frame
theorem Canonical.popReply {c d} (hd : Canonical d) : Canonical (popReply c d) := hd.frame.flushReplies

theorem Canonical.portRead {c whole d} (hd : Canonical d) : Canonical (portRead c whole d) := by
  unfold Machine.portRead
  split
  · exact hd.answer
  · exact .ite hd.popReply.answer hd.answer

theorem Canonical.spiStatus {h d} (hd : Canonical d) : Canonical (spiStatus h d) := .ite hd hd.frame.answer
theorem Canonical.cmdpktUpdate {word d} (hd : Canonical d) : Canonical (cmdpktUpdate word d) := .ite hd.frame.portPacket hd.frame

theorem Canonical.cmdpktCapture {d} (hd : Canonical d) : Canonical (cmdpktCapture d) := by
  unfold Machine.cmdpktCapture
  split
  · exact hd.answer
  · exact (Canonical.ite hd.frame.popReply hd.frame).answer

/-! ### The operations of the opcodes (Machine/Opcodes.lean) -/

theorem Canonical.claimed {holder item d} (hd : Canonical d) : Canonical (claimed holder item d).2 := .pair hd

theorem Canonical.needClaim {d kind wher item id r} (hd : Canonical d) (h : needClaim d kind wher item id = some r) : Canonical r.2 := by
  unfold Machine.needClaim at h
  split at h
  · cases h
    exact hd.answerWith
  · split at h
    · cases h
    · cases h
      exact hd.claimed

theorem Canonical.needClaims {d kind wher items id r} (hd : Canonical d) (h : needClaims d kind wher items id = some r) :
    Canonical r.2 := by
  obtain ⟨_, _, hi⟩ := List.exists_of_findSome?_eq_some h
  exact hd.needClaim hi

theorem Canonical.showOwner {kind wher item code id d} (hd : Canonical d) : Canonical (showOwner kind wher item code id d) :=
  .ite hd.setReg hd
theorem Canonical.takeClaim {s kind wher item d} (hd : Canonical d) : Canonical (takeClaim s kind wher item d) := hd.putClaim.showOwner
theorem Canonical.dropClaim {kind wher item d} (hd : Canonical d) : Canonical (dropClaim kind wher item d) := hd.frame.showOwner

theorem Canonical.claimAct {kind wher first count s d} (hd : Canonical d) : Canonical (claimAct kind wher first count s d).2 := by
  unfold Machine.claimAct
  extract_lets
  refine .ite_snd (.ite_snd hd.answerWith (hd.each fun _ _ he => he.takeClaim).ok) ?_
  split
  · exact hd.claimed
  · exact .ite_snd hd.answerWith (hd.each fun _ _ he => he.takeClaim).ok

theorem Canonical.unclaimAct {kind wher first count s d} (hd : Canonical d) : Canonical (unclaimAct kind wher first count s d).2 := by
  unfold Machine.unclaimAct
  extract_lets
  split
  · exact hd.claimed
  · exact .ite_snd hd.answerWith (hd.each fun _ _ he => he.dropClaim).ok

theorem Canonical.overrideAct {kind wher first count holder s d} (hd : Canonical d) :
    Canonical (overrideAct kind wher first count holder s d).2 :=
  .ite_snd hd.answerWith (.ite_snd (hd.frame.each fun _ _ he => he.dropClaim).ok (hd.frame.takeFree.each fun _ _ hx =>
      hx.putClaim.showOwner).ok)

theorem Canonical.claimQueryAct {kind wher item d} (hd : Canonical d) : Canonical (claimQueryAct kind wher item d).2 :=
  .ite_snd hd.answerWith hd.ok

theorem Canonical.helloAct {rq lo hi id d} (hd : Canonical d) : Canonical (helloAct rq lo hi id d).2 := by
  unfold Machine.helloAct
  split
  · exact .pair hd
  · exact .ite_snd hd.answerWith (.ite_snd hd.answerWith (.ite_snd hd.closeSession.answerWith hd.closeSession.takeFree.takeFree.frame.ok))

theorem Canonical.byeAct {s d} (hd : Canonical d) : Canonical (byeAct s d).2 := hd.closeSession.ok

theorem Canonical.authAct {slot sigOk key s d} (hd : Canonical d) : Canonical (authAct slot sigOk key s d).2 := by
  unfold Machine.authAct
  exact .ite_snd hd.answerWith (.ite_snd hd.answerWith (.ite_snd (.ite_snd hd.mapSession.mapSession.setBit.ok hd.mapSession.answerWith)
    (.ite_snd hd.mapSession.mapSession.ok hd.mapSession.answerWith)))

theorem Canonical.stateAct {d} (hd : Canonical d) : Canonical (stateAct d).2 := hd.ok
theorem Canonical.loadAct {rq source ports t d} (hd : Canonical d) : Canonical (loadAct rq source ports t d).2 :=
  .ite_snd hd.answerWith (.ite_snd hd.answerWith (.ite_snd hd.answerWith (.ite_snd hd.hwFault hd.loadStart.startLong)))

theorem Canonical.loadDataAct {off data d} (hd : Canonical d) : Canonical (loadDataAct off data d).2 := by
  unfold Machine.loadDataAct
  split
  · exact .ite_snd hd.answerWith (.ite_snd hd.answerWith hd.frame.ok)
  · exact hd.answerWith

theorem Canonical.loadAbortAct {d} (hd : Canonical d) : Canonical (loadAbortAct d).2 := by
  unfold Machine.loadAbortAct
  split
  · exact hd.loadReject.ok
  · exact hd.answerWith

theorem Canonical.loadStatusAct {d} (hd : Canonical d) : Canonical (loadStatusAct d).2 := hd.ok
theorem Canonical.gsrPulseAct {fields d} (hd : Canonical d) : Canonical (gsrPulseAct fields d).2 := (hd.each fun _ _ he => he.gsrPulse).ok
theorem Canonical.dormantAct {d} (hd : Canonical d) : Canonical (dormantAct d).2 :=
  .ite_snd (.pair hd) (.ite_snd hd.answerWith (.ite_snd hd.answerWith (hd.frame.each fun _ _ he => .ite he he.domRequest).ok))
theorem Canonical.wakeAct {d} (hd : Canonical d) : Canonical (wakeAct d).2 := .ite_snd hd.wakeStart.ok hd.answerWith
theorem Canonical.resetAct {kind d} (hd : Canonical d) : Canonical (resetAct kind d).2 := .ite_snd hd.ok hd.answerWith

theorem Canonical.resetAfter {kind d} (hd : Canonical d) : Canonical (resetAfter kind d) := by
  unfold Machine.resetAfter
  split
  · exact hd.deviceReset
  · exact hd.halfReset
  · exact hd.halfReset

theorem Canonical.domainSetAct {n st d} (hd : Canonical d) : Canonical (domainSetAct n st d).2 :=
  .ite_snd hd.answerWith (.ite_snd hd.answerWith (.ite_snd hd.answerWith (.ite_snd hd.domRequest.hwFault hd.domRequest.ok)))
theorem Canonical.releaseAct {d} (hd : Canonical d) : Canonical (releaseAct d).2 :=
  .ite_snd hd.answerWith (hd.haltRelease.frame.each fun _ _ he => he.laneEval).settle.ok
theorem Canonical.halfDown {d} (hd : Canonical d) : Canonical (halfDown d).2 := hd.hwFault

theorem Canonical.setTimeAct {h frac ns sec d} (hd : Canonical d) : Canonical (setTimeAct h frac ns sec d).2 :=
  .ite_snd hd.halfDown (.ite_snd hd.setBit.answerWith (.ite_snd hd.setReg.setReg.setReg.setReg.setTime.ok
      hd.setReg.setReg.setReg.setReg.setTime.answerWith))

theorem Canonical.lrkSetTimeAct {h frac ns sec d} (hd : Canonical d) : Canonical (lrkSetTimeAct h frac ns sec d).2 :=
  .ite_snd hd.answerWith hd.setTimeAct

theorem Canonical.lrkCmdAct {h cmd d} (hd : Canonical d) : Canonical (lrkCmdAct h cmd d).2 :=
  .ite_snd hd.answerWith (.ite_snd hd.halfDown
    (.ite_snd hd.clearLearning.ok (.ite_snd hd.takeLeadership.answerWith hd.takeLeadership.ok)))

theorem Canonical.calWriteRun {h es d} (hd : Canonical d) : Canonical (calWriteRun h es d).2 :=
  (Canonical.pair hd).foldl_snd fun _ _ he => .ite_snd he (.pair he.entryWrite)

theorem Canonical.calWriteAct {h first es s d} (hd : Canonical d) : Canonical (calWriteAct h first es s d).2 := by
  unfold Machine.calWriteAct
  extract_lets _ q
  have hq : Canonical q.2 := hd.calWriteRun
  split
  next r hq1 => exact hd.needClaims hq1
  · exact .ite_snd hd.answerWith (.ite_snd hd.halfDown (.ite_snd hq.answerWith hq.ok))

theorem Canonical.calReadAct {h count first d} (hd : Canonical d) : Canonical (calReadAct h count first d).2 :=
  .ite_snd hd.answerWith (.ite_snd hd.halfDown hd.ok)

theorem Canonical.chSetAct {h c range ctrl s d} (hd : Canonical d) : Canonical (chSetAct h c range ctrl s d).2 := by
  unfold Machine.chSetAct
  split
  next r hq => exact hd.needClaim hq
  · exact .ite_snd hd.answerWith (.ite_snd hd.halfDown (.ite_snd hd.setReg.chanStage.answerWith hd.setReg.chanStage.ok))

theorem Canonical.scrubAct {rq n base limit d} (hd : Canonical d) : Canonical (scrubAct rq n base limit d).2 := by
  unfold Machine.scrubAct
  split
  · refine .ite_snd hd.answerWith (.ite_snd hd.answerWith ?_)
    extract_lets q
    have hq : Canonical q.2 := hd.setFld.setFld.passStart
    split
    · exact hq.startLong
    · exact hq.answerWith
    · exact hq.answerWith
    · exact hq.answerWith
  · exact hd.answerWith

theorem Canonical.trainAct {n action m0 m1 d} (hd : Canonical d) : Canonical (trainAct n action m0 m1 d).2 := by
  unfold Machine.trainAct
  refine .ite_snd hd.answerWith ?_
  extract_lets _ d1
  have hd1 : Canonical d1 := by
    unfold d1
    split
    · exact hd.driftNow
    · exact hd.putBit
    · exact hd.putBit
  exact .ite_snd hd.answerWith hd1.ok

theorem Canonical.markAct {n r dev cmd d} (hd : Canonical d) : Canonical (markAct n r dev cmd d).2 := by
  unfold Machine.markAct
  refine .ite_snd hd.answerWith ?_
  extract_lets d1 q
  have hd1 : Canonical d1 := hd.eccFields
  have hq : Canonical q.2 := by
    unfold q
    split
    · exact hd1.eccMark
    · exact hd1.eccUnmark
    · exact hd1.eccSalvage
    · exact .pair hd1.eccClear
  exact .ite_snd hq.answerWith hq.ok

theorem Canonical.linRangeAct {i base limit rights d} (hd : Canonical d) : Canonical (linRangeAct i base limit rights d).2 :=
  .ite_snd hd.answerWith (.ite_snd hd.setReg.setReg.setReg.setReg.setReg.ok (.ite_snd hd.setReg.ok hd.answerWith))

theorem Canonical.linCmdAct {rq i cmd mode d} (hd : Canonical d) : Canonical (linCmdAct rq i cmd mode d).2 := by
  unfold Machine.linCmdAct
  split
  · refine .ite_snd hd.answerWith ?_
    extract_lets d1 q
    have hd1 : Canonical d1 := hd.linFields
    have hq : Canonical q.2 := by
      unfold q
      split
      · exact hd1.liningOpen
      · exact hd1.liningClose
      · exact hd1.liningRekey
    split
    · exact hq.startLong
    · exact hq.answerWith
    · exact hq.answerWith
    · exact hq.answerWith
  · exact hd.answerWith

theorem Canonical.mendAct {rq f kind target d} (hd : Canonical d) : Canonical (mendAct rq f kind target d).2 := by
  unfold Machine.mendAct
  split
  · exact .ite_snd hd.answerWith (.ite_snd (.pair hd.setFld.mendRequest) hd.setFld.mendRequest.startLong)
  · exact hd.answerWith

theorem Canonical.walkAct {fields walkEn autoMend period d} (hd : Canonical d) : Canonical (walkAct fields walkEn autoMend period d).2 :=
  .ite_snd hd.answerWith (.ite_snd (hd.each fun _ _ he => he.walkCfgWrite).answerWith (hd.each fun _ _ hx => hx.walkCfgWrite).ok)
theorem Canonical.mendStatusAct {f d} (hd : Canonical d) : Canonical (mendStatusAct f d).2 := .ite_snd hd.answerWith hd.ok
theorem Canonical.seamRetrainAct {g d} (hd : Canonical d) : Canonical (seamRetrainAct g d).2 :=
  .ite_snd hd.retrainAll.ok (.ite_snd hd.answerWith hd.retrainSegment.ok)
theorem Canonical.seamMapResetAct {d} (hd : Canonical d) : Canonical (seamMapResetAct d).2 := .ite_snd hd.seamMapReset.ok hd.answerWith
theorem Canonical.bobStatusAct {d} (hd : Canonical d) : Canonical (bobStatusAct d).2 := hd.ok
theorem Canonical.bobCmdAct {cmd d} (hd : Canonical d) : Canonical (bobCmdAct cmd d).2 :=
  .ite_snd hd.answerWith (.ite_snd hd.bobCmd.answerWith hd.bobCmd.ok)
theorem Canonical.logReadAct {first count d} (hd : Canonical d) : Canonical (logReadAct first count d).2 := .ite_snd hd.answerWith hd.ok
theorem Canonical.sensorsAct {d} (hd : Canonical d) : Canonical (sensorsAct d).2 := hd.ok
theorem Canonical.faultIeAct {ws d} (hd : Canonical d) : Canonical (faultIeAct ws d).2 := (hd.each fun _ _ he => he.setReg).ok
theorem Canonical.updateBeginAct {s ty total d} (hd : Canonical d) : Canonical (updateBeginAct s ty total d).2 :=
  .ite_snd hd.answerWith (.ite_snd hd.answerWith hd.frame.ok)

theorem Canonical.updateDataAct {off data d} (hd : Canonical d) : Canonical (updateDataAct off data d).2 := by
  unfold Machine.updateDataAct
  split
  · exact hd.answerWith
  · exact .ite_snd hd.answerWith hd.frame.ok

theorem Canonical.updateEndAct {rq sigOk d} (hd : Canonical d) : Canonical (updateEndAct rq sigOk d).2 := by
  unfold Machine.updateEndAct
  split
  · exact hd.answerWith
  · exact .ite_snd hd.frame.startLong (.ite_snd hd.frame.startLong hd.frame.installRecord.frame.startLong)

theorem Canonical.updateEndAfter {writeOk d} (hd : Canonical d) : Canonical (updateEndAfter writeOk d) := .ite hd.rsWriteNow hd
theorem Canonical.updateConfirmAct {d} (hd : Canonical d) : Canonical (updateConfirmAct d).2 := .ite_snd hd.ok hd.setBank.setFld.ok
theorem Canonical.rsStatusAct {d} (hd : Canonical d) : Canonical (rsStatusAct d).2 := hd.ok
theorem Canonical.pointerSetAct {which ports t auto page d} (hd : Canonical d) : Canonical (pointerSetAct which ports t auto page d).2 :=
  .ite_snd hd.answerWith hd.frame.ok
theorem Canonical.keyEnrollAct {slot digest d} (hd : Canonical d) : Canonical (keyEnrollAct slot digest d).2 :=
  .ite_snd hd.answerWith hd.frame.ok
theorem Canonical.keyRevokeAct {slot d} (hd : Canonical d) : Canonical (keyRevokeAct slot d).2 := .ite_snd hd.answerWith hd.frame.ok
theorem Canonical.patternKeyAct {slot key d} (hd : Canonical d) : Canonical (patternKeyAct slot key d).2 :=
  .ite_snd hd.answerWith hd.frame.ok

theorem Canonical.writeRule {s a v d r} (hd : Canonical d) (h : writeRule s a v d = some r) : Canonical r.2 := by
  unfold Machine.writeRule at h
  split at h
  · exact hd.needClaims h
  · split at h
    · cases h
    · cases h
      exact hd.answerWith
  · split at h
    · cases h
    · cases h
      exact hd.answerWith
  · cases h

theorem Canonical.regReadAct {a count width s d} (hd : Canonical d) : Canonical (regReadAct a count width s d).2 :=
  .ite_snd hd.answerWith ((Canonical.pair hd).foldl_snd fun _ _ he => .ite_snd he (.ite_snd (.pair he.busRead) (.pair he.busRead))).ok

theorem Canonical.writeRules {s as len data d r} (hd : Canonical d) (h : writeRules s as len data d = some r) : Canonical r.2 := by
  obtain ⟨_, _, hp⟩ := List.exists_of_findSome?_eq_some h
  obtain ⟨_, _, hx⟩ := List.exists_of_findSome?_eq_some hp
  exact hd.writeRule hx

theorem Canonical.regWriteAct {a count width data s d} (hd : Canonical d) : Canonical (regWriteAct a count width data s d).2 := by
  unfold Machine.regWriteAct
  extract_lets _ _ q
  have hq : Canonical q.2 := (Canonical.pair hd).foldl_snd fun _ _ he => .ite_snd he (.ite_snd (.pair he.busWrite) (.pair he.busWrite))
  split
  next r hq1 => exact hd.writeRules hq1
  · exact .ite_snd hd.answerWith (.ite_snd (.pair hd) hq.ok)

theorem Canonical.regRmwAct {a mask value s d} (hd : Canonical d) : Canonical (regRmwAct a mask value s d).2 := by
  unfold Machine.regRmwAct
  extract_lets r _ _ q w
  have hr : Canonical r.2 := hd.busRead
  have hq : Canonical q.2 := hr.takeFree
  have hw : Canonical w.2 := hr.busWrite
  split
  next r1 hq1 => exact hd.writeRule hq1
  · exact .ite_snd hq.ok (.ite_snd (.pair hd) hw.ok)

theorem Canonical.engineOff {d} (hd : Canonical d) : Canonical (engineOff d).2 := hd.hwFault

theorem Canonical.queueSetAct {q ctx s d} (hd : Canonical d) : Canonical (queueSetAct q ctx s d).2 := by
  unfold Machine.queueSetAct
  split
  next r hq => exact hd.needClaim hq
  · exact .ite_snd hd.answerWith (.ite_snd hd.engineOff (.ite_snd (hd.setFld.each fun _ _ he => he.setReg).ctxWrite.answerWith
      (hd.setFld.each fun _ _ hx => hx.setReg).ctxWrite.ok))

theorem Canonical.queueGetAct {q d} (hd : Canonical d) : Canonical (queueGetAct q d).2 :=
  .ite_snd hd.answerWith (.ite_snd hd.engineOff hd.setFld.ctxRead.ok)

theorem Canonical.queueCtlAct {q cmd s d} (hd : Canonical d) : Canonical (queueCtlAct q cmd s d).2 := by
  unfold Machine.queueCtlAct
  split
  next r hq => exact hd.needClaim hq
  · exact .ite_snd hd.answerWith (.ite_snd hd.engineOff (.ite_snd hd.setFld.ctxState.answerWith hd.setFld.ctxState.ctxGet.ok))

theorem Canonical.slvStatusAct {s d} (hd : Canonical d) : Canonical (slvStatusAct s d).2 := .ite_snd hd.answerWith hd.ok
theorem Canonical.slvRetrainAct {s d} (hd : Canonical d) : Canonical (slvRetrainAct s d).2 := .ite_snd hd.answerWith hd.slvRetrainCmd.ok
theorem Canonical.slvRouteAct {dev link d} (hd : Canonical d) : Canonical (slvRouteAct dev link d).2 :=
  .ite_snd hd.answerWith hd.setFld.ok

theorem Canonical.slvForwardAct {dev answer d} (hd : Canonical d) : Canonical (slvForwardAct dev answer d).2 := by
  unfold Machine.slvForwardAct
  refine .ite_snd hd.answerWith ?_
  split
  · exact hd.ok
  · exact hd.hwFault

/-! ### Requests as they arrive (Machine/Requests.lean) -/

theorem Canonical.withFree {f d} (hd : Canonical d) (hf : ∀ x0, KeepsSnd (f x0)) : Canonical (withFree f d).2 := hf _ hd.takeFreeBool
theorem Canonical.trainFree {n action d} (hd : Canonical d) : Canonical (trainFree n action d).2 := hd.freeWords.freeWords.trainAct

theorem Canonical.opAct {rq op p s d} (hd : Canonical d) : Canonical (opAct rq op p s d).2 := by
  unfold Machine.opAct
  split
  · exact hd.helloAct
  · exact hd.byeAct
  · exact hd.withFree fun _ _ he => he.authAct
  · exact hd.stateAct
  · exact hd.loadAct
  · exact hd.loadDataAct
  · exact hd.loadAbortAct
  · exact hd.loadStatusAct
  · exact hd.gsrPulseAct
  · exact hd.dormantAct
  · exact hd.wakeAct
  · exact hd.resetAct
  · exact hd.domainSetAct
  · exact hd.releaseAct
  · exact hd.lrkSetTimeAct
  · exact hd.lrkCmdAct
  · exact hd.calWriteAct
  · exact hd.calReadAct
  · exact hd.chSetAct
  · exact hd.scrubAct
  · exact hd.trainFree
  · exact hd.markAct
  · exact hd.linRangeAct
  · exact hd.linCmdAct
  · exact hd.mendAct
  · exact hd.walkAct
  · exact hd.mendStatusAct
  · exact hd.seamRetrainAct
  · exact hd.seamMapResetAct
  · exact hd.bobCmdAct
  · exact hd.bobStatusAct
  · exact hd.logReadAct
  · exact hd.sensorsAct
  · exact hd.faultIeAct
  · exact hd.updateBeginAct
  · exact hd.updateDataAct
  · exact hd.withFree fun _ _ he => he.updateEndAct
  · exact hd.updateConfirmAct
  · exact hd.rsStatusAct
  · exact hd.pointerSetAct
  · exact hd.keyEnrollAct
  · exact hd.keyRevokeAct
  · exact hd.patternKeyAct
  · exact hd.claimAct
  · exact hd.unclaimAct
  · exact hd.overrideAct
  · exact hd.claimQueryAct
  · exact hd.regReadAct
  · exact hd.regWriteAct
  · exact hd.regRmwAct
  · exact hd.queueSetAct
  · exact hd.queueGetAct
  · exact hd.queueCtlAct
  · exact hd.slvStatusAct
  · exact hd.slvRetrainAct
  · exact hd.slvRouteAct
  · exact hd.takeFreeBool.takeFree.freeBytes.slvForwardAct

theorem Canonical.opAfter {op p d} (hd : Canonical d) : Canonical (opAfter op p d) := by
  unfold Machine.opAfter
  split
  · exact hd.resetAfter
  · exact hd.takeFreeBool.updateEndAfter
  · exact hd

/-- By recursion on the depth of SLV_FORWARD inside SLV_FORWARD. -/
theorem Canonical.packetReply : ∀ {fuel c bs d}, Canonical d → Canonical (packetReply fuel c bs d).2
  | fuel, c, bs, d, hd => by
    unfold Machine.packetReply
    extract_lets _ _ _ plain
    have hplain : ∀ st ps, Canonical (plain st ps).2 := fun _ _ => .pair hd
    refine .ite_snd (hplain _ _) (.ite_snd (hplain _ _) (.ite_snd (hplain _ _) (.ite_snd (hplain _ _) ?_)))
    extract_lets
    refine .ite_snd (hplain _ _) ?_
    cases fuel with
    | zero => exact hd.serve fun _ _ he => he.opAct
    | succ k =>
      refine .ite_snd (hd.serve fun _ _ he => ?_) (hd.serve fun _ _ he => he.opAct)
      exact .ite_snd (.pair he) (Canonical.ite he.packetReply.opAfter he.packetReply).ok

theorem Canonical.fetchPacket {c held d} (hd : Canonical d) : Canonical (fetchPacket c held d).2 := by
  unfold Machine.fetchPacket
  refine .ite_snd (.pair hd) ?_
  extract_lets idx at_ next q
  clear_value idx at_
  have hnext : Keeps next := fun _ he => he.setReg
  clear_value next
  have hq : Canonical q.2 := hd.busRead
  clear_value q
  split
  · exact .pair (hnext hq)
  · exact .pair (hnext hd)

theorem Canonical.requestTake {d} (hd : Canonical d) : Canonical (requestTake d) := by
  unfold Machine.requestTake
  refine .ite hd ?_
  split
  · exact hd
  · exact .ite hd (.ite hd.frame.fetchPacket.bobPacket.packetReply.sendReply.opAfter hd.frame.fetchPacket.bobPacket.packetReply.sendReply)

theorem Canonical.noAfter {d} (hd : Canonical d) : Canonical (noAfter d) := hd
theorem Canonical.slvForwardOwn {rq dev inner answer d} (hd : Canonical d) : Canonical (slvForwardOwn rq dev inner answer d).2 :=
  .ite_snd (.ite_snd (.pair hd) (Canonical.ite hd.packetReply.opAfter hd.packetReply).ok) hd.slvForwardAct

/-! ### The tick (Machine/Tick.lean) -/

theorem Canonical.larkEdge {h d} (hd : Canonical d) : Canonical (larkEdge h d) := .ite hd.setLark.chansDecide hd
theorem Canonical.engineEdges {d} (hd : Canonical d) : Canonical (engineEdges d) := (hd.each fun _ _ he => he.fetchIssue).settle
theorem Canonical.tick {d} (hd : Canonical d) : Canonical (tick d) := hd.larkEdge.larkEdge.engineEdges.stilesWake.replayFeed.replayFeed

/-! ### Commands and steps -/

/-- A command's answer leaves the device in canonical form. -/
def CanonicalAnswer (o : Host.Outcome State Fault Refusal) : Prop := ∀ ⦃t⦄, o = .next t → Canonical t.dev

theorem Canonical.lift {s : State} {f} (hs : Canonical s.dev) (hf : Keeps f) : CanonicalAnswer (s.lift f) := by
  rintro _ ⟨⟩
  exact hf hs

theorem Canonical.liftReport {s : State} {f} (hs : Canonical s.dev) (hf : Keeps f) : CanonicalAnswer (s.liftReport f) :=
  hs.lift fun _ hd => hd.oneUpdate hf

theorem Canonical.liftMode {s : State} {f} (hs : Canonical s.dev) (hf : Keeps f) : CanonicalAnswer (s.liftMode f) :=
  hs.liftReport fun _ hd => hd.modeEffects hf

theorem Canonical.plainRequest {rq op p act s} (hs : Canonical s.dev) (ha : KeepsSnd act) : CanonicalAnswer (plainRequest rq op p act s) :=
  hs.liftMode fun _ hd => hd.serveRequest (fun _ => ha) fun _ he => he.noAfter

theorem Canonical.sessionRequest {rq op p act s} (hs : Canonical s.dev) (ha : ∀ x, KeepsSnd (act x)) :
    CanonicalAnswer (sessionRequest rq op p act s) :=
  hs.liftMode fun _ hd => hd.serveRequest ha fun _ he => he.noAfter

theorem Canonical.execTempLost {h s} (hs : Canonical s.dev) : CanonicalAnswer (execTempLost h s) :=
  hs.lift fun _ hd => .ite hd.setBit hd

theorem Canonical.execSpiWritePacket {h bytes s} (hs : Canonical s.dev) : CanonicalAnswer (execSpiWritePacket h bytes s) :=
  hs.lift fun _ hd => .ite hd.portPacket hd

theorem Canonical.execI2cWritePacket {h bytes s} (hs : Canonical s.dev) : CanonicalAnswer (execI2cWritePacket h bytes s) :=
  hs.lift fun _ hd => .ite hd.portPacket hd

theorem Canonical.execChannelStage {h c mc v range s} (hs : Canonical s.dev) : CanonicalAnswer (execChannelStage h c mc v range s) :=
  hs.lift fun _ hd => hd.byThimble fun _ he => by
    split
    · exact he.setReg.chanStage
    · exact he.chanStage

theorem Canonical.execEthTxWrite {m off data s} (hs : Canonical s.dev) : CanonicalAnswer (execEthTxWrite m off data s) :=
  hs.lift fun _ hd => hd.atBlock fun _ he => by
    extract_lets q
    have hq : Canonical q.2 := he.ethTxWrite
    split
    · exact hq.answer
    · exact hq

theorem Canonical.execDoorbellWrite {n mc v s} (hs : Canonical s.dev) : CanonicalAnswer (execDoorbellWrite n mc v s) :=
  hs.lift fun _ hd => hd.atBlock fun _ he => by
    extract_lets q
    have hq : Canonical q.2 := he.doorbellWrite
    split
    · exact hq.answer
    · exact he

/-- Every command keeps the canonical form: each is one operation on the device, lifted. -/
theorem Canonical.exec {i s} (hs : Canonical s.dev) : CanonicalAnswer (exec i s) := by
  cases i with
  | registerWrite => exact hs.liftMode fun _ hd => hd.registerWrite
  | powerOn => exact hs.liftReport fun _ hd => hd.powerOnReset
  | devResetN => exact hs.liftReport fun _ hd => hd.devResetPin
  | pwrOkIn => exact hs.liftReport fun _ hd => hd.pwrOkLow
  | deviceReset => exact hs.liftReport fun _ hd => hd.byThimble fun _ he => he.deviceReset
  | halfResetW | halfResetE => exact hs.liftMode fun _ hd => hd.byThimble fun _ he => he.halfReset
  | resetRelease => exact hs.liftReport fun _ hd => hd.resetRelease
  | thimbleBoot => exact hs.liftReport fun _ hd => hd.thimbleBoot
  | jtagTrst => exact hs.lift fun _ hd => hd.frame
  | thimbleWatchdog => exact hs.liftMode fun _ hd => hd.thimbleWatchdog
  | autoload => exact hs.liftReport fun _ hd => hd.autoload
  | halfRecovery => exact hs.liftMode fun _ hd => hd.halfRecovery
  | fabricCycle => exact hs.lift fun _ hd => hd.fabricEdge
  | gsrPulseWrite => exact hs.lift fun _ hd => hd.gsrPulse
  | gsrPulseEnd => exact hs.lift fun _ hd => hd.gsrPulseEnd
  | hedgeTransfer => exact hs.lift fun _ hd => hd.hedgeTransfer.settle
  | hedgePop => exact hs.lift fun _ hd => hd.hedgePop.settle
  | hedgeCreditReturn => exact hs.lift fun _ hd => hd.hedgeCredit.settle
  | hedgedStall => exact hs.lift fun _ hd => hd.hedgedStall
  | gussetWrite => exact hs.lift fun _ hd => hd.gussetWrite.settle
  | gussetRead => exact hs.lift fun _ hd => hd.gussetRead.settle
  | gussetEntryVisible | gussetEntryFreed => exact hs.lift fun _ hd => hd.gussetMod.settle
  | tickLand => exact hs.lift fun _ hd => hd.tickLand.settle
  | bramPortAccess => exact hs.lift fun _ hd => hd.bramAccess.settle
  | bramScrubStep => exact hs.lift fun _ hd => hd.scrubStep
  | bramScrubWriteback => exact hs.lift fun _ hd => hd.scrubWriteback
  | bramScrubStarved => exact hs.lift fun _ hd => hd.scrubStarved
  | mul | mac | macc | memoryLoad | memoryStore | streamRead | streamWrite | nop | cmac | ext | ext1 | amov | aclr | aadd | asub | casw |
    casr | dstep | dfin | cadd | csub | cconj | cneg | cmulj | cmov | cshr | cshl | pcmp | plog | plast | pmod | ldl | stl | ldi | halt |
    br | loop | loopr | setp | flag =>
    exact hs.lift fun _ hd => hd.issueOp
  | clvStart => exact hs.lift fun _ hd => hd.askStart
  | clvStop => exact hs.lift fun _ hd => hd.askStop.clvGap
  | clvResume => exact hs.lift fun _ hd => hd.askResume.clvGap
  | clvClear => exact hs.lift fun _ hd => hd.askClear.clvGap
  | fabricStart => exact hs.lift fun _ hd => hd.fabricStart
  | fabricStop => exact hs.lift fun _ hd => hd.fabricStop
  | heldRequestsApply => exact hs.lift fun _ hd => hd.heldApply
  | notifyWrite => exact hs.liftMode fun _ hd => hd.notifyWrite
  | clvNetworkAccess | programStoreWrite => exact hs.lift fun _ hd => hd.clvAccess
  | clvNetworkStarvation => exact hs.lift fun _ hd => hd.clvStarved
  | streamClkWrite => exact hs.lift fun _ hd => .ite hd.setEngine.answer.clvGap.settle hd.answer
  | stateWindowAccess => exact hs.lift fun _ hd => hd.windowAccess
  | columnClockChange => exact hs.liftReport fun _ hd => hd.columnClock
  | columnOverspeed => exact hs.lift fun _ hd => hd.columnOverspeed
  | clockStretch => exact hs.lift fun _ hd => hd.clockStretch
  | stretchMax => exact hs.lift fun _ hd => hd.stretchMax
  | readRequest => exact hs.liftMode fun _ hd => hd.readRequest
  | writeRequest => exact hs.liftMode fun _ hd => hd.writeRequest
  | readResponse | writeResponse => exact hs.lift fun _ hd => hd.response
  | knotForward => exact hs.lift fun _ hd => hd.knotForward
  | agePromotion => exact hs.lift fun _ hd => hd.agePromotion
  | requestTimeout => exact hs.lift fun _ hd => hd.sourceTimeout
  | stileRequest => exact hs.lift fun _ hd => hd.stileRequest
  | stileInbound => exact hs.lift fun _ hd => hd.stileInbound
  | stileInboundAnswer => exact hs.lift fun _ hd => hd.stileAnswer
  | stileCtrlApply => exact hs.lift fun _ hd => hd.stileApply
  | halfLossDetect => exact hs.lift fun _ hd => hd.halfLossDetect
  | halfDownSweep => exact hs.lift fun _ hd => hd.halfDownSweep
  | timeFracRead => exact hs.lift fun _ hd => hd.timeFracRead
  | setTime => exact hs.lift fun _ hd => hd.setTime
  | setTimeApply => exact hs.lift fun _ hd => hd.setTimeApply
  | takeLeadership => exact hs.lift fun _ hd => hd.takeLeadership
  | leadershipSwap => exact hs.liftReport fun _ hd => hd.leadershipSwap
  | clearLearning => exact hs.lift fun _ hd => hd.clearLearning
  | gridCfgWrite => exact hs.lift fun _ hd => hd.gridCfgWrite
  | gridConfigApply => exact hs.lift fun _ hd => hd.gridConfigApply
  | ppsEdge => exact hs.liftReport fun _ hd => hd.ppsEdge
  | gnssSentence => exact hs.liftReport fun _ hd => hd.gnssSentence
  | ptpSync => exact hs.lift fun _ hd => hd.ptpSync
  | phaseSample => exact hs.liftReport fun _ hd => hd.each fun _ _ he => he.phaseOne
  | refQualified => exact hs.liftReport fun _ hd => hd.refQualified
  | refDisqualified => exact hs.liftReport fun _ hd => hd.each fun _ _ he => he.disqualify
  | refConfigWrite => exact hs.liftReport fun _ hd => hd.refConfigWrite
  | revertiveSwitch => exact hs.liftReport fun _ hd => hd.revertiveSwitch
  | learnBin => exact hs.lift fun _ hd => hd.learnBin
  | modelFit => exact hs.lift fun _ hd => hd.modelFit
  | learnHour => exact hs.lift fun _ hd => hd.learnHour
  | holdoverPredict => exact hs.liftReport fun _ hd => hd.holdPredict
  | modelSave => exact hs.lift fun _ hd => hd.modelSave
  | tempRead => exact hs.lift fun _ hd => hd.sensorRead
  | tempLost => exact hs.execTempLost
  | timeExchange => exact hs.liftReport fun _ hd => hd.timeExchange
  | threadTimeWord => exact hs.lift fun _ hd => hd.threadWord
  | captureEdge => exact hs.lift fun _ hd => hd.captureEdge
  | capturePop => exact hs.lift fun _ hd => hd.capturePop
  | calendarWrite => exact hs.lift fun _ hd => hd.byThimble fun _ he => he.calWrite
  | calendarRead => exact hs.lift fun _ hd => hd.byThimble fun _ he => he.calRead
  | calendarClearValid => exact hs.lift fun _ hd => hd.byThimble fun _ he => he.calClearValid
  | occurrenceDeliver => exact hs.lift fun _ hd => hd.occDeliver
  | calTick => exact hs.lift fun _ hd => hd.calAct fun _ _ he => he.tickSend
  | calCloverStart => exact hs.lift fun _ hd => hd.calClover fun _ _ he => he.askStart
  | calCloverStop => exact hs.lift fun _ hd => hd.calClover fun _ _ he => he.askStop
  | calCloverResume => exact hs.lift fun _ hd => hd.calClover fun _ _ he => he.askResume
  | calShuttleKick => exact hs.liftReport fun _ hd => hd.calAct fun _ _ he => he.calKick
  | calPinDriveLow | calPinDriveHigh | calPinToggle | calPinPulse => exact hs.lift fun _ hd => hd.calPin
  | pinPulseEnd => exact hs.lift fun _ hd => hd.pulseEnd
  | calLaneExitIdle | calLaneEnterIdle => exact hs.lift fun _ hd => hd.calLane
  | calSysref => exact hs.lift fun _ hd => hd.calAct fun _ _ he => he.sysref
  | calBobbinMarker => exact hs.lift fun _ hd => hd.calAct fun _ _ he => he.bobRecord
  | calBobbinTrigger => exact hs.lift fun _ hd => hd.calAct fun _ _ he => he.bobTrigger
  | calWake => exact hs.liftMode fun _ hd => hd.calWake
  | channelStage => exact hs.execChannelStage
  | channelCommit => exact hs.lift fun _ hd => hd.chanCommit
  | handOverPoint => exact hs.lift fun _ hd => hd.handOverPoint
  | pllEnable => exact hs.lift fun _ hd => hd.pllCtrlWrite
  | pllInputLoss => exact hs.liftReport fun _ hd => hd.pllInputLoss
  | pllSwitchComplete => exact hs.liftReport fun _ hd => hd.pllSwitchComplete
  | pllInputGood => exact hs.lift fun _ hd => hd.pllInputGood
  | forceFallback => exact hs.lift fun _ hd => hd.forceFallback
  | pllFracChange => exact hs.lift fun _ hd => hd.setReg
  | pllDead => exact hs.liftReport fun _ hd => hd.pllDead
  | halfClockLoss => exact hs.liftMode fun _ hd => hd.halfClockLoss
  | domainClockRelease => exact hs.liftMode fun _ hd => hd.domainClockRelease
  | rclkSwitch => exact hs.liftReport fun _ hd => hd.rclkWrite
  | rclkSwitchDone => exact hs.lift fun _ hd => hd.rclkSwitchDone
  | rclkDivChange => exact hs.lift fun _ hd => hd.rclkDivChange
  | seamLoss => exact hs.lift fun _ hd => hd.seamWatch fun _ he => he.seamLoss
  | halfLost => exact hs.liftMode fun _ hd => hd.halfLost
  | seamTrain => exact hs.lift fun _ hd => hd.seamWatch fun _ he => he.seamTrain
  | seamParityThreshold => exact hs.lift fun _ hd => hd.seamWatch fun _ he => he.parityThreshold
  | seamFlitThreshold => exact hs.lift fun _ hd => hd.seamWatch fun _ he => he.flitThreshold
  | seamSlip => exact hs.lift fun _ hd => hd.seamWatch fun _ he => he.seamSlip
  | seamContention => exact hs.lift fun _ hd => hd.seamWatch fun _ he => he.seamContention
  | qualifierReturn => exact hs.lift fun _ hd => hd.seamWatch fun _ he => he.qualifierReturn
  | remapRelease => exact hs.lift fun _ hd => hd.seamWatch fun _ he => he.remapRelease
  | retrainSegment => exact hs.lift fun _ hd => hd.seamWatch fun _ he => he.retrainSegment
  | retrainAll => exact hs.lift fun _ hd => hd.seamWatch fun _ he => he.retrainAll
  | armRelease => exact hs.lift fun _ hd => hd.armRelease
  | seamRelease => exact hs.liftMode fun _ hd => hd.seamRelease
  | laneEnable => exact hs.lift fun _ hd => hd.atBlock fun _ he => he.laneCtrlCmd
  | enterIdle | exitIdle => exact hs.lift fun _ hd => hd.atBlock fun _ he => he.idleCmd
  | idleReq => exact hs.lift fun _ hd => hd.idleReq
  | txBurstDone => exact hs.lift fun _ hd => hd.burstDone
  | rxBurst => exact hs.lift fun _ hd => hd.rxBurst
  | burstTimeout => exact hs.lift fun _ hd => hd.burstTimeout
  | laneLossOfLock => exact hs.lift fun _ hd => hd.lossOfLock
  | refLoss => exact hs.lift fun _ hd => hd.refLoss
  | refRecover => exact hs.lift fun _ hd => hd.refRecover
  | adaptConverged => exact hs.lift fun _ hd => hd.adaptConverged
  | adaptRestart => exact hs.lift fun _ hd => hd.atBlock fun _ he => he.adaptRestart
  | prbsInject => exact hs.lift fun _ hd => hd.atBlock fun _ he => he.prbsInject
  | prbsClear => exact hs.lift fun _ hd => hd.atBlock fun _ he => he.prbsClear
  | prbsErrRead => exact hs.lift fun _ hd => hd.atBlock fun _ he => he.prbsErrRead.answer
  | prbsSync => exact hs.lift fun _ hd => hd.prbsSync
  | prbsSyncLost => exact hs.lift fun _ hd => hd.prbsLost
  | eyeStart => exact hs.lift fun _ hd => hd.atBlock fun _ he => he.eyeStart
  | eyeDone => exact hs.lift fun _ hd => hd.eyeDone
  | rawTxWord => exact hs.lift fun _ hd => hd.rawTx
  | rawRxWord => exact hs.lift fun _ hd => hd.rawRx
  | rxSlip => exact hs.lift fun _ hd => hd.rxSlip
  | ethBlockEnable => exact hs.lift fun _ hd => hd.ethBlkWrite
  | ethRxFrame => exact hs.lift fun _ hd => hd.ethRx
  | ethFrameDeliver => exact hs.liftMode fun _ hd => hd.ethDeliver
  | ethRecordWrite => exact hs.liftMode fun _ hd => hd.ethRecord
  | ethTxWrite => exact hs.execEthTxWrite
  | ethTxFrame => exact hs.lift fun _ hd => hd.ethTx
  | ethTxtsPop => exact hs.lift fun _ hd => hd.atBlock fun _ he => he.ethTxtsRead.answer
  | hostBar2Access => exact hs.liftMode fun _ hd => hd.bar2Access
  | hostOutRequest => exact hs.liftMode fun _ hd => hd.hostOut
  | reqProdWrite => exact hs.lift fun _ hd => hd.reqProd
  | makeActive => exact hs.lift fun _ hd => hd.makeActive
  | hostPortFailover => exact hs.lift fun _ hd => hd.hostFailover
  | loopbackRefused => exact hs.lift fun _ hd => hd.loopback
  | jesdEnable => exact hs.liftReport fun _ hd => hd.jsdCtrlWrite
  | jesdArm => exact hs.lift fun _ hd => hd.atBlock fun _ he => he.jesdArm
  | jesdRxWrite => exact hs.liftMode fun _ hd => hd.jesdRx
  | jesdTxWrite => exact hs.lift fun _ hd => hd.atBlock fun _ he => he.jesdTxWrite.answer
  | jesdRestart => exact hs.lift fun _ hd => hd.jesdRestart
  | mchEnable => exact hs.liftReport fun _ hd => hd.atBlock fun _ he => he.mchCfgWrite
  | channelTraining => exact hs.lift fun _ hd => hd.chanTraining
  | mchRead => exact hs.liftReport fun _ hd => hd.mchRead
  | mchWrite => exact hs.liftReport fun _ hd => hd.mchWrite
  | mchSchedule => exact hs.liftReport fun _ hd => hd.mchSchedule
  | mchPromotion => exact hs.lift fun _ hd => hd.mchPromotion
  | refreshDebt => exact hs.lift fun _ hd => hd.refreshDebt
  | rankTempRead => exact hs.lift fun _ hd => hd.rankTemp
  | driftPause => exact hs.lift fun _ hd => .ite hd hd.driftPause
  | driftPauseNow => exact hs.lift fun _ hd => hd.atBlock fun _ he => he.driftNow
  | selfRefreshEntry => exact hs.liftReport fun _ hd => hd.srEnter
  | selfRefreshExit => exact hs.liftReport fun _ hd => hd.srExit
  | dramMapWrite => exact hs.lift fun _ hd => hd.dramMapWrite
  | dlyWrite => exact hs.lift fun _ hd => hd.atBlock fun _ he => he.dlyWrite
  | eccMark => exact hs.lift fun _ hd => hd.atBlock fun _ he => he.eccFields.eccMark
  | eccUnmark => exact hs.lift fun _ hd => hd.atBlock fun _ he => he.eccFields.eccUnmark
  | eccSalvage => exact hs.lift fun _ hd => hd.atBlock fun _ he => he.setFld.eccSalvage
  | salvageDone => exact hs.lift fun _ hd => hd.salvageDone
  | eccClearPersistent => exact hs.lift fun _ hd => hd.atBlock fun _ he => he.setFld.eccClear
  | patrolScrub => exact hs.liftReport fun _ hd => hd.patrolScrub
  | scrubPassStart => exact hs.lift fun _ hd => hd.atBlock fun _ he => he.passStart
  | scrubPassLine => exact hs.liftReport fun _ hd => hd.passLine
  | scrubPassStop => exact hs.lift fun _ hd => hd.atBlock fun _ he => he.passStop
  | mchInjectArm => exact hs.lift fun _ hd => hd.atBlock fun _ he => he.injectArm
  | rptIdxWrite => exact hs.lift fun _ hd => hd.atBlock fun _ he => he.rptIdxWrite
  | liningOpen => exact hs.lift fun _ hd => hd.linFields.liningOpen
  | liningClose => exact hs.lift fun _ hd => hd.linFields.liningClose
  | liningRekey => exact hs.lift fun _ hd => hd.setFld.liningRekey
  | sweepLine => exact hs.liftReport fun _ hd => hd.sweepLine
  | mirrorRetry => exact hs.liftReport fun _ hd => hd.mirrorRetry
  | doorbellWrite => exact hs.execDoorbellWrite
  | doorbellProducer | doorbellConsumer | doorbellKick => exact hs.liftReport fun _ hd => hd.bellApply
  | contextFetch => exact hs.liftReport fun _ hd => .ite hd.ctxGet hd
  | descriptorFetch => exact hs.liftMode fun _ hd => hd.descriptorFetch
  | dataTransfer => exact hs.liftMode fun _ hd => hd.dataTransfer
  | readback => exact hs.liftReport fun _ hd => hd.readBack
  | completionRecord => exact hs.liftMode fun _ hd => hd.completionRecord
  | recordAnswer => exact hs.liftReport fun _ hd => hd.recordAnswer
  | irqIdle => exact hs.lift fun _ hd => hd.irqIdle
  | shadowStage => exact hs.lift fun _ hd => hd.atBlock fun _ he => he.shadowStage
  | shadowCommit => exact hs.lift fun _ hd => hd.shadowCommit
  | queueContextWrite | queueContextRead | queueStop | queueResume =>
    exact hs.liftReport fun _ hd => hd.atBlock fun _ he => he.byThimble fun _ hx => hx.qCmd
  | pinInputChange => exact hs.liftMode fun _ hd => hd.pinInput.settle
  | gpioInRead => exact hs.lift fun _ hd => hd.gpioInRead
  | pinMuxWrite => exact hs.lift fun _ hd => hd.byThimble fun _ he => he.pinCfgWrite
  | pinSwitchDone => exact hs.lift fun _ hd => hd.pinSwitchDone
  | trackTimeout => exact hs.lift fun _ hd => hd.trackTimeout
  | vccioLow => exact hs.liftMode fun _ hd => hd.vccioLow
  | loadSourceRead => exact hs.liftMode fun _ hd => hd.loadRead
  | loadVerify => exact hs.liftMode fun _ hd => hd.loadVerify
  | loadRelease => exact hs.liftReport fun _ hd => hd.seamWatch fun _ he => he.loadRelease
  | partialRelease => exact hs.liftReport fun _ hd => hd.seamWatch fun _ he => he.partialRelease
  | darningFrame => exact hs.lift fun _ hd => hd.darnFrame
  | frameRewrite => exact hs.lift fun _ hd => hd.frameRewrite
  | recordStoreWrite => exact hs.liftMode fun _ hd => hd.recordWrite
  | mendColumn | mendBram | mendClover => exact hs.lift fun _ hd => hd.mendCommand
  | mendStart => exact hs.liftReport fun _ hd => hd.mendStart
  | mendComplete => exact hs.liftReport fun _ hd => hd.mendComplete
  | autoMendTrigger => exact hs.lift fun _ hd => hd.autoMend
  | walkStep => exact hs.lift fun _ hd => hd.walkStep
  | walkTestDone => exact hs.lift fun _ hd => hd.walkTestDone
  | faultReport => exact hs.lift fun _ hd => hd.fault
  | logEngineTake => exact hs.lift fun _ hd => hd.logTake
  | logEntryClose => exact hs.lift fun _ hd => hd.logClose
  | faultIrqWindow => exact hs.lift fun _ hd => hd.irqWindow
  | logIdxWrite => exact hs.lift fun _ hd => hd.logIdxWrite
  | bobbinArm => exact hs.lift fun _ hd => hd.byThimble fun _ he => he.bobArm
  | bobbinTrigger => exact hs.lift fun _ hd => hd.byThimble fun _ he => he.bobTrigger
  | bobbinStop => exact hs.lift fun _ hd => hd.byThimble fun _ he => he.bobStop
  | startReplay => exact hs.liftReport fun _ hd => hd.byThimble fun _ he => he.bobReplay
  | bobbinFreeze => exact hs.lift fun _ hd => hd.freezeDone
  | ringWrite => exact hs.liftReport fun _ hd => hd.ringWrite
  | gapWrite => exact hs.lift fun _ hd => hd.gapWrite
  | journalEvent => exact hs.lift fun _ hd => hd.journal
  | ratioMeasure => exact hs.lift fun _ hd => hd.ratio
  | replayGate => exact hs.lift fun _ hd => hd.replayGate
  | replayEnd => exact hs.lift fun _ hd => hd.replayEnd
  | spiWritePacket => exact hs.execSpiWritePacket
  | spiReadReply | i2cReadReply => exact hs.liftMode fun _ hd => .ite hd.portRead hd
  | spiStatus => exact hs.lift fun _ hd => hd.spiStatus
  | i2cWritePacket => exact hs.execI2cWritePacket
  | cmdpktUpdate => exact hs.lift fun _ hd => hd.cmdpktUpdate
  | cmdpktCapture => exact hs.liftMode fun _ hd => hd.cmdpktCapture
  | nrReqProdWrite => exact hs.lift fun _ hd => .ite hd.reqProd.answer hd.answer
  | requestTake => exact hs.liftMode fun _ hd => hd.requestTake
  | longCompletion => exact hs.liftMode fun _ hd => hd.longCompletion
  | sessionTimeout => exact hs.lift fun _ hd => hd.closeSession
  | hello => exact hs.plainRequest fun _ hd => hd.helloAct
  | bye => exact hs.sessionRequest fun _ _ hd => hd.byeAct
  | auth => exact hs.sessionRequest fun _ _ hd => hd.authAct
  | state => exact hs.plainRequest fun _ hd => hd.stateAct
  | load => exact hs.plainRequest fun _ hd => hd.loadAct
  | loadData => exact hs.plainRequest fun _ hd => hd.loadDataAct
  | loadAbort => exact hs.plainRequest fun _ hd => hd.loadAbortAct
  | loadStatus => exact hs.plainRequest fun _ hd => hd.loadStatusAct
  | gsrPulse => exact hs.plainRequest fun _ hd => hd.gsrPulseAct
  | dormant => exact hs.plainRequest fun _ hd => hd.dormantAct
  | wake => exact hs.plainRequest fun _ hd => hd.wakeAct
  | reset => exact hs.liftMode fun _ hd => hd.serveRequest (fun _ _ he => he.resetAct) fun _ hx => hx.resetAfter
  | domainSet => exact hs.plainRequest fun _ hd => hd.domainSetAct
  | release => exact hs.plainRequest fun _ hd => hd.releaseAct
  | lrkSetTime => exact hs.plainRequest fun _ hd => hd.lrkSetTimeAct
  | lrkCmd => exact hs.plainRequest fun _ hd => hd.lrkCmdAct
  | calWrite => exact hs.sessionRequest fun _ _ hd => hd.calWriteAct
  | calRead => exact hs.plainRequest fun _ hd => hd.calReadAct
  | chSet => exact hs.sessionRequest fun _ _ hd => hd.chSetAct
  | scrub => exact hs.plainRequest fun _ hd => hd.scrubAct
  | train => exact hs.plainRequest fun _ hd => hd.trainAct
  | mark => exact hs.plainRequest fun _ hd => hd.markAct
  | linRange => exact hs.plainRequest fun _ hd => hd.linRangeAct
  | linCmd => exact hs.plainRequest fun _ hd => hd.linCmdAct
  | mend => exact hs.plainRequest fun _ hd => hd.mendAct
  | walk => exact hs.plainRequest fun _ hd => hd.walkAct
  | mendStatus => exact hs.plainRequest fun _ hd => hd.mendStatusAct
  | seamRetrain => exact hs.plainRequest fun _ hd => hd.seamRetrainAct
  | seamMapReset => exact hs.plainRequest fun _ hd => hd.seamMapResetAct
  | bobCmd => exact hs.plainRequest fun _ hd => hd.bobCmdAct
  | bobStatus => exact hs.plainRequest fun _ hd => hd.bobStatusAct
  | logRead => exact hs.plainRequest fun _ hd => hd.logReadAct
  | sensors => exact hs.plainRequest fun _ hd => hd.sensorsAct
  | faultIe => exact hs.plainRequest fun _ hd => hd.faultIeAct
  | updateBegin => exact hs.sessionRequest fun _ _ hd => hd.updateBeginAct
  | updateData => exact hs.plainRequest fun _ hd => hd.updateDataAct
  | updateEnd => exact hs.liftMode fun _ hd => hd.serveRequest (fun _ _ he => he.updateEndAct) fun _ hx => hx.updateEndAfter
  | updateConfirm => exact hs.plainRequest fun _ hd => hd.updateConfirmAct
  | rsStatus => exact hs.plainRequest fun _ hd => hd.rsStatusAct
  | pointerSet => exact hs.plainRequest fun _ hd => hd.pointerSetAct
  | keyEnroll => exact hs.plainRequest fun _ hd => hd.keyEnrollAct
  | keyRevoke => exact hs.plainRequest fun _ hd => hd.keyRevokeAct
  | patternKey => exact hs.plainRequest fun _ hd => hd.patternKeyAct
  | claim => exact hs.sessionRequest fun _ _ hd => hd.claimAct
  | unclaim => exact hs.sessionRequest fun _ _ hd => hd.unclaimAct
  | override => exact hs.sessionRequest fun _ _ hd => hd.overrideAct
  | claimQuery => exact hs.plainRequest fun _ hd => hd.claimQueryAct
  | regRead => exact hs.sessionRequest fun _ _ hd => hd.regReadAct
  | regWrite => exact hs.sessionRequest fun _ _ hd => hd.regWriteAct
  | regRmw => exact hs.sessionRequest fun _ _ hd => hd.regRmwAct
  | queueSet => exact hs.sessionRequest fun _ _ hd => hd.queueSetAct
  | queueGet => exact hs.plainRequest fun _ hd => hd.queueGetAct
  | queueCtl => exact hs.sessionRequest fun _ _ hd => hd.queueCtlAct
  | slvStatus => exact hs.plainRequest fun _ hd => hd.slvStatusAct
  | slvRetrain => exact hs.plainRequest fun _ hd => hd.slvRetrainAct
  | slvRoute => exact hs.plainRequest fun _ hd => hd.slvRouteAct
  | slvForward => exact hs.plainRequest fun _ hd => hd.slvForwardOwn
  | domainStateRequest => exact hs.lift fun _ hd => hd.domStateRequest
  | domainTransitionDone => exact hs.liftMode fun _ hd => hd.transitionDone
  | avsStep => exact hs.lift fun _ hd => hd.avsStep
  | undervoltage | overcurrent => exact hs.lift fun _ hd => hd.setBit.raiseInt
  | tempConvert => exact hs.lift fun _ hd => hd.tempConvert
  | thermalTrip => exact hs.lift fun _ hd => hd.thermalTrip
  | tripHwReset => exact hs.liftReport fun _ hd => .ite hd.deviceReset hd
  | supplyValid => exact hs.liftReport fun _ hd => hd.supplyValid
  | supplyLoss => exact hs.liftMode fun _ hd => hd.supplyLoss
  | linkEnable => exact hs.liftReport fun _ hd => hd.slvCtrlWrite
  | linkTrainingDone => exact hs.lift fun _ hd => hd.slvTrained
  | linkNegotiate => exact hs.lift fun _ hd => hd.slvNegotiate
  | negotiationTimeout => exact hs.lift fun _ hd => hd.slvNoReply
  | linkRetry => exact hs.lift fun _ hd => hd.slvRetry
  | linkRetrain => exact hs.lift fun _ hd => hd.byThimble fun _ he => he.slvRetrainCmd
  | selvedgeTimeMessage => exact hs.lift fun _ hd => hd.slvTime
  | selvedgePacket => exact hs.lift fun _ hd => hd.slvArrive
  | linkLeavesUp => exact hs.liftReport fun _ hd => hd.slvLost
  | routeWrite => exact hs.lift fun _ hd => hd.byThimble fun _ he => he.setReg
  | rxSquelch => exact hs.lift fun _ hd => hd.rxSquelch
  | ordinaryAcquisition => exact hs.lift fun _ hd => hd.rxLock
  | pinLevelInterrupt => exact hs.liftMode fun _ hd => hd.pinLevelInterrupt
  | ethLinkChange => exact hs.lift fun _ hd => hd.ethLinkChange
  | hostLinkChange => exact hs.lift fun _ hd => hd.hostLinkChange
  | jesdTxOctet => exact hs.lift fun _ hd => hd.jesdTxOctet
  | jesdSyncChange => exact hs.lift fun _ hd => hd.jesdSync
  | seamTimePairLoss => exact hs.liftReport fun _ hd => hd.timePairLoss
  | rspConsWrite => exact hs.liftMode fun _ hd => hd.rspCons

/-- So does a step: the front command on the state with the queue's rest, or a tick of the clock. -/
theorem Canonical.step {s} (hs : Canonical s.dev) : CanonicalAnswer (step s) := by
  unfold Machine.step
  split
  · exact Canonical.exec hs
  · exact hs.lift fun _ hd => hd.tick

/-- Settles O4: the canonical form is an invariant, operation by operation. -/
theorem canonicalKept : Obligations.CanonicalKept := by
  intro s t hs ht
  exact (Canonical.step ⟨hs⟩ ht).holds

end Sys2Proof.Machine
end

section
/-!
The laws of sparse tables that a command of the fabric needs beside those of Laws/Tab.lean: what a table holds and reads after many
writes, after keys are forgotten, and after its values are changed in place.
-/
namespace Sys2Proof.Machine

variable {α : Type} [DecidableEq α] (df : Nat → α)

omit [DecidableEq α] in
/-- A read gives the value of an unlisted key, or of an entry of the table. -/
theorem tabGet_default_or_mem (t : Tab α) (k : Nat) : tabGet df t k = df k ∨ (k, tabGet df t k) ∈ t := by
  induction t with
  | nil => exact .inl rfl
  | cons p t ih =>
    obtain ⟨j, v⟩ := p
    by_cases h : j = k
    · subst h
      simp [tabGet]
    · simpa [tabGet, h, Ne.symm h] using ih

/-- A write adds no entry but its own. -/
theorem mem_tabSet {t : Tab α} {k : Nat} {v : α} {x : Nat × α} (h : x ∈ tabSet df t k v) : x = (k, v) ∨ x ∈ t := by
  induction t with
  | nil =>
    simp only [tabSet] at h
    split at h
    · cases h
    · exact .inl (List.mem_singleton.mp h)
  | cons p t ih =>
    obtain ⟨j, w⟩ := p
    simp only [tabSet] at h
    split_ifs at h with hlt hd hj hd
    · exact .inr h
    · exact List.mem_cons.mp h
    · exact .inr (List.mem_cons_of_mem _ h)
    · exact (List.mem_cons.mp h).imp_right (List.mem_cons_of_mem _)
    · exact (List.mem_cons.mp h).elim (fun hx => .inr (hx ▸ List.mem_cons_self)) fun h => (ih h).imp_right (List.mem_cons_of_mem _)

omit [DecidableEq α] in
/-- A forgotten key reads as an unlisted one. -/
theorem tabGet_tabDrop_of_dropped (p : Nat → Bool) (t : Tab α) {k : Nat} (h : p k = true) : tabGet df (tabDrop p t) k = df k := by
  rcases tabGet_default_or_mem df (tabDrop p t) k with hk | hk
  · exact hk
  · simp [tabDrop, h] at hk

/-- An entry of a table whose values were changed in place comes from an entry at the same key. -/
theorem mem_tabMap {t : Tab α} {g : Nat → α → α} {x : Nat × α} (h : x ∈ tabMap df t g) : ∃ v, (x.1, v) ∈ t ∧ x.2 = g x.1 v := by
  obtain ⟨⟨k, v⟩, hkv, hx⟩ := List.mem_filterMap.mp h
  simp only [Option.ite_none_left_eq_some, Option.some.injEq] at hx
  obtain ⟨-, rfl⟩ := hx
  exact ⟨v, hkv, rfl⟩

/-- Many writes keep the canonical form. -/
theorem tabWf_foldl_tabSet (xs : List (Nat × α)) {t : Tab α} (hw : tabWf df t = true) :
    tabWf df (xs.foldl (fun t x => tabSet df t x.1 x.2) t) = true :=
  List.foldlRecOn (motive := fun t => tabWf df t = true) xs _ hw fun _ h x _ => tabWf_tabSet df _ x.1 x.2 h

/-- After many writes, of which those at key `k` all write `v`, that key reads `v` where there is one, and what it read before where there
is none. -/
theorem tabGet_foldl_tabSet {k : Nat} {v : α} (xs : List (Nat × α)) (t : Tab α) (hw : tabWf df t = true)
    (hv : ∀ x ∈ xs, x.1 = k → x.2 = v) :
    tabGet df (xs.foldl (fun t x => tabSet df t x.1 x.2) t) k = if k ∈ xs.map Prod.fst then v else tabGet df t k := by
  induction xs generalizing t with
  | nil => rfl
  | cons x xs ih =>
    obtain ⟨j, w⟩ := x
    rw [List.foldl_cons, ih _ (tabWf_tabSet df t j w hw) fun y hy => hv y (List.mem_cons_of_mem _ hy)]
    by_cases hj : j = k
    · have hw' : w = v := hv (j, w) List.mem_cons_self hj
      simp [hj, hw', tabGet_tabSet_same df t k v hw]
    · simp only [tabGet_tabSet_ne df t j k w (Ne.symm hj) hw, List.map_cons, List.mem_cons, Ne.symm hj, false_or]

end Sys2Proof.Machine
end

section
/-!
What one edge of a regional clock leaves (Machine/FabricEdge.lean). `FabKept p d e` says that device `e` has part `p` of the fabric's state
of `d`; each operation of the edge has a lemma `FabKept.op`, so that `h.op₁.op₂` reads as the run of the operations. The operations on
lanes, seams, block memories and engines keep every part; one that writes the fabric takes the proof that `p` does not look there.
-/
namespace Sys2Proof.Machine

/-- Device `e` has part `p` of the fabric of device `d`, and the memory channels, the host and the Larks of `d`. -/
structure FabKept {α : Type} (p : FabState → α) (d e : Device) : Prop where
  fab : p e.fab = p d.fab
  mem : e.mem = d.mem
  host : e.host = d.host
  time : e.time = d.time

section
variable {α : Type} {p : FabState → α} {d e : Device}

theorem FabKept.refl (p : FabState → α) (d : Device) : FabKept p d d := ⟨rfl, rfl, rfl, rfl⟩

theorem FabKept.ite {c : Prop} [Decidable c] {x : Device} (h : FabKept p d e) (hx : FabKept p d x) : FabKept p d (if c then e else x) := by
  split <;> assumption

theorem FabKept.each {β : Type} {xs : List β} {f : Device → β → Device} (h : FabKept p d e)
    (hf : ∀ x a, FabKept p d x → FabKept p d (f x a)) : FabKept p d (e.each xs f) :=
  List.foldlRecOn xs f h fun x hx a _ => hf x a hx

theorem FabKept.when {c : Bool} {f : Device → Device} (h : FabKept p d e) (hf : ∀ x, FabKept p d x → FabKept p d (f x)) :
    FabKept p d (e.when c f) := .ite (hf e h) h

/-! ### Operations outside the fabric -/

theorem FabKept.setReg {a v} (h : FabKept p d e) : FabKept p d (e.setReg a v) := ⟨h.fab, h.mem, h.host, h.time⟩
theorem FabKept.putBit {a k b} (h : FabKept p d e) : FabKept p d (e.putBit a k b) := h.setReg
theorem FabKept.setBit {a k} (h : FabKept p d e) : FabKept p d (e.setBit a k) := h.putBit
theorem FabKept.setLane {l x} (h : FabKept p d e) : FabKept p d (e.setLane l x) := ⟨h.fab, h.mem, h.host, h.time⟩
theorem FabKept.setSegment {g x} (h : FabKept p d e) : FabKept p d (e.setSegment g x) := ⟨h.fab, h.mem, h.host, h.time⟩
theorem FabKept.setEngine {n x} (h : FabKept p d e) : FabKept p d (e.setEngine n x) := ⟨h.fab, h.mem, h.host, h.time⟩
theorem FabKept.setBram {b} (h : FabKept p d e) : FabKept p d { e with bram := b } := ⟨h.fab, h.mem, h.host, h.time⟩
theorem FabKept.setClk {c} (h : FabKept p d e) : FabKept p d { e with clk := c } := ⟨h.fab, h.mem, h.host, h.time⟩

/-! ### Clocks, seams and lanes -/

theorem FabKept.rclkEdge {f r} (h : FabKept p d e) : FabKept p d (rclkEdge f r e) := .ite (.ite h.setClk.setClk h.setClk) h
theorem FabKept.doneFall {f r} (h : FabKept p d e) : FabKept p d (doneFall f r e) := ⟨h.fab, h.mem, h.host, h.time⟩
theorem FabKept.seamLaunch {d0 g east} (h : FabKept p d e) : FabKept p d (seamLaunch d0 g east e) :=
  .ite h (.ite h.setSegment.setSegment h.setSegment)
theorem FabKept.seamEdges {f r d0} (h : FabKept p d e) : FabKept p d (seamEdges f r d0 e) :=
  .ite (h.each fun _ _ hx => .ite hx.seamLaunch hx) h
theorem FabKept.laneEval {l} (h : FabKept p d e) : FabKept p d (laneEval l e) :=
  .ite h.putBit.putBit.setLane (.ite h.putBit.putBit.setLane h.putBit.putBit)
theorem FabKept.idleReq {l level} (h : FabKept p d e) : FabKept p d (idleReq l level e) :=
  .ite h.setLane.laneEval (.ite h.setLane.setBit h.setLane)
theorem FabKept.rxSlip {l} (h : FabKept p d e) : FabKept p d (rxSlip l e) := .ite h h.setLane
theorem FabKept.lanePort {d0 f m} (h : FabKept p d e) : FabKept p d (lanePort d0 f m e) :=
  .ite (h.setLane.when fun _ hx => hx.rxSlip).idleReq (h.setLane.when fun _ hx => hx.rxSlip)
theorem FabKept.laneEdges {d0 f r} (h : FabKept p d e) : FabKept p d (laneEdges d0 f r e) :=
  .ite (h.each fun _ _ hx => .ite (FabKept.ite hx.setLane hx).lanePort hx) h

/-! ### Block memories -/

theorem FabKept.bramFlag {base n} (h : FabKept p d e) : FabKept p d (bramFlag base n e) := h.setBit
theorem FabKept.setPort {n i o} (h : FabKept p d e) : FabKept p d (setPort n i o e) := h.setBram
theorem FabKept.writeWord {n w a m v} (h : FabKept p d e) : FabKept p d (writeWord n w a m v e) := h.setBram

theorem FabKept.cancelWback {n row} (h : FabKept p d e) : FabKept p d (cancelWback n row e) := by
  unfold Machine.cancelWback
  split
  · exact .ite h.setBram h
  · exact h

theorem FabKept.sdpAccess {n c a b} (h : FabKept p d e) : FabKept p d (sdpAccess n c a b e) := by
  unfold Machine.sdpAccess
  extract_lets d1
  have hd1 : FabKept p d d1 := by
    unfold d1
    split
    · extract_lets _ _ _ _ d2 d3
      have hd2 : FabKept p d d2 := .ite h h.setPort
      have hd3 : FabKept p d d3 := .ite hd2.bramFlag hd2
      exact .ite (.ite hd3.bramFlag hd3) hd2
    · exact h
  split
  · exact .ite (FabKept.ite hd1.writeWord hd1.writeWord).cancelWback hd1
  · exact hd1

theorem FabKept.tdpAccess {n c a b} (h : FabKept p d e) : FabKept p d (tdpAccess n c a b e) := by
  unfold Machine.tdpAccess
  extract_lets _ _ _ _ _ _ out d1 put d2 _ d3 d4
  have hout {q i w rdw sr wx x} (hx : FabKept p d x) : FabKept p d (out q i w rdw sr wx x) := by
    unfold out
    split
    · exact .ite hx hx.setPort
    · exact hx
  have hput {x w y} (hy : FabKept p d y) : FabKept p d (put x w y) := by
    unfold put
    split
    · exact hy.writeWord.cancelWback
    · exact hy
  have hd3 : FabKept p d d3 := .ite (hput (hput (hout (hout h)))).setBram (hput (hput (hout (hout h))))
  exact .ite hd3.bramFlag.setBram hd3

theorem FabKept.bramEdge {n c a b} (h : FabKept p d e) : FabKept p d (bramEdge n c a b e) := .ite h.sdpAccess h.tdpAccess

theorem FabKept.bramEdges {f r d0} (h : FabKept p d e) : FabKept p d (bramEdges f r d0 e) := by
  refine .ite h (h.each fun _ _ hx => ?_)
  split
  · exact .ite hx hx.bramEdge
  · exact hx

/-! ### Engines -/

theorem FabKept.streamPush {k n offer} (h : FabKept p d e) : FabKept p d (streamPush k n offer e) := by
  unfold Machine.streamPush
  split
  · exact .ite h h.setEngine
  · exact h

theorem FabKept.streamPop {k n asks} (h : FabKept p d e) : FabKept p d (streamPop k n asks e) := .ite h.setEngine h
theorem FabKept.request {k now hold} (h : FabKept p d e) : FabKept p d (request k now hold e) := .ite h h.setEngine
theorem FabKept.fabricStarts {k} (h : FabKept p d e) : FabKept p d (fabricStarts k e) := .ite h.request h
theorem FabKept.ctlSinks {d0 k} (h : FabKept p d e) : FabKept p d (ctlSinks d0 k e) :=
  (h.setEngine.when fun _ hx => hx.request).when fun _ hx => hx.fabricStarts
theorem FabKept.cloverEdge {r d0 k} (h : FabKept p d e) : FabKept p d (cloverEdge r d0 k e) :=
  .ite ((h.each fun _ _ hx => hx.streamPush).each fun _ _ hx => hx.streamPop).ctlSinks
    ((h.each fun _ _ hx => hx.streamPush).each fun _ _ hx => hx.streamPop)
theorem FabKept.cloverEdges {f r d0} (h : FabKept p d e) : FabKept p d (cloverEdges f r d0 e) := h.each fun _ _ hx => hx.cloverEdge

/-! ### The fabric's own state -/

theorem FabKept.setFab {x : FabState} (h : FabKept p d e) (hx : p x = p e.fab) : FabKept p d (e.setFab x) :=
  ⟨hx.trans h.fab, h.mem, h.host, h.time⟩

theorem FabKept.fabricRegs {f r d0} (h : FabKept p d e)
    (hp : ∀ (x : FabState) w y z, p { x with gsrWait := w, ffs := y, hops := z } = p x) : FabKept p d (fabricRegs f r d0 e) :=
  .ite h (.ite (h.setFab (hp e.fab _ e.fab.ffs e.fab.hops)) (h.setFab (hp ..)))

theorem FabKept.tickFall {f r} (h : FabKept p d e) (hp : ∀ (x : FabState) y, p { x with tickHigh := y } = p x) :
    FabKept p d (tickFall f r e) := h.setFab (hp ..)

theorem FabKept.setHedge {k c} (h : FabKept p d e) (hp : ∀ (x : FabState) y, p { x with hedges := y } = p x) :
    FabKept p d (e.setHedge k c) := h.setFab (hp ..)

theorem FabKept.hedgeEdges {f r d0} (h : FabKept p d e) (hp : ∀ (x : FabState) y, p { x with hedges := y } = p x) :
    FabKept p d (hedgeEdges f r d0 e) :=
  .ite h (h.each fun _ _ hx => .ite hx (.ite (hx.setHedge hp) (.ite (hx.setHedge hp) hx)))

theorem FabKept.setGusset {k g} (h : FabKept p d e) (hp : ∀ (x : FabState) y, p { x with gussets := y } = p x) :
    FabKept p d (e.setGusset k g) := h.setFab (hp ..)

theorem FabKept.gussetPush {f n offer} (h : FabKept p d e) (hp : ∀ (x : FabState) y, p { x with gussets := y } = p x) :
    FabKept p d (gussetPush f n offer e) := by
  unfold Machine.gussetPush
  extract_lets
  split
  · exact .ite h.setBit (h.setGusset hp)
  · exact h

theorem FabKept.gussetPop {f n asks} (h : FabKept p d e) (hp : ∀ (x : FabState) y, p { x with gussets := y } = p x) :
    FabKept p d (gussetPop f n asks e) := .ite h (.ite h.setBit (h.setGusset hp))

theorem FabKept.gussetEdges {f r d0} (h : FabKept p d e) (hp : ∀ (x : FabState) y, p { x with gussets := y } = p x) :
    FabKept p d (gussetEdges f r d0 e) := by
  refine h.each fun x kv hx => ?_
  extract_lets
  split
  · exact .ite hx (.ite (.gussetPush (.ite (hx.gussetPop hp) hx) hp) (.ite (hx.gussetPop hp) hx))
  · exact hx

theorem FabKept.settle (h : FabKept p d e) (hp : ∀ (x : FabState) y, p { x with ffs := y } = p x) : FabKept p d e.settle := by
  rw [settle_eq]
  exact h.setFab (hp ..)

end

/-! ### The edge, part by part -/

/-- The edge of a clock that runs. -/
theorem fabricEdge_eq {f r : Nat} {d : Device} (h : d.rclkRuns f r = true) :
    fabricEdge f r d = (cloverEdges f r d (bramEdges f r d (gussetEdges f r d (hedgeEdges f r d (laneEdges d f r (seamEdges f r d
      (doneFall f r (tickFall f r (fabricRegs f r d (rclkEdge f r d)))))))))).settle := by
  simp only [fabricEdge, h]
  rfl

section
variable {f r : Nat} {d : Device} (h : d.rclkRuns f r = true)
include h

/-- An edge leaves the tiles, the memory channels, the host and the Larks. -/
theorem fabricEdge_keeps_tiles : FabKept FabState.tiles d (fabricEdge f r d) := by
  rw [fabricEdge_eq h]
  exact .settle (.cloverEdges (.bramEdges (.gussetEdges (.hedgeEdges (.laneEdges (.seamEdges (.doneFall (.tickFall (.fabricRegs (.rclkEdge
    (.refl _ d)) fun _ _ _ _ => rfl) fun _ _ => rfl)))) fun _ _ => rfl) fun _ _ => rfl))) fun _ _ => rfl

/-- Before their own part of the edge the hedged channels stand as before it. -/
theorem fabricEdge_hedges : ∃ e, FabKept FabState.hedges d e ∧ (fabricEdge f r d).fab.hedges = (hedgeEdges f r d e).fab.hedges := by
  refine ⟨_, ?_, (congrArg (·.fab.hedges) (fabricEdge_eq h)).trans (FabKept.fab (.settle (.cloverEdges (.bramEdges (.gussetEdges
    (.refl FabState.hedges _) fun _ _ => rfl))) fun _ _ => rfl))⟩
  exact .laneEdges (.seamEdges (.doneFall (.tickFall (.fabricRegs (.rclkEdge (.refl _ d)) fun _ _ _ _ => rfl) fun _ _ => rfl)))

/-- Before their own part of the edge the gussets stand as before it. -/
theorem fabricEdge_gussets : ∃ e, FabKept FabState.gussets d e ∧ (fabricEdge f r d).fab.gussets = (gussetEdges f r d e).fab.gussets := by
  refine ⟨_, ?_, (congrArg (·.fab.gussets) (fabricEdge_eq h)).trans (FabKept.fab (.settle (.cloverEdges (.bramEdges
    (.refl FabState.gussets _))) fun _ _ => rfl))⟩
  exact .hedgeEdges (.laneEdges (.seamEdges (.doneFall (.tickFall (.fabricRegs (.rclkEdge (.refl _ d)) fun _ _ _ _ => rfl)
    fun _ _ => rfl)))) fun _ _ => rfl

/-- Flip-flops take their own part of the edge, and then what asynchronous set and reset make of them. -/
theorem fabricEdge_flops :
    ∃ e, FabKept (fun x => (x.tiles, x.ffs)) (fabricRegs f r d (rclkEdge f r d)) e ∧ fabricEdge f r d = e.settle := by
  refine ⟨_, ?_, fabricEdge_eq h⟩
  exact .cloverEdges (.bramEdges (.gussetEdges (.hedgeEdges (.laneEdges (.seamEdges (.doneFall (.tickFall (.refl _ _)
    fun _ _ => rfl)))) fun _ _ => rfl) fun _ _ => rfl))

end

end Sys2Proof.Machine
end

section
/-!
The credits of hedged channels over the fabric's commands (02_fabric R58, R59). The commands that move a word or a credit do so on one
channel at a time, which Laws/Hedges.lean follows; the others leave the hedged channels as they are.
-/
namespace Sys2Proof.Machine

section
variable {α : Type} {p : FabState → α} {d e : Device}

/-! ### The fabric's other commands -/

theorem FabKept.setBobHalf {h' b} (h : FabKept p d e) : FabKept p d (e.setBobHalf h' b) := by
  cases h' <;> exact ⟨h.fab, h.mem, h.host, h.time⟩

theorem FabKept.bobRecord {h' r} (h : FabKept p d e) : FabKept p d (e.bobRecord h' r) :=
  .ite h (.ite h.setBobHalf h.setBobHalf)

theorem FabKept.bobGap {h' c} (h : FabKept p d e) : FabKept p d (e.bobGap h' c) :=
  .ite h (.ite h.setBobHalf h.setBobHalf.setReg.bobRecord)

theorem FabKept.gsrField {f} (h : FabKept p d e) (hp : ∀ (x : FabState) y z w, p { x with ffs := y, hops := z, gussets := w } = p x) :
    FabKept p d (e.gsrField f) := ⟨(hp e.fab _ _ _).trans h.fab, h.mem, h.host, h.time⟩

theorem FabKept.hedgesFlush {f} (h : FabKept p d e) (hp : ∀ (x : FabState) y, p { x with hedges := y } = p x) :
    FabKept p d (e.hedgesFlush f) := h.setFab (hp ..)

theorem FabKept.gsrRelease {f} (h : FabKept p d e) (hp : ∀ (x : FabState) y z, p { x with pulse := y, gsrWait := z } = p x) :
    FabKept p d (e.gsrRelease f) := h.setFab (hp ..)

theorem FabKept.gsrPulseEnd {f} (h : FabKept p d e) (hp : ∀ (x : FabState) y z, p { x with pulse := y, gsrWait := z } = p x) :
    FabKept p d (gsrPulseEnd f e) := .ite (h.gsrRelease hp) h

theorem FabKept.hedgedStall {k} (h : FabKept p d e) (hp : ∀ (x : FabState) y, p { x with stalled := y } = p x) :
    FabKept p d (hedgedStall k e) := .ite (h.setFab (hp ..)) h

theorem FabKept.gussetWrite {g w} (h : FabKept p d e) (hp : ∀ (x : FabState) y, p { x with gussets := y } = p x) :
    FabKept p d (gussetWrite g w e) := by
  cases g with
  | fabric f n =>
    simp only [Machine.gussetWrite]
    split
    · exact .ite (h.gussetPush hp) h
    · exact h
  | stream k n => exact .ite h.streamPush h

theorem FabKept.gussetRead {g} (h : FabKept p d e) (hp : ∀ (x : FabState) y, p { x with gussets := y } = p x) :
    FabKept p d (gussetRead g e) := by
  cases g with
  | fabric f n =>
    simp only [Machine.gussetRead]
    split
    · exact .ite (h.gussetPop hp) h
    · exact h
  | stream k n => exact .ite h.streamPop h

theorem FabKept.gussetMod {g f} (h : FabKept p d e) (hp : ∀ (x : FabState) y, p { x with gussets := y } = p x) :
    FabKept p d (gussetMod g f e) := by
  cases g with
  | fabric => exact h.setGusset hp
  | stream => exact h.setEngine

theorem FabKept.takeFree (h : FabKept p d e) : FabKept p d e.takeFree.2 := ⟨h.fab, h.mem, h.host, h.time⟩

theorem FabKept.tickPulse {f t m} (h : FabKept p d e) (hp : ∀ (x : FabState) y z, p { x with ticks := y, tickHigh := z } = p x) :
    FabKept p d (tickPulse f t m e) := by
  unfold Machine.tickPulse
  extract_lets k high d₁ _ d₂
  have h₁ : FabKept p d d₁ := .ite h.setBit h
  have h₂ : FabKept p d d₂ := h₁.setFab (hp d₁.fab _ d₁.fab.tickHigh)
  exact .ite h₂ (h₂.setFab (hp d₂.fab d₂.fab.ticks _))

theorem FabKept.tickLand {f t} (h : FabKept p d e) (hp : ∀ (x : FabState) y z, p { x with ticks := y, tickHigh := z } = p x) :
    FabKept p d (tickLand f t e) :=
  .ite h (.ite (h.setFab (hp e.fab _ e.fab.tickHigh)) (.ite (h.tickPulse hp) (h.takeFree.tickPulse hp)))

theorem FabKept.gusset (h : FabKept FabState.gussets d e) (k : Nat) : e.gusset k = d.gusset k :=
  congrArg (tabGet gussetReset · k) h.fab

end

/-! ### The device each command leaves -/

section
variable (s : State)

theorem gives_fabricCycle (f r) : gives (.fabricCycle f r) s (fabricEdge f.val r.val s.dev) := rfl
theorem gives_gsrPulseWrite (f) : gives (.gsrPulseWrite f) s (gsrPulse f.val s.dev) := rfl
theorem gives_gsrPulseEnd (f) : gives (.gsrPulseEnd f) s (gsrPulseEnd f.val s.dev) := rfl
theorem gives_hedgeTransfer (c w) : gives (.hedgeTransfer c w) s (hedgeTransfer (crossingKey c) w s.dev).settle := rfl
theorem gives_hedgePop (c) : gives (.hedgePop c) s (hedgePop (crossingKey c) s.dev).settle := rfl
theorem gives_hedgeCreditReturn (c) : gives (.hedgeCreditReturn c) s (hedgeCredit (crossingKey c) s.dev).settle := rfl
theorem gives_hedgedStall (c) : gives (.hedgedStall c) s (hedgedStall (crossingKey c) s.dev) := rfl
theorem gives_gussetWrite (g w) : gives (.gussetWrite g w) s (gussetWrite g w s.dev).settle := rfl
theorem gives_gussetRead (g) : gives (.gussetRead g) s (gussetRead g s.dev).settle := rfl
theorem gives_gussetEntryVisible (g) : gives (.gussetEntryVisible g) s (gussetMod g Gusset.show s.dev).settle := rfl
theorem gives_gussetEntryFreed (g) : gives (.gussetEntryFreed g) s (gussetMod g Gusset.release s.dev).settle := rfl
theorem gives_tickLand (f t) : gives (.tickLand f t) s (tickLand f.val t.val s.dev).settle := rfl

end

/-! ### The channels' credits -/

section
variable {d e : Device}

/-- Every key reads a channel with its four credits, listed in the table or not. -/
theorem Device.hedgesOk.hedge_held (h : d.hedgesOk) (k : Nat) : (d.hedge k).held = 4 := by
  rcases tabGet_default_or_mem hedgeReset d.fab.hedges k with hk | hk
  · rw [Device.hedge, hk, hedgeReset_held]
  · exact h _ hk

theorem Device.hedgesOk.of_kept (h : d.hedgesOk) (hk : FabKept FabState.hedges d e) : e.hedgesOk := by
  unfold Device.hedgesOk
  rw [hk.fab]
  exact h

theorem Device.hedgesOk.ite {c : Prop} [Decidable c] (h : d.hedgesOk) (he : e.hedgesOk) : (if c then d else e).hedgesOk := by
  split <;> assumption

/-- Writing a channel that has its four credits. -/
theorem Device.hedgesOk.setHedge {k : Nat} {c : HedgeChan} (h : d.hedgesOk) (hc : c.held = 4) : (d.setHedge k c).hedgesOk := by
  intro kv hkv
  rcases mem_tabSet hedgeReset hkv with rfl | hkv
  · exact hc
  · exact h kv hkv

theorem Device.hedgesOk.hedgeTransfer {k w} (h : d.hedgesOk) : (hedgeTransfer k w d).hedgesOk := by
  unfold Machine.hedgeTransfer
  split
  · exact h.setHedge (by simp [h.hedge_held k])
  · exact h

theorem Device.hedgesOk.hedgePop {k} (h : d.hedgesOk) : (hedgePop k d).hedgesOk := by
  have hk := h.hedge_held k
  unfold Machine.hedgePop
  split
  · split
    · refine h.setHedge ?_
      rw [hedgeAdvance_held]
      split
      · rw [hedgeDrop_held, hk]
      · exact hk
    · exact h
  · exact h

/-- A credit that reaches the sender was on its way. -/
theorem Device.hedgesOk.hedgeCredit {k} (h : d.hedgesOk) : (hedgeCredit k d).hedgesOk := by
  unfold Machine.hedgeCredit
  extract_lets c _
  have hk : c.held = 4 := h.hedge_held k
  split
  case isTrue hpos =>
    refine Device.hedgesOk.of_kept (d := d.setHedge k { c with credits := c.credits + 1, returning := c.returning - 1 })
      (h.setHedge ?_) (.setFab (.refl _ _) rfl)
    simp only [HedgeChan.held] at hk ⊢
    omega
  case isFalse => exact h

/-- A pulse of global set/reset sends the credits of the words it drops on their way back. -/
theorem Device.hedgesOk.hedgesFlush {f} (h : d.hedgesOk) : (d.hedgesFlush f).hedgesOk := by
  intro kv hkv
  simp only [Device.hedgesFlush, Device.setFab] at hkv
  obtain ⟨c, hc, hkv'⟩ := mem_tabMap hedgeReset hkv
  have hc4 : c.held = 4 := h _ hc
  rw [hkv']
  split
  · rw [← hc4]
    simp only [HedgeChan.held, List.length_nil]
    omega
  · exact hc4

theorem Device.hedgesOk.gsrPulse {f} (h : d.hedgesOk) : (gsrPulse f d).hedgesOk := by
  refine .ite h (.ite (h.of_kept (.setBit (.refl _ d))) (.ite h ?_))
  extract_lets e₁ e₂
  have h₁ : FabKept FabState.hedges d e₁ := by
    unfold e₁
    split
    · exact .bobGap (.refl _ d)
    · exact .refl _ d
  exact (h.of_kept (h₁.gsrField (f := f) fun _ _ _ _ => rfl)).hedgesFlush (f := f)

theorem Device.hedgesOk.hedgeEdges {f r d0} (h : d.hedgesOk) : (hedgeEdges f r d0 d).hedgesOk := by
  unfold Machine.hedgeEdges
  split
  · exact h
  · refine List.foldlRecOn (motive := Device.hedgesOk) _ _ h fun e he k _ => ?_
    extract_lets send recv c
    have hk := he.hedge_held k
    have hc : c.held = 4 := by
      unfold c
      split
      · rw [hedgeDrop_held, hk]
      · exact hk
    split_ifs
    · exact he
    · exact he.setHedge (by rw [hedgeTake_held, hk])
    · exact he.setHedge hc
    · exact he.setHedge (by rw [hedgeAdvance_held, hc])
    · exact he

theorem Device.hedgesOk.fabricEdge {f r} (h : d.hedgesOk) : (fabricEdge f r d).hedgesOk := by
  by_cases hr : d.rclkRuns f r = true
  · obtain ⟨e, he, ht⟩ := fabricEdge_hedges hr
    unfold Device.hedgesOk
    rw [ht]
    exact (h.of_kept he).hedgeEdges
  · simpa [Machine.fabricEdge, hr] using h

theorem Device.hedgesOk.settle (h : d.hedgesOk) : d.settle.hedgesOk := h.of_kept (.settle (.refl _ _) fun _ _ => rfl)

/-- A command keeps the credits where the device it leaves has them. -/
theorem hedgesOk_of_gives {i : Instr} {s t : State} (hg : gives i s d) (h : d.hedgesOk) (ht : exec i s = .next t) : t.dev.hedgesOk := by
  cases hg.symm.trans ht
  exact h

end

/-- Settles O8: command by command. -/
theorem hedgeCreditsKept : Obligations.HedgeCreditsKept := by
  intro s t i h hi ht
  cases i with
  | fabricCycle => exact hedgesOk_of_gives (gives_fabricCycle ..) h.fabricEdge ht
  | gsrPulseWrite => exact hedgesOk_of_gives (gives_gsrPulseWrite ..) h.gsrPulse ht
  | gsrPulseEnd => exact hedgesOk_of_gives (gives_gsrPulseEnd ..) (h.of_kept (.gsrPulseEnd (.refl _ _) fun _ _ _ => rfl)) ht
  | hedgeTransfer => exact hedgesOk_of_gives (gives_hedgeTransfer ..) h.hedgeTransfer.settle ht
  | hedgePop => exact hedgesOk_of_gives (gives_hedgePop ..) h.hedgePop.settle ht
  | hedgeCreditReturn => exact hedgesOk_of_gives (gives_hedgeCreditReturn ..) h.hedgeCredit.settle ht
  | hedgedStall => exact hedgesOk_of_gives (gives_hedgedStall ..) (h.of_kept (.hedgedStall (.refl _ _) fun _ _ => rfl)) ht
  | gussetWrite => exact hedgesOk_of_gives (gives_gussetWrite ..) (h.of_kept (.gussetWrite (.refl _ _) fun _ _ => rfl)).settle ht
  | gussetRead => exact hedgesOk_of_gives (gives_gussetRead ..) (h.of_kept (.gussetRead (.refl _ _) fun _ _ => rfl)).settle ht
  | gussetEntryVisible => exact hedgesOk_of_gives (gives_gussetEntryVisible ..) (h.of_kept (.gussetMod (.refl _ _) fun _ _ => rfl)).settle ht
  | gussetEntryFreed => exact hedgesOk_of_gives (gives_gussetEntryFreed ..) (h.of_kept (.gussetMod (.refl _ _) fun _ _ => rfl)).settle ht
  | tickLand => exact hedgesOk_of_gives (gives_tickLand ..) (h.of_kept (.tickLand (.refl _ _) fun _ _ _ => rfl)).settle ht
  | _ => cases hi

end Sys2Proof.Machine
end

section
/-!
A flip-flop over an edge of its clock (02_fabric R43): the edge writes the keys of the clock's flip-flops, and the settling that follows
those of asynchronous flip-flops only. Where no two flip-flops share a key, a synchronous one keeps what the edge gave it.
-/
namespace Sys2Proof.Machine

/-- A flip-flop of a field as `Device.flopsOf` lists it: key, tile, tile configuration, cell, which, configuration. -/
abbrev Flop : Type := Nat × Nat × TileCfg × Nat × Bool × FfCfg

/-- Key `k` is none of an asynchronous flip-flop's. -/
def Device.noAsyncAt (d : Device) (k : Nat) : Prop := ∀ y ∈ (upto 32).flatMap d.flopsOf, y.2.2.2.2.2.async = true → y.1 ≠ k

section
variable {d e : Device} {k : Nat}

theorem flopsOf_congr (h : e.fab.tiles = d.fab.tiles) : e.flopsOf = d.flopsOf := by
  funext f
  simp only [Device.flopsOf, Device.tilesOf, h]

theorem Device.noAsyncAt.congr (hk : d.noAsyncAt k) (h : e.fab.tiles = d.fab.tiles) : e.noAsyncAt k := by
  unfold Device.noAsyncAt
  rw [flopsOf_congr h]
  exact hk

/-- The key of a synchronous flip-flop, where no two flip-flops share one. -/
theorem noAsyncAt_of_sync {x : Flop} (hu : (((upto 32).flatMap d.flopsOf).map (fun y => y.1)).Nodup)
    (hx : x ∈ (upto 32).flatMap d.flopsOf) (hs : x.2.2.2.2.2.async = false) : d.noAsyncAt x.1 := by
  intro y hy hya hk
  rw [List.inj_on_of_nodup_map hu hy hx hk, hs] at hya
  cases hya

/-! ### Settling -/

theorem asyncOnce_wf (hw : tabWf boolFalse d.fab.ffs = true) : tabWf boolFalse (asyncOnce d).fab.ffs = true :=
  tabWf_foldl_tabSet boolFalse _ hw

/-- A round of the asynchronous cases leaves every other key. -/
theorem asyncOnce_ffs (hw : tabWf boolFalse d.fab.ffs = true) (hk : d.noAsyncAt k) :
    tabGet boolFalse (asyncOnce d).fab.ffs k = tabGet boolFalse d.fab.ffs k := by
  refine (tabGet_foldl_tabSet boolFalse (v := tabGet boolFalse d.fab.ffs k) _ d.fab.ffs hw ?_).trans (ite_self _)
  rintro ⟨j, v⟩ hx rfl
  obtain ⟨f, hf, hx⟩ := List.mem_flatMap.mp hx
  split at hx
  · obtain ⟨y, hy, hyx⟩ := List.mem_filterMap.mp hx
    simp only [Option.ite_none_right_eq_some, Bool.and_eq_true, Option.some.injEq, Prod.mk.injEq] at hyx
    obtain ⟨⟨⟨hya, -⟩, -⟩, hyk, -⟩ := hyx
    exact absurd hyk (hk y (List.mem_flatMap.mpr ⟨f, hf, hy⟩) hya)
  · cases hx

theorem asyncLoop_ffs (n : Nat) (hw : tabWf boolFalse d.fab.ffs = true) (hk : d.noAsyncAt k) :
    tabGet boolFalse (asyncLoop d n).fab.ffs k = tabGet boolFalse d.fab.ffs k := by
  induction n generalizing d with
  | zero => rfl
  | succ n ih =>
    simp only [asyncLoop]
    split
    · rfl
    · rw [ih (asyncOnce_wf hw) (hk.congr rfl), asyncOnce_ffs hw hk]

theorem settle_ffs (hw : tabWf boolFalse d.fab.ffs = true) (hk : d.noAsyncAt k) :
    tabGet boolFalse d.settle.fab.ffs k = tabGet boolFalse d.fab.ffs k := asyncLoop_ffs _ hw hk

/-! ### The registers' part of the edge -/

section
variable {d0 : Device} {f r : Nat}

theorem fabricRegs_wf (hw : tabWf boolFalse d.fab.ffs = true) : tabWf boolFalse (fabricRegs f r d0 d).fab.ffs = true := by
  unfold fabricRegs
  extract_lets
  split_ifs
  · exact hw
  · exact hw
  · exact tabWf_foldl_tabSet boolFalse _ hw

/-- Past global set/reset and the first edge after it, a flip-flop of the clock takes its next value. -/
theorem fabricRegs_ffs {x : Flop} (hw : tabWf boolFalse d.fab.ffs = true) (hg : d0.gsrOn f = false)
    (h1 : tabGet natZero d0.fab.gsrWait (12 * f + r) ≤ 1) (hu : ((d0.flopsOf f).map (fun y => y.1)).Nodup) (hx : x ∈ d0.flopsOf f)
    (hr : flopClk x.2.2.1 x.2.2.2.2.2 = r) : tabGet boolFalse (fabricRegs f r d0 d).fab.ffs x.1 = flopNext d0 x := by
  simp only [fabricRegs, hg, Nat.not_lt.mpr h1, Bool.false_eq_true, if_false]
  refine (tabGet_foldl_tabSet boolFalse (v := flopNext d0 x) _ d.fab.ffs hw ?_).trans (if_pos ?_)
  · intro z hz hzx
    obtain ⟨y, hy, hyz⟩ := List.mem_filterMap.mp hz
    simp only [Option.ite_none_right_eq_some, Option.some.injEq] at hyz
    obtain ⟨-, rfl⟩ := hyz
    rw [List.inj_on_of_nodup_map hu hy hx hzx]
  · exact List.mem_map.mpr ⟨_, List.mem_filterMap.mpr ⟨x, hx, if_pos hr⟩, rfl⟩

end

end

/-- Settles O5: the edge gives the flip-flop its next value, and nothing that follows in the edge writes it. -/
theorem flopEdge : Obligations.FlopEdge := by
  intro s f r x hrun hg h1 hw hu hx hs hr
  have hx' : x ∈ (upto 32).flatMap s.dev.flopsOf := List.mem_flatMap.mpr ⟨f.val, List.mem_range.mpr f.isLt, hx⟩
  have huf : ((s.dev.flopsOf f.val).map (fun y => y.1)).Nodup :=
    hu.sublist ((List.sublist_flatten_of_mem (List.mem_map_of_mem (List.mem_range.mpr f.isLt))).map _)
  have ha : FabKept id s.dev (rclkEdge f.val r.val s.dev) := .rclkEdge (.refl _ _)
  have hwa : tabWf boolFalse (rclkEdge f.val r.val s.dev).fab.ffs = true := (congrArg (fun x => tabWf boolFalse x.ffs) ha.fab).trans hw
  have ht : (fabricRegs f.val r.val s.dev (rclkEdge f.val r.val s.dev)).fab.tiles = s.dev.fab.tiles :=
    (FabKept.fabricRegs (p := FabState.tiles) (.rclkEdge (.refl _ _)) fun _ _ _ _ => rfl).fab
  obtain ⟨e, he, hedge⟩ := fabricEdge_flops hrun
  obtain ⟨htiles, hffs⟩ := Prod.mk.inj he.fab
  refine ⟨_, gives_fabricCycle s f r, ?_⟩
  calc tabGet boolFalse (fabricEdge f.val r.val s.dev).fab.ffs x.1
    _ = tabGet boolFalse e.fab.ffs x.1 := by
      rw [hedge]
      exact settle_ffs (hffs ▸ fabricRegs_wf hwa) ((noAsyncAt_of_sync hu hx' hs).congr (htiles.trans ht))
    _ = flopNext s.dev x := by rw [hffs, fabricRegs_ffs hwa hg h1 huf hx hr]

end Sys2Proof.Machine
end

section
/-!
What the fabric's commands do to one gusset or hedged channel, to a field under global set/reset, and to a tick line, case by case
(02_fabric R44, R45, R58 to R65), and the statements about them.
-/
namespace Sys2Proof.Machine

section
variable {s : State} {d : Device}

theorem gives_of_eq {i : Instr} {e : Device} (h : gives i s d) (he : d = e) : gives i s e := he ▸ h

/-! ### A register's bit -/

theorem Device.bit_setBit_same {a k : Nat} (hk : k < 32) (hw : tabWf regDefault d.regs = true) : (d.setBit a k).bit a k = true := by
  simp [Device.bit, Device.setBit, Device.putBit, Device.fld_setFld_same d a k 1 _ (by omega) hw, b2n]

theorem Device.reg_setBit_ne {a b k : Nat} (hb : b ≠ a) (hw : tabWf regDefault d.regs = true) : (d.setBit a k).reg b = d.reg b :=
  d.reg_setReg_ne a b _ hb hw

/-! ### Gussets (R63, R64) -/

section
variable {f : Fin 32} {n : Fin 64} {c : GussetCfg} {v w : BitVec 72}

theorem gussetWrite_fabric (hc : tabGet noGusCfg d.fab.gusCfg (64 * f.val + n.val) = some c) (hr : d.rclkRuns f.val c.wrClk.val = true) :
    gussetWrite (.fabric f n) w d = gussetPush f.val n.val (gussetOffer d f.val n.val w) d := by
  simp [gussetWrite, hc, hr]

theorem gussetRead_fabric (hc : tabGet noGusCfg d.fab.gusCfg (64 * f.val + n.val) = some c) (hr : d.rclkRuns f.val c.rdClk.val = true) :
    gussetRead (.fabric f n) d = gussetPop f.val n.val (gussetAsks d f.val n.val) d := by
  simp [gussetRead, hc, hr]

end

section
variable {f n : Nat} {v : BitVec 72}

theorem gussetPush_of_full (h : (d.gusset (64 * f + n)).full = true) :
    gussetPush f n (some v) d = d.setBit (fldA f (0x120 + 4 * (n / 32))) (n % 32) := by
  simp [gussetPush, h]

theorem gussetPush_of_not_full (h : (d.gusset (64 * f + n)).full = false) :
    gussetPush f n (some v) d = d.setGusset (64 * f + n) ((d.gusset (64 * f + n)).push v) := by
  simp [gussetPush, h]

theorem gussetPop_of_empty (h : (d.gusset (64 * f + n)).empty = true) :
    gussetPop f n true d = d.setBit (fldA f (0x128 + 4 * (n / 32))) (n % 32) := by
  simp [gussetPop, h]

theorem gussetPop_of_not_empty (h : (d.gusset (64 * f + n)).empty = false) :
    gussetPop f n true d = d.setGusset (64 * f + n) (d.gusset (64 * f + n)).pop := by
  simp [gussetPop, h]

end

/-- An error flag is set, and the gussets and every other register stay. -/
theorem settle_setBit_flags {a k : Nat} (hk : k < 32) (hw : tabWf regDefault d.regs = true) :
    (d.setBit a k).settle.fab.gussets = d.fab.gussets ∧ (d.setBit a k).settle.bit a k = true ∧
      ∀ b, b ≠ a → (d.setBit a k).settle.reg b = d.reg b := by
  refine ⟨settle_gussets _, ?_, fun b hb => ?_⟩
  · rw [settle_bit, Device.bit_setBit_same hk hw]
  · rw [settle_reg, Device.reg_setBit_ne hb hw]

/-! ### Streams (04_ R111) -/

section
variable {e n : Nat} {v w : BitVec 72}

theorem gussetWrite_stream {e : Fin 1536} {n : Fin 4} (hr : d.streamClkRuns e.val n.val = true) (hn : n.val < 2) :
    gussetWrite (.stream e n) w d = streamPush e.val n.val (streamOffer d e.val n.val w) d := by
  simp [gussetWrite, hr, hn]

theorem gussetRead_stream {e : Fin 1536} {n : Fin 4} (hr : d.streamClkRuns e.val n.val = true) (hn : 2 ≤ n.val) :
    gussetRead (.stream e n) d = streamPop e.val n.val (streamAsks d e.val n.val) d := by
  simp [gussetRead, hr, hn]

theorem streamPush_of_not_full (h : ((d.engine e).stream n).full = false) :
    streamPush e n (some v) d = d.setEngine e ((d.engine e).setStream n (((d.engine e).stream n).push v)) := by
  simp [streamPush, h]

theorem streamPop_of_not_empty (h : ((d.engine e).stream n).empty = false) :
    streamPop e n true d = d.setEngine e ((d.engine e).setStream n ((d.engine e).stream n).pop) := by
  simp [streamPop, h]

end

/-! ### Hedged channels (R58, R59, R61) -/

section
variable {k : Nat}

@[simp] theorem hedgeAdvance_credits (h : HedgeChan) : (hedgeAdvance h).credits = h.credits := by
  unfold hedgeAdvance
  split <;> rfl

theorem hedgeTake_of_credit {h : HedgeChan} {v : BitVec 22} (hc : 0 < h.credits) :
    hedgeTake h (some v) = { hedgeAdvance h with credits := h.credits - 1, crossing := some v } := by
  simp [hedgeTake, hc]

theorem hedgeDrop_cons {h : HedgeChan} {x : BitVec 22} {xs : List (BitVec 22)} (hb : h.buffer = x :: xs) :
    hedgeDrop h = { h with buffer := xs, returning := h.returning + 1 } := by
  simp [hedgeDrop, hb]

theorem hedgeTransfer_of_credit {v w : BitVec 22} (hh : hedged d k = true) (hr : d.clk0Runs (hedgeTile k) = true)
    (ho : hedgeOffer d k w = some v) (hc : 0 < (d.hedge k).credits) :
    hedgeTransfer k w d = d.setHedge k { hedgeAdvance (d.hedge k) with credits := (d.hedge k).credits - 1, crossing := some v } := by
  simp [hedgeTransfer, hh, hr, ho, hedgeTake_of_credit hc]

theorem hedgePop_cons {g : Nat} {x : BitVec 22} {xs : List (BitVec 22)} (hg : hedgeInto k = some g) (hh : hedged d k = true)
    (hr : d.clk0Runs g = true) (ha : hedgeAsks d k = true) (hb : (d.hedge k).buffer = x :: xs) :
    hedgePop k d = d.setHedge k (hedgeAdvance { d.hedge k with buffer := xs, returning := (d.hedge k).returning + 1 }) := by
  simp [hedgePop, hg, hh, hr, ha, hedgeDrop_cons hb]

/-- A credit on its way reaches the sender, and the channel no longer stalls. -/
theorem hedgeCredit_of_returning (h : 0 < (d.hedge k).returning) (hw : tabWf hedgeReset d.fab.hedges = true) :
    ((hedgeCredit k d).hedge k).credits = (d.hedge k).credits + 1 ∧
      ((hedgeCredit k d).hedge k).returning = (d.hedge k).returning - 1 ∧ k ∉ (hedgeCredit k d).fab.stalled := by
  have hk : (hedgeCredit k d).hedge k = { d.hedge k with credits := (d.hedge k).credits + 1, returning := (d.hedge k).returning - 1 } := by
    simp only [hedgeCredit, h, if_true]
    exact tabGet_tabSet_same hedgeReset _ _ _ hw
  refine ⟨by rw [hk], by rw [hk], ?_⟩
  simp [hedgeCredit, h, Device.setFab]

/-- The sending field of a crossing's key. -/
theorem crossingKey_div (c : Crossing) : crossingKey c / 800 = c.field.val := by
  obtain ⟨f, side, i⟩ := c
  have hs : sideNat side ≤ 3 := by cases side <;> decide
  have hi := i.isLt
  simp only [crossingKey, crossKey]
  omega

theorem hedgedStall_of_no_credit (hh : hedged d k = true) (hr : d.fieldRuns (k / 800) = true) (hc : (d.hedge k).credits = 0)
    (hs : k ∉ d.fab.stalled) : hedgedStall k d = d.setFab { d.fab with stalled := k :: d.fab.stalled } := by
  simp [hedgedStall, hh, hr, hc, hs]

/-- Where no channel is hedged the hedged channels' part of an edge does nothing. -/
theorem hedgeEdges_of_none {f r : Nat} {d0 : Device} (h : ∀ k, hedged d0 k = false) : hedgeEdges f r d0 d = d := by
  have hid : ∀ xs : List Nat, d.each xs (fun d _ => d) = d := fun xs => List.foldl_fixed xs
  simp [hedgeEdges, h, hid]

/-- Where no gusset of the field is configured the gussets' part of an edge does nothing. -/
theorem gussetEdges_of_none {f r : Nat} {d0 : Device} (h : ∀ kv ∈ d0.fab.gusCfg, kv.1 / 64 ≠ f) : gussetEdges f r d0 d = d := by
  have hnil : d0.fab.gusCfg.filter (fun kv => kv.1 / 64 == f) = [] := by
    simpa [List.filter_eq_nil_iff] using fun k c hkc => h (k, c) hkc
  rw [gussetEdges, hnil]
  rfl

end

/-! ### Global set/reset (R44, R45) -/

section
variable {f : Nat}

theorem gsrPulse_of_frozen (hd : d.domOn f = true) (hf : d.frozen f = true) : gsrPulse f d = d.setBit (fldA f 0x100) 1 := by
  simp [gsrPulse, hd, hf]

/-- A second request before the first pulse ends has no effect. -/
theorem gsrPulse_of_mem (hf : d.frozen f = false) (hp : f ∈ d.fab.pulse) : gsrPulse f d = d := by
  simp [gsrPulse, hf, hp]

theorem gsrPulse_start (hd : d.domOn f = true) (hf : d.frozen f = false) (hp : f ∉ d.fab.pulse) (hr : d.replayed f = false) :
    gsrPulse f d = ((d.gsrField f).hedgesFlush f).setFab
      { ((d.gsrField f).hedgesFlush f).fab with pulse := f :: ((d.gsrField f).hedgesFlush f).fab.pulse } := by
  simp [gsrPulse, hd, hf, hp, hr]

theorem gsrField_gusset {g : Nat} (hg : g < 64) : (d.gsrField f).gusset (64 * f + g) = {} := by
  have hdrop : (d.gsrField f).fab.gussets = tabDrop (fun k => k / 64 == f) d.fab.gussets := rfl
  have hkey : (64 * f + g) / 64 = f := by omega
  rw [Device.gusset, hdrop, tabGet_tabDrop_of_dropped gussetReset (fun k => k / 64 == f) _ (by simp [hkey])]
  rfl

/-- The receive buffers of the channels into the field are empty. -/
theorem hedgesFlush_buffer {k : Nat} (hk : channelTo k = some f) : ((d.hedgesFlush f).hedge k).buffer = [] := by
  rcases tabGet_default_or_mem hedgeReset (d.hedgesFlush f).fab.hedges k with h | h
  · rw [Device.hedge, h]
    rfl
  · simp only [Device.hedgesFlush, Device.setFab] at h
    obtain ⟨c, -, hc⟩ := mem_tabMap hedgeReset h
    simp only [hk, if_true] at hc
    exact congrArg HedgeChan.buffer hc

/-- Each clock of the field has two edges to give before its registers follow R43 again. -/
theorem gsrRelease_gsrWait {r : Nat} (hr : r < 12) (hw : tabWf natZero d.fab.gsrWait = true) :
    tabGet natZero (d.gsrRelease f).fab.gsrWait (12 * f + r) = 2 := by
  have hfold : (d.gsrRelease f).fab.gsrWait =
      ((upto 12).map (fun r => (12 * f + r, 2))).foldl (fun t x => tabSet natZero t x.1 x.2) d.fab.gsrWait := by
    rw [List.foldl_map]
    rfl
  rw [hfold, tabGet_foldl_tabSet natZero (v := 2) _ _ hw (by simp), if_pos]
  exact List.mem_map.mpr ⟨_, List.mem_map_of_mem (List.mem_range.mpr hr), rfl⟩

theorem gsrPulseEnd_of_mem (hp : f ∈ d.fab.pulse) : gsrPulseEnd f d = d.gsrRelease f := by
  simp [gsrPulseEnd, hp]

end

/-! ### Tick lines (R65) -/

theorem tickLand_one {f l : Nat} (h1 : tabGet natZero d.fab.ticks (16 * f + l) = 1) (hc : tickClk d f l < 12)
    (hr : d.rclkRuns f (tickClk d f l) = true) (hh : 16 * f + l ∉ d.fab.tickHigh) :
    tickLand f l d = d.setFab { d.fab with
      ticks := tabMod natZero d.fab.ticks (16 * f + l) (· - 1), tickHigh := (16 * f + l) :: d.fab.tickHigh } := by
  simp [tickLand, tickPulse, h1, hc, hr, hh, Device.setFab]

end

/-! ### Where the commands complete -/

section
variable {s : State} {f : Fin 32}

/-- What an edge leaves as it is: everything outside the fabric that the fabric's commands speak of, the tiles, and the gussets and hedged
channels where none is configured. -/
theorem fabricCycle_completes {r : Fin 12} (hr : s.dev.rclkRuns f.val r.val = true) :
    ∃ t, exec (.fabricCycle f r) s = .next t ∧ t.pending = s.pending ∧ t.dev.mem = s.dev.mem ∧ t.dev.host = s.dev.host ∧
      t.dev.time = s.dev.time ∧ t.dev.fab.tiles = s.dev.fab.tiles ∧
      ((∀ kv ∈ s.dev.fab.gusCfg, kv.1 / 64 ≠ f.val) → t.dev.fab.gussets = s.dev.fab.gussets) ∧
      ((∀ k, hedged s.dev k = false) → t.dev.fab.hedges = s.dev.fab.hedges) := by
  have ht := fabricEdge_keeps_tiles hr
  obtain ⟨eg, hg, hgt⟩ := fabricEdge_gussets hr
  obtain ⟨eh, hh, hht⟩ := fabricEdge_hedges hr
  refine ⟨_, gives_fabricCycle s f r, rfl, ht.mem, ht.host, ht.time, ht.fab, fun hn => ?_, fun hn => ?_⟩
  · exact hgt.trans (by rw [gussetEdges_of_none hn, hg.fab])
  · exact hht.trans (by rw [hedgeEdges_of_none hn, hh.fab])

/-- A pulse of global set/reset empties the field's gussets and the receive buffers of the channels into it. -/
theorem gsrPulseWrite_completes (hd : s.dev.domOn f.val = true) (hf : s.dev.frozen f.val = false) (hp : f.val ∉ s.dev.fab.pulse)
    (hr : s.dev.replayed f.val = false) :
    ∃ t, exec (.gsrPulseWrite f) s = .next t ∧ t.pending = s.pending ∧ f.val ∈ t.dev.fab.pulse ∧
      (∀ g, g < 64 → t.dev.gusset (64 * f.val + g) = {}) ∧
      (∀ k, channelTo k = some f.val → (t.dev.hedge k).buffer = []) ∧ t.dev.regs = s.dev.regs ∧ t.dev.bram.words = s.dev.bram.words := by
  refine ⟨_, gives_of_eq (gives_gsrPulseWrite s f) (gsrPulse_start hd hf hp hr), rfl, ?_, ?_, ?_, ?_, ?_⟩
  · exact List.mem_cons_self
  · intro g hg
    have hk := (FabKept.refl FabState.gussets (s.dev.gsrField f.val)).hedgesFlush (f := f.val) fun _ _ => rfl
    exact ((hk.setFab rfl).gusset _).trans (gsrField_gusset hg)
  · exact fun _ hk => hedgesFlush_buffer (d := s.dev.gsrField f.val) hk
  · rfl
  · rfl

theorem gsrPulseEnd_completes (hp : f.val ∈ s.dev.fab.pulse) (hw : tabWf natZero s.dev.fab.gsrWait = true) :
    ∃ t, exec (.gsrPulseEnd f) s = .next t ∧ f.val ∉ t.dev.fab.pulse ∧
      ∀ r : Fin 12, tabGet natZero t.dev.fab.gsrWait (12 * f.val + r.val) = 2 := by
  refine ⟨_, gives_of_eq (gives_gsrPulseEnd s f) (gsrPulseEnd_of_mem hp), ?_, fun r => gsrRelease_gsrWait r.isLt hw⟩
  simp [Device.gsrRelease, Device.setFab]

theorem hedgeCreditReturn_completes {c : Crossing} (h : 0 < (s.dev.hedge (crossingKey c)).returning)
    (hw : tabWf hedgeReset s.dev.fab.hedges = true) :
    ∃ t, exec (.hedgeCreditReturn c) s = .next t ∧
      (t.dev.hedge (crossingKey c)).credits = (s.dev.hedge (crossingKey c)).credits + 1 ∧
      (t.dev.hedge (crossingKey c)).returning = (s.dev.hedge (crossingKey c)).returning - 1 ∧ crossingKey c ∉ t.dev.fab.stalled := by
  refine ⟨_, gives_hedgeCreditReturn s c, ?_⟩
  simp only [settle_hedge, settle_stalled]
  exact hedgeCredit_of_returning h hw

end

/-- Settles O7: both errors end in the setting of a flag. -/
theorem gussetErrors : Obligations.GussetErrors := by
  intro s f n w v c hc hw
  refine ⟨fun hr ho hfull => ⟨_, gives_gussetWrite s (.fabric f n) w, ?_⟩, fun hr ha he => ⟨_, gives_gussetRead s (.fabric f n), ?_⟩⟩
  · rw [gussetWrite_fabric hc hr, ho, gussetPush_of_full hfull]
    exact settle_setBit_flags (Nat.mod_lt _ (by decide)) hw
  · rw [gussetRead_fabric hc hr, ha, gussetPop_of_empty he]
    exact settle_setBit_flags (Nat.mod_lt _ (by decide)) hw

/-- Settles O6: command by command, each in the cases the statement names. -/
theorem fabricCompletes : Obligations.FabricCompletes := by
  refine ⟨fun s f r hr _ => fabricCycle_completes hr, fun s f => gsrPulseWrite_completes,
    fun s f hd hf => gives_of_eq (gives_gsrPulseWrite s f) (gsrPulse_of_frozen hd hf),
    fun s f hf hp => gives_of_eq (gives_gsrPulseWrite s f) (gsrPulse_of_mem hf hp), fun s f => gsrPulseEnd_completes,
    ?hedgeTransfer, ?hedgePop, fun s c => hedgeCreditReturn_completes, ?hedgedStall, ?gusset,
    fun s f n => ⟨gives_gussetEntryVisible s (.fabric f n), gives_gussetEntryFreed s (.fabric f n)⟩,
    fun s e n => ⟨gives_gussetEntryVisible s (.stream e n), gives_gussetEntryFreed s (.stream e n)⟩, ?stream, ?tickLand⟩
  case hedgeTransfer =>
    intro s c w v hh hr ho hc
    exact gives_of_eq (gives_hedgeTransfer s c w) (by rw [hedgeTransfer_of_credit hh hr ho hc])
  case hedgePop =>
    intro s c g x xs hg hh hr ha hb
    exact gives_of_eq (gives_hedgePop s c) (by rw [hedgePop_cons hg hh hr ha hb])
  case hedgedStall =>
    intro s c hh hr hc hs
    exact gives_of_eq (gives_hedgedStall s c) (hedgedStall_of_no_credit hh (crossingKey_div c ▸ hr) hc hs)
  case gusset =>
    intro s f n w v c hcfg
    refine ⟨fun hr ho hfull => gives_of_eq (gives_gussetWrite s _ w) ?_, fun hr ha hempty => gives_of_eq (gives_gussetRead s _) ?_⟩
    · rw [gussetWrite_fabric hcfg hr, ho, gussetPush_of_not_full hfull]
      rfl
    · rw [gussetRead_fabric hcfg hr, ha, gussetPop_of_not_empty hempty]
  case stream =>
    intro s e n w v hr
    refine ⟨fun hn ho hfull => gives_of_eq (gives_gussetWrite s _ w) ?_, fun hn ha hempty => gives_of_eq (gives_gussetRead s _) ?_⟩
    · rw [gussetWrite_stream hr hn, ho, streamPush_of_not_full hfull]
    · rw [gussetRead_stream hr hn, ha, streamPop_of_not_empty hempty]
  case tickLand =>
    intro s f l h1 hc hr hh
    refine ⟨_, gives_tickLand s f l, rfl, ?_, ?_⟩
    · rw [settle_regs, tickLand_one h1 hc hr hh]
      rfl
    · rw [settle_tickHigh, tickLand_one h1 hc hr hh]
      exact List.mem_cons_self

end Sys2Proof.Machine
end

section
/-!
The code of block memories (03_block_memory R88, R89). Both halves of the syndrome are linear over XOR: `errorPos`, the position that s[6:0]
names, and the parity s[7]. A stored word has syndrome 0, and a word with one bit only has that bit's position and odd parity; what one or
two flips do to a stored word is a sum of the two.
-/
namespace Sys2Proof.Machine

/-- s[6:0] of R88: the position where a single error would lie. -/
def errorPos (v : BitVec 72) : Nat := dataSyn v ^^^ bitsAt v.toNat 64 7

/-- The 64 data bits of a word. -/
def dataBits (v : BitVec 72) : BitVec 72 := v &&& BitVec.ofNat 72 (2 ^ 64 - 1)

/-- The positions of R88 in the order of the stored word's bits: the data bits, check bits 0 to 6 at the powers of two, check bit 7 at 0. -/
def bitPositions : List Nat := dataPositions ++ [1, 2, 4, 8, 16, 32, 64, 0]

def bitPos (i : Nat) : Nat := nth bitPositions i 0

/-- The word with bit `i` only. -/
def oneBit (i : Nat) : BitVec 72 := BitVec.ofNat 72 (2 ^ i)

theorem secdedSyn_eq (v : BitVec 72) : secdedSyn v = errorPos v + 128 * b2n (parity 72 v) := rfl

/-! ### The decoder by its two halves of the syndrome (R89) -/

section
variable {v : BitVec 72}

theorem secdedDecode_of_no_error (hp : errorPos v = 0) (hq : parity 72 v = false) : secdedDecode v = (dataBits v, false, false) := by
  simp [secdedDecode, secdedSyn_eq, hp, hq, b2n, dataBits]

theorem secdedDecode_of_single {p : Nat} (hp : errorPos v = p) (hle : p ≤ 71) (hq : parity 72 v = true) :
    secdedDecode v = ((posData p).elim (dataBits v) (dataBits v ^^^ oneBit ·), true, false) := by
  cases hd : posData p with
  | none => simp [secdedDecode, secdedSyn_eq, hp, hq, b2n, hle, hd, dataBits]
  | some i => simp [secdedDecode, secdedSyn_eq, hp, hq, b2n, hle, hd, dataBits, oneBit]

theorem secdedDecode_of_double (hp : errorPos v ≠ 0) (hlt : errorPos v < 128) (hq : parity 72 v = false) :
    secdedDecode v = (dataBits v, false, true) := by
  simp [secdedDecode, secdedSyn_eq, hp, hq, b2n, hlt, dataBits]

end

/-! ### Both halves and the data bits are linear -/

theorem dataSyn_xor (v w : BitVec 72) : dataSyn (v ^^^ w) = dataSyn v ^^^ dataSyn w := by
  refine List.foldl_hom₂ (upto 64) (fun a b : Nat => a ^^^ b) _ _ _ 0 0 fun a b i => ?_
  rw [BitVec.getLsbD_xor]
  cases v.getLsbD i <;> cases w.getLsbD i
  · rfl
  · exact (Nat.xor_assoc a b _).symm
  · exact Nat.xor_right_comm a _ b
  · simp [Nat.xor_right_comm a (dataPos i), ← Nat.xor_assoc]

theorem parity_xor (n : Nat) (v w : BitVec 72) : parity n (v ^^^ w) = (parity n v ^^ parity n w) := by
  refine List.foldl_hom₂ (upto n) Bool.xor _ _ _ false false fun a b i => ?_
  rw [BitVec.getLsbD_xor]
  simp only [Bool.bne_eq_xor, Bool.xor_assoc, Bool.xor_left_comm]

theorem errorPos_xor (v w : BitVec 72) : errorPos (v ^^^ w) = errorPos v ^^^ errorPos w := by
  simp only [errorPos, dataSyn_xor, bitsAt, BitVec.toNat_xor, Nat.shiftRight_xor_distrib, Nat.xor_mod_two_pow]
  ac_rfl

theorem dataBits_xor (v w : BitVec 72) : dataBits (v ^^^ w) = dataBits v ^^^ dataBits w := by
  ext i
  simp [dataBits, Bool.and_xor_distrib_right]

/-! ### Words of one bit -/

theorem errorPos_oneBit : ∀ i : Fin 72, errorPos (oneBit i.val) = bitPos i.val := by decide +kernel

theorem parity_oneBit : ∀ i : Fin 72, parity 72 (oneBit i.val) = true := by decide +kernel

theorem bitPos_le : ∀ i : Fin 72, bitPos i.val ≤ 71 := by decide +kernel

theorem bitPositions_nodup : bitPositions.Nodup := by decide

/-- No two bits of the word share a position. -/
theorem bitPos_injective (i j : Fin 72) (h : bitPos i.val = bitPos j.val) : i = j := by
  have hlen : bitPositions.length = 72 := by decide
  have hi : i.val < bitPositions.length := by omega
  have hj : j.val < bitPositions.length := by omega
  simp only [bitPos, nth, List.getD_eq_getElem _ _ hi, List.getD_eq_getElem _ _ hj] at h
  exact Fin.ext (bitPositions_nodup.getElem_inj_iff.mp h)

/-- The decoder finds the data bit at its position, and none at a check bit's. -/
theorem posData_bitPos : ∀ i : Fin 72, posData (bitPos i.val) = if i.val < 64 then some i.val else none := by decide +kernel

theorem dataBits_oneBit : ∀ i : Fin 72, dataBits (oneBit i.val) = if i.val < 64 then oneBit i.val else 0 := by decide +kernel

/-! ### The stored word -/

/-- Check bits 0 to 6 in their place. -/
def checkBits (c : Nat) : BitVec 72 := BitVec.ofNat 72 (c * 2 ^ 64)

theorem dataPos_lt : ∀ i ∈ upto 64, dataPos i < 2 ^ 7 := by decide +kernel

theorem dataSyn_lt (v : BitVec 72) : dataSyn v < 2 ^ 7 := by
  refine List.foldlRecOn (motive := (· < 2 ^ 7)) (upto 64) _ (by decide) fun s hs i hi => ?_
  split
  · exact Nat.xor_lt_two_pow hs (dataPos_lt i hi)
  · exact hs

theorem errorPos_lt (v : BitVec 72) : errorPos v < 2 ^ 7 := Nat.xor_lt_two_pow (dataSyn_lt v) (Nat.mod_lt _ (by decide))

theorem getLsbD_dataBits (v : BitVec 72) (i : Nat) : (dataBits v).getLsbD i = (v.getLsbD i && decide (i < 64)) := by
  rw [dataBits, BitVec.getLsbD_and, BitVec.getLsbD_ofNat, Nat.testBit_two_pow_sub_one]
  by_cases h : i < 64
  · simp [h, Nat.lt_trans h]
  · simp [h]

theorem getLsbD_checkBits (c i : Nat) : (checkBits c).getLsbD i = (decide (i < 72) && decide (64 ≤ i) && c.testBit (i - 64)) := by
  rw [checkBits, BitVec.getLsbD_ofNat, Nat.testBit_mul_two_pow, Bool.and_assoc]

/-- The position sum of the data looks at the data bits only. -/
theorem dataSyn_congr {v w : BitVec 72} (h : dataBits v = dataBits w) : dataSyn v = dataSyn w := by
  refine List.foldl_ext _ _ _ fun s i hi => ?_
  have hi : i < 64 := List.mem_range.mp hi
  have hbit : v.getLsbD i = w.getLsbD i := by simpa [getLsbD_dataBits, hi] using congrArg (·.getLsbD i) h
  rw [hbit]

theorem or_eq_xor_of_disjoint {v w : BitVec 72} (h : ∀ i, v.getLsbD i = true → w.getLsbD i = false) : v ||| w = v ^^^ w := by
  refine BitVec.eq_of_getLsbD_eq fun i _ => ?_
  cases hv : v.getLsbD i
  · simp [hv]
  · simp [hv, h i hv]

@[simp] theorem dataBits_checkBits (c : Nat) : dataBits (checkBits c) = 0 := by
  refine BitVec.eq_of_getLsbD_eq fun i _ => ?_
  rw [getLsbD_dataBits, getLsbD_checkBits]
  by_cases h : i < 64
  · simp [h]
  · simp [h]

@[simp] theorem dataBits_dataBits (v : BitVec 72) : dataBits (dataBits v) = dataBits v := by
  simp [dataBits, BitVec.and_assoc]

/-- Check bits 0 to 6 name themselves. -/
theorem errorPos_checkBits {c : Nat} (h : c < 2 ^ 7) : errorPos (checkBits c) = c := by
  have hd : dataSyn (checkBits c) = dataSyn 0 := dataSyn_congr (dataBits_checkBits c)
  have h0 : dataSyn 0 = 0 := by decide +kernel
  rw [errorPos, hd, h0, Nat.zero_xor, checkBits, BitVec.toNat_ofNat, bitsAt_eq]
  omega

/-- Without check bits s[6:0] is the position sum of the data. -/
theorem errorPos_dataBits (v : BitVec 72) : errorPos (dataBits v) = dataSyn (dataBits v) := by
  have hlt : (dataBits v).toNat < 2 ^ 64 := by
    rw [dataBits, BitVec.toNat_and, BitVec.toNat_ofNat]
    exact Nat.lt_of_le_of_lt Nat.and_le_right (by decide)
  rw [errorPos, bitsAt_eq, Nat.div_eq_of_lt hlt, Nat.zero_mod, Nat.xor_zero]

/-- The data with check bits 0 to 6 (R88). -/
def checkedWord (v : BitVec 72) : BitVec 72 := dataBits v ^^^ checkBits (dataSyn (dataBits v))

theorem errorPos_checkedWord (v : BitVec 72) : errorPos (checkedWord v) = 0 := by
  rw [checkedWord, errorPos_xor, errorPos_dataBits, errorPos_checkBits (dataSyn_lt _), Nat.xor_self]

theorem dataBits_checkedWord (v : BitVec 72) : dataBits (checkedWord v) = dataBits v := by
  simp [checkedWord, dataBits_xor]

/-- Check bit 7 of the checked word is still free. -/
theorem checkedWord_getLsbD_71 (v : BitVec 72) : (checkedWord v).getLsbD 71 = false := by
  have hc : (dataSyn (dataBits v)).testBit 7 = false := Nat.testBit_lt_two_pow (dataSyn_lt _)
  rw [checkedWord, BitVec.getLsbD_xor, getLsbD_dataBits, getLsbD_checkBits, hc]
  simp

theorem parity_succ (n : Nat) (v : BitVec 72) : parity (n + 1) v = (parity n v ^^ v.getLsbD n) := by
  simp [parity, upto, List.range_succ]

theorem parity_checkedWord (v : BitVec 72) : parity 72 (checkedWord v) = parity 71 (checkedWord v) := by
  rw [parity_succ, checkedWord_getLsbD_71, Bool.xor_false]

/-- Check bit 7 is set where the checked word's parity is odd. -/
theorem secdedEncode_eq (v : BitVec 72) :
    secdedEncode v = if parity 71 (checkedWord v) then checkedWord v ^^^ oneBit 71 else checkedWord v := by
  have hchecked : dataBits v ||| checkBits (dataSyn (dataBits v)) = checkedWord v := by
    refine or_eq_xor_of_disjoint fun i hi => ?_
    rw [getLsbD_dataBits, Bool.and_eq_true, decide_eq_true_eq] at hi
    simp [getLsbD_checkBits, hi.2]
  have hseven : checkedWord v ||| oneBit 71 = checkedWord v ^^^ oneBit 71 := by
    refine or_eq_xor_of_disjoint fun i hi => ?_
    have hne : i ≠ 71 := by
      rintro rfl
      rw [checkedWord_getLsbD_71] at hi
      contradiction
    rw [oneBit, BitVec.getLsbD_ofNat, Nat.testBit_two_pow_of_ne (Ne.symm hne), Bool.and_false]
  rw [← hseven, ← hchecked]
  rfl

/-! ### What the decoder sees of a stored word (R88) -/

theorem errorPos_secdedEncode (v : BitVec 72) : errorPos (secdedEncode v) = 0 := by
  have hseven : errorPos (oneBit 71) = 0 := errorPos_oneBit 71
  rw [secdedEncode_eq]
  split
  · rw [errorPos_xor, errorPos_checkedWord, hseven, Nat.xor_self]
  · exact errorPos_checkedWord v

theorem parity_secdedEncode (v : BitVec 72) : parity 72 (secdedEncode v) = false := by
  have hseven : parity 72 (oneBit 71) = true := parity_oneBit 71
  rw [secdedEncode_eq]
  split
  next hodd => rw [parity_xor, parity_checkedWord, hodd, hseven, Bool.xor_self]
  next heven => simpa [parity_checkedWord] using heven

theorem dataBits_secdedEncode (v : BitVec 72) : dataBits (secdedEncode v) = dataBits v := by
  have hseven : dataBits (oneBit 71) = 0#72 := dataBits_oneBit 71
  rw [secdedEncode_eq]
  split
  · rw [dataBits_xor, dataBits_checkedWord, hseven, BitVec.xor_zero]
  · exact dataBits_checkedWord v

/-! ### No flip, one flip, two flips -/

theorem secdedDecode_secdedEncode (v : BitVec 72) : secdedDecode (secdedEncode v) = (dataBits v, false, false) := by
  rw [secdedDecode_of_no_error (errorPos_secdedEncode v) (parity_secdedEncode v), dataBits_secdedEncode]

/-- One flip: odd parity, and s[6:0] is the flipped bit's position. -/
theorem secdedDecode_one_flip (v : BitVec 72) (i : Fin 72) :
    secdedDecode (secdedEncode v ^^^ oneBit i.val) = (dataBits v, true, false) := by
  have hp : errorPos (secdedEncode v ^^^ oneBit i.val) = bitPos i.val := by
    rw [errorPos_xor, errorPos_secdedEncode, Nat.zero_xor, errorPos_oneBit]
  have hq : parity 72 (secdedEncode v ^^^ oneBit i.val) = true := by
    rw [parity_xor, parity_secdedEncode, parity_oneBit, Bool.false_xor]
  rw [secdedDecode_of_single hp (bitPos_le i) hq, posData_bitPos, dataBits_xor, dataBits_secdedEncode, dataBits_oneBit]
  by_cases hi : i.val < 64
  · simp [hi]
  · simp [hi]

/-- Two flips: even parity, and s[6:0] is the sum of two different positions. -/
theorem secdedDecode_two_flips (v : BitVec 72) {i j : Fin 72} (hij : i ≠ j) :
    (secdedDecode (secdedEncode v ^^^ oneBit i.val ^^^ oneBit j.val)).2 = (false, true) := by
  have hp : errorPos (secdedEncode v ^^^ oneBit i.val ^^^ oneBit j.val) ≠ 0 := by
    rw [errorPos_xor, errorPos_xor, errorPos_secdedEncode, Nat.zero_xor, errorPos_oneBit, errorPos_oneBit]
    exact fun h => hij (bitPos_injective i j (Nat.xor_eq_zero_iff.mp h))
  have hq : parity 72 (secdedEncode v ^^^ oneBit i.val ^^^ oneBit j.val) = false := by
    simp [parity_xor, parity_secdedEncode, parity_oneBit]
  rw [secdedDecode_of_double hp (errorPos_lt _) hq]

/-- Settles O10: by the syndrome of the stored word and of the flipped bits. -/
theorem secdedCorrects : Obligations.SecdedCorrects := fun v =>
  ⟨secdedDecode_secdedEncode v, secdedDecode_one_flip v, fun _ _ => secdedDecode_two_flips v⟩

end Sys2Proof.Machine
end

section
/-!
Where the commands of block memories and their scrubber complete (03_block_memory R81, R87, R90): what each operation writes of the block
memories' state, and what the scrubber's report of an uncorrectable word leaves of it.
-/
namespace Sys2Proof.Machine

/-! ### The decoder's data -/

/-- A position that holds data holds one of the 64 bits. -/
theorem posData_lt {p i : Nat} (h : posData p = some i) : i < 64 := List.mem_range.mp (List.mem_of_find?_eq_some h)

/-- The data that the decoder returns has no check bits in it (R87). -/
theorem dataBits_secdedDecode (v : BitVec 72) : dataBits (secdedDecode v).1 = (secdedDecode v).1 := by
  have hkept : dataBits (dataBits v) = dataBits v := dataBits_dataBits v
  have hfixed {i : Nat} (hi : i < 64) : dataBits (dataBits v ^^^ oneBit i) = dataBits v ^^^ oneBit i := by
    have hone : dataBits (oneBit i) = oneBit i := by simpa [hi] using dataBits_oneBit ⟨i, by omega⟩
    rw [dataBits_xor, hkept, hone]
  simp only [secdedDecode]
  split_ifs
  · exact hkept
  · split
    next hd => exact hfixed (posData_lt hd)
    · exact hkept
  · exact hkept

/-- The syndrome in the check bits' place leaves the data as it is (R87). -/
theorem dataBits_or_checkBits (v : BitVec 72) (c : Nat) : dataBits (v ||| checkBits c) = dataBits v := by
  refine BitVec.eq_of_getLsbD_eq fun i _ => ?_
  rw [getLsbD_dataBits, BitVec.getLsbD_or, getLsbD_checkBits, getLsbD_dataBits]
  by_cases h : i < 64
  · simp [h]
  · simp [h]

/-! ### What each operation writes of the block memories -/

section
variable {d : Device} {n : Nat}

@[simp] theorem bramFlag_bram (base : Nat) : (bramFlag base n d).bram = d.bram := rfl

@[simp] theorem setPort_words (i : Nat) (o : PortOut) : (setPort n i o d).bram.words = d.bram.words := rfl

@[simp] theorem setPort_ports (i : Nat) (o : PortOut) :
    (setPort n i o d).bram.ports = tabSet portReset d.bram.ports (2 * n + i) o := rfl

/-- A write of all 72 bits stores the word in its row. -/
theorem writeWord_row (r : Nat) (v : BitVec 72) :
    writeWord n 72 r (BitVec.allOnes 72) v d =
      { d with bram := { d.bram with words := tabSet zero72 d.bram.words (512 * n + r) v } } := by
  have hrow : wordRow 72 r = r := by simp [wordRow, wordBit]
  have hoff : wordOff 72 r = 0 := by simp [wordOff, wordBit]
  simp [writeWord, rowMask, hrow, hoff, -BitVec.reduceAllOnes]

/-- Cancelling a write-back touches the pending write-backs only. -/
theorem cancelWback_eq (r : Nat) (d : Device) : ∃ w, cancelWback n r d = { d with bram := { d.bram with wback := w } } := by
  unfold cancelWback
  split
  · split <;> exact ⟨_, rfl⟩
  · exact ⟨_, rfl⟩

@[simp] theorem cancelWback_words (r : Nat) : (cancelWback n r d).bram.words = d.bram.words := by
  obtain ⟨w, hw⟩ := cancelWback_eq (n := n) r d
  rw [hw]

@[simp] theorem cancelWback_ports (r : Nat) : (cancelWback n r d).bram.ports = d.bram.ports := by
  obtain ⟨w, hw⟩ := cancelWback_eq (n := n) r d
  rw [hw]

/-- A read that writes nothing shows its word at the latch (R81). -/
theorem portEdge_latch_of_read {rdw : RdwMode} {o : PortOut} {sr old : BitVec 72} {p : PortIn} {err : BitVec 2} (h : p.en = true) :
    (portEdge rdw o sr p old err none).latch = old := by
  simp [portEdge, h]

/-! ### Simple dual-port mode with SECDED (R77, R87) -/

section
variable {c : BramCfg} {a b : PortIn} (hs : c.secded = true)
include hs

/-- Port A's word is stored encoded, whatever its write enables. -/
theorem sdpAccess_secded_words (ha : a.en = true) :
    (sdpAccess n c (some a) (some b) d).bram.words =
      tabSet zero72 d.bram.words (512 * n + bitsAt a.addr.toNat 0 9) (secdedEncode (sdpDin a (some b))) := by
  simp only [sdpAccess, hs, ha, Bool.and_true, Bool.and_self, Bool.true_or, if_true, writeWord_row, cancelWback_words,
    apply_ite Device.bram, apply_ite BramState.words, bramFlag_bram, setPort_words, ite_self]

/-- Port B's latch shows its word corrected, with the syndrome in the check bits' place. -/
theorem sdpAccess_secded_latch (ha : a.en = true) (hb : b.en = true) (hg : d.gsrOn (n / 384) = false) :
    ∃ o : PortOut, (sdpAccess n c (some a) (some b) d).bram.ports = tabSet portReset d.bram.ports (2 * n + 1) o ∧
      o.latch = (secdedDecode (rowOf d n (bitsAt b.addr.toNat 0 9))).1 |||
        checkBits (secdedSyn (rowOf d n (bitsAt b.addr.toNat 0 9))) := by
  simp only [sdpAccess, hs, ha, hb, hg, Bool.and_self, Bool.true_or, Bool.false_eq_true, if_true, if_false, writeWord_row,
    cancelWback_ports, apply_ite Device.bram, bramFlag_bram, setPort_ports, ite_self]
  exact ⟨_, rfl, portEdge_latch_of_read hb⟩

end

/-- Where both ports' clocks run and no pattern configures their tiles, an edge of both takes the command's inputs. -/
theorem bramAccess_both {c : BramCfg} {a b : PortIn} (hc : d.bramCfg n = some c) (hf : d.fieldRuns (n / 384) = true)
    (ht : bramTiled d n = false) (hA : d.rclkRuns (n / 384) c.clkA.val = true) (hB : d.rclkRuns (n / 384) c.clkB.val = true) :
    bramAccess n (some a) (some b) d = bramEdge n c (some a) (some b) d := by
  simp [bramAccess, hc, hf, hA, hB, bramIn, ht]

/-! ### The scrubber (R90) -/

@[simp] theorem Device.bobRecord_bram (h : Half) (r : List Byte) : (d.bobRecord h r).bram = d.bram := by
  simp only [Device.bobRecord]
  split_ifs <;> simp

@[simp] theorem Device.bobTrigger_bram (d : Device) (source : Nat) : (d.bobTrigger source).bram = d.bram := by
  simp only [Device.bobTrigger, Device.each]
  split
  · refine List.foldlRecOn (motive := fun e : Device => e.bram = d.bram) _ _ rfl fun e he h _ => ?_
    simpa using he
  · rfl

@[simp] theorem Device.fault_bram (h : Half) (cls src detail : Nat) : (d.fault h cls src detail).bram = d.bram := by
  have htrigger (c : Prop) [Decidable c] (e : Device) : (if c then e.bobTrigger 3 else e).bram = e.bram := by
    split
    · exact e.bobTrigger_bram 3
    · rfl
  refine (htrigger _ _).trans ?_
  split
  · exact Device.setFifo_bram ..
  · cases h <;> rfl

/-- A step on one memory leaves the scrubber's address. -/
theorem scrubOne_scrub (r : Nat) : (scrubOne n r d).bram.scrub = d.bram.scrub := by
  simp only [scrubOne]
  split_ifs
  · rw [Device.fault_bram, bramFlag_bram]
  · rfl
  · rfl

/-- A step moves the scrubber to the next address. -/
theorem scrubStep_scrub {f : Nat} (hr : scrubRuns d f = true) :
    (scrubStep f d).bram.scrub = tabSet natZero d.bram.scrub f ((tabGet natZero d.bram.scrub f + 1) % 512) := by
  have heach (r : Nat) (ms : List Nat) : (d.each ms (fun d n => scrubOne n r d)).bram.scrub = d.bram.scrub :=
    List.foldlRecOn (motive := fun e : Device => e.bram.scrub = d.bram.scrub) ms _ rfl fun _ he _ _ => (scrubOne_scrub _).trans he
  simp only [scrubStep, hr, Bool.not_true, Bool.false_eq_true, if_false, heach]
  split <;> rfl

/-- A write-back stores the corrected word and is no longer pending. -/
theorem scrubWriteback_of_pending {r : Nat} {v : BitVec 72} (h : tabGet noWback d.bram.wback n = some (r, v))
    (hr : scrubRuns d (n / 384) = true) :
    scrubWriteback n d = { d with bram := { d.bram with
      words := tabSet zero72 d.bram.words (512 * n + r) v, wback := tabSet noWback d.bram.wback n none } } := by
  simp only [scrubWriteback, h, hr, if_true, writeWord_row]

/-- A starved memory sets the flag; the array and, but for the flag, the registers stay. -/
theorem scrubStarved_regs_words (hr : scrubRuns d (n / 384) = true) :
    (scrubStarved n d).regs = (d.setBit (fldA (n / 384) 0x204) 1).regs ∧ (scrubStarved n d).bram.words = d.bram.words := by
  simp only [scrubStarved, hr, if_true]
  split <;> exact ⟨rfl, rfl⟩

end

/-! ### Where the commands complete -/

section
variable {s : State} {m : Fin 12288}

theorem gives_bramPortAccess (a b) : gives (.bramPortAccess m a b) s (bramAccess m.val a b s.dev).settle := rfl
theorem gives_bramScrubStep (f) : gives (.bramScrubStep f) s (scrubStep f.val s.dev) := rfl
theorem gives_bramScrubWriteback : gives (.bramScrubWriteback m) s (scrubWriteback m.val s.dev) := rfl
theorem gives_bramScrubStarved : gives (.bramScrubStarved m) s (scrubStarved m.val s.dev) := rfl

/-- A SECDED memory stores port A's word encoded and shows port B's word corrected. -/
theorem bramPortAccess_secded_completes {c : BramCfg} {a b : PortIn} (hc : s.dev.bramCfg m.val = some c) (hsdp : c.sdp = true)
    (hsec : c.secded = true) (hf : s.dev.fieldRuns (m.val / 384) = true) (ht : bramTiled s.dev m.val = false)
    (hA : s.dev.rclkRuns (m.val / 384) c.clkA.val = true) (hB : s.dev.rclkRuns (m.val / 384) c.clkB.val = true)
    (ha : a.en = true) (hb : b.en = true) (hw : tabWf zero72 s.dev.bram.words = true) (hp : tabWf portReset s.dev.bram.ports = true)
    (hg : s.dev.gsrOn (m.val / 384) = false) :
    ∃ t, exec (.bramPortAccess m (some a) (some b)) s = .next t ∧ t.pending = s.pending ∧
      tabGet zero72 t.dev.bram.words (512 * m.val + bitsAt a.addr.toNat 0 9) = secdedEncode (sdpDin a (some b)) ∧
      dataBits (port t.dev m.val 1).latch = (secdedDecode (rowOf s.dev m.val (bitsAt b.addr.toNat 0 9))).1 := by
  obtain ⟨o, hports, ho⟩ := sdpAccess_secded_latch hsec ha hb hg
  refine ⟨_, gives_bramPortAccess (some a) (some b), rfl, ?_⟩
  rw [bramAccess_both hc hf ht hA hB, bramEdge, if_pos hsdp, port, settle_bram, sdpAccess_secded_words hsec ha, hports,
    tabGet_tabSet_same _ _ _ _ hw, tabGet_tabSet_same _ _ _ _ hp, ho, dataBits_or_checkBits]
  exact ⟨rfl, dataBits_secdedDecode _⟩

theorem bramScrubStep_completes {f : Fin 32} (hr : scrubRuns s.dev f.val = true) (hw : tabWf natZero s.dev.bram.scrub = true) :
    ∃ t, exec (.bramScrubStep f) s = .next t ∧
      tabGet natZero t.dev.bram.scrub f.val = (tabGet natZero s.dev.bram.scrub f.val + 1) % 512 := by
  refine ⟨_, gives_bramScrubStep f, ?_⟩
  rw [scrubStep_scrub hr, tabGet_tabSet_same _ _ _ _ hw]

theorem bramScrubWriteback_completes {r : Nat} {v : BitVec 72} (h : tabGet noWback s.dev.bram.wback m.val = some (r, v))
    (hr : scrubRuns s.dev (m.val / 384) = true) (hw : tabWf zero72 s.dev.bram.words = true)
    (hb : tabWf noWback s.dev.bram.wback = true) :
    ∃ t, exec (.bramScrubWriteback m) s = .next t ∧ tabGet zero72 t.dev.bram.words (512 * m.val + r) = v ∧
      tabGet noWback t.dev.bram.wback m.val = none ∧ t.dev.regs = s.dev.regs :=
  ⟨_, gives_of_eq gives_bramScrubWriteback (scrubWriteback_of_pending h hr), tabGet_tabSet_same _ _ _ _ hw,
    tabGet_tabSet_same _ _ _ _ hb, rfl⟩

theorem bramScrubStarved_completes (hr : scrubRuns s.dev (m.val / 384) = true) (hw : tabWf regDefault s.dev.regs = true) :
    ∃ t, exec (.bramScrubStarved m) s = .next t ∧ t.dev.bit (fldA (m.val / 384) 0x204) 1 = true ∧
      t.dev.bram.words = s.dev.bram.words := by
  obtain ⟨hregs, hwords⟩ := scrubStarved_regs_words hr
  refine ⟨_, gives_bramScrubStarved, ?_, hwords⟩
  rw [← Device.bit_setBit_same (k := 1) (by decide) hw, Device.bit, Device.fld, Device.reg, hregs]
  rfl

end

/-- Settles O11: command by command, each in the cases the statement names. -/
theorem bramCompletes : Obligations.BramCompletes :=
  ⟨fun _ _ _ _ _ => bramPortAccess_secded_completes, fun _ _ => bramScrubStep_completes,
    fun _ _ _ _ h hr _ => bramScrubWriteback_completes h hr, fun _ _ => bramScrubStarved_completes⟩

end Sys2Proof.Machine
end

section
/-!
The end of a loop's iteration (04_clover_engines R106, R107; 05_clover_instruction_set R152): predicates by their logical and physical
names, and the counters.
-/
namespace Sys2Proof.Machine

section
variable {e : Engine} {k : LoopState}

/-! ### Logical and physical names (R106) -/

theorem physQ_lt (rot j : Nat) : physQ rot j < 8 := Nat.mod_lt _ (by decide)

theorem Engine.setQ_getLsbD {i p : Nat} {b : Bool} (hi : i < 8) : (e.setQ p b).q.getLsbD i = if i = p then b else e.q.getLsbD i := by
  have hbit : ((1#8).shiftLeft p).getLsbD i = decide (i = p) := by
    rw [BitVec.shiftLeft_eq, BitVec.getLsbD_shiftLeft, BitVec.getLsbD_one, Bool.eq_iff_iff]
    simp [hi]
    omega
  have hclear : (e.setQ p false).q.getLsbD i = (e.q.getLsbD i && !decide (i = p)) := by
    simp only [Engine.setQ, Bool.false_eq_true, if_false, BitVec.getLsbD_and, BitVec.getLsbD_not, hbit, hi, decide_true, Bool.true_and]
  have hset : (e.setQ p true).q.getLsbD i = (e.q.getLsbD i || decide (i = p)) := by
    simp only [Engine.setQ, if_true, BitVec.getLsbD_or, hbit]
  cases b
  · rw [hclear]; split <;> simp [*]
  · rw [hset]; split <;> simp [*]

/-- A predicate that is written under its logical name reads back. -/
theorem qreg_setQ_same {j : Nat} {b : Bool} : (e.setQ (physQ e.rot j) b).qreg j = b :=
  (Engine.setQ_getLsbD (physQ_lt _ _)).trans (if_pos rfl)

/-- The others stay. -/
theorem qreg_setQ_ne {j p : Nat} {b : Bool} (h : physQ e.rot j ≠ p) : (e.setQ p b).qreg j = e.qreg j :=
  (Engine.setQ_getLsbD (physQ_lt _ _)).trans (if_neg h)

/-- One step of rot moves each logical predicate's name up by one. -/
theorem physQ_rotate (rot j : Nat) : physQ ((rot + 15) % 16) (j + 1) = physQ rot j := by unfold physQ; omega

/-- So it does with the rotating complex registers' names. -/
theorem physC_rotate {j : Nat} (rot : Nat) (h : j < 15) : physC ((rot + 15) % 16) (16 + j + 1) = physC rot (16 + j) := by
  unfold physC
  split_ifs <;> omega

theorem physQ_succ_ne_zero {j : Nat} (rot : Nat) (h : j < 7) : physQ rot (j + 1) ≠ physQ rot 0 := by unfold physQ; omega

/-! ### The iteration end of a rotating loop -/

/-- The engine one iteration on: names moved, and q0 tells whether iterations remain. -/
def iterRotated (k : LoopState) (e : Engine) : Engine :=
  { e with rot := (e.rot + 15) % 16 }.setQ (physQ ((e.rot + 15) % 16) 0) (decide (k.count > 0))

theorem iterEnd_of_rotate (h : k.rotate = true) :
    iterEnd k e = ((upto (k.s1 + 1)).any (fun j => (iterRotated k e).qreg j), { k with count := k.count - 1 }, iterRotated k e) := by
  have hk : (if k.count > 0 then { k with count := k.count - 1 } else k) = { k with count := k.count - 1 } := by
    split
    · rfl
    · have hz : k.count = k.count - 1 := by omega
      rw [← hz]
  unfold iterEnd
  rw [hk]
  simp only [h, if_true]
  rfl

theorem iterEnd_of_not_rotate (h : k.rotate = false) : (iterEnd k e).2.2 = e := by simp [iterEnd, h]

theorem iterRotated_qreg_zero : (iterRotated k e).qreg 0 = decide (0 < k.count) := qreg_setQ_same

theorem iterRotated_qreg_succ {j : Nat} (h : j < 7) : (iterRotated k e).qreg (j + 1) = e.qreg j := by
  refine (qreg_setQ_ne (physQ_succ_ne_zero _ h)).trans ?_
  unfold Engine.qreg
  rw [physQ_rotate]

theorem iterRotated_creg_succ {j : Nat} (h : j < 15) : (iterRotated k e).creg (16 + j + 1) = e.creg (16 + j) :=
  congrArg (tabGet zero48 e.c) (physC_rotate e.rot h)

end

/-- Settles O18: the iteration end is `iterRotated` with the count one lower. -/
theorem rotatingLoop : Obligations.RotatingLoop := by
  intro k e hr _ _
  rw [iterEnd_of_rotate hr]
  refine ⟨rfl, rfl, iterRotated_qreg_zero, fun j => iterRotated_qreg_succ, fun j => iterRotated_creg_succ, ?_⟩
  simp [upto, List.any_eq_true]

end Sys2Proof.Machine
end

section
/-!
Extraction (04_clover_engines R97): rounding as integer arithmetic, and the accumulators over one issue of a Clover engine.
-/
namespace Sys2Proof.Machine

/-! ### Rounding -/

section
variable {v : Int} {n : Nat}

theorem roundShift_trunc (v : Int) (n : Nat) : roundShift v n true = v / (2 ^ n : Nat) := by simp [roundShift]

theorem roundShift_zero (v : Int) : roundShift v 0 false = v := by simp [roundShift]

/-- Below half of the last place the floor stays, above it is raised, and at half the even one of the two is taken. -/
theorem roundShift_succ_cases (v : Int) (n : Nat) :
    let q := v / (2 ^ (n + 1) : Nat)
    let r := v % (2 ^ (n + 1) : Nat)
    let half : Int := (2 ^ n : Nat)
    (r < half ∧ roundShift v (n + 1) false = q) ∨ (half < r ∧ roundShift v (n + 1) false = q + 1) ∨
      (r = half ∧ (roundShift v (n + 1) false = q ∨ roundShift v (n + 1) false = q + 1) ∧ roundShift v (n + 1) false % 2 = 0) := by
  simp only [roundShift, Bool.false_or, beq_iff_eq, Nat.add_one_ne_zero, if_false, Nat.add_sub_cancel]
  split <;> omega

/-- The rounded value times 2^n lies within half of 2^n of the value; at exactly half it is even. -/
theorem roundShift_nearest (v : Int) (n : Nat) :
    2 * (2 ^ n : Nat) * roundShift v n false - 2 * v ≤ (2 ^ n : Nat) ∧ 2 * v - 2 * (2 ^ n : Nat) * roundShift v n false ≤ (2 ^ n : Nat) ∧
    ((2 * (2 ^ n : Nat) * roundShift v n false - 2 * v = (2 ^ n : Nat) ∨ 2 * v - 2 * (2 ^ n : Nat) * roundShift v n false = (2 ^ n : Nat)) →
      0 < n → roundShift v n false % 2 = 0) := by
  cases n with
  | zero => rw [roundShift_zero]; omega
  | succ n =>
    have hcases := roundShift_succ_cases v n
    have hdiv := Int.mul_ediv_add_emod v (2 ^ (n + 1) : Nat)
    have hnn := Int.emod_nonneg v (b := (2 ^ (n + 1) : Nat)) (by positivity)
    have hlt := Int.emod_lt_of_pos v (b := (2 ^ (n + 1) : Nat)) (by positivity)
    have hhalf : ((2 ^ (n + 1) : Nat) : Int) = 2 * (2 ^ n : Nat) := by push_cast; ring
    generalize roundShift v (n + 1) false = x at *
    generalize v / (2 ^ (n + 1) : Nat) = q at *
    generalize v % (2 ^ (n + 1) : Nat) = r at *
    generalize ((2 ^ (n + 1) : Nat) : Int) = N at *
    generalize ((2 ^ n : Nat) : Int) = half at *
    have hfloor : x = q → 2 * N * x = 2 * (N * q) := by rintro rfl; ring
    have hceil : x = q + 1 → 2 * N * x = 2 * (N * q) + 2 * N := by rintro rfl; ring
    rcases hcases with ⟨hr, hx⟩ | ⟨hr, hx⟩ | ⟨hr, hx | hx, heven⟩
    · have := hfloor hx; omega
    · have := hceil hx; omega
    · have := hfloor hx; omega
    · have := hceil hx; omega

/-- Truncation is the floor. -/
theorem roundShift_trunc_floor (v : Int) (n : Nat) :
    roundShift v n true * (2 ^ n : Nat) ≤ v ∧ v < (roundShift v n true + 1) * (2 ^ n : Nat) := by
  rw [roundShift_trunc]
  exact ⟨Int.ediv_mul_le v (by positivity), Int.lt_ediv_add_one_mul_self v (by positivity)⟩

theorem sat24_eq (x : Int) : (sat24 x).1 = max (-0x800000) (min 0x7FFFFF x) ∧ ((sat24 x).2 = true ↔ x < -0x800000 ∨ 0x7FFFFF < x) := by
  unfold sat24
  split_ifs <;> simp <;> omega

end

/-! ### The accumulators over one issue -/

section
variable {e : Engine}

@[simp] theorem Engine.flagIf_a (k : Nat) (c : Bool) : (e.flagIf k c).a = e.a := by cases c <;> rfl
@[simp] theorem landAll_a : (landAll e).a = e.a := rfl
@[simp] theorem toError_a (cause : Nat) : (toError cause e).a = e.a := rfl
@[simp] theorem countCycle_a (stall : Bool) : (countCycle stall e).a = e.a := rfl
@[simp] theorem landC_a (src : Engine) (dst : Nat) (v : BitVec 48) : (landC e src dst v).a = e.a := rfl

/-- The end of an iteration writes predicates and counters. -/
@[simp] theorem iterEnd_a (k : LoopState) : (iterEnd k e).2.2.a = e.a := by
  cases h : k.rotate
  · rw [iterEnd_of_not_rotate h]
  · rw [iterEnd_of_rotate h]
    rfl

@[simp] theorem nextPc_a (pc : Nat) : (nextPc pc e).a = e.a := by
  simp only [nextPc]
  split_ifs <;> simp only [iterEnd_a]

@[simp] theorem control_a (pc : Nat) (x : Issue) : (control pc x).a = x.eng.a := by
  simp only [control]
  split
  · split <;> rfl
  · rw [nextPc_a]
    split <;> rfl

/-- An issue, a stall, an error and a halt leave the accumulators as the slots do. -/
theorem issueCycle_a {site : Nat} {full : Bool} {b : Bundle} (h : (slots site e (guarded e b)).eng.a = e.a) :
    (issueCycle site full b e).1.a = e.a := by
  simp only [issueCycle]
  split_ifs <;> simp [h]

/-- A guard keeps the operation slot of a command's bundle or takes it away. -/
theorem guarded_opBundle (gd : Guard) (o : ClvOp) :
    guarded e (opBundle gd o) = opBundle gd o ∨ guarded e (opBundle gd o) = { g := gd.g } := by
  unfold guarded opBundle
  cases h : runs e { g := gd.g, op := some (gd.stage.val, o) } gd.stage.val <;> simp [h]

/-- The engine whose results in flight have landed and whose flags are set aside, on which the slots act. -/
def landed (e : Engine) : Engine := { e with c := e.land.foldl cLand e.c, land := [], aOld := e.a, flags := 0 }

theorem slots_opBundle (site : Nat) (gd : Guard) (o : ClvOp) : slots site e (opBundle gd o) = opSlot site e o { eng := landed e } := rfl

/-- An operation that leaves the accumulators, whether its guard holds or not. -/
theorem issueCycle_opBundle_a {site : Nat} {full : Bool} {gd : Guard} {o : ClvOp}
    (h : (opSlot site e o { eng := landed e }).eng.a = e.a) : (issueCycle site full (opBundle gd o) e).1.a = e.a := by
  apply issueCycle_a
  rcases guarded_opBundle (e := e) gd o with hg | hg <;> rw [hg]
  · rwa [slots_opBundle]
  · rfl

end

/-- Settles O15: the rounding by the remainder's place in its range, the rest by the slot that extraction is. -/
theorem extractRounds : Obligations.ExtractRounds := by
  refine ⟨fun v n _ => ?_, fun site full e gd dst aj am ai n sum tr im => ⟨?_, ?_⟩⟩
  · obtain ⟨hup, hdown, htie⟩ := roundShift_nearest v n
    obtain ⟨hle, hlt⟩ := roundShift_trunc_floor v n
    exact ⟨hup, hdown, htie, hle, hlt, fun tr => sat24_eq _⟩
  · exact issueCycle_opBundle_a (by simp [opSlot, landed])
  · exact issueCycle_opBundle_a (by simp [opSlot, landed])

end Sys2Proof.Machine
end

section
/-!
Pointer modifies (04_clover_engines R104, R105): the three forms of the modified pointer.
-/
namespace Sys2Proof.Machine

section
variable {p b l : Nat} {m : Int}

theorem revBits_lt (n x : Nat) : revBits n x < 2 ^ n := by
  induction n generalizing x with
  | zero => exact Nat.one_pos
  | succ n ih =>
    have hrest := ih (x / 2)
    have hbit : x % 2 * 2 ^ n ≤ 1 * 2 ^ n := Nat.mul_le_mul_right _ (by omega)
    rw [revBits, Nat.pow_succ]
    omega

theorem modPtr_linear : modPtr p b 0 m = (((p : Int) + m) % 4096).toNat := by simp [modPtr]

/-- A circular buffer's pointer is its base and an offset below its length. -/
theorem modPtr_circular (hl : 1 ≤ l) (hl' : l ≤ 3072) (hb : b + l ≤ 4096) :
    modPtr p b l m = b + (((p : Int) - b + m) % l).toNat := by
  have hoff : (((p : Int) - b + m) % l).toNat < l := by
    have := Int.emod_lt_of_pos ((p : Int) - b + m) (b := l) (by omega)
    omega
  have hlen : l % 4096 = l := Nat.mod_eq_of_lt (by omega)
  have hmode : l / 32768 = 0 := Nat.div_eq_of_lt (by omega)
  have hne : l ≠ 0 := by omega
  simp only [modPtr, hlen, hmode, hne, Nat.zero_mod, Nat.reduceBEq, Bool.false_and, Bool.false_eq_true, if_false]
  exact Nat.mod_eq_of_lt (by omega)

/-- A bit-reversed one is its base and a reversed offset. -/
theorem modPtr_reversed (hl : 2 ≤ l) (hl' : l ≤ 3072) (hb : b + 2 ^ revLen l ≤ 4096) :
    ∃ x, modPtr p b (0x8000 + l) m = b + revBits (revLen l) x := by
  have hlen : (0x8000 + l) % 4096 = l := by omega
  have hmode : (0x8000 + l) / 32768 % 2 = 1 := by omega
  simp only [modPtr, hlen, hmode, beq_self_eq_true, hl, decide_true, Bool.and_self, if_true]
  exact ⟨_, Nat.mod_eq_of_lt ((Nat.add_lt_add_left (revBits_lt _ _) b).trans_le hb)⟩

end

/-- Settles O16: each form by its equation, the worked examples by evaluation. -/
theorem pointerModify : Obligations.PointerModify := by
  refine ⟨fun _ _ _ => modPtr_linear, fun p b l m hl hl' hb => ?_, fun p b l m hl hl' hb => ?_, by decide +kernel⟩
  · rw [modPtr_circular hl hl' hb]
    have hnn := Int.emod_nonneg ((p : Int) - b + m) (b := l) (by omega)
    have hlt := Int.emod_lt_of_pos ((p : Int) - b + m) (b := l) (by omega)
    refine ⟨by omega, by omega, ?_⟩
    rw [Nat.cast_add, Int.toNat_of_nonneg hnn, add_sub_cancel_left, Int.sub_emod, Int.emod_emod, sub_self, Int.zero_emod]
  · obtain ⟨x, hx⟩ := modPtr_reversed (p := p) (m := m) hl hl' hb
    have := revBits_lt (revLen l) x
    omega

end Sys2Proof.Machine
end

section
/-!
Run requests of a Clover engine (04_clover_engines R120, R121, R123, R591): what each request makes of the engine, where it comes from a
command, from a rising edge on a sink, or was held.
-/
namespace Sys2Proof.Machine

section
variable {d : Device} {e : Nat} {x : Engine}

/-! ### The engine table -/

theorem Device.engine_setEngine (hw : tabWf engineReset d.clv = true) : (d.setEngine e x).engine e = x :=
  tabGet_tabSet_same _ _ _ _ hw

theorem Device.setEngine_wf (hw : tabWf engineReset d.clv = true) : tabWf engineReset (d.setEngine e x).clv = true :=
  tabWf_tabSet _ _ _ _ hw

/-! ### Requests -/

/-- A request to engine `e` acts at once: the engine's clock runs, and neither global set/reset nor a domain that is Off takes it away. -/
structure Device.actsNow (d : Device) (e : Nat) : Prop where
  runs : engineRuns d e = true
  released : d.gsrOn (e / 48) = false
  powered : d.domState (e / 48) ≠ 3
  wf : tabWf engineReset d.clv = true

theorem Device.actsNow.setEngine (h : d.actsNow e) : (d.setEngine e x).actsNow e :=
  ⟨h.runs, h.released, h.powered, Device.setEngine_wf h.wf⟩

theorem request_engine {now hold : Engine → Engine} (h : d.actsNow e) : (request e now hold d).engine e = now (d.engine e) := by
  obtain ⟨hruns, hreleased, hpowered, hwf⟩ := h
  simp [request, hruns, hreleased, hpowered, Device.engine_setEngine hwf]

theorem askStart_engine {pc : Nat} (h : d.actsNow e) : (askStart e pc d).engine e = reqStart pc (d.engine e) := request_engine h
theorem askStop_engine (h : d.actsNow e) : (askStop e d).engine e = reqStop (d.engine e) := request_engine h
theorem askResume_engine (h : d.actsNow e) : (askResume e d).engine e = reqResume (d.engine e) := request_engine h
theorem askClear_engine (h : d.actsNow e) : (askClear e d).engine e = reqClear (d.engine e) := request_engine h

theorem clvGap_of_not_replayed (h : d.replayed (e / 48) = false) : clvGap e d = d := by simp [clvGap, h]

theorem request_replayed {now hold : Engine → Engine} (f : Nat) : (request e now hold d).replayed f = d.replayed f := by
  unfold request
  split <;> rfl

/-! ### What a request makes of an engine (R120) -/

theorem startPc_lt (x : Engine) : startPc x < 512 := Nat.mod_lt _ (by decide)

theorem reqStart_of_running {pc : Nat} (h : x.state = .running) : reqStart pc x = { x with flags := x.flags ||| 0x40 } := by
  simp [reqStart, h, Engine.flagIf, fOverrun]

theorem reqStart_of_error {pc : Nat} (h : x.state = .error) : reqStart pc x = { x with flags := x.flags ||| 0x80 } := by
  simp [reqStart, h, Engine.flagIf, fStartErr]

theorem reqStart_of_invalid {pc : Nat} (h : x.state = .idle ∨ x.state = .stopped) (hv : x.ctrl.getLsbD 0 = false) :
    reqStart pc x = { x with flags := x.flags ||| 0x80 } := by
  have hflag : reqStart pc x = x.flagIf fStartErr true := by
    rcases h with h | h <;> simp only [reqStart, h, hv, Bool.not_false, if_true]
  exact hflag

theorem reqStart_of_valid {pc : Nat} (h : x.state = .idle ∨ x.state = .stopped) (hv : x.ctrl.getLsbD 0 = true) :
    reqStart pc x = { x with
      state := .running, pc := pc % 512, rot := 0, k0 := { x.k0 with active := false }, k1 := { x.k1 with active := false }
      cycles := 0, stalls := 0, bubble := 0 } := by
  rcases h with h | h <;> simp only [reqStart, h, hv] <;> rfl

theorem reqStop_eq : reqStop x = if x.state = .running then { landAll x with state := .stopped, cause := 2 } else x := by
  simp [reqStop]

theorem reqResume_eq : reqResume x = if x.state = .stopped then { x with state := .running } else x := by simp [reqResume]

theorem reqClear_eq : reqClear x = if x.state = .stopped ∨ x.state = .error then { x with state := .idle, cause := 0 } else x := by
  simp [reqClear]

/-! ### Edges on the start and stop sinks (R123) -/

section
variable (hc : ctlRuns d e = true)
include hc

theorem fabricStart_of_rise (ht : cloverTiled d e 2 = true) (hs : startSink d e = true) (hx : (d.engine e).startWas = false) :
    fabricStart e d = fabricStarts e (d.setEngine e { d.engine e with startWas := true }) := by
  simp [fabricStart, hc, ht, hs, hx]

theorem fabricStart_of_no_rise (ht : cloverTiled d e 2 = true) (hs : startSink d e = false ∨ (d.engine e).startWas = true) :
    fabricStart e d = d := by
  rcases hs with hs | hs <;> simp [fabricStart, hc, ht, hs]

theorem fabricStart_of_untiled (ht : cloverTiled d e 2 = false) : fabricStart e d = fabricStarts e d := by
  simp [fabricStart, hc, ht]

theorem fabricStop_of_rise (ht : cloverTiled d e 2 = true) (hs : stopSink d e = true) (hx : (d.engine e).stopWas = false) :
    fabricStop e d = askStop e (d.setEngine e { d.engine e with stopWas := true }) := by
  simp [fabricStop, hc, ht, hs, hx]

theorem fabricStop_of_no_rise (ht : cloverTiled d e 2 = true) (hs : stopSink d e = false ∨ (d.engine e).stopWas = true) :
    fabricStop e d = d := by
  rcases hs with hs | hs <;> simp [fabricStop, hc, ht, hs]

theorem fabricStop_of_untiled (ht : cloverTiled d e 2 = false) : fabricStop e d = askStop e d := by
  simp [fabricStop, hc, ht]

end

theorem fabricStarts_of_enabled (h : (d.engine e).ctrl.getLsbD 3 = true) :
    fabricStarts e d = askStart e (startPc (d.engine e)) d := by
  simp [fabricStarts, h]

theorem fabricStarts_of_disabled (h : (d.engine e).ctrl.getLsbD 3 = false) : fabricStarts e d = d := by
  simp only [fabricStarts, h, Bool.false_eq_true, if_false]

/-! ### Held requests (R121, R591) -/

/-- A stop and a start that were held act in this order. -/
theorem heldApply_stop_start {pc : Nat} (h : d.actsNow e) (hx : (d.engine e).held = { start := some pc, stop := true }) :
    (heldApply e d).engine e = reqStart pc (reqStop { d.engine e with held := {} }) := by
  simp [heldApply, h.runs, hx, Device.engine_setEngine h.wf]

theorem reqStart_reqStop {pc : Nat} (h : x.state = .running) (hv : x.ctrl.getLsbD 0 = true) :
    (reqStart pc (reqStop x)).state = .running ∧ (reqStart pc (reqStop x)).pc = pc % 512 ∧
      (reqStart pc (reqStop x)).held = x.held := by
  obtain ⟨hstate, hctrl, hheld⟩ : (reqStop x).state = .stopped ∧ (reqStop x).ctrl = x.ctrl ∧ (reqStop x).held = x.held := by
    rw [reqStop_eq, if_pos h]
    exact ⟨rfl, rfl, rfl⟩
  rw [reqStart_of_valid (.inr hstate) (hctrl ▸ hv)]
  exact ⟨rfl, rfl, hheld⟩

end

/-! ### Where the commands complete -/

section
variable {s : State} {e : Fin 1536}

theorem gives_clvStart : gives (.clvStart e) s (askStart e.val (startPc (s.dev.engine e.val)) s.dev) := rfl
theorem gives_clvStop : gives (.clvStop e) s (clvGap e.val (askStop e.val s.dev)) := rfl
theorem gives_clvResume : gives (.clvResume e) s (clvGap e.val (askResume e.val s.dev)) := rfl
theorem gives_clvClear : gives (.clvClear e) s (clvGap e.val (askClear e.val s.dev)) := rfl
theorem gives_fabricStart : gives (.fabricStart e) s (fabricStart e.val s.dev) := rfl
theorem gives_fabricStop : gives (.fabricStop e) s (fabricStop e.val s.dev) := rfl
theorem gives_heldRequestsApply : gives (.heldRequestsApply e) s (heldApply e.val s.dev) := rfl

end

/-- Settles O20: each request by the device it gives and what it makes of the engine. -/
theorem runRequests : Obligations.RunRequests := by
  intro s e hr hg hd hrep hw x started stopped hx hstarted hstopped
  have hnow : s.dev.actsNow e.val := ⟨hr, hg, hd, hw⟩
  have hstart (y : Engine) : reqStart (startPc y) y = started y := by
    have hpc : startPc y % 512 = bitsAt y.ctrl.toNat 16 9 := Nat.mod_eq_of_lt (startPc_lt y)
    subst hstarted
    cases h : y.state with
    | running => simp only [reqStart_of_running h, h]
    | error => simp only [reqStart_of_error h, h]
    | idle => cases hv : y.ctrl.getLsbD 0 with
      | false => simp only [reqStart_of_invalid (.inl h) hv, h, hv, Bool.false_eq_true, if_false]
      | true => simp only [reqStart_of_valid (.inl h) hv, h, hv, hpc, if_true]
    | stopped => cases hv : y.ctrl.getLsbD 0 with
      | false => simp only [reqStart_of_invalid (.inr h) hv, h, hv, Bool.false_eq_true, if_false]
      | true => simp only [reqStart_of_valid (.inr h) hv, h, hv, hpc, if_true]
  have hstop (y : Engine) : reqStop y = stopped y := by rw [hstopped, reqStop_eq]
  have hgap {now hold : Engine → Engine} : clvGap e.val (request e.val now hold s.dev) = request e.val now hold s.dev :=
    clvGap_of_not_replayed ((request_replayed _).trans hrep)
  subst hx
  refine ⟨⟨_, gives_clvStart, (askStart_engine hnow).trans (hstart _)⟩,
    ⟨_, gives_of_eq gives_clvStop hgap, (askStop_engine hnow).trans (hstop _)⟩,
    ⟨_, gives_of_eq gives_clvResume hgap, (askResume_engine hnow).trans reqResume_eq⟩,
    ⟨_, gives_of_eq gives_clvClear hgap, (askClear_engine hnow).trans reqClear_eq⟩,
    fun hc ht hen hs hwas => ⟨_, gives_of_eq gives_fabricStart (fabricStart_of_rise hc ht hs hwas), ?_⟩,
    fun hc ht hs => gives_of_eq gives_fabricStart (fabricStart_of_no_rise hc ht hs),
    fun hc ht hs hwas => ⟨_, gives_of_eq gives_fabricStop (fabricStop_of_rise hc ht hs hwas), ?_⟩,
    fun hc ht hs => gives_of_eq gives_fabricStop (fabricStop_of_no_rise hc ht hs),
    fun hc ht => ⟨fun hen => ⟨_, gives_of_eq gives_fabricStart (fabricStart_of_untiled hc ht), ?_⟩,
      fun hen => gives_of_eq gives_fabricStart ((fabricStart_of_untiled hc ht).trans (fabricStarts_of_disabled hen)),
      ⟨_, gives_of_eq gives_fabricStop (fabricStop_of_untiled hc ht), (askStop_engine hnow).trans (hstop _)⟩⟩,
    fun pc hheld hrun hv => ⟨_, gives_heldRequestsApply, ?_⟩⟩
  · have hy := Device.engine_setEngine (e := e.val) (x := { s.dev.engine e.val with startWas := true }) hw
    rw [fabricStarts_of_enabled (by rwa [hy]), askStart_engine hnow.setEngine, hy, hstart]
  · rw [askStop_engine hnow.setEngine, Device.engine_setEngine hw, hstop]
  · rw [fabricStarts_of_enabled hen, askStart_engine hnow, hstart]
  · rw [heldApply_stop_start hnow hheld]
    exact reqStart_reqStop hrun hv

end Sys2Proof.Machine
end

section
/-!
Accesses to a Clover engine (04_clover_engines R98, R101, R102, R124, R129, R132): little-endian bytes, the engine's memories under writes
of bytes, its stream clocks, and the accesses by status, data and the device they leave.
-/
namespace Sys2Proof.Machine

/-! ### Little-endian bytes (00_scope R6) -/

theorem leBytes_append (v m n : Nat) : leBytes v (m + n) = leBytes v m ++ leBytes (v / 256 ^ m) n := by
  induction m generalizing v with
  | zero => simp [leBytes]
  | succ m ih => rw [Nat.succ_add, leBytes, leBytes, ih, List.cons_append, Nat.div_div_eq_div_mul, ← Nat.pow_succ']

/-- The bytes of a number are those of its low part. -/
theorem leBytes_mod (v n : Nat) : leBytes (v % 256 ^ n) n = leBytes v n := by
  induction n generalizing v with
  | zero => rfl
  | succ n ih =>
    have hbyte : BitVec.ofNat 8 (v % 256 ^ (n + 1)) = BitVec.ofNat 8 v := by
      refine BitVec.eq_of_toNat_eq ?_
      rw [BitVec.toNat_ofNat, BitVec.toNat_ofNat]
      exact Nat.mod_mod_of_dvd v (Dvd.intro_left (256 ^ n) rfl)
    rw [leBytes, leBytes, hbyte, Nat.pow_succ', Nat.mod_mul_right_div_self, ih]

/-- The two 32-bit words of a 64-bit register, as bytes. -/
theorem leBytes_words (v : Nat) : leBytes (BitVec.ofNat 32 v).toNat 4 ++ leBytes (BitVec.ofNat 32 (v / 2 ^ 32)).toNat 4 = leBytes v 8 := by
  rw [BitVec.toNat_ofNat, BitVec.toNat_ofNat, show (2 ^ 32 : Nat) = 256 ^ 4 from rfl, leBytes_mod, leBytes_mod, ← leBytes_append]

/-! ### Writing bytes to an engine's memories (R98, R101) -/

section
variable {x : Engine} {n : Nat}

/-- What every byte's write leaves, the write of all of them leaves. -/
theorem putBytes_keeps {α : Type} (p : Engine → α) {f : Engine → Nat → Byte → Engine} (hf : ∀ y o b, p (f y o b) = p y)
    (bs : List Byte) (y : Engine) (o : Nat) : p (putBytes f y o bs) = p y := by
  induction bs generalizing y o with
  | nil => rfl
  | cons b bs ih => exact (ih _ _).trans (hf _ _ _)

theorem setMemByte_prog (y : Engine) (o : Nat) (b : Byte) : (setMemByte y o b).prog = y.prog := by
  unfold setMemByte
  split <;> rfl

theorem setProgByte_mem (y : Engine) (o : Nat) (b : Byte) : (setProgByte y o b).mem = y.mem := rfl

theorem putByte_getLsbD {w k i : Nat} {v : BitVec w} {b : Byte} (hi : i < w) :
    (putByte w v k b).getLsbD i = if 8 * k ≤ i ∧ i < 8 * k + 8 then b.getLsbD (i - 8 * k) else v.getLsbD i := by
  have hmask : ((0xFF#w).shiftLeft (8 * k)).getLsbD i = decide (8 * k ≤ i ∧ i < 8 * k + 8) := by
    rw [BitVec.shiftLeft_eq, BitVec.getLsbD_shiftLeft, BitVec.getLsbD_ofNat, show (0xFF : Nat) = 2 ^ 8 - 1 from rfl,
      Nat.testBit_two_pow_sub_one, Bool.eq_iff_iff]
    simp
    omega
  have hbyte : ((b.setWidth w).shiftLeft (8 * k)).getLsbD i = (decide (8 * k ≤ i ∧ i < 8 * k + 8) && b.getLsbD (i - 8 * k)) := by
    rw [BitVec.shiftLeft_eq, BitVec.getLsbD_shiftLeft, BitVec.getLsbD_setWidth, Bool.eq_iff_iff]
    cases hb : b.getLsbD (i - 8 * k)
    · simp only [Bool.and_false]
    · have hlt : i - 8 * k < 8 := BitVec.lt_of_getLsbD hb
      simp only [Bool.and_true, Bool.and_eq_true, Bool.not_eq_true', decide_eq_true_eq, decide_eq_false_iff_not]
      omega
  rw [putByte, BitVec.getLsbD_or, BitVec.getLsbD_and, BitVec.getLsbD_not, hmask, hbyte]
  split <;> simp [*]

/-- A bundle's word after one of its bytes is written. -/
theorem prog_setProgByte {k : Nat} {b : Byte} (hk : k < 8) (hw : tabWf zero64 x.prog = true) :
    tabGet zero64 (setProgByte x (8 * n + k) b).prog n = putByte 64 (tabGet zero64 x.prog n) k b := by
  have hword : (8 * n + k) / 8 = n := by omega
  have hbyte : (8 * n + k) % 8 = k := by omega
  rw [setProgByte, hword, hbyte]
  exact tabGet_tabSet_same _ _ _ _ hw

theorem setProgByte_wf {o : Nat} {b : Byte} (hw : tabWf zero64 x.prog = true) : tabWf zero64 (setProgByte x o b).prog = true :=
  tabWf_tabSet _ _ _ _ hw

/-- The bits of a bundle's word after bytes of a number are written to it from byte `k` up. -/
theorem prog_putBytes_getLsbD {v m k i : Nat} (hk : k + m ≤ 8) (hi : i < 64) (hw : tabWf zero64 x.prog = true) :
    (tabGet zero64 (putBytes setProgByte x (8 * n + k) (leBytes v m)).prog n).getLsbD i =
      if 8 * k ≤ i ∧ i < 8 * (k + m) then v.testBit (i - 8 * k) else (tabGet zero64 x.prog n).getLsbD i := by
  induction m generalizing x k v with
  | zero =>
    have hnone : ¬(8 * k ≤ i ∧ i < 8 * (k + 0)) := by omega
    rw [if_neg hnone]
    rfl
  | succ m ih =>
    rw [leBytes, putBytes, Nat.add_assoc, ih (by omega) (setProgByte_wf hw), prog_setProgByte (by omega) hw, putByte_getLsbD hi]
    by_cases hlow : 8 * k ≤ i ∧ i < 8 * k + 8
    · have hno : ¬(8 * (k + 1) ≤ i ∧ i < 8 * (k + 1 + m)) := by omega
      have hall : 8 * k ≤ i ∧ i < 8 * (k + (m + 1)) := by omega
      have hbit : i - 8 * k < 8 := by omega
      simp only [hno, hlow, hall, and_self, if_true, if_false, BitVec.getLsbD_ofNat, hbit, decide_true, Bool.true_and]
    · by_cases hhigh : 8 * (k + 1) ≤ i ∧ i < 8 * (k + 1 + m)
      · have hall : 8 * k ≤ i ∧ i < 8 * (k + (m + 1)) := by omega
        have hbit : i - 8 * k = i - 8 * (k + 1) + 8 := by omega
        rw [if_pos hhigh, if_pos hall, hbit, Nat.testBit_add, show (256 : Nat) = 2 ^ 8 from rfl]
      · have hall : ¬(8 * k ≤ i ∧ i < 8 * (k + (m + 1))) := by omega
        rw [if_neg hhigh, if_neg hlow, if_neg hall]

/-- The eight bytes of a bundle make its word. -/
theorem prog_putBytes_word (w : BitVec 64) (hw : tabWf zero64 x.prog = true) :
    tabGet zero64 (putBytes setProgByte x (8 * n) (leBytes w.toNat 8)).prog n = w := by
  refine BitVec.eq_of_getLsbD_eq fun i hi => ?_
  rw [← Nat.add_zero (8 * n), prog_putBytes_getLsbD (by omega) hi hw, if_pos (by omega)]
  rfl

end

/-! ### Stream clocks (R129) -/

section
variable {x : Engine}

theorem stream_setStream {i j : Nat} {g : Gusset} (hi : i < 4) (hj : j < 4) :
    (x.setStream i g).stream j = if j = i then g else x.stream j := by
  interval_cases i <;> interval_cases j <;> rfl

theorem setStream_streamClk (i : Nat) (g : Gusset) : (x.setStream i g).streamClk = x.streamClk := by
  unfold Engine.setStream
  split <;> rfl

/-- The engine with the streams of a list emptied for which `c` holds. -/
def emptied (c : Nat → Bool) (is : List Nat) (x : Engine) : Engine := is.foldl (fun y i => if c i then y.setStream i {} else y) x

theorem emptied_streamClk (c : Nat → Bool) (is : List Nat) : (emptied c is x).streamClk = x.streamClk := by
  induction is generalizing x with
  | nil => rfl
  | cons i is ih =>
    refine ih.trans ?_
    simp only
    split
    · exact setStream_streamClk _ _
    · rfl

theorem emptied_stream (c : Nat → Bool) {is : List Nat} {j : Nat} (his : ∀ i ∈ is, i < 4) (hj : j < 4) :
    (emptied c is x).stream j = if j ∈ is ∧ c j = true then {} else x.stream j := by
  induction is generalizing x with
  | nil => simp [emptied]
  | cons i is ih =>
    have hi : i < 4 := his i (by simp)
    have hrest : emptied c (i :: is) x = emptied c is (if c i then x.setStream i {} else x) := rfl
    rw [hrest, ih fun k hk => his k (by simp [hk])]
    cases hc : c i with
    | false => by_cases hji : j = i <;> simp [hji, hc]
    | true => by_cases hji : j = i <;> simp [hji, hc, stream_setStream hi, hi, hj]

/-- The five selects of a word, one after another, are its low 20 bits. -/
theorem streamClk_fields (v : BitVec 32) :
    BitVec.ofNat 20 ((upto 5).foldl (fun a i => a + fieldOf v (4 * i) 4 * 2 ^ (4 * i)) 0) = v.setWidth 20 := by
  refine BitVec.eq_of_toNat_eq ?_
  simp only [upto, List.range_succ, List.range_zero, List.nil_append, List.cons_append, List.foldl_cons, List.foldl_nil, fieldOf,
    bitsAt_eq, BitVec.toNat_ofNat, BitVec.toNat_setWidth]
  omega

/-- A word of selects none of which is reserved is stored as it is, and a stream is emptied where its select changes. -/
theorem streamClkWrite_eq {v : BitVec 32} (hx : x.state ≠ .running) (hv : ∀ i, i < 5 → fieldOf v (4 * i) 4 < 12) :
    streamClkWrite v x =
      emptied (fun i => decide (fieldOf v (4 * i) 4 ≠ x.clkSel i)) (upto 4) { x with streamClk := v.setWidth 20 } := by
  have hone (i : Nat) (hi : i < 5) : (if fieldOf v (4 * i) 4 ≥ 12 then 15 else fieldOf v (4 * i) 4) = fieldOf v (4 * i) 4 :=
    if_neg (Nat.not_le.mpr (hv i hi))
  have hnew : (upto 5).foldl (fun a i => a + (if fieldOf v (4 * i) 4 ≥ 12 then 15 else fieldOf v (4 * i) 4) * 2 ^ (4 * i)) 0 =
      (upto 5).foldl (fun a i => a + fieldOf v (4 * i) 4 * 2 ^ (4 * i)) 0 :=
    List.foldl_ext _ _ _ fun a i hi => by rw [hone i (List.mem_range.mp hi)]
  simp only [streamClkWrite, beq_iff_eq, hx, if_false, hnew, streamClk_fields]
  exact List.foldl_ext _ _ _ fun y i hi => by
    simp only [hone i ((List.mem_range.mp hi).trans (by decide)), decide_eq_true_eq]

end
end Sys2Proof.Machine
end

section
/-!
The accesses to a Clover engine as commands (04_clover_engines R101, R102, R124, R129, R132).
-/
namespace Sys2Proof.Machine

section
variable {d : Device} {e off len : Nat} {data : List Byte}

/-! ### Access to the memories (R101) -/

/-- An access over the network that the recorder neither feeds nor records is the access itself, with its answer. -/
theorem clvAccess_eq {w : Bool} {st : Nat} {bs : List Byte} {d' : Device} (hf : d.feeds (e / 48) = false)
    (hacc : cloverAccess e w off len data d = (st, bs, d')) (hrep : d'.replayed (e / 48) = false) :
    clvAccess e w off len data d = d'.answer st bs := by
  simp [clvAccess, cloverNet, hf, hacc, clvRecord, hrep]

section
variable (hon : engineOn d e = true)
include hon

theorem cloverAccess_read (ht : off + len ≤ 0x6000) (hb : (d.engine e).memBad = []) :
    cloverAccess e false off len data d = (0, (upto len).map (fun i => memByte (d.engine e) (off + i)), d) := by
  simp [cloverAccess, hon, ht, hb]

theorem cloverAccess_write (ht : off + len ≤ 0x6000) (hb : (d.engine e).memBad = []) :
    cloverAccess e true off len data d =
      (0, [], d.setEngine e { putBytes setMemByte (d.engine e) off data with memBad := [] }) := by
  simp [cloverAccess, hon, ht, hb]

section
variable (ho : 0x8000 ≤ off) (ht : off + len ≤ 0x9000)
include ho ht

/-- The program store of an engine that runs is out of reach. -/
theorem cloverAccess_prog_of_running (hx : (d.engine e).state = .running) :
    cloverAccess e true off len data d = (8, [], d) := by
  have hmem : ¬(off + len ≤ 0x6000) := by omega
  simp only [cloverAccess, hon, hmem, ho, ht, hx, Bool.not_true, Bool.false_eq_true, and_self, beq_self_eq_true, if_true, if_false]

/-- A write to the program store clears prog_valid. -/
theorem cloverAccess_prog_write (hx : (d.engine e).state ≠ .running) :
    ∃ bad, cloverAccess e true off len data d = (0, [], d.setEngine e { putBytes setProgByte (d.engine e) (off - 0x8000) data with
      ctrl := withField (putBytes setProgByte (d.engine e) (off - 0x8000) data).ctrl 0 1 0, progBad := bad }) := by
  have hmem : ¬(off + len ≤ 0x6000) := by omega
  simp only [cloverAccess, hon, hmem, ho, ht, beq_iff_eq, hx, Bool.not_true, Bool.false_eq_true, and_self, if_true, if_false]
  exact ⟨_, rfl⟩

end
end

theorem clvStarved_of_running (hx : (d.engine e).state = .running) (hr : engineRuns d e = true) (w : Bool) :
    clvStarved e w off len data d = clvAccess e w off len data (d.setEngine e (countCycle true (d.engine e))) := by
  simp [clvStarved, hx, hr]

theorem withField_zero_getLsbD (v : Word) : (withField v 0 1 0).getLsbD 0 = false := by
  have heven : (withField v 0 1 0).toNat % 2 = 0 := by
    rw [withField_toNat v 0 1 0 (by decide)]
    unfold putBits
    omega
  simp [BitVec.getLsbD, Nat.testBit_zero, heven]

/-! ### The state window (R132) -/

/-- A 32-bit word of a complex register. -/
theorem cloverReg_creg (x : Engine) {o : Nat} (ho : 0x400 ≤ o) (ho' : o < 0x500) :
    cloverReg x o = some (halfWord (x.creg ((o - 0x400) / 8)).toNat o) := by
  have hwin : inWindow o = true := decide_eq_true (by omega)
  rw [cloverReg, if_pos hwin, windowRead, if_pos ho']

/-- The two words of register `i`, low and high. -/
theorem cloverReg_creg_words (x : Engine) {o i : Nat} (hi : i < 32) (ho : o = 0x400 + 8 * i) :
    cloverReg x o = some (BitVec.ofNat 32 (x.creg i).toNat) ∧
    cloverReg x (o + 4) = some (BitVec.ofNat 32 ((x.creg i).toNat / 2 ^ 32)) := by
  constructor
  · have hword : (o - 0x400) / 8 = i := by omega
    have halign : o % 8 ≠ 4 := by omega
    rw [cloverReg_creg x (by omega) (by omega), hword, halfWord, if_neg halign]
  · have hword : (o + 4 - 0x400) / 8 = i := by omega
    have halign : (o + 4) % 8 = 4 := by omega
    rw [cloverReg_creg x (by omega) (by omega), hword, halfWord, if_pos halign]

section
variable (hon : engineOn d e = true)
include hon

/-- A complex register of an engine that does not run reads as its eight bytes. -/
theorem cloverControl_read_creg {i : Nat} (hi : i < 32) (hx : (d.engine e).state ≠ .running) :
    cloverControl e false (0x400 + 8 * i) 8 data d = (0, leBytes ((d.engine e).creg i).toNat 8, d) := by
  obtain ⟨hlow, hhigh⟩ := cloverReg_creg_words (d.engine e) hi rfl
  have halign : (0x400 + 8 * i) % 8 = 0 := by omega
  simp [cloverControl, hon, hx, hlow, hhigh, halign, ← leBytes_words]

/-- The window of an engine that runs is out of reach. -/
theorem cloverControl_window_of_running (hx : (d.engine e).state = .running) :
    cloverControl e false 0x400 8 data d = (8, [], d) := by
  have hlow := cloverReg_creg (d.engine e) (o := 0x400) (by decide) (by decide)
  have hwin : inWindow 0x400 = true := by decide
  simp [cloverControl, hon, hx, hwin, hlow]

end

/-! ### The notify write (R124) -/

theorem notifyWrite_cons {runs cycles : Nat} {rest : List (Nat × Nat)} (hn : (d.engine e).notify = (runs, cycles) :: rest) {st : Nat}
    {d' : Device} (hst : st ≠ notTaken)
    (hw : (st, d') = busWrite (byEngine d e) 1
      ((d.engine e).notifyLo.toNat / 8 * 8 + (d.engine e).notifyHi.toNat % 65536 * 2 ^ 32)
      (leBytes cycles 4 ++ leBytes runs 4) (d.setEngine e { d.engine e with notify := rest })) :
    notifyWrite e d =
      if st = 0 then flushReplies d' else d'.setEngine e { d'.engine e with flags := (d'.engine e).flags ||| 0x200 } := by
  simp only [notifyWrite, hn, ← hw, hst, if_false]

end

/-! ### Where the commands complete -/

section
variable {s : State} {e : Fin 1536}

theorem gives_clvNetworkAccess (w : Bool) (off : BitVec 16) (len : Nat) (data : List Byte) :
    gives (.clvNetworkAccess e w off len data) s (clvAccess e.val w off.toNat len data s.dev) := rfl
theorem gives_clvNetworkStarvation (w : Bool) (off : BitVec 16) (len : Nat) (data : List Byte) :
    gives (.clvNetworkStarvation e w off len data) s (clvStarved e.val w off.toNat len data s.dev) := rfl
theorem gives_programStoreWrite (n : Fin 512) (w : BitVec 64) :
    gives (.programStoreWrite e n w) s (clvAccess e.val true (0x8000 + 8 * n.val) 8 (leBytes w.toNat 8) s.dev) := rfl
theorem gives_stateWindowAccess (w : Bool) (off : BitVec 12) (len : Nat) (data : List Byte) :
    gives (.stateWindowAccess e w off len data) s (windowAccess e.val w off.toNat len data s.dev) := rfl
theorem gives_streamClkWrite (v : BitVec 32) (hon : engineOn s.dev e.val = true) :
    gives (.streamClkWrite e v) s
      (clvGap e.val ((s.dev.setEngine e.val (streamClkWrite v (s.dev.engine e.val))).answer 0 [])).settle := by
  have heq : gives (.streamClkWrite e v) s (if engineOn s.dev e.val then
      (clvGap e.val ((s.dev.setEngine e.val (streamClkWrite v (s.dev.engine e.val))).answer 0 [])).settle else s.dev.answer 2 []) := rfl
  rwa [if_pos hon] at heq
theorem gives_notifyWrite : gives (.notifyWrite e) s (s.dev.moved (notifyWrite e.val s.dev)) := liftMode_gives s _

section
variable (hon : engineOn s.dev e.val = true) (hrep : s.dev.replayed (e.val / 48) = false) (hf : s.dev.feeds (e.val / 48) = false)
  (hw : tabWf engineReset s.dev.clv = true)
include hon

theorem stateWindowAccess_completes {i : Fin 32} (hx : (s.dev.engine e.val).state ≠ .running) :
    gives (.stateWindowAccess e false (BitVec.ofNat 12 (0x400 + 8 * i.val)) 8 []) s
      (s.dev.answer 0 (leBytes ((s.dev.engine e.val).creg i.val).toNat 8)) := by
  have hoff : (BitVec.ofNat 12 (0x400 + 8 * i.val)).toNat = 0x400 + 8 * i.val := by
    rw [BitVec.toNat_ofNat]
    omega
  refine gives_of_eq (gives_stateWindowAccess ..) ?_
  rw [windowAccess, hoff, cloverControl_read_creg hon i.isLt hx]

theorem stateWindowAccess_of_running (hx : (s.dev.engine e.val).state = .running) :
    gives (.stateWindowAccess e false 0x400 8 []) s (s.dev.answer 8 []) := by
  refine gives_of_eq (gives_stateWindowAccess ..) ?_
  have hoff : (0x400 : BitVec 12).toNat = 0x400 := by decide
  rw [windowAccess, hoff, cloverControl_window_of_running hon hx]

include hrep hf

theorem clvNetworkAccess_read_completes {off : BitVec 16} {len : Nat} (ht : off.toNat + len ≤ 0x6000)
    (hb : (s.dev.engine e.val).memBad = []) :
    gives (.clvNetworkAccess e false off len []) s
      (s.dev.answer 0 ((upto len).map (fun i => memByte (s.dev.engine e.val) (off.toNat + i)))) :=
  gives_of_eq (gives_clvNetworkAccess ..) (clvAccess_eq hf (cloverAccess_read hon ht hb) hrep)

theorem programStoreWrite_of_running {n : Fin 512} {w : BitVec 64} (hx : (s.dev.engine e.val).state = .running) :
    gives (.programStoreWrite e n w) s (s.dev.answer 8 []) :=
  gives_of_eq (gives_programStoreWrite ..)
    (clvAccess_eq hf (cloverAccess_prog_of_running hon (by omega) (by omega) hx) hrep)

include hw

theorem clvNetworkAccess_write_completes {off : BitVec 16} {data : List Byte} (ht : off.toNat + data.length ≤ 0x6000)
    (hb : (s.dev.engine e.val).memBad = []) :
    ∃ t, exec (.clvNetworkAccess e true off data.length data) s = .next t ∧ t.dev.rsp.status = 0 ∧
      (t.dev.engine e.val).mem = (putBytes setMemByte (s.dev.engine e.val) off.toNat data).mem ∧
      (t.dev.engine e.val).prog = (s.dev.engine e.val).prog ∧ t.dev.regs = s.dev.regs := by
  refine ⟨_, gives_of_eq (gives_clvNetworkAccess ..) (clvAccess_eq hf (cloverAccess_write hon ht hb) hrep), rfl, ?_, ?_, rfl⟩
  · exact (congrArg Engine.mem (Device.engine_setEngine hw)).trans rfl
  · exact (congrArg Engine.prog (Device.engine_setEngine hw)).trans (putBytes_keeps Engine.prog setMemByte_prog ..)

theorem clvNetworkStarvation_completes {off : BitVec 16} {len : Nat} (hx : (s.dev.engine e.val).state = .running)
    (hr : engineRuns s.dev e.val = true) (ht : off.toNat + len ≤ 0x6000) (hb : (s.dev.engine e.val).memBad = []) :
    ∃ t, exec (.clvNetworkStarvation e false off len []) s = .next t ∧ t.dev.rsp.status = 0 ∧
      (t.dev.engine e.val).stalls = sat 4294967295 ((s.dev.engine e.val).stalls + 1) ∧
      (t.dev.engine e.val).pc = (s.dev.engine e.val).pc := by
  have hy := Device.engine_setEngine (e := e.val) (x := countCycle true (s.dev.engine e.val)) hw
  have hread := cloverAccess_read (data := []) (d := s.dev.setEngine e.val (countCycle true (s.dev.engine e.val))) hon ht
    ((congrArg Engine.memBad hy).trans hb)
  refine ⟨_, gives_of_eq (gives_clvNetworkStarvation ..) ((clvStarved_of_running hx hr false).trans (clvAccess_eq hf hread hrep)),
    rfl, ?_, ?_⟩
  · exact congrArg Engine.stalls hy
  · exact (congrArg Engine.pc hy).trans rfl

theorem programStoreWrite_completes {n : Fin 512} {w : BitVec 64} (hx : (s.dev.engine e.val).state ≠ .running)
    (hp : tabWf zero64 (s.dev.engine e.val).prog = true) :
    ∃ t, exec (.programStoreWrite e n w) s = .next t ∧ t.dev.rsp.status = 0 ∧ tabGet zero64 (t.dev.engine e.val).prog n.val = w ∧
      (t.dev.engine e.val).ctrl.getLsbD 0 = false ∧ (t.dev.engine e.val).mem = (s.dev.engine e.val).mem := by
  obtain ⟨bad, hacc⟩ := cloverAccess_prog_write (off := 0x8000 + 8 * n.val) (len := 8) (data := leBytes w.toNat 8) hon (by omega)
    (by omega) hx
  rw [Nat.add_sub_cancel_left] at hacc
  refine ⟨_, gives_of_eq (gives_programStoreWrite ..) (clvAccess_eq hf hacc hrep), rfl, ?_, ?_, ?_⟩
  · exact (congrArg (fun y : Engine => tabGet zero64 y.prog n.val) (Device.engine_setEngine hw)).trans (prog_putBytes_word w hp)
  · exact (congrArg (fun y : Engine => y.ctrl.getLsbD 0) (Device.engine_setEngine hw)).trans (withField_zero_getLsbD _)
  · exact (congrArg Engine.mem (Device.engine_setEngine hw)).trans (putBytes_keeps Engine.mem setProgByte_mem ..)

omit hf

theorem streamClkWrite_completes {v : BitVec 32} (hx : (s.dev.engine e.val).state ≠ .running)
    (hv : ∀ i, i < 5 → fieldOf v (4 * i) 4 < 12) :
    ∃ t, exec (.streamClkWrite e v) s = .next t ∧ t.dev.rsp.status = 0 ∧ (t.dev.engine e.val).streamClk = v.setWidth 20 ∧
      ∀ i : Fin 4, (t.dev.engine e.val).stream i.val =
        (if fieldOf v (4 * i.val) 4 = (s.dev.engine e.val).clkSel i.val then (s.dev.engine e.val).stream i.val else {}) := by
  have hgap : clvGap e.val ((s.dev.setEngine e.val (streamClkWrite v (s.dev.engine e.val))).answer 0 []) =
    (s.dev.setEngine e.val (streamClkWrite v (s.dev.engine e.val))).answer 0 [] := clvGap_of_not_replayed hrep
  have hengine : ((s.dev.setEngine e.val (streamClkWrite v (s.dev.engine e.val))).answer 0 []).settle.engine e.val =
      streamClkWrite v (s.dev.engine e.val) := by
    rw [Device.engine, settle_clv]
    exact Device.engine_setEngine hw
  refine ⟨_, gives_of_eq (gives_streamClkWrite v hon) (congrArg Device.settle hgap), ?_, ?_, fun i => ?_⟩
  · rw [settle_eq]
    rfl
  · rw [hengine, streamClkWrite_eq hx hv, emptied_streamClk]
  · rw [hengine, streamClkWrite_eq hx hv, emptied_stream (is := upto 4) _ (fun _ hi => List.mem_range.mp hi) i.isLt]
    have hstream (k : BitVec 20) : { s.dev.engine e.val with streamClk := k }.stream i.val = (s.dev.engine e.val).stream i.val := by
      unfold Engine.stream
      split <;> rfl
    by_cases hsel : fieldOf v (4 * i.val) 4 = (s.dev.engine e.val).clkSel i.val <;> simp [hsel, hstream, upto]

end
end

/-- Settles O21: access by access, and the notify write by the access it makes. -/
theorem cloverAccessCompletes : Obligations.CloverAccessCompletes := by
  refine ⟨fun s e hon hrep hf hw x hx => ?_, fun s e runs cycles rest hn st d hst hbus => ?_⟩
  · subst hx
    exact ⟨fun _ _ ht hb => clvNetworkAccess_read_completes hon hrep hf ht hb,
      fun _ _ ht hb => clvNetworkAccess_write_completes hon hrep hf hw ht hb,
      fun _ _ hx hr ht hb => clvNetworkStarvation_completes hon hrep hf hw hx hr ht hb,
      fun _ _ hx hp => programStoreWrite_completes hon hrep hf hw hx hp,
      fun _ _ hx => programStoreWrite_of_running hon hrep hf hx,
      fun _ hx hv => streamClkWrite_completes hon hrep hw hx hv,
      fun _ hx => stateWindowAccess_completes hon hx,
      fun hx => stateWindowAccess_of_running hon hx⟩
  · exact gives_of_eq gives_notifyWrite (congrArg s.dev.moved (notifyWrite_cons hn hst hbus))

end Sys2Proof.Machine
end

section
/-!
Column clocks (04_clover_engines R116 to R118): the registers over the update of the device state and over a fault report, and the four
commands.
-/
namespace Sys2Proof.Machine

section
variable {d x : Device} {a : Nat}

/-! ### Registers over an update of the device state (00_scope R16) -/

theorem Device.mgmt_regs (d : Device) : d.mgmt.regs = d.regs := by
  simp only [Device.mgmt, Device.msix]
  split
  · split <;> rfl
  · rfl

theorem stateReg_eq_false : stateReg a = false ↔ a ≠ thmA 0x40 ∧ a ≠ thmA 0x44 := by simp [stateReg]

/-- Showing a state and raising its interrupt leave the other registers. -/
theorem reg_setReg_raiseInt {v : Word} (hw : tabWf regDefault x.regs = true) (ha : stateReg a = false) :
    ((x.setReg (thmA 0x40) v).raiseInt 0).reg a = x.reg a := by
  obtain ⟨hstate, hint⟩ := stateReg_eq_false.mp ha
  rw [Device.raiseInt, Device.reg, Device.mgmt_regs, ← Device.reg, Device.reg_setBit_ne hint (Device.setReg_wf _ _ _ hw),
    Device.reg_setReg_ne _ _ _ _ hstate hw]

theorem updated_reg (d : Device) (hw : tabWf regDefault x.regs = true) (ha : stateReg a = false) : (d.updated x).reg a = x.reg a := by
  have hreport : x.report.reg a = x.reg a := by
    unfold Device.report
    simp only
    split
    · rfl
    · exact reg_setReg_raiseInt hw ha
  unfold Device.updated Device.oneUpdate
  simp only
  split_ifs
  · rfl
  · exact reg_setReg_raiseInt hw ha
  · exact hreport

/-! ### Fault reports (19_mending_faults R489) -/

theorem Device.fifo_setFifo (h : Half) (rs : List Report) : (d.setFifo h rs).fifo h = rs := by cases h <;> rfl

/-- A trigger that the recorder does not take is counted. -/
theorem bobTrigger_of_not_recording {source : Nat} (hb : d.bobState ≠ 1) : d.bobTrigger source = d.bump (bobA 4) 16 8 1 := by
  simp [Device.bobTrigger, hb]

/-- A report enters a FIFO that has room, and where the recorder takes no trigger at most its count of them follows. -/
theorem fault_of_room {h : Half} {cls src detail : Nat} (hf : (d.fifo h).length < 1024) (hb : d.bobState ≠ 1) :
    d.fault h cls src detail = d.setFifo h (d.fifo h ++ [⟨cls, src, detail, d.now h⟩]) ∨
    d.fault h cls src detail = (d.setFifo h (d.fifo h ++ [⟨cls, src, detail, d.now h⟩])).bump (bobA 4) 16 8 1 := by
  have hb' : (d.setFifo h (d.fifo h ++ [⟨cls, src, detail, d.now h⟩])).bobState ≠ 1 := by
    cases h <;> exact hb
  simp only [Device.fault, hf, if_true]
  split
  · exact .inr (bobTrigger_of_not_recording hb')
  · exact .inl rfl

theorem fault_fifo {h : Half} {cls src detail : Nat} (hf : (d.fifo h).length < 1024) (hb : d.bobState ≠ 1) :
    (d.fault h cls src detail).fifo h = d.fifo h ++ [⟨cls, src, detail, d.now h⟩] := by
  have hlog (e : Device) : (e.bump (bobA 4) 16 8 1).fifo h = e.fifo h := by cases h <;> rfl
  rcases fault_of_room hf hb with he | he <;> rw [he]
  · exact Device.fifo_setFifo h _
  · rw [hlog, Device.fifo_setFifo]

theorem fault_bit {h : Half} {cls src detail k : Nat} (hf : (d.fifo h).length < 1024) (hb : d.bobState ≠ 1)
    (hw : tabWf regDefault d.regs = true) (ha : a ≠ bobA 4) : (d.fault h cls src detail).bit a k = d.bit a k := by
  have hset (rs : List Report) : (d.setFifo h rs).regs = d.regs := Device.setFifo_regs d h rs
  have hreg : (d.fault h cls src detail).reg a = d.reg a := by
    rcases fault_of_room hf hb with he | he <;> rw [he]
    · rw [Device.reg, hset, ← Device.reg]
    · rw [Device.bump, Device.setFld, Device.reg_setReg_ne _ _ _ _ ha (by rwa [hset]), Device.reg, hset, ← Device.reg]
  rw [Device.bit, Device.fld, hreg, ← Device.fld, ← Device.bit]

/-! ### What the commands do -/

theorem Device.bit_putBit_same {k : Nat} {b : Bool} (hk : k < 32) (hw : tabWf regDefault d.regs = true) :
    (d.putBit a k b).bit a k = b := by
  rw [Device.bit, Device.putBit, Device.fld_setFld_same d a k 1 _ (by omega) hw]
  cases b <;> rfl

/-- A clock that is not dead is not forced. -/
theorem clockCheck_of_not_failed {n : Nat} (hn : clockFailed d n = false) (hm : d.sys.mode ≠ .loading) : clockCheck n d = d := by
  simp [clockCheck, forceFailed, abandonOnHold, hn, hm]

theorem clockStretch_of_runs {f k n : Nat} (hr : columnRuns d f k = true) (h1 : 1 ≤ n) (h4 : n ≤ 4) :
    clockStretch f k n d = d.bump (stretchA f k) 0 31 1 := by
  simp [clockStretch, hr, h1, h4]

theorem Device.fld_bump_same {lo n by_ : Nat} (h : lo + n ≤ 32) (hw : tabWf regDefault d.regs = true) :
    (d.bump a lo n by_).fld a lo n = (d.fld a lo n + by_) % 2 ^ n := by
  rw [Device.bump, Device.fld_setFld_same _ _ _ _ _ h hw, wrap, Nat.mod_mod]

theorem b2n_le_one (b : Bool) : b2n b ≤ 1 := by cases b <;> decide

theorem stretchA_ne_bobA (f k : Nat) : stretchA f k ≠ bobA 4 := by
  unfold stretchA fldA bobA
  omega

theorem clvClkA_not_stateReg (f : Nat) : stateReg (clvClkA f) = false := by
  refine stateReg_eq_false.mpr ⟨?_, ?_⟩ <;> unfold clvClkA fldA thmA <;> omega

end

/-! ### Where the commands complete -/

section
variable {s : State} {f : Fin 32}

theorem gives_columnClockChange (v) : gives (.columnClockChange f v) s (s.dev.updated (columnClock f.val v s.dev)) :=
  liftReport_gives s _
theorem gives_columnOverspeed (k kHz) : gives (.columnOverspeed f k kHz) s (columnOverspeed f.val (b2n k) kHz s.dev) := rfl
theorem gives_clockStretch (k) (n : Fin 4) : gives (.clockStretch f k n) s (clockStretch f.val (b2n k) (n.val + 1) s.dev) := rfl
theorem gives_stretchMax (k) : gives (.stretchMax f k) s (stretchMax f.val (b2n k) s.dev) := rfl

theorem columnClockChange_completes {v w : BitVec 32} (hw : tabWf regDefault s.dev.regs = true)
    (hv : w = (s.dev.reg (clvClkA f.val) &&& 0xFFFF0000) ||| (v &&& 0x0000FFFF))
    (hn : clockFailed (s.dev.setReg (clvClkA f.val) w) f.val = false) (hm : s.dev.sys.mode ≠ .loading) :
    ∃ t, exec (.columnClockChange f v) s = .next t ∧ t.dev.reg (clvClkA f.val) = w ∧
      ∀ a, a ≠ clvClkA f.val → stateReg a = false → t.dev.reg a = s.dev.reg a := by
  have hwf := Device.setReg_wf s.dev (clvClkA f.val) w hw
  have hclock : columnClock f.val v s.dev = s.dev.setReg (clvClkA f.val) w := by
    rw [columnClock, ← hv]
    exact clockCheck_of_not_failed hn hm
  refine ⟨_, gives_of_eq (gives_columnClockChange v) (congrArg s.dev.updated hclock), ?_, fun a ha hstate => ?_⟩
  · rw [updated_reg _ hwf (clvClkA_not_stateReg _), Device.reg_setReg_same _ _ _ hw]
  · rw [updated_reg _ hwf hstate, Device.reg_setReg_ne _ _ _ _ ha hw]

theorem columnOverspeed_completes {k : Bool} {kHz : Nat} (hw : tabWf regDefault s.dev.regs = true) :
    ∃ t, exec (.columnOverspeed f k kHz) s = .next t ∧ t.dev.bit (clvClkA f.val) (18 + b2n k) = decide (1270000 < kHz) :=
  have hk := b2n_le_one k
  ⟨_, gives_columnOverspeed k kHz, Device.bit_putBit_same (by omega) hw⟩

theorem clockStretch_completes {k : Bool} {n : Fin 4} (hw : tabWf regDefault s.dev.regs = true)
    (hr : columnRuns s.dev f.val (b2n k) = true) :
    ∃ t, exec (.clockStretch f k n) s = .next t ∧
      t.dev.fld (stretchA f.val (b2n k)) 0 31 = (s.dev.fld (stretchA f.val (b2n k)) 0 31 + 1) % 2 ^ 31 ∧ t.dev.clv = s.dev.clv :=
  ⟨_, gives_of_eq (gives_clockStretch k n) (clockStretch_of_runs hr (by omega) (by omega)), Device.fld_bump_same (by decide) hw, rfl⟩

theorem stretchMax_completes {k : Bool} (hb : s.dev.bobState ≠ 1) (hw : tabWf regDefault s.dev.regs = true)
    (hf : (s.dev.fifo (halfOfField f.val)).length < 1024) :
    ∃ t, exec (.stretchMax f k) s = .next t ∧ t.dev.bit (stretchA f.val (b2n k)) 31 = true ∧
      t.dev.fifo (halfOfField f.val) = s.dev.fifo (halfOfField f.val) ++
        [⟨0x19, f.val * 65536 + b2n k, 0, s.dev.now (halfOfField f.val)⟩] := by
  have hbob : (s.dev.setBit (stretchA f.val (b2n k)) 31).bobState ≠ 1 := by
    rw [Device.bobState, Device.fld, Device.reg_setBit_ne (stretchA_ne_bobA _ _).symm hw]
    exact hb
  have hlog (h : Half) : (s.dev.setBit (stretchA f.val (b2n k)) 31).fifo h = s.dev.fifo h := by cases h <;> rfl
  have hnow (h : Half) : (s.dev.setBit (stretchA f.val (b2n k)) 31).now h = s.dev.now h := by cases h <;> rfl
  have hroom : ((s.dev.setBit (stretchA f.val (b2n k)) 31).fifo (halfOfField f.val)).length < 1024 := by rwa [hlog]
  refine ⟨_, gives_stretchMax k, ?_, ?_⟩
  · exact (fault_bit hroom hbob (Device.setReg_wf _ _ _ hw) (stretchA_ne_bobA _ _)).trans (Device.bit_setBit_same (by decide) hw)
  · rw [← hlog, ← hnow]
    exact fault_fifo hroom hbob

end

/-- Settles O22: command by command. -/
theorem columnClocks : Obligations.ColumnClocks :=
  ⟨fun _ _ _ hw hn hm => columnClockChange_completes hw rfl hn hm, fun _ _ _ _ hw => columnOverspeed_completes hw,
    fun _ _ _ _ hw hr => clockStretch_completes hw hr, fun _ _ _ hb hw hf => stretchMax_completes hb hw hf⟩

end Sys2Proof.Machine
end

section
/-!
The encoding of Clover bundles (05_clover_instruction_set R133 to R138, R148 to R151): a field of a word reads back, whatever stands
above and below it; from it each slot reads back from its own bits, and each format's bundle from its 64 bits.
-/
namespace Sys2Proof.Machine

/-! ### Reading a field of a sum of fields -/

section
variable {v r lo n k : Nat}

/-- What stands above a field is not read. -/
theorem bitsAt_above (h : lo + n ≤ k) : bitsAt (v * 2 ^ k + r) lo n = bitsAt r lo n := by
  obtain ⟨j, rfl⟩ := Nat.exists_eq_add_of_le h
  have hsplit : v * 2 ^ (lo + n + j) + r = r + 2 ^ lo * (2 ^ n * (2 ^ j * v)) := by rw [Nat.pow_add, Nat.pow_add]; ring
  rw [bitsAt_eq, bitsAt_eq, hsplit, Nat.add_mul_div_left _ _ (Nat.two_pow_pos _), Nat.add_mul_mod_self_left]

/-- A field reads its value over what stands below. -/
theorem bitsAt_field (hv : v < 2 ^ n) (hr : r < 2 ^ lo) : bitsAt (v * 2 ^ lo + r) lo n = v := by
  rw [bitsAt_eq, Nat.add_comm, Nat.add_mul_div_right _ _ (Nat.two_pow_pos _), Nat.div_eq_of_lt hr, Nat.zero_add, Nat.mod_eq_of_lt hv]

theorem bitsAt_field_over_zero (hv : v < 2 ^ n) : bitsAt (v * 2 ^ lo) lo n = v := bitsAt_field hv (Nat.two_pow_pos lo)

/-- The lowest field. -/
theorem bitsAt_low (h : r < 2 ^ n) : bitsAt r 0 n = r := by rw [bitsAt_eq, Nat.pow_zero, Nat.div_one, Nat.mod_eq_of_lt h]

end

@[simp] theorem b2n_false : b2n false = 0 := rfl
@[simp] theorem b2n_true : b2n true = 1 := rfl
@[simp] theorem b2n_beq_one (b : Bool) : (b2n b == 1) = b := by cases b <;> rfl

theorem unsign_lt (m : Int) : unsign 12 m < 2 ^ 12 := by unfold unsign; omega

theorem signed_unsign {m : Int} (hlo : -2048 ≤ m) (hhi : m < 2048) : signed 12 (unsign 12 m) = m := by
  unfold signed unsign
  split <;> omega

/-! ### Memory slots (R135, R141) -/

/-- The 15 bits of a memory slot, field by field. -/
def memWord (kind pair p reg k st : Nat) : Nat :=
  kind * 2 ^ 13 + (pair * 2 ^ 12 + (p * 2 ^ 9 + (reg * 2 ^ 4 + (k * 2 ^ 3 + st))))

theorem memWord_lt {kind pair p reg k st : Nat} (hkind : kind < 4) (hpair : pair ≤ 1) (hp : p < 8) (hreg : reg < 32) (hk : k ≤ 1)
    (hst : st < 8) : memWord kind pair p reg k st < 2 ^ 15 := by unfold memWord; omega

/-- The modify bit stands for its modifier. -/
theorem modBit_eq_some {pair : Bool} {m : Int} {k : Nat} (h : modBit pair m = some k) :
    k ≤ 1 ∧ (if k = 0 then 0 else if pair then 2 else 1) = m := by
  unfold modBit at h
  split_ifs at h with h0 h1 h1 <;> cases h <;> simp_all

theorem encodeMem_load (st : Nat) (pair : Bool) (p reg : Nat) (m : Int) :
    encodeMem (some (st, .load pair p reg m)) = (modBit pair m).map (fun k => memWord 1 (b2n pair) p reg k st) := by
  simp [encodeMem, memWord, Nat.add_assoc]

theorem encodeMem_store (st : Nat) (pair : Bool) (p reg : Nat) (m : Int) :
    encodeMem (some (st, .store pair p reg m)) = (modBit pair m).map (fun k => memWord 2 (b2n pair) p reg k st) := by
  simp [encodeMem, memWord, Nat.add_assoc]

theorem encodeMem_sread (st s1 reg : Nat) : encodeMem (some (st, .sread s1 reg)) = some (memWord 3 0 s1 reg 0 st) := by
  simp [encodeMem, memWord, Nat.add_assoc]

theorem encodeMem_swrite (st s1 reg : Nat) (last : Bool) :
    encodeMem (some (st, .swrite s1 reg last)) = some (memWord 3 0 (4 + s1) reg (b2n last) st) := by
  simp [encodeMem, memWord, Nat.add_assoc]

/-- A memory slot that its 15 bits can express reads back from them. -/
theorem decodeMem_encodeMem {wide : Bool} {o : Option (Nat × MemSlot)} {w : Nat} (hwf : memWf wide o = true)
    (h : encodeMem o = some w) : w < 2 ^ 15 ∧ decodeMem w = o := by
  rcases o with _ | ⟨st, s⟩
  · cases h
    decide
  · simp only [memWf, Bool.and_eq_true, decide_eq_true_eq] at hwf
    obtain ⟨hst, hs⟩ := hwf
    cases s with
    | load pair p reg m | store pair p reg m =>
      simp only [encodeMem_load, encodeMem_store, Option.map_eq_some_iff] at h
      obtain ⟨k, hm, rfl⟩ := h
      obtain ⟨hk, hmod⟩ := modBit_eq_some hm
      simp only [Bool.and_eq_true, decide_eq_true_eq] at hs
      obtain ⟨⟨hp, hreg⟩, -⟩ := hs
      have hpair := b2n_le_one pair
      refine ⟨memWord_lt (by decide) hpair hp hreg hk hst, ?_⟩
      simp (disch := omega) only [decodeMem, memWord, bitsAt_above, bitsAt_field, bitsAt_low, b2n_beq_one, hmod, -Nat.reducePow]
    | sread s1 reg =>
      rw [encodeMem_sread, Option.some_inj] at h
      obtain ⟨hs1, hreg⟩ := of_decide_eq_true hs
      have hfree : bitsAt s1 1 1 = 0 ∧ bitsAt s1 2 1 = 0 ∧ s1 % 2 = s1 := by simp only [bitsAt_eq]; omega
      refine h ▸ ⟨memWord_lt (by decide) (by decide) (by omega) hreg (by decide) hst, ?_⟩
      simp (disch := omega) only [decodeMem, memWord, bitsAt_above, bitsAt_field, bitsAt_low, hfree, -Nat.reducePow]
      simp
    | swrite s1 reg last =>
      rw [encodeMem_swrite, Option.some_inj] at h
      obtain ⟨hs1, hreg⟩ := of_decide_eq_true hs
      have hlast := b2n_le_one last
      have hfree : bitsAt (4 + s1) 1 1 = 0 ∧ bitsAt (4 + s1) 2 1 = 1 ∧ (4 + s1) % 2 = s1 := by simp only [bitsAt_eq]; omega
      refine h ▸ ⟨memWord_lt (by decide) (by decide) (by omega) hreg hlast hst, ?_⟩
      simp (disch := omega) only [decodeMem, memWord, bitsAt_above, bitsAt_field, bitsAt_low, b2n_beq_one, hfree, -Nat.reducePow]
      simp

/-- A slot of format 0 or 1 in range has its 15 bits. -/
theorem encodeMem_isSome {o : Option (Nat × MemSlot)} (hwf : memWf false o = true) : (encodeMem o).isSome = true := by
  rcases o with _ | ⟨st, _ | _ | _ | _⟩ <;> simp_all [memWf, encodeMem]

/-- So the early slot reads back from its bits. -/
theorem decodeMem_early {o : Option (Nat × MemSlot)} (hwf : memWf false o = true) :
    (encodeMem o).getD 0 < 2 ^ 15 ∧ decodeMem ((encodeMem o).getD 0) = o := by
  obtain ⟨w, hw⟩ := Option.isSome_iff_exists.mp (encodeMem_isSome hwf)
  rw [hw]
  exact decodeMem_encodeMem hwf hw

/-! ### MAC slots (R136) -/

theorem encodeMac_bounds {o : Option MacSlot} (hwf : macWf o = true) :
    (encodeMac o).1 < 4 ∧ (encodeMac o).2.1 < 4 ∧ (encodeMac o).2.2.1 < 32 ∧ (encodeMac o).2.2.2 < 32 := by
  cases o with
  | none => decide
  | some s =>
    simp only [macWf, decide_eq_true_eq] at hwf
    obtain ⟨-, hop, hrest⟩ := hwf
    exact ⟨Nat.lt_succ_of_le hop, hrest⟩

theorem decodeMac_encodeMac {o : Option MacSlot} (hwf : macWf o = true) :
    decodeMac (encodeMac o).1 (encodeMac o).2.1 (encodeMac o).2.2.1 (encodeMac o).2.2.2 = o := by
  cases o with
  | none => rfl
  | some s =>
    simp only [macWf, decide_eq_true_eq] at hwf
    exact if_neg (by simp only [encodeMac]; omega)

/-! ### Operation slots (R148 to R151) -/

theorem encodeOp_format (o : ClvOp) : (encodeOp o).1 = 1 ∨ (encodeOp o).1 = 2 ∨ (encodeOp o).1 = 3 := by cases o <;> simp [encodeOp]

/-- The fields of an operation stay in their places, and those of format 1 above the early slot. -/
theorem encodeOp_bounds {o : ClvOp} (hwf : opWf o = true) :
    (encodeOp o).2.1 < 2 ^ 6 ∧ (encodeOp o).2.2 < 2 ^ 52 ∧ ((encodeOp o).1 = 1 → (encodeOp o).2.2 % 2 ^ 15 = 0) := by
  cases o
  case ldi dst imm =>
    have himm := imm.isLt
    simp only [opWf, encodeOp, decide_eq_true_eq] at hwf ⊢
    omega
  case flag value mask =>
    have hvalue := value.isLt
    have hmask := mask.isLt
    simp only [encodeOp]
    omega
  all_goals
    simp only [opWf, encodeOp, decide_eq_true_eq] at hwf ⊢
    grind [b2n_le_one, unsign_lt]

/-- The 58 bits of an operation below its stage, with the early slot's 15 bits `low`. -/
def opBody (o : ClvOp) (low : Nat) : Nat := (encodeOp o).2.1 * 2 ^ 52 + ((encodeOp o).2.2 + low)

section
variable {o : ClvOp} {low : Nat}

theorem opBody_zero : opBody o 0 = (encodeOp o).2.1 * 2 ^ 52 + (encodeOp o).2.2 := by rw [opBody, Nat.add_zero]

theorem opBody_opcode (hwf : opWf o = true) (hlow : (encodeOp o).1 = 1 ∧ low < 2 ^ 15 ∨ low = 0) :
    opBody o low < 2 ^ 58 ∧ bitsAt (opBody o low) 52 6 = (encodeOp o).2.1 := by
  obtain ⟨hopcode, hoperands, hfree⟩ := encodeOp_bounds hwf
  exact ⟨by unfold opBody; omega, bitsAt_field hopcode (by omega)⟩

theorem opBody_low (hwf : opWf o = true) (hfmt : (encodeOp o).1 = 1) (hlow : low < 2 ^ 15) : bitsAt (opBody o low) 0 15 = low := by
  obtain ⟨-, -, hfree⟩ := encodeOp_bounds hwf
  have := hfree hfmt
  rw [bitsAt_eq, opBody]
  omega

/-- An operation of format 1 reads back from its opcode and operands (R148 to R150): the opcode picks the layout, in which each operand
stands above the ones that follow it. -/
theorem decodeOperate_opBody (hwf : opWf o = true) (hfmt : (encodeOp o).1 = 1) (hlow : low < 2 ^ 15) :
    decodeOperate (opBody o low) = some o := by
  unfold decodeOperate
  rw [(opBody_opcode hwf (.inl ⟨hfmt, hlow⟩)).2]
  cases o
  case ldi | halt | br | loop | loopr | setp | flag => simp [encodeOp] at hfmt
  case' ext sum _ trunc => have hsum := b2n_le_one sum; have htrunc := b2n_le_one trunc
  case' ext1 trunc im => have htrunc := b2n_le_one trunc; have him := b2n_le_one im
  case' casr add => have hadd := b2n_le_one add
  case' cshr trunc => have htrunc := b2n_le_one trunc
  case' pcmp im => have him := b2n_le_one im
  case' aadd sub _ _ _ => cases sub
  case' pmod m => have hm := unsign_lt m
  all_goals
    simp only [opWf, decide_eq_true_eq] at hwf
    simp (disch := omega) only [opBody, encodeOp, Nat.add_assoc, bitsAt_above, bitsAt_field, if_neg, b2n_false, b2n_true, b2n_beq_one,
      signed_unsign, -Nat.reducePow]

/-- An operation of format 2 reads back (R151). -/
theorem decodeControl_opBody (hwf : opWf o = true) (hfmt : (encodeOp o).1 = 2) : decodeControl (opBody o 0) = some o := by
  unfold decodeControl
  rw [(opBody_opcode hwf (.inr rfl)).2, opBody_zero]
  cases o
  case halt => rfl
  case' loop k1 rotate _ _ _ => have hk1 := b2n_le_one k1; have hrotate := b2n_le_one rotate
  case' loopr k1 rotate _ _ _ => have hk1 := b2n_le_one k1; have hrotate := b2n_le_one rotate
  case' flag value mask => have hvalue := value.isLt; have hmask := mask.isLt
  case br | loop | loopr | setp | flag =>
    simp only [opWf, decide_eq_true_eq] at hwf
    simp (disch := omega) only [encodeOp, Nat.add_assoc, bitsAt_above, bitsAt_field, bitsAt_field_over_zero,
      bitsAt_low, if_neg, b2n_beq_one, BitVec.ofNat_toNat, BitVec.setWidth_eq, -Nat.reducePow]
  all_goals simp [encodeOp] at hfmt

/-- An opcode names an operation or a long access, not both (R150). -/
theorem decodeLate_eq_none_or (w : Nat) : decodeLate w = none ∨ decodeOperate w = none := by
  unfold decodeLate
  split
  case h_3 => exact .inl rfl
  all_goals
    right
    simp [decodeOperate, *]

end

/-- LDL and STL read back from the operation field (R150), above the early slot's 15 bits. -/
theorem decodeLate_encodeLate {st low : Nat} {m : MemSlot} (hwf : memWf true (some (st, m)) = true)
    (hlong : encodeMem (some (st, m)) = none) (hlow : low < 2 ^ 15) :
    encodeLate m + low < 2 ^ 58 ∧ bitsAt (encodeLate m + low) 0 15 = low ∧ decodeLate (encodeLate m + low) = some m := by
  simp only [memWf, Bool.and_eq_true, decide_eq_true_eq] at hwf
  obtain ⟨hst, hm⟩ := hwf
  cases m with
  | sread | swrite => simp [encodeMem] at hlong
  | load pair p reg off | store pair p reg off =>
    have hmod : modBit pair off = none := by simpa [encodeMem] using hlong
    simp only [hmod, Option.isSome_none, Bool.false_or, Bool.true_and, Bool.and_eq_true, decide_eq_true_eq] at hm
    obtain ⟨⟨hp, hreg⟩, hmin, hmax⟩ := hm
    have hpair := b2n_le_one pair
    have hoff := unsign_lt off
    refine ⟨by simp only [encodeLate]; omega, by rw [bitsAt_eq]; simp only [encodeLate]; omega, ?_⟩
    simp (disch := omega) only [decodeLate, encodeLate, Nat.add_assoc, bitsAt_above, bitsAt_field, b2n_beq_one, signed_unsign,
      -Nat.reducePow]

/-! ### Bundles (R133, R134, R137, R138) -/

/-- A word of a format, with the guard enable and a stage, over the 58 bits `body` below them. -/
def bundleWord (fmt : Nat) (g : Bool) (st body : Nat) : Nat := fmt * 2 ^ 62 + (b2n g * 2 ^ 61 + (st * 2 ^ 58 + body))

section
variable {fmt st body : Nat} {g : Bool}

theorem bundleWord_lt (hfmt : fmt < 4) (hst : st < 8) (hbody : body < 2 ^ 58) : bundleWord fmt g st body < 2 ^ 64 := by
  have := b2n_le_one g
  unfold bundleWord
  omega

theorem bundleWord_header (hfmt : fmt < 4) (hst : st < 8) (hbody : body < 2 ^ 58) :
    bitsAt (bundleWord fmt g st body) 62 2 = fmt ∧ (bitsAt (bundleWord fmt g st body) 61 1 == 1) = g ∧
      bitsAt (bundleWord fmt g st body) 58 3 = st := by
  have hg := b2n_le_one g
  simp (disch := omega) only [bundleWord, bitsAt_above, bitsAt_field, b2n_beq_one, and_self, -Nat.reducePow]

theorem bundleWord_body {lo n : Nat} (h : lo + n ≤ 58) : bitsAt (bundleWord fmt g st body) lo n = bitsAt body lo n := by
  simp (disch := omega) only [bundleWord, bitsAt_above, -Nat.reducePow]

/-- The operation fields lie in the body. -/
theorem decodeOperate_bundleWord : decodeOperate (bundleWord fmt g st body) = decodeOperate body := by
  simp (disch := decide) only [decodeOperate, bundleWord_body]

theorem decodeLate_bundleWord : decodeLate (bundleWord fmt g st body) = decodeLate body := by
  simp (disch := decide) only [decodeLate, bundleWord_body]

theorem decodeControl_bundleWord : decodeControl (bundleWord fmt g st body) = decodeControl body := by
  simp (disch := decide) only [decodeControl, bundleWord_body]

theorem decodeBundle_format0 (hst : st < 8) (hbody : body < 2 ^ 58) : decodeBundle (bundleWord 0 g st body) =
    { g := g, stage := st
      mac0 := decodeMac (bitsAt body 56 2) (bitsAt body 54 2) (bitsAt body 49 5) (bitsAt body 44 5)
      mac1 := decodeMac (bitsAt body 42 2) (bitsAt body 40 2) (bitsAt body 35 5) (bitsAt body 30 5)
      early := decodeMem (bitsAt body 15 15), late := decodeMem (bitsAt body 0 15) } := by
  obtain ⟨hfmt, hg, hstage⟩ := bundleWord_header (fmt := 0) (g := g) (by decide) hst hbody
  simp (disch := decide) only [decodeBundle, hfmt, hg, hstage, bundleWord_body]

theorem decodeBundle_format1 (hst : st < 8) (hbody : body < 2 ^ 58) : decodeBundle (bundleWord 1 g st body) =
    { g := g, early := decodeMem (bitsAt body 0 15), late := (decodeLate body).map (fun s => (st, s))
      op := (decodeOperate body).map (fun o => (st, o)) } := by
  obtain ⟨hfmt, hg, hstage⟩ := bundleWord_header (fmt := 1) (g := g) (by decide) hst hbody
  simp (disch := decide) only [decodeBundle, hfmt, hg, hstage, bundleWord_body, decodeLate_bundleWord, decodeOperate_bundleWord]

theorem decodeBundle_format2 (hst : st < 8) (hbody : body < 2 ^ 58) : decodeBundle (bundleWord 2 g st body) =
    { g := g, op := (decodeControl body).map (fun o => (st, o)) } := by
  obtain ⟨hfmt, hg, hstage⟩ := bundleWord_header (fmt := 2) (g := g) (by decide) hst hbody
  simp only [decodeBundle, hfmt, hg, hstage, decodeControl_bundleWord]

theorem decodeBundle_format3 (hst : st < 8) (hbody : body < 2 ^ 58) : decodeBundle (bundleWord 3 g st body) =
    { g := g, op := some (st, .ldi (bitsAt body 53 5) (BitVec.ofNat 48 (bitsAt body 0 48))) } := by
  obtain ⟨hfmt, hg, hstage⟩ := bundleWord_header (fmt := 3) (g := g) (by decide) hst hbody
  simp (disch := decide) only [decodeBundle, hfmt, hg, hstage, bundleWord_body]

end

/-- The bundle fits 64 bits and reads back from them. -/
def RoundTrips (b : Bundle) : Prop := encodeBundle b < 2 ^ 64 ∧ decodeBundle (encodeBundle b) = b

theorem roundTrips_of_bundleWord {b : Bundle} {fmt st body : Nat} {g : Bool} (henc : encodeBundle b = bundleWord fmt g st body)
    (hfmt : fmt < 4) (hst : st < 8) (hbody : body < 2 ^ 58) (hread : decodeBundle (bundleWord fmt g st body) = b) : RoundTrips b := by
  unfold RoundTrips
  rw [henc]
  exact ⟨bundleWord_lt hfmt hst hbody, hread⟩

section
variable {g : Bool} {st : Nat} {early late : Option (Nat × MemSlot)} {o : ClvOp}

theorem encodeBundle_op : encodeBundle { g := g, early := early, op := some (st, o) } =
    bundleWord (encodeOp o).1 g st (opBody o (if (encodeOp o).1 = 1 then (encodeMem early).getD 0 else 0)) := by
  simp only [encodeBundle, bundleWord, opBody, Nat.add_assoc]

theorem operate_roundTrips (hst : st < 8) (hwf : opWf o = true) (hfmt : (encodeOp o).1 = 1) (hearly : memWf false early = true) :
    RoundTrips { g := g, early := early, op := some (st, o) } := by
  obtain ⟨hlow, hmem⟩ := decodeMem_early hearly
  obtain ⟨hbody, -⟩ := opBody_opcode hwf (.inl ⟨hfmt, hlow⟩)
  have hop := decodeOperate_opBody hwf hfmt hlow
  have hlate := (decodeLate_eq_none_or (opBody o ((encodeMem early).getD 0))).resolve_right (by simp [hop])
  refine roundTrips_of_bundleWord (by rw [encodeBundle_op, if_pos hfmt, hfmt]) (by decide) hst hbody ?_
  rw [decodeBundle_format1 hst hbody, opBody_low hwf hfmt hlow, hmem, hop, hlate]
  rfl

theorem control_roundTrips (hst : st < 8) (hwf : opWf o = true) (hfmt : (encodeOp o).1 = 2) :
    RoundTrips { g := g, op := some (st, o) } := by
  obtain ⟨hbody, -⟩ := opBody_opcode hwf (.inr rfl)
  refine roundTrips_of_bundleWord (by rw [encodeBundle_op, if_neg (by omega), hfmt]) (by decide) hst hbody ?_
  rw [decodeBundle_format2 hst hbody, decodeControl_opBody hwf hfmt]
  rfl

theorem immediate_roundTrips (hst : st < 8) (hwf : opWf o = true) (hfmt : (encodeOp o).1 = 3) :
    RoundTrips { g := g, op := some (st, o) } := by
  obtain ⟨hbody, -⟩ := opBody_opcode hwf (.inr rfl)
  refine roundTrips_of_bundleWord (by rw [encodeBundle_op, if_neg (by omega), hfmt]) (by decide) hst hbody ?_
  rw [decodeBundle_format3 hst hbody]
  cases o
  case ldi dst imm =>
    have hdst : dst < 32 := of_decide_eq_true hwf
    have himm := imm.isLt
    have hfields : bitsAt (opBody (.ldi dst imm) 0) 53 5 = dst ∧ bitsAt (opBody (.ldi dst imm) 0) 0 48 = imm.toNat := by
      simp only [bitsAt_eq, opBody, encodeOp]
      omega
    rw [hfields.1, hfields.2, BitVec.ofNat_toNat, BitVec.setWidth_eq]
  all_goals simp [encodeOp] at hfmt

/-- A long access as the late slot of a format 1 bundle. -/
theorem longAccess_roundTrips {m : MemSlot} (hearly : memWf false early = true) (hlate : memWf true (some (st, m)) = true)
    (hlong : encodeMem (some (st, m)) = none) : RoundTrips { g := g, early := early, late := some (st, m) } := by
  obtain ⟨hlow, hmem⟩ := decodeMem_early hearly
  obtain ⟨hbody, hread, hm⟩ := decodeLate_encodeLate hlate hlong hlow
  have hst : st < 8 := by simp_all [memWf]
  have hop := (decodeLate_eq_none_or (encodeLate m + (encodeMem early).getD 0)).resolve_left (by simp [hm])
  have henc : encodeBundle { g := g, early := early, late := some (st, m) } =
      bundleWord 1 g st (encodeLate m + (encodeMem early).getD 0) := by
    simp [encodeBundle, hlong, bundleWord, Nat.add_assoc]
  refine roundTrips_of_bundleWord henc (by decide) hst hbody ?_
  rw [decodeBundle_format1 hst hbody, hread, hmem, hm, hop]
  rfl

/-- The 58 bits of a multiply bundle below its stage (R134). -/
def multiplyBody (m0 m1 : Nat × Nat × Nat × Nat) (early late : Nat) : Nat :=
  m0.1 * 2 ^ 56 + (m0.2.1 * 2 ^ 54 + (m0.2.2.1 * 2 ^ 49 + (m0.2.2.2 * 2 ^ 44 +
    (m1.1 * 2 ^ 42 + (m1.2.1 * 2 ^ 40 + (m1.2.2.1 * 2 ^ 35 + (m1.2.2.2 * 2 ^ 30 + (early * 2 ^ 15 + late))))))))

theorem multiply_roundTrips {mac0 mac1 : Option MacSlot} (hst : st < 8) (hmac0 : macWf mac0 = true) (hmac1 : macWf mac1 = true)
    (hearly : memWf false early = true) (hlate : memWf true late = true) (hshort : (encodeMem late).isSome = true) :
    RoundTrips { g := g, stage := st, mac0 := mac0, mac1 := mac1, early := early, late := late } := by
  obtain ⟨hearlyLt, hearlyRead⟩ := decodeMem_early hearly
  obtain ⟨w, hw⟩ := Option.isSome_iff_exists.mp hshort
  obtain ⟨hlateLt, hlateRead⟩ := decodeMem_encodeMem hlate hw
  obtain ⟨hop0, hak0, hx0, hy0⟩ := encodeMac_bounds hmac0
  obtain ⟨hop1, hak1, hx1, hy1⟩ := encodeMac_bounds hmac1
  have henc : encodeBundle { g := g, stage := st, mac0 := mac0, mac1 := mac1, early := early, late := late } =
      bundleWord 0 g st (multiplyBody (encodeMac mac0) (encodeMac mac1) ((encodeMem early).getD 0) w) := by
    simp [encodeBundle, hw, bundleWord, multiplyBody, Nat.add_assoc]
  have hbody : multiplyBody (encodeMac mac0) (encodeMac mac1) ((encodeMem early).getD 0) w < 2 ^ 58 := by unfold multiplyBody; omega
  refine roundTrips_of_bundleWord henc (by decide) hst hbody ?_
  rw [decodeBundle_format0 hst hbody]
  simp (disch := omega) only [multiplyBody, bitsAt_above, bitsAt_field, bitsAt_low, decodeMac_encodeMac hmac0,
    decodeMac_encodeMac hmac1, hearlyRead, hlateRead, -Nat.reducePow]

end

/-- Settles O19: a well-formed bundle is of one of the four formats, and each format's bundles read back. -/
theorem bundleRoundTrip : Obligations.BundleRoundTrip := by
  rintro ⟨g, stage, mac0, mac1, early, late, op⟩ hwf
  change RoundTrips _
  rcases op with _ | ⟨st, o⟩
  · simp only [Bundle.wf, Bool.and_eq_true, Bool.or_eq_true, decide_eq_true_eq, beq_iff_eq, Option.isNone_iff_eq_none] at hwf
    obtain ⟨⟨⟨⟨⟨hearly, hlate⟩, hst⟩, hmac0⟩, hmac1⟩, hshort⟩ := hwf
    cases hlong : encodeMem late with
    | some w => exact multiply_roundTrips hst hmac0 hmac1 hearly hlate (by simp [hlong])
    | none =>
      obtain ⟨⟨rfl, rfl⟩, rfl⟩ := hshort.resolve_left (by simp [hlong])
      rcases late with _ | ⟨st, m⟩
      · simp [encodeMem] at hlong
      · exact longAccess_roundTrips hearly hlate hlong
  · simp only [Bundle.wf, Bool.and_eq_true, decide_eq_true_eq, beq_iff_eq, Option.isNone_iff_eq_none] at hwf
    obtain ⟨⟨⟨⟨⟨⟨rfl, rfl⟩, rfl⟩, rfl⟩, hst⟩, ho⟩, hearly⟩ := hwf
    rcases encodeOp_format o with hfmt | hfmt | hfmt
    · exact operate_roundTrips hst ho hfmt (by simpa [hfmt] using hearly)
    · obtain rfl : early = none := by simpa [hfmt] using hearly
      exact control_roundTrips hst ho hfmt
    · obtain rfl : early = none := by simpa [hfmt] using hearly
      exact immediate_roundTrips hst ho hfmt

end Sys2Proof.Machine
end

section
/-!
Cycles without issue (05_clover_instruction_set R139, R146).
-/
namespace Sys2Proof.Machine

section
variable {site : Nat} {full : Bool} {b : Bundle} {e : Engine}

/-- A cycle owed to a taken branch. -/
theorem issueCycle_of_bubble (h : 0 < e.bubble) :
    issueCycle site full b e = (countCycle true { e with bubble := e.bubble - 1 }, none, false) := if_pos h

/-- A bundle of which a running slot waits. -/
theorem issueCycle_of_stalled (hb : e.bubble = 0) (hs : stalled site full e (guarded e b) = true) :
    issueCycle site full b e = (countCycle true e, none, false) :=
  (if_neg (hb ▸ Nat.lt_irrefl 0)).trans (if_pos hs)

end

/-- Settles O13: both kinds of cycle count themselves as a stall. -/
theorem cloverStall : Obligations.CloverStall := fun _ _ _ _ =>
  ⟨fun hb hs => congrArg Prod.fst (issueCycle_of_stalled hb hs), fun hb => congrArg Prod.fst (issueCycle_of_bubble hb)⟩

end Sys2Proof.Machine
end

section
/-!
Division by DSTEP and DFIN (05_clover_instruction_set R155): the non-restoring steps keep the relation between the dividend, the quotient
so far and the remainder that the finish restores.
-/
namespace Sys2Proof.Machine

/-- The remainder that a signed one stands for: a negative one owes the divisor. -/
def restored (r dd : Int) : Int := if r < 0 then r + dd else r

theorem divFin_eq (r dd : Int) : divFin r dd = restored r dd / 2 ^ 24 := rfl

/-- After some steps on the dividend, scaled by the steps to `y`, the quotient so far and the restored remainder divide `y` by `dd`. -/
structure Divides (y dd : Int) (p : Int × Int) : Prop where
  sum : y = p.2 * dd + restored p.1 dd
  nonneg : 0 ≤ restored p.1 dd
  lt : restored p.1 dd < dd

section
variable {y dd : Int} {p : Int × Int}

theorem divides_start (h0 : 0 ≤ y) (h1 : y < dd) : Divides y dd (y, 0) := by
  have hr : restored y dd = y := if_neg (Int.not_lt.mpr h0)
  exact ⟨by simp [hr], hr.symm ▸ h0, hr.symm ▸ h1⟩

/-- A step doubles the restored remainder, takes the divisor away where it fits, and says so in the quotient's next bit. -/
theorem divStep_cases (r q dd : Int) :
    restored (divStep r q dd).1 dd = 2 * restored r dd ∧ (divStep r q dd).2 = 2 * q ∧ 2 * restored r dd < dd ∨
    restored (divStep r q dd).1 dd = 2 * restored r dd - dd ∧ (divStep r q dd).2 = 2 * q + 1 ∧ dd ≤ 2 * restored r dd := by
  unfold divStep restored
  split_ifs <;> simp <;> omega

theorem Divides.step (h : Divides y dd p) : Divides (2 * y) dd (divStep p.1 p.2 dd) := by
  obtain ⟨hsum, hnonneg, hlt⟩ := h
  rcases divStep_cases p.1 p.2 dd with ⟨hr, hq, hfit⟩ | ⟨hr, hq, hfit⟩
  · exact ⟨by rw [hr, hq, hsum]; ring, by omega, by omega⟩
  · exact ⟨by rw [hr, hq, hsum]; ring, by omega, by omega⟩

theorem Divides.iterate (h : Divides y dd p) (n : Nat) :
    Divides (2 ^ n * y) dd ((fun (p : Int × Int) => divStep p.1 p.2 dd)^[n] p) := by
  induction n with
  | zero => simpa using h
  | succ n ih =>
    rw [Function.iterate_succ_apply', pow_succ', mul_assoc]
    exact ih.step

end

/-- After 24 steps the scales of dividend and divisor are the same, and the finish takes them away. -/
theorem Divides.finish {X d r q : Int} (h : Divides (2 ^ 24 * X) (d * 2 ^ 24) (r, q)) : divFin r (d * 2 ^ 24) = X % d ∧ q = X / d := by
  obtain ⟨hsum, hnonneg, hlt⟩ := h
  rw [divFin_eq]
  generalize restored r (d * 2 ^ 24) = rest at *
  have hrest : rest = 2 ^ 24 * (X - q * d) := by linarith
  have hfin : rest / 2 ^ 24 = X - q * d := by rw [hrest]; exact Int.mul_ediv_cancel_left _ (by decide)
  have hq := Int.ediv_emod_unique (a := X) (b := d) (q := q) (r := X - q * d) (by omega)
  have := hq.mpr ⟨by ring, by omega, by omega⟩
  exact ⟨hfin.trans this.2.symm, this.1.symm⟩

/-- Settles O17: the relation holds at the start, every step keeps it, and the finish reads it. -/
theorem divisionResult : Obligations.DivisionResult := by
  intro X d _ _ hX hlt r q hsteps
  exact (hsteps ▸ (divides_start hX hlt).iterate 24).finish

end Sys2Proof.Machine
end

section
/-!
Routes by dimension order (06_warp_weft_network R158, R167): what an output says at a knot of the grid, and where its hop leads.
-/
namespace Sys2Proof.Machine

section
variable {x y gx gy slot : Nat}

theorem knotX_knotId (hx : x < 16) : knotX (knotId x y) = x := by
  unfold knotX knotId
  omega
theorem knotY_knotId (hx : x < 16) : knotY (knotId x y) = y := by
  unfold knotY knotId
  omega

/-- The output between two knots, by their coordinates. -/
theorem outAt_knotId (hx : x < 16) (hg : gx < 16) :
    outAt (knotId x y) (knotId gx gy, slot) =
      if x < gx then .east else if gx < x then .west else if y < gy then .north else if gy < y then .south
      else .slot (Fin.ofNat 4 slot) := by
  simp only [outAt, knotX_knotId hx, knotX_knotId hg, knotY_knotId hx, knotY_knotId hg, gt_iff_lt]

theorem beyond_east : beyond (knotId x y) .east = knotId (x + 1) y := rfl
theorem beyond_west (hx : 0 < x) : beyond (knotId x y) .west = knotId (x - 1) y := Nat.add_sub_assoc hx _
theorem beyond_north : beyond (knotId x y) .north = knotId x (y + 1) := by
  simp only [beyond, knotId]
  omega
theorem beyond_south (hy : 0 < y) : beyond (knotId x y) .south = knotId x (y - 1) := by
  simp only [beyond, knotId]
  omega

end

/-- Settles O24: the output compares columns, then rows, and each hop changes the coordinate that it compares. -/
theorem dimensionOrder : Obligations.DimensionOrder := by
  intro x y gx gy slot hx _ hgx _ _
  rw [outAt_knotId (by omega) (by omega)]
  refine ⟨fun h => ⟨if_pos h, beyond_east⟩, fun h => ⟨?_, beyond_west (by omega)⟩, ?_, ?_, ?_⟩
  · rw [if_neg (by omega), if_pos h]
  · rintro rfl h
    exact ⟨by simp [h], beyond_north⟩
  · rintro rfl h
    exact ⟨by simp [h, Nat.lt_asymm h], beyond_south (by omega)⟩
  · rintro rfl rfl
    simp

end Sys2Proof.Machine
end

section
/-!
Headers and payloads as flits (06_warp_weft_network R160, R163), and the response to a read request (R161, R173).
-/
namespace Sys2Proof.Machine

/-! ### The header flit (R160) -/

/-- No field reaches beyond bit 107, so that the flit holds the sum of its fields. -/
theorem headerBits_toNat (hd : Header) :
    (headerBits hd).toNat = placed hd.mclass.val 104 + placed hd.status.val 100 + placed hd.tag.val 90 + placed hd.srcSlot.val 88
      + placed hd.srcKnot.val 81 + placed hd.srcDev.val 78 + placed hd.dstSlot.val 76 + placed hd.dstKnot.val 69
      + placed hd.dstDev.val 66 + placed hd.cls.val 64 + placed hd.type.val 61 + placed hd.lenM1.val 48 + hd.addr.toNat ∧
    (headerBits hd).toNat < 2 ^ 108 := by
  obtain ⟨mclass, status, tag, srcSlot, srcKnot, srcDev, dstSlot, dstKnot, dstDev, cls, type, lenM1, addr⟩ := hd
  simp only [headerBits, placed, BitVec.toNat_ofNat]
  omega

theorem headerOf_headerBits (hd : Header) : headerOf (headerBits hd) = hd := by
  have hx := (headerBits_toNat hd).1
  obtain ⟨mclass, status, tag, srcSlot, srcKnot, srcDev, dstSlot, dstKnot, dstDev, cls, type, lenM1, addr⟩ := hd
  simp only [placed] at hx
  simp only [headerOf, bitsAt_eq, hx, Header.mk.injEq, Fin.ext_iff, Fin.val_ofNat, ← BitVec.toNat_inj, BitVec.toNat_ofNat]
  refine ⟨?_, ?_, ?_, ?_, ?_, ?_, ?_, ?_, ?_, ?_, ?_, ?_, ?_⟩ <;> omega

/-! ### Payload flits (R163) -/

section
variable {m n : Nat} {xs ys : List Byte}

@[simp] theorem exactly_length : (exactly n xs).length = n := by
  simp only [exactly, List.length_append, List.length_take, List.length_replicate]
  omega

theorem exactly_append_of_length (h : xs.length = n) : exactly n (xs ++ ys) = xs := by
  subst h
  simp [exactly]

theorem exactly_of_length (h : xs.length = n) : exactly n xs = xs := by
  simpa using exactly_append_of_length (ys := []) h

theorem exactly_zero : exactly 0 xs = [] := by simp [exactly]
theorem exactly_nil : exactly n [] = List.replicate n 0 := by simp [exactly]
theorem exactly_cons (b : Byte) : exactly (n + 1) (b :: xs) = b :: exactly n xs := by simp [exactly]

/-- The first bytes, and then the others. -/
theorem exactly_add : exactly (m + n) xs = exactly m xs ++ exactly n (xs.drop m) := by
  induction m generalizing xs with
  | zero => simp [exactly_zero]
  | succ m ih =>
    cases xs with
    | nil => simp only [List.drop_nil, exactly_nil, List.replicate_append_replicate]
    | cons b xs => simp [Nat.succ_add, exactly_cons, ih]

theorem exactly_exactly_of_le (h : m ≤ n) : exactly m (exactly n xs) = exactly m xs := by
  obtain ⟨k, rfl⟩ := Nat.exists_eq_add_of_le h
  rw [exactly_add, exactly_append_of_length exactly_length]

theorem exactly_take : exactly n (xs.take n) = exactly n xs := by
  simp only [exactly, List.take_take, List.length_take, Nat.min_self]
  congr 2
  omega

/-- The bytes of a little-endian number are the bytes it was made of, followed by zeros. -/
theorem leBytes_leNat : leBytes (leNat xs) n = exactly n xs := by
  induction n generalizing xs with
  | zero => exact exactly_zero.symm
  | succ n ih =>
    cases xs with
    | nil =>
      have hzero : leBytes 0 n = exactly n [] := ih (xs := [])
      simp [leNat, leBytes, hzero, exactly_nil, List.replicate_succ]
    | cons b xs =>
      have hhead : BitVec.ofNat 8 (b.toNat + 256 * leNat xs) = b := by
        refine BitVec.eq_of_toNat_eq ?_
        rw [BitVec.toNat_ofNat]
        omega
      have htail : (b.toNat + 256 * leNat xs) / 256 = leNat xs := by omega
      rw [leNat, leBytes, hhead, htail, ih, exactly_cons]

/-- The bytes of a word that holds `n` of them. -/
theorem leBytes_word : leBytes (BitVec.ofNat (8 * n) (leNat xs)).toNat n = exactly n xs := by
  rw [BitVec.toNat_ofNat, Nat.pow_mul, ← leBytes_leNat]
  exact leBytes_mod _ _

theorem flit_bytes : leBytes (BitVec.ofNat 512 (leNat (xs.take 64))).toNat 64 = exactly 64 xs :=
  (leBytes_word (n := 64)).trans exactly_take

/-- Flits of 64 bytes, one after another. -/
theorem flits_bytes : (List.range n).flatMap (fun i => exactly 64 (xs.drop (64 * i))) = exactly (64 * n) xs := by
  induction n with
  | zero => exact exactly_zero.symm
  | succ n ih => simp [List.range_succ, ih, Nat.mul_succ, exactly_add]

end

theorem payloadFlits_length (a len : Nat) (data : List Byte) : (payloadFlits a len data).length = flitsIn a len := by
  simp [payloadFlits]

/-- The flits hold the data from its lane on. -/
theorem flitsData_payloadFlits {a len : Nat} {data : List Byte} (h : data.length = len) :
    flitsData a len (payloadFlits a len data) = data := by
  obtain ⟨k, hk⟩ : ∃ k, 64 * flitsIn a len = a % 64 + (len + k) := ⟨64 * flitsIn a len - a % 64 - len, by unfold flitsIn; omega⟩
  simp only [flitsData, payloadFlits, List.flatMap_map, flit_bytes, flits_bytes, hk, exactly_add (m := a % 64)]
  rw [List.drop_left' exactly_length, List.drop_left' List.length_replicate, exactly_exactly_of_le (Nat.le_add_right len k),
    exactly_exactly_of_le le_rfl, exactly_of_length h]

/-! ### The response (R161, R173) -/

section
variable {s : State} {d : Device} {hd : Header}

/-- A packet that is sent waits at its slot behind the others. -/
theorem inject_flights (p : Nat × Nat) (data : List Byte) (poison : List Nat) :
    (inject p hd data poison d).net.flights = d.net.flights ++
      [{ pid := d.net.nextPid, hd := hd, data := data, poison := poison, flits := 1 + (if hasPayload hd then flitCount hd else 0) }] := rfl

theorem respond_type (st : Nat) (h : hd.type.val ≤ 1) : (respond hd st).type.val = hd.type.val + 2 := by
  simp only [respond, Fin.val_ofNat]
  omega
theorem respond_status {st : Nat} (h : st < 16) : (respond hd st).status.val = st := Nat.mod_eq_of_lt h

theorem readRequest_of_waits (hs : stileWindow d hd.addr.toNat = none) (hw : requestWaits hd d = true) : readRequest hd d = d := by
  simp [readRequest, hs, hw]
theorem readRequest_of_served (hs : stileWindow d hd.addr.toNat = none) (hw : requestWaits hd d = false) {q : Answer × Device}
    (hq : q = busRead (byPacket hd) hd.addr.toNat (lenOf hd) (takeArrived hd d).2) :
    readRequest hd d = (answerFrom (dstPlace hd) hd q.1.status q.1.data q.1.poison q.2).answer q.1.status q.1.data := by
  simp [readRequest, hs, hw, hq]

theorem gives_readRequest : gives (.readRequest hd) s (s.dev.moved (readRequest hd s.dev)) := liftMode_gives s _

end

/-- Settles O23: the response is the packet that the answer sends; header and payload by their flits. -/
theorem responseHeader : Obligations.ResponseHeader := by
  refine ⟨fun s hd htype hs => ⟨fun hw => ?_, fun hw q hq hst => ?_⟩,
    fun hd => ⟨headerOf_headerBits hd, (headerBits_toNat hd).2⟩,
    fun a len data hlen => ⟨payloadFlits_length a len data, flitsData_payloadFlits hlen⟩⟩
  · exact gives_of_eq gives_readRequest (congrArg s.dev.moved (readRequest_of_waits hs hw))
  · exact ⟨_, _, gives_of_eq gives_readRequest (congrArg s.dev.moved (readRequest_of_served hs hw hq)), rfl, inject_flights .., rfl, rfl,
      rfl, rfl, rfl, rfl, rfl, rfl, rfl, rfl, rfl, rfl, rfl, respond_type _ htype, respond_status hst, rfl⟩

end Sys2Proof.Machine
end

section
/-!
The network's shared operations (06_warp_weft_network R159, R165, R169, R179): what dropping a packet changes, and what a completion
leaves of a source's requests.
-/
namespace Sys2Proof.Machine

section
variable {d : Device} {s : Nat}

/-! ### What an operation on many elements keeps -/

theorem Device.each_keeps {α β : Type} (p : Device → β) {f : Device → α → Device} (hf : ∀ e x, p (f e x) = p e) (xs : List α)
    (d : Device) : p (d.each xs f) = p d :=
  List.foldlRecOn (motive := fun e => p e = p d) xs f rfl fun e he x _ => (hf e x).trans he

theorem Device.when_keeps {β : Type} (p : Device → β) {f : Device → Device} (hf : ∀ e, p (f e) = p e) (c : Bool) (d : Device) :
    p (d.when c f) = p d := by
  cases c
  · rfl
  · exact hf d

/-! ### Packets in the buffers -/

/-- Taking a packet out of buffers changes the buffers, their owners and the promoted packets. -/
theorem dropRuns_eq (pid : Nat) (p : Nat → Bool) (d : Device) :
    ∃ vcs owners promoted, dropRuns pid p d = { d with net := { d.net with vcs := vcs, owners := owners, promoted := promoted } } := by
  obtain ⟨vcs, hvcs⟩ : ∃ vcs, d.each ((vcKeys d).filter p) (fun d k => d.setRuns k ((d.vc k).runs.filter (fun r => r.pid != pid))) =
      { d with net := { d.net with vcs := vcs } } :=
    List.foldlRecOn (motive := fun e : Device => ∃ vcs, e = { d with net := { d.net with vcs := vcs } }) _ _ ⟨_, rfl⟩
      (by rintro _ ⟨_, rfl⟩ _ _; exact ⟨_, rfl⟩)
  simp only [dropRuns, hvcs]
  exact ⟨_, _, _, rfl⟩

theorem dropFlight_eq (pid : Nat) (d : Device) :
    ∃ vcs owners promoted, dropFlight pid d = { d with net := { d.net with
      vcs := vcs, owners := owners, promoted := promoted, flights := d.net.flights.filter (fun g => g.pid != pid) } } := by
  obtain ⟨vcs, owners, promoted, h⟩ := dropRuns_eq pid (fun _ => true) d
  rw [dropFlight, h]
  exact ⟨_, _, _, rfl⟩

theorem inject_outst (p : Nat × Nat) (hd : Header) (data : List Byte) (poison : List Nat) (d : Device) :
    (inject p hd data poison d).net.outst = d.net.outst := rfl

/-! ### Requests and completions -/

/-- What the sources have asked for and what they were answered. -/
def Device.requests (d : Device) : List Outst × List (NodeId × Nat × Answer) := (d.net.outst, d.net.done)

theorem bobRecord_requests (d : Device) (h : Half) (r : List Byte) : (d.bobRecord h r).requests = d.requests := by
  obtain ⟨b, hb⟩ := bobRecord_eq d h r
  rw [hb]
  rfl

theorem recordBeats_requests (s chan : Nat) (bs : List (List Byte)) (d : Device) : (recordBeats s chan bs d).requests = d.requests := by
  unfold recordBeats
  split
  · exact d.each_keeps Device.requests (fun e x => e.each_keeps Device.requests (fun _ _ => bobRecord_requests ..) _) _
  · rfl

theorem stileRefuse_requests (s st : Nat) (d : Device) : (stileRefuse s st d).requests = d.requests := by
  refine Device.each_keeps Device.requests (fun _ _ => ?_) _ _
  rfl

theorem stileApply_requests (s : Nat) (d : Device) : (stileApply s d).requests = d.requests := by
  unfold stileApply
  split
  · exact Device.when_keeps Device.requests (stileRefuse_requests s 2) _ _
  · rfl

/-- A completion ends the requests of its source and tag, and is the newest one; showing it to a stile's fabric changes neither. -/
theorem netComplete_requests (o : Outst) (a : Answer) (d : Device) :
    (netComplete o a d).requests = (d.net.outst.filter (fun x => !(x.src == o.src && x.tag == o.tag)),
      (o.src, o.tag, a) :: d.net.done.filter (fun x => !(x.1 == o.src && x.2.1 == o.tag))) := by
  unfold netComplete
  simp only
  split
  · rfl
  · rw [stileApply_requests, showOutst]
    refine (recordBeats_requests ..).trans ((Device.when_keeps Device.requests (fun _ => ?_) _ _).trans
      (Device.when_keeps Device.requests (fun _ => ?_) _ _)) <;> rfl

theorem netComplete_done (o : Outst) (a : Answer) (d : Device) : (netComplete o a d).net.done.head? = some (o.src, o.tag, a) :=
  congrArg (fun r => r.2.head?) (netComplete_requests o a d)

theorem netComplete_outst (o : Outst) (a : Answer) (d : Device) :
    (netComplete o a d).net.outst = d.net.outst.filter (fun x => !(x.src == o.src && x.tag == o.tag)) :=
  congrArg Prod.fst (netComplete_requests o a d)

theorem not_mem_netComplete_outst {o x : Outst} (a : Answer) (d : Device) (hsrc : x.src = o.src) (htag : x.tag = o.tag) :
    x ∉ (netComplete o a d).net.outst := by
  simp [netComplete_outst, hsrc, htag]

/-- Where the source is no stile, nothing else changes. -/
theorem netComplete_regs {o : Outst} (a : Answer) (h : nodeStile d o.src = none) : (netComplete o a d).regs = d.regs := by
  have h' : ∀ n, nodeStile { d with net := n } o.src = none := fun _ => h
  simp [netComplete, h']

/-- A request of one part with that part's answer. -/
def Outst.answered (o : Outst) (p : Part) (a : Answer) : Outst := { o with parts := [{ p with answer := some a }] }

/-- The answer to a request's only part completes it. -/
theorem answerParts_single {o : Outst} {p : Part} {q : Part → Bool} {a : Answer} (hp : o.parts = [p]) (hn : p.answer = none)
    (hq : q p = true) : answerParts q a o d = netComplete (o.answered p a) (joinParts (o.answered p a)) d := by
  simp [answerParts, hp, hn, hq, settleOutst, partsDone, Outst.answered]

/-- A request of one part is answered as the part is, a write by its status alone. -/
theorem joinParts_answered {o : Outst} {p : Part} {a : Answer} (haddr : p.addr = o.addr) (hst : a.status = 0) (hpoison : a.poison = []) :
    joinParts (o.answered p a) = if o.write then { status := 0 } else { status := 0, data := exactly o.len a.data } := by
  cases hw : o.write <;> simp [joinParts, Outst.answered, hst, hpoison, hw, partEnd, haddr]

theorem joinParts_answered_halfDown (o : Outst) (p : Part) : joinParts (o.answered p { status := 4 }) = { status := 4 } := by
  simp [joinParts, Outst.answered]

end

end Sys2Proof.Machine
end

section
/-!
The network's commands, each by what it does (06_warp_weft_network R165 to R183, R189), and where they complete.
-/
namespace Sys2Proof.Machine

section
variable {d : Device} {s : Nat}

/-! ### Requests at their target, and what ends them (R172, R178 to R180, R183) -/

section
variable {hd : Header} {data : List Byte} {o : Outst} {p : Part}

theorem poisonOf_of_clean {f : Option Flight} (h : ∀ x, f = some x → x.poison = []) : poisonOf f [] = [] := by
  cases f with
  | none => rfl
  | some x => simp [poisonOf, h x rfl]

theorem writeRequest_of_served {q : Nat × Device} (hs : stileWindow d hd.addr.toNat = none)
    (hw : requestWaits hd d = false) (hp : ∀ f, (takeArrived hd d).1 = some f → f.poison = [])
    (hq : q = busWrite (byPacket hd) hd.cls.val hd.addr.toNat data (takeArrived hd d).2) (ht : q.1 ≠ notTaken) :
    writeRequest hd data [] d = (flushReplies (answerFrom (dstPlace hd) hd q.1 [] [] q.2)).answer q.1 [] := by
  simp [writeRequest, hs, hw, applyWrite, poisonOf_of_clean hp, ← hq, ht]

theorem response_of_answeredBy (hs : nodeStile d (dstOf hd) = none) (hw : flowWaits hd d = false)
    (hp : ∀ f, (takeArrived hd d).1 = some f → f.poison = []) (ho : answeredBy d hd = some o) :
    response hd data [] d = answerParts (fun p => p.addr == hd.addr.toNat) (answerOf hd data []) o (takeArrived hd d).2 := by
  have hs' : nodeStile (takeArrived hd d).2 (dstOf hd) = none := hs
  have ho' : answeredBy (takeArrived hd d).2 hd = some o := ho
  simp [response, hw, poisonOf_of_clean hp, hs', ho']

/-- A response with status OK completes a request of one part. -/
theorem response_completes (hs : nodeStile d (dstOf hd) = none) (hw : flowWaits hd d = false) (hst : hd.status.val = 0)
    (hp : ∀ f, (takeArrived hd d).1 = some f → f.poison = []) (ho : answeredBy d hd = some o) (hparts : o.parts = [p])
    (hn : p.answer = none) (haddr : o.addr = hd.addr.toNat) (hpaddr : p.addr = o.addr) :
    (response hd data [] d).net.done.head? = some (o.src, o.tag,
      if o.write then { status := 0 } else { status := 0, data := exactly o.len (answerOf hd data []).data }) ∧
    o ∉ (response hd data [] d).net.outst ∧ (response hd data [] d).regs = d.regs := by
  have hsrc : o.src = dstOf hd := by
    have h := List.find?_some ho
    simp only [Bool.and_eq_true, beq_iff_eq] at h
    exact h.1.1
  have hpoison : (answerOf hd data []).poison = [] := by simp [answerOf]
  have hpart : (p.addr == hd.addr.toNat) = true := beq_iff_eq.mpr (hpaddr.trans haddr)
  rw [response_of_answeredBy hs hw hp ho, answerParts_single (q := fun p => p.addr == hd.addr.toNat) hparts hn hpart,
    joinParts_answered hpaddr hst hpoison]
  exact ⟨netComplete_done .., not_mem_netComplete_outst _ _ rfl rfl, netComplete_regs _ (hsrc ▸ hs)⟩

theorem sourceTimeout_of_outstanding {src : NodeId} {tag : Nat} (hsht : nodeShuttle d src = none)
    (ho : d.net.outst.find? (fun o => o.src == src && o.tag == tag) = some o)
    (hs : ∀ k, nodeStile d src = some k → stileRuns d k = true ∧ d.fld (stileCtrl k) 16 16 ≠ 0) :
    sourceTimeout src tag d = netComplete o { status := 9 } d := by
  simp only [sourceTimeout, hsht, requestTimeout, ho]
  cases hk : nodeStile d src with
  | none => rfl
  | some k =>
    obtain ⟨hr, hlimit⟩ := hs k hk
    simp [hr, hlimit]

/-- The sweep answers the one request to the lost half. -/
theorem halfDownSweep_single {h : Half} (hup : d.up h = false) (ho : d.net.outst = [o]) (hparts : o.parts = [p]) (hh : p.half = h)
    (he : p.entered = false) (hn : p.answer = none) (hk : knotHalf o.src.knot.val ≠ h) :
    halfDownSweep h d = netComplete (o.answered p { status := 4 }) { status := 4 } d := by
  simp [halfDownSweep, hup, ho, hparts, hn, hh, he, hk, Device.each, answerParts_single hparts hn, joinParts_answered_halfDown]

end

/-! ### Forwarding (R169 to R171, R178, R181) -/

section
variable {n : Nat} {out : OutPort} {c p i : Nat} {f : Flight}

/-- A cycle's bookkeeping. -/
theorem knotCycle_eq (k : Nat) (out : OutPort) (d : Device) :
    ∃ cycle taken, knotCycle k out d = { d with net := { d.net with cycle := cycle, taken := taken } } := by
  unfold knotCycle
  simp only
  split <;> exact ⟨_, _, rfl⟩

/-- A knot's check that finds nothing lets a flit pass, a header only of a type that is not reserved. -/
theorem flitCheck_clean {k : Nat} (h : i = 0 → f.hd.type.val ≤ 3) : flitCheck k noFlitErr i f d = (some f, d) := by
  have hreserved : i = 0 → ¬4 ≤ f.hd.type.val := fun hi => by have := h hi; omega
  by_cases hi : i = 0
  · simp [flitCheck, noFlitErr, Device.when, hi, hreserved hi]
  · simp [flitCheck, noFlitErr, Device.when, hi]

section
variable (hn : netRuns d (knotHalf (knotOf n)) = true)
include hn

theorem knotForward_moves (hp : forwardPick (knotCycle (knotOf n) out d) (knotOf n) out = some (c, p, f, i))
    (ht : i = 0 → f.hd.type.val ≤ 3) (hb : i = 0 → turnedBack (knotCycle (knotOf n) out d) (knotOf n) out f = none) :
    knotForward n out noFlitErr d = moveFlit (knotOf n) out p i f (knotCycle (knotOf n) out d) := by
  have hb' : (if i = 0 then turnedBack (knotCycle (knotOf n) out d) (knotOf n) out f else none) = none := by
    split
    · exact hb ‹_›
    · rfl
  simp only [knotForward, hn, Bool.not_true, Bool.false_eq_true, if_false, hp, flitCheck_clean ht, hb']

theorem knotForward_turnedBack {st : Nat} (hp : forwardPick (knotCycle (knotOf n) out d) (knotOf n) out = some (c, p, f, 0))
    (ht : f.hd.type.val ≤ 3) (hb : turnedBack (knotCycle (knotOf n) out d) (knotOf n) out f = some st) :
    knotForward n out noFlitErr d = bounce (vcKey (knotOf n) p c) st f (knotCycle (knotOf n) out d) := by
  simp only [knotForward, hn, Bool.not_true, Bool.false_eq_true, if_false, hp, flitCheck_clean (fun _ => ht), if_true, hb]

end

/-- A packet for this device that leaves has arrived, and is nowhere else. -/
theorem leaveNetwork_arrives (hdev : f.hd.dstDev.val = devId d) :
    (leaveNetwork f d).net.arrived = d.net.arrived ++ [f] ∧ (∀ g ∈ (leaveNetwork f d).net.flights, g.pid ≠ f.pid) ∧
      (leaveNetwork f d).regs = d.regs := by
  obtain ⟨vcs, owners, promoted, h⟩ := dropFlight_eq f.pid d
  have hdev' : f.hd.dstDev.val = devId (dropFlight f.pid d) := by
    rw [h]
    exact hdev
  simp only [leaveNetwork, hdev', if_true]
  rw [h]
  exact ⟨rfl, by simp, rfl⟩

/-- It leaves with its tail. -/
theorem moveFlit_tail {k : Nat} {m : Fin 4} (h : i + 1 = f.flits) :
    ∃ vcs owners turn promoted, moveFlit k (.slot m) p i f d =
      leaveNetwork f { d with net := { d.net with vcs := vcs, owners := owners, turn := turn, promoted := promoted } } := by
  have htail : (i + 1 == f.flits) = true := beq_iff_eq.mpr h
  simp only [moveFlit, htail, if_true]
  exact ⟨_, _, _, _, rfl⟩

theorem agePromotion_promotes (hf : flightOf d f.pid = some f) (hw : headerWaits d (knotOf n) f = true)
    (ha : ageLimit d f.hd.cls.val ≠ 0) (hp : (f.pid, knotOf n) ∉ d.net.promoted) :
    agePromotion n f.pid d = { d with net := { d.net with promoted := d.net.promoted ++ [(f.pid, knotOf n)] } } := by
  simp [agePromotion, hf, hw, ha, hp]

end

/-! ### Stiles (R165, R176, R177, R189) -/

section
variable {x : Inbound} {rest : List Inbound} {status : Nat} {data : List Byte} {hd : Header}

theorem stileRefuse_stileNow (st : Nat) (d : Device) : (stileRefuse s st d).net.stileNow = d.net.stileNow := by
  refine Device.each_keeps (fun e => e.net.stileNow) (fun _ _ => ?_) _ _
  rfl

/-- A change of clk and tgt_en with nothing outstanding is in force, whether or not the stile then refuses what it holds. -/
theorem stileApply_eff (ho : stileOutst d s = []) (hw : tabWf stileWord d.net.stileNow = true) :
    stileEff (stileApply s d) s = d.reg (stileCtrl s) := by
  have hnow (e : Device) : (e.when (stileOff e s) (stileRefuse s 2)).net.stileNow = e.net.stileNow :=
    Device.when_keeps (fun e => e.net.stileNow) (stileRefuse_stileNow 2) _ _
  simp only [stileApply, ho, List.isEmpty_nil, if_true, stileEff, hnow]
  exact tabGet_tabSet_same _ _ _ _ hw

theorem stileAnswer_answers (hx : inboundOf d s = x :: rest) (hr : stileRuns d s = true) (hst : status < 12) (hb : x.bad = false) :
    stileAnswer s status data d = answerFrom (stileKnot s, stileSlot s) x.hd status data
      (if status = 7 ∧ x.hd.type.val = 0 then missingFlits x.hd data else [])
      { d with net := { d.net with inbound := tabSet noHeld d.net.inbound s rest } } := by
  simp [stileAnswer, hx, hr, hst, hb]

theorem inboundOf_tabSet (hw : tabWf noHeld d.net.inbound = true) :
    inboundOf { d with net := { d.net with inbound := tabSet noHeld d.net.inbound s rest } } s = rest :=
  tabGet_tabSet_same _ _ _ _ hw

/-- A stile that kept nothing has nothing to hand on. -/
theorem stileWake_of_nothing_kept (hr : stileRuns d s = true) (hk : tabGet noKept d.net.rspBuf s = []) (hh : heldOf d s = []) :
    stileWake s d = { d with net := { d.net with rspBuf := tabSet noKept d.net.rspBuf s [], held := tabSet noHeld d.net.held s [] } } := by
  simp [stileWake, hr, hk, hh, Device.each]

/-- Outside replay, and with nothing to record, the fabric is shown the request. -/
theorem stileDeliver_shows (hf : d.feeds (s / 4) = false) (hrep : d.replayed (s / 4) = false) :
    stileDeliver s x d = { d with net := { d.net with inbound := tabSet noHeld d.net.inbound s (inboundOf d s ++ [x]) } } := by
  have hrep' (n : NetState) : Device.replayed { d with net := n } (s / 4) = false := hrep
  simp [stileDeliver, recordBeats, hf, hrep']

/-- A stile that runs takes a request where fewer than 64 await their answers. -/
theorem stileInbound_taken (hw : flowWaits hd d = false) (hoff : stileOff d s = false) (hload : d.underLoad (s / 4) = false)
    (hr : stileRuns d s = true) (hroom : (inboundOf d s).length < 64) (hh : heldOf d s = []) (hk : tabGet noKept d.net.rspBuf s = [])
    (hp : ∀ f, (takeArrived hd d).1 = some f → f.poison = []) (hf : d.feeds (s / 4) = false) (hrep : d.replayed (s / 4) = false)
    (hwi : tabWf noHeld d.net.inbound = true) (hwh : tabWf noHeld d.net.held = true) :
    inboundOf (stileInbound s hd data [] d) s = inboundOf d s ++ [inboundOfPacket hd data []] ∧
      (stileInbound s hd data [] d).regs = d.regs := by
  have hrefuses (x : Inbound) : stileRefuses d s x = none := by simp [stileRefuses, hoff, hload, hr]
  have hwake := stileWake_of_nothing_kept (d := (takeArrived hd d).2) hr hk hh
  have hheld : heldOf (stileWake s (takeArrived hd d).2) s = [] := by
    rw [hwake]
    exact tabGet_tabSet_same _ _ _ _ hwh
  have hinb : inboundOf (stileWake s (takeArrived hd d).2) s = inboundOf d s := by
    rw [hwake]
    rfl
  have hshow : stileInbound s hd data [] d = stileDeliver s (inboundOfPacket hd data []) (stileWake s (takeArrived hd d).2) := by
    simp [stileInbound, hw, hrefuses, hr, hheld, hinb, hroom, poisonOf_of_clean hp]
  rw [hshow, stileDeliver_shows (by rw [hwake]; exact hf) (by rw [hwake]; exact hrep), hinb]
  exact ⟨inboundOf_tabSet (by rw [hwake]; exact hwi), by rw [hwake]; rfl⟩

end

section
variable {addr len lenM1 cls dev tag base size : Nat} {t : Target} {p : Leg}

/-- A request to one target window goes to that target as one packet. -/
theorem stileRequest_sends (hdev : dev = devId d)
    (hready : stileReady d s tag ⟨stileNode d s, tag, devId d, false, addr, lenM1 + 1, []⟩ = true)
    (hn : netRuns d (knotHalf (stileKnot s)) = true) (hwin : windowOf d addr = some (t, base, size)) (ht : t ≠ .dram)
    (hlen : addr + (lenM1 + 1) ≤ base + size) :
    stileRequest s false addr lenM1 cls dev tag [] d =
      sendLegs s false addr (lenM1 + 1) cls (devId d) tag [] [legTo d t addr (lenM1 + 1)] d := by
  have hin : ¬base + size < addr + (lenM1 + 1) := Nat.not_lt.mpr hlen
  subst hdev
  simp [stileRequest, hready, hn, hwin, ht, hin]

/-- The packet of a read request waits at the stile's slot, and the request is outstanding. -/
theorem sendLegs_read (hr : halfReach d (stileKnot s) p.half = true) :
    (sendLegs s false addr len cls dev tag [] [p] d).net.flights = d.net.flights ++
      [{ pid := d.net.nextPid, hd := legHeader d s false cls dev tag p, data := [], poison := [], flits := 1 }] ∧
    (sendLegs s false addr len cls dev tag [] [p] d).net.outst.length = d.net.outst.length + 1 := by
  have hpayload : hasPayload (legHeader d s false cls dev tag p) = false := rfl
  simp [sendLegs, hr, Device.each, settleOutst, partsDone, addOutst, showOutst, inject_flights, inject_outst, hpayload]

end

/-! ### The loss of a half (R183) -/

/-- The buffers of half `h` are not listed. -/
def NoBuffers (h : Half) (d : Device) : Prop := ∀ kv ∈ d.net.vcs, knotHalf (vcKnot kv.1) ≠ h

section
variable {h : Half} {key : Nat}

theorem NoBuffers.runs (hd : NoBuffers h d) (hk : knotHalf (vcKnot key) = h) : (d.vc key).runs = [] := by
  rcases tabGet_default_or_mem vc0 d.net.vcs key with hv | hv
  · rw [Device.vc, hv]
    rfl
  · exact absurd hk (hd _ hv)

theorem NoBuffers.setRuns {rs : List FlitRun} (hd : NoBuffers h d) (hk : knotHalf (vcKnot key) ≠ h) : NoBuffers h (d.setRuns key rs) :=
  fun kv hkv => (mem_tabSet _ hkv).elim (fun he => he ▸ hk) (hd kv)

theorem NoBuffers.dropRuns {pid : Nat} {p : Nat → Bool} (hd : NoBuffers h d) : NoBuffers h (dropRuns pid p d) := by
  refine List.foldlRecOn (motive := NoBuffers h) ((vcKeys d).filter p) _ hd fun e he k hk => he.setRuns ?_
  obtain ⟨kv, hkv, rfl⟩ := List.mem_map.mp (List.mem_of_mem_filter hk)
  exact hd kv hkv

theorem NoBuffers.dropFlight {pid : Nat} (hd : NoBuffers h d) : NoBuffers h (dropFlight pid d) := hd.dropRuns (p := fun _ => true)

/-- A packet's flits lie in listed buffers. -/
theorem NoBuffers.of_mem_runsOf {pid : Nat} {x : Nat × FlitRun} (hd : NoBuffers h d) (hx : x ∈ runsOf d pid) :
    knotHalf (vcKnot x.1) ≠ h := by
  obtain ⟨kv, hkv, hx⟩ := List.mem_flatMap.mp hx
  obtain ⟨r, -, rfl⟩ := List.mem_map.mp hx
  exact hd kv hkv

theorem NoBuffers.netGone : NoBuffers h (netGone h d) := fun kv hkv => by
  have hkeep := (List.mem_filter.mp hkv).2
  simpa using hkeep

/-- What is done with a packet that was cut gives the lost half no buffer, and no memory changes. -/
theorem NoBuffers.cutPacket {f : Flight} (hd : NoBuffers h d) : NoBuffers h (cutPacket h f d) ∧ (cutPacket h f d).mem = d.mem := by
  unfold Machine.cutPacket
  simp only
  split_ifs
  · obtain ⟨vcs, owners, promoted, he⟩ := dropFlight_eq f.pid d
    exact ⟨hd.dropFlight, by rw [he]⟩
  · exact ⟨hd, rfl⟩
  · split
    · rename_i key r hfind
      exact ⟨NoBuffers.setRuns (d := putFlight _ d) hd (hd.of_mem_runsOf (List.mem_of_find?_eq_some hfind)), rfl⟩
    · exact ⟨hd, rfl⟩

theorem netCut_noBuffers (h : Half) (d : Device) : NoBuffers h (netCut h d) ∧ (netCut h d).mem = d.mem := by
  refine List.foldlRecOn (motive := fun e => NoBuffers h e ∧ e.mem = d.mem) _ _ ⟨NoBuffers.netGone, rfl⟩ fun e he f _ => ?_
  obtain ⟨hnone, hmem⟩ := he
  exact ⟨hnone.cutPacket.1, hnone.cutPacket.2.trans hmem⟩

theorem halfLossDetect_eq (hup : d.up h = false) : halfLossDetect h d = netCut h d := by simp [halfLossDetect, hup]

end

end

/-! ### Where the commands complete -/

section
variable {s : State}

theorem gives_writeRequest (hd data poison) : gives (.writeRequest hd data poison) s (s.dev.moved (writeRequest hd data poison s.dev)) :=
  liftMode_gives s _
theorem gives_readResponse (hd data poison) : gives (.readResponse hd data poison) s (response hd data poison s.dev) := rfl
theorem gives_writeResponse (hd) : gives (.writeResponse hd) s (response hd [] [] s.dev) := rfl
theorem gives_knotForward (k : Fin 50) (out err) : gives (.knotForward k out err) s (knotForward k.val out err s.dev) := rfl
theorem gives_agePromotion (k : Fin 50) (pid) : gives (.agePromotion k pid) s (agePromotion k.val pid s.dev) := rfl
theorem gives_requestTimeout (src) (tag : BitVec 10) : gives (.requestTimeout src tag) s (sourceTimeout src tag.toNat s.dev) := rfl
theorem gives_stileRequest (st : Fin 128) (write) (addr : BitVec 48) (lenM1 : BitVec 13) (cls : Fin 4) (dev : Fin 8) (tag : BitVec 8)
    (data) :
    gives (.stileRequest st write addr lenM1 cls dev tag data) s
      (stileRequest st.val write addr.toNat lenM1.toNat cls.val dev.val tag.toNat data s.dev) := rfl
theorem gives_stileInbound (st : Fin 128) (hd data) : gives (.stileInbound st hd data) s (stileInbound st.val hd data [] s.dev) := rfl
theorem gives_stileInboundAnswer (st : Fin 128) (status : BitVec 4) (data) :
    gives (.stileInboundAnswer st status data) s (stileAnswer st.val status.toNat data s.dev) := rfl
theorem gives_stileCtrlApply (st : Fin 128) : gives (.stileCtrlApply st) s (stileApply st.val s.dev) := rfl
theorem gives_halfLossDetect (h) : gives (.halfLossDetect h) s (halfLossDetect h s.dev) := rfl
theorem gives_halfDownSweep (h) : gives (.halfDownSweep h) s (halfDownSweep h s.dev) := rfl

/-- A read response hands its data on, a write's is its status alone. -/
theorem responses_complete {hd : Header} {data : List Byte} {o : Outst} {p : Part} (hs : nodeStile s.dev (dstOf hd) = none)
    (hw : flowWaits hd s.dev = false) (hst : hd.status.val = 0) (hp : ∀ f, (takeArrived hd s.dev).1 = some f → f.poison = [])
    (ho : answeredBy s.dev hd = some o) (hparts : o.parts = [p]) (hn : p.answer = none) (haddr : o.addr = hd.addr.toNat)
    (hpaddr : p.addr = o.addr) (hlen : o.len = lenOf hd) :
    (hd.type.val = 2 → o.write = false → ∃ t, exec (.readResponse hd data []) s = .next t ∧
      t.dev.net.done.head? = some (o.src, o.tag, { status := 0, data := exactly (lenOf hd) data }) ∧ o ∉ t.dev.net.outst ∧
      t.dev.regs = s.dev.regs) ∧
    (hd.type.val = 3 → o.write = true → ∃ t, exec (.writeResponse hd) s = .next t ∧
      t.dev.net.done.head? = some (o.src, o.tag, { status := 0, data := [] }) ∧ o ∉ t.dev.net.outst ∧ t.dev.regs = s.dev.regs) := by
  have hall (data : List Byte) := response_completes (data := data) hs hw hst hp ho hparts hn haddr hpaddr
  refine ⟨fun htype hwrite => ?_, fun _ hwrite => ?_⟩
  · have hdata : exactly o.len (answerOf hd data []).data = exactly (lenOf hd) data := by
      simp [answerOf, hasPayload, htype, hst, hlen, exactly_of_length]
    obtain ⟨hdone, hout, hregs⟩ := hall data
    rw [hwrite, hdata] at hdone
    exact ⟨_, gives_readResponse hd data [], hdone, hout, hregs⟩
  · obtain ⟨hdone, hout, hregs⟩ := hall []
    rw [hwrite] at hdone
    exact ⟨_, gives_writeResponse hd, hdone, hout, hregs⟩

theorem knotForward_arrives {k : Fin 50} {n : Fin 4} {c p i : Nat} {f : Flight} (hn : netRuns s.dev (knotHalf (knotOf k.val)) = true)
    (hp : forwardPick (knotCycle (knotOf k.val) (.slot n) s.dev) (knotOf k.val) (.slot n) = some (c, p, f, i))
    (ht : i = 0 → f.hd.type.val ≤ 3)
    (hb : i = 0 → turnedBack (knotCycle (knotOf k.val) (.slot n) s.dev) (knotOf k.val) (.slot n) f = none)
    (htail : i + 1 = f.flits) (hdev : f.hd.dstDev.val = devId s.dev) :
    ∃ t, exec (.knotForward k (.slot n) noFlitErr) s = .next t ∧ t.dev.net.arrived = s.dev.net.arrived ++ [f] ∧
      (∀ g ∈ t.dev.net.flights, g.pid ≠ f.pid) ∧ t.dev.regs = s.dev.regs := by
  refine ⟨_, gives_of_eq (gives_knotForward ..) (knotForward_moves hn hp ht hb), ?_⟩
  obtain ⟨cycle, taken, hcycle⟩ := knotCycle_eq (knotOf k.val) (.slot n) s.dev
  obtain ⟨vcs, owners, turn, promoted, hmove⟩ :=
    moveFlit_tail (d := knotCycle (knotOf k.val) (.slot n) s.dev) (k := knotOf k.val) (m := n) (p := p) htail
  rw [hmove, hcycle]
  exact leaveNetwork_arrives hdev

theorem requestTimeout_completes {src : NodeId} {tag : BitVec 10} {o : Outst} (hsht : nodeShuttle s.dev src = none)
    (ho : s.dev.net.outst.find? (fun o => o.src == src && o.tag == tag.toNat) = some o)
    (hs : ∀ k, nodeStile s.dev src = some k → stileRuns s.dev k = true ∧ s.dev.fld (stileCtrl k) 16 16 ≠ 0) :
    ∃ t, exec (.requestTimeout src tag) s = .next t ∧ t.dev.net.done.head? = some (o.src, o.tag, { status := 9, data := [] }) ∧
      o ∉ t.dev.net.outst :=
  ⟨_, gives_of_eq (gives_requestTimeout ..) (sourceTimeout_of_outstanding hsht ho hs), netComplete_done ..,
    not_mem_netComplete_outst _ _ rfl rfl⟩

theorem stileRequest_completes {st : Fin 128} {addr : BitVec 48} {lenM1 : BitVec 13} {cls : Fin 4} {tag : BitVec 8} {t : Target}
    {base size : Nat} (hready : stileReady s.dev st.val tag.toNat
      ⟨stileNode s.dev st.val, tag.toNat, devId s.dev, false, addr.toNat, lenM1.toNat + 1, []⟩ = true)
    (hn : netRuns s.dev (knotHalf (stileKnot st.val)) = true) (hwin : windowOf s.dev addr.toNat = some (t, base, size)) (ht : t ≠ .dram)
    (hlen : addr.toNat + (lenM1.toNat + 1) ≤ base + size)
    (hr : halfReach s.dev (stileKnot st.val) (knotHalf (targetPlace s.dev t addr.toNat).1) = true) :
    ∃ u f, exec (.stileRequest st false addr lenM1 cls (Fin.ofNat 8 (devId s.dev)) tag []) s = .next u ∧
      u.dev.net.flights = s.dev.net.flights ++ [f] ∧ f.hd.addr = addr ∧ f.hd.type = 0 ∧ f.flits = 1 ∧
      f.hd.mclass = 0 ∧ f.hd.lenM1.val = lenM1.toNat ∧ f.hd.cls = cls ∧ f.hd.tag.val = tag.toNat ∧
      f.hd.dstKnot.val = (targetPlace s.dev t addr.toNat).1 % 128 ∧
      u.dev.net.outst.length = s.dev.net.outst.length + 1 := by
  have hdev : (Fin.ofNat 8 (devId s.dev)).val = devId s.dev := Nat.mod_eq_of_lt s.dev.sys.straps.isLt
  refine ⟨_, _, gives_of_eq (gives_stileRequest ..) (stileRequest_sends hdev hready hn hwin ht hlen), (sendLegs_read hr).1,
    (BitVec.ofNat_toNat _ _).trans (BitVec.setWidth_eq _), rfl, rfl, rfl, ?_, Fin.ext (Nat.mod_eq_of_lt cls.isLt), ?_, rfl,
    (sendLegs_read hr).2⟩
  · exact Nat.mod_eq_of_lt lenM1.isLt
  · exact Nat.mod_eq_of_lt (by omega)

theorem stileInboundAnswer_completes {st : Fin 128} {status : BitVec 4} {data : List Byte} {x : Inbound} {rest : List Inbound}
    (hx : inboundOf s.dev st.val = x :: rest) (hr : stileRuns s.dev st.val = true) (hst : status.toNat < 12) (hb : x.bad = false)
    (hw : tabWf noHeld s.dev.net.inbound = true) :
    ∃ t f, exec (.stileInboundAnswer st status data) s = .next t ∧ inboundOf t.dev st.val = rest ∧
      t.dev.net.flights = s.dev.net.flights ++ [f] ∧ f.hd = respond x.hd status.toNat :=
  ⟨_, _, gives_of_eq (gives_stileInboundAnswer ..) (stileAnswer_answers hx hr hst hb), inboundOf_tabSet hw, inject_flights .., rfl⟩

theorem halfDownSweep_completes {h : Half} {o : Outst} {p : Part} (hup : s.dev.up h = false) (ho : s.dev.net.outst = [o])
    (hparts : o.parts = [p]) (hh : p.half = h) (he : p.entered = false) (hn : p.answer = none) (hk : knotHalf o.src.knot.val ≠ h) :
    ∃ t, exec (.halfDownSweep h) s = .next t ∧ t.dev.net.outst = [] ∧
      t.dev.net.done.head? = some (o.src, o.tag, { status := 4, data := [] }) := by
  refine ⟨_, gives_of_eq (gives_halfDownSweep h) (halfDownSweep_single hup ho hparts hh he hn hk), ?_, netComplete_done ..⟩
  simp [netComplete_outst, ho, Outst.answered]

theorem halfLossDetect_completes {h : Half} (hup : s.dev.up h = false) :
    ∃ t, exec (.halfLossDetect h) s = .next t ∧ t.dev.mem = s.dev.mem ∧
      ∀ key, knotHalf (vcKnot key) = h → (t.dev.vc key).runs = [] := by
  obtain ⟨hnone, hmem⟩ := netCut_noBuffers h s.dev
  exact ⟨_, gives_of_eq (gives_halfLossDetect h) (halfLossDetect_eq hup), hmem, fun _ hk => hnone.runs hk⟩

end

/-- Settles O25, command by command. A response answers the request of its tag and address, and a tag is free from its TIMEOUT on (log entry
98). -/
theorem networkCompletes : Obligations.NetworkCompletes := by
  refine ⟨fun s hd data hs hw hp q hq ht => ?_, fun s hd data o p hs hw hst hp ho hparts hn haddr hpaddr hlen => ?_,
    fun s k out c p i f hn hp ht hb => ⟨?_, fun n hout htail hdev => ?_⟩, fun s k out c p st f hn hp ht hb => ?_,
    fun s k f hf hw ha hp => ?_, fun s src tag o hsht ho hs => ?_,
    fun s st addr lenM1 cls tag t base size hready hn hwin ht hlen hr => ?_,
    fun s st hd data hw hoff hload hr hroom hh hk hp hf hrep hwi hwh _ => ?_, fun s st status data x rest hx hr hst hb hw => ?_,
    fun s st ho hw => ?_, fun s h hup => ?_, fun s h o p hup ho hparts hh he hn hk _ => ?_⟩
  · exact gives_of_eq (gives_writeRequest hd data []) (congrArg s.dev.moved (writeRequest_of_served hs hw hp hq ht))
  · exact responses_complete hs hw hst hp ho hparts hn haddr hpaddr hlen
  · exact gives_of_eq (gives_knotForward ..) (knotForward_moves hn hp ht hb)
  · subst hout
    exact knotForward_arrives hn hp ht hb htail hdev
  · exact gives_of_eq (gives_knotForward ..) (knotForward_turnedBack hn hp ht hb)
  · exact ⟨_, gives_of_eq (gives_agePromotion k f.pid) (agePromotion_promotes hf hw ha hp), rfl, rfl, rfl, rfl⟩
  · exact requestTimeout_completes hsht ho hs
  · exact stileRequest_completes hready hn hwin ht hlen hr
  · exact ⟨_, gives_stileInbound st hd data, stileInbound_taken hw hoff hload hr hroom hh hk hp hf hrep hwi hwh⟩
  · exact stileInboundAnswer_completes hx hr hst hb hw
  · exact ⟨_, gives_stileCtrlApply st, stileApply_eff ho hw⟩
  · exact halfLossDetect_completes hup
  · exact halfDownSweep_completes hup ho hparts hh he hn hk

end Sys2Proof.Machine
end

section
/-!
Selection of a reference (07_lark_time R203 rule 1): the search over the entries, one entry at a time.
-/
namespace Sys2Proof.Machine

section
variable {d : Device} {h : Half} {p : Nat → Bool}

/-- The search's step: entry n against the best one before it. -/
def refStep (d : Device) (h : Half) (p : Nat → Bool) (best : Option Nat) (n : Nat) : Option Nat :=
  if !(qualified d h n && p n) then best
  else match best with
    | some m => if refPrio d n < refPrio d m then some n else best
    | none => some n

theorem bestRef_eq : bestRef d h p = (List.range 8).foldl (refStep d h p) none := rfl

theorem refStep_of_not_allowed {b : Option Nat} {k : Nat} (hk : ¬ (qualified d h k = true ∧ p k = true)) : refStep d h p b k = b := by
  simp [refStep, hk]

theorem refStep_none {k : Nat} (hk : qualified d h k = true ∧ p k = true) : refStep d h p none k = some k := by
  simp [refStep, hk]

theorem refStep_some {k m : Nat} (hk : qualified d h k = true ∧ p k = true) :
    refStep d h p (some m) k = if refPrio d k < refPrio d m then some k else some m := by
  simp [refStep, hk]

/-- Entry n is the best of those below k that are qualified and allowed. -/
structure BestBelow (d : Device) (h : Half) (p : Nat → Bool) (k n : Nat) : Prop where
  below : n < k
  allowed : qualified d h n = true ∧ p n = true
  least : ∀ m, m < k → qualified d h m = true → p m = true → refPrio d n < refPrio d m ∨ (refPrio d n = refPrio d m ∧ n ≤ m)

/-- A further entry that is not better leaves the best one as it is: it has no lower prio, or it is not to be selected at all. -/
theorem BestBelow.succ {k n : Nat} (hn : BestBelow d h p k n)
    (hk : qualified d h k = true ∧ p k = true → refPrio d n ≤ refPrio d k) : BestBelow d h p (k + 1) n := by
  refine ⟨hn.below.trans k.lt_succ_self, hn.allowed, fun m hm hq hp => ?_⟩
  rcases Nat.lt_succ_iff_lt_or_eq.mp hm with hlt | rfl
  · exact hn.least m hlt hq hp
  · have := hk ⟨hq, hp⟩
    have := hn.below
    omega

/-- A further entry of lower prio is the best one. -/
theorem BestBelow.replace {k n : Nat} (hn : BestBelow d h p k n) (hk : qualified d h k = true ∧ p k = true)
    (hprio : refPrio d k < refPrio d n) : BestBelow d h p (k + 1) k := by
  refine ⟨k.lt_succ_self, hk, fun m hm hq hp => ?_⟩
  rcases Nat.lt_succ_iff_lt_or_eq.mp hm with hlt | rfl
  · have := hn.least m hlt hq hp
    omega
  · exact .inr ⟨rfl, le_rfl⟩

/-- What the search over the first k entries finds. -/
theorem search_best (k : Nat) :
    (∀ n, (List.range k).foldl (refStep d h p) none = some n → BestBelow d h p k n) ∧
    ((List.range k).foldl (refStep d h p) none = none → ∀ m, m < k → ¬ (qualified d h m = true ∧ p m = true)) := by
  induction k with
  | zero => exact ⟨fun n hn => (nomatch hn), fun _ m hm => absurd hm (Nat.not_lt_zero m)⟩
  | succ k ih =>
    obtain ⟨ihsome, ihnone⟩ := ih
    rw [List.range_succ, List.foldl_concat]
    by_cases hk : qualified d h k = true ∧ p k = true
    · cases hb : (List.range k).foldl (refStep d h p) none with
      | none =>
        rw [refStep_none hk]
        refine ⟨fun n hn => ?_, fun hn => nomatch hn⟩
        obtain rfl := Option.some.inj hn
        refine ⟨k.lt_succ_self, hk, fun m hm hq hp => ?_⟩
        rcases Nat.lt_succ_iff_lt_or_eq.mp hm with hlt | rfl
        · exact absurd ⟨hq, hp⟩ (ihnone hb m hlt)
        · exact .inr ⟨rfl, le_rfl⟩
      | some m =>
        rw [refStep_some hk]
        split
        next hlt => exact ⟨fun n hn => Option.some.inj hn ▸ (ihsome m hb).replace hk hlt, fun hn => nomatch hn⟩
        next hge => exact ⟨fun n hn => Option.some.inj hn ▸ (ihsome m hb).succ fun _ => Nat.not_lt.mp hge, fun hn => nomatch hn⟩
    · rw [refStep_of_not_allowed hk]
      refine ⟨fun n hn => (ihsome n hn).succ fun h => absurd h hk, fun hn m hm => ?_⟩
      rcases Nat.lt_succ_iff_lt_or_eq.mp hm with hlt | rfl
      · exact ihnone hn m hlt
      · exact hk

end

/-- Settles O26: the search over all eight entries. -/
theorem referenceSelection : Obligations.ReferenceSelection := by
  intro d h p
  rw [bestRef_eq]
  obtain ⟨hsome, hnone⟩ := search_best (d := d) (h := h) (p := p) 8
  exact ⟨fun n hn => ⟨(hsome n hn).below, (hsome n hn).allowed.1, (hsome n hn).allowed.2, (hsome n hn).least⟩, hnone⟩

end Sys2Proof.Machine
end

section
/-!
Radio grids (07_lark_time R196, R197): the symbols of a subframe, and the coordinate that contains a time.
-/
namespace Sys2Proof.Machine

section
variable {g : Grid}

/-! ### The symbols of a subframe (R196) -/

theorem gridValid_iff : gridValid g = true ↔
    (g.mu ≤ 4 ∧ g.k ≤ 8 ∧ g.mu ≤ g.k ∧ g.ofs / 65536 ≤ 10239999999) ∧ (g.ext = true → g.mu = 2) := by
  cases hx : g.ext <;> simp [gridValid, hx]

theorem gridScale_mul (hk : g.mu ≤ g.k) : 2 ^ g.mu * 2 ^ (g.k - g.mu) = 2 ^ g.k := by
  rw [← Nat.pow_add, Nat.add_sub_cancel' hk]

theorem symStart_ext (hx : g.ext = true) (j : Nat) : symStart g j = j * (160 * 2 ^ (g.k - g.mu)) := by
  simp [symStart, hx]

theorem symStart_normal (hx : g.ext = false) (j : Nat) : symStart g j =
    j * (137 * 2 ^ (g.k - g.mu)) + 2 ^ g.k * ((if j ≥ 1 then 1 else 0) + (if j > 7 * 2 ^ g.mu then 1 else 0)) := by
  simp [symStart, hx]

theorem symStart_zero : symStart g 0 = 0 := by
  cases hx : g.ext
  · simp [symStart_normal hx]
  · simp [symStart_ext hx]

/-- At the grid's scale a symbol has at most 160 samples, or 137 and 2^k more: the first symbol and the longer one at the middle of the
subframe are two. -/
theorem symStart_succ_cases (j : Nat) : ∃ n, symStart g (j + 1) = symStart g j + n ∧ 0 < n ∧
    (n ≤ 160 * 2 ^ (g.k - g.mu) ∨ n ≤ 137 * 2 ^ (g.k - g.mu) + 2 ^ g.k) := by
  have hp := Nat.two_pow_pos (g.k - g.mu)
  have hm := Nat.two_pow_pos g.mu
  have hk := Nat.two_pow_pos g.k
  cases hx : g.ext
  · simp only [symStart_normal hx, Nat.add_mul, Nat.one_mul]
    rcases Nat.eq_zero_or_pos j with rfl | hj
    · refine ⟨137 * 2 ^ (g.k - g.mu) + 2 ^ g.k, ?_, by omega, .inr le_rfl⟩
      have : ¬ 0 + 1 > 7 * 2 ^ g.mu := by omega
      simp [this]
    · have h1 : j ≥ 1 := hj
      have h2 : j + 1 ≥ 1 := by omega
      simp only [h1, h2, if_true]
      by_cases hmid : j = 7 * 2 ^ g.mu
      · refine ⟨137 * 2 ^ (g.k - g.mu) + 2 ^ g.k, ?_, by omega, .inr le_rfl⟩
        simp only [hmid, gt_iff_lt, Nat.lt_add_one, lt_irrefl, if_true, if_false]
        omega
      · refine ⟨137 * 2 ^ (g.k - g.mu), ?_, by omega, .inr (Nat.le_add_right _ _)⟩
        have : (j + 1 > 7 * 2 ^ g.mu) = (j > 7 * 2 ^ g.mu) := by simp only [eq_iff_iff]; omega
        simp only [this]
        omega
  · exact ⟨160 * 2 ^ (g.k - g.mu), by simp [symStart_ext hx, Nat.add_mul], by omega, .inl le_rfl⟩

theorem symStart_lt_succ (j : Nat) : symStart g j < symStart g (j + 1) := by
  obtain ⟨n, hn, hpos, -⟩ := symStart_succ_cases (g := g) j
  omega

theorem symLen_lt (hk : g.k ≤ 8) (j : Nat) : symLen g j < 2 ^ 16 := by
  obtain ⟨n, hn, -, hle⟩ := symStart_succ_cases (g := g) j
  have h1 : 2 ^ (g.k - g.mu) ≤ 2 ^ 8 := Nat.pow_le_pow_right (by omega) (by omega)
  have h2 : 2 ^ g.k ≤ 2 ^ 8 := Nat.pow_le_pow_right (by omega) hk
  unfold symLen
  omega

theorem symStart_subSyms (hv : gridValid g = true) : symStart g (subSyms g) = 1920 * 2 ^ g.k := by
  obtain ⟨⟨-, -, hk, -⟩, hext⟩ := gridValid_iff.mp hv
  have hscale := gridScale_mul hk
  have hm := Nat.two_pow_pos g.mu
  cases hx : g.ext
  · have h1 : 14 * 2 ^ g.mu ≥ 1 := by omega
    have h2 : 14 * 2 ^ g.mu > 7 * 2 ^ g.mu := by omega
    rw [symStart_normal hx, subSyms, slotSyms, hx, if_neg Bool.false_ne_true, if_pos h1, if_pos h2]
    linear_combination 14 * 137 * hscale
  · rw [symStart_ext hx, subSyms, slotSyms, hx, if_pos rfl]
    linear_combination 12 * 160 * hscale

theorem sampTime_subframe : sampTime g (1920 * 2 ^ g.k) = tMs := by
  have hp := Nat.two_pow_pos g.k
  have hnum : 1920 * 2 ^ g.k * 102400000 + 3 * 2 ^ g.k - 1 = (3 * 2 ^ g.k - 1) + 3 * 2 ^ g.k * 65536000000 := by omega
  rw [sampTime, hnum, Nat.add_mul_div_left _ _ (by omega), Nat.div_eq_of_lt (by omega)]
  rfl

/-! ### The coordinate shown (R197) -/

/-- The search for a symbol finds the last one, up to n, that has started. -/
theorem symAt_spec (x n : Nat) : symAt g x n ≤ n ∧ symStart g (symAt g x n) * 102400000 ≤ x ∧
    (symAt g x n < n → x < symStart g (symAt g x n + 1) * 102400000) := by
  induction n with
  | zero => simp [symAt, symStart_zero]
  | succ n ih =>
    rw [symAt]
    split
    next hle => exact ⟨le_rfl, hle, fun h => absurd h (lt_irrefl _)⟩
    next hgt =>
      obtain ⟨hn, hstart, hend⟩ := ih
      refine ⟨hn.trans n.le_succ, hstart, fun _ => ?_⟩
      rcases hn.lt_or_eq with hlt | heq
      · exact hend hlt
      · rw [heq]
        exact Nat.not_le.mp hgt

/-- A coordinate's word from its fields: frame, subframe, slot, symbol and sample. -/
def coordWord (sfn sf slot sym sample : Nat) : Nat := sfn * 2 ^ 30 + sf * 2 ^ 26 + slot * 2 ^ 22 + sym * 2 ^ 18 + sample

/-- A word whose fields are in their ranges is a coordinate of the grid. -/
theorem coordOk_coordWord {sfn sf slot sym sample : Nat} (hsfn : sfn < 1024) (hsf : sf ≤ 9) (hslot : slot < 2 ^ g.mu)
    (hmu : g.mu ≤ 4) (hsym : sym < slotSyms g) (hsample : sample < symLen g (slot * slotSyms g + sym)) (hk : g.k ≤ 8) :
    coordOk g (coordWord sfn sf slot sym sample) = true ∧ coordWord sfn sf slot sym sample < 2 ^ 40 := by
  have h1 : 2 ^ g.mu ≤ 2 ^ 4 := Nat.pow_le_pow_right (by omega) hmu
  have h2 : slotSyms g ≤ 14 := by unfold slotSyms; split <;> omega
  have h3 := symLen_lt hk (slot * slotSyms g + sym)
  have esf : bitsAt (coordWord sfn sf slot sym sample) 26 4 = sf := by simp only [bitsAt_eq, coordWord]; omega
  have eslot : bitsAt (coordWord sfn sf slot sym sample) 22 4 = slot := by simp only [bitsAt_eq, coordWord]; omega
  have esym : bitsAt (coordWord sfn sf slot sym sample) 18 4 = sym := by simp only [bitsAt_eq, coordWord]; omega
  have ezero : bitsAt (coordWord sfn sf slot sym sample) 16 2 = 0 := by simp only [bitsAt_eq, coordWord]; omega
  have esample : bitsAt (coordWord sfn sf slot sym sample) 0 16 = sample := by simp only [bitsAt_eq, coordWord]; omega
  refine ⟨?_, by unfold coordWord; omega⟩
  simp [coordOk, esf, eslot, esym, ezero, esample, hsf, hslot, hsym, hsample]

theorem gridNow_of_disabled (he : g.en = false) (t : Nat) : gridNow g t = 0 := by simp [gridNow, he]

/-- What an enabled grid shows: the symbol that has started last in the subframe, and the samples since. -/
theorem gridNow_of_enabled (he : g.en = true) (t : Nat) : ∃ (sub : Int) (u : Nat),
    u < tMs * (3 * 2 ^ g.k) ∧ gridNow g t = coordWord (sub / 10 % 1024).toNat (sub % 10).toNat
      (symAt g u (subSyms g - 1) / slotSyms g) (symAt g u (subSyms g - 1) % slotSyms g)
      (u / 102400000 - symStart g (symAt g u (subSyms g - 1))) := by
  have hp := Nat.two_pow_pos g.k
  have htms : (0 : Int) < (tMs : Int) := by decide
  have hr := Int.emod_lt_of_pos ((t : Int) - g.ofs) htms
  refine ⟨((t : Int) - g.ofs) / (tMs : Int), (((t : Int) - g.ofs) % (tMs : Int)).toNat * (3 * 2 ^ g.k), ?_, ?_⟩
  · exact Nat.mul_lt_mul_of_pos_right (by omega) (by omega)
  · simp only [gridNow, he, Bool.not_true, Bool.false_eq_true, if_false, coordWord]

theorem gridNow_coordOk (hv : gridValid g = true) (he : g.en = true) (t : Nat) :
    coordOk g (gridNow g t) = true ∧ gridNow g t < 2 ^ 40 := by
  obtain ⟨⟨hmu, hk, -, -⟩, -⟩ := gridValid_iff.mp hv
  obtain ⟨sub, u, hu, hnow⟩ := gridNow_of_enabled he t
  have hslots : 0 < slotSyms g := by unfold slotSyms; split <;> omega
  have hsyms : 0 < subSyms g := Nat.mul_pos hslots (Nat.two_pow_pos _)
  obtain ⟨hle, hstart, hend⟩ := symAt_spec (g := g) u (subSyms g - 1)
  rw [hnow]
  generalize symAt g u (subSyms g - 1) = j at hle hstart hend
  have hnext : u < symStart g (j + 1) * 102400000 := by
    rcases hle.lt_or_eq with hlt | heq
    · exact hend hlt
    · have hlast : j + 1 = subSyms g := by omega
      rw [hlast, symStart_subSyms hv]
      have : tMs = 65536000000 := rfl
      rw [this] at hu
      omega
  refine coordOk_coordWord (by omega) (by omega) ?_ hmu (Nat.mod_lt _ hslots) ?_ hk
  · exact Nat.div_lt_of_lt_mul (by change j < subSyms g; omega)
  · rw [Nat.div_add_mod', symLen]
    omega

end

/-- Settles O27: the symbols add up to the subframe, and every part of the coordinate shown lies in its range. -/
theorem gridCoordinates : Obligations.GridCoordinates := fun _ hv =>
  ⟨symStart_zero, fun j _ => symStart_lt_succ j, symStart_subSyms hv, sampTime_subframe, fun he t => gridNow_coordOk hv he t,
    fun he t => gridNow_of_disabled he t⟩

end Sys2Proof.Machine
end

section
/-!
Registers field by field, for the proofs about Lark time and its calendar: what a field or bit reads after a write of another field,
bit or register.
-/
namespace Sys2Proof.Machine

section
variable {d : Device} {a b lo n v k : Nat}

theorem Device.setFld_wf (hw : tabWf regDefault d.regs = true) : tabWf regDefault (d.setFld a lo n v).regs = true :=
  Device.setReg_wf _ _ _ hw

theorem Device.putBit_wf {c : Bool} (hw : tabWf regDefault d.regs = true) : tabWf regDefault (d.putBit a k c).regs = true :=
  Device.setReg_wf _ _ _ hw

theorem Device.reg_setFld_ne (hb : b ≠ a) (hw : tabWf regDefault d.regs = true) : (d.setFld a lo n v).reg b = d.reg b :=
  Device.reg_setReg_ne _ _ _ _ hb hw

theorem Device.reg_putBit_ne {c : Bool} (hb : b ≠ a) (hw : tabWf regDefault d.regs = true) : (d.putBit a k c).reg b = d.reg b :=
  Device.reg_setReg_ne _ _ _ _ hb hw

theorem Device.bit_setReg_ne {x : Word} (hb : b ≠ a) (hw : tabWf regDefault d.regs = true) : (d.setReg a x).bit b k = d.bit b k := by
  rw [Device.bit, Device.fld_setReg_ne _ _ _ _ _ _ hb hw, ← Device.bit]

theorem Device.bit_setFld_ne (h : lo + n ≤ 32) (hk : lo + n ≤ k ∨ k < lo) (hw : tabWf regDefault d.regs = true) :
    (d.setFld a lo n v).bit a k = d.bit a k := by
  rw [Device.bit, Device.fld_setFld_ne _ _ _ _ _ _ _ h (hk.imp_right Nat.succ_le_of_lt) hw, ← Device.bit]

theorem Device.bit_putBit_ne {j : Nat} {c : Bool} (hj : j < 32) (hk : k ≠ j) (hw : tabWf regDefault d.regs = true) :
    (d.putBit a j c).bit a k = d.bit a k :=
  Device.bit_setFld_ne hj (by omega) hw

theorem Device.fld_putBit_ne {j : Nat} {c : Bool} (hj : j < 32) (hk : j < lo ∨ lo + n ≤ j) (hw : tabWf regDefault d.regs = true) :
    (d.putBit a j c).fld a lo n = d.fld a lo n :=
  Device.fld_setFld_ne _ _ _ _ _ _ _ hj (hk.imp_left Nat.succ_le_of_lt) hw

/-- A field depends on its register alone. -/
theorem Device.fld_congr {e : Device} (h : e.reg a = d.reg a) : e.fld a lo n = d.fld a lo n := by rw [Device.fld, h, ← Device.fld]

theorem Device.bit_congr {e : Device} (h : e.reg a = d.reg a) : e.bit a k = d.bit a k := by
  rw [Device.bit, Device.fld_congr h, ← Device.bit]

/-- A register's bit as the bit of its word. -/
theorem Device.bit_eq_getLsbD : d.bit a k = (d.reg a).getLsbD k := by
  simp only [Device.bit, Device.fld, fieldOf, bitsAt_eq, BitVec.getLsbD, Nat.testBit_eq_decide_div_mod_eq, beq_eq_decide, Nat.pow_one]

theorem fieldOf_lt (w : Word) : fieldOf w lo n < 2 ^ n := Nat.mod_lt _ (Nat.two_pow_pos _)

end

end Sys2Proof.Machine
end

section
/-!
Grids and channels (07_lark_time R198, 08_lark_calendar R242 to R244): what arming the calendar's entries leaves as it was, the first
hand-over point of a set, and the commands.
-/
namespace Sys2Proof.Machine

section
variable {d e x : Device} {h : Half}

/-! ### What arming writes (R235, R236, R238, R247) -/

/-- The registers in which the calendar of some half reports what it missed or refused. -/
def calReport (a : Nat) : Prop := ∃ h, a = calStat h ∨ a = lrkA h 0x23C

/-- `e` is `d` but for both calendars and their reports. -/
structure CalKept (d e : Device) : Prop where
  wf : tabWf regDefault e.regs = true
  reg : ∀ a, ¬ calReport a → e.reg a = d.reg a
  grids : e.time.grids = d.time.grids
  gridPend : e.time.gridPend = d.time.gridPend

theorem CalKept.refl (hw : tabWf regDefault d.regs = true) : CalKept d d := ⟨hw, fun _ _ => rfl, rfl, rfl⟩

theorem CalKept.bit {a k : Nat} (hk : CalKept d e) (ha : ¬ calReport a) : e.bit a k = d.bit a k := Device.bit_congr (hk.reg a ha)
theorem CalKept.fld {a lo n : Nat} (hk : CalKept d e) (ha : ¬ calReport a) : e.fld a lo n = d.fld a lo n := Device.fld_congr (hk.reg a ha)
theorem CalKept.grid {g : Nat} (hk : CalKept d e) : e.grid g = d.grid g := congrArg (fun t => tabGet gridReset t g) hk.grids

theorem CalKept.ite {c : Prop} [Decidable c] (hk : CalKept d e) (hx : CalKept d x) : CalKept d (if c then e else x) := by
  split <;> assumption
theorem CalKept.each {α : Type} {xs : List α} {f : Device → α → Device} (hk : CalKept d e)
    (hf : ∀ x y, CalKept d x → CalKept d (f x y)) : CalKept d (e.each xs f) :=
  List.foldlRecOn xs f hk fun x hx y _ => hf x y hx

theorem CalKept.setReport {a : Nat} {v : Word} (hk : CalKept d e) (ha : calReport a) : CalKept d (e.setReg a v) :=
  ⟨Device.setReg_wf _ _ _ hk.wf,
    fun b hb => (Device.reg_setReg_ne _ _ _ _ (by rintro rfl; exact hb ha) hk.wf).trans (hk.reg b hb), hk.grids, hk.gridPend⟩

theorem CalKept.setCal {c : Calendar} (hk : CalKept d e) : CalKept d (e.setCal h c) := by
  obtain ⟨hwf, hreg, hgrids, hpend⟩ := hk
  cases h <;> exact ⟨hwf, hreg, hgrids, hpend⟩

theorem CalKept.calFlag {b i : Nat} (hk : CalKept d e) : CalKept d (calFlag h b i e) :=
  (hk.setReport ⟨h, .inl rfl⟩).setReport ⟨h, .inl rfl⟩
theorem CalKept.setEntry {i v} (hk : CalKept d e) : CalKept d (e.setEntry h i v) := hk.setCal
theorem CalKept.splitArms {new i A} (hk : CalKept d e) : CalKept d (splitArms h new i A e) := hk.setCal
theorem CalKept.addArm {i v} (hk : CalKept d e) : CalKept d (addArm h i v e) := hk.setCal
theorem CalKept.missEntry {A i} (hk : CalKept d e) : CalKept d (missEntry h A i e) :=
  have hm := (hk.calFlag.setReport ⟨h, .inr rfl⟩).setEntry
  .ite hm.addArm hm
theorem CalKept.armEntry {new wait A i} (hk : CalKept d e) : CalKept d (armEntry h new wait A i e) :=
  .ite hk.splitArms (.ite (.ite hk.splitArms hk.splitArms.missEntry) hk.splitArms.addArm)

theorem CalKept.chanDecide {c} (hk : CalKept d e) : CalKept d (chanDecide h c e) := by
  unfold Machine.chanDecide
  extract_lets
  split
  · exact .ite hk (CalKept.each hk.setCal fun _ _ hx => hx.armEntry)
  · exact hk

theorem CalKept.replan {old p} (hk : CalKept d e) : CalKept d (replan h old p e) := hk.setCal.each fun _ _ hx => hx.chanDecide
theorem CalKept.calGridChange {g A} (hk : CalKept d e) : CalKept d (calGridChange h g A e) :=
  (hk.each fun _ _ hx => .ite hx.splitArms.setEntry.calFlag hx.armEntry).replan
theorem CalKept.commitMisses {r H} (hk : CalKept d e) : CalKept d (commitMisses h r H e) :=
  hk.each fun _ _ hx => .ite hx.missEntry hx

theorem gridCfgA_not_report (g : Nat) (hg : g < 4) : ¬ calReport (gridCfgA g) := by
  rintro ⟨h, ha | ha⟩ <;> cases h <;> simp only [gridCfgA, lrkWide, calStat, lrkA, hn] at ha <;> omega

theorem chanCtlA_not_report (c : Fin 32) {o : Nat} (ho : o < 16) : ¬ calReport (chanCtlA h c.val o) := by
  rintro ⟨h', ha | ha⟩ <;> cases h <;> cases h' <;> simp only [chanCtlA, calStat, lrkA, hn] at ha <;> omega

/-! ### A grid's configuration (R195, R198) -/

theorem gridCfg_ne_ofs (g : Nat) : gridCfgA g ≠ gridCfgA g + 4 := by omega

/-- Bit 30 of LRK_GRID_CFG is none of a configuration's fields. -/
theorem gridWord_bit30 {c o : Word} {x : Grid} (hx : x = gridOf c o) :
    (BitVec.ofNat 32 (2 ^ 31 * b2n x.en + 2 ^ 25 * b2n x.ext + 2 ^ 22 * x.mu + 2 ^ 18 * x.k + x.ofs / 65536 / 65536)).getLsbD 30 = false := by
  subst hx
  have hmu := fieldOf_lt (lo := 22) (n := 3) c
  have hk := fieldOf_lt (lo := 18) (n := 4) c
  have hns := fieldOf_lt (lo := 0) (n := 18) c
  have hhi := fieldOf_lt (lo := 16) (n := 16) o
  have hlo := fieldOf_lt (lo := 0) (n := 16) o
  have hen := b2n_le_one (c.getLsbD 31)
  have hext := b2n_le_one (c.getLsbD 25)
  simp only [gridOf, BitVec.getLsbD_ofNat, Nat.testBit_eq_decide_div_mod_eq, Bool.and_eq_false_iff, decide_eq_false_iff_not]
  omega

/-- Showing a configuration leaves the bit that says one waits. -/
theorem gridShow_bit30 {g : Nat} {c o : Word} {y : Grid} (hy : y = gridOf c o) (hw : tabWf regDefault d.regs = true) :
    (gridShow g y d).bit (gridCfgA g) 30 = d.bit (gridCfgA g) 30 := by
  rw [gridShow, Device.bit_setReg_ne (gridCfg_ne_ofs g) (Device.setReg_wf _ _ _ hw), Device.bit_eq_getLsbD,
    Device.reg_setReg_same _ _ _ hw, BitVec.getLsbD_or, gridWord_bit30 hy, Device.bit_eq_getLsbD]
  simp

theorem gridShow_wf {g : Nat} {y : Grid} (hw : tabWf regDefault d.regs = true) : tabWf regDefault (gridShow g y d).regs = true :=
  Device.setReg_wf _ _ _ (Device.setReg_wf _ _ _ hw)

/-- The device with a configuration in force and none waiting, before the registers show it. -/
def gridSet (g : Nat) (y : Grid) (d : Device) : Device :=
  { d with time := { d.time with grids := tabSet gridReset d.time.grids g y, gridPend := tabSet noGridPend d.time.gridPend g none } }

theorem gridApply_eq {g A : Nat} {y : Grid} : gridApply g y A d =
    calGridChange .e g A (calGridChange .w g A (gridShow g y ((gridSet g y d).putBit (gridCfgA g) 30 false))) := rfl

theorem gridShow_time {g : Nat} {y : Grid} : (gridShow g y d).time = d.time := rfl

/-- A configuration in force: it is the grid, none waits, and the registers say so. -/
theorem gridApply_inForce {g A : Nat} {c o : Word} (hg : g < 4) (hw : tabWf regDefault d.regs = true)
    (hwg : tabWf gridReset d.time.grids = true) (hwp : tabWf noGridPend d.time.gridPend = true) :
    (gridApply g (gridOf c o) A d).grid g = gridOf c o ∧ tabGet noGridPend (gridApply g (gridOf c o) A d).time.gridPend g = none ∧
      (gridApply g (gridOf c o) A d).bit (gridCfgA g) 30 = false := by
  have hset : tabWf regDefault (gridSet g (gridOf c o) d).regs = true := hw
  have hput := Device.putBit_wf (a := gridCfgA g) (k := 30) (c := false) hset
  have hk := ((CalKept.refl (gridShow_wf (g := g) (y := gridOf c o) hput)).calGridChange (h := .w) (g := g) (A := A)).calGridChange
    (h := .e) (g := g) (A := A)
  rw [gridApply_eq]
  refine ⟨?_, ?_, ?_⟩
  · rw [hk.grid, Device.grid, gridShow_time, Device.putBit_time]
    exact tabGet_tabSet_same _ _ _ _ hwg
  · rw [hk.gridPend, gridShow_time, Device.putBit_time]
    exact tabGet_tabSet_same _ _ _ _ hwp
  · rw [hk.bit (gridCfgA_not_report g hg), gridShow_bit30 rfl hput]
    exact Device.bit_putBit_same (by decide) hset

/-! ### The first hand-over point (R243) -/

/-- The last multiple of a period that is no later, counted back from above: the first that is no earlier. -/
theorem le_neg_ediv_mul {t m : Int} (hm : 0 < m) : t ≤ -((-t) / m * m) := by
  have := Int.ediv_mul_le (-t) (Int.ne_of_gt hm)
  omega

theorem le_gridTime {g : Grid} {sub t : Int} {j n : Nat} (hj : ((t - g.ofs - sub * tMs).toNat : Int) ≤ sampTime g (symStart g j + n)) :
    t ≤ gridTime g sub j n := by
  unfold gridTime
  omega

theorem le_nextBoundary (g : Grid) (unit : Nat) (t : Int) : t ≤ nextBoundary g unit t := by
  have htms : (0 : Int) < (tMs : Int) := by decide
  have hup (m : Int) (hm : 0 < m) : t ≤ g.ofs - (-(t - g.ofs)) / m * m := by
    have := le_neg_ediv_mul (t := t - g.ofs) hm
    omega
  have hsplit := Int.emod_add_mul_ediv (t - g.ofs) tMs
  have hmod := Int.emod_nonneg (t - g.ofs) (Int.ne_of_gt htms)
  have hlt := Int.emod_lt_of_pos (t - g.ofs) htms
  have hcomm := Int.mul_comm (tMs : Int) ((t - g.ofs) / tMs)
  unfold nextBoundary
  extract_lets x up sub r step
  split
  · exact hup _ (by decide)
  · exact hup _ htms
  · split
    next i hi =>
      have hr : r ≤ sampTime g (symStart g (i * step)) := by simpa using List.find?_some hi
      refine le_gridTime ?_
      simp only [r, sub, x, Nat.add_zero] at hr ⊢
      omega
    next =>
      refine le_gridTime ?_
      simp only [sub, x, Int.add_mul, Int.one_mul]
      omega

theorem le_nextPoint {ctl : Word} {t H : Int} (hH : nextPoint d ctl t = some H) : t ≤ H := by
  unfold nextPoint at hH
  split at hH
  · dsimp only at hH
    split at hH
    · exact Option.some.inj hH ▸ le_nextBoundary _ _ _
    · exact nomatch hH
  · exact Option.some.inj hH ▸ le_neg_ediv_mul (by decide)

/-! ### Staging and committing a set (R242, R244) -/

theorem Device.chan08_setChan08 {c : Nat} {y : Chan} (hw : tabWf chanReset08 (d.cal h).chans = true) : (d.setChan08 h c y).chan08 h c = y := by
  cases h <;> exact tabGet_tabSet_same _ _ _ _ hw

/-- A set that is already decided, or none that waits, leaves nothing to decide. -/
theorem chanDecide_of_decided {c : Nat} {y : Staged × Nat} (hd : (d.chan08 h c).decided = some y) : chanDecide h c d = d := by
  simp [chanDecide, hd]

theorem chanDecide_of_not_staged {c : Nat} (hs : (d.chan08 h c).staged = none) : chanDecide h c d = d := by
  unfold chanDecide
  extract_lets
  split
  next hz => exact nomatch (hs ▸ hz)
  next => rfl

/-- A set is not decided before its hand-over cycle. -/
theorem chanDecide_of_early {c : Nat} {y : Staged} {t : Nat} (hs : (d.chan08 h c).staged = some y) (hp : y.plan = .from_ t)
    (ht : d.now h + calLead < t) : chanDecide h c d = d := by
  unfold chanDecide
  extract_lets
  split
  next z H _ hz =>
    obtain ⟨y', hy', hH⟩ := Option.bind_eq_some_iff.mp hz
    obtain ⟨H', hH', hpair⟩ := Option.map_eq_some_iff.mp hH
    obtain rfl : y = y' := Option.some.inj (hs.symm.trans hy')
    rw [planned, hp] at hH'
    obtain ⟨P, hP, hPH⟩ := Option.map_eq_some_iff.mp hH'
    have hle := le_nextPoint hP
    have : H' = H := congrArg Prod.snd hpair
    exact if_pos (by omega)
  next => rfl

end

/-! ### Where the commands complete -/

section
variable {s : State} {h : Half} {c : Fin 32} {g : Fin 4} {v : BitVec 32}

theorem gives_gridCfgWrite (g v) : gives (.gridCfgWrite g v) s (gridCfgWrite g.val v s.dev) := rfl
theorem gives_gridConfigApply (g) : gives (.gridConfigApply g) s (gridConfigApply g.val s.dev) := rfl
theorem gives_channelStage (h c v) : gives (.channelStage h c 3 v none) s ((chanStage h c.val v false s.dev).answer 0 []) := rfl
theorem gives_channelCommit (h c) : gives (.channelCommit h c) s (chanCommit h c.val s.dev) := rfl
theorem gives_handOverPoint (h c) : gives (.handOverPoint h c) s (handOverPoint h c.val s.dev) := rfl

/-- A valid configuration applies at once where its grid is disabled. -/
theorem gridCfgWrite_of_disabled {d : Device} {g : Nat} (hv : v.getLsbD 29 = false)
    (hvalid : gridValid (gridOf v (d.reg (gridCfgA g + 4))) = true) (he : (d.grid g).en = false) :
    gridCfgWrite g v d = gridApply g (gridOf v (d.reg (gridCfgA g + 4))) (d.now d.leader) d := by
  simp only [gridCfgWrite, hv, hvalid, he, Bool.false_eq_true, if_false, Bool.not_true, Bool.not_false, if_true]

/-- It waits where its grid is enabled. -/
theorem gridCfgWrite_of_enabled {d : Device} {g : Nat} (hv : v.getLsbD 29 = false)
    (hvalid : gridValid (gridOf v (d.reg (gridCfgA g + 4))) = true) (he : (d.grid g).en = true) :
    gridCfgWrite g v d = (gridShow g (gridOf v (d.reg (gridCfgA g + 4))) { d with time := { d.time with
      gridPend := tabSet noGridPend d.time.gridPend g (some (v, d.reg (gridCfgA g + 4))) } }).setBit (gridCfgA g) 30 := by
  simp only [gridCfgWrite, hv, hvalid, he, Bool.false_eq_true, if_false, Bool.not_true]

theorem gridConfigApply_of_pending {d : Device} {g : Nat} {cfg ofs : Word} (hp : tabGet noGridPend d.time.gridPend g = some (cfg, ofs)) :
    ∃ A, gridConfigApply g d = gridApply g (gridOf cfg ofs) A d := by
  simp only [gridConfigApply, hp]
  exact ⟨_, rfl⟩

theorem gridCfgWrite_completes (hw : tabWf regDefault s.dev.regs = true) (hwg : tabWf gridReset s.dev.time.grids = true)
    (hwp : tabWf noGridPend s.dev.time.gridPend = true) (hv : v.getLsbD 29 = false)
    (hvalid : gridValid (gridOf v (s.dev.reg (gridCfgA g.val + 4))) = true) :
    ((s.dev.grid g.val).en = false → ∃ t, exec (.gridCfgWrite g v) s = .next t ∧
      t.dev.grid g.val = gridOf v (s.dev.reg (gridCfgA g.val + 4)) ∧ t.dev.bit (gridCfgA g.val) 30 = false) ∧
    ((s.dev.grid g.val).en = true → ∃ t, exec (.gridCfgWrite g v) s = .next t ∧ t.dev.time.grids = s.dev.time.grids ∧
      tabGet noGridPend t.dev.time.gridPend g.val = some (v, s.dev.reg (gridCfgA g.val + 4)) ∧
      t.dev.bit (gridCfgA g.val) 30 = true) := by
  refine ⟨fun he => ?_, fun he => ?_⟩
  · obtain ⟨hgrid, -, hbit⟩ := gridApply_inForce (A := s.dev.now s.dev.leader) (c := v) (o := s.dev.reg (gridCfgA g.val + 4)) g.isLt hw hwg hwp
    have hgives := gives_of_eq (gives_gridCfgWrite g v) (gridCfgWrite_of_disabled hv hvalid he)
    refine ⟨_, hgives, ?_⟩
    dsimp only
    exact ⟨hgrid, hbit⟩
  · have hgives := gives_of_eq (gives_gridCfgWrite g v) (gridCfgWrite_of_enabled hv hvalid he)
    refine ⟨_, hgives, rfl, ?_, ?_⟩
    · exact tabGet_tabSet_same _ _ _ _ hwp
    · exact Device.bit_setBit_same (by decide) (gridShow_wf hw)

theorem gridConfigApply_completes {cfg ofs : Word} (hw : tabWf regDefault s.dev.regs = true) (hwg : tabWf gridReset s.dev.time.grids = true)
    (hwp : tabWf noGridPend s.dev.time.gridPend = true) (hp : tabGet noGridPend s.dev.time.gridPend g.val = some (cfg, ofs)) :
    ∃ t, exec (.gridConfigApply g) s = .next t ∧ t.dev.grid g.val = gridOf cfg ofs ∧ tabGet noGridPend t.dev.time.gridPend g.val = none ∧
      t.dev.bit (gridCfgA g.val) 30 = false := by
  obtain ⟨A, hA⟩ := gridConfigApply_of_pending hp
  have hgives := gives_of_eq (gives_gridConfigApply g) hA
  refine ⟨_, hgives, ?_⟩
  dsimp only
  exact gridApply_inForce g.isLt hw hwg hwp

theorem channelStage_refused (hw : tabWf regDefault s.dev.regs = true) (hr : chanRefused s.dev h c.val (v &&& 0x9F000000) = true) :
    ∃ t, exec (.channelStage h c 3 v none) s = .next t ∧ t.dev.bit (calStat h) 25 = true ∧ t.dev.time = s.dev.time ∧
      ∀ a, a ≠ calStat h → t.dev.reg a = s.dev.reg a := by
  have hstage : chanStage h c.val v false s.dev = s.dev.setBit (calStat h) 25 := if_pos hr
  have hgives := gives_of_eq (gives_channelStage h c v) (congrArg (·.answer 0 []) hstage)
  exact ⟨_, hgives, Device.bit_setBit_same (by decide) hw, rfl,
    fun _ ha => Device.reg_setBit_ne ha hw⟩

/-- The channel's set staged, as its registers show it. -/
def chanShadow (h : Half) (c : Nat) (v : Word) (y : Staged) (d : Device) : Device :=
  ((d.setReg (chanCtlA h c 4) v).setBit (chanCtlA h c 8) 31).setChan08 h c { d.chan08 h c with staged := some y }

theorem chanStage_of_not_refused {d : Device} {c : Nat} (hr : chanRefused d h c (v &&& 0x9F000000) = false) :
    chanStage h c v false d = chanDecide h c (chanShadow h c (v &&& 0x9F000000)
      (stagedNow d h (d.reg (chanCtlA h c 0)) (v &&& 0x9F000000)) d) := by
  simp only [chanStage, hr, Bool.false_eq_true, if_false]
  cases h <;> rfl

theorem chanShadow_now {d : Device} {c : Nat} {y : Staged} : (chanShadow h c v y d).now h = d.now h := by cases h <;> rfl

theorem Device.setCal_regs {d : Device} {k : Calendar} : (d.setCal h k).regs = d.regs := by cases h <;> rfl
theorem Device.setCal_reg {d : Device} {k : Calendar} {a : Nat} : (d.setCal h k).reg a = d.reg a := by
  rw [Device.reg, Device.setCal_regs, ← Device.reg]

theorem chanShadow_reg {d : Device} {c a : Nat} {y : Staged} :
    (chanShadow h c v y d).reg a = ((d.setReg (chanCtlA h c 4) v).setBit (chanCtlA h c 8) 31).reg a := Device.setCal_reg

theorem chanShadow_chan08 {d : Device} {c : Nat} {y : Staged} (hw : tabWf chanReset08 (d.cal h).chans = true) :
    (chanShadow h c v y d).chan08 h c = { d.chan08 h c with staged := some y } := by
  have hcal : ((d.setReg (chanCtlA h c 4) v).setBit (chanCtlA h c 8) 31).cal h = d.cal h := by cases h <;> rfl
  exact Device.chan08_setChan08 (by rwa [hcal])

/-- A set that was not refused is staged, and not decided in the same cycle. -/
theorem channelStage_staged (hw : tabWf regDefault s.dev.regs = true) (hwc : tabWf chanReset08 (s.dev.cal h).chans = true)
    (hr : chanRefused s.dev h c.val (v &&& 0x9F000000) = false) (hnow : s.dev.now h < cycleEnd s.dev h) :
    ∃ t, exec (.channelStage h c 3 v none) s = .next t ∧ t.dev.bit (chanCtlA h c.val 8) 31 = true ∧
      t.dev.reg (chanCtlA h c.val 4) = v &&& 0x9F000000 ∧
      (t.dev.chan08 h c.val).staged = some (stagedNow s.dev h (s.dev.reg (chanCtlA h c.val 0)) (v &&& 0x9F000000)) := by
  have hchan := chanShadow_chan08 (v := v &&& 0x9F000000) (c := c.val)
    (y := stagedNow s.dev h (s.dev.reg (chanCtlA h c.val 0)) (v &&& 0x9F000000)) hwc
  have hstage := (chanStage_of_not_refused hr).trans (chanDecide_of_early (by rw [hchan]) rfl (by rw [chanShadow_now]; omega))
  have hwf := Device.setReg_wf s.dev (chanCtlA h c.val 4) (v &&& 0x9F000000) hw
  have hgives := gives_of_eq (gives_channelStage h c v) (congrArg (·.answer 0 []) hstage)
  refine ⟨_, hgives, ?_, ?_, ?_⟩
  · rw [Device.bit_congr (Device.answer_reg ..), Device.bit_congr chanShadow_reg]
    exact Device.bit_setBit_same (by decide) hwf
  · rw [Device.answer_reg, chanShadow_reg, Device.reg_setBit_ne (by unfold chanCtlA lrkA; omega) hwf]
    exact Device.reg_setReg_same _ _ _ hw
  · exact congrArg Chan.staged hchan

/-- The registers of a channel whose set commits, with `count` points of the set before. -/
def chanInForce (h : Half) (c : Nat) (y : Staged) (count : Nat) (d : Device) : Device :=
  ((((((d.putBit (chanCtlA h c 8) 31 false).putBit (chanCtlA h c 8) 30 y.held).putBit (chanCtlA h c 8) 29 (y.ctl.getLsbD 31)).setReg
    (chanCtlA h c 12) y.range).setFld (chanCtlA h c 8) 0 8 count).setFld (chanCtlA h c 8) 16 8 (if y.ctl.getLsbD 31 then count else 0))

theorem chanInForce_wf {d : Device} {c count : Nat} {y : Staged} (hw : tabWf regDefault d.regs = true) :
    tabWf regDefault (chanInForce h c y count d).regs = true :=
  Device.setFld_wf (Device.setFld_wf (Device.setReg_wf _ _ _ (Device.putBit_wf (Device.putBit_wf (Device.putBit_wf hw)))))

theorem chanInForce_shows {d : Device} {c count : Nat} {y : Staged} (hw : tabWf regDefault d.regs = true) :
    (chanInForce h c y count d).bit (chanCtlA h c 8) 29 = y.ctl.getLsbD 31 ∧ (chanInForce h c y count d).bit (chanCtlA h c 8) 30 = y.held ∧
      (chanInForce h c y count d).bit (chanCtlA h c 8) 31 = false ∧ (chanInForce h c y count d).reg (chanCtlA h c 12) = y.range ∧
      (chanInForce h c y count d).fld (chanCtlA h c 8) 16 8 = (if y.ctl.getLsbD 31 then count else 0) % 2 ^ 8 := by
  have hne : chanCtlA h c 8 ≠ chanCtlA h c 12 := by unfold chanCtlA lrkA; omega
  have h1 := Device.putBit_wf (a := chanCtlA h c 8) (k := 31) (c := false) hw
  have h2 := Device.putBit_wf (a := chanCtlA h c 8) (k := 30) (c := y.held) h1
  have h3 := Device.putBit_wf (a := chanCtlA h c 8) (k := 29) (c := y.ctl.getLsbD 31) h2
  have h4 := Device.setReg_wf _ (chanCtlA h c 12) y.range h3
  have h5 := Device.setFld_wf (a := chanCtlA h c 8) (lo := 0) (n := 8) (v := count) h4
  -- the two counts lie below the flags
  have hflag (k : Nat) (hk : 29 ≤ k) : (chanInForce h c y count d).bit (chanCtlA h c 8) k =
      (((d.putBit (chanCtlA h c 8) 31 false).putBit (chanCtlA h c 8) 30 y.held).putBit (chanCtlA h c 8) 29 (y.ctl.getLsbD 31)).bit
        (chanCtlA h c 8) k := by
    rw [chanInForce, Device.bit_setFld_ne (by decide) (by omega) h5, Device.bit_setFld_ne (by decide) (by omega) h4,
      Device.bit_setReg_ne hne h3]
  refine ⟨?_, ?_, ?_, ?_, ?_⟩
  · rw [hflag 29 le_rfl, Device.bit_putBit_same (by decide) h2]
  · rw [hflag 30 (by decide), Device.bit_putBit_ne (by decide) (by decide) h2, Device.bit_putBit_same (by decide) h1]
  · rw [hflag 31 (by decide), Device.bit_putBit_ne (by decide) (by decide) h2, Device.bit_putBit_ne (by decide) (by decide) h1,
      Device.bit_putBit_same (by decide) hw]
  · rw [chanInForce, Device.reg_setFld_ne hne.symm h5, Device.reg_setFld_ne hne.symm h4, Device.reg_setReg_same _ _ _ h3]
  · exact Device.fld_setFld_same _ _ _ _ _ (by decide) h5

/-- The channel once its set has committed, with none staged. -/
def chanCommitted (h : Half) (c : Nat) (y : Staged) (d : Device) : Device := d.setChan08 h c { activeCtrl := y.ctl }

theorem missEntry_chans {d : Device} {A i : Nat} : ((missEntry h A i d).cal h).chans = (d.cal h).chans := by
  unfold missEntry
  extract_lets
  split <;> cases h <;> rfl

theorem commitMisses_chans {d : Device} {r : Word} {H : Nat} : ((commitMisses h r H d).cal h).chans = (d.cal h).chans := by
  refine Device.each_keeps (fun e => (e.cal h).chans) (fun e i => ?_) _ _
  split
  · exact missEntry_chans
  · rfl

theorem chanCommit_of_early {d : Device} {c H : Nat} {y : Staged} (hd : (d.chan08 h c).decided = some (y, H)) (hnow : d.now h < H) :
    chanCommit h c d = d := by
  simp only [chanCommit, chanDecide_of_decided hd, hd, hnow, if_true]

theorem chanInForce_chan08 {d : Device} {c count : Nat} {y : Staged} (hw : tabWf chanReset08 (d.cal h).chans = true) :
    (chanInForce h c y count (chanCommitted h c y d)).chan08 h c = { activeCtrl := y.ctl } := by
  refine Eq.trans ?_ (Device.chan08_setChan08 (c := c) hw)
  cases h <;> rfl

theorem commitMisses_chan08 {d : Device} {r : Word} {H c : Nat} : (commitMisses h r H d).chan08 h c = d.chan08 h c :=
  congrArg (fun t => tabGet chanReset08 t c) commitMisses_chans

/-- From its time on a decided set shows and its misses follow; with no set staged nothing else does. -/
theorem chanCommit_of_due {d : Device} {c H : Nat} {y : Staged} (hw : tabWf chanReset08 (d.cal h).chans = true)
    (hd : (d.chan08 h c).decided = some (y, H)) (hnow : H ≤ d.now h) (hs : (d.chan08 h c).staged = none) :
    ∃ count, (d.bit (chanCtlA h c 8) 29 = false → count = 0) ∧ chanCommit h c d =
      if y.ctl.getLsbD 31 then commitMisses h y.range H (chanInForce h c y count (chanCommitted h c y d))
      else chanInForce h c y count (chanCommitted h c y d) := by
  have hstaged (count : Nat) : ((if y.ctl.getLsbD 31 then commitMisses h y.range H (chanInForce h c y count (chanCommitted h c y d))
      else chanInForce h c y count (chanCommitted h c y d)).chan08 h c).staged = none := by
    split
    · rw [commitMisses_chan08, chanInForce_chan08 hw]
    · rw [chanInForce_chan08 hw]
  refine ⟨if d.bit (chanCtlA h c 8) 29 then
    wrap 8 (d.fld (chanCtlA h c 8) 16 8 + b2n (isPoint d (d.chan08 h c).activeCtrl H)) else 0, fun h29 => by simp [h29], ?_⟩
  simp only [chanCommit, chanDecide_of_decided hd, hd, if_neg (Nat.not_lt.mpr hnow), hs, Option.isSome_none]
  exact chanDecide_of_not_staged (hstaged _)

theorem channelCommit_completes {y : Staged} {H : Nat} (hw : tabWf regDefault s.dev.regs = true)
    (hwc : tabWf chanReset08 (s.dev.cal h).chans = true) (hd : (s.dev.chan08 h c.val).decided = some (y, H)) (hnow : H ≤ s.dev.now h)
    (hs : (s.dev.chan08 h c.val).staged = none) :
    ∃ t, exec (.channelCommit h c) s = .next t ∧ (t.dev.chan08 h c.val).decided = none ∧
      t.dev.bit (chanCtlA h c.val 8) 29 = y.ctl.getLsbD 31 ∧ t.dev.bit (chanCtlA h c.val 8) 30 = y.held ∧
      t.dev.bit (chanCtlA h c.val 8) 31 = false ∧ t.dev.reg (chanCtlA h c.val 12) = y.range ∧
      (s.dev.bit (chanCtlA h c.val 8) 29 = false → t.dev.fld (chanCtlA h c.val 8) 16 8 = 0) := by
  obtain ⟨count, hcount, hcommit⟩ := chanCommit_of_due hwc hd hnow hs
  have hgives := gives_of_eq (gives_channelCommit h c) hcommit
  have hset : tabWf regDefault (chanCommitted h c.val y s.dev).regs = true := by
    rw [chanCommitted, Device.setChan08, Device.setCal_regs]
    exact hw
  obtain ⟨h29, h30, h31, hrange, hho⟩ := chanInForce_shows (h := h) (c := c.val) (count := count) (y := y) hset
  have hforce := CalKept.refl (chanInForce_wf (h := h) (c := c.val) (count := count) (y := y) hset)
  have hkept := CalKept.ite (c := y.ctl.getLsbD 31 = true) (hforce.commitMisses (h := h) (r := y.range) (H := H)) hforce
  have h8 := chanCtlA_not_report (h := h) c (o := 8) (by decide)
  have h12 := chanCtlA_not_report (h := h) c (o := 12) (by decide)
  refine ⟨_, hgives, ?_⟩
  dsimp only
  refine ⟨?_, (hkept.bit h8).trans h29, (hkept.bit h8).trans h30, (hkept.bit h8).trans h31, (hkept.reg _ h12).trans hrange, fun hoff => ?_⟩
  · split
    · rw [commitMisses_chan08, chanInForce_chan08 hwc]
    · rw [chanInForce_chan08 hwc]
  · rw [hkept.fld h8, hho, hcount hoff, ite_self, Nat.zero_mod]

theorem handOverPoint_completes (hw : tabWf regDefault s.dev.regs = true) (he : s.dev.bit (chanCtlA h c.val 8) 29 = true) :
    ∃ t, exec (.handOverPoint h c) s = .next t ∧
      t.dev.fld (chanCtlA h c.val 8) 16 8 = (s.dev.fld (chanCtlA h c.val 8) 16 8 + 1) % 256 ∧ t.dev.time = s.dev.time ∧
      ∀ a, a ≠ chanCtlA h c.val 8 → t.dev.reg a = s.dev.reg a := by
  have hpoint : handOverPoint h c.val s.dev = s.dev.bump (chanCtlA h c.val 8) 16 8 1 := if_pos he
  have hgives := gives_of_eq (gives_handOverPoint h c) hpoint
  refine ⟨_, hgives, ?_⟩
  dsimp only
  exact ⟨Device.fld_bump_same (by decide) hw, rfl, fun _ ha => Device.reg_setFld_ne ha hw⟩

/-- In an 8-byte write the range register takes its half first (00_scope R590). -/
theorem channelStage_range (r : BitVec 32) : exec (.channelStage h c 3 v (some r)) s =
    exec (.channelStage h c 3 v none) { s with dev := s.dev.setReg (chanCtlA h c.val 0) r } := by
  have hrange : exec (.channelStage h c 3 v (some r)) s =
    .next { s with dev := (chanStage h c.val v false (s.dev.setReg (chanCtlA h c.val 0) r)).answer 0 [] } := rfl
  have hnone := gives_channelStage (s := { s with dev := s.dev.setReg (chanCtlA h c.val 0) r }) h c v
  unfold gives at hnone
  dsimp only at hnone
  exact hrange.trans hnone.symm

end

/-- Settles O33, command by command. A set that is staged is decided in its hand-over cycle, which is yet to come; one that is decided
shows at its time. -/
theorem gridsAndChannels : Obligations.GridsAndChannels := fun _ _ _ _ hw hwc hwg hwp =>
  ⟨fun _ hv hvalid => gridCfgWrite_completes hw hwg hwp hv hvalid, fun _ _ _ hp => gridConfigApply_completes hw hwg hwp hp,
    channelStage_refused hw, channelStage_range, channelStage_staged hw hwc,
    fun _ _ hd => ⟨fun hnow => gives_of_eq (gives_channelCommit _ _) (chanCommit_of_early hd hnow), channelCommit_completes hw hwc hd⟩,
    handOverPoint_completes hw⟩

end Sys2Proof.Machine
end

section
/-!
A tick of the clock where nothing waits (07_lark_time R191, R192): the Larks' edges.
-/
namespace Sys2Proof.Machine

section
variable {d : Device} {h : Half}

theorem Device.each_nil {α : Type} {f : Device → α → Device} : d.each [] f = d := rfl

theorem chansDecide_of_none_staged (hc : ∀ kv ∈ (d.cal h).chans, kv.2.staged = none) : chansDecide h d = d := by
  have hnil : (d.cal h).chans.filterMap (fun kv => if kv.2.staged.isSome then some kv.1 else none) = [] :=
    List.filterMap_eq_nil_iff.mpr fun kv hkv => by simp [hc kv hkv]
  rw [chansDecide, hnil, Device.each_nil]

theorem Device.cal_setLark {h' : Half} {l : Lark} : (d.setLark h l).cal h' = d.cal h' := by cases h <;> cases h' <;> rfl

theorem larkEdge_of_off (hoff : (d.lark h).on = false) : larkEdge h d = d := by simp [larkEdge, hoff]

theorem larkEdge_of_on (hon : (d.lark h).on = true) (hc : ∀ kv ∈ (d.cal h).chans, kv.2.staged = none) :
    larkEdge h d = d.setLark h { d.lark h with time := larkEdgeTime (d.lark h) } := by
  rw [larkEdge, if_pos hon]
  exact chansDecide_of_none_staged (by rwa [Device.cal_setLark])

/-- An edge of half h's thread clock, with no set staged, moves that Lark's time alone. -/
theorem larkEdge_eq (hc : ∀ kv ∈ (d.cal h).chans, kv.2.staged = none) : ∃ l, larkEdge h d = d.setLark h l ∧
    ((d.lark h).on = true → l.time = larkEdgeTime (d.lark h)) ∧ ((d.lark h).on = false → l = d.lark h) := by
  cases hon : (d.lark h).on
  · refine ⟨d.lark h, ?_, fun h => (nomatch h), fun _ => rfl⟩
    rw [larkEdge_of_off hon]
    cases h <;> rfl
  · exact ⟨_, larkEdge_of_on hon hc, fun _ => rfl, fun h => nomatch h⟩

theorem engineEdges_of_no_engine (hclv : d.clv = []) : engineEdges d = d.settle := by
  rw [engineEdges, hclv, List.map_nil, List.reverse_nil, Device.each_nil]

theorem stilesWake_of_nothing_kept (hheld : d.net.held = []) (hrsp : d.net.rspBuf = []) : stilesWake d = d := by
  rw [stilesWake, hheld, hrsp, List.map_nil, List.map_nil, List.append_nil, Device.each_nil]

theorem replayFeed_of_not_replaying (hb : d.bobState ≠ 4) : replayFeed h d = d := by simp [replayFeed, hb]

/-- With no engine, no stile that kept anything and no replay, a tick is the Larks' edges. -/
theorem tick_of_idle {e : Device} (he : larkEdge .e (larkEdge .w d) = e) (hclv : e.clv = []) (hheld : e.net.held = [])
    (hrsp : e.net.rspBuf = []) (hb : e.bobState ≠ 4) : tick d = e.settle := by
  have hnet : e.settle.net = e.net := by rw [settle_eq]
  have hbob : e.settle.bobState ≠ 4 := by rwa [Device.bobState, Device.fld_congr (settle_reg e _), ← Device.bobState]
  rw [tick, he, engineEdges_of_no_engine hclv, stilesWake_of_nothing_kept (by rw [hnet, hheld]) (by rw [hnet, hrsp]),
    replayFeed_of_not_replaying hbob, replayFeed_of_not_replaying hbob]

theorem step_of_nothing_pending {s : State} (hp : s.pending = []) : step s = .next { s with dev := tick s.dev } := by
  simp only [step, hp, State.lift_eq]

end

/-- Settles O2: with nothing else to do, the tick is the two edges of the thread clocks. -/
theorem tickOnEmptyQueue : Obligations.TickOnEmptyQueue := by
  intro s hpend hclv hheld hrsp hb hc
  obtain ⟨w, hw, hwon, hwoff⟩ := larkEdge_eq (h := .w) (hc .w)
  obtain ⟨e, he, heon, heoff⟩ := larkEdge_eq (d := s.dev.setLark .w w) (h := .e) (hc .e)
  have htick := tick_of_idle ((congrArg (larkEdge .e) hw).trans he) hclv hheld hrsp hb
  have hstep : step s = .next { s with dev := ((s.dev.setLark .w w).setLark .e e).settle } := by
    rw [step_of_nothing_pending hpend, htick]
  have hlark (h : Half) : (((s.dev.setLark .w w).setLark .e e).settle).lark h = ((s.dev.setLark .w w).setLark .e e).lark h := by
    rw [settle_eq]
    cases h <;> rfl
  refine ⟨_, hstep, hpend, settle_regs _, settle_mem _, fun h => ?_⟩
  dsimp only
  rw [hlark]
  cases h
  · exact ⟨hwon, hwoff⟩
  · exact ⟨heon, heoff⟩

end Sys2Proof.Machine
end

section
/-!
The two Larks and their references, command by command (07_lark_time R200 to R203, R214, R216, R219): what each does in the case that
its conditions name.
-/
namespace Sys2Proof.Machine

section
variable {d : Device} {h : Half} {a k : Nat}

/-! ### Registers over the setters of Lark state -/

theorem Device.setLark_reg {l : Lark} : (d.setLark h l).reg a = d.reg a := by rw [Device.reg, Device.setLark_regs, ← Device.reg]

theorem Device.setDisc_regs {x : Disc} : (d.setDisc h x).regs = d.regs := by
  unfold Device.setDisc
  split <;> rfl

theorem Device.setDisc_reg {x : Disc} : (d.setDisc h x).reg a = d.reg a := by rw [Device.reg, Device.setDisc_regs, ← Device.reg]

theorem Device.setRef_reg {n : Nat} {x : RefState} : (d.setRef h n x).reg a = d.reg a := Device.setDisc_reg

theorem addSample_regs {n t : Nat} {x : Int} : (addSample h n x t d).regs = d.regs := Device.setDisc_regs

theorem Device.each_singleton {α : Type} {f : Device → α → Device} {x : α} : d.each [x] f = f d x := rfl

theorem otherHalf_otherHalf : otherHalf (otherHalf h) = h := by cases h <;> rfl

/-- The registers of both windows' status and the device-wide ones of window W, as places of the register file. -/
theorem lrkWide_ne_statA {o : Nat} (ho : 4 < o) (ho' : o < 0x10000) : lrkWide o ≠ statA h := by
  cases h <;> simp only [lrkWide, statA, lrkA, hn] <;> omega

/-- The leading Larks depend on the two status registers and on which Larks run. -/
theorem Device.leaders_congr {e : Device} (hreg : ∀ h, e.reg (statA h) = d.reg (statA h)) (ht : e.time = d.time) : e.leaders = d.leaders := by
  have hleads (h : Half) : e.leads h = d.leads h := Device.bit_congr (hreg h)
  have hlark (h : Half) : e.lark h = d.lark h := by cases h <;> simp only [Device.lark, ht]
  simp only [Device.leaders, hleads, hlark]

/-! ### Leadership (R216) -/

theorem takeLeadership_of_aligned (hl : d.leads h = false) (hs : d.larkSplit = false) (ha : d.aligned h = true) :
    takeLeadership h d = { d with time := { d.time with disc := { d.time.disc with swapReq := true } } } := by
  simp only [takeLeadership, hl, hs, ha, Bool.or_self, Bool.not_true, Bool.false_eq_true, if_false]

theorem takeLeadership_of_unaligned (hl : d.leads h = false) (hs : d.larkSplit = false) (ha : d.aligned h = false) :
    takeLeadership h d = d.setBit (statA h) 13 := by
  simp only [takeLeadership, hl, hs, ha, Bool.or_self, Bool.not_false, Bool.false_eq_true, if_false, if_true]

theorem takeLeadership_of_leader (hl : d.leads h = true) : takeLeadership h d = d := by
  simp only [takeLeadership, hl, Bool.true_or, if_true]

/-- The device with the request for a swap taken. -/
def swapTaken (d : Device) : Device := { d with time := { d.time with disc := { d.time.disc with swapReq := false } } }

theorem leadershipSwap_of_aligned (hr : d.time.disc.swapReq = true) (hs : d.larkSplit = false) (hb : bothOn d = true)
    (hl : d.leader = h) (ha : d.aligned (otherHalf h) = true) :
    leadershipSwap d = (showHours (otherHalf h) (((leadTo (otherHalf h) (swapTaken d)).putBit (statA (otherHalf h)) 25 false).setBit
      (statA h) 25)).showStates := by
  have ha' : (swapTaken d).aligned (otherHalf h) = true := ha
  unfold swapTaken at ha'
  simp only [leadershipSwap, swapTaken, hr, hs, hb, hl, ha', Bool.not_true, Bool.or_self, Bool.false_eq_true, if_false,
    otherHalf_otherHalf]

/-! ### Selection (R202, R203) -/

theorem refQualified_of_checks {n : Nat} (hl : d.leaders = [h]) (hen : refEn d n = true) (hk : refKind d n = 2)
    (hq : qualified d h n = false) (hs : refSourceOk d n = true) :
    refQualified n d = select h (d.setBit (refStatA d h n) 31) := by
  have hlink : refLinkOk d n = true := by simp only [refLinkOk, hk]
  rw [refQualified, hl, Device.each_singleton]
  exact if_pos (by simp [hen, hk, hq, hs, hlink])

theorem refConfigWrite_of_same {n : Nat} {v : BitVec 32} (hn : n < 8) (hw : tabWf regDefault d.regs = true) (hl : d.leaders = [h])
    (hv : (d.reg (refA n) ^^^ (v &&& 0xFFFFC000)) &&& 0xF0FFC000 = 0) :
    refConfigWrite n v d = select h (d.setReg (refA n) (v &&& 0xFFFFC000)) := by
  have hne (h : Half) : statA h ≠ refA n := (lrkWide_ne_statA (by omega) (by omega)).symm
  have hl' : (d.setReg (refA n) (v &&& 0xFFFFC000)).leaders = [h] :=
    (Device.leaders_congr (fun h => Device.reg_setReg_ne _ _ _ _ (hne h) hw) rfl).trans hl
  simp only [refConfigWrite, hl', Device.each_singleton, hv, ne_eq, not_true_eq_false, if_false]

theorem revertiveSwitch_of_better {n m : Nat} (hl : d.leaders = [h]) (hr : d.bit (lrkWide 0) 3 = true) (hq : qualified d h n = true)
    (hp : isPhase d n = true) (hm : phaseRef d h = some m) (hlt : refPrio d n < refPrio d m) :
    revertiveSwitch n d = select h (choosePhase h (some n) d) := by
  simp only [revertiveSwitch, hl, Device.each_singleton, hr, hq, hp, hm, hlt, Bool.and_self, if_true, true_or]

/-! ### Phase samples (R200, R201) -/

theorem samplers_of_one (hl : d.leaders = [h]) (hs : d.larkSplit = false) {src : Half} : samplers d src = [h] := by
  simp [samplers, hl, hs]

theorem ppsEdge_sample {n : Nat} (hl : d.leaders = [h]) (hs : d.larkSplit = false) (hen : refEn d n = true) (hk : refKind d n = 1)
    (h15 : d.bit (refA n) 15 = false) (hh : refHalf d n = some h) (hup : d.up h = true) (hst : d.timeState h ≠ 0) :
    ppsEdge n true d = addSample h n (ppsError (quarter (d.now h)) (refDly d n)) (quarter (d.now h))
      (d.setRef h n { d.ref h n with edgeAt := some (quarter (d.now h)) }) := by
  have hst' (x : RefState) : (d.setRef h n x).timeState h ≠ 0 := by
    rwa [Device.timeState, Device.fld_congr Device.setRef_reg, ← Device.timeState]
  have hdly (x : RefState) : refDly (d.setRef h n x) n = refDly d n := by rw [refDly, Device.setRef_reg, ← refDly]
  simp only [ppsEdge, hh, hen, hk, h15, hup, samplers_of_one hl hs, Device.each_singleton, hst', hdly, false_and, if_false, if_true,
    Bool.not_true, beq_self_eq_true, Bool.or_true, Bool.false_or, Bool.or_false, Bool.false_eq_true, beq_iff_eq]

/-- The sentence's step: a labelled pulse, or the label of the next one, at an entry that takes this UART. -/
def sentenceStep (u tai : Nat) (d : Device) (n : Nat) : Device :=
  if refEn d n && refKind d n == 0 && refSrc d n == u then
    d.each d.leaders (fun d h =>
      if d.bit (refA n) 14 then d.setRef h n { d.ref h n with label := some tai }
      else match (d.ref h n).waits with
        | some t => gnssPulse h n tai t d
        | none => d)
  else d

theorem gnssSentence_eq {u sec : Nat} (hv : d.bit (lrkWide 0x30) 16 = true) : gnssSentence u sec d =
    d.each (upto 8) (sentenceStep u ((sec : Int) + signed 16 (d.fld (lrkWide 0x30) 0 16)).toNat) := by
  simp only [gnssSentence, hv, Bool.not_true, Bool.false_eq_true, if_false]
  rfl

theorem sentenceStep_of_other {u tai n : Nat} (hn : (refEn d n && refKind d n == 0 && refSrc d n == u) = false) :
    sentenceStep u tai d n = d := by
  rw [sentenceStep, hn]
  exact if_neg Bool.false_ne_true

theorem sentenceStep_labels {u tai n : Nat} (hn : (refEn d n && refKind d n == 0 && refSrc d n == u) = true) (hl : d.leaders = [h])
    (h14 : d.bit (refA n) 14 = true) : sentenceStep u tai d n = d.setRef h n { d.ref h n with label := some tai } := by
  rw [sentenceStep, hn, if_pos rfl, hl, Device.each_singleton, if_pos h14]

theorem Device.each_of_fixed {α : Type} {f : Device → α → Device} {xs : List α} (hf : ∀ x ∈ xs, f d x = d) : d.each xs f = d :=
  List.foldlRecOn (motive := fun e => e = d) xs f rfl (by rintro _ rfl x hx; exact hf x hx)

/-- Where entry 0 alone takes the sentence's UART, the sentence labels that entry's next pulse. -/
theorem gnssSentence_labels {u sec : Nat} (hv : d.bit (lrkWide 0x30) 16 = true) (hl : d.leaders = [h])
    (hone : ∀ n, n < 8 → (refEn d n && refKind d n == 0 && refSrc d n == u) = decide (n = 0)) (h14 : d.bit (refA 0) 14 = true) :
    gnssSentence u sec d = d.setRef h 0 { d.ref h 0 with
      label := some ((sec : Int) + signed 16 (d.fld (lrkWide 0x30) 0 16)).toNat } := by
  have hkeep (x : RefState) (n : Nat) : (refEn (d.setRef h 0 x) n && refKind (d.setRef h 0 x) n == 0 && refSrc (d.setRef h 0 x) n == u) =
      (refEn d n && refKind d n == 0 && refSrc d n == u) := by
    simp only [refEn, refKind, refSrc, Device.bit_congr Device.setRef_reg, Device.fld_congr Device.setRef_reg]
  have hsplit : upto 8 = 0 :: [1, 2, 3, 4, 5, 6, 7] := rfl
  rw [gnssSentence_eq hv, hsplit, Device.each, List.foldl_cons, ← Device.each,
    sentenceStep_labels ((hone 0 (by decide)).trans (by decide)) hl h14]
  refine Device.each_of_fixed fun n hn => sentenceStep_of_other ?_
  have hrange : n < 8 ∧ n ≠ 0 := by revert n; decide
  rw [hkeep, hone n hrange.1, decide_eq_false hrange.2]

theorem ptpSync_sample {n t1 t2 t3 t4 : Nat} (hh : refHalf d n = some h) (hl : d.leaders = [h]) (hs : d.larkSplit = false)
    (hen : refEn d n = true) (hk : refKind d n = 2) :
    ptpSync n t1 t2 t3 t4 none d = addSample h n ((((t2 : Int) - t1) - ((t4 : Int) - t3)) / 2 + refDly d n) (d.now h) d := by
  simp only [ptpSync, hh, hen, hk, samplers_of_one hl hs, Device.each_singleton, Bool.not_true, bne_self_eq_false, Bool.or_self,
    Bool.false_eq_true, if_false]

/-- With an announce message of the qualified reference LRK_UTC takes the offset, and the sample changes no register. -/
theorem ptpSync_announce_regs {n t1 t2 t3 t4 : Nat} {v : BitVec 16} (hh : refHalf d n = some h) (hl : d.leaders = [h])
    (hs : d.larkSplit = false) (hen : refEn d n = true) (hk : refKind d n = 2) (hq : qualified d h n = true) :
    (ptpSync n t1 t2 t3 t4 (some v) d).regs = (d.setReg (lrkWide 0x30) (0x10000 ||| v.setWidth 32)).regs := by
  simp only [ptpSync, hh, hen, hk, samplers_of_one hl hs, hq, Device.when, List.any_cons, List.any_nil, Bool.or_false, Bool.not_true,
    bne_self_eq_false, Bool.or_self, Bool.false_eq_true, if_false, if_true]
  exact Device.each_keeps Device.regs (fun _ _ => addSample_regs) _ _

end

end Sys2Proof.Machine
end

section
/-!
Learned holdover, the exchange between the Larks, and captures, command by command (07_lark_time R210 to R220).
-/
namespace Sys2Proof.Machine

section
variable {d : Device} {h : Half} {a : Nat}

/-! ### The learned model (R210, R214, R215) -/

/-- Evaluating the model changes its half's waiver and status alone. -/
theorem modelEval_eq : ∃ l b, modelEval h d = (d.setLark h l).putBit (statA h) 26 b ∧ l.model = (d.lark h).model ∧
    l.bins = (d.lark h).bins ∧ l.hours = (d.lark h).hours ∧ l.time = (d.lark h).time := by
  unfold modelEval
  extract_lets l full l'
  refine ⟨l', _, rfl, ?_⟩
  unfold l'
  split <;> exact ⟨rfl, rfl, rfl, rfl⟩

theorem lark_congr {e : Device} (ht : e.time = d.time) : e.lark h = d.lark h := by cases h <;> simp only [Device.lark, ht]

theorem modelEval_lark : ((modelEval h d).lark h).model = (d.lark h).model ∧ ((modelEval h d).lark h).bins = (d.lark h).bins ∧
    ((modelEval h d).lark h).hours = (d.lark h).hours ∧ ((modelEval h d).lark h).time = (d.lark h).time := by
  obtain ⟨l, b, he, hl⟩ := modelEval_eq (d := d) (h := h)
  rwa [he, lark_congr (Device.putBit_time ..), Device.lark_setLark]

theorem Device.setLark_disc {l : Lark} : (d.setLark h l).time.disc = d.time.disc := by cases h <;> rfl

theorem modelEval_disc : (modelEval h d).time.disc = d.time.disc := by
  obtain ⟨l, b, he, -⟩ := modelEval_eq (d := d) (h := h)
  rw [he, Device.putBit_time, Device.setLark_disc]

theorem showHours_time : (showHours h d).time = d.time := by
  unfold showHours
  split <;> rfl

theorem roA_ne_statA {o : Nat} {h' : Half} (ho : 4 < o) (ho' : o < 0x10000) : d.roA h o ≠ statA h' := by
  unfold Device.roA
  split
  · cases h <;> cases h' <;> simp only [statA, lrkA, hn] <;> omega
  · exact lrkWide_ne_statA ho ho'

theorem showHours_wf (hw : tabWf regDefault d.regs = true) : tabWf regDefault (showHours h d).regs = true := by
  unfold showHours
  split
  · exact Device.setFld_wf hw
  · exact hw

theorem showHours_statA {h' : Half} (hw : tabWf regDefault d.regs = true) : (showHours h d).reg (statA h') = d.reg (statA h') := by
  unfold showHours
  split
  · exact Device.reg_setFld_ne (roA_ne_statA (by decide) (by decide)).symm hw
  · rfl

/-- A status field outside bit 26 does not show the model. -/
theorem modelEval_timeState (hw : tabWf regDefault d.regs = true) : (modelEval h d).timeState h = d.timeState h := by
  obtain ⟨l, b, he, -⟩ := modelEval_eq (d := d) (h := h)
  have hw' : tabWf regDefault (d.setLark h l).regs = true := by rwa [Device.setLark_regs]
  have hfld : ((d.setLark h l).putBit (statA h) 26 b).fld (statA h) 28 3 = (d.setLark h l).fld (statA h) 28 3 :=
    Device.fld_putBit_ne (by decide) (by decide) hw'
  rw [he]
  exact hfld.trans (Device.fld_congr Device.setLark_reg)

/-- A Lark without what it has learned. -/
def unlearned (l : Lark) : Lark :=
  { l with model := none, bins := [], hours := 0, waiver := false, fromSaved := false, parked := {} }

/-- Clearing what a Locked Lark has learned. -/
theorem clearLearning_of_locked (hw : tabWf regDefault d.regs = true) (hst : d.timeState h = 2) :
    clearLearning h d = modelEval h (showHours h (d.setLark h (unlearned (d.lark h)))) := by
  have hw' : tabWf regDefault (d.setLark h (unlearned (d.lark h))).regs = true := by rwa [Device.setLark_regs]
  have hst' : (modelEval h (showHours h (d.setLark h (unlearned (d.lark h))))).timeState h = 2 := by
    rw [modelEval_timeState (showHours_wf hw')]
    exact (Device.fld_congr (showHours_statA hw')).trans ((Device.fld_congr Device.setLark_reg).trans hst)
  unfold unlearned at hst'
  simp only [clearLearning, hst', unlearned, show ((2 : Nat) == 3) = false from rfl, show ((2 : Nat) == 4) = false from rfl,
    Bool.or_self, Bool.and_false, Bool.false_eq_true, if_false]

/-- The learning window after a further bin at second t. -/
def learnedBins (l : Lark) (f x : Int) (t : Nat) : List Bin :=
  let bins := (l.bins ++ [(⟨f, x, t⟩ : Bin)]).filter (fun (b : Bin) => b.at_ + 86400 > t)
  bins.drop (bins.length - 5400)

theorem learnedBins_length {l : Lark} {f x : Int} {t : Nat} : (learnedBins l f x t).length ≤ 5400 := by
  simp only [learnedBins, List.length_drop]
  omega

theorem mem_learnedBins {l : Lark} {f x : Int} {t : Nat} : (⟨f, x, t⟩ : Bin) ∈ learnedBins l f x t := by
  have hlast : (l.bins ++ [(⟨f, x, t⟩ : Bin)]).filter (fun b => b.at_ + 86400 > t) =
      l.bins.filter (fun b => b.at_ + 86400 > t) ++ [⟨f, x, t⟩] := by
    rw [List.filter_append, List.filter_cons_of_pos (by simp), List.filter_nil]
  rw [learnedBins, hlast, List.length_append, List.length_singleton, List.drop_append_of_le_length (by omega)]
  exact List.mem_append_right _ (List.mem_singleton.mpr rfl)

theorem learnBin_of_learning {f x : Int} (hl : learning d h = true) :
    learnBin h f x d = modelEval h (d.setLark h { d.lark h with bins := learnedBins (d.lark h) f x (timeSec (d.now h)) }) := by
  simp only [learnBin, hl, Bool.not_true, Bool.false_eq_true, if_false, learnedBins]

theorem learnHour_of_learning (hl : learning d h = true) :
    learnHour h d = modelEval h (showHours h (d.setLark h { d.lark h with hours := sat 65535 ((d.lark h).hours + 1) })) := by
  simp only [learnHour, hl, Bool.not_true, Bool.false_eq_true, if_false]

theorem modelFit_of_learning {m : Model} (hl : learning d h = true) (hm : fitModel (d.lark h) = some m)
    (hs : (d.lark h).fromSaved = false) :
    modelFit h d = modelEval h (d.setLark h { d.lark h with model := some m, fromSaved := false }) := by
  simp only [modelFit, hl, hm, hs, Bool.not_true, Bool.false_and, Bool.false_eq_true, if_false]

theorem learnBin_of_not_learning {f x : Int} (hl : learning d h = false) : learnBin h f x d = d := by simp [learnBin, hl]
theorem learnHour_of_not_learning (hl : learning d h = false) : learnHour h d = d := by simp [learnHour, hl]
theorem modelFit_of_not_learning (hl : learning d h = false) : modelFit h d = d := by simp [modelFit, hl]

/-- A model as the record store keeps it, with the hours learned and without its fit. -/
def Model.saved (m : Model) (hours : Nat) : Model := { m with hours := hours, fit := none }

/-- What half h has saved for the sensor or for the on-die point. -/
def Device.savedModel (d : Device) (h : Half) (sensor : Bool) : Option Model :=
  let x := match h with
    | .w => d.time.savedW
    | .e => d.time.savedE
  if sensor then x.sensor else x.die

theorem modelSave_regs : (modelSave h d).regs = d.regs := by cases h <;> rfl

theorem modelSave_saved {m : Model} (hm : (d.lark h).model = some m) :
    (modelSave h d).savedModel h (tempSrc d) = some (m.saved (d.lark h).hours) := by
  unfold Device.savedModel
  cases hsrc : tempSrc d <;> cases h <;> simp [modelSave, hsrc, hm, Model.saved]

/-! ### Holdover and temperature (R211, R212) -/

/-- Steering writes no register but LRK_FREQ_OFS. -/
theorem setSteer_reg {x : Int} (hw : tabWf regDefault d.regs = true) (ha : a ≠ d.roA h 0xC8) : (d.setSteer h x).reg a = d.reg a := by
  unfold Device.setSteer
  extract_lets v _ e
  have he : e.reg a = d.reg a := Device.setLark_reg
  have hro : e.roA h 0xC8 = d.roA h 0xC8 := by cases h <;> rfl
  have hwe : tabWf regDefault e.regs = true := by rwa [Device.setLark_regs]
  split
  · rw [Device.reg_setReg_ne _ _ _ _ (hro ▸ ha) hwe, he]
  · exact he

theorem setSteer_wf {x : Int} (hw : tabWf regDefault d.regs = true) : tabWf regDefault (d.setSteer h x).regs = true := by
  unfold Device.setSteer
  extract_lets v _ e
  have hwe : tabWf regDefault e.regs = true := by rwa [Device.setLark_regs]
  split
  · exact Device.setReg_wf _ _ _ hwe
  · exact hwe

/-- With no assist and no valid model a Lark steers by its integral, if it has run the loop. -/
theorem holdSteer_of_no_model (hm : modelValid d h = false) (hf : freqRef d h = none) :
    holdSteer h d = if (d.lark h).ranLoop then d.setSteer h (d.disc h).integ else d := by
  simp only [holdSteer, hf, hm, Bool.false_eq_true, and_false, if_false]

theorem holdSteer_reg (hw : tabWf regDefault d.regs = true) (hm : modelValid d h = false) (hf : freqRef d h = none)
    (ha : a ≠ d.roA h 0xC8) : (holdSteer h d).reg a = d.reg a := by
  rw [holdSteer_of_no_model hm hf]
  split
  · exact setSteer_reg hw ha
  · rfl

theorem holdSteer_wf (hw : tabWf regDefault d.regs = true) (hm : modelValid d h = false) (hf : freqRef d h = none) :
    tabWf regDefault (holdSteer h d).regs = true := by
  rw [holdSteer_of_no_model hm hf]
  split
  · exact setSteer_wf hw
  · exact hw

/-- The leader's registers with a prediction of p ns, t seconds after entry to Holdover. -/
def holdShown (p t : Nat) (d : Device) : Device :=
  (d.setReg (lrkWide 0xE8) (BitVec.ofNat 32 p)).setFld (lrkWide 0xE4) 0 16 (sat 65535 (t / 60))

theorem holdShown_wf {p t : Nat} (hw : tabWf regDefault d.regs = true) : tabWf regDefault (holdShown p t d).regs = true :=
  Device.setFld_wf (Device.setReg_wf _ _ _ hw)

theorem holdShown_prediction {p t : Nat} (hw : tabWf regDefault d.regs = true) :
    (holdShown p t d).reg (lrkWide 0xE8) = BitVec.ofNat 32 p := by
  have hne : lrkWide 0xE8 ≠ lrkWide 0xE4 := by decide
  rw [holdShown, Device.reg_setFld_ne hne (Device.setReg_wf _ _ _ hw), Device.reg_setReg_same _ _ _ hw]

theorem holdShown_reg {p t : Nat} (hw : tabWf regDefault d.regs = true) (h8 : a ≠ lrkWide 0xE8) (h4 : a ≠ lrkWide 0xE4) :
    (holdShown p t d).reg a = d.reg a := by
  rw [holdShown, Device.reg_setFld_ne h4 (Device.setReg_wf _ _ _ hw), Device.reg_setReg_ne _ _ _ _ h8 hw]

theorem roA_of_not_split {o : Nat} (hs : d.larkSplit = false) : d.roA h o = lrkWide o := by
  simp only [Device.roA, hs, Bool.false_eq_true, if_false, lrkWide]

/-- In Holdover the prediction within its limit is shown, and the state stays. -/
theorem holdPredict_completes {p : Nat} (hw : tabWf regDefault d.regs = true) (hl : d.leads h = true) (hst : d.timeState h = 3)
    (hm : modelValid d h = false) (hf : freqRef d h = none) (hs : d.larkSplit = false)
    (hp : p = predErr d h ((d.now h - (d.disc h).holdAt.getD (d.now h)) / tSec)) (hle : p ≤ d.fld (lrkWide 0xE0) 16 16) :
    tabWf regDefault (holdPredict h d).regs = true ∧ (holdPredict h d).reg (lrkWide 0xE8) = BitVec.ofNat 32 p ∧
      (holdPredict h d).timeState h = 3 := by
  generalize ht : (d.now h - (d.disc h).holdAt.getD (d.now h)) / tSec = t at hp
  have hstat : (holdShown p t d).reg (statA h) = d.reg (statA h) :=
    holdShown_reg hw (lrkWide_ne_statA (by decide) (by decide)).symm (lrkWide_ne_statA (by decide) (by decide)).symm
  have hm' : modelValid (holdShown p t d) h = false := (Device.bit_congr hstat).trans hm
  have hf' : freqRef (holdShown p t d) h = none := by
    rwa [freqRef, Device.bit_congr hstat, Device.fld_congr hstat, ← freqRef]
  have hro : (holdShown p t d).roA h 0xC8 = lrkWide 0xC8 := roA_of_not_split hs
  have hsteer (a : Nat) (ha : a ≠ lrkWide 0xC8) : (holdSteer h (holdShown p t d)).reg a = (holdShown p t d).reg a :=
    holdSteer_reg (holdShown_wf hw) hm' hf' (by rwa [hro])
  have hcfg : (holdSteer h (holdShown p t d)).fld (lrkWide 0xE0) 16 16 = d.fld (lrkWide 0xE0) 16 16 :=
    Device.fld_congr ((hsteer _ (by decide)).trans (holdShown_reg hw (by decide) (by decide)))
  have hsat : sat 4294967295 p = p := if_neg (by
    have := fieldOf_lt (lo := 16) (n := 16) (d.reg (lrkWide 0xE0))
    unfold Device.fld at hle
    omega)
  have heq : holdPredict h d = holdSteer h (holdShown p t d) := by
    have hro4 : (d.setReg (lrkWide 0xE8) (BitVec.ofNat 32 p)).roA h 0xE4 = lrkWide 0xE4 := roA_of_not_split hs
    simp only [holdPredict, hl, hst, ht, ← hp, hsat, hro4, roA_of_not_split hs, Bool.not_true, Bool.false_or, beq_self_eq_true, Bool.true_or,
      Bool.false_eq_true, if_false]
    refine if_neg (c := _ ∧ p > (holdSteer h (holdShown p t d)).fld (lrkWide 0xE0) 16 16) fun hlim => ?_
    rw [hcfg] at hlim
    omega
  rw [heq]
  refine ⟨holdSteer_wf (holdShown_wf hw) hm' hf', ?_, ?_⟩
  · rw [hsteer _ (by decide), holdShown_prediction hw]
  · exact (Device.fld_congr ((hsteer _ (lrkWide_ne_statA (by decide) (by decide)).symm).trans hstat)).trans hst

theorem sensorRead_of_unused {x : Int} (hw : tabWf regDefault d.regs = true) (ht : tempSrc d = false) :
    sensorRead h x d = (d.setLark h { d.lark h with temp := x }).putBit (statA h) 16 false := by
  have hw' : tabWf regDefault (d.setLark h { d.lark h with temp := x }).regs = true := by rwa [Device.setLark_regs]
  have hsrc : tempSrc ((d.setLark h { d.lark h with temp := x }).putBit (statA h) 16 false) = false :=
    (Device.bit_congr ((Device.reg_putBit_ne (lrkWide_ne_statA (by decide) (by decide)) hw').trans Device.setLark_reg)).trans ht
  simp only [sensorRead, hsrc, Bool.false_eq_true, if_false]

/-! ### Two Larks (R216, R217, R219) -/

theorem not_split_iff : d.larkSplit = false ↔ d.time.split = none := by
  rw [Device.larkSplit, Option.isSome_eq_false_iff, Option.isNone_iff_eq_none]

/-- Within the tolerance an aligned follower takes its leader's time and steering. -/
theorem timeExchange_of_near {f : Half} (hb : bothOn d = true) (hs : d.larkSplit = false) (hl : d.leader = h) (hf : f = otherHalf h)
    (ha : d.aligned f = true) (hnear : (((d.lark f).time : Int) - ((d.lark h).time : Int)).natAbs ≤ alignTol) :
    timeExchange d = (((d.setLark f { d.lark f with time := (d.lark h).time, steer := (d.lark h).steer }).putBit (statA f) 25 true).putBit
      (statA h) 25 false).showStates := by
  have ha' (l : Lark) : (d.setLark f l).aligned f = true := (Device.bit_congr Device.setLark_reg).trans ha
  simp only [timeExchange, hb, not_split_iff.mp hs, hl, ← hf, hnear, decide_true, ha', Bool.not_true, Bool.and_false, Bool.false_eq_true,
    if_false, if_true]

theorem threadWord_of_off {block : Nat} {x : Int} (hx : 1000 < x.natAbs) :
    threadWord h block x d = d.fault h 0x4A (256 * hn h + block) (unsign 16 (x / 1000)) := if_pos hx

theorem threadWord_of_near {block : Nat} {x : Int} (hx : x.natAbs ≤ 1000) : threadWord h block x d = d := if_neg (Nat.not_lt.mpr hx)

theorem timePairLoss_split (hs : d.larkSplit = false) (hb : bothOn d = true) : (timePairLoss d).larkSplit = true := by
  rw [timePairLoss, if_neg (by simp [hs, hb])]
  rfl

/-! ### Captures (R220) -/

theorem bobRecord_of_not_taking {r : List Byte} (hb : d.bobTakes h = false) : d.bobRecord h r = d := by simp [Device.bobRecord, hb]

/-- With no recorder taking records, an edge of an enabled input takes a free value and is captured, or with 64 captures dropped. -/
theorem captureEdge_of_enabled {j : Nat} {up : Bool} (hj : d.bit (lrkA h 0x140) j = true) (hb : d.bobTakes h = false) :
    captureEdge h j up d = if (d.lark h).caps.length ≥ 64 then d.takeFree.2.setBit (statA h) 14
      else d.takeFree.2.setLark h { d.lark h with caps := (d.lark h).caps ++ [⟨j, up, quarter (d.now h)⟩] } := by
  have hb' : d.takeFree.2.bobTakes h = false := hb
  simp only [captureEdge, hj, Bool.not_true, Bool.false_eq_true, if_false, bobRecord_of_not_taking hb']

/-- The head of the captures in the registers of its window. -/
def captureShown (h : Half) (c : Capture) (d : Device) : Device :=
  (((d.setReg (lrkA h 0x144) (BitVec.ofNat 32 (2 ^ 31 + 2 ^ 28 * c.input + 2 ^ 27 * b2n c.rising + timeFrac c.time))).setReg
    (lrkA h 0x148) (BitVec.ofNat 32 (timeNs c.time))).setReg (lrkA h 0x14C) (BitVec.ofNat 32 (timeSec c.time))).setReg
    (lrkA h 0x150) (BitVec.ofNat 32 (timeSec c.time / 2 ^ 32 % 65536))

theorem capturePop_cons {c : Capture} {cs : List Capture} (hc : (d.lark h).caps = c :: cs) :
    capturePop h d = captureShown h c (d.setLark h { d.lark h with caps := cs }) := by
  simp only [capturePop, hc, captureShown]

theorem captureShown_time {c : Capture} : (captureShown h c d).time = d.time := rfl

theorem captureShown_ns {c : Capture} (hw : tabWf regDefault d.regs = true) :
    (captureShown h c d).reg (lrkA h 0x148) = BitVec.ofNat 32 (timeNs c.time) := by
  have hw1 := Device.setReg_wf d (lrkA h 0x144) (BitVec.ofNat 32 (2 ^ 31 + 2 ^ 28 * c.input + 2 ^ 27 * b2n c.rising + timeFrac c.time)) hw
  have hw2 := Device.setReg_wf _ (lrkA h 0x148) (BitVec.ofNat 32 (timeNs c.time)) hw1
  have hw3 := Device.setReg_wf _ (lrkA h 0x14C) (BitVec.ofNat 32 (timeSec c.time)) hw2
  rw [captureShown, Device.reg_setReg_ne _ _ _ _ (by unfold lrkA; omega) hw3, Device.reg_setReg_ne _ _ _ _ (by unfold lrkA; omega) hw2,
    Device.reg_setReg_same _ _ _ hw1]

theorem captureShown_reg {c : Capture} (hw : tabWf regDefault d.regs = true) (ha : a < lrkA h 0x144 ∨ lrkA h 0x154 ≤ a) :
    (captureShown h c d).reg a = d.reg a := by
  have hw1 := Device.setReg_wf d (lrkA h 0x144) (BitVec.ofNat 32 (2 ^ 31 + 2 ^ 28 * c.input + 2 ^ 27 * b2n c.rising + timeFrac c.time)) hw
  have hw2 := Device.setReg_wf _ (lrkA h 0x148) (BitVec.ofNat 32 (timeNs c.time)) hw1
  have hw3 := Device.setReg_wf _ (lrkA h 0x14C) (BitVec.ofNat 32 (timeSec c.time)) hw2
  have hne (o : Nat) (ho : 0x144 ≤ o) (ho' : o < 0x154) : a ≠ lrkA h o := by
    unfold lrkA at ha ⊢
    omega
  rw [captureShown, Device.reg_setReg_ne _ _ _ _ (hne _ (by decide) (by decide)) hw3,
    Device.reg_setReg_ne _ _ _ _ (hne _ (by decide) (by decide)) hw2, Device.reg_setReg_ne _ _ _ _ (hne _ (by decide) (by decide)) hw1,
    Device.reg_setReg_ne _ _ _ _ (hne _ (by decide) (by decide)) hw]

end

end Sys2Proof.Machine
end

section
/-!
Where the Lark's commands complete (07_lark_time R200 to R220).
-/
namespace Sys2Proof.Machine

section
variable {s : State} {h : Half}

theorem gives_takeLeadership (h) : gives (.takeLeadership h) s (takeLeadership h s.dev) := rfl
theorem gives_leadershipSwap : gives .leadershipSwap s (s.dev.updated (leadershipSwap s.dev)) := liftReport_gives s _
theorem gives_clearLearning (h) : gives (.clearLearning h) s (clearLearning h s.dev) := rfl
theorem gives_refQualified (n) : gives (.refQualified n) s (s.dev.updated (refQualified n.val s.dev)) := liftReport_gives s _
theorem gives_refDisqualified (n c : Fin 8) : gives (.refDisqualified n c) s
    (s.dev.updated (s.dev.each s.dev.leaders (fun d h => disqualify h n.val c.val d))) := liftReport_gives s _
theorem gives_refConfigWrite (n v) : gives (.refConfigWrite n v) s (s.dev.updated (refConfigWrite n.val v s.dev)) := liftReport_gives s _
theorem gives_revertiveSwitch (n) : gives (.revertiveSwitch n) s (s.dev.updated (revertiveSwitch n.val s.dev)) := liftReport_gives s _
theorem gives_ppsEdge (n up) : gives (.ppsEdge n up) s (s.dev.updated (ppsEdge n.val up s.dev)) := liftReport_gives s _
theorem gives_gnssSentence (u sec) : gives (.gnssSentence u sec) s (s.dev.updated (gnssSentence u.val sec s.dev)) := liftReport_gives s _
theorem gives_ptpSync (n t1 t2 t3 t4 v) : gives (.ptpSync n t1 t2 t3 ⟨t4, v⟩) s (ptpSync n.val t1 t2 t3 t4 v s.dev) := rfl
theorem gives_phaseSample : gives .phaseSample s (s.dev.updated (s.dev.each s.dev.leaders (fun d h => phaseOne h d))) := liftReport_gives s _
theorem gives_learnBin (h f x) : gives (.learnBin h f x) s (learnBin h f x s.dev) := rfl
theorem gives_learnHour (h) : gives (.learnHour h) s (learnHour h s.dev) := rfl
theorem gives_modelFit (h) : gives (.modelFit h) s (modelFit h s.dev) := rfl
theorem gives_holdoverPredict (h) : gives (.holdoverPredict h) s (s.dev.updated (holdPredict h s.dev)) := liftReport_gives s _
theorem gives_modelSave (h) : gives (.modelSave h) s (modelSave h s.dev) := rfl
theorem gives_tempRead (h x) : gives (.tempRead h x) s (sensorRead h x s.dev) := rfl
theorem gives_tempLost (h) : gives (.tempLost h) s (if tempSrc s.dev then s.dev.setBit (statA h) 16 else s.dev) := rfl
theorem gives_timeExchange : gives .timeExchange s (s.dev.updated (timeExchange s.dev)) := liftReport_gives s _
theorem gives_threadTimeWord (h b x) : gives (.threadTimeWord h b x) s (threadWord h b.toNat x s.dev) := rfl
theorem gives_captureEdge (h j up) : gives (.captureEdge h j up) s (captureEdge h j.val up s.dev) := rfl
theorem gives_capturePop (h) : gives (.capturePop h) s (capturePop h s.dev) := rfl
theorem gives_seamTimePairLoss : gives .seamTimePairLoss s (s.dev.updated (timePairLoss s.dev)) := liftReport_gives s _

theorem statA_not_stateReg : stateReg (statA h) = false := by
  refine stateReg_eq_false.mpr ⟨?_, ?_⟩ <;> unfold statA lrkA thmA <;> omega

theorem lrkWide_not_stateReg (o : Nat) : stateReg (lrkWide o) = false := by
  refine stateReg_eq_false.mpr ⟨?_, ?_⟩ <;> unfold lrkWide lrkA thmA <;> omega

theorem clearLearning_completes (hw : tabWf regDefault s.dev.regs = true) (hst : s.dev.timeState h = 2) :
    ∃ t, exec (.clearLearning h) s = .next t ∧ (t.dev.lark h).model = none ∧ (t.dev.lark h).bins = [] ∧ (t.dev.lark h).hours = 0 ∧
      (t.dev.lark h).time = (s.dev.lark h).time ∧ t.dev.time.disc = s.dev.time.disc := by
  have hgives := gives_of_eq (gives_clearLearning h) (clearLearning_of_locked hw hst)
  obtain ⟨hmodel, hbins, hhours, htime⟩ := modelEval_lark (d := showHours h (s.dev.setLark h (unlearned (s.dev.lark h)))) (h := h)
  rw [lark_congr showHours_time, Device.lark_setLark] at hmodel hbins hhours htime
  refine ⟨_, hgives, ?_⟩
  dsimp only
  exact ⟨hmodel, hbins, hhours, htime, by rw [modelEval_disc, showHours_time, Device.setLark_disc]⟩

theorem ptpSync_announce_completes {n : Fin 8} {t1 t2 t3 t4 : Nat} {v : BitVec 16} (hw : tabWf regDefault s.dev.regs = true)
    (hh : refHalf s.dev n.val = some h) (hl : s.dev.leaders = [h]) (hs : s.dev.larkSplit = false) (hen : refEn s.dev n.val = true)
    (hk : refKind s.dev n.val = 2) (hq : qualified s.dev h n.val = true) :
    ∃ t, exec (.ptpSync n t1 t2 t3 ⟨t4, some v⟩) s = .next t ∧ t.dev.reg (lrkWide 0x30) = 0x10000 ||| v.setWidth 32 ∧
      ∀ a, a ≠ lrkWide 0x30 → t.dev.reg a = s.dev.reg a := by
  have hregs := ptpSync_announce_regs (t1 := t1) (t2 := t2) (t3 := t3) (t4 := t4) (v := v) hh hl hs hen hk hq
  have hreg (a : Nat) : (ptpSync n.val t1 t2 t3 t4 (some v) s.dev).reg a = (s.dev.setReg (lrkWide 0x30) (0x10000 ||| v.setWidth 32)).reg a :=
    congrArg (tabGet regDefault · a) hregs
  refine ⟨_, gives_ptpSync n t1 t2 t3 t4 (some v), ?_⟩
  dsimp only
  refine ⟨?_, fun a ha => ?_⟩
  · rw [hreg, Device.reg_setReg_same _ _ _ hw]
  · rw [hreg, Device.reg_setReg_ne _ _ _ _ ha hw]

theorem learnBin_completes {f x : Int} (hl : learning s.dev h = true) :
    ∃ t, exec (.learnBin h f x) s = .next t ∧ t.dev.time.disc = s.dev.time.disc ∧
      (⟨f, x, timeSec (s.dev.now h)⟩ : Bin) ∈ (t.dev.lark h).bins ∧ (t.dev.lark h).bins.length ≤ 5400 := by
  have hgives := gives_of_eq (gives_learnBin h f x) (learnBin_of_learning hl)
  obtain ⟨-, hbins, -, -⟩ := modelEval_lark
    (d := s.dev.setLark h { s.dev.lark h with bins := learnedBins (s.dev.lark h) f x (timeSec (s.dev.now h)) }) (h := h)
  rw [Device.lark_setLark] at hbins
  refine ⟨_, hgives, ?_⟩
  dsimp only at hbins ⊢
  rw [modelEval_disc, Device.setLark_disc, hbins]
  exact ⟨rfl, mem_learnedBins, learnedBins_length⟩

theorem learnHour_completes (hl : learning s.dev h = true) :
    ∃ t, exec (.learnHour h) s = .next t ∧ (t.dev.lark h).hours = sat 65535 ((s.dev.lark h).hours + 1) := by
  have hgives := gives_of_eq (gives_learnHour h) (learnHour_of_learning hl)
  obtain ⟨-, -, hhours, -⟩ := modelEval_lark
    (d := showHours h (s.dev.setLark h { s.dev.lark h with hours := sat 65535 ((s.dev.lark h).hours + 1) })) (h := h)
  rw [lark_congr showHours_time, Device.lark_setLark] at hhours
  refine ⟨_, hgives, ?_⟩
  dsimp only
  exact hhours

theorem holdoverPredict_completes {p : Nat} (hw : tabWf regDefault s.dev.regs = true) (hl : s.dev.leads h = true)
    (hst : s.dev.timeState h = 3) (hm : modelValid s.dev h = false) (hf : freqRef s.dev h = none) (hs : s.dev.larkSplit = false)
    (hp : p = predErr s.dev h ((s.dev.now h - (s.dev.disc h).holdAt.getD (s.dev.now h)) / tSec)) (hle : p ≤ s.dev.fld (lrkWide 0xE0) 16 16) :
    ∃ t, exec (.holdoverPredict h) s = .next t ∧ t.dev.reg (lrkWide 0xE8) = BitVec.ofNat 32 p ∧ t.dev.timeState h = 3 := by
  obtain ⟨hwf, hpred, hstate⟩ := holdPredict_completes hw hl hst hm hf hs hp hle
  refine ⟨_, gives_holdoverPredict h, ?_⟩
  dsimp only
  exact ⟨(updated_reg _ hwf (lrkWide_not_stateReg _)).trans hpred, (Device.fld_congr (updated_reg _ hwf statA_not_stateReg)).trans hstate⟩

theorem modelSave_completes : ∃ t, exec (.modelSave h) s = .next t ∧ t.dev.regs = s.dev.regs ∧
    ∀ m : Model, (s.dev.lark h).model = some m → t.dev.savedModel h (tempSrc s.dev) = some (m.saved (s.dev.lark h).hours) := by
  refine ⟨_, gives_modelSave h, ?_⟩
  dsimp only
  exact ⟨modelSave_regs, fun m hm => modelSave_saved hm⟩

theorem captureEdge_completes {j : Fin 8} {up : Bool} (hj : s.dev.bit (lrkA h 0x140) j.val = true) (hb : s.dev.bobTakes h = false) :
    ((s.dev.lark h).caps.length < 64 → ∃ t, exec (.captureEdge h j up) s = .next t ∧
      (t.dev.lark h).caps = (s.dev.lark h).caps ++ [⟨j.val, up, quarter (s.dev.now h)⟩] ∧ t.dev.regs = s.dev.regs) ∧
    (64 ≤ (s.dev.lark h).caps.length → ∃ t, exec (.captureEdge h j up) s = .next t ∧ t.dev.time = s.dev.time ∧
      t.dev.regs = (s.dev.setBit (statA h) 14).regs) := by
  have hedge := captureEdge_of_enabled (up := up) hj hb
  refine ⟨fun hroom => ?_, fun hfull => ?_⟩
  · have hgives := gives_of_eq (gives_captureEdge h j up) (hedge.trans (if_neg (Nat.not_le.mpr hroom)))
    refine ⟨_, hgives, ?_⟩
    dsimp only
    exact ⟨by rw [Device.lark_setLark], Device.setLark_regs ..⟩
  · have hgives := gives_of_eq (gives_captureEdge h j up) (hedge.trans (if_pos hfull))
    exact ⟨_, hgives, rfl, rfl⟩

theorem capturePop_completes {c : Capture} {cs : List Capture} (hw : tabWf regDefault s.dev.regs = true)
    (hc : (s.dev.lark h).caps = c :: cs) :
    ∃ t, exec (.capturePop h) s = .next t ∧ (t.dev.lark h).caps = cs ∧ t.dev.reg (lrkA h 0x148) = BitVec.ofNat 32 (timeNs c.time) ∧
      ∀ a, (a < lrkA h 0x144 ∨ lrkA h 0x154 ≤ a) → t.dev.reg a = s.dev.reg a := by
  have hgives := gives_of_eq (gives_capturePop h) (capturePop_cons hc)
  have hw' : tabWf regDefault (s.dev.setLark h { s.dev.lark h with caps := cs }).regs = true := by rwa [Device.setLark_regs]
  refine ⟨_, hgives, ?_⟩
  dsimp only
  exact ⟨by rw [lark_congr captureShown_time, Device.lark_setLark], captureShown_ns hw',
    fun a ha => (captureShown_reg hw' ha).trans Device.setLark_reg⟩

end

/-- Settles O29, command by command. A Sync exchange adds the reference's delay to its sample (log entry 60), and an exchange hands the
follower its leader's steering with the time and ends what the leader showed of its own alignment (log entry 61). -/
theorem larkCompletes : Obligations.LarkCompletes := by
  intro s h hw
  refine ⟨fun hl hs ha => ?_, fun hl hs ha => ?_, fun hl => ?_, fun hr hs hb hl ha => ?_, clearLearning_completes hw,
    fun n hl hen hk hq hs => ?_, fun n c hl _ => ?_, fun n v hl hv => ?_, fun n m hl hr hq hp hm hlt => ?_,
    fun n hl hs hen hk h15 hh hup hst => ?_, fun u sec hv hl hone h14 => ?_, fun n t1 t2 t3 t4 hh hl hs hen hk => ⟨?_, fun hq v => ?_⟩,
    fun hl => ?_, fun hl f x => ⟨learnBin_completes hl, learnHour_completes hl, fun m hm hs => ?_⟩, fun hl f x => ⟨?_, ?_, ?_⟩,
    fun hl hst hm hf hs p hp hle => holdoverPredict_completes hw hl hst hm hf hs hp hle, ?_, fun x ht => ?_, fun ht => ?_, fun ht => ?_,
    fun hb hs hl f hf ha hnear => ?_, fun b x hx => ?_, fun b x hx => ?_, fun j up hj hb => captureEdge_completes hj hb,
    fun c cs hc => capturePop_completes hw hc, fun hs hb => ⟨gives_seamTimePairLoss, timePairLoss_split hs hb⟩⟩
  · exact gives_of_eq (gives_takeLeadership h) (takeLeadership_of_aligned hl hs ha)
  · exact gives_of_eq (gives_takeLeadership h) (takeLeadership_of_unaligned hl hs ha)
  · exact gives_of_eq (gives_takeLeadership h) (takeLeadership_of_leader hl)
  · exact gives_of_eq gives_leadershipSwap (congrArg s.dev.updated (leadershipSwap_of_aligned hr hs hb hl ha))
  · exact gives_of_eq (gives_refQualified n) (congrArg s.dev.updated (refQualified_of_checks hl hen hk hq hs))
  · exact gives_of_eq (gives_refDisqualified n c) (by rw [hl, Device.each_singleton])
  · exact gives_of_eq (gives_refConfigWrite n v) (congrArg s.dev.updated (refConfigWrite_of_same n.isLt hw hl hv))
  · exact gives_of_eq (gives_revertiveSwitch n) (congrArg s.dev.updated (revertiveSwitch_of_better hl hr hq hp hm hlt))
  · exact gives_of_eq (gives_ppsEdge n true) (congrArg s.dev.updated (ppsEdge_sample hl hs hen hk h15 hh hup hst))
  · exact gives_of_eq (gives_gnssSentence u sec) (congrArg s.dev.updated (gnssSentence_labels hv hl hone h14))
  · exact gives_of_eq (gives_ptpSync n t1 t2 t3 t4 none) (ptpSync_sample hh hl hs hen hk)
  · exact ptpSync_announce_completes hw hh hl hs hen hk hq
  · exact gives_of_eq gives_phaseSample (by rw [hl, Device.each_singleton])
  · exact gives_of_eq (gives_modelFit h) (modelFit_of_learning hl hm hs)
  · exact gives_of_eq (gives_learnBin h f x) (learnBin_of_not_learning hl)
  · exact gives_of_eq (gives_learnHour h) (learnHour_of_not_learning hl)
  · exact gives_of_eq (gives_modelFit h) (modelFit_of_not_learning hl)
  · obtain ⟨t, ht, hregs, hsaved⟩ := modelSave_completes (s := s) (h := h)
    exact ⟨t, ht, hregs, fun m hm => ⟨m.saved (s.dev.lark h).hours, hsaved m hm, rfl, rfl, rfl, rfl, rfl, rfl, rfl, rfl, rfl⟩⟩
  · exact gives_of_eq (gives_tempRead h x) (sensorRead_of_unused hw ht)
  · exact gives_of_eq (gives_tempLost h) (if_pos ht)
  · exact gives_of_eq (gives_tempLost h) (if_neg (by simp [ht]))
  · exact gives_of_eq gives_timeExchange (congrArg s.dev.updated (timeExchange_of_near hb hs hl hf ha hnear))
  · exact gives_of_eq (gives_threadTimeWord h b x) (threadWord_of_off hx)
  · exact gives_of_eq (gives_threadTimeWord h b x) (threadWord_of_near hx)

end Sys2Proof.Machine
end

section
/-!
The state of a half's calendar (08_lark_calendar R227 to R240): what a write of it leaves as it was, and what the operations of the
dispatcher keep.
-/
namespace Sys2Proof.Machine

section
variable {d : Device} {h : Half} {c : Calendar}

@[simp] theorem Device.cal_setCal : (d.setCal h c).cal h = c := by cases h <;> rfl
theorem Device.setCal_sys : (d.setCal h c).sys = d.sys := by cases h <;> rfl
theorem Device.setCal_clv : (d.setCal h c).clv = d.clv := by cases h <;> rfl
theorem Device.setCal_pins : (d.setCal h c).pins = d.pins := by cases h <;> rfl
theorem Device.setCal_fifo {h' : Half} : (d.setCal h c).fifo h' = d.fifo h' := by cases h <;> cases h' <;> rfl
theorem Device.setCal_now {h' : Half} : (d.setCal h c).now h' = d.now h' := by cases h <;> cases h' <;> rfl

theorem Device.reg_congr {e : Device} {a : Nat} (hr : e.regs = d.regs) : e.reg a = d.reg a := by rw [Device.reg, hr, ← Device.reg]
theorem Device.fifo_congr {e : Device} (hl : e.log = d.log) : e.fifo h = d.fifo h := by cases h <;> simp only [Device.fifo, hl]
theorem Device.now_congr {e : Device} (ht : e.time = d.time) : e.now h = d.now h := by rw [Device.now, lark_congr ht, ← Device.now]
theorem Device.cal_congr {e : Device} (ht : e.time = d.time) : e.cal h = d.cal h := by cases h <;> simp only [Device.cal, ht]

theorem Device.entry_congr {e : Device} {i : Nat} (ht : e.time = d.time) : e.entry h i = d.entry h i := by
  rw [Device.entry, Device.cal_congr ht, ← Device.entry]

theorem Device.entry_setEntry_same {i : Nat} {v : BitVec 128} (hw : tabWf zero128 (d.cal h).entries = true) :
    (d.setEntry h i v).entry h i = v := by
  rw [Device.entry, Device.setEntry, Device.cal_setCal]
  exact tabGet_tabSet_same _ _ _ _ hw

theorem Device.entry_setEntry_ne {i j : Nat} {v : BitVec 128} (hj : j ≠ i) (hw : tabWf zero128 (d.cal h).entries = true) :
    (d.setEntry h i v).entry h j = d.entry h j := by
  rw [Device.entry, Device.setEntry, Device.cal_setCal]
  exact tabGet_tabSet_ne _ _ _ _ _ hj hw

end

/-- `e` has the registers of `d`, and in half `h` its reports and the occurrences that wait. -/
structure QueueKept (d e : Device) (h : Half) : Prop where
  regs : e.regs = d.regs
  fifo : e.fifo h = d.fifo h
  waiting : (e.cal h).waiting = (d.cal h).waiting

section
variable {d : Device} {h : Half}

theorem armUsed_keeps (i : Nat) (x : Arm) (t : Int) : QueueKept d (armUsed h i x t d) h :=
  ⟨Device.setCal_regs, Device.setCal_fifo, by rw [armUsed, Device.cal_setCal]⟩

theorem firedOnce_keeps (i : Nat) (v : BitVec 128) (cur : Bool) : QueueKept d (firedOnce h i v cur d) h := by
  unfold firedOnce
  split
  · exact ⟨Device.setCal_regs, Device.setCal_fifo, by rw [Device.setEntry, Device.cal_setCal]⟩
  · exact ⟨rfl, rfl, rfl⟩

/-- An entry that repeats stays valid when it fires. -/
theorem firedOnce_of_repeating {i : Nat} {v : BitVec 128} {cur : Bool} (hu : eUnit v ≠ 0) : firedOnce h i v cur d = d := by
  simp [firedOnce, hu]

theorem actRecord_eq (o : Occ) : ∃ b, actRecord h o d = { d with bob := b } := by
  unfold actRecord
  dsimp only
  split
  · exact bobRecord_eq d h _
  · exact ⟨d.bob, rfl⟩

theorem actRecord_keeps (o : Occ) : QueueKept d (actRecord h o d) h := by
  obtain ⟨b, hb⟩ := actRecord_eq (d := d) (h := h) o
  rw [hb]
  exact ⟨rfl, rfl, rfl⟩

theorem QueueKept.trans {a b c : Device} (hab : QueueKept a b h) (hbc : QueueKept b c h) : QueueKept a c h :=
  ⟨hbc.regs.trans hab.regs, hbc.fifo.trans hab.fifo, hbc.waiting.trans hab.waiting⟩

end
end Sys2Proof.Machine
end

section
/-!
The time that an absolute trigger means (08_lark_calendar R230).
-/
namespace Sys2Proof.Machine

section
variable {now lo frac : Nat}

/-! `nearTime` adds to the seconds of the span's start what leads to the named ones. The rest of the second may then lie before the span, in
its first second only, and the time 2^32 s later is meant: the two branches of the definition, linear in the numbers of seconds. -/

theorem nearTime_mem_span (hf : frac < tSec) :
    (now : Int) - 2 ^ 31 * tSec ≤ nearTime now lo frac ∧ nearTime now lo frac < now + 2 ^ 31 * tSec := by
  simp only [tSec] at hf
  simp only [nearTime, tSec]
  split_ifs <;> omega

theorem nearTime_fields (hlo : lo < 2 ^ 32) (hf : frac < tSec) :
    nearTime now lo frac / tSec % 2 ^ 32 = lo ∧ nearTime now lo frac % tSec = frac := by
  simp only [tSec] at hf
  simp only [nearTime, tSec]
  split_ifs <;> omega

/-- Times of one span of 2^32 s that agree in the second modulo 2^32 and in the rest of the second are the same. -/
theorem eq_of_span_of_fields {T U a : Int} (hT : a ≤ T ∧ T < a + 2 ^ 32 * tSec) (hU : a ≤ U ∧ U < a + 2 ^ 32 * tSec)
    (hsec : T / tSec % 2 ^ 32 = U / tSec % 2 ^ 32) (hrest : T % tSec = U % tSec) : T = U := by
  simp only [tSec] at hT hU hsec hrest
  omega

end

theorem eBits_lt (e : BitVec 128) (lo n : Nat) : eBits e lo n < 2 ^ n := Nat.mod_lt _ (Nat.two_pow_pos _)

/-- The rest of a second that an absolute trigger names is less than a second. -/
theorem absTime_rest_lt {e : BitVec 128} (hns : eBits e 66 30 ≤ 999999999) : eBits e 66 30 * 65536 + eBits e 64 2 * 16384 < tSec := by
  have hq := eBits_lt e 64 2
  simp only [tSec]
  omega

/-- Settles O30: `absTime` lies in the span and shows the entry's fields, and a span of 2^32 s holds one such time. -/
theorem absoluteTrigger : Obligations.AbsoluteTrigger := by
  intro now e hns T
  have hsec := eBits_lt e 96 32
  have hrest := absTime_rest_lt hns
  obtain ⟨hlo, hhi⟩ := nearTime_mem_span (now := now) (lo := eBits e 96 32) hrest
  obtain ⟨hs, hr⟩ := nearTime_fields (now := now) hsec hrest
  rw [absTime]
  constructor
  · rintro rfl
    exact ⟨hlo, hhi, hs, hr⟩
  · rintro ⟨hTlo, hThi, hTs, hTr⟩
    exact eq_of_span_of_fields (a := now - 2 ^ 31 * tSec) ⟨hTlo, by omega⟩ ⟨hlo, by omega⟩ (hTs.trans hs.symm) (hTr.trans hr.symm)

end Sys2Proof.Machine
end

section
/-!
Delivery of occurrences (08_lark_calendar R239, R240).
-/
namespace Sys2Proof.Machine

/-! ### The order in which delivered occurrences wait -/

/-- Order of time, and order of index among those of one time. -/
def Occ.before (a b : Occ) : Prop := a.time < b.time ∨ (a.time = b.time ∧ a.idx ≤ b.idx)

theorem occInsert_perm (o : Occ) (xs : List Occ) : (occInsert o xs).Perm (o :: xs) := by
  induction xs with
  | nil => exact .refl _
  | cons x xs ih =>
    rw [occInsert]
    split
    · exact .refl _
    · exact (ih.cons x).trans (.swap o x xs)

theorem occInsert_pairwise {o : Occ} {xs : List Occ} (hs : xs.Pairwise Occ.before) : (occInsert o xs).Pairwise Occ.before := by
  induction hs with
  | nil => exact List.pairwise_singleton _ _
  | @cons x xs hx hs ih =>
    rw [occInsert]
    split
    next hlt =>
      have hox : o.before x := hlt.imp_right fun ⟨ht, hi⟩ => ⟨ht, Nat.le_of_lt hi⟩
      refine .cons (List.forall_mem_cons.mpr ⟨hox, fun y hy => ?_⟩) (.cons hx hs)
      have hxy := hx y hy
      unfold Occ.before at hox hxy ⊢
      omega
    next hge =>
      have hxo : x.before o := by unfold Occ.before; omega
      refine .cons (fun y hy => ?_) ih
      rcases List.mem_cons.mp ((occInsert_perm o xs).mem_iff.mp hy) with rfl | hy
      · exact hxo
      · exact hx y hy

/-! ### Reports (R240, R247; 19_ R489) -/

section
variable {d : Device} {h : Half} {a b : Nat}

/-- A report of a class that the recorder does not watch enters a FIFO that has room, and nothing else. -/
theorem fault_of_unwatched {cls src detail : Nat} (hf : (d.fifo h).length < 1024) (hlo : cls ≠ d.fld (bobA 0) 0 8)
    (hhi : cls ≠ d.fld (bobA 0) 8 8) :
    d.fault h cls src detail = d.setFifo h (d.fifo h ++ [⟨cls, src, detail, d.now h⟩]) := by
  have hbob (rs : List Report) (lo : Nat) : (d.setFifo h rs).fld (bobA 0) lo 8 = d.fld (bobA 0) lo 8 := by cases h <;> rfl
  simp [Device.fault, hf, hbob, hlo, hhi]

theorem Device.setFifo_bump {rs : List Report} {lo n k : Nat} : (d.setFifo h rs).bump a lo n k = (d.bump a lo n k).setFifo h rs := by
  cases h <;> rfl

/-- A count that is the whole of its register. -/
theorem Device.reg_bump_whole (hw : tabWf regDefault d.regs = true) : (d.bump a 0 32 1).reg a = d.reg a + 1 := by
  have hfld := Device.fld_bump_same (d := d) (a := a) (lo := 0) (n := 32) (by_ := 1) (by decide) hw
  have hval (w : Word) : fieldOf w 0 32 = w.toNat := by rw [fieldOf, bitsAt_low w.isLt]
  simp only [Device.fld, hval] at hfld
  exact BitVec.eq_of_toNat_eq (by rw [hfld, BitVec.toNat_add]; rfl)

theorem Device.reg_bump_ne {lo n k : Nat} (hb : b ≠ a) (hw : tabWf regDefault d.regs = true) : (d.bump a lo n k).reg b = d.reg b :=
  Device.reg_setFld_ne hb hw

theorem Device.bump_wf {lo n k : Nat} (hw : tabWf regDefault d.regs = true) : tabWf regDefault (d.bump a lo n k).regs = true :=
  Device.setFld_wf hw

/-- A flag with its index. -/
theorem calFlag_shows {k i : Nat} (hk : 16 ≤ k) (hk' : k < 32) (hw : tabWf regDefault d.regs = true) :
    (calFlag h k i d).bit (calStat h) k = true ∧ (calFlag h k i d).fld (calStat h) 0 16 = i % 65536 :=
  ⟨(Device.bit_setFld_ne (by decide) (.inl hk) (Device.putBit_wf hw)).trans (Device.bit_putBit_same hk' hw),
    Device.fld_setFld_same _ _ _ _ _ (by decide) (Device.putBit_wf hw)⟩

theorem calFlag_wf {k i : Nat} (hw : tabWf regDefault d.regs = true) : tabWf regDefault (calFlag h k i d).regs = true :=
  Device.setFld_wf (Device.putBit_wf hw)

theorem calFlag_reg {k i : Nat} (ha : a ≠ calStat h) (hw : tabWf regDefault d.regs = true) : (calFlag h k i d).reg a = d.reg a :=
  (Device.reg_setFld_ne ha (Device.putBit_wf hw)).trans (Device.reg_putBit_ne ha hw)

/-- The late flag, its count and the count of drops, in registers alone. -/
def lateShown (h : Half) (i : Nat) (d : Device) : Device :=
  ((calFlag h 28 i d).bump (lrkA h 0x234) 0 32 1).bump (lrkA h 0x238) 0 32 1

theorem lateShown_reads {i : Nat} (hw : tabWf regDefault d.regs = true) :
    (lateShown h i d).bit (calStat h) 28 = true ∧ (lateShown h i d).fld (calStat h) 0 16 = i % 65536 ∧
    (lateShown h i d).reg (lrkA h 0x234) = d.reg (lrkA h 0x234) + 1 ∧
    (lateShown h i d).reg (lrkA h 0x238) = d.reg (lrkA h 0x238) + 1 := by
  have h01 : calStat h ≠ lrkA h 0x234 := by simp only [calStat, lrkA]; omega
  have h02 : calStat h ≠ lrkA h 0x238 := by simp only [calStat, lrkA]; omega
  have h12 : lrkA h 0x234 ≠ lrkA h 0x238 := by simp only [lrkA]; omega
  have hwf := calFlag_wf (h := h) (k := 28) (i := i) hw
  have hwb : tabWf regDefault ((calFlag h 28 i d).bump (lrkA h 0x234) 0 32 1).regs = true := Device.bump_wf hwf
  have hstat : (lateShown h i d).reg (calStat h) = (calFlag h 28 i d).reg (calStat h) :=
    (Device.reg_bump_ne h02 hwb).trans (Device.reg_bump_ne h01 hwf)
  obtain ⟨hbit, hfld⟩ := calFlag_shows (h := h) (k := 28) (i := i) (by decide) (by decide) hw
  refine ⟨(Device.bit_congr hstat).trans hbit, (Device.fld_congr hstat).trans hfld, ?_, ?_⟩
  · rw [lateShown, Device.reg_bump_ne h12 hwb, Device.reg_bump_whole hwf, calFlag_reg h01.symm hw]
  · rw [lateShown, Device.reg_bump_whole hwb, Device.reg_bump_ne h12.symm hwf, calFlag_reg h02.symm hw]

/-- A late occurrence is flagged, counted, reported and dropped. -/
theorem lateReport_dropped {i : Nat} (hw : tabWf regDefault d.regs = true) (hb : d.fld (bobA 0) 0 16 = 0)
    (hf : (d.fifo h).length < 1024) :
    (lateReport h i 1 d).bump (lrkA h 0x238) 0 32 1 =
      (lateShown h i d).setFifo h (d.fifo h ++ [⟨0x49, hn h * 65536 + i, 1, d.now h⟩]) := by
  have hcount : bobA 0 ≠ lrkA h 0x234 := by cases h <;> decide
  have hstat : bobA 0 ≠ calStat h := by cases h <;> decide
  have hreg : ((calFlag h 28 i d).bump (lrkA h 0x234) 0 32 1).reg (bobA 0) = d.reg (bobA 0) :=
    (Device.reg_bump_ne hcount (calFlag_wf hw)).trans (calFlag_reg hstat hw)
  have hbytes : d.fld (bobA 0) 0 8 = 0 ∧ d.fld (bobA 0) 8 8 = 0 := by
    simp only [Device.fld, fieldOf, bitsAt_eq] at hb ⊢
    omega
  have hfifo : ((calFlag h 28 i d).bump (lrkA h 0x234) 0 32 1).fifo h = d.fifo h := Device.fifo_congr rfl
  have hnow : ((calFlag h 28 i d).bump (lrkA h 0x234) 0 32 1).now h = d.now h := Device.now_congr rfl
  rw [lateReport, fault_of_unwatched (by rwa [hfifo]), hfifo, hnow, Device.setFifo_bump, ← lateShown]
  · rw [Device.fld_congr hreg, hbytes.1]; decide
  · rw [Device.fld_congr hreg, hbytes.2]; decide

end

/-! ### What the dispatcher does with the next occurrence -/

section
variable {d : Device} {h : Half} {t : Int} {i : Nat} {x : Arm}

/-- Before the last 2,000 ns the dispatcher takes nothing. -/
theorem occDeliver_of_early (hx : nextOcc d h = some (t, i, x)) (hm : x.miss = false) (hn : (d.now h : Int) < t - 2000 * 65536) :
    occDeliver h d = d := by
  have hearly : (d.now h : Int) < t - calLead ∧ !x.miss := ⟨hn, by simp [hm]⟩
  simp only [occDeliver, hx, if_pos hearly]

/-- The calendar once an occurrence has been delivered. -/
def occQueued (d : Device) (h : Half) (o : Occ) : Calendar :=
  { d.cal h with
    waiting := occInsert o (d.cal h).waiting
    usNow := d.now h / tUs
    usCount := (if (d.cal h).usNow = d.now h / tUs then (d.cal h).usCount else 0) + 1 }

theorem occDeliver_of_room (hx : nextOcc d h = some (t, i, x)) (hfed : actFed h x.entry d = false) (hm : x.miss = false)
    (hmade : (x.made : Int) ≤ t - 250 * 65536) (hfrom : t - 2000 * 65536 ≤ (d.now h : Int)) (hto : (d.now h : Int) ≤ t - 250 * 65536)
    (hrate : (if (d.cal h).usNow = d.now h / tUs then (d.cal h).usCount else 0) < 256) (hroom : (d.cal h).waiting.length < 1024) :
    occDeliver h d = actRecord h ⟨i, t.toNat, x.entry, false, x.cur⟩ (armUsed h i x t
      (d.setCal h (occQueued d h ⟨i, t.toNat, x.entry, false, x.cur⟩))) := by
  have hdue : ¬ ((d.now h : Int) < t - calLead) := not_lt.mpr hfrom
  have hlast : lastMoment x t = t - 250 * 65536 := if_neg (not_lt.mpr hmade)
  have hintime : ¬ ((d.now h : Int) > lastMoment x t) := by omega
  simp [occDeliver, hx, hdue, hfed, hm, hintime, hrate, hroom, occQueued]

theorem occDeliver_of_late (hx : nextOcc d h = some (t, i, x)) (hfed : actFed h x.entry d = false)
    (hmade : (x.made : Int) ≤ t - 250 * 65536) (hlate : t - 250 * 65536 < (d.now h : Int)) (hok : lateActs x.entry = false) :
    occDeliver h d = firedOnce h i x.entry x.cur (armUsed h i x t ((lateReport h i 1 d).bump (lrkA h 0x238) 0 32 1)) := by
  have hdue : ¬ ((d.now h : Int) < t - calLead) := by simp only [calLead]; omega
  have hlast : lastMoment x t = t - 250 * 65536 := if_neg (not_lt.mpr hmade)
  have hpast : (d.now h : Int) > lastMoment x t := by omega
  simp [occDeliver, hx, hdue, hfed, hpast, hok]

end

/-! ### The command -/

section
variable {s : State} {h : Half} {t : Int} {i : Nat} {x : Arm}

theorem gives_occurrenceDeliver (h) : gives (.occurrenceDeliver h) s (occDeliver h s.dev) := rfl

theorem occurrenceDeliver_of_room (hx : nextOcc s.dev h = some (t, i, x)) (hfed : actFed h x.entry s.dev = false) (hm : x.miss = false)
    (hmade : (x.made : Int) ≤ t - 250 * 65536) (hfrom : t - 2000 * 65536 ≤ (s.dev.now h : Int))
    (hto : (s.dev.now h : Int) ≤ t - 250 * 65536)
    (hrate : (if (s.dev.cal h).usNow = s.dev.now h / tUs then (s.dev.cal h).usCount else 0) < 256)
    (hroom : (s.dev.cal h).waiting.length < 1024) :
    ∃ u, exec (.occurrenceDeliver h) s = .next u ∧ u.dev.regs = s.dev.regs ∧
      (u.dev.cal h).waiting = occInsert ⟨i, t.toNat, x.entry, false, x.cur⟩ (s.dev.cal h).waiting := by
  have hkept := (armUsed_keeps i x t).trans (actRecord_keeps (d := armUsed h i x t
    (s.dev.setCal h (occQueued s.dev h ⟨i, t.toNat, x.entry, false, x.cur⟩))) ⟨i, t.toNat, x.entry, false, x.cur⟩)
  refine ⟨_, gives_of_eq (gives_occurrenceDeliver h) (occDeliver_of_room hx hfed hm hmade hfrom hto hrate hroom),
    hkept.regs.trans Device.setCal_regs, hkept.waiting.trans ?_⟩
  rw [Device.cal_setCal, occQueued]

theorem occurrenceDeliver_of_late (hw : tabWf regDefault s.dev.regs = true) (hx : nextOcc s.dev h = some (t, i, x))
    (hfed : actFed h x.entry s.dev = false) (hmade : (x.made : Int) ≤ t - 250 * 65536)
    (hlate : t - 250 * 65536 < (s.dev.now h : Int)) (hok : lateActs x.entry = false) (hb : s.dev.fld (bobA 0) 0 16 = 0)
    (hf : (s.dev.fifo h).length < 1024) :
    ∃ u, exec (.occurrenceDeliver h) s = .next u ∧ (u.dev.cal h).waiting = (s.dev.cal h).waiting ∧
      u.dev.bit (calStat h) 28 = true ∧ u.dev.fld (calStat h) 0 16 = i % 65536 ∧
      u.dev.reg (lrkA h 0x234) = s.dev.reg (lrkA h 0x234) + 1 ∧ u.dev.reg (lrkA h 0x238) = s.dev.reg (lrkA h 0x238) + 1 ∧
      u.dev.fifo h = s.dev.fifo h ++ [⟨0x49, hn h * 65536 + i, 1, s.dev.now h⟩] := by
  have hgives := gives_of_eq (gives_occurrenceDeliver h) (occDeliver_of_late hx hfed hmade hlate hok)
  rw [lateReport_dropped hw hb hf] at hgives
  set r : Device := (lateShown h i s.dev).setFifo h (s.dev.fifo h ++ [⟨0x49, hn h * 65536 + i, 1, s.dev.now h⟩])
  have hkept := (armUsed_keeps (d := r) (h := h) i x t).trans (firedOnce_keeps i x.entry x.cur)
  have hreg (a : Nat) : (firedOnce h i x.entry x.cur (armUsed h i x t r)).reg a = (lateShown h i s.dev).reg a :=
    Device.reg_congr (hkept.regs.trans (Device.setFifo_regs ..))
  obtain ⟨hbit, hfld, hlateCount, hdropCount⟩ := lateShown_reads (h := h) (i := i) hw
  exact ⟨_, hgives, hkept.waiting.trans (congrArg Calendar.waiting (Device.cal_congr (Device.setFifo_time ..))),
    (Device.bit_congr (hreg _)).trans hbit, (Device.fld_congr (hreg _)).trans hfld, (hreg _).trans hlateCount,
    (hreg _).trans hdropCount, hkept.fifo.trans (Device.fifo_setFifo h _)⟩

end

/-- Settles O31: the dispatcher's cases by the time at which it takes the occurrence, and insertion into a sorted list. That an arm which
was made too late to be delivered in time is late only from its own time on is log entry 105. -/
theorem occurrenceDelivery : Obligations.OccurrenceDelivery := by
  refine ⟨fun s h t i x hw hx hfed hm hmade => ⟨fun hearly => ?_, fun hfrom hto hrate hroom => ?_, fun hlate hok hb hf => ?_⟩,
    fun o xs hs => ⟨occInsert_pairwise hs, occInsert_perm o xs⟩⟩
  · exact gives_of_eq (gives_occurrenceDeliver h) (occDeliver_of_early hx hm hearly)
  · exact occurrenceDeliver_of_room hx hfed hm hmade hfrom hto hrate hroom
  · exact occurrenceDeliver_of_late hw hx hfed hmade hlate hok hb hf

end Sys2Proof.Machine
end

section
/-!
Commands on the calendar's entries (08_lark_calendar R228, R238, R246).
-/
namespace Sys2Proof.Machine

/-! ### An entry that no enabled channel holds -/

section
variable {d e : Device} {h : Half} {i : Nat}

/-- Which entries the channels arm depends on the channels and their registers. -/
theorem inActive_congr (hc : (e.cal h).chans = (d.cal h).chans)
    (hreg : ∀ (c : Fin 32) (o : Nat), o < 16 → e.reg (chanCtlA h c.val o) = d.reg (chanCtlA h c.val o)) :
    inActive e h i = inActive d h i := by
  have hset (c : Nat) (hlt : c < 32) : armingSet e h c = armingSet d h c := by
    rw [armingSet, armingSet, hc, Device.bit_congr (hreg ⟨c, hlt⟩ 8 (by decide)), hreg ⟨c, hlt⟩ 12 (by decide)]
  rw [inActive, inActive, Bool.eq_iff_iff]
  simp only [List.any_eq_true]
  refine exists_congr fun c => and_congr_right fun hm => ?_
  rw [hset c (List.mem_range.mp hm)]

theorem inActive_setCal {k : Calendar} (hk : k.chans = (d.cal h).chans) : inActive (d.setCal h k) h i = inActive d h i :=
  inActive_congr (by rw [Device.cal_setCal, hk]) fun _ _ _ => Device.setCal_reg

theorem inActive_splitArms {new : Bool} {A j : Nat} : inActive (splitArms h new j A d) h i = inActive d h i := inActive_setCal rfl
theorem inActive_setEntry {j : Nat} {v : BitVec 128} : inActive (d.setEntry h j v) h i = inActive d h i := inActive_setCal rfl

theorem inActive_calFlag {k j : Nat} (hw : tabWf regDefault d.regs = true) : inActive (calFlag h k j d) h i = inActive d h i :=
  inActive_congr (congrArg _ (Device.cal_congr rfl)) fun c _ ho =>
    calFlag_reg (fun hc => chanCtlA_not_report (h := h) c ho ⟨h, .inl hc⟩) hw

/-- Such an entry is not armed again: only what it held before is split. -/
theorem armEntry_of_inactive {new wait : Bool} {A : Nat} (hi : inActive d h i = false) :
    armEntry h new wait A i d = splitArms h new i A d := by
  simp [armEntry, inActive_splitArms, hi]

theorem splitArms_entry {new : Bool} {A j k : Nat} : (splitArms h new j A d).entry h k = d.entry h k := by
  rw [splitArms, Device.entry, Device.cal_setCal, ← Device.entry]

/-- A device in which entry `i` has been written and what it held before is split. -/
theorem splitArms_setEntry_entry {v : BitVec 128} {A : Nat} (hw : tabWf zero128 (d.cal h).entries = true) :
    (splitArms h true i A (d.setEntry h i v)).entry h i = v ∧
    ∀ j, j ≠ i → (splitArms h true i A (d.setEntry h i v)).entry h j = d.entry h j :=
  ⟨splitArms_entry.trans (Device.entry_setEntry_same hw), fun _ hj => splitArms_entry.trans (Device.entry_setEntry_ne hj hw)⟩

theorem splitArms_setEntry_regs {v : BitVec 128} {A : Nat} : (splitArms h true i A (d.setEntry h i v)).regs = d.regs :=
  Device.setCal_regs.trans Device.setCal_regs

end

/-! ### What the commands write -/

section
variable {d : Device} {h : Half} {i : Nat} {v : BitVec 128}

theorem entryWrite_of_accepted (hi : inActive d h i = false) (hv : entryRefused d v = false) :
    ∃ A, entryWrite h i v d = splitArms h true i A (d.setEntry h i (eStored v)) := by
  simp only [entryWrite, hv, Bool.and_false, if_neg Bool.false_ne_true]
  exact ⟨_, armEntry_of_inactive (inActive_setEntry.trans hi)⟩

theorem entryWrite_of_refused (hw : tabWf regDefault d.regs = true) (hi : inActive d h i = false) (hv : entryRefused d v = true)
    (hvalid : eValid v = true) :
    ∃ A, entryWrite h i v d = splitArms h true i A (calFlag h 30 i (d.setEntry h i (eStored (invalid v)))) := by
  have hw' : tabWf regDefault (d.setEntry h i (eStored (invalid v))).regs = true := by rwa [Device.setEntry, Device.setCal_regs]
  simp only [entryWrite, hv, hvalid, Bool.and_true, if_true]
  exact ⟨_, armEntry_of_inactive ((inActive_calFlag hw').trans (inActive_setEntry.trans hi))⟩

theorem entryClear_of_inactive (hi : inActive d h i = false) :
    ∃ A, entryClear h i d = splitArms h true i A (d.setEntry h i (invalid (d.entry h i))) :=
  ⟨_, armEntry_of_inactive (inActive_setEntry.trans hi)⟩

/-- Without auto_inc the index stays. -/
theorem calInc_of_off {e : Device} (ha : d.bit (lrkA h 0x200) 16 = false) (hr : e.reg (lrkA h 0x200) = d.reg (lrkA h 0x200)) :
    calInc h e = e := by
  simp [calInc, Device.bit_congr hr, ha]

theorem calWrite_eq {e : Device} (ha : d.bit (lrkA h 0x200) 16 = false)
    (he : entryWrite h (calIdx d h) (entryAt d (lrkA h 0x210)) d = e) (hr : e.reg (lrkA h 0x200) = d.reg (lrkA h 0x200)) :
    calWrite h d = e := by
  rw [calWrite, he, calInc_of_off ha hr]

theorem calClearValid_eq {e : Device} (ha : d.bit (lrkA h 0x200) 16 = false) (he : entryClear h (calIdx d h) d = e)
    (hr : e.reg (lrkA h 0x200) = d.reg (lrkA h 0x200)) : calClearValid h d = e := by
  rw [calClearValid, he, calInc_of_off ha hr]

theorem lrkA_add (o k : Nat) : lrkA h (o + k) = lrkA h o + k := (Nat.add_assoc _ o k).symm

/-- The four registers at `a` show an entry, word by word. -/
def entryShown (a : Nat) (v : BitVec 128) (d : Device) : Device :=
  (((d.setReg a (v.extractLsb' 0 32)).setReg (a + 4) (v.extractLsb' 32 32)).setReg (a + 8) (v.extractLsb' 64 32)).setReg (a + 12)
    (v.extractLsb' 96 32)

theorem entryShown_reg {a b : Nat} (hw : tabWf regDefault d.regs = true) (h0 : b ≠ a) (h4 : b ≠ a + 4) (h8 : b ≠ a + 8)
    (h12 : b ≠ a + 12) : (entryShown a v d).reg b = d.reg b := by
  have hw1 := d.setReg_wf a (v.extractLsb' 0 32) hw
  have hw2 := Device.setReg_wf _ (a + 4) (v.extractLsb' 32 32) hw1
  have hw3 := Device.setReg_wf _ (a + 8) (v.extractLsb' 64 32) hw2
  rw [entryShown, Device.reg_setReg_ne _ _ _ _ h12 hw3, Device.reg_setReg_ne _ _ _ _ h8 hw2, Device.reg_setReg_ne _ _ _ _ h4 hw1,
    Device.reg_setReg_ne _ _ _ _ h0 hw]

theorem entryAt_entryShown {a : Nat} (hw : tabWf regDefault d.regs = true) : entryAt (entryShown a v d) a = v := by
  have hw1 := d.setReg_wf a (v.extractLsb' 0 32) hw
  have hw2 := Device.setReg_wf _ (a + 4) (v.extractLsb' 32 32) hw1
  have hw3 := Device.setReg_wf _ (a + 8) (v.extractLsb' 64 32) hw2
  have h0 : (entryShown a v d).reg a = v.extractLsb' 0 32 := by
    rw [entryShown, Device.reg_setReg_ne _ _ _ _ (by omega) hw3, Device.reg_setReg_ne _ _ _ _ (by omega) hw2,
      Device.reg_setReg_ne _ _ _ _ (by omega) hw1, Device.reg_setReg_same _ _ _ hw]
  have h4 : (entryShown a v d).reg (a + 4) = v.extractLsb' 32 32 := by
    rw [entryShown, Device.reg_setReg_ne _ _ _ _ (by omega) hw3, Device.reg_setReg_ne _ _ _ _ (by omega) hw2,
      Device.reg_setReg_same _ _ _ hw1]
  have h8 : (entryShown a v d).reg (a + 8) = v.extractLsb' 64 32 := by
    rw [entryShown, Device.reg_setReg_ne _ _ _ _ (by omega) hw3, Device.reg_setReg_same _ _ _ hw2]
  have h12 : (entryShown a v d).reg (a + 12) = v.extractLsb' 96 32 := Device.reg_setReg_same _ _ _ hw3
  rw [entryAt, h0, h4, h8, h12, BitVec.extractLsb'_append_extractLsb'_eq_extractLsb' (by rfl),
    BitVec.extractLsb'_append_extractLsb'_eq_extractLsb' (by rfl), BitVec.extractLsb'_append_extractLsb'_eq_extractLsb' (by rfl),
    BitVec.extractLsb'_eq_self]

theorem entryAt_answer (d : Device) (st : Nat) (data : List Byte) (a : Nat) : entryAt (d.answer st data) a = entryAt d a := rfl

theorem calRead_eq (hw : tabWf regDefault d.regs = true) (ha : d.bit (lrkA h 0x200) 16 = false) :
    calRead h d = entryShown (lrkA h 0x220) (d.entry h (calIdx d h)) d := by
  have hread : calRead h d = calInc h (entryShown (lrkA h 0x220) (d.entry h (calIdx d h)) d) := rfl
  rw [hread, calInc_of_off ha]
  exact entryShown_reg hw (by simp [lrkA]) (by simp only [lrkA]; omega) (by simp only [lrkA]; omega) (by simp only [lrkA]; omega)

end

/-! ### Where the commands complete -/

section
variable {s : State} {h : Half} {mc : MClass}

theorem byThimble_of_other {d : Device} {f : Device → Device} (hm : mc.val ≠ 3) : d.byThimble mc f = d.answer 8 [] := if_neg hm
theorem byThimble_of_thimble {d : Device} {f : Device → Device} (hm : mc.val = 3) : d.byThimble mc f = (f d).answer 0 [] := if_pos hm

theorem gives_calendarWrite (h mc) : gives (.calendarWrite h mc) s (s.dev.byThimble mc (calWrite h)) := rfl
theorem gives_calendarRead (h mc) : gives (.calendarRead h mc) s (s.dev.byThimble mc (calRead h)) := rfl
theorem gives_calendarClearValid (h mc) : gives (.calendarClearValid h mc) s (s.dev.byThimble mc (calClearValid h)) := rfl

/-- A command of Thimble's answers OK. -/
theorem completes_of_thimble {i : Instr} {f : Device → Device} {e : Device} (hg : gives i s (s.dev.byThimble mc f)) (hm : mc.val = 3)
    (he : f s.dev = e) : exec i s = .next { s with dev := e.answer 0 [] } :=
  gives_of_eq hg (by rw [byThimble_of_thimble hm, he])

theorem calendarWrite_of_accepted (hwe : tabWf zero128 (s.dev.cal h).entries = true) (ha : s.dev.bit (lrkA h 0x200) 16 = false)
    (hi : inActive s.dev h (calIdx s.dev h) = false) (hm : mc.val = 3)
    (hv : entryRefused s.dev (entryAt s.dev (lrkA h 0x210)) = false) :
    ∃ t, exec (.calendarWrite h mc) s = .next t ∧ t.dev.rsp.status = 0 ∧ t.dev.regs = s.dev.regs ∧
      t.dev.entry h (calIdx s.dev h) = eStored (entryAt s.dev (lrkA h 0x210)) ∧
      ∀ i, i ≠ calIdx s.dev h → t.dev.entry h i = s.dev.entry h i := by
  obtain ⟨A, hput⟩ := entryWrite_of_accepted hi hv
  have hwrite := calWrite_eq ha hput (Device.reg_congr splitArms_setEntry_regs)
  obtain ⟨hsame, hother⟩ := splitArms_setEntry_entry (A := A) (v := eStored (entryAt s.dev (lrkA h 0x210))) (i := calIdx s.dev h) hwe
  exact ⟨_, completes_of_thimble (gives_calendarWrite h mc) hm hwrite, rfl, splitArms_setEntry_regs,
    (Device.entry_congr rfl).trans hsame, fun j hj => (Device.entry_congr rfl).trans (hother j hj)⟩

theorem calendarWrite_of_refused (hw : tabWf regDefault s.dev.regs = true) (hwe : tabWf zero128 (s.dev.cal h).entries = true)
    (ha : s.dev.bit (lrkA h 0x200) 16 = false) (hi : inActive s.dev h (calIdx s.dev h) = false) (hm : mc.val = 3)
    (hv : entryRefused s.dev (entryAt s.dev (lrkA h 0x210)) = true) (hvalid : eValid (entryAt s.dev (lrkA h 0x210)) = true) :
    ∃ t, exec (.calendarWrite h mc) s = .next t ∧ t.dev.rsp.status = 0 ∧ t.dev.bit (calStat h) 30 = true ∧
      t.dev.entry h (calIdx s.dev h) = eStored (invalid (entryAt s.dev (lrkA h 0x210))) := by
  obtain ⟨A, hput⟩ := entryWrite_of_refused hw hi hv hvalid
  set p : Device := s.dev.setEntry h (calIdx s.dev h) (eStored (invalid (entryAt s.dev (lrkA h 0x210))))
  have hwp : tabWf regDefault p.regs = true := by rwa [show p.regs = s.dev.regs from Device.setCal_regs]
  have hidx : lrkA h 0x200 ≠ calStat h := by simp only [calStat, lrkA]; omega
  have hwrite := calWrite_eq ha hput (Device.setCal_reg.trans ((calFlag_reg hidx hwp).trans Device.setCal_reg))
  have hbit := (calFlag_shows (h := h) (k := 30) (i := calIdx s.dev h) (by decide) (by decide) hwp).1
  refine ⟨_, completes_of_thimble (gives_calendarWrite h mc) hm hwrite, rfl, (Device.bit_congr Device.setCal_reg).trans hbit, ?_⟩
  exact (Device.entry_congr rfl).trans (splitArms_entry.trans ((Device.entry_congr rfl).trans (Device.entry_setEntry_same hwe)))

theorem calendarRead_shows (hw : tabWf regDefault s.dev.regs = true) (ha : s.dev.bit (lrkA h 0x200) 16 = false) (hm : mc.val = 3) :
    ∃ t, exec (.calendarRead h mc) s = .next t ∧ t.dev.rsp.status = 0 ∧ t.dev.time = s.dev.time ∧
      entryAt t.dev (lrkA h 0x220) = s.dev.entry h (calIdx s.dev h) ∧
      ∀ a, a ≠ lrkA h 0x220 → a ≠ lrkA h 0x224 → a ≠ lrkA h 0x228 → a ≠ lrkA h 0x22C → t.dev.reg a = s.dev.reg a :=
  ⟨_, completes_of_thimble (gives_calendarRead h mc) hm (calRead_eq hw ha), rfl, rfl,
    (entryAt_answer _ _ _ _).trans (entryAt_entryShown hw),
    fun _ h0 h4 h8 hC => (Device.answer_reg _ _ _ _).trans
      (entryShown_reg hw h0 (by rwa [← lrkA_add]) (by rwa [← lrkA_add]) (by rwa [← lrkA_add]))⟩

theorem calendarClearValid_clears (hwe : tabWf zero128 (s.dev.cal h).entries = true) (ha : s.dev.bit (lrkA h 0x200) 16 = false)
    (hi : inActive s.dev h (calIdx s.dev h) = false) (hm : mc.val = 3) :
    ∃ t, exec (.calendarClearValid h mc) s = .next t ∧ t.dev.rsp.status = 0 ∧ t.dev.regs = s.dev.regs ∧
      t.dev.entry h (calIdx s.dev h) = invalid (s.dev.entry h (calIdx s.dev h)) := by
  obtain ⟨A, hput⟩ := entryClear_of_inactive hi
  have hclear := calClearValid_eq ha hput (Device.reg_congr splitArms_setEntry_regs)
  exact ⟨_, completes_of_thimble (gives_calendarClearValid h mc) hm hclear, rfl, splitArms_setEntry_regs,
    (Device.entry_congr rfl).trans (splitArms_setEntry_entry hwe).1⟩

end

/-- Settles O32, command by command. The flag that a refused write sets is entry_err, bit 30 of the calendar's status (R238, R247). -/
theorem calendarCommands : Obligations.CalendarCommands := by
  intro s h mc hw hwe ha hi
  refine ⟨fun hm => ⟨?_, ?_, ?_⟩, fun hm => ⟨calendarWrite_of_accepted hwe ha hi hm, calendarWrite_of_refused hw hwe ha hi hm,
    calendarRead_shows hw ha hm, calendarClearValid_clears hwe ha hi hm⟩⟩
  · exact gives_of_eq (gives_calendarWrite h mc) (byThimble_of_other hm)
  · exact gives_of_eq (gives_calendarRead h mc) (byThimble_of_other hm)
  · exact gives_of_eq (gives_calendarClearValid h mc) (byThimble_of_other hm)

end Sys2Proof.Machine
end

section
/-!
Calendar actions at their targets (08_lark_calendar R231 to R234).
-/
namespace Sys2Proof.Machine

/-! ### Taking the occurrence that is due -/

/-- Occurrence `o` waits first in the calendar of half `h`, its time has come, its entry repeats, and `d` is the device without it. -/
structure DueFirst (h : Half) (o : Occ) (d0 d : Device) : Prop where
  up : d0.up h = true
  due : actTime d0 h o ≤ d0.now h
  repeats : eUnit o.entry ≠ 0
  taken : ∃ rest, (d0.cal h).waiting = o :: rest ∧ d = d0.setCal h { d0.cal h with waiting := rest }

section
variable {d0 d : Device} {h : Half} {o : Occ}

theorem DueFirst.regs (hd : DueFirst h o d0 d) : d.regs = d0.regs := by
  obtain ⟨rest, -, rfl⟩ := hd.taken
  exact Device.setCal_regs
theorem DueFirst.sys (hd : DueFirst h o d0 d) : d.sys = d0.sys := by
  obtain ⟨rest, -, rfl⟩ := hd.taken
  exact Device.setCal_sys
theorem DueFirst.clv (hd : DueFirst h o d0 d) : d.clv = d0.clv := by
  obtain ⟨rest, -, rfl⟩ := hd.taken
  exact Device.setCal_clv
theorem DueFirst.pins (hd : DueFirst h o d0 d) : d.pins = d0.pins := by
  obtain ⟨rest, -, rfl⟩ := hd.taken
  exact Device.setCal_pins
theorem DueFirst.now (hd : DueFirst h o d0 d) : d.now h = d0.now h := by
  obtain ⟨rest, -, rfl⟩ := hd.taken
  exact Device.setCal_now

theorem DueFirst.isUp (hd : DueFirst h o d0 d) : d.up h = true := by
  rw [← hd.up]
  cases h <;> simp only [Device.up, hd.sys]
theorem DueFirst.domOn (hd : DueFirst h o d0 d) (n : Nat) : d.domOn n = d0.domOn n := by
  rw [Device.domOn, Device.domState, Device.fld_congr (Device.reg_congr hd.regs), ← Device.domState, ← Device.domOn]
theorem DueFirst.engine (hd : DueFirst h o d0 d) (n : Nat) : d.engine n = d0.engine n := by
  rw [Device.engine, hd.clv, ← Device.engine]
theorem DueFirst.pin (hd : DueFirst h o d0 d) (b i : Nat) : d.pin b i = d0.pin b i := by rw [Device.pin, hd.pins, ← Device.pin]
theorem DueFirst.actTime (hd : DueFirst h o d0 d) : actTime d h o = actTime d0 h o := by
  rw [Machine.actTime, hd.now, ← Machine.actTime]
theorem DueFirst.pinFollows (hd : DueFirst h o d0 d) (b i : Nat) : pinFollows d b i = pinFollows d0 b i := by
  obtain ⟨rest, -, rfl⟩ := hd.taken
  cases h <;> rfl

/-- A command for the target, action and argument of the due occurrence takes it: it acts where it reaches its target, and is dropped with
target_drop where it does not (R234). -/
theorem calAct_of_due {cls idx act : Nat} {ok : Nat → Bool} {reach : Device → Bool} {f : Occ → Device → Device}
    (hd : DueFirst h o d0 d) (hcls : eClass o.entry = cls) (hidx : eIndex o.entry = idx) (hact : eAction o.entry = act)
    (hok : ok (eArg o.entry) = true) :
    calAct h cls idx act ok reach f d0 = if reach d then f o d else occDrop h 27 o d := by
  obtain ⟨rest, hwait, heq⟩ := hd.taken
  have htake : occTake h cls idx act ok d0 = (some o, d) := by
    simp [occTake, hwait, dropFirst, hcls, hidx, hact, hok, hd.due, firedOnce_of_repeating hd.repeats, heq]
  simp [calAct, htake, hd.isUp]

theorem calAct_reaches {cls idx act : Nat} {ok : Nat → Bool} {reach : Device → Bool} {f : Occ → Device → Device}
    (hd : DueFirst h o d0 d) (hcls : eClass o.entry = cls) (hidx : eIndex o.entry = idx) (hact : eAction o.entry = act)
    (hok : ok (eArg o.entry) = true)
    (hreach : reach d = true) : calAct h cls idx act ok reach f d0 = f o d := by
  rw [calAct_of_due hd hcls hidx hact hok, if_pos hreach]

end

/-! ### Pins (R233) -/

section
variable {d d0 : Device} {h : Half} {o : Occ} {b i t : Nat} {level : Bool}

theorem Device.pin_setPin {x : Pin} (hw : tabWf pinReset d.pins = true) : (d.setPin b i x).pin b i = x := tabGet_tabSet_same _ _ _ _ hw
theorem Device.setPin_wf {x : Pin} (hw : tabWf pinReset d.pins = true) : tabWf pinReset (d.setPin b i x).pins = true :=
  tabWf_tabSet _ _ _ _ hw

/-- An edge 4 ns or more after the last one is made. -/
theorem pinEdge_of_far (hl : (d.pin b i).level ≠ level) (hfar : ∀ l, (d.pin b i).lastEdge = some l → l + 4 * 65536 ≤ t) :
    pinEdge b i level t d = some (d.setPin b i { d.pin b i with level := level, lastEdge := some t }) := by
  have hany : (d.pin b i).lastEdge.any (fun l => decide (t < l + 4 * 65536)) = false := by
    cases he : (d.pin b i).lastEdge with
    | none => rfl
    | some l => rw [Option.any_some, decide_eq_false (Nat.not_lt.mpr (hfar l he))]
  simp only [pinEdge, if_neg hl, hany, if_neg Bool.false_ne_true]

theorem pinEdge_of_near {l : Nat} (hl : (d.pin b i).level ≠ level) (he : (d.pin b i).lastEdge = some l) (hnear : t < l + 4 * 65536) :
    pinEdge b i level t d = none := by
  have hany : (d.pin b i).lastEdge.any (fun l => decide (t < l + 4 * 65536)) = true := by
    rw [he, Option.any_some, decide_eq_true hnear]
  simp only [pinEdge, if_neg hl, hany, if_true]

/-- A pin that has acted at time `t` and stands at `level`. -/
def Pin.acted (x : Pin) (level : Bool) (t : Nat) : Pin := { x with level := level, lastEdge := some t, lastAct := some t }

section
variable {p act : Nat} {ok : Nat → Bool} {lv : Pin → Bool} {pulse : Bool} (hd : DueFirst h o d0 d) (hcls : eClass o.entry = 4)
  (hidx : eIndex o.entry = p) (hact : eAction o.entry = act) (hok : ok (eArg o.entry) = true)
  (hfol : pinFollows d0 (pinBank h p) (p % 48) = true)
include hd hcls hidx hact hok hfol

/-- The second action of one time, or an edge too close to the last, is dropped with pin_merge. -/
theorem calPin_dropped (hdrop : pinRival h p (pinBank h p) (p % 48) o (actTime d0 h o) d = true ∨
      ∃ l, (d0.pin (pinBank h p) (p % 48)).lastEdge = some l ∧ actTime d0 h o < l + 4 * 65536)
    (hl : (d0.pin (pinBank h p) (p % 48)).level ≠ lv (d0.pin (pinBank h p) (p % 48))) :
    calPin h p act ok lv pulse d0 = occDrop h 26 o d := by
  rw [calPin, calAct_reaches hd hcls hidx hact hok ((hd.pinFollows _ _).trans hfol), hd.actTime]
  dsimp only
  rcases hdrop with hrival | ⟨l, he, hnear⟩
  · rw [if_pos hrival]
  · rw [← hd.pin] at he hl
    rw [pinEdge_of_near hl he hnear]
    exact ite_self _

/-- The only action of its time, 4 ns or more after the last edge, drives the pin. -/
theorem calPin_acts (hrival : pinRival h p (pinBank h p) (p % 48) o (actTime d0 h o) d = false)
    (hfar : ∀ l, (d0.pin (pinBank h p) (p % 48)).lastEdge = some l → l + 4 * 65536 ≤ actTime d0 h o)
    (hl : (d0.pin (pinBank h p) (p % 48)).level ≠ lv (d0.pin (pinBank h p) (p % 48))) (hw : tabWf pinReset d0.pins = true) :
    (calPin h p act ok lv pulse d0).regs = d0.regs ∧ ∀ x, x = d0.pin (pinBank h p) (p % 48) →
      (calPin h p act ok lv pulse d0).pin (pinBank h p) (p % 48) =
        if pulse then { x.acted (lv x) (actTime d0 h o) with
          pulseEnds := x.pulseEnds ++ [(actTime d0 h o + eArg o.entry * 16384, o.idx)] }
        else x.acted (lv x) (actTime d0 h o) := by
  have hwd : tabWf pinReset d.pins = true := by rwa [hd.pins]
  rw [← hd.pin] at hfar hl
  rw [calPin, calAct_reaches hd hcls hidx hact hok ((hd.pinFollows _ _).trans hfol), hd.actTime, if_neg (by simp [hrival]),
    pinEdge_of_far hl hfar]
  refine ⟨hd.regs, ?_⟩
  rintro x rfl
  rw [← hd.pin]
  dsimp only
  rw [Device.pin_setPin (Device.setPin_wf hwd), Device.pin_setPin hwd]
  rfl

end

/-- The only pulse of a pin ends at its own time, 4 ns or more after the last edge. -/
theorem pulseEnd_falls {p e : Nat} (hends : (d.pin (pinBank h p) (p % 48)).pulseEnds = [(t, e)]) (ht : t ≤ d.now h)
    (hl : (d.pin (pinBank h p) (p % 48)).level = true) (hw : tabWf pinReset d.pins = true)
    (hfar : ∀ l, (d.pin (pinBank h p) (p % 48)).lastEdge = some l → l + 4 * 65536 ≤ t) :
    (pulseEnd h p d).regs = d.regs ∧ (pulseEnd h p d).pin (pinBank h p) (p % 48) =
      { d.pin (pinBank h p) (p % 48) with level := false, lastEdge := some t, pulseEnds := [] } := by
  set x : Pin := { d.pin (pinBank h p) (p % 48) with pulseEnds := [] }
  have hx : (d.setPin (pinBank h p) (p % 48) x).pin (pinBank h p) (p % 48) = x := Device.pin_setPin hw
  have hedge : pulseEnd h p d = (d.setPin (pinBank h p) (p % 48) x).setPin (pinBank h p) (p % 48)
      { x with level := false, lastEdge := some t } := by
    have hrest : dropFirst (fun y => y == (t, e)) [(t, e)] = [] := by simp [dropFirst]
    simp only [pulseEnd, hends, firstEnd, if_neg (Nat.not_lt.mpr ht), hrest]
    rw [pinEdge_of_far (by rw [hx, show x.level = true from hl]; decide) (by rw [hx]; exact hfar), hx]
  rw [hedge]
  exact ⟨rfl, Device.pin_setPin (Device.setPin_wf hw)⟩

end

/-! ### Where the commands complete -/

section
variable {s : State} {h : Half} {o : Occ} {d : Device}

theorem gives_calTick (h) (f t : Fin 16) : gives (.calTick h f t) s (calAct h 1 (16 * f.val + t.val) 0 anyArg
    (fun d => d.domOn (16 * hn h + f.val)) (fun _ d => tickSend (16 * hn h + f.val) t.val d) s.dev) := rfl
theorem gives_calCloverStart (h) (e : Fin 768) (a : BitVec 24) : gives (.calCloverStart h e a) s (calClover h e.val 0 (· == a.toNat)
    (fun o d => askStart (768 * hn h + e.val) (calStartPc (d.engine (768 * hn h + e.val)) (eArg o.entry)) d) s.dev) := rfl
theorem gives_calCloverStop (h) (e : Fin 768) :
    gives (.calCloverStop h e) s (calClover h e.val 1 anyArg (fun _ d => askStop (768 * hn h + e.val) d) s.dev) := rfl
theorem gives_calCloverResume (h) (e : Fin 768) :
    gives (.calCloverResume h e) s (calClover h e.val 2 anyArg (fun _ d => askResume (768 * hn h + e.val) d) s.dev) := rfl
theorem gives_calShuttleKick (h) (n : Fin 8) (q : BitVec 20) : gives (.calShuttleKick h n q) s (s.dev.updated (calAct h 3 n.val 0
    (fun a => bitsAt a 0 20 == q.toNat) (fun d => d.domOn (52 + hn h))
    (fun o d => calKick (8 * hn h + n.val) (bitsAt (eArg o.entry) 0 20) d) s.dev)) := liftReport_gives s _
theorem gives_calPinDriveLow (h) (p : Fin 192) :
    gives (.calPinDriveLow h p) s (calPin h p.val 0 anyArg (fun _ => false) false s.dev) := rfl
theorem gives_calPinDriveHigh (h) (p : Fin 192) :
    gives (.calPinDriveHigh h p) s (calPin h p.val 1 anyArg (fun _ => true) false s.dev) := rfl
theorem gives_calPinToggle (h) (p : Fin 192) :
    gives (.calPinToggle h p) s (calPin h p.val 2 anyArg (fun x => !x.level) false s.dev) := rfl
theorem gives_calPinPulse (h) (p : Fin 192) (a : BitVec 24) :
    gives (.calPinPulse h p a) s (calPin h p.val 3 (· == a.toNat) (fun _ => true) true s.dev) := rfl
theorem gives_pinPulseEnd (h) (p : Fin 192) : gives (.pinPulseEnd h p) s (pulseEnd h p.val s.dev) := rfl
theorem gives_calLaneExitIdle (h) (l : Fin 72) : gives (.calLaneExitIdle h l) s (calLane h l.val 0 false s.dev) := rfl
theorem gives_calLaneEnterIdle (h) (l : Fin 72) : gives (.calLaneEnterIdle h l) s (calLane h l.val 1 true s.dev) := rfl
theorem gives_calSysref (h) (j : Fin 4) (ofs) : gives (.calSysref h j ofs) s (calAct h 6 j.val 0 anyArg
    (fun d => d.domOn (60 + hn h)) (fun _ d => sysref (4 * hn h + j.val) ofs d) s.dev) := rfl
theorem gives_calBobbinMarker (h) (a : BitVec 24) : gives (.calBobbinMarker h a) s (calAct h 7 0 0 (· == a.toNat) (fun _ => true)
    (fun o d => d.bobRecord h (recOf 4 (leBytes (eArg o.entry) 3 ++ [0, 0, 0] ++ recTime o.time))) s.dev) := rfl
theorem gives_calBobbinTrigger (h) :
    gives (.calBobbinTrigger h) s (calAct h 7 0 1 anyArg (fun _ => true) (fun _ d => d.bobTrigger 1) s.dev) := rfl
theorem gives_calWake (h) : gives (.calWake h) s (s.dev.moved (calWake h s.dev)) := liftMode_gives s _

/-- A Clover request of the calendar reaches an engine whose domain is On and that obeys it. -/
theorem calClover_of_due {e act : Nat} {ok : Nat → Bool} {ask : Occ → Device → Device} (hd : DueFirst h o s.dev d)
    (hcls : eClass o.entry = 2) (hidx : eIndex o.entry = e) (hact : eAction o.entry = act) (hok : ok (eArg o.entry) = true)
    (hon : s.dev.domOn ((768 * hn h + e) / 48) = true) (hen : (s.dev.engine (768 * hn h + e)).ctrl.getLsbD 4 = true) :
    calClover h e act ok ask s.dev = ask o d := by
  rw [calClover, calAct_reaches hd hcls hidx hact hok ((hd.domOn _).trans hon), hd.engine, if_pos hen]

theorem calLane_of_due {l act : Nat} {enter : Bool} (hd : DueFirst h o s.dev d) (hcls : eClass o.entry = 5) (hidx : eIndex o.entry = l)
    (hact : eAction o.entry = act) (hon : s.dev.domOn (laneDomain (72 * hn h + l)) = true) :
    calLane h l act enter s.dev = idleCmd (72 * hn h + l) enter d :=
  calAct_reaches hd hcls hidx hact rfl ((hd.domOn _).trans hon)

theorem calTick_completes (hd : DueFirst h o s.dev d) (f t : Fin 16) (hcls : eClass o.entry = 1)
    (hidx : eIndex o.entry = 16 * f.val + t.val) (hact : eAction o.entry = 0) :
    (s.dev.domOn (16 * hn h + f.val) = true → gives (.calTick h f t) s (tickSend (16 * hn h + f.val) t.val d)) ∧
    (s.dev.domOn (16 * hn h + f.val) = false → gives (.calTick h f t) s (occDrop h 27 o d)) := by
  refine ⟨fun hon => gives_of_eq (gives_calTick h f t) ?_, fun hoff => gives_of_eq (gives_calTick h f t) ?_⟩
  · rw [calAct_of_due hd hcls hidx hact rfl, hd.domOn, if_pos hon]
  · rw [calAct_of_due hd hcls hidx hact rfl, hd.domOn, if_neg (by simp [hoff])]

theorem calClover_completes (hd : DueFirst h o s.dev d) (e : Fin 768) (hcls : eClass o.entry = 2) (hidx : eIndex o.entry = e.val)
    (hon : s.dev.domOn ((768 * hn h + e.val) / 48) = true) (hen : (s.dev.engine (768 * hn h + e.val)).ctrl.getLsbD 4 = true) :
    (∀ a : BitVec 24, eAction o.entry = 0 → eArg o.entry = a.toNat →
      gives (.calCloverStart h e a) s
        (askStart (768 * hn h + e.val) (calStartPc (s.dev.engine (768 * hn h + e.val)) a.toNat) d)) ∧
    (eAction o.entry = 1 → gives (.calCloverStop h e) s (askStop (768 * hn h + e.val) d)) ∧
    (eAction o.entry = 2 → gives (.calCloverResume h e) s (askResume (768 * hn h + e.val) d)) := by
  refine ⟨fun a hact harg => gives_of_eq (gives_calCloverStart h e a) ?_,
    fun hact => gives_of_eq (gives_calCloverStop h e) (calClover_of_due hd hcls hidx hact rfl hon hen),
    fun hact => gives_of_eq (gives_calCloverResume h e) (calClover_of_due hd hcls hidx hact rfl hon hen)⟩
  rw [calClover_of_due hd hcls hidx hact (by simp [harg]) hon hen, hd.engine, harg]

theorem calPin_completes (hd : DueFirst h o s.dev d) (p : Fin 192) (hcls : eClass o.entry = 4) (hidx : eIndex o.entry = p.val)
    (hfol : pinFollows s.dev (pinBank h p.val) (p.val % 48) = true) (hw : tabWf pinReset s.dev.pins = true) (x : Pin)
    (hx : x = s.dev.pin (pinBank h p.val) (p.val % 48)) (T : Nat) (hT : T = actTime s.dev h o) :
    (eAction o.entry = 2 → pinRival h p.val (pinBank h p.val) (p.val % 48) o T d = true ∨
        (∃ l, x.lastEdge = some l ∧ T < l + 4 * 65536) → gives (.calPinToggle h p) s (occDrop h 26 o d)) ∧
    (pinRival h p.val (pinBank h p.val) (p.val % 48) o T d = false → (∀ l, x.lastEdge = some l → l + 4 * 65536 ≤ T) →
      (eAction o.entry = 0 → x.level = true → ∃ t, exec (.calPinDriveLow h p) s = .next t ∧ t.dev.regs = s.dev.regs ∧
        t.dev.pin (pinBank h p.val) (p.val % 48) = x.acted false T) ∧
      (eAction o.entry = 1 → x.level = false → ∃ t, exec (.calPinDriveHigh h p) s = .next t ∧ t.dev.regs = s.dev.regs ∧
        t.dev.pin (pinBank h p.val) (p.val % 48) = x.acted true T) ∧
      (eAction o.entry = 2 → ∃ t, exec (.calPinToggle h p) s = .next t ∧ t.dev.regs = s.dev.regs ∧
        t.dev.pin (pinBank h p.val) (p.val % 48) = x.acted (!x.level) T) ∧
      (∀ a : BitVec 24, eAction o.entry = 3 → eArg o.entry = a.toNat → x.level = false →
        ∃ t, exec (.calPinPulse h p a) s = .next t ∧ t.dev.regs = s.dev.regs ∧
          t.dev.pin (pinBank h p.val) (p.val % 48) =
            { x.acted true T with pulseEnds := x.pulseEnds ++ [(T + a.toNat * 16384, o.idx)] })) := by
  subst hx hT
  refine ⟨fun hact hdrop => gives_of_eq (gives_calPinToggle h p) ?_, fun hrival hfar =>
    ⟨fun hact hl => ?_, fun hact hl => ?_, fun hact => ?_, fun a hact harg hl => ?_⟩⟩
  · exact calPin_dropped hd hcls hidx hact rfl hfol hdrop (by simp)
  · obtain ⟨hregs, hpin⟩ := calPin_acts (ok := anyArg) (lv := fun _ => false) (pulse := false) hd hcls hidx hact rfl hfol
      hrival hfar (by simp [hl]) hw
    exact ⟨_, gives_calPinDriveLow h p, hregs, hpin _ rfl⟩
  · obtain ⟨hregs, hpin⟩ := calPin_acts (ok := anyArg) (lv := fun _ => true) (pulse := false) hd hcls hidx hact rfl hfol
      hrival hfar (by simp [hl]) hw
    exact ⟨_, gives_calPinDriveHigh h p, hregs, hpin _ rfl⟩
  · obtain ⟨hregs, hpin⟩ := calPin_acts (ok := anyArg) (lv := fun x => !x.level) (pulse := false) hd hcls hidx hact rfl hfol
      hrival hfar (by simp) hw
    exact ⟨_, gives_calPinToggle h p, hregs, hpin _ rfl⟩
  · obtain ⟨hregs, hpin⟩ := calPin_acts (ok := (· == a.toNat)) (lv := fun _ => true) (pulse := true) hd hcls hidx hact
      (by simp [harg]) hfol hrival hfar (by simp [hl]) hw
    exact ⟨_, gives_calPinPulse h p a, hregs, harg ▸ hpin _ rfl⟩

end

/-- Settles O34: each command takes the due occurrence, which then acts where it reaches its target. Of two pin actions at one time the
second is dropped with pin_merge (log entries 62 and 106). -/
theorem calendarActions : Obligations.CalendarActions := by
  intro s h o rest hwait hdue hup hunit d hdef
  have hd : DueFirst h o s.dev d := ⟨hup, hdue, hunit, rest, hwait, hdef⟩
  refine ⟨calTick_completes hd, calClover_completes hd, fun n q hcls hidx hact harg hon => ?_, calPin_completes hd,
    fun l hcls hidx hon => ⟨fun hact => ?_, fun hact => ?_⟩, fun j ofs hcls hidx hact hon => ?_,
    fun hcls hidx => ⟨fun a hact harg => ?_, fun hact => ?_⟩, fun hcls hidx hact => ?_, fun p t e hends ht hl hw hfar => ?_⟩
  · exact gives_of_eq (gives_calShuttleKick h n q) (by
      rw [calAct_reaches hd hcls hidx hact (by simp [harg]) ((hd.domOn _).trans hon), harg])
  · exact gives_of_eq (gives_calLaneExitIdle h l) (calLane_of_due hd hcls hidx hact hon)
  · exact gives_of_eq (gives_calLaneEnterIdle h l) (calLane_of_due hd hcls hidx hact hon)
  · exact gives_of_eq (gives_calSysref h j ofs) (calAct_reaches hd hcls hidx hact rfl ((hd.domOn _).trans hon))
  · exact gives_of_eq (gives_calBobbinMarker h a) (by rw [calAct_reaches hd hcls hidx hact (by simp [harg]) rfl, harg])
  · exact gives_of_eq (gives_calBobbinTrigger h) (calAct_reaches hd hcls hidx hact rfl rfl)
  · exact gives_of_eq (gives_calWake h) (congrArg s.dev.moved (calAct_reaches hd hcls hidx hact rfl rfl))
  · obtain ⟨hregs, hpin⟩ := pulseEnd_falls hends ht hl hw hfar
    exact ⟨_, gives_pinPulseEnd h p, congrArg Pin.level hpin, congrArg Pin.pulseEnds hpin, hregs⟩

end Sys2Proof.Machine
end

section
/-!
Which halves are up and where the primary Thimble is (01_organisation R36, 09_clocks_resets R251): the operations that force a half's
domains, and what follows the end of Safe hold or of a wake, leave both. One lemma for each operation, in the order of the model's text.
-/
namespace Sys2Proof.Machine

/-- Device `e` has the halves up that `d` has, and its primary Thimble. -/
structure HalvesKept (d e : Device) : Prop where
  up : ∀ h, e.up h = d.up h
  primary : e.sys.primary = d.sys.primary

section
variable {d e : Device}

theorem HalvesKept.refl (d : Device) : HalvesKept d d := ⟨fun _ => rfl, rfl⟩

theorem HalvesKept.congr {x : Device} (h : HalvesKept d e) (hx : x.sys = e.sys) : HalvesKept d x :=
  ⟨fun k => (by cases k <;> simp only [Device.up, hx] : x.up k = e.up k).trans (h.up k), (congrArg SysState.primary hx).trans h.primary⟩

section
variable {regs fresh log fab bram clv net time clk pwr mend load seam lanes eth host jesd mem sht pins bob cmd slv rsp}

/-- An update `{ e with … }` of anything but the device's modes and halves. -/
theorem HalvesKept.frame (h : HalvesKept d e) :
    HalvesKept d ⟨regs, fresh, e.sys, log, fab, bram, clv, net, time, clk, pwr, mend, load, seam, lanes, eth, host, jesd, mem, sht, pins,
      bob, cmd, slv, rsp⟩ :=
  h.congr rfl

end

theorem HalvesKept.ite {c : Prop} [Decidable c] {x : Device} (h : HalvesKept d e) (hx : HalvesKept d x) :
    HalvesKept d (if c then e else x) := by
  split <;> assumption

theorem HalvesKept.each {α : Type} {xs : List α} {f : Device → α → Device} (h : HalvesKept d e)
    (hf : ∀ x a, HalvesKept d x → HalvesKept d (f x a)) : HalvesKept d (e.each xs f) :=
  List.foldlRecOn xs f h fun x hx a _ => hf x a hx

theorem HalvesKept.when {c : Bool} {f : Device → Device} (h : HalvesKept d e) (hf : ∀ x, HalvesKept d x → HalvesKept d (f x)) :
    HalvesKept d (e.when c f) := .ite (hf e h) h

/-! ### Registers, reports and the setters of the device's parts -/

theorem HalvesKept.setReg {a v} (h : HalvesKept d e) : HalvesKept d (e.setReg a v) := h.frame
theorem HalvesKept.setFld {a lo n v} (h : HalvesKept d e) : HalvesKept d (e.setFld a lo n v) := h.setReg
theorem HalvesKept.putBit {a k b} (h : HalvesKept d e) : HalvesKept d (e.putBit a k b) := h.setFld
theorem HalvesKept.setBit {a k} (h : HalvesKept d e) : HalvesKept d (e.setBit a k) := h.putBit
theorem HalvesKept.bump {a lo n x} (h : HalvesKept d e) : HalvesKept d (e.bump a lo n x) := h.setFld
theorem HalvesKept.setFab {x} (h : HalvesKept d e) : HalvesKept d (e.setFab x) := h.frame
theorem HalvesKept.setLane {l x} (h : HalvesKept d e) : HalvesKept d (e.setLane l x) := h.frame
theorem HalvesKept.setSegment {g x} (h : HalvesKept d e) : HalvesKept d (e.setSegment g x) := h.frame
theorem HalvesKept.setChan {n c} (h : HalvesKept d e) : HalvesKept d (e.setChan n c) := h.frame
theorem HalvesKept.setShuttle {n x} (h : HalvesKept d e) : HalvesKept d (e.setShuttle n x) := HalvesKept.setFld h.frame
theorem HalvesKept.setTrans {n t} (h : HalvesKept d e) : HalvesKept d (e.setTrans n t) := HalvesKept.putBit h.frame
theorem HalvesKept.setLark {k l} (h : HalvesKept d e) : HalvesKept d (e.setLark k l) := h.congr (Device.setLark_sys _ _ _)
theorem HalvesKept.setCal {k c} (h : HalvesKept d e) : HalvesKept d (e.setCal k c) := h.congr Device.setCal_sys
theorem HalvesKept.setBobHalf {k b} (h : HalvesKept d e) : HalvesKept d (e.setBobHalf k b) := h.congr (Device.setBobHalf_sys _ _ _)
theorem HalvesKept.setFifo {k rs} (h : HalvesKept d e) : HalvesKept d (e.setFifo k rs) := h.congr (Device.setFifo_sys _ _ _)
theorem HalvesKept.setLost {k b} (h : HalvesKept d e) : HalvesKept d (e.setLost k b) := by cases k <;> exact ⟨h.up, h.primary⟩
theorem HalvesKept.settle (h : HalvesKept d e) : HalvesKept d e.settle := h.congr (by rw [settle_eq])

theorem HalvesKept.bobRecord {k r} (h : HalvesKept d e) : HalvesKept d (e.bobRecord k r) := .ite h (.ite h.setBobHalf h.setBobHalf)
theorem HalvesKept.bobGap {k c} (h : HalvesKept d e) : HalvesKept d (e.bobGap k c) :=
  .ite h (.ite h.setBobHalf h.setBobHalf.bump.bobRecord)
theorem HalvesKept.bobData {k sub unit start data} (h : HalvesKept d e) : HalvesKept d (e.bobData k sub unit start data) :=
  h.each fun _ _ hx => hx.bobRecord
theorem HalvesKept.bobTrigger {source} (h : HalvesKept d e) : HalvesKept d (e.bobTrigger source) :=
  .ite (h.setFld.each fun _ _ hx => hx.bobRecord.setBobHalf) h.bump
theorem HalvesKept.bobFreeze {cause} (h : HalvesKept d e) : HalvesKept d (e.bobFreeze cause) := .ite h.setFld.setFld h

theorem HalvesKept.fault {k cls src detail} (h : HalvesKept d e) : HalvesKept d (e.fault k cls src detail) := by
  have hdrop : HalvesKept d (match k with
      | .w => { e.bumpSat (thmA 0x2420) 0 16 1 with log := { e.log with dropW := e.log.dropW + 1 } }
      | .e => { e.bumpSat (thmA 0x2420) 0 16 1 with log := { e.log with dropE := e.log.dropE + 1 } }) := by
    cases k <;> exact h.frame
  exact .ite (HalvesKept.ite h.setFifo hdrop).bobTrigger (.ite h.setFifo hdrop)

theorem HalvesKept.msix {v} (h : HalvesKept d e) : HalvesKept d (e.msix v) := by
  unfold Device.msix
  split
  · exact ⟨h.up, h.primary⟩
  · exact h

theorem HalvesKept.mgmt (h : HalvesKept d e) : HalvesKept d e.mgmt :=
  have hline {b : Bool} : HalvesKept d { e with sys := { e.sys with mgmtLine := b } } := ⟨h.up, h.primary⟩
  .ite hline.msix hline

theorem HalvesKept.raiseInt {k} (h : HalvesKept d e) : HalvesKept d (e.raiseInt k) := h.setBit.mgmt
theorem HalvesKept.report (h : HalvesKept d e) : HalvesKept d e.report := .ite h h.setReg.raiseInt
theorem HalvesKept.reportFailover (h : HalvesKept d e) : HalvesKept d e.reportFailover := h.setReg.raiseInt
theorem HalvesKept.oneUpdate {f : Device → Device} (x : Device) (h : HalvesKept d (f x)) : HalvesKept d (x.oneUpdate f) :=
  .ite h (.ite h.reportFailover h.report)
theorem HalvesKept.updated (x : Device) (h : HalvesKept d e) : HalvesKept d (x.updated e) := .oneUpdate x h

theorem HalvesKept.stopping {f} {act : Device → Device} (h : HalvesKept d e) (hact : ∀ x, HalvesKept d x → HalvesKept d (act x)) :
    HalvesKept d (e.stopping f act) :=
  have hheld : HalvesKept d (e.holdValues f) := h.setFab
  .ite (.ite (hact _ hheld) (hact _ hheld).setFab) (hact e h)

/-! ### The network and the stiles (06_warp_weft_network R159, R177, R183) -/

theorem HalvesKept.answerFrom {p hd st data poison} (h : HalvesKept d e) : HalvesKept d (answerFrom p hd st data poison e) :=
  h.congr rfl
theorem HalvesKept.showOutst {s} (h : HalvesKept d e) : HalvesKept d (showOutst s e) := h.setFld
theorem HalvesKept.dropOutst {s p} (h : HalvesKept d e) : HalvesKept d (dropOutst s p e) := HalvesKept.showOutst h.frame
theorem HalvesKept.stileRefuse {s st} (h : HalvesKept d e) : HalvesKept d (stileRefuse s st e) :=
  h.frame.each fun _ _ hx => hx.setBit.answerFrom
theorem HalvesKept.stileForget {s late} (h : HalvesKept d e) : HalvesKept d (stileForget s late e) :=
  (h.frame.each fun _ _ hx => hx.dropOutst).when fun _ hy => hy.setBit
theorem HalvesKept.stilesOff {f} (h : HalvesKept d e) : HalvesKept d (stilesOff f e) :=
  h.each fun _ _ hx => hx.stileRefuse.stileForget.dropOutst
theorem HalvesKept.stileApply {s} (h : HalvesKept d e) : HalvesKept d (stileApply s e) :=
  .ite (h.frame.when fun _ hx => hx.stileRefuse) h
theorem HalvesKept.recordBeats {s chan bs} (h : HalvesKept d e) : HalvesKept d (recordBeats s chan bs e) :=
  .ite (h.each fun _ _ hx => hx.bobData) h

theorem HalvesKept.netComplete {o a} (h : HalvesKept d e) : HalvesKept d (netComplete o a e) := by
  unfold Machine.netComplete
  extract_lets _ d1
  have hd1 : HalvesKept d d1 := h.frame
  split
  · exact hd1
  · exact ((hd1.when fun _ hx => hx.setBit).when fun _ hy => hy.setBit).recordBeats.showOutst.stileApply

theorem HalvesKept.netGone {k} (h : HalvesKept d e) : HalvesKept d (netGone k e) := h.frame
theorem HalvesKept.setRuns {key rs} (h : HalvesKept d e) : HalvesKept d (e.setRuns key rs) := h.frame
theorem HalvesKept.dropRuns {pid p} (h : HalvesKept d e) : HalvesKept d (dropRuns pid p e) :=
  (h.each fun _ _ hx => hx.setRuns).frame
theorem HalvesKept.dropFlight {pid} (h : HalvesKept d e) : HalvesKept d (dropFlight pid e) := h.dropRuns.frame
theorem HalvesKept.wwEvent {k bit kind} (h : HalvesKept d e) : HalvesKept d (wwEvent k bit kind e) := h.setBit.setFld.setFld

theorem HalvesKept.cutPacket {k f} (h : HalvesKept d e) : HalvesKept d (cutPacket k f e) := by
  unfold Machine.cutPacket
  refine .ite h.dropFlight (.ite h ?_)
  split
  · exact (HalvesKept.setRuns h.frame).wwEvent
  · exact h

theorem HalvesKept.netCut {k} (h : HalvesKept d e) : HalvesKept d (netCut k e) := h.netGone.each fun _ _ hx => hx.cutPacket

/-! ### What forcing a domain and turning it Off do (R264; 22_power_package R559) -/

theorem HalvesKept.laneEval {l} (h : HalvesKept d e) : HalvesKept d (laneEval l e) :=
  .ite h.putBit.putBit.setLane (.ite h.putBit.putBit.setLane h.putBit.putBit)
theorem HalvesKept.srTrigger {n why} (h : HalvesKept d e) : HalvesKept d (srTrigger n why e) := .ite h.setFld.setChan h
theorem HalvesKept.shtTimeouts {n} (h : HalvesKept d e) : HalvesKept d (shtTimeouts n e) :=
  h.each fun _ _ hx => .ite (HalvesKept.setShuttle hx.frame) hx

theorem HalvesKept.forceEffects {n} (h : HalvesKept d e) : HalvesKept d (forceEffects n e) :=
  .ite h (.ite (h.each fun _ _ hx => hx.laneEval) (.ite h.srTrigger (.ite (h.each fun _ _ hx => hx.shtTimeouts)
    (.ite (h.each fun _ _ hx => hx.netComplete) (h.each fun _ _ hx => hx.laneEval)))))

theorem HalvesKept.forceDomain {n} (h : HalvesKept d e) : HalvesKept d (forceDomain n e) :=
  have hgap {c : Prop} [Decidable c] : HalvesKept d (if c then e.bobGap (halfOfField n) 2 else e) := .ite h.bobGap h
  .ite h (HalvesKept.ite (hgap.stopping fun _ hx => hx.setBit) hgap.setBit).forceEffects

theorem HalvesKept.domLost {n} (h : HalvesKept d e) : HalvesKept d (domLost n e) :=
  .ite (HalvesKept.stilesOff h.frame) (.ite h.frame (.ite h.setChan (.ite h.frame (.ite (.ite h.netCut h.netGone)
    (.ite (.ite h.frame h) (.ite h.frame h))))))

theorem HalvesKept.mendAbandon {f} (h : HalvesKept d e) : HalvesKept d (mendAbandon f e) := by
  unfold Machine.mendAbandon
  extract_lets d1 _ d2 _ d3 d4
  have hd2 : HalvesKept d d2 := h.congr rfl
  have hd4 : HalvesKept d d4 := HalvesKept.setFld (HalvesKept.setFld (HalvesKept.setFld hd2.frame))
  split
  · exact hd4.fault
  · exact hd2.frame

theorem HalvesKept.domainOff {n} (h : HalvesKept d e) : HalvesKept d (domainOff n e) := by
  unfold Machine.domainOff
  extract_lets set d1 _ d2 d3
  have hset (x : Device) (hx : HalvesKept d x) : HalvesKept d (set x) := hx.setFld.putBit.putBit.setFld.setFld
  have hd1 : HalvesKept d d1 := .ite (h.stopping hset) (hset e h)
  have hd2 : HalvesKept d d2 := hd1.frame
  have hd3 : HalvesKept d d3 := (HalvesKept.ite hd2.mendAbandon hd2).domLost
  exact .ite (hd3.each fun _ _ hx => hx.laneEval) hd3

theorem HalvesKept.calClear {k} (h : HalvesKept d e) : HalvesKept d (calClear k e) := by
  cases k <;> exact h.frame

theorem HalvesKept.liningErase (h : HalvesKept d e) : HalvesKept d (liningErase e) := h.frame.each fun _ _ hx => hx.setReg

theorem HalvesKept.enterBlankCore (h : HalvesKept d e) : HalvesKept d (enterBlankCore e) :=
  have hblank : HalvesKept d { e with sys := { e.sys with mode := .blank } } := ⟨h.up, h.primary⟩
  HalvesKept.frame (hblank.each fun _ _ hx => hx.calClear.bump).bobFreeze.liningErase

theorem HalvesKept.allOff (h : HalvesKept d e) : HalvesKept d (allOff e) := h.each fun _ _ hx => hx.domainOff

theorem HalvesKept.toBlank (h : HalvesKept d e) : HalvesKept d (toBlank e) := by
  have hemptied (x : Device) (hx : HalvesKept d x) : HalvesKept d { x with
      sys := { x.sys with waking := false, deferW := false, deferE := false }
      load := { x.load with job := none, pattern := none, partials := [] }
      mend := { x.mend with now := [], pend := [], queue := [], test := [], arrival := [] } } := ⟨hx.up, hx.primary⟩
  exact hemptied _ (h.allOff.enterBlankCore.each fun _ _ hx => hx.setFld)

/-! ### A load that ends, the calendar and the power states -/

theorem HalvesKept.loadReject {cause f} (h : HalvesKept d e) : HalvesKept d (loadReject cause f e) := by
  have hshown : HalvesKept d (((e.setFld (thmA 0x2300) 29 3 5).setFld (thmA 0x2300) 20 4 cause).setFld (thmA 0x2300) 0 8 f) :=
    h.setFld.setFld.setFld
  have hfull : HalvesKept d (fullReject cause f e) := .ite hshown.frame.fault.toBlank (HalvesKept.frame hshown.frame.fault)
  have hpart (fields : List Nat) : HalvesKept d (partReject fields cause f e) :=
    HalvesKept.settle (hshown.fault.frame.each fun _ _ hx => hx.domainOff.setFld)
  unfold Machine.loadReject
  split
  · exact h
  · exact .ite (hpart _) hfull

theorem HalvesKept.splitArms {k new i A} (h : HalvesKept d e) : HalvesKept d (splitArms k new i A e) := h.setCal
theorem HalvesKept.addArm {k i x} (h : HalvesKept d e) : HalvesKept d (addArm k i x e) := h.setCal
theorem HalvesKept.calFlag {k bit i} (h : HalvesKept d e) : HalvesKept d (calFlag k bit i e) := h.setBit.setFld
theorem HalvesKept.setEntry {k i v} (h : HalvesKept d e) : HalvesKept d (e.setEntry k i v) := h.setCal
theorem HalvesKept.missEntry {k A i} (h : HalvesKept d e) : HalvesKept d (missEntry k A i e) :=
  .ite h.calFlag.bump.setEntry.addArm h.calFlag.bump.setEntry
theorem HalvesKept.armEntry {k new wait A i} (h : HalvesKept d e) : HalvesKept d (armEntry k new wait A i e) :=
  .ite h.splitArms (.ite (.ite h.splitArms h.splitArms.missEntry) h.splitArms.addArm)
theorem HalvesKept.entryWrite {k i v} (h : HalvesKept d e) : HalvesKept d (entryWrite k i v e) :=
  (HalvesKept.ite h.setEntry.calFlag h.setEntry).armEntry
theorem HalvesKept.setChan08 {k c x} (h : HalvesKept d e) : HalvesKept d (e.setChan08 k c x) := h.setCal

theorem HalvesKept.chanDecide {k c} (h : HalvesKept d e) : HalvesKept d (chanDecide k c e) := by
  unfold Machine.chanDecide
  extract_lets
  split
  · exact .ite h (h.setChan08.each fun _ _ hx => hx.armEntry)
  · exact h

theorem HalvesKept.chanStage {k c v hold} (h : HalvesKept d e) : HalvesKept d (chanStage k c v hold e) :=
  .ite h.setBit h.setReg.setBit.setChan08.chanDecide
theorem HalvesKept.applyEntries {p hs id} (h : HalvesKept d e) : HalvesKept d (applyEntries p hs id e) :=
  h.each fun _ _ hx => (hx.each fun _ _ hy => HalvesKept.frame hy.entryWrite).each fun _ _ hz => HalvesKept.frame hz.setReg.chanStage

theorem HalvesKept.leaveOn {n} (h : HalvesKept d e) : HalvesKept d (leaveOn n e) :=
  .ite (.ite (HalvesKept.bobGap h.frame) h.frame) (.ite (h.frame.each fun _ _ hx => hx.setLane)
    (.ite (HalvesKept.srTrigger h.frame) h.frame))

theorem HalvesKept.startTrans {n target} (h : HalvesKept d e) : HalvesKept d (startTrans n target e) := by
  unfold Machine.startTrans
  extract_lets _ _ d1 d2 _ set d3
  have hd1 : HalvesKept d d1 := .ite h.putBit h
  have hd2 : HalvesKept d d2 := .ite hd1.leaveOn hd1
  have hd3 : HalvesKept d d3 := .ite (hd2.stopping fun _ hx => hx.setTrans) hd2.setTrans
  exact .ite h (.ite h.setBit (.ite (hd3.each fun _ _ hx => hx.laneEval) hd3))

theorem HalvesKept.domRequest {n st} (h : HalvesKept d e) : HalvesKept d (domRequest n st e) := by
  unfold Machine.domRequest
  extract_lets d1
  have hd1 : HalvesKept d d1 := h.setFld
  split
  · exact hd1.setTrans
  · exact hd1.startTrans

/-! ### What follows the end of Safe hold or of a wake (01_organisation R31, R34, R36) -/

theorem HalvesKept.bobAnchor {kind build loaded} (h : HalvesKept d e) : HalvesKept d (bobAnchor kind build loaded e) :=
  .ite h (.ite (h.frame.each fun _ _ hx => .ite hx hx.setBobHalf.bobRecord) (.ite (h.frame.each fun _ _ hx => hx.setBobHalf) h))

theorem HalvesKept.wakeDone (h : HalvesKept d e) : HalvesKept d (wakeDone e) :=
  have hwoken : HalvesKept d { e with sys := { e.sys with mode := .running, waking := false } } := ⟨h.up, h.primary⟩
  .ite hwoken.bobAnchor h

theorem HalvesKept.setPaused {g b} (h : HalvesKept d e) : HalvesKept d (setPaused g b e) := .ite h h.frame
theorem HalvesKept.seamTrainStart (h : HalvesKept d e) : HalvesKept d (seamTrainStart e) :=
  h.each fun _ _ hx => hx.setPaused.setSegment.setBit
theorem HalvesKept.rejoinCheck (h : HalvesKept d e) : HalvesKept d (rejoinCheck e) := .ite (HalvesKept.seamTrainStart h.frame) h

theorem HalvesKept.setDefer {k b} (h : HalvesKept d e) : HalvesKept d (setDefer k b e) := by cases k <;> exact ⟨h.up, h.primary⟩

theorem HalvesKept.recoverByMode {k} (h : HalvesKept d e) : HalvesKept d (recoverByMode k e) := by
  unfold Machine.recoverByMode
  extract_lets back entries on due d1
  have hback (x : Device) (hx : HalvesKept d x) : HalvesKept d (back x) := hx.putBit.setDefer
  have hentries (x : Device) (hx : HalvesKept d x) : HalvesKept d (entries x) := by
    unfold entries
    split
    · exact hx.applyEntries
    · exact hx
  have hon (x : Device) (hx : HalvesKept d x) : HalvesKept d (on x) := hx.each fun _ _ hy => hy.domRequest
  have hdue (x : Device) (hx : HalvesKept d x) : HalvesKept d (due x) := hx.frame
  have hd1 : HalvesKept d d1 := hdue _ (hentries _ (hback _ h.setLost))
  split
  · exact h.setDefer
  · exact hback _ h.setLost
  · exact (hback _ h.setLost).loadReject
  · exact .ite (hon _ hd1) (hd1.each fun _ _ hx => .ite hx.domRequest hx)
  · exact hdue _ (hentries _ (hon _ (hback _ h.setLost)))

theorem HalvesKept.holdExit (h : HalvesKept d e) : HalvesKept d (holdExit e) :=
  have hexit : HalvesKept d { e with sys := { e.sys with blankOnExit := false } } := ⟨h.up, h.primary⟩
  ((HalvesKept.ite hexit.toBlank h).each fun _ _ hx => hx.recoverByMode).rejoinCheck.wakeDone

theorem HalvesKept.modeEffects {f : Device → Device} (x : Device) (h : HalvesKept d (f x)) : HalvesKept d (modeEffects f x) :=
  have hend : HalvesKept d (holdEnd f x) := .ite h.holdExit h
  hend.wakeDone.each fun _ _ hy => hy.bobGap.bobGap

theorem HalvesKept.moved (x : Device) (h : HalvesKept d e) : HalvesKept d (x.moved e) := .oneUpdate x (.modeEffects x h)

end

end Sys2Proof.Machine
end

section
/-!
General PLLs (09_clocks_resets R252 to R256): what a PLL's control and status registers and its inputs show after each operation, when a PLL
settles which way, and the commands that change its inputs, its settings and its enable.
-/
namespace Sys2Proof.Machine

section
variable {d e : Device} {p n : Nat}

/-! ### Fields under a mask -/

/-- A field of which the mask has every bit. -/
theorem fieldOf_and_mask {w m : Word} {lo n : Nat} (hm : fieldOf m lo n = 2 ^ n - 1) : fieldOf (w &&& m) lo n = fieldOf w lo n := by
  simp only [fieldOf, bitsAt] at hm ⊢
  rw [BitVec.toNat_and, Nat.shiftRight_and_distrib, Nat.and_mod_two_pow, hm, Nat.and_two_pow_sub_one_eq_mod, Nat.mod_mod]

theorem fieldOf_one {w : Word} {k : Nat} : fieldOf w k 1 = b2n (w.getLsbD k) := by
  have hlt : fieldOf w k 1 < 2 := Nat.mod_lt _ (by decide)
  have hbit : (fieldOf w k 1 == 1) = w.getLsbD k := by
    simp only [fieldOf, bitsAt_eq, BitVec.getLsbD, Nat.testBit_eq_decide_div_mod_eq, beq_eq_decide, Nat.pow_one]
  rw [← hbit]
  interval_cases fieldOf w k 1 <;> rfl

/-! ### A PLL's registers (R271) -/

theorem pllA_not_stateReg (n o : Nat) : stateReg (pllA n o) = false := by
  refine stateReg_eq_false.mpr ⟨?_, ?_⟩ <;> unfold pllA pwrA thmA <;> omega

theorem pllA_ne {o o' : Nat} (h : o ≠ o') : pllA n o ≠ pllA n o' := by
  unfold pllA pwrA
  omega

theorem pllCtrl_ne_pllStat (n : Nat) : pllA n 0 ≠ pllStat n := pllA_ne (by decide)

theorem pllStat_ne_bobA (n : Nat) : bobA 0 ≠ pllStat n := by
  unfold pllStat pllA pwrA bobA
  omega

theorem Device.setBit_wf {a k : Nat} (hw : tabWf regDefault d.regs = true) : tabWf regDefault (d.setBit a k).regs = true :=
  Device.putBit_wf hw

theorem Device.bit_setBit_ne {a j k : Nat} (hj : j < 32) (hk : k ≠ j) (hw : tabWf regDefault d.regs = true) :
    (d.setBit a j).bit a k = d.bit a k :=
  Device.bit_putBit_ne hj hk hw

theorem Device.pll_setPll {x : PllExtra} (hwp : tabWf pllReset d.clk.plls = true) : (d.setPll p x).pll p = x :=
  tabGet_tabSet_same _ _ _ _ hwp

theorem Device.setPll_wf {x : PllExtra} (hwp : tabWf pllReset d.clk.plls = true) : tabWf pllReset (d.setPll p x).clk.plls = true :=
  tabWf_tabSet _ _ _ _ hwp

theorem Device.pll_congr (h : e.clk = d.clk) : e.pll p = d.pll p := by rw [Device.pll, h, ← Device.pll]

/-- Device `e` has the control register of PLL `p` in `d`, and the bits of its status that say whether it is locked, on its fallback or
dead. -/
structure PllKept (p : Nat) (d e : Device) : Prop where
  wf : tabWf regDefault e.regs = true
  ctrl : e.reg (pllA p 0) = d.reg (pllA p 0)
  loop : ∀ k, 29 ≤ k → e.bit (pllStat p) k = d.bit (pllStat p) k

theorem PllKept.refl (hw : tabWf regDefault d.regs = true) : PllKept p d d := ⟨hw, rfl, fun _ _ => rfl⟩
theorem PllKept.setPll {x : PllExtra} (h : PllKept p d e) : PllKept p d (e.setPll p x) := ⟨h.wf, h.ctrl, h.loop⟩

theorem PllKept.putStat {k : Nat} {b : Bool} (h : PllKept p d e) (hk : k < 29) : PllKept p d (e.putBit (pllStat p) k b) where
  wf := Device.putBit_wf h.wf
  ctrl := (Device.reg_putBit_ne (pllA_ne (by decide)) h.wf).trans h.ctrl
  loop j hj := (Device.bit_putBit_ne (by omega) (by omega) h.wf).trans (h.loop j hj)

theorem PllKept.on (h : PllKept p d e) (hp : p < 16) : pllOn e p = pllOn d p := by
  rw [pllOn, if_pos hp, Device.bit_congr h.ctrl, pllOn, if_pos hp]
theorem PllKept.fbEn (h : PllKept p d e) (hp : p < 16) : pllFbEn e p = pllFbEn d p := by
  rw [pllFbEn, if_pos hp, Device.bit_congr h.ctrl, pllFbEn, if_pos hp]
theorem PllKept.revertive (h : PllKept p d e) (hp : p < 16) : pllRevertive e p = pllRevertive d p := by
  rw [pllRevertive, if_pos hp, Device.bit_congr h.ctrl, pllRevertive, if_pos hp]
theorem PllKept.forceFb (h : PllKept p d e) : pllForceFb e p = pllForceFb d p := by
  rw [pllForceFb, Device.bit_congr h.ctrl, ← pllForceFb]
theorem PllKept.onFb (h : PllKept p d e) (hp : p < 16) : pllOnFb e p = pllOnFb d p := by
  rw [pllOnFb, if_pos hp, h.loop 30 (by decide), pllOnFb, if_pos hp]
theorem pllLocked_general (hp : p < 16) : pllLocked d p = d.bit (pllStat p) 31 := if_pos hp
theorem PllKept.locked (h : PllKept p d e) (hp : p < 16) : pllLocked e p = pllLocked d p := by
  rw [pllLocked_general hp, h.loop 31 (by decide), pllLocked_general hp]

/-! ### The inputs as the status shows them -/

theorem pllShow_general (hp : p < 16) :
    pllShow p d = (d.putBit (pllStat p) 28 (d.pll p).priGood).putBit (pllStat p) 27 (d.pll p).fbGood := if_pos hp

theorem PllKept.show (h : PllKept p d e) (hp : p < 16) : PllKept p d (pllShow p e) := by
  rw [pllShow_general hp]
  exact (h.putStat (by decide)).putStat (by decide)

theorem pllShow_clk (hp : p < 16) : (pllShow p d).clk = d.clk := by
  rw [pllShow_general hp]
  rfl

theorem pllShow_primary (hp : p < 16) (hw : tabWf regDefault d.regs = true) : (pllShow p d).bit (pllStat p) 28 = (d.pll p).priGood := by
  rw [pllShow_general hp, Device.bit_putBit_ne (by decide) (by decide) (Device.putBit_wf hw), Device.bit_putBit_same (by decide) hw]

/-! ### Switching and locking (R254, R255) -/

theorem pllSwitch_general {fb : Bool} (hp : p < 16) :
    pllSwitch p fb d = (d.setPll p { d.pll p with target := some fb, back := (d.pll p).back && fb }).setBit (pllStat p) 26 := if_pos hp

theorem pllSwitch_pll {fb : Bool} (hp : p < 16) (hwp : tabWf pllReset d.clk.plls = true) :
    (pllSwitch p fb d).pll p = { d.pll p with target := some fb, back := (d.pll p).back && fb } := by
  rw [pllSwitch_general hp]
  exact Device.pll_setPll hwp

theorem PllKept.switch {fb : Bool} (h : PllKept p d e) (hp : p < 16) : PllKept p d (pllSwitch p fb e) := by
  rw [pllSwitch_general hp]
  exact h.setPll.putStat (by decide)

theorem pllSwitch_switching {fb : Bool} (hp : p < 16) (hw : tabWf regDefault d.regs = true) :
    (pllSwitch p fb d).bit (pllStat p) 26 = true := by
  rw [pllSwitch_general hp]
  exact Device.bit_setBit_same (by decide) hw

theorem pllSwitch_primary {fb : Bool} (hp : p < 16) (hw : tabWf regDefault d.regs = true) :
    (pllSwitch p fb d).bit (pllStat p) 28 = d.bit (pllStat p) 28 := by
  rw [pllSwitch_general hp]
  exact Device.bit_putBit_ne (by decide) (by decide) hw

/-- The registers that a general PLL's lock leaves. -/
theorem pllLock_reg {fb : Bool} (hp : p < 16) (a : Nat) :
    (pllLock p fb d).reg a = (((d.setBit (pllStat p) 31).putBit (pllStat p) 29 false).putBit (pllStat p) 30 fb).reg a := by
  rw [pllLock, if_pos hp]
  exact Device.reg_congr rfl

theorem pllLock_locked {fb : Bool} (hp : p < 16) (hw : tabWf regDefault d.regs = true) : (pllLock p fb d).bit (pllStat p) 31 = true := by
  have h1 := Device.setBit_wf (a := pllStat p) (k := 31) hw
  rw [Device.bit_congr (pllLock_reg hp _), Device.bit_putBit_ne (by decide) (by decide) (Device.putBit_wf h1),
    Device.bit_putBit_ne (by decide) (by decide) h1, Device.bit_setBit_same (by decide) hw]

theorem pllLock_ctrl {fb : Bool} (hp : p < 16) (hw : tabWf regDefault d.regs = true) :
    (pllLock p fb d).reg (pllA p 0) = d.reg (pllA p 0) := by
  have h1 := Device.setBit_wf (a := pllStat p) (k := 31) hw
  rw [pllLock_reg hp, Device.reg_putBit_ne (pllCtrl_ne_pllStat p) (Device.putBit_wf h1), Device.reg_putBit_ne (pllCtrl_ne_pllStat p) h1,
    Device.reg_setBit_ne (pllCtrl_ne_pllStat p) hw]

/-! ### What a PLL does by itself -/

theorem pllMay_fallback (hg : (d.pll p).fbGood = true) (he : pllFbEn d p = true) : pllMay d p true = true := by simp [pllMay, hg, he]

theorem pllSettle_of_off (h : pllOn d p = false) : pllSettle p d = d := by simp [pllSettle, h]

/-- A loop that is not locked locks where the primary is good. -/
theorem pllSettle_locks (hon : pllOn d p = true) (ht : (d.pll p).target = none) (hl : pllLocked d p = false)
    (hg : (d.pll p).priGood = true) : ∃ fb, pllSettle p d = pllLock p fb d := by
  have hmay : pllMay d p false = true := hg
  simp only [pllSettle, hon, ht, hl, hmay]
  by_cases hf : (pllForceFb d p && pllMay d p true) = true
  · exact ⟨true, by simp [hf]⟩
  · exact ⟨false, by simp [hf]⟩

/-- A held fallback is gone to. -/
theorem pllSettle_goes_to_fallback (hon : pllOn d p = true) (ht : (d.pll p).target = none) (hl : pllLocked d p = true)
    (hfb : pllOnFb d p = false) (hforce : pllForceFb d p = true) (hmay : pllMay d p true = true) :
    pllSettle p d = pllSwitch p true d := by
  simp [pllSettle, hon, ht, hl, hfb, hforce, hmay]

/-- A revertive PLL returns to its good primary. -/
theorem pllSettle_returns (hon : pllOn d p = true) (ht : (d.pll p).target = none) (hl : pllLocked d p = true)
    (hfb : pllOnFb d p = true) (hg : (d.pll p).priGood = true) (hforce : pllForceFb d p = false) (hr : pllRevertive d p = true) :
    pllSettle p d = pllSwitch p false d := by
  simp [pllSettle, hon, ht, hl, hfb, hg, hforce, hr]

/-- On its fallback, with the primary lost, a PLL stays as it is. -/
theorem pllSettle_stays (hl : pllLocked d p = true) (hfb : pllOnFb d p = true) (hg : (d.pll p).priGood = false) : pllSettle p d = d := by
  simp [pllSettle, hl, hfb, hg]

end

/-! ### Inputs lost and good again -/

section
variable {s : State} {n : Fin 16}

/-- A general PLL's number among all eighteen. -/
theorem pllIndex_val (n : Fin 16) : (Fin.ofNat 18 n.val).val = n.val := Nat.mod_eq_of_lt (by omega)

theorem gives_pllInputLoss (fb) : gives (.pllInputLoss (Fin.ofNat 18 n.val) fb) s (s.dev.updated (pllInputLoss n.val fb s.dev)) :=
  gives_of_eq (liftReport_gives s (pllInputLoss (Fin.ofNat 18 n.val).val fb)) (by rw [pllIndex_val])
theorem gives_pllSwitchComplete :
    gives (.pllSwitchComplete (Fin.ofNat 18 n.val)) s (s.dev.updated (pllSwitchComplete n.val s.dev)) :=
  gives_of_eq (liftReport_gives s (pllSwitchComplete (Fin.ofNat 18 n.val).val)) (by rw [pllIndex_val])
theorem gives_pllInputGood (fb) : gives (.pllInputGood (Fin.ofNat 18 n.val) fb) s (pllInputGood n.val fb s.dev) :=
  gives_of_eq (lift_gives s (pllInputGood (Fin.ofNat 18 n.val).val fb)) (by rw [pllIndex_val])
theorem gives_forceFallback (v) : gives (.forceFallback n v) s (forceFallback n.val v s.dev) := rfl
theorem gives_pllFracChange (fb) (v : BitVec 24) :
    gives (.pllFracChange n fb v) s (s.dev.setReg (pllA n.val (if fb then 0x10 else 8)) (v.setWidth 32)) := rfl
theorem gives_pllEnable (v pri fb) : gives (.pllEnable n v pri fb) s (pllCtrlWrite n.val v pri fb s.dev) := rfl

theorem pllFracChange_completes (hw : tabWf regDefault s.dev.regs = true) (fb : Bool) (v : BitVec 24) :
    ∃ t, exec (.pllFracChange n fb v) s = .next t ∧ t.dev.reg (pllA n.val (if fb then 0x10 else 8)) = v.setWidth 32 ∧
      ∀ a, a ≠ pllA n.val (if fb then 0x10 else 8) → t.dev.reg a = s.dev.reg a :=
  ⟨_, gives_pllFracChange fb v, Device.reg_setReg_same _ _ _ hw, fun _ ha => Device.reg_setReg_ne _ _ _ _ ha hw⟩

/-- The inputs of a PLL whose primary is lost. -/
def PllExtra.primaryLost (x : PllExtra) : PllExtra := { x with priGood := false, priLost := true }

/-- The primary of a PLL that runs on it is lost: the switch to a good fallback begins. -/
theorem pllInputLoss_switches {d : Device} {p : Nat} (hp : p < 16) (hw : tabWf regDefault d.regs = true)
    (hwp : tabWf pllReset d.clk.plls = true) (hon : pllOn d p = true) (hfb : pllOnFb d p = false) (hen : pllFbEn d p = true)
    (hg : (d.pll p).fbGood = true) (ht : (d.pll p).target = none) (hl : d.bit (pllStat p) 31 = true) :
    pllInputLoss p false d = pllSwitch p true (pllShow p (d.setPll p (d.pll p).primaryLost)) := by
  generalize he : pllShow p (d.setPll p (d.pll p).primaryLost) = e
  have hk : PllKept p d e := he ▸ (PllKept.refl hw).setPll.show hp
  have hx : e.pll p = (d.pll p).primaryLost := he ▸ (Device.pll_congr (pllShow_clk hp)).trans (Device.pll_setPll hwp)
  have hrun : pllInputLoss p false d = if !pllOn e p then e else match (d.pll p).target with
      | some t => if t = false then pllAny p e else e
      | none => if pllLocked e p && pllOnFb e p == false then pllAny p e else e := by
    subst he
    rfl
  have hany : pllAny p e = pllSwitch p true e := by
    have hnot : pllMay e p false = false := congrArg PllExtra.priGood hx
    simp [pllAny, hnot, pllMay_fallback ((congrArg PllExtra.fbGood hx).trans hg) ((hk.fbEn hp).trans hen)]
  simp [hrun, hk.on hp, hon, ht, hk.locked hp, pllLocked_general hp, hl, hk.onFb hp, hfb, hany]

theorem pllInputLoss_completes (hw : tabWf regDefault s.dev.regs = true) (hwp : tabWf pllReset s.dev.clk.plls = true)
    (hon : pllOn s.dev n.val = true) (hfb : pllOnFb s.dev n.val = false) (hen : pllFbEn s.dev n.val = true)
    (hg : (s.dev.pll n.val).fbGood = true) (ht : (s.dev.pll n.val).target = none) (hl : s.dev.bit (pllStat n.val) 31 = true) :
    ∃ t, exec (.pllInputLoss (Fin.ofNat 18 n.val) false) s = .next t ∧
      t.dev.pll n.val = { s.dev.pll n.val with priGood := false, priLost := true, target := some true } ∧
      t.dev.bit (pllStat n.val) 28 = false ∧ t.dev.bit (pllStat n.val) 26 = true ∧ t.dev.bit (pllStat n.val) 31 = true := by
  have hp : n.val < 16 := n.isLt
  have hlost := (PllKept.refl (p := n.val) hw).setPll (x := (s.dev.pll n.val).primaryLost)
  have hshown := hlost.show hp
  have hk := hshown.switch (fb := true) hp
  have hstat (k : Nat) := Device.bit_congr (k := k) (updated_reg s.dev hk.wf (pllA_not_stateReg n.val 0x18))
  refine ⟨_, gives_of_eq (gives_pllInputLoss false) (congrArg s.dev.updated (pllInputLoss_switches hp hw hwp hon hfb hen hg ht hl)), ?_,
    (hstat 28).trans ?_, (hstat 26).trans (pllSwitch_switching hp hshown.wf), (hstat 31).trans ((hk.loop 31 (by decide)).trans hl)⟩
  · rw [Device.pll_congr (updated_clk _ _), pllSwitch_pll hp (by rw [pllShow_clk hp]; exact Device.setPll_wf hwp),
      Device.pll_congr (pllShow_clk hp), Device.pll_setPll hwp, Bool.and_true]
    rfl
  · refine (pllSwitch_primary hp hshown.wf).trans ?_
    rw [pllShow_primary hp hlost.wf, Device.pll_setPll hwp]
    rfl

theorem pllInputGood_completes (hw : tabWf regDefault s.dev.regs = true) (hwp : tabWf pllReset s.dev.clk.plls = true)
    (hon : pllOn s.dev n.val = true) (hl : s.dev.bit (pllStat n.val) 31 = true) (hfb : pllOnFb s.dev n.val = true)
    (ht : (s.dev.pll n.val).target = none) (hr : pllRevertive s.dev n.val = true) (hforce : pllForceFb s.dev n.val = false) :
    ∃ t, exec (.pllInputGood (Fin.ofNat 18 n.val) false) s = .next t ∧
      t.dev.pll n.val = { s.dev.pll n.val with priGood := true, priLost := false, target := some false, back := false } ∧
      t.dev.bit (pllStat n.val) 28 = true := by
  have hp : n.val < 16 := n.isLt
  have hgood := (PllKept.refl (p := n.val) hw).setPll (x := { s.dev.pll n.val with priGood := true, priLost := false })
  have hk := hgood.show hp
  have hx := (Device.pll_congr (p := n.val) (pllShow_clk hp)).trans
    (Device.pll_setPll (x := { s.dev.pll n.val with priGood := true, priLost := false }) hwp)
  have hreturns := pllSettle_returns ((hk.on hp).trans hon) ((congrArg PllExtra.target hx).trans ht)
    ((hk.locked hp).trans ((pllLocked_general hp).trans hl)) ((hk.onFb hp).trans hfb) (congrArg PllExtra.priGood hx)
    (hk.forceFb.trans hforce) ((hk.revertive hp).trans hr)
  refine ⟨_, gives_of_eq (gives_pllInputGood false) hreturns, ?_, ?_⟩
  · rw [pllSwitch_pll hp (by rw [pllShow_clk hp]; exact Device.setPll_wf hwp), hx, Bool.and_false]
  · rw [pllSwitch_primary hp hk.wf, pllShow_primary hp hgood.wf, Device.pll_setPll hwp]

/-! ### The end of a switch (R254 step 4) -/

/-- The status of PLL `p` once its loop has closed on an input after a switch: true the fallback. -/
def pllOnInput (p : Nat) (fb : Bool) (d : Device) : Device :=
  ((((d.putBit (pllStat p) 30 fb).setBit (pllStat p) 0).putBit (pllStat p) 26 false).setBit (pllStat p) 31).putBit (pllStat p) 29 false

section
variable {d e : Device} {p : Nat} {fb : Bool}

theorem pllOnInput_wf (hw : tabWf regDefault d.regs = true) : tabWf regDefault (pllOnInput p fb d).regs = true :=
  Device.putBit_wf (Device.putBit_wf (Device.putBit_wf (Device.putBit_wf (Device.putBit_wf hw))))

theorem pllOnInput_reg {a : Nat} (ha : a ≠ pllStat p) (hw : tabWf regDefault d.regs = true) : (pllOnInput p fb d).reg a = d.reg a := by
  have h1 := Device.putBit_wf (a := pllStat p) (k := 30) (c := fb) hw
  have h2 := Device.setBit_wf (a := pllStat p) (k := 0) h1
  have h3 := Device.putBit_wf (a := pllStat p) (k := 26) (c := false) h2
  have h4 := Device.setBit_wf (a := pllStat p) (k := 31) h3
  rw [pllOnInput, Device.reg_putBit_ne ha h4, Device.reg_setBit_ne ha h3, Device.reg_putBit_ne ha h2, Device.reg_setBit_ne ha h1,
    Device.reg_putBit_ne ha hw]

theorem pllOnInput_status (hw : tabWf regDefault d.regs = true) :
    (pllOnInput p fb d).bit (pllStat p) 30 = fb ∧ (pllOnInput p fb d).bit (pllStat p) 31 = true ∧
      (pllOnInput p fb d).bit (pllStat p) 26 = false := by
  have h1 := Device.putBit_wf (a := pllStat p) (k := 30) (c := fb) hw
  have h2 := Device.setBit_wf (a := pllStat p) (k := 0) h1
  have h3 := Device.putBit_wf (a := pllStat p) (k := 26) (c := false) h2
  have h4 := Device.setBit_wf (a := pllStat p) (k := 31) h3
  refine ⟨?_, ?_, ?_⟩ <;> rw [pllOnInput, Device.bit_putBit_ne (by decide) (by decide) h4]
  · rw [Device.bit_setBit_ne (by decide) (by decide) h3, Device.bit_putBit_ne (by decide) (by decide) h2,
      Device.bit_setBit_ne (by decide) (by decide) h1, Device.bit_putBit_same (by decide) hw]
  · rw [Device.bit_setBit_same (by decide) h3]
  · rw [Device.bit_setBit_ne (by decide) (by decide) h3, Device.bit_putBit_same (by decide) h2]

/-- The report of a switch enters the FIFO, where the recorder watches no class. -/
theorem pllOnInput_reported {detail : Nat} (hw : tabWf regDefault d.regs = true) (hb : d.fld (bobA 0) 0 16 = 0)
    (hf : (d.fifo (pllHalf p)).length < 1024) :
    (pllOnInput p fb d).fault (pllHalf p) 0x40 p detail =
      (pllOnInput p fb d).setFifo (pllHalf p) (d.fifo (pllHalf p) ++ [⟨0x40, p, detail, d.now (pllHalf p)⟩]) := by
  have hbytes : d.fld (bobA 0) 0 8 = 0 ∧ d.fld (bobA 0) 8 8 = 0 := by
    simp only [Device.fld, fieldOf, bitsAt_eq] at hb ⊢
    omega
  have hbob (lo n : Nat) : (pllOnInput p fb d).fld (bobA 0) lo n = d.fld (bobA 0) lo n :=
    Device.fld_congr (pllOnInput_reg (pllStat_ne_bobA p) hw)
  have hfifo : (pllOnInput p fb d).fifo (pllHalf p) = d.fifo (pllHalf p) := Device.fifo_congr rfl
  have hnow : (pllOnInput p fb d).now (pllHalf p) = d.now (pllHalf p) := Device.now_congr rfl
  rw [fault_of_unwatched (by rwa [hfifo]), hfifo, hnow]
  · rw [hbob, hbytes.1]; decide
  · rw [hbob, hbytes.2]; decide

/-- On its fallback, with the loop just closed and the primary lost, a PLL settles as it is. -/
theorem pllOnInput_settles (hp : p < 16) (hw : tabWf regDefault d.regs = true) (hregs : e.regs = (pllOnInput p true d).regs)
    (hpri : (e.pll p).priGood = false) : pllSettle p e = e := by
  obtain ⟨h30, h31, -⟩ := pllOnInput_status (p := p) (fb := true) hw
  refine pllSettle_stays ?_ ?_ hpri
  · rw [pllLocked_general hp, Device.bit_congr (Device.reg_congr hregs), h31]
  · rw [pllOnFb, if_pos hp, Device.bit_congr (Device.reg_congr hregs), h30]

/-- A switch ends on a good fallback: the status follows, and a report goes to the FIFO of the PLL's half. -/
theorem pllSwitchComplete_on_fallback (hp : p < 16) (hw : tabWf regDefault d.regs = true) (hwp : tabWf pllReset d.clk.plls = true)
    (ht : (d.pll p).target = some true) (hg : (d.pll p).fbGood = true) (hen : pllFbEn d p = true) (hpri : (d.pll p).priGood = false)
    (hb : d.fld (bobA 0) 0 16 = 0) (hf : (d.fifo (pllHalf p)).length < 1024) :
    pllSwitchComplete p d = (pllOnInput p true (d.setPll p { d.pll p with target := none })).setFifo (pllHalf p)
      (d.fifo (pllHalf p) ++ [⟨0x40, p, 0, d.now (pllHalf p)⟩]) := by
  generalize hd1 : d.setPll p { d.pll p with target := none } = d1
  have hw1 : tabWf regDefault d1.regs = true := hd1 ▸ hw
  have hreported : (pllOnInput p true d1).fault (pllHalf p) 0x40 p 0 =
      (pllOnInput p true d1).setFifo (pllHalf p) (d.fifo (pllHalf p) ++ [⟨0x40, p, 0, d.now (pllHalf p)⟩]) := by
    subst hd1
    exact pllOnInput_reported hw hb hf
  have hrun : pllSwitchComplete p d =
      (if pllMay ((pllOnInput p true d1).fault (pllHalf p) 0x40 p 0) p true
      then pllSettle p ((pllOnInput p true d1).fault (pllHalf p) 0x40 p 0)
      else pllAny p ((pllOnInput p true d1).fault (pllHalf p) 0x40 p 0)) := by
    subst hd1
    simp only [pllSwitchComplete, ht, hp]
    rfl
  rw [hreported] at hrun
  generalize hd2 : (pllOnInput p true d1).setFifo (pllHalf p) (d.fifo (pllHalf p) ++ [⟨0x40, p, 0, d.now (pllHalf p)⟩]) = d2 at hrun ⊢
  have hregs : d2.regs = (pllOnInput p true d1).regs := hd2 ▸ Device.setFifo_regs _ _ _
  have hx : d2.pll p = { d.pll p with target := none } := by
    subst hd2 hd1
    rw [Device.pll_congr (Device.setFifo_clk _ _ _)]
    exact Device.pll_setPll hwp
  have hctrl : d2.reg (pllA p 0) = d.reg (pllA p 0) :=
    ((Device.reg_congr hregs).trans (pllOnInput_reg (pllCtrl_ne_pllStat p) hw1)).trans (hd1 ▸ rfl)
  have hmay : pllMay d2 p true = true := by
    refine pllMay_fallback ((congrArg PllExtra.fbGood hx).trans hg) ?_
    rw [pllFbEn, if_pos hp] at hen ⊢
    rwa [Device.bit_congr hctrl]
  rw [hrun, hmay, if_pos rfl, pllOnInput_settles hp hw1 hregs ((congrArg PllExtra.priGood hx).trans hpri)]

end

theorem pllSwitchComplete_completes (hw : tabWf regDefault s.dev.regs = true) (hwp : tabWf pllReset s.dev.clk.plls = true)
    (ht : (s.dev.pll n.val).target = some true) (hg : (s.dev.pll n.val).fbGood = true) (hen : pllFbEn s.dev n.val = true)
    (hpri : (s.dev.pll n.val).priGood = false) (hb : s.dev.fld (bobA 0) 0 16 = 0) (hf : (s.dev.fifo (pllHalf n.val)).length < 1024) :
    ∃ t, exec (.pllSwitchComplete (Fin.ofNat 18 n.val)) s = .next t ∧ t.dev.pll n.val = { s.dev.pll n.val with target := none } ∧
      t.dev.bit (pllStat n.val) 30 = true ∧ t.dev.bit (pllStat n.val) 31 = true ∧ t.dev.bit (pllStat n.val) 26 = false ∧
      t.dev.fifo (pllHalf n.val) = s.dev.fifo (pllHalf n.val) ++ [⟨0x40, n.val, 0, s.dev.now (pllHalf n.val)⟩] := by
  have hregs := Device.setFifo_regs (pllOnInput n.val true (s.dev.setPll n.val { s.dev.pll n.val with target := none })) (pllHalf n.val)
    (s.dev.fifo (pllHalf n.val) ++ [⟨0x40, n.val, 0, s.dev.now (pllHalf n.val)⟩])
  have hwf : tabWf regDefault (s.dev.setPll n.val { s.dev.pll n.val with target := none }).regs = true := hw
  have hstat (k : Nat) := Device.bit_congr (k := k) ((updated_reg s.dev (hregs ▸ pllOnInput_wf hwf) (pllA_not_stateReg n.val 0x18)).trans
    (Device.reg_congr hregs))
  obtain ⟨h30, h31, h26⟩ := pllOnInput_status (p := n.val) (fb := true) hwf
  refine ⟨_, gives_of_eq gives_pllSwitchComplete (congrArg s.dev.updated
    (pllSwitchComplete_on_fallback n.isLt hw hwp ht hg hen hpri hb hf)), ?_, (hstat 30).trans h30, (hstat 31).trans h31,
    (hstat 26).trans h26, ?_⟩
  · rw [Device.pll_congr (updated_clk _ _), Device.pll_congr (Device.setFifo_clk _ _ _)]
    exact Device.pll_setPll hwp
  · rw [Device.fifo_congr (updated_log _ _), Device.fifo_setFifo]

/-! ### force_fb and the enable (R252, R255, R256) -/

theorem forceFallback_completes (hw : tabWf regDefault s.dev.regs = true) (hwp : tabWf pllReset s.dev.clk.plls = true)
    (hon : pllOn s.dev n.val = true) (ht : (s.dev.pll n.val).target = none) (hfb : pllOnFb s.dev n.val = false)
    (hen : pllFbEn s.dev n.val = true) (hg : (s.dev.pll n.val).fbGood = true) (hl : s.dev.bit (pllStat n.val) 31 = true) :
    ∃ t, exec (.forceFallback n true) s = .next t ∧ t.dev.pll n.val = { s.dev.pll n.val with target := some true, back := false } ∧
      t.dev.bit (pllA n.val 0) 28 = true := by
  have hp : n.val < 16 := n.isLt
  generalize hd1 : (s.dev.putBit (pllA n.val 0) 28 true).setPll n.val { s.dev.pll n.val with back := false } = d1
  have hrun : forceFallback n.val true s.dev = pllSettle n.val d1 := hd1 ▸ rfl
  have hx : d1.pll n.val = { s.dev.pll n.val with back := false } := hd1 ▸ Device.pll_setPll hwp
  have hw1 : tabWf regDefault d1.regs = true := hd1 ▸ Device.putBit_wf hw
  have hwp1 : tabWf pllReset d1.clk.plls = true := hd1 ▸ Device.setPll_wf hwp
  have h28 : d1.bit (pllA n.val 0) 28 = true := hd1 ▸ Device.bit_putBit_same (by decide) hw
  have hctrl (k : Nat) (hk : k ≠ 28) : d1.bit (pllA n.val 0) k = s.dev.bit (pllA n.val 0) k :=
    hd1 ▸ Device.bit_putBit_ne (by decide) hk hw
  have hstat (k : Nat) : d1.bit (pllStat n.val) k = s.dev.bit (pllStat n.val) k :=
    hd1 ▸ Device.bit_setReg_ne (pllA_ne (by decide)) hw
  simp only [pllOn, pllOnFb, pllFbEn, if_pos hp] at hon hfb hen
  have hgoes : pllSettle n.val d1 = pllSwitch n.val true d1 := by
    refine pllSettle_goes_to_fallback ?_ ((congrArg PllExtra.target hx).trans ht) ?_ ?_ (by simp [pllForceFb, hp, h28])
      (pllMay_fallback ((congrArg PllExtra.fbGood hx).trans hg) ?_)
    · rw [pllOn, if_pos hp, hctrl 31 (by decide), hon]
    · rw [pllLocked_general hp, hstat, hl]
    · rw [pllOnFb, if_pos hp, hstat, hfb]
    · rw [pllFbEn, if_pos hp, hctrl 29 (by decide), hen]
  refine ⟨_, gives_of_eq (gives_forceFallback true) (hrun.trans hgoes), ?_, ?_⟩
  · rw [pllSwitch_pll hp hwp1, hx, Bool.false_and]
  · rw [Device.bit_congr ((PllKept.refl hw1).switch hp).ctrl, h28]

section
variable {d : Device} {p : Nat}

/-- Before a PLL settles, a write of force_fb leaves its inputs, the input it is going to, its status and the rest of its control. -/
theorem forceFallback_settles {v : Bool} (hw : tabWf regDefault d.regs = true) (hwp : tabWf pllReset d.clk.plls = true) :
    ∃ e, forceFallback p v d = pllSettle p e ∧ tabWf regDefault e.regs = true ∧ (e.pll p).target = (d.pll p).target ∧
      (e.pll p).priGood = (d.pll p).priGood ∧ (∀ k, k ≠ 28 → e.bit (pllA p 0) k = d.bit (pllA p 0) k) ∧
      ∀ k, e.bit (pllStat p) k = d.bit (pllStat p) k := by
  have hctrl (k : Nat) (hk : k ≠ 28) : (d.putBit (pllA p 0) 28 v).bit (pllA p 0) k = d.bit (pllA p 0) k :=
    Device.bit_putBit_ne (by decide) hk hw
  have hstat (k : Nat) : (d.putBit (pllA p 0) 28 v).bit (pllStat p) k = d.bit (pllStat p) k :=
    Device.bit_setReg_ne (pllA_ne (by decide)) hw
  have hx (b : Bool) := Device.pll_setPll (d := d.putBit (pllA p 0) 28 v) (p := p) (x := { d.pll p with back := b }) hwp
  have hset (b : Bool) : (((d.putBit (pllA p 0) 28 v).setPll p { d.pll p with back := b }).pll p).target = (d.pll p).target ∧
      (((d.putBit (pllA p 0) 28 v).setPll p { d.pll p with back := b }).pll p).priGood = (d.pll p).priGood := by
    rw [hx]
    exact ⟨rfl, rfl⟩
  unfold forceFallback
  simp only
  split_ifs
  · exact ⟨_, rfl, Device.putBit_wf hw, (hset false).1, (hset false).2, hctrl, hstat⟩
  · exact ⟨_, rfl, Device.putBit_wf hw, (hset true).1, (hset true).2, hctrl, hstat⟩
  · exact ⟨_, rfl, Device.putBit_wf hw, rfl, rfl, hctrl, hstat⟩

theorem pllCtrlNorm_en (v : Word) : fieldOf (pllCtrlNorm v) 31 1 = fieldOf v 31 1 := by
  have hmask : fieldOf (v &&& 0xFF8000FF) 31 1 = fieldOf v 31 1 := fieldOf_and_mask (by decide)
  unfold pllCtrlNorm
  simp only
  split_ifs <;> simp only [fieldOf_withField_ne _ _ _ _ _ _ (show 23 + 4 ≤ 32 by decide) (show 23 + 4 ≤ 31 ∨ 31 + 1 ≤ 23 by decide),
    fieldOf_withField_ne _ _ _ _ _ _ (show 0 + 8 ≤ 32 by decide) (show 0 + 8 ≤ 31 ∨ 31 + 1 ≤ 0 by decide), hmask]

/-- The limits look at the PLL's settings, not at its control register. -/
theorem pllLimits_setCtrl {v : Word} {hz div frac : Nat} (hw : tabWf regDefault d.regs = true) (hdiv : div ≠ 0) (hfrac : frac ≠ 0) :
    pllLimits (d.setReg (pllA p 0) v) p hz div frac = pllLimits d p hz div frac := by
  have hfld (o lo n : Nat) (ho : o ≠ 0) : (d.setReg (pllA p 0) v).fld (pllA p o) lo n = d.fld (pllA p o) lo n :=
    Device.fld_setReg_ne _ _ _ _ _ _ (pllA_ne ho) hw
  simp only [pllLimits, hfld _ _ _ hdiv, hfld _ _ _ hfrac, hfld 0x14 _ _ (by decide)]

/-- The control register as a write stores it while no gate uses the PLL, before force_fb follows. -/
def pllCtrlStored (p : Nat) (w : Word) (d : Device) : Word := withField (pllCtrlNorm w) 28 1 (fieldOf (d.reg (pllA p 0)) 28 1)

theorem pllCtrlStored_en {w : Word} (hv : w.getLsbD 31 = true) : fieldOf (pllCtrlStored p w d) 31 1 = 1 := by
  rw [pllCtrlStored, fieldOf_withField_ne _ _ _ _ _ _ (by decide) (by decide), pllCtrlNorm_en, fieldOf_one, hv]
  rfl

/-- A write that sets en, while no gate uses the PLL. -/
theorem pllCtrlWrite_enabling {w : Word} {pri fb : Nat} (hw : tabWf regDefault d.regs = true) (hoff : d.bit (pllA p 0) 31 = false)
    (hv : w.getLsbD 31 = true) (hu : pllInUse d p = false) :
    pllCtrlWrite p w pri fb d = forceFallback p (fieldOf w 28 1 == 1)
      (if pllLimits d p pri 4 8 && pllLimits d p fb 0xC 0x10 then
        (d.setReg (pllA p 0) (pllCtrlStored p w d)).setPll p { d.pll p with target := none, priLost := false, back := false }
      else ((d.setReg (pllA p 0) (pllCtrlStored p w d)).putBit (pllA p 0) 31 false).setBit (pllStat p) 2) := by
  have hold : fieldOf (d.reg (pllA p 0)) 31 1 = 0 := by
    rw [fieldOf_one, ← Device.bit_eq_getLsbD, hoff]
    rfl
  have hen : fieldOf (withField (pllCtrlNorm w) 28 1 (fieldOf (d.reg (pllA p 0)) 28 1)) 31 1 = 1 := pllCtrlStored_en hv
  simp only [pllCtrlWrite, pllCtrlStored, hu, Bool.false_and, Bool.false_eq_true, if_false, hen, hold, and_self, if_true,
    pllLimits_setCtrl hw (show 4 ≠ 0 by decide) (show 8 ≠ 0 by decide),
    pllLimits_setCtrl hw (show 0xC ≠ 0 by decide) (show 0x10 ≠ 0 by decide)]
  rfl

end

/-- With the limits met the PLL is enabled and its loop closes. -/
theorem pllEnable_completes {v : BitVec 32} {pri fb : Nat} (hw : tabWf regDefault s.dev.regs = true)
    (hwp : tabWf pllReset s.dev.clk.plls = true) (hoff : s.dev.bit (pllA n.val 0) 31 = false) (hv : v.getLsbD 31 = true)
    (hu : pllInUse s.dev n.val = false) (hlim : (pllLimits s.dev n.val pri 4 8 && pllLimits s.dev n.val fb 0xC 0x10) = true)
    (hg : (s.dev.pll n.val).priGood = true) (hl : s.dev.bit (pllStat n.val) 31 = false) :
    ∃ t, exec (.pllEnable n v pri fb) s = .next t ∧ t.dev.bit (pllA n.val 0) 31 = true ∧ t.dev.bit (pllStat n.val) 31 = true := by
  have hp : n.val < 16 := n.isLt
  generalize hd1 : (s.dev.setReg (pllA n.val 0) (pllCtrlStored n.val v s.dev)).setPll n.val
    { s.dev.pll n.val with target := none, priLost := false, back := false } = d1
  have hx : d1.pll n.val = { s.dev.pll n.val with target := none, priLost := false, back := false } := hd1 ▸ Device.pll_setPll hwp
  have hon : d1.bit (pllA n.val 0) 31 = true := by
    have hreg : d1.reg (pllA n.val 0) = pllCtrlStored n.val v s.dev := hd1 ▸ Device.reg_setReg_same _ _ _ hw
    rw [Device.bit, Device.fld, hreg, pllCtrlStored_en hv]
    rfl
  have hopen : d1.bit (pllStat n.val) 31 = false := by
    rw [← hl, ← hd1]
    exact Device.bit_setReg_ne (pllA_ne (by decide)) hw
  obtain ⟨e, hrun, hwe, ht, hpri, hctrl, hstat⟩ := forceFallback_settles (p := n.val) (v := fieldOf v 28 1 == 1) (d := d1)
    (hd1 ▸ Device.setReg_wf _ _ _ hw) (hd1 ▸ Device.setPll_wf hwp)
  have hene : e.bit (pllA n.val 0) 31 = true := (hctrl 31 (by decide)).trans hon
  obtain ⟨i, hlock⟩ := pllSettle_locks (p := n.val) (d := e) (by rw [pllOn, if_pos hp, hene]) (by rw [ht, hx])
    (by rw [pllLocked_general hp, hstat, hopen]) (by rw [hpri, hx]; exact hg)
  have hwrite : pllCtrlWrite n.val v pri fb s.dev = pllLock n.val i e := by
    rw [pllCtrlWrite_enabling hw hoff hv hu, if_pos hlim, hd1, hrun, hlock]
  exact ⟨_, gives_of_eq (gives_pllEnable v pri fb) hwrite, (Device.bit_congr (pllLock_ctrl hp hwe)).trans hene, pllLock_locked hp hwe⟩

/-- Otherwise it stays disabled, with cfg_err. -/
theorem pllEnable_refused {v : BitVec 32} {pri fb : Nat} (hw : tabWf regDefault s.dev.regs = true)
    (hwp : tabWf pllReset s.dev.clk.plls = true) (hoff : s.dev.bit (pllA n.val 0) 31 = false) (hv : v.getLsbD 31 = true)
    (hu : pllInUse s.dev n.val = false) (hlim : (pllLimits s.dev n.val pri 4 8 && pllLimits s.dev n.val fb 0xC 0x10) = false) :
    ∃ t, exec (.pllEnable n v pri fb) s = .next t ∧ t.dev.bit (pllA n.val 0) 31 = false ∧ t.dev.bit (pllStat n.val) 2 = true := by
  have hw1 := Device.setReg_wf s.dev (pllA n.val 0) (pllCtrlStored n.val v s.dev) hw
  have hw2 := Device.putBit_wf (a := pllA n.val 0) (k := 31) (c := false) hw1
  obtain ⟨e, hrun, hwe, -, -, hctrl, hstat⟩ := forceFallback_settles (p := n.val) (v := fieldOf v 28 1 == 1)
    (d := ((s.dev.setReg (pllA n.val 0) (pllCtrlStored n.val v s.dev)).putBit (pllA n.val 0) 31 false).setBit (pllStat n.val) 2)
    (Device.putBit_wf hw2) hwp
  have hdis : e.bit (pllA n.val 0) 31 = false := by
    rw [hctrl 31 (by decide), Device.bit_congr (Device.reg_setBit_ne (pllCtrl_ne_pllStat n.val) hw2),
      Device.bit_putBit_same (by decide) hw1]
  refine ⟨_, gives_of_eq (gives_pllEnable v pri fb) ((pllCtrlWrite_enabling hw hoff hv hu).trans ?_), hdis,
    (hstat 2).trans (Device.bit_setBit_same (by decide) hw2)⟩
  rw [hlim, if_neg (by decide), hrun, pllSettle_of_off (by rw [pllOn, if_pos n.isLt, hdis])]

end

end Sys2Proof.Machine
end

section
/-!
A PLL that dies and the domains it clocks (09_clocks_resets R264 to R266), the release of a forced domain (R265) and the loss of a half's
clocks (R251): which registers tell whether a domain uses a PLL, and what forces one field and no other domain.
-/
namespace Sys2Proof.Machine

section
variable {d e : Device} {p k n f : Nat}

/-! ### Which domains use a PLL (R263, R264) -/

/-- The registers that say which PLLs a domain's gates take their clocks from: a field's window, gates, and the first register of a lane
quad's window. -/
def clockRoute (a : Nat) : Prop := fldA 0 0 ≤ a ∨ (gateA 0 ≤ a ∧ a < gateA 64) ∨ a % 0x10000 = 0

theorem clockRoute_fldA (f o : Nat) : clockRoute (fldA f o) := .inl (by unfold fldA; omega)
theorem clockRoute_jsdA (j o : Nat) : clockRoute (jsdA j o) := .inl (by unfold jsdA fldA; omega)
theorem clockRoute_quadA (q : Nat) : clockRoute (quadA q 0) := .inr (.inr (by unfold quadA; omega))
theorem clockRoute_gateA (hn : n < 64) : clockRoute (gateA n) := .inr (.inl (by unfold gateA pwrA; omega))

/-- A domain's use of a PLL depends on its state and those registers alone. -/
theorem usesPll_congr (hk : k < 64) (hst : e.domState k = d.domState k) (hreg : ∀ a, clockRoute a → e.reg a = d.reg a) :
    usesPll e p k = usesPll d p k := by
  have hfield (f o lo n : Nat) : e.fld (fldA f o) lo n = d.fld (fldA f o) lo n := Device.fld_congr (hreg _ (clockRoute_fldA f o))
  have hbit (f o j : Nat) : e.bit (fldA f o) j = d.bit (fldA f o) j := Device.bit_congr (hreg _ (clockRoute_fldA f o))
  have hgate (j : Nat) : e.bit (gateA k) j = d.bit (gateA k) j := Device.bit_congr (hreg _ (clockRoute_gateA hk))
  have hquad (q lo n : Nat) : e.fld (quadA q 0) lo n = d.fld (quadA q 0) lo n := Device.fld_congr (hreg _ (clockRoute_quadA q))
  have hjesd (j o lo n : Nat) : e.fld (jsdA j o) lo n = d.fld (jsdA j o) lo n := Device.fld_congr (hreg _ (clockRoute_jsdA j o))
  simp only [usesPll, hst, hfield, hbit, hgate, hquad, hjesd]

theorem usesDead_eq_false (h : ∀ p, p < 16 → pllDeadBit d p = true → usesPll d p k = false) : usesDead d k = false := by
  simp only [usesDead, upto, List.any_eq_false, List.mem_range, Bool.and_eq_true, not_and, Bool.not_eq_true]
  exact h

theorem usesDead_of_dead (hp : p < 16) (hd : pllDeadBit d p = true) (hu : usesPll d p k = true) : usesDead d k = true :=
  List.any_eq_true.mpr ⟨p, List.mem_range.mpr hp, by rw [hd, hu]; rfl⟩

/-! ### Fault reports, whatever the recorder and the FIFO do (19_mending_faults R489) -/

/-- Device `e` has the registers of `d` but those of the recorder and of dropped reports, its modes, its power states and
the fields that the recorder follows. -/
structure ReportKept (d e : Device) : Prop where
  wf : tabWf regDefault e.regs = true
  reg : ∀ a, a ≠ bobA 4 → a ≠ thmA 0x2420 → e.reg a = d.reg a
  sys : e.sys = d.sys
  pwr : e.pwr = d.pwr
  fields : e.bob.fields = d.bob.fields

theorem ReportKept.refl (hw : tabWf regDefault d.regs = true) : ReportKept d d := ⟨hw, fun _ _ _ => rfl, rfl, rfl, rfl⟩

theorem ReportKept.ite {c : Prop} [Decidable c] {x : Device} (h : ReportKept d e) (hx : ReportKept d x) :
    ReportKept d (if c then e else x) := by
  split <;> assumption

theorem ReportKept.congr {x : Device} (h : ReportKept d e) (hregs : x.regs = e.regs) (hsys : x.sys = e.sys) (hpwr : x.pwr = e.pwr)
    (hfields : x.bob.fields = e.bob.fields) : ReportKept d x :=
  ⟨hregs ▸ h.wf, fun a h4 ht => (Device.reg_congr hregs).trans (h.reg a h4 ht), hsys.trans h.sys, hpwr.trans h.pwr,
    hfields.trans h.fields⟩

theorem ReportKept.setReg {a : Nat} {v : Word} (h : ReportKept d e) (ha : a = bobA 4 ∨ a = thmA 0x2420) :
    ReportKept d (e.setReg a v) where
  wf := Device.setReg_wf _ _ _ h.wf
  reg b h4 ht := (Device.reg_setReg_ne _ _ _ _ (by rintro rfl; exact ha.elim h4 ht) h.wf).trans (h.reg b h4 ht)
  sys := h.sys
  pwr := h.pwr
  fields := h.fields

theorem ReportKept.setBobHalf {h : Half} {b : BobHalf} (hk : ReportKept d e) : ReportKept d (e.setBobHalf h b) :=
  hk.congr (Device.setBobHalf_regs _ _ _) (Device.setBobHalf_sys _ _ _) (Device.setBobHalf_pwr _ _ _) (by cases h <;> rfl)

theorem ReportKept.bobRecord {h : Half} {r : List Byte} (hk : ReportKept d e) : ReportKept d (e.bobRecord h r) :=
  .ite hk (.ite hk.setBobHalf hk.setBobHalf)

theorem ReportKept.bobTrigger {source : Nat} (hk : ReportKept d e) : ReportKept d (e.bobTrigger source) := by
  have hstate : ReportKept d (e.setFld (bobA 4) 29 3 2) := hk.setReg (.inl rfl)
  have hcount : ReportKept d (e.bump (bobA 4) 16 8 1) := hk.setReg (.inl rfl)
  unfold Device.bobTrigger
  split
  · exact List.foldlRecOn (motive := ReportKept d) _ _ hstate fun _ hx _ _ => hx.bobRecord.setBobHalf
  · exact hcount

theorem ReportKept.fault {h : Half} {cls src detail : Nat} (hk : ReportKept d e) : ReportKept d (e.fault h cls src detail) := by
  have hfifo (rs : List Report) : ReportKept d (e.setFifo h rs) :=
    hk.congr (Device.setFifo_regs _ _ _) (Device.setFifo_sys _ _ _) (Device.setFifo_pwr _ _ _) (by rw [Device.setFifo_bob])
  have hcount : ReportKept d (e.bumpSat (thmA 0x2420) 0 16 1) := hk.setReg (.inr rfl)
  unfold Device.fault
  extract_lets _ d1 _ d2
  have hd2 : ReportKept d d2 := by
    unfold d2
    cases h
    · exact .ite (hfifo _) (hcount.congr rfl rfl rfl rfl)
    · exact .ite (hfifo _) (hcount.congr rfl rfl rfl rfl)
  exact .ite hd2.bobTrigger hd2

/-! ### Forcing one field -/

/-- Setting a bit that may stop a field changes that bit and the fabric. -/
theorem stopping_setBit {a j : Nat} : ∃ x, d.stopping f (fun d => d.setBit a j) = { d.setBit a j with fab := x } := by
  unfold Device.stopping
  simp only
  split
  · split
    · exact ⟨_, rfl⟩
    · exact ⟨_, rfl⟩
  · exact ⟨_, rfl⟩

/-- A field that is not in the replay set is forced by its status bit alone. -/
theorem forceDomain_field (hf : f < 32) (hno : d.forced f = false) (hst : d.domState f ≠ 3) (hr : d.replayed f = false) :
    ∃ x, forceDomain f d = { d.setBit (domStatA f) 28 with fab := x } := by
  obtain ⟨x, hx⟩ := stopping_setBit (d := d) (f := f) (a := domStatA f) (j := 28)
  refine ⟨x, ?_⟩
  rw [← hx]
  simp [forceDomain, forceEffects, hno, hst, hr, hf]

theorem domStatA_not_clockRoute {k : Nat} (hk : k < 64) : ¬ clockRoute (domStatA k) := by
  unfold clockRoute domStatA gateA fldA pwrA
  omega

theorem domStatA_not_stateReg (k : Nat) : stateReg (domStatA k) = false := by
  refine stateReg_eq_false.mpr ⟨?_, ?_⟩ <;> unfold domStatA pwrA thmA <;> omega

theorem pllStat_not_clockRoute (hp : p < 16) : ¬ clockRoute (pllStat p) := by
  unfold clockRoute pllStat pllA gateA fldA pwrA
  omega

theorem report_not_clockRoute : ¬ clockRoute (bobA 4) ∧ ¬ clockRoute (thmA 0x2420) := by
  unfold clockRoute bobA thmA gateA fldA pwrA
  omega

theorem domStatA_ne_pllStat (hp : p < 16) (k : Nat) : domStatA k ≠ pllStat p := by
  unfold domStatA pllStat pllA pwrA
  omega

theorem domStatA_not_report (hk : k < 64) : domStatA k ≠ bobA 4 ∧ domStatA k ≠ thmA 0x2420 := by
  unfold domStatA pwrA bobA thmA
  omega

theorem pllStat_not_report (hp : p < 16) : pllStat p ≠ bobA 4 ∧ pllStat p ≠ thmA 0x2420 := by
  unfold pllStat pllA pwrA bobA thmA
  omega

/-! ### A PLL dies (R264, R266) -/

/-- The status of general PLL `p` once it is dead, before the report and what it forces. -/
def pllDeadShown (p : Nat) (d : Device) : Device :=
  (((d.setBit (pllStat p) 29).setBit (pllStat p) 1).putBit (pllStat p) 31 false).putBit (pllStat p) 26 false

theorem pllDeadShown_reg {a : Nat} (ha : a ≠ pllStat p) (hw : tabWf regDefault d.regs = true) : (pllDeadShown p d).reg a = d.reg a := by
  have h1 := Device.setBit_wf (a := pllStat p) (k := 29) hw
  have h2 := Device.setBit_wf (a := pllStat p) (k := 1) h1
  have h3 := Device.putBit_wf (a := pllStat p) (k := 31) (c := false) h2
  rw [pllDeadShown, Device.reg_putBit_ne ha h3, Device.reg_putBit_ne ha h2, Device.reg_setBit_ne ha h1, Device.reg_setBit_ne ha hw]

theorem pllDeadShown_wf (hw : tabWf regDefault d.regs = true) : tabWf regDefault (pllDeadShown p d).regs = true :=
  Device.putBit_wf (Device.putBit_wf (Device.setBit_wf (Device.setBit_wf hw)))

theorem pllDeadShown_status (hw : tabWf regDefault d.regs = true) :
    (pllDeadShown p d).bit (pllStat p) 29 = true ∧ (pllDeadShown p d).bit (pllStat p) 31 = false := by
  have h1 := Device.setBit_wf (a := pllStat p) (k := 29) hw
  have h2 := Device.setBit_wf (a := pllStat p) (k := 1) h1
  have h3 := Device.putBit_wf (a := pllStat p) (k := 31) (c := false) h2
  refine ⟨?_, ?_⟩ <;> rw [pllDeadShown, Device.bit_putBit_ne (by decide) (by decide) h3]
  · rw [Device.bit_putBit_ne (by decide) (by decide) h2, Device.bit_setBit_ne (by decide) (by decide) h1,
      Device.bit_setBit_same (by decide) hw]
  · rw [Device.bit_putBit_same (by decide) h2]

/-- The device when PLL `p` has died and its report is made, before any domain is forced. -/
def pllDeadReported (p : Nat) (d : Device) : Device :=
  (pllDeadShown p (d.setPll p { d.pll p with target := none })).fault (pllHalf p) 0x41 p 0

theorem pllDeadReported_kept (hw : tabWf regDefault d.regs = true) :
    ReportKept (pllDeadShown p (d.setPll p { d.pll p with target := none })) (pllDeadReported p d) := by
  unfold pllDeadReported
  refine ReportKept.fault ?_
  exact ReportKept.refl (pllDeadShown_wf hw)

/-- Until domains are forced, only the PLL's status, the recorder's and the count of dropped reports have changed. -/
theorem pllDeadReported_reg {a : Nat} (hw : tabWf regDefault d.regs = true) (hs : a ≠ pllStat p) (h4 : a ≠ bobA 4)
    (ht : a ≠ thmA 0x2420) : (pllDeadReported p d).reg a = d.reg a :=
  ((pllDeadReported_kept hw).reg a h4 ht).trans ((pllDeadShown_reg hs hw).trans (Device.reg_congr rfl))

theorem pllDeadReported_status (hp : p < 16) (hw : tabWf regDefault d.regs = true) :
    (pllDeadReported p d).bit (pllStat p) 29 = true ∧ (pllDeadReported p d).bit (pllStat p) 31 = false := by
  obtain ⟨h4, ht⟩ := pllStat_not_report hp
  have hreg := (pllDeadReported_kept (p := p) hw).reg (pllStat p) h4 ht
  obtain ⟨h29, h31⟩ := pllDeadShown_status (p := p) (d := d.setPll p { d.pll p with target := none }) hw
  exact ⟨(Device.bit_congr hreg).trans h29, (Device.bit_congr hreg).trans h31⟩

/-- A PLL that dies while on, outside a reset, forces the domains that use it. -/
theorem pllDead_eq (hon : pllOn d p = true) (hdead : pllDeadBit d p = false) (hseq : d.sys.resetSeq = none) :
    pllDead p d = abandonOnHold ((pllDeadReported p d).each (upto 64) (fun d k => forceFailed k d)) := by
  simp [pllDead, hon, hdead, hseq, pllDeadReported, pllDeadShown]

/-- A domain that no PLL clocks, in a half that is up, is not forced. -/
theorem forceFailed_of_unused (hu : ∀ p, p < 16 → usesPll d p k = false) (hup : ∀ h, d.up h = true) : forceFailed k d = d := by
  simp [forceFailed, clockFailed, usesDead_eq_false fun p hp _ => hu p hp, hup]

theorem forceFailed_of_dead (hp : p < 16) (hd : pllDeadBit d p = true) (hu : usesPll d p k = true) (ht : d.trans k = none)
    (hno : d.forced k = false) : forceFailed k d = forceDomain k d := by
  simp [forceFailed, clockFailed, usesDead_of_dead hp hd hu, ht, hno]

/-- Of all domains, an operation that acts on one alone acts on that one. -/
theorem Device.each_of_single {xs : List Nat} {g : Device → Nat → Device} (hnd : xs.Nodup) (hf : f ∈ xs)
    (hbefore : ∀ k ∈ xs, k ≠ f → g d k = d) (hafter : ∀ k ∈ xs, k ≠ f → g (g d f) k = g d f) : d.each xs g = g d f := by
  obtain ⟨as, bs, rfl⟩ := List.append_of_mem hf
  have hnot : f ∉ as ∧ f ∉ bs := by
    have hmid := List.nodup_middle.mp hnd
    simpa using (List.nodup_cons.mp hmid).1
  have has : d.each as g = d := Device.each_of_fixed fun k hk => hbefore k (by simp [hk]) fun h => hnot.1 (h ▸ hk)
  have hbs : (g d f).each bs g = g d f := Device.each_of_fixed fun k hk => hafter k (by simp [hk]) fun h => hnot.2 (h ▸ hk)
  rw [Device.each, List.foldl_append, List.foldl_cons]
  exact (congrArg (fun x => (g x f).each bs g) has).trans hbs

theorem abandonOnHold_of_running (h : d.sys.mode = .running) : abandonOnHold d = d := by simp [abandonOnHold, h]

/-- A dead PLL that one field uses, with both halves up, forces that field and nothing else. -/
theorem pllDead_forces_field (hp : p < 16) (hf : f < 32) (hw : tabWf regDefault d.regs = true) (hon : pllOn d p = true)
    (hdead : pllDeadBit d p = false) (hseq : d.sys.resetSeq = none)
    (huse : ∀ q k, q < 16 → k < 64 → usesPll d q k = decide (q = p ∧ k = f)) (hup : ∀ h, d.up h = true) (ht : d.trans f = none)
    (hst : d.domState f ≠ 3) (hmode : d.sys.mode = .running) (hr : d.replayed f = false) (hno : d.forced f = false) :
    ∃ x, pllDead p d = { (pllDeadReported p d).setBit (domStatA f) 28 with fab := x } := by
  have hkept := pllDeadReported_kept (p := p) hw
  have hreg (a : Nat) := pllDeadReported_reg (p := p) (a := a) hw
  generalize hd1 : pllDeadReported p d = d1 at hkept hreg
  have hsys : d1.sys = d.sys := hkept.sys
  have hstat (k : Nat) (hk : k < 64) : d1.reg (domStatA k) = d.reg (domStatA k) :=
    hreg _ (domStatA_ne_pllStat hp k) (domStatA_not_report hk).1 (domStatA_not_report hk).2
  have hroute (a : Nat) (ha : clockRoute a) : d1.reg a = d.reg a :=
    hreg a (fun h => pllStat_not_clockRoute hp (h ▸ ha)) (fun h => report_not_clockRoute.1 (h ▸ ha))
      (fun h => report_not_clockRoute.2 (h ▸ ha))
  have huse1 (q k : Nat) (hq : q < 16) (hk : k < 64) : usesPll d1 q k = decide (q = p ∧ k = f) :=
    (usesPll_congr hk (Device.fld_congr (hstat k hk)) hroute).trans (huse q k hq hk)
  have hup1 (h : Half) : d1.up h = true := ((HalvesKept.refl d).congr hsys).up h |>.trans (hup h)
  have hno1 : d1.forced f = false := (Device.bit_congr (hstat f (by omega))).trans hno
  have hst1 : d1.domState f ≠ 3 := by rwa [Device.domState, Device.fld_congr (hstat f (by omega)), ← Device.domState]
  have hr1 : d1.replayed f = false := by rwa [Device.replayed, hkept.fields]
  have ht1 : d1.trans f = none := by rwa [Device.trans, hkept.pwr]
  have hdead1 : pllDeadBit d1 p = true := hd1 ▸ (pllDeadReported_status hp hw).1
  obtain ⟨x, hx⟩ := forceDomain_field hf hno1 hst1 hr1
  have hforce : forceFailed f d1 = { d1.setBit (domStatA f) 28 with fab := x } :=
    (forceFailed_of_dead hp hdead1 (by simp [huse1 p f hp (by omega)]) ht1 hno1).trans hx
  have hother (k : Nat) (hk : k < 64) (hkf : k ≠ f) : forceFailed k d1 = d1 :=
    forceFailed_of_unused (fun q hq => by simp [huse1 q k hq hk, hkf]) hup1
  have hlater (k : Nat) (hk : k < 64) (hkf : k ≠ f) : forceFailed k (forceFailed f d1) = forceFailed f d1 := by
    rw [hforce]
    refine forceFailed_of_unused (fun q hq => ?_) fun h => hup1 h
    have hne : domStatA k ≠ domStatA f := by unfold domStatA pwrA; omega
    refine (usesPll_congr (d := d1) hk ?_ fun a ha => ?_).trans (by simp [huse1 q k hq hk, hkf])
    · exact Device.fld_congr ((Device.reg_congr rfl).trans (Device.reg_setBit_ne hne hkept.wf))
    · exact (Device.reg_congr rfl).trans (Device.reg_setBit_ne (fun h => domStatA_not_clockRoute (by omega) (h ▸ ha)) hkept.wf)
  have heach : d1.each (upto 64) (fun d k => forceFailed k d) = { d1.setBit (domStatA f) 28 with fab := x } :=
    (Device.each_of_single List.nodup_range (List.mem_range.mpr (by omega)) (fun k hk => hother k (List.mem_range.mp hk))
      fun k hk => hlater k (List.mem_range.mp hk)).trans hforce
  refine ⟨x, ?_⟩
  rw [pllDead_eq hon hdead hseq, hd1, heach]
  exact abandonOnHold_of_running ((congrArg SysState.mode hsys).trans hmode)

/-- Where a field of a half that is up is forced, the device shows Safe hold. -/
theorem modeCode_of_forced (hk : k < 64) (hf : d.forced k = true) (hup : d.up (halfOfDomain k) = true) : d.modeCode = 5 := by
  have hcause : d.clockCause = true := List.any_eq_true.mpr ⟨k, List.mem_range.mpr hk, by rw [hf, hup]; rfl⟩
  simp [Device.modeCode, Device.safeCause, hcause, b2n]

end

section
variable {s : State}

theorem gives_pllDead (n : Fin 16) : gives (.pllDead n) s (s.dev.updated (pllDead n.val s.dev)) := liftReport_gives s _
theorem gives_domainClockRelease (n : Fin 64) : gives (.domainClockRelease n) s (s.dev.moved (domainClockRelease n.val s.dev)) :=
  liftMode_gives s _
theorem gives_halfClockLoss (h) : gives (.halfClockLoss h) s (s.dev.moved (halfClockLoss h s.dev)) := liftMode_gives s _

theorem pllDead_completes {n : Fin 16} {f : Fin 32} (hw : tabWf regDefault s.dev.regs = true) (hon : pllOn s.dev n.val = true)
    (hdead : pllDeadBit s.dev n.val = false) (hseq : s.dev.sys.resetSeq = none)
    (huse : ∀ p k, p < 16 → k < 64 → usesPll s.dev p k = decide (p = n.val ∧ k = f.val)) (hupW : s.dev.up .w = true)
    (hupE : s.dev.up .e = true) (ht : s.dev.trans f.val = none) (hst : s.dev.domState f.val ≠ 3) (hmode : s.dev.sys.mode = .running)
    (hr : s.dev.replayed f.val = false) (hno : s.dev.forced f.val = false) :
    ∃ t, exec (.pllDead n) s = .next t ∧ t.dev.bit (pllStat n.val) 29 = true ∧ t.dev.bit (pllStat n.val) 31 = false ∧
      t.dev.forced f.val = true ∧ t.dev.modeCode = 5 := by
  have hp : n.val < 16 := n.isLt
  have hup (h : Half) : s.dev.up h = true := by cases h <;> assumption
  obtain ⟨x, hx⟩ := pllDead_forces_field hp f.isLt hw hon hdead hseq huse hup ht hst hmode hr hno
  have hkept := pllDeadReported_kept (p := n.val) hw
  obtain ⟨h29, h31⟩ := pllDeadReported_status hp hw
  generalize pllDeadReported n.val s.dev = d1 at hx hkept h29 h31
  have hwf : tabWf regDefault ({ d1.setBit (domStatA f.val) 28 with fab := x } : Device).regs = true := Device.setBit_wf hkept.wf
  have hreg {a : Nat} (ha : stateReg a = false) :
      (s.dev.updated { d1.setBit (domStatA f.val) 28 with fab := x }).reg a = (d1.setBit (domStatA f.val) 28).reg a :=
    (updated_reg s.dev hwf ha).trans (Device.reg_congr rfl)
  have hstat (k : Nat) : (s.dev.updated { d1.setBit (domStatA f.val) 28 with fab := x }).bit (pllStat n.val) k = d1.bit (pllStat n.val) k :=
    Device.bit_congr ((hreg (pllA_not_stateReg _ _)).trans (Device.reg_setBit_ne (domStatA_ne_pllStat hp _).symm hkept.wf))
  have hforced : (s.dev.updated { d1.setBit (domStatA f.val) 28 with fab := x }).forced f.val = true :=
    (Device.bit_congr (hreg (domStatA_not_stateReg _))).trans (Device.bit_setBit_same (by decide) hkept.wf)
  have hhalves : HalvesKept s.dev (s.dev.updated { d1.setBit (domStatA f.val) 28 with fab := x }) :=
    .updated s.dev ((HalvesKept.refl s.dev).congr hkept.sys)
  exact ⟨_, gives_of_eq (gives_pllDead n) (congrArg s.dev.updated hx), (hstat 29).trans h29, (hstat 31).trans h31, hforced,
    modeCode_of_forced (by omega) hforced ((hhalves.up _).trans (hup _))⟩

/-! ### Release (R265) and the loss of a half's clocks (R251) -/

theorem domainClockRelease_completes {n : Fin 64} (hf : s.dev.forced n.val = true)
    (hl : ∀ p, p < 16 → usesPll s.dev p n.val = true → s.dev.bit (pllStat p) 31 = true) (hd : usesDead s.dev n.val = false)
    (hup : s.dev.up (halfOfDomain n.val) = true) :
    gives (.domainClockRelease n) s (s.dev.moved (releaseDomain n.val s.dev)) := by
  have hlocked : (upto 16).all (fun p => !usesPll s.dev p n.val || s.dev.bit (pllStat p) 31) = true := by
    refine List.all_eq_true.mpr fun p hp => ?_
    cases hu : usesPll s.dev p n.val
    · rfl
    · simp [hl p (List.mem_range.mp hp) hu]
  exact gives_of_eq (gives_domainClockRelease n)
    (congrArg s.dev.moved (by simp [domainClockRelease, hf, hlocked, clockFailed, hd, hup]))

theorem Device.up_setUp_same (d : Device) (h : Half) (b : Bool) : (d.setUp h b).up h = b := by cases h <;> rfl
theorem Device.up_setUp_other (d : Device) (h : Half) (b : Bool) : (d.setUp h b).up (otherHalf h) = d.up (otherHalf h) := by
  cases h <;> rfl
theorem Device.setUp_primary (d : Device) (h : Half) (b : Bool) : (d.setUp h b).sys.primary = d.sys.primary := by cases h <;> rfl

/-- The loss of a half's clocks takes that half down alone, and where the primary is in the other half it stays there. -/
theorem halfClockLoss_halves {d : Device} {h : Half} (hup : d.up h = true) (hseq : d.sys.resetSeq = none)
    (hpri : (d.pll (16 + hn h)).priGood = false) (hfb : (d.pll (16 + hn h)).fbGood = false) (hprim : d.sys.primary ≠ h) :
    HalvesKept (d.setUp h false) (halfClockLoss h d) := by
  have hoff : HalvesKept (d.setUp h false) (larkOff h (d.setUp h false)) := (HalvesKept.refl _).setLark
  have hforced : HalvesKept (d.setUp h false) ((larkOff h (d.setUp h false)).each ((upto 64).filter (fun n => halfOfDomain n == h))
      (fun d n => forceDomain n d)) := hoff.each fun _ _ hx => hx.forceDomain
  have hstays : halfClockLoss h d = (larkOff h (d.setUp h false)).each ((upto 64).filter (fun n => halfOfDomain n == h))
      (fun d n => forceDomain n d) := by
    have hnot : ((larkOff h (d.setUp h false)).each ((upto 64).filter (fun n => halfOfDomain n == h))
        (fun d n => forceDomain n d)).sys.primary ≠ h := by rwa [hforced.primary, Device.setUp_primary]
    simp [halfClockLoss, hup, hseq, hpri, hfb, thimbleFailover, hnot]
  rwa [hstays]

theorem halfClockLoss_completes {h : Half} (hup : s.dev.up h = true) (hseq : s.dev.sys.resetSeq = none)
    (hpri : (s.dev.pll (16 + hn h)).priGood = false) (hfb : (s.dev.pll (16 + hn h)).fbGood = false) (hprim : s.dev.sys.primary ≠ h) :
    ∃ t, exec (.halfClockLoss h) s = .next t ∧ t.dev.up h = false ∧ t.dev.up (otherHalf h) = s.dev.up (otherHalf h) ∧
      t.dev.sys.primary = s.dev.sys.primary := by
  have hkept := HalvesKept.moved s.dev (halfClockLoss_halves hup hseq hpri hfb hprim)
  exact ⟨_, gives_halfClockLoss h, (hkept.up h).trans (Device.up_setUp_same ..), (hkept.up _).trans (Device.up_setUp_other ..),
    hkept.primary.trans (Device.setUp_primary ..)⟩

end

end Sys2Proof.Machine
end

section
/-!
Regional clocks (09_clocks_resets R260, R261): the divider in force and the one that waits, the switch of a source and its end;
and with them all of the commands of PLLs and clocks.
-/
namespace Sys2Proof.Machine

section
variable {d : Device} {f r v : Nat}

theorem rclkA_ne_pllStat {p : Nat} (hp : p < 16) : pllStat p ≠ rclkA f r := by
  unfold pllStat pllA pwrA rclkA fldA
  omega

theorem rclkA_not_stateReg (f r : Nat) : stateReg (rclkA f r) = false := by
  refine stateReg_eq_false.mpr ⟨?_, ?_⟩ <;> unfold rclkA fldA thmA <;> omega

/-! ### Dividers (R261) -/

theorem rclkDivNow_of_waiting {x : Nat} (h : tabGet noNat d.clk.rclkDiv (12 * f + r) = some x) : rclkDivNow d f r = x := by
  simp [rclkDivNow, h]
theorem rclkDivNow_of_none (h : tabGet noNat d.clk.rclkDiv (12 * f + r) = none) : rclkDivNow d f r = d.fld (rclkA f r) 4 4 := by
  simp [rclkDivNow, h]

theorem rclkDivide_wf (hw : tabWf regDefault d.regs = true) : tabWf regDefault (rclkDivide f r v d).regs = true := Device.setFld_wf hw

theorem rclkDivide_reg {a : Nat} (ha : a ≠ rclkA f r) (hw : tabWf regDefault d.regs = true) : (rclkDivide f r v d).reg a = d.reg a :=
  (Device.reg_congr rfl).trans (Device.reg_setFld_ne (lo := 4) (n := 4) (v := v) ha hw)

theorem rclkDivide_fld {lo n : Nat} (h : 8 ≤ lo ∨ lo + n ≤ 4) (hw : tabWf regDefault d.regs = true) :
    (rclkDivide f r v d).fld (rclkA f r) lo n = d.fld (rclkA f r) lo n :=
  (Device.fld_congr (Device.reg_congr rfl)).trans (Device.fld_setFld_ne d (rclkA f r) 4 4 v lo n (by decide) h hw)

theorem rclkDivide_divider (hv : v < 16) (hw : tabWf regDefault d.regs = true) : (rclkDivide f r v d).fld (rclkA f r) 4 4 = v :=
  (Device.fld_congr (Device.reg_congr rfl)).trans
    ((Device.fld_setFld_same d (rclkA f r) 4 4 v (by decide) hw).trans (Nat.mod_eq_of_lt hv))

/-- A new divider waits: the one in force stays. -/
theorem rclkDivide_inForce (hv : v < 16) (hw : tabWf regDefault d.regs = true) (hwd : tabWf noNat d.clk.rclkDiv = true) :
    rclkDivNow (rclkDivide f r v d) f r = rclkDivNow d f r := by
  have hwait : tabGet noNat (rclkDivide f r v d).clk.rclkDiv (12 * f + r) =
      if rclkDivNow d f r = v then none else some (rclkDivNow d f r) := tabGet_tabSet_same _ _ _ _ hwd
  by_cases h : rclkDivNow d f r = v
  · rw [rclkDivNow_of_none (hwait.trans (if_pos h)), rclkDivide_divider hv hw, h]
  · exact rclkDivNow_of_waiting (hwait.trans (if_neg h))

theorem alignPulse_regs {h : Half} {c : Nat} : (alignPulse h c d).regs = d.regs := by
  unfold alignPulse
  split <;> rfl

theorem alignPulse_rclkDiv {h : Half} {c : Nat} : (alignPulse h c d).clk.rclkDiv = d.clk.rclkDiv := by
  unfold alignPulse
  split <;> rfl

theorem rclkEdge_regs : (rclkEdge f r d).regs = d.regs := by
  unfold rclkEdge
  simp only
  split
  · exact alignPulse_regs
  · rfl

/-- At a rising edge of the output the register's divider comes into force. -/
theorem rclkEdge_inForce (hwd : tabWf noNat d.clk.rclkDiv = true) : rclkDivNow (rclkEdge f r d) f r = d.fld (rclkA f r) 4 4 := by
  have hnone : tabGet noNat (rclkEdge f r d).clk.rclkDiv (12 * f + r) = none := by
    unfold rclkEdge
    simp only
    split
    · rw [alignPulse_rclkDiv]
      exact tabGet_tabSet_same _ _ _ _ hwd
    · next h => exact Option.not_isSome_iff_eq_none.mp h
  rw [rclkDivNow_of_none hnone, Device.fld_congr (Device.reg_congr rclkEdge_regs)]

/-! ### The switch of a source (R260) -/

/-- What FLD_RCLK_r holds while the source switches: the written gate and source, and the divider that it had. -/
def rclkSwitched (w old : Word) : Word := withField (withField (w &&& 0xE0000003) 4 4 (fieldOf old 4 4)) 8 1 1

theorem rclkSwitched_fields (w old : Word) :
    fieldOf (rclkSwitched w old) 8 1 = 1 ∧ fieldOf (rclkSwitched w old) 0 2 = fieldOf w 0 2 ∧
      fieldOf (rclkSwitched w old) 4 4 = fieldOf old 4 4 := by
  refine ⟨fieldOf_withField_same _ _ _ _ (by decide), ?_, ?_⟩ <;>
    rw [rclkSwitched, fieldOf_withField_ne _ _ _ _ _ _ (by decide) (by decide)]
  · rw [fieldOf_withField_ne _ _ _ _ _ _ (by decide) (by decide), fieldOf_and_mask (by decide)]
  · rw [fieldOf_withField_same _ _ _ _ (by decide)]
    exact Nat.mod_eq_of_lt (fieldOf_lt old)

/-- The device whose regional clock r of field f switches its source, before the written divider follows. -/
def rclkSwitching (f r : Nat) (w : Word) (d : Device) : Device :=
  let e := d.setReg (rclkA f r) (rclkSwitched w (d.reg (rclkA f r)))
  { e with clk := { e.clk with rclkOld := tabSet noNat e.clk.rclkOld (12 * f + r) (some (d.fld (rclkA f r) 0 2)) } }

theorem rclkSwitching_reg {w : Word} (hw : tabWf regDefault d.regs = true) :
    (rclkSwitching f r w d).reg (rclkA f r) = rclkSwitched w (d.reg (rclkA f r)) :=
  (Device.reg_congr rfl).trans (Device.reg_setReg_same d _ _ hw)

theorem rclkSwitching_reg_ne {w : Word} {a : Nat} (ha : a ≠ rclkA f r) (hw : tabWf regDefault d.regs = true) :
    (rclkSwitching f r w d).reg a = d.reg a :=
  (Device.reg_congr rfl).trans (Device.reg_setReg_ne d _ a (rclkSwitched w (d.reg (rclkA f r))) ha hw)

/-- With no dead PLL a domain of a half that is up is not clock-failed. -/
theorem clockFailed_of_none_dead {n : Nat} (hd : ∀ p, p < 16 → pllDeadBit d p = false) (hup : d.up (halfOfDomain n) = true) :
    clockFailed d n = false := by
  have hused : usesDead d n = false := usesDead_eq_false fun p hp h => absurd h (by simp [hd p hp])
  simp [clockFailed, hused, hup]

/-- A write that changes the source, where no PLL is dead: the switch begins and the divider waits. -/
theorem rclkWrite_switches {w : Word} (hf : f < 32) (hw : tabWf regDefault d.regs = true)
    (hd : ∀ p, p < 16 → pllDeadBit d p = false) (hup : d.up (halfOfField f) = true) (hm : d.sys.mode ≠ .loading)
    (hsel : fieldOf w 0 2 ≠ d.fld (rclkA f r) 0 2) :
    rclkWrite f r w d = rclkDivide f r (fieldOf w 4 4) (rclkSwitching f r w d) := by
  have hnew : ¬ fieldOf (withField (w &&& 0xE0000003) 4 4 (fieldOf (d.reg (rclkA f r)) 4 4)) 0 2 = fieldOf (d.reg (rclkA f r)) 0 2 := by
    rwa [fieldOf_withField_ne _ _ _ _ _ _ (by decide) (by decide), fieldOf_and_mask (by decide)]
  have hrun : rclkWrite f r w d = clockCheck f (rclkDivide f r (fieldOf w 4 4) (rclkSwitching f r w d)) := by
    simp only [rclkWrite, if_neg hnew]
    rfl
  rw [hrun]
  refine clockCheck_of_not_failed (clockFailed_of_none_dead (fun p hp => ?_) ?_) hm
  · exact (Device.bit_congr ((rclkDivide_reg (rclkA_ne_pllStat hp) (Device.setReg_wf _ _ _ hw)).trans
      (rclkSwitching_reg_ne (rclkA_ne_pllStat hp) hw))).trans (hd p hp)
  · rw [halfOfDomain, if_pos hf]
    exact (((HalvesKept.refl d).congr rfl).up _).trans hup

end

/-! ### Where the commands complete -/

section
variable {s : State} {f : Fin 32} {r : Fin 12}

theorem gives_rclkSwitch (v) : gives (.rclkSwitch f r v) s (s.dev.updated (rclkWrite f.val r.val v s.dev)) := liftReport_gives s _
theorem gives_rclkSwitchDone : gives (.rclkSwitchDone f r) s (rclkSwitchDone f.val r.val s.dev) := rfl
theorem gives_rclkDivChange (v : BitVec 4) : gives (.rclkDivChange f r v) s (rclkDivChange f.val r.val v.toNat s.dev) := rfl

theorem rclkSwitch_completes {v : BitVec 32} (hw : tabWf regDefault s.dev.regs = true) (hwo : tabWf noNat s.dev.clk.rclkOld = true)
    (hwd : tabWf noNat s.dev.clk.rclkDiv = true) (hd : ∀ p, p < 16 → pllDeadBit s.dev p = false)
    (hup : s.dev.up (halfOfField f.val) = true) (hm : s.dev.sys.mode ≠ .loading)
    (hsel : fieldOf v 0 2 ≠ s.dev.fld (rclkA f.val r.val) 0 2) :
    ∃ t, exec (.rclkSwitch f r v) s = .next t ∧ t.dev.bit (rclkA f.val r.val) 8 = true ∧
      t.dev.fld (rclkA f.val r.val) 0 2 = fieldOf v 0 2 ∧ t.dev.fld (rclkA f.val r.val) 4 4 = fieldOf v 4 4 ∧
      rclkDivNow t.dev f.val r.val = rclkDivNow s.dev f.val r.val ∧
      tabGet noNat t.dev.clk.rclkOld (12 * f.val + r.val) = some (s.dev.fld (rclkA f.val r.val) 0 2) ∧
      ∀ a, a ≠ rclkA f.val r.val → stateReg a = false → t.dev.reg a = s.dev.reg a := by
  obtain ⟨h8, hsource, hdiv⟩ := rclkSwitched_fields v (s.dev.reg (rclkA f.val r.val))
  have hv : fieldOf v 4 4 < 16 := fieldOf_lt v
  have hw1 : tabWf regDefault (rclkSwitching f.val r.val v s.dev).regs = true := Device.setReg_wf _ _ _ hw
  have hreg1 := rclkSwitching_reg (f := f.val) (r := r.val) (w := v) hw
  have hold1 : tabGet noNat (rclkSwitching f.val r.val v s.dev).clk.rclkOld (12 * f.val + r.val) =
      some (s.dev.fld (rclkA f.val r.val) 0 2) := tabGet_tabSet_same _ _ _ _ hwo
  have hnow1 : rclkDivNow (rclkSwitching f.val r.val v s.dev) f.val r.val = rclkDivNow s.dev f.val r.val := by
    have hfld : (rclkSwitching f.val r.val v s.dev).fld (rclkA f.val r.val) 4 4 = s.dev.fld (rclkA f.val r.val) 4 4 := by
      rw [Device.fld, hreg1, hdiv, Device.fld]
    rw [rclkDivNow, hfld, rclkDivNow]
    rfl
  have hrun := rclkWrite_switches (r := r.val) f.isLt hw hd hup hm hsel
  have hwd1 : tabWf noNat (rclkSwitching f.val r.val v s.dev).clk.rclkDiv = true := hwd
  have hother (a : Nat) (ha : a ≠ rclkA f.val r.val) : (rclkSwitching f.val r.val v s.dev).reg a = s.dev.reg a :=
    rclkSwitching_reg_ne ha hw
  generalize rclkSwitching f.val r.val v s.dev = d1 at hw1 hreg1 hold1 hnow1 hrun hwd1 hother
  have hwf : tabWf regDefault (rclkDivide f.val r.val (fieldOf v 4 4) d1).regs = true := rclkDivide_wf hw1
  have hclk : (s.dev.updated (rclkDivide f.val r.val (fieldOf v 4 4) d1)).clk = (rclkDivide f.val r.val (fieldOf v 4 4) d1).clk :=
    updated_clk _ _
  have hshown (lo n : Nat) : (s.dev.updated (rclkDivide f.val r.val (fieldOf v 4 4) d1)).fld (rclkA f.val r.val) lo n =
      (rclkDivide f.val r.val (fieldOf v 4 4) d1).fld (rclkA f.val r.val) lo n :=
    Device.fld_congr (updated_reg s.dev hwf (rclkA_not_stateReg _ _))
  refine ⟨_, gives_of_eq (gives_rclkSwitch v) (congrArg s.dev.updated hrun), ?_, ?_,
    (hshown 4 4).trans (rclkDivide_divider hv hw1), ?_, ?_, fun a ha hstate => ?_⟩
  · have h8' := (hshown 8 1).trans (rclkDivide_fld (.inl (by decide)) hw1)
    rw [Device.bit, h8', Device.fld, hreg1, h8]
    rfl
  · refine (hshown 0 2).trans ((rclkDivide_fld (.inr (by decide)) hw1).trans ?_)
    rw [Device.fld, hreg1, hsource]
  · have hkept : rclkDivNow (s.dev.updated (rclkDivide f.val r.val (fieldOf v 4 4) d1)) f.val r.val =
        rclkDivNow (rclkDivide f.val r.val (fieldOf v 4 4) d1) f.val r.val := by
      rw [rclkDivNow, hclk, hshown, ← rclkDivNow]
    exact hkept.trans ((rclkDivide_inForce hv hw1 hwd1).trans hnow1)
  · refine Eq.trans (congrArg (fun x : ClkState => tabGet noNat x.rclkOld (12 * f.val + r.val)) hclk) ?_
    exact hold1
  · exact (updated_reg s.dev hwf hstate).trans ((rclkDivide_reg ha hw1).trans (hother a ha))

theorem rclkSwitchDone_completes (hw : tabWf regDefault s.dev.regs = true) (hwo : tabWf noNat s.dev.clk.rclkOld = true)
    (h8 : s.dev.bit (rclkA f.val r.val) 8 = true) (he : s.dev.slotEdges f.val r.val = true) :
    ∃ t, exec (.rclkSwitchDone f r) s = .next t ∧ t.dev.bit (rclkA f.val r.val) 8 = false ∧
      tabGet noNat t.dev.clk.rclkOld (12 * f.val + r.val) = none ∧ ∀ a, a ≠ rclkA f.val r.val → t.dev.reg a = s.dev.reg a := by
  have hdone : rclkSwitchDone f.val r.val s.dev = { s.dev.putBit (rclkA f.val r.val) 8 false with
      clk := { s.dev.clk with rclkOld := tabSet noNat s.dev.clk.rclkOld (12 * f.val + r.val) none } } := by
    simp only [rclkSwitchDone, h8, he]
    rfl
  refine ⟨_, gives_of_eq gives_rclkSwitchDone hdone, ?_, tabGet_tabSet_same _ _ _ _ hwo, fun a ha => ?_⟩
  · exact (Device.bit_congr (Device.reg_congr rfl)).trans (Device.bit_putBit_same (by decide) hw)
  · exact (Device.reg_congr rfl).trans (Device.reg_putBit_ne ha hw)

/-- A silent source keeps the switch waiting. -/
theorem rclkSwitchDone_of_silent (he : s.dev.slotEdges f.val r.val = false) : exec (.rclkSwitchDone f r) s = .next s :=
  gives_of_eq gives_rclkSwitchDone (by simp [rclkSwitchDone, he])

theorem rclkDivChange_completes (hw : tabWf regDefault s.dev.regs = true) (hwd : tabWf noNat s.dev.clk.rclkDiv = true) (v : BitVec 4) :
    ∃ t, exec (.rclkDivChange f r v) s = .next t ∧ t.dev.fld (rclkA f.val r.val) 4 4 = v.toNat ∧
      (s.dev.bit (rclkA f.val r.val) 8 = false → rclkDivNow t.dev f.val r.val = v.toNat) ∧
      ∀ a, a ≠ rclkA f.val r.val → t.dev.reg a = s.dev.reg a := by
  have hdivider := rclkDivide_divider (f := f.val) (r := r.val) v.isLt hw
  have hother {a : Nat} (ha : a ≠ rclkA f.val r.val) := rclkDivide_reg (v := v.toNat) ha hw
  have h8 : (rclkDivide f.val r.val v.toNat s.dev).bit (rclkA f.val r.val) 8 = s.dev.bit (rclkA f.val r.val) 8 := by
    rw [Device.bit, rclkDivide_fld (.inl (by decide)) hw, ← Device.bit]
  have hwd1 : tabWf noNat (rclkDivide f.val r.val v.toNat s.dev).clk.rclkDiv = true := tabWf_tabSet _ _ _ _ hwd
  cases hs : s.dev.bit (rclkA f.val r.val) 8
  case true =>
    have hrun : rclkDivChange f.val r.val v.toNat s.dev = rclkDivide f.val r.val v.toNat s.dev := if_pos (h8.trans hs)
    exact ⟨_, gives_of_eq (gives_rclkDivChange v) hrun, hdivider, nofun, fun _ ha => hother ha⟩
  case false =>
    have hrun : rclkDivChange f.val r.val v.toNat s.dev = rclkEdge f.val r.val (rclkDivide f.val r.val v.toNat s.dev) :=
      if_neg (by rw [h8, hs]; decide)
    have hreg (a : Nat) := Device.reg_congr (a := a) (rclkEdge_regs (f := f.val) (r := r.val) (d := rclkDivide f.val r.val v.toNat s.dev))
    exact ⟨_, gives_of_eq (gives_rclkDivChange v) hrun, (Device.fld_congr (hreg _)).trans hdivider,
      fun _ => (rclkEdge_inForce hwd1).trans hdivider, fun a ha => (hreg a).trans (hother ha)⟩

end

/-- Settles O35: command by command. -/
theorem clocksComplete : Obligations.ClocksComplete := by
  intro s hw hwp
  refine ⟨fun n x hx => ?_, fun n hf hl hd hup => domainClockRelease_completes hf hl hd hup,
    fun h hup hseq hpri hfb hprim => halfClockLoss_completes hup hseq hpri hfb hprim,
    fun f r hwo hwd => ⟨fun v hd hup hm hsel => rclkSwitch_completes hw hwo hwd hd hup hm hsel,
      fun h8 he => rclkSwitchDone_completes hw hwo h8 he, rclkSwitchDone_of_silent, rclkDivChange_completes hw hwd⟩⟩
  subst hx
  exact ⟨pllFracChange_completes hw, fun hon hfb hen hg ht hl => pllInputLoss_completes hw hwp hon hfb hen hg ht hl,
    fun ht hg hen hpri hb hf => pllSwitchComplete_completes hw hwp ht hg hen hpri hb hf,
    fun hon hl hfb ht hr hforce => pllInputGood_completes hw hwp hon hl hfb ht hr hforce,
    fun hon ht hfb hen hg hl => forceFallback_completes hw hwp hon ht hfb hen hg hl,
    fun f hon hdead hseq huse hupW hupE ht hst hmode hr hno => pllDead_completes hw hon hdead hseq huse hupW hupE ht hst hmode hr hno,
    fun v pri fb hoff hv hu hlim hg hl => pllEnable_completes hw hwp hoff hv hu hlim hg hl,
    fun v pri fb hoff hv hu hlim => pllEnable_refused hw hwp hoff hv hu hlim⟩

end Sys2Proof.Machine
end

section
/-!
Spares of a seam segment (10_seam R275, R285 to R288): the fixed rule gives each failed position at most one good spare that may carry it,
and one to every position where there are enough and none is pinned; the union of two maps.
-/
namespace Sys2Proof.Machine

section
variable {g : Nat} {pins : List (Nat × Nat × Half)} {a b : SegMap} {more xs ys : List Nat}

/-! ### The fixed rule (R285) -/

section
variable {may : Nat → Nat → Bool}

theorem spareTake_assigns {p : Nat × Nat} (good ks : List Nat) (hp : p ∈ spareTake may good ks) :
    p.1 ∈ good ∧ p.2 ∈ ks ∧ may p.1 p.2 = true := by
  induction ks generalizing good with
  | nil => exact nomatch hp
  | cons k ks ih =>
    rw [spareTake] at hp
    split at hp
    next s hs =>
      rcases List.mem_cons.mp hp with rfl | hp
      · exact ⟨List.mem_of_find?_eq_some hs, List.mem_cons_self, List.find?_some (p := fun s => may s k) hs⟩
      · obtain ⟨hgood, hks, hmay⟩ := ih _ hp
        exact ⟨List.mem_of_mem_erase hgood, List.mem_cons_of_mem _ hks, hmay⟩
    next =>
      obtain ⟨hgood, hks, hmay⟩ := ih _ hp
      exact ⟨hgood, List.mem_cons_of_mem _ hks, hmay⟩

/-- A spare that is taken is gone, and positions come in order. -/
theorem spareTake_distinct (good ks : List Nat) (hgood : good.Nodup) (hks : ks.Pairwise (· < ·)) :
    (spareTake may good ks).Pairwise (fun p q => p.1 ≠ q.1 ∧ p.2 < q.2) := by
  induction ks generalizing good with
  | nil => exact .nil
  | cons k ks ih =>
    obtain ⟨hk, hks⟩ := List.pairwise_cons.mp hks
    rw [spareTake]
    split
    next s _ =>
      refine List.pairwise_cons.mpr ⟨fun q hq => ?_, ih _ (hgood.erase s) hks⟩
      obtain ⟨hq1, hq2, -⟩ := spareTake_assigns _ _ hq
      exact ⟨fun hs => hgood.not_mem_erase (hs ▸ hq1), hk _ hq2⟩
    next => exact ih _ hgood hks

/-- Where every spare may carry every position, the positions take the spares in order. -/
theorem spareTake_of_unpinned (hmay : ∀ s k, may s k = true) (good ks : List Nat) : spareTake may good ks = good.zip ks := by
  induction ks generalizing good with
  | nil => simp [spareTake]
  | cons k ks ih =>
    cases good with
    | nil => simp [spareTake, ih]
    | cons s good => simp [spareTake, hmay, ih]

end

/-! ### Positions -/

theorem mem_positions {k : Nat} : k ∈ positions g xs ↔ k < segWork g + segSpares g ∧ k ∈ xs := by
  simp [positions, upto]

theorem positions_sorted : (positions g xs).Pairwise (· < ·) := List.pairwise_lt_range.filter _

theorem positions_congr (h : ∀ k, k ∈ xs ↔ k ∈ ys) : positions g xs = positions g ys := by
  simp only [positions, List.contains_eq_mem, h]

/-- Failed working positions, which the fixed rule serves, and good spares, which it gives. -/
def workFailed (g : Nat) (failed : List Nat) : List Nat := failed.filter (fun k => decide (k < segWork g))
def goodSpares (g : Nat) (failed : List Nat) : List Nat := (upto (segSpares g)).filter (fun s => !failed.contains (segWork g + s))

theorem spareAssign_eq (failed : List Nat) :
    spareAssign g pins failed = spareTake (spareMay g pins) (goodSpares g failed) (workFailed g failed) := rfl

theorem mem_workFailed {k : Nat} : k ∈ workFailed g xs ↔ k ∈ xs ∧ k < segWork g := by simp [workFailed]

theorem mem_goodSpares {s : Nat} : s ∈ goodSpares g xs ↔ s < segSpares g ∧ segWork g + s ∉ xs := by simp [goodSpares, upto]

theorem goodSpares_sorted : (goodSpares g xs).Pairwise (· < ·) := List.pairwise_lt_range.filter _

/-- Every failed position is a working one or a spare that is not good. -/
theorem workFailed_add_spares_le :
    (workFailed g (positions g xs)).length + segSpares g ≤ (positions g xs).length + (goodSpares g (positions g xs)).length := by
  have hsplit := List.length_eq_length_filter_add (l := positions g xs) (fun k => decide (k < segWork g))
  have hspares := List.length_eq_length_filter_add (l := upto (segSpares g)) (fun s => (positions g xs).contains (segWork g + s))
  have hbad : (((upto (segSpares g)).filter (fun s => (positions g xs).contains (segWork g + s))).map (segWork g + ·)).length ≤
      ((positions g xs).filter (fun k => !decide (k < segWork g))).length := by
    refine (List.Nodup.subperm ((List.nodup_range.filter _).map (add_right_injective _)) fun k hk => ?_).length_le
    obtain ⟨s, hs, rfl⟩ := List.mem_map.mp hk
    simpa using (List.mem_filter.mp hs).2
  have hall : (upto (segSpares g)).length = segSpares g := List.length_range
  rw [List.length_map] at hbad
  change (workFailed g (positions g xs)).length + _ ≤ _ + ((upto (segSpares g)).filter _).length
  change _ = (workFailed g (positions g xs)).length + _ at hsplit
  omega

theorem workFailed_le_goodSpares (hd : segDegraded g (positions g xs) = false) :
    (workFailed g (positions g xs)).length ≤ (goodSpares g (positions g xs)).length := by
  have hle : (positions g xs).length ≤ segSpares g := by simpa [segDegraded] using hd
  have := workFailed_add_spares_le (g := g) (xs := xs)
  omega

theorem spareAssign_good {failed : List Nat} {p : Nat × Nat} (hp : p ∈ spareAssign g pins failed) :
    p.1 < segSpares g ∧ segWork g + p.1 ∉ failed ∧ p.2 ∈ failed ∧ p.2 < segWork g ∧ spareMay g pins p.1 p.2 = true := by
  obtain ⟨hgood, hks, hmay⟩ := spareTake_assigns _ _ (spareAssign_eq failed ▸ hp)
  obtain ⟨hs, hfit⟩ := mem_goodSpares.mp hgood
  obtain ⟨hfailed, hwork⟩ := mem_workFailed.mp hks
  exact ⟨hs, hfit, hfailed, hwork, hmay⟩

theorem spareAssign_distinct {failed : List Nat} (hf : failed.Pairwise (· < ·)) :
    (spareAssign g pins failed).Pairwise (fun p q => p.1 ≠ q.1 ∧ p.2 < q.2) :=
  spareTake_distinct _ _ (goodSpares_sorted.imp Nat.ne_of_lt) (hf.filter _)

theorem spareAssign_of_unpinned {failed : List Nat} : spareAssign g [] failed = (goodSpares g failed).zip (workFailed g failed) :=
  spareTake_of_unpinned (fun _ _ => rfl) _ _

theorem spareAssign_complete {k : Nat} (hd : segDegraded g (positions g xs) = false) (hk : k ∈ positions g xs) (hw : k < segWork g) :
    ∃ s, (s, k) ∈ spareAssign g [] (positions g xs) := by
  have hmap := List.map_snd_zip (workFailed_le_goodSpares hd)
  obtain ⟨p, hp, rfl⟩ := List.mem_map.mp (hmap ▸ mem_workFailed.mpr ⟨hk, hw⟩)
  exact ⟨p.1, spareAssign_of_unpinned ▸ hp⟩

theorem spareAssign_in_order {failed : List Nat} : (spareAssign g [] failed).Pairwise (fun p q => p.1 < q.1) := by
  rw [spareAssign_of_unpinned, List.pairwise_iff_getElem]
  intro i j hi hj hij
  simpa using List.pairwise_iff_getElem.mp goodSpares_sorted i j (by simp at hi; omega) (by simp at hj; omega) hij

/-! ### The union of two maps (R286, R287) -/

theorem mapUnion_failed : (mapUnion g pins a b more).failed = positions g (a.failed ++ b.failed ++ more) := rfl

theorem mapUnion_comm : mapUnion g pins a b more = mapUnion g pins b a more := by
  have hpos : positions g (a.failed ++ b.failed ++ more) = positions g (b.failed ++ a.failed ++ more) :=
    positions_congr fun k => by simp only [List.mem_append, or_comm (a := k ∈ a.failed)]
  have hgen : Nat.max a.gen b.gen = Nat.max b.gen a.gen := Nat.max_comm _ _
  simp only [mapUnion, hpos, hgen]

theorem mapUnion_gen (ha : a.gen < 2 ^ 32 - 1) (hb : b.gen < 2 ^ 32 - 1) :
    (mapUnion g pins a b more).gen = max a.gen b.gen + 1 :=
  Nat.mod_eq_of_lt (by show max a.gen b.gen + 1 < _; omega)

/-- The seal covers every field but itself. -/
theorem mapSeal_crcOk (m : SegMap) : mapCrcOk (mapSeal m) = true := beq_self_eq_true _

theorem mapUnion_spares_of_degraded (hd : segDegraded g (mapUnion g pins a b more).failed = true) :
    (mapUnion g pins a b more).spares = [] := if_pos hd

theorem mapUnion_spares (hd : segDegraded g (mapUnion g pins a b more).failed = false) :
    (mapUnion g pins a b more).spares = spareAssign g pins (mapUnion g pins a b more).failed := if_neg (mapUnion_failed ▸ Bool.eq_false_iff.mp hd)

/-- A degraded segment's map has no spares, any other's those of the fixed rule. -/
theorem mapUnion_spares_cases : (mapUnion g pins a b more).spares = [] ∨
    (mapUnion g pins a b more).spares = spareAssign g pins (mapUnion g pins a b more).failed := by
  cases hd : segDegraded g (mapUnion g pins a b more).failed
  · exact .inr (mapUnion_spares hd)
  · exact .inl (mapUnion_spares_of_degraded hd)

end

/-- Settles O38: the fixed rule's properties, at the union's failed positions. Pinned spares are judged by the half that drives the position
they would carry (log entry 50), and the CRC covers the fields in the registers' order (log entry 87). -/
theorem seamSpares : Obligations.SeamSpares := by
  rintro g pins a b more ha hb m rfl
  have hgen := mapUnion_gen (g := g) (pins := pins) (more := more) ha hb
  refine ⟨mapUnion_comm, fun k hk => ?_, positions_sorted, by omega, by omega, mapSeal_crcOk _, mapUnion_spares_of_degraded, ?_, ?_, ?_⟩
  · rw [mapUnion_failed, mem_positions]
    simp [hk]
  · intro p hp
    rcases mapUnion_spares_cases (g := g) (pins := pins) (a := a) (b := b) (more := more) with h | h
    · rw [h] at hp
      exact nomatch hp
    · exact spareAssign_good (h ▸ hp)
  · rcases mapUnion_spares_cases (g := g) (pins := pins) (a := a) (b := b) (more := more) with h | h
    · exact h ▸ .nil
    · exact h ▸ spareAssign_distinct positions_sorted
  · rintro rfl hd
    rw [mapUnion_spares hd, mapUnion_failed]
    exact ⟨fun k hk hw => spareAssign_complete hd hk hw, spareAssign_in_order⟩

end Sys2Proof.Machine
end

section
/-!
What stays of the seam's state and registers (10_seam R295) over the operations of other units that the seam's commands bring along: reports,
the network's packets, the calendar's decisions, the end of a wake. One lemma for each operation, in the order of the model's text.
-/
namespace Sys2Proof.Machine

/-- The addresses of the seam's registers, which end where the recorder's begin. -/
def seamReg (a : Nat) : Prop := seamA 0 ≤ a ∧ a < bobA 0

/-- Device `e` has the seam's state and registers and the halves up that `d` has. -/
structure SeamKept (d e : Device) : Prop where
  wf : tabWf regDefault e.regs = true
  reg : ∀ a, seamReg a → e.reg a = d.reg a
  seam : e.seam = d.seam
  up : ∀ h, e.up h = d.up h

section
variable {d e x : Device} {a : Nat}

/-! ### Addresses -/

theorem seamA_seamReg {o : Nat} (ho : o < 0x10000) : seamReg (seamA o) := by
  unfold seamReg seamA bobA
  omega

theorem thmA_not_seamReg {o : Nat} (ho : o < 0x700000) : ¬ seamReg (thmA o) := by
  unfold seamReg seamA thmA
  omega

theorem lrkA_not_seamReg (h : Half) {o : Nat} (ho : o < 0x10000) : ¬ seamReg (lrkA h o) := by
  cases h <;> simp only [seamReg, seamA, lrkA, hn] <;> omega

theorem bobA_not_seamReg (o : Nat) : ¬ seamReg (bobA o) := by
  unfold seamReg bobA
  omega

theorem seamReg.not_stateReg (ha : seamReg a) : stateReg a = false :=
  stateReg_eq_false.mpr ⟨by rintro rfl; exact thmA_not_seamReg (by decide) ha, by rintro rfl; exact thmA_not_seamReg (by decide) ha⟩

/-! ### The shape of programs -/

theorem SeamKept.refl (hw : tabWf regDefault d.regs = true) : SeamKept d d := ⟨hw, fun _ _ => rfl, rfl, fun _ => rfl⟩

theorem SeamKept.bit {k : Nat} (h : SeamKept d e) (ha : seamReg a) : e.bit a k = d.bit a k := Device.bit_congr (h.reg a ha)
theorem SeamKept.fld {lo n : Nat} (h : SeamKept d e) (ha : seamReg a) : e.fld a lo n = d.fld a lo n := Device.fld_congr (h.reg a ha)
theorem SeamKept.segment (h : SeamKept d e) (g : Nat) : e.segment g = d.segment g := by
  rw [Device.segment, h.seam, ← Device.segment]

theorem SeamKept.congr (h : SeamKept d e) (hregs : x.regs = e.regs) (hseam : x.seam = e.seam) (hup : ∀ k, x.up k = e.up k) : SeamKept d x :=
  ⟨hregs ▸ h.wf, fun a ha => (Device.reg_congr hregs).trans (h.reg a ha), hseam.trans h.seam, fun k => (hup k).trans (h.up k)⟩

section
variable {fresh log fab bram clv net time clk pwr mend load lanes eth host jesd mem sht pins bob cmd slv rsp}

/-- An update `{ e with … }` of anything but registers, modes and the seam. -/
theorem SeamKept.frame (h : SeamKept d e) :
    SeamKept d ⟨e.regs, fresh, e.sys, log, fab, bram, clv, net, time, clk, pwr, mend, load, e.seam, lanes, eth, host, jesd, mem, sht, pins,
      bob, cmd, slv, rsp⟩ :=
  h.congr rfl rfl fun k => by cases k <;> rfl

end

theorem SeamKept.ite {c : Prop} [Decidable c] (h : SeamKept d e) (hx : SeamKept d x) : SeamKept d (if c then e else x) := by
  split <;> assumption

theorem SeamKept.each {α : Type} {xs : List α} {f : Device → α → Device} (h : SeamKept d e)
    (hf : ∀ x a, SeamKept d x → SeamKept d (f x a)) : SeamKept d (e.each xs f) :=
  List.foldlRecOn xs f h fun x hx a _ => hf x a hx

/-! ### Registers and reports -/

theorem SeamKept.setReg {v : Word} (h : SeamKept d e) (ha : ¬ seamReg a) : SeamKept d (e.setReg a v) where
  wf := Device.setReg_wf _ _ _ h.wf
  reg b hb := (Device.reg_setReg_ne _ _ _ _ (by rintro rfl; exact ha hb) h.wf).trans (h.reg b hb)
  seam := h.seam
  up k := h.up k

theorem SeamKept.setCal {k c} (h : SeamKept d e) : SeamKept d (e.setCal k c) := by cases k <;> exact h.frame
theorem SeamKept.setBobHalf {k b} (h : SeamKept d e) : SeamKept d (e.setBobHalf k b) := by cases k <;> exact h.frame
theorem SeamKept.settle (h : SeamKept d e) : SeamKept d e.settle := by
  rw [settle_eq]
  exact h.frame

theorem SeamKept.bobRecord {k r} (h : SeamKept d e) : SeamKept d (e.bobRecord k r) := .ite h (.ite h.setBobHalf h.setBobHalf)

theorem SeamKept.bobTrigger {source} (h : SeamKept d e) : SeamKept d (e.bobTrigger source) :=
  .ite ((h.setReg (bobA_not_seamReg _)).each fun _ _ hx => hx.bobRecord.setBobHalf) (h.setReg (bobA_not_seamReg _))

theorem SeamKept.fault {k cls src detail} (h : SeamKept d e) : SeamKept d (e.fault k cls src detail) := by
  have hfifo (rs : List Report) : SeamKept d (e.setFifo k rs) := by cases k <;> exact h.frame
  have hcount : SeamKept d (e.bumpSat (thmA 0x2420) 0 16 1) := h.setReg (thmA_not_seamReg (by decide))
  unfold Device.fault
  extract_lets _ counted _ d2
  have hd2 : SeamKept d d2 := by
    unfold d2
    cases k
    · exact .ite (hfifo _) (hcount.congr rfl rfl fun _ => rfl)
    · exact .ite (hfifo _) (hcount.congr rfl rfl fun _ => rfl)
  exact .ite hd2.bobTrigger hd2

theorem updated_wf {y : Device} (hw : tabWf regDefault e.regs = true) : tabWf regDefault (y.updated e).regs = true := by
  have hshown (v : Word) : tabWf regDefault ((e.setReg (thmA 0x40) v).raiseInt 0).regs = true := by
    rw [Device.raiseInt, Device.mgmt_regs]
    exact Device.setBit_wf (Device.setReg_wf _ _ _ hw)
  have hreport : tabWf regDefault e.report.regs = true := by
    unfold Device.report
    extract_lets
    split
    · exact hw
    · exact hshown _
  unfold Device.updated Device.oneUpdate
  extract_lets
  split_ifs
  · exact hw
  · exact hshown _
  · exact hreport

/-- So does the update of THM_DEVICE_STATE. -/
theorem SeamKept.updated {y : Device} (h : SeamKept d e) : SeamKept d (y.updated e) where
  wf := updated_wf h.wf
  reg a ha := (updated_reg y h.wf ha.not_stateReg).trans (h.reg a ha)
  seam := (updated_seam y e).trans h.seam
  up k := ((HalvesKept.refl e).updated y).up k |>.trans (h.up k)

/-! ### The network's packets (06_warp_weft_network R182 to R184, R188) -/

theorem SeamKept.setRuns {key rs} (h : SeamKept d e) : SeamKept d (e.setRuns key rs) := h.frame
theorem SeamKept.dropRuns {pid p} (h : SeamKept d e) : SeamKept d (dropRuns pid p e) := (h.each fun _ _ hx => hx.setRuns).frame
theorem SeamKept.dropFlight {pid} (h : SeamKept d e) : SeamKept d (dropFlight pid e) := h.dropRuns.frame

theorem SeamKept.wwEvent {k bit kind} (h : SeamKept d e) : SeamKept d (wwEvent k bit kind e) :=
  have hreg : ¬ seamReg (thmA (0x2010 + 4 * hn (knotHalf k))) := thmA_not_seamReg (by cases knotHalf k <;> decide)
  ((h.setReg hreg).setReg hreg).setReg hreg

theorem SeamKept.cutPacket {k f} (h : SeamKept d e) : SeamKept d (cutPacket k f e) := by
  unfold Machine.cutPacket
  refine .ite h.dropFlight (.ite h ?_)
  split
  · exact (SeamKept.setRuns h.frame).wwEvent
  · exact h

theorem SeamKept.cutRow {y} (h : SeamKept d e) : SeamKept d (cutRow y e) :=
  h.each fun _ _ hx => .ite hx.dropRuns.cutPacket (.ite hx.dropRuns.cutPacket hx)

theorem SeamKept.setPaused {g b} (h : SeamKept d e) : SeamKept d (setPaused g b e) := .ite h h.frame

/-! ### The calendar's decisions (08_lark_calendar R242 to R245) -/

theorem SeamKept.calFlag {k bit i} (h : SeamKept d e) : SeamKept d (calFlag k bit i e) :=
  (h.setReg (lrkA_not_seamReg k (by decide))).setReg (lrkA_not_seamReg k (by decide))
theorem SeamKept.setEntry {k i v} (h : SeamKept d e) : SeamKept d (e.setEntry k i v) := h.setCal
theorem SeamKept.splitArms {k new i A} (h : SeamKept d e) : SeamKept d (splitArms k new i A e) := h.setCal
theorem SeamKept.addArm {k i v} (h : SeamKept d e) : SeamKept d (addArm k i v e) := h.setCal
theorem SeamKept.missEntry {k A i} (h : SeamKept d e) : SeamKept d (missEntry k A i e) :=
  have hm := (h.calFlag.setReg (lrkA_not_seamReg k (by decide))).setEntry
  .ite hm.addArm hm
theorem SeamKept.armEntry {k new wait A i} (h : SeamKept d e) : SeamKept d (armEntry k new wait A i e) :=
  .ite h.splitArms (.ite (.ite h.splitArms h.splitArms.missEntry) h.splitArms.addArm)

theorem SeamKept.chanDecide {k c} (h : SeamKept d e) : SeamKept d (chanDecide k c e) := by
  unfold Machine.chanDecide
  extract_lets
  split
  · exact .ite h (SeamKept.each h.setCal fun _ _ hx => hx.armEntry)
  · exact h

theorem SeamKept.replan {k old p} (h : SeamKept d e) : SeamKept d (replan k old p e) := h.setCal.each fun _ _ hx => hx.chanDecide

/-! ### The end of a wake (01_organisation R31) -/

theorem SeamKept.bobAnchor {kind build loaded} (h : SeamKept d e) : SeamKept d (bobAnchor kind build loaded e) :=
  .ite h (.ite (h.frame.each fun _ _ hx => .ite hx hx.setBobHalf.bobRecord) (.ite (h.frame.each fun _ _ hx => hx.setBobHalf) h))

theorem SeamKept.wakeDone (h : SeamKept d e) : SeamKept d (wakeDone e) :=
  have hwoken : SeamKept d { e with sys := { e.sys with mode := .running, waking := false } } :=
    h.congr rfl rfl fun k => by cases k <;> rfl
  .ite hwoken.bobAnchor h

end

end Sys2Proof.Machine
end

section
/-!
The seam's own operations (10_seam R285 to R292): what the segments are after each, and which of the seam's registers it leaves.
-/
namespace Sys2Proof.Machine

/-- Device `e` has the segments that `d` has, the flags of SEAM_STATUS above its counts, and the halves up. -/
structure SeamShown (d e : Device) : Prop where
  wf : tabWf regDefault e.regs = true
  flags : ∀ k, 14 ≤ k → e.bit seamStat k = d.bit seamStat k
  segs : e.seam.segs = d.seam.segs
  up : ∀ h, e.up h = d.up h

section
variable {d e x : Device} {a g k : Nat}

/-! ### The shape of programs -/

theorem SeamKept.shown (h : SeamKept d e) : SeamShown d e :=
  ⟨h.wf, fun _ _ => h.bit (seamA_seamReg (by decide)), congrArg SeamState.segs h.seam, h.up⟩

theorem SeamShown.refl (hw : tabWf regDefault d.regs = true) : SeamShown d d := (SeamKept.refl hw).shown

theorem SeamShown.trans (h : SeamShown d e) (hx : SeamShown e x) : SeamShown d x :=
  ⟨hx.wf, fun k hk => (hx.flags k hk).trans (h.flags k hk), hx.segs.trans h.segs, fun k => (hx.up k).trans (h.up k)⟩

/-- What the operation of another unit keeps. -/
theorem SeamShown.kept (h : SeamShown d e) (hx : SeamKept e e → SeamKept e x) : SeamShown d x := h.trans (hx (.refl h.wf)).shown

theorem SeamShown.ite {c : Prop} [Decidable c] (h : SeamShown d e) (hx : SeamShown d x) : SeamShown d (if c then e else x) := by
  split <;> assumption

theorem SeamShown.each {α : Type} {xs : List α} {f : Device → α → Device} (h : SeamShown d e)
    (hf : ∀ x a, SeamShown d x → SeamShown d (f x a)) : SeamShown d (e.each xs f) :=
  List.foldlRecOn xs f h fun x hx a _ => hf x a hx

section
variable {fresh log fab bram clv net time clk pwr mend load stored armed pinned rejoin trainedAt mapLost lanes eth host jesd mem sht pins bob
  cmd slv rsp}

/-- An update `{ e with … }` of anything but registers, modes and segments. -/
theorem SeamShown.frame (h : SeamShown d e) :
    SeamShown d ⟨e.regs, fresh, e.sys, log, fab, bram, clv, net, time, clk, pwr, mend, load,
      ⟨e.seam.segs, stored, armed, pinned, rejoin, trainedAt, mapLost⟩, lanes, eth, host, jesd, mem, sht, pins, bob, cmd, slv, rsp⟩ :=
  h.trans ⟨h.wf, fun _ _ => rfl, rfl, fun k => by cases k <;> rfl⟩

end

theorem SeamShown.segment (h : SeamShown d e) (g : Nat) : e.segment g = d.segment g := by
  rw [Device.segment, h.segs, ← Device.segment]

theorem SeamShown.segsWf (h : SeamShown d e) (hws : tabWf segReset d.seam.segs = true) : tabWf segReset e.seam.segs = true := h.segs ▸ hws

theorem SeamShown.peerLost (h : SeamShown d e) : peerLost e = peerLost d := by
  simp only [Machine.peerLost, h.flags 31 (by decide), h.up]

/-! ### Registers -/

theorem segStat_ne_seamStat : segStat g ≠ seamStat := by
  unfold segStat seamStat seamA
  omega

theorem segStat_seamReg (hg : g < 110) : seamReg (segStat g) := seamA_seamReg (by omega)

theorem seamStat_seamReg : seamReg seamStat := seamA_seamReg (by decide)

theorem SeamShown.setReg {v : Word} (h : SeamShown d e) (ha : a ≠ seamStat) : SeamShown d (e.setReg a v) :=
  h.trans ⟨Device.setReg_wf _ _ _ h.wf, fun _ _ => Device.bit_setReg_ne ha.symm h.wf, rfl, fun _ => rfl⟩

/-- A field of SEAM_STATUS below its flags. -/
theorem SeamShown.setCount {lo n v : Nat} (h : SeamShown d e) (hn : lo + n ≤ 14) : SeamShown d (e.setFld seamStat lo n v) :=
  h.trans ⟨Device.setFld_wf h.wf, fun k hk => Device.bit_setFld_ne (by omega) (.inl (by omega)) h.wf, rfl, fun _ => rfl⟩

theorem SeamShown.lastSeg (h : SeamShown d e) : SeamShown d (lastSeg g e) := h.setCount (by decide)

theorem lastSeg_reg (hw : tabWf regDefault d.regs = true) (ha : a ≠ seamStat) : (lastSeg g d).reg a = d.reg a := Device.reg_setFld_ne ha hw

theorem lastSeg_wf (hw : tabWf regDefault d.regs = true) : tabWf regDefault (lastSeg g d).regs = true := Device.setFld_wf hw

/-! ### Segments -/

theorem segment_setSegment_same {y : Segment} (hws : tabWf segReset d.seam.segs = true) : (d.setSegment g y).segment g = y :=
  tabGet_tabSet_same _ _ _ _ hws

theorem segment_setSegment_ne {y : Segment} (hk : k ≠ g) (hws : tabWf segReset d.seam.segs = true) :
    (d.setSegment g y).segment k = d.segment k :=
  tabGet_tabSet_ne _ _ _ _ _ hk hws

theorem setSegment_segsWf {y : Segment} (hws : tabWf segReset d.seam.segs = true) : tabWf segReset (d.setSegment g y).seam.segs = true :=
  tabWf_tabSet _ _ _ _ hws

/-! ### Maps (R286) -/

theorem countDegraded_shown (hw : tabWf regDefault d.regs = true) : SeamShown d (countDegraded d) :=
  SeamShown.frame (((SeamShown.refl hw).setCount (by decide)).each fun _ _ hx => hx.kept SeamKept.cutRow)

theorem showMap_shown {m : SegMap} (hw : tabWf regDefault d.regs = true) : SeamShown d (showMap g m d) := by
  unfold showMap
  extract_lets deg d1 d2 d3 d4
  have hne {o : Nat} (ho : 4 < o) : seamA o ≠ seamStat := by unfold seamStat seamA; omega
  have hd1 : SeamShown d d1 := (SeamShown.refl hw).setReg (hne (by omega))
  have hd2 : SeamShown d d2 := hd1.each fun _ _ hx => hx.setReg (hne (by omega))
  have hd3 : SeamShown d d3 := hd2.each fun _ _ hx => hx.setReg (hne (by omega))
  have hd4 : SeamShown d d4 := (hd3.setReg segStat_ne_seamStat).setReg segStat_ne_seamStat
  exact (hd4.setReg segStat_ne_seamStat).trans (countDegraded_shown (Device.putBit_wf hd4.wf))

/-- The map at the primary Thimble's end, which its registers show. -/
def mapShown (mw me : SegMap) (d : Device) : SegMap :=
  match d.sys.primary with
  | .w => mw
  | .e => me

theorem adoptMaps_shown {mw me : SegMap} (hw : tabWf regDefault d.regs = true) :
    SeamShown (d.setSegment g { d.segment g with mapW := mw, mapE := me }) (adoptMaps g mw me d) := by
  have hstored (y : SegMap) : SeamShown (d.setSegment g { d.segment g with mapW := mw, mapE := me })
      (Device.setSegment { d with seam := { d.seam with stored := tabSet (fun _ => ({} : SegMap)) d.seam.stored g y } } g
        { d.segment g with mapW := mw, mapE := me }) :=
    ⟨hw, fun _ _ => rfl, rfl, fun _ => rfl⟩
  exact (hstored (mapShown mw me d)).trans (showMap_shown hw)

end

end Sys2Proof.Machine
end

section
/-!
Remaps of seam segments (10_seam R287 to R289): what a trigger makes of its segment, whichever event or command it comes from.
-/
namespace Sys2Proof.Machine

/-- A segment that a trigger takes out of use until its training. -/
def Segment.remapping (y : Segment) : Segment := { y with remap := true, training := true }

/-- A trigger's own changes: the segment, its status, its number in SEAM_STATUS and, on the network, its link. -/
def remapStarted (g : Nat) (d : Device) : Device :=
  setPaused g true (lastSeg g (((d.setSegment g (d.segment g).remapping).setBit (segStat g) 28).bump (segStat g) 16 8 1))

section
variable {d e : Device} {g k : Nat}

/-! ### The trigger -/

theorem startRemap_of_ignored (h : g ≥ 110 ∨ peerLost d = true) : startRemap g d = d := if_pos h

theorem startRemap_of_training (hg : g < 110) (hp : peerLost d = false) (ht : (d.segment g).training = true) :
    startRemap g d = lastSeg g d :=
  (if_neg (by simp [hp, hg])).trans (if_pos ht)

theorem remapStarted_shown (hw : tabWf regDefault d.regs = true) :
    SeamShown (d.setSegment g (d.segment g).remapping) (remapStarted g d) :=
  ((((SeamShown.refl (d := d.setSegment g (d.segment g).remapping) hw).setReg segStat_ne_seamStat).setReg
    segStat_ne_seamStat).lastSeg).kept SeamKept.setPaused

/-- On the network two knots' events follow. -/
theorem startRemap_starts (hg : g < 110) (hp : peerLost d = false) (ht : (d.segment g).training = false)
    (hw : tabWf regDefault d.regs = true) : SeamKept (remapStarted g d) (startRemap g d) := by
  have hwf := (remapStarted_shown (g := g) hw).wf
  have hrun : startRemap g d = if g < 100 then remapStarted g d
      else wwEvent (knotId 5 (weftRow g)) 4 5 (wwEvent (knotId 4 (weftRow g)) 4 5 (remapStarted g d)) :=
    (if_neg (by simp [hp, hg])).trans (if_neg (by simp [ht]))
  rw [hrun]
  exact .ite (.refl hwf) (SeamKept.refl hwf).wwEvent.wwEvent

theorem remapStarted_status (hg : g < 110) (hw : tabWf regDefault d.regs = true) :
    (remapStarted g d).bit (segStat g) 28 = true ∧
      (remapStarted g d).fld (segStat g) 16 8 = (d.fld (segStat g) 16 8 + 1) % 256 := by
  have hseg : tabWf regDefault (d.setSegment g (d.segment g).remapping).regs = true := hw
  have hbit := Device.setBit_wf (a := segStat g) (k := 28) hseg
  have hwf := Device.bump_wf (lo := 16) (n := 8) (k := 1) (a := segStat g) hbit
  have hreg : (remapStarted g d).reg (segStat g) =
      (((d.setSegment g (d.segment g).remapping).setBit (segStat g) 28).bump (segStat g) 16 8 1).reg (segStat g) :=
    ((SeamKept.refl (lastSeg_wf hwf)).setPaused.reg _ (segStat_seamReg hg)).trans (lastSeg_reg hwf segStat_ne_seamStat)
  refine ⟨?_, ?_⟩
  · rw [Device.bit_congr hreg, Device.bump, Device.bit_setFld_ne (by decide) (.inl (by decide)) hbit]
    exact Device.bit_setBit_same (by decide) hseg
  · rw [Device.fld_congr hreg, Device.fld_bump_same (by decide) hbit, Device.setBit, Device.fld_putBit_ne (by decide) (.inr (by decide)) hseg]
    rfl

/-- What a trigger makes of a segment that neither remaps nor trains. -/
theorem startRemap_completes (hg : g < 110) (hp : peerLost d = false) (ht : (d.segment g).training = false)
    (hw : tabWf regDefault d.regs = true) (hws : tabWf segReset d.seam.segs = true) :
    (startRemap g d).segment g = (d.segment g).remapping ∧ (∀ j, 14 ≤ j → (startRemap g d).bit seamStat j = d.bit seamStat j) ∧
      (startRemap g d).bit (segStat g) 28 = true ∧
      (startRemap g d).fld (segStat g) 16 8 = (d.fld (segStat g) 16 8 + 1) % 256 := by
  have hkept := startRemap_starts hg hp ht hw
  have hshown := (remapStarted_shown (g := g) hw).trans hkept.shown
  obtain ⟨hbit, hfld⟩ := remapStarted_status hg hw
  exact ⟨(hshown.segment g).trans (segment_setSegment_same hws), hshown.flags, (hkept.bit (segStat_seamReg hg)).trans hbit,
    (hkept.fld (segStat_seamReg hg)).trans hfld⟩

/-- Every trigger that sets a flag of SEAM_STATUS: the flag is set, and the segment remaps. -/
theorem startRemap_of_flag {f : Nat} (hf : 14 ≤ f) (hf' : f < 31) (hg : g < 110) (hp : peerLost d = false)
    (ht : (d.segment g).training = false) (hw : tabWf regDefault d.regs = true) (hws : tabWf segReset d.seam.segs = true) :
    ∀ x, x = startRemap g (lastSeg g (d.setBit seamStat f)) →
    x.segment g = (d.segment g).remapping ∧ x.bit seamStat f = true ∧ x.bit (segStat g) 28 = true ∧
      x.fld (segStat g) 16 8 = (d.fld (segStat g) 16 8 + 1) % 256 := by
  rintro x rfl
  have hset : tabWf regDefault (d.setBit seamStat f).regs = true := Device.setBit_wf hw
  have hlast : SeamShown (d.setBit seamStat f) (lastSeg g (d.setBit seamStat f)) := (SeamShown.refl hset).lastSeg
  have hlost : peerLost (lastSeg g (d.setBit seamStat f)) = false := by
    rw [hlast.peerLost, ← hp]
    simp only [peerLost, Device.bit_setBit_ne (show f < 32 by omega) (show 31 ≠ f by omega) hw]
    rfl
  obtain ⟨hseg, hflags, hstat, hcount⟩ := startRemap_completes hg hlost ht hlast.wf hws
  refine ⟨hseg, (hflags f hf).trans ((hlast.flags f hf).trans (Device.bit_setBit_same (by omega) hw)), hstat, hcount.trans ?_⟩
  rw [Device.fld_congr (lastSeg_reg hset segStat_ne_seamStat), Device.fld_congr (Device.reg_setBit_ne segStat_ne_seamStat hw)]

/-! ### Triggers of many segments (R294) -/

/-- The seam's registers and the other segments are what a trigger leaves them. -/
theorem startRemap_keeps (hw : tabWf regDefault d.regs = true) (hws : tabWf segReset d.seam.segs = true) :
    tabWf regDefault (startRemap k d).regs = true ∧ tabWf segReset (startRemap k d).seam.segs = true ∧
      peerLost (startRemap k d) = peerLost d ∧ ∀ j, j ≠ k → (startRemap k d).segment j = d.segment j := by
  by_cases hi : k ≥ 110 ∨ peerLost d = true
  · rw [startRemap_of_ignored hi]
    exact ⟨hw, hws, rfl, fun _ _ => rfl⟩
  · obtain ⟨hk, hp⟩ : k < 110 ∧ peerLost d = false := by simpa using hi
    cases ht : (d.segment k).training
    · have hshown := (remapStarted_shown (g := k) hw).trans (startRemap_starts hk hp ht hw).shown
      exact ⟨hshown.wf, hshown.segsWf (setSegment_segsWf hws), hshown.peerLost,
        fun j hj => (hshown.segment j).trans (segment_setSegment_ne hj hws)⟩
    · rw [startRemap_of_training hk hp ht]
      have hlast : SeamShown d (lastSeg k d) := (SeamShown.refl hw).lastSeg
      exact ⟨hlast.wf, hlast.segsWf hws, hlast.peerLost, fun j _ => hlast.segment j⟩

/-- Of many steps, where one that is not `g`'s leaves a value and `g`'s takes it from `y` to `z` and keeps `z`, the value ends as `z`. -/
theorem Device.each_takes {β : Type} {inv : Device → Prop} {v : Device → β} {y z : β} {f : Device → Nat → Device}
    (hinv : ∀ e k, inv e → inv (f e k)) (hother : ∀ e k, inv e → k ≠ g → v (f e k) = v e)
    (hown : ∀ e, inv e → v e = z ∨ v e = y → v (f e g) = z) (xs : List Nat) (hd : inv d) (hv : v d = z ∨ (v d = y ∧ g ∈ xs)) :
    inv (d.each xs f) ∧ v (d.each xs f) = z := by
  induction xs generalizing d with
  | nil => exact ⟨hd, hv.resolve_right (by simp)⟩
  | cons k xs ih =>
    refine ih (hinv d k hd) ?_
    by_cases hk : k = g
    · subst hk
      exact .inl (hown d hd (hv.imp_right And.left))
    · rw [hother d k hd hk]
      exact hv.imp_right fun ⟨hy, hmem⟩ => ⟨hy, (List.mem_cons.mp hmem).resolve_left (Ne.symm hk)⟩

/-- Triggers of many segments: each is as its own trigger leaves it, once or more. -/
theorem each_startRemap_segment {xs : List Nat} (hg : g < 110) (hmem : g ∈ xs) (hp : peerLost d = false)
    (ht : (d.segment g).training = false) (hw : tabWf regDefault d.regs = true) (hws : tabWf segReset d.seam.segs = true) :
    (d.each xs (fun d k => startRemap k d)).segment g = (d.segment g).remapping := by
  refine (Device.each_takes (inv := fun e => tabWf regDefault e.regs = true ∧ tabWf segReset e.seam.segs = true ∧ peerLost e = false)
    (v := fun e => e.segment g) (y := d.segment g) ?_ ?_ ?_ xs ⟨hw, hws, hp⟩ (.inr ⟨rfl, hmem⟩)).2
  · rintro e k ⟨hwe, hwse, hpe⟩
    obtain ⟨hw', hws', hp', -⟩ := startRemap_keeps (k := k) hwe hwse
    exact ⟨hw', hws', hp'.trans hpe⟩
  · rintro e k ⟨hwe, hwse, -⟩ hk
    obtain ⟨-, -, -, hother⟩ := startRemap_keeps (k := k) hwe hwse
    exact hother g hk.symm
  · rintro e ⟨hwe, hwse, hpe⟩ (hdone | hstart)
    · rw [startRemap_of_training hg hpe (by rw [hdone]; rfl), ((SeamShown.refl hwe).lastSeg).segment, hdone]
    · rw [(startRemap_completes hg hpe (by rw [hstart, ht]) hwe hwse).1, hstart]

end

end Sys2Proof.Machine
end

section
/-!
The seam's commands (10_seam R282 to R292), one by one. No segment lies between two replayed fields, so that the recorder has no gap to
mark (20_bobbin_replay R505).
-/
namespace Sys2Proof.Machine

section
variable {d : Device} {g : Nat}

theorem seamWatch_of_unwatched {f : Device → Device} (hq : watchedSegs d = []) : seamWatch f d = f d := by
  simp [seamWatch, hq, Device.each]

theorem peerLost_of_up (hW : d.up .w = true) (hE : d.up .e = true) (hs : d.bit seamStat 31 = false) : peerLost d = false := by
  simp [peerLost, hW, hE, hs]

/-! ### Training (R286, R287) -/

/-- What the training of a segment leaves of it: both ends have adopted the union of their maps with what failed. -/
def Segment.trainedOn (g : Nat) (pins : List (Nat × Nat × Half)) (more : List Nat) (x : Segment) : Segment :=
  { x with
    mapW := mapUnion g pins x.mapW (peerMap x.mapE) more, mapE := mapUnion g pins x.mapE (peerMap x.mapW) more
    trained := true, training := false, lostW := false, lostE := false }

theorem seamTrain_completes {fw fe : List Nat} (hW : d.up .w = true) (hE : d.up .e = true) (ht : (d.segment g).training = true)
    (hw : tabWf regDefault d.regs = true) (hws : tabWf segReset d.seam.segs = true) :
    (seamTrain g fw fe d).segment g = (d.segment g).trainedOn g d.seam.pinned (fw ++ fe) ∧
      ∀ k, k ≠ g → (seamTrain g fw fe d).segment k = d.segment k := by
  unfold seamTrain
  rw [if_neg (by simp [hW, hE, ht])]
  extract_lets mw me _ d1 d2 adopted d3 _ _ d4 d5
  have hd1 : SeamShown d d1 := .ite (.refl hw) (SeamShown.refl hw).frame
  have hwf1 := hd1.segsWf hws
  have hd2 : SeamShown (d1.setSegment g { d1.segment g with mapW := mw, mapE := me }) d2 := adoptMaps_shown hd1.wf
  have hwf2 := hd2.segsWf (setSegment_segsWf hwf1)
  have hadopted : adopted = { d.segment g with mapW := mw, mapE := me } := by
    unfold adopted
    rw [hd2.segment, segment_setSegment_same hwf1, hd1.segment]
  have hwf3 : tabWf regDefault d3.regs = true := hd2.wf
  have hd4 : SeamShown d3 d4 := .ite (.refl hwf3) ((SeamShown.refl hwf3).setReg segStat_ne_seamStat).frame
  have hd5 : SeamShown d3 d5 := hd4.lastSeg
  have hend : SeamShown d3 (if segDegraded g mw.failed then d5.fault d5.sys.primary 0x2A g mw.failed.length else d5) :=
    .ite (hd5.kept SeamKept.fault) hd5
  refine ⟨?_, fun k hk => ?_⟩
  · rw [hend.segment, segment_setSegment_same hwf2, hadopted]
    rfl
  · rw [hend.segment, segment_setSegment_ne hk hwf2, hd2.segment, segment_setSegment_ne hk hwf1, hd1.segment]

/-! ### Contention (R288) -/

theorem mem_mapFail_failed {k : Nat} {m : SegMap} (hk : k < segWork g + segSpares g) : k ∈ (mapFail g k m).failed :=
  mem_positions.mpr ⟨hk, List.mem_cons_self⟩

theorem seamContention_completes {k : Nat} (hg : g < 110) (hk : k < segWork g + segSpares g) (hdrv : spareDriven d g k = true)
    (hp : peerLost d = false) (ht : (d.segment g).training = false) (hw : tabWf regDefault d.regs = true)
    (hws : tabWf segReset d.seam.segs = true) :
    ∀ x, x = seamContention g k d → x.bit seamStat 28 = true ∧ (x.segment g).remap = true ∧
      k ∈ (x.segment g).mapW.failed ∧ k ∈ (x.segment g).mapE.failed := by
  rintro x rfl
  have hrun : seamContention g k d = startRemap g (lastSeg g
      ((adoptMaps g (mapFail g k (d.segment g).mapW) (mapFail g k (d.segment g).mapE) d).setBit seamStat 28)) :=
    if_neg (by simp [hdrv])
  have hadopt := adoptMaps_shown (g := g) (mw := mapFail g k (d.segment g).mapW) (me := mapFail g k (d.segment g).mapE) hw
  have hseg := (hadopt.segment g).trans (segment_setSegment_same hws)
  obtain ⟨hremap, hflag, -, -⟩ := startRemap_of_flag (f := 28) (by decide) (by decide) hg (hadopt.peerLost.trans hp)
    (by rw [hseg]; exact ht) hadopt.wf (hadopt.segsWf (setSegment_segsWf hws)) _ hrun
  rw [hseg] at hremap
  rw [hremap]
  exact ⟨hflag, rfl, mem_mapFail_failed hk, mem_mapFail_failed hk⟩

/-! ### Reports (R289, R290) -/

/-- A recorder without trigger classes watches no class but 0. -/
theorem fault_of_no_triggers {h : Half} {cls src detail : Nat} (hb : d.fld (bobA 0) 0 16 = 0) (hc : cls ≠ 0)
    (hf : (d.fifo h).length < 1024) :
    d.fault h cls src detail = d.setFifo h (d.fifo h ++ [⟨cls, src, detail, d.now h⟩]) := by
  have hbytes : d.fld (bobA 0) 0 8 = 0 ∧ d.fld (bobA 0) 8 8 = 0 := by
    simp only [Device.fld, fieldOf, bitsAt_eq] at hb ⊢
    omega
  exact fault_of_unwatched hf (by rwa [hbytes.1]) (by rwa [hbytes.2])

theorem setFifo_segment {h : Half} {rs : List Report} : (d.setFifo h rs).segment g = d.segment g := by
  rw [Device.segment, Device.setFifo_seam, ← Device.segment]

theorem lastSeg_bob (hw : tabWf regDefault d.regs = true) : (lastSeg g d).fld (bobA 0) 0 16 = d.fld (bobA 0) 0 16 :=
  Device.fld_congr (lastSeg_reg hw (by unfold bobA seamStat seamA; omega))

section
variable {b : Bool}

/-- Pausing a link changes the network alone. -/
theorem setPaused_eq : ∃ net, setPaused g b d = { d with net := net } := by
  unfold setPaused
  split
  · exact ⟨d.net, rfl⟩
  · exact ⟨_, rfl⟩

@[simp] theorem setPaused_regs : (setPaused g b d).regs = d.regs := by obtain ⟨net, h⟩ := setPaused_eq (d := d) (g := g) (b := b); rw [h]
@[simp] theorem setPaused_sys : (setPaused g b d).sys = d.sys := by obtain ⟨net, h⟩ := setPaused_eq (d := d) (g := g) (b := b); rw [h]
@[simp] theorem setPaused_seam : (setPaused g b d).seam = d.seam := by obtain ⟨net, h⟩ := setPaused_eq (d := d) (g := g) (b := b); rw [h]
@[simp] theorem setPaused_fifo (h : Half) : (setPaused g b d).fifo h = d.fifo h := by
  obtain ⟨net, hp⟩ := setPaused_eq (d := d) (g := g) (b := b)
  rw [hp]
  cases h <;> rfl
@[simp] theorem setPaused_now (h : Half) : (setPaused g b d).now h = d.now h := by
  obtain ⟨net, hp⟩ := setPaused_eq (d := d) (g := g) (b := b)
  rw [hp]
  cases h <;> rfl

end

/-- A remapped segment that has returned. -/
def Segment.returned (x : Segment) : Segment := { segEmpty x with remap := false }

/-- The return of a remapped segment, before its report. -/
def remapReturned (g : Nat) (d : Device) : Device :=
  setPaused g false (lastSeg g ((d.setSegment g (d.segment g).returned).putBit (segStat g) 28 false))

theorem remapReturned_segment (hws : tabWf segReset d.seam.segs = true) : (remapReturned g d).segment g = (d.segment g).returned := by
  rw [Device.segment, remapReturned, setPaused_seam]
  exact segment_setSegment_same hws

theorem remapReturned_status (hg : g < 110) (hw : tabWf regDefault d.regs = true) :
    (remapReturned g d).bit (segStat g) 28 = false ∧ (remapReturned g d).fld (bobA 0) 0 16 = d.fld (bobA 0) 0 16 := by
  have hseg : tabWf regDefault (d.setSegment g (d.segment g).returned).regs = true := hw
  have hput := Device.putBit_wf (a := segStat g) (k := 28) (c := false) hseg
  have hstat : bobA 0 ≠ segStat g := fun h => bobA_not_seamReg 0 (h ▸ segStat_seamReg hg)
  have hreg (a : Nat) := Device.reg_congr (a := a) (setPaused_regs (g := g) (b := false)
    (d := lastSeg g ((d.setSegment g (d.segment g).returned).putBit (segStat g) 28 false)))
  exact ⟨(Device.bit_congr ((hreg _).trans (lastSeg_reg hput segStat_ne_seamStat))).trans (Device.bit_putBit_same (by decide) hseg),
    (Device.fld_congr (hreg _)).trans ((lastSeg_bob hput).trans (Device.fld_congr (Device.reg_putBit_ne hstat hseg)))⟩

theorem remapRelease_reports (hr : (d.segment g).remap = true) (ht : (d.segment g).training = false) :
    remapRelease g d = (remapReturned g d).fault d.sys.primary 0x29 g (d.segment g).mapW.failed.length := by
  have hsys : (remapReturned g d).sys = d.sys := setPaused_sys
  rw [← hsys]
  exact if_pos (by simp [hr, ht])

theorem remapRelease_completes (hg : g < 110) (hr : (d.segment g).remap = true) (ht : (d.segment g).training = false)
    (hf : (d.fifo d.sys.primary).length < 1024) (hb : d.fld (bobA 0) 0 16 = 0) (hw : tabWf regDefault d.regs = true)
    (hws : tabWf segReset d.seam.segs = true) :
    (remapRelease g d).segment g = (d.segment g).returned ∧ (remapRelease g d).bit (segStat g) 28 = false ∧
      (remapRelease g d).fifo d.sys.primary =
        d.fifo d.sys.primary ++ [⟨0x29, g, (d.segment g).mapW.failed.length, d.now d.sys.primary⟩] := by
  obtain ⟨hstat, hbob⟩ := remapReturned_status hg hw
  have hfifo (h : Half) : (remapReturned g d).fifo h = d.fifo h := (setPaused_fifo h).trans (by cases h <;> rfl)
  have hnow (h : Half) : (remapReturned g d).now h = d.now h := (setPaused_now h).trans (by cases h <;> rfl)
  rw [remapRelease_reports hr ht, fault_of_no_triggers (hbob.trans hb) (by decide) (by rwa [hfifo]), hfifo, hnow]
  exact ⟨setFifo_segment.trans (remapReturned_segment hws), (Device.bit_congr (Device.reg_congr (Device.setFifo_regs _ _ _))).trans hstat,
    Device.fifo_setFifo _ _⟩

/-! ### Loss (R282, R292) -/

theorem disarm_of_disarmed (ha : d.seam.armed = none) : disarm d = d := by simp [disarm, ha]

/-- The half whose receiver sees the loss, and what it makes of the segment. -/
def lossHalf (intoE : Bool) : Half := if intoE then .e else .w
def Segment.losing (intoE : Bool) (x : Segment) : Segment := if intoE then { x with lostE := true } else { x with lostW := true }

theorem seamLoss_completes {intoE : Bool} (ha : d.seam.armed = none) (hf : (d.fifo (lossHalf intoE)).length < 1024)
    (hb : d.fld (bobA 0) 0 16 = 0) (hw : tabWf regDefault d.regs = true) (hws : tabWf segReset d.seam.segs = true) :
    (seamLoss g intoE d).segment g = (d.segment g).losing intoE ∧
      (seamLoss g intoE d).fifo (lossHalf intoE) = d.fifo (lossHalf intoE) ++ [⟨0x28, g, 0, d.now (lossHalf intoE)⟩] := by
  have hseg : tabWf regDefault (d.setSegment g ((d.segment g).losing intoE)).regs = true := hw
  have hrun : seamLoss g intoE d =
      disarm ((lastSeg g (d.setSegment g ((d.segment g).losing intoE))).fault (lossHalf intoE) 0x28 g 0) := rfl
  have hfifo (h : Half) : (lastSeg g (d.setSegment g ((d.segment g).losing intoE))).fifo h = d.fifo h := by cases h <;> rfl
  have hnow (h : Half) : (lastSeg g (d.setSegment g ((d.segment g).losing intoE))).now h = d.now h := by cases h <;> rfl
  have hdisarm (h : Half) (rs : List Report) : ((lastSeg g (d.setSegment g ((d.segment g).losing intoE))).setFifo h rs).seam.armed = none := by
    rw [Device.setFifo_seam]
    exact ha
  rw [hrun, fault_of_no_triggers ((lastSeg_bob hseg).trans hb) (by decide) (by rwa [hfifo]), hfifo, hnow, disarm_of_disarmed (hdisarm _ _)]
  exact ⟨setFifo_segment.trans (segment_setSegment_same hws), Device.fifo_setFifo _ _⟩

/-! ### Arming (R291) -/

/-- The boundary that the registers name (R291). -/
def armBoundary (d : Device) : Nat :=
  (nearTime (d.now d.sys.primary) (d.fld (seamA 0xC) 0 32) (d.fld (seamA 8) 0 30 * 65536)).toNat

/-- ARM_RELEASE of Thimble's. -/
def armAtBoundary (d : Device) : Device :=
  if armBoundary d ≤ d.now d.sys.primary then d.setBit seamStat 29
  else if armable d (armBoundary d) then
    (Device.setBit { d with seam := { d.seam with armed := some (armBoundary d) } } seamStat 30).each
      ([Half.w, Half.e].filter (fun h => d.lost h && d.up h)) (fun d' h => replan h heldPlan (.exactly (armBoundary d)) d')
  else d

theorem armRelease_eq (mc : MClass) : armRelease mc d = d.byThimble mc armAtBoundary := rfl

theorem armAtBoundary_of_passed (h : armBoundary d ≤ d.now d.sys.primary) : armAtBoundary d = d.setBit seamStat 29 := if_pos h

/-- A boundary that may not be armed leaves the device as it is (log entry 88). -/
theorem armAtBoundary_of_unarmable (h : d.now d.sys.primary < armBoundary d) (ha : armable d (armBoundary d) = false) :
    armAtBoundary d = d :=
  (if_neg (by omega)).trans (if_neg (by simp [ha]))

theorem armAtBoundary_of_armable (h : d.now d.sys.primary < armBoundary d) (ha : armable d (armBoundary d) = true)
    (hw : tabWf regDefault d.regs = true) :
    (armAtBoundary d).seam.armed = some (armBoundary d) ∧ (armAtBoundary d).bit seamStat 30 = true := by
  have harm : tabWf regDefault ({ d with seam := { d.seam with armed := some (armBoundary d) } } : Device).regs = true := hw
  have hkept := (SeamKept.refl (Device.setBit_wf (a := seamStat) (k := 30) harm)).each
    (xs := [Half.w, Half.e].filter (fun h => d.lost h && d.up h)) (f := fun d' h => replan h heldPlan (.exactly (armBoundary d)) d')
    fun _ _ hx => hx.replan
  unfold armAtBoundary
  rw [if_neg (by omega), if_pos ha]
  exact ⟨congrArg SeamState.armed hkept.seam, (hkept.bit seamStat_seamReg).trans (Device.bit_setBit_same (by decide) harm)⟩

end

end Sys2Proof.Machine
end

section
/-!
The release of the seam's segments (10_seam R291, R292), and with it all of the seam's commands.
-/
namespace Sys2Proof.Machine

section
variable {d e : Device} {g k : Nat}

/-! ### What releasing segments keeps -/

/-- Device `e` is `d` but for its segments and the packets in the network, as far as a release looks at it. -/
structure ReleaseKept (d e : Device) : Prop where
  regs : e.regs = d.regs
  sys : e.sys = d.sys
  load : e.load = d.load
  armed : e.seam.armed = d.seam.armed
  segsWf : tabWf segReset d.seam.segs = true → tabWf segReset e.seam.segs = true

theorem restartRow_eq (y : Nat) (d : Device) : ∃ net, restartRow y d = { d with net := net } := by
  refine List.foldlRecOn (motive := fun e => ∃ net, e = { d with net := net }) _ _ ⟨d.net, rfl⟩ fun e he pid _ => ?_
  obtain ⟨net, rfl⟩ := he
  obtain ⟨vcs, owners, promoted, h⟩ := dropFlight_eq pid { d with net := net }
  exact ⟨_, h⟩

/-- A segment of which live values pass again. -/
def Segment.releasing (x : Segment) : Segment := { segEmpty x with released := true }

/-- A release's step at one segment. -/
def releaseStep (d : Device) (g : Nat) : Device :=
  if (d.segment g).trained && !(d.segment g).released && !d.bit (segStat g) 29 then
    (d.setSegment g (d.segment g).releasing).when (decide (100 ≤ g)) (restartRow (weftRow g))
  else d

theorem seamReleaseAll_eq (d : Device) : seamReleaseAll d = d.each (upto 110) releaseStep := rfl

theorem releaseStep_of_released (h : (d.segment g).released = true) : releaseStep d g = d := if_neg (by simp [h])

theorem releaseStep_of_due (ht : (d.segment g).trained = true) (hr : (d.segment g).released = false) (hs : d.bit (segStat g) 29 = false) :
    ∃ net, releaseStep d g = { d.setSegment g (d.segment g).releasing with net := net } := by
  have hrun : releaseStep d g = (d.setSegment g (d.segment g).releasing).when (decide (100 ≤ g)) (restartRow (weftRow g)) :=
    if_pos (by simp [ht, hr, hs])
  rw [hrun, Device.when]
  split
  · exact restartRow_eq _ _
  · exact ⟨d.net, rfl⟩

/-- A step releases its segment or does nothing. -/
theorem releaseStep_cases (d : Device) (g : Nat) :
    releaseStep d g = d ∨ ∃ net, releaseStep d g = { d.setSegment g (d.segment g).releasing with net := net } := by
  by_cases h : (d.segment g).trained = true ∧ (d.segment g).released = false ∧ d.bit (segStat g) 29 = false
  · exact .inr (releaseStep_of_due h.1 h.2.1 h.2.2)
  · refine .inl (if_neg fun hdue => h ?_)
    simpa [and_assoc] using hdue

theorem ReleaseKept.refl (d : Device) : ReleaseKept d d := ⟨rfl, rfl, rfl, rfl, id⟩

theorem ReleaseKept.releaseStep (h : ReleaseKept d e) : ReleaseKept d (releaseStep e k) := by
  rcases releaseStep_cases e k with he | ⟨net, he⟩ <;> rw [he]
  · exact h
  · exact ⟨h.regs, h.sys, h.load, h.armed, fun hws => setSegment_segsWf (h.segsWf hws)⟩

theorem releaseStep_segment_ne (hk : k ≠ g) (hws : tabWf segReset d.seam.segs = true) : (releaseStep d k).segment g = d.segment g := by
  rcases releaseStep_cases d k with he | ⟨net, he⟩ <;> rw [he]
  exact segment_setSegment_ne (Ne.symm hk) hws

/-- A trained segment that waits for the release and is not degraded is released; the rest of the device follows in its segments alone. -/
theorem seamReleaseAll_completes (hg : g < 110) (ht : (d.segment g).trained = true) (hr : (d.segment g).released = false)
    (hs : d.bit (segStat g) 29 = false) (hws : tabWf segReset d.seam.segs = true) :
    ReleaseKept d (seamReleaseAll d) ∧ (seamReleaseAll d).segment g = (d.segment g).releasing := by
  rw [seamReleaseAll_eq]
  refine Device.each_takes (inv := ReleaseKept d) (v := fun e => e.segment g) (y := d.segment g) (fun _ _ he => he.releaseStep)
    (fun e k he hk => releaseStep_segment_ne hk (he.segsWf hws)) ?_ _ (.refl d) (.inr ⟨rfl, List.mem_range.mpr hg⟩)
  rintro e he (hdone | hstart)
  · rw [releaseStep_of_released (by rw [hdone]; rfl), hdone]
  · obtain ⟨net, hdue⟩ := releaseStep_of_due (d := e) (g := g) (by rw [hstart, ht]) (by rw [hstart, hr])
      ((Device.bit_congr (Device.reg_congr he.regs)).trans hs)
    rw [hdue, ← hstart]
    exact segment_setSegment_same (he.segsWf hws)

/-! ### The return of a qualifier (R290) -/

theorem qualifierReturn_completes (hg : g < 110) (hl : (d.segment g).lostE = true) (hp : peerLost d = false)
    (ht : (d.segment g).training = false) (hw : tabWf regDefault d.regs = true) (hws : tabWf segReset d.seam.segs = true) :
    (qualifierReturn g true d).segment g = { (d.segment g).remapping with lostE := false } := by
  have hrun : qualifierReturn g true d = startRemap g (d.setSegment g { d.segment g with lostE := false }) := if_pos (by simp [hl, hp])
  have hseg : (d.setSegment g { d.segment g with lostE := false }).segment g = { d.segment g with lostE := false } :=
    segment_setSegment_same hws
  rw [hrun, (startRemap_completes (d := d.setSegment g { d.segment g with lostE := false }) hg hp (by rw [hseg, ht]) hw
    (setSegment_segsWf hws)).1, hseg]
  rfl

/-! ### The release at the armed boundary -/

theorem safeCause_congr (hreg : ∀ n, e.reg (domStatA n) = d.reg (domStatA n)) (hsys : e.sys = d.sys) : e.safeCause = d.safeCause := by
  have hforced (n : Nat) : e.forced n = d.forced n := Device.bit_congr (hreg n)
  have hup (h : Half) : e.up h = d.up h := by cases h <;> simp only [Device.up, hsys]
  simp only [Device.safeCause, Device.clockCause, hforced, hup, hsys]

/-- A wake does not end while a cause of Safe hold stands. -/
theorem wakeDone_of_safe (hs : d.safeCause ≠ 0) : wakeDone d = d := by
  have hmode : d.modeCode = 5 := if_pos hs
  simp [wakeDone, hmode]

/-- Where no seam segment is watched and a cause of Safe hold stays, what follows is the end of a wake and the update. -/
theorem moved_of_safe {x : Device} (hq : watchedSegs d = []) (hs : d.safeCause ≠ 0 → x.safeCause ≠ 0) :
    d.moved x = d.updated (wakeDone x) := by
  have hend : holdEnd (fun _ => x) d = x := if_neg (by simpa using hs)
  have hmode : modeEffects (fun _ => x) d = wakeDone x :=
    (seamWatch_of_unwatched hq).trans (congrArg wakeDone hend)
  unfold Device.moved Device.updated Device.oneUpdate
  rw [hmode]

/-- The device whose segments the armed boundary releases. -/
def seamDisarmed (d : Device) : Device := Device.putBit { d with seam := { d.seam with armed := none } } seamStat 30 false

theorem seamRelease_of_disarmed (ha : d.seam.armed = none) : seamRelease d = d := by simp [seamRelease, ha]

/-- With neither half lost and no pattern loaded, no field or pin waits for the release. -/
theorem seamRelease_of_armed {b : Nat} (ha : d.seam.armed = some b) (hW : d.lost .w = false) (hE : d.lost .e = false)
    (hp : (seamReleaseAll (seamDisarmed d)).load.pattern = none) :
    seamRelease d = (wakeDone (seamReleaseAll (seamDisarmed d))).settle := by
  have hlost (h : Half) : (seamDisarmed d).lost h = false := by
    cases h
    · exact hW
    · exact hE
  have hback : [Half.w, Half.e].filter (fun h => (seamDisarmed d).lost h && (seamDisarmed d).up h) = [] := by simp [hlost]
  unfold seamRelease
  rw [ha]
  change Device.settle (wakeDone _) = _
  simp only [← seamDisarmed.eq_def, hback]
  simp [Device.each, hp]

theorem domStatA_ne_seamStat (n : Nat) : domStatA n ≠ seamStat := by
  unfold domStatA pwrA seamStat seamA
  omega

theorem seamDisarmed_wf (hw : tabWf regDefault d.regs = true) : tabWf regDefault (seamDisarmed d).regs = true := Device.putBit_wf hw

theorem seamDisarmed_reg {a : Nat} (ha : a ≠ seamStat) (hw : tabWf regDefault d.regs = true) : (seamDisarmed d).reg a = d.reg a :=
  Device.reg_setReg_ne { d with seam := { d.seam with armed := none } } _ _ _ ha hw

theorem seamDisarmed_flag (hw : tabWf regDefault d.regs = true) : (seamDisarmed d).bit seamStat 30 = false := by
  have harmed : tabWf regDefault ({ d with seam := { d.seam with armed := none } } : Device).regs = true := hw
  exact Device.bit_putBit_same (by decide) harmed

/-- The release itself raises and ends no cause of Safe hold. -/
theorem ReleaseKept.safeCause (h : ReleaseKept (seamDisarmed d) e) (hw : tabWf regDefault d.regs = true) : e.safeCause = d.safeCause :=
  safeCause_congr (fun n => (Device.reg_congr h.regs).trans (seamDisarmed_reg (domStatA_ne_seamStat n) hw)) h.sys

theorem settle_safeCause (d : Device) : d.settle.safeCause = d.safeCause := safeCause_congr (fun _ => settle_reg d _) (by rw [settle_eq])

end

/-! ### Where the commands complete -/

section
variable {s : State} {g : Fin 110}

/-- A command of the seam gives what its operation does. -/
theorem lift_of_unwatched {f : Device → Device} (hq : watchedSegs s.dev = []) :
    s.lift (seamWatch f) = .next { s with dev := f s.dev } := by
  rw [lift_gives, seamWatch_of_unwatched hq]

section
variable (hq : watchedSegs s.dev = [])
include hq

theorem gives_seamTrain (fw fe) :
    gives (.seamTrain g fw fe) s (seamTrain g.val (fw.map (fun k => k.val)) (fe.map (fun k => k.val)) s.dev) := lift_of_unwatched hq
theorem gives_seamParityThreshold : gives (.seamParityThreshold g) s (parityThreshold g.val s.dev) := lift_of_unwatched hq
theorem gives_seamFlitThreshold : gives (.seamFlitThreshold g) s (flitThreshold g.val s.dev) := lift_of_unwatched hq
theorem gives_seamSlip : gives (.seamSlip g) s (seamSlip g.val s.dev) := lift_of_unwatched hq
theorem gives_seamContention (k) : gives (.seamContention g k) s (seamContention g.val k.val s.dev) := lift_of_unwatched hq
theorem gives_qualifierReturn (intoE) : gives (.qualifierReturn g intoE) s (qualifierReturn g.val intoE s.dev) := lift_of_unwatched hq
theorem gives_remapRelease : gives (.remapRelease g) s (remapRelease g.val s.dev) := lift_of_unwatched hq
theorem gives_seamLoss (intoE) : gives (.seamLoss g intoE) s (seamLoss g.val intoE s.dev) := lift_of_unwatched hq
theorem gives_retrainSegment (mc n) : gives (.retrainSegment mc n) s (retrainSegment mc n.toNat s.dev) := lift_of_unwatched hq
theorem gives_retrainAll (mc) : gives (.retrainAll mc) s (retrainAll mc s.dev) := lift_of_unwatched hq

end

theorem gives_armRelease (mc) : gives (.armRelease mc) s (s.dev.byThimble mc armAtBoundary) := rfl
theorem gives_seamRelease : gives .seamRelease s (s.dev.moved (seamRelease s.dev)) := liftMode_gives s _

/-- Commands that only Thimble gives. -/
theorem seam_refused {mc : MClass} (hq : watchedSegs s.dev = []) (hm : mc.val ≠ 3) (n : BitVec 7) :
    exec (.retrainSegment mc n) s = .next { s with dev := s.dev.answer 8 [] } ∧
      exec (.retrainAll mc) s = .next { s with dev := s.dev.answer 8 [] } ∧ exec (.armRelease mc) s = .next { s with dev := s.dev.answer 8 [] } :=
  ⟨gives_of_eq (gives_retrainSegment hq mc n) (byThimble_of_other hm), gives_of_eq (gives_retrainAll hq mc) (byThimble_of_other hm),
    gives_of_eq (gives_armRelease mc) (byThimble_of_other hm)⟩

/-- The triggers of a segment that is in use, while the other half is not lost. -/
theorem triggers_complete (hq : watchedSegs s.dev = []) (hp : peerLost s.dev = false) (ht : (s.dev.segment g.val).training = false)
    (hw : tabWf regDefault s.dev.regs = true) (hws : tabWf segReset s.dev.seam.segs = true) :
    ∀ y, y = (s.dev.segment g.val).remapping →
    (∃ t, exec (.seamParityThreshold g) s = .next t ∧ t.dev.segment g.val = y ∧ t.dev.bit seamStat 26 = true ∧
      t.dev.bit (segStat g.val) 28 = true ∧ t.dev.fld (segStat g.val) 16 8 = (s.dev.fld (segStat g.val) 16 8 + 1) % 256) ∧
    (∃ t, exec (.seamSlip g) s = .next t ∧ t.dev.segment g.val = y ∧ t.dev.bit seamStat 27 = true) ∧
    (100 ≤ g.val → ∃ t, exec (.seamFlitThreshold g) s = .next t ∧ t.dev.segment g.val = y) ∧
    (∀ k : Fin 146, k.val < segWork g.val + segSpares g.val → spareDriven s.dev g.val k.val = true →
      ∃ t, exec (.seamContention g k) s = .next t ∧ t.dev.bit seamStat 28 = true ∧ (t.dev.segment g.val).remap = true ∧
        k.val ∈ (t.dev.segment g.val).mapW.failed ∧ k.val ∈ (t.dev.segment g.val).mapE.failed) ∧
    (∃ t, exec (.retrainSegment 3 (BitVec.ofNat 7 g.val)) s = .next t ∧ t.dev.rsp.status = 0 ∧ t.dev.segment g.val = y) ∧
    (∃ t, exec (.retrainAll 3) s = .next t ∧ t.dev.rsp.status = 0 ∧ t.dev.segment g.val = y) ∧
    ((s.dev.segment g.val).lostE = true →
      ∃ t, exec (.qualifierReturn g true) s = .next t ∧ t.dev.segment g.val = { y with lostE := false }) := by
  rintro y rfl
  have hflag {f : Nat} (hf : 14 ≤ f) (hf' : f < 31) := startRemap_of_flag hf hf' g.isLt hp ht hw hws _ rfl
  refine ⟨⟨_, gives_seamParityThreshold hq, hflag (by decide) (by decide)⟩, ⟨_, gives_seamSlip hq, ?_⟩, fun h100 => ?_, fun k hk hdrv => ?_,
    ⟨_, gives_of_eq (gives_retrainSegment hq 3 _) (byThimble_of_thimble rfl), rfl, ?_⟩,
    ⟨_, gives_of_eq (gives_retrainAll hq 3) (byThimble_of_thimble rfl), rfl, ?_⟩, fun hlost => ?_⟩
  case refine_1 =>
    obtain ⟨hseg, hbit, -⟩ := hflag (f := 27) (by decide) (by decide)
    exact ⟨hseg, hbit⟩
  case refine_2 =>
    exact ⟨_, gives_of_eq (gives_seamFlitThreshold hq) (if_neg (by omega)), (startRemap_completes g.isLt hp ht hw hws).1⟩
  case refine_3 => exact ⟨_, gives_seamContention hq k, seamContention_completes g.isLt hk hdrv hp ht hw hws _ rfl⟩
  case refine_4 =>
    have hg : (BitVec.ofNat 7 g.val).toNat = g.val := by simp; omega
    have hlast : SeamShown s.dev (s.dev.setFld (seamA 0) 0 7 g.val) := (SeamShown.refl hw).setReg (by decide)
    rw [hg]
    exact (startRemap_completes g.isLt (hlast.peerLost.trans hp) ht hlast.wf hws).1
  case refine_5 => exact each_startRemap_segment g.isLt (List.mem_range.mpr g.isLt) hp ht hw hws
  case refine_6 =>
    exact ⟨_, gives_qualifierReturn hq true, qualifierReturn_completes g.isLt hlost hp ht hw hws⟩

/-- The armed boundary is reached with neither half lost and no pattern loaded. -/
theorem seamRelease_completes {b : Nat} (hq : watchedSegs s.dev = []) (ha : s.dev.seam.armed = some b) (hp : s.dev.load.pattern = none)
    (hW : s.dev.lost .w = false) (hE : s.dev.lost .e = false) (ht : (s.dev.segment g.val).trained = true)
    (hr : (s.dev.segment g.val).released = false) (hs : s.dev.bit (segStat g.val) 29 = false)
    (hw : tabWf regDefault s.dev.regs = true) (hws : tabWf segReset s.dev.seam.segs = true) :
    ∃ t, exec .seamRelease s = .next t ∧ t.dev.seam.armed = none ∧ t.dev.segment g.val = (s.dev.segment g.val).releasing ∧
      t.dev.bit seamStat 30 = false := by
  obtain ⟨hkept, hseg⟩ := seamReleaseAll_completes (d := seamDisarmed s.dev) g.isLt ht hr
    ((Device.bit_congr (seamDisarmed_reg segStat_ne_seamStat hw)).trans hs) hws
  have hrun := seamRelease_of_armed ha hW hE ((congrArg LoadState.pattern hkept.load).trans hp)
  have hsafe : s.dev.safeCause ≠ 0 → (seamRelease s.dev).safeCause ≠ 0 := by
    rw [hrun, settle_safeCause, ← hkept.safeCause hw]
    exact fun h => by rwa [wakeDone_of_safe h]
  have hwf : tabWf regDefault (seamReleaseAll (seamDisarmed s.dev)).regs = true := by
    rw [hkept.regs]
    exact seamDisarmed_wf hw
  have hend : SeamKept (seamReleaseAll (seamDisarmed s.dev)) (s.dev.updated (wakeDone (seamRelease s.dev))) := by
    rw [hrun]
    exact (SeamKept.refl hwf).wakeDone.settle.wakeDone.updated
  refine ⟨_, gives_of_eq gives_seamRelease (moved_of_safe hq hsafe), ?_, (hend.segment _).trans hseg, ?_⟩
  · exact (congrArg SeamState.armed hend.seam).trans hkept.armed
  · exact (hend.bit seamStat_seamReg).trans ((Device.bit_congr (Device.reg_congr hkept.regs)).trans (seamDisarmed_flag hw))

end

/-- Settles O39: command by command. ARM_RELEASE of a boundary that may not be armed answers OK and does nothing (log entry 88). That no
segment lies between two replayed fields is a hypothesis, so no gap is recorded. -/
theorem seamCompletes : Obligations.SeamCompletes := by
  rintro s g hw hws hq hb x rfl
  refine ⟨fun fw fe hW hE ht => ?_, fun hW hE hs _ ht => triggers_complete hq (peerLost_of_up hW hE hs) ht hw hws,
    fun h100 => gives_of_eq (gives_seamFlitThreshold hq) (if_pos h100),
    fun k hk => gives_of_eq (gives_seamContention hq k) (if_pos (by simp [hk])), fun mc hm => seam_refused hq hm _,
    fun hr ht hf => ⟨_, gives_remapRelease hq, remapRelease_completes g.isLt hr ht hf hb hw hws⟩,
    fun intoE ha hf => ⟨_, gives_seamLoss hq intoE, seamLoss_completes ha hf hb hw hws⟩, ?_,
    fun b ha hp hW hE ht hr hs => seamRelease_completes hq ha hp hW hE ht hr hs hw hws,
    fun ha => gives_of_eq gives_seamRelease (by rw [seamRelease_of_disarmed ha])⟩
  case refine_1 =>
    obtain ⟨hseg, hother⟩ := seamTrain_completes (g := g.val) (fw := fw.map (fun k => k.val)) (fe := fe.map (fun k => k.val)) hW hE ht hw hws
    rw [List.map_append]
    refine ⟨_, gives_seamTrain hq fw fe, ?_, ?_, ?_, ?_, ?_, hother⟩ <;> simp only [hseg] <;> rfl
  case refine_2 =>
    rintro b rfl
    refine ⟨fun hpast => completes_of_thimble (gives_armRelease 3) rfl (armAtBoundary_of_passed hpast), fun hahead harm => ?_,
      fun hahead harm => completes_of_thimble (gives_armRelease 3) rfl (armAtBoundary_of_unarmable hahead harm)⟩
    obtain ⟨harmed, hflag⟩ := armAtBoundary_of_armable hahead harm hw
    exact ⟨_, completes_of_thimble (gives_armRelease 3) rfl rfl, harmed, hflag, rfl⟩

end Sys2Proof.Machine
end

section
/-!
Transceiver lanes: their registers and their table, and what the operations that many commands share leave (11_transceivers R303 to R311).
-/
namespace Sys2Proof.Machine

section
variable {d e : Device} {l j o o' a k : Nat}

/-! ### Addresses (R321, R322) -/

theorem laneA_inj : laneA l o = laneA l o' ↔ o = o' := by
  unfold laneA quadA
  omega

theorem laneA_ne (h : o ≠ o') : laneA l o ≠ laneA l o' := mt laneA_inj.mp h

theorem laneStat_inj : laneStat j = laneStat l ↔ j = l := by
  unfold laneStat laneA quadA
  omega

theorem laneA_ne_laneCtl (h : o ≠ 0x100) : laneA l o ≠ laneCtl l := laneA_ne h

theorem laneCtl_ne_laneStat : laneCtl j ≠ laneStat l := by
  unfold laneCtl laneStat laneA quadA
  omega

theorem quadA_ne_laneA {q : Nat} (h : 0 < o) (ho : o < 0x1000) : quadA q 0 ≠ laneA l o := by
  unfold laneA quadA
  omega

/-! ### The table of lanes -/

theorem Device.lane_setLane {y : Lane} (hl : tabWf laneReset d.lanes = true) : (d.setLane l y).lane l = y := tabGet_tabSet_same _ _ _ _ hl

theorem Device.setLane_lanesWf {y : Lane} (hl : tabWf laneReset d.lanes = true) : tabWf laneReset (d.setLane l y).lanes = true :=
  tabWf_tabSet _ _ _ _ hl

theorem Device.lane_congr (h : e.lanes = d.lanes) : e.lane l = d.lane l := by rw [Device.lane, h, ← Device.lane]

/-! ### Electrical idle (R308, R311) -/

/-- Device `e` has the registers that `d` has, but for the two bits of lane `l` that show electrical idle and its force. -/
structure IdleShown (l : Nat) (d e : Device) : Prop where
  wf : tabWf regDefault e.regs = true
  reg : ∀ a, a ≠ laneStat l → e.reg a = d.reg a
  bit : ∀ k, k ≠ 27 → k ≠ 29 → e.bit (laneStat l) k = d.bit (laneStat l) k

theorem IdleShown.refl (hw : tabWf regDefault d.regs = true) : IdleShown l d d := ⟨hw, fun _ _ => rfl, fun _ _ _ => rfl⟩

theorem IdleShown.ite {c : Prop} [Decidable c] {x : Device} (h : IdleShown l d e) (hx : IdleShown l d x) :
    IdleShown l d (if c then e else x) := by
  split <;> assumption

theorem IdleShown.setLane {y : Lane} (h : IdleShown l d e) : IdleShown l d (e.setLane j y) := ⟨h.wf, h.reg, h.bit⟩

theorem IdleShown.putBit {b : Bool} (h : IdleShown l d e) (hk : k = 27 ∨ k = 29) : IdleShown l d (e.putBit (laneStat l) k b) where
  wf := Device.putBit_wf h.wf
  reg a ha := (Device.reg_putBit_ne ha h.wf).trans (h.reg a ha)
  bit i h27 h29 := (Device.bit_putBit_ne (by omega) (by omega) h.wf).trans (h.bit i h27 h29)

theorem laneEval_shown (hw : tabWf regDefault d.regs = true) : IdleShown l d (laneEval l d) :=
  have hput : IdleShown l d ((d.putBit (laneStat l) 29 (laneIdle d l)).putBit (laneStat l) 27 (laneForced d l)) :=
    ((IdleShown.refl hw).putBit (.inr rfl)).putBit (.inl rfl)
  .ite hput.setLane (.ite hput.setLane hput)

/-- A transition starts or ends a burst, and keeps the rest of the lane. -/
theorem laneEval_lane (hl : tabWf laneReset d.lanes = true) :
    ∃ b t, (laneEval l d).lane l = { d.lane l with burst := b, txBegun := t } := by
  unfold laneEval
  extract_lets _ _ d1
  have hl1 : tabWf laneReset d1.lanes = true := hl
  split_ifs
  · exact ⟨true, false, Device.lane_setLane hl1⟩
  · exact ⟨false, _, Device.lane_setLane hl1⟩
  · exact ⟨_, _, rfl⟩

/-- The same where the lane has just been written. -/
theorem laneEval_setLane {y : Lane} (hw : tabWf regDefault d.regs = true) (hl : tabWf laneReset d.lanes = true) :
    IdleShown l d (laneEval l (d.setLane l y)) ∧ ∃ b t, (laneEval l (d.setLane l y)).lane l = { y with burst := b, txBegun := t } := by
  obtain ⟨b, t, hlane⟩ := laneEval_lane (l := l) (Device.setLane_lanesWf (l := l) (y := y) hl)
  have hshown := laneEval_shown (l := l) (d := d.setLane l y) hw
  rw [Device.lane_setLane hl] at hlane
  exact ⟨⟨hshown.wf, hshown.reg, hshown.bit⟩, b, t, hlane⟩

/-! ### Equaliser registers (R304 to R306) -/

/-- Device `e` has the lanes of `d`, and its registers but for those at `as`. -/
structure WritesOnly (as : List Nat) (d e : Device) : Prop where
  wf : tabWf regDefault e.regs = true
  reg : ∀ a, a ∉ as → e.reg a = d.reg a
  lanes : e.lanes = d.lanes

theorem WritesOnly.refl {as : List Nat} (hw : tabWf regDefault d.regs = true) : WritesOnly as d d := ⟨hw, fun _ _ => rfl, rfl⟩

theorem WritesOnly.setReg {as : List Nat} {v : Word} (h : WritesOnly as d e) (ha : a ∈ as) : WritesOnly as d (e.setReg a v) where
  wf := Device.setReg_wf _ _ _ h.wf
  reg b hb := (Device.reg_setReg_ne _ _ _ _ (by rintro rfl; exact hb ha) h.wf).trans (h.reg b hb)
  lanes := h.lanes

/-- A step over an equaliser register, which is written where `c` holds. -/
def eqStep (l : Nat) (c : Device → (Nat × Nat) × Nat → Bool) (v : Device → (Nat × Nat) × Nat → Word) (d : Device)
    (x : (Nat × Nat) × Nat) : Device :=
  if c d x then d.setReg (laneA l x.1.1) (v d x) else d

section
variable {c : Device → (Nat × Nat) × Nat → Bool} {v : Device → (Nat × Nat) × Nat → Word}

/-- Steps write the registers that they name. -/
theorem eqSteps_writesOnly {xs : List ((Nat × Nat) × Nat)} (hw : tabWf regDefault d.regs = true) :
    WritesOnly (xs.map fun x => laneA l x.1.1) d (d.each xs (eqStep l c v)) := by
  refine List.foldlRecOn (motive := WritesOnly _ d) _ _ (.refl hw) fun e he x hx => ?_
  unfold eqStep
  split
  · exact he.setReg (List.mem_map_of_mem hx)
  · exact he

/-- The addresses of the equaliser registers lie above those of the other registers of R303 to R307. -/
theorem laneA_notMem_eqRegs (h : o < 0x12C) : laneA l o ∉ eqRegs.zipIdx.map fun x => laneA l x.1.1 := by
  simp only [eqRegs, List.zipIdx_cons, List.zipIdx_nil, List.map_cons, List.map_nil, List.mem_cons, List.not_mem_nil, laneA_inj, or_false]
  omega

/-- The first register is the CTLE's: no later step writes it. -/
theorem eqSteps_ctle (hw : tabWf regDefault d.regs = true) :
    (d.each eqRegs.zipIdx (eqStep l c v)).reg (laneA l 0x12C) =
      if c d ((0x12C, 0), 0) then v d ((0x12C, 0), 0) else d.reg (laneA l 0x12C) := by
  have hlater : laneA l 0x12C ∉ eqRegs.zipIdx.tail.map fun x => laneA l x.1.1 := by simp [eqRegs, laneA_inj]
  have hfirst : WritesOnly [laneA l 0x12C] d (eqStep l c v d ((0x12C, 0), 0)) := eqSteps_writesOnly (xs := [((0x12C, 0), 0)]) hw
  refine ((eqSteps_writesOnly hfirst.wf).reg _ hlater).trans ?_
  unfold eqStep
  split
  · exact Device.reg_setReg_same _ _ _ hw
  · rfl

end

theorem eqRestart_eq (all : Bool) (l : Nat) (d : Device) :
    eqRestart all l d = d.each eqRegs.zipIdx (eqStep l (fun d x => all || eqMode d l x.1.2 != 0) (fun d x => eqStart d l x.2)) := rfl

theorem eqRestart_writesOnly {all : Bool} (hw : tabWf regDefault d.regs = true) :
    WritesOnly (eqRegs.zipIdx.map fun x => laneA l x.1.1) d (eqRestart all l d) := eqSteps_writesOnly hw

/-! ### XCV_LANE_CTRL (R300 to R303) -/

/-- The fields that are taken only while en is 0: use, pam4, width, d and rclk_div. -/
def laneFixed : Word := 0x1FE003FF

/-- The settings that a write brings: what is not defined reads 0, and a rate code that names nothing reads 15. -/
def laneSettings (v : Word) : Word :=
  if fieldOf (v &&& 0x1FFCF3FF) 12 4 ≥ 12 then withField (v &&& 0x1FFCF3FF) 12 4 15 else v &&& 0x1FFCF3FF

/-- What a write leaves of them while en is 1. -/
def laneMerged (v old : Word) : Word := (laneSettings v &&& ~~~laneFixed) ||| (old &&& laneFixed)

section
variable {v old : Word}

theorem laneSettings_of_lt (h : fieldOf v 12 4 < 12) : laneSettings v = v &&& 0x1FFCF3FF := by
  refine if_neg ?_
  rw [fieldOf_and_mask (by decide)]
  omega

theorem fieldOf_laneSettings_en : fieldOf (laneSettings v) 18 1 = fieldOf v 18 1 := by
  unfold laneSettings
  split
  · rw [fieldOf_withField_ne _ _ _ _ _ _ (by decide) (by decide), fieldOf_and_mask (by decide)]
  · exact fieldOf_and_mask (by decide)

theorem laneMerged_fixed : laneMerged v old &&& laneFixed = old &&& laneFixed := by
  refine BitVec.eq_of_getLsbD_eq fun i hi => ?_
  simp only [laneMerged, BitVec.getLsbD_and, BitVec.getLsbD_or, BitVec.getLsbD_not, hi, decide_true, Bool.true_and]
  cases laneFixed.getLsbD i <;> simp

theorem fieldOf_laneMerged_en : fieldOf (laneMerged v old) 18 1 = fieldOf v 18 1 := by
  have hbit : laneFixed.getLsbD 18 = false := by decide
  rw [← fieldOf_laneSettings_en (v := v), fieldOf_one, fieldOf_one, laneMerged, BitVec.getLsbD_or, BitVec.getLsbD_and, BitVec.getLsbD_and,
    BitVec.getLsbD_not, hbit, Bool.and_false, Bool.or_false]
  simp

end

section
variable {v : Word}

theorem laneCtrlCmd_of_no_cmd (h : fieldOf v 29 3 = 0) : laneCtrlCmd l v d = laneCtrlWrite l v d := by
  simp only [laneCtrlCmd, h]

theorem laneOnEn_iff : d.laneOnEn l = true ↔ fieldOf (d.reg (laneCtl l)) 18 1 = 1 := beq_iff_eq

/-- The device after a write of an enabled lane's settings. -/
def laneResettled (l : Nat) (v : Word) (d : Device) : Device :=
  (if laneSettings v &&& laneFixed = d.reg (laneCtl l) &&& laneFixed then d else laneFlag l 2 d).setReg (laneCtl l)
    (laneMerged v (d.reg (laneCtl l)))

theorem laneCtrlWrite_of_enabled (hon : d.laneOnEn l = true) :
    laneCtrlWrite l v d = if fieldOf v 18 1 = 1 then laneResettled l v d else laneDisable l (laneResettled l v d) := by
  have hrun : laneCtrlWrite l v d =
      if fieldOf (laneSettings v) 18 1 == 1 then laneResettled l v d else laneDisable l (laneResettled l v d) :=
    if_pos (laneOnEn_iff.mp hon)
  simp only [hrun, fieldOf_laneSettings_en, beq_iff_eq]

/-- The frequency of the reference for an enable (R299), a free value from 10 to 800 MHz. -/
def refHz (d : Device) : Nat := 10000000 + d.takeFree.1 % 790000001

/-- The device whose settings an enable has written, and which has looked at its reference. -/
def enableTried (l : Nat) (v : Word) (d : Device) : Device := (d.setReg (laneCtl l) (laneSettings v)).takeFree.2

theorem enableTried_wf (hw : tabWf regDefault d.regs = true) : tabWf regDefault (enableTried l v d).regs = true :=
  Device.setReg_wf _ _ _ hw

theorem enableTried_ctl (hw : tabWf regDefault d.regs = true) : (enableTried l v d).reg (laneCtl l) = laneSettings v :=
  Device.reg_setReg_same _ _ _ hw

theorem enableTried_reg (ha : a ≠ laneCtl l) (hw : tabWf regDefault d.regs = true) : (enableTried l v d).reg a = d.reg a :=
  Device.reg_setReg_ne _ _ _ _ ha hw

/-- The device whose lane an enable takes. -/
def laneEnabled (l : Nat) (d : Device) : Device :=
  laneEval l ((d.putBit (laneStat l) 31 (quadRefOk d l)).setLane l
    { d.lane l with start := eqRegs.map (fun x => d.reg (laneA l x.1)), idle := true, frozen := false })

theorem laneCtrlWrite_of_disabled (hoff : d.laneOnEn l = false) (hen : fieldOf v 18 1 = 1) :
    laneCtrlWrite l v d = if laneFits (d.setReg (laneCtl l) (laneSettings v)) l (refHz d) then
      laneEnabled l (enableTried l v d)
    else laneFlag l 2 ((enableTried l v d).putBit (laneCtl l) 18 false) := by
  have hold : ¬ fieldOf (d.reg (laneCtl l)) 18 1 = 1 := mt laneOnEn_iff.mpr (by simp [hoff])
  have hnew : ¬ (!(fieldOf (laneSettings v) 18 1 == 1)) = true := by simp [fieldOf_laneSettings_en, hen]
  refine (if_neg hold).trans ((if_neg hnew).trans ?_)
  cases hfit : laneFits (d.setReg (laneCtl l) (laneSettings v)) l (refHz d)
  · exact if_pos (by rw [Bool.not_eq_true']; exact hfit)
  · exact if_neg (by rw [Bool.not_eq_true']; exact ne_of_eq_of_ne hfit (by decide))

theorem laneFits_of_low {hz : Nat} (h : d.fld (laneA l 0x104) 0 12 < 16) : laneFits d l hz = false := by
  have hn : ¬ 16 ≤ d.fld (laneA l 0x104) 0 12 := by omega
  simp [laneFits, hn]

end

end
end Sys2Proof.Machine
end

section
/-!
What the lanes' operations do (11_transceivers R299 to R318): one lemma for each operation and case.
-/
namespace Sys2Proof.Machine

section
variable {d : Device} {l : Nat}

/-! ### Idle requests and adaptation (R305, R308) -/

theorem idleCmd_of_raw {enter : Bool} (hu : d.laneUse l = 1) :
    idleCmd l enter d = laneEval l (d.setLane l { d.lane l with idle := enter }) := if_pos (.inl hu)

theorem idleCmd_of_host {enter : Bool} (hu : d.laneUse l = 4) : idleCmd l enter d = d.setBit (laneStat l) 6 :=
  if_neg (by rw [hu]; decide)

theorem idleReq_of_raw {level : Bool} (hu : d.laneUse l = 1) :
    idleReq l level d = laneEval l (d.setLane l { d.lane l with idleReq := level }) := if_pos hu

theorem adaptRestart_shows (hw : tabWf regDefault d.regs = true) :
    (adaptRestart l d).bit (laneA l 0x128) 8 = false ∧ (adaptRestart l d).lanes = d.lanes ∧
      (eqMode d l 0 = 1 → (adaptRestart l d).reg (laneA l 0x12C) = eqStart d l 0) := by
  have hrestart := eqRestart_writesOnly (l := l) (all := false) hw
  refine ⟨Device.bit_putBit_same (by decide) hrestart.wf, hrestart.lanes, fun hmode => ?_⟩
  refine (Device.reg_putBit_ne (laneA_ne (by decide)) hrestart.wf).trans ?_
  rw [eqRestart_eq, eqSteps_ctle hw]
  exact if_pos (by rw [hmode]; rfl)

theorem adaptConverged_of_locked {taps : List Word} (hon : d.laneOnEn l = true) (hf : (d.lane l).frozen = false)
    (hk : d.bit (laneStat l) 30 = true) : adaptConverged l taps d =
      (d.each eqRegs.zipIdx (eqStep l (fun d x => eqAdapts d l x.1.2) (fun d x => nth taps x.2 (d.reg (laneA l x.1.1))))).setBit
        (laneA l 0x128) 8 :=
  if_neg (by simp [hon, hf, hk])

theorem nth_of_lt {α : Type} {xs : List α} {n : Nat} {x y : α} (h : n < xs.length) : nth xs n x = nth xs n y := by
  simp [nth, h]

theorem adaptConverged_shows {taps : List Word} (hon : d.laneOnEn l = true) (hf : (d.lane l).frozen = false)
    (hk : d.bit (laneStat l) 30 = true) (ht : taps.length = 6) (hw : tabWf regDefault d.regs = true) :
    (adaptConverged l taps d).bit (laneA l 0x128) 8 = true ∧ (adaptConverged l taps d).lanes = d.lanes ∧
      (eqAdapts d l 0 = true → (adaptConverged l taps d).reg (laneA l 0x12C) = nth taps 0 0) ∧
      (eqAdapts d l 0 = false → (adaptConverged l taps d).reg (laneA l 0x12C) = d.reg (laneA l 0x12C)) := by
  rw [adaptConverged_of_locked hon hf hk]
  have hsteps := eqSteps_writesOnly (l := l) (c := fun d x => eqAdapts d l x.1.2) (v := fun d x => nth taps x.2 (d.reg (laneA l x.1.1)))
    (xs := eqRegs.zipIdx) hw
  rw [Device.reg_setBit_ne (laneA_ne (by decide)) hsteps.wf, eqSteps_ctle hw]
  exact ⟨Device.bit_setBit_same (by decide) hsteps.wf, hsteps.lanes, fun ha => (if_pos ha).trans (nth_of_lt (by omega)),
    fun ha => if_neg (by simp [ha])⟩

/-! ### PRBS and the eye (R316 to R318) -/

theorem prbsErrRead_shows (hw : tabWf regDefault d.regs = true) :
    (prbsErrRead l d).reg (laneA l 0x188) = BitVec.ofNat 32 (d.lane l).errs ∧
      (prbsErrRead l d).reg (laneA l 0x18C) = BitVec.ofNat 32 ((d.lane l).errs / 2 ^ 32) ∧
      (prbsErrRead l d).reg (laneA l 0x190) = BitVec.ofNat 32 (d.lane l).bits ∧
      (prbsErrRead l d).reg (laneA l 0x194) = BitVec.ofNat 32 ((d.lane l).bits / 2 ^ 32) ∧ (prbsErrRead l d).lanes = d.lanes := by
  have h1 := Device.setReg_wf d (laneA l 0x188) (BitVec.ofNat 32 (d.lane l).errs) hw
  have h2 := Device.setReg_wf _ (laneA l 0x18C) (BitVec.ofNat 32 ((d.lane l).errs / 2 ^ 32)) h1
  have h3 := Device.setReg_wf _ (laneA l 0x190) (BitVec.ofNat 32 (d.lane l).bits) h2
  refine ⟨?_, ?_, ?_, Device.reg_setReg_same _ _ _ h3, rfl⟩
  · exact (Device.reg_setReg_ne _ _ _ _ (laneA_ne (by decide)) h3).trans ((Device.reg_setReg_ne _ _ _ _ (laneA_ne (by decide)) h2).trans
      ((Device.reg_setReg_ne _ _ _ _ (laneA_ne (by decide)) h1).trans (Device.reg_setReg_same _ _ _ hw)))
  · exact (Device.reg_setReg_ne _ _ _ _ (laneA_ne (by decide)) h3).trans ((Device.reg_setReg_ne _ _ _ _ (laneA_ne (by decide)) h2).trans
      (Device.reg_setReg_same _ _ _ h1))
  · exact (Device.reg_setReg_ne _ _ _ _ (laneA_ne (by decide)) h3).trans (Device.reg_setReg_same _ _ _ h2)

theorem prbsSync_of_selected (hs : d.fld (prbsCtl l) 8 3 ≠ 0) :
    prbsSync l d = (d.setLane l { d.lane l with chk := (d.lane l).rxHist }).setBit (prbsStat l) 31 := if_neg hs

theorem prbsLost_shows (hs : d.bit (prbsStat l) 31 = true) (hw : tabWf regDefault d.regs = true) :
    (prbsLost l d).bit (prbsStat l) 31 = false ∧ (prbsLost l d).bit (prbsStat l) 30 = true := by
  have hrun : prbsLost l d = (d.putBit (prbsStat l) 31 false).setBit (prbsStat l) 30 := if_pos hs
  have hput : tabWf regDefault (d.putBit (prbsStat l) 31 false).regs = true := Device.putBit_wf hw
  rw [hrun, Device.bit_setBit_ne (by decide) (by decide) hput]
  exact ⟨Device.bit_putBit_same (by decide) hw, Device.bit_setBit_same (by decide) hput⟩

theorem eyeDone_shows {n : Nat} (hr : (d.lane l).eyeRun = true) (hw : tabWf regDefault d.regs = true)
    (hl : tabWf laneReset d.lanes = true) : ((eyeDone l n d).lane l).eyeRun = false ∧
      (eyeDone l n d).reg (laneA l 0x1A4) = BitVec.ofNat 32 (sat (2 ^ 32 - 1) n) ∧ (eyeDone l n d).bit (laneA l 0x1A0) 30 = true := by
  have hrun : eyeDone l n d = ((d.setLane l { d.lane l with eyeRun := false }).setReg (laneA l 0x1A4)
      (BitVec.ofNat 32 (sat (2 ^ 32 - 1) n))).setBit (laneA l 0x1A0) 30 := if_pos hr
  have hset := Device.setReg_wf (d.setLane l { d.lane l with eyeRun := false }) (laneA l 0x1A4) (BitVec.ofNat 32 (sat (2 ^ 32 - 1) n)) hw
  rw [hrun]
  exact ⟨congrArg Lane.eyeRun (Device.lane_setLane hl),
    (Device.reg_setBit_ne (laneA_ne (by decide)) hset).trans (Device.reg_setReg_same _ _ _ hw), Device.bit_setBit_same (by decide) hset⟩

/-! ### Enable and disable (R300 to R303) -/

theorem laneResettled_wf {v : Word} (hw : tabWf regDefault d.regs = true) : tabWf regDefault (laneResettled l v d).regs = true := by
  unfold laneResettled
  split
  · exact Device.setReg_wf _ _ _ hw
  · exact Device.setReg_wf _ _ _ (Device.setBit_wf hw)

theorem laneResettled_reg {v : Word} (hw : tabWf regDefault d.regs = true) :
    (laneResettled l v d).reg (laneCtl l) = laneMerged v (d.reg (laneCtl l)) := by
  unfold laneResettled
  split
  · exact Device.reg_setReg_same _ _ _ hw
  · exact Device.reg_setReg_same _ _ _ (Device.setBit_wf hw)

theorem laneResettled_lanes {v : Word} : (laneResettled l v d).lanes = d.lanes := by
  unfold laneResettled
  split <;> rfl

/-- While a lane is enabled its fixed settings stay, and a write that would change them is flagged. -/
theorem laneCtrlCmd_keeps_fixed {v : Word} (hon : d.laneOnEn l = true) (hen : fieldOf v 18 1 = 1) (hcmd : fieldOf v 29 3 = 0)
    (hrate : fieldOf v 12 4 < 12) (hdiff : v &&& laneFixed ≠ d.reg (laneCtl l) &&& laneFixed) (hw : tabWf regDefault d.regs = true) :
    (laneCtrlCmd l v d).bit (laneStat l) 2 = true ∧
      (laneCtrlCmd l v d).reg (laneCtl l) &&& laneFixed = d.reg (laneCtl l) &&& laneFixed := by
  have hsettings : ¬ laneSettings v &&& laneFixed = d.reg (laneCtl l) &&& laneFixed := by
    have hmask : (0x1FFCF3FF : Word) &&& laneFixed = laneFixed := by decide
    rwa [laneSettings_of_lt hrate, BitVec.and_assoc, hmask]
  have hrun : laneCtrlCmd l v d = laneResettled l v d := by
    rw [laneCtrlCmd_of_no_cmd hcmd, laneCtrlWrite_of_enabled hon, if_pos hen]
  rw [hrun, laneResettled_reg hw, laneMerged_fixed]
  refine ⟨?_, rfl⟩
  rw [laneResettled, if_neg hsettings]
  exact (Device.bit_setReg_ne laneCtl_ne_laneStat.symm (Device.setBit_wf hw)).trans (Device.bit_setBit_same (by decide) hw)

/-- An enable of which the settings break a limit is flagged. -/
theorem laneCtrlCmd_of_unfit {v : Word} (hoff : d.laneOnEn l = false) (hen : fieldOf v 18 1 = 1) (hcmd : fieldOf v 29 3 = 0)
    (hfit : laneFits (d.setReg (laneCtl l) (laneSettings v)) l (refHz d) = false) (hw : tabWf regDefault d.regs = true) :
    (laneCtrlCmd l v d).laneOnEn l = false ∧ (laneCtrlCmd l v d).bit (laneStat l) 2 = true ∧ (laneCtrlCmd l v d).lanes = d.lanes := by
  have htried : tabWf regDefault (enableTried l v d).regs = true := enableTried_wf hw
  have hput : tabWf regDefault ((enableTried l v d).putBit (laneCtl l) 18 false).regs = true := Device.putBit_wf htried
  have hrun : laneCtrlCmd l v d = laneFlag l 2 ((enableTried l v d).putBit (laneCtl l) 18 false) := by
    rw [laneCtrlCmd_of_no_cmd hcmd, laneCtrlWrite_of_disabled hoff hen, if_neg (by simp [hfit])]
  rw [hrun]
  exact ⟨(Device.bit_congr (Device.reg_setBit_ne laneCtl_ne_laneStat hput)).trans (Device.bit_putBit_same (by decide) htried),
    Device.bit_setBit_same (by decide) hput, rfl⟩

theorem laneEnabled_shows (hw : tabWf regDefault d.regs = true) (hl : tabWf laneReset d.lanes = true) :
    (laneEnabled l d).reg (laneCtl l) = d.reg (laneCtl l) ∧ ((laneEnabled l d).lane l).idle = true ∧
      (laneEnabled l d).bit (laneStat l) 31 = quadRefOk d l ∧ (laneEnabled l d).bit (laneStat l) 2 = d.bit (laneStat l) 2 := by
  have hput : tabWf regDefault (d.putBit (laneStat l) 31 (quadRefOk d l)).regs = true := Device.putBit_wf hw
  obtain ⟨hshown, b, t, hlane⟩ := laneEval_setLane (l := l) (d := d.putBit (laneStat l) 31 (quadRefOk d l))
    (y := { d.lane l with start := eqRegs.map (fun x => d.reg (laneA l x.1)), idle := true, frozen := false }) hput hl
  refine ⟨?_, congrArg Lane.idle hlane, ?_, ?_⟩
  · exact (hshown.reg _ laneCtl_ne_laneStat).trans (Device.reg_putBit_ne laneCtl_ne_laneStat hw)
  · exact (hshown.bit 31 (by decide) (by decide)).trans (Device.bit_putBit_same (by decide) hw)
  · exact (hshown.bit 2 (by decide) (by decide)).trans (Device.bit_putBit_ne (by decide) (by decide) hw)

/-- An enable within the limits is taken, whatever the rest of the lane's status shows. -/
theorem laneCtrlCmd_of_fit {v : Word} (hoff : d.laneOnEn l = false) (hen : fieldOf v 18 1 = 1) (hcmd : fieldOf v 29 3 = 0)
    (hfit : laneFits (d.setReg (laneCtl l) (laneSettings v)) l (refHz d) = true) (hw : tabWf regDefault d.regs = true)
    (hl : tabWf laneReset d.lanes = true) :
    (laneCtrlCmd l v d).laneOnEn l = true ∧ (laneCtrlCmd l v d).reg (laneCtl l) = laneSettings v ∧
      ((laneCtrlCmd l v d).lane l).idle = true ∧ (laneCtrlCmd l v d).bit (laneStat l) 31 = quadRefOk d l ∧
      (laneCtrlCmd l v d).bit (laneStat l) 2 = d.bit (laneStat l) 2 := by
  have hrun : laneCtrlCmd l v d = laneEnabled l (enableTried l v d) := by
    rw [laneCtrlCmd_of_no_cmd hcmd, laneCtrlWrite_of_disabled hoff hen, if_pos hfit]
  obtain ⟨hctl, hidle, href, hflag⟩ := laneEnabled_shows (l := l) (enableTried_wf (l := l) (v := v) hw) hl
  rw [hrun, laneOnEn_iff, hctl, href, hflag, enableTried_ctl hw, fieldOf_laneSettings_en]
  exact ⟨hen, rfl, hidle, Device.bit_congr (enableTried_reg (quadA_ne_laneA (by decide) (by decide)) hw),
    Device.bit_congr (enableTried_reg laneCtl_ne_laneStat.symm hw)⟩

/-- A disabled lane has no clock, no lock and no adaptation. -/
def laneStopped (l : Nat) (d : Device) : Device :=
  ((d.putBit (laneStat l) 31 false).putBit (laneStat l) 30 false).putBit (laneA l 0x128) 8 false

theorem laneStopped_lanes : (laneStopped l d).lanes = d.lanes := rfl

theorem laneStopped_shows (hw : tabWf regDefault d.regs = true) :
    tabWf regDefault (laneStopped l d).regs = true ∧ (laneStopped l d).reg (laneCtl l) = d.reg (laneCtl l) ∧
      (laneStopped l d).bit (laneStat l) 31 = false ∧ (laneStopped l d).bit (laneStat l) 30 = false := by
  have h31 : tabWf regDefault (d.putBit (laneStat l) 31 false).regs = true := Device.putBit_wf hw
  have h30 : tabWf regDefault ((d.putBit (laneStat l) 31 false).putBit (laneStat l) 30 false).regs = true := Device.putBit_wf h31
  have hstat (k : Nat) : (laneStopped l d).bit (laneStat l) k =
      ((d.putBit (laneStat l) 31 false).putBit (laneStat l) 30 false).bit (laneStat l) k :=
    Device.bit_congr (Device.reg_putBit_ne (laneA_ne (by decide)) h30)
  refine ⟨Device.putBit_wf h30, ?_, ?_, ?_⟩
  · exact (Device.reg_putBit_ne (laneA_ne (by decide)) h30).trans
      ((Device.reg_putBit_ne laneCtl_ne_laneStat h31).trans (Device.reg_putBit_ne laneCtl_ne_laneStat hw))
  · exact (hstat 31).trans ((Device.bit_putBit_ne (by decide) (by decide) h31).trans (Device.bit_putBit_same (by decide) hw))
  · exact (hstat 30).trans (Device.bit_putBit_same (by decide) h31)

/-- The lane of a disabled transceiver, which keeps neither requests nor words. -/
def Lane.disabled (x : Lane) : Lane :=
  { x with idle := true, idleReq := false, burst := false, frozen := false, tx := [], rx := [], txBegun := false }

theorem laneDisable_eq (l : Nat) (d : Device) : laneDisable l d = laneEval l ((laneStopped l (eqRestart true l d)).setLane l
    ((laneStopped l (eqRestart true l d)).lane l).disabled) := by
  unfold laneDisable laneStopped Lane.disabled
  with_reducible rfl

theorem laneDisable_shows (hw : tabWf regDefault d.regs = true) (hl : tabWf laneReset d.lanes = true) :
    (laneDisable l d).reg (laneCtl l) = d.reg (laneCtl l) ∧ (laneDisable l d).bit (laneStat l) 31 = false ∧
      (laneDisable l d).bit (laneStat l) 30 = false ∧ ((laneDisable l d).lane l).tx = [] ∧ ((laneDisable l d).lane l).rx = [] := by
  have hrestart := eqRestart_writesOnly (l := l) (all := true) hw
  obtain ⟨hwf, hctl, h31, h30⟩ := laneStopped_shows (l := l) hrestart.wf
  obtain ⟨hshown, b, t, hlane⟩ := laneEval_setLane (l := l) (d := laneStopped l (eqRestart true l d))
    (y := ((laneStopped l (eqRestart true l d)).lane l).disabled) hwf (by rwa [laneStopped_lanes, hrestart.lanes])
  rw [laneDisable_eq]
  exact ⟨(hshown.reg _ laneCtl_ne_laneStat).trans (hctl.trans (hrestart.reg _ (laneA_notMem_eqRegs (by decide)))),
    (hshown.bit 31 (by decide) (by decide)).trans h31, (hshown.bit 30 (by decide) (by decide)).trans h30,
    congrArg Lane.tx hlane, congrArg Lane.rx hlane⟩

theorem laneCtrlCmd_of_disable {v : Word} (hon : d.laneOnEn l = true) (hen : fieldOf v 18 1 = 0) (hcmd : fieldOf v 29 3 = 0)
    (hw : tabWf regDefault d.regs = true) (hl : tabWf laneReset d.lanes = true) :
    (laneCtrlCmd l v d).laneOnEn l = false ∧ (laneCtrlCmd l v d).bit (laneStat l) 31 = false ∧
      (laneCtrlCmd l v d).bit (laneStat l) 30 = false ∧ ((laneCtrlCmd l v d).lane l).tx = [] ∧ ((laneCtrlCmd l v d).lane l).rx = [] := by
  have hrun : laneCtrlCmd l v d = laneDisable l (laneResettled l v d) := by
    rw [laneCtrlCmd_of_no_cmd hcmd, laneCtrlWrite_of_enabled hon, if_neg (by omega)]
  obtain ⟨hctl, hshown⟩ := laneDisable_shows (l := l) (laneResettled_wf (l := l) (v := v) hw)
    (by rwa [laneResettled_lanes])
  rw [hrun]
  refine ⟨Bool.eq_false_iff.mpr (mt laneOnEn_iff.mp ?_), hshown⟩
  rw [hctl, laneResettled_reg hw, fieldOf_laneMerged_en, hen]
  decide

end
end Sys2Proof.Machine
end

section
/-!
The lanes' receivers, references and raw ports (11_transceivers R299, R306 to R313).
-/
namespace Sys2Proof.Machine

section
variable {d e : Device} {l k : Nat}

/-! ### The receiver (R302, R306, R307, R310) -/

/-- The device whose receiver has locked, before it shows its offset. -/
def rxLocked (l : Nat) (d : Device) : Device :=
  ((d.setLane l { d.lane l with frozen := false }).putBit (laneStat l) 28 false).setBit (laneStat l) 30

theorem rxLock_of_able (hr : rxAble d l = true) :
    rxLock l d = (rxLocked l d).takeFree.2.setFld (laneA l 0x110) 0 16 ((rxLocked l d).takeFree.1 % 65536) := if_pos hr

theorem rxLock_shows (hr : rxAble d l = true) (hw : tabWf regDefault d.regs = true) :
    (rxLock l d).bit (laneStat l) 30 = true ∧ (rxLock l d).bit (laneStat l) 28 = false ∧
      (rxLock l d).lanes = (d.setLane l { d.lane l with frozen := false }).lanes := by
  have hput : tabWf regDefault ((d.setLane l { d.lane l with frozen := false }).putBit (laneStat l) 28 false).regs = true :=
    Device.putBit_wf hw
  have hlocked : tabWf regDefault (rxLocked l d).takeFree.2.regs = true := Device.setBit_wf hput
  have hstat (k : Nat) : (rxLock l d).bit (laneStat l) k = (rxLocked l d).bit (laneStat l) k := by
    rw [rxLock_of_able hr]
    exact Device.bit_congr (Device.reg_setFld_ne (laneA_ne (by decide)) hlocked)
  refine ⟨(hstat 30).trans (Device.bit_setBit_same (by decide) hput), (hstat 28).trans ?_, by rw [rxLock_of_able hr]; rfl⟩
  exact (Device.bit_setBit_ne (by decide) (by decide) hput).trans (Device.bit_putBit_same (by decide) hw)

theorem rxLock_lane (hr : rxAble d l = true) (hw : tabWf regDefault d.regs = true) (hl : tabWf laneReset d.lanes = true) :
    (rxLock l d).lane l = { d.lane l with frozen := false } := by
  obtain ⟨-, -, hlanes⟩ := rxLock_shows hr hw
  exact (Device.lane_congr hlanes).trans (Device.lane_setLane hl)

theorem rxBurst_shows (hi : d.bit (laneStat l) 28 = true) (hr : rxAble d l = true) (hw : tabWf regDefault d.regs = true)
    (hl : tabWf laneReset d.lanes = true) :
    (rxBurst l d).bit (laneStat l) 30 = true ∧ (rxBurst l d).bit (laneStat l) 28 = false ∧
      (rxBurst l d).lane l = { d.lane l with frozen := false, delim := true, slip := 0 } := by
  have hrun : rxBurst l d = (rxLock l d).setLane l { (rxLock l d).lane l with delim := true, slip := 0 } := if_pos (by simp [hi, hr])
  obtain ⟨h30, h28, hlanes⟩ := rxLock_shows hr hw
  rw [hrun, rxLock_lane hr hw hl]
  exact ⟨h30, h28, Device.lane_setLane (by rw [hlanes]; exact Device.setLane_lanesWf hl)⟩

theorem burstTimeout_shows (hi : d.bit (laneStat l) 28 = true) (hr : rxAble d l = true) (hw : tabWf regDefault d.regs = true) :
    (burstTimeout l d).bit (laneStat l) 28 = false ∧ (burstTimeout l d).bit (laneStat l) 7 = true := by
  have hput : tabWf regDefault (d.putBit (laneStat l) 28 false).regs = true := Device.putBit_wf hw
  have hrun : burstTimeout l d = (d.putBit (laneStat l) 28 false).setBit (laneStat l) 7 := if_pos (by simp [hi, hr])
  rw [hrun, Device.bit_setBit_ne (by decide) (by decide) hput]
  exact ⟨Device.bit_putBit_same (by decide) hw, Device.bit_setBit_same (by decide) hput⟩

theorem rxSquelch_shows (hw : tabWf regDefault d.regs = true) (hl : tabWf laneReset d.lanes = true) :
    (rxSquelch l d).bit (laneStat l) 28 = true ∧ (rxSquelch l d).bit (laneStat l) 30 = false ∧
      (rxSquelch l d).lane l = { d.lane l with frozen := true } := by
  have hset : tabWf regDefault ((d.setLane l { d.lane l with frozen := true }).setBit (laneStat l) 28).regs = true := Device.setBit_wf hw
  rw [rxSquelch, Device.bit_putBit_ne (by decide) (by decide) hset]
  exact ⟨Device.bit_setBit_same (by decide) hw, Device.bit_putBit_same (by decide) hset, Device.lane_setLane hl⟩

theorem bobA_ne_laneStat : l < 144 → bobA 0 ≠ laneStat l := by
  unfold bobA laneStat laneA quadA
  omega

/-- The device that shows a lost lock, before its report. -/
def lockLost (l : Nat) (d : Device) : Device := laneFlag l 3 (d.putBit (laneStat l) 30 false)

theorem lockLost_shows (hw : tabWf regDefault d.regs = true) :
    (lockLost l d).bit (laneStat l) 30 = false ∧ (lockLost l d).bit (laneStat l) 3 = true ∧
      ∀ a, a ≠ laneStat l → (lockLost l d).reg a = d.reg a := by
  have hput : tabWf regDefault (d.putBit (laneStat l) 30 false).regs = true := Device.putBit_wf hw
  exact ⟨(Device.bit_setBit_ne (by decide) (by decide) hput).trans (Device.bit_putBit_same (by decide) hw),
    Device.bit_setBit_same (by decide) hput, fun a ha => (Device.reg_setBit_ne ha hput).trans (Device.reg_putBit_ne ha hw)⟩

theorem lossOfLock_shows (hk : d.bit (laneStat l) 30 = true) (hi : d.bit (laneStat l) 28 = false) (hb : d.fld (bobA 0) 0 16 = 0)
    (hf : (d.fifo (laneHalf l)).length < 1024) (hl : l < 144) (hw : tabWf regDefault d.regs = true) :
    (lossOfLock l d).bit (laneStat l) 30 = false ∧ (lossOfLock l d).bit (laneStat l) 3 = true ∧
      (lossOfLock l d).fifo (laneHalf l) = d.fifo (laneHalf l) ++ [⟨0x42, l, 0, d.now (laneHalf l)⟩] := by
  obtain ⟨hlock, hflag, hreg⟩ := lockLost_shows (l := l) hw
  have hrun : lossOfLock l d = (lockLost l d).fault (laneHalf l) 0x42 l 0 := if_pos (by simp [hk, hi])
  have hfifo (h : Half) : (lockLost l d).fifo h = d.fifo h := Device.fifo_congr rfl
  have hnow (h : Half) : (lockLost l d).now h = d.now h := Device.now_congr rfl
  have hbob : (lockLost l d).fld (bobA 0) 0 16 = 0 := (Device.fld_congr (hreg _ (bobA_ne_laneStat hl))).trans hb
  have hbit (rs : List Report) (k : Nat) : ((lockLost l d).setFifo (laneHalf l) rs).bit (laneStat l) k = (lockLost l d).bit (laneStat l) k :=
    Device.bit_congr (Device.reg_congr (Device.setFifo_regs _ _ _))
  rw [hrun, fault_of_no_triggers hbob (by decide) (by rwa [hfifo]), hfifo, hnow, hbit, hbit]
  exact ⟨hlock, hflag, Device.fifo_setFifo _ _⟩

/-! ### The reference (R299) -/

/-- What a reference's change does to one lane of its quad: where the lane is enabled, bit `k` of its status shows `b`. -/
def laneRefStep (k : Nat) (b : Bool) (d : Device) (l : Nat) : Device :=
  laneEval l (if d.laneOnEn l then d.putBit (laneStat l) k b else d)

theorem laneRefStep_regs {b : Bool} (hw : tabWf regDefault d.regs = true) :
    tabWf regDefault (laneRefStep k b d l).regs = true ∧ ∀ a, a ≠ laneStat l → (laneRefStep k b d l).reg a = d.reg a := by
  unfold laneRefStep
  split
  · have hput : tabWf regDefault (d.putBit (laneStat l) k b).regs = true := Device.putBit_wf hw
    exact ⟨(laneEval_shown hput).wf, fun a ha => ((laneEval_shown hput).reg a ha).trans (Device.reg_putBit_ne ha hw)⟩
  · exact ⟨(laneEval_shown hw).wf, (laneEval_shown hw).reg⟩

theorem laneRefStep_bit {b : Bool} (hk : k = 30 ∨ k = 31) (hon : d.laneOnEn l = true) (hw : tabWf regDefault d.regs = true) :
    (laneRefStep k b d l).bit (laneStat l) k = b := by
  rw [laneRefStep, if_pos hon, (laneEval_shown (Device.putBit_wf hw)).bit k (by omega) (by omega)]
  exact Device.bit_putBit_same (by omega) hw

/-- Device `e` has the registers that `d` has, but for the status of lanes. -/
structure LaneStatusOnly (d e : Device) : Prop where
  wf : tabWf regDefault e.regs = true
  reg : ∀ a, (∀ j, a ≠ laneStat j) → e.reg a = d.reg a

theorem LaneStatusOnly.laneRefStep {b : Bool} (h : LaneStatusOnly d e) : LaneStatusOnly d (laneRefStep k b e l) :=
  have ⟨hwf, hreg⟩ := laneRefStep_regs h.wf
  ⟨hwf, fun a ha => (hreg a (ha l)).trans (h.reg a ha)⟩

/-- Over a quad's lanes, each enabled one comes to show `b`. -/
theorem laneRefSteps_show {q i : Nat} {b : Bool} (hk : k = 30 ∨ k = 31) (hi : i < 4) (hw : tabWf regDefault d.regs = true) :
    LaneStatusOnly d (d.each (quadLanes q) (laneRefStep k b)) ∧
      (d.laneOnEn (4 * q + i) = true → (d.each (quadLanes q) (laneRefStep k b)).bit (laneStat (4 * q + i)) k = b) := by
  refine ⟨List.foldlRecOn (motive := LaneStatusOnly d) _ _ ⟨hw, fun _ _ => rfl⟩ fun _ he _ _ => he.laneRefStep, fun hon => ?_⟩
  refine (Device.each_takes (g := 4 * q + i) (inv := LaneStatusOnly d) (v := fun e => e.bit (laneStat (4 * q + i)) k)
    (y := d.bit (laneStat (4 * q + i)) k) (fun _ _ he => he.laneRefStep) (fun e j he hj => ?_) (fun e he _ => ?_) _
    ⟨hw, fun _ _ => rfl⟩ (.inr ⟨rfl, List.mem_map.mpr ⟨i, List.mem_range.mpr hi, rfl⟩⟩)).2
  · exact Device.bit_congr ((laneRefStep_regs he.wf).2 _ (mt laneStat_inj.mp (Ne.symm hj)))
  · exact laneRefStep_bit hk ((Device.bit_congr (he.reg _ fun _ => laneCtl_ne_laneStat)).trans hon) he.wf

theorem refLoss_shows {q i : Nat} (hi : i < 4) (hw : tabWf regDefault d.regs = true) :
    (refLoss q d).bit (quadA q 0) 31 = false ∧
      (d.laneOnEn (4 * q + i) = true → (refLoss q d).bit (laneStat (4 * q + i)) 30 = false) := by
  have hctl : laneCtl (4 * q + i) ≠ quadA q 0 := (quadA_ne_laneA (by decide) (by decide)).symm
  have hrun : refLoss q d = (d.putBit (quadA q 0) 31 false).each (quadLanes q) (laneRefStep 30 false) := rfl
  obtain ⟨hkept, hlanes⟩ := laneRefSteps_show (d := d.putBit (quadA q 0) 31 false) (q := q) (b := false) (.inl rfl) hi
    (Device.putBit_wf hw)
  rw [hrun]
  exact ⟨(Device.bit_congr (hkept.reg _ fun _ => quadA_ne_laneA (by decide) (by decide))).trans (Device.bit_putBit_same (by decide) hw),
    fun hon => hlanes ((Device.bit_congr (Device.reg_putBit_ne hctl hw)).trans hon)⟩

theorem refRecover_shows {q i : Nat} (hsel : d.fld (quadA q 0) 0 6 ≠ 63) (hdom : d.domOn (32 + q / 3) = true) (hi : i < 4)
    (hw : tabWf regDefault d.regs = true) :
    (refRecover q d).bit (quadA q 0) 31 = true ∧
      (d.laneOnEn (4 * q + i) = true → (refRecover q d).bit (laneStat (4 * q + i)) 31 = true) := by
  have hctl : laneCtl (4 * q + i) ≠ quadA q 0 := (quadA_ne_laneA (by decide) (by decide)).symm
  have hrun : refRecover q d = (d.setBit (quadA q 0) 31).each (quadLanes q) (laneRefStep 31 true) := if_neg (by simp [hsel, hdom])
  obtain ⟨hkept, hlanes⟩ := laneRefSteps_show (d := d.setBit (quadA q 0) 31) (q := q) (b := true) (.inr rfl) hi (Device.setBit_wf hw)
  rw [hrun]
  exact ⟨(Device.bit_congr (hkept.reg _ fun _ => quadA_ne_laneA (by decide) (by decide))).trans (Device.bit_setBit_same (by decide) hw),
    fun hon => hlanes ((Device.bit_congr (Device.reg_setBit_ne hctl hw)).trans hon)⟩

/-! ### The raw port (R309, R312, R313) -/

/-- The last word of a training burst, as many bits as the lane's words have. -/
def burstTail (d : Device) (l : Nat) : BitVec 80 :=
  bitsWord ((burstBits (lanePam4 d l)).drop ((burstBits (lanePam4 d l)).length - laneWidth d l))

theorem burstDone_of_burst (hb : (d.lane l).burst = true) :
    burstDone l d = d.setLane l { d.lane l with burst := false, sent := lineWord d l (burstTail d l) } := if_pos hb

theorem burstDone_of_none (hb : (d.lane l).burst = false) : burstDone l d = d := if_neg (by simp [hb])

/-- A lane that is not inverted sends a word's low bits. -/
theorem lineWord_of_plain {w : BitVec 80} (hp : d.bit (laneCtl l) 20 = false) : lineWord d l w = maskWord (laneWidth d l) w := by
  simp [lineWord, hp]

section
variable (hon : d.laneOnEn l = true) (hu : d.laneUse l = 1) (hg : d.fld (prbsCtl l) 4 3 = 0) (hi : d.bit (laneStat l) 29 = false)
  (hb : (d.lane l).burst = false) (hn : (d.lane l).inject = false) (hp : d.bit (laneCtl l) 20 = false)
include hon hu hg hi hb hn hp

theorem rawTx_of_word {w : BitVec 80} {ws : List (BitVec 80)} (ht : (d.lane l).tx = w :: ws) :
    rawTx l d = d.setLane l
      { d.lane l with tx := ws, sent := maskWord (laneWidth d l) w, inject := false, txBegun := true } := by
  rw [← lineWord_of_plain hp]
  simp [rawTx, hon, hu, hg, hi, hb, hn, ht]

theorem rawTx_of_empty (ht : (d.lane l).tx = []) (hbeg : (d.lane l).txBegun = true) (hw : tabWf regDefault d.regs = true) :
    rawTx l d = (laneFlag l 4 d).setLane l
      { d.lane l with sent := maskWord (laneWidth d l) (alternating (lanePam4 d l)), inject := false } := by
  have hpam : lanePam4 (laneFlag l 4 d) l = lanePam4 d l := Device.bit_congr (Device.reg_setBit_ne laneCtl_ne_laneStat hw)
  have hlane : (laneFlag l 4 d).lane l = d.lane l := rfl
  rw [← lineWord_of_plain hp]
  simp [rawTx, hon, hu, hg, hi, hb, hn, ht, hbeg, hpam, hlane]

end

/-- The checker changes its own part of the lane. -/
theorem prbsCheck_eq (l : Nat) (w : BitVec 80) (d : Device) :
    ∃ hist chk errs bits, prbsCheck l w d = d.setLane l { d.lane l with rxHist := hist, chk := chk, errs := errs, bits := bits } := by
  unfold prbsCheck
  extract_lets
  split
  · exact ⟨_, _, _, _, rfl⟩
  · exact ⟨_, _, _, _, rfl⟩

/-- The word that a plain lane's port takes from a word of the line. -/
def portWord (d : Device) (l : Nat) (w : BitVec 80) : BitVec 80 :=
  if (d.lane l).slip = 0 then maskWord (laneWidth d l) w
  else slipped (laneWidth d l) (d.lane l).slip (d.lane l).line (maskWord (laneWidth d l) w)

/-- The device whose line and checker have taken a word. -/
def rxTaken (l : Nat) (w : BitVec 80) (d : Device) : Device :=
  prbsCheck l (portWord d l w) (d.setLane l { d.lane l with line := maskWord (laneWidth d l) w })

theorem rxTaken_shows {w : BitVec 80} (hl : tabWf laneReset d.lanes = true) :
    (rxTaken l w d).regs = d.regs ∧ (rxTaken l w d).bob = d.bob ∧ tabWf laneReset (rxTaken l w d).lanes = true ∧
      ((rxTaken l w d).lane l).line = maskWord (laneWidth d l) w ∧ ((rxTaken l w d).lane l).rx = (d.lane l).rx := by
  have hl1 := Device.setLane_lanesWf (l := l) (y := { d.lane l with line := maskWord (laneWidth d l) w }) hl
  obtain ⟨hist, chk, errs, bits, hcheck⟩ :=
    prbsCheck_eq l (portWord d l w) (d.setLane l { d.lane l with line := maskWord (laneWidth d l) w })
  rw [rxTaken, hcheck, Device.lane_setLane hl1, Device.lane_setLane hl]
  exact ⟨rfl, rfl, Device.setLane_lanesWf hl1, rfl, rfl⟩

theorem rawRx_of_raw {w : BitVec 80} (hon : d.laneOnEn l = true) (hk : d.bit (laneStat l) 30 = true) (hu : d.laneUse l = 1)
    (hrate : d.fld (laneCtl l) 12 4 < 12) (hp : d.bit (laneCtl l) 19 = false) (hr : d.replayed (laneField l) = false)
    (hl : tabWf laneReset d.lanes = true) :
    rawRx l w d = if (d.lane l).rx.length < 32 then
        (rxTaken l w d).setLane l { (rxTaken l w d).lane l with rx := (d.lane l).rx ++ [portWord d l w] }
      else (rxTaken l w d).setBit (laneStat l) 5 := by
  obtain ⟨hregs, hbob, -, -, hrx⟩ := rxTaken_shows (l := l) (w := w) hl
  have hreg (a : Nat) : (rxTaken l w d).reg a = d.reg a := Device.reg_congr hregs
  have huse : (rxTaken l w d).laneUse l = 1 := (Device.fld_congr (hreg _)).trans hu
  have hcode : (rxTaken l w d).fld (laneCtl l) 12 4 ≠ 15 := by
    rw [Device.fld_congr (hreg _)]
    omega
  have hrep : (rxTaken l w d).replayed (laneField l) = false := by rwa [Device.replayed, hbob, ← Device.replayed]
  have hfeeds : (rxTaken l w d).feeds (laneField l) = false := by rw [Device.feeds, hrep, Bool.and_false]
  have hrun : rawRx l w d = if ((rxTaken l w d).lane l).rx.length < 32 then
      (rxTaken l w d).setLane l { (rxTaken l w d).lane l with rx := ((rxTaken l w d).lane l).rx ++ [portWord d l w] }
      else laneFlag l 5 (rxTaken l w d) := by
    simp only [rawRx, hon, hk, hp, Bool.not_true, Bool.or_self, Bool.false_eq_true, if_false, ← portWord.eq_def, ← rxTaken.eq_def,
      huse, hcode, hfeeds, hrep, ne_eq, not_true_eq_false, or_self]
  rw [hrun, hrx]
  rfl

theorem rxSlip_of_raw (hu : d.laneUse l = 1) : rxSlip l d = d.setLane l { d.lane l with
    slip := ((d.lane l).slip + (if lanePam4 d l then 2 else 1)) % laneWidth d l } := if_neg (by simp [hu])

end
end Sys2Proof.Machine
end

section
/-!
Where the lanes' commands complete (11_transceivers R299 to R318).
-/
namespace Sys2Proof.Machine

/-- A block that answers carries an access out. -/
theorem atBlock_of_answers {d : Device} {n : Nat} {hard : Bool} {f : Device → Device} (h : blockStatus d n hard = 0) :
    d.atBlock n hard f = f d := if_pos h

/-- Any other answers its status. -/
theorem atBlock_of_status {d : Device} {n st : Nat} {hard : Bool} {f : Device → Device} (h : blockStatus d n hard = st) (hst : st ≠ 0) :
    d.atBlock n hard f = d.answer st [] := by rw [Device.atBlock, if_neg (by omega), h]

section
variable {s : State} {l : Fin 144}

/-! ### What each command gives -/

section
variable (hb : blockStatus s.dev (laneDomain l.val) false = 0)
include hb

/-- A command through the lane's registers gives what its operation does. -/
theorem lift_of_answers {f : Device → Device} :
    s.lift (fun d => d.atBlock (laneDomain l.val) false f) = .next { s with dev := f s.dev } := by
  rw [lift_gives, atBlock_of_answers hb]

theorem gives_enterIdle : gives (.enterIdle l) s (idleCmd l.val true s.dev) := lift_of_answers hb
theorem gives_exitIdle : gives (.exitIdle l) s (idleCmd l.val false s.dev) := lift_of_answers hb
theorem gives_prbsInject : gives (.prbsInject l) s (prbsInject l.val s.dev) := lift_of_answers hb
theorem gives_prbsClear : gives (.prbsClear l) s (prbsClear l.val s.dev) := lift_of_answers hb
theorem gives_prbsErrRead : gives (.prbsErrRead l) s
    ((prbsErrRead l.val s.dev).answer 0 (leBytes ((prbsErrRead l.val s.dev).reg (laneA l.val 0x188)).toNat 4)) := lift_of_answers hb
theorem gives_eyeStart : gives (.eyeStart l) s (eyeStart l.val s.dev) := lift_of_answers hb
theorem gives_adaptRestart : gives (.adaptRestart l) s (adaptRestart l.val s.dev) := lift_of_answers hb
theorem gives_laneEnable (v) : gives (.laneEnable l v) s (laneCtrlCmd l.val v s.dev) := lift_of_answers hb

end

theorem gives_prbsClear_of_off (hb : blockStatus s.dev (laneDomain l.val) false = 2) :
    gives (.prbsClear l) s (s.dev.answer 2 []) :=
  have hrun : gives (.prbsClear l) s (s.dev.atBlock (laneDomain l.val) false (prbsClear l.val)) := rfl
  gives_of_eq hrun (atBlock_of_status hb (by decide))

theorem gives_idleReq (v) : gives (.idleReq l v) s (idleReq l.val v s.dev) := rfl
theorem gives_txBurstDone : gives (.txBurstDone l) s (burstDone l.val s.dev) := rfl
theorem gives_rxBurst : gives (.rxBurst l) s (rxBurst l.val s.dev) := rfl
theorem gives_burstTimeout : gives (.burstTimeout l) s (burstTimeout l.val s.dev) := rfl
theorem gives_ordinaryAcquisition : gives (.ordinaryAcquisition l) s (rxLock l.val s.dev) := rfl
theorem gives_rxSquelch : gives (.rxSquelch l) s (rxSquelch l.val s.dev) := rfl
theorem gives_laneLossOfLock : gives (.laneLossOfLock l) s (lossOfLock l.val s.dev) := rfl
theorem gives_refLoss (q : Fin 36) : gives (.refLoss q) s (refLoss q.val s.dev) := rfl
theorem gives_refRecover (q : Fin 36) : gives (.refRecover q) s (refRecover q.val s.dev) := rfl
theorem gives_adaptConverged (taps) : gives (.adaptConverged l taps) s (adaptConverged l.val taps s.dev) := rfl
theorem gives_prbsSync : gives (.prbsSync l) s (prbsSync l.val s.dev) := rfl
theorem gives_prbsSyncLost : gives (.prbsSyncLost l) s (prbsLost l.val s.dev) := rfl
theorem gives_eyeDone (n) : gives (.eyeDone l n) s (eyeDone l.val n s.dev) := rfl
theorem gives_rawTxWord : gives (.rawTxWord l) s (rawTx l.val s.dev) := rfl
theorem gives_rawRxWord (w) : gives (.rawRxWord l w) s (rawRx l.val w s.dev) := rfl
theorem gives_rxSlip : gives (.rxSlip l) s (rxSlip l.val s.dev) := rfl

/-! ### Where the commands complete -/

/-- R300: an enable with a divider below 16, whatever the reference. -/
theorem laneEnable_of_low {v : BitVec 32} (hb : blockStatus s.dev (laneDomain l.val) false = 0) (hw : tabWf regDefault s.dev.regs = true)
    (hoff : s.dev.laneOnEn l.val = false) (hen : fieldOf v 18 1 = 1) (hcmd : fieldOf v 29 3 = 0)
    (hlow : s.dev.fld (laneA l.val 0x104) 0 12 < 16) :
    ∃ t, exec (.laneEnable l v) s = .next t ∧ t.dev.bit (laneStat l.val) 2 = true ∧ t.dev.laneOnEn l.val = false := by
  have hn : (s.dev.setReg (laneCtl l.val) (laneSettings v)).fld (laneA l.val 0x104) 0 12 < 16 := by
    rwa [Device.fld_setReg_ne _ _ _ _ _ _ (laneA_ne_laneCtl (by decide)) hw]
  obtain ⟨hstay, hflag, -⟩ := laneCtrlCmd_of_unfit hoff hen hcmd (laneFits_of_low hn) hw
  exact ⟨_, gives_laneEnable hb v, hflag, hstay⟩

/-- R300 to R303: an enable by the limits. -/
theorem laneEnable_by_limits {v : BitVec 32} (hb : blockStatus s.dev (laneDomain l.val) false = 0) (hw : tabWf regDefault s.dev.regs = true)
    (hl : tabWf laneReset s.dev.lanes = true) (hoff : s.dev.laneOnEn l.val = false) (hen : fieldOf v 18 1 = 1) (hcmd : fieldOf v 29 3 = 0)
    (hrate : fieldOf v 12 4 < 12) :
    ∃ t, exec (.laneEnable l v) s = .next t ∧ ∀ hz, hz = 10000000 + s.dev.takeFree.1 % 790000001 →
      (laneFits (s.dev.setReg (laneCtl l.val) (v &&& 0x1FFCF3FF)) l.val hz = true → t.dev.laneOnEn l.val = true ∧
        t.dev.reg (laneCtl l.val) = v &&& 0x1FFCF3FF ∧ (t.dev.lane l.val).idle = true ∧
        t.dev.bit (laneStat l.val) 31 = quadRefOk s.dev l.val ∧ t.dev.bit (laneStat l.val) 2 = s.dev.bit (laneStat l.val) 2) ∧
      (laneFits (s.dev.setReg (laneCtl l.val) (v &&& 0x1FFCF3FF)) l.val hz = false → t.dev.laneOnEn l.val = false ∧
        t.dev.bit (laneStat l.val) 2 = true ∧ t.dev.lanes = s.dev.lanes) := by
  rw [← laneSettings_of_lt hrate]
  refine ⟨_, gives_laneEnable hb v, ?_⟩
  rintro _ rfl
  exact ⟨fun hfit => laneCtrlCmd_of_fit hoff hen hcmd hfit hw hl, fun hfit => laneCtrlCmd_of_unfit hoff hen hcmd hfit hw⟩

/-- R299: the reference of a quad is lost, and good again. -/
theorem reference_completes {q : Fin 36} (hw : tabWf regDefault s.dev.regs = true) (hsel : s.dev.fld (quadA q.val 0) 0 6 ≠ 63)
    (hdom : s.dev.domOn (32 + q.val / 3) = true) :
    (∃ t, exec (.refLoss q) s = .next t ∧ t.dev.bit (quadA q.val 0) 31 = false ∧
      ∀ i, i < 4 → s.dev.laneOnEn (4 * q.val + i) = true → t.dev.bit (laneStat (4 * q.val + i)) 30 = false) ∧
    (∃ t, exec (.refRecover q) s = .next t ∧ t.dev.bit (quadA q.val 0) 31 = true ∧
      ∀ i, i < 4 → s.dev.laneOnEn (4 * q.val + i) = true → t.dev.bit (laneStat (4 * q.val + i)) 31 = true) :=
  ⟨⟨_, gives_refLoss q, (refLoss_shows (i := 0) (by decide) hw).1, fun _ hi => (refLoss_shows hi hw).2⟩,
    ⟨_, gives_refRecover q, (refRecover_shows (i := 0) hsel hdom (by decide) hw).1, fun _ hi => (refRecover_shows hsel hdom hi hw).2⟩⟩

/-- R312, R313: a received word, with room at the port and without. -/
theorem rawRxWord_completes {w : BitVec 80} (hw : tabWf regDefault s.dev.regs = true) (hl : tabWf laneReset s.dev.lanes = true)
    (hon : s.dev.laneOnEn l.val = true) (hk : s.dev.bit (laneStat l.val) 30 = true) (hu : s.dev.laneUse l.val = 1)
    (hrate : s.dev.fld (laneCtl l.val) 12 4 < 12) (hp : s.dev.bit (laneCtl l.val) 19 = false)
    (hr : s.dev.replayed (laneField l.val) = false) :
    ((s.dev.lane l.val).rx.length < 32 → ∃ t, exec (.rawRxWord l w) s = .next t ∧
      (t.dev.lane l.val).line = maskWord (laneWidth s.dev l.val) w ∧
      (t.dev.lane l.val).rx = (s.dev.lane l.val).rx ++ [portWord s.dev l.val w] ∧ t.dev.regs = s.dev.regs) ∧
    (32 ≤ (s.dev.lane l.val).rx.length → ∃ t, exec (.rawRxWord l w) s = .next t ∧ (t.dev.lane l.val).rx = (s.dev.lane l.val).rx ∧
      t.dev.bit (laneStat l.val) 5 = true) := by
  have hrun := gives_of_eq (gives_rawRxWord w) (rawRx_of_raw (w := w) hon hk hu hrate hp hr hl)
  obtain ⟨hregs, -, htaken, hline, hrx⟩ := rxTaken_shows (l := l.val) (w := w) hl
  refine ⟨fun hroom => ⟨_, gives_of_eq hrun (if_pos hroom), ?_, ?_, hregs⟩,
    fun hfull => ⟨_, gives_of_eq hrun (if_neg (by omega)), hrx, ?_⟩⟩
  · exact (congrArg Lane.line (Device.lane_setLane htaken)).trans hline
  · exact congrArg Lane.rx (Device.lane_setLane htaken)
  · exact Device.bit_setBit_same (by decide) (by rwa [hregs])

end

/-- Settles O41: command by command. The reference's frequency, which no state holds, is a free value (log entries 1 and 75). -/
theorem lanesComplete : Obligations.LanesComplete := by
  rintro s l hw hl x rfl
  refine ⟨fun hb => ?registers, fun hb => gives_prbsClear_of_off hb, fun v hu => gives_of_eq (gives_idleReq v) (idleReq_of_raw hu),
    fun hburst => ⟨_, gives_of_eq gives_txBurstDone (burstDone_of_burst hburst), ?burst⟩,
    fun hburst => gives_of_eq gives_txBurstDone (burstDone_of_none hburst),
    fun hr hi => ⟨⟨_, gives_rxBurst, rxBurst_shows hi hr hw hl⟩, ⟨_, gives_burstTimeout, burstTimeout_shows hi hr hw⟩⟩,
    fun hr => ⟨_, gives_ordinaryAcquisition, (rxLock_shows hr hw).1, rxLock_lane hr hw hl⟩,
    ⟨_, gives_rxSquelch, rxSquelch_shows hw hl⟩,
    fun hk hi hb hf => ⟨_, gives_laneLossOfLock, lossOfLock_shows hk hi hb hf l.isLt hw⟩,
    fun q hsel hdom => reference_completes hw hsel hdom,
    fun taps hon hf hk ht => ⟨_, gives_adaptConverged taps, adaptConverged_shows hon hf hk ht hw⟩,
    fun hs => gives_of_eq gives_prbsSync (prbsSync_of_selected hs),
    fun hs => ⟨_, gives_prbsSyncLost, prbsLost_shows hs hw⟩,
    fun n hr => ⟨_, gives_eyeDone n, eyeDone_shows hr hw hl⟩,
    fun hon hu hg hi hb hn hp => ⟨fun w ws ht => gives_of_eq gives_rawTxWord (rawTx_of_word hon hu hg hi hb hn hp ht),
      fun ht hbeg => ⟨_, gives_of_eq gives_rawTxWord (rawTx_of_empty hon hu hg hi hb hn hp ht hbeg hw), ?underflow⟩⟩,
    fun w hon hk hu hrate hp hr => rawRxWord_completes hw hl hon hk hu hrate hp hr,
    fun hu => gives_of_eq gives_rxSlip (rxSlip_of_raw hu)⟩
  case registers =>
    exact ⟨fun hu => ⟨gives_of_eq (gives_enterIdle hb) (idleCmd_of_raw hu), gives_of_eq (gives_exitIdle hb) (idleCmd_of_raw hu)⟩,
      fun hu => gives_of_eq (gives_enterIdle hb) (idleCmd_of_host hu), gives_prbsInject hb, gives_prbsClear hb,
      ⟨_, gives_prbsErrRead hb, rfl, prbsErrRead_shows hw⟩, gives_eyeStart hb, ⟨_, gives_adaptRestart hb, adaptRestart_shows hw⟩,
      fun v hon hen hcmd hrate hdiff => ⟨_, gives_laneEnable hb v, laneCtrlCmd_keeps_fixed hon hen hcmd hrate hdiff hw⟩,
      fun v hoff hen hcmd _ hlow => laneEnable_of_low hb hw hoff hen hcmd hlow,
      fun v hoff hen hcmd hrate => laneEnable_by_limits hb hw hl hoff hen hcmd hrate,
      fun v hon hen hcmd => ⟨_, gives_laneEnable hb v, laneCtrlCmd_of_disable hon hen hcmd hw hl⟩⟩
  case burst =>
    rw [Device.lane_setLane hl]
    exact ⟨rfl, rfl, rfl⟩
  case underflow =>
    exact ⟨Device.bit_setBit_same (by decide) hw, congrArg Lane.sent (Device.lane_setLane hl)⟩

end Sys2Proof.Machine
end

section
/-!
A step runs the command in front, and the DRAM map is one to one (00_scope; 13_memory_channels R348).
-/
namespace Sys2Proof.Machine

/-- Settles O1: the step looks at the queue's front. -/
theorem stepRunsFront : Obligations.StepRunsFront := by
  intro c s rest h
  simp only [step, h]

/-! ### The map of a region -/

/-- The bits that hashing adds to a channel index, by the offset's bits above the index. -/
def hashBits (w : Nat) (hash : Bool) (up : Nat) : Nat := if hash then foldSlices w up 0 39 else 0

section
variable {g w r i l n up low : Nat} {hash : Bool}

theorem foldSlices_lt {x j : Nat} : foldSlices w x j n < 2 ^ w := by
  induction n generalizing j with
  | zero => exact Nat.two_pow_pos w
  | succ n ih => exact Nat.xor_lt_two_pow (by rw [bitsAt_eq]; exact Nat.mod_lt _ (Nat.two_pow_pos w)) ih

theorem hashBits_lt : hashBits w hash up < 2 ^ w := by
  unfold hashBits
  split
  · exact foldSlices_lt
  · exact Nat.two_pow_pos w

theorem mapFrom_eq :
    mapFrom g w hash i l = (l / 2 ^ g * 2 ^ w + (i ^^^ hashBits w hash (l / 2 ^ g))) * 2 ^ g + l % 2 ^ g := by
  have hi : (if hash then i ^^^ foldSlices w (l / 2 ^ g) 0 39 else i) = i ^^^ hashBits w hash (l / 2 ^ g) := by
    cases hash <;> simp [hashBits]
  rw [mapFrom, hi, Nat.add_comm g w, Nat.pow_add]
  ring

/-- An offset by its three parts: the bits above the index, the index, and the bits below it. -/
theorem mapTo_eq (hup : up < 2 ^ (39 - (g + w))) (hi : i < 2 ^ w) (hlow : low < 2 ^ g) :
    mapTo g w hash ((up * 2 ^ w + i) * 2 ^ g + low) = (i ^^^ hashBits w hash up, up * 2 ^ g + low) := by
  have hdiv : ((up * 2 ^ w + i) * 2 ^ g + low) / 2 ^ g = up * 2 ^ w + i := by
    rw [Nat.mul_comm, Nat.mul_add_div (Nat.two_pow_pos g), Nat.div_eq_of_lt hlow, Nat.add_zero]
  have hmod : ((up * 2 ^ w + i) * 2 ^ g + low) % 2 ^ g = low := by
    rw [Nat.mul_comm, Nat.mul_add_mod, Nat.mod_eq_of_lt hlow]
  have hindex : bitsAt ((up * 2 ^ w + i) * 2 ^ g + low) g w = i := by
    rw [bitsAt_eq, hdiv, Nat.mul_comm, Nat.mul_add_mod, Nat.mod_eq_of_lt hi]
  have hupper : bitsAt ((up * 2 ^ w + i) * 2 ^ g + low) (g + w) (39 - (g + w)) = up := by
    rw [bitsAt_eq, Nat.pow_add, ← Nat.div_div_eq_div_mul, hdiv, Nat.mul_comm, Nat.mul_add_div (Nat.two_pow_pos w),
      Nat.div_eq_of_lt hi, Nat.add_zero, Nat.mod_eq_of_lt hup]
  simp only [mapTo, hindex, hupper, hmod]
  cases hash <;> simp [hashBits]

/-- Every offset has the three parts. -/
theorem offset_parts (hgw : g + w ≤ 39) (hr : r < 2 ^ 39) :
    ∃ up i low, up < 2 ^ (39 - (g + w)) ∧ i < 2 ^ w ∧ low < 2 ^ g ∧ r = (up * 2 ^ w + i) * 2 ^ g + low := by
  refine ⟨r / 2 ^ g / 2 ^ w, r / 2 ^ g % 2 ^ w, r % 2 ^ g, ?_, Nat.mod_lt _ (Nat.two_pow_pos w), Nat.mod_lt _ (Nat.two_pow_pos g), ?_⟩
  · rw [Nat.div_div_eq_div_mul, ← Nat.pow_add]
    exact Nat.div_lt_of_lt_mul (by rwa [← Nat.pow_add, Nat.add_sub_cancel' hgw])
  · rw [Nat.div_add_mod', Nat.div_add_mod']

theorem channelAddr_parts (hup : up < 2 ^ (39 - (g + w))) (hlow : low < 2 ^ g) (hgw : g + w ≤ 39) :
    (up * 2 ^ g + low) / 2 ^ g = up ∧ (up * 2 ^ g + low) % 2 ^ g = low ∧ up * 2 ^ g + low < 2 ^ (39 - w) := by
  refine ⟨?_, ?_, ?_⟩
  · rw [Nat.mul_comm, Nat.mul_add_div (Nat.two_pow_pos g), Nat.div_eq_of_lt hlow, Nat.add_zero]
  · rw [Nat.mul_comm, Nat.mul_add_mod, Nat.mod_eq_of_lt hlow]
  · calc up * 2 ^ g + low < (up + 1) * 2 ^ g := by rw [Nat.succ_mul]; omega
      _ ≤ 2 ^ (39 - (g + w)) * 2 ^ g := Nat.mul_le_mul_right _ hup
      _ = 2 ^ (39 - w) := by rw [← Nat.pow_add]; congr 1; omega

theorem xor_hashBits_lt (hi : i < 2 ^ w) : i ^^^ hashBits w hash up < 2 ^ w := Nat.xor_lt_two_pow hi hashBits_lt

end

/-- Settles O45: by the three parts of an offset, of which hashing changes the index alone, and the same way back. -/
theorem dramMapOneToOne : Obligations.DramMapOneToOne := by
  intro g w r hash _ hg hw hr
  have hgw : g + w ≤ 39 := by omega
  obtain ⟨up, i, low, hup, hi, hlow, rfl⟩ := offset_parts hgw hr
  obtain ⟨hdiv, hmod, hlt⟩ := channelAddr_parts hup hlow hgw
  rw [mapTo_eq hup hi hlow, mapTo_eq hup hi hlow]
  refine ⟨?_, xor_hashBits_lt hi, hlt, rfl, fun j l hj hl => ?_⟩
  · rw [mapFrom_eq, hdiv, hmod, Nat.xor_assoc, Nat.xor_self, Nat.xor_zero]
  · have hupper : l / 2 ^ g < 2 ^ (39 - (g + w)) :=
      Nat.div_lt_of_lt_mul (by rwa [← Nat.pow_add, show g + (39 - (g + w)) = 39 - w by omega])
    have hlower : l % 2 ^ g < 2 ^ g := Nat.mod_lt _ (Nat.two_pow_pos g)
    have hindex : j ^^^ hashBits w hash (l / 2 ^ g) < 2 ^ w := xor_hashBits_lt hj
    rw [mapFrom_eq, mapTo_eq hupper hindex hlower, Nat.xor_assoc, Nat.xor_self, Nat.xor_zero, Nat.div_add_mod']
    refine ⟨?_, rfl⟩
    calc (l / 2 ^ g * 2 ^ w + (j ^^^ hashBits w hash (l / 2 ^ g))) * 2 ^ g + l % 2 ^ g
        < (l / 2 ^ g * 2 ^ w + (j ^^^ hashBits w hash (l / 2 ^ g)) + 1) * 2 ^ g := by rw [Nat.succ_mul]; omega
      _ ≤ ((l / 2 ^ g + 1) * 2 ^ w) * 2 ^ g := Nat.mul_le_mul_right _ (by rw [Nat.succ_mul]; omega)
      _ ≤ (2 ^ (39 - (g + w)) * 2 ^ w) * 2 ^ g := Nat.mul_le_mul_right _ (Nat.mul_le_mul_right _ hupper)
      _ = 2 ^ 39 := by rw [← Nat.pow_add, ← Nat.pow_add]; congr 1; omega

end Sys2Proof.Machine
end

section
/-!
The conversion of Shuttle elements (16_shuttle_dma R420).
-/
namespace Sys2Proof.Machine

section
variable {w : BitVec 256} {bs : List Byte} {code k n s x : Nat}

theorem leBytes_length : (leBytes x n).length = n := by
  induction n generalizing x with
  | zero => rfl
  | succ n ih => simp [leBytes, ih]

/-! ### Byte swaps -/

/-- A swap of four bytes, by its code. -/
theorem swapBytes_quad (hs : s < 4) (a b c e : Byte) :
    ∃ p q u v, ∀ t, swapBytes s (a :: b :: c :: e :: t) = p :: q :: u :: v :: swapBytes s t ∧
      swapBytes s (p :: q :: u :: v :: t) = a :: b :: c :: e :: swapBytes s t := by
  interval_cases s
  · exact ⟨a, b, c, e, fun _ => ⟨rfl, rfl⟩⟩
  · exact ⟨b, a, e, c, fun _ => ⟨rfl, rfl⟩⟩
  · exact ⟨c, e, a, b, fun _ => ⟨rfl, rfl⟩⟩
  · exact ⟨e, c, b, a, fun _ => ⟨rfl, rfl⟩⟩

theorem swapBytes_length (hs : s < 4) : (swapBytes s bs).length = bs.length := by
  induction bs using swapBytes.induct (s := s) with
  | case1 a b c e t ih =>
    obtain ⟨p, q, u, v, hrest⟩ := swapBytes_quad hs a b c e
    simp [(hrest t).1, ih]
  | case2 a b hone => rw [swapBytes, if_pos hone]; rfl
  | case3 a b hone => rw [swapBytes, if_neg hone]
  | case4 t h4 h2 => rw [swapBytes.eq_3 s t h4 h2]

/-- A byte swap undoes itself on whole words. -/
theorem swapBytes_swapBytes (hs : s < 4) (hlen : bs.length % 4 = 0) : swapBytes s (swapBytes s bs) = bs := by
  induction bs using swapBytes.induct (s := s) with
  | case1 a b c e t ih =>
    obtain ⟨p, q, u, v, hrest⟩ := swapBytes_quad hs a b c e
    rw [(hrest t).1, (hrest _).2, ih (by simp at hlen; omega)]
  | case2 a b hone => simp at hlen
  | case3 a b hone => simp at hlen
  | case4 t h4 h2 => rw [swapBytes.eq_3 s t h4 h2, swapBytes.eq_3 s t h4 h2]

theorem swapBytes_none : swapBytes 0 bs = bs := by
  induction bs using swapBytes.induct (s := 0) with
  | case1 a b c e t ih => rw [swapBytes, ih]; rfl
  | case2 a b hone => rfl
  | case3 a b hone => rfl
  | case4 t h4 h2 => rw [swapBytes.eq_3 0 t h4 h2]

/-! ### Elements -/

theorem elements_length : (elements k n bs).length = n := by
  induction n generalizing bs with
  | zero => rfl
  | succ n ih => simp [elements, ih]

/-- The bytes of the elements are those they were made of. -/
theorem elements_bytes (hlen : bs.length = k * n) : (elements k n bs).flatMap (fun x => leBytes x k) = bs := by
  induction n generalizing bs with
  | zero => simpa [elements] using hlen
  | succ n ih =>
    have hfirst : (bs.take k).length = k := by rw [List.length_take, hlen, Nat.mul_succ]; omega
    have hrest : (bs.drop k).length = k * n := by rw [List.length_drop, hlen, Nat.mul_succ]; omega
    rw [elements, List.flatMap_cons, leBytes_leNat, exactly_of_length hfirst, ih hrest, List.take_append_drop]

theorem widthBits_bytes (hc : code < 8) : widthBits code = 8 * (widthBits code / 8) := by
  interval_cases code <;> rfl

/-- An element that keeps its width keeps its bytes, whichever conversion is named. -/
theorem convElem_same_bytes (hc : code < 8) :
    leBytes (convElem (widthBits code) (widthBits code) k x) (widthBits code / 8) = leBytes x (widthBits code / 8) := by
  have hpow : 2 ^ widthBits code = 256 ^ (widthBits code / 8) := by
    conv_lhs => rw [widthBits_bytes hc, Nat.pow_mul]
  by_cases h2 : k = 2
  · simp [convElem, h2]
  · simp [convElem, h2, hpow, leBytes_mod]

theorem dWs_lt : dWs w < 8 := by rw [dWs, bitsAt_eq]; exact Nat.mod_lt _ (by decide)
theorem dSwap_lt : dSwap w < 4 := by rw [dSwap, bitsAt_eq]; exact Nat.mod_lt _ (by decide)

theorem convert_length (hlen : bs.length = dLen w) : (convert w bs).length = destLen w := by
  unfold convert
  rw [swapBytes_length dSwap_lt, List.length_flatMap]
  simp only [leBytes_length, List.map_const', List.sum_replicate, elements_length, hlen, smul_eq_mul, destLen]

theorem convert_same_width (hlen : bs.length = dLen w) (hwhole : dLen w % (widthBits (dWs w) / 8) = 0) (hw : dWs w = dWd w)
    (hs : dSwap w = 0) : convert w bs = bs := by
  have hbytes : bs.length = widthBits (dWs w) / 8 * (bs.length / (widthBits (dWs w) / 8)) := by
    rw [Nat.mul_div_cancel' (Nat.dvd_of_mod_eq_zero (hlen ▸ hwhole))]
  simp only [convert, hs, swapBytes_none, ← hw, convElem_same_bytes dWs_lt]
  exact elements_bytes hbytes

end

/-- Settles O50: element by element, and the worked example by evaluation. -/
theorem shuttleConversion : Obligations.ShuttleConversion := by
  intro w bs hlen hwhole
  refine ⟨convert_length hlen, fun hw _ hs => convert_same_width hlen hwhole hw hs, fun _ hk h4 => swapBytes_swapBytes hk h4, fun hs hd hc hx hbs => ?_⟩
  subst hbs
  simp only [convert, hs, hd, hc, hx]
  decide

end Sys2Proof.Machine
end

section
/-!
The checks of a packet in their order, and a packet that passes them (21_command_protocol R521, R522, R524, R528).
-/
namespace Sys2Proof.Machine

section
variable {n x op flags st : Nat} {c : Carrier} {bs p extra xs ys : List Byte} {d : Device} {rq : ReqCtx}

/-! ### Numbers in a packet -/

theorem leNat_leBytes : leNat (leBytes x n) = x % 256 ^ n := by
  induction n generalizing x with
  | zero => simp [leBytes, leNat, Nat.mod_one]
  | succ n ih =>
    rw [leBytes, leNat, ih, BitVec.toNat_ofNat, Nat.pow_succ' (n := n), Nat.mod_mul]

/-- A little-endian number that stands behind other bytes. -/
theorem leNat_at (hxs : xs.length = st) : leNat (((xs ++ (leBytes x n ++ ys)).drop st).take n) = x % 256 ^ n := by
  rw [List.drop_left' hxs, List.take_left' leBytes_length, leNat_leBytes]

theorem u16_at (hxs : xs.length = st) : u16 (xs ++ (leBytes x 2 ++ ys)) st = x % 65536 := leNat_at hxs
theorem u32_at (hxs : xs.length = st) : u32 (xs ++ (leBytes x 4 ++ ys)) st = x % 4294967296 := leNat_at hxs

/-! ### The form of a packet (R521) -/

/-- The first 12 bytes of a packet, which its CRC-16 covers. -/
def packetHead (rq : ReqCtx) (op flags n : Nat) : List Byte :=
  [rq.major, rq.minor] ++ leBytes op 2 ++ leBytes rq.seq.toNat 2 ++ leBytes flags 1 ++ [rq.id] ++ leBytes n 4

/-- A packet but for its CRC-32. -/
def packetBody (rq : ReqCtx) (op flags st : Nat) (p : List Byte) : List Byte :=
  packetHead rq op flags p.length ++ (leBytes (crc16 (packetHead rq op flags p.length)).toNat 2 ++ (leBytes st 2 ++ p))

theorem packet_eq : packet rq op flags st p = packetBody rq op flags st p ++ leBytes (crc32 (packetBody rq op flags st p)).toNat 4 := by
  simp only [packet, packetBody, packetHead, List.append_assoc]

theorem packetHead_length : (packetHead rq op flags n).length = 12 := by simp [packetHead, leBytes_length]

theorem packetBody_length : (packetBody rq op flags st p).length = 16 + p.length := by
  simp [packetBody, packetHead_length, leBytes_length]
  omega

theorem packet_length : (packet rq op flags st p).length = 20 + p.length := by
  simp [packet_eq, packetBody_length, leBytes_length]
  omega

/-- The CRC-32 of a request stands behind its parameters. -/
theorem requestCrc_eq : requestCrc rq op p = (crc32 (packetBody rq op 0 0 p)).toNat := by
  have h := u32_at (x := (crc32 (packetBody rq op 0 0 p)).toNat) (ys := []) (packetBody_length (rq := rq) (op := op) (flags := 0) (st := 0) (p := p))
  rw [List.append_nil, ← packet_eq] at h
  exact h.trans (Nat.mod_eq_of_lt (crc32 _).isLt)

section
variable {t : List Byte}

theorem head_opcode : u16 (packetHead rq op flags n ++ t) 2 = op % 65536 := by
  have h := u16_at (x := op) (xs := [rq.major, rq.minor]) (st := 2)
    (ys := leBytes rq.seq.toNat 2 ++ (leBytes flags 1 ++ ([rq.id] ++ (leBytes n 4 ++ t)))) rfl
  simpa only [packetHead, List.append_assoc] using h

theorem head_sequence : u16 (packetHead rq op flags n ++ t) 4 = rq.seq.toNat := by
  have h := u16_at (x := rq.seq.toNat) (xs := [rq.major, rq.minor] ++ leBytes op 2) (st := 4)
    (ys := leBytes flags 1 ++ ([rq.id] ++ (leBytes n 4 ++ t))) rfl
  rw [Nat.mod_eq_of_lt (show rq.seq.toNat < 65536 from rq.seq.isLt)] at h
  simpa only [packetHead, List.append_assoc] using h

theorem head_length : u32 (packetHead rq op flags n ++ t) 8 = n % 4294967296 := by
  have h := u32_at (x := n) (xs := [rq.major, rq.minor] ++ leBytes op 2 ++ leBytes rq.seq.toNat 2 ++ leBytes flags 1 ++ [rq.id]) (st := 8)
    (ys := t) rfl
  simpa only [packetHead, List.append_assoc] using h

theorem head_flags : u8 (packetHead rq op flags n ++ t) 6 = flags % 256 := by
  simp [u8, byteAt, packetHead, leBytes]

theorem head_context : ctxOf rq.carrier (packetHead rq op flags n ++ t) = rq := by
  have hid : (packetHead rq op flags n ++ t).getD 7 0 = rq.id := by simp [packetHead, leBytes]
  have hmaj : (packetHead rq op flags n ++ t).getD 0 0 = rq.major := by simp [packetHead]
  have hmin : (packetHead rq op flags n ++ t).getD 1 0 = rq.minor := by simp [packetHead]
  simp only [ctxOf, head_sequence, hid, hmaj, hmin, BitVec.ofNat_toNat, BitVec.setWidth_eq]

end

/-- What stands behind the head of a packet. -/
def packetTail (rq : ReqCtx) (op : Nat) (p extra : List Byte) : List Byte :=
  leBytes (crc16 (packetHead rq op 0 p.length)).toNat 2 ++ (leBytes 0 2 ++ (p ++ (leBytes (crc32 (packetBody rq op 0 0 p)).toNat 4 ++ extra)))

theorem packet_append : packet rq op 0 0 p ++ extra = packetHead rq op 0 p.length ++ packetTail rq op p extra := by
  simp only [packet_eq, packetBody, packetTail, List.append_assoc]

theorem packet_crc16 : u16 (packet rq op 0 0 p ++ extra) 12 = (crc16 ((packet rq op 0 0 p ++ extra).take 12)).toNat := by
  rw [packet_append, List.take_left' packetHead_length, packetTail, u16_at packetHead_length]
  exact Nat.mod_eq_of_lt (crc16 _).isLt

theorem packet_status : u16 (packet rq op 0 0 p ++ extra) 14 = 0 := by
  rw [packet_append, packetTail, ← List.append_assoc, u16_at (by simp [packetHead_length, leBytes_length])]

theorem packet_params : ((packet rq op 0 0 p ++ extra).drop 16).take p.length = p := by
  rw [packet_append, packetTail, ← List.append_assoc, ← List.append_assoc,
    List.drop_left' (by simp [packetHead_length, leBytes_length]), List.take_left' rfl]

theorem packet_crc32 : u32 (packet rq op 0 0 p ++ extra) (16 + p.length) = requestCrc rq op p := by
  rw [requestCrc_eq, packet_eq, List.append_assoc, u32_at packetBody_length]
  exact Nat.mod_eq_of_lt (crc32 _).isLt

theorem packet_take : (packet rq op 0 0 p ++ extra).take (16 + p.length) = packetBody rq op 0 0 p := by
  rw [packet_eq, List.append_assoc, List.take_left' packetBody_length]

/-! ### The checks (R522) -/

theorem packetReply_of_check (h : bs.length < 20 ∨ u16 bs 12 ≠ (crc16 (bs.take 12)).toNat) :
    packetReply n c bs d = ((stBadCheck, plainReply (ctxOf c bs) (u16 bs 2) stBadCheck []), d) := by
  rw [packetReply]
  exact if_pos h

theorem no_header_error (hfl : u8 bs 6 = 0) (hst : u16 bs 14 = 0) : ¬ (u8 bs 6 ≠ 0 ∨ u16 bs 14 ≠ 0) := by simp [hfl, hst]

section
variable (hlen : 20 ≤ bs.length) (hcrc : u16 bs 12 = (crc16 (bs.take 12)).toNat)
include hlen hcrc

theorem no_check_error : ¬ (bs.length < 20 ∨ u16 bs 12 ≠ (crc16 (bs.take 12)).toNat) := by
  simp only [hcrc, ne_eq, not_true_eq_false, or_false]
  omega

theorem packetReply_of_header (h : u8 bs 6 ≠ 0 ∨ u16 bs 14 ≠ 0) :
    packetReply n c bs d = ((stBadHeader, plainReply (ctxOf c bs) (u16 bs 2) stBadHeader []), d) := by
  rw [packetReply]
  exact (if_neg (no_check_error hlen hcrc)).trans (if_pos h)

section
variable (hfl : u8 bs 6 = 0) (hst : u16 bs 14 = 0)
include hfl hst

theorem packetReply_of_version (h : versionBad d (ctxOf c bs) (u16 bs 2) = true) :
    packetReply n c bs d = ((stVersion, plainReply (ctxOf c bs) (u16 bs 2) stVersion [2, 3]), d) := by
  rw [packetReply]
  exact (if_neg (no_check_error hlen hcrc)).trans ((if_neg (no_header_error hfl hst)).trans (if_pos h))

section
variable (hv : versionBad d (ctxOf c bs) (u16 bs 2) = false)
include hv

theorem packetReply_of_length (h : u32 bs 8 > bs.length - 20 ∨ 20 + u32 bs 8 > 4096) :
    packetReply n c bs d = ((stBadLength, plainReply (ctxOf c bs) (u16 bs 2) stBadLength []), d) := by
  rw [packetReply]
  exact (if_neg (no_check_error hlen hcrc)).trans
    ((if_neg (no_header_error hfl hst)).trans ((if_neg (by simp [hv])).trans (if_pos h)))

theorem packetReply_of_crc (h : ¬ (u32 bs 8 > bs.length - 20 ∨ 20 + u32 bs 8 > 4096))
    (hbad : u32 bs (16 + u32 bs 8) ≠ (crc32 (bs.take (16 + u32 bs 8))).toNat) :
    packetReply n c bs d = ((stBadCheck, plainReply (ctxOf c bs) (u16 bs 2) stBadCheck []), d) := by
  rw [packetReply]
  exact (if_neg (no_check_error hlen hcrc)).trans
    ((if_neg (no_header_error hfl hst)).trans ((if_neg (by simp [hv])).trans ((if_neg h).trans (if_pos hbad))))

/-- A packet that passes the checks runs its operation, but for one that SLV_FORWARD carries to this device. -/
theorem packetReply_of_good (h : ¬ (u32 bs 8 > bs.length - 20 ∨ 20 + u32 bs 8 > 4096))
    (hgood : u32 bs (16 + u32 bs 8) = (crc32 (bs.take (16 + u32 bs 8))).toNat) (hp : (bs.drop 16).take (u32 bs 8) = p)
    (hown : ¬ (u16 bs 2 = 0x0B04 ∧ u8 p 0 = devId d)) :
    packetReply n c bs d =
      serve (ctxOf c bs) (u16 bs 2) p (u32 bs (16 + u32 bs 8)) (opAct (ctxOf c bs) (u16 bs 2) p) d := by
  subst hp
  rw [packetReply]
  refine (if_neg (no_check_error hlen hcrc)).trans
    ((if_neg (no_header_error hfl hst)).trans ((if_neg (by simp [hv])).trans ((if_neg h).trans ((if_neg (not_not.mpr hgood)).trans ?_))))
  cases n with
  | zero => rfl
  | succ k => exact if_neg hown

end
end
end

/-- A good packet is the request that its header and parameters say. -/
theorem packetReply_packet (hop : op < 65536) (hp : p.length ≤ 4076) (hv : versionBad d rq op = false)
    (hown : op = 0x0B04 → u8 p 0 ≠ devId d) :
    packetReply n rq.carrier (packet rq op 0 0 p ++ extra) d = serve rq op p (requestCrc rq op p) (opAct rq op p) d := by
  have hlen : (packet rq op 0 0 p ++ extra).length = 20 + p.length + extra.length := by rw [List.length_append, packet_length]
  have hctx : ctxOf rq.carrier (packet rq op 0 0 p ++ extra) = rq := by rw [packet_append, head_context]
  have hopc : u16 (packet rq op 0 0 p ++ extra) 2 = op := by rw [packet_append, head_opcode, Nat.mod_eq_of_lt hop]
  have hn : u32 (packet rq op 0 0 p ++ extra) 8 = p.length := by
    rw [packet_append, head_length, Nat.mod_eq_of_lt (by omega)]
  have hparams : ((packet rq op 0 0 p ++ extra).drop 16).take (u32 (packet rq op 0 0 p ++ extra) 8) = p := by rw [hn, packet_params]
  have hfl : u8 (packet rq op 0 0 p ++ extra) 6 = 0 := by rw [packet_append, head_flags]
  have hcrc : u32 (packet rq op 0 0 p ++ extra) (16 + p.length) = (crc32 ((packet rq op 0 0 p ++ extra).take (16 + p.length))).toNat := by
    rw [packet_crc32, packet_take, requestCrc_eq]
  have hrun := packetReply_of_good (n := n) (c := rq.carrier) (d := d) (by omega) packet_crc16 hfl packet_status
    (by rwa [hctx, hopc]) (by omega) (by rwa [hn]) hparams (by rw [hopc]; exact fun h => hown h.1 h.2)
  rwa [hctx, hopc, hn, packet_crc32] at hrun

/-! ### Versions and kept replies (R524, R528) -/

theorem versionBad_of_unlisted (h : rqVersion rq ∉ versions) : versionBad d rq op = true := by
  simp [versionBad, h]

/-- HELLO asks for no version of a session. -/
theorem versionBad_hello (h : rqVersion rq ∈ versions) : versionBad d rq 1 = false := by
  simp [versionBad, h]

/-- The row of an opcode that Thimble knows, as the check of R522 step 4 looks it up. -/
theorem opRow_of_served (hrom : romBoot d = true → romServes op = true) (hrow : (opRow op (rqVersion rq)).isSome = true) :
    ∃ row, opRow op (rqVersion rq) = some row ∧
      (if (romBoot d && !romServes op) = true then none else opRow op (rqVersion rq)) = some row := by
  obtain ⟨row, hrow⟩ := Option.isSome_iff_exists.mp hrow
  exact ⟨row, hrow, by rw [if_neg (by simpa using hrom), hrow]⟩

section
variable {crc : Nat} {act : Session → Device → Res} {x : Session} {k : Kept} (hv : versionBad d rq op = false)
  (hrom : romBoot d = true → romServes op = true) (hrow : (opRow op (rqVersion rq)).isSome = true) (hop : op ≠ 1)
include hv hrom hrow hop

theorem serve_of_no_session (hs : sessionOf d rq.carrier rq.id.toNat = none) :
    serve rq op p crc act d = ((stNotOwner, plainReply rq op stNotOwner []), d) := by
  obtain ⟨row, -, hknown⟩ := opRow_of_served hrom hrow
  simp only [serve, hv, hknown, hs, hop, if_false, Bool.false_eq_true]

/-- A sequence number whose reply is kept: the reply again, or BAD_HEADER for another request. -/
theorem serve_of_kept (hs : sessionOf d rq.carrier rq.id.toNat = some x) (hk : x.kept.find? (fun k => k.seq == rq.seq.toNat) = some k) :
    serve rq op p crc act d = if k.crc = crc then ((stOk + 0x200, k.reply), d) else ((stBadHeader, plainReply rq op stBadHeader []), d) := by
  obtain ⟨row, -, hknown⟩ := opRow_of_served hrom hrow
  simp only [serve, hv, hknown, hs, hop, hk, if_false, Bool.false_eq_true]

end
end

/-- Settles O57: check by check. A reply that the session keeps is found by its sequence number and CRC (log entry 52). -/
theorem packetChecks : Obligations.PacketChecks := by
  refine ⟨fun n c bs d => ⟨fun h => ?check, fun hlen hcrc => ⟨fun h => ?header, fun hfl hst => ⟨fun h => ?version, fun hv =>
      ⟨fun h => ?length, fun hl h4 hbad => ?crc⟩⟩⟩⟩,
    fun n rq op p extra d hop hp hv hown => packetReply_packet hop hp hv hown,
    fun rq op p crc act d x k hv hrom hrow hop => ⟨fun hs => ?nosession, fun hs hk => ⟨fun hc => ?kept, fun hc => ?other⟩⟩,
    fun d rq h => versionBad_hello h⟩
  case check => rw [packetReply_of_check h]; exact ⟨rfl, rfl⟩
  case header => rw [packetReply_of_header hlen hcrc h]; exact ⟨rfl, rfl⟩
  case version => exact packetReply_of_version hlen hcrc hfl hst (versionBad_of_unlisted h)
  case length => rw [packetReply_of_length hlen hcrc hfl hst hv h]; exact ⟨rfl, rfl⟩
  case crc => rw [packetReply_of_crc hlen hcrc hfl hst hv (by omega) hbad]; exact ⟨rfl, rfl⟩
  case nosession => rw [serve_of_no_session hv hrom hrow hop hs]; exact ⟨rfl, rfl⟩
  case kept => rw [serve_of_kept hv hrom hrow hop hs hk, if_pos hc]; exact ⟨rfl, rfl⟩
  case other => rw [serve_of_kept hv hrom hrow hop hs hk, if_neg hc]; exact ⟨rfl, rfl⟩

end Sys2Proof.Machine
end

section
/-!
The register file over a chain of register writes: what every register reads at the end of the chain, as a function of its address.
-/
namespace Sys2Proof.Machine

/-- Device `e` has its registers in canonical form, and they read as `f` says. -/
structure RegsAre (e : Device) (f : Nat → Word) : Prop where
  wf : tabWf regDefault e.regs = true
  reg : ∀ a, e.reg a = f a

/-- The registers `f` with one field of the register at `a` replaced. -/
def fldSet (f : Nat → Word) (a lo n v : Nat) : Nat → Word := Function.update f a (withField (f a) lo n v)

@[simp] theorem fldSet_self {f : Nat → Word} {a lo n v : Nat} : fldSet f a lo n v a = withField (f a) lo n v := Function.update_self ..
@[simp] theorem fldSet_ne {f : Nat → Word} {a b lo n v : Nat} (h : b ≠ a) : fldSet f a lo n v b = f b := Function.update_of_ne h ..

section
variable {d e x : Device} {f : Nat → Word} {a lo n v k : Nat}

theorem RegsAre.of_wf (hw : tabWf regDefault d.regs = true) : RegsAre d d.reg := ⟨hw, fun _ => rfl⟩

theorem RegsAre.congr (h : RegsAre e f) (hx : x.regs = e.regs) : RegsAre x f :=
  ⟨hx ▸ h.wf, fun a => (Device.reg_congr hx).trans (h.reg a)⟩

theorem RegsAre.setReg {w : Word} (h : RegsAre e f) : RegsAre (e.setReg a w) (Function.update f a w) where
  wf := Device.setReg_wf _ _ _ h.wf
  reg b := by
    by_cases hb : b = a
    · rw [hb, Function.update_self, Device.reg_setReg_same _ _ _ h.wf]
    · rw [Function.update_of_ne hb, Device.reg_setReg_ne _ _ _ _ hb h.wf, h.reg]

theorem RegsAre.setFld (h : RegsAre e f) : RegsAre (e.setFld a lo n v) (fldSet f a lo n v) := by
  rw [fldSet, ← h.reg a]
  exact h.setReg

theorem RegsAre.putBit {b : Bool} (h : RegsAre e f) : RegsAre (e.putBit a k b) (fldSet f a k 1 (b2n b)) := h.setFld
theorem RegsAre.setBit (h : RegsAre e f) : RegsAre (e.setBit a k) (fldSet f a k 1 1) := h.putBit

theorem RegsAre.bump (h : RegsAre e f) : RegsAre (e.bump a lo n v) (fldSet f a lo n (wrap n (fieldOf (f a) lo n + v))) := by
  rw [← h.reg a]
  exact h.setFld

theorem RegsAre.fld (h : RegsAre e f) : e.fld a lo n = fieldOf (f a) lo n := by rw [Device.fld, h.reg]
theorem RegsAre.bit (h : RegsAre e f) : e.bit a k = (fieldOf (f a) k 1 == 1) := by rw [Device.bit, h.fld]

/-- A bit is a field of its register. -/
theorem Device.bit_eq_fieldOf : d.bit a k = (fieldOf (d.reg a) k 1 == 1) := rfl

end
/-! ### Tables by what they read -/

section
variable {α : Type} [DecidableEq α] {df : Nat → α}

/-- Two canonical tables that read alike are the same data. -/
theorem tab_ext {t u : Tab α} (ht : tabWf df t = true) (hu : tabWf df u = true) (h : ∀ k, tabGet df t k = tabGet df u k) : t = u := by
  induction t generalizing u with
  | nil =>
    cases u with
    | nil => rfl
    | cons q u =>
      obtain ⟨k, v⟩ := q
      simp only [tabWf, Bool.and_eq_true, decide_eq_true_eq] at hu
      exact absurd (by simpa [tabGet] using (h k).symm) hu.1.1
  | cons p t ih =>
    obtain ⟨k, v⟩ := p
    have hfirst : tabGet df ((k, v) :: t) k = v := if_pos rfl
    have ht' := ht
    simp only [tabWf, Bool.and_eq_true, decide_eq_true_eq] at ht'
    obtain ⟨⟨hv, habove⟩, htail⟩ := ht'
    cases u with
    | nil => exact absurd (hfirst.symm.trans (h k)) hv
    | cons q u =>
      obtain ⟨k', v'⟩ := q
      have hfirst' : tabGet df ((k', v') :: u) k' = v' := if_pos rfl
      have hu' := hu
      simp only [tabWf, Bool.and_eq_true, decide_eq_true_eq] at hu'
      obtain ⟨⟨hv', habove'⟩, htail'⟩ := hu'
      rcases Nat.lt_trichotomy k k' with hlt | rfl | hlt
      · have hdf : tabGet df ((k', v') :: u) k = df k := tabGet_above df _ k hu (by simp [tabAbove, hlt])
        exact absurd (hfirst.symm.trans ((h k).trans hdf)) hv
      · have hval : v = v' := hfirst.symm.trans ((h k).trans hfirst')
        have hrest (j : Nat) : tabGet df t j = tabGet df u j := by
          by_cases hj : k = j
          · rw [← hj, tabGet_above df t k htail habove, tabGet_above df u k htail' habove']
          · simpa [tabGet, hj] using h j
        rw [hval, ih htail htail' hrest]
      · have hdf : tabGet df ((k, v) :: t) k' = df k' := tabGet_above df _ k' ht (by simp [tabAbove, hlt])
        exact absurd (hfirst'.symm.trans ((h k').symm.trans hdf)) hv'

/-- Of two writes at one key the second stays. -/
theorem tabSet_tabSet {t : Tab α} {k : Nat} {v w : α} (ht : tabWf df t = true) : tabSet df (tabSet df t k v) k w = tabSet df t k w := by
  have hv := tabWf_tabSet df t k v ht
  refine tab_ext (tabWf_tabSet df _ k w hv) (tabWf_tabSet df t k w ht) fun j => ?_
  by_cases hj : j = k
  · rw [hj, tabGet_tabSet_same _ _ _ _ hv, tabGet_tabSet_same _ _ _ _ ht]
  · rw [tabGet_tabSet_ne _ _ _ _ _ hj hv, tabGet_tabSet_ne _ _ _ _ _ hj ht, tabGet_tabSet_ne _ _ _ _ _ hj ht]

/-- Writing what a key already reads changes nothing. -/
theorem tabSet_tabGet {t : Tab α} {k : Nat} (ht : tabWf df t = true) : tabSet df t k (tabGet df t k) = t := by
  refine tab_ext (tabWf_tabSet df t k _ ht) ht fun j => ?_
  by_cases hj : j = k
  · rw [hj, tabGet_tabSet_same _ _ _ _ ht]
  · rw [tabGet_tabSet_ne _ _ _ _ _ hj ht]

end

theorem Device.setReg_reg {d : Device} {a : Nat} (hw : tabWf regDefault d.regs = true) : d.setReg a (d.reg a) = d := by
  rw [Device.setReg, Device.reg, tabSet_tabGet hw]

theorem Device.setReg_setReg {d : Device} {a : Nat} {v w : Word} (hw : tabWf regDefault d.regs = true) :
    (d.setReg a v).setReg a w = d.setReg a w := by
  simp only [Device.setReg, tabSet_tabSet hw]

/-! ### Fields within fields -/

theorem bitsAt_bitsAt {x lo n i k : Nat} (h : i + k ≤ n) : bitsAt (bitsAt x lo n) i k = bitsAt x (lo + i) k := by
  refine Nat.eq_of_testBit_eq fun b => ?_
  simp only [bitsAt, Nat.testBit_mod_two_pow, Nat.testBit_shiftRight]
  by_cases hb : b < k
  · have hin : i + b < n := by omega
    simp [hb, hin, Nat.add_assoc]
  · simp [hb]

/-- Part of a field that has just been written. -/
theorem fieldOf_withField_within {w : Word} {lo n v i k : Nat} (h : lo + n ≤ 32) (hk : i + k ≤ n) :
    fieldOf (withField w lo n v) (lo + i) k = bitsAt v i k := by
  have hsame : bitsAt (withField w lo n v).toNat lo n = bitsAt v 0 n := fieldOf_withField_same w lo n v h
  rw [fieldOf, ← bitsAt_bitsAt hk, hsame, bitsAt_bitsAt hk, Nat.zero_add]

end Sys2Proof.Machine
end

section
/-!
The fault log: its FIFOs, its entries and its windows (19_mending_faults R489 to R494, R500).
-/
namespace Sys2Proof.Machine

section
variable {d : Device} {h : Half} {cls src detail : Nat}

/-! ### Reports into the FIFOs (R489) -/

/-- Where no class is watched, a report of any class ends with the FIFO or the count of what was dropped. -/
theorem no_trigger_class (hb : d.fld (bobA 0) 0 16 = 0) :
    ¬ (cls ≠ 0 ∧ (cls = d.fld (bobA 0) 0 8 ∨ cls = d.fld (bobA 0) 8 8)) := by
  simp only [Device.fld, fieldOf, bitsAt_eq] at hb ⊢
  omega

theorem fault_with_room (hb : d.fld (bobA 0) 0 16 = 0) (hf : (d.fifo h).length < 1024) :
    d.fault h cls src detail = d.setFifo h (d.fifo h ++ [⟨cls, src, detail, d.now h⟩]) := by
  by_cases hc : cls = 0
  · simp [Device.fault, hf, hc]
  · exact fault_of_no_triggers hb hc hf

/-- The device whose FIFO has dropped one more report. -/
def reportDropped (h : Half) (d : Device) : Device :=
  match h with
  | .w => { d.bumpSat (thmA 0x2420) 0 16 1 with log := { d.log with dropW := d.log.dropW + 1 } }
  | .e => { d.bumpSat (thmA 0x2420) 0 16 1 with log := { d.log with dropE := d.log.dropE + 1 } }

theorem reportDropped_regs : (reportDropped h d).regs = (d.bumpSat (thmA 0x2420) 0 16 1).regs := by cases h <;> rfl

theorem reportDropped_fifo : (reportDropped h d).fifo h = d.fifo h := by cases h <;> rfl

theorem fault_without_room (hb : d.fld (bobA 0) 0 16 = 0) (hf : 1024 ≤ (d.fifo h).length) (hw : tabWf regDefault d.regs = true) :
    d.fault h cls src detail = reportDropped h d := by
  have hbob : (reportDropped h d).fld (bobA 0) 0 16 = 0 := by
    rwa [Device.fld_congr ((Device.reg_congr reportDropped_regs).trans (Device.reg_setFld_ne (b := bobA 0) (by decide) hw))]
  have hfull : ¬ (d.fifo h).length < 1024 := by omega
  have hrun : d.fault h cls src detail = if cls ≠ 0 ∧ (cls = (reportDropped h d).fld (bobA 0) 0 8 ∨
      cls = (reportDropped h d).fld (bobA 0) 8 8) then (reportDropped h d).bobTrigger 3 else reportDropped h d := by
    simp only [Device.fault, hfull, if_false]
    cases h <;> rfl
  rw [hrun, if_neg (no_trigger_class hbob)]

theorem reportDropped_count (hw : tabWf regDefault d.regs = true) :
    (reportDropped h d).fld (thmA 0x2420) 0 16 = sat 65535 (d.fld (thmA 0x2420) 0 16 + 1) := by
  have hlow : sat 65535 (d.fld (thmA 0x2420) 0 16 + 1) < 2 ^ 16 := by unfold sat; split <;> omega
  rw [Device.fld_congr (Device.reg_congr reportDropped_regs), Device.bumpSat, Device.fld_setFld_same _ _ _ _ _ (by decide) hw]
  exact Nat.mod_eq_of_lt hlow

/-! ### Entries (R492) -/

theorem Device.logEntry_setLogEntry {i : Nat} {x : LogEntry} (hl : tabWf logReset d.log.ring = true) :
    (d.setLogEntry i x).logEntry i = x := tabGet_tabSet_same _ _ _ _ hl

theorem Device.logEntry_setLogEntry_ne {i k : Nat} {x : LogEntry} (hk : k ≠ i) (hl : tabWf logReset d.log.ring = true) :
    (d.setLogEntry i x).logEntry k = d.logEntry k := tabGet_tabSet_ne _ _ _ _ _ hk hl

theorem openOf_mem {i : Nat} (ho : openOf d cls src = some i) : d.log.opened.contains i = true :=
  List.contains_iff_mem.mpr (List.mem_of_find?_eq_some ho)

/-- The device whose entry at `i` is closed. -/
def entryClosed (i : Nat) (d : Device) : Device :=
  let e := d.setLogEntry i { d.logEntry i with open_ := false }
  { e with log := { e.log with opened := e.log.opened.filter (fun k => k != i) } }

theorem logClose_of_open {i : Nat} (ho : openOf d cls src = some i) : logClose cls src d = entryClosed i d := by
  simp only [logClose, ho]
  exact if_pos (openOf_mem ho)

theorem logClose_of_none (ho : openOf d cls src = none) : logClose cls src d = d := by simp only [logClose, ho]

theorem entryClosed_shows {i : Nat} (hl : tabWf logReset d.log.ring = true) :
    (entryClosed i d).logEntry i = { d.logEntry i with open_ := false } ∧ i ∉ (entryClosed i d).log.opened :=
  ⟨Device.logEntry_setLogEntry hl, by simp [entryClosed]⟩

section
variable {r : Report} (hirq : irqEnabled d r.cls r.src = false)
include hirq

theorem reportIrq_of_disabled : reportIrq r.cls r.src d = (false, d) := if_pos (by simp [hirq])

/-- A report of an open fingerprint is counted in its entry. -/
theorem logReport_of_open {i : Nat} (ho : openOf d r.cls r.src = some i) (hl : tabWf logReset d.log.ring = true) :
    (logReport r d).regs = d.regs ∧ (logReport r d).fifo h = d.fifo h ∧
      (logReport r d).logEntry i = { d.logEntry i with last := r.time, detail := r.detail
                                                       count := sat (2 ^ 32 - 1) ((d.logEntry i).count + 1) } ∧
      ∀ k, k ≠ i → (logReport r d).logEntry k = d.logEntry k := by
  simp only [logReport, reportIrq_of_disabled hirq, ho, Bool.or_false]
  exact ⟨rfl, by cases h <;> rfl, Device.logEntry_setLogEntry hl, fun k hk => Device.logEntry_setLogEntry_ne hk hl⟩

/-- A new fingerprint takes the entry at the head. -/
theorem logReport_of_new (ho : openOf d r.cls r.src = none) (hroom : d.log.opened.length < 256)
    (hfree : d.log.opened.contains (d.fld (thmA 0x2420) 16 12) = false) (hw : tabWf regDefault d.regs = true)
    (hl : tabWf logReset d.log.ring = true) :
    (logReport r d).fifo h = d.fifo h ∧ (logReport r d).fld (thmA 0x2420) 16 12 = (d.fld (thmA 0x2420) 16 12 + 1) % 4096 ∧
      (logReport r d).logEntry (d.fld (thmA 0x2420) 16 12) =
        { first := r.time, last := r.time, cls := r.cls, src := r.src, detail := r.detail, count := 1
          open_ := true, irq := false, mirrored := false } ∧
      ∀ k, k ≠ d.fld (thmA 0x2420) 16 12 → (logReport r d).logEntry k = d.logEntry k := by
  have hroom' : ¬ 256 ≤ d.log.opened.length := by omega
  simp only [logReport, reportIrq_of_disabled hirq, ho, ge_iff_le, hroom', if_false, closeEntry, hfree, Bool.false_eq_true]
  exact ⟨by cases h <;> rfl, Device.fld_setFld_same _ _ _ _ _ (by decide) hw, Device.logEntry_setLogEntry hl,
    fun k hk => Device.logEntry_setLogEntry_ne hk hl⟩

end

theorem lostReport_of_none (hn : (if h = .w then d.log.dropW else d.log.dropE) = 0) : lostReport h d = d := by
  cases h <;> exact if_pos hn

/-- Taking a report where none was lost. -/
theorem logTake_of_cons {r : Report} {rest : List Report} (hf : d.fifo h = r :: rest)
    (hn : (if h = .w then d.log.dropW else d.log.dropE) = 0) : logTake h d = logReport r (d.setFifo h rest) := by
  have hlost : lostReport h (d.setFifo h rest) = d.setFifo h rest := lostReport_of_none (by cases h <;> exact hn)
  simp only [logTake, hf, hlost]

theorem logTake_of_nil (hf : d.fifo h = []) : logTake h d = d := by simp only [logTake, hf]

/-! ### Windows (R494) -/

/-- The management interrupt is the host port's affair alone. -/
theorem Device.mgmt_log (d : Device) : d.mgmt.log = d.log := by
  simp only [Device.mgmt, Device.msix]
  split
  · split <;> rfl
  · rfl

theorem Device.raiseInt_log {k : Nat} : (d.raiseInt k).log = d.log := Device.mgmt_log _

theorem Device.raiseInt_bit {k : Nat} (hk : k < 32) (hw : tabWf regDefault d.regs = true) : (d.raiseInt k).bit (thmA 0x44) k = true := by
  rw [Device.raiseInt, Device.bit_congr (Device.reg_congr (Device.mgmt_regs _))]
  exact Device.bit_setBit_same hk hw

/-- The device whose fingerprint's open entry, if any, shows an interrupt. -/
def irqShown (cls src : Nat) (d : Device) : Device :=
  match openOf d cls src with
  | some i => d.setLogEntry i { d.logEntry i with irq := true }
  | none => d

theorem irqShown_keeps : (irqShown cls src d).regs = d.regs ∧ (irqShown cls src d).log.windows = d.log.windows := by
  unfold irqShown
  split <;> exact ⟨rfl, rfl⟩

theorem irqWindow_of_reports (hwin : d.log.windows = [(cls, src, true)]) (hw : tabWf regDefault d.regs = true) :
    (irqWindow cls src d).log.windows = [(cls, src, false)] ∧ (irqWindow cls src d).bit (thmA 0x44) 2 = true := by
  have hrun : irqWindow cls src d =
      (irqShown cls src { d with log := { d.log with windows := [(cls, src, false)] } }).raiseInt 2 := by
    simp [irqWindow, hwin, irqShown] <;> rfl
  obtain ⟨hregs, hwins⟩ := irqShown_keeps (cls := cls) (src := src) (d := { d with log := { d.log with windows := [(cls, src, false)] } })
  rw [hrun, Device.raiseInt_log, hwins]
  exact ⟨rfl, Device.raiseInt_bit (by decide) (by rwa [hregs])⟩

theorem irqWindow_of_quiet (hwin : d.log.windows = [(cls, src, false)]) :
    irqWindow cls src d = { d with log := { d.log with windows := [] } } := by
  simp [irqWindow, hwin]

/-! ### The latched entry (R500) -/

/-- Writing registers at distinct addresses, one after another. -/
theorem each_setReg {n : Nat} {addr : Nat → Nat} {v : Nat → Word} (hinj : ∀ i j, addr i = addr j → i = j)
    (hw : tabWf regDefault d.regs = true) :
    tabWf regDefault (d.each (upto n) fun e k => e.setReg (addr k) (v k)).regs = true ∧
      (∀ k, k < n → (d.each (upto n) fun e k => e.setReg (addr k) (v k)).reg (addr k) = v k) ∧
      ∀ a, (∀ k, k < n → a ≠ addr k) → (d.each (upto n) fun e k => e.setReg (addr k) (v k)).reg a = d.reg a := by
  induction n with
  | zero => exact ⟨hw, fun k hk => absurd hk (Nat.not_lt_zero k), fun _ _ => rfl⟩
  | succ n ih =>
    obtain ⟨hwn, hsame, hother⟩ := ih
    have hstep : (d.each (upto (n + 1)) fun e k => e.setReg (addr k) (v k)) =
        (d.each (upto n) fun e k => e.setReg (addr k) (v k)).setReg (addr n) (v n) := by
      simp [Device.each, upto, List.range_succ]
    rw [hstep]
    refine ⟨Device.setReg_wf _ _ _ hwn, fun k hk => ?_, fun a ha => ?_⟩
    · rcases Nat.lt_succ_iff_lt_or_eq.mp hk with hlt | rfl
      · rw [Device.reg_setReg_ne _ _ _ _ (fun h => Nat.ne_of_lt hlt (hinj _ _ h)) hwn, hsame k hlt]
      · exact Device.reg_setReg_same _ _ _ hwn
    · rw [Device.reg_setReg_ne _ _ _ _ (ha n (Nat.lt_succ_self n)) hwn, hother a fun k hk => ha k (Nat.lt_succ_of_lt hk)]

/-- An index selects an entry, whose bytes its eight data registers then hold. -/
theorem logIdxWrite_shows {i : Nat} (hi : i < 4096) (hw : tabWf regDefault d.regs = true) :
    (logIdxWrite i d).fld (thmA 0x2424) 0 12 = i ∧ (logIdxWrite i d).log = d.log ∧
      ∀ n, n < 8 → (logIdxWrite i d).reg (thmA (0x2430 + 4 * n)) = leWord ((entryBytes (d.logEntry i)).drop (4 * n)) := by
  obtain ⟨-, hdata, hother⟩ := each_setReg (n := 8) (d := d.setFld (thmA 0x2424) 0 12 i) (addr := fun n => thmA (0x2430 + 4 * n))
    (v := fun n => leWord ((entryBytes (d.logEntry i)).drop (4 * n))) (fun _ _ h => by unfold thmA at h; omega) (Device.setFld_wf hw)
  have hsel : (d.setFld (thmA 0x2424) 0 12 i).fld (thmA 0x2424) 0 12 = i :=
    (Device.fld_setFld_same _ _ _ _ _ (by decide) hw).trans (Nat.mod_eq_of_lt hi)
  have hlog : (logIdxWrite i d).log = d.log := by
    unfold logIdxWrite
    exact Device.each_keeps Device.log (by intros; rfl) _ _
  exact ⟨(Device.fld_congr (hother _ fun k _ => by unfold thmA; omega)).trans hsel,
    hlog, hdata⟩

end

/-! ### Where the commands complete -/

section
variable {s : State} {h : Half} {c : BitVec 8} {src : BitVec 24}

theorem gives_faultReport (det) : gives (.faultReport h c src det) s (s.dev.fault h c.toNat src.toNat det.toNat) := rfl
theorem gives_logEngineTake : gives (.logEngineTake h) s (logTake h s.dev) := rfl
theorem gives_logEntryClose : gives (.logEntryClose c src) s (logClose c.toNat src.toNat s.dev) := rfl
theorem gives_faultIrqWindow : gives (.faultIrqWindow c src) s (irqWindow c.toNat src.toNat s.dev) := rfl
theorem gives_logIdxWrite (i : BitVec 12) : gives (.logIdxWrite i) s (logIdxWrite i.toNat s.dev) := rfl

end

/-- Settles O54: command by command. -/
theorem logCompletes : Obligations.LogCompletes := by
  intro s hw hl
  refine ⟨fun h c src det hb => ⟨fun hf => gives_of_eq (gives_faultReport det) (fault_with_room hb hf), fun hf =>
      ⟨_, gives_of_eq (gives_faultReport det) (fault_without_room hb hf hw), reportDropped_fifo, reportDropped_count hw⟩⟩,
    fun h hf => gives_of_eq gives_logEngineTake (logTake_of_nil hf), fun h r rest hf hn hirq => ?take,
    fun c src => ⟨fun i ho => ⟨_, gives_of_eq gives_logEntryClose (logClose_of_open ho), entryClosed_shows hl⟩,
      fun ho => gives_of_eq gives_logEntryClose (logClose_of_none ho),
      fun hwin => ⟨_, gives_faultIrqWindow, irqWindow_of_reports hwin hw⟩,
      fun hwin => gives_of_eq gives_faultIrqWindow (irqWindow_of_quiet hwin)⟩,
    fun i => ⟨_, gives_logIdxWrite i, logIdxWrite_shows i.isLt hw⟩⟩
  case take =>
    have hrun := gives_of_eq (gives_logEngineTake (h := h)) (logTake_of_cons hf hn)
    have hregs : (s.dev.setFifo h rest).regs = s.dev.regs := Device.setFifo_regs _ _ _
    have hring : (s.dev.setFifo h rest).log.ring = s.dev.log.ring := by cases h <;> rfl
    have hopened : (s.dev.setFifo h rest).log.opened = s.dev.log.opened := by cases h <;> rfl
    have hirq' : irqEnabled (s.dev.setFifo h rest) r.cls r.src = false := by cases h <;> exact hirq
    have hopen : openOf (s.dev.setFifo h rest) r.cls r.src = openOf s.dev r.cls r.src := by cases h <;> rfl
    have hentry (k : Nat) : (s.dev.setFifo h rest).logEntry k = s.dev.logEntry k := by cases h <;> rfl
    have hfifo : (s.dev.setFifo h rest).fifo h = rest := Device.fifo_setFifo h rest
    have hhead : (s.dev.setFifo h rest).fld (thmA 0x2420) 16 12 = s.dev.fld (thmA 0x2420) 16 12 := Device.fld_congr (Device.reg_congr hregs)
    refine ⟨?_, fun i ho => ?_⟩
    · rintro i rfl ho hroom hfree
      obtain ⟨h1, h2, h3, h4⟩ := logReport_of_new (h := h) hirq' (hopen.trans ho) (by rwa [hopened]) (by rwa [hopened, hhead])
        (by rwa [hregs]) (by rwa [hring])
      simp only [hhead, hentry, hfifo] at h1 h2 h3 h4
      exact ⟨_, hrun, h1, h2, h3, h4⟩
    · obtain ⟨h1, h2, h3, h4⟩ := logReport_of_open (h := h) hirq' (hopen.trans ho) (by rwa [hring])
      simp only [hentry, hfifo] at h2 h3 h4
      exact ⟨_, hrun, h2, h1.trans hregs, h3, h4⟩

end Sys2Proof.Machine
end

section
/-!
Links between devices (23_selvedge_links R577 to R587): bring-up, packets, time and loss.
-/
namespace Sys2Proof.Machine

/-- Device `e` has the links' registers and state that `d` has. -/
structure LinksKept (d e : Device) : Prop where
  wf : tabWf regDefault e.regs = true
  reg : ∀ a, slvA 0 0 ≤ a → e.reg a = d.reg a
  slv : e.slv = d.slv

section
variable {d e : Device} {n m a k : Nat}

/-! ### Lanes that a link moves (R577, R578) -/

theorem LinksKept.refl (hw : tabWf regDefault d.regs = true) : LinksKept d d := ⟨hw, fun _ _ => rfl, rfl⟩

theorem LinksKept.bit (h : LinksKept d e) (ha : slvA 0 0 ≤ a) : e.bit a k = d.bit a k := Device.bit_congr (h.reg a ha)
theorem LinksKept.fld {lo : Nat} (h : LinksKept d e) (ha : slvA 0 0 ≤ a) : e.fld a lo k = d.fld a lo k := Device.fld_congr (h.reg a ha)
theorem LinksKept.slvLink (h : LinksKept d e) : e.slvLink n = d.slvLink n := by rw [Device.slvLink, h.slv, ← Device.slvLink]

theorem laneStat_lt_slvA {l : Nat} (hl : l < 144) : laneStat l < slvA 0 0 := by
  unfold laneStat laneA quadA slvA
  omega

theorem slvA_le {o : Nat} : slvA 0 0 ≤ slvA n o := by
  unfold slvA
  omega

theorem LinksKept.blockIdle {l : Nat} {enter : Bool} (hl : l < 144) (h : LinksKept d e) : LinksKept d (blockIdle l enter e) := by
  have hshown : IdleShown l _ (Machine.blockIdle l enter e) := laneEval_shown h.wf
  refine ⟨hshown.wf, fun a ha => (hshown.reg a (by have := laneStat_lt_slvA hl; omega)).trans (h.reg a ha), ?_⟩
  unfold Machine.blockIdle laneEval
  extract_lets
  split_ifs <;> exact h.slv

theorem slvLanes_lt {l : Nat} (hn : n < 8) (hl : l ∈ slvLanes d n) : l < 144 := by
  have hwidth : slvWidth d n ≤ 16 := by
    have := fieldOf_lt (lo := 26) (n := 2) (d.reg (slvCtl n))
    unfold slvWidth Device.fld
    omega
  obtain ⟨hl, -⟩ := List.mem_filter.mp hl
  obtain ⟨i, hi, rfl⟩ := List.mem_map.mp hl
  have := List.mem_range.mp hi
  unfold slvLane
  omega

theorem LinksKept.lanesIdle {enter : Bool} {ls : List Nat} (hls : ∀ l ∈ ls, l < 144) (h : LinksKept d e) :
    LinksKept d (e.each ls fun d l => Machine.blockIdle l enter d) :=
  List.foldlRecOn (motive := LinksKept d) _ _ h fun _ hx l hl => hx.blockIdle (hls l hl)

/-! ### Bring-up (R578 to R580) -/

theorem slvSetState_state {st : Nat} (hst : st < 8) (hw : tabWf regDefault d.regs = true) : slvState (slvSetState n st d) n = st :=
  (Device.fld_setFld_same _ _ _ _ _ (by decide) hw).trans (Nat.mod_eq_of_lt hst)

theorem slvFail_shows {cause : Nat} (hc : cause < 4) (hw : tabWf regDefault d.regs = true) :
    slvState (slvFail n cause d) n = 4 ∧ (slvFail n cause d).fld (slvStat n) 16 2 = cause := by
  refine ⟨slvSetState_state (by decide) (Device.setFld_wf hw), ?_⟩
  unfold slvFail slvSetState
  rw [Device.fld_setFld_ne _ _ _ _ _ _ _ (by decide) (by decide) (Device.setFld_wf hw),
    Device.fld_setFld_same _ _ _ _ _ (by decide) hw]
  exact Nat.mod_eq_of_lt hc

/-- The device whose link shows Training, before its lanes move. -/
def trainShown (n : Nat) (d : Device) : Device := slvSetState n 1 ((d.setFld (slvStat n) 16 2 0).setFld (slvStat n) 27 2 0)

theorem slvCtl_ne_slvStat : slvCtl n ≠ slvStat m := by
  unfold slvCtl slvStat slvA
  omega

theorem trainShown_wf (hw : tabWf regDefault d.regs = true) : tabWf regDefault (trainShown n d).regs = true :=
  Device.setFld_wf (Device.setFld_wf (Device.setFld_wf hw))

theorem slvTrain_kept (hn : n < 8) (hw : tabWf regDefault d.regs = true) : LinksKept (trainShown n d) (slvTrain n d) :=
  (LinksKept.refl (trainShown_wf hw)).lanesIdle fun _ hl => slvLanes_lt hn hl

/-- What the start of training shows, and what it leaves of the link's registers. -/
theorem slvTrain_shows (hn : n < 8) (hw : tabWf regDefault d.regs = true) :
    slvState (slvTrain n d) n = 1 ∧ (slvTrain n d).fld (slvStat n) 16 2 = 0 ∧ (slvTrain n d).fld (slvStat n) 27 2 = 0 ∧
      (slvTrain n d).bit (slvStat n) 0 = d.bit (slvStat n) 0 ∧ slvEn (slvTrain n d) n = slvEn d n := by
  have hk := slvTrain_kept hn hw
  have hr : RegsAre (trainShown n d) _ := (RegsAre.of_wf hw).setFld.setFld.setFld
  have hstat : slvA 0 0 ≤ slvStat n := slvA_le
  have hctl : slvA 0 0 ≤ slvCtl n := slvA_le
  simp only [slvState, slvEn, hk.fld hstat, hk.bit hstat, hk.bit hctl, hr.fld, hr.bit]
  simp [slvCtl_ne_slvStat, fieldOf_withField_same, fieldOf_withField_ne, Device.bit_eq_fieldOf]

/-- The word that a write of SLV_CTRL stores (R587). -/
def slvCtrlWord (v old : Word) : Word :=
  let w := v &&& 0x1F8001FF
  let w := if fieldOf w 23 2 = 0 then withField w 23 2 1 else w
  if fieldOf old 28 1 == 1 then withField w 25 3 (fieldOf old 25 3) else w

theorem slvCtrlWord_en {v old : Word} : fieldOf (slvCtrlWord v old) 28 1 = fieldOf v 28 1 := by
  have hmask : fieldOf (v &&& 0x1F8001FF) 28 1 = fieldOf v 28 1 := fieldOf_and_mask (by decide)
  have hver : fieldOf (if fieldOf (v &&& 0x1F8001FF) 23 2 = 0 then withField (v &&& 0x1F8001FF) 23 2 1 else v &&& 0x1F8001FF) 28 1 =
      fieldOf v 28 1 := by
    split
    · rw [fieldOf_withField_ne _ _ _ _ _ _ (by decide) (by decide), hmask]
    · exact hmask
  unfold slvCtrlWord
  extract_lets w1 w2
  split
  · rw [fieldOf_withField_ne _ _ _ _ _ _ (by decide) (by decide)]
    exact hver
  · exact hver

theorem slvCtrlWrite_of_enable {v : Word} (hcmd : fieldOf v 29 3 = 0) (hoff : slvEn d n = false) (hen : fieldOf v 28 1 = 1) :
    slvCtrlWrite n v d = slvTrain n (d.setReg (slvCtl n) (slvCtrlWord v (d.reg (slvCtl n)))) := by
  have hold : ¬ fieldOf (d.reg (slvCtl n)) 28 1 = 1 := by simpa [slvEn, Device.bit_eq_fieldOf] using hoff
  simp [slvCtrlWrite, slvCtrlWord, hcmd, hold, hen]

theorem slvCtrlWrite_of_disable {v : Word} (hcmd : fieldOf v 29 3 = 0) (hon : slvEn d n = true) (hen : fieldOf v 28 1 = 0) :
    slvCtrlWrite n v d = (slvDown n d).setReg (slvCtl n) (slvCtrlWord v (d.reg (slvCtl n))) := by
  have hold : fieldOf (d.reg (slvCtl n)) 28 1 = 1 := by simpa [slvEn, Device.bit_eq_fieldOf] using hon
  simp [slvCtrlWrite, slvCtrlWord, hcmd, hold, hen]

theorem slvEn_setCtl {w : Word} (hw : tabWf regDefault d.regs = true) :
    slvEn (d.setReg (slvCtl n) w) n = (fieldOf w 28 1 == 1) := by
  rw [slvEn, Device.bit_eq_fieldOf, Device.reg_setReg_same _ _ _ hw]

/-- en rises: the link trains. -/
theorem slvCtrlWrite_enables {v : Word} (hn : n < 8) (hcmd : fieldOf v 29 3 = 0) (hoff : slvEn d n = false) (hen : fieldOf v 28 1 = 1)
    (hw : tabWf regDefault d.regs = true) :
    slvEn (slvCtrlWrite n v d) n = true ∧ slvState (slvCtrlWrite n v d) n = 1 ∧ (slvCtrlWrite n v d).fld (slvStat n) 16 2 = 0 ∧
      tabWf regDefault (slvCtrlWrite n v d).regs = true := by
  rw [slvCtrlWrite_of_enable hcmd hoff hen]
  have hw1 := Device.setReg_wf d (slvCtl n) (slvCtrlWord v (d.reg (slvCtl n))) hw
  obtain ⟨hstate, hcause, -, -, hon⟩ := slvTrain_shows hn hw1
  exact ⟨by rw [hon, slvEn_setCtl hw, slvCtrlWord_en, hen]; rfl, hstate, hcause, (slvTrain_kept hn hw1).wf⟩

theorem Device.setSlvLink_regs {x : Link} : (d.setSlvLink m x).regs = d.regs := rfl
theorem slvState_setSlvLink {x : Link} : slvState (d.setSlvLink m x) n = slvState d n := rfl

theorem Device.slvLink_setSlvLink {x : Link} (hl : tabWf linkReset d.slv.links = true) : (d.setSlvLink n x).slvLink n = x :=
  tabGet_tabSet_same _ _ _ _ hl

/-- The lanes of a link that is not Up go idle, and then it shows Down. -/
theorem slvDown_shows (hn : n < 8) (hup : slvState d n ≠ 3) (hw : tabWf regDefault d.regs = true)
    (hl : tabWf linkReset d.slv.links = true) :
    tabWf regDefault (slvDown n d).regs = true ∧ slvState (slvDown n d) n = 0 ∧ ((slvDown n d).slvLink n).lanesUsed = [] := by
  have hk : LinksKept d (d.each (slvLanes d n) fun d l => blockIdle l true d) :=
    (LinksKept.refl hw).lanesIdle fun _ hl => slvLanes_lt hn hl
  simp only [slvDown, hup, if_false]
  generalize (d.each (slvLanes d n) fun d l => blockIdle l true d) = e at hk
  have hr : RegsAre (((((e.setFld (slvStat n) 29 3 0).setFld (slvStat n) 27 2 0).setFld (slvStat n) 19 5 0).setFld (slvStat n) 18 1
    0).setFld (slvStat n) 16 2 0) _ := (RegsAre.of_wf hk.wf).setFld.setFld.setFld.setFld.setFld
  rw [Device.setSlvLink_regs, slvState_setSlvLink, Device.slvLink_setSlvLink (by simpa [hk.slv] using hl), slvState, hr.fld]
  exact ⟨hr.wf, by simp [fieldOf_withField_same, fieldOf_withField_ne], rfl⟩

/-- The locked lanes of a link, in ascending order. -/
def lockedLanes (d : Device) (n : Nat) : List Nat := (slvLanes d n).filter (fun l => d.bit (laneStat l) 30)

/-- The lanes that bond: the largest multiple of four. -/
def bondedCount (d : Device) (n : Nat) : Nat := (lockedLanes d n).length / 4 * 4

/-- The device whose link has bonded its lanes. -/
def slvBonded (n : Nat) (d : Device) : Device :=
  let e := d.setSlvLink n { d.slvLink n with lanesUsed := (lockedLanes d n).take (bondedCount d n) }
  slvSetState n 2 ((e.setFld (slvStat n) 19 5 (bondedCount d n)).putBit (slvStat n) 18 (decide (bondedCount d n < slvWidth e n)))

theorem slvTrained_of_enough (ht : slvState d n = 1) (hk : 4 ≤ bondedCount d n) : slvTrained n d = slvBonded n d := by
  have hnot : ¬ (lockedLanes d n).length / 4 * 4 < 4 := Nat.not_lt.mpr hk
  exact (if_neg (not_not.mpr ht)).trans (if_neg hnot)

theorem slvTrained_of_few (ht : slvState d n = 1) (hk : bondedCount d n < 4) : slvTrained n d = slvFail n 1 d :=
  (if_neg (not_not.mpr ht)).trans (if_pos hk)

theorem slvBonded_shows (hw : tabWf regDefault d.regs = true) (hl : tabWf linkReset d.slv.links = true) :
    slvState (slvBonded n d) n = 2 ∧ ((slvBonded n d).slvLink n).lanesUsed = (lockedLanes d n).take (bondedCount d n) ∧
      (slvBonded n d).fld (slvStat n) 19 5 = bondedCount d n % 32 := by
  have hw1 : tabWf regDefault (d.setSlvLink n { d.slvLink n with lanesUsed := (lockedLanes d n).take (bondedCount d n) }).regs = true := hw
  have hr : RegsAre (slvBonded n d) _ := (RegsAre.of_wf hw1).setFld.putBit.setFld
  refine ⟨?_, congrArg Link.lanesUsed (Device.slvLink_setSlvLink hl), ?_⟩
  · rw [slvState, hr.fld]
    simp [fieldOf_withField_same]
  · rw [hr.fld]
    simp [fieldOf_withField_same, fieldOf_withField_ne]

section
variable {peer ver : Nat} (hs : slvState d n = 2)
include hs

theorem slvNegotiate_of_own (hp : peer = devId d) : slvNegotiate n peer ver d = slvFail n 2 (d.setFld (slvStat n) 24 3 peer) := by
  have hown : peer = devId (d.setFld (slvStat n) 24 3 peer) := hp
  exact (if_neg (not_not.mpr hs)).trans (if_pos hown)

theorem slvNegotiate_shows (hp : peer ≠ devId d) (h8 : peer < 8) (hw : tabWf regDefault d.regs = true) :
    slvState (slvNegotiate n peer ver d) n = 3 ∧ (slvNegotiate n peer ver d).fld (slvStat n) 24 3 = peer ∧
      (slvNegotiate n peer ver d).fld (slvStat n) 27 2 = Nat.min (d.fld (slvCtl n) 23 2) (Nat.max ver 1) := by
  have hown : ¬ peer = devId (d.setFld (slvStat n) 24 3 peer) := hp
  have hrun : slvNegotiate n peer ver d = slvSetState n 3 (((d.setFld (slvStat n) 24 3 peer).setFld (slvStat n) 27 2
      (Nat.min ((d.setFld (slvStat n) 24 3 peer).fld (slvCtl n) 23 2) (Nat.max ver 1))).bump (slvStat n) 8 8 1) :=
    (if_neg (not_not.mpr hs)).trans (if_neg hown)
  have hver : (d.setFld (slvStat n) 24 3 peer).fld (slvCtl n) 23 2 = d.fld (slvCtl n) 23 2 :=
    Device.fld_congr (Device.reg_setFld_ne slvCtl_ne_slvStat hw)
  have h4 : Nat.min (d.fld (slvCtl n) 23 2) (Nat.max ver 1) < 4 :=
    Nat.lt_of_le_of_lt (Nat.min_le_left _ _) (fieldOf_lt (lo := 23) (n := 2) _)
  rw [hrun, hver]
  have hr : RegsAre (slvSetState n 3 (((d.setFld (slvStat n) 24 3 peer).setFld (slvStat n) 27 2
    (Nat.min (d.fld (slvCtl n) 23 2) (Nat.max ver 1))).bump (slvStat n) 8 8 1)) _ := (RegsAre.of_wf hw).setFld.setFld.bump.setFld
  simp only [slvState, hr.fld]
  simp [fieldOf_withField_same, fieldOf_withField_ne, Nat.mod_eq_of_lt h8, Nat.mod_eq_of_lt h4]

theorem slvNoReply_of_negotiating : slvNoReply n d = slvFail n 3 d := if_pos hs

end

theorem slvNoReply_of_other (hs : slvState d n ≠ 2) : slvNoReply n d = d := if_neg hs

theorem slvRetry_of_failed (hs : slvState d n = 4) (hen : slvEn d n = true) : slvRetry n d = slvTrain n d :=
  if_pos (by simp [hs, hen])

/-! ### Loss (R580, R585) -/

theorem slvCutTraffic_of_none (ho : d.net.outst = []) : slvCutTraffic n d = d := by
  simp [slvCutTraffic, ho, Device.each]

theorem slvCutRef_of_unnamed (hr : ∀ h m, m < 8 → h ∈ d.leaders → refSrc d m ≠ n) : slvCutRef n d = d :=
  Device.each_of_fixed fun h hh => Device.each_of_fixed fun m hm => if_neg (by simp [hr h m (List.mem_range.mp hm) hh])

theorem slvRetrainCmd_of_up (hs : slvState d n = 3) (ho : d.net.outst = []) : slvRetrainCmd n d = slvTrain n d := by
  rw [slvRetrainCmd, if_pos hs, slvCutTraffic_of_none ho]

theorem slvRetrainCmd_of_not_up (hs : slvState d n ≠ 3) : slvRetrainCmd n d = d := if_neg hs

/-- The device whose link has noted its loss. -/
def lossShown (n : Nat) (d : Device) : Device := (d.setBit (slvStat n) 0).setFld (slvStat n) 27 2 0

theorem slvLost_of_up (hs : slvState d n = 3) (ho : d.net.outst = []) (hr : ∀ h m, m < 8 → h ∈ d.leaders → refSrc d m ≠ n) :
    slvLost n [] none d = if slvEn (lossShown n d) n then slvTrain n (lossShown n d) else slvSetState n 0 (lossShown n d) := by
  rw [slvLost, if_neg (not_not.mpr hs)]
  simp only [slvCutTraffic_of_none ho, slvCutRef_of_unnamed hr, List.filter_nil, Device.each_nil]
  rfl

theorem slvLost_of_not_up {ls : List Nat} {c : Option CutPacket} (hs : slvState d n ≠ 3) : slvLost n ls c d = d := if_pos hs

/-- The cut packet comes first. -/
theorem slvLost_of_cut {ls : List Nat} {c : CutPacket} (hs : slvState d n = 3) (hc : slvState (slvCutPacket n c d) n = 3) :
    slvLost n ls (some c) d = slvLost n ls none (slvCutPacket n c d) :=
  (if_neg (not_not.mpr hs)).trans (if_neg (not_not.mpr hc)).symm

theorem lossShown_shows (hn : n < 8) (hw : tabWf regDefault d.regs = true) (e : Device)
    (he : e = if slvEn (lossShown n d) n then slvTrain n (lossShown n d) else slvSetState n 0 (lossShown n d)) :
    tabWf regDefault e.regs = true ∧ slvState e n = (if slvEn d n then 1 else 0) ∧ e.bit (slvStat n) 0 = true ∧
      e.fld (slvStat n) 27 2 = 0 := by
  have hr : RegsAre (lossShown n d) _ := (RegsAre.of_wf hw).setBit.setFld
  have hen : slvEn (lossShown n d) n = slvEn d n := by
    rw [slvEn, hr.bit]
    simp [slvCtl_ne_slvStat, slvEn, Device.bit_eq_fieldOf]
  have hbit : (lossShown n d).bit (slvStat n) 0 = true := by
    rw [hr.bit]
    simp [fieldOf_withField_same, fieldOf_withField_ne]
  subst he
  rw [hen]
  cases hon : slvEn d n
  · have hr0 : RegsAre (slvSetState n 0 (lossShown n d)) _ := hr.setFld
    simp only [Bool.false_eq_true, if_false, slvState, hr0.fld, hr0.bit]
    refine ⟨hr0.wf, ?_⟩
    simp [fieldOf_withField_same, fieldOf_withField_ne]
  · obtain ⟨hstate, -, hver, hkept, -⟩ := slvTrain_shows hn hr.wf
    exact ⟨(slvTrain_kept hn hr.wf).wf, hstate, hkept.trans hbit, hver⟩

/-! ### Packets (R581, R582) and time (R583) -/

section
variable {hd : Header} {bs : List Byte} {po : List Nat}

theorem slvArrive_of_not_up (hs : slvState d n ≠ 3) : slvArrive n hd bs po k d = d := if_pos hs
theorem slvArrive_of_up (hs : slvState d n = 3) : slvArrive n hd bs po k d = slvTake n hd bs po k d := if_neg (not_not.mpr hs)

theorem slvTake_response (hdev : hd.dstDev.val = devId d) (hq : isRequest hd = false) :
    slvTake n hd bs po k d = injectHops (attPlace (.slv n)) hd bs po k d :=
  (if_pos hdev).trans (if_pos (by simp [hq]))

theorem slvTake_refused (hdev : hd.dstDev.val = devId d) (hq : isRequest hd = true)
    (hm : 8 < hd.mclass.val ∨ d.bit (slvCtl n) hd.mclass.val = false) :
    slvTake n hd bs po k d = answerFrom (attPlace (.slv n)) hd 8 [] [] (d.setBit (slvStat n) 1) :=
  (if_pos hdev).trans ((if_neg (by simp [hq])).trans (if_pos (by simpa using hm)))

theorem slvTake_local (hdev : hd.dstDev.val = devId d) (hq : isRequest hd = true) (h8 : hd.mclass.val ≤ 8)
    (hm : d.bit (slvCtl n) hd.mclass.val = true) : slvTake n hd bs po k d = slvLocal n hd bs po k d :=
  (if_pos hdev).trans ((if_neg (by simp [hq])).trans (if_neg (by simp [hm]; omega)))

theorem slvTake_transit (hdev : hd.dstDev.val ≠ devId d) (hok : d.bit (thmA 0x2604) 0 = true) (hst : slvState d n = 3)
    (hv : d.fld (slvStat n) 27 2 = 3) (hk : k < 7) (hroute : routeLink d hd.dstDev.val = some m) (hsm : slvState d m = 3)
    (hvm : d.fld (slvStat m) 27 2 = 3) :
    slvTake n hd bs po k d = injectHops (attPlace (.slv n)) hd bs po (k + 1) d :=
  (if_neg hdev).trans (if_pos (by simp [hok, hst, hv, hk, hroute, hsm, hvm]))

theorem slvTake_dropped (hdev : hd.dstDev.val ≠ devId d) (hno : 7 ≤ k ∨ d.bit (thmA 0x2604) 0 = false) :
    slvTake n hd bs po k d =
      if isRequest hd then answerFrom (attPlace (.slv n)) hd 5 [] [] (d.setBit (slvStat n) 2) else d.setBit (slvStat n) 2 := by
  refine (if_neg hdev).trans (if_neg ?_)
  rcases hno with hk | hb
  · simp [Nat.not_lt.mpr hk]
  · simp [hb]

end

theorem slvTime_of_not_up {rt : Nat} {peer : Option Int} (hs : slvState d n ≠ 3) : slvTime n rt peer d = d := if_pos hs

/-- A time message without a sample shows half the round trip. -/
theorem slvTime_shows {rt : Nat} (hs : slvState d n = 3) (hw : tabWf regDefault d.regs = true) :
    (slvTime n rt none d).reg (slvA n 8) = BitVec.ofNat 32 (rt / 2) ∧ ∀ a, a ≠ slvA n 8 → (slvTime n rt none d).reg a = d.reg a := by
  obtain ⟨x, hrun⟩ : ∃ x, slvTime n rt none d = (d.setSlvLink n x).setReg (slvA n 8) (BitVec.ofNat 32 (rt / 2)) :=
    ⟨_, if_neg (not_not.mpr hs)⟩
  have hw1 : tabWf regDefault (d.setSlvLink n x).regs = true := hw
  rw [hrun]
  exact ⟨Device.reg_setReg_same _ _ _ hw1, fun a ha => Device.reg_setReg_ne _ _ _ _ ha hw1⟩

end

/-! ### Where the commands complete -/

section
variable {s : State} {n : Fin 8}

theorem gives_linkEnable (v) : gives (.linkEnable n v) s (s.dev.updated (slvCtrlWrite n.val v s.dev)) := liftReport_gives s _
theorem gives_linkTrainingDone : gives (.linkTrainingDone n) s (slvTrained n.val s.dev) := rfl
theorem gives_linkNegotiate (p v) : gives (.linkNegotiate n p v) s (slvNegotiate n.val p.toNat v.toNat s.dev) := rfl
theorem gives_negotiationTimeout : gives (.negotiationTimeout n) s (slvNoReply n.val s.dev) := rfl
theorem gives_linkRetry : gives (.linkRetry n) s (slvRetry n.val s.dev) := rfl
theorem gives_linkRetrain : gives (.linkRetrain n 3) s ((slvRetrainCmd n.val s.dev).answer 0 []) := rfl
theorem gives_routeWrite (v) : gives (.routeWrite v 3) s ((s.dev.setReg (thmA 0x2600) v).answer 0 []) := rfl
theorem gives_selvedgePacket (hd bs po k) : gives (.selvedgePacket n hd ⟨bs, po⟩ k) s (slvArrive n.val hd bs po k s.dev) := rfl
theorem gives_linkLeavesUp (ls c) :
    gives (.linkLeavesUp n ⟨ls, c⟩) s (s.dev.updated (slvLost n.val (ls.map (fun l => l.val)) c s.dev)) := liftReport_gives s _
theorem gives_selvedgeTimeMessage (rt p) : gives (.selvedgeTimeMessage n rt p) s (slvTime n.val rt p s.dev) := rfl

theorem slvStat_not_stateReg (n : Nat) : stateReg (slvStat n) = false := by
  refine stateReg_eq_false.mpr ⟨?_, ?_⟩ <;> unfold slvStat slvA thmA <;> omega

theorem slvCtl_not_stateReg (n : Nat) : stateReg (slvCtl n) = false := by
  refine stateReg_eq_false.mpr ⟨?_, ?_⟩ <;> unfold slvCtl slvA thmA <;> omega

/-- What an update of the device state leaves of a link's status and control. -/
theorem updated_slvState (d : Device) {e : Device} {m : Nat} (hw : tabWf regDefault e.regs = true) :
    slvState (d.updated e) m = slvState e m ∧ slvEn (d.updated e) m = slvEn e m ∧ ∀ lo k, (d.updated e).fld (slvStat m) lo k = e.fld (slvStat m) lo k :=
  ⟨Device.fld_congr (updated_reg d hw (slvStat_not_stateReg m)), Device.bit_congr (updated_reg d hw (slvCtl_not_stateReg m)),
    fun _ _ => Device.fld_congr (updated_reg d hw (slvStat_not_stateReg m))⟩

/-- R587, R578: a write that raises or lowers en. -/
theorem linkEnable_completes {v : BitVec 32} (hw : tabWf regDefault s.dev.regs = true) (hl : tabWf linkReset s.dev.slv.links = true)
    (hcmd : fieldOf v 29 3 = 0) :
    (slvEn s.dev n.val = false → fieldOf v 28 1 = 1 → ∃ t, exec (.linkEnable n v) s = .next t ∧ slvEn t.dev n.val = true ∧
      slvState t.dev n.val = 1 ∧ t.dev.fld (slvStat n.val) 16 2 = 0) ∧
    (slvEn s.dev n.val = true → slvState s.dev n.val ≠ 3 → fieldOf v 28 1 = 0 → ∃ t, exec (.linkEnable n v) s = .next t ∧
      slvEn t.dev n.val = false ∧ slvState t.dev n.val = 0 ∧ (t.dev.slvLink n.val).lanesUsed = []) := by
  refine ⟨fun hoff hen => ?_, fun hon hup hen => ?_⟩
  · obtain ⟨hon, hstate, hcause, hw1⟩ := slvCtrlWrite_enables n.isLt hcmd hoff hen hw
    obtain ⟨hus, hue, huf⟩ := updated_slvState s.dev (m := n.val) hw1
    exact ⟨_, gives_linkEnable v, hue.trans hon, hus.trans hstate, (huf 16 2).trans hcause⟩
  · obtain ⟨hw1, hstate, hlanes⟩ := slvDown_shows n.isLt hup hw hl
    have hrun := gives_of_eq (gives_linkEnable v) (congrArg s.dev.updated (slvCtrlWrite_of_disable hcmd hon hen))
    obtain ⟨hus, hue, -⟩ := updated_slvState s.dev (m := n.val)
      (Device.setReg_wf _ (slvCtl n.val) (slvCtrlWord v (s.dev.reg (slvCtl n.val))) hw1)
    refine ⟨_, hrun, hue.trans ?_, hus.trans ?_, ?_⟩
    · rw [slvEn_setCtl hw1, slvCtrlWord_en, hen]
      rfl
    · exact (Device.fld_setReg_ne _ _ _ _ _ _ slvCtl_ne_slvStat.symm hw1).trans hstate
    · rw [Device.slvLink, updated_slv]
      exact hlanes

/-- R578, R579: training ends. -/
theorem linkTrainingDone_completes {ls : List Nat} {k : Nat} (hw : tabWf regDefault s.dev.regs = true)
    (hl : tabWf linkReset s.dev.slv.links = true) (hls : ls = lockedLanes s.dev n.val) (hk : k = ls.length / 4 * 4)
    (ht : slvState s.dev n.val = 1) :
    (4 ≤ k → ∃ t, exec (.linkTrainingDone n) s = .next t ∧ slvState t.dev n.val = 2 ∧ (t.dev.slvLink n.val).lanesUsed = ls.take k ∧
      t.dev.fld (slvStat n.val) 19 5 = k % 32) ∧
    (k < 4 → ∃ t, exec (.linkTrainingDone n) s = .next t ∧ slvState t.dev n.val = 4 ∧ t.dev.fld (slvStat n.val) 16 2 = 1) := by
  subst hls hk
  exact ⟨fun h4 => ⟨_, gives_of_eq gives_linkTrainingDone (slvTrained_of_enough ht h4), slvBonded_shows hw hl⟩,
    fun h4 => ⟨_, gives_of_eq gives_linkTrainingDone (slvTrained_of_few ht h4), slvFail_shows (by decide) hw⟩⟩

/-- R580, R585: a link leaves Up. -/
theorem leavesUp_completes (hw : tabWf regDefault s.dev.regs = true) (hs : slvState s.dev n.val = 3) (ho : s.dev.net.outst = [])
    (hr : ∀ h m, m < 8 → h ∈ s.dev.leaders → refSrc s.dev m ≠ n.val) :
    (∃ t, exec (.linkRetrain n 3) s = .next t ∧ t.dev.rsp.status = 0 ∧ slvState t.dev n.val = 1) ∧
    (∃ t, exec (.linkLeavesUp n ⟨[], none⟩) s = .next t ∧ slvState t.dev n.val = (if slvEn s.dev n.val then 1 else 0) ∧
      t.dev.bit (slvStat n.val) 0 = true ∧ t.dev.fld (slvStat n.val) 27 2 = 0) := by
  obtain ⟨hw1, hstate, hbit, hver⟩ := lossShown_shows n.isLt hw _ (slvLost_of_up hs ho hr)
  obtain ⟨hus, -, huf⟩ := updated_slvState s.dev (m := n.val) hw1
  refine ⟨⟨_, gives_linkRetrain, rfl, ?_⟩, ⟨_, gives_linkLeavesUp [] none, hus.trans hstate, ?_, (huf 27 2).trans hver⟩⟩
  · rw [slvRetrainCmd_of_up hs ho]
    exact (slvTrain_shows n.isLt hw).1
  · exact (Device.bit_congr (updated_reg _ hw1 (slvStat_not_stateReg _))).trans hbit

end

/-- Settles O60: command by command. A peer's version 0 reads as 1, and a master class above 8 is accepted by no mask (log entry 68). -/
theorem selvedgeCompletes : Obligations.SelvedgeCompletes := by
  intro s n hw hl
  refine ⟨fun v hcmd => linkEnable_completes hw hl hcmd, fun ls k hls hk ht => linkTrainingDone_completes hw hl hls hk ht,
    fun hs => ⟨fun p v hp => ⟨_, gives_linkNegotiate p v, slvNegotiate_shows hs hp p.isLt hw⟩,
      fun p v hp => ⟨_, gives_of_eq (gives_linkNegotiate p v) (slvNegotiate_of_own hs hp), slvFail_shows (by decide) (Device.setFld_wf hw)⟩,
      ⟨_, gives_of_eq gives_negotiationTimeout (slvNoReply_of_negotiating hs), slvFail_shows (by decide) hw⟩⟩,
    fun hs => gives_of_eq gives_negotiationTimeout (slvNoReply_of_other hs),
    fun hs hen => ⟨_, gives_of_eq gives_linkRetry (slvRetry_of_failed hs hen), ?retry⟩,
    fun mc hm => ⟨?refused, fun v => ?routeRefused⟩, gives_routeWrite,
    fun hs => ⟨gives_of_eq gives_linkRetrain (congrArg (Device.answer · 0 []) (slvRetrainCmd_of_not_up hs)),
      fun rt p => gives_of_eq (gives_selvedgeTimeMessage rt p) (slvTime_of_not_up hs),
      fun hd bs po k => gives_of_eq (gives_selvedgePacket hd bs po k) (slvArrive_of_not_up hs),
      fun ls c => gives_of_eq (gives_linkLeavesUp ls c) (congrArg s.dev.updated (slvLost_of_not_up hs))⟩,
    fun hs ho hr => leavesUp_completes hw hs ho hr, fun ls c d hs hd hc => ?cut, fun hd bs po k p hs hp => ?packets,
    fun rt hs => ⟨_, gives_selvedgeTimeMessage rt none, slvTime_shows hs hw⟩⟩
  case retry =>
    obtain ⟨hstate, hcause, -⟩ := slvTrain_shows n.isLt hw
    exact ⟨hstate, hcause⟩
  case refused => exact congrArg (fun d => Host.Outcome.next { s with dev := d }) (if_neg hm)
  case routeRefused => exact congrArg (fun d => Host.Outcome.next { s with dev := d }) (if_neg hm)
  case cut =>
    subst hd
    exact gives_of_eq (gives_linkLeavesUp ls (some c)) (congrArg s.dev.updated (slvLost_of_cut hs hc))
  case packets =>
    subst hp
    have hrun := gives_of_eq (gives_selvedgePacket hd bs po k) (slvArrive_of_up hs)
    exact ⟨fun hdev hq => gives_of_eq hrun (slvTake_response hdev hq), fun hdev hq hm => gives_of_eq hrun (slvTake_refused hdev hq hm),
      fun hdev hq h8 hm => gives_of_eq hrun (slvTake_local hdev hq h8 hm),
      fun m hdev hok hv hk hroute hsm hvm => gives_of_eq hrun (slvTake_transit hdev hok hs hv hk hroute hsm hvm),
      fun hdev hno hq => gives_of_eq hrun ((slvTake_dropped hdev hno).trans (if_neg (by simp [hq]))),
      fun hdev hno hq => gives_of_eq hrun ((slvTake_dropped hdev hno).trans (if_pos hq))⟩

end Sys2Proof.Machine
end

section
/-!
What reports, lanes and forced domains leave of the other units (19_mending_faults R489; 11_transceivers R308; 09_clocks_resets R264; 00_scope
R16): the registers outside four windows, and the state of every unit that they do not name. One lemma for each operation, in the order of
the model's text.
-/
namespace Sys2Proof.Machine

/-- A register outside the windows of Thimble, of the lanes, of the recorder and of power. -/
def unitReg (a : Nat) : Prop :=
  ¬ (thmA 0 ≤ a ∧ a < lrkA .w 0) ∧ ¬ (quadA 0 0 ≤ a ∧ a < gpioA 0 0) ∧ ¬ (bobA 0 ≤ a ∧ a < linA 0) ∧ ¬ (pwrA 0 ≤ a ∧ a < fldA 0 0)

/-- Device `e` has the registers of `d` outside those windows, and all state of `d` but that of modes, lanes, loads, log and recorder. -/
structure UnitsKept (d e : Device) : Prop where
  wf : tabWf regDefault e.regs = true
  reg : ∀ a, unitReg a → e.reg a = d.reg a
  units : ∃ regs fresh sys log load lanes bob,
    e = { d with regs := regs, fresh := fresh, sys := sys, log := log, load := load, lanes := lanes, bob := bob }

section
variable {d e x : Device} {a k lo n v l : Nat}

/-! ### Addresses -/

theorem thmA_not_unitReg {o : Nat} (ho : o < 0x10000) : ¬ unitReg (thmA o) := by
  simp only [unitReg, thmA, lrkA, hn]
  omega

theorem bobA_not_unitReg {o : Nat} (ho : o < 0x10000) : ¬ unitReg (bobA o) := by
  unfold unitReg bobA linA
  omega

theorem pwrA_not_unitReg {o : Nat} (ho : o < 0xD0000) : ¬ unitReg (pwrA o) := by
  unfold unitReg pwrA fldA
  omega

theorem laneStat_not_unitReg (hl : l < 144) : ¬ unitReg (laneStat l) := by
  unfold unitReg laneStat laneA quadA gpioA
  omega

theorem unitReg_of_high (ha : fldA 0 0 ≤ a) : unitReg a := by
  unfold fldA at ha
  simp only [unitReg, thmA, lrkA, hn, quadA, gpioA, bobA, linA, pwrA, fldA]
  omega

/-! ### The shape of programs -/

theorem UnitsKept.refl (hw : tabWf regDefault d.regs = true) : UnitsKept d d := ⟨hw, fun _ _ => rfl, _, _, _, _, _, _, _, rfl⟩

theorem UnitsKept.bit (h : UnitsKept d e) (ha : unitReg a) : e.bit a k = d.bit a k := Device.bit_congr (h.reg a ha)
theorem UnitsKept.fld (h : UnitsKept d e) (ha : unitReg a) : e.fld a lo n = d.fld a lo n := Device.fld_congr (h.reg a ha)

/-- An update of modes, loads, lanes, log, recorder or the count of free values. -/
theorem UnitsKept.frame (h : UnitsKept d e) {fresh sys log load lanes bob} :
    UnitsKept d { e with fresh := fresh, sys := sys, log := log, load := load, lanes := lanes, bob := bob } := by
  obtain ⟨hw, hr, _, _, _, _, _, _, _, rfl⟩ := h
  exact ⟨hw, hr, _, _, _, _, _, _, _, rfl⟩

/-- A part of the state that no such update changes. -/
theorem UnitsKept.part {α : Type} (h : UnitsKept d e) (π : Device → α)
    (hπ : ∀ regs fresh sys log load lanes bob,
      π { d with regs := regs, fresh := fresh, sys := sys, log := log, load := load, lanes := lanes, bob := bob } = π d) : π e = π d := by
  obtain ⟨_, _, _, _, _, _, _, _, _, he⟩ := h
  exact (congrArg π he).trans (hπ ..)

theorem UnitsKept.trans (h : UnitsKept d e) (hx : UnitsKept e x) : UnitsKept d x := by
  obtain ⟨_, hr, _, _, _, _, _, _, _, rfl⟩ := h
  obtain ⟨hw, hrx, _, _, _, _, _, _, _, rfl⟩ := hx
  exact ⟨hw, fun a ha => (hrx a ha).trans (hr a ha), _, _, _, _, _, _, _, rfl⟩

theorem UnitsKept.ite {c : Prop} [Decidable c] (h : UnitsKept d e) (hx : UnitsKept d x) : UnitsKept d (if c then e else x) := by
  split <;> assumption

theorem UnitsKept.each {α : Type} {xs : List α} {f : Device → α → Device} (h : UnitsKept d e)
    (hf : ∀ x y, y ∈ xs → UnitsKept d x → UnitsKept d (f x y)) : UnitsKept d (e.each xs f) :=
  List.foldlRecOn xs f h fun x hx y hy => hf x y hy hx

/-! ### Registers, reports and the recorder -/

theorem UnitsKept.setReg {w : Word} (h : UnitsKept d e) (ha : ¬ unitReg a) : UnitsKept d (e.setReg a w) := by
  refine ⟨Device.setReg_wf _ _ _ h.wf,
    fun b hb => (Device.reg_setReg_ne _ _ _ _ (by rintro rfl; exact ha hb) h.wf).trans (h.reg b hb), ?_⟩
  obtain ⟨_, _, _, _, _, _, _, _, _, rfl⟩ := h
  exact ⟨_, _, _, _, _, _, _, rfl⟩

theorem UnitsKept.setFld (h : UnitsKept d e) (ha : ¬ unitReg a) : UnitsKept d (e.setFld a lo n v) := h.setReg ha
theorem UnitsKept.putBit {b : Bool} (h : UnitsKept d e) (ha : ¬ unitReg a) : UnitsKept d (e.putBit a k b) := h.setFld ha
theorem UnitsKept.setBit (h : UnitsKept d e) (ha : ¬ unitReg a) : UnitsKept d (e.setBit a k) := h.putBit ha
theorem UnitsKept.setBobHalf {h' b} (h : UnitsKept d e) : UnitsKept d (e.setBobHalf h' b) := by cases h' <;> exact h.frame
theorem UnitsKept.setFifo {h' rs} (h : UnitsKept d e) : UnitsKept d (e.setFifo h' rs) := by cases h' <;> exact h.frame
theorem UnitsKept.setLane {y} (h : UnitsKept d e) : UnitsKept d (e.setLane l y) := h.frame
theorem UnitsKept.takeFree (h : UnitsKept d e) : UnitsKept d e.takeFree.2 := h.frame

theorem UnitsKept.msix {w} (h : UnitsKept d e) : UnitsKept d (e.msix w) := by
  unfold Device.msix
  split
  · exact h.frame
  · exact h

theorem UnitsKept.mgmt (h : UnitsKept d e) : UnitsKept d e.mgmt :=
  have hline {b : Bool} : UnitsKept d { e with sys := { e.sys with mgmtLine := b } } := h.frame
  .ite hline.msix hline

theorem UnitsKept.raiseInt (h : UnitsKept d e) : UnitsKept d (e.raiseInt k) := (h.setBit (thmA_not_unitReg (by decide))).mgmt
theorem UnitsKept.report (h : UnitsKept d e) : UnitsKept d e.report := .ite h (h.setReg (thmA_not_unitReg (by decide))).raiseInt
theorem UnitsKept.updated (y : Device) (h : UnitsKept d e) : UnitsKept d (y.updated e) :=
  .ite h (.ite (h.setReg (thmA_not_unitReg (by decide))).raiseInt h.report)

theorem UnitsKept.bobRecord {h' r} (h : UnitsKept d e) : UnitsKept d (e.bobRecord h' r) := .ite h (.ite h.setBobHalf h.setBobHalf)

theorem UnitsKept.bobTrigger {source} (h : UnitsKept d e) : UnitsKept d (e.bobTrigger source) :=
  .ite ((h.setFld (bobA_not_unitReg (by decide))).each fun _ _ _ hx => hx.bobRecord.setBobHalf) (h.setFld (bobA_not_unitReg (by decide)))

theorem UnitsKept.fault {h' cls src detail} (h : UnitsKept d e) : UnitsKept d (e.fault h' cls src detail) := by
  have hdrop : UnitsKept d (match h' with
      | .w => { e.bumpSat (thmA 0x2420) 0 16 1 with log := { e.log with dropW := e.log.dropW + 1 } }
      | .e => { e.bumpSat (thmA 0x2420) 0 16 1 with log := { e.log with dropE := e.log.dropE + 1 } }) := by
    have hcount : UnitsKept d (e.bumpSat (thmA 0x2420) 0 16 1) := h.setReg (thmA_not_unitReg (by decide))
    cases h' <;> exact hcount.frame
  exact .ite (UnitsKept.ite h.setFifo hdrop).bobTrigger (.ite h.setFifo hdrop)

/-! ### Lanes and forced domains -/

theorem UnitsKept.laneEval (h : UnitsKept d e) (hl : l < 144) : UnitsKept d (laneEval l e) :=
  have hput {b c : Bool} : UnitsKept d ((e.putBit (laneStat l) 29 b).putBit (laneStat l) 27 c) :=
    (h.putBit (laneStat_not_unitReg hl)).putBit (laneStat_not_unitReg hl)
  .ite hput.setLane (.ite hput.setLane hput)

theorem halfLanes_lt {h' : Half} (hl : l ∈ halfLanes h') : l < 144 := by
  obtain ⟨i, hi, rfl⟩ := List.mem_map.mp hl
  have := List.mem_range.mp hi
  cases h' <;> simp only [hn] <;> omega

/-- Forcing the domain of an Ethernet group, of JESD links or of a host port. -/
theorem UnitsKept.forceDomain (h : UnitsKept d e) (h56 : 56 ≤ n) (h64 : n < 64) : UnitsKept d (forceDomain n e) := by
  have hset : UnitsKept d (e.setBit (domStatA n) 28) := h.setBit (pwrA_not_unitReg (by omega))
  have hrun (x : Device) : forceEffects n x = x.each (halfLanes (halfOfDomain n)) (fun d l => Machine.laneEval l d) := by
    unfold Machine.forceEffects
    rw [if_neg (by omega), if_neg (by omega), if_neg (by omega), if_neg (by omega), if_neg (by omega)]
  have hlow : ¬ n < 32 := by omega
  unfold Machine.forceDomain
  simp only [hlow, decide_false, Bool.false_and, Bool.false_eq_true, if_false, hrun]
  exact .ite h (hset.each fun _ _ hl hx => hx.laneEval (halfLanes_lt hl))

theorem UnitsKept.abandonOnHold (h : UnitsKept d e) : UnitsKept d (abandonOnHold e) :=
  have hleft : UnitsKept d { e with
      sys := { e.sys with mode := .blank, blankOnExit := true }, load := { e.load with job := none, outcome := 0x31, tried := 0 } } := h.frame
  .ite ((hleft.setFld (thmA_not_unitReg (by decide))).setFld (thmA_not_unitReg (by decide))).fault h

theorem UnitsKept.clockCheck (h : UnitsKept d e) (h56 : 56 ≤ n) (h64 : n < 64) : UnitsKept d (clockCheck n e) :=
  UnitsKept.abandonOnHold (.ite (h.forceDomain h56 h64) h)

end
end Sys2Proof.Machine
end

section
/-!
Accesses of hardened blocks to the host out aperture, and replies that no ring waits for (12_protocol_blocks R334, R335).
-/
namespace Sys2Proof.Machine

section
variable {d e : Device} {m : Requester} {a b cls n : Nat} {data : List Byte} {h : Half}

theorem regionSize_le {k : Nat} : regionSize d k ≤ 2 ^ 39 := by
  have hcap (n : Nat) : chanCap d n ≤ 2 ^ 36 := by unfold chanCap; split <;> decide
  have hlog (n : Nat) : setLog n ≤ 3 := by unfold setLog; split <;> decide
  unfold regionSize
  split
  · calc 2 ^ regionW d k * chanCap d _ ≤ 2 ^ 3 * 2 ^ 36 := Nat.mul_le_mul (Nat.pow_le_pow_right (by decide) (hlog _)) (hcap _)
      _ = 2 ^ 39 := by decide
  · exact Nat.zero_le _

theorem dramSize_le : dramSize d ≤ 2 ^ 40 := by
  have h0 := regionSize_le (d := d) (k := 0)
  have h1 := regionSize_le (d := d) (k := 1)
  unfold dramSize
  omega

/-- The host out aperture. -/
theorem windowOf_hostMem (hlo : 0xFD0000000000 ≤ a) (hhi : a < 0xFE0000000000) :
    windowOf d a = some (.hostMem, 0xFD0000000000, 0x10000000000) := by
  have hdram := dramSize_le (d := d)
  have hclover : ¬ a < 0xF00006000000 := by omega
  have hindex : (a - 0xFD0000000000) / 0x10000000000 = 0 := by omega
  unfold windowOf
  rw [if_neg (by omega)]
  simp [windows, windowIdx, hclover, hlo, hhi, hindex]

section
variable (hlo : 0xFD0000000000 ≤ a) (hhi : a < 0xFE0000000000) (hend : a + n ≤ 0xFE0000000000) (hb : hostAddr d a = some b)
include hlo hhi hend hb

theorem busWrite_hostMem (hn : data.length = n) (hc : accessCheck d m .hostMem a n = 0) :
    busWrite m cls a data d = (0, { d with host := { d.host with mem := memWrites d.host.mem b data } }) := by
  subst hn
  have hfit : ¬ a + data.length > 0xFD0000000000 + 0x10000000000 := by omega
  simp only [busWrite, windowOf_hostMem hlo hhi, hfit, if_false, hc, ne_eq, not_true_eq_false, hb]

theorem busRead_hostMem (hc : accessCheck d m .hostMem a n = 0) :
    busRead m a n d = ({ data := memReads d.host.mem b n }, d) := by
  have hfit : ¬ a + n > 0xFD0000000000 + 0x10000000000 := by omega
  simp only [busRead, windowOf_hostMem hlo hhi, hfit, if_false, hc, ne_eq, not_true_eq_false, hb]

end

theorem flushReplies_of_none (hq : d.cmd.heldBack = []) : flushReplies d = d := by
  simp [flushReplies, hq, Device.each]

end
end Sys2Proof.Machine
end

section
/-!
The commands of a JESD link (12_protocol_blocks R338 to R341, R345).
-/
namespace Sys2Proof.Machine

section
variable {d e : Device} {j i : Nat} {x y : Jesd}

/-! ### The link's state and registers -/

@[simp] theorem Device.jesdBlk_setJesd (hw : tabWf jesdReset d.jesd = true) : (d.setJesd j x).jesdBlk j = x :=
  tabGet_tabSet_same _ _ _ _ hw

theorem Device.setJesd_setJesd (hw : tabWf jesdReset d.jesd = true) : (d.setJesd j x).setJesd j y = d.setJesd j y := by
  unfold Device.setJesd
  rw [tabSet_tabSet hw]

theorem jsdRuns_setJesd : jsdRuns (d.setJesd j x) i = jsdRuns d i := rfl
theorem jsdTx_setJesd : jsdTx (d.setJesd j x) i = jsdTx d i := rfl
theorem jsdC_setJesd : jsdC (d.setJesd j x) i = jsdC d i := rfl

theorem jsdStat_ne_jsdCtl : jsdStat j ≠ jsdCtl j := by simp [jsdStat, jsdCtl, jsdA]

theorem jsdA_unitReg (hj : j < 8) {o : Nat} (ho : o < 0x10000) : unitReg (jsdA j o) := by
  simp only [unitReg, jsdA, thmA, lrkA, hn, quadA, gpioA, bobA, linA, pwrA, fldA]
  omega

theorem accessCheck_setJesd {m : Requester} {t : Target} {a n : Nat} : accessCheck (d.setJesd j x) m t a n = accessCheck d m t a n := rfl
theorem hostAddr_setJesd {a : Nat} : hostAddr (d.setJesd j x) a = hostAddr d a := rfl

/-- An ILAS changes the link's `ilas` and takes free values, and nothing else. -/
theorem ilasSend_eq (hw : tabWf jesdReset d.jesd = true) :
    ∃ ilas fresh, ilasSend j d = { d.setJesd j { d.jesdBlk j with ilas := ilas } with fresh := fresh } := by
  unfold ilasSend
  split
  · rw [Device.each]
    refine List.foldlRecOn (motive := fun e => ∃ ilas fresh, e = { d.setJesd j { d.jesdBlk j with ilas := ilas } with fresh := fresh })
      _ _ ⟨[], d.fresh, rfl⟩ fun e he l _ => ?_
    obtain ⟨ilas, fresh, rfl⟩ := he
    refine ⟨ilas ++ [ilasOctets j l (Config.freeNat fresh) { d.setJesd j { d.jesdBlk j with ilas := ilas } with fresh := fresh }],
      fresh + 1, ?_⟩
    have hblk : ({ d.setJesd j { d.jesdBlk j with ilas := ilas } with fresh := fresh } : Device).jesdBlk j =
        { d.jesdBlk j with ilas := ilas } := Device.jesdBlk_setJesd hw
    simp only [Device.takeFree, hblk]
    simp only [Device.setJesd, tabSet_tabSet hw]
  · refine ⟨(d.jesdBlk j).ilas, d.fresh, ?_⟩
    have hsame : d.setJesd j (d.jesdBlk j) = d := by
      unfold Device.setJesd Device.jesdBlk
      rw [tabSet_tabGet hw]
    exact hsame.symm

/-! ### Enabling a link -/

theorem jsdDomains_lt {lm n : Nat} (hj : j < 8) (hlm : lm < 32) (hn' : n ∈ jsdDomains j lm) : n < 64 := by
  rcases List.mem_cons.mp hn' with rfl | hn'
  · omega
  · obtain ⟨i, hi, rfl⟩ := List.mem_map.mp hn'
    have := List.mem_range.mp hi
    omega

theorem jsdCtl_ne_domStatA {n : Nat} (hn' : n < 64) : domStatA n ≠ jsdCtl j := by
  simp only [domStatA, pwrA, jsdCtl, jsdA]
  omega

theorem jsdFits_of_fld {w : Word} (h : e.reg (jsdA j 4) = d.reg (jsdA j 4)) : jsdFits e j w = jsdFits d j w := by
  unfold jsdFits
  rw [Device.fld_congr h, Device.fld_congr h]

section
variable {v w : Word} (hwf : tabWf regDefault d.regs = true) (hoff : jsdOn d j = false) (hen : fieldOf v 31 1 = 1) (harm : fieldOf v 22 3 = 0)
  (hv : w = v &&& 0x7E3F001F)
include hwf hoff hen harm hv

/-- A link whose domains are On and whose configuration fits starts. -/
theorem jsdCtrlWrite_of_fits (hj : j < 8) (hdom : ∀ n ∈ jsdDomains j (fieldOf w 0 5), d.domOn n = true) (hfit : jsdFits d j w = true) :
    ∃ x : Jesd, x.aligned = false ∧ jsdCtrlWrite j v d = clockCheck (60 + j / 4) (ilasSend j
      ((((d.setReg (jsdCtl j) w).setBit (jsdCtl j) 31).setBit (jsdStat j) 31).setJesd j x)) := by
  have hno : ((jsdDomains j (fieldOf w 0 5)).any fun n => !(d.setReg (jsdCtl j) w).domOn n) = false := by
    refine List.any_eq_false.mpr fun n hmem => ?_
    have hlt := jsdDomains_lt hj (fieldOf_lt _) hmem
    have hkept : (d.setReg (jsdCtl j) w).reg (domStatA n) = d.reg (domStatA n) := Device.reg_setReg_ne _ _ _ _ (jsdCtl_ne_domStatA hlt) hwf
    have hon := hdom n hmem
    rw [Device.domOn, Device.domState] at hon ⊢
    simp [Device.fld_congr hkept, hon]
  have hfit' : jsdFits (d.setReg (jsdCtl j) w) j w = true :=
    (jsdFits_of_fld (Device.reg_setReg_ne _ _ _ _ (by simp [jsdCtl, jsdA]) hwf)).trans hfit
  let e := ((d.setReg (jsdCtl j) w).setBit (jsdCtl j) 31).setBit (jsdStat j) 31
  refine ⟨{ e.jesdBlk j with aligned := false, data := !e.bit (jsdCtl j) 28, rxCount := 0 }, rfl, ?_⟩
  unfold jsdCtrlWrite
  rw [← hv]
  simp only [hoff, hen, harm, hno, hfit', beq_self_eq_true, Bool.false_eq_true, Bool.not_true, Bool.or_self, if_false, Nat.zero_ne_one]
  rfl

/-- A configuration outside the limits shows `cfg_err`. -/
theorem jsdCtrlWrite_of_misfit (hfit : jsdFits d j w = false) :
    jsdCtrlWrite j v d = clockCheck (60 + j / 4) ((d.setReg (jsdCtl j) w).setBit (jsdStat j) 0) := by
  have hfit' : jsdFits (d.setReg (jsdCtl j) w) j w = false :=
    (jsdFits_of_fld (Device.reg_setReg_ne _ _ _ _ (by simp [jsdCtl, jsdA]) hwf)).trans hfit
  unfold jsdCtrlWrite
  rw [← hv]
  simp [hoff, hen, harm, hfit']

end

/-! ### What the registers show -/

theorem stateReg_jsdA (hj : j < 8) {o : Nat} (ho : o < 0x10000) : stateReg (jsdA j o) = false := by
  simp only [stateReg, jsdA, thmA]
  simp
  omega

section
variable (hwf : tabWf regDefault e.regs = true)
include hwf

/-- The clock check and the reports of a command leave the link's registers and its state. -/
theorem updated_clockCheck_reg (hj : j < 8) {o : Nat} (ho : o < 0x10000) :
    (d.updated (clockCheck (60 + j / 4) e)).reg (jsdA j o) = e.reg (jsdA j o) := by
  have hkept : UnitsKept e (clockCheck (60 + j / 4) e) := (UnitsKept.refl hwf).clockCheck (by omega) (by omega)
  rw [updated_reg d hkept.wf (stateReg_jsdA hj ho), hkept.reg _ (jsdA_unitReg hj ho)]

theorem updated_clockCheck_jesd (hj : j < 8) : (d.updated (clockCheck (60 + j / 4) e)).jesd = e.jesd := by
  rw [updated_jesd]
  exact ((UnitsKept.refl hwf).clockCheck (by omega) (by omega)).part (·.jesd) fun _ _ _ _ _ _ _ => rfl

end

theorem withField_and_of_clear {w m : Word} {k v : Nat} (hk : k < 32) (hm : m.getLsbD k = false) (hw : w &&& m = w) :
    withField w k 1 v &&& m = w := by
  refine BitVec.eq_of_getLsbD_eq fun b _ => ?_
  have hb : (w.getLsbD b && m.getLsbD b) = w.getLsbD b := by rw [← BitVec.getLsbD_and, hw]
  by_cases hkb : b = k
  · subst hkb
    rw [BitVec.getLsbD_and, hm, Bool.and_false, ← hb, hm, Bool.and_false]
  · have hsame := fieldOf_withField_ne w k 1 v b 1 (by omega) (by omega)
    have hbit : (withField w k 1 v).getLsbD b = w.getLsbD b := by simpa only [fieldOf_one, b2n_beq_one] using congrArg (· == 1) hsame
    rw [BitVec.getLsbD_and, hbit, hb]

section
variable {s : State} {j : Fin 8} {v w : Word} (hwf : tabWf regDefault s.dev.regs = true) (hoff : jsdOn s.dev j.val = false)
  (hen : fieldOf v 31 1 = 1) (harm : fieldOf v 22 3 = 0) (hv : w = v &&& 0x7E3F001F)
include hwf hoff hen harm hv

theorem jesdEnable_of_fits (hwj : tabWf jesdReset s.dev.jesd = true)
    (hdom : ∀ n ∈ jsdDomains j.val (fieldOf w 0 5), s.dev.domOn n = true) (hfit : jsdFits s.dev j.val w = true) :
    ∃ t, exec (.jesdEnable j v) s = .next t ∧ jsdOn t.dev j.val = true ∧ t.dev.bit (jsdStat j.val) 31 = true ∧
      t.dev.reg (jsdCtl j.val) &&& 0x7E3F001F = w ∧ (t.dev.jesdBlk j.val).aligned = false := by
  obtain ⟨x, hx, heq⟩ := jsdCtrlWrite_of_fits hwf hoff hen harm hv j.isLt hdom hfit
  have hr := (((RegsAre.of_wf hwf).setReg (a := jsdCtl j.val) (w := w)).setBit (a := jsdCtl j.val) (k := 31)).setBit
    (a := jsdStat j.val) (k := 31)
  generalize hy : ((s.dev.setReg (jsdCtl j.val) w).setBit (jsdCtl j.val) 31).setBit (jsdStat j.val) 31 = y at heq hr
  have hyj : tabWf jesdReset y.jesd = true := by simpa [← hy] using hwj
  have hzj : tabWf jesdReset (y.setJesd j.val x).jesd = true := tabWf_tabSet _ _ _ _ hyj
  obtain ⟨ilas, fresh, hilas⟩ := ilasSend_eq (j := j.val) hzj
  rw [Device.jesdBlk_setJesd hyj, Device.setJesd_setJesd hyj] at hilas
  rw [hilas] at heq
  have hshown {o : Nat} (ho : o < 0x10000) :
      (s.dev.updated (jsdCtrlWrite j.val v s.dev)).reg (jsdA j.val o) = y.reg (jsdA j.val o) := by
    rw [heq]
    exact updated_clockCheck_reg (e := { y.setJesd j.val { x with ilas := ilas } with fresh := fresh }) hr.wf j.isLt ho
  have hctl : (s.dev.updated (jsdCtrlWrite j.val v s.dev)).reg (jsdCtl j.val) = withField w 31 1 1 := by
    rw [jsdCtl, hshown (by decide), ← jsdCtl, hr.reg, fldSet_ne jsdStat_ne_jsdCtl.symm, fldSet_self, Function.update_self]
  have hstat : (s.dev.updated (jsdCtrlWrite j.val v s.dev)).bit (jsdStat j.val) 31 = true := by
    rw [Device.bit_congr (a := jsdStat j.val) (hshown (by decide)), hr.bit, fldSet_self, fieldOf_withField_same _ _ _ _ (by decide)]
    rfl
  refine ⟨_, liftReport_gives s _, ?_, hstat, ?_, ?_⟩
  · rw [jsdOn, Device.bit_eq_fieldOf, hctl, fieldOf_withField_same _ _ _ _ (by decide)]
    rfl
  · rw [hctl]
    exact withField_and_of_clear (by decide) (by decide) (by rw [hv, BitVec.and_assoc, BitVec.and_self])
  · have hjesd : (s.dev.updated (jsdCtrlWrite j.val v s.dev)).jesd = (y.setJesd j.val { x with ilas := ilas }).jesd := by
      rw [heq]
      exact updated_clockCheck_jesd (e := { y.setJesd j.val { x with ilas := ilas } with fresh := fresh }) hr.wf j.isLt
    calc ((s.dev.updated (jsdCtrlWrite j.val v s.dev)).jesdBlk j.val).aligned
        = ((y.setJesd j.val { x with ilas := ilas }).jesdBlk j.val).aligned := by rw [Device.jesdBlk, hjesd, Device.jesdBlk]
      _ = false := by rw [Device.jesdBlk_setJesd hyj, hx]

theorem jesdEnable_of_misfit (hfit : jsdFits s.dev j.val w = false) :
    ∃ t, exec (.jesdEnable j v) s = .next t ∧ jsdOn t.dev j.val = false ∧ t.dev.bit (jsdStat j.val) 0 = true := by
  have heq := jsdCtrlWrite_of_misfit hwf hoff hen harm hv hfit
  have hr := ((RegsAre.of_wf hwf).setReg (a := jsdCtl j.val) (w := w)).setBit (a := jsdStat j.val) (k := 0)
  have hshown {o : Nat} (ho : o < 0x10000) : (s.dev.updated (jsdCtrlWrite j.val v s.dev)).reg (jsdA j.val o) =
      ((s.dev.setReg (jsdCtl j.val) w).setBit (jsdStat j.val) 0).reg (jsdA j.val o) := by
    rw [heq]
    exact updated_clockCheck_reg hr.wf j.isLt ho
  refine ⟨_, liftReport_gives s _, ?_, ?_⟩
  · have hclear : w.getLsbD 31 = false := by simp [hv]
    rw [jsdOn, Device.bit_congr (a := jsdCtl j.val) (hshown (by decide)), hr.bit, fldSet_ne jsdStat_ne_jsdCtl.symm, Function.update_self, fieldOf_one,
      hclear]
    rfl
  · rw [Device.bit_congr (a := jsdStat j.val) (hshown (by decide)), hr.bit, fldSet_self, fieldOf_withField_same _ _ _ _ (by decide)]
    rfl

end

/-! ### Octets, restarts and SYNC -/

section
variable {s : State} {j : Fin 8} {x : Jesd} {octets : List Byte} {count : Nat}

theorem gives_jesdArm (h : blockStatus s.dev (60 + j.val / 4) true = 0) :
    gives (.jesdArm j) s (s.dev.setJesd j.val { s.dev.jesdBlk j.val with armed := true }) :=
  gives_of_eq (show gives (.jesdArm j) s (s.dev.atBlock (60 + j.val / 4) true (jesdArm j.val)) from rfl) (atBlock_of_answers h)

theorem gives_jesdArm_refused {st : Nat} (h : blockStatus s.dev (60 + j.val / 4) true = st) (hst : st ≠ 0) :
    gives (.jesdArm j) s (s.dev.answer st []) :=
  gives_of_eq (show gives (.jesdArm j) s (s.dev.atBlock (60 + j.val / 4) true (jesdArm j.val)) from rfl) (atBlock_of_status h hst)

theorem gives_jesdRxWrite : gives (.jesdRxWrite j octets) s (s.dev.moved (jesdRx j.val octets s.dev)) := liftMode_gives s _

theorem jesdRx_of_idle (hx : (d.jesdBlk i).data = false) : jesdRx i octets d = d := by simp [jesdRx, hx]

theorem jesdRx_hostMem {at_ b : Nat} (hlen : octets.length = 256) (hrun : jsdRuns d i = true) (htx : jsdTx d i = false)
    (hx : (d.jesdBlk i).data = true) (hq : d.cmd.heldBack = [])
    (hat : at_ = pairAddr d (jsdA i 0x20) 8 + 256 * (d.jesdBlk i).rxCount % (2 ^ d.fld (jsdA i 0x28) 0 4 * 1024))
    (hlo : 0xFD0000000000 ≤ at_) (hend : at_ + 256 ≤ 0xFE0000000000) (hb : hostAddr d at_ = some b)
    (hc : accessCheck d (byBlock d 8 (.jesd i)) .hostMem at_ 256 = 0) :
    jesdRx i octets d = { d.setJesd i { d.jesdBlk i with rxCount := (d.jesdBlk i).rxCount + 1 } with
      host := { d.host with mem := memWrites d.host.mem b octets } } := by
  have hwrite := busWrite_hostMem (d := d.setJesd i { d.jesdBlk i with rxCount := (d.jesdBlk i).rxCount + 1 }) (cls := 1) hlo (by omega) hend
    hb hlen hc
  have hgo : (!(jsdRuns d i && !jsdTx d i && (d.jesdBlk i).data) || octets.length != 256) = false := by simp [hrun, htx, hx, hlen]
  simp only [jesdRx, hgo, ← hat, hwrite]
  exact flushReplies_of_none hq

theorem gives_jesdTxWrite (h : blockStatus s.dev (60 + j.val / 4) true = 0) :
    gives (.jesdTxWrite j octets) s ((jesdTxWrite j.val octets s.dev).2.answer (jesdTxWrite j.val octets s.dev).1 []) :=
  gives_of_eq (show gives (.jesdTxWrite j octets) s (s.dev.atBlock (60 + j.val / 4) true fun d =>
    (jesdTxWrite j.val octets d).2.answer (jesdTxWrite j.val octets d).1 []) from rfl) (atBlock_of_answers h)

theorem jesdTxWrite_of_room (h4 : octets.length % 4 = 0) (hroom : (d.jesdBlk i).tx.length + octets.length ≤ 65536) :
    jesdTxWrite i octets d = (0, d.setJesd i { d.jesdBlk i with tx := (d.jesdBlk i).tx ++ octets }) := if_neg (by omega)

theorem jesdTxWrite_of_refused (h : octets.length % 4 ≠ 0 ∨ 65536 < (d.jesdBlk i).tx.length + octets.length) :
    jesdTxWrite i octets d = (8, d) := if_pos h

theorem gives_jesdTxOctet : gives (.jesdTxOctet j count) s (jesdTxOctet j.val count s.dev) := rfl

section
variable (hrun : jsdRuns d i = true) (htx : jsdTx d i = true) (hx : (d.jesdBlk i).data = true)
include hrun htx hx

theorem jesdTxOctet_of_buffered (h : count ≤ (d.jesdBlk i).tx.length) :
    jesdTxOctet i count d = d.setJesd i { d.jesdBlk i with tx := (d.jesdBlk i).tx.drop count, sent := (d.jesdBlk i).tx.take count } := by
  have hno : ¬ (d.jesdBlk i).tx.length < count := by omega
  simp [jesdTxOctet, hrun, htx, hx, hno, List.take_append_of_le_length h]

theorem jesdTxOctet_of_empty (h : (d.jesdBlk i).tx.length < count) :
    jesdTxOctet i count d = (d.setBit (jsdStat i) 1).setJesd i
      { d.jesdBlk i with tx := [], sent := (d.jesdBlk i).tx ++ List.replicate (count - (d.jesdBlk i).tx.length) 0 } := by
  have hlen : ((d.jesdBlk i).tx ++ List.replicate (count - (d.jesdBlk i).tx.length) 0).length = count := by
    rw [List.length_append, List.length_replicate]
    omega
  have hall := List.take_of_length_le hlen.le
  have hgo : (!(jsdRuns d i && jsdTx d i && (d.jesdBlk i).data)) = false := by simp [hrun, htx, hx]
  simp only [jesdTxOctet, hgo, h, List.drop_of_length_le h.le, hall]
  rfl

end

theorem gives_jesdRestart : gives (.jesdRestart j) s (jesdRestart j.val s.dev) := rfl

theorem jesdRestart_of_runs (hwf : tabWf regDefault d.regs = true) (hrun : jsdRuns d i = true) :
    jesdRestart i d = (d.bump (jsdStat i) 8 8 1).setJesd i { d.jesdBlk i with data := jsdReady d i } := by
  have hready : jsdReady (d.bump (jsdStat i) 8 8 1) i = jsdReady d i := by
    have hsame : (d.bump (jsdStat i) 8 8 1).reg (jsdCtl i) = d.reg (jsdCtl i) := Device.reg_setReg_ne _ _ _ _ jsdStat_ne_jsdCtl.symm hwf
    rw [jsdReady, jsdReady, Device.bit_congr hsame]
    rfl
  simp only [jesdRestart, hrun, hready]
  rfl

theorem gives_jesdSyncChange {b : Bool} : gives (.jesdSyncChange j b) s (jesdSync j.val b s.dev) := rfl

section
variable (hrun : jsdRuns d i = true) (htx : jsdTx d i = true) (hc : jsdC d i = false)
include hrun htx hc

theorem jesdSync_true (hwj : tabWf jesdReset d.jesd = true) :
    jesdSync i true d = ilasSend i (d.setJesd i { d.jesdBlk i with sync := true, data := jsdReady d i }) := by
  have hready : jsdReady (d.setJesd i { d.jesdBlk i with sync := true }) i = jsdReady d i := by
    rw [jsdReady, Device.jesdBlk_setJesd hwj]
    rfl
  simp [jesdSync, jsdRuns_setJesd, jsdTx_setJesd, jsdC_setJesd, hrun, htx, hc, hready, Device.setJesd_setJesd hwj]

theorem jesdSync_false (hx : (d.jesdBlk i).data = true) :
    jesdSync i false d = ((d.setJesd i { d.jesdBlk i with sync := false }).bump (jsdStat i) 8 8 1).setJesd i
      { d.jesdBlk i with sync := false, data := false } := by
  simp [jesdSync, jsdRuns_setJesd, jsdTx_setJesd, jsdC_setJesd, hrun, htx, hc, hx]

end

end

/-- Settles O44: an ILAS changes the block's state only, and the clock check leaves the link's registers. The clauses prove the choices of
log 74 (an assertion of SYNC~ counts as a restart; a configuration outside the limits shows `cfg_err`) and log 104 (the ILAS octets). -/
theorem jesdCompletes : Obligations.JesdCompletes := by
  unfold Obligations.JesdCompletes
  rintro s j hwf hwj x rfl
  refine ⟨fun v hoff hen harm w hv => ⟨jesdEnable_of_fits hwf hoff hen harm hv hwj, jesdEnable_of_misfit hwf hoff hen harm hv⟩, gives_jesdArm,
    fun h => gives_jesdArm_refused h (by decide), ?_, ?_, ?_, ?_, ?_, ?_⟩
  · intro octets at_ b hlen hrun htx hx hq hat hlo hend hb hc
    exact gives_of_eq gives_jesdRxWrite (congrArg _ (jesdRx_hostMem hlen hrun htx hx hq hat hlo hend hb hc))
  · exact fun octets hx => gives_of_eq gives_jesdRxWrite (congrArg _ (jesdRx_of_idle hx))
  · refine fun octets h => ⟨fun h4 hroom => gives_of_eq (gives_jesdTxWrite h) ?_, fun hno => gives_of_eq (gives_jesdTxWrite h) ?_⟩
    · rw [jesdTxWrite_of_room h4 hroom]
    · rw [jesdTxWrite_of_refused hno]
  · refine fun count hrun htx hx => ⟨fun hle => gives_of_eq gives_jesdTxOctet (jesdTxOctet_of_buffered hrun htx hx hle), fun hlt => ?_⟩
    have hblk {y : Jesd} : ((s.dev.setBit (jsdStat j.val) 1).setJesd j.val y).jesdBlk j.val = y :=
      Device.jesdBlk_setJesd (by rw [Device.setBit_jesd]; exact hwj)
    refine ⟨_, gives_of_eq gives_jesdTxOctet (jesdTxOctet_of_empty hrun htx hx hlt), ?_, congrArg Jesd.tx hblk, congrArg Jesd.sent hblk⟩
    have hr := (RegsAre.of_wf hwf).setBit (a := jsdStat j.val) (k := 1)
    exact (hr.congr rfl).bit.trans (by simp [fieldOf_withField_same])
  · intro hrun
    have hblk {y : Jesd} : ((s.dev.bump (jsdStat j.val) 8 8 1).setJesd j.val y).jesdBlk j.val = y :=
      Device.jesdBlk_setJesd (by rw [Device.bump_jesd]; exact hwj)
    have hr := (RegsAre.of_wf hwf).bump (a := jsdStat j.val) (lo := 8) (n := 8) (v := 1)
    refine ⟨_, gives_of_eq gives_jesdRestart (jesdRestart_of_runs hwf hrun), ?_, congrArg Jesd.data hblk, fun a ha => ?_⟩
    · exact (hr.congr rfl).fld.trans (by simp [fieldOf_withField_same, wrap, Device.fld])
    · exact ((hr.congr rfl).reg a).trans (fldSet_ne ha)
  · refine fun hrun htx hc => ⟨fun hx => ?_, gives_of_eq gives_jesdSyncChange (jesdSync_true hrun htx hc hwj)⟩
    have hr := (RegsAre.of_wf hwf).bump (a := jsdStat j.val) (lo := 8) (n := 8) (v := 1)
    refine ⟨_, gives_of_eq gives_jesdSyncChange (jesdSync_false hrun htx hc hx), Device.jesdBlk_setJesd ?_, ?_⟩
    · rw [Device.bump_jesd]
      exact tabWf_tabSet _ _ _ _ hwj
    · exact (hr.congr rfl).fld.trans (by simp [fieldOf_withField_same, wrap, Device.fld])

end
end Sys2Proof.Machine
end

section
/-!
The refutation of O42 (12_protocol_blocks R329): a delivery of no bytes at the end of the host out aperture.
-/
namespace Sys2Proof.Machine

/-- A delivery of 0 bytes at 0xFE0000000000, the first address of stile 0, whose field is not On. -/
def emptyDelivery : Device := (wEth { rx := [{ wFrame with bytes := [] }] }).setReg (ethRule 0 2 3 0xC) 0xFE00

/-- The write reaches stile 0, is refused and makes the record bad. -/
theorem emptyDelivery_record : ((ethDeliver 0 2 emptyDelivery).ethBlk 0).records.map (·.bad) = [true] := by decide +kernel

theorem emptyDelivery_hypotheses :
    tabWf regDefault emptyDelivery.regs = true ∧ tabWf ethReset emptyDelivery.eth = true ∧
    (emptyDelivery.ethBlk 0).rx = [{ wFrame with bytes := [] }] ∧ ethPortRuns emptyDelivery 0 2 = true ∧
    emptyDelivery.cmd.heldBack = [] ∧
    pairAddr emptyDelivery (ethRule 0 2 3 8) 6 + (emptyDelivery.reg (ethRule 0 2 3 0x1C)).toNat %
      (emptyDelivery.fld (ethRule 0 2 3 0x10) 16 16 + 1) * (64 * emptyDelivery.fld (ethRule 0 2 3 0x10) 0 16) = 0xFE0000000000 ∧
    (hostAddr emptyDelivery 0xFE0000000000).isSome = true ∧
    accessCheck emptyDelivery (byBlock emptyDelivery 8 (.eth 0)) .hostMem 0xFE0000000000 0 = 0 ∧
    emptyDelivery.bit (ethRule 0 2 3 4) 29 = true := by decide +kernel

theorem emptyDelivery_quiet : emptyDelivery.safeCause = 0 ∧ watchedSegs emptyDelivery = [] ∧
    (ethDeliver 0 2 emptyDelivery).sys.waking = false := by decide +kernel

/-- Refutes O42: where a rule's strip leaves no byte, R329's clause lets the address be 0xFE0000000000, which lies in the window of stile 0.
The stile's domain is not On, so the write is refused, and the record says `bad`. -/
theorem not_ethernetCompletes : ¬ Obligations.EthernetCompletes := by
  unfold Obligations.EthernetCompletes
  intro h
  obtain ⟨hwf, hwe, hrx, hrun, hheld, hat, hhost, hcheck, hrec⟩ := emptyDelivery_hypotheses
  obtain ⟨b, hb⟩ := Option.isSome_iff_exists.mp hhost
  obtain ⟨-, -, -, hdeliver, -⟩ := h ⟨emptyDelivery, []⟩ 0 hwf hwe _ rfl
  obtain ⟨t, hexec, -, -, -, hrecord⟩ := hdeliver 2 _ [] _ b hrx rfl (by decide) hrun hheld [] (by rfl) (Nat.zero_le _) hat.symm (by decide) (by decide) hb hcheck
  obtain ⟨r, hr, -, -, hgood, -⟩ := hrecord hrec
  have hmoved : t.dev.eth = (ethDeliver 0 2 emptyDelivery).eth := by
    have hgives : exec (.ethFrameDeliver 0 2) ⟨emptyDelivery, []⟩ =
        .next { dev := emptyDelivery.moved (ethDeliver 0 2 emptyDelivery), pending := [] } := liftMode_gives ⟨emptyDelivery, []⟩ _
    obtain rfl := Host.Outcome.next.inj (hexec.symm.trans hgives)
    rw [moved_eq _ _ emptyDelivery_quiet.1 emptyDelivery_quiet.2.1 emptyDelivery_quiet.2.2, updated_eth]
  have hbad : [r.bad] = [true] := by
    calc [r.bad] = ((t.dev.ethBlk 0).records).map (·.bad) := by rw [show (t.dev.ethBlk 0).records = _ from hr]; rfl
      _ = [true] := by rw [Device.ethBlk, hmoved, ← Device.ethBlk, emptyDelivery_record]
  simp [hgood] at hbad

end Sys2Proof.Machine
end

section
/-!
The commands of the host ports and of the command rings (12_protocol_blocks R334 to R337, R344; 21_command_protocol R519).
-/
namespace Sys2Proof.Machine

/-- Device `e` has the state of `d` but for the lanes, and its registers but for those of the lanes. -/
structure LanesKept (d e : Device) : Prop where
  wf : tabWf regDefault e.regs = true
  reg : ∀ a, ¬ (quadA 0 0 ≤ a ∧ a < gpioA 0 0) → e.reg a = d.reg a
  rest : ∃ regs lanes, e = { d with regs := regs, lanes := lanes }

section
variable {d e x : Device} {h : Half} {l : Nat}

theorem LanesKept.refl (hw : tabWf regDefault d.regs = true) : LanesKept d d := ⟨hw, fun _ _ => rfl, _, _, rfl⟩

theorem LanesKept.trans (h : LanesKept d e) (hx : LanesKept e x) : LanesKept d x := by
  obtain ⟨_, hr, _, _, rfl⟩ := h
  obtain ⟨hw, hrx, _, _, rfl⟩ := hx
  exact ⟨hw, fun a ha => (hrx a ha).trans (hr a ha), _, _, rfl⟩

theorem laneEval_kept (hw : tabWf regDefault d.regs = true) (hl : l < 144) : LanesKept d (laneEval l d) where
  wf := (laneEval_shown hw).wf
  reg a ha := (laneEval_shown hw).reg a (by rintro rfl; unfold laneStat laneA quadA gpioA at ha; omega)
  rest := by
    unfold laneEval
    extract_lets
    split_ifs <;> exact ⟨_, _, rfl⟩

theorem eachLaneEval_kept {ls : List Nat} {p : Device → Nat → Bool} (hw : tabWf regDefault d.regs = true) (hls : ∀ l ∈ ls, l < 144) :
    LanesKept d (d.each ls fun d l => if p d l then laneEval l d else d) := by
  refine List.foldlRecOn ls _ (LanesKept.refl hw) fun y hy l hl => ?_
  split
  · exact hy.trans (laneEval_kept hy.wf (hls l hl))
  · exact hy

/-! ### The active port (R336) -/

theorem hptA_notLane {o : Nat} : ¬ (quadA 0 0 ≤ hptA h o ∧ hptA h o < gpioA 0 0) := by
  unfold hptA quadA gpioA
  omega

theorem hptStat_notLane : ¬ (quadA 0 0 ≤ hptStat h ∧ hptStat h < gpioA 0 0) := hptA_notLane

theorem hptStat_other : hptStat (otherHalf h) ≠ hptStat h := by cases h <;> decide

/-- The registers and the rings once port `h` is active. -/
def portsSwapped (h : Half) (d : Device) : Device :=
  ringDrop (hostCarrier (otherHalf h)) ((d.setFld (hptStat (otherHalf h)) 24 8 0).setFld (hptStat h) 24 8 128)

theorem hostActivate_kept (hw : tabWf regDefault d.regs = true) (hidle : hostActive d h = false) :
    LanesKept { portsSwapped h d with host := { d.host with down := BitVec.ofNat 2 (hn h + 1) } } (hostActivate h d) := by
  simp only [hostActivate, hidle]
  refine eachLaneEval_kept (Device.setFld_wf (Device.setFld_wf hw)) fun l hl => ?_
  rcases List.mem_append.mp hl with hl | hl <;> exact halfLanes_lt hl

theorem hostActivate_reg (hw : tabWf regDefault d.regs = true) (hidle : hostActive d h = false) {a : Nat}
    (ha : ¬ (quadA 0 0 ≤ a ∧ a < gpioA 0 0)) : (hostActivate h d).reg a =
      fldSet (fldSet d.reg (hptStat (otherHalf h)) 24 8 0) (hptStat h) 24 8 128 a :=
  ((hostActivate_kept hw hidle).reg a ha).trans
    (((((RegsAre.of_wf hw).setFld (a := hptStat (otherHalf h)) (lo := 24) (n := 8) (v := 0)).setFld
      (a := hptStat h) (lo := 24) (n := 8) (v := 128)).congr rfl).reg a)

/-- After a change of ports the new one is active with its link down and the other idle. -/
theorem hostActivate_shows (hw : tabWf regDefault d.regs = true) (hidle : hostActive d h = false) :
    hostActive (hostActivate h d) h = true ∧ hostActive (hostActivate h d) (otherHalf h) = false ∧ hostUp (hostActivate h d) h = false := by
  have hmine : (hostActivate h d).reg (hptStat h) = withField (fldSet d.reg (hptStat (otherHalf h)) 24 8 0 (hptStat h)) 24 8 128 := by
    rw [hostActivate_reg hw hidle hptStat_notLane, fldSet_self]
  have hother : (hostActivate h d).reg (hptStat (otherHalf h)) = withField (d.reg (hptStat (otherHalf h))) 24 8 0 := by
    rw [hostActivate_reg hw hidle hptStat_notLane, fldSet_ne hptStat_other, fldSet_self]
  have hpart {w : Word} {v i : Nat} (hi : i < 8) : fieldOf (withField w 24 8 v) (24 + i) 1 = bitsAt v i 1 :=
    fieldOf_withField_within (by decide) (by omega)
  refine ⟨?_, ?_, ?_⟩
  · rw [hostActive, Device.bit_eq_fieldOf, hmine, hpart (i := 7) (by decide)]
    rfl
  · rw [hostActive, Device.bit_eq_fieldOf, hother, hpart (i := 7) (by decide)]
    rfl
  · rw [hostUp, Device.bit_eq_fieldOf, hmine, hpart (i := 6) (by decide)]
    rfl

theorem activePort_of_active (ha : hostActive d h = true) (ho : hostActive d (otherHalf h) = false) : d.activePort = some h := by
  cases h
  · exact if_pos ha
  · exact (if_neg (by rw [show d.bit (hptA .w 4) 31 = false from ho]; decide)).trans (if_pos ha)

section
variable {s : State}

theorem gives_makeActive : gives (.makeActive h) s (makeActive h s.dev) := rfl

theorem makeActive_of_refused (hidle : hostActive d h = false) (hno : d.up h = false ∨ ∃ n ∈ hostDomains d h, d.domOn n = false) :
    makeActive h d = d.setBit (hptStat h) 0 := by
  simp only [makeActive, hidle]
  rw [if_neg (by decide), if_pos]
  rcases hno with hno | ⟨n, hn', hoff⟩
  · simp [hno]
  · simp only [Bool.or_eq_true, List.any_eq_true, Bool.not_eq_true']
    exact .inr ⟨n, hn', hoff⟩

theorem makeActive_of_ready (hidle : hostActive d h = false) (hup : d.up h = true) (hon : ∀ n ∈ hostDomains d h, d.domOn n = true) :
    makeActive h d = hostActivate h d := by
  have hready : (!d.up h || (hostDomains d h).any fun n => !d.domOn n) = false := by
    simp only [hup, Bool.not_true, Bool.false_or, List.any_eq_false, Bool.not_eq_true', Bool.not_eq_false]
    exact hon
  simp only [makeActive, hidle, hready]
  rfl

theorem gives_hostPortFailover : gives .hostPortFailover s (hostFailover s.dev) := rfl

theorem hostFailover_of_lost (hact : d.activePort = some h) (hdown : d.up h = false) (hup : d.up (otherHalf h) = true) :
    hostFailover d = (hostActivate (otherHalf h) d).fault (otherHalf h) 0x61 (hn h) 0 := by
  simp [hostFailover, hact, hdown, hup]

theorem hostActivate_parts (hw : tabWf regDefault d.regs = true) (hidle : hostActive d h = false) :
    (hostActivate h d).log = d.log ∧ (hostActivate h d).time = d.time := by
  obtain ⟨-, -, regs, lanes, hrest⟩ := hostActivate_kept hw hidle
  simp [hrest, portsSwapped, ringDrop]

theorem hostActive_setFifo {k : Half} {rs : List Report} : hostActive (d.setFifo k rs) h = hostActive d h := by cases k <;> rfl

/-- A failover makes the other port active and reports it. -/
theorem hostFailover_shows (hw : tabWf regDefault d.regs = true) (hact : d.activePort = some h) (hidle : hostActive d (otherHalf h) = false)
    (hdown : d.up h = false) (hup : d.up (otherHalf h) = true) (hbob : d.fld (bobA 0) 0 16 = 0)
    (hroom : (d.fifo (otherHalf h)).length < 1024) :
    hostActive (hostFailover d) (otherHalf h) = true ∧ hostActive (hostFailover d) h = false ∧
      (hostFailover d).fifo (otherHalf h) = d.fifo (otherHalf h) ++ [⟨0x61, hn h, 0, d.now (otherHalf h)⟩] := by
  obtain ⟨hmine, hother, -⟩ := hostActivate_shows hw hidle
  obtain ⟨hlog, htime⟩ := hostActivate_parts hw hidle
  have hback : otherHalf (otherHalf h) = h := by cases h <;> rfl
  have hbob' : (hostActivate (otherHalf h) d).fld (bobA 0) 0 16 = 0 := by
    rw [Device.fld, hostActivate_reg hw hidle (by decide), fldSet_ne (by cases h <;> decide), fldSet_ne (by cases h <;> decide)]
    exact hbob
  have hfifo : (hostActivate (otherHalf h) d).fifo (otherHalf h) = d.fifo (otherHalf h) := by
    cases h <;> simp only [otherHalf, Device.fifo] at hlog ⊢ <;> rw [hlog]
  have hnow : (hostActivate (otherHalf h) d).now (otherHalf h) = d.now (otherHalf h) := by
    cases h <;> simp only [otherHalf, Device.now, Device.lark] at htime ⊢ <;> rw [htime]
  rw [hostFailover_of_lost hact hdown hup, fault_with_room hbob' (by rw [hfifo]; exact hroom), hfifo, hnow]
  refine ⟨?_, ?_, ?_⟩
  · rw [hostActive_setFifo, hmine]
  · rw [hback] at hother
    rw [hostActive_setFifo, hother]
  · rw [Device.fifo_setFifo]

/-! ### Accesses through a port and to the aperture (R334) -/

theorem gives_hostBar2Access {w : Bool} {off : BitVec 40} {len : Nat} {data : List Byte} :
    gives (.hostBar2Access h w off len data) s (s.dev.moved (bar2Access h w off.toNat len data s.dev)) := liftMode_gives s _

section
variable {off len : Nat} {data : List Byte} (hrun : hostRuns d h = true) (hup : hostUp d h = true) (hoff : off < 2 ^ d.fld (hptCtl h) 0 6)
include hrun hup hoff

theorem bar2Access_write :
    let q := busWrite (byBlock d 1 (.host h)) 2 (d.fld (hptA h 0x48) 0 28 * 2 ^ 20 + off) data d
    bar2Access h true off len data d = if q.1 = notTaken then d else (flushReplies q.2).answer q.1 [] := by
  have hgo : (!(hostRuns d h && hostUp d h) || decide (off ≥ 2 ^ d.fld (hptCtl h) 0 6)) = false := by simp [hrun, hup, hoff]
  simp only [bar2Access, hgo, Bool.false_eq_true, if_false, if_true]

theorem bar2Access_read :
    let q := busRead (byBlock d 1 (.host h)) (d.fld (hptA h 0x48) 0 28 * 2 ^ 20 + off) len d
    bar2Access h false off len data d = q.2.answer q.1.status q.1.data := by
  have hgo : (!(hostRuns d h && hostUp d h) || decide (off ≥ 2 ^ d.fld (hptCtl h) 0 6)) = false := by simp [hrun, hup, hoff]
  simp only [bar2Access, hgo, Bool.false_eq_true, if_false]

end

theorem bar2Access_outside {off len : Nat} {data : List Byte} {w : Bool} (hoff : 2 ^ d.fld (hptCtl h) 0 6 ≤ off) :
    bar2Access h w off len data d = d := by simp [bar2Access, hoff]

theorem gives_hostOutRequest {mc : MClass} {w : Bool} {a : BitVec 48} {len : Nat} {data : List Byte} :
    gives (.hostOutRequest mc w a len data) s (s.dev.moved (hostOut mc.val w a.toNat len data s.dev)) := liftMode_gives s _

/-- Thimble's requests reach the active port's aperture while its half is up. -/
theorem accessCheck_hostMem {mc a len : Nat} (hact : d.activePort = some h) (hup : d.up h = true) :
    accessCheck d (byClass d mc) .hostMem a len = 0 := by
  have hdown : ((targetHalf d a .hostMem).any fun h => !d.up h) = false := by
    rw [show targetHalf d a .hostMem = d.activePort from rfl, hact]
    simp [hup]
  have hpath : ((accessPlaces d .hostMem a len).map (pathCheck d (byClass d mc))).find? (fun x => x != 0) = none := rfl
  simp only [accessCheck, hpath, targetCheck, hdown]
  rfl

section
variable {mc a b : Nat} {data : List Byte} (hlo : 0xFD0000000000 ≤ a) (hhi : a < 0xFE0000000000) (hend : a + data.length ≤ 0xFE0000000000)
  (hact : d.activePort = some h) (hup : d.up h = true) (hb : hostAddr d a = some b)
include hlo hhi hend hact hup hb

theorem hostOut_write (hq : d.cmd.heldBack = []) : hostOut mc true a data.length data d =
    Device.answer { d with host := { d.host with mem := memWrites d.host.mem b data } } 0 [] := by
  have hin : ¬ (a < 0xFD0000000000 ∨ 0xFE0000000000 ≤ a) := by omega
  have hwrite := busWrite_hostMem (cls := 2) hlo hhi hend hb rfl (accessCheck_hostMem (mc := mc) (len := data.length) hact hup)
  simp only [hostOut, hin, registerWrite, hwrite]
  exact congrArg (Device.answer · 0 []) (flushReplies_of_none hq)

theorem hostOut_read {bs : List Byte} : hostOut mc false a data.length bs d = d.answer 0 (memReads d.host.mem b data.length) := by
  have hin : ¬ (a < 0xFD0000000000 ∨ 0xFE0000000000 ≤ a) := by omega
  have hread := busRead_hostMem hlo hhi hend hb (accessCheck_hostMem (mc := mc) (len := data.length) hact hup)
  simp only [hostOut, hin, hread]
  rfl

end

/-! ### Rings (R335) -/

theorem gives_reqProdWrite {v : BitVec 16} : gives (.reqProdWrite h v) s (reqProd (hostCarrier h) v.toNat s.dev) := rfl

theorem reqProd_of_room {c : Carrier} {v : Nat} (hroom : idxGap v (ringIdx d c 0x30) ≤ ringSlots d c)
    (hgap : idxGap v (ringIdx d c 0x24) ≤ ringSlots d c) :
    reqProd c v d = { d.setReg (ringA c 0x24) (BitVec.ofNat 32 v) with
      cmd := { d.cmd with arrived := d.cmd.arrived ++ List.replicate (idxGap v (ringIdx d c 0x24)) (c, []) } } := by
  have hn1 : ¬ idxGap v (ringIdx d c 0x30) > ringSlots d c := by omega
  have hn2 : ¬ idxGap v (ringIdx d c 0x24) > ringSlots d c := by omega
  simp only [reqProd, hn1, hn2, if_false]
  rfl

theorem reqProd_of_overrun {v : Nat} (hover : ringSlots d (hostCarrier h) < idxGap v (ringIdx d (hostCarrier h) 0x30)) :
    reqProd (hostCarrier h) v d = d.setBit (hptStat h) 1 := by
  simp only [reqProd, if_pos hover]
  cases h <;> rfl

theorem gives_rspConsWrite {c : Option Half} {mc : MClass} {v : BitVec 16} :
    gives (.rspConsWrite c mc v) s (s.dev.moved (rspCons c mc.val v.toNat s.dev)) := liftMode_gives s _

theorem rspCons_host {mc v : Nat} (hq : d.cmd.heldBack = []) :
    rspCons (some h) mc v d = (d.setReg (ringA (hostCarrier h) 0x30) (BitVec.ofNat 32 v)).answer 0 [] :=
  congrArg (Device.answer · 0 []) (flushReplies_of_none (by exact hq))

/-! ### Links (R337) -/

theorem gives_hostLinkChange {up : Bool} : gives (.hostLinkChange h up) s (hostLinkChange h up s.dev) := rfl

/-- A link that goes down reads 0, and its port stays as active as it was. -/
theorem hostLinkDown_shows (hw : tabWf regDefault d.regs = true) :
    hostUp (hostLinkDown h d) h = false ∧ (hostLinkDown h d).fld (hptStat h) 24 6 = 0 ∧ hostActive (hostLinkDown h d) h = hostActive d h := by
  have hr : RegsAre (hostLinkDown h d) (fldSet d.reg (hptStat h) 24 7 0) :=
    ((RegsAre.of_wf hw).setFld (a := hptStat h) (lo := 24) (n := 7) (v := 0)).congr rfl
  have hpart {i k : Nat} (hi : i + k ≤ 7) : (hostLinkDown h d).fld (hptStat h) (24 + i) k = 0 := by
    rw [hr.fld, fldSet_self, fieldOf_withField_within (by decide) hi]
    simp [bitsAt]
  refine ⟨?_, hpart (i := 0) (by decide), ?_⟩
  · rw [hostUp, Device.bit, hpart (i := 6) (by decide)]
    rfl
  · rw [hostActive, hr.bit, fldSet_self, fieldOf_withField_ne _ _ _ _ _ _ (by decide) (by decide)]
    rfl

theorem gives_loopbackRefused : gives (.loopbackRefused h) s (loopback h s.dev) := rfl

theorem loopback_shows (hw : tabWf regDefault d.regs = true) (hrun : hostRuns d h = true) :
    hostUp (loopback h d) h = false ∧ (loopback h d).bit (hptStat h) 2 = true ∧ hostActive (loopback h d) h = true ∧
      (loopback h d).host.mem = d.host.mem := by
  have hact : hostActive d h = true := by
    rw [hostRuns, Bool.and_eq_true] at hrun
    exact hrun.1
  obtain ⟨hdown, -, hkept⟩ := hostLinkDown_shows (h := h) hw
  have hw' : tabWf regDefault (hostLinkDown h d).regs = true := Device.setFld_wf hw
  have hr := (RegsAre.of_wf hw').setBit (a := hptStat h) (k := 2)
  have hne {k : Nat} (hk : 3 ≤ k) : ((hostLinkDown h d).setBit (hptStat h) 2).bit (hptStat h) k = (hostLinkDown h d).bit (hptStat h) k := by
    rw [hr.bit, fldSet_self, fieldOf_withField_ne _ _ _ _ _ _ (by decide) (by omega)]
    rfl
  rw [loopback, if_pos hrun]
  refine ⟨(hne (by decide)).trans hdown, ?_, (hne (by decide)).trans (hkept.trans hact), rfl⟩
  rw [hr.bit, fldSet_self, fieldOf_withField_same _ _ _ _ (by decide)]
  rfl

theorem sat_le {t n : Nat} : sat t n ≤ n := by
  unfold sat
  split <;> omega

/-- A link that comes up trains within the limits of its port. -/
theorem hostLinkUp_shows (hw : tabWf regDefault d.regs = true) (hrun : hostRuns d h = true) (hgen : 1 ≤ d.fld (hptCtl h) 26 3)
    (hwide : (hostWidest d h).isSome = true) :
    hostUp (hostLinkChange h true d) h = true ∧ 1 ≤ (hostLinkChange h true d).fld (hptStat h) 27 3 ∧
      (hostLinkChange h true d).fld (hptStat h) 27 3 ≤ d.fld (hptCtl h) 26 3 ∧
      (hostLinkChange h true d).fld (hptStat h) 24 3 ≤ d.fld (hptCtl h) 23 3 := by
  obtain ⟨widest, hsome⟩ := Option.isSome_iff_exists.mp hwide
  have hrun' : ∃ gen width : Nat, 1 ≤ gen ∧ gen ≤ d.fld (hptCtl h) 26 3 ∧ width ≤ d.fld (hptCtl h) 23 3 ∧
      RegsAre (hostLinkChange h true d)
        (fldSet (fldSet (fldSet d.reg (hptStat h) 30 1 1) (hptStat h) 27 3 gen) (hptStat h) 24 3 width) := by
    have hg := Nat.mod_lt d.takeFree.1 (show 0 < d.fld (hptCtl h) 26 3 by omega)
    have hwd := Nat.mod_lt d.takeFree.2.takeFree.1 (show 0 < 1 + sat widest (d.fld (hptCtl h) 23 3) by omega)
    have hle := sat_le (t := widest) (n := d.fld (hptCtl h) 23 3)
    refine ⟨1 + d.takeFree.1 % d.fld (hptCtl h) 26 3, d.takeFree.2.takeFree.1 % (1 + sat widest (d.fld (hptCtl h) 23 3)),
      by omega, by omega, by omega, ?_⟩
    simp only [hostLinkChange, hrun, hsome]
    exact ((((RegsAre.of_wf hw).congr (x := d.takeFree.2.takeFree.2) rfl).setBit.setFld).setFld).congr rfl
  obtain ⟨gen, width, hlow, hhigh, hwd, hr⟩ := hrun'
  have h8 {k : Nat} : d.fld (hptCtl h) k 3 < 8 := fieldOf_lt _
  have h26 := h8 (k := 26)
  have h23 := h8 (k := 23)
  refine ⟨?_, ?_, ?_, ?_⟩
  · rw [hostUp, hr.bit]
    simp [fieldOf_withField_same, fieldOf_withField_ne]
  all_goals
    rw [hr.fld]
    simp [fieldOf_withField_same, fieldOf_withField_ne]
    omega

end

end

/-- Settles O43: each command's own equation, with the change of ports read off the registers that it writes. -/
theorem hostCompletes : Obligations.HostCompletes := by
  unfold Obligations.HostCompletes
  intro s h hwf _ _
  refine ⟨?_, fun off len data hoff w => gives_of_eq gives_hostBar2Access (congrArg _ (bar2Access_outside hoff)), ?_, ?_, ?_, ?_, ?_, ?_, ?_, ?_, ?_⟩
  · rintro off len data hrun hup hoff a rfl
    refine ⟨?_, ?_⟩
    · rintro q rfl
      have hrun' := bar2Access_write (len := len) (data := data) hrun hup hoff
      exact ⟨fun hq => gives_of_eq gives_hostBar2Access (congrArg _ (hrun'.trans (if_neg hq))),
        fun hq => gives_of_eq gives_hostBar2Access (congrArg _ (hrun'.trans (if_pos hq)))⟩
    · rintro q rfl
      exact gives_of_eq gives_hostBar2Access (congrArg _ (bar2Access_read hrun hup hoff))
  · intro mc a data b hlo hend hact hup hb hq hhi
    exact ⟨gives_of_eq gives_hostOutRequest (congrArg _ (hostOut_write hlo hhi hend hact hup hb hq)),
      gives_of_eq gives_hostOutRequest (congrArg _ (hostOut_read hlo hhi hend hact hup hb))⟩
  · intro v hroom hgap
    have hv : BitVec.ofNat 32 v.toNat = v.setWidth 32 := by
      apply BitVec.eq_of_toNat_eq
      simp
    refine ⟨_, gives_of_eq gives_reqProdWrite (reqProd_of_room hroom hgap), ?_, rfl⟩
    exact (Device.reg_setReg_same _ _ _ hwf).trans hv
  · exact fun v hover => gives_of_eq gives_reqProdWrite (reqProd_of_overrun hover)
  · intro v hq
    have hv : BitVec.ofNat 32 v.toNat = v.setWidth 32 := by
      apply BitVec.eq_of_toNat_eq
      simp
    exact gives_of_eq gives_rspConsWrite (by rw [rspCons_host hq, hv])
  · refine fun hidle => ⟨fun hno => gives_of_eq gives_makeActive (makeActive_of_refused hidle hno), fun hup hon => ?_⟩
    obtain ⟨hmine, hother, hdown⟩ := hostActivate_shows hwf hidle
    exact ⟨_, gives_of_eq gives_makeActive (makeActive_of_ready hidle hup hon), hmine, hother, hdown, activePort_of_active hmine hother⟩
  · intro hact hidle hdown hup hbob hroom
    exact ⟨_, gives_hostPortFailover, hostFailover_shows hwf hact hidle hdown hup hbob hroom⟩
  · intro hnone
    exact gives_of_eq gives_hostPortFailover (by rw [hostFailover, hnone])
  · exact fun hrun => ⟨⟨_, gives_loopbackRefused, loopback_shows hwf hrun⟩,
      fun hgen hwide => ⟨_, gives_hostLinkChange, hostLinkUp_shows hwf hrun hgen hwide⟩⟩
  · exact ⟨_, gives_hostLinkChange, hostLinkDown_shows hwf⟩

end Sys2Proof.Machine
end

section
/-!
The recorder's commands, its ring, its journal and its replay (20_bobbin_replay R501 to R515).
-/
namespace Sys2Proof.Machine

section
variable {d e : Device} {h k : Half} {r : List Byte} {b : BobHalf} {s : State}

/-! ### The halves of the recorder -/

@[simp] theorem Device.bobHalf_setBobHalf : (d.setBobHalf h b).bobHalf h = b := by cases h <;> rfl

theorem Device.bobHalf_setBobHalf_ne (hk : k ≠ h) : (d.setBobHalf h b).bobHalf k = d.bobHalf k := by
  cases h <;> cases k
  · exact absurd rfl hk
  · rfl
  · rfl
  · exact absurd rfl hk

theorem bobRecord_bobHalf_ne (hk : k ≠ h) : (d.bobRecord h r).bobHalf k = d.bobHalf k := by
  unfold Device.bobRecord
  extract_lets
  split_ifs
  · rfl
  · exact Device.bobHalf_setBobHalf_ne hk
  · exact Device.bobHalf_setBobHalf_ne hk

@[simp] theorem bobRecord_regs : (d.bobRecord h r).regs = d.regs := by
  obtain ⟨b, hb⟩ := bobRecord_eq d h r
  rw [hb]

@[simp] theorem setBobHalf_reg {a : Nat} : (d.setBobHalf h b).reg a = d.reg a := by cases h <;> rfl
@[simp] theorem setBobHalf_regs : (d.setBobHalf h b).regs = d.regs := by cases h <;> rfl

theorem bobState_congr (hr : e.regs = d.regs) : e.bobState = d.bobState := Device.fld_congr (Device.reg_congr hr)

/-! ### Commands (R508, R509) -/

theorem byThimble_three {f : Device → Device} : d.byThimble 3 f = (f d).answer 0 [] := rfl

theorem gives_bobbinArm {mc : MClass} : gives (.bobbinArm mc) s (s.dev.byThimble mc fun d => (bobArm d).2) := rfl
theorem gives_bobbinTrigger {mc : MClass} : gives (.bobbinTrigger mc) s (s.dev.byThimble mc fun d => d.bobTrigger 2) := rfl
theorem gives_bobbinStop {mc : MClass} : gives (.bobbinStop mc) s (s.dev.byThimble mc bobStop) := rfl
theorem gives_startReplay {mc : MClass} : gives (.startReplay mc) s (s.dev.updated (s.dev.byThimble mc fun d => (bobReplay d).2)) :=
  liftReport_gives s _
theorem gives_bobbinFreeze : gives (.bobbinFreeze h) s (freezeDone h s.dev) := rfl

/-- The recorder emptied for a new recording. -/
def bobEmptied (d : Device) : Device :=
  { d with bob := { d.bob with w := {}, e := {}, fields := d.reg (bobA 8), cross := [], gated := 0, live := false } }

theorem bobArm_of_idle (hs : d.bobState = 0 ∨ d.bobState = 3) :
    bobArm d = (false, ((((bobEmptied d).setReg (bobA 0x10C) 0).setReg (bobA 0x12C) 0).setFld (bobA 4) 29 3 1).setFld (bobA 4) 26 3 0) := by
  simp only [bobArm, hs, if_true]
  rfl

theorem bobArm_of_recording (hs : d.bobState = 1) : bobArm d = (true, bobCmdErr d) := by simp [bobArm, hs]

/-- An arm empties both halves and takes the fields to record. -/
theorem bobArm_shows (hw : tabWf regDefault d.regs = true) (hs : d.bobState = 0 ∨ d.bobState = 3) :
    (bobArm d).2.bobState = 1 ∧ (bobArm d).2.bobHalf h = {} ∧ (bobArm d).2.bob.fields = d.reg (bobA 8) ∧
      (bobArm d).2.reg (bobA (0x10C + 0x20 * hn h)) = 0 ∧ (bobArm d).2.fld (bobA 4) 26 3 = 0 := by
  have hr := (((((RegsAre.of_wf hw).congr (x := bobEmptied d) rfl).setReg (a := bobA 0x10C) (w := 0)).setReg (a := bobA 0x12C) (w := 0)).setFld
    (a := bobA 4) (lo := 29) (n := 3) (v := 1)).setFld (a := bobA 4) (lo := 26) (n := 3) (v := 0)
  rw [bobArm_of_idle hs]
  refine ⟨?_, ?_, rfl, ?_, ?_⟩
  · rw [Device.bobState, hr.fld]
    simp [fieldOf_withField_same, fieldOf_withField_ne]
  · cases h <;> rfl
  · rw [hr.reg]
    cases h <;> simp [fldSet, Function.update, bobA, hn]
  · rw [hr.fld]
    simp [fieldOf_withField_same]

/-- A trigger records itself in both halves and gives each what is left to write. -/
theorem bobTrigger_of_recording {source : Nat} (hs : d.bobState = 1) :
    d.bobTrigger source = (d.setFld (bobA 4) 29 3 2).each [Half.w, Half.e] fun d' h =>
      (d'.bobRecord h (recOf 5 ([BitVec.ofNat 8 source, 0, 0, 0, 0, 0] ++ recTime (d'.now h)))).setBobHalf h
        { (d'.bobRecord h (recOf 5 ([BitVec.ofNat 8 source, 0, 0, 0, 0, 0] ++ recTime (d'.now h)))).bobHalf h with
          postLeft := some (d.fld (bobA 0) 16 8 * 1048576) } := by
  simp only [Device.bobTrigger, hs]
  rfl

theorem bobTrigger_shows {source : Nat} (hw : tabWf regDefault d.regs = true) (hs : d.bobState = 1) :
    (d.bobTrigger source).bobState = 2 ∧ ((d.bobTrigger source).bobHalf h).postLeft = some (d.fld (bobA 0) 16 8 * 1048576) := by
  have hr := (RegsAre.of_wf hw).setFld (a := bobA 4) (lo := 29) (n := 3) (v := 2)
  rw [bobTrigger_of_recording hs]
  simp only [Device.each, List.foldl_cons, List.foldl_nil]
  refine ⟨?_, ?_⟩
  · have hstate : (d.setFld (bobA 4) 29 3 2).bobState = 2 := by
      rw [Device.bobState, hr.fld, fldSet_self, fieldOf_withField_same _ _ _ _ (by decide), Nat.mod_eq_of_lt (by decide)]
    refine (bobState_congr ?_).trans hstate
    simp only [setBobHalf_regs, bobRecord_regs]
  · cases h
    · rw [Device.bobHalf_setBobHalf_ne (by decide), bobRecord_bobHalf_ne (by decide), Device.bobHalf_setBobHalf]
    · rw [Device.bobHalf_setBobHalf]

theorem bobTrigger_counts {source : Nat} (hw : tabWf regDefault d.regs = true) (hs : d.bobState ≠ 1) :
    (d.bobTrigger source).bobState = d.bobState ∧ (d.bobTrigger source).fld (bobA 4) 16 8 = (d.fld (bobA 4) 16 8 + 1) % 256 ∧
      (d.bobTrigger source).bob = d.bob := by
  have hr := (RegsAre.of_wf hw).bump (a := bobA 4) (lo := 16) (n := 8) (v := 1)
  rw [bobTrigger_of_not_recording hs]
  refine ⟨?_, ?_, by simp⟩
  · rw [Device.bobState, hr.fld, fldSet_self, fieldOf_withField_ne _ _ _ _ _ _ (by decide) (by decide)]
    rfl
  · rw [hr.fld, fldSet_self, fieldOf_withField_same _ _ _ _ (by decide)]
    simp [wrap, Device.fld]

/-- A freeze shows its cause and leaves what has been recorded. -/
theorem bobFreeze_shows {c : Nat} (hw : tabWf regDefault d.regs = true) (hs : d.bobState = 1 ∨ d.bobState = 2 ∨ d.bobState = 4) :
    (d.bobFreeze c).bobState = 3 ∧ (d.bobFreeze c).fld (bobA 4) 26 3 = c % 8 ∧ (d.bobFreeze c).bob = d.bob := by
  have hr := ((RegsAre.of_wf hw).setFld (a := bobA 4) (lo := 29) (n := 3) (v := 3)).setFld (a := bobA 4) (lo := 26) (n := 3) (v := c)
  rw [Device.bobFreeze, if_pos hs]
  refine ⟨?_, ?_, by simp⟩
  · rw [Device.bobState, hr.fld]
    simp [fieldOf_withField_same, fieldOf_withField_ne]
  · rw [hr.fld]
    simp [fieldOf_withField_same]

theorem freezeDone_of_stopped (hs : d.bobState = 2) (hpw : (d.bobHalf .w).postLeft = some 0) (hpe : (d.bobHalf .e).postLeft = some 0) :
    freezeDone h d = d.bobFreeze 0 := by
  cases h <;> simp [freezeDone, hs, bobStopped, otherHalf, hpw, hpe]

theorem freezeDone_of_writing (hp : (d.bobHalf h).postLeft ≠ some 0) : freezeDone h d = d := by
  simp [freezeDone, bobStopped, hp]

/-! ### Replay (R512 to R515) -/

/-- Replay with the fields that its register names. -/
def replayStarted (d : Device) : Device :=
  Device.setFld { d with bob := { d.bob with fields := d.reg (bobA 8), live := false, gated := 0 } } (bobA 4) 29 3 4

section
variable {n : Nat} (hs : d.bobState = 3) (hrw : ringBytes d .w ≠ 0) (hre : ringBytes d .e = 0) (ha : anchorBuild .w d = (some n, e))
include hs hrw hre ha

theorem bobReplay_of_match (hn : loadedBuild d = some n) : bobReplay d = (false, replayStarted e) := by
  simp [bobReplay, replayStarted, hs, bobHalves, hrw, hre, ha, hn]

theorem bobReplay_of_mismatch (hn : loadedBuild d ≠ some n) : bobReplay d = (true, bobCmdErr e) := by
  have hno : (some n == loadedBuild d) = false := by
    rw [beq_eq_false_iff_ne]
    exact fun heq => hn heq.symm
  simp [bobReplay, hs, bobHalves, hrw, hre, ha, hno]

end

theorem stateReg_bobA {o : Nat} (ho : o < 0x10000) : stateReg (bobA o) = false := by
  simp only [stateReg, bobA, thmA]
  simp
  omega

theorem startReplay_of_match {n : Nat} (hs : s.dev.bobState = 3) (hrw : ringBytes s.dev .w ≠ 0) (hre : ringBytes s.dev .e = 0)
    (ha : anchorBuild .w s.dev = (some n, d)) (hw : tabWf regDefault d.regs = true) (hn : loadedBuild s.dev = some n) :
    ∃ t, exec (.startReplay 3) s = .next t ∧ t.dev.bobState = 4 ∧ t.dev.bob.live = false ∧ t.dev.bob.fields = d.reg (bobA 8) := by
  have hr := ((RegsAre.of_wf hw).congr (x := { d with bob := { d.bob with fields := d.reg (bobA 8), live := false, gated := 0 } })
    rfl).setFld (a := bobA 4) (lo := 29) (n := 3) (v := 4)
  have hstart : RegsAre ((replayStarted d).answer 0 []) (fldSet d.reg (bobA 4) 29 3 4) := hr.congr rfl
  have hrun : s.dev.byThimble 3 (fun d => (bobReplay d).2) = (replayStarted d).answer 0 [] := by
    rw [byThimble_three, bobReplay_of_match hs hrw hre ha hn]
  have hbob : (s.dev.updated ((replayStarted d).answer 0 [])).bob = { d.bob with fields := d.reg (bobA 8), live := false, gated := 0 } := by
    rw [updated_bob]
    simp [replayStarted]
  refine ⟨_, gives_of_eq gives_startReplay (congrArg _ hrun), ?_, congrArg BobState.live hbob, congrArg BobState.fields hbob⟩
  rw [Device.bobState, Device.fld, updated_reg _ hstart.wf (stateReg_bobA (by decide)), hstart.reg, fldSet_self,
    fieldOf_withField_same _ _ _ _ (by decide), Nat.mod_eq_of_lt (by decide)]

/-! ### The ring (R504, R510) -/

theorem gives_ringWrite : gives (.ringWrite h) s (s.dev.updated (ringWrite h s.dev)) := liftReport_gives s _

theorem ringWrite_of_down (hup : d.up h = false) : ringWrite h d = d := by simp [ringWrite, hup]

/-- A record that fits is put at the ring's write offset. -/
theorem ringRecord_of_room (hsize : ringBytes d h ≠ 0) (hleft : (d.bobHalf h).postLeft = none) (htime : r.head? ≠ some 1#8)
    (hanchor : r.head? ≠ some 2#8) (hroom : ((d.bobHalf h).wptr + ringBytes d h - ringAnchor d h % ringBytes d h) % ringBytes d h + r.length ≤
      ringBytes d h) (hput : ringPut h r d = (0, e)) :
    ringRecord h r d = (true, (e.setBobHalf h { e.bobHalf h with
      wptr := ((d.bobHalf h).wptr + r.length) % ringBytes d h, postLeft := none, sinceTime := (d.bobHalf h).sinceTime + r.length }).setReg
      (bobA (0x10C + 0x20 * hn h)) (BitVec.ofNat 32 (((d.bobHalf h).wptr + r.length) % ringBytes d h / 8))) := by
  have hfar : ¬ ringBytes d h <
      ((d.bobHalf h).wptr + ringBytes d h - ringAnchor d h % ringBytes d h) % ringBytes d h + r.length := by omega
  simp [ringRecord, hsize, hleft, htime, hanchor, hfar, hput]

theorem ringWrite_of_one (hup : d.up h = true) (hstage : (d.bobHalf h).staging = [r]) (hs : d.bobState = 1)
    (hleft : (d.bobHalf h).postLeft = none) (hsince : (d.bobHalf h).sinceTime + r.length + 16 ≤ 4096) (hrec : ringRecord h r d = (true, e)) :
    ringWrite h d = e.setBobHalf h { e.bobHalf h with staging := (e.bobHalf h).staging.drop 1 } := by
  have hno : ¬ (d.bobHalf h).sinceTime + r.length + 16 > 4096 := by omega
  simp [ringWrite, hup, hstage, Device.each, hs, bobStopped, hleft, hno, hrec]

/-! ### Gaps (R505) -/

theorem gives_gapWrite {c : Fin 8} : gives (.gapWrite h c) s (gapWrite h c.val s.dev) := rfl

theorem gapWrite_of_event {c : Nat} (hc : c ≠ 1) : gapWrite h c d = d.bobGap h c := if_neg hc

theorem gapWrite_of_quiet (hd : (d.bobHalf h).dropping = false) : gapWrite h 1 d = d := by simp [gapWrite, hd]

theorem bobGap_of_dropping {c : Nat} (hc : c ≠ 1) (ht : d.bobTakes h = true) (hd : (d.bobHalf h).dropping = true) :
    d.bobGap h c = d.setBobHalf h { d.bobHalf h with dropped := (d.bobHalf h).dropped + 1 } := by
  simp only [Device.bobGap, ht, hd, hc, ne_eq, not_false_eq_true, decide_true, Bool.true_or, Bool.and_self, if_true, Bool.not_true,
    Bool.false_eq_true, if_false]

theorem timeBytes_length {n : Nat} : (timeBytes n).length = 12 := by simp [timeBytes, leBytes_length]

/-- A record whose length is a multiple of 8 is staged as it is. -/
theorem bobRecord_of_room (ht : d.bobTakes h = true) (hd : (d.bobHalf h).dropping = false) (hlen : r.length % 8 = 0)
    (hroom : stagedBytes (d.bobHalf h) ≤ 448 * 1024) :
    d.bobRecord h r = d.setBobHalf h { d.bobHalf h with staging := (d.bobHalf h).staging ++ [r], dropping := false } := by
  have hpad : (8 - r.length % 8) % 8 = 0 := by omega
  have hno : ¬ 448 * 1024 < stagedBytes (d.bobHalf h) := by omega
  simp only [Device.bobRecord, ht, hd, hpad, List.replicate_zero, List.append_nil, gt_iff_lt, hno, decide_false, Bool.or_self,
    Bool.false_and, Bool.not_true, Bool.false_eq_true, if_false]

/-- The half once a gap has been staged. -/
def gapStaged (h : Half) (c : Nat) (d : Device) : BobHalf :=
  { d.bobHalf h with
    staging := (d.bobHalf h).staging ++ [recOf 3 ([BitVec.ofNat 8 c, 0] ++ leBytes (d.bobHalf h).dropped 4 ++ recTime (d.now h))]
    dropping := false, dropped := 0 }

theorem recOf_gap_length {c n t : Nat} : (recOf 3 ([BitVec.ofNat 8 c, 0] ++ leBytes n 4 ++ recTime t)).length = 16 := by
  simp [recOf, recTime, leBytes_length]

theorem stagedBytes_gapStaged {c : Nat} : stagedBytes (gapStaged h c d) = stagedBytes (d.bobHalf h) + 16 := by
  simp only [gapStaged, stagedBytes, List.foldl_append, List.foldl_cons, List.foldl_nil, recOf_gap_length]

theorem bobTakes_congr (hs : e.bobState = d.bobState) (ha : (e.bobHalf h).anchored = (d.bobHalf h).anchored)
    (hp : (e.bobHalf h).postLeft = (d.bobHalf h).postLeft) : e.bobTakes h = d.bobTakes h := by
  rw [Device.bobTakes, Device.bobTakes, hs, ha, hp]

/-- A gap that finds room is staged with what was dropped, and a TIME record follows it. -/
theorem bobGap_of_room {c : Nat} (hw : tabWf regDefault d.regs = true) (ht : d.bobTakes h = true) (hd : (d.bobHalf h).dropping = false)
    (hroom : stagedBytes (d.bobHalf h) + 16 ≤ 448 * 1024) :
    d.bobGap h c = ((d.setBobHalf h (gapStaged h c d)).bump (bobA 4) 0 16 1).setBobHalf h
      { gapStaged h c d with staging := (gapStaged h c d).staging ++ [recOf 1 (timeBytes (d.now h) ++ [0, 0])] } := by
  have hno : ¬ 448 * 1024 < stagedBytes (d.bobHalf h) := by omega
  generalize hx : (d.setBobHalf h (gapStaged h c d)).bump (bobA 4) 0 16 1 = x
  have hr : RegsAre x _ := hx ▸ ((RegsAre.of_wf hw).congr (x := d.setBobHalf h (gapStaged h c d)) setBobHalf_regs).bump
  have hhalf : x.bobHalf h = gapStaged h c d := by rw [← hx]; cases h <;> rfl
  have hnow : x.now h = d.now h := by rw [← hx]; cases h <;> rfl
  have hstate : x.bobState = d.bobState := by
    rw [Device.bobState, hr.fld, fldSet_self, fieldOf_withField_ne _ _ _ _ _ _ (by decide) (by decide)]
    rfl
  have htakes : x.bobTakes h = true := (bobTakes_congr hstate (by rw [hhalf]; rfl) (by rw [hhalf]; rfl)).trans ht
  have hrun : d.bobGap h c = x.bobTime h := by
    rw [← hx]
    simp [Device.bobGap, ht, hd, hno]
    rfl
  have hlen : (recOf 1 (timeBytes (x.now h) ++ [0, 0])).length % 8 = 0 := by simp [recOf, timeBytes_length]
  rw [hrun, Device.bobTime, bobRecord_of_room htakes (by rw [hhalf]; rfl) hlen (by rw [hhalf, stagedBytes_gapStaged]; exact hroom), hhalf, hnow]
  rfl

/-! ### The journal (R502, R511) -/

section
variable {j : Nat} {dir : Bool} {a c n : Nat}

theorem gives_journalEvent {j : BitVec 14} {dir : Bool} {a b : BitVec 48} :
    gives (.journalEvent j dir a b) s (journal j.toNat dir a.toNat b.toNat s.dev) := rfl

theorem gives_ratioMeasure {j : BitVec 14} {dir : Bool} {r : BitVec 32} : gives (.ratioMeasure j dir r) s (ratio j.toNat dir r.toNat s.dev) := rfl

theorem journal_of_unwatched (hj : crossWatched d j = false) : journal j dir a c d = d := by simp [journal, hj]
theorem ratio_of_unwatched (hj : crossWatched d j = false) : ratio j dir n d = d := by simp [ratio, hj]

theorem journal_of_watched (hj : crossWatched d j = true) (ht : d.bobTakes (crossHalf d j) = true) {q : List Byte × Predict}
    (hq : q = predict j dir a c (tabGet crossNew d.bob.cross (2 * j + b2n dir)))
    (he : e = { d with bob := { d.bob with cross := tabSet crossNew d.bob.cross (2 * j + b2n dir) q.2 } }) :
    journal j dir a c d = if q.1 = [] then e else e.bobRecord (crossHalf d j) q.1 := by
  subst hq he
  simp only [journal, hj, ht]
  simp

theorem ratio_of_same (hn : (tabGet crossNew d.bob.cross (2 * j + b2n dir)).r = n) : ratio j dir n d = d := by simp [ratio, hn]

theorem bobRecord_cross : (d.bobRecord h r).bob.cross = d.bob.cross := by
  have hset {b : BobHalf} : (d.setBobHalf h b).bob.cross = d.bob.cross := by cases h <;> rfl
  unfold Device.bobRecord
  extract_lets
  split_ifs
  · rfl
  · exact hset
  · exact hset

/-- A changed ratio is in force from then on, and nothing else of the crossing but its count. -/
theorem ratio_of_changed (hj : crossWatched d j = true) (ht : d.bobTakes (crossHalf d j) = true) (hwc : tabWf crossNew d.bob.cross = true)
    (hn : (tabGet crossNew d.bob.cross (2 * j + b2n dir)).r ≠ n) :
    tabGet crossNew (ratio j dir n d).bob.cross (2 * j + b2n dir) =
      { tabGet crossNew d.bob.cross (2 * j + b2n dir) with r := n, skip := 0 } ∧ (ratio j dir n d).regs = d.regs := by
  have hne : ((tabGet crossNew d.bob.cross (2 * j + b2n dir)).r == n) = false := beq_eq_false_iff_ne.mpr hn
  have hgo : (!(crossWatched d j && d.bobTakes (crossHalf d j)) || (tabGet crossNew d.bob.cross (2 * j + b2n dir)).r == n) = false := by
    simp [hj, ht, hne]
  simp only [ratio, hgo, Bool.false_eq_true, if_false]
  refine ⟨?_, bobRecord_regs⟩
  rw [bobRecord_cross]
  exact tabGet_tabSet_same _ _ _ _ hwc

end

/-! ### Predictions (R511) -/

section
variable {j : Nat} {dir : Bool} {a c : Nat} {x : Predict} {v err : Int} (hv : v = (x.acc : Int) + ((a : Int) - (x.ps : Int)) * (x.r : Int))
  (he : err = (c : Int) - ((x.pd : Int) + v / 2 ^ 24))
include hv he

theorem predict_of_met (hseen : x.seen = true) (hskip : x.skip ≤ 65535) (h0 : err = 0) :
    predict j dir a c x = ([], { x with ps := a, pd := c, acc := (v % 2 ^ 24).toNat, skip := x.skip + 1 }) := by
  subst hv
  have hno : ¬ 65535 < x.skip := by omega
  simp only [predict, ← he]
  simp [hseen, hno, h0]

theorem predict_of_miss (hseen : x.seen = true) (hskip : x.skip ≤ 65535) (h0 : err ≠ 0) (hlo : -128 ≤ err) (hhi : err ≤ 127) :
    predict j dir a c x = (recOf 0x10 (leBytes (j + 16384 * b2n dir) 2 ++ [BitVec.ofInt 8 err, 0] ++ leBytes x.skip 2),
      { x with ps := a, pd := c, acc := 0x800000, skip := 0 }) := by
  subst hv
  have hno : ¬ 65535 < x.skip := by omega
  have hlo' : ¬ err < -128 := by omega
  have hhi' : ¬ 127 < err := by omega
  simp only [predict, ← he]
  simp [hseen, hno, h0, hlo', hhi']

end

theorem predict_of_first {j : Nat} {dir : Bool} {a c : Nat} {x : Predict} (hseen : x.seen = false) :
    predict j dir a c x = (recOf 9 (crossId j dir x.skip ++ [0, 0] ++ leBytes a 6 ++ [0, 0] ++ leBytes c 6),
      { x with ps := a, pd := c, seen := true, acc := 0x800000, skip := 0 }) := by
  simp [predict, hseen]

/-! ### The gates of a replay (R513, R514) -/

section
variable {f i : Nat} {g : Word} {fs : List Nat}

theorem gives_replayGate {f : Fin 32} {ready : Bool} : gives (.replayGate f ready) s (replayGate f.val ready s.dev) := rfl

theorem replayGate_of_unfed {ready : Bool} (hf : d.feeds f = false) : replayGate f ready d = d := by simp [replayGate, hf]

theorem setGate_gated : (setGate f true d).bob.gated = withField d.bob.gated f 1 1 := rfl

theorem bobGated_setGate {b : Bool} (hf : f < 32) : (setGate f b d).bobGated f = b := by
  have hbit : fieldOf (withField d.bob.gated f 1 (b2n b)) f 1 = b2n b % 2 ^ 1 := fieldOf_withField_same _ _ _ _ (by omega)
  rw [Device.bobGated, show bitsAt (setGate f b d).bob.gated.toNat f 1 = _ from hbit]
  cases b <;> rfl

/-- A gate that closes changes the gates and the fabric. -/
theorem stopping_setGate : ∃ x, d.stopping f (setGate f true) = { setGate f true d with fab := x } := by
  unfold Device.stopping
  simp only
  split
  · split <;> exact ⟨_, rfl⟩
  · exact ⟨_, rfl⟩

theorem fieldRuns_of_gated (hg : d.bobGated f = true) : d.fieldRuns f = false := by
  simp [Device.fieldRuns, Device.fieldHeld, hg]

/-- The fields of a list that are replayed, with their gates closed; the rest of the device but the fabric is as it was. -/
theorem eachGate_closes (hfs : ∀ f ∈ fs, f < 32) :
    ∃ x g, (d.each fs fun d f => if d.replayed f then d.stopping f (setGate f true) else d) =
        { d with fab := x, bob := { d.bob with gated := g } } ∧
      (∀ f ∈ fs, d.replayed f = true → fieldOf g f 1 = 1) ∧ (∀ f, f < 32 → fieldOf d.bob.gated f 1 = 1 → fieldOf g f 1 = 1) := by
  induction fs generalizing d with
  | nil => exact ⟨d.fab, d.bob.gated, rfl, nofun, fun _ _ hg => hg⟩
  | cons k fs ih =>
    have hk : k < 32 := hfs k (List.mem_cons_self ..)
    have hrest : ∀ f ∈ fs, f < 32 := fun f hf => hfs f (List.mem_cons_of_mem _ hf)
    by_cases hr : d.replayed k = true
    · obtain ⟨y, hy⟩ := stopping_setGate (d := d) (f := k)
      obtain ⟨x, g, heq, hin, hkept⟩ := ih (d := { setGate k true d with fab := y }) hrest
      have hstep (f : Nat) (hf : f < 32) (hgf : fieldOf d.bob.gated f 1 = 1) : fieldOf (withField d.bob.gated k 1 1) f 1 = 1 := by
        by_cases hfk : f = k
        · rw [hfk]
          exact fieldOf_withField_same _ _ _ _ (by omega)
        · rw [fieldOf_withField_ne _ _ _ _ _ _ (by omega) (by omega), hgf]
      refine ⟨x, g, ?_, ?_, fun f hf hgf => hkept f hf (hstep f hf hgf)⟩
      · simp only [Device.each, List.foldl_cons, hr, if_true, hy]
        exact heq
      · rintro f hf hrf
        rcases List.mem_cons.mp hf with rfl | hf
        · exact hkept f hk (fieldOf_withField_same _ _ _ _ (by omega))
        · exact hin f hf hrf
    · obtain ⟨x, g, heq, hin, hkept⟩ := ih (d := d) hrest
      refine ⟨x, g, ?_, fun f hf hrf => ?_, hkept⟩
      · simp only [Device.each, List.foldl_cons, hr] at heq ⊢
        exact heq
      · rcases List.mem_cons.mp hf with rfl | hf
        · exact absurd hrf hr
        · exact hin f hf hrf

theorem gives_replayEnd_missing : gives (.replayEnd .missingSource) s (replayEnd 7 s.dev) := rfl

theorem replayEnd_of_idle {c : Nat} (hs : d.bobState ≠ 4) : replayEnd c d = d := if_pos hs

/-- The end of a replay closes the gates of every replayed field and shows its cause. -/
theorem replayEnd_shows {c : Nat} (hw : tabWf regDefault d.regs = true) (hs : d.bobState = 4) :
    (replayEnd c d).bobState = 3 ∧ (replayEnd c d).fld (bobA 4) 26 3 = c % 8 ∧ (replayEnd c d).bob.live = false ∧
      ∀ f, f < 32 → d.replayed f = true → (replayEnd c d).bobGated f = true := by
  obtain ⟨x, g, heq, hin, -⟩ := eachGate_closes (d := d) (fs := upto 32) fun f hf => List.mem_range.mp hf
  have hrun : replayEnd c d = Device.bobFreeze { d with fab := x, bob := { d.bob with gated := g, live := false } } c := by
    rw [replayEnd, if_neg (not_not.mpr hs), heq]
  obtain ⟨hstate, hcause, hbob⟩ := bobFreeze_shows (d := { d with fab := x, bob := { d.bob with gated := g, live := false } }) (c := c) hw
    (.inr (.inr hs))
  rw [hrun]
  refine ⟨hstate, hcause, by rw [hbob], fun f hf hrf => ?_⟩
  rw [Device.bobGated, hbob]
  exact beq_iff_eq.mpr (hin f (List.mem_range.mpr hf) hrf)

end

/-- The half once `n` more bytes stand in the ring and the next go to `next`. -/
def halfWritten (b : BobHalf) (n next : Nat) : BobHalf := { b with wptr := next, postLeft := none, sinceTime := b.sinceTime + n }

/-- A staged record that fits leaves staging; the write offset and its register move on. -/
theorem ringWrite_shows (hup : d.up h = true) (hstage : (d.bobHalf h).staging = [r]) (hs : d.bobState = 1)
    (hleft : (d.bobHalf h).postLeft = none) (hsize : ringBytes d h ≠ 0) (hsince : (d.bobHalf h).sinceTime + r.length + 16 ≤ 4096)
    (htime : r.head? ≠ some 1#8) (hanchor : r.head? ≠ some 2#8)
    (hroom : ((d.bobHalf h).wptr + ringBytes d h - ringAnchor d h % ringBytes d h) % ringBytes d h + r.length ≤ ringBytes d h)
    (hput : ringPut h r d = (0, e)) (hbob : e.bob = d.bob) (hwe : tabWf regDefault e.regs = true) {next : Nat}
    (hnext : next = ((d.bobHalf h).wptr + r.length) % ringBytes d h) :
    tabWf regDefault (ringWrite h d).regs = true ∧
      (ringWrite h d).bobHalf h = { d.bobHalf h with staging := [], wptr := next, sinceTime := (d.bobHalf h).sinceTime + r.length } ∧
      (ringWrite h d).reg (bobA (0x10C + 0x20 * hn h)) = BitVec.ofNat 32 (next / 8) ∧ (ringWrite h d).mem = e.mem := by
  have hhalf : e.bobHalf h = d.bobHalf h := by cases h <;> simp only [Device.bobHalf, hbob]
  generalize hx : (e.setBobHalf h (halfWritten (d.bobHalf h) r.length next)).setReg (bobA (0x10C + 0x20 * hn h)) (BitVec.ofNat 32 (next / 8)) = x
  have hr : RegsAre x _ := hx ▸ ((RegsAre.of_wf hwe).congr (x := e.setBobHalf h (halfWritten (d.bobHalf h) r.length next))
    setBobHalf_regs).setReg
  have hxhalf : x.bobHalf h = halfWritten (d.bobHalf h) r.length next := by rw [← hx]; cases h <;> rfl
  have hxmem : x.mem = e.mem := by rw [← hx]; cases h <;> rfl
  have hrec := ringRecord_of_room hsize hleft htime hanchor hroom hput
  rw [← hnext, hhalf] at hrec
  rw [ringWrite_of_one hup hstage hs hleft hsince (hrec.trans (congrArg _ hx)), hxhalf]
  refine ⟨?_, ?_, ?_, ?_⟩
  · rw [setBobHalf_regs]
    exact hr.wf
  · rw [Device.bobHalf_setBobHalf]
    simp [halfWritten, hstage, hleft]
  · rw [setBobHalf_reg, hr.reg, Function.update_self]
  · rw [← hxmem]
    cases h <;> rfl

/-- Settles O55: an equation for each command, and the registers it shows. START_REPLAY takes BOB_FIELDS at its start, as log 80 has it. -/
theorem bobbinCompletes : Obligations.BobbinCompletes := by
  unfold Obligations.BobbinCompletes
  refine ⟨?_, ?_⟩
  · rintro s h hw hwc x rfl
    refine ⟨fun mc hmc => ?_, ?_, ?_, ?_, ?_, ?_, ?_, ?_, ?_, ?_, ?_, ?_, ?_, ?_, ?_, ?_, ?_, ?_, ?_, ?_⟩
    · exact ⟨gives_of_eq gives_bobbinArm (byThimble_of_other hmc), gives_of_eq gives_bobbinTrigger (byThimble_of_other hmc),
        gives_of_eq gives_bobbinStop (byThimble_of_other hmc), gives_of_eq gives_startReplay (congrArg _ (byThimble_of_other hmc))⟩
    · intro hs
      obtain ⟨hstate, hhalf, hfields, hptr, hcause⟩ := bobArm_shows (h := h) hw hs
      exact ⟨_, gives_bobbinArm, rfl, hstate, hhalf, hfields, hptr, hcause⟩
    · intro hs
      have hreplay : bobReplay s.dev = (true, bobCmdErr s.dev) := by simp [bobReplay, hs]
      refine ⟨gives_of_eq gives_bobbinArm ?_, gives_of_eq gives_startReplay ?_, _, gives_bobbinTrigger, bobTrigger_shows hw hs⟩
      · rw [byThimble_three, bobArm_of_recording hs]
      · rw [byThimble_three, hreplay]
    · exact fun hs => ⟨_, gives_bobbinTrigger, bobTrigger_counts hw hs⟩
    · exact fun hs => ⟨_, gives_bobbinStop, bobFreeze_shows (c := 1) hw hs⟩
    · intro hs hpw hpe
      obtain ⟨hstate, hcause, -⟩ := bobFreeze_shows (c := 0) hw (.inr (.inl hs))
      exact ⟨_, gives_of_eq gives_bobbinFreeze (freezeDone_of_stopped hs hpw hpe), hstate, hcause⟩
    · exact fun hp => gives_of_eq gives_bobbinFreeze (freezeDone_of_writing hp)
    · intro b d hs hrw hre ha hwd
      refine ⟨startReplay_of_match hs hrw hre ha hwd, fun hn => gives_of_eq gives_startReplay ?_⟩
      rw [byThimble_three, bobReplay_of_mismatch hs hrw hre ha hn]
    · intro r d hup hstage hs hleft hsize hsince htime hanchor hroom hput hbob _ hwd next hnext
      obtain ⟨hwf, hhalf, hreg, hmem⟩ := ringWrite_shows hup hstage hs hleft hsize hsince htime hanchor hroom hput hbob hwd hnext
      refine ⟨_, gives_ringWrite, ?_, ?_, ?_⟩
      · rw [← hhalf]
        cases h <;> simp only [Device.bobHalf, updated_bob]
      · rw [← hreg]
        exact updated_reg _ hwf (stateReg_bobA (by cases h <;> decide))
      · rw [← hmem]
        exact updated_mem _ _
    · exact fun hup => gives_of_eq gives_ringWrite (congrArg _ (ringWrite_of_down hup))
    · exact fun c hc ht hd => gives_of_eq gives_gapWrite ((gapWrite_of_event hc).trans (bobGap_of_dropping hc ht hd))
    · intro c hc ht hd hroom
      have hr := ((RegsAre.of_wf hw).congr (x := s.dev.setBobHalf h (gapStaged h c.val s.dev)) setBobHalf_regs).bump (a := bobA 4) (lo := 0)
        (n := 16) (v := 1)
      refine ⟨_, gives_of_eq gives_gapWrite ((gapWrite_of_event hc).trans (bobGap_of_room hw ht hd hroom)),
        congrArg BobHalf.dropped Device.bobHalf_setBobHalf, congrArg BobHalf.dropping Device.bobHalf_setBobHalf,
        (congrArg BobHalf.staging Device.bobHalf_setBobHalf).trans ?_, (hr.congr setBobHalf_regs).fld.trans ?_⟩
      · simp [gapStaged]
      · rw [fldSet_self, fieldOf_withField_same _ _ _ _ (by decide)]
        simp [wrap, Device.fld]
    · exact fun hd => gives_of_eq gives_gapWrite (gapWrite_of_quiet hd)
    · rintro j dir a b hj ht q d hq hd
      have hrun := journal_of_watched hj ht hq hd
      exact ⟨fun h0 => gives_of_eq gives_journalEvent (hrun.trans (if_pos h0)),
        fun h0 => gives_of_eq gives_journalEvent (hrun.trans (if_neg h0))⟩
    · exact fun j dir a b r hj => ⟨gives_of_eq gives_journalEvent (journal_of_unwatched hj),
        gives_of_eq gives_ratioMeasure (ratio_of_unwatched hj)⟩
    · rintro j dir r hj ht p rfl
      exact ⟨fun hne => ⟨_, gives_ratioMeasure, ratio_of_changed hj ht hwc hne⟩,
        fun heq => gives_of_eq gives_ratioMeasure (ratio_of_same heq)⟩
    · intro f hf
      refine ⟨⟨_, gives_of_eq gives_replayGate (if_neg (by simp [hf])), ?_⟩, ⟨_, gives_of_eq gives_replayGate (if_neg (by simp [hf])), ?_⟩⟩
      · obtain ⟨x, hx⟩ := stopping_setGate (d := s.dev) (f := f.val)
        have hg : (s.dev.stopping f.val (setGate f.val true)).bobGated f.val = true := by
          rw [hx]
          exact bobGated_setGate f.isLt
        exact ⟨hg, fieldRuns_of_gated hg⟩
      · exact ⟨bobGated_setGate f.isLt, rfl⟩
    · exact fun f hf r => gives_of_eq gives_replayGate (replayGate_of_unfed hf)
    · exact fun hs => ⟨_, gives_replayEnd_missing, replayEnd_shows (c := 7) hw hs⟩
    · intro hs w
      cases w
      all_goals exact congrArg _ (congrArg (State.mk · s.pending) (replayEnd_of_idle hs))
  · intro j dir a b x v err hv he
    refine ⟨fun hseen hskip h0 => ?_, fun hseen hskip h0 hlo hhi => ?_, fun hseen => ?_⟩
    · rw [predict_of_met hv he hseen hskip h0]
      exact ⟨rfl, rfl⟩
    · have hshift : (BitVec.ofInt 8 err).toInt = err := by
        rw [BitVec.toInt_ofInt, Int.bmod_eq_of_le (by omega) (by omega)]
      rw [predict_of_miss hv he hseen hskip h0 hlo hhi]
      refine ⟨?_, rfl, ?_, rfl⟩
      · simp [recOf, leBytes_length]
      · simpa [recOf, leBytes] using hshift
    · rw [predict_of_first hseen]
      refine ⟨?_, rfl, rfl⟩
      simp [recOf, crossId, leBytes_length]

end
end Sys2Proof.Machine
end

section
/-!
The device's mode through its reports, and the fields that hold a value already.
-/
namespace Sys2Proof.Machine

section
variable {d e y : Device} {a k n : Nat} {w : Word}

/-- Device `e` has the modes of `d` but for the management line and its messages. -/
def ModesKept (d e : Device) : Prop := ∃ line msgs, e.sys = { d.sys with mgmtLine := line, msix := msgs }

theorem ModesKept.refl : ModesKept d d := ⟨d.sys.mgmtLine, d.sys.msix, rfl⟩

theorem ModesKept.congr (h : ModesKept d e) (hx : y.sys = e.sys) : ModesKept d y := by
  obtain ⟨line, msgs, he⟩ := h
  exact ⟨line, msgs, hx.trans he⟩

theorem ModesKept.ite {c : Prop} [Decidable c] (h : ModesKept d e) (hy : ModesKept d y) : ModesKept d (if c then e else y) := by
  split <;> assumption

theorem ModesKept.msix (h : ModesKept d e) : ModesKept d (e.msix n) := by
  obtain ⟨line, msgs, he⟩ := h
  unfold Device.msix
  split
  · exact ⟨_, _, by rw [he]⟩
  · exact ⟨line, msgs, he⟩

theorem ModesKept.mgmt (h : ModesKept d e) : ModesKept d e.mgmt := by
  have hline {b : Bool} : ModesKept d { e with sys := { e.sys with mgmtLine := b } } := by
    obtain ⟨line, msgs, he⟩ := h
    exact ⟨b, msgs, by rw [he]⟩
  exact .ite hline.msix hline

theorem ModesKept.setReg (h : ModesKept d e) : ModesKept d (e.setReg a w) := h.congr rfl
theorem ModesKept.setBit (h : ModesKept d e) : ModesKept d (e.setBit a k) := h.setReg
theorem ModesKept.raiseInt (h : ModesKept d e) : ModesKept d (e.raiseInt k) := (h.setBit (a := thmA 0x44)).mgmt
theorem ModesKept.report (h : ModesKept d e) : ModesKept d e.report := .ite h (h.setReg (a := thmA 0x40)).raiseInt
theorem ModesKept.updated (h : ModesKept d e) : ModesKept d (y.updated e) :=
  .ite h (.ite (h.setReg (a := thmA 0x40)).raiseInt h.report)

/-- What holds the device in Safe hold is read from the domains' states, the halves up and its integrity. -/
theorem safeCause_of_modesKept (h : ModesKept d e) (hreg : ∀ n, n < 64 → e.reg (domStatA n) = d.reg (domStatA n)) :
    e.safeCause = d.safeCause := by
  obtain ⟨line, msgs, he⟩ := h
  have hup (k : Half) : e.up k = d.up k := by cases k <;> simp only [Device.up, he]
  have hclock : e.clockCause = d.clockCause := by
    rw [Bool.eq_iff_iff, Device.clockCause, Device.clockCause, List.any_eq_true, List.any_eq_true]
    refine exists_congr fun n => and_congr_right fun hn' => ?_
    rw [Device.forced, Device.forced, Device.bit_congr (hreg n (List.mem_range.mp hn')), hup]
  rw [Device.safeCause, Device.safeCause, hclock, he]

theorem stateReg_domStatA : stateReg (domStatA n) = false := by
  simp only [stateReg, domStatA, pwrA, thmA]
  simp
  omega

theorem modeCode_of_modesKept (h : ModesKept d e) (hreg : ∀ n, n < 64 → e.reg (domStatA n) = d.reg (domStatA n)) (hsafe : d.safeCause = 0)
    (hrun : d.sys.mode = .running) : e.modeCode = if e.mendCount ≠ 0 then 3 else 2 := by
  have hmode : e.sys.mode = .running := by
    obtain ⟨line, msgs, he⟩ := h
    rw [he]
    exact hrun
  have hcause : ¬ e.safeCause ≠ 0 := not_not.mpr ((safeCause_of_modesKept h hreg).trans hsafe)
  rw [Device.modeCode, if_neg hcause, hmode]

/-! ### Writing what a field already holds -/

theorem withField_fieldOf {lo : Nat} (h : lo + n ≤ 32) : withField w lo n (fieldOf w lo n) = w := by
  apply BitVec.eq_of_toNat_eq
  rw [withField_toNat _ _ _ _ h, fieldOf, bitsAt_eq, putBits, Nat.mod_mod, Nat.pow_add, ← Nat.div_div_eq_div_mul]
  have hhigh := Nat.mod_add_div' (w.toNat / 2 ^ lo) (2 ^ n)
  have hlow := Nat.mod_add_div' w.toNat (2 ^ lo)
  calc w.toNat % 2 ^ lo + w.toNat / 2 ^ lo % 2 ^ n * 2 ^ lo + w.toNat / 2 ^ lo / 2 ^ n * (2 ^ lo * 2 ^ n)
      = w.toNat % 2 ^ lo + (w.toNat / 2 ^ lo % 2 ^ n + w.toNat / 2 ^ lo / 2 ^ n * 2 ^ n) * 2 ^ lo := by ring
    _ = w.toNat := by rw [hhigh, hlow]

theorem Device.setFld_fld {lo : Nat} (hw : tabWf regDefault d.regs = true) (h : lo + n ≤ 32) : d.setFld a lo n (d.fld a lo n) = d := by
  rw [Device.setFld, Device.fld, withField_fieldOf h, Device.setReg_reg hw]

end
end Sys2Proof.Machine
end

section
/-!
Mends and the walking spare (19_mending_faults R480 to R488, R498, R499).
-/
namespace Sys2Proof.Machine

section
variable {d e : Device} {s : State} {f k : Nat} {m : MendReq}

theorem stateReg_fldA {o : Nat} : stateReg (fldA f o) = false := by
  simp only [stateReg, fldA, thmA]
  simp
  omega

theorem fldA_ne_domStatA {o n : Nat} (hn' : n < 64) : domStatA n ≠ fldA f o := by
  simp only [domStatA, pwrA, fldA]
  omega

theorem fldA_ne_bobA {o : Nat} : bobA 0 ≠ fldA f o := by
  simp only [bobA, fldA]
  omega

/-! ### Requests (R481 to R483) -/

/-- The device with a mend of field `f` waiting. -/
def mendPending (f : Nat) (m : MendReq) (d : Device) : Device :=
  { d with mend := { d.mend with pend := tabSet noMend d.mend.pend f (some m) } }

theorem mendRequest_of_free {waits : Bool} (hc : mendCheck d f m waits = 0) (hf : d.frozen f = false)
    (hp : tabGet noMend d.mend.pend f = none) (hm : d.modeCode ≠ 5) : mendRequest f m waits d = (0, mendPending f m d) := by
  have hmode : (mendPending f m d).modeCode ≠ 5 := hm
  have harrive : mendArrival f (mendPending f m d) = mendPending f m d := if_neg hmode
  unfold mendRequest
  simp only [hc, hf, hp]
  exact congrArg (0, ·) harrive

theorem mendRequest_of_refused {waits : Bool} {r : Nat} (hc : mendCheck d f m waits = r) (hr : r ≠ 0) :
    mendRequest f m waits d = (r, mendRefuse f m r d) := by
  subst hc
  exact if_pos hr

/-- Safe hold refuses a request of Thimble's. -/
theorem modeCode_of_mendCheck (hc : mendCheck d f m false = 0) : d.modeCode ≠ 5 := by
  intro h5
  simp [mendCheck, h5] at hc

theorem mendCommand_refused {mc : MClass} {target : Nat} (hmc : mc.val ≠ 3) : mendCommand f mc k target d = d.answer 8 [] := if_neg hmc

theorem mendCommand_accepted {target : Nat} (hf : d.frozen f = false) (hp : tabGet noMend d.mend.pend f = none)
    (hc : mendCheck (d.setFld (fldA f 0x10) 0 9 target) f ⟨k, target, false⟩ false = 0) :
    mendCommand f 3 k target d = (mendPending f ⟨k, target, false⟩ (d.setFld (fldA f 0x10) 0 9 target)).answer 0 [] := by
  rw [mendCommand, byThimble_three, mendRequest_of_free hc hf hp (modeCode_of_mendCheck hc)]

theorem mendCommand_checked {target r : Nat} (hc : mendCheck (d.setFld (fldA f 0x10) 0 9 target) f ⟨k, target, false⟩ false = r) (hr : r ≠ 0) :
    mendCommand f 3 k target d = (mendRefuse f ⟨k, target, false⟩ r (d.setFld (fldA f 0x10) 0 9 target)).answer 0 [] := by
  rw [mendCommand, byThimble_three, mendRequest_of_refused hc hr]

theorem gives_mendColumn {f : Fin 32} {mc : MClass} {target : BitVec 9} :
    gives (.mendColumn f mc target) s (mendCommand f.val mc 1 target.toNat s.dev) := rfl
theorem gives_mendBram {f : Fin 32} {mc : MClass} {target : BitVec 9} :
    gives (.mendBram f mc target) s (mendCommand f.val mc 2 target.toNat s.dev) := rfl
theorem gives_mendClover {f : Fin 32} {mc : MClass} {target : BitVec 9} :
    gives (.mendClover f mc target) s (mendCommand f.val mc 3 target.toNat s.dev) := rfl
theorem gives_autoMendTrigger {f : Fin 32} {c : Bool} {target : BitVec 9} :
    gives (.autoMendTrigger f c target) s (autoMend f.val c target.toNat s.dev) := rfl

theorem autoMend_of_seen {target : Nat} (hen : d.bit (fldA f 0x14) 30 = true) (hseen : faultSeen d 0x11 (384 * f + target) = true)
    (hc : mendCheck d f ⟨2, target, false⟩ true = 0) (hf : d.frozen f = false) (hp : tabGet noMend d.mend.pend f = none)
    (hm : d.modeCode ≠ 5) : autoMend f false target d = mendPending f ⟨2, target, false⟩ d := by
  simp [autoMend, hen, hseen, mendRequest_of_free hc hf hp hm]

theorem autoMend_of_unseen {c : Bool} {target : Nat} (h : d.bit (fldA f 0x14) 30 = false ∨
    faultSeen d (if c then 0x18 else 0x11) ((if c then 48 else 384) * f + target) = false) : autoMend f c target d = d := by
  have hseen : (if c then faultSeen d 0x18 (48 * f + target) else faultSeen d 0x11 (384 * f + target)) =
      faultSeen d (if c then 0x18 else 0x11) ((if c then 48 else 384) * f + target) := by cases c <;> rfl
  have hno : (d.bit (fldA f 0x14) 30 && faultSeen d (if c then 0x18 else 0x11) ((if c then 48 else 384) * f + target)) = false := by
    rcases h with h | h <;> simp only [h, Bool.false_and, Bool.and_false]
  simp only [autoMend, hseen, hno]
  rfl

/-! ### The walking spare (R487, R488) -/

theorem gives_walkStep {f : Fin 32} : gives (.walkStep f) s (walkStep f.val s.dev) := rfl

theorem walkStep_of_off (h : d.bit (fldA f 0x14) 31 = false) : walkStep f d = d := by simp [walkStep, h]

/-- A strip whose spare is usable is its own next strip. -/
theorem nextStrip_of_usable {strip : Nat} (h10 : strip < 10) (h : noSpare d f strip = false) : nextStrip d f strip = some strip := by
  have hfirst : (upto 10).map (fun i => (strip + i) % 10) = strip :: ((upto 10).tail.map fun i => (strip + i) % 10) := by
    show (strip + 0) % 10 :: _ = _
    rw [Nat.add_zero, Nat.mod_eq_of_lt h10]
    rfl
  rw [nextStrip, hfirst, List.find?_cons_of_pos (by simp [h])]

/-- The device with the walk of field `f` going west. -/
def walkWest (f : Nat) (d : Device) : Device := { d with mend := { d.mend with east := tabSet boolFalse d.mend.east f false } }

/-- A step westward asks for the column west of the bypass. -/
theorem walkStep_west {p : Nat} (hw : tabWf regDefault d.regs = true) (hen : d.bit (fldA f 0x14) 31 = true) (hf : d.frozen f = false)
    (hl : d.underLoad f = false) (hmode : d.modeCode = 2) (ht : tabGet (fun _ => (none : Option Nat)) d.mend.test f = none)
    (h10 : walkStrip d f < 10) (hspare : noSpare d f (walkStrip d f) = false) (heast : tabGet boolFalse d.mend.east f = false)
    (hbyp : bypass d f (walkStrip d f) = p + 1) (hp : tabGet noMend d.mend.pend f = none)
    (hc : mendCheck d f ⟨1, 18 * walkStrip d f + p, true⟩ true = 0) :
    walkStep f d = mendPending f ⟨1, 18 * walkStrip d f + p, true⟩ (walkWest f d) := by
  have hsame : d.setFld (mendStat f) 16 4 (walkStrip d f) = d := Device.setFld_fld hw (by decide)
  have hreq : mendRequest f ⟨1, 18 * walkStrip d f + p, true⟩ true (walkWest f d) =
      (0, mendPending f ⟨1, 18 * walkStrip d f + p, true⟩ (walkWest f d)) :=
    mendRequest_of_free (d := walkWest f d) hc hf hp (by rw [show (walkWest f d).modeCode = d.modeCode from rfl, hmode]; decide)
  unfold walkStep
  simp only [hen, hf, hl, hmode, ht, heast, hbyp, nextStrip_of_usable h10 hspare, hsame, Bool.false_and, Bool.false_eq_true, if_false, ite_self]
  exact congrArg Prod.snd hreq

theorem gives_walkTestDone {f : Fin 32} {pass : Bool} : gives (.walkTestDone f pass) s (walkTestDone f.val pass s.dev) := rfl

/-- The device once the walk's test of field `f` has ended. -/
def testEnded (f : Nat) (d : Device) : Device :=
  let d := { d with mend := { d.mend with test := tabSet (fun _ => none) d.mend.test f none } }
  if d.fld (mendStat f) 29 3 = 5 then d.setFld (mendStat f) 29 3 0 else d

theorem testEnded_eq (hw : tabWf regDefault d.regs = true) :
    ∃ regs, testEnded f d = { d with regs := regs, mend := { d.mend with test := tabSet (fun _ => none) d.mend.test f none } } ∧
      tabWf regDefault regs = true ∧ ∀ a, a ≠ mendStat f → (testEnded f d).reg a = d.reg a := by
  unfold testEnded
  simp only
  split
  · have hset := ((RegsAre.of_wf hw).congr (x := { d with mend := { d.mend with test := tabSet (fun _ => none) d.mend.test f none } })
      rfl).setFld (a := mendStat f) (lo := 29) (n := 3) (v := 0)
    exact ⟨_, rfl, hset.wf, fun a ha => (hset.reg a).trans (fldSet_ne ha)⟩
  · exact ⟨_, rfl, hw, fun _ _ => rfl⟩

theorem walkTestDone_passed {c : Nat} (ht : tabGet (fun _ => (none : Option Nat)) d.mend.test f = some c) :
    walkTestDone f true d = testEnded f d := by
  unfold walkTestDone
  rw [ht]
  rfl

theorem walkTestDone_failed {c : Nat} (ht : tabGet (fun _ => (none : Option Nat)) d.mend.test f = some c) :
    walkTestDone f false d = (walkWest f (((testEnded f d).setBit (fldA f 0x28) (c / 18)).fault (halfOfField f) 0x04 (f * 65536 + c)
      (c / 18))).setFld (mendStat f) 16 4 ((c / 18 + 1) % 10) := by
  unfold walkTestDone
  rw [ht]
  rfl

/-- A freed column that fails uses up the strip's spare and is reported; the walk goes on with the next strip. -/
theorem walkTestDone_failed_shows {c : Nat} (hw : tabWf regDefault d.regs = true) (hbob : d.fld (bobA 0) 0 16 = 0)
    (hroom : (d.fifo (halfOfField f)).length < 1024) (ht : tabGet (fun _ => (none : Option Nat)) d.mend.test f = some c) (hc : c < 180) :
    noSpare (walkTestDone f false d) f (c / 18) = true ∧ walkStrip (walkTestDone f false d) f = (c / 18 + 1) % 10 ∧
      (walkTestDone f false d).fifo (halfOfField f) =
        d.fifo (halfOfField f) ++ [⟨0x04, f * 65536 + c, c / 18, d.now (halfOfField f)⟩] := by
  obtain ⟨regs, heq, hwe, hreg⟩ := testEnded_eq (f := f) hw
  have hr := (RegsAre.of_wf (d := testEnded f d) (by rw [heq]; exact hwe)).setBit (a := fldA f 0x28) (k := c / 18)
  have hlog : ((testEnded f d).setBit (fldA f 0x28) (c / 18)).log = d.log := by rw [Device.setBit_log, heq]
  have htime : ((testEnded f d).setBit (fldA f 0x28) (c / 18)).time = d.time := by rw [Device.setBit_time, heq]
  have hfifo : ((testEnded f d).setBit (fldA f 0x28) (c / 18)).fifo (halfOfField f) = d.fifo (halfOfField f) := Device.fifo_congr hlog
  have hnow : ((testEnded f d).setBit (fldA f 0x28) (c / 18)).now (halfOfField f) = d.now (halfOfField f) := Device.now_congr htime
  have hbob' : ((testEnded f d).setBit (fldA f 0x28) (c / 18)).fld (bobA 0) 0 16 = 0 := by
    rw [hr.fld, fldSet_ne fldA_ne_bobA, hreg _ fldA_ne_bobA]
    exact hbob
  rw [walkTestDone_failed ht, fault_with_room hbob' (by rw [hfifo]; exact hroom), hfifo, hnow]
  generalize hx : ((testEnded f d).setBit (fldA f 0x28) (c / 18)).setFifo (halfOfField f)
    (d.fifo (halfOfField f) ++ [⟨0x04, f * 65536 + c, c / 18, d.now (halfOfField f)⟩]) = x
  have hxr : RegsAre x (fldSet (testEnded f d).reg (fldA f 0x28) (c / 18) 1 1) := hr.congr (by rw [← hx, Device.setFifo_regs])
  have hyr := (hxr.congr (x := walkWest f x) rfl).setFld (a := mendStat f) (lo := 16) (n := 4) (v := (c / 18 + 1) % 10)
  refine ⟨?_, ?_, ?_⟩
  · rw [noSpare, hyr.bit, fldSet_ne (by simp [mendStat, fldA]), fldSet_self, fieldOf_withField_same _ _ _ _ (by omega)]
    rfl
  · rw [walkStrip, hyr.fld, fldSet_self, fieldOf_withField_same _ _ _ _ (by decide)]
    omega
  · have hkept : ((walkWest f x).setFld (mendStat f) 16 4 ((c / 18 + 1) % 10)).fifo (halfOfField f) = x.fifo (halfOfField f) := by
      cases halfOfField f <;> rfl
    rw [hkept, ← hx, Device.fifo_setFifo]

/-! ### The freeze (R484) -/

theorem gives_mendStart {f : Fin 32} : gives (.mendStart f) s (s.dev.updated (mendStart f.val s.dev)) := liftReport_gives s _

theorem mendStart_of_none (hp : tabGet noMend d.mend.pend f = none) : mendStart f d = d := by simp [mendStart, hp]

/-- The request that waited is the one under way. -/
def mendFrozen (f : Nat) (m : MendReq) (d : Device) : Device :=
  { d with mend := { d.mend with now := tabSet noMend d.mend.now f (some m), pend := tabSet noMend d.mend.pend f none } }

theorem stopping_mendFrozen : ∃ x, d.stopping f (mendFrozen f m) = { mendFrozen f m d with fab := x } := by
  unfold Device.stopping
  simp only
  split
  · split <;> exact ⟨_, rfl⟩
  · exact ⟨_, rfl⟩

/-- A walking test in the strip of a column mend is cancelled. -/
def walkCancel (f : Nat) (m : MendReq) (d : Device) : Bool :=
  match tabGet mendStart.noNatTab d.mend.test f with
  | some c => m.kind == 1 && c / 18 == m.target / 18
  | none => false

def walkCancelled (f : Nat) (m : MendReq) (d : Device) : Device :=
  if walkCancel f m d then { d with mend := { d.mend with test := tabSet mendStart.noNatTab d.mend.test f none } } else d

/-- What a start leaves once the field has stopped. -/
def mendShown (f : Nat) (m : MendReq) (d : Device) : Device :=
  let d := (d.setFld (mendStat f) 29 3 1).setFld (mendStat f) 21 2 m.kind
  { d with load := { d.load with darnPos := tabSet natZero d.load.darnPos f 0 } }

/-- The start of a mend freezes the field, and leaves the registers but its status. -/
theorem mendStart_of_ready (hp : tabGet noMend d.mend.pend f = some m) (hf : d.frozen f = false) (hmode : d.modeCode = 2)
    (hl : d.underLoad f = false) (hon : d.domOn f = true) (hturn : mendTurn d f = true) (hrep : d.replayed f = false)
    (hc : mendCheck d f m true = 0) :
    ∃ e : Device, e.regs = d.regs ∧ e.sys = d.sys ∧ e.mend.now = tabSet noMend d.mend.now f (some m) ∧
      e.mend.pend = tabSet noMend d.mend.pend f none ∧ mendStart f d = mendShown f m e := by
  have hrep' : (mendTaken f d).replayed f = false := hrep
  have hgo : (d.frozen f || !(d.modeCode == 2 || d.modeCode == 3) || d.underLoad f || !d.domOn f || !mendTurn d f) = false := by
    simp [hf, hmode, hl, hon, hturn]
  have hrun : mendStart f d = mendShown f m ((walkCancelled f m (mendTaken f d)).stopping f (mendFrozen f m)) := by
    unfold mendStart
    simp only [hp, hgo, hc, hrep', Bool.false_eq_true, if_false, ne_eq, not_true_eq_false]
    rfl
  generalize hy : walkCancelled f m (mendTaken f d) = y at hrun
  have hyk : y.regs = d.regs ∧ y.sys = d.sys ∧ y.mend.now = d.mend.now ∧ y.mend.pend = d.mend.pend := by
    rw [← hy, walkCancelled]
    split <;> exact ⟨rfl, rfl, rfl, rfl⟩
  obtain ⟨hregs, hsys, hnow, hpend⟩ := hyk
  obtain ⟨x, hx⟩ := stopping_mendFrozen (d := y) (f := f) (m := m)
  rw [hx] at hrun
  refine ⟨{ mendFrozen f m y with fab := x }, hregs, hsys, ?_, ?_, hrun⟩
  · rw [← hnow]
    rfl
  · rw [← hpend]
    rfl

/-- The only mend under way makes the device's mode Mending. -/
theorem mendStart_shows (hw : tabWf regDefault d.regs = true) (hwp : tabWf noMend d.mend.pend = true)
    (hp : tabGet noMend d.mend.pend f = some m) (hnow : d.mend.now = []) (hmode : d.modeCode = 2)
    (hl : d.underLoad f = false) (hon : d.domOn f = true) (hturn : mendTurn d f = true) (hrep : d.replayed f = false)
    (hc : mendCheck d f m true = 0) {y : Device} :
    let t := y.updated (mendStart f d)
    t.frozen f = true ∧ t.fieldRuns f = false ∧ tabGet noMend t.mend.pend f = none ∧ t.fld (mendStat f) 29 3 = 1 ∧ t.modeCode = 3 := by
  have hf : d.frozen f = false := by simp [Device.frozen, hnow, tabGet, noMend]
  obtain ⟨e, hregs, hsys, henow, hepend, hstart⟩ := mendStart_of_ready hp hf hmode hl hon hturn hrep hc
  have hr : RegsAre (mendStart f d) (fldSet (fldSet d.reg (mendStat f) 29 3 1) (mendStat f) 21 2 m.kind) := by
    rw [hstart]
    exact ((((RegsAre.of_wf hw).congr hregs).setFld).setFld).congr rfl
  have hmend : (mendStart f d).mend.now = [(f, some m)] ∧ tabGet noMend (mendStart f d).mend.pend f = none := by
    rw [hstart]
    refine ⟨?_, ?_⟩
    · rw [show (mendShown f m e).mend.now = e.mend.now from by simp [mendShown], henow, hnow]
      rfl
    · rw [show (mendShown f m e).mend.pend = e.mend.pend from by simp [mendShown], hepend]
      exact tabGet_tabSet_same _ _ _ _ hwp
  have hfrozen : (y.updated (mendStart f d)).frozen f = true := by
    rw [Device.frozen, updated_mend, hmend.1]
    simp [tabGet]
  refine ⟨hfrozen, ?_, ?_, ?_, ?_⟩
  · simp [Device.fieldRuns, Device.fieldHeld, hfrozen]
  · rw [updated_mend, hmend.2]
  · rw [Device.fld, updated_reg (a := mendStat f) _ hr.wf stateReg_fldA, hr.reg, fldSet_self, fldSet_self,
      fieldOf_withField_ne _ _ _ _ _ _ (by decide) (by decide), fieldOf_withField_same _ _ _ _ (by decide), Nat.mod_eq_of_lt (by decide)]
  · have hsysk : ModesKept d (mendStart f d) := by
      rw [hstart]
      exact ModesKept.refl.congr ((by simp [mendShown] : (mendShown f m e).sys = e.sys).trans hsys)
    have hdom (n : Nat) (hn' : n < 64) : (y.updated (mendStart f d)).reg (domStatA n) = d.reg (domStatA n) := by
      have hne : domStatA n ≠ mendStat f := fldA_ne_domStatA hn'
      rw [updated_reg _ hr.wf stateReg_domStatA, hr.reg, fldSet_ne hne, fldSet_ne hne]
    have hsafe : d.safeCause = 0 := by
      by_contra hs
      simp [Device.modeCode, hs] at hmode
    have hrun : d.sys.mode = .running := by
      cases hm : d.sys.mode <;> simp [Device.modeCode, hsafe, hm] at hmode ⊢
    have hcount : (y.updated (mendStart f d)).mendCount = 1 := by rw [Device.mendCount, updated_mend, hmend.1]; rfl
    rw [modeCode_of_modesKept hsysk.updated hdom hsafe hrun, hcount]
    rfl

/-! ### The switch and the release (R484 to R486) -/

theorem gives_mendComplete {f : Fin 32} {us : Nat} {ok : Bool} :
    gives (.mendComplete f us ok) s (s.dev.updated (mendComplete f.val us ok s.dev)) := liftReport_gives s _

theorem mendComplete_of_none {us : Nat} {ok : Bool} (hn' : tabGet noMend d.mend.now f = none) : mendComplete f us ok d = d := by
  simp [mendComplete, hn']

/-- The copy of a mend: its request ends with a result, and upset bits travel with the frames of a column. -/
def mendCopied (f : Nat) (m : MendReq) (us : Nat) (d : Device) : Device :=
  let d := mendResult f (fun x => x == m.kind * 65536 + m.target) 0 us d
  if m.kind = 1 then
    { d with load := { d.load with
      upset := d.load.upset.map (moveFrames f (18 * (m.target / 18) + bypass d f (m.target / 18)) m.target) } }
  else d

theorem mendCopied_eq {us : Nat} : ∃ cmd load, mendCopied f m us d = { d with cmd := cmd, load := load } := by
  unfold mendCopied
  extract_lets
  split <;> exact ⟨_, _, rfl⟩

/-- The release of the field, with its status. -/
def mendReleased (f : Nat) (m : MendReq) (us : Nat) (d : Device) : Device :=
  let d := mendNext f { d with mend := { d.mend with now := tabSet noMend d.mend.now f none } }
  ((((d.setFld (mendStat f) 29 3 0).setFld (mendStat f) 23 3 0).setFld (mendStat f) 21 2 m.kind).setFld (mendStat f) 0 12 us).bump
    (fldA f 0x1C) 16 16 1

theorem mendComplete_of_quiet {us : Nat} {ok : Bool} (hn' : tabGet noMend d.mend.now f = some m) (hwalk : m.walk = false)
    (hmode : d.modeCode ≠ 5) (hreset : (mendSwitch f m (mendCopied f m us d)).bit (fldA f 0x100) 1 = false) :
    mendComplete f us ok d = ((mendReleased f m us (mendSwitch f m (mendCopied f m us d))).fault (halfOfField f) 0x05 (mendSrc f m)
      (us % 4096 + if ok then 0 else 32768)).settle := by
  have hgo : (decide (d.modeCode = 5) && (d.sys.integrity || d.forced f)) = false := by simp [hmode]
  unfold mendCopied at hreset
  simp only at hreset
  unfold mendComplete
  simp only [hn', hgo, hwalk, hreset, Bool.false_eq_true, if_false]
  rfl

/-- The registers once the new positions stand. -/
def switchedRegs (f : Nat) (m : MendReq) (r : Nat → Word) : Nat → Word :=
  if m.kind = 1 then
    fldSet (fldSet r (bypAt f (m.target / 18)).1 (bypAt f (m.target / 18)).2 5 (m.target % 18)) (fldA f 0x28) (m.target / 18) 1 1
  else
    fldSet r (shiftAt f (hardCol m.kind m.target)).1 (shiftAt f (hardCol m.kind m.target)).2 6 (siteOf m.kind m.target)

section
variable {r : Nat → Word} {us : Nat} (hr : RegsAre e r)
include hr

theorem mendSwitch_regs (hwalk : m.walk = false) : RegsAre (mendSwitch f m e) (switchedRegs f m r) := by
  unfold mendSwitch switchedRegs
  simp only [hwalk]
  split
  · exact hr.setFld.setBit
  · exact hr.setFld

theorem mendReleased_regs : ∃ q, RegsAre (mendReleased f m us e) (fldSet (fldSet (fldSet (fldSet (fldSet (fldSet r (mendStat f) 26 3 q)
    (mendStat f) 29 3 0) (mendStat f) 23 3 0) (mendStat f) 21 2 m.kind) (mendStat f) 0 12 us) (fldA f 0x1C) 16 16
      (wrap 16 (fieldOf (r (fldA f 0x1C)) 16 16 + 1))) := by
  have hq : ∃ q, RegsAre (mendNext f { e with mend := { e.mend with now := tabSet noMend e.mend.now f none } })
      (fldSet r (mendStat f) 26 3 q) := by
    unfold mendNext setQueue
    refine ⟨_, RegsAre.setFld (hr.congr ?_)⟩
    rfl
  obtain ⟨q, hq⟩ := hq
  have hbump : RegsAre (mendReleased f m us e) _ := ((((hq.setFld (a := mendStat f) (lo := 29) (n := 3) (v := 0)).setFld (a := mendStat f) (lo := 23) (n := 3) (v := 0)).setFld
    (a := mendStat f) (lo := 21) (n := 2) (v := m.kind)).setFld (a := mendStat f) (lo := 0) (n := 12) (v := us)).bump
    (a := fldA f 0x1C) (lo := 16) (n := 16) (v := 1)
  have hne : fldA f 0x1C ≠ mendStat f := by simp [fldA, mendStat]
  exact ⟨q, by simpa only [fldSet_ne hne] using hbump⟩

end

/-- What a switch and a release leave of the log and of time, and the mends under way. -/
theorem mendSwitch_parts : (mendSwitch f m e).log = e.log ∧ (mendSwitch f m e).time = e.time ∧ (mendSwitch f m e).mend = e.mend := by
  unfold mendSwitch
  simp only
  split_ifs <;> simp

theorem mendReleased_parts {us : Nat} : (mendReleased f m us e).log = e.log ∧ (mendReleased f m us e).time = e.time ∧
    (mendReleased f m us e).mend.now = tabSet noMend e.mend.now f none := by
  unfold mendReleased mendNext setQueue
  simp

theorem bypAt_eq : (bypAt f k).1 = fldA f 0x20 ∨ (bypAt f k).1 = fldA f 0x24 := by
  unfold bypAt
  split
  · exact .inl rfl
  · exact .inr rfl

theorem shiftAt_eq : (shiftAt f k).1 = fldA f 0x30 ∨ (shiftAt f k).1 = fldA f 0x34 := by
  unfold shiftAt
  split
  · exact .inl rfl
  · exact .inr rfl

theorem fldA_ne {o p : Nat} (h : o ≠ p) : fldA f o ≠ fldA f p := by
  unfold fldA
  omega

/-- A switch writes the position registers only. -/
theorem switchedRegs_ne {r : Nat → Word} {a : Nat} (h20 : a ≠ fldA f 0x20) (h24 : a ≠ fldA f 0x24) (h28 : a ≠ fldA f 0x28)
    (h30 : a ≠ fldA f 0x30) (h34 : a ≠ fldA f 0x34) : switchedRegs f m r a = r a := by
  unfold switchedRegs
  split
  · rw [fldSet_ne h28, fldSet_ne]
    rcases bypAt_eq (f := f) (k := m.target / 18) with hp | hp <;> rw [hp] <;> assumption
  · rw [fldSet_ne]
    rcases shiftAt_eq (f := f) (k := hardCol m.kind m.target) with hp | hp <;> rw [hp] <;> assumption

theorem bypAt_fits (hk : k < 10) : (bypAt f k).2 + 5 ≤ 32 := by
  unfold bypAt
  split <;> simp only <;> omega

theorem hardCol_lt {kind target : Nat} : hardCol kind target < 10 := by
  unfold hardCol
  split
  · have hall : ∀ x ∈ [0, 1, 2, 4, 5, 6, 8, 9], x < 10 := by decide
    unfold nth
    rw [List.getD_eq_getElem?_getD]
    cases hx : ([0, 1, 2, 4, 5, 6, 8, 9] : List Nat)[target / 48]? with
    | none => decide
    | some x => exact hall x (List.mem_of_getElem? hx)
  · split <;> decide

theorem shiftAt_fits (hk : k < 10) : (shiftAt f k).2 + 6 ≤ 32 := by
  unfold shiftAt
  split <;> simp only <;> omega

section
variable {us : Nat} {ok : Bool} (hw : tabWf regDefault d.regs = true) (hwm : tabWf noMend d.mend.now = true)
  (hbob : d.fld (bobA 0) 0 16 = 0) (hroom : (d.fifo (halfOfField f)).length < 1024)
  (hn' : tabGet noMend d.mend.now f = some m) (hwalk : m.walk = false) (hmode : d.modeCode ≠ 5) (hreset : d.bit (fldA f 0x100) 1 = false)
include hw hwm hbob hroom hn' hwalk hmode hreset

/-- The switch of a mend writes the positions, ends its request and reports it. -/
theorem mendComplete_eq : ∃ (e : Device) (q : Nat), RegsAre e (fldSet (fldSet (fldSet (fldSet (fldSet (fldSet (switchedRegs f m d.reg)
      (mendStat f) 26 3 q) (mendStat f) 29 3 0) (mendStat f) 23 3 0) (mendStat f) 21 2 m.kind) (mendStat f) 0 12 us) (fldA f 0x1C) 16 16
      (wrap 16 (fieldOf (d.reg (fldA f 0x1C)) 16 16 + 1))) ∧
    e.frozen f = false ∧
    mendComplete f us ok d = (e.setFifo (halfOfField f) (d.fifo (halfOfField f) ++
      [⟨0x05, mendSrc f m, us % 4096 + (if ok then 0 else 32768), d.now (halfOfField f)⟩])).settle := by
  obtain ⟨cmd, load, hcopy⟩ := mendCopied_eq (d := d) (f := f) (m := m) (us := us)
  have hr := mendSwitch_regs (f := f) (m := m) ((RegsAre.of_wf hw).congr (x := mendCopied f m us d) (by rw [hcopy])) hwalk
  have hsame {a : Nat} (h20 : a ≠ fldA f 0x20) (h24 : a ≠ fldA f 0x24) (h28 : a ≠ fldA f 0x28) (h30 : a ≠ fldA f 0x30)
      (h34 : a ≠ fldA f 0x34) : switchedRegs f m d.reg a = d.reg a := switchedRegs_ne h20 h24 h28 h30 h34
  have hreset' : (mendSwitch f m (mendCopied f m us d)).bit (fldA f 0x100) 1 = false := by
    rw [hr.bit, hsame (fldA_ne (by decide)) (fldA_ne (by decide)) (fldA_ne (by decide)) (fldA_ne (by decide)) (fldA_ne (by decide))]
    exact hreset
  obtain ⟨q, hq⟩ := mendReleased_regs (f := f) (m := m) (us := us) hr
  have hcount : switchedRegs f m d.reg (fldA f 0x1C) = d.reg (fldA f 0x1C) :=
    hsame (fldA_ne (by decide)) (fldA_ne (by decide)) (fldA_ne (by decide)) (fldA_ne (by decide)) (fldA_ne (by decide))
  rw [hcount] at hq
  obtain ⟨hlog, htime, hnow⟩ := mendReleased_parts (f := f) (m := m) (us := us) (e := mendSwitch f m (mendCopied f m us d))
  obtain ⟨hslog, hstime, hmend⟩ := mendSwitch_parts (f := f) (m := m) (e := mendCopied f m us d)
  have hlog' : (mendReleased f m us (mendSwitch f m (mendCopied f m us d))).log = d.log := by rw [hlog, hslog, hcopy]
  have htime' : (mendReleased f m us (mendSwitch f m (mendCopied f m us d))).time = d.time := by rw [htime, hstime, hcopy]
  refine ⟨mendReleased f m us (mendSwitch f m (mendCopied f m us d)), q, hq, ?_, ?_⟩
  · rw [Device.frozen, hnow, hmend, tabGet_tabSet_same _ _ _ _ (by rw [hcopy]; exact hwm)]
    rfl
  · have hfifo : (mendReleased f m us (mendSwitch f m (mendCopied f m us d))).fifo (halfOfField f) = d.fifo (halfOfField f) :=
      Device.fifo_congr hlog'
    have hclock : (mendReleased f m us (mendSwitch f m (mendCopied f m us d))).now (halfOfField f) = d.now (halfOfField f) :=
      Device.now_congr htime'
    have hbob' : (mendReleased f m us (mendSwitch f m (mendCopied f m us d))).fld (bobA 0) 0 16 = 0 := by
      have hstat : bobA 0 ≠ mendStat f := fldA_ne_bobA
      rw [hq.fld, fldSet_ne fldA_ne_bobA, fldSet_ne hstat, fldSet_ne hstat, fldSet_ne hstat, fldSet_ne hstat, fldSet_ne hstat,
        hsame fldA_ne_bobA fldA_ne_bobA fldA_ne_bobA fldA_ne_bobA fldA_ne_bobA]
      exact hbob
    rw [mendComplete_of_quiet hn' hwalk hmode hreset', fault_with_room hbob' (by rw [hfifo]; exact hroom), hfifo, hclock]

/-- A completed mend has released its field, and its registers show the positions, the stop and the count. -/
theorem mendComplete_shows (hus : us < 4096) {y : Device} :
    let t := y.updated (mendComplete f us ok d)
    t.frozen f = false ∧ t.fld (mendStat f) 29 3 = 0 ∧ t.fld (mendStat f) 0 12 = us ∧
      t.fld (fldA f 0x1C) 16 16 = (d.fld (fldA f 0x1C) 16 16 + 1) % 65536 ∧
      (m.kind = 1 → m.target < 180 → m.target % 18 ≠ 17 →
        bypass t f (m.target / 18) = m.target % 18 ∧ noSpare t f (m.target / 18) = true) ∧
      (m.kind = 2 → m.target < 384 → rowShift t f (hardCol 2 m.target) = m.target % 48) ∧
      (m.kind = 3 → m.target < 48 → rowShift t f (hardCol 3 m.target) = m.target % 24) ∧
      t.fifo (halfOfField f) = d.fifo (halfOfField f) ++
        [⟨0x05, mendSrc f m, us + (if ok then 0 else 32768), d.now (halfOfField f)⟩] := by
  obtain ⟨e, q, hq, hfrozen, heq⟩ := mendComplete_eq (us := us) (ok := ok) hw hwm hbob hroom hn' hwalk hmode hreset
  rw [Nat.mod_eq_of_lt hus] at heq
  have hregs : (mendComplete f us ok d).regs = e.regs := by rw [heq, settle_regs, Device.setFifo_regs]
  have hr := hq.congr hregs
  have hreg {o : Nat} : (y.updated (mendComplete f us ok d)).reg (fldA f o) = _ := (updated_reg _ hr.wf stateReg_fldA).trans (hr.reg _)
  have hpos {o : Nat} (ho : o ≠ 0x18) (ho' : o ≠ 0x1C) : (y.updated (mendComplete f us ok d)).reg (fldA f o) = switchedRegs f m d.reg (fldA f o) := by
    have hstat : fldA f o ≠ mendStat f := fldA_ne ho
    rw [hreg, fldSet_ne (fldA_ne ho'), fldSet_ne hstat, fldSet_ne hstat, fldSet_ne hstat, fldSet_ne hstat, fldSet_ne hstat]
  have hstat : (y.updated (mendComplete f us ok d)).reg (mendStat f) = _ :=
    (updated_reg (a := mendStat f) _ hr.wf stateReg_fldA).trans (hr.reg (mendStat f))
  have hne : mendStat f ≠ fldA f 0x1C := fldA_ne (by decide)
  have hmend : (mendComplete f us ok d).mend = e.mend := by rw [heq, settle_eq, Device.setFifo_mend]
  have hshift (hk : m.kind ≠ 1) : rowShift (y.updated (mendComplete f us ok d)) f (hardCol m.kind m.target) = siteOf m.kind m.target % 2 ^ 6 := by
    have hb : (y.updated (mendComplete f us ok d)).reg (shiftAt f (hardCol m.kind m.target)).1 =
        switchedRegs f m d.reg (shiftAt f (hardCol m.kind m.target)).1 := by
      rcases shiftAt_eq (f := f) (k := hardCol m.kind m.target) with hp | hp <;> rw [hp, hpos (by decide) (by decide)]
    rw [rowShift, Device.fld, hb, switchedRegs, if_neg hk, fldSet_self, fieldOf_withField_same _ _ _ _ (shiftAt_fits hardCol_lt)]
  refine ⟨?_, ?_, ?_, ?_, ?_, ?_, ?_, ?_⟩
  · rw [Device.frozen, updated_mend, hmend]
    exact hfrozen
  · rw [Device.fld, hstat]
    simp [fldSet_ne hne, fieldOf_withField_same, fieldOf_withField_ne]
  · rw [Device.fld, hstat]
    simp only [fldSet_ne hne, fldSet_self]
    rw [fieldOf_withField_same _ _ _ _ (by decide)]
    exact Nat.mod_eq_of_lt hus
  · rw [Device.fld, hreg, fldSet_self, fieldOf_withField_same _ _ _ _ (by decide)]
    simp [wrap, Device.fld]
  · intro hk ht _
    have hs : m.target / 18 < 10 := by omega
    have hsw : switchedRegs f m d.reg = fldSet (fldSet d.reg (bypAt f (m.target / 18)).1 (bypAt f (m.target / 18)).2 5 (m.target % 18))
        (fldA f 0x28) (m.target / 18) 1 1 := if_pos hk
    refine ⟨?_, ?_⟩
    · have hb : (y.updated (mendComplete f us ok d)).reg (bypAt f (m.target / 18)).1 = switchedRegs f m d.reg (bypAt f (m.target / 18)).1 := by
        rcases bypAt_eq (f := f) (k := m.target / 18) with hp | hp <;> rw [hp, hpos (by decide) (by decide)]
      have hb28 : (bypAt f (m.target / 18)).1 ≠ fldA f 0x28 := by
        rcases bypAt_eq (f := f) (k := m.target / 18) with hp | hp <;> rw [hp] <;> exact fldA_ne (by decide)
      rw [bypass, Device.fld, hb, hsw, fldSet_ne hb28, fldSet_self, fieldOf_withField_same _ _ _ _ (bypAt_fits hs)]
      omega
    · rw [noSpare, Device.bit_eq_fieldOf, hpos (by decide) (by decide), hsw, fldSet_self, fieldOf_withField_same _ _ _ _ (by omega)]
      rfl
  · intro hk _
    have h1 : m.kind ≠ 1 := by omega
    have hrow := hshift h1
    rw [hk] at hrow
    rw [hrow, siteOf, if_pos rfl]
    omega
  · intro hk _
    have h1 : m.kind ≠ 1 := by omega
    have hrow := hshift h1
    rw [hk] at hrow
    rw [hrow, siteOf, if_neg (by decide)]
    omega
  · have hlog : (y.updated (mendComplete f us ok d)).log = (e.setFifo (halfOfField f) (d.fifo (halfOfField f) ++
        [⟨0x05, mendSrc f m, us + (if ok then 0 else 32768), d.now (halfOfField f)⟩])).log := by
      rw [updated_log, heq, settle_eq]
    exact (Device.fifo_congr hlog).trans (Device.fifo_setFifo _ _)

end

/-- Settles O53: the registers of a completed mend are read off its writes in order, and a mend under way alone makes the mode Mending. The
trigger of darning asks for a report that Thimble has seen, as log 112 has it. -/
theorem mendCompletes : Obligations.MendCompletes := by
  unfold Obligations.MendCompletes
  intro s f hw hwp hwn _ hbob hroom
  refine ⟨?_, fun c target h => gives_of_eq gives_autoMendTrigger (autoMend_of_unseen h), ?_,
    fun h => gives_of_eq gives_walkStep (walkStep_of_off h), ?_, ?_, fun hp => gives_of_eq gives_mendStart (congrArg _ (mendStart_of_none hp)),
    ?_, fun us ok hn' => gives_of_eq gives_mendComplete (congrArg _ (mendComplete_of_none hn'))⟩
  · rintro target d rfl
    refine ⟨fun mc hmc => ⟨gives_of_eq gives_mendColumn (mendCommand_refused hmc), gives_of_eq gives_mendBram (mendCommand_refused hmc),
      gives_of_eq gives_mendClover (mendCommand_refused hmc)⟩, ?_,
      fun r hr hc => gives_of_eq gives_mendColumn (mendCommand_checked hc hr)⟩
    rintro hf hp k e rfl
    refine ⟨?_, ?_, ?_, ?_⟩
    · rintro rfl hc
      exact gives_of_eq gives_mendColumn (mendCommand_accepted hf hp hc)
    · rintro rfl hc
      exact gives_of_eq gives_mendBram (mendCommand_accepted hf hp hc)
    · rintro rfl hc
      exact gives_of_eq gives_mendClover (mendCommand_accepted hf hp hc)
    · rintro rfl hen hseen hm hc
      exact gives_of_eq gives_autoMendTrigger (autoMend_of_seen hen hseen hc hf hp hm)
  · intro p hen hf hl hmode ht h10 hspare heast hbyp hp hc
    exact ⟨_, gives_of_eq gives_walkStep (walkStep_west hw hen hf hl hmode ht h10 hspare heast hbyp hp hc), tabGet_tabSet_same _ _ _ _ hwp, rfl⟩
  · intro c ht hwt hc
    obtain ⟨regs, heq, -, -⟩ := testEnded_eq (f := f.val) hw
    refine ⟨⟨_, gives_of_eq gives_walkTestDone (walkTestDone_passed ht), ?_, ?_⟩,
      ⟨_, gives_walkTestDone, walkTestDone_failed_shows hw hbob hroom ht hc⟩⟩
    · rw [heq]
      exact tabGet_tabSet_same _ _ _ _ hwt
    · rw [heq]
  · intro m hp hnow hmode hl hon hturn hrep hc
    exact ⟨_, gives_mendStart, mendStart_shows hw hwp hp hnow hmode hl hon hturn hrep hc⟩
  · intro m us ok hn' hwalk hmode hus hreset _
    exact ⟨_, gives_mendComplete, mendComplete_shows hw hwn hbob hroom hn' hwalk hmode hreset hus⟩

end
end Sys2Proof.Machine
end

section
/-!
General-purpose pins (17_pins R436 to R448).
-/
namespace Sys2Proof.Machine

section
variable {d e : Device} {s : State} {b i k : Nat} {x y : Pin} {level : Bool} {samples ticks : Nat}

/-! ### The pins and their registers -/

theorem Device.setPin_setPin (hp : tabWf pinReset d.pins = true) : (d.setPin b i x).setPin b i y = d.setPin b i y := by
  unfold Device.setPin
  rw [tabSet_tabSet hp]

theorem Device.setPin_pin (hp : tabWf pinReset d.pins = true) : d.setPin b i (d.pin b i) = d := by
  unfold Device.setPin Device.pin
  rw [tabSet_tabGet hp]

theorem gpioA_ne {o o' : Nat} (ho : o ≠ o') : gpioA b o ≠ gpioA b o' := by
  unfold gpioA
  omega

theorem stateReg_gpioA {o : Nat} : stateReg (gpioA b o) = false := by
  simp only [stateReg, gpioA, thmA]
  simp
  omega

theorem pinWord_ne_pinCfgA (hi : i < 48) : pinCfgA b i ≠ pinWord b 0x428 k := by
  unfold pinCfgA pinWord gpioA
  omega

/-! ### Inputs (R436, R443 to R445) -/

theorem gives_pinInputChange {b : Fin 8} {i : Fin 48} :
    gives (.pinInputChange b i level samples ticks) s (s.dev.moved (pinInput b.val i.val level samples ticks s.dev).settle) := liftMode_gives s _

section
variable (ht : d.fld (pinCfgA b i) 17 2 ≠ 2) (hf : d.feeds (pinField b i) = false)
include ht hf

/-- The pad of a pin that does not track takes its level, and the filters decide. -/
theorem pinInput_eq : pinInput b i level samples ticks d =
    if samples ≥ d.fld (pinFiltA b i) 0 4 ∧ ticks ≥ d.fld (pinFiltA b i) 16 16 then
      pinFiltered b i (level && vioOk d b) (d.setPin b i { d.pin b i with pad := level && vioOk d b })
    else d.setPin b i { d.pin b i with pad := level && vioOk d b } := by
  have htrack : (d.fld (pinCfgA b i) 17 2 == 2) = false := beq_eq_false_iff_ne.mpr ht
  have hfeeds {p : Pin} : (d.setPin b i p).feeds (pinField b i) = false := hf
  have hfld {p : Pin} {a lo n : Nat} : (d.setPin b i p).fld a lo n = d.fld a lo n := rfl
  simp only [pinInput, htrack, Bool.false_and, Bool.or_false, Bool.false_eq_true, if_false, hfeeds, hfld]

theorem pinInput_of_short (hs : samples < d.fld (pinFiltA b i) 0 4) :
    pinInput b i level samples ticks d = d.setPin b i { d.pin b i with pad := level && vioOk d b } := by
  rw [pinInput_eq ht hf, if_neg (by omega)]

theorem pinInput_of_long (hs : d.fld (pinFiltA b i) 0 4 ≤ samples) (hk : d.fld (pinFiltA b i) 16 16 ≤ ticks) :
    pinInput b i level samples ticks d =
      pinFiltered b i (level && vioOk d b) (d.setPin b i { d.pin b i with pad := level && vioOk d b }) := by
  rw [pinInput_eq ht hf, if_pos ⟨hs, hk⟩]

end

theorem pinRecord_of_unselected (hb : ∀ n, n < 16 → d.bit (bobA (0x200 + 4 * n)) 31 = false) : pinRecord b i level d = d := by
  unfold pinRecord
  refine Device.each_of_fixed fun n hn' => ?_
  simp [hb n (List.mem_range.mp hn')]

/-- A filtered input that changes raises its interrupt where the mode takes the change. -/
theorem pinFiltered_of_change (hne : (d.pin b i).filtered ≠ level) (hmux : d.pinMux b i ≠ 13)
    (hb : ∀ n, n < 16 → d.bit (bobA (0x200 + 4 * n)) 31 = false) : pinFiltered b i level d =
      if intTakes (d.fld (pinCfgA b i) 8 3) level then pinInterrupt b i (d.setPin b i { d.pin b i with filtered := level })
      else d.setPin b i { d.pin b i with filtered := level } := by
  have hrec {p : Pin} : pinRecord b i level (d.setPin b i p) = d.setPin b i p := pinRecord_of_unselected hb
  have hmux' {p : Pin} : ((d.setPin b i p).pinMux b i == 13) = false := beq_eq_false_iff_ne.mpr hmux
  have hfld {p : Pin} {a lo n : Nat} : (d.setPin b i p).fld a lo n = d.fld a lo n := rfl
  simp only [pinFiltered, hne, if_false, hrec, hmux', Bool.false_and, Bool.false_eq_true, hfld]

theorem pinFiltered_of_same (h : (d.pin b i).filtered = level) : pinFiltered b i level d = d := if_pos h

theorem gives_pinLevelInterrupt {b : Fin 8} {i : Fin 48} :
    gives (.pinLevelInterrupt b i) s (s.dev.moved (pinLevelInterrupt b.val i.val s.dev)) := liftMode_gives s _

/-! ### Functions (R440, R441, R446, R447) -/

theorem gives_gpioInRead {b : Fin 8} : gives (.gpioInRead b) s (gpioInRead b.val s.dev) := rfl

theorem gives_pinMuxWrite {b : Fin 8} {i : Fin 48} {mc : MClass} {v : BitVec 32} :
    gives (.pinMuxWrite b i mc v) s (s.dev.byThimble mc (pinCfgWrite b.val i.val v)) := rfl

section
variable {v : Word} (hfn : fieldOf (pinNorm v) 24 4 ≠ d.pinMux b i)
include hfn

theorem pinCfgWrite_of_refused (hno : muxOk d (fieldOf (pinNorm v) 24 4) b i = false) :
    pinCfgWrite b i v d = d.setBit (gpioA b 0x430) 0 := by
  simp [pinCfgWrite, hfn, hno]

theorem pinCfgWrite_of_offered (hok : muxOk d (fieldOf (pinNorm v) 24 4) b i = true) (hsw : d.bit (pinCfgA b i) 29 = false) :
    pinCfgWrite b i v d = (pinApply b i (pinNorm v) d).setBit (pinCfgA b i) 29 := by
  simp [pinCfgWrite, hfn, hok, hsw]

end

/-- A configuration that comes into force shows the function it names. -/
theorem pinApply_reg {v : Word} (hw : tabWf regDefault d.regs = true) (hi : i < 48) :
    tabWf regDefault (pinApply b i v d).regs = true ∧
      (pinApply b i v d).reg (pinCfgA b i) = withField v 29 1 (d.fld (pinCfgA b i) 29 1) := by
  have hr := (RegsAre.of_wf hw).setReg (a := pinCfgA b i) (w := withField v 29 1 (d.fld (pinCfgA b i) 29 1))
  unfold pinApply
  extract_lets sw was d1 p0 d2 p
  have hr2 : RegsAre d2 (Function.update d.reg (pinCfgA b i) (withField v 29 1 (d.fld (pinCfgA b i) 29 1))) := hr.congr rfl
  split_ifs
  · exact ⟨hr2.wf, by rw [hr2.reg, Function.update_self]⟩
  · have hr3 := (hr2.congr (x := d2.setPin b i { p with seenHigh := false, seenLow := false }) rfl).putBit (a := pinWord b 0x428 i)
      (k := i % 32) (b := false)
    exact ⟨hr3.wf, by rw [hr3.reg, fldSet_ne (pinWord_ne_pinCfgA hi), Function.update_self]⟩

theorem pinMuxWrite_shows {v : Word} (hw : tabWf regDefault d.regs = true) (hi : i < 48) :
    ((pinApply b i v d).setBit (pinCfgA b i) 29).pinMux b i = fieldOf v 24 4 ∧
      ((pinApply b i v d).setBit (pinCfgA b i) 29).bit (pinCfgA b i) 29 = true := by
  obtain ⟨hwa, hreg⟩ := pinApply_reg (b := b) (v := v) hw hi
  have hr := (RegsAre.of_wf hwa).setBit (a := pinCfgA b i) (k := 29)
  refine ⟨?_, ?_⟩
  · rw [Device.pinMux, hr.fld, fldSet_self, hreg, fieldOf_withField_ne _ _ _ _ _ _ (by decide) (by decide),
      fieldOf_withField_ne _ _ _ _ _ _ (by decide) (by decide)]
  · rw [hr.bit, fldSet_self, fieldOf_withField_same _ _ _ _ (by decide)]
    rfl

theorem gives_pinSwitchDone {b : Fin 8} {i : Fin 48} : gives (.pinSwitchDone b i) s (pinSwitchDone b.val i.val s.dev) := rfl

theorem pinSwitchDone_of_none (h : d.bit (pinCfgA b i) 29 = false) : pinSwitchDone b i d = d := by simp [pinSwitchDone, h]

/-- A switch with nothing held ends with the function's idle value in the filter. -/
theorem pinSwitchDone_of_plain (hw : tabWf regDefault d.regs = true) (h : d.bit (pinCfgA b i) 29 = true) (hs : (d.pin b i).switch_ = none)
    (hh : (d.pin b i).heldWrite = none) : pinSwitchDone b i d =
      ((d.putBit (pinCfgA b i) 29 false).setPin b i { d.pin b i with filtered := muxIdle (d.pinMux b i) }).settle := by
  have hr := (RegsAre.of_wf hw).putBit (a := pinCfgA b i) (k := 29) (b := false)
  have hmux : (d.putBit (pinCfgA b i) 29 false).pinMux b i = d.pinMux b i := by
    rw [Device.pinMux, hr.fld, fldSet_self, fieldOf_withField_ne _ _ _ _ _ _ (by decide) (by decide)]
    rfl
  have hpin : (d.putBit (pinCfgA b i) 29 false).pin b i = d.pin b i := rfl
  unfold pinSwitchDone
  simp only [h, hs, hh, hmux, hpin, Bool.not_true, Bool.false_eq_true, if_false]

theorem gives_trackTimeout {b : Fin 8} {i : Fin 48} {high : Bool} : gives (.trackTimeout b i high) s (trackTimeout b.val i.val high s.dev) := rfl

/-! ### The loss of a bank's supply (R436) -/

theorem gives_vccioLow {b : Fin 8} : gives (.vccioLow b) s (s.dev.moved (vccioLow b.val s.dev)) := liftMode_gives s _

theorem vccioLow_of_low (h : vioOk d b = false) : vccioLow b d = d := by simp [vccioLow, h]

/-- The bank with its supply lost. -/
def bankLow (b : Nat) (d : Device) : Device :=
  Device.putBit { d with sys := { d.sys with vccio := d.sys.vccio &&& ~~~(BitVec.ofNat 8 (2 ^ b)) } } (gpioA b 0x430) 31 false

/-- Pins that are low and do not track stay as they are. -/
theorem pinInput_of_low (hp : tabWf pinReset d.pins = true) (hpad : (d.pin b i).pad = false) (hfil : (d.pin b i).filtered = false)
    (ht : d.fld (pinCfgA b i) 17 2 ≠ 2) : pinInput b i false samples ticks d = d := by
  have hpin : d.setPin b i { d.pin b i with pad := false } = d := by
    rw [← hpad]
    exact Device.setPin_pin hp
  have htrack : (d.fld (pinCfgA b i) 17 2 == 2) = false := beq_eq_false_iff_ne.mpr ht
  simp only [pinInput, htrack, Bool.false_and, Bool.or_false, Bool.false_eq_true, if_false, hpin, pinFiltered_of_same hfil, ite_self]

/-- A bank whose pins are all low loses its supply with a report and nothing else. -/
theorem vccioLow_of_quiet (hw : tabWf regDefault d.regs = true) (hp : tabWf pinReset d.pins = true) (hv : vioOk d b = true)
    (hbob : d.fld (bobA 0) 0 16 = 0) (hroom : (d.fifo (bankHalf b)).length < 1024) (hpins : ∀ k, k < 48 →
      (d.pin b k).pad = false ∧ (d.pin b k).filtered = false ∧ d.fld (pinCfgA b k) 17 2 ≠ 2) :
    vccioLow b d = ((bankLow b d).setFifo (bankHalf b) (d.fifo (bankHalf b) ++ [⟨0x58, b, 0, d.now (bankHalf b)⟩])).settle := by
  have hr : RegsAre (bankLow b d) (fldSet d.reg (gpioA b 0x430) 31 1 (b2n false)) := by
    unfold bankLow
    refine RegsAre.putBit ((RegsAre.of_wf hw).congr ?_)
    rfl
  have hfifo : (bankLow b d).fifo (bankHalf b) = d.fifo (bankHalf b) := Device.fifo_congr (Device.putBit_log ..)
  have hnow : (bankLow b d).now (bankHalf b) = d.now (bankHalf b) := Device.now_congr (Device.putBit_time ..)
  have hbob' : (bankLow b d).fld (bobA 0) 0 16 = 0 := by
    rw [hr.fld, fldSet_ne (by simp only [bobA, gpioA]; omega)]
    exact hbob
  have hfault := fault_with_room (d := bankLow b d) (h := bankHalf b) (cls := 0x58) (src := b) (detail := 0) hbob' (by rw [hfifo]; exact hroom)
  rw [hfifo, hnow] at hfault
  generalize hy : (bankLow b d).setFifo (bankHalf b) (d.fifo (bankHalf b) ++ [⟨0x58, b, 0, d.now (bankHalf b)⟩]) = y at hfault
  have hyr : RegsAre y (fldSet d.reg (gpioA b 0x430) 31 1 (b2n false)) := hr.congr (by rw [← hy, Device.setFifo_regs])
  have hyp : y.pins = d.pins := by rw [← hy, Device.setFifo_pins, bankLow, Device.putBit_pins]
  have hpin (k : Nat) : y.pin b k = d.pin b k := by rw [Device.pin, hyp, ← Device.pin]
  have heach : (y.each (upto 48) fun d i => pinInput b i false 15 65535 d) = y := by
    refine Device.each_of_fixed fun k hk => ?_
    obtain ⟨hpad, hfil, htrack⟩ := hpins k (List.mem_range.mp hk)
    have hcfg : pinCfgA b k ≠ gpioA b 0x430 := by
      have := List.mem_range.mp hk
      unfold pinCfgA gpioA
      omega
    refine pinInput_of_low (by rw [hyp]; exact hp) (by rw [hpin, hpad]) (by rw [hpin, hfil]) ?_
    rw [hyr.fld, fldSet_ne hcfg]
    exact htrack
  simp only [vccioLow, hv, Bool.not_true, Bool.false_eq_true, if_false]
  rw [show (Device.putBit { d with sys := { d.sys with vccio := d.sys.vccio &&& ~~~(BitVec.ofNat 8 (2 ^ b)) } } (gpioA b 0x430) 31 false) =
    bankLow b d from rfl, hfault, heach]

theorem bitsAt_one {n : Nat} {v : BitVec n} {k : Nat} : (bitsAt v.toNat k 1 == 1) = v.getLsbD k := by
  rw [bitsAt, Nat.pow_one, BitVec.getLsbD, Nat.testBit, Nat.one_and_eq_mod_two]
  rcases Nat.mod_two_eq_zero_or_one (v.toNat >>> k) with h | h <;> rw [h] <;> rfl

theorem vioOk_bankLow (hb : b < 8) : vioOk (bankLow b d) b = false := by
  have hbit : (BitVec.ofNat 8 (2 ^ b)).getLsbD b = true := by
    rw [BitVec.getLsbD_ofNat, Nat.testBit_two_pow_self]
    simp [hb]
  have hsys : (bankLow b d).sys.vccio = d.sys.vccio &&& ~~~(BitVec.ofNat 8 (2 ^ b)) := by simp only [bankLow, Device.putBit_sys]
  rw [vioOk, bitsAt_one, hsys, BitVec.getLsbD_and, BitVec.getLsbD_not, hbit]
  simp

theorem vioOk_of_modesKept (h : ModesKept d e) : vioOk e b = vioOk d b := by
  obtain ⟨line, msgs, he⟩ := h
  rw [vioOk, vioOk, he]

/-- Outside Dormant no wake ends. -/
theorem wakeDone_of_running (h : d.sys.mode = .running) : wakeDone d = d := by
  have hcode : (d.modeCode == 4) = false := by
    rw [beq_eq_false_iff_ne, Device.modeCode, h]
    split_ifs <;> simp
  simp [wakeDone, hcode]

/-- The loss of a running device's supply shows in the bank's status, in its level and in one report. -/
theorem vccioLow_shows (hw : tabWf regDefault d.regs = true) (hp : tabWf pinReset d.pins = true) (hb : b < 8) (hv : vioOk d b = true)
    (hsafe : d.safeCause = 0) (hmode : d.sys.mode = .running) (hq : watchedSegs d = [])
    (hbob : d.fld (bobA 0) 0 16 = 0) (hroom : (d.fifo (bankHalf b)).length < 1024) (hpins : ∀ k, k < 48 →
      (d.pin b k).pad = false ∧ (d.pin b k).filtered = false ∧ d.fld (pinCfgA b k) 17 2 ≠ 2) :
    let t := d.moved (vccioLow b d)
    vioOk t b = false ∧ t.bit (gpioA b 0x430) 31 = false ∧
      t.fifo (bankHalf b) = d.fifo (bankHalf b) ++ [⟨0x58, b, 0, d.now (bankHalf b)⟩] := by
  have heq := vccioLow_of_quiet hw hp hv hbob hroom hpins
  have hsys : (vccioLow b d).sys = (bankLow b d).sys := by rw [heq, settle_eq, Device.setFifo_sys]
  have hregs : (vccioLow b d).regs = (bankLow b d).regs := by rw [heq, settle_regs, Device.setFifo_regs]
  have hr : RegsAre (bankLow b d) (fldSet d.reg (gpioA b 0x430) 31 1 (b2n false)) := by
    unfold bankLow
    refine RegsAre.putBit ((RegsAre.of_wf hw).congr ?_)
    rfl
  have hrun : (vccioLow b d).sys.mode = .running := by rw [hsys, bankLow, Device.putBit_sys, hmode]
  have hmoved : d.moved (vccioLow b d) = d.updated (vccioLow b d) := by
    rw [moved_of_safe hq (fun h => absurd hsafe h), wakeDone_of_running hrun]
  rw [hmoved]
  refine ⟨?_, ?_, ?_⟩
  · rw [vioOk_of_modesKept (ModesKept.updated (ModesKept.refl.congr hsys)), vioOk_bankLow hb]
  · have hx := hr.congr hregs
    rw [Device.bit_congr (updated_reg d hx.wf stateReg_gpioA), hx.bit, fldSet_self, fieldOf_withField_same _ _ _ _ (by decide)]
    rfl
  · refine (Device.fifo_congr (e := d.updated (vccioLow b d)) (d := (bankLow b d).setFifo (bankHalf b) (d.fifo (bankHalf b) ++ [⟨0x58, b, 0, d.now (bankHalf b)⟩])) ?_).trans (Device.fifo_setFifo _ _)
    rw [updated_log, heq, settle_eq]

/-- Settles O51: the filters of an input, the functions of a pin and the supply of a bank. The interrupt and the reads rest on the choices of
log 78, the order of a switch on log 106. -/
theorem pinsComplete : Obligations.PinsComplete := by
  unfold Obligations.PinsComplete
  rintro s b i hw hp x rfl
  refine ⟨?_, ?_, ?_, ?_, ?_, ?_, ?_, ?_, fun h => gives_of_eq gives_pinSwitchDone (pinSwitchDone_of_none h), fun high => gives_trackTimeout, ?_,
    fun hv => gives_of_eq gives_vccioLow (congrArg _ (vccioLow_of_low hv))⟩
  · intro level samples ticks hv ht hf
    have hlevel : (level && vioOk s.dev b.val) = level := by rw [hv, Bool.and_true]
    refine ⟨fun hs => gives_of_eq gives_pinInputChange ?_, fun hs hk hne hmux hb => ?_⟩
    · rw [pinInput_of_short ht hf hs, hlevel]
    · have hpin : (s.dev.setPin b.val i.val { s.dev.pin b.val i.val with pad := level }).pin b.val i.val =
          { s.dev.pin b.val i.val with pad := level } := Device.pin_setPin hp
      have hrun := pinFiltered_of_change (d := s.dev.setPin b.val i.val { s.dev.pin b.val i.val with pad := level }) (b := b.val) (i := i.val)
        (level := level) (by rw [hpin]; exact hne) hmux hb
      rw [hpin, Device.setPin_setPin hp] at hrun
      have hinput := pinInput_of_long (level := level) ht hf hs hk
      rw [hlevel, hrun] at hinput
      refine ⟨fun hno => gives_of_eq gives_pinInputChange ?_, fun hyes => gives_of_eq gives_pinInputChange ?_⟩
      · rw [hinput, if_neg (by exact ne_true_of_eq_false hno)]
      · rw [hinput, if_pos (by exact hyes)]
  · intro samples ticks hv ht hf hs
    refine gives_of_eq gives_pinInputChange ?_
    rw [pinInput_of_short ht hf hs, hv, Bool.and_false]
  · exact fun h4 hfil => gives_of_eq gives_pinLevelInterrupt (congrArg _ (if_pos (by simp [h4, hfil])))
  · exact fun h5 hfil => gives_of_eq gives_pinLevelInterrupt (congrArg _ (if_pos (by simp [h5, hfil])))
  · intro h4
    have hne4 : (s.dev.fld (pinCfgA b.val i.val) 8 3 == 4) = false := beq_eq_false_iff_ne.mpr (by omega)
    have hne5 : (s.dev.fld (pinCfgA b.val i.val) 8 3 == 5) = false := beq_eq_false_iff_ne.mpr (by omega)
    exact gives_of_eq gives_pinLevelInterrupt (congrArg _ (if_neg (by simp [hne4, hne5])))
  · have hr := ((RegsAre.of_wf hw).setReg (a := gpioA b.val 0x400) (w := padWord s.dev b.val 0 32)).setReg (a := gpioA b.val 0x404)
      (w := padWord s.dev b.val 32 16)
    exact ⟨_, gives_gpioInRead, rfl, ((hr.congr rfl).reg _).trans (Function.update_self ..), rfl⟩
  · rintro v w rfl
    refine ⟨fun hfn hok hsw => ?_, fun hfn hno => gives_of_eq gives_pinMuxWrite ?_, fun mc hmc => gives_of_eq gives_pinMuxWrite (byThimble_of_other hmc)⟩
    · have hshows := pinMuxWrite_shows (b := b.val) (v := pinNorm v) hw i.isLt
      refine ⟨_, gives_of_eq (e := ((pinApply b.val i.val (pinNorm v) s.dev).setBit (pinCfgA b.val i.val) 29).answer 0 [])
        gives_pinMuxWrite ?_, rfl, hshows.1, hshows.2⟩
      rw [byThimble_three, pinCfgWrite_of_offered hfn hok hsw]
    · rw [byThimble_three, pinCfgWrite_of_refused hfn hno]
  · exact fun h hs hh => gives_of_eq gives_pinSwitchDone (pinSwitchDone_of_plain hw h hs hh)
  · intro hv hsafe hmode hq hbob hroom hpins
    exact ⟨_, gives_vccioLow, vccioLow_shows hw hp b.isLt hv hsafe hmode hq hbob hroom hpins⟩

end
end Sys2Proof.Machine
end

section
/-!
The carriers of the command protocol (21_command_protocol R517 to R520, R525, R527, R529) and register writes (00_scope R590).
-/
namespace Sys2Proof.Machine

section
variable {d e : Device} {s : State} {c : Carrier} {h : Half} {bs ps : List Byte}

/-! ### Ports that hold one packet (R518, R520) -/

theorem portPacket_of_free (hfree : d.cmd.arrived.any (fun x => x.1 == c) = false) :
    portPacket c bs d = { d with cmd := { d.cmd with arrived := d.cmd.arrived ++ [(c, bs)] } } := by
  simp [portPacket, hfree]

theorem portPacket_of_held (hheld : d.cmd.arrived.any (fun x => x.1 == c) = true) :
    (portPacket c bs d).cmd.arrived = d.cmd.arrived ∧ (portPacket c bs d).cmd.overflow.contains c = true := by
  simp [portPacket, hheld]

theorem portRead_of_none {whole : Bool} (hnone : headReply d c = none) : portRead c whole d = d.answer 0 [0, 0] := by
  simp [portRead, hnone]

theorem portRead_early (hsome : headReply d c = some bs) : portRead c false d = d.answer 0 [] := by
  simp [portRead, hsome]

/-- The head reply leaves; no reply was held back that could follow it. -/
theorem popReply_of_none (hq : d.cmd.heldBack = []) : popReply c d =
    { d with cmd := { d.cmd with replies := dropFirst (fun (x : Carrier × List Byte) => x.1 == c) d.cmd.replies } } :=
  flushReplies_of_none (by exact hq)

theorem portRead_whole (hsome : headReply d c = some bs) (hq : d.cmd.heldBack = []) : portRead c true d =
    ({ d with cmd := { d.cmd with replies := dropFirst (fun (x : Carrier × List Byte) => x.1 == c) d.cmd.replies } } : Device).answer 0
      (leBytes bs.length 2 ++ bs) := by
  simp [portRead, hsome, popReply_of_none hq]

section
variable (hsel : targetPins s.dev h 5 10 4 = true)
include hsel

theorem gives_spiWritePacket : gives (.spiWritePacket h bs) s (portPacket (spiOf h) bs s.dev) :=
  gives_of_eq (d := if targetPins s.dev h 5 10 4 then portPacket (spiOf h) bs s.dev else s.dev) rfl (by rw [if_pos hsel])

theorem gives_spiReadReply {whole : Bool} : gives (.spiReadReply h whole) s (s.dev.moved (portRead (spiOf h) whole s.dev)) :=
  gives_of_eq (liftMode_gives s fun d => if targetPins d h 5 10 4 then portRead (spiOf h) whole d else d) (by simp only [hsel, if_true])

theorem gives_spiStatus : gives (.spiStatus h) s
    (({ s.dev with cmd := { s.dev.cmd with overflow := s.dev.cmd.overflow.filter (fun x => x != spiOf h) } } : Device).answer 0
      (leBytes (b2n (headReply s.dev (spiOf h)).isSome + 2 * b2n (s.dev.cmd.arrived.any (fun x => x.1 == spiOf h))
        + 4 * b2n (s.dev.cmd.overflow.contains (spiOf h))) 1)) :=
  gives_of_eq (d := spiStatus h s.dev) rfl (by simp only [spiStatus, hsel, Bool.not_true, Bool.false_eq_true, if_false])

end

section
variable (hsel : targetPins s.dev h 6 14 2 = true)
include hsel

theorem gives_i2cWritePacket : gives (.i2cWritePacket h bs) s (portPacket (i2cOf h) bs s.dev) :=
  gives_of_eq (d := if targetPins s.dev h 6 14 2 then portPacket (i2cOf h) bs s.dev else s.dev) rfl (by rw [if_pos hsel])

theorem gives_i2cReadReply {whole : Bool} : gives (.i2cReadReply h whole) s (s.dev.moved (portRead (i2cOf h) whole s.dev)) :=
  gives_of_eq (liftMode_gives s fun d => if targetPins d h 6 14 2 then portRead (i2cOf h) whole d else d) (by simp only [hsel, if_true])

end

/-! ### JTAG (R520) -/

theorem gives_cmdpktUpdate {w : BitVec 32} : gives (.cmdpktUpdate w) s (cmdpktUpdate w s.dev) := rfl
theorem gives_cmdpktCapture : gives .cmdpktCapture s (s.dev.moved (cmdpktCapture s.dev)) := liftMode_gives s _

section
variable {w : BitVec 32} (hbs : bs = d.cmd.jtagIn ++ leBytes w.toNat 4)
include hbs

theorem cmdpktUpdate_of_part (hpart : bs.length < 16 ∨ bs.length < 20 + u32 bs 8) :
    cmdpktUpdate w d = { d with cmd := { d.cmd with jtagIn := bs } } := by
  subst hbs
  exact if_neg (by omega)

theorem cmdpktUpdate_of_whole (hwhole : 20 + u32 bs 8 ≤ bs.length) (hfree : d.cmd.arrived.any (fun x => x.1 == Carrier.jtag) = false) :
    cmdpktUpdate w d = { d with cmd := { d.cmd with jtagIn := [], arrived := d.cmd.arrived ++ [(.jtag, bs)] } } := by
  subst hbs
  exact (if_pos (by omega)).trans (portPacket_of_free hfree)

end

theorem cmdpktCapture_of_none (hnone : headReply d .jtag = none) : cmdpktCapture d = d.answer 0 [0, 0, 0, 0] := by
  rw [cmdpktCapture, hnone]
  rfl

theorem cmdpktCapture_of_more (hsome : headReply d .jtag = some bs) (hmore : 4 * d.cmd.jtagOut < bs.length) :
    cmdpktCapture d = ({ d with cmd := { d.cmd with jtagOut := d.cmd.jtagOut + 1 } } : Device).answer 0
      (if d.cmd.jtagOut = 0 then leBytes bs.length 4 else leBytes (u32 bs (4 * (d.cmd.jtagOut - 1))) 4) := by
  have hlast : ¬ 4 * d.cmd.jtagOut ≥ bs.length := by omega
  simp only [cmdpktCapture, hsome, hlast, if_false]

theorem cmdpktCapture_of_last (hsome : headReply d .jtag = some bs) (hlast : bs.length ≤ 4 * d.cmd.jtagOut) (hpos : 0 < d.cmd.jtagOut)
    (hq : d.cmd.heldBack = []) : cmdpktCapture d =
      ({ d with cmd := { d.cmd with jtagOut := 0, replies := dropFirst (fun (x : Carrier × List Byte) => x.1 == Carrier.jtag) d.cmd.replies } } : Device).answer 0
        (leBytes (u32 bs (4 * (d.cmd.jtagOut - 1))) 4) := by
  have hzero : ¬ d.cmd.jtagOut = 0 := by omega
  have hpop := popReply_of_none (c := .jtag) (d := { d with cmd := { d.cmd with jtagOut := 0 } }) hq
  simp only [cmdpktCapture, hsome, ge_iff_le, hlast, if_true, hzero, if_false, hpop]

/-! ### The network ring (R519) -/

theorem gives_nrReqProdWrite {mc : MClass} {v : BitVec 16} : gives (.nrReqProdWrite mc v) s
    (if mc.val = 0 then (reqProd .network v.toNat s.dev).answer 0 [] else s.dev.answer 8 []) := rfl

/-! ### Packets taken and replies sent (R518, R527) -/

theorem gives_requestTake : gives .requestTake s (s.dev.moved (requestTake s.dev)) := liftMode_gives s _

/-- A packet of a carrier without a ring that is first in line is answered, and takes effect where it was accepted. -/
theorem requestTake_of_first {rest : List (Carrier × List Byte)} {st : Nat} (hserves : thimbleServes d = true) (hring : ringed c = false)
    (hfirst : d.cmd.arrived = (c, bs) :: rest)
    (hreply : packetReply 8 c bs (bobPacket c bs { d with cmd := { d.cmd with arrived := rest } }) = ((st, ps), e)) (hst : st ≠ waits) :
    requestTake d = if st = stOk ∨ st = stAccepted then opAfter (u16 bs 2) ((bs.drop 16).take (u32 bs 8)) (sendReply c ps e)
      else sendReply c ps e := by
  have hready : carrierReady d c = true := by cases c <;> simp_all [ringed, carrierReady]
  simp only [requestTake, hserves, Bool.not_true, Bool.false_eq_true, if_false, hfirst, List.find?_cons, hready, dropFirst, if_true,
    fetchPacket, hring, Bool.not_false, hreply, hst]

section
variable (hring : ringed c = false) (hq : d.cmd.heldBack = [])
include hring hq

theorem sendReply_of_room (hroom : (d.cmd.replies.filter (fun x => x.1 == c)).length < 4) :
    sendReply c bs d = { d with cmd := { d.cmd with sent := (c, bs) :: d.cmd.sent, replies := d.cmd.replies ++ [(c, bs)] } } := by
  simp [sendReply, hq, replyRoom, hring, hroom, postReply]

theorem sendReply_of_full (hfull : 4 ≤ (d.cmd.replies.filter (fun x => x.1 == c)).length) :
    sendReply c bs d = { d with cmd := { d.cmd with sent := (c, bs) :: d.cmd.sent, heldBack := [(c, bs)] } } := by
  have hno : ¬ (d.cmd.replies.filter (fun x => x.1 == c)).length < 4 := by omega
  simp [sendReply, hq, replyRoom, hring, hno]

end

/-! ### Long operations and sessions (R525, R529) -/

theorem gives_longCompletion {op : LongOp} : gives (.longCompletion op) s (s.dev.moved (longCompletion op s.dev)) := liftMode_gives s _

theorem longCompletion_of_ended {x : LongRun} {st : Nat} (hserves : thimbleServes d = true) (hlong : d.cmd.long = [x])
    (hend : longEnd d x = some (st, ps)) : longCompletion x.op d =
      sendReply x.rq.carrier (packet x.rq x.opcode 3 st ps) { d with cmd := { d.cmd with long := [] } } := by
  simp [longCompletion, hserves, hlong, hend, dropFirst]

theorem longCompletion_of_none {op : LongOp} (hlong : d.cmd.long = []) : longCompletion op d = d := by
  simp [longCompletion, hlong]

theorem gives_sessionTimeout {id : Byte} : gives (.sessionTimeout c id) s (closeSession c id.toNat s.dev) := rfl

theorem sessionOf_closeSession_same {id : Nat} : sessionOf (closeSession c id d) c id = none := by
  simp only [sessionOf, closeSession, List.find?_filter, List.find?_eq_none]
  intro x hx
  cases (x.id == id && x.carrier == c) <;> simp

theorem sessionOf_closeSession_ne {c' : Carrier} {id i : Nat} (hne : ¬ (c' = c ∧ i = id)) :
    sessionOf (closeSession c id d) c' i = sessionOf d c' i := by
  simp only [sessionOf, closeSession, List.find?_filter]
  congr 1
  funext x
  by_cases hx : (x.id == i && x.carrier == c') = true
  · obtain ⟨hi, hc⟩ : x.id = i ∧ x.carrier = c' := by simpa using hx
    have hkeep : (x.id == id && x.carrier == c) = false := by
      rw [Bool.eq_false_iff]
      intro hboth
      obtain ⟨hi', hc'⟩ : x.id = id ∧ x.carrier = c := by simpa using hboth
      exact hne ⟨hc.symm.trans hc', hi.symm.trans hi'⟩
    simp [hx, hkeep]
  · simp [hx]

/-! ### Register writes (R590, 06_ R178) -/

theorem gives_registerWrite {mc : MClass} {a : BitVec 48} {data : List Byte} :
    gives (.registerWrite mc a data) s (s.dev.moved (registerWrite mc.val a.toNat data s.dev)) := liftMode_gives s _

theorem leWord_leBytes {v : Word} : leWord (leBytes v.toNat 4) = v := by
  have htake : (leBytes v.toNat 4).take 4 = leBytes v.toNat 4 := List.take_of_length_le (by rw [leBytes_length])
  apply BitVec.eq_of_toNat_eq
  rw [leWord, htake, leNat_leBytes, BitVec.toNat_ofNat]
  omega

/-- An access that does not cross the network ends as its target's state says. -/
theorem accessCheck_byClass {mc a len : Nat} {t : Target} : accessCheck d (byClass e mc) t a len = targetCheck d t a len := by
  have hpath : ((accessPlaces d t a len).map (pathCheck d (byClass e mc))).find? (fun x => x != 0) = none := by
    simp [pathCheck, byClass]
  simp only [accessCheck, hpath]

theorem windowIdx_of_outside {a base size count : Nat} (h : a < base ∨ base + size * count ≤ a) : windowIdx a base size count = none :=
  if_neg (by omega)

theorem windowIdx_of_inside {a base size count : Nat} (hlo : base ≤ a) (hhi : a < base + size * count) :
    windowIdx a base size count = some ((a - base) / size) := if_pos ⟨hlo, hhi⟩

theorem windowOf_above {a : Nat} (ha : 2 ^ 40 ≤ a) :
    windowOf d a = windows.findSome? (fun w => (windowIdx a w.1 w.2.1 w.2.2.1).map (fun i => (w.2.2.2 i, w.1 + w.2.1 * i, w.2.1))) :=
  if_neg (by have := dramSize_le (d := d); omega)

theorem windowOf_power {o : Nat} (ho : o < 0x10000) : windowOf d (0xFF0000730000 + o) = some (.power, 0xFF0000730000, 0x10000) := by
  have hindex : (0xFF0000730000 + o - 0xFF0000730000) / 0x10000 = 0 := by omega
  rw [windowOf_above (by omega)]
  simp (disch := omega) only [windows, List.cons_append, List.nil_append, List.findSome?_cons, windowIdx_of_outside, windowIdx_of_inside, Option.map_none,
    Option.map_some, hindex, Nat.mul_zero, Nat.add_zero]

/-! #### A word, and its refusals -/

section
variable {a mc base : Nat} {t : Target} {v : Word} {data : List Byte}

theorem busWrite_regs_of_size (hsize : regSize a data.length = false) : busWrite.regs a mc t base data data.length d = (8, d) := by
  rw [busWrite.regs, hsize]
  rfl

theorem busWrite_regs_of_unlisted (hsize : regSize a 4 = true) (hrow : rowAt a = none) :
    busWrite.regs a mc t base (leBytes v.toNat 4) 4 d = (1, d) := by
  simp [busWrite.regs, hsize, regHalves, hrow]

section
variable {r : RegRow} (hsize : regSize a 4 = true) (hrow : rowAt a = some r)
include hsize hrow

theorem busWrite_regs_of_taken (hwrite : regWrite mc t (a - base) v d = some e) :
    busWrite.regs a mc t base (leBytes v.toNat 4) 4 d = (0, e) := by
  simp [busWrite.regs, hsize, regHalves, hrow, leWord_leBytes, hwrite]

theorem busWrite_regs_of_refused (hwrite : regWrite mc t (a - base) v d = none) :
    busWrite.regs a mc t base (leBytes v.toNat 4) 4 d = (8, d) := by
  simp [busWrite.regs, hsize, regHalves, hrow, leWord_leBytes, hwrite]

end

theorem maskStore_eq {r : RegRow} (hrow : rowAt a = some r) :
    maskStore a v d = d.setReg a ((d.reg a &&& ~~~r.rw &&& ~~~(v &&& r.w1c)) ||| (v &&& r.rw)) := by
  rw [maskStore, hrow]

theorem regSize_of_other {n : Nat} (h4 : n ≠ 4) (h8 : n ≠ 8) : regSize a n = false := by
  simp [regSize, h4, h8]

end

section
variable {mc o : Nat} {data : List Byte} (hhalf : powerHalf o = none)
include hhalf

theorem accessCheck_power : accessCheck d (byClass e mc) .power (0xFF0000730000 + o) data.length = 0 := by
  have hoff : 0xFF0000730000 + o - 0xFF0000730000 = o := by omega
  rw [accessCheck_byClass]
  simp [targetCheck, targetHalf, hoff, hhalf, targetDomain]

/-- A write of the power window where no half is named. -/
theorem registerWrite_power {st : Nat} (ho : o < 0x10000) (hend : o + data.length ≤ 0x10000)
    (hregs : busWrite.regs (0xFF0000730000 + o) mc .power 0xFF0000730000 data data.length d = (st, e)) (hst : st ≠ notTaken)
    (hq : e.cmd.heldBack = []) : registerWrite mc (0xFF0000730000 + o) data d = e.answer st [] := by
  have hfit : ¬ 0xFF0000730000 + o + data.length > 0xFF0000730000 + 0x10000 := by omega
  have hbus : busWrite (byClass d mc) 2 (0xFF0000730000 + o) data d = (st, e) := by
    simp only [busWrite, windowOf_power ho, hfit, if_false, accessCheck_power hhalf, ne_eq, not_true_eq_false]
    exact hregs
  simp only [registerWrite, hbus, hst, if_false, flushReplies_of_none hq]

end

/-! #### The temperature registers, which Thimble alone writes -/

theorem wrPower_of_therm {mc o : Nat} {v : Word} (ho : 0x800 ≤ o) : wrPower mc o v d = if mc = 3 then some (maskStore (pwrA o) v d) else none := by
  unfold wrPower only3
  simp (disch := omega) only [if_neg, if_pos]

theorem thermCfg_row : rowAt 0xFF0000730800 = some ⟨"PWR_THERM_CFG", 0xFF0000730800, [], 0xFF000000, 0x00000000, 0x646E7800⟩ := by
  decide +kernel

theorem thermStatus_row : rowAt 0xFF0000730804 = some ⟨"PWR_THERM_STATUS", 0xFF0000730804, [], 0x00000000, 0x38000000, 0x00000000⟩ := by
  decide +kernel

section
variable {mc : Nat} {v : Word} (hq : d.cmd.heldBack = [])
include hq

theorem registerWrite_therm {a : Nat} {r : RegRow} (ha : 0xFF0000730800 ≤ a) (hend : a + 4 ≤ 0xFF0000740000) (hsize : regSize a 4 = true)
    (hrow : rowAt a = some r) : registerWrite 3 a (leBytes v.toNat 4) d =
      (d.setReg a ((d.reg a &&& ~~~r.rw &&& ~~~(v &&& r.w1c)) ||| (v &&& r.rw))).answer 0 [] := by
  obtain ⟨o, rfl⟩ : ∃ o, a = 0xFF0000730000 + o := ⟨a - 0xFF0000730000, by omega⟩
  have hoff : 0xFF0000730000 + o - 0xFF0000730000 = o := by omega
  have hhalf : powerHalf o = none := by
    unfold powerHalf
    simp (disch := omega) only [if_neg]
  have hwrite : regWrite 3 .power (0xFF0000730000 + o - 0xFF0000730000) v d = some (maskStore (0xFF0000730000 + o) v d) := by
    rw [hoff]
    exact (wrPower_of_therm (by omega)).trans (if_pos rfl)
  rw [maskStore_eq hrow] at hwrite
  have hregs := busWrite_regs_of_taken (base := 0xFF0000730000) hsize hrow hwrite
  exact registerWrite_power hhalf (by omega) (by rw [leBytes_length]; omega) (by rw [leBytes_length]; exact hregs) (by decide) hq

theorem registerWrite_therm_of_class (hmc : mc ≠ 3) : registerWrite mc 0xFF0000730800 (leBytes v.toNat 4) d = d.answer 8 [] := by
  have hwrite : regWrite mc .power (0xFF0000730800 - 0xFF0000730000) v d = none :=
    (wrPower_of_therm (d := d) (o := 0x800) (by omega)).trans (if_neg hmc)
  have hregs := busWrite_regs_of_refused (base := 0xFF0000730000) (by decide) thermCfg_row hwrite
  exact registerWrite_power (o := 0x800) (by decide) (by omega) (by rw [leBytes_length]; omega) (by rw [leBytes_length]; exact hregs)
    (by decide) hq

theorem registerWrite_therm_of_size {data : List Byte} (hlen : data.length < 64) (h4 : data.length ≠ 4) (h8 : data.length ≠ 8) :
    registerWrite mc 0xFF0000730800 data d = d.answer 8 [] :=
  registerWrite_power (o := 0x800) (by decide) (by omega) (by omega) (busWrite_regs_of_size (regSize_of_other h4 h8)) (by decide) hq

/-- No register lies at offset 4 of the power window. -/
theorem registerWrite_power_unlisted : registerWrite mc 0xFF0000730004 (leBytes v.toNat 4) d = d.answer 1 [] := by
  have hregs := busWrite_regs_of_unlisted (d := d) (mc := mc) (t := .power) (base := 0xFF0000730000) (a := 0xFF0000730004) (v := v)
    (by decide) (by decide +kernel)
  exact registerWrite_power (o := 4) (by decide) (by omega) (by rw [leBytes_length]; omega) (by rw [leBytes_length]; exact hregs)
    (by decide) hq

end

/-- A register takes the word, and what follows the command leaves it and all others. -/
theorem registerWrite_shows {x : Device} {a : Nat} {v : Word} (hw : tabWf regDefault d.regs = true) (hq : watchedSegs d = [])
    (hsafe : d.safeCause = 0) (hmode : d.sys.mode = .running) (hx : x = (d.setReg a v).answer 0 []) (ha : stateReg a = false) :
    (d.moved x).rsp.status = 0 ∧ (d.moved x).reg a = v ∧
      (∀ b, b ≠ a → stateReg b = false → (d.moved x).reg b = d.reg b) ∧ (d.moved x).mem = d.mem := by
  subst hx
  have hwf : tabWf regDefault ((d.setReg a v).answer 0 []).regs = true := tabWf_tabSet _ _ _ _ hw
  rw [moved_of_safe hq (fun h => absurd hsafe h), wakeDone_of_running (by exact hmode)]
  refine ⟨by rw [updated_rsp]; rfl, ?_, fun b hb hbs => ?_, by rw [updated_mem]; rfl⟩
  · rw [updated_reg _ hwf ha]
    exact Device.reg_setReg_same _ _ _ hw
  · rw [updated_reg _ hwf hbs]
    exact Device.reg_setReg_ne _ _ _ _ hb hw

end

theorem and_ones {v : Word} : v &&& 4294967295#32 = v := BitVec.and_allOnes

/-- Settles O56: by each carrier's port, the queue of packets, and the register masks of two temperature registers. -/
theorem carriersComplete : Obligations.CarriersComplete := by
  unfold Obligations.CarriersComplete
  refine ⟨?_, ?_, ?_, ?_, ?_, ?_, ?_, ?_, ?_, ?_, ?_, ?_, ?_, ?_⟩
  · intro s h hsel hq
    refine ⟨fun bs hfree => gives_of_eq (gives_spiWritePacket hsel) (portPacket_of_free hfree),
      fun bs hheld => ⟨_, gives_spiWritePacket hsel, portPacket_of_held hheld⟩,
      fun w hnone => gives_of_eq (gives_spiReadReply hsel) (by rw [portRead_of_none hnone]),
      fun bs hsome => ⟨gives_of_eq (gives_spiReadReply hsel) (by rw [portRead_early hsome]),
        gives_of_eq (gives_spiReadReply hsel) (by rw [portRead_whole hsome hq])⟩,
      _, gives_spiStatus hsel, rfl, ?_, rfl, rfl, rfl⟩
    simp [Device.answer]
  · intro s h hsel hq
    exact ⟨fun bs hfree => gives_of_eq (gives_i2cWritePacket hsel) (portPacket_of_free hfree),
      fun bs hheld => ⟨_, gives_i2cWritePacket hsel, portPacket_of_held hheld⟩,
      fun w hnone => gives_of_eq (gives_i2cReadReply hsel) (by rw [portRead_of_none hnone]),
      fun bs hsome => ⟨gives_of_eq (gives_i2cReadReply hsel) (by rw [portRead_early hsome]),
        gives_of_eq (gives_i2cReadReply hsel) (by rw [portRead_whole hsome hq])⟩⟩
  · exact fun s w bs hbs => ⟨fun hpart => gives_of_eq gives_cmdpktUpdate (cmdpktUpdate_of_part hbs hpart),
      fun hwhole hfree => gives_of_eq gives_cmdpktUpdate (cmdpktUpdate_of_whole hbs hwhole hfree)⟩
  · exact fun s hnone => gives_of_eq gives_cmdpktCapture (by rw [cmdpktCapture_of_none hnone])
  · exact fun s bs hsome hmore => gives_of_eq gives_cmdpktCapture (by rw [cmdpktCapture_of_more hsome hmore])
  · exact fun s bs hsome hlast hpos hq => gives_of_eq gives_cmdpktCapture (by rw [cmdpktCapture_of_last hsome hlast hpos hq])
  · intro s mc v hw
    refine ⟨fun hmc => gives_of_eq gives_nrReqProdWrite (if_neg hmc), fun hmc hroom hgap => ?_⟩
    refine ⟨_, gives_of_eq gives_nrReqProdWrite ((if_pos hmc).trans (by rw [reqProd_of_room hroom hgap])), rfl, ?_, rfl⟩
    exact Device.reg_setReg_same _ _ _ hw
  · intro s c bs rest st ps d hserves hring hfirst hreply hst
    have htake := requestTake_of_first hserves hring hfirst hreply hst
    refine ⟨fun hok hacc => gives_of_eq gives_requestTake (by rw [htake, if_neg (by simp [hok, hacc])]),
      fun hok => gives_of_eq gives_requestTake (by rw [htake, if_pos hok])⟩
  · exact bobPacket_none
  · exact fun c bs d hring hq => ⟨sendReply_of_room hring hq, sendReply_of_full hring hq⟩
  · exact fun s x st ps hserves hlong hend => gives_of_eq gives_longCompletion (by rw [longCompletion_of_ended hserves hlong hend])
  · exact fun s op hlong => gives_of_eq gives_longCompletion (by rw [longCompletion_of_none hlong])
  · exact fun s c id => ⟨_, gives_sessionTimeout, sessionOf_closeSession_same, rfl, rfl, fun c' i hne => sessionOf_closeSession_ne hne⟩
  · intro s mc v hw hwatch hsafe hmode hq _ _ _
    refine ⟨fun hmc => ⟨_, gives_registerWrite, ?_⟩, fun hmc => ⟨_, gives_registerWrite, ?_⟩,
      fun hmc => gives_of_eq gives_registerWrite (congrArg s.dev.moved (registerWrite_therm_of_class hq hmc)),
      fun n h4 h8 => gives_of_eq gives_registerWrite (congrArg s.dev.moved (registerWrite_therm_of_size hq ?_ ?_ ?_)),
      gives_of_eq gives_registerWrite (congrArg s.dev.moved (registerWrite_power_unlisted hq))⟩
    · rw [hmc]
      have hstore := registerWrite_shows hw hwatch hsafe hmode
        (registerWrite_therm (v := v) hq (by omega) (by omega) (by decide) thermCfg_row) (by decide)
      simpa [and_ones] using hstore
    · rw [hmc]
      have hstore := registerWrite_shows hw hwatch hsafe hmode
        (registerWrite_therm (v := v) hq (by omega) (by omega) (by decide) thermStatus_row) (by decide)
      simpa [and_ones] using hstore
    · rw [leBytes_length]; exact n.isLt
    · rw [leBytes_length]; exact h4
    · rw [leBytes_length]; exact h8

end Sys2Proof.Machine
end

section
/-!
Memory channels: their tables and registers (13_memory_channels R347, R350 to R362, R364).
-/
namespace Sys2Proof.Machine

section
variable {d e : Device} {s : State} {n k o lo m : Nat} {x c : MemChan} {v : Word}

/-! ### The channels' table and their status -/

theorem Device.chan_setChan (hc : tabWf chanReset d.mem.chans = true) : (d.setChan n c).chan n = c := tabGet_tabSet_same _ _ _ _ hc

theorem Device.setChan_wf (hc : tabWf chanReset d.mem.chans = true) : tabWf chanReset (d.setChan n c).mem.chans = true := tabWf_tabSet _ _ _ _ hc

theorem Device.setChan_setChan (hc : tabWf chanReset d.mem.chans = true) : (d.setChan n c).setChan n x = d.setChan n x := by
  simp only [Device.setChan, tabSet_tabSet hc]

theorem Device.setChan_chan (hc : tabWf chanReset d.mem.chans = true) : d.setChan n (d.chan n) = d := by
  simp only [Device.setChan, Device.chan, tabSet_tabGet hc]

theorem Device.setChanState_chan {st : Nat} : (d.setChanState m st).chan n = d.chan n := rfl

theorem mchA_ne {o' : Nat} (ho : o ≠ o') : mchA n o ≠ mchA n o' := by
  unfold mchA
  omega

theorem stateReg_mchA : stateReg (mchA n o) = false := by
  refine stateReg_eq_false.mpr ⟨?_, ?_⟩ <;> unfold mchA thmA <;> omega

/-- A channel's registers lie outside the windows that reports write. -/
theorem mchA_unitReg (hn : n < 8) (ho : o < 0x10000) : unitReg (mchA n o) := by
  simp only [unitReg, mchA, thmA, lrkA, Machine.hn, quadA, gpioA, bobA, linA, pwrA, fldA]
  omega

section
variable (hw : tabWf regDefault d.regs = true)
include hw

theorem Device.chanState_setChanState {st : Nat} (hst : st < 8) : (d.setChanState n st).chanState n = st :=
  (Device.fld_setFld_same _ _ _ _ _ (by decide) hw).trans (Nat.mod_eq_of_lt hst)

/-- The state of a channel, which is bits 29 to 31 of its status, after a write of another bit. -/
theorem Device.chanState_putBit {b : Bool} (hk : k < 29) : (d.putBit (mchA n 8) k b).chanState n = d.chanState n :=
  Device.fld_putBit_ne (by omega) (Or.inl hk) hw

theorem Device.chanState_setReg (hk : k ≠ mchA n 8) : (d.setReg k v).chanState n = d.chanState n :=
  Device.fld_setReg_ne _ _ _ _ _ _ (Ne.symm hk) hw

theorem updated_chanState : (e.updated d).chanState n = d.chanState n := Device.fld_congr (updated_reg _ hw stateReg_mchA)

end

theorem updated_chan : (e.updated d).chan n = d.chan n := by rw [Device.chan, updated_mem]; rfl

theorem domOn_of_answers {hard : Bool} (h : blockStatus d n hard = 0) : d.domOn n = true := by
  by_contra hoff
  unfold blockStatus at h
  split at h
  · exact absurd h (by decide)
  · rw [Bool.not_eq_true] at hoff
    simp [hoff] at h

/-! ### DRAM regions (R350) -/

theorem gives_dramMapWrite {r : Bool} {v : BitVec 32} : gives (.dramMapWrite r v) s (dramMapWrite (b2n r) v s.dev) := rfl

theorem dramMapWrite_one {t : Device} (hgrain : fieldOf v 8 4 ≤ 9) (ht : t = d.setReg (mapReg 0) (v &&& 2164203264#32)) (hmode : d.sys.mode = .blank)
    (hone : (regionChans t 0).length = 1) (hoff : regionOn t 1 = false) :
    dramMapWrite 0 v d = t.setFld (thmA 0x2108) 0 10 ((regionSize t 0 + regionSize t 1) / 2 ^ 30) := by
  obtain ⟨ch, hch⟩ := List.length_eq_one_iff.mp hone
  have hg : ¬ fieldOf v 8 4 > 9 := by omega
  simp [dramMapWrite, hg, ← ht, hch, hoff, hmode]

theorem dramMapWrite_refused (hw : tabWf regDefault d.regs = true) (hmode : d.sys.mode = .running) :
    dramMapWrite k v d = d.setBit (thmA 0x2108) 31 := by
  simp [dramMapWrite, hmode, Device.setReg_reg hw]

/-! ### Enabling and delays (R347, R358, R364) -/

theorem gives_mchEnable {n : Fin 8} {v : BitVec 32} (hon : blockStatus s.dev (44 + n.val) false = 0) :
    gives (.mchEnable n v) s (s.dev.updated (mchCfgWrite n.val v s.dev)) :=
  gives_of_eq (liftReport_gives s _) (by rw [atBlock_of_answers hon])

/-- Device `e` is `d` but for registers of channel n from 0x400 up and the centres of its delays. -/
structure SeedKept (n : Nat) (d e : Device) : Prop where
  wf : tabWf regDefault e.regs = true
  reg : ∀ a, a < mchA n 0x400 → e.reg a = d.reg a
  table : tabWf chanReset e.mem.chans = true
  sr : (e.chan n).sr = (d.chan n).sr

theorem SeedKept.setReg {a : Nat} (h : SeedKept n d e) (ha : mchA n 0x400 ≤ a) : SeedKept n d (e.setReg a v) where
  wf := Device.setReg_wf _ _ _ h.wf
  reg b hb := (Device.reg_setReg_ne _ _ _ _ (by omega) h.wf).trans (h.reg b hb)
  table := h.table
  sr := h.sr

theorem SeedKept.setDelay {r : Nat} (h : SeedKept n d e) : SeedKept n d (setDelay n r k v e) := by
  have hreg := h.setReg (a := dlyA n r k) (v := v &&& 0x03FF03FF) (by unfold dlyA mchA; omega)
  exact ⟨hreg.wf, hreg.reg, Device.setChan_wf h.table, (congrArg MemChan.sr (Device.chan_setChan h.table)).trans h.sr⟩

theorem SeedKept.each {α : Type} {xs : List α} {f : Device → α → Device} (h : SeedKept n d e)
    (hf : ∀ y a, SeedKept n d y → SeedKept n d (f y a)) : SeedKept n d (e.each xs f) := by
  induction xs generalizing e with
  | nil => exact h
  | cons a xs ih => exact ih (hf e a h)

theorem SeedKept.seedChannel (h : SeedKept n d e) : SeedKept n d (seedChannel n e) := by
  refine h.each fun y r hy => ?_
  have hdly : SeedKept n d (y.each (tabGet noWords y.mem.savedDly (2 * n + r)).zipIdx fun d x => Machine.setDelay n r x.2 x.1 d) :=
    hy.each fun _ _ hz => hz.setDelay
  show SeedKept n d (if _ then _ else _)
  split
  · exact hdly
  · exact hdly.setReg (by unfold markA mchA; omega)

theorem fieldOf_cfgMask {lo m : Nat} (hlo : 24 ≤ lo) (hm : lo + m ≤ 32) : fieldOf (v &&& 0xFF000000) lo m = fieldOf v lo m := by
  refine fieldOf_and_mask ?_
  have hcases : ∀ lo : Fin 33, ∀ m : Fin 33, 24 ≤ lo.val → lo.val + m.val ≤ 32 → fieldOf (0xFF000000 : Word) lo.val m.val = 2 ^ m.val - 1 := by
    decide
  exact hcases ⟨lo, by omega⟩ ⟨m, by omega⟩ hlo hm

section
variable (hw : tabWf regDefault d.regs = true) (hoff : d.bit (chanCfg n) 31 = false) (hen : fieldOf v 31 1 = 1)
include hoff hen

/-- An enabled channel trains. -/
theorem mchCfgWrite_of_enabled (hc : tabWf chanReset d.mem.chans = true) (hop : fieldOf v 28 3 < 5) (hsr : (d.chan n).sr = none)
    (hon : (d.setReg (chanCfg n) (v &&& 0xFF000000)).domOn (44 + n) = true) (hw : tabWf regDefault d.regs = true) :
    mchCfgWrite n v d = (seedChannel n (d.setReg (chanCfg n) (v &&& 0xFF000000))).setChanState n 1 := by
  have hold : ¬ fieldOf (d.reg (chanCfg n)) 31 1 = 1 := by simpa [Device.bit, Device.fld] using hoff
  have hen' : fieldOf (v &&& 0xFF000000) 31 1 = 1 := (fieldOf_cfgMask (by decide) (by decide)).trans hen
  have hop' : ¬ fieldOf (v &&& 0xFF000000) 28 3 ≥ 5 := by
    rw [fieldOf_cfgMask (by decide) (by decide)]
    omega
  have hseed : SeedKept n (d.setReg (chanCfg n) (v &&& 0xFF000000)) (seedChannel n (d.setReg (chanCfg n) (v &&& 0xFF000000))) :=
    SeedKept.seedChannel ⟨Device.setReg_wf _ _ _ hw, fun _ _ => rfl, hc, rfl⟩
  have hsr' : ((seedChannel n (d.setReg (chanCfg n) (v &&& 0xFF000000))).chan n).sr = none := hseed.sr.trans hsr
  simp only [mchCfgWrite, hold, if_false, hen', hop', beq_self_eq_true, decide_false, Bool.and_false, Bool.false_eq_true, Bool.not_true, hon,
    Bool.or_false, hsr', Option.isSome_none]

/-- A reserved operation is refused. -/
theorem mchCfgWrite_of_reserved (hop : 5 ≤ fieldOf v 28 3) :
    mchCfgWrite n v d = (d.setReg (chanCfg n) (withField (v &&& 0xFF000000) 31 1 0)).setBit (mchA n 8) 0 := by
  have hold : ¬ fieldOf (d.reg (chanCfg n)) 31 1 = 1 := by simpa [Device.bit, Device.fld] using hoff
  have hen' : fieldOf (v &&& 0xFF000000) 31 1 = 1 := (fieldOf_cfgMask (by decide) (by decide)).trans hen
  have hop' : fieldOf (v &&& 0xFF000000) 28 3 ≥ 5 := by rwa [fieldOf_cfgMask (by decide) (by decide)]
  simp only [mchCfgWrite, hold, if_false, hen', hop', beq_self_eq_true, decide_true, Bool.and_self, if_true]

end

theorem SeedKept.enabled_shows {x : Device} (h : SeedKept n d e) :
    (x.updated (e.setChanState n 1)).reg (chanCfg n) = d.reg (chanCfg n) ∧ (x.updated (e.setChanState n 1)).chanState n = 1 := by
  have hcfg : chanCfg n ≠ mchA n 8 := mchA_ne (by decide)
  have hwf : tabWf regDefault (e.setChanState n 1).regs = true := tabWf_tabSet _ _ _ _ h.wf
  refine ⟨?_, (updated_chanState hwf).trans (Device.chanState_setChanState h.wf (by decide))⟩
  rw [updated_reg (a := chanCfg n) _ hwf stateReg_mchA]
  exact (Device.reg_setFld_ne hcfg h.wf).trans (h.reg _ (by unfold chanCfg mchA; omega))

theorem mchEnable_shows (hw : tabWf regDefault d.regs = true) (hc : tabWf chanReset d.mem.chans = true)
    (hon : blockStatus d (44 + n) false = 0) (hoff : d.bit (chanCfg n) 31 = false) (hen : fieldOf v 31 1 = 1) (hop : fieldOf v 28 3 < 5)
    (hsr : (d.chan n).sr = none) :
    (d.updated (mchCfgWrite n v d)).reg (chanCfg n) = v &&& 0xFF000000 ∧ (d.updated (mchCfgWrite n v d)).chanState n = 1 := by
  have hdom : (d.setReg (chanCfg n) (v &&& 0xFF000000)).domOn (44 + n) = true := by
    have hstat : (d.setReg (chanCfg n) (v &&& 0xFF000000)).reg (domStatA (44 + n)) = d.reg (domStatA (44 + n)) :=
      Device.reg_setReg_ne _ _ _ _ (by unfold domStatA chanCfg pwrA mchA; omega) hw
    rw [← domOn_of_answers hon]
    simp only [Device.domOn, Device.domState, Device.fld_congr hstat]
  have hseed : SeedKept n (d.setReg (chanCfg n) (v &&& 0xFF000000)) (seedChannel n (d.setReg (chanCfg n) (v &&& 0xFF000000))) :=
    SeedKept.seedChannel ⟨Device.setReg_wf _ _ _ hw, fun _ _ => rfl, hc, rfl⟩
  rw [mchCfgWrite_of_enabled hoff hen hc hop hsr hdom hw]
  obtain ⟨hcfg, hstate⟩ := hseed.enabled_shows (x := d)
  exact ⟨hcfg.trans (Device.reg_setReg_same _ _ _ hw), hstate⟩

theorem mchRefused_shows (hw : tabWf regDefault d.regs = true) (hoff : d.bit (chanCfg n) 31 = false) (hen : fieldOf v 31 1 = 1)
    (hop : 5 ≤ fieldOf v 28 3) :
    (d.updated (mchCfgWrite n v d)).bit (chanCfg n) 31 = false ∧ (d.updated (mchCfgWrite n v d)).bit (mchA n 8) 0 = true := by
  have hcfg : chanCfg n ≠ mchA n 8 := mchA_ne (by decide)
  have hwf := Device.setReg_wf d (chanCfg n) (withField (v &&& 0xFF000000) 31 1 0) hw
  rw [mchCfgWrite_of_reserved hoff hen hop]
  refine ⟨?_, ?_⟩
  · rw [Device.bit_congr (updated_reg (a := chanCfg n) _ (tabWf_tabSet _ _ _ _ hwf) stateReg_mchA),
      Device.bit_congr (Device.reg_setBit_ne hcfg hwf), Device.bit_eq_fieldOf, Device.reg_setReg_same _ _ _ hw,
      fieldOf_withField_same _ _ _ _ (by decide)]
    rfl
  · rw [Device.bit_congr (updated_reg (a := mchA n 8) _ (tabWf_tabSet _ _ _ _ hwf) stateReg_mchA)]
    exact Device.bit_setBit_same (by decide) hwf

theorem gives_dlyWrite {n : Fin 8} {r : Bool} {k : Fin 20} {v : BitVec 32} (hon : blockStatus s.dev (44 + n.val) false = 0) :
    gives (.dlyWrite n r k v) s (dlyWrite n.val (b2n r) k.val v s.dev) :=
  gives_of_eq (d := s.dev.atBlock (44 + n.val) false (dlyWrite n.val (b2n r) k.val v)) rfl (atBlock_of_answers hon)

theorem gives_driftPauseNow {n : Fin 8} {m0 m1 : List Word} (hon : blockStatus s.dev (44 + n.val) false = 0) :
    gives (.driftPauseNow n m0 m1) s (driftNow n.val m0 m1 s.dev) :=
  gives_of_eq (d := s.dev.atBlock (44 + n.val) false (driftNow n.val m0 m1)) rfl (atBlock_of_answers hon)

/-! ### Training (R358) -/

theorem gives_channelTraining {n : Fin 8} {seedOk fullOk testOk : Bool} {delays : List Word} :
    gives (.channelTraining n seedOk fullOk testOk delays) s (chanTraining n.val seedOk fullOk testOk delays s.dev) := rfl

section
variable {delays : List Word} (hst : d.chanState n = 1) (hclk : mchClock d n = true)
include hst hclk

theorem chanTraining_of_seeds : chanTraining n true true true delays d =
    (d.setChan n { d.chan n with trained := true, sr := none }).setChanState n 2 := by
  simp [chanTraining, hst, hclk]

theorem chanTraining_of_neither : chanTraining n false false true delays d = chanFailed n 1 d := by
  simp [chanTraining, hst, hclk]

end

theorem chanFailed_shows (hw : tabWf regDefault d.regs = true) (hn : n < 8) :
    (chanFailed n 1 d).chanState n = 4 ∧ (chanFailed n 1 d).bit (mchA n 8) 1 = true := by
  have hwf : tabWf regDefault ((d.setChanState n 4).setBit (mchA n 8) 1).regs = true := tabWf_tabSet _ _ _ _ (tabWf_tabSet _ _ _ _ hw)
  have hkept : UnitsKept ((d.setChanState n 4).setBit (mchA n 8) 1) (chanFailed n 1 d) := (UnitsKept.refl hwf).fault
  refine ⟨?_, ?_⟩
  · rw [Device.chanState, hkept.fld (mchA_unitReg hn (by decide))]
    exact (Device.chanState_putBit (tabWf_tabSet _ _ _ _ hw) (by decide)).trans (Device.chanState_setChanState hw (by decide))
  · rw [hkept.bit (mchA_unitReg hn (by decide))]
    exact Device.bit_setBit_same (by decide) (tabWf_tabSet _ _ _ _ hw)

/-! ### Requests (R351 to R353) -/

theorem gives_mchRead {n : Fin 8} {rq : MemReq} : gives (.mchRead n rq) s (s.dev.updated (mchRead n.val rq s.dev)) := liftReport_gives s _

section
variable {rq : MemReq}

theorem mchRead_of_refused (hst : chanCheck d n rq.mclass.val rq.addr rq.len false ≠ 0) :
    mchRead n rq d = chanAnswer n rq.rid { status := chanCheck d n rq.mclass.val rq.addr rq.len false } d := by
  simp [mchRead, hst]

theorem entryFor_of_empty {l : Nat} (hq : c.wq = []) : entryFor c l = none := by simp [entryFor, hq]

theorem cutAt_ne_nil {g a len : Nat} (hlen : 0 < len) : cutAt g (len + 1) a len ≠ [] := by
  rw [cutAt, if_neg (by omega)]
  simp only
  split <;> simp

theorem mchRead_of_queued (hlen : 0 < rq.len) (hst : chanCheck d n rq.mclass.val rq.addr rq.len false = 0) (hq : (d.chan n).wq = [])
    (hcredit : readCredit (d.chan n) rq.cls.val = true) : mchRead n rq d = d.setChan n
      { d.chan n with rq := (d.chan n).rq ++ [{ rid := rq.rid, seq := (d.chan n).arrivals, mclass := rq.mclass.val, cls := rq.cls.val, addr := rq.addr, len := rq.len, promoted := none }], arrivals := (d.chan n).arrivals + 1 } := by
  have hnone (p : Nat × Nat × Nat × Nat) : entryFor (d.chan n) p.1 = none := entryFor_of_empty hq
  have hparts : lineParts rq.addr rq.len ≠ [] := by
    rw [lineParts, Ne, List.map_eq_nil_iff]
    exact cutAt_ne_nil hlen
  have hfull : ((lineParts rq.addr rq.len).all fun _ => false) = false := by
    obtain ⟨p, ps, hp⟩ := List.exists_cons_of_ne_nil hparts
    rw [hp]
    rfl
  simp only [mchRead, hst, ne_eq, not_true_eq_false, if_false, hnone, hfull, Bool.false_eq_true, hcredit, Bool.not_true]
  rw [Device.each_of_fixed fun p _ => by simp only [hnone]]

/-! #### Writes -/

theorem gives_mchWrite {n : Fin 8} {data : List Byte} : gives (.mchWrite n rq data) s (s.dev.updated (mchWrite n.val rq data s.dev)) :=
  liftReport_gives s _

theorem lineParts_of_line {addr len : Nat} (hlen : 0 < len) (hline : addr % 128 + len ≤ 128) :
    lineParts addr len = [(addr / 128, addr % 128, len, 0)] := by
  have hcut : cutAt 128 (len + 1) addr len = [(addr, len)] := by
    rw [cutAt, if_neg (by omega)]
    exact if_pos (by omega)
  simp [lineParts, hcut]

theorem drainUpdate_eq : ∃ b, drainUpdate n d = d ∨ drainUpdate n d = d.putBit (mchA n 8) 27 b := by
  unfold drainUpdate
  simp only
  split
  · exact ⟨true, .inr rfl⟩
  · split
    · exact ⟨false, .inr rfl⟩
    · exact ⟨false, .inl rfl⟩

@[simp] theorem drainUpdate_mem : (drainUpdate n d).mem = d.mem := by
  obtain ⟨b, h | h⟩ := drainUpdate_eq (n := n) (d := d)
  · rw [h]
  · rw [h]
    rfl

theorem drainUpdate_chan : (drainUpdate n d).chan m = d.chan m := by rw [Device.chan, drainUpdate_mem]; rfl

theorem drainUpdate_wf (hw : tabWf regDefault d.regs = true) : tabWf regDefault (drainUpdate n d).regs = true := by
  obtain ⟨b, h | h⟩ := drainUpdate_eq (n := n) (d := d) <;> rw [h]
  · exact hw
  · exact tabWf_tabSet _ _ _ _ hw

theorem drainUpdate_chanState (hw : tabWf regDefault d.regs = true) : (drainUpdate n d).chanState n = d.chanState n := by
  obtain ⟨b, h | h⟩ := drainUpdate_eq (n := n) (d := d) <;> rw [h]
  exact Device.chanState_putBit hw (by decide)

/-- The entry of a write within a line that finds the queue empty. -/
def firstWrite (d : Device) (n : Nat) (rq : MemReq) (data : List Byte) : WrEntry :=
  { rid := rq.rid, seq := (d.chan n).arrivals, mclass := rq.mclass.val, cls := rq.cls.val, line := rq.addr / 128, bytes := data.zipIdx.map (fun y => (rq.addr % 128 + y.2, y.1)), promoted := none, bypass := bypasses d n (rq.addr / 128) rq.mclass.val }

section
variable {data : List Byte} (hlen : data.length = rq.len) (hpos : 0 < rq.len) (hline : rq.addr % 128 + rq.len ≤ 128) (hq : (d.chan n).wq = [])
include hlen hpos hline hq

theorem queueWrite_of_empty (hr : (d.chan n).rq = []) : queueWrite n rq.rid rq.mclass.val rq.cls.val rq.addr data d =
    drainUpdate n (d.setChan n { d.chan n with wq := [firstWrite d n rq data], arrivals := (d.chan n).arrivals + 1 }) := by
  have hdata : (data.drop 0).take rq.len = data := by rw [List.drop_zero, ← hlen, List.take_length]
  simp only [queueWrite, hlen, lineParts_of_line hpos hline, hr, List.filter_nil, Device.each_nil, Device.each_singleton,
    entryFor_of_empty hq, hdata, hq, List.nil_append]
  rfl

theorem mchWrite_of_empty (hr : (d.chan n).rq = []) (hst : chanCheck d n rq.mclass.val rq.addr rq.len true = 0) : mchWrite n rq data d =
    chanAnswer n rq.rid {} (drainUpdate n
      (d.setChan n { d.chan n with wq := [firstWrite d n rq data], arrivals := (d.chan n).arrivals + 1 })) := by
  have hnew : newEntries (d.chan n) rq.addr rq.len = 1 := by
    simp [newEntries, lineParts_of_line hpos hline, entryFor_of_empty hq]
  simp only [mchWrite, hlen, hst, hq, hnew, queueWrite_of_empty hlen hpos hline hq hr]
  rfl

end

theorem chanAnswer_chan {rid : Nat} {a : Answer} (hc : tabWf chanReset d.mem.chans = true) :
    (chanAnswer n rid a d).chan n = { d.chan n with answers := (rid, a) :: (d.chan n).answers.filter (fun y => y.1 != rid) } :=
  Device.chan_setChan hc

theorem chanAnswer_dram {rid : Nat} {a : Answer} : (chanAnswer n rid a d).mem.dram = d.mem.dram := rfl

/-- What the answer leaves of the queue and of DRAM. -/
theorem firstWrite_shows {data : List Byte} {y : Device} (hc : tabWf chanReset d.mem.chans = true) :
    let t := y.updated (chanAnswer n rq.rid {} (drainUpdate n
      (d.setChan n { d.chan n with wq := [firstWrite d n rq data], arrivals := (d.chan n).arrivals + 1 })))
    (t.chan n).wq = [firstWrite d n rq data] ∧ (firstWrite d n rq data).line = rq.addr / 128 ∧ (firstWrite d n rq data).rid = rq.rid ∧
      (firstWrite d n rq data).bytes = data.zipIdx.map (fun y => (rq.addr % 128 + y.2, y.1)) ∧ t.mem.dram = d.mem.dram ∧
      (t.chan n).answers = (rq.rid, {}) :: (d.chan n).answers.filter (fun y => y.1 != rq.rid) := by
  have hwf : tabWf chanReset (drainUpdate n
      (d.setChan n { d.chan n with wq := [firstWrite d n rq data], arrivals := (d.chan n).arrivals + 1 })).mem.chans = true := by
    rw [drainUpdate_mem]
    exact Device.setChan_wf hc
  refine ⟨?_, rfl, rfl, rfl, ?_, ?_⟩
  · rw [updated_chan, chanAnswer_chan hwf, drainUpdate_chan, Device.chan_setChan hc]
  · rw [updated_mem, chanAnswer_dram, drainUpdate_mem]
    rfl
  · rw [updated_chan, chanAnswer_chan hwf, drainUpdate_chan, Device.chan_setChan hc]

end

/-! ### Scheduling, promotion and refresh (R354 to R357) -/

theorem gives_mchSchedule {n : Fin 8} {legal : List Nat} : gives (.mchSchedule n legal) s (s.dev.updated (mchSchedule n.val legal s.dev)) :=
  liftReport_gives s _

theorem mchSchedule_of_idle {legal : List Nat} (hst : d.chanState n ≠ 2) : mchSchedule n legal d = d := by
  simp [mchSchedule, hst]

/-- The first number below m of which p holds. -/
theorem find_upto {p : Nat → Bool} (hk : k < m) (hp : p k = true) (hbefore : ∀ j, j < k → p j = false) : (upto m).find? p = some k := by
  rw [upto, List.find?_range_eq_some]
  exact ⟨hp, List.mem_range.mpr hk, fun j hj => by simp [hbefore j hj]⟩

theorem find_upto_none {p : Nat → Bool} (hp : ∀ j, j < m → p j = false) : (upto m).find? p = none := by
  rw [List.find?_eq_none]
  exact fun j hj => by simp [hp j (List.mem_range.mp hj)]

theorem banks_le : 4 * ranksOf d n ≤ 8 := by
  unfold ranksOf
  split <;> decide

section
variable {legal : List Nat} (hst : d.chanState n = 2) (hclk : mchClock d n = true)
include hst hclk

theorem mchSchedule_of_forced (hk : k < 4 * ranksOf d n) (hdebt : debtOf d n k = 4) (hbefore : ∀ j, j < k → debtOf d n j ≠ 4) :
    mchSchedule n legal d = (refresh n k d).bump (mchA n 0x30) 0 32 1 := by
  have hfind : (upto (4 * ranksOf d n)).find? (fun k => debtOf d n k == 4) = some k :=
    find_upto hk (by simp [hdebt]) fun j hj => by simp [hbefore j hj]
  simp [mchSchedule, hst, hclk, hfind]

section
variable (hnone : ∀ j, j < 8 → debtOf d n j ≠ 4)
include hnone

omit hst hclk in
theorem no_forced_refresh : (upto (4 * ranksOf d n)).find? (fun k => debtOf d n k == 4) = none :=
  find_upto_none fun j hj => by simp [hnone j (by have := banks_le (d := d) (n := n); omega)]

theorem mchSchedule_of_due (hk : k < 4 * ranksOf d n) (hdebt : 1 ≤ debtOf d n k) (hidle : bankBusy d n k = false)
    (hbefore : ∀ j, j < k → debtOf d n j < 1 ∨ bankBusy d n j = true) : mchSchedule n legal d = refresh n k d := by
  have hfind : (upto (4 * ranksOf d n)).find? (fun k => decide (debtOf d n k ≥ 1) && !bankBusy d n k) = some k :=
    find_upto hk (by simp [hdebt, hidle]) fun j hj => by rcases hbefore j hj with h | h <;> simp [h]
  simp [mchSchedule, hst, hclk, no_forced_refresh hnone, hfind]

end

/-- The only request, a read whose command is legal, is served once no refresh comes first. -/
theorem mchSchedule_of_read {e : RdEntry}
    (hdebt : ∀ k, k < 8 → debtOf d n k < 1 ∨ (debtOf d n k ≠ 4 ∧ bankBusy d n k = true)) (hr : (d.chan n).rq = [e]) (hq : (d.chan n).wq = [])
    (hlegal : e.rid ∈ legal) : mchSchedule n legal d = serveRead n e (d.setChan n
      { d.chan n with openRow := tabSet natZero (d.chan n).openRow (bankKey d n e.addr) (dramRow d n e.addr + 1) }) := by
  have hforced : ∀ j, j < 8 → debtOf d n j ≠ 4 := fun j hj => by
    rcases hdebt j hj with h | h
    · omega
    · exact h.1
  have hdue : (upto (4 * ranksOf d n)).find? (fun k => decide (debtOf d n k ≥ 1) && !bankBusy d n k) = none :=
    find_upto_none fun j hj => by
      rcases hdebt j (by have := banks_le (d := d) (n := n); omega) with h | h
      · simp [h]
      · simp [h.2]
  have hpick : schedPick d n legal = some (readOrder d n e, .read e) := by
    simp [schedPick, hr, hq, hlegal, pickBetter]
  simp [mchSchedule, hst, hclk, no_forced_refresh hforced, hdue, hpick]

end

theorem gives_mchPromotion {n : Fin 8} {rid : Nat} : gives (.mchPromotion n rid) s (mchPromotion n.val rid s.dev) := rfl

theorem mchPromotion_of_read {e : RdEntry} (hr : (d.chan n).rq = [e]) (hq : (d.chan n).wq = []) (hp : e.promoted = none) (hcls : e.cls = 1)
    (hlim : d.fld (mchA n 0xC) 8 8 ≠ 0) : mchPromotion n e.rid d =
      d.setChan n { d.chan n with rq := [{ e with promoted := some (d.chan n).promos }], promos := (d.chan n).promos + 1 } := by
  simp [mchPromotion, hr, hq, hp, hcls, hlim]

theorem gives_refreshDebt {n : Fin 8} : gives (.refreshDebt n) s (refreshDebt n.val s.dev) := rfl

/-- A debt one higher, up to 4. -/
def debtRaised (v : Int) : Int := if v < 4 then v + 1 else v

def raiseDebt (n : Nat) (d : Device) (k : Nat) : Device :=
  d.setChan n { d.chan n with debt := tabSet intZero (d.chan n).debt k (debtRaised (debtOf d n k)) }

/-- The debts of channel n below bank `m` raised. -/
def raiseDebts (n m : Nat) (d : Device) : Device := d.each (upto m) (raiseDebt n)

theorem raiseDebts_succ : raiseDebts n (m + 1) d = raiseDebt n (raiseDebts n m d) m := by
  simp only [raiseDebts, upto, Device.each, List.range_succ, List.foldl_append, List.foldl_cons, List.foldl_nil]

theorem raiseDebts_regs : (raiseDebts n m d).regs = d.regs :=
  Device.each_keeps (f := raiseDebt n) (fun d => d.regs) (fun _ _ => rfl) _ _

theorem raiseDebts_debts (hc : tabWf chanReset d.mem.chans = true) (hdebt : tabWf intZero (d.chan n).debt = true) :
    tabWf chanReset (raiseDebts n m d).mem.chans = true ∧ tabWf intZero ((raiseDebts n m d).chan n).debt = true ∧
      ∀ k, debtOf (raiseDebts n m d) n k = if k < m then debtRaised (debtOf d n k) else debtOf d n k := by
  induction m with
  | zero => exact ⟨hc, hdebt, fun _ => rfl⟩
  | succ m ih =>
    obtain ⟨hc', hdebt', hread⟩ := ih
    rw [raiseDebts_succ, raiseDebt]
    refine ⟨Device.setChan_wf hc', ?_, fun k => ?_⟩
    · rw [Device.chan_setChan hc']
      exact tabWf_tabSet _ _ _ _ hdebt'
    · rw [debtOf, Device.chan_setChan hc']
      by_cases hk : k = m
      · subst hk
        rw [tabGet_tabSet_same _ _ _ _ hdebt', hread, if_neg (Nat.lt_irrefl k), if_pos (Nat.lt_succ_self k)]
      · rw [tabGet_tabSet_ne _ _ _ _ _ hk hdebt', ← debtOf, hread]
        congr 1
        rw [eq_iff_iff]
        omega

theorem refreshDebt_eq (hst : d.chanState n = 2) : refreshDebt n d = raiseDebts n (4 * ranksOf d n) d := by
  rw [refreshDebt, if_neg (not_not.mpr hst)]
  rfl

/-! ### Rank temperatures -/

theorem gives_rankTempRead {n : Fin 8} {r : Bool} {t : Int} : gives (.rankTempRead n r t) s (rankTemp n.val (b2n r) t s.dev) := rfl

theorem rankTemp_shows {r : Bool} {t : Int} (hw : tabWf regDefault d.regs = true) (hc : tabWf chanReset d.mem.chans = true) :
    bitsAt ((rankTemp n (b2n r) t d).chan n).hot.toNat (b2n r) 1 = b2n (decide (85 < t)) ∧
      bitsAt ((rankTemp n (b2n r) t d).chan n).hot.toNat (1 - b2n r) 1 = bitsAt (d.chan n).hot.toNat (1 - b2n r) 1 ∧
      (rankTemp n (b2n r) t d).bit (mchA n 8) 28 = decide (((rankTemp n (b2n r) t d).chan n).hot ≠ 0) := by
  have hhot : ((rankTemp n (b2n r) t d).chan n).hot = BitVec.ofNat 2 (putBits (d.chan n).hot.toNat (b2n r) 1 (b2n (decide (t > 85)))) :=
    congrArg MemChan.hot (Device.chan_setChan hc)
  have hbits : ∀ (h : BitVec 2) (r b : Bool),
      bitsAt (BitVec.ofNat 2 (putBits h.toNat (b2n r) 1 (b2n b))).toNat (b2n r) 1 = b2n b ∧
      bitsAt (BitVec.ofNat 2 (putBits h.toNat (b2n r) 1 (b2n b))).toNat (1 - b2n r) 1 = bitsAt h.toNat (1 - b2n r) 1 := by decide
  obtain ⟨hown, hother⟩ := hbits (d.chan n).hot r (decide (t > 85))
  rw [hhot]
  exact ⟨hown, hother, Device.bit_putBit_same (by decide) hw⟩

/-! ### Drift pauses (R359) -/

theorem gives_driftPause {n : Fin 8} {r : Bool} {meas : List Word} (hon : s.dev.fld (mchA n.val 0) 16 8 ≠ 0) :
    gives (.driftPause n r meas) s (driftPause n.val (b2n r) meas s.dev) :=
  gives_of_eq (d := if s.dev.fld (mchA n.val 0) 16 8 = 0 then s.dev else driftPause n.val (b2n r) meas s.dev) rfl (if_neg hon)

/-- The two values of delay k after a pause, and whether its window held one. -/
@[reducible] def driftWord (n r win : Nat) (meas : List Word) (k : Nat) (d : Device) : (Nat × Bool) × (Nat × Bool) :=
  let cur := d.reg (dlyA n r k)
  let m := nth meas k cur
  let ctr := tabGet natWordZero (d.chan n).centres (20 * r + k)
  (driftStep (fieldOf cur 16 10) (fieldOf m 16 10) (fieldOf ctr 16 10) win, driftStep (fieldOf cur 0 10) (fieldOf m 0 10) (fieldOf ctr 0 10) win)

/-- One delay's move. -/
def driftOne (n r win : Nat) (meas : List Word) (k : Nat) (d : Device) : Device :=
  let q := driftWord n r win meas k d
  let d := d.setReg (dlyA n r k) (BitVec.ofNat 32 (q.1.1 * 65536 + q.2.1))
  if q.1.2 || q.2.2 then (d.setBit (mchA n 8) 3).fault (halfOf (n / 4)) 0x34 (n * 65536 + r * 256) k else d

section
variable {r win : Nat} {meas : List Word}

theorem driftPause_eq (hst : d.chanState n = 2) (hoff : d.bit (mchA n 0) 28 = false) (hclk : mchClock d n = true) :
    driftPause n r meas d =
      (d.each (upto 20) fun e k => driftOne n r (d.fld (mchA n 0) 24 4) meas k e).bump (mchA n 0x34) 0 32 1 := by
  have hrun : ¬ (d.chanState n ≠ 2 ∨ d.bit (mchA n 0) 28 = true ∨ ¬ mchClock d n = true) := by simp [hst, hoff, hclk]
  rw [driftPause, if_neg (by simpa using hrun)]
  simp only [driftOne]

theorem driftStep_lt {cur ms centre : Nat} (hc : centre < 1024) : (driftStep cur ms centre win).1 < 1024 := by
  have hsat : sat 1023 (centre + win) ≤ 1023 := by
    unfold sat
    split <;> omega
  simp only [driftStep]
  split_ifs <;> (dsimp only; omega)

theorem driftWord_lt {k : Nat} : (driftWord n r win meas k d).1.1 < 1024 ∧ (driftWord n r win meas k d).2.1 < 1024 :=
  ⟨driftStep_lt (fieldOf_lt _), driftStep_lt (fieldOf_lt _)⟩

theorem dlyA_ne {k' : Nat} (hk : k ≠ k') : dlyA n r k ≠ dlyA n r k' := mchA_ne (by omega)

/-- What a delay's move leaves: the delay's register, and every other of the channel but its status. -/
theorem driftOne_shows (hn : n < 8) (hr : r < 2) (hk : k < 20) (hw : tabWf regDefault d.regs = true) :
    tabWf regDefault (driftOne n r win meas k d).regs = true ∧ (driftOne n r win meas k d).mem = d.mem ∧
      (driftOne n r win meas k d).reg (dlyA n r k) =
        BitVec.ofNat 32 ((driftWord n r win meas k d).1.1 * 65536 + (driftWord n r win meas k d).2.1) ∧
      ∀ o, o < 0x10000 → mchA n o ≠ dlyA n r k → o ≠ 8 → (driftOne n r win meas k d).reg (mchA n o) = d.reg (mchA n o) := by
  have hwf (v : Word) := Device.setReg_wf d (dlyA n r k) v hw
  unfold driftOne
  simp only
  split
  · have hkept : UnitsKept ((d.setReg (dlyA n r k) (BitVec.ofNat 32 ((driftWord n r win meas k d).1.1 * 65536 + (driftWord n r win meas k d).2.1))).setBit
        (mchA n 8) 3) _ := (UnitsKept.refl (tabWf_tabSet _ _ _ _ (hwf _))).fault (h' := halfOf (n / 4)) (cls := 0x34) (src := n * 65536 + r * 256) (detail := k)
    have hset {o : Nat} (ho : o < 0x10000) (h8 : o ≠ 8) := (hkept.reg _ (mchA_unitReg hn ho)).trans (Device.reg_setBit_ne (mchA_ne h8) (hwf _))
    refine ⟨hkept.wf, hkept.part (·.mem) (fun _ _ _ _ _ _ _ => rfl), ?_, fun o ho hne h8 => ?_⟩
    · exact (hset (by omega) (by omega)).trans (Device.reg_setReg_same _ _ _ hw)
    · exact (hset ho h8).trans (Device.reg_setReg_ne _ _ _ _ hne hw)
  · exact ⟨hwf _, rfl, Device.reg_setReg_same _ _ _ hw, fun o ho hne h8 => Device.reg_setReg_ne _ _ _ _ hne hw⟩

/-- The delays of rank r below `m` moved. -/
def driftFirst (n r win : Nat) (meas : List Word) (m : Nat) (d : Device) : Device := d.each (upto m) fun e k => driftOne n r win meas k e

theorem driftFirst_succ : driftFirst n r win meas (m + 1) d = driftOne n r win meas m (driftFirst n r win meas m d) := by
  simp only [driftFirst, upto, Device.each, List.range_succ, List.foldl_append, List.foldl_cons, List.foldl_nil]

theorem driftWord_congr {e : Device} (hreg : e.reg (dlyA n r k) = d.reg (dlyA n r k)) (hmem : e.mem = d.mem) :
    driftWord n r win meas k e = driftWord n r win meas k d := by
  simp only [driftWord, hreg, Device.chan, hmem]

theorem driftFirst_shows (hn : n < 8) (hr : r < 2) (hm : m ≤ 20) (hw : tabWf regDefault d.regs = true) :
    tabWf regDefault (driftFirst n r win meas m d).regs = true ∧ (driftFirst n r win meas m d).mem = d.mem ∧
      (∀ k, k < m → (driftFirst n r win meas m d).reg (dlyA n r k) =
        BitVec.ofNat 32 ((driftWord n r win meas k d).1.1 * 65536 + (driftWord n r win meas k d).2.1)) ∧
      ∀ o, o < 0x10000 → (∀ k, k < m → mchA n o ≠ dlyA n r k) → o ≠ 8 →
        (driftFirst n r win meas m d).reg (mchA n o) = d.reg (mchA n o) := by
  induction m with
  | zero => exact ⟨hw, rfl, fun _ hk => absurd hk (by omega), fun _ _ _ _ => rfl⟩
  | succ m ih =>
    obtain ⟨hwf, hmem, hdone, hrest⟩ := ih (by omega)
    obtain ⟨hwf', hmem', hown, hother⟩ := driftOne_shows (win := win) (meas := meas) hn hr (k := m) (by omega) hwf
    have hsame : (driftFirst n r win meas m d).reg (dlyA n r m) = d.reg (dlyA n r m) :=
      hrest _ (by omega) (fun k hk => dlyA_ne (by omega)) (by omega)
    rw [driftFirst_succ]
    refine ⟨hwf', hmem'.trans hmem, fun k hk => ?_, fun o ho hne h8 => ?_⟩
    · by_cases hkm : k = m
      · rw [hkm, hown, driftWord_congr hsame hmem]
      · exact (hother _ (by omega) (dlyA_ne hkm) (by omega)).trans (hdone k (by omega))
    · exact (hother o ho (hne m (by omega)) h8).trans (hrest o ho (fun k hk => hne k (by omega)) h8)

theorem fieldOf_pair {a b : Nat} (ha : a < 1024) (hb : b < 1024) :
    fieldOf (BitVec.ofNat 32 (a * 65536 + b)) 16 10 = a ∧ fieldOf (BitVec.ofNat 32 (a * 65536 + b)) 0 10 = b := by
  simp only [fieldOf, bitsAt_eq, BitVec.toNat_ofNat]
  omega

/-- A pause counts, and moves each delay of its rank by one step. -/
theorem driftPause_shows {r : Nat} {meas : List Word} (hn : n < 8) (hr : r < 2) (hw : tabWf regDefault d.regs = true)
    (hst : d.chanState n = 2) (hoff : d.bit (mchA n 0) 28 = false) (hclk : mchClock d n = true) :
    (driftPause n r meas d).fld (mchA n 0x34) 0 32 = (d.fld (mchA n 0x34) 0 32 + 1) % 2 ^ 32 ∧
      ∀ k, k < 20 → (driftPause n r meas d).fld (dlyA n r k) 16 10 = (driftWord n r (d.fld (mchA n 0) 24 4) meas k d).1.1 ∧
        (driftPause n r meas d).fld (dlyA n r k) 0 10 = (driftWord n r (d.fld (mchA n 0) 24 4) meas k d).2.1 := by
  obtain ⟨hwf, -, hdone, hrest⟩ := driftFirst_shows (win := d.fld (mchA n 0) 24 4) (meas := meas) hn hr (le_refl 20) hw
  rw [driftPause_eq hst hoff hclk, ← driftFirst]
  refine ⟨?_, fun k hk => ?_⟩
  · rw [Device.fld_bump_same (by decide) hwf, Device.fld_congr (hrest 0x34 (by decide) (fun k _ => mchA_ne (by omega)) (by decide))]
  · have hreg := (Device.reg_bump_ne (lo := 0) (n := 32) (k := 1) (mchA_ne (by omega : 0x400 + 0x80 * r + 4 * k ≠ 0x34)) hwf).trans (hdone k hk)
    obtain ⟨hhi, hlo⟩ := fieldOf_pair (driftWord_lt (n := n) (r := r) (win := d.fld (mchA n 0) 24 4) (meas := meas) (d := d) (k := k)).1 driftWord_lt.2
    exact ⟨(congrArg (fieldOf · 16 10) hreg).trans hhi, (congrArg (fieldOf · 0 10) hreg).trans hlo⟩

end

/-! ### Self-refresh (R360 to R362) -/

theorem gives_selfRefreshEntry {n : Fin 8} {why : SrTrigger} :
    gives (.selfRefreshEntry n why) s (s.dev.updated (srEnter n.val why s.dev)) := liftReport_gives s _

theorem gives_selfRefreshExit {n : Fin 8} : gives (.selfRefreshExit n) s (s.dev.updated (srExit n.val s.dev)) := liftReport_gives s _

section
variable {why : SrTrigger} (hw : tabWf regDefault d.regs = true) (hc : tabWf chanReset d.mem.chans = true) (hst : d.chanState n = 2)
include hw hc hst

theorem srTrigger_shows : (srTrigger n why d).chanState n = 3 ∧ (srTrigger n why d).chan n = { d.chan n with sr := some why } ∧
    cacheOf (srTrigger n why d) n = cacheOf d n ∧ tabWf regDefault (srTrigger n why d).regs = true ∧
    tabWf chanReset (srTrigger n why d).mem.chans = true := by
  rw [srTrigger, if_pos hst]
  exact ⟨Device.chanState_setChanState hw (by decide), Device.chan_setChan hc, rfl, tabWf_tabSet _ _ _ _ hw, Device.setChan_wf hc⟩

/-- The end of an entry after which the queues are as they were. -/
theorem srEntered_shows {y : Device} (hy : y = srTrigger n why d) :
    (drainUpdate n (y.setChan n { y.chan n with sr := some why, openRow := [] })).chanState n = 3 ∧
      (drainUpdate n (y.setChan n { y.chan n with sr := some why, openRow := [] })).chan n = { d.chan n with sr := some why, openRow := [] } ∧
      tabWf regDefault (drainUpdate n (y.setChan n { y.chan n with sr := some why, openRow := [] })).regs = true := by
  obtain ⟨hstate, hchan, -, hwf, hcwf⟩ := srTrigger_shows (why := why) hw hc hst
  rw [← hy] at hstate hchan hwf hcwf
  refine ⟨?_, ?_, drainUpdate_wf (by exact hwf)⟩
  · rw [drainUpdate_chanState (by exact hwf)]
    exact hstate
  · rw [drainUpdate_chan, Device.chan_setChan hcwf, hchan]

theorem srEnter_clockFailed : srEnter n .clockFailed d = drainUpdate n ((srTrigger n .clockFailed d).setChan n
    { (srTrigger n .clockFailed d).chan n with sr := some .clockFailed, openRow := [] }) := by
  obtain ⟨hstate, -⟩ := srTrigger_shows (why := .clockFailed) hw hc hst
  simp only [srEnter, hstate]
  rfl

/-- With nothing queued and no block in the cache, a domain's entry writes nothing back. -/
theorem srEnter_domain {st : Fin 4} (hr : (d.chan n).rq = []) (hq : (d.chan n).wq = []) (hcache : cacheOf d n = []) :
    srEnter n (.domain st) d = drainUpdate n ((srTrigger n (.domain st) d).setChan n
      { (srTrigger n (.domain st) d).chan n with sr := some (.domain st), openRow := [] }) := by
  obtain ⟨hstate, hchan, hcache', -⟩ := srTrigger_shows (why := .domain st) hw hc hst
  have hserve : serveAll n (srTrigger n (.domain st) d) = srTrigger n (.domain st) d := by simp [serveAll, hchan, hr, Device.each]
  have hdrain : drainAll n (srTrigger n (.domain st) d) = srTrigger n (.domain st) d := by simp [drainAll, hchan, hq, Device.each]
  have hflush : cacheFlush n (srTrigger n (.domain st) d) = srTrigger n (.domain st) d := by simp [cacheFlush, hcache', hcache, Device.each]
  simp only [srEnter, hstate, hserve, hdrain, hflush]
  rfl

end

/-- The delays stand, the refreshes owed are done, and no write was kept. -/
theorem srExit_eq (hst : d.chanState n = 3) (hsr : (d.chan n).sr.isSome = true) (hclk : mchClock d n = true) (hf : d.forced (44 + n) = false)
    (hen : d.bit (chanCfg n) 31 = true) (hoff : d.bit (mchA n 0) 28 = true) (hc : tabWf chanReset d.mem.chans = true) (hq : (d.chan n).wq = []) :
    srExit n d = (d.setChan n { d.chan n with sr := none, debt := (d.chan n).debt.filter (fun kv => decide (kv.2 < 0)) }).setChanState n 2 := by
  have hdrain : drainAll n ((d.setChan n { d.chan n with sr := none, debt := (d.chan n).debt.filter (fun kv => decide (kv.2 < 0)) }).setChanState n 2) =
      (d.setChan n { d.chan n with sr := none, debt := (d.chan n).debt.filter (fun kv => decide (kv.2 < 0)) }).setChanState n 2 := by
    have hwq : (((d.setChan n { d.chan n with sr := none, debt := (d.chan n).debt.filter (fun kv => decide (kv.2 < 0)) }).setChanState n 2).chan n).wq = [] :=
      (congrArg MemChan.wq (Device.chan_setChan hc)).trans hq
    simp [drainAll, hwq, Device.each]
  simp only [srExit, hsr, hst, hclk, hf, hen, hoff]
  exact hdrain

end

/-- Settles O46: by the channel's table, its status register, and one equation for each command's path (the grain of a region is a field up
to 9; log 65). -/
theorem memoryCompletes : Obligations.MemoryCompletes := by
  unfold Obligations.MemoryCompletes
  rintro s n hw hc hdebt x rfl
  refine ⟨?_, ?_, ?_, ?_, ?_, ?_, ?_, ?_, ?_, ?_, ?_⟩
  · exact fun v hgrain t ht => ⟨fun hmode _ hone hoff => gives_of_eq gives_dramMapWrite (dramMapWrite_one hgrain ht hmode hone hoff),
      fun hmode => gives_of_eq gives_dramMapWrite (dramMapWrite_refused hw hmode)⟩
  · intro hon
    refine ⟨fun v hoff hen => ⟨fun hop hsr => ⟨_, gives_mchEnable hon, ?_⟩, fun hop => ⟨_, gives_mchEnable hon, ?_⟩⟩,
      fun r k v => ⟨fun hlow => gives_of_eq (gives_dlyWrite hon) (if_pos hlow), fun hhigh => gives_of_eq (gives_dlyWrite hon) (if_neg (by omega))⟩,
      fun m0 m1 hone => gives_of_eq (gives_driftPauseNow hon) (by simp [driftNow, hone]),
      fun m0 m1 htwo => gives_of_eq (gives_driftPauseNow hon) (by simp [driftNow, htwo])⟩
    · exact mchEnable_shows hw hc hon hoff hen hop hsr
    · exact mchRefused_shows hw hoff hen hop
  · exact fun delays hst hclk => ⟨gives_of_eq gives_channelTraining (chanTraining_of_seeds hst hclk),
      _, gives_of_eq gives_channelTraining (chanTraining_of_neither hst hclk), chanFailed_shows hw n.isLt⟩
  · intro rq hpos
    refine ⟨fun hst => gives_of_eq gives_mchRead (by rw [mchRead_of_refused hst]),
      fun hst hq hcredit => gives_of_eq gives_mchRead (by rw [mchRead_of_queued hpos hst hq hcredit]), fun data hlen hline hq hr hst => ?_⟩
    refine ⟨_, firstWrite s.dev n.val rq data, gives_of_eq gives_mchWrite (congrArg s.dev.updated (mchWrite_of_empty hlen hpos hline hq hr hst)), ?_⟩
    exact firstWrite_shows hc
  · exact fun legal => ⟨fun hst => gives_of_eq gives_mchSchedule (by rw [mchSchedule_of_idle hst]),
      fun hclk k hst hk hnone hdue hidle hbefore => gives_of_eq gives_mchSchedule (by rw [mchSchedule_of_due hst hclk hnone hk hdue hidle hbefore]),
      fun k hst hclk hk hfour hbefore => gives_of_eq gives_mchSchedule (by rw [mchSchedule_of_forced hst hclk hk hfour hbefore]),
      fun e hst hclk hdue hr hq hlegal => gives_of_eq gives_mchSchedule (by rw [mchSchedule_of_read hst hclk hdue hr hq hlegal])⟩
  · exact fun e hr hq hp hcls hlim => gives_of_eq gives_mchPromotion (mchPromotion_of_read hr hq hp hcls hlim)
  · intro hst
    refine ⟨_, gives_of_eq gives_refreshDebt (refreshDebt_eq hst), raiseDebts_regs, fun k hk => ?_⟩
    obtain ⟨-, -, hread⟩ := raiseDebts_debts (m := 4 * ranksOf s.dev n.val) hc hdebt
    exact (hread k).trans (if_pos hk)
  · exact fun r t => ⟨_, gives_rankTempRead, rankTemp_shows hw hc⟩
  · intro r meas hst hclk hon hoff
    obtain ⟨hcount, hmoved⟩ := driftPause_shows (r := b2n r) (meas := meas) n.isLt (by cases r <;> decide) hw hst hoff hclk
    refine ⟨_, gives_driftPause hon, hcount, fun k lo hk hlo => ?_⟩
    rcases hlo with rfl | rfl
    · exact (hmoved k hk).2
    · exact (hmoved k hk).1
  · intro hst
    refine ⟨fun st hr hq hcache => ?_, ?_⟩
    · obtain ⟨hstate, hchan, hwf⟩ := srEntered_shows (why := .domain st) hw hc hst rfl
      refine ⟨_, gives_of_eq gives_selfRefreshEntry (congrArg s.dev.updated (srEnter_domain hw hc hst hr hq hcache)), ?_, updated_chan.trans hchan⟩
      exact (updated_chanState hwf).trans hstate
    · obtain ⟨hstate, hchan, hwf⟩ := srEntered_shows (why := .clockFailed) hw hc hst rfl
      refine ⟨_, gives_of_eq gives_selfRefreshEntry (congrArg s.dev.updated (srEnter_clockFailed hw hc hst)), ?_, updated_chan.trans hchan⟩
      exact (updated_chanState hwf).trans hstate
  · intro hst hsr hclk hf hen hoff hq
    have hchan := Device.chan_setChan (n := n.val)
      (c := { s.dev.chan n.val with sr := none, debt := (s.dev.chan n.val).debt.filter (fun kv => decide (kv.2 < 0)) }) hc
    refine ⟨_, gives_of_eq gives_selfRefreshExit (congrArg s.dev.updated (srExit_eq hst hsr hclk hf hen hoff hc hq)), ?_, ?_, ?_, by rw [updated_mem]; rfl⟩
    · exact (updated_chanState (tabWf_tabSet _ _ _ _ hw)).trans (Device.chanState_setChanState (by exact hw) (by decide))
    · exact congrArg MemChan.sr (updated_chan.trans (Device.setChanState_chan.trans hchan))
    · exact congrArg MemChan.debt (updated_chan.trans (Device.setChanState_chan.trans hchan))

end Sys2Proof.Machine
end

section
/-!
The codes of a memory channel and its scrubber (14_memory_codes R370 to R373, R378 to R387).
-/
namespace Sys2Proof.Machine

section
variable {d e : Device} {s : State} {n r dev k o line : Nat} {x : MemChan} {v : Word} {f : Nat → Word}

/-! ### Marks (R370, R371, R381) -/

theorem markA_ne (ho : o < 0x810 ∨ 0x820 ≤ o) (hr : r < 2) : mchA n o ≠ markA n r := mchA_ne (by omega)

theorem eccStat_ne_markA (hr : r < 2) : eccStat n ≠ markA n r := markA_ne (by omega) hr

theorem markA_unitReg (hn : n < 8) (hr : r < 2) : unitReg (markA n r) := mchA_unitReg hn (by omega)

/-- What a mark shows: its rank's register and the channel's code status, behind a report and the copy in the record store. -/
structure MarkShown (n r : Nat) (f : Nat → Word) (e : Device) : Prop where
  mark : e.reg (markA n r) = f (markA n r)
  stat : e.reg (eccStat n) = f (eccStat n)

theorem MarkShown.of_reported {h : Half} {cls src detail : Nat} (hn : n < 8) (hr : r < 2) (he : RegsAre e f) :
    MarkShown n r f (saveMarks n r (e.fault h cls src detail)) := by
  have hkept : UnitsKept e (e.fault h cls src detail) := (UnitsKept.refl he.wf).fault
  exact ⟨(hkept.reg _ (markA_unitReg hn hr)).trans (he.reg _), (hkept.reg _ (mchA_unitReg hn (by decide))).trans (he.reg _)⟩

/-- The device of a mark counts while a pass runs. -/
theorem countMark_regs (hw : tabWf regDefault d.regs = true) (hr : r < 2) :
    ∃ f, RegsAre (if passBusy d n then d.bumpSat (mchA n 0x920) 0 8 1 else d) f ∧ f (markA n r) = d.reg (markA n r) := by
  split
  · refine ⟨_, (RegsAre.of_wf hw).setFld (a := mchA n 0x920) (lo := 0) (n := 8) (v := _), ?_⟩
    rw [fldSet_ne (markA_ne (by omega) hr).symm]
  · exact ⟨_, RegsAre.of_wf hw, rfl⟩

theorem saveMarks_bit {m a : Nat} : (saveMarks n r d).bit a m = d.bit a m := rfl

theorem gives_eccMark {n : Fin 8} {r : Bool} {dev : BitVec 5} (hon : blockStatus s.dev (44 + n.val) false = 0) :
    gives (.eccMark n r dev) s (eccMark n.val (b2n r) dev.toNat (eccFields n.val (b2n r) dev.toNat s.dev)).2 :=
  gives_of_eq (d := s.dev.atBlock (44 + n.val) false fun d => (eccMark n.val (b2n r) dev.toNat (eccFields n.val (b2n r) dev.toNat d)).2) rfl
    (atBlock_of_answers hon)

theorem gives_eccUnmark {n : Fin 8} {r : Bool} {dev : BitVec 5} (hon : blockStatus s.dev (44 + n.val) false = 0) :
    gives (.eccUnmark n r dev) s (eccUnmark n.val (b2n r) dev.toNat (eccFields n.val (b2n r) dev.toNat s.dev)).2 :=
  gives_of_eq (d := s.dev.atBlock (44 + n.val) false fun d => (eccUnmark n.val (b2n r) dev.toNat (eccFields n.val (b2n r) dev.toNat d)).2) rfl
    (atBlock_of_answers hon)

theorem gives_eccSalvage {n : Fin 8} {r : Bool} (hon : blockStatus s.dev (44 + n.val) false = 0) :
    gives (.eccSalvage n r) s (eccSalvage n.val (b2n r) (s.dev.setFld (mchA n.val 0x800) 28 1 (b2n r))).2 :=
  gives_of_eq (d := s.dev.atBlock (44 + n.val) false fun d => (eccSalvage n.val (b2n r) (d.setFld (mchA n.val 0x800) 28 1 (b2n r))).2) rfl
    (atBlock_of_answers hon)

theorem gives_eccClear {n : Fin 8} {r : Bool} (hon : blockStatus s.dev (44 + n.val) false = 0) :
    gives (.eccClearPersistent n r) s (eccClear n.val (b2n r) (s.dev.setFld (mchA n.val 0x800) 28 1 (b2n r))) :=
  gives_of_eq (d := s.dev.atBlock (44 + n.val) false fun d => eccClear n.val (b2n r) (d.setFld (mchA n.val 0x800) 28 1 (b2n r))) rfl
    (atBlock_of_answers hon)

theorem gives_salvageDone {n : Fin 8} {r : Bool} : gives (.salvageDone n r) s (salvageDone n.val (b2n r) s.dev) := rfl

/-- The fields of a command are those of MCH_ECC_CTRL. -/
theorem eccFields_regs (hw : tabWf regDefault d.regs = true) :
    RegsAre (eccFields n r dev d) (fldSet (fldSet d.reg (mchA n 0x800) 28 1 r) (mchA n 0x800) 23 5 dev) :=
  ((RegsAre.of_wf hw).setFld).setFld

theorem eccFields_reg (hw : tabWf regDefault d.regs = true) (ho : o ≠ 0x800) : (eccFields n r dev d).reg (mchA n o) = d.reg (mchA n o) := by
  rw [(eccFields_regs hw).reg, fldSet_ne (mchA_ne ho), fldSet_ne (mchA_ne ho)]

section
variable (hn : n < 8) (hr : r < 2) (hdev : dev ≤ 19) (hw : tabWf regDefault d.regs = true) (hnot : d.bit (markA n r) 31 = false)
include hn hr hdev hw hnot

/-- The first mark of a rank. -/
theorem markDevice_first (h0 : d.bit (markA n r) 7 = false) (h1 : d.bit (markA n r) 15 = false) :
    marks (markDevice n r dev d) n r = [dev] ∧ (markDevice n r dev d).bit (eccStat n) 2 = true := by
  obtain ⟨f, hf, hmark⟩ := countMark_regs (n := n) hw hr
  have h7 : (if passBusy d n then d.bumpSat (mchA n 0x920) 0 8 1 else d).bit (markA n r) 7 = false :=
    (Device.bit_congr ((hf.reg _).trans hmark)).trans h0
  have hrun : markDevice n r dev d = saveMarks n r (((((if passBusy d n then d.bumpSat (mchA n 0x920) 0 8 1 else d).setFld (markA n r) 0 5
      dev).setBit (markA n r) 7).setBit (eccStat n) 2).fault (halfOf (n / 4)) 0x31 (n * 65536 + r * 256 + dev) 0) := by
    simp [markDevice, retired, marks, hnot, h0, h1, h7]
  obtain ⟨hreg, hstat⟩ := MarkShown.of_reported (h := halfOf (n / 4)) (cls := 0x31) (src := n * 65536 + r * 256 + dev) (detail := 0) hn hr
    (((hf.setFld (a := markA n r) (lo := 0) (n := 5) (v := dev)).setBit (a := markA n r) (k := 7)).setBit (a := eccStat n) (k := 2))
  rw [fldSet_ne (eccStat_ne_markA hr).symm, fldSet_self, fldSet_self, hmark] at hreg
  rw [fldSet_self] at hstat
  rw [hrun]
  refine ⟨?_, ?_⟩
  · have hbit7 : fieldOf (withField (withField (d.reg (markA n r)) 0 5 dev) 7 1 1) 7 1 = 1 := fieldOf_withField_same _ _ _ _ (by decide)
    have hdev0 : fieldOf (withField (withField (d.reg (markA n r)) 0 5 dev) 7 1 1) 0 5 = dev := by
      rw [fieldOf_withField_ne _ _ _ _ _ _ (by decide) (by decide), fieldOf_withField_same _ _ _ _ (by decide)]
      omega
    have hbit15 : fieldOf (withField (withField (d.reg (markA n r)) 0 5 dev) 7 1 1) 15 1 = fieldOf (d.reg (markA n r)) 15 1 := by
      rw [fieldOf_withField_ne _ _ _ _ _ _ (by decide) (by decide), fieldOf_withField_ne _ _ _ _ _ _ (by decide) (by decide)]
    have h1' : ¬ fieldOf (d.reg (markA n r)) 15 1 = 1 := by simpa [Device.bit, Device.fld] using h1
    simp [marks, Device.bit, Device.fld, hreg, hbit7, hdev0, hbit15, h1']
  · rw [Device.bit_eq_fieldOf, hstat, fieldOf_withField_same _ _ _ _ (by decide)]
    rfl

/-- A third mark retires the rank. -/
theorem markDevice_third (h0 : d.bit (markA n r) 7 = true) (h1 : d.bit (markA n r) 15 = true) (hne0 : dev ≠ d.fld (markA n r) 0 5)
    (hne1 : dev ≠ d.fld (markA n r) 8 5) :
    retired (markDevice n r dev d) n r = true ∧ (markDevice n r dev d).fld (markA n r) 16 5 = dev ∧
      (markDevice n r dev d).bit (eccStat n) 3 = true := by
  obtain ⟨f, hf, hmark⟩ := countMark_regs (n := n) hw hr
  have hsame {k : Nat} : (if passBusy d n then d.bumpSat (mchA n 0x920) 0 8 1 else d).bit (markA n r) k = d.bit (markA n r) k :=
    Device.bit_congr ((hf.reg _).trans hmark)
  have hrun : markDevice n r dev d = saveMarks n r ((((((if passBusy d n then d.bumpSat (mchA n 0x920) 0 8 1 else d).setFld (markA n r) 16 5
      dev).setBit (markA n r) 23).setBit (markA n r) 31).setBit (eccStat n) 3).fault (halfOf (n / 4)) 0x32 (n * 65536 + r * 256 + dev) dev) := by
    simp [markDevice, retired, marks, hnot, h0, h1, hne0, hne1, hsame]
  obtain ⟨hreg, hstat⟩ := MarkShown.of_reported (h := halfOf (n / 4)) (cls := 0x32) (src := n * 65536 + r * 256 + dev) (detail := dev) hn hr
    ((((hf.setFld (a := markA n r) (lo := 16) (n := 5) (v := dev)).setBit (a := markA n r) (k := 23)).setBit (a := markA n r) (k := 31)).setBit
      (a := eccStat n) (k := 3))
  rw [fldSet_ne (eccStat_ne_markA hr).symm, fldSet_self, fldSet_self, fldSet_self, hmark] at hreg
  rw [fldSet_self] at hstat
  rw [hrun]
  refine ⟨?_, ?_, ?_⟩
  · rw [retired, Device.bit_eq_fieldOf, hreg, fieldOf_withField_same _ _ _ _ (by decide)]
    rfl
  · rw [Device.fld, hreg, fieldOf_withField_ne _ _ _ _ _ _ (by decide) (by decide), fieldOf_withField_ne _ _ _ _ _ _ (by decide) (by decide),
      fieldOf_withField_same _ _ _ _ (by decide)]
    omega
  · rw [Device.bit_eq_fieldOf, hstat, fieldOf_withField_same _ _ _ _ (by decide)]
    rfl

end

theorem eccMark_of_device (hdev : dev ≤ 19) : (eccMark n r dev d).2 = markDevice n r dev d := by
  rw [eccMark, if_neg (by omega)]

theorem eccMark_refused (hdev : 19 < dev) : (eccMark n r dev d).2 = eccCmdErr n d := by
  rw [eccMark, if_pos hdev]

theorem eccCmdErr_shows (hw : tabWf regDefault d.regs = true) (hr : r < 2) :
    (eccCmdErr n d).bit (eccStat n) 5 = true ∧ (eccCmdErr n d).reg (markA n r) = d.reg (markA n r) :=
  ⟨Device.bit_setBit_same (by decide) hw, Device.reg_setBit_ne (eccStat_ne_markA hr).symm hw⟩

/-- The first mark is freed. -/
theorem unmarkDevice_first (hw : tabWf regDefault d.regs = true) (hnot : d.bit (markA n r) 31 = false) (h0 : d.bit (markA n r) 7 = true)
    (hdev : d.fld (markA n r) 0 5 = dev) :
    (unmarkDevice n r dev d).bit (markA n r) 7 = false ∧ (unmarkDevice n r dev d).bit (markA n r) 15 = d.bit (markA n r) 15 := by
  have hrun : unmarkDevice n r dev d = saveMarks n r ((d.putBit (markA n r) 7 false).setFld (markA n r) 0 5 0) := by
    simp [unmarkDevice, retired, h0, hdev, hnot]
  have hregs := ((RegsAre.of_wf hw).putBit (a := markA n r) (k := 7) (b := false)).setFld (a := markA n r) (lo := 0) (n := 5) (v := 0)
  have hreg : (unmarkDevice n r dev d).reg (markA n r) = withField (withField (d.reg (markA n r)) 7 1 0) 0 5 0 := by
    rw [hrun]
    exact (hregs.reg _).trans (by rw [fldSet_self, fldSet_self]; rfl)
  refine ⟨?_, ?_⟩
  · rw [Device.bit_eq_fieldOf, hreg, fieldOf_withField_ne _ _ _ _ _ _ (by decide) (by decide), fieldOf_withField_same _ _ _ _ (by decide)]
    rfl
  · rw [Device.bit_eq_fieldOf, hreg, fieldOf_withField_ne _ _ _ _ _ _ (by decide) (by decide),
      fieldOf_withField_ne _ _ _ _ _ _ (by decide) (by decide)]
    rfl

theorem eccUnmark_of_allowed (hdev : dev ≤ 19) (hst : d.chanState n ≤ 1) (hs : salvaged d n r = false) :
    (eccUnmark n r dev d).2 = unmarkDevice n r dev d := by
  have hok : ¬ (dev > 19 ∨ d.chanState n > 1 ∨ salvaged d n r = true) := by
    rw [hs]
    simp
    omega
  rw [eccUnmark, if_neg hok]

/-! ### Salvage (R381) -/

theorem eccSalvage_of_retired (h31 : d.bit (markA n r) 31 = true) (h30 : d.bit (markA n r) 30 = false) (h29 : d.bit (markA n r) 29 = false) :
    (eccSalvage n r d).2 = saveMarks n r (d.setBit (markA n r) 29) := by
  simp [eccSalvage, retired, salvaged, h31, h30, h29]

theorem salvageDone_of_none (h29 : d.bit (markA n r) 29 = false) : salvageDone n r d = d := by
  simp [salvageDone, h29]

/-- With no wrong symbol stored, the conversion clears the request and marks the rank salvaged. -/
theorem salvageDone_shows (hw : tabWf regDefault d.regs = true) (hsym : d.mem.symErr = []) (h29 : d.bit (markA n r) 29 = true) :
    salvaged (salvageDone n r d) n r = true ∧ (salvageDone n r d).bit (markA n r) 29 = false := by
  have hregs := ((RegsAre.of_wf hw).putBit (a := markA n r) (k := 29) (b := false)).setBit (a := markA n r) (k := 30)
  have hrun : (salvageDone n r d).regs = ((d.putBit (markA n r) 29 false).setBit (markA n r) 30).regs := by
    simp only [salvageDone, h29, hsym, List.filter_nil, Device.each_nil]
    rfl
  have hreg : (salvageDone n r d).reg (markA n r) = withField (withField (d.reg (markA n r)) 29 1 0) 30 1 1 := by
    rw [Device.reg_congr hrun, hregs.reg, fldSet_self, fldSet_self]
    rfl
  refine ⟨?_, ?_⟩
  · rw [salvaged, Device.bit_eq_fieldOf, hreg, fieldOf_withField_same _ _ _ _ (by decide)]
    rfl
  · rw [Device.bit_eq_fieldOf, hreg, fieldOf_withField_ne _ _ _ _ _ _ (by decide) (by decide), fieldOf_withField_same _ _ _ _ (by decide)]
    rfl

/-! ### Counters cleared (R373) -/

/-- Registers set to 0 one after the other. -/
theorem RegsAre.each_zero {g : Nat → Nat} {xs : List Nat} (h : RegsAre e f) :
    RegsAre (e.each xs fun d k => d.setReg (g k) 0) fun a => if a ∈ xs.map g then 0 else f a := by
  induction xs generalizing e f with
  | nil => simpa [Device.each] using h
  | cons k xs ih =>
    have hrest := ih (h.setReg (a := g k) (w := 0))
    refine ⟨hrest.wf, fun a => (hrest.reg a).trans ?_⟩
    by_cases ha : a = g k
    · simp [ha]
    · simp [ha]

theorem eccClear_shows (hw : tabWf regDefault d.regs = true) (hc : tabWf chanReset d.mem.chans = true) :
    (∀ k, k < 5 → (eccClear n r d).reg (mchA n (0x840 + 0x20 * r + 4 * k)) = 0) ∧
      ((eccClear n r d).chan n).counted = tabDrop (fun k => k / 20 == r) (d.chan n).counted := by
  have hbase : RegsAre (d.setChan n { d.chan n with counted := tabDrop (fun k => k / 20 == r) (d.chan n).counted }) d.reg :=
    (RegsAre.of_wf hw).congr rfl
  refine ⟨fun k hk => ?_, ?_⟩
  · rw [eccClear, (hbase.each_zero (g := fun k => mchA n (0x840 + 0x20 * r + 4 * k))).reg]
    exact if_pos (List.mem_map_of_mem (List.mem_range.mpr hk))
  · have hchan : (eccClear n r d).chan n = (d.setChan n { d.chan n with counted := tabDrop (fun k => k / 20 == r) (d.chan n).counted }).chan n :=
      Device.each_keeps (f := fun (d : Device) k => d.setReg (mchA n (0x840 + 0x20 * r + 4 * k)) 0) (fun d => d.chan n) (fun _ _ => rfl) _ _
    rw [hchan, Device.chan_setChan hc]

/-! ### Scrubbing (R378, R379, R386) -/

theorem gives_patrolScrub {n : Fin 8} : gives (.patrolScrub n) s (s.dev.updated (patrolScrub n.val s.dev)) := liftReport_gives s _
theorem gives_scrubPassLine {n : Fin 8} : gives (.scrubPassLine n) s (s.dev.updated (passLine n.val s.dev)) := liftReport_gives s _

theorem gives_scrubPassStart {n : Fin 8} (hon : blockStatus s.dev (44 + n.val) false = 0) :
    gives (.scrubPassStart n) s (passStart n.val s.dev).2 :=
  gives_of_eq (d := s.dev.atBlock (44 + n.val) false fun d => (passStart n.val d).2) rfl (atBlock_of_answers hon)

theorem gives_scrubPassStop {n : Fin 8} (hon : blockStatus s.dev (44 + n.val) false = 0) :
    gives (.scrubPassStop n) s (passStop n.val s.dev) :=
  gives_of_eq (d := s.dev.atBlock (44 + n.val) false (passStop n.val)) rfl (atBlock_of_answers hon)

theorem rankOf_lt {l : Nat} : rankOf d n l < 2 := by
  unfold rankOf
  split
  · rw [bitsAt_eq]
    omega
  · decide

section
variable (h0 : salvaged d n 0 = false) (h1 : salvaged d n 1 = false)
include h0 h1

theorem not_salvaged (hr : r < 2) : salvaged d n r = false := by
  obtain rfl | rfl : r = 0 ∨ r = 1 := by omega
  · exact h0
  · exact h1

theorem skipVoid_of_plain : skipVoid d n line = line := by
  simp [skipVoid, voidLine, not_salvaged h0 h1 rankOf_lt]

/-- A clean line that no queued write changes is left as it is. -/
theorem scrubLine_of_clean (hq : (d.chan n).wq = []) (hclean : decodeLine d n line = .clean) : scrubLine n line d = (.clean, d) := by
  have hissue : issueLine n line d = d := by simp [issueLine, entryFor_of_empty hq]
  simp [scrubLine, hissue, readLine, not_salvaged h0 h1 rankOf_lt, hclean]

theorem patrolScrub_of_clean (hst : d.chanState n = 2) (hclk : mchClock d n = true) (hen : d.bit (mchA n 0x900) 28 = true)
    (hbusy : passBusy d n = false) (hq : (d.chan n).wq = []) (hclean : decodeLine d n (d.chan n).patrol = .clean)
    (hmore : (d.chan n).patrol + 1 < chanLines d n) : patrolScrub n d = d.setChan n { d.chan n with patrol := (d.chan n).patrol + 1 } := by
  have hin : ¬ (d.chan n).patrol ≥ chanLines d n := by omega
  have hin' : ¬ (d.chan n).patrol + 1 ≥ chanLines d n := by omega
  simp [patrolScrub, hst, hclk, hen, hbusy, skipVoid_of_plain h0 h1, hin, scrubLine_of_clean h0 h1 hq hclean, hin']

/-- A pass counts a clean line and goes on. -/
theorem passLine_of_clean (hpass : (d.chan n).pass = some line) (hst : d.chanState n = 2) (hclk : mchClock d n = true) (hq : (d.chan n).wq = [])
    (hclean : decodeLine d n line = .clean) (hmore : line < d.fld (mchA n 0x90C) 0 29) : passLine n d =
      passElapsed n ((d.bump (mchA n 0x910) 0 32 1).setChan n { d.chan n with pass := some (line + 1) }) := by
  have hin : ¬ line > d.fld (mchA n 0x90C) 0 29 := by omega
  have hin' : ¬ line + 1 > d.fld (mchA n 0x90C) 0 29 := by omega
  have hstop : ¬ (d.chanState n ≠ 2 ∨ !mchClock d n) := by simp [hst, hclk]
  simp only [passLine, hpass, hstop, if_false, skipVoid_of_plain h0 h1, hin, scrubLine_of_clean h0 h1 hq hclean, hin']
  rfl

end

theorem patrolScrub_of_pass (hbusy : passBusy d n = true) : patrolScrub n d = d := by
  simp [patrolScrub, hbusy]

@[simp] theorem passElapsed_mem : (passElapsed n d).mem = d.mem := rfl
theorem passElapsed_chan : (passElapsed n d).chan n = d.chan n := rfl
theorem passElapsed_wf (hw : tabWf regDefault d.regs = true) : tabWf regDefault (passElapsed n d).regs = true := tabWf_tabSet _ _ _ _ hw

theorem passElapsed_reg (ho : o ≠ 0x91C) (hw : tabWf regDefault d.regs = true) : (passElapsed n d).reg (mchA n o) = d.reg (mchA n o) :=
  Device.reg_setFld_ne (mchA_ne ho) hw

theorem passCounted_shows (hw : tabWf regDefault d.regs = true) (hc : tabWf chanReset d.mem.chans = true) {y : Device} :
    let t := y.updated (passElapsed n ((d.bump (mchA n 0x910) 0 32 1).setChan n x))
    t.chan n = x ∧ t.fld (mchA n 0x910) 0 32 = (d.fld (mchA n 0x910) 0 32 + 1) % 2 ^ 32 ∧ t.mem.dram = d.mem.dram := by
  have hwf : tabWf regDefault ((d.bump (mchA n 0x910) 0 32 1).setChan n x).regs = true := tabWf_tabSet _ _ _ _ hw
  refine ⟨?_, ?_, by rw [updated_mem, passElapsed_mem]; rfl⟩
  · rw [updated_chan, passElapsed_chan]
    exact Device.chan_setChan (d := d.bump (mchA n 0x910) 0 32 1) hc
  · rw [Device.fld_congr (updated_reg (a := mchA n 0x910) _ (passElapsed_wf hwf) stateReg_mchA),
      Device.fld_congr (passElapsed_reg (by decide) hwf)]
    exact Device.fld_bump_same (by decide) hw

/-! #### Passes -/

theorem Device.setBit_chan {a : Nat} : (d.setBit a k).chan n = d.chan n := rfl
theorem Device.putBit_chan {a : Nat} {b : Bool} : (d.putBit a k b).chan n = d.chan n := rfl

/-- The pass and its counters at the start. -/
def passCleared (n : Nat) (d : Device) : Device :=
  (d.setChan n { d.chan n with pass := some (d.fld (mchA n 0x908) 0 29), passAt := d.now (halfOf (n / 4)) }).each
    [0x910, 0x914, 0x918, 0x91C, 0x920] fun d o => d.setReg (mchA n o) 0

theorem passStart_accepted (hbusy : passBusy d n = false) (hst : d.chanState n = 2)
    (hbase : d.fld (mchA n 0x908) 0 29 ≤ d.fld (mchA n 0x90C) 0 29) : (passStart n d).2 = (passCleared n d).setBit (scrubStat n) 31 := by
  have hno : ¬ d.fld (mchA n 0x908) 0 29 > d.fld (mchA n 0x90C) 0 29 := by omega
  simp only [passStart, hbusy, hst, hno]
  rfl

theorem passStarted_shows (hw : tabWf regDefault d.regs = true) (hc : tabWf chanReset d.mem.chans = true) :
    passBusy ((passCleared n d).setBit (scrubStat n) 31) n = true ∧
      (((passCleared n d).setBit (scrubStat n) 31).chan n).pass = some (d.fld (mchA n 0x908) 0 29) ∧
      ((passCleared n d).setBit (scrubStat n) 31).reg (mchA n 0x910) = 0 := by
  have hbase : RegsAre (d.setChan n { d.chan n with pass := some (d.fld (mchA n 0x908) 0 29), passAt := d.now (halfOf (n / 4)) }) d.reg :=
    (RegsAre.of_wf hw).congr rfl
  have hregs := hbase.each_zero (g := mchA n) (xs := [0x910, 0x914, 0x918, 0x91C, 0x920])
  have hchan : (passCleared n d).chan n =
      (d.setChan n { d.chan n with pass := some (d.fld (mchA n 0x908) 0 29), passAt := d.now (halfOf (n / 4)) }).chan n :=
    Device.each_keeps (f := fun (d : Device) o => d.setReg (mchA n o) 0) (fun d => d.chan n) (fun _ _ => rfl) _ _
  refine ⟨Device.bit_setBit_same (by decide) hregs.wf, ?_, ?_⟩
  · rw [Device.setBit_chan, hchan, Device.chan_setChan hc]
  · refine (Device.reg_setBit_ne (mchA_ne (by decide)) hregs.wf).trans ((hregs.reg _).trans ?_)
    exact if_pos (by simp)

theorem passStart_refused (hbusy : passBusy d n = false) (hst : d.chanState n = 2) (hbase : d.fld (mchA n 0x90C) 0 29 < d.fld (mchA n 0x908) 0 29) :
    (passStart n d).2 = d.setBit (scrubStat n) 28 := by
  simp [passStart, hbusy, hst, hbase]

theorem passStop_of_idle (hbusy : passBusy d n = false) : passStop n d = d := by
  simp [passStop, hbusy]

theorem passStop_of_busy (hbusy : passBusy d n = true) : passStop n d = ((((passElapsed n d).setChan n
    { d.chan n with pass := none }).putBit (scrubStat n) 31 false).setBit (scrubStat n) 30).setBit (scrubStat n) 29 := by
  rw [passStop, if_pos hbusy]
  rfl

theorem passStop_shows (hw : tabWf regDefault d.regs = true) (hc : tabWf chanReset d.mem.chans = true) (hbusy : passBusy d n = true) :
    passBusy (passStop n d) n = false ∧ (passStop n d).bit (scrubStat n) 30 = true ∧ (passStop n d).bit (scrubStat n) 29 = true ∧
      ((passStop n d).chan n).pass = none := by
  have hbase : RegsAre ((passElapsed n d).setChan n { d.chan n with pass := none }) (passElapsed n d).reg :=
    (RegsAre.of_wf (passElapsed_wf hw)).congr rfl
  have hregs := ((hbase.putBit (a := scrubStat n) (k := 31) (b := false)).setBit (a := scrubStat n) (k := 30)).setBit (a := scrubStat n) (k := 29)
  have hchan : ((passElapsed n d).setChan n { d.chan n with pass := none }).chan n = { d.chan n with pass := none } := Device.chan_setChan hc
  have hreg := hregs.reg (scrubStat n)
  simp only [fldSet_self] at hreg
  rw [passStop_of_busy hbusy]
  refine ⟨?_, ?_, ?_, by rw [Device.setBit_chan, Device.setBit_chan, Device.putBit_chan, hchan]⟩
  · rw [passBusy, ← scrubStat, Device.bit_eq_fieldOf, hreg, fieldOf_withField_ne _ _ _ _ _ _ (by decide) (by decide),
      fieldOf_withField_ne _ _ _ _ _ _ (by decide) (by decide), fieldOf_withField_same _ _ _ _ (by decide)]
    rfl
  · rw [Device.bit_eq_fieldOf, hreg, fieldOf_withField_ne _ _ _ _ _ _ (by decide) (by decide), fieldOf_withField_same _ _ _ _ (by decide)]
    rfl
  · rw [Device.bit_eq_fieldOf, hreg, fieldOf_withField_same _ _ _ _ (by decide)]
    rfl

/-! ### Injection and the repeat table (R383, R385, R387) -/

theorem gives_mchInjectArm {n : Fin 8} {mc : MClass} {v : BitVec 32} (hon : blockStatus s.dev (44 + n.val) false = 0) :
    gives (.mchInjectArm n mc v) s (injectArm n.val mc v s.dev) :=
  gives_of_eq (d := s.dev.atBlock (44 + n.val) false (injectArm n.val mc v)) rfl (atBlock_of_answers hon)

theorem gives_rptIdxWrite {n : Fin 8} {k : BitVec 8} (hon : blockStatus s.dev (44 + n.val) false = 0) :
    gives (.rptIdxWrite n k) s (rptIdxWrite n.val k.toNat s.dev) :=
  gives_of_eq (d := s.dev.atBlock (44 + n.val) false (rptIdxWrite n.val k.toNat)) rfl (atBlock_of_answers hon)

theorem rptIdxWrite_of_entry {e : Repeat} (he : rptGet (d.chan n) k = some e) : rptIdxWrite n k d =
    ((d.setReg (mchA n 0x880) (BitVec.ofNat 32 k)).setReg (mchA n 0x884) (BitVec.ofNat 32 (2 ^ 31 + e.line % 2 ^ 29))).setReg (mchA n 0x888)
      (BitVec.ofNat 32 (e.count * 2 ^ 28 + e.rewrites * 2 ^ 26 + b2n e.persistent * 2 ^ 25 + e.dev * 2 ^ 20)) := by
  have he' : rptGet ((d.setReg (mchA n 0x880) (BitVec.ofNat 32 k)).chan n) k = some e := he
  simp only [rptIdxWrite, he']

theorem rptIdxWrite_of_none (he : rptGet (d.chan n) k = none) : rptIdxWrite n k d =
    ((d.setReg (mchA n 0x880) (BitVec.ofNat 32 k)).setReg (mchA n 0x884) 0).setReg (mchA n 0x888) 0 := by
  have he' : rptGet ((d.setReg (mchA n 0x880) (BitVec.ofNat 32 k)).chan n) k = none := he
  simp only [rptIdxWrite, he']

theorem rptIdxWrite_shows (hw : tabWf regDefault d.regs = true) {e : Repeat} (he : rptGet (d.chan n) k = some e) :
    (rptIdxWrite n k d).bit (mchA n 0x884) 31 = true ∧ (rptIdxWrite n k d).fld (mchA n 0x884) 0 29 = e.line % 2 ^ 29 ∧
      (rptIdxWrite n k d).mem = d.mem := by
  have hwf := Device.setReg_wf d (mchA n 0x880) (BitVec.ofNat 32 k) hw
  have hreg : (rptIdxWrite n k d).reg (mchA n 0x884) = BitVec.ofNat 32 (2 ^ 31 + e.line % 2 ^ 29) := by
    rw [rptIdxWrite_of_entry he]
    exact (Device.reg_setReg_ne _ _ _ _ (mchA_ne (by decide)) (Device.setReg_wf _ _ _ hwf)).trans (Device.reg_setReg_same _ _ _ hwf)
  refine ⟨?_, ?_, by rw [rptIdxWrite_of_entry he]; rfl⟩
  · rw [Device.bit_eq_fieldOf, hreg, fieldOf, bitsAt_eq, BitVec.toNat_ofNat, beq_iff_eq]
    omega
  · rw [Device.fld, hreg, fieldOf, bitsAt_eq, BitVec.toNat_ofNat]
    omega

theorem rptIdxWrite_none_shows (hw : tabWf regDefault d.regs = true) (he : rptGet (d.chan n) k = none) :
    (rptIdxWrite n k d).reg (mchA n 0x884) = 0 ∧ (rptIdxWrite n k d).reg (mchA n 0x888) = 0 := by
  have hwf := Device.setReg_wf d (mchA n 0x880) (BitVec.ofNat 32 k) hw
  rw [rptIdxWrite_of_none he]
  exact ⟨(Device.reg_setReg_ne _ _ _ _ (mchA_ne (by decide)) (Device.setReg_wf _ _ _ hwf)).trans (Device.reg_setReg_same _ _ _ hwf),
    Device.reg_setReg_same _ _ _ (Device.setReg_wf _ _ _ hwf)⟩

end

/-- Settles O47: by the marks' register of a rank, the scrubber's status, and the channel's table. -/
theorem eccCompletes : Obligations.EccCompletes := by
  unfold Obligations.EccCompletes
  rintro s n hw hc x rfl
  refine ⟨?_, ?_, ?_, ?_, ?_, ?_, ?_⟩
  · rintro hon r a rfl
    have hr : b2n r < 2 := by cases r <;> decide
    refine ⟨fun dev hdev => ⟨fun hnot h0 h1 => ?_, fun hnot h0 h1 hne0 hne1 => ?_, fun hst hs hnot h0 hm => ?_⟩, fun dev hdev => ?_,
      fun h31 h30 h29 => ?_, _, gives_eccClear hon, ?_⟩
    · have hwf : tabWf regDefault (eccFields n.val (b2n r) dev.toNat s.dev).regs = true := (eccFields_regs hw).wf
      have hbit {k : Nat} : (eccFields n.val (b2n r) dev.toNat s.dev).bit (markA n.val (b2n r)) k = s.dev.bit (markA n.val (b2n r)) k :=
        Device.bit_congr (eccFields_reg hw (by omega))
      exact ⟨_, gives_of_eq (gives_eccMark hon) (eccMark_of_device hdev),
        markDevice_first n.isLt hr hdev hwf (hbit.trans hnot) (hbit.trans h0) (hbit.trans h1)⟩
    · have hwf : tabWf regDefault (eccFields n.val (b2n r) dev.toNat s.dev).regs = true := (eccFields_regs hw).wf
      have hreg : (eccFields n.val (b2n r) dev.toNat s.dev).reg (markA n.val (b2n r)) = s.dev.reg (markA n.val (b2n r)) :=
        eccFields_reg hw (by omega)
      exact ⟨_, gives_of_eq (gives_eccMark hon) (eccMark_of_device hdev),
        markDevice_third n.isLt hr hdev hwf ((Device.bit_congr hreg).trans hnot) ((Device.bit_congr hreg).trans h0)
          ((Device.bit_congr hreg).trans h1) (fun h => hne0 (h.trans (Device.fld_congr hreg))) (fun h => hne1 (h.trans (Device.fld_congr hreg)))⟩
    · have hwf : tabWf regDefault (eccFields n.val (b2n r) dev.toNat s.dev).regs = true := (eccFields_regs hw).wf
      have hreg : (eccFields n.val (b2n r) dev.toNat s.dev).reg (markA n.val (b2n r)) = s.dev.reg (markA n.val (b2n r)) :=
        eccFields_reg hw (by omega)
      have hstate : (eccFields n.val (b2n r) dev.toNat s.dev).chanState n.val = s.dev.chanState n.val :=
        Device.fld_congr (eccFields_reg hw (by decide))
      obtain ⟨hfree, hother⟩ := unmarkDevice_first (dev := dev.toNat) hwf ((Device.bit_congr hreg).trans hnot) ((Device.bit_congr hreg).trans h0)
        ((Device.fld_congr hreg).trans hm)
      exact ⟨_, gives_of_eq (gives_eccUnmark hon) (eccUnmark_of_allowed hdev (by rwa [hstate]) ((Device.bit_congr hreg).trans hs)), hfree,
        hother.trans (Device.bit_congr hreg)⟩
    · have hwf : tabWf regDefault (eccFields n.val (b2n r) dev.toNat s.dev).regs = true := (eccFields_regs hw).wf
      obtain ⟨hflag, hkept⟩ := eccCmdErr_shows (n := n.val) hwf hr
      exact ⟨_, gives_of_eq (gives_eccMark hon) (eccMark_refused hdev), hflag, hkept.trans (eccFields_reg hw (by omega))⟩
    · have hwf : tabWf regDefault (s.dev.setFld (mchA n.val 0x800) 28 1 (b2n r)).regs = true := tabWf_tabSet _ _ _ _ hw
      have hbit {k : Nat} : (s.dev.setFld (mchA n.val 0x800) 28 1 (b2n r)).bit (markA n.val (b2n r)) k = s.dev.bit (markA n.val (b2n r)) k :=
        Device.bit_congr (Device.reg_setFld_ne (mchA_ne (by omega)) hw)
      refine ⟨_, gives_of_eq (gives_eccSalvage hon) (eccSalvage_of_retired (hbit.trans h31) (hbit.trans h30) (hbit.trans h29)), ?_, ?_⟩
      · exact saveMarks_bit.trans (Device.bit_setBit_same (by decide) hwf)
      · exact saveMarks_bit.trans ((Device.bit_congr (Device.reg_setBit_ne (eccStat_ne_markA hr) hwf)).trans
          (Device.bit_congr (Device.reg_setFld_ne (mchA_ne (by decide)) hw)))
    · have hwf : tabWf regDefault (s.dev.setFld (mchA n.val 0x800) 28 1 (b2n r)).regs = true := tabWf_tabSet _ _ _ _ hw
      exact eccClear_shows hwf hc
  · exact fun r hsym h29 => ⟨_, gives_salvageDone, salvageDone_shows hw hsym h29⟩
  · intro r h29
    have hgives := gives_of_eq (gives_salvageDone (s := s) (n := n) (r := r)) (salvageDone_of_none h29)
    exact hgives
  · exact fun hst hclk hen hbusy hq h0 h1 hclean hmore => gives_of_eq gives_patrolScrub
      (by rw [patrolScrub_of_clean h0 h1 hst hclk hen hbusy hq hclean hmore])
  · exact fun hbusy => gives_of_eq gives_patrolScrub (by rw [patrolScrub_of_pass hbusy])
  · intro hon
    refine ⟨fun hbusy hst => ⟨fun hbase => ?_, fun hbase => gives_of_eq (gives_scrubPassStart hon) (passStart_refused hbusy hst hbase)⟩,
      fun hbusy => ?_, fun hbusy => gives_of_eq (gives_scrubPassStop hon) (passStop_of_idle hbusy),
      fun mc v => ⟨fun hmc => gives_of_eq (gives_mchInjectArm hon) (if_pos hmc),
        fun h2 h3 => gives_of_eq (gives_mchInjectArm hon) (if_neg (by omega))⟩,
      fun k e he => ⟨_, gives_rptIdxWrite hon, rptIdxWrite_shows hw he⟩,
      fun k he => ⟨_, gives_rptIdxWrite hon, rptIdxWrite_none_shows hw he⟩⟩
    · exact ⟨_, gives_of_eq (gives_scrubPassStart hon) (passStart_accepted hbusy hst hbase), passStarted_shows hw hc⟩
    · exact ⟨_, gives_scrubPassStop hon, passStop_shows hw hc hbusy⟩
  · exact fun line hpass hst hclk hq h0 h1 hclean hmore => ⟨_, gives_of_eq gives_scrubPassLine
      (congrArg s.dev.updated (passLine_of_clean h0 h1 hpass hst hclk hq hclean hmore)), passCounted_shows hw hc⟩

end Sys2Proof.Machine
end

section
/-!
The Lining: opening, closing and re-keying ranges, and their sweeps (15_lining R389 to R391, R400, R405, R592, R593).
-/
namespace Sys2Proof.Machine

section
variable {d e : Device} {s : State} {i j n k o line : Nat} {mode : Bool} {f : Nat → Word}

/-! ### Registers of a range (R592) -/

theorem rngA_ne {o' : Nat} (ho : o % 32 ≠ o' % 32) : rngA j o ≠ rngA i o' := by
  unfold rngA linA
  omega

theorem rngA_ne_linA : rngA j o ≠ linA 0 := by
  unfold rngA linA
  omega

theorem mchA_ne_linA (hn : n < 8) (ho : o < 0x10000) : mchA n o ≠ linA 0 := by
  unfold mchA linA
  omega

theorem stateReg_rngA : stateReg (rngA i o) = false := by
  refine stateReg_eq_false.mpr ⟨?_, ?_⟩ <;> unfold rngA linA thmA <;> omega

section
variable (hw : tabWf regDefault d.regs = true)
include hw

theorem rngState_setRngState {st : Nat} (hst : st < 8) : rngState (setRngState i st d) i = st :=
  (Device.fld_setFld_same _ _ _ _ _ (by decide) hw).trans (Nat.mod_eq_of_lt hst)

theorem rngSel_setRngState {st : Nat} : rngSel (setRngState i st d) i = rngSel d i := Device.bit_setFld_ne (by decide) (by decide) hw

theorem rngState_putSel {b : Bool} : rngState (d.putBit (rngA i 0x14) 28 b) i = rngState d i :=
  Device.fld_putBit_ne (by decide) (by decide) hw

theorem rngSel_putSel {b : Bool} : rngSel (d.putBit (rngA i 0x14) 28 b) i = b := Device.bit_putBit_same (by decide) hw

theorem setRngState_wf {st : Nat} : tabWf regDefault (setRngState i st d).regs = true := tabWf_tabSet _ _ _ _ hw

/-- A sweep shows its boundary in two registers of its range. -/
theorem setSweep_reg {x : Option Sweep} (ho : o % 32 < 0x18) : (setSweep i x d).reg (rngA j o) = d.reg (rngA j o) := by
  cases x with
  | none => rfl
  | some sw =>
    exact (Device.reg_setFld_ne (rngA_ne (by omega)) (tabWf_tabSet _ _ _ _ hw)).trans (Device.reg_setFld_ne (rngA_ne (by omega)) hw)

theorem setSweep_wf {x : Option Sweep} : tabWf regDefault (setSweep i x d).regs = true := by
  cases x with
  | none => exact hw
  | some sw => exact tabWf_tabSet _ _ _ _ (tabWf_tabSet _ _ _ _ hw)

theorem rngState_setSweep {x : Option Sweep} : rngState (setSweep i x d) j = rngState d j := Device.fld_congr (setSweep_reg hw (by decide))
theorem rngSel_setSweep {x : Option Sweep} : rngSel (setSweep i x d) j = rngSel d j := Device.bit_congr (setSweep_reg hw (by decide))

theorem updated_rngState : rngState (e.updated d) i = rngState d i := Device.fld_congr (updated_reg _ hw stateReg_rngA)

end

theorem setSweep_mem {x : Option Sweep} : (setSweep i x d).mem = { d.mem with sweeps := tabSet noSweep d.mem.sweeps i x } := by
  cases x <;> rfl

theorem sweepOf_setSweep {x : Option Sweep} (hs : tabWf noSweep d.mem.sweeps = true) : sweepOf (setSweep i x d) i = x := by
  rw [sweepOf, setSweep_mem]
  exact tabGet_tabSet_same _ _ _ _ hs

theorem updated_sweepOf : sweepOf (e.updated d) i = sweepOf d i := by rw [sweepOf, updated_mem]; rfl

theorem setKey_keys {key : Option Nat} (hk : tabWf noKey d.mem.keys = true) : tabGet noKey (setKey i key d).mem.keys i = key :=
  tabGet_tabSet_same _ _ _ _ hk

/-! ### Commands of the Lining (R389, R391, R405) -/

theorem gives_liningOpen {i : Fin 16} : gives (.liningOpen i mode) s (liningOpen i.val mode (linFields i.val mode s.dev)).2 := rfl
theorem gives_liningClose {i : Fin 16} : gives (.liningClose i mode) s (liningClose i.val mode (linFields i.val mode s.dev)).2 := rfl
theorem gives_liningRekey {i : Fin 16} : gives (.liningRekey i) s (liningRekey i.val (s.dev.setFld (linA 0) 0 4 i.val)).2 := rfl

/-! #### The fields of LIN_CTRL -/

section
variable (hw : tabWf regDefault d.regs = true)
include hw

theorem linFields_wf : tabWf regDefault (linFields i mode d).regs = true := tabWf_tabSet _ _ _ _ (tabWf_tabSet _ _ _ _ hw)

theorem linFields_reg {a : Nat} (ha : a ≠ linA 0) : (linFields i mode d).reg a = d.reg a :=
  (Device.reg_setFld_ne ha (tabWf_tabSet _ _ _ _ hw)).trans (Device.reg_putBit_ne ha hw)

theorem linFields_fld {a lo m : Nat} (ha : a ≠ linA 0) : (linFields i mode d).fld a lo m = d.fld a lo m := Device.fld_congr (linFields_reg hw ha)
theorem linFields_bit {a m : Nat} (ha : a ≠ linA 0) : (linFields i mode d).bit a m = d.bit a m := Device.bit_congr (linFields_reg hw ha)

theorem linFields_state : rngState (linFields i mode d) j = rngState d j := linFields_fld hw (rngA_ne_linA)

theorem linFields_base : rngBase (linFields i mode d) j = rngBase d j := by
  simp only [rngBase, linFields_fld hw (rngA_ne_linA)]

end

/-! #### What decides that a range is valid -/

theorem regionChans_lt {k c : Nat} (hc : c ∈ regionChans d k) : c < 8 := List.mem_range.mp (List.mem_filter.mp hc).1

theorem partner_lt (hn : n < 8) : partner n < 8 := Nat.xor_lt_two_pow (n := 3) hn (by decide)

theorem regionAt_lt {a k : Nat} (h : regionAt d a = some k) : k < 2 := by
  unfold regionAt at h
  split at h
  · obtain rfl := Option.some_inj.mp h
    decide
  · split at h
    · obtain rfl := Option.some_inj.mp h
      decide
    · exact absurd h (by simp)

section
variable (hmap : ∀ k, k < 2 → e.reg (mapReg k) = d.reg (mapReg k)) (hch : ∀ n o, n < 8 → o < 0x10000 → e.reg (mchA n o) = d.reg (mchA n o))
include hch

theorem chanCap_congr (hn : n < 8) : chanCap e n = chanCap d n := by
  have hdensity : e.density32 n = d.density32 n := Device.bit_congr (hch n 4 hn (by decide))
  have hranks : e.twoRanks n = d.twoRanks n := by
    rw [Device.twoRanks, Device.twoRanks, hdensity, chanCfg, Device.bit_congr (hch n 4 hn (by decide))]
  rw [chanCap, chanCap, hdensity, hranks]

theorem metaOn_congr (hn : n < 8) : metaOn e n = metaOn d n := Device.bit_congr (hch n 0xC00 hn (by decide))

theorem chanState_congr (hn : n < 8) : e.chanState n = d.chanState n := Device.fld_congr (hch n 8 hn (by decide))

include hmap

omit hch in
theorem regionChans_congr {k : Nat} (hk : k < 2) : regionChans e k = regionChans d k := by
  simp only [regionChans, Device.fld_congr (hmap k hk)]

theorem regionSize_congr {k : Nat} (hk : k < 2) : regionSize e k = regionSize d k := by
  have hcap : chanCap e ((regionChans d k).headD 0) = chanCap d ((regionChans d k).headD 0) := by
    refine chanCap_congr hch ?_
    cases hl : regionChans d k with
    | nil => decide
    | cons c cs => exact regionChans_lt (d := d) (k := k) (by rw [hl]; exact List.mem_cons_self)
  rw [regionSize, regionSize, regionOn, regionOn, regionW, regionW, regionChans_congr hmap hk, Device.bit_congr (hmap k hk), hcap]

theorem regionAt_congr {a : Nat} : regionAt e a = regionAt d a := by
  rw [regionAt, regionAt, regionSize_congr hmap hch (by decide : 0 < 2), regionSize_congr hmap hch (by decide : 1 < 2)]

theorem rangeValid_congr (hrng : ∀ i o, e.reg (rngA i o) = d.reg (rngA i o)) : rangeValid e i = rangeValid d i := by
  have hbase (j : Nat) : rngBase e j = rngBase d j := by
    rw [rngBase, rngBase, Device.fld_congr (hrng j 0), Device.fld_congr (hrng j 4)]
  have hlimit (j : Nat) : rngLimit e j = rngLimit d j := by
    rw [rngLimit, rngLimit, Device.fld_congr (hrng j 8), Device.fld_congr (hrng j 0xC)]
  have hstate (j : Nat) : rngState e j = rngState d j := Device.fld_congr (hrng j _)
  have hapart : (fun j => j == i || rngState e j == 0 || decide (rngLimit d i < rngBase e j ∨ rngLimit e j < rngBase d i)) =
      fun j => j == i || rngState d j == 0 || decide (rngLimit d i < rngBase d j ∨ rngLimit d j < rngBase d i) := by
    funext j
    rw [hbase, hlimit, hstate]
  -- unfolded as a function: the kernel would evaluate the region of an applied one
  have hfun : (rangeValid : Device → Nat → Bool) = rangeValid := rfl
  conv at hfun => rhs; delta rangeValid
  rw [hfun]
  beta_reduce
  rw [hbase i, hlimit i]
  extract_lets b l
  rw [regionAt_congr hmap hch]
  cases hk : regionAt d b with
  | none => rfl
  | some k =>
    have hk2 := regionAt_lt hk
    have hall (n : Nat) (hn : n ∈ regionChans d k) : (metaOn e n && metaOn e (partner n) && chanCap e (partner n) == chanCap e n
        && e.bit (chanCfg (partner n)) 31 && partnerServes e n && e.chanState n == 2) = (metaOn d n && metaOn d (partner n) &&
          chanCap d (partner n) == chanCap d n && d.bit (chanCfg (partner n)) 31 && partnerServes d n && d.chanState n == 2) := by
      have hn8 := regionChans_lt hn
      have hp8 := partner_lt hn8
      have hcfg : e.bit (chanCfg (partner n)) 31 = d.bit (chanCfg (partner n)) 31 := Device.bit_congr (hch _ 4 hp8 (by decide))
      rw [metaOn_congr hch hn8, metaOn_congr hch hp8, chanCap_congr hch hn8, chanCap_congr hch hp8, hcfg, partnerServes, partnerServes,
        chanState_congr hch hn8, chanState_congr hch hp8]
    have hgrain : regionG e k = regionG d k := by rw [regionG, regionG, Device.fld_congr (hmap k hk2)]
    have hwidth : regionW e k = regionW d k := by rw [regionW, regionW, regionChans_congr hmap hk2]
    dsimp only
    rw [hgrain, hwidth, regionAt_congr hmap hch, regionChans_congr hmap hk2, hapart]
    congr 1
    rw [Bool.eq_iff_iff, List.all_eq_true, List.all_eq_true]
    exact forall₂_congr fun n hn => by rw [hall n hn]

end

theorem linFields_rangeValid (hw : tabWf regDefault d.regs = true) : rangeValid (linFields i mode d) j = rangeValid d j := by
  refine rangeValid_congr (fun k hk => linFields_reg hw ?_) (fun n o hn ho => linFields_reg hw (mchA_ne_linA hn ho))
    (fun _ _ => linFields_reg hw rngA_ne_linA)
  unfold mapReg thmA linA
  omega

/-! #### Opening -/

/-- Range i under a new key. -/
def rangeKeyed (i : Nat) (d : Device) : Device :=
  { setKey i (some d.mem.nextKey) d with mem := { (setKey i (some d.mem.nextKey) d).mem with nextKey := d.mem.nextKey + 1 } }

/-- The sweep of a command, from the range's base. -/
def sweepFromBase (kind : SweepKind) (d : Device) (i old : Nat) : Sweep :=
  { kind := kind, start := rngBase d i, pos := rngBase d i, wrapped := false, oldKey := old }

theorem liningOpen_of_busy (hbusy : linBusy d i = true) : (liningOpen i mode d).2 = d := by simp [liningOpen, hbusy]
theorem liningClose_of_busy (hbusy : linBusy d i = true) : (liningClose i mode d).2 = d := by simp [liningClose, hbusy]

theorem linBusy_of_state {st : Nat} (hst : rngState d i = st) (h1 : st ≠ 1) (h3 : st ≠ 3) (h4 : st ≠ 4) : linBusy d i = false := by
  simp [linBusy, hst, h1, h3, h4]

theorem liningOpen_of_open (hst : rngState d i = 2) : (liningOpen i mode d).2 = linCmdErr d := by
  simp [liningOpen, linBusy_of_state hst, hst]

theorem liningOpen_invalid (hst : rngState d i = 0) (hv : rangeValid d i = false) : (liningOpen i mode d).2 = d := by
  simp [liningOpen, linBusy_of_state hst, hst, hv]

theorem liningOpen_valid (hst : rngState d i = 0) (hv : rangeValid d i = true) : (liningOpen i mode d).2 =
    setSweep i (some (sweepFromBase (if mode then .adopt else .zero)
        ((setRngState i 1 (rangeKeyed i (clearBlocks i d))).putBit (rngA i 0x14) 28 false) i 0))
      ((setRngState i 1 (rangeKeyed i (clearBlocks i d))).putBit (rngA i 0x14) 28 false) := by
  have hbusy : linBusy d i = false := linBusy_of_state hst (by decide) (by decide) (by decide)
  have hzero : ¬ rngState d i ≠ 0 := not_not.mpr hst
  simp only [liningOpen, hbusy, hzero, hv, Bool.not_true, Bool.false_eq_true, if_false]
  rfl

/-- The base of a range stands where no register of the range below 0x10 changes. -/
theorem rngBase_congr (h0 : e.reg (rngA i 0) = d.reg (rngA i 0)) (h4 : e.reg (rngA i 4) = d.reg (rngA i 4)) : rngBase e i = rngBase d i := by
  rw [rngBase, rngBase, Device.fld_congr h0, Device.fld_congr h4]

theorem rngBase_setRngState (hw : tabWf regDefault d.regs = true) {st : Nat} : rngBase (setRngState i st d) i = rngBase d i :=
  rngBase_congr (Device.reg_setFld_ne (rngA_ne (by decide)) hw) (Device.reg_setFld_ne (rngA_ne (by decide)) hw)

theorem rngBase_putSel (hw : tabWf regDefault d.regs = true) {b : Bool} : rngBase (d.putBit (rngA i 0x14) 28 b) i = rngBase d i :=
  rngBase_congr (Device.reg_putBit_ne (rngA_ne (by decide)) hw) (Device.reg_putBit_ne (rngA_ne (by decide)) hw)

section
variable (hw : tabWf regDefault d.regs = true) (hs : tabWf noSweep d.mem.sweeps = true) (hk : tabWf noKey d.mem.keys = true)
include hw hs hk

/-- An opened range: initialising, epoch 0, under the next key, with its sweep at the base. -/
theorem opened_shows {kind : SweepKind} :
    let y := (setRngState i 1 (rangeKeyed i (clearBlocks i d))).putBit (rngA i 0x14) 28 false
    let t := setSweep i (some (sweepFromBase kind y i 0)) y
    rngState t i = 1 ∧ rngSel t i = false ∧ tabGet noKey t.mem.keys i = some d.mem.nextKey ∧ t.mem.nextKey = d.mem.nextKey + 1 ∧
      sweepOf t i = some (sweepFromBase kind d i 0) := by
  have hw1 : tabWf regDefault (rangeKeyed i (clearBlocks i d)).regs = true := hw
  have hw2 := setRngState_wf (i := i) (st := 1) hw1
  have hw3 : tabWf regDefault ((setRngState i 1 (rangeKeyed i (clearBlocks i d))).putBit (rngA i 0x14) 28 false).regs = true :=
    tabWf_tabSet _ _ _ _ hw2
  have hbase : rngBase ((setRngState i 1 (rangeKeyed i (clearBlocks i d))).putBit (rngA i 0x14) 28 false) i = rngBase d i :=
    (rngBase_putSel hw2).trans (rngBase_setRngState hw1)
  refine ⟨?_, ?_, ?_, ?_, ?_⟩
  · rw [rngState_setSweep hw3, rngState_putSel hw2, rngState_setRngState hw1 (by decide)]
  · rw [rngSel_setSweep hw3, rngSel_putSel hw2]
  · rw [setSweep_mem]
    exact setKey_keys (d := clearBlocks i d) hk
  · rw [setSweep_mem]
    rfl
  · rw [sweepOf_setSweep (by exact hs), sweepFromBase, hbase]
    rfl

end

/-! #### Closing -/

theorem liningClose_of_closed (hst : rngState d i = 0) : (liningClose i mode d).2 = linCmdErr d := by
  simp [liningClose, linBusy_of_state hst, hst]

theorem liningClose_of_lost (hst : rngState d i = 5) : (liningClose i mode d).2 = setRngState i 0 (setKey i none d) := by
  simp [liningClose, linBusy_of_state hst, hst]

theorem liningClose_of_open (hst : rngState d i = 2) : (liningClose i mode d).2 =
    setSweep i (some (sweepFromBase (if mode then .reveal else .discard) d i 0)) (setRngState i 4 (if mode then d else setKey i none d)) := by
  have hbusy : linBusy d i = false := linBusy_of_state hst (by decide) (by decide) (by decide)
  have h0 : ¬ (2 : Nat) = 0 := by decide
  have h5 : ¬ (2 : Nat) = 5 := by decide
  simp only [liningClose, hbusy, hst, h0, h5, Bool.false_eq_true, if_false]
  rfl

section
variable (hw : tabWf regDefault d.regs = true) (hs : tabWf noSweep d.mem.sweeps = true) (hk : tabWf noKey d.mem.keys = true)
include hw hs hk

theorem closed_shows {x : Option Sweep} :
    let t := setSweep i x (setRngState i 4 (if mode then d else setKey i none d))
    rngState t i = 4 ∧ tabGet noKey t.mem.keys i = (if mode then tabGet noKey d.mem.keys i else none) ∧ sweepOf t i = x := by
  have hw1 : tabWf regDefault (if mode then d else setKey i none d).regs = true := by cases mode <;> exact hw
  refine ⟨?_, ?_, ?_⟩
  · rw [rngState_setSweep (setRngState_wf hw1), rngState_setRngState hw1 (by decide)]
  · rw [setSweep_mem]
    cases mode
    · exact setKey_keys hk
    · rfl
  · exact sweepOf_setSweep (by cases mode <;> exact hs)

omit hs in
theorem lost_shows : rngState (setRngState i 0 (setKey i none d)) i = 0 ∧ tabGet noKey (setRngState i 0 (setKey i none d)).mem.keys i = none := by
  have hwf : tabWf regDefault (setKey i none d).regs = true := hw
  exact ⟨rngState_setRngState hwf (by decide), setKey_keys hk⟩

/-! #### Re-keying -/

theorem rekeyStart_shows {a : Nat} :
    rngState (rekeyStart i a d) i = 3 ∧ rngSel (rekeyStart i a d) i = !rngSel d i ∧
      tabGet noKey (rekeyStart i a d).mem.keys i = some d.mem.nextKey ∧
      sweepOf (rekeyStart i a d) i = some { kind := .rekey, start := a, pos := a, wrapped := false, oldKey := keyOf d i } := by
  have hw1 : tabWf regDefault (rangeKeyed i d).regs = true := hw
  have hw2 := setRngState_wf (i := i) (st := 3) hw1
  have hw3 : tabWf regDefault ((setRngState i 3 (rangeKeyed i d)).putBit (rngA i 0x14) 28 (!rngSel (rangeKeyed i d) i)).regs = true :=
    tabWf_tabSet _ _ _ _ hw2
  have hrun : rekeyStart i a d = setSweep i (some { kind := .rekey, start := a, pos := a, wrapped := false, oldKey := keyOf d i })
      ((setRngState i 3 (rangeKeyed i d)).putBit (rngA i 0x14) 28 (!rngSel (rangeKeyed i d) i)) := rfl
  rw [hrun]
  refine ⟨?_, ?_, ?_, sweepOf_setSweep (by exact hs)⟩
  · rw [rngState_setSweep hw3, rngState_putSel hw2, rngState_setRngState hw1 (by decide)]
  · rw [rngSel_setSweep hw3, rngSel_putSel hw2]
    rfl
  · rw [setSweep_mem]
    exact setKey_keys hk

end

theorem liningRekey_of_open (hst : rngState d i = 2) : (liningRekey i d).2 = rekeyStart i (rngBase d i) d := by
  simp [liningRekey, linBusy_of_state hst, hst]

/-! ### Sweeps (R391, R593) -/

theorem gives_sweepLine {i : Fin 16} : gives (.sweepLine i) s (s.dev.updated (sweepLine i.val s.dev)) := liftReport_gives s _

theorem sweepLine_of_none (hnone : sweepOf d i = none) : sweepLine i d = d := by simp [sweepLine, hnone]

section
variable {sw : Sweep} {l : Nat} (hsw : sweepOf d i = some sw) (hdec : dramDecode d sw.pos = some (n, l))
include hsw hdec

theorem sweepLine_of_idle (hst : d.chanState n ≠ 2) : sweepLine i d = d := by
  simp [sweepLine, hsw, hdec, hst]

section
variable (hsafe : d.safeCause = 0) (hst : d.chanState n = 2) (hok : (sweepAct i sw n (l / 128) d).sys.integrity = false)
include hsafe hst hok

theorem sweepLine_of_next {sw' : Sweep} (hnext : sweepNext (sweepAct i sw n (l / 128) d) i sw = some sw') :
    sweepLine i d = setSweep i (some sw') (sweepAct i sw n (l / 128) d) := by
  simp [sweepLine, hsw, hdec, hsafe, hst, hok, hnext]

theorem sweepLine_of_last (hnext : sweepNext (sweepAct i sw n (l / 128) d) i sw = none) :
    sweepLine i d = sweepDone i sw.kind (sweepAct i sw n (l / 128) d) := by
  simp [sweepLine, hsw, hdec, hsafe, hst, hok, hnext]

end

end

theorem integrity_of_safe (hsafe : d.safeCause = 0) : d.sys.integrity = false := by
  unfold Device.safeCause at hsafe
  cases h : d.sys.integrity
  · rfl
  · rw [h] at hsafe
    exact absurd hsafe (by simp [b2n])

/-! #### The cache (R397) -/

/-- A value that is not the default reads back, whatever the table. -/
theorem tabGet_tabSet_of_ne {α : Type} [DecidableEq α] {df : Nat → α} {t : Tab α} {v : α} (hv : v ≠ df k) :
    tabGet df (tabSet df t k v) k = v := by
  induction t with
  | nil => simp [tabSet, hv, tabGet]
  | cons p t ih =>
    simp only [tabSet, hv, if_false]
    split
    · simp [tabGet]
    · split
      · simp [tabGet]
      · next hne => simp [tabGet, Ne.symm hne, ih]

theorem cacheTouch_length {st : Nat} : (cacheOf (cacheTouch n k st d) n).length ≤ (cacheOf d n).length + 1 := by
  have hread : cacheOf (cacheTouch n k st d) n = _ := tabGet_tabSet_of_ne (by simp [cacheNone])
  rw [hread, List.length_cons]
  exact Nat.add_le_add_right (List.length_filter_le ..) 1

theorem touchBlocks_length : (cacheOf (touchBlocks n line d) n).length ≤ (cacheOf d n).length + 2 :=
  Nat.le_trans cacheTouch_length (Nat.add_le_add_right cacheTouch_length 1)

theorem cacheTrim_of_room {fuel : Nat} (hroom : (cacheOf d n).length ≤ 2048) : cacheTrim fuel n d = d := by
  cases fuel with
  | zero => rfl
  | succ fuel => rw [cacheTrim, if_pos hroom]

/-- What a line's blocks and tag become in a sweep, while the cache has room. -/
theorem cacheTrim_touchBlocks (hroom : (cacheOf d n).length ≤ 2046) :
    cacheTrim 16 n (touchBlocks n line (dropTagBad n line d)) = touchBlocks n line (dropTagBad n line d) :=
  cacheTrim_of_room (Nat.le_trans touchBlocks_length (by exact Nat.add_le_add_right hroom 2))

/-- The line's blocks in the cache, its tag no longer bad: registers, modes and DRAM are as they were. -/
def touched (n line : Nat) (d : Device) : Device := touchBlocks n line (dropTagBad n line d)

theorem touched_regs : (touched n line d).regs = d.regs := rfl
theorem touched_sys : (touched n line d).sys = d.sys := rfl
theorem touched_dram : (touched n line d).mem.dram = d.mem.dram := rfl
theorem touched_sweeps : (touched n line d).mem.sweeps = d.mem.sweeps := rfl

theorem sweepAct_discard {sw : Sweep} (hroom : (cacheOf d n).length ≤ 2046) (hkind : sw.kind = .discard) :
    sweepAct i sw n line d = touched n line d := by
  simp only [sweepAct, hkind, cacheTrim_touchBlocks hroom, touched]

/-- The line that an opening sweep reaches becomes zeros. -/
theorem sweepAct_zero {sw : Sweep} (hroom : (cacheOf d n).length ≤ 2046) (hkind : sw.kind = .zero) (hsw : sweepOf d i = some sw)
    (hmix : mixOf d n line = none) : ∃ m, sweepAct i sw n line d = setMix n line m (storeLine n line (List.replicate 128 0) false (touched n line d)) := by
  have htrim : cacheTrim 16 n (touchBlocks n line (dropTagBad n line d)) = touched n line d := cacheTrim_touchBlocks hroom
  refine ⟨some (mixNow (touched n line d) i n line), ?_⟩
  simp only [sweepAct, hkind, initLine, hmix, hsw, htrim, Bool.false_eq_true, if_false]
  rfl

theorem storeLine_dram {bs : List Byte} : (storeLine n line bs false d).mem.dram = memWrites d.mem.dram (2 ^ 36 * n + 128 * line) (bs.take 128) := rfl
theorem storeLine_sys {bs : List Byte} : (storeLine n line bs false d).sys = d.sys := rfl

theorem setMix_dram {m : Option MixInfo} : (setMix n line m d).mem.dram = d.mem.dram := rfl
theorem setMix_sys {m : Option MixInfo} : (setMix n line m d).sys = d.sys := rfl

theorem queuedStart_dram : (queuedStart i d).mem.dram = d.mem.dram := by
  unfold queuedStart rekeyStart
  split
  · simp only [setSweep_mem]
    rfl
  · rfl

theorem sweepDone_zero_dram : (sweepDone i .zero d).mem.dram = d.mem.dram := by
  rw [sweepDone, queuedStart_dram]
  rfl

theorem setSweep_dram {x : Option Sweep} : (setSweep i x d).mem.dram = d.mem.dram := by rw [setSweep_mem]

section
variable {sw : Sweep} {l : Nat} (hsw : sweepOf d i = some sw) (hdec : dramDecode d sw.pos = some (n, l)) (hsafe : d.safeCause = 0)
  (hst : d.chanState n = 2) (hroom : (cacheOf d n).length ≤ 2046)
include hsw hdec hsafe hst hroom

/-- A zeroing sweep writes its line, and no other byte. -/
theorem sweepLine_zero_dram (hkind : sw.kind = .zero) (hmix : mixOf d n (l / 128) = none) :
    (sweepLine i d).mem.dram = memWrites d.mem.dram (2 ^ 36 * n + 128 * (l / 128)) (List.replicate 128 0) := by
  obtain ⟨m, hact⟩ := sweepAct_zero hroom hkind hsw hmix
  have hdram : (sweepAct i sw n (l / 128) d).mem.dram = memWrites d.mem.dram (2 ^ 36 * n + 128 * (l / 128)) (List.replicate 128 0) := by
    rw [hact, setMix_dram, storeLine_dram, touched_dram, List.take_replicate]
    rfl
  have hok : (sweepAct i sw n (l / 128) d).sys.integrity = false := by
    rw [hact, setMix_sys, storeLine_sys, touched_sys, integrity_of_safe hsafe]
  cases hnext : sweepNext (sweepAct i sw n (l / 128) d) i sw with
  | some sw' => rw [sweepLine_of_next hsw hdec hsafe hst hok hnext, setSweep_dram, hdram]
  | none => rw [sweepLine_of_last hsw hdec hsafe hst hok hnext, hkind, sweepDone_zero_dram, hdram]

section
variable (hkind : sw.kind = .discard)
include hkind

omit hsw hdec hsafe hst hroom in
theorem sweepNext_discard {y : Device} (hregs : y.regs = d.regs) : sweepNext y i sw =
    if sw.pos + 128 > rngLimit d i then none else some { sw with pos := sw.pos + 128 } := by
  have hlimit : rngLimit y i = rngLimit d i := by
    rw [rngLimit, rngLimit, Device.fld_congr (Device.reg_congr hregs), Device.fld_congr (Device.reg_congr hregs)]
  simp [sweepNext, hkind, hlimit]

theorem sweepLine_discard_goes_on (hmore : sw.pos + 128 ≤ rngLimit d i) :
    sweepLine i d = setSweep i (some { sw with pos := sw.pos + 128 }) (touched n (l / 128) d) := by
  have hact := sweepAct_discard (i := i) (line := l / 128) hroom hkind
  have hok : (sweepAct i sw n (l / 128) d).sys.integrity = false := by rw [hact, touched_sys, integrity_of_safe hsafe]
  have hnext : sweepNext (sweepAct i sw n (l / 128) d) i sw = some { sw with pos := sw.pos + 128 } := by
    rw [hact, sweepNext_discard hkind touched_regs, if_neg (by omega)]
  rw [sweepLine_of_next hsw hdec hsafe hst hok hnext, hact]

theorem sweepLine_discard_ends (hlast : rngLimit d i < sw.pos + 128) :
    sweepLine i d = setRngState i 0 (clearBlocks i (setSweep i none (touched n (l / 128) d))) := by
  have hact := sweepAct_discard (i := i) (line := l / 128) hroom hkind
  have hok : (sweepAct i sw n (l / 128) d).sys.integrity = false := by rw [hact, touched_sys, integrity_of_safe hsafe]
  have hnext : sweepNext (sweepAct i sw n (l / 128) d) i sw = none := by
    rw [hact, sweepNext_discard hkind touched_regs, if_pos (by omega)]
  rw [sweepLine_of_last hsw hdec hsafe hst hok hnext, hact, hkind, sweepDone]

end

end

theorem clearBlocks_regs : (clearBlocks i d).regs = d.regs := rfl
theorem clearBlocks_sweepOf : sweepOf (clearBlocks i d) i = sweepOf d i := rfl
theorem setRngState_sweepOf {st : Nat} : sweepOf (setRngState i st d) i = sweepOf d i := rfl

/-! ### Mirrors (R400) -/

theorem gives_mirrorRetry {n : Fin 8} : gives (.mirrorRetry n) s (s.dev.updated (mirrorRetry n.val s.dev)) := liftReport_gives s _

end

/-- Settles O48: by the status register, the key and the sweep of a range (log 109: a command is refused as its columns say). -/
theorem liningCompletes : Obligations.LiningCompletes := by
  unfold Obligations.LiningCompletes
  intro s i hw hs hk
  refine ⟨?_, ?_, ?_, ?_, ?_, ?_, ?_, ?_⟩
  · rintro mode d rfl
    have hwf : tabWf regDefault (linFields i.val mode s.dev).regs = true := linFields_wf hw
    have hstate {st : Nat} (h : rngState s.dev i.val = st) : rngState (linFields i.val mode s.dev) i.val = st := (linFields_state hw).trans h
    have hbase : ∀ kind, sweepFromBase kind (linFields i.val mode s.dev) i.val 0 = sweepFromBase kind s.dev i.val 0 := fun kind => by
      rw [sweepFromBase, linFields_base hw, sweepFromBase]
    refine ⟨fun hst hv => ?_, fun hst hv => ?_, fun hbusy => ?_, fun hst => gives_of_eq gives_liningOpen (liningOpen_of_open (hstate hst)),
      fun hst => gives_of_eq gives_liningClose (liningClose_of_closed (hstate hst)), fun hst => ?_, fun hst => ?_⟩
    · obtain ⟨h1, h2, h3, h4, h5⟩ := opened_shows (i := i.val) (d := linFields i.val mode s.dev)
        (kind := if mode then .adopt else .zero) hwf hs hk
      exact ⟨_, gives_of_eq gives_liningOpen (liningOpen_valid (hstate hst) ((linFields_rangeValid hw).trans hv)), h1, h2, h3, h4,
        h5.trans (congrArg some (hbase _))⟩
    · exact gives_of_eq gives_liningOpen (liningOpen_invalid (hstate hst) ((linFields_rangeValid hw).trans hv))
    · have hbusy' : linBusy (linFields i.val mode s.dev) i.val = true := by rwa [linBusy, linFields_state hw, ← linBusy]
      exact ⟨gives_of_eq gives_liningOpen (liningOpen_of_busy hbusy'), gives_of_eq gives_liningClose (liningClose_of_busy hbusy')⟩
    · exact ⟨_, gives_of_eq gives_liningClose (liningClose_of_lost (hstate hst)), lost_shows hwf hk⟩
    · obtain ⟨h1, h2, h3⟩ := closed_shows (mode := mode) (i := i.val) (d := linFields i.val mode s.dev)
        (x := some (sweepFromBase (if mode then .reveal else .discard) (linFields i.val mode s.dev) i.val 0)) hwf hs hk
      exact ⟨_, gives_of_eq gives_liningClose (liningClose_of_open (hstate hst)), h1, h2, h3.trans (congrArg some (hbase _))⟩
  · intro hst
    have hwf : tabWf regDefault (s.dev.setFld (linA 0) 0 4 i.val).regs = true := tabWf_tabSet _ _ _ _ hw
    have hreg (o : Nat) : (s.dev.setFld (linA 0) 0 4 i.val).reg (rngA i.val o) = s.dev.reg (rngA i.val o) := Device.reg_setFld_ne rngA_ne_linA hw
    obtain ⟨h1, h2, h3, h4⟩ := rekeyStart_shows (i := i.val) (a := rngBase (s.dev.setFld (linA 0) 0 4 i.val) i.val) hwf hs hk
    refine ⟨_, gives_of_eq gives_liningRekey (liningRekey_of_open ((Device.fld_congr (hreg 0x14)).trans hst)), h1,
      h2.trans (congrArg (!·) (Device.bit_congr (hreg 0x14))), h3, h4.trans ?_⟩
    rw [rngBase_congr (hreg 0) (hreg 4)]
    rfl
  · exact fun hnone => gives_of_eq gives_sweepLine (by rw [sweepLine_of_none hnone])
  · intro sw n l hsw hkind hdec hsafe hst hroom
    refine ⟨fun hmore => ?_, fun hlast => ?_⟩
    · have hwf : tabWf regDefault (touched n (l / 128) s.dev).regs = true := by rwa [touched_regs]
      refine ⟨_, gives_of_eq gives_sweepLine (congrArg s.dev.updated (sweepLine_discard_goes_on hsw hdec hsafe hst hroom hkind hmore)), ?_, ?_, ?_⟩
      · rw [updated_sweepOf, sweepOf_setSweep (by rwa [touched_sweeps])]
      · exact (updated_rngState (setSweep_wf hwf)).trans (rngState_setSweep hwf)
      · rw [updated_mem, setSweep_dram, touched_dram]
    · have hwf : tabWf regDefault (clearBlocks i.val (setSweep i.val none (touched n (l / 128) s.dev))).regs = true := by
        rw [clearBlocks_regs]
        exact setSweep_wf (by rwa [touched_regs])
      refine ⟨_, gives_of_eq gives_sweepLine (congrArg s.dev.updated (sweepLine_discard_ends hsw hdec hsafe hst hroom hkind hlast)), ?_, ?_⟩
      · rw [updated_sweepOf, setRngState_sweepOf, clearBlocks_sweepOf, sweepOf_setSweep (by rwa [touched_sweeps])]
      · exact (updated_rngState (setRngState_wf hwf)).trans (rngState_setRngState hwf (by decide))
  · intro sw n l hsw hkind hdec hsafe hst hroom hmix hdw
    have hdram := sweepLine_zero_dram hsw hdec hsafe hst hroom hkind hmix
    have hzeros := memReads_memWrites s.dev.mem.dram (2 ^ 36 * n + 128 * (l / 128)) (List.replicate 128 0) hdw
    rw [List.length_replicate] at hzeros
    refine ⟨_, gives_sweepLine, ?_, fun a ha => ?_⟩
    · rw [Device.lineBytes, updated_mem, hdram, hzeros]
    · rw [updated_mem, hdram, memRead_memWrites_outside _ _ _ _ hdw (by rw [List.length_replicate]; omega)]
  · exact fun sw n l hsw hdec hst => gives_of_eq gives_sweepLine (by rw [sweepLine_of_idle hsw hdec hst])
  · exact fun n k hone => gives_of_eq gives_mirrorRetry (by rw [mirrorRetry, hone, Device.each_singleton])
  · exact fun n hnone => gives_of_eq gives_mirrorRetry (by rw [mirrorRetry, hnone, Device.each_nil])

end Sys2Proof.Machine
end

section
/-!
The Shuttle engines: doorbells and kicks, contexts, queue commands, the shadow set and a plain descriptor from its fetch to its record's
answer (16_shuttle_dma R412 to R432).
-/
namespace Sys2Proof.Machine

section
variable {d e : Device} {s : State} {n q idx mc op rel : Nat} {h : Half} {sl : CtxSlot} {c : Ctx} {y : Desc} {v : BitVec 64}
  {rest : List (BitVec 64 × Nat)} {bs : List Byte} {m : Requester}

/-! ### Registers and the state of an engine -/

theorem shtA_inj {o o' : Nat} (he : shtA n o = shtA n o') : o = o' := by
  unfold shtA at he
  omega

theorem shtA_ne {o o' : Nat} (ho : o ≠ o') : shtA n o ≠ shtA n o' := fun he => ho (shtA_inj he)

theorem stateReg_shtA {o : Nat} (hn : n < 16) (ho : o < 0x10000) : stateReg (shtA n o) = false := by
  refine stateReg_eq_false.mpr ⟨?_, ?_⟩ <;> unfold shtA thmA <;> omega

theorem Device.setReg_shuttle {a k : Nat} {w : Word} : (d.setReg a w).shuttle k = d.shuttle k := rfl
theorem Device.setFld_shuttle {a k lo b w : Nat} : (d.setFld a lo b w).shuttle k = d.shuttle k := rfl
theorem Device.setBit_shuttle {a k b : Nat} : (d.setBit a b).shuttle k = d.shuttle k := rfl
theorem Device.putBit_shuttle {a k b : Nat} {t : Bool} : (d.putBit a b t).shuttle k = d.shuttle k := rfl
theorem Device.setReg_engines {a : Nat} {w : Word} : (d.setReg a w).sht.engines = d.sht.engines := rfl

theorem Device.shuttle_setShuttle {x : Shuttle} (hs : tabWf shtReset d.sht.engines = true) : (d.setShuttle n x).shuttle n = x :=
  tabGet_tabSet_same _ _ _ _ hs

/-- The status register counts the descriptors in flight; the other registers stay. -/
theorem Device.reg_setShuttle {o : Nat} {x : Shuttle} (ho : o ≠ 4) (hw : tabWf regDefault d.regs = true) :
    (d.setShuttle n x).reg (shtA n o) = d.reg (shtA n o) :=
  Device.reg_setFld_ne (d := { d with sht := { d.sht with engines := tabSet shtReset d.sht.engines n x } }) (shtA_ne ho) hw

theorem Device.setShuttle_wf {x : Shuttle} (hw : tabWf regDefault d.regs = true) : tabWf regDefault (d.setShuttle n x).regs = true :=
  tabWf_tabSet _ _ _ _ hw

theorem shtRuns_of_works (hworks : shtWorks d n = true) : shtRuns d n = true := (Bool.and_eq_true_iff.mp hworks).1

/-! ### The cache of a half (R412) -/

theorem ctxHit_setShuttle {x : Shuttle} : ctxHit (d.setShuttle n x) h q = ctxHit d h q := by cases h <;> rfl

theorem ctxGet_of_hit (hhit : ctxHit d (engHalf n) q = some sl) : ctxGet n q d = (sl.ctx, ctxPut (engHalf n) sl d) := by
  rw [ctxGet, hhit]

/-- A context that is found takes its own place: the cache does not grow, and none leaves it. -/
theorem ctxPut_of_hit (hhit : ctxHit d h q = some sl) (hlen : (ctxCache d h).length ≤ 16384) :
    ctxPut h sl d = setCtxCache h (sl :: (ctxCache d h).filter (fun x => x.q != sl.q))
      { d with sht := { d.sht with parked := d.sht.parked.filter (fun (p : Nat × Nat × Nat) => p.1 != sl.q) } } := by
  have hshorter : ((ctxCache d h).filter (fun x => x.q != sl.q)).length < (ctxCache d h).length :=
    List.length_filter_lt_length_iff_exists.mpr ⟨sl, List.mem_of_find?_eq_some hhit, by simp⟩
  have hnone : (sl :: (ctxCache d h).filter (fun x => x.q != sl.q)).drop 16384 = [] :=
    List.drop_eq_nil_of_le (by rw [List.length_cons]; omega)
  simp only [ctxPut, hnone]

theorem setCtxCache_regs {xs : List CtxSlot} : (setCtxCache h xs d).regs = d.regs := by cases h <;> rfl
theorem setCtxCache_engines {xs : List CtxSlot} : (setCtxCache h xs d).sht.engines = d.sht.engines := by cases h <;> rfl

section
variable (hhit : ctxHit d h q = some sl) (hlen : (ctxCache d h).length ≤ 16384)
include hhit hlen

theorem ctxPut_hit_regs : (ctxPut h sl d).regs = d.regs := by rw [ctxPut_of_hit hhit hlen, setCtxCache_regs]

theorem ctxPut_hit_shuttle {k : Nat} : (ctxPut h sl d).shuttle k = d.shuttle k := by
  rw [Device.shuttle, ctxPut_of_hit hhit hlen, setCtxCache_engines]
  rfl

end

/-- A fetch from DRAM (R412, R413). -/
theorem ctxGet_of_read (hmiss : ctxHit d (engHalf n) q = none) (hread : dramRead 8 (ctxAddr d q) 64 d = ({ data := bs }, e))
    (hc : c = BitVec.ofNat 512 (leNat bs)) :
    (cfld c 0x38 0 16 = epochOf e (engHalf n) → ctxSeal c = c →
      (ctxGet n q d).2 = ctxPut (engHalf n) { q := q, ctx := c, dirty := false } e) ∧
    (cfld c 0x38 0 16 ≠ epochOf e (engHalf n) →
      (ctxGet n q d).2 = ctxPut (engHalf n) { q := q, ctx := setCfld c 0x20 0 2 0, dirty := false } e) := by
  subst hc
  refine ⟨fun hepoch hseal => ?_, fun hepoch => ?_⟩
  · rw [ctxGet, hmiss]
    dsimp only
    rw [hread, if_neg (not_not_intro rfl), if_neg (not_not_intro hepoch), if_neg (not_not_intro hseal)]
  · rw [ctxGet, hmiss]
    dsimp only
    rw [hread, if_neg (not_not_intro rfl), if_pos hepoch]

/-! ### Doorbells and kicks (R415, R416) -/

theorem doorbellWrite_of_room {k : MClass} (hop : bitsAt v.toNat 62 2 ≠ 3) (hroom : (d.shuttle n).bells.length < 256) :
    doorbellWrite n k v d = (some 0, d.setShuttle n { d.shuttle n with bells := (d.shuttle n).bells ++ [(v, k.val)] }) := by
  simp only [doorbellWrite, if_neg hop, if_neg (Nat.not_le.mpr hroom), ge_iff_le]

theorem doorbellWrite_of_full {k : MClass} (hop : bitsAt v.toNat 62 2 ≠ 3) (hfull : 256 ≤ (d.shuttle n).bells.length) :
    doorbellWrite n k v d = (none, d) := by
  simp only [doorbellWrite, if_neg hop, ge_iff_le, if_pos hfull]

theorem doorbellWrite_of_nothing {k : MClass} (hop : bitsAt v.toNat 62 2 = 3) : doorbellWrite n k v d = (some 0, d) := by
  simp only [doorbellWrite, if_pos hop]

theorem gives_doorbellWrite {n : Fin 16} {k : MClass} {r : Option Nat × Device} (hon : blockStatus s.dev (52 + n.val / 8) true = 0)
    (hr : doorbellWrite n.val k v s.dev = r) :
    gives (.doorbellWrite n k v) s ((r.1.map fun st => r.2.answer st []).getD s.dev) := by
  subst hr
  refine gives_of_eq (d := s.dev.atBlock (52 + n.val / 8) true _) rfl ((atBlock_of_answers hon).trans ?_)
  cases hst : (doorbellWrite n.val k v s.dev).1 <;> simp only [hst, Option.map_none, Option.map_some, Option.getD_none, Option.getD_some]

/-- The doorbell at the FIFO's head leaves it, and its queue's context is at hand. -/
structure BellTaken (n op : Nat) (d : Device) (v : BitVec 64) (mc : Nat) (rest : List (BitVec 64 × Nat)) (sl : CtxSlot) : Prop where
  bells : (d.shuttle n).bells = (v, mc) :: rest
  works : shtWorks d n = true
  hit : ctxHit d (engHalf n) (bitsAt v.toNat 32 20) = some sl
  op : bitsAt v.toNat 62 2 = op

/-- The device from which the doorbell's effect starts. -/
def bellDevice (n : Nat) (rest : List (BitVec 64 × Nat)) (sl : CtxSlot) (d : Device) : Device :=
  ctxPut (engHalf n) sl (d.setShuttle n { d.shuttle n with bells := rest })

section
variable (hb : BellTaken n op d v mc rest sl)
include hb

theorem bellApply_of_dead (hdead : cLive sl.ctx = false ∨ cEngine sl.ctx ≠ n) :
    bellApply n op d = shtFlag n 20 (bitsAt v.toNat 32 20) (bellDevice n rest sl d) := by
  obtain ⟨hbells, hworks, hhit, hop⟩ := hb
  have hcond : ((!cLive sl.ctx || decide (cEngine sl.ctx ≠ n)) = true) := by simpa using hdead
  simp only [bellApply, hbells, hworks, hop, ctxGet_of_hit (ctxHit_setShuttle.trans hhit), hcond, bellDevice]
  simp

theorem bellApply_of_barred (hlive : cLive sl.ctx = true) (heng : cEngine sl.ctx = n) (hmask : cKickMask sl.ctx mc = false) :
    bellApply n op d = shtFlag n 21 (bitsAt v.toNat 32 20) (bellDevice n rest sl d) := by
  obtain ⟨hbells, hworks, hhit, hop⟩ := hb
  simp [bellApply, hbells, hworks, hop, ctxGet_of_hit (ctxHit_setShuttle.trans hhit), hlive, heng, hmask, bellDevice]

end

section
variable (hlive : cLive sl.ctx = true) (heng : cEngine sl.ctx = n) (hmask : cKickMask sl.ctx mc = true)
include hlive heng hmask

theorem bellApply_producer (hb : BellTaken n 0 d v mc rest sl) :
    bellApply n 0 d = if gap32 (bitsAt v.toNat 0 32) (cCons sl.ctx) ≤ 2 ^ cRingK sl.ctx
      then ctxSet n (bitsAt v.toNat 32 20) (setCfld sl.ctx 0x10 0 32 (bitsAt v.toNat 0 32)) (bellDevice n rest sl d)
      else shtFlag n 22 (bitsAt v.toNat 32 20) (bellDevice n rest sl d) := by
  obtain ⟨hbells, hworks, hhit, hop⟩ := hb
  simp [bellApply, hbells, hworks, hop, ctxGet_of_hit (ctxHit_setShuttle.trans hhit), hlive, heng, hmask, bellDevice]

theorem bellApply_consumer (hb : BellTaken n 1 d v mc rest sl) (hgap : gap32 (cCqProd sl.ctx) (bitsAt v.toNat 0 32) ≤ 2 ^ cCqK sl.ctx) :
    bellApply n 1 d = ctxSet n (bitsAt v.toNat 32 20) (setCfld sl.ctx 0x18 32 32 (bitsAt v.toNat 0 32)) (bellDevice n rest sl d) := by
  obtain ⟨hbells, hworks, hhit, hop⟩ := hb
  simp [bellApply, hbells, hworks, hop, ctxGet_of_hit (ctxHit_setShuttle.trans hhit), hlive, heng, hmask, bellDevice, hgap]

theorem bellApply_kick (hb : BellTaken n 2 d v mc rest sl) :
    bellApply n 2 d = kick n (bitsAt v.toNat 32 20) sl.ctx (bellDevice n rest sl d) := by
  obtain ⟨hbells, hworks, hhit, hop⟩ := hb
  simp [bellApply, hbells, hworks, hop, ctxGet_of_hit (ctxHit_setShuttle.trans hhit), hlive, heng, hmask, bellDevice]

end

/-- The index from which a kick counts. -/
def kickBase (c : Ctx) : Nat := if gap32 (cRel c) (cCons c) < 2 ^ 31 then cRel c else cCons c
/-- The index that a kick releases up to. -/
def kickTo (c : Ctx) : Nat :=
  if cKickN c = 0 ∨ gap32 ((kickBase c + cKickN c) % 2 ^ 32) (cProd c) < 2 ^ 31 then cProd c else (kickBase c + cKickN c) % 2 ^ 32

theorem kick_of_gated (hgated : cGated c = true) :
    kick n q c d =
      if kickTo c = kickBase c ∨ gap32 (kickTo c) (kickBase c) ≥ 2 ^ 31
        then shtFlag n 25 q (if kickTo c = cRel c then d else ctxSet n q (setCfld c 0x20 32 32 (kickTo c)) d)
        else (if kickTo c = cRel c then d else ctxSet n q (setCfld c 0x20 32 32 (kickTo c)) d) := by
  unfold kick
  rw [hgated]
  rfl

/-- A kick that releases descriptors stores how far. -/
theorem kick_releases (hgated : cGated c = true) (hne : kickTo c ≠ kickBase c) (hahead : gap32 (kickTo c) (kickBase c) < 2 ^ 31)
    (hnew : kickTo c ≠ cRel c) : kick n q c d = ctxSet n q (setCfld c 0x20 32 32 (kickTo c)) d := by
  rw [kick_of_gated hgated, if_neg (by omega), if_neg hnew]

theorem kick_releases_none (hgated : cGated c = true) (heq : kickTo c = kickBase c) (hold : kickTo c = cRel c) :
    kick n q c d = shtFlag n 25 q d := by
  rw [kick_of_gated hgated, if_pos (Or.inl heq), if_pos hold]

theorem gives_doorbellProducer {n : Fin 16} : gives (.doorbellProducer n) s (s.dev.updated (bellApply n.val 0 s.dev)) := liftReport_gives s _
theorem gives_doorbellConsumer {n : Fin 16} : gives (.doorbellConsumer n) s (s.dev.updated (bellApply n.val 1 s.dev)) := liftReport_gives s _
theorem gives_doorbellKick {n : Fin 16} : gives (.doorbellKick n) s (s.dev.updated (bellApply n.val 2 s.dev)) := liftReport_gives s _

theorem gives_contextFetch {n : Fin 16} {q : BitVec 20} (hworks : shtWorks s.dev n.val = true) :
    gives (.contextFetch n q) s (s.dev.updated (ctxGet n.val q.toNat s.dev).2) :=
  gives_of_eq (liftReport_gives s _) (by rw [if_pos hworks])

/-! ### The queue commands (R431, R432) -/

theorem ctxWrite_of_idle (hidle : inFlight d q = false) (heng : cEngine c = n) :
    (ctxWrite n q c d).2 = ctxSet n q (ctxSeal c) (ctxForget (otherHalf (engHalf n)) q d) := by
  simp [ctxWrite, hidle, heng]

theorem ctxWrite_of_flight (hflight : inFlight d q = true) : (ctxWrite n q c d).2 = shtFlag n 26 q d := by simp [ctxWrite, hflight]

/-- The current copy, sealed, in the data registers. -/
theorem ctxRead_shows (hw : tabWf regDefault d.regs = true) (hhit : ctxHit d (engHalf n) q = some sl)
    (hlen : (ctxCache d (engHalf n)).length ≤ 16384) :
    tabWf regDefault (ctxRead n q d).2.regs = true ∧
      ∀ i, i < 16 → (ctxRead n q d).2.reg (shtA n (0x310 + 4 * i)) = BitVec.ofNat 32 (bitsAt (ctxSeal sl.ctx).toNat (32 * i) 32) := by
  have hwf : tabWf regDefault (ctxPut (engHalf n) sl d).regs = true := by rwa [ctxPut_hit_regs hhit hlen]
  obtain ⟨hwf', hshown, -⟩ := each_setReg (n := 16) (addr := fun i => shtA n (0x310 + 4 * i))
    (v := fun i => BitVec.ofNat 32 (bitsAt (ctxSeal sl.ctx).toNat (32 * i) 32)) (fun i j he => by have := shtA_inj he; omega) hwf
  rw [ctxRead, ctxGet_of_hit hhit]
  exact ⟨hwf', hshown⟩

theorem ctxState_stops (hhit : ctxHit d (engHalf n) q = some sl) (heng : cEngine sl.ctx = n) (hready : cState sl.ctx = 1) :
    (ctxState n q 3 d).2 = ctxSet n q (setCfld sl.ctx 0x20 0 2 2) (ctxPut (engHalf n) sl d) := by
  simp [ctxState, ctxGet_of_hit hhit, heng, hready]

theorem ctxState_resumes (hhit : ctxHit d (engHalf n) q = some sl) (heng : cEngine sl.ctx = n) (hheld : cState sl.ctx = 2 ∨ cState sl.ctx = 3) :
    (ctxState n q 4 d).2 = ctxSet n q (setCfld sl.ctx 0x20 0 2 1) (ctxPut (engHalf n) sl d) := by
  simp [ctxState, ctxGet_of_hit hhit, heng, hheld]

section
variable {n : Fin 16} {k : MClass} (hon : blockStatus s.dev (52 + n.val / 8) true = 0)
include hon

theorem gives_queueContextWrite : gives (.queueContextWrite n k) s (s.dev.updated (s.dev.byThimble k (qCmd n.val 1))) :=
  gives_of_eq (liftReport_gives s _) (by rw [atBlock_of_answers hon])

theorem gives_queueContextRead : gives (.queueContextRead n k) s (s.dev.updated (s.dev.byThimble k (qCmd n.val 2))) :=
  gives_of_eq (liftReport_gives s _) (by rw [atBlock_of_answers hon])

theorem gives_queueStop : gives (.queueStop n k) s (s.dev.updated (s.dev.byThimble k (qCmd n.val 3))) :=
  gives_of_eq (liftReport_gives s _) (by rw [atBlock_of_answers hon])

theorem gives_queueResume : gives (.queueResume n k) s (s.dev.updated (s.dev.byThimble k (qCmd n.val 4))) :=
  gives_of_eq (liftReport_gives s _) (by rw [atBlock_of_answers hon])

end

section
variable {n : Fin 16} (hon : blockStatus s.dev (52 + n.val / 8) true = 0)
include hon

theorem gives_queueContextWrite_three : gives (.queueContextWrite n 3) s
    (s.dev.updated ((ctxWrite n.val (s.dev.fld (shtA n.val 0x300) 0 20) (qdata s.dev n.val) s.dev).2.answer 0 [])) := gives_queueContextWrite hon

theorem gives_queueContextRead_three : gives (.queueContextRead n 3) s
    (s.dev.updated ((ctxRead n.val (s.dev.fld (shtA n.val 0x300) 0 20) s.dev).2.answer 0 [])) := gives_queueContextRead hon

theorem gives_queueStop_three : gives (.queueStop n 3) s
    (s.dev.updated ((ctxState n.val (s.dev.fld (shtA n.val 0x300) 0 20) 3 s.dev).2.answer 0 [])) := gives_queueStop hon

theorem gives_queueResume_three : gives (.queueResume n 3) s
    (s.dev.updated ((ctxState n.val (s.dev.fld (shtA n.val 0x300) 0 20) 4 s.dev).2.answer 0 [])) := gives_queueResume hon

end

theorem updated_answer_status {st : Nat} {xs : List Byte} : (d.updated (e.answer st xs)).rsp.status = st := by
  rw [updated_rsp]
  rfl

theorem answer_regs {st : Nat} {xs : List Byte} : (e.answer st xs).regs = e.regs := rfl

/-- The current copy as the data registers show it after the command. -/
theorem updated_ctxRead {i : Nat} (hn : n < 16) (hi : i < 16) (hw : tabWf regDefault d.regs = true) (hhit : ctxHit d (engHalf n) q = some sl)
    (hlen : (ctxCache d (engHalf n)).length ≤ 16384) :
    (e.updated ((ctxRead n q d).2.answer 0 [])).reg (shtA n (0x310 + 4 * i)) = BitVec.ofNat 32 (bitsAt (ctxSeal sl.ctx).toNat (32 * i) 32) := by
  obtain ⟨hwf, hshown⟩ := ctxRead_shows hw hhit hlen
  rw [updated_reg e (by rwa [answer_regs]) (stateReg_shtA hn (by omega)), ← hshown i hi, Device.reg, Device.reg, answer_regs]

/-! ### Interrupts and the shadow set (R428, R429) -/

theorem irqIdle_of_pending (hruns : shtRuns d n = true) (hidle : d.fld (shtA n 0x208) 0 16 ≠ 0) (hpending : d.fld (shtA n 0x214) 0 16 ≠ 0) :
    irqIdle n d = shtIrq n d := by
  simp [irqIdle, hruns, hidle, hpending]

theorem irqIdle_of_none (hnone : d.fld (shtA n 0x214) 0 16 = 0) : irqIdle n d = d := by simp [irqIdle, hnone]

theorem gives_irqIdle {n : Fin 16} : gives (.irqIdle n) s (irqIdle n.val s.dev) := rfl

/-- A write stages both shadow registers, as they then read. -/
theorem shadowStage_shows {w : Word} {ho : Bool} (hw : tabWf regDefault d.regs = true) (hs : tabWf shtReset d.sht.engines = true) :
    ((shadowStage n w ho d).shuttle n).staged = some (d.reg (shtA n 0x200), w &&& 0xFFFF) ∧
      (shadowStage n w ho d).reg (shtA n 0x204) = w &&& 0xFFFF ∧ (shadowStage n w ho d).bit (shtA n 0x210) 31 = true ∧
      (shadowStage n w ho d).bit (shtA n 0x210) 30 = (ho || (d.shuttle n).flight.isEmpty) := by
  have hw1 : tabWf regDefault (d.setReg (shtA n 0x204) (w &&& 0xFFFF)).regs = true := Device.setReg_wf _ _ _ hw
  have hs1 : tabWf shtReset (d.setReg (shtA n 0x204) (w &&& 0xFFFF)).sht.engines = true := by rwa [Device.setReg_engines]
  have h200 : (d.setReg (shtA n 0x204) (w &&& 0xFFFF)).reg (shtA n 0x200) = d.reg (shtA n 0x200) :=
    Device.reg_setReg_ne _ _ _ _ (shtA_ne (by decide)) hw
  have h204 : (d.setReg (shtA n 0x204) (w &&& 0xFFFF)).reg (shtA n 0x204) = w &&& 0xFFFF := Device.reg_setReg_same _ _ _ hw
  simp only [shadowStage, h200, Device.setReg_shuttle]
  generalize hg : (d.setReg (shtA n 0x204) (w &&& 0xFFFF)).setShuttle n
    { d.shuttle n with staged := some (d.reg (shtA n 0x200), w &&& 0xFFFF) } = g
  have hwg : tabWf regDefault g.regs = true := hg ▸ Device.setShuttle_wf hw1
  have hgx : g.shuttle n = { d.shuttle n with staged := some (d.reg (shtA n 0x200), w &&& 0xFFFF) } := hg ▸ Device.shuttle_setShuttle hs1
  have hg204 : g.reg (shtA n 0x204) = w &&& 0xFFFF := hg ▸ (Device.reg_setShuttle (by decide) hw1).trans h204
  have hwb : tabWf regDefault (g.setBit (shtA n 0x210) 31).regs = true := tabWf_tabSet _ _ _ _ hwg
  refine ⟨?_, ?_, ?_, ?_⟩
  · rw [Device.putBit_shuttle, Device.setBit_shuttle, hgx]
  · exact (Device.reg_setFld_ne (shtA_ne (by decide)) hwb).trans ((Device.reg_setFld_ne (shtA_ne (by decide)) hwg).trans hg204)
  · exact (Device.bit_putBit_ne (by decide) (by decide) hwb).trans (Device.bit_putBit_same (by decide) hwg)
  · refine (Device.bit_putBit_same (by decide) hwb).trans ?_
    rw [hgx]

/-- The staged set takes effect, and none is staged. -/
theorem shadowTake_shows {irq rate : Word} (hw : tabWf regDefault d.regs = true) (hs : tabWf shtReset d.sht.engines = true)
    (hstaged : (d.shuttle n).staged = some (irq, rate)) :
    (shadowTake n d).reg (shtA n 0x208) = irq ∧ (shadowTake n d).reg (shtA n 0x20C) = rate ∧
      (shadowTake n d).shuttle n = { d.shuttle n with staged := none } ∧ (shadowTake n d).fld (shtA n 0x210) 30 2 = 0 := by
  have hw1 : tabWf regDefault (d.setReg (shtA n 0x208) irq).regs = true := Device.setReg_wf _ _ _ hw
  have hw2 : tabWf regDefault ((d.setReg (shtA n 0x208) irq).setReg (shtA n 0x20C) rate).regs = true := Device.setReg_wf _ _ _ hw1
  have hs2 : tabWf shtReset ((d.setReg (shtA n 0x208) irq).setReg (shtA n 0x20C) rate).sht.engines = true := by rwa [Device.setReg_engines, Device.setReg_engines]
  simp only [shadowTake, hstaged, Device.setReg_shuttle]
  generalize hg : ((d.setReg (shtA n 0x208) irq).setReg (shtA n 0x20C) rate).setShuttle n { d.shuttle n with staged := none } = g
  have hwg : tabWf regDefault g.regs = true := hg ▸ Device.setShuttle_wf hw2
  have hgx : g.shuttle n = { d.shuttle n with staged := none } := hg ▸ Device.shuttle_setShuttle hs2
  have h208 : g.reg (shtA n 0x208) = irq := by
    rw [← hg, Device.reg_setShuttle (by decide) hw2, Device.reg_setReg_ne _ _ _ _ (shtA_ne (by decide)) hw1, Device.reg_setReg_same _ _ _ hw]
  have h20C : g.reg (shtA n 0x20C) = rate := by rw [← hg, Device.reg_setShuttle (by decide) hw2, Device.reg_setReg_same _ _ _ hw1]
  have hwf : tabWf regDefault (g.setFld (shtA n 0x210) 30 2 0).regs = true := tabWf_tabSet _ _ _ _ hwg
  refine ⟨?_, ?_, by rw [Device.setFld_shuttle, Device.setFld_shuttle, hgx], ?_⟩
  · rw [Device.reg_setFld_ne (shtA_ne (by decide)) hwf, Device.reg_setFld_ne (shtA_ne (by decide)) hwg, h208]
  · rw [Device.reg_setFld_ne (shtA_ne (by decide)) hwf, Device.reg_setFld_ne (shtA_ne (by decide)) hwg, h20C]
  · rw [Device.fld_setFld_ne _ _ _ _ _ _ _ (by decide) (by decide) hwf, Device.fld_setFld_same _ _ _ _ _ (by decide) hwg, Nat.zero_mod]

theorem shadowCommit_of_idle (hidle : (d.shuttle n).flight = []) (hruns : shtRuns d n = true) : shadowCommit n d = shadowTake n d := by
  simp [shadowCommit, hidle, hruns]

theorem shadowCommit_of_flight (hflight : (d.shuttle n).flight ≠ []) : shadowCommit n d = d := by simp [shadowCommit, hflight]

theorem gives_shadowCommit {n : Fin 16} : gives (.shadowCommit n) s (shadowCommit n.val s.dev) := rfl

/-! ### A plain descriptor: fetch, data, read-back (R417 to R423) -/

/-- A descriptor of length 0 that passes the checks before it is refused with status 2. -/
theorem descCheck_of_empty {w : BitVec 256} (hlen : dLen w = 0) (hconv : dConv w ≠ 3) (htype : dType w = 0) : (descCheck m w d).1.1 = 2 := by
  simp [descCheck, hlen, hconv, htype]

/-- What the engine keeps of a descriptor that it has fetched and checked. -/
def takenDesc (h : Half) (q cls : Nat) (w : BitVec 256) (k : (Nat × Nat × List (Nat × Nat)) × Device) : Desc :=
  { q := q, cls := cls, words := w, list := k.1.2.2, last := 0, stage := if k.1.1 = 0 then 0 else 2, status := k.1.1, net := k.1.2.1, stamp := k.2.now h, answer := 0 }

/-- The device once the engine has chosen the queue of its next descriptor. -/
def queueChosen (n q cls : Nat) (sl : CtxSlot) (d : Device) : Device :=
  (ctxPut (engHalf n) sl d).setShuttle n { d.shuttle n with lastQ := tabSet natLast (d.shuttle n).lastQ cls q }

theorem descriptorFetch_of_read {cls : Nat} {k : (Nat × Nat × List (Nat × Nat)) × Device} (hworks : shtWorks d n = true)
    (hstays : d.leavingOn (52 + n / 8) = false) (hflight : (d.shuttle n).flight = []) (hnext : shtNext d n = some (q, cls))
    (hhit : ctxHit d (engHalf n) q = some sl) (hlen : (ctxCache d (engHalf n)).length ≤ 16384) (hready : cReady sl.ctx = true)
    (hwork : cWork sl.ctx = true) (heng : cEngine sl.ctx = n)
    (hread : busRead (byBlock (queueChosen n q cls sl d) (4 + cClass sl.ctx) (.sht n)) (cRing sl.ctx + 32 * (cCons sl.ctx % 2 ^ cRingK sl.ctx)) 32
      (queueChosen n q cls sl d) = ({ data := bs }, e))
    (hk : k = descCheck (byBlock e (4 + cClass sl.ctx) (.sht n)) (BitVec.ofNat 256 (leNat bs)) e) :
    descriptorFetch n d = k.2.setShuttle n { k.2.shuttle n with
      flight := (k.2.shuttle n).flight ++ [takenDesc (engHalf n) q (cClass sl.ctx) (BitVec.ofNat 256 (leNat bs)) k] } := by
  have hstart : (!shtWorks d n || d.leavingOn (52 + n / 8) || decide ((d.shuttle n).flight.length ≥ 4)) = false := by
    simp [hworks, hstays, hflight]
  have hgo : (!(cReady sl.ctx && cWork sl.ctx && cEngine sl.ctx == n)) = false := by simp [hready, hwork, heng]
  rw [queueChosen, ← ctxPut_hit_shuttle hhit hlen (k := n)] at hread
  simp only [descriptorFetch, hstart, Bool.false_eq_true, if_false, hnext, ctxGet_of_hit hhit, hgo]
  simp only at hread
  simp only [hread, ne_eq, not_true_eq_false, if_false, ← hk, takenDesc]

theorem gives_descriptorFetch {n : Fin 16} : gives (.descriptorFetch n) s (s.dev.moved (descriptorFetch n.val s.dev)) := liftMode_gives s _

/-- A plain descriptor at its start: one source, one destination piece, nothing sent. -/
theorem dataTransfer_plain {r : WriteRun} {d0 : Device} (hy : inEngine d n q = some y) (hstage : y.stage = 0) (hout : y.out = [])
    (hmoved : y.moved = 0) (hruns : shtRuns d n = true) (htype : dType y.words = 0)
    (hread : readAll (byBlock d (4 + y.cls) (.sht n)) (packetsOf (dSrc y.words, dLen y.words)) d = ((bs, 0), d0))
    (hwrite : writeAll (byBlock d (4 + y.cls) (.sht n)) y.cls (writePackets d (dDst y.words, destLen y.words))
      { moved := 0, last := y.last, data := convert y.words bs, status := 0, held := false } d0 = (r, e))
    (hok : r.status = 0) (hfree : r.held = false) :
    dataTransfer n q d = flushReplies (putDesc n { y with stage := 1, out := [], moved := r.moved, last := r.last } e) := by
  simp [dataTransfer, hy, hstage, hout, hmoved, hruns, htype, hread, hwrite, hok, hfree]

theorem gives_dataTransfer {n : Fin 16} {q : BitVec 20} : gives (.dataTransfer n q) s (s.dev.moved (dataTransfer n.val q.toNat s.dev)) :=
  liftMode_gives s _

theorem readBack_of_ok {b : Byte} (hy : inEngine d n q = some y) (hstage : y.stage = 1) (hruns : shtRuns d n = true)
    (hread : busRead (byBlock d (4 + y.cls) (.sht n)) y.last 1 d = ({ data := [b] }, e)) :
    readBack n q d = putDesc n { y with stage := 2, status := 0, net := 0, stamp := e.now (engHalf n) } e := by
  simp [readBack, hy, hstage, hruns, hread]

theorem gives_readback {n : Fin 16} {q : BitVec 20} : gives (.readback n q) s (s.dev.updated (readBack n.val q.toNat s.dev)) := liftReport_gives s _

/-! ### Completion (R425) -/

section
variable (hy : inEngine d n q = some y) (hruns : shtRuns d n = true) (hhit : ctxHit d (engHalf n) q = some sl)
include hy hruns hhit

theorem completionRecord_of_full (hstage : y.stage = 2) (hfull : gap32 (cCqProd sl.ctx) (cCqCons sl.ctx) = 2 ^ cCqK sl.ctx) :
    completionRecord n q d = shtFlag n 24 q (ctxPut (engHalf n) sl d) := by
  simp [completionRecord, hy, hstage, hruns, ctxGet_of_hit hhit, hfull]

theorem completionRecord_of_room (hstage : y.stage = 2) (hroom : gap32 (cCqProd sl.ctx) (cCqCons sl.ctx) ≠ 2 ^ cCqK sl.ctx)
    (hwrite : busWrite (byBlock (ctxPut (engHalf n) sl d) (4 + y.cls) (.sht n)) y.cls (cCqBase sl.ctx + 16 * (cCqProd sl.ctx % 2 ^ cCqK sl.ctx))
      (recordBytes y (cCqK sl.ctx) (cCqProd sl.ctx)) (ctxPut (engHalf n) sl d) = (0, e)) :
    completionRecord n q d = flushReplies (putDesc n { y with stage := 3, answer := 0 } e) := by
  have htaken : ¬ 0 = notTaken := by decide
  simp [completionRecord, hy, hstage, hruns, ctxGet_of_hit hhit, hroom, hwrite, htaken]

theorem recordAnswer_of_ok (hstage : y.stage = 3) (hanswer : y.answer = 0) (hstatus : y.status = 0) :
    recordAnswer n q d = shtHandOver n (shtCount n ((ctxSet n q (bumpCtx (bumpCtx (bumpCtx sl.ctx 0x18 0) 0x10 32) 0x28 0)
      (dropDesc n q (ctxPut (engHalf n) sl d))).bump (shtA n 8) 0 32 1)) := by
  simp [recordAnswer, hy, hstage, hruns, ctxGet_of_hit hhit, hanswer, hstatus]

theorem recordAnswer_of_failed (hstage : y.stage = 3) (hanswer : y.answer ≠ 0) :
    recordAnswer n q d = shtHandOver n (shtFlag n 23 q (ctxSet n q (setCfld sl.ctx 0x20 0 2 3) (dropDesc n q (ctxPut (engHalf n) sl d)))) := by
  simp [recordAnswer, hy, hstage, hruns, ctxGet_of_hit hhit, hanswer]

end

theorem gives_completionRecord {n : Fin 16} {q : BitVec 20} :
    gives (.completionRecord n q) s (s.dev.moved (completionRecord n.val q.toNat s.dev)) := liftMode_gives s _
theorem gives_recordAnswer {n : Fin 16} {q : BitVec 20} :
    gives (.recordAnswer n q) s (s.dev.updated (recordAnswer n.val q.toNat s.dev)) := liftReport_gives s _

end

/-- Settles O49: by the doorbell FIFO, the current copy of a context and the stages of a descriptor. A full FIFO holds the write (log 38); a
doorbell of op 3 is answered without effect, and a stop takes effect at once (logs 76, 110); a record whose write fails, like a context that
cannot be read, leaves the queue in Error (log 77). -/
theorem shuttleCompletes : Obligations.ShuttleCompletes := by
  unfold Obligations.ShuttleCompletes
  intro s n hw hs hwatch x h hx hh hlen
  subst hx hh
  have hn : n.val < 16 := n.isLt
  refine ⟨?_, ?_, ?_, ?_, ?_, ?_, ?_, ?_, ?_, ?_, ?_, ?_⟩
  · intro k v hon
    exact ⟨fun hop hroom => gives_doorbellWrite hon (doorbellWrite_of_room hop hroom),
      fun hop hfull => gives_doorbellWrite hon (doorbellWrite_of_full hop hfull), fun hop => gives_doorbellWrite hon (doorbellWrite_of_nothing hop)⟩
  · rintro v mc rest sl hbells hworks hhit c d q idx rfl rfl rfl rfl
    refine ⟨fun hop => ?_, fun hlive heng hmask => ⟨fun hop hgap => ?_, fun hop hgated base most rel hbase hmost hrel => ?_⟩⟩
    · have hb : BellTaken n.val 0 s.dev v mc rest sl := ⟨hbells, hworks, hhit, hop⟩
      exact ⟨fun hdead => gives_of_eq gives_doorbellProducer (congrArg s.dev.updated (bellApply_of_dead hb hdead)),
        fun hlive heng hmask => gives_of_eq gives_doorbellProducer (congrArg s.dev.updated (bellApply_of_barred hb hlive heng hmask)),
        fun hlive heng hmask hgap => gives_of_eq gives_doorbellProducer
          (congrArg s.dev.updated ((bellApply_producer hlive heng hmask hb).trans (if_pos hgap))),
        fun hlive heng hmask hgap => gives_of_eq gives_doorbellProducer
          (congrArg s.dev.updated ((bellApply_producer hlive heng hmask hb).trans (if_neg (Nat.not_le.mpr hgap))))⟩
    · exact gives_of_eq gives_doorbellConsumer (congrArg s.dev.updated (bellApply_consumer hlive heng hmask ⟨hbells, hworks, hhit, hop⟩ hgap))
    · have hkick := bellApply_kick hlive heng hmask ⟨hbells, hworks, hhit, hop⟩
      have hto : rel = kickTo sl.ctx := by rw [hrel, hmost, hbase]; rfl
      have hfrom : base = kickBase sl.ctx := hbase
      subst hto hfrom
      exact ⟨fun hne hahead hnew => gives_of_eq gives_doorbellKick (congrArg s.dev.updated (hkick.trans (kick_releases hgated hne hahead hnew))),
        fun heq hold => gives_of_eq gives_doorbellKick (congrArg s.dev.updated (hkick.trans (kick_releases_none hgated heq hold)))⟩
  · intro q bs d hworks hmiss hread c hc
    obtain ⟨hgood, hpast⟩ := ctxGet_of_read hmiss hread hc
    exact ⟨fun hepoch hseal => gives_of_eq (gives_contextFetch hworks) (congrArg s.dev.updated (hgood hepoch hseal)),
      fun hepoch => gives_of_eq (gives_contextFetch hworks) (congrArg s.dev.updated (hpast hepoch))⟩
  · rintro hon q rfl
    refine ⟨fun hidle heng => ?_, fun hflight => ?_, fun sl hhit => ⟨?_, fun heng => ⟨fun hready => ?_, fun hheld => ?_⟩⟩, fun k hk => ?_⟩
    · exact gives_of_eq (gives_queueContextWrite_three hon) (congrArg (fun e => s.dev.updated (Device.answer e 0 [])) (ctxWrite_of_idle hidle heng))
    · exact gives_of_eq (gives_queueContextWrite_three hon) (congrArg (fun e => s.dev.updated (Device.answer e 0 [])) (ctxWrite_of_flight hflight))
    · exact ⟨_, gives_queueContextRead_three hon, updated_answer_status, fun i hi => updated_ctxRead hn hi hw hhit hlen⟩
    · exact gives_of_eq (gives_queueStop_three hon) (congrArg (fun e => s.dev.updated (Device.answer e 0 [])) (ctxState_stops hhit heng hready))
    · exact gives_of_eq (gives_queueResume_three hon) (congrArg (fun e => s.dev.updated (Device.answer e 0 [])) (ctxState_resumes hhit heng hheld))
    · have hother (f : Device → Device) := congrArg s.dev.updated (byThimble_of_other (d := s.dev) (f := f) hk)
      exact ⟨gives_of_eq (gives_queueContextWrite hon) (hother _), gives_of_eq (gives_queueContextRead hon) (hother _),
        gives_of_eq (gives_queueStop hon) (hother _), gives_of_eq (gives_queueResume hon) (hother _)⟩
  · exact fun hruns hidle => ⟨fun hpending => gives_of_eq gives_irqIdle (irqIdle_of_pending hruns hidle hpending),
      fun hnone => gives_of_eq gives_irqIdle (irqIdle_of_none hnone)⟩
  · exact fun v ho hon => ⟨_, gives_of_eq (d := s.dev.atBlock (52 + n.val / 8) true _) rfl (atBlock_of_answers hon), shadowStage_shows hw hs⟩
  · exact fun irq rate hstaged hidle hruns => ⟨_, gives_of_eq gives_shadowCommit (shadowCommit_of_idle hidle hruns), shadowTake_shows hw hs hstaged⟩
  · exact fun hflight => gives_of_eq gives_shadowCommit (shadowCommit_of_flight hflight)
  · rintro q cls sl bs d' hworks hstays hflight hnext hhit c rfl hready hwork heng d rfl m rfl hread w rfl k hk
    exact ⟨fun hzero hconv htype => by rw [hk]; exact descCheck_of_empty hzero hconv htype,
      gives_of_eq gives_descriptorFetch (congrArg s.dev.moved
        (descriptorFetch_of_read hworks hstays hflight hnext hhit hlen hready hwork heng hread hk))⟩
  · exact fun q y bs v d0 d hy hstage hout hmoved hruns htype hread hwrite hok hfree =>
      gives_of_eq gives_dataTransfer (congrArg s.dev.moved (dataTransfer_plain hy hstage hout hmoved hruns htype hread hwrite hok hfree))
  · exact fun q y b d0 hy hstage hruns hread => gives_of_eq gives_readback (congrArg s.dev.updated (readBack_of_ok hy hstage hruns hread))
  · rintro q y sl hy hruns hhit c d rfl rfl
    exact ⟨fun hstage hfull => gives_of_eq gives_completionRecord (congrArg s.dev.moved (completionRecord_of_full hy hruns hhit hstage hfull)),
      fun d' hstage hroom hwrite => gives_of_eq gives_completionRecord
        (congrArg s.dev.moved (completionRecord_of_room hy hruns hhit hstage hroom hwrite)),
      fun hstage hanswer hstatus => gives_of_eq gives_recordAnswer
        (congrArg s.dev.updated (recordAnswer_of_ok hy hruns hhit hstage hanswer hstatus)),
      fun hstage hanswer => gives_of_eq gives_recordAnswer (congrArg s.dev.updated (recordAnswer_of_failed hy hruns hhit hstage hanswer))⟩

end Sys2Proof.Machine
end

section
/-!
The refutation of O52 (18_patterns_startup R466, R467): a refused request for a partial pattern, in a device whose state register is due
for an update.
-/
namespace Sys2Proof.Machine

/-- A Blank device whose half W is up, which THM_DEVICE_STATE does not show yet; the interrupt of a state change is enabled, and a request
to load is taken. -/
def staleDevice : Device :=
  ({ sys := { upW := true }, load := { job := some (wJob 1 false none) } } : Device).setReg (thmA 0x48) 1

theorem staleDevice_hypotheses : tabWf regDefault staleDevice.regs = true ∧ watchedSegs staleDevice = [] ∧
    staleDevice.load.job = some (wJob 1 false none) ∧ patPartial (wPat 2) = true ∧ staleDevice.modeCode = 0 ∧ staleDevice.safeCause = 0 ∧
    staleDevice.sys.mgmtLine = false := by decide +kernel

/-- The request is refused; the update that every command ends with raises the management interrupt. -/
theorem staleDevice_refused : loadRead (wPat 2) true staleDevice = loadRefuse 0x31 staleDevice ∧
    wakeDone (loadRefuse 0x31 staleDevice) = loadRefuse 0x31 staleDevice ∧
    (staleDevice.updated (loadRefuse 0x31 staleDevice)).sys.mgmtLine = true := by decide +kernel

/-- Refutes O52: the clause of a refused partial pattern leaves `sys` as it was. Where the command's update of THM_DEVICE_STATE shows a change
that was due (R16, R18), an enabled state_change raises the interrupt line (R19), which `sys` holds. -/
theorem not_loadCompletes : ¬ Obligations.LoadCompletes := by
  unfold Obligations.LoadCompletes
  intro h
  obtain ⟨hwf, hwatch, hjob, hpart, hcode, hsafe, hlow⟩ := staleDevice_hypotheses
  obtain ⟨hrun, hwake, hraised⟩ := staleDevice_refused
  obtain ⟨-, hrefused, -⟩ := h ⟨staleDevice, []⟩ hwf hwatch
  obtain ⟨t, hexec, -, hsys, -⟩ := hrefused _ (wPat 2) true hjob rfl rfl hpart hcode
  have hgives : exec (.loadSourceRead (wPat 2) true) ⟨staleDevice, []⟩ =
      .next { dev := staleDevice.moved (loadRead (wPat 2) true staleDevice), pending := [] } := liftMode_gives ⟨staleDevice, []⟩ _
  obtain rfl := Host.Outcome.next.inj (hexec.symm.trans hgives)
  have hmoved : staleDevice.moved (loadRead (wPat 2) true staleDevice) = staleDevice.updated (loadRefuse 0x31 staleDevice) := by
    rw [moved_of_safe hwatch (fun hs => absurd hsafe hs), hrun, hwake]
  have hline : (staleDevice.moved (loadRead (wPat 2) true staleDevice)).sys.mgmtLine = staleDevice.sys.mgmtLine := congrArg SysState.mgmtLine hsys
  rw [hmoved, hraised, hlow] at hline
  exact Bool.noConfusion hline

end Sys2Proof.Machine
end

section
/-!
A request that reaches its operation: what the operation answers is the reply, and what it leaves is the device (21_command_protocol R522,
R527).
-/
namespace Sys2Proof.Machine

section
variable {d e : Device} {s : State} {rq : ReqCtx} {op st lo hi : Nat} {p ps bs : List Byte} {x : Session} {c : Carrier} {i : Instr}
  {act : Session → Device → Res} {after : Device → Device}

/-! ### The length of the parameters (R522 step 8) -/

/-- Parameters of a length that every row of the opcode allows. -/
def fitsRow (op : Nat) (p : List Byte) : Prop := ∀ r ∈ opRows, r.code = op → lengthOk r p = true

/-- The rows of an opcode give its parameters between `lo` and `hi` bytes. -/
def rowLengths (op lo hi : Nat) : Bool := opRows.all fun r => r.code != op || (r.least == lo && r.most == hi)

theorem lengths_of_row {r : OpRow} (hrow : rowLengths op lo hi = true) (hr : r ∈ opRows) (hop : r.code = op) : r.least = lo ∧ r.most = hi := by
  have h := List.all_eq_true.mp hrow r hr
  simpa [hop] using h

theorem fitsRow_of_length (hrow : rowLengths op lo hi = true) (hplain : ([0x0003, 0x0303, 0x0A02] : List Nat).contains op = false)
    (hlo : lo ≤ p.length) (hhi : p.length ≤ hi) : fitsRow op p := by
  intro r hr hop
  obtain ⟨hl, hm⟩ := lengths_of_row hrow hr hop
  simp only [List.contains_eq_mem, decide_eq_false_iff_not, List.mem_cons, not_or] at hplain
  obtain ⟨h1, h2, h3, -⟩ := hplain
  simp [lengthOk, hl, hm, hlo, hhi, hop, h1, h2, h3]

/-- An opcode whose parameters have one length. -/
def rowFixed (op n : Nat) : Bool := rowLengths op n n && !([0x0003, 0x0303, 0x0A02] : List Nat).contains op

theorem fitsRow_exact {n : Nat} (hrow : rowFixed op n = true) (hlen : p.length = n) : fitsRow op p := by
  obtain ⟨hlengths, hplain⟩ := Bool.and_eq_true_iff.mp hrow
  exact fitsRow_of_length hlengths (by simpa using hplain) hlen.ge hlen.le

/-- AUTH comes with a key or without one. -/
theorem fitsRow_auth (hp : p.length = 100) : fitsRow 0x0003 p := by
  intro r hr hop
  obtain ⟨hl, hm⟩ := lengths_of_row (lo := 100) (hi := 196) (by decide) hr hop
  simp [lengthOk, hl, hm, hop, hp]

theorem fitsRow_calWrite (hp : p.length = 4 + 16 * u8 p 1) (hn : 1 ≤ u8 p 1) (hn' : u8 p 1 ≤ 250) : fitsRow 0x0303 p := by
  intro r hr hop
  obtain ⟨hl, hm⟩ := lengths_of_row (lo := 20) (hi := 4004) (by decide) hr hop
  have hlo : 20 ≤ p.length := by omega
  have hhi : p.length ≤ 4004 := by omega
  simp [lengthOk, hl, hm, hop, hlo, hhi]
  omega

theorem fitsRow_regWrite (hp : p.length = 11 + u16 p 8 * (if u8 p 10 = 1 then 8 else 4)) (hhi : p.length ≤ 4076) : fitsRow 0x0A02 p := by
  intro r hr hop
  obtain ⟨hl, hm⟩ := lengths_of_row (lo := 11) (hi := 4076) (by decide) hr hop
  have hlo : 11 ≤ p.length := by omega
  simp only [lengthOk, hl, hm, hop, hlo, hhi, ← hp]
  simp

/-! ### The checks, and the operation -/

/-- Every check of R522 before the operation's own passes. -/
structure Checked (d : Device) (rq : ReqCtx) (op : Nat) (p : List Byte) (x : Session) : Prop where
  version : versionBad d rq op = false
  rom : romBoot d = true → romServes op = true
  row : (opRow op (rqVersion rq)).isSome = true
  session : op ≠ 1 → sessionOf d rq.carrier rq.id.toNat = some x ∧ x.kept.find? (fun k => k.seq == rq.seq.toNat) = none
  hello : op = 1 → x = { id := rq.id.toNat, carrier := rq.carrier, secure := false, tries := 0, major := 0, minor := 0, nonce := 0, kept := []
                         tookOver := false }
  fits : fitsRow op p
  halt : d.sys.integrity = true → haltServed op = true
  kind : (x.secure || kindAllowed (kindOf rq.carrier) op) = true

theorem Checked.of_asks (hask : d.asks rq op x) (hop : op ≠ 1) (hfit : fitsRow op p) : Checked d rq op p x := by
  obtain ⟨-, hv, hrom, hrow, hs, hk, hhalt, hkind⟩ := hask
  exact ⟨hv, hrom, hrow, fun _ => ⟨hs, hk⟩, fun h => absurd h hop, hfit, hhalt, hkind⟩

/-- The checks do not look at the recorder. -/
theorem Checked.bob {bob : BobState} (h : Checked d rq op p x) : Checked { d with bob := bob } rq op p x :=
  ⟨h.version, h.rom, h.row, h.session, h.hello, h.fits, h.halt, h.kind⟩

theorem code_of_opRow {v : Nat × Nat} {row : OpRow} (hrow : opRow op v = some row) : row.code = op := by
  have h := List.find?_some (p := fun r : OpRow => r.code == op && verLe r.since v) hrow
  exact eq_of_beq (Bool.and_eq_true_iff.mp h).1

/-- The form of a request that passes: its operation decides. -/
theorem serve_of_checked {crc : Nat} (h : Checked d rq op p x) : serve rq op p crc act d =
    if (act x d).1.1 = waits then ((waits, []), d)
    else (((act x d).1.1, (mkReply rq op crc (act x d).1.1 (act x d).1.2 (act x d).2).1),
      (mkReply rq op crc (act x d).1.1 (act x d).1.2 (act x d).2).2) := by
  obtain ⟨row, hopRow, hknown⟩ := opRow_of_served h.rom h.row
  have hfit : lengthOk row p = true := h.fits row (List.mem_of_find?_eq_some hopRow) (code_of_opRow hopRow)
  have hhalt : (d.sys.integrity && !haltServed op) = false := by
    cases hi : d.sys.integrity
    · rfl
    · rw [h.halt hi]
      rfl
  by_cases hop : op = 1
  · subst hop
    obtain rfl := h.hello rfl
    have hkind := h.kind
    simp only [serve, h.version, hknown, hfit, hhalt, hkind, if_true, if_false, Bool.false_eq_true, Bool.not_true]
  · obtain ⟨hs, hk⟩ := h.session hop
    simp only [serve, h.version, hknown, hs, hop, hk, hfit, hhalt, h.kind, if_false, Bool.false_eq_true, Bool.not_true]

section
variable (hserves : thimbleServes d = true) (h : Checked d rq op p x)
include hserves h

/-- The request's reply goes out, and after OK and ACCEPTED what follows it. -/
theorem serveRequest_of_checked (hact : act x (bobPacket rq.carrier (packet rq op 0 0 p) d) = ((st, ps), e)) (hst : st ≠ waits) :
    serveRequest rq op p act after d = if st = stOk ∨ st = stAccepted then after (e.replied rq op p st ps) else e.replied rq op p st ps := by
  obtain ⟨bob, hbob⟩ := bobPacket_eq (c := rq.carrier) (bs := packet rq op 0 0 p) (d := d)
  have hserve := serve_of_checked (crc := requestCrc rq op p) (act := act) (hbob ▸ h.bob)
  rw [hact] at hserve
  simp only [serveRequest, hserves, hserve, hst, if_false, Bool.not_true, Bool.false_eq_true]
  rfl

/-- An operation that cannot go on now leaves the device as it is. -/
theorem serveRequest_of_waits (hact : act x (bobPacket rq.carrier (packet rq op 0 0 p) d) = ((waits, ps), e)) :
    serveRequest rq op p act after d = d := by
  obtain ⟨bob, hbob⟩ := bobPacket_eq (c := rq.carrier) (bs := packet rq op 0 0 p) (d := d)
  have hserve := serve_of_checked (crc := requestCrc rq op p) (act := act) (hbob ▸ h.bob)
  rw [hact] at hserve
  simp only [serveRequest, hserves, hserve, if_true, if_false, Bool.not_true, Bool.false_eq_true]

end

/-- A command for a request completes as its operation does. -/
theorem serves_of_checked (hexec : exec i s = s.liftMode (serveRequest rq op p act noAfter)) (hserves : thimbleServes s.dev = true)
    (h : Checked s.dev rq op p x) (hact : act x (bobPacket rq.carrier (packet rq op 0 0 p) s.dev) = ((st, ps), e)) (hst : st ≠ waits) :
    serves i s rq op p st ps e :=
  (hexec.trans (liftMode_gives s _)).trans (congrArg (fun y => Host.Outcome.next { s with dev := s.dev.moved y })
    ((serveRequest_of_checked hserves h hact hst).trans (ite_self _)))

/-- The same where Bobbin takes no record of the request. -/
theorem serves_of_admits (hadm : s.dev.admits rq op x) (hexec : exec i s = s.liftMode (serveRequest rq op p act noAfter))
    (hfit : fitsRow op p) (hop : op ≠ 1) (hact : act x s.dev = ((st, ps), e)) (hst : st ≠ waits) : serves i s rq op p st ps e :=
  serves_of_checked hexec hadm.1.1 (.of_asks hadm.1 hop hfit) (by rwa [bobPacket_none _ _ _ hadm.2]) hst

/-- A request with an effect after its reply. -/
theorem gives_of_admits (hadm : s.dev.admits rq op x) (hexec : exec i s = s.liftMode (serveRequest rq op p act after))
    (hfit : fitsRow op p) (hop : op ≠ 1) (hact : act x s.dev = ((st, ps), e)) (hst : st ≠ waits) :
    gives i s (s.dev.moved (if st = stOk ∨ st = stAccepted then after (e.replied rq op p st ps) else e.replied rq op p st ps)) :=
  (hexec.trans (liftMode_gives s _)).trans (congrArg (fun y => Host.Outcome.next { s with dev := s.dev.moved y })
    (serveRequest_of_checked hadm.1.1 (.of_asks hadm.1 hop hfit) (by rwa [bobPacket_none _ _ _ hadm.2]) hst))

theorem session_of_admits (hadm : s.dev.admits rq op x) : x.id = rq.id.toNat ∧ x.carrier = rq.carrier := by
  obtain ⟨⟨-, -, -, -, hs, -⟩, -⟩ := hadm
  have h := List.find?_some (p := fun y : Session => y.id == rq.id.toNat && y.carrier == rq.carrier) hs
  obtain ⟨hid, hcar⟩ := Bool.and_eq_true_iff.mp h
  exact ⟨eq_of_beq hid, eq_of_beq hcar⟩

end
end Sys2Proof.Machine
end

section
/-!
The requests for sessions, loading, power, Lark and the calendar (21_command_protocol R525, R526, R533 to R536).
-/
namespace Sys2Proof.Machine

section
variable {d e : Device} {s : State} {rq : ReqCtx} {x : Session} {h : Half} {n l k st target : Nat} {c : Carrier}

/-! ### Sessions (R525, R526) -/

theorem byte_leBytes {b : Byte} : leBytes b.toNat 1 = [b] := by simp [leBytes]

/-- The session that HELLO opens, by the numbers that are free. -/
def helloSession (rq : ReqCtx) (v : Nat × Nat) (nonce : Nat) : Session :=
  { id := rq.id.toNat, carrier := rq.carrier, secure := false, tries := 0, major := v.1, minor := v.2, nonce := BitVec.ofNat 384 nonce
    kept := [], tookOver := false }

/-- The session that HELLO, which needs none, is checked as. -/
def noSession (rq : ReqCtx) : Session :=
  { id := rq.id.toNat, carrier := rq.carrier, secure := false, tries := 0, major := 0, minor := 0, nonce := 0, kept := [], tookOver := false }

theorem helloAct_opens {lo hi v : Nat × Nat} (hv : chosenVersion lo hi = some v) (h0 : rq.id ≠ 0) (h255 : rq.id ≠ 255)
    (hfree : d.cmd.sessions.any (fun y => y.id == rq.id.toNat && y.carrier != rq.carrier) = false)
    (hroom : (closeSession rq.carrier rq.id.toNat d).cmd.sessions.length < 32) :
    helloAct rq lo hi rq.id.toNat d =
      ((0, leBytes v.1 1 ++ leBytes v.2 1 ++ [rq.id] ++ leBytes (devId d) 1 ++ leBytes (Config.freeNat d.fresh) 4 ++ word4 d (thmA 0x40)
          ++ leBytes (BitVec.ofNat 384 (Config.freeNat (d.fresh + 1))).toNat 48),
        { closeSession rq.carrier rq.id.toNat d with
          fresh := d.fresh + 2
          cmd := { (closeSession rq.carrier rq.id.toNat d).cmd with
            sessions := (closeSession rq.carrier rq.id.toNat d).cmd.sessions ++ [helloSession rq v (Config.freeNat (d.fresh + 1))] } }) := by
  have hid : ¬ (rq.id.toNat = 0 ∨ rq.id.toNat = 255 ∨ rq.id.toNat ≠ rq.id.toNat) := by
    rintro (hz | hz | hz)
    · exact h0 (BitVec.eq_of_toNat_eq hz)
    · exact h255 (BitVec.eq_of_toNat_eq hz)
    · exact hz rfl
  simp only [helloAct, hv, hid, hfree, Nat.not_le.mpr hroom, if_false, Bool.false_eq_true, byte_leBytes]
  rfl

theorem checked_hello {p : List Byte} (hv : versions.contains (rqVersion rq) = true) (hlen : p.length = 8) : Checked d rq 0x0001 p (noSession rq) where
  version := versionBad_hello (by simpa using hv)
  rom _ := rfl
  row := by
    have hall : ∀ v ∈ versions, (opRow 0x0001 v).isSome = true := by decide
    exact hall _ (by simpa using hv)
  session hne := absurd rfl hne
  hello _ := rfl
  fits := fitsRow_exact (by decide) hlen
  halt _ := rfl
  kind := rfl

theorem authAct_of_enrolled {slot : Nat} {ok : Bool} (hslot : slot ≤ 3) (htries : x.tries < 3) (hany : anyEnrolled d = true) :
    authAct slot ok [] x d =
      if (tabGet keyReset d.load.keys slot).enrolled && !(tabGet keyReset d.load.keys slot).revoked && ok then
        Machine.ok [] (mapSession x.carrier x.id (fun y => { y with secure := true })
          (mapSession x.carrier x.id (fun y => { y with tries := y.tries + 1 }) d))
      else answerWith stNotOwner (mapSession x.carrier x.id (fun y => { y with tries := y.tries + 1 }) d) := by
  have hany' : anyEnrolled (mapSession x.carrier x.id (fun y => { y with tries := y.tries + 1 }) d) = true := hany
  simp only [authAct, Nat.not_lt.mpr hslot, Nat.not_le.mpr htries, if_false, hany', Bool.not_true, Bool.false_eq_true]
  rfl

/-! ### Loading (R534) -/

theorem loadAct_starts {source ports t : Nat} (hsource : source ≤ 4) (hflash : source = 2 → flashArgsOk ports t = true)
    (hjob : d.load.job = none) (htrip : d.sys.tripLow = false) (h1 : d.modeCode ≠ 1) (h4 : d.modeCode ≠ 4) (h5 : d.modeCode ≠ 5)
    (hdec : d.load.decFailW = false) :
    loadAct rq source ports t d =
      startLong rq .load 0x0101 0 none (loadStart (if source ≤ 2 then 0 else source - 2) false (source == 1) rq.id d) := by
  have hargs : ¬ (4 < source ∨ source = 2 ∧ flashArgsOk ports t = false) := by
    rintro (hgt | ⟨h2, hbad⟩)
    · omega
    · exact Bool.noConfusion (hbad.symm.trans (hflash h2))
  simp [loadAct, hargs, hjob, htrip, h1, h4, h5, hdec]

theorem loadDataAct_of_job {off : Nat} {data : List Byte} {j : LoadJob} (hj : d.load.job = some j) (hsource : j.source = 2) :
    loadDataAct off data d = if off ≠ j.taken then answerWith stRange d
      else ok [] { d with load := { d.load with job := some { j with taken := j.taken + data.length } } } := by
  simp [loadDataAct, hj, hsource]

/-! ### Power and modes (R535) -/

theorem ModesKept.trans {y : Device} (h : ModesKept d e) (hy : ModesKept e y) : ModesKept d y := by
  obtain ⟨_, _, h1⟩ := h
  obtain ⟨line, msgs, h2⟩ := hy
  exact ⟨line, msgs, by rw [h2, h1]⟩

theorem ModesKept.each {α : Type} {xs : List α} {f : Device → α → Device} (h : ModesKept d e)
    (hf : ∀ y a, ModesKept d y → ModesKept d (f y a)) :
    ModesKept d (e.each xs f) := List.foldlRecOn xs f h fun y hy a _ => hf y a hy

theorem ModesKept.mode (h : ModesKept d e) : e.sys.mode = d.sys.mode := by
  obtain ⟨line, msgs, hs⟩ := h
  rw [hs]

theorem ModesKept.integrity (h : ModesKept d e) : e.sys.integrity = d.sys.integrity := by
  obtain ⟨line, msgs, hs⟩ := h
  rw [hs]

theorem ModesKept.bobRecord {h' r} (h : ModesKept d e) : ModesKept d (e.bobRecord h' r) := by
  obtain ⟨b, hb⟩ := bobRecord_eq e h' r
  exact h.congr (by rw [hb])

theorem ModesKept.setBobHalf {h' b} (h : ModesKept d e) : ModesKept d (e.setBobHalf h' b) := by cases h' <;> exact h.congr rfl

theorem ModesKept.bobGap {h' cause} (h : ModesKept d e) : ModesKept d (e.bobGap h' cause) :=
  .ite h (.ite h.setBobHalf (ModesKept.bobRecord (ModesKept.setReg (a := bobA 4) h.setBobHalf)))

theorem ModesKept.putBit {a : Nat} {b : Bool} (h : ModesKept d e) : ModesKept d (e.putBit a k b) := h.setReg
theorem ModesKept.setLane {y} (h : ModesKept d e) : ModesKept d (e.setLane l y) := h.congr rfl

theorem ModesKept.laneEval (h : ModesKept d e) : ModesKept d (laneEval l e) := by
  have hput {b t : Bool} : ModesKept d ((e.putBit (laneStat l) 29 b).putBit (laneStat l) 27 t) := h.putBit.putBit
  exact .ite hput.setLane (.ite hput.setLane hput)

theorem ModesKept.settle (h : ModesKept d e) : ModesKept d e.settle := h.congr (by rw [settle_eq])

theorem ModesKept.setTrans {t : Option DomTrans} (h : ModesKept d e) : ModesKept d (e.setTrans n t) := h.congr rfl

theorem ModesKept.stopping {act : Device → Device} (h : ModesKept d e) (hact : ∀ y, ModesKept d y → ModesKept d (act y)) :
    ModesKept d (e.stopping n act) :=
  have hheld : ModesKept d (e.holdValues n) := h.congr rfl
  .ite (.ite (hact _ hheld) ((hact _ hheld).congr rfl)) (hact e h)

theorem ModesKept.leaveOn (h : ModesKept d e) : ModesKept d (leaveOn n e) :=
  have hvolt : ModesKept d { e with pwr := { e.pwr with lastV := tabSet natZero e.pwr.lastV n (e.fld (domStatA n) 16 8) } } := h.congr rfl
  .ite (.ite hvolt.bobGap hvolt) (.ite (hvolt.each fun _ _ hy => hy.congr rfl) (.ite (.ite (hvolt.congr rfl) hvolt) hvolt))

theorem ModesKept.startTrans (h : ModesKept d e) : ModesKept d (startTrans n target e) := by
  unfold Machine.startTrans
  extract_lets _ _ d1 d2 _ set d3
  have hd1 : ModesKept d d1 := .ite (h.congr rfl) h
  have hd2 : ModesKept d d2 := .ite hd1.leaveOn hd1
  have hd3 : ModesKept d d3 := .ite (hd2.stopping fun _ hy => hy.setTrans) hd2.setTrans
  exact .ite h (.ite h.setBit (.ite (hd3.each fun _ _ hy => hy.laneEval) hd3))

theorem ModesKept.domRequest (h : ModesKept d e) : ModesKept d (domRequest n st e) := by
  unfold Machine.domRequest
  extract_lets d1
  have hd1 : ModesKept d d1 := h.congr rfl
  split
  · exact hd1.setTrans
  · exact hd1.startTrans

/-- Each domain takes the state of the dormant profile. -/
def dormantEntered (d : Device) : Device :=
  ({ d with sys := { d.sys with mode := .dormant } } : Device).each (upto 64) fun d n =>
    if d.domState n = 3 ∧ (d.trans n).isNone then d else domRequest n (d.load.dormant.getD n 3).toNat d

theorem dormantEntered_mode : (dormantEntered d).sys.mode = .dormant :=
  (ModesKept.each (d := { d with sys := { d.sys with mode := .dormant } }) .refl fun _ _ hy => .ite hy hy.domRequest).mode

theorem dormantAct_enters (hmode : d.modeCode = 2) (hjob : d.load.job = none) : dormantAct d = ok [] (dormantEntered d) := by
  simp [dormantAct, hmode, hjob, dormantEntered]

theorem dormantAct_of_mend (hmode : d.modeCode = 3) : dormantAct d = answerWith stBusy d := by simp [dormantAct, hmode]

theorem domainSetAct_sets (hn : n ≤ 63) (hst : st ≤ 3) (hmode : d.modeCode = 2 ∨ d.modeCode = 3)
    (hfree : n < 32 → d.frozen n = false ∧ d.underLoad n = false) (hsupply : d.domState n ≠ 3 ∨ supplyOk d n = true) :
    domainSetAct n st d = ok [] (domRequest n st d) := by
  have hrange : ¬ (n > 63 ∨ st > 3) := by omega
  have hmodes : ¬ (d.modeCode ≠ 2 ∧ d.modeCode ≠ 3) := by omega
  have hbusy : (decide (n < 32) && (d.frozen n || d.underLoad n)) = false := by
    by_cases hlow : n < 32
    · simp [hfree hlow]
    · simp [hlow]
  have hmiss : ¬ (d.domState n = 3 ∧ st ≠ 3 ∧ (!supplyOk d n) = true) := by
    rintro ⟨hoff, -, hdead⟩
    rcases hsupply with hon | hok
    · exact hon hoff
    · simp [hok] at hdead
  simp only [domainSetAct, hrange, hmodes, hbusy, hmiss, if_false, Bool.false_eq_true]

theorem domainSetAct_of_busy (hn : n < 32) (hst : st ≤ 3) (hmode : d.modeCode = 2 ∨ d.modeCode = 3)
    (hbusy : d.frozen n = true ∨ d.underLoad n = true) : domainSetAct n st d = answerWith stBusy d := by
  have hrange : ¬ (n > 63 ∨ st > 3) := by omega
  have hmodes : ¬ (d.modeCode ≠ 2 ∧ d.modeCode ≠ 3) := by omega
  simp [domainSetAct, hrange, hmodes, hn, hbusy]

/-- The halt's release, but for its answer. -/
def haltReleased (d : Device) : Device :=
  (({ haltRelease d with sys := { (haltRelease d).sys with integrity := false } } : Device).each (upto 144) fun d l => laneEval l d).settle

theorem haltReleased_integrity : (haltReleased d).sys.integrity = false :=
  (ModesKept.settle (ModesKept.each (d := { haltRelease d with sys := { (haltRelease d).sys with integrity := false } }) .refl
    fun _ _ hy => hy.laneEval)).integrity

theorem releaseAct_of_halt (hhalt : d.sys.integrity = true) : releaseAct d = ok [] (haltReleased d) := by
  simp [releaseAct, hhalt, haltReleased]

theorem releaseAct_of_none (hnone : d.sys.integrity = false) : releaseAct d = answerWith stWrongMode d := by simp [releaseAct, hnone]

theorem fitsRow_reset {b : Byte} : fitsRow 0x0203 [b] := fitsRow_exact (n := 1) (by decide) rfl

/-- The reset follows its reply. -/
theorem gives_reset_of_kind {kind : Byte} (hadm : s.dev.admits rq 0x0203 x) (hlo : 1 ≤ kind.toNat) (hhi : kind.toNat ≤ 3) :
    gives (.reset rq kind) s (s.dev.moved (resetAfter kind.toNat (s.dev.replied rq 0x0203 [kind] 0 []))) :=
  gives_of_eq (gives_of_admits hadm rfl fitsRow_reset (by decide) (st := 0) (if_pos ⟨hlo, hhi⟩) (by decide))
    (congrArg s.dev.moved (if_pos (Or.inl rfl)))

theorem gives_reset_of_none (hadm : s.dev.admits rq 0x0203 x) : serves (.reset rq 0) s rq 0x0203 [0] stRange [] s.dev :=
  gives_of_eq (gives_of_admits hadm rfl fitsRow_reset (by decide) (st := stRange) (if_neg (by decide)) (by decide))
    (congrArg s.dev.moved (if_neg (by decide)))

/-! ### Lark and the calendar (R536, R194, R216) -/

theorem halfByte_toNat : (BitVec.ofNat 8 (hn h)).toNat = hn h := by cases h <;> rfl
theorem halfOfByte_hn : halfOfByte (hn h) = h := by cases h <;> rfl
theorem hn_le : ¬ hn h > 1 := by cases h <;> decide

/-- The four registers of the time to be set. -/
def timeWritten (frac ns sec : Nat) (d : Device) : Device :=
  (((d.setReg (lrkWide 0x20) (BitVec.ofNat 32 frac)).setReg (lrkWide 0x24) (BitVec.ofNat 32 ns)).setReg (lrkWide 0x28)
    (BitVec.ofNat 32 (sec % 2 ^ 32))).setReg (lrkWide 0x2C) (BitVec.ofNat 32 (sec / 2 ^ 32 % 2 ^ 16))

theorem lrkWide_ne {o o' : Nat} (ho : o ≠ o') : lrkWide o ≠ lrkWide o' := by
  unfold lrkWide lrkA
  omega

theorem statA_ne_lrkWide {o : Nat} (ho : 4 < o) (ho' : o < 0x10000) : lrkA h 4 ≠ lrkWide o := by
  unfold lrkWide lrkA
  cases h <;> simp only [hn] <;> omega

section
variable {frac ns sec : Nat} (hw : tabWf regDefault d.regs = true)
include hw

theorem timeWritten_stat : (timeWritten frac ns sec d).reg (lrkA h 4) = d.reg (lrkA h 4) := by
  have hne {o : Nat} (ho : 4 < o) (ho' : o < 0x10000) : lrkA h 4 ≠ lrkWide o := statA_ne_lrkWide ho ho'
  have hw1 := Device.setReg_wf d (lrkWide 0x20) (BitVec.ofNat 32 frac) hw
  have hw2 := Device.setReg_wf _ (lrkWide 0x24) (BitVec.ofNat 32 ns) hw1
  have hw3 := Device.setReg_wf _ (lrkWide 0x28) (BitVec.ofNat 32 (sec % 2 ^ 32)) hw2
  rw [timeWritten, Device.reg_setReg_ne _ _ _ _ (hne (by decide) (by decide)) hw3, Device.reg_setReg_ne _ _ _ _ (hne (by decide) (by decide)) hw2,
    Device.reg_setReg_ne _ _ _ _ (hne (by decide) (by decide)) hw1, Device.reg_setReg_ne _ _ _ _ (hne (by decide) (by decide)) hw]

theorem timeWritten_shows :
    (timeWritten frac ns sec d).reg (lrkWide 0x20) = BitVec.ofNat 32 frac ∧ (timeWritten frac ns sec d).reg (lrkWide 0x24) = BitVec.ofNat 32 ns ∧
      (timeWritten frac ns sec d).reg (lrkWide 0x28) = BitVec.ofNat 32 (sec % 2 ^ 32) ∧
      (timeWritten frac ns sec d).reg (lrkWide 0x2C) = BitVec.ofNat 32 (sec / 2 ^ 32 % 2 ^ 16) := by
  have hw1 := Device.setReg_wf d (lrkWide 0x20) (BitVec.ofNat 32 frac) hw
  have hw2 := Device.setReg_wf _ (lrkWide 0x24) (BitVec.ofNat 32 ns) hw1
  have hw3 := Device.setReg_wf _ (lrkWide 0x28) (BitVec.ofNat 32 (sec % 2 ^ 32)) hw2
  refine ⟨?_, ?_, ?_, Device.reg_setReg_same _ _ _ hw3⟩
  · rw [timeWritten, Device.reg_setReg_ne _ _ _ _ (lrkWide_ne (by decide)) hw3, Device.reg_setReg_ne _ _ _ _ (lrkWide_ne (by decide)) hw2,
      Device.reg_setReg_ne _ _ _ _ (lrkWide_ne (by decide)) hw1, Device.reg_setReg_same _ _ _ hw]
  · rw [timeWritten, Device.reg_setReg_ne _ _ _ _ (lrkWide_ne (by decide)) hw3, Device.reg_setReg_ne _ _ _ _ (lrkWide_ne (by decide)) hw2,
      Device.reg_setReg_same _ _ _ hw1]
  · rw [timeWritten, Device.reg_setReg_ne _ _ _ _ (lrkWide_ne (by decide)) hw3, Device.reg_setReg_same _ _ _ hw2]

theorem timeWritten_target : setTarget (timeWritten frac ns sec d) h = setTarget d h := by
  have hleads (k : Half) : (timeWritten frac ns sec d).leads k = d.leads k := Device.bit_congr (timeWritten_stat hw)
  have hsplit : (timeWritten frac ns sec d).larkSplit = d.larkSplit := rfl
  rw [setTarget, setTarget, hsplit, Device.leader, Device.leader, hleads, hleads]

theorem timeWritten_ok (hns : ns < 1000000000) (hstate : d.timeState (setTarget d h) = 0) : setTimeOk (timeWritten frac ns sec d) h = true := by
  have hfield : (timeWritten frac ns sec d).fld (lrkWide 0x24) 0 30 = ns := by
    rw [Device.fld, (timeWritten_shows hw).2.1, fieldOf, bitsAt_eq, BitVec.toNat_ofNat]
    omega
  have hfree : (timeWritten frac ns sec d).timeState (setTarget d h) = 0 := (Device.fld_congr (timeWritten_stat hw)).trans hstate
  rw [setTimeOk, timeWritten_target hw, hfree, hfield]
  simpa using hns

end

/-- The set is accepted: it waits for the next second of the Lark it acts on. -/
def timeArmed (h : Half) (d : Device) : Device := d.setLark (setTarget d h) { d.lark (setTarget d h) with setArmed := true }

theorem timeArmed_shows : ((timeArmed h d).lark (setTarget d h)).setArmed = true ∧ (timeArmed h d).regs = d.regs := by
  unfold timeArmed
  cases setTarget d h <;> exact ⟨rfl, rfl⟩

theorem setTimeAct_accepts {frac ns sec : Nat} (hw : tabWf regDefault d.regs = true) (hup : d.up h = true) (hns : ns < 1000000000)
    (hstate : d.timeState (setTarget d h) = 0) : setTimeAct h frac ns sec d = ok [] (timeArmed h (timeWritten frac ns sec d)) := by
  have hok := timeWritten_ok (frac := frac) (sec := sec) hw hns hstate
  have hset : setTime h (timeWritten frac ns sec d) = timeArmed h (timeWritten frac ns sec d) := by rw [setTime, if_pos hok]; rfl
  rw [setTimeAct, hup, Bool.not_true, if_neg Bool.false_ne_true, if_neg (Nat.not_le.mpr hns)]
  exact (if_pos hok).trans (congrArg (ok []) hset)

theorem lrkCmdAct_clears (hup : d.up h = true) : lrkCmdAct (hn h) 3 d = ok [] (clearLearning h d) := by
  simp [lrkCmdAct, hn_le, halfOfByte_hn, hup]

theorem lrkCmdAct_leads (hup : d.up h = true) : lrkCmdAct (hn h) 2 d =
    if !d.leads h && !d.larkSplit && !d.aligned h then answerWith stWrongMode (takeLeadership h d) else ok [] (takeLeadership h d) := by
  simp [lrkCmdAct, hn_le, halfOfByte_hn, hup]

theorem calWriteRun_of_refused {f : Nat} {b : BitVec 128} {es : List (Nat × BitVec 128)} (hvalid : eValid b = true)
    (href : entryRefused d b = true) : calWriteRun h ((f, b) :: es) d = (true, entryWrite h f b d) := by
  have hrest : ∀ (ys : List (Nat × BitVec 128)) (y : Device), ys.foldl (fun (acc : Bool × Device) e =>
      if acc.1 then acc else (eValid e.2 && entryRefused acc.2 e.2, entryWrite h e.1 e.2 acc.2)) (true, y) = (true, y) := by
    intro ys
    induction ys with
    | nil => exact fun _ => rfl
    | cons z zs ih => exact fun y => ih y
  rw [calWriteRun, List.foldl_cons]
  simp only [Bool.false_eq_true, if_false, hvalid, href, Bool.and_self]
  exact hrest _ _

theorem needClaims_of_held {items : List Nat} {kind wher id : Nat} (hheld : ∀ i ∈ items, needClaim d kind wher i id = none) :
    needClaims d kind wher items id = none := List.findSome?_eq_none_iff.mpr hheld

theorem calRun_one {first : BitVec 16} : calRun first.toNat 1 = [first.toNat] := by
  have h := first.isLt
  simp only [calRun, List.range_one, List.map_cons, List.map_nil, Nat.add_zero, Nat.mod_eq_of_lt h]

theorem calWriteAct_one {first : BitVec 16} {b : BitVec 128} (hup : d.up h = true) (hclaim : needClaim d 1 (hn h) (first.toNat / 256) x.id = none)
    (hgood : (eValid b && entryRefused d b) = false) :
    calWriteAct (hn h) first.toNat [b] x d = ok ([1, 0] ++ leBytes first.toNat 2) (entryWrite h first.toNat b d) := by
  have hclaims : needClaims d 1 (hn h) ([first.toNat].map fun i => i / 256) x.id = none := by
    refine needClaims_of_held fun i hi => ?_
    rwa [List.mem_singleton.mp hi]
  simp only [calWriteAct, List.length_singleton, calRun_one, hclaims, hn_le, halfOfByte_hn, hup, if_false, Bool.not_true, Bool.false_eq_true,
    List.zip_cons_cons, List.zip_nil_left, calWriteRun, List.foldl_cons, List.foldl_nil, hgood]
  rfl

theorem calRun_cons {first : BitVec 16} : calRun first.toNat (n + 1) =
    first.toNat :: (List.range n).map fun i => (first.toNat + (i + 1)) % 65536 := by
  have h := first.isLt
  rw [calRun, List.range_succ_eq_map, List.map_cons, List.map_map, Nat.add_zero, Nat.mod_eq_of_lt h]
  rfl

theorem calWriteAct_of_refused {first : BitVec 16} {b : BitVec 128} {more : List (BitVec 128)} (hup : d.up h = true)
    (hclaim : ∀ i : Nat, i ≤ more.length → needClaim d 1 (hn h) ((first.toNat + i) % 65536 / 256) x.id = none) (hvalid : eValid b = true)
    (href : entryRefused d b = true) :
    calWriteAct (hn h) first.toNat (b :: more) x d = answerWith stRange (entryWrite h first.toNat b d) := by
  have hclaims : needClaims d 1 (hn h) ((calRun first.toNat (b :: more).length).map fun i => i / 256) x.id = none := by
    refine needClaims_of_held fun i hi => ?_
    obtain ⟨m, hm, rfl⟩ := List.mem_map.mp hi
    obtain ⟨k, hk, rfl⟩ := List.mem_map.mp hm
    exact hclaim k (Nat.le_of_lt_succ (List.mem_range.mp hk))
  rw [List.length_cons, calRun_cons] at hclaims
  simp only [calWriteAct, List.length_cons, calRun_cons, hclaims, hn_le, halfOfByte_hn, hup, if_false, Bool.not_true, Bool.false_eq_true,
    List.zip_cons_cons, calWriteRun_of_refused hvalid href, if_true]

theorem calReadAct_reads {count first : Nat} (hup : d.up h = true) (h1 : 1 ≤ count) (h250 : count ≤ 250) :
    calReadAct (hn h) count first d =
      ok ((List.range count).flatMap fun i => leBytes (d.entry h ((first + i) % 65536)).toNat 16) d := by
  have hrange : ¬ (hn h > 1 ∨ count = 0 ∨ count > 250) := by
    have := hn_le (h := h)
    omega
  simp only [calReadAct, hrange, halfOfByte_hn, hup, if_false, Bool.not_true, Bool.false_eq_true, calRun, List.flatMap_map]

theorem chSetAct_sets {ch : Nat} {range ctrl : Word} (hup : d.up h = true) (hch : ch ≤ 31) (hclaim : needClaim d 2 (hn h) ch x.id = none)
    (hgood : chanRefused (d.setReg (chanCtlA h ch 0) range) h ch (ctrl &&& 0x9F000000) = false) :
    chSetAct (hn h) ch range ctrl x d = ok (word4 (chanStage h ch ctrl false (d.setReg (chanCtlA h ch 0) range)) (chanCtlA h ch 8))
      (chanStage h ch ctrl false (d.setReg (chanCtlA h ch 0) range)) := by
  have hrange : ¬ (hn h > 1 ∨ ch > 31) := by
    have := hn_le (h := h)
    omega
  simp only [chSetAct, hclaim, hrange, halfOfByte_hn, hup, if_false, Bool.not_true, Bool.false_eq_true, hgood]

end

/-- Settles O58: request by request, by what its operation answers. AUTH's request counts zeros for the signature in its CRC (log 53); the
indices of CAL_READ and CAL_WRITE wrap at 65,536 (log 56). -/
theorem sessionRequestsComplete : Obligations.SessionRequestsComplete := by
  unfold Obligations.SessionRequestsComplete
  intro s rq x
  refine ⟨?_, ?_, ?_, ?_, ?_, ?_, ?_, ?_, ?_, ?_, ?_, ?_, ?_, ?_, ?_, ?_, ?_, ?_, ?_, ?_, ?_, ?_⟩
  · intro lo hi v hserves hv hchosen hquiet h0 h255 hfree hroom
    refine ⟨Config.freeNat s.dev.fresh, Config.freeNat (s.dev.fresh + 1), ?_⟩
    rintro y d rfl rfl
    refine serves_of_checked rfl hserves (checked_hello hv (by simp [verBytes, leBytes_length])) ?_ (by decide)
    rw [bobPacket_none _ _ _ hquiet]
    exact helloAct_opens hchosen h0 h255 hfree hroom
  · intro hadm
    obtain ⟨hid, hcar⟩ := session_of_admits hadm
    refine serves_of_admits hadm rfl (fitsRow_exact (n := 0) (by decide) rfl) (by decide) ?_ (by decide)
    rw [byeAct, hid, hcar]
    rfl
  · rintro slot ok hadm hslot htries hany k d rfl rfl
    obtain ⟨hid, hcar⟩ := session_of_admits hadm
    have hact := authAct_of_enrolled (d := s.dev) (x := x) (ok := ok) hslot htries hany
    rw [hid, hcar] at hact
    have hserves {st : Nat} {e : Device} (h : authAct slot.toNat ok [] x s.dev = ((st, []), e)) (hst : st ≠ waits) :
        serves (.auth rq slot ok []) s rq 0x0003 ([slot] ++ leBytes 0 3 ++ leBytes 0 96) st [] e :=
      List.append_nil ([slot] ++ leBytes 0 3 ++ leBytes 0 96) ▸ serves_of_admits (p := [slot] ++ leBytes 0 3 ++ leBytes 0 96 ++ []) hadm rfl
        (fitsRow_auth (by simp [leBytes_length])) (by decide) h hst
    refine ⟨fun hen hrev hok => hserves (hact.trans (if_pos (by simp [hen, hrev, hok]))) (by decide),
      fun hbad => hserves (hact.trans (if_neg (by rcases hbad with h | h | h <;> simp [h]))) (by decide)⟩
  · exact fun hadm => serves_of_admits hadm rfl (fitsRow_exact (n := 0) (by decide) rfl) (by decide) rfl
      (by decide)
  · rintro hask d rfl
    refine serves_of_checked rfl hask.1 (.of_asks hask (by decide)
      (fitsRow_exact (n := 0) (by decide) rfl)) ?_ (by decide)
    obtain ⟨bob, hbob⟩ := bobPacket_eq rq.carrier (packet rq 0x0004 0 0 []) s.dev
    rw [hbob]
    rfl
  · intro source ports t page host hadm hsource hflash hjob htrip h1 h4 h5 hdec
    exact serves_of_admits hadm rfl (fitsRow_exact (n := 16) (by decide) (by simp [leBytes_length])) (by decide)
      (loadAct_starts hsource hflash hjob htrip h1 h4 h5 hdec) (by decide)
  · intro off data j hadm h1 h4072 hj hsource
    have hfit : fitsRow 0x0102 (leBytes off.toNat 4 ++ data) := fitsRow_of_length (lo := 5) (hi := 4076) (by decide) (by decide)
      (by rw [List.length_append, leBytes_length]; omega) (by rw [List.length_append, leBytes_length]; omega)
    have hact := loadDataAct_of_job (off := off.toNat) (data := data) hj hsource
    exact ⟨fun hnext => serves_of_admits hadm rfl hfit (by decide) (hact.trans (if_neg (not_not_intro hnext.symm))) (by decide),
      fun hother => serves_of_admits hadm rfl hfit (by decide) (hact.trans (if_pos hother.symm)) (by decide)⟩
  · intro hadm j hj
    refine serves_of_admits hadm rfl (fitsRow_exact (n := 0) (by decide) rfl) (by decide) ?_ (by decide)
    rw [loadAbortAct, hj]
    rfl
  · exact fun hadm => serves_of_admits hadm rfl (fitsRow_exact (n := 0) (by decide) rfl) (by decide) rfl
      (by decide)
  · exact fun fields hadm => serves_of_admits hadm rfl (fitsRow_exact (n := 4) (by decide) (by simp [leBytes_length])) (by decide) rfl (by decide)
  · intro hadm hmode hjob
    exact ⟨_, serves_of_admits hadm rfl (fitsRow_exact (n := 0) (by decide) rfl) (by decide)
      (dormantAct_enters hmode hjob) (by decide), dormantEntered_mode⟩
  · exact fun hadm hmode => serves_of_admits hadm rfl (fitsRow_exact (n := 0) (by decide) rfl)
      (by decide) (dormantAct_of_mend hmode) (by decide)
  · intro hadm
    have hfit : fitsRow 0x0202 [] := fitsRow_exact (n := 0) (by decide) rfl
    exact ⟨fun hmode => serves_of_admits hadm rfl hfit (by decide) (if_pos hmode) (by decide),
      fun hmode => serves_of_admits hadm rfl hfit (by decide) (if_neg hmode) (by decide)⟩
  · intro hadm
    exact ⟨gives_reset_of_kind hadm (by decide) (by decide), gives_reset_of_kind hadm (by decide) (by decide),
      gives_reset_of_kind hadm (by decide) (by decide), gives_reset_of_none hadm⟩
  · intro dom st hadm hdom hst hmode
    have hfit : fitsRow 0x0204 [dom, st] := fitsRow_exact (n := 2) (by decide) rfl
    exact ⟨fun hfree hsupply => serves_of_admits hadm rfl hfit (by decide) (domainSetAct_sets hdom hst hmode hfree hsupply) (by decide),
      fun hlow hbusy => serves_of_admits hadm rfl hfit (by decide) (domainSetAct_of_busy hlow hst hmode hbusy) (by decide)⟩
  · intro hadm
    have hfit : fitsRow 0x0205 [] := fitsRow_exact (n := 0) (by decide) rfl
    exact ⟨fun hhalt => ⟨_, serves_of_admits hadm rfl hfit (by decide) (releaseAct_of_halt hhalt) (by decide), haltReleased_integrity⟩,
      fun hnone => serves_of_admits hadm rfl hfit (by decide) (releaseAct_of_none hnone) (by decide)⟩
  · intro h frac ns sec hadm hup hw hstate hns
    obtain ⟨harmed, hregs⟩ := timeArmed_shows (h := h) (d := timeWritten frac.toNat ns.toNat sec.toNat s.dev)
    rw [timeWritten_target hw] at harmed
    obtain ⟨h20, h24, h28, h2C⟩ := timeWritten_shows (frac := frac.toNat) (ns := ns.toNat) (sec := sec.toNat) hw
    have hreg (a : Nat) : (timeArmed h (timeWritten frac.toNat ns.toNat sec.toNat s.dev)).reg a =
        (timeWritten frac.toNat ns.toNat sec.toNat s.dev).reg a := by rw [Device.reg, Device.reg, hregs]
    have hact : lrkSetTimeAct (BitVec.ofNat 8 (hn h)).toNat frac.toNat ns.toNat sec.toNat s.dev =
        ok [] (timeArmed h (timeWritten frac.toNat ns.toNat sec.toNat s.dev)) := by
      rw [halfByte_toNat, lrkSetTimeAct, if_neg hn_le, halfOfByte_hn, setTimeAct_accepts hw hup hns hstate]
    refine ⟨_, serves_of_admits hadm rfl (fitsRow_exact (n := 14) (by decide) (by simp [leBytes_length])) (by decide) hact (by decide), harmed,
      (hreg _).trans h20, ?_, (hreg _).trans h28, ?_⟩
    · rw [hreg, h24, BitVec.ofNat_toNat, BitVec.setWidth_eq]
    · rw [hreg, h2C, Nat.mod_eq_of_lt (by have := sec.isLt; omega)]
  · intro h hadm hup
    have hfit (b : Byte) : fitsRow 0x0302 [BitVec.ofNat 8 (hn h), b] :=
      fitsRow_exact (n := 2) (by decide) rfl
    have hserves {cmd : Byte} {st : Nat} {e : Device} (hact : lrkCmdAct (hn h) cmd.toNat s.dev = ((st, []), e)) (hst : st ≠ waits) :
        serves (.lrkCmd rq (BitVec.ofNat 8 (hn h)) cmd) s rq 0x0302 [BitVec.ofNat 8 (hn h), cmd] st [] e :=
      serves_of_admits hadm rfl (hfit cmd) (by decide) (by rwa [halfByte_toNat]) hst
    refine ⟨hserves (lrkCmdAct_clears hup) (by decide), fun hleads => hserves ((lrkCmdAct_leads hup).trans ?_) (by decide), fun hl hs ha => ?_,
      fun hl hs ha => hserves ((lrkCmdAct_leads hup).trans ?_) (by decide)⟩
    · rw [hleads, takeLeadership_of_leader hleads]
      rfl
    · refine ⟨_, hserves ((lrkCmdAct_leads hup).trans ?_) (by decide),
        congrArg (fun e : Device => e.time.disc.swapReq) (takeLeadership_of_aligned hl hs ha)⟩
      rw [hl, hs, ha]
      rfl
    · rw [hl, hs, ha, takeLeadership_of_unaligned hl hs ha]
      rfl
  · intro h first b hadm hup hclaim hgood
    rw [← (session_of_admits hadm).1] at hclaim
    exact serves_of_admits hadm rfl (fitsRow_calWrite (by simp [leBytes, u8, byteAt]) (by simp [leBytes, u8, byteAt])
      (by simp [leBytes, u8, byteAt])) (by decide) (by rw [halfByte_toNat]; exact calWriteAct_one hup hclaim hgood) (by decide)
  · intro h first b more hadm hup hmore hclaim hvalid href
    rw [← (session_of_admits hadm).1] at hclaim
    have hcount : (more.length + 1) % 256 = more.length + 1 := Nat.mod_eq_of_lt (by omega)
    have hbyte : u8 ([BitVec.ofNat 8 (hn h)] ++ leBytes (more.length + 1) 1 ++ leBytes first.toNat 2 ++
        (b :: more).flatMap fun y => leBytes y.toNat 16) 1 = more.length + 1 := by
      simp [leBytes, u8, byteAt, hcount]
    exact serves_of_admits hadm rfl (fitsRow_calWrite (by rw [hbyte]; simp [leBytes_length]; omega) (by rw [hbyte]; omega) (by rw [hbyte]; omega))
      (by decide) (by rw [halfByte_toNat]; exact calWriteAct_of_refused hup hclaim hvalid href) (by decide)
  · intro h count first hadm hup h1 h250
    exact serves_of_admits hadm rfl (fitsRow_exact (n := 4) (by decide) (by simp [leBytes_length])) (by decide)
      (by rw [halfByte_toNat]; exact calReadAct_reads hup h1 h250) (by decide)
  · rintro h ch range ctrl hadm hup hclaim hgood d rfl
    rw [← (session_of_admits hadm).1] at hclaim
    have hch : (BitVec.ofNat 8 ch.val).toNat = ch.val := by
      rw [BitVec.toNat_ofNat, Nat.mod_eq_of_lt (by omega)]
    exact serves_of_admits hadm rfl (fitsRow_exact (n := 12) (by decide) (by simp [leBytes_length])) (by decide)
      (by rw [halfByte_toNat, hch]; exact chSetAct_sets hup (by omega) hclaim hgood) (by decide)

end Sys2Proof.Machine
end

section
/-!
Claims of items, and the requests' operations on memory, mending, updates, keys, registers and queues, but for their replies
(21_command_protocol R537 to R551).
-/
namespace Sys2Proof.Machine

section
variable {d e : Device} {s : State} {rq : ReqCtx} {x : Session} {kind w i id k v j first count holder n : Nat} {items : List Nat}

/-! ### Who holds an item (R548) -/

theorem claimHolder_congr (h : e.cmd.claims = d.cmd.claims) : claimHolder e k v j = claimHolder d k v j := by rw [claimHolder, h, claimHolder]

theorem showOwner_claims {code : Nat} : (showOwner kind w i code id d).cmd.claims = d.cmd.claims := by
  unfold showOwner
  split <;> rfl

/-- The claims but for those of one item. -/
theorem find_other_claim {cs : List ClaimRec} (hne : ¬ (k = kind ∧ v = w ∧ j = i)) :
    (cs.filter fun c => !(c.kind == kind && c.where_ == w && c.item == i)).find? (fun c => c.kind == k && c.where_ == v && c.item == j) =
      cs.find? fun c => c.kind == k && c.where_ == v && c.item == j := by
  rw [List.find?_filter]
  congr 1
  funext c
  by_cases hc : c.kind = k ∧ c.where_ = v ∧ c.item = j
  · obtain ⟨rfl, rfl, rfl⟩ := hc
    have hno : (c.kind == kind && c.where_ == w && c.item == i) = false := by
      rw [Bool.eq_false_iff]
      intro heq
      exact hne (by simpa [and_assoc] using heq)
    simp [hno]
  · have hno : (c.kind == k && c.where_ == v && c.item == j) = false := by simpa [and_assoc] using hc
    simp [hno]

theorem find_dropped_claim {cs : List ClaimRec} :
    (cs.filter fun c => !(c.kind == kind && c.where_ == w && c.item == i)).find? (fun c => c.kind == kind && c.where_ == w && c.item == i) = none := by
  rw [List.find?_filter, List.find?_eq_none]
  intro c _ hboth
  obtain ⟨hno, hyes⟩ := of_decide_eq_true hboth
  rw [hyes] at hno
  exact Bool.noConfusion hno

theorem claimHolder_putClaim :
    claimHolder (putClaim kind w i id d) k v j = if k = kind ∧ v = w ∧ j = i then some id else claimHolder d k v j := by
  by_cases hkey : k = kind ∧ v = w ∧ j = i
  · rw [if_pos hkey]
    obtain ⟨rfl, rfl, rfl⟩ := hkey
    simp [claimHolder, putClaim]
  · have hhead : (kind == k && w == v && i == j) = false := by
      simp only [Bool.and_eq_false_iff, beq_eq_false_iff_ne]
      by_contra hall
      push Not at hall
      obtain ⟨⟨rfl, rfl⟩, rfl⟩ := hall
      exact hkey ⟨rfl, rfl, rfl⟩
    rw [if_neg hkey, claimHolder, putClaim]
    simp only [List.find?_cons, hhead, find_other_claim hkey, claimHolder]

theorem claimHolder_dropClaim :
    claimHolder (dropClaim kind w i d) k v j = if k = kind ∧ v = w ∧ j = i then none else claimHolder d k v j := by
  rw [dropClaim, claimHolder_congr showOwner_claims]
  split_ifs with hkey
  · obtain ⟨rfl, rfl, rfl⟩ := hkey
    rw [claimHolder, find_dropped_claim, Option.map_none]
  · rw [claimHolder, find_other_claim hkey, claimHolder]

/-- A step at each item of a kind and place: they all get one holder, or none. -/
theorem claimHolder_each {f : Device → Nat → Device} {r : Option Nat}
    (hf : ∀ e i k v j, claimHolder (f e i) k v j = if k = kind ∧ v = w ∧ j = i then r else claimHolder e k v j) :
    claimHolder (d.each items f) k v j = if k = kind ∧ v = w ∧ j ∈ items then r else claimHolder d k v j := by
  induction items generalizing d with
  | nil => simp [Device.each_nil]
  | cons y ys ih =>
    refine (ih (d := f d y)).trans ?_
    rw [hf]
    by_cases hkv : k = kind ∧ v = w
    · obtain ⟨rfl, rfl⟩ := hkv
      by_cases hy : j = y <;> by_cases hys : j ∈ ys <;> simp [hy, hys]
    · have hno (q : Prop) : ¬ (k = kind ∧ v = w ∧ q) := fun hq => hkv ⟨hq.1, hq.2.1⟩
      rw [if_neg (hno _), if_neg (hno _), if_neg (hno _)]

theorem mem_itemsOf : j ∈ itemsOf first count ↔ first ≤ j ∧ j < first + count := by
  simp only [itemsOf, List.mem_map, List.mem_range]
  constructor
  · rintro ⟨m, hm, rfl⟩
    omega
  · rintro ⟨hlo, hhi⟩
    exact ⟨j - first, by omega, by omega⟩

/-- What a request on a run of items does to who holds what: inside the run `r`, elsewhere nothing. -/
def HoldersSet (kind w first count : Nat) (r : Option Nat) (d e : Device) : Prop :=
  (∀ i, first ≤ i → i < first + count → claimHolder e kind w i = r) ∧
    ∀ k v i, ¬ (k = kind ∧ v = w ∧ first ≤ i ∧ i < first + count) → claimHolder e k v i = claimHolder d k v i

theorem HoldersSet.of_each {f : Device → Nat → Device} {r : Option Nat}
    (hf : ∀ e i k v j, claimHolder (f e i) k v j = if k = kind ∧ v = w ∧ j = i then r else claimHolder e k v j) :
    HoldersSet kind w first count r d (d.each (itemsOf first count) f) := by
  refine ⟨fun m hlo hhi => ?_, fun k v m hout => ?_⟩
  · rw [claimHolder_each hf, if_pos ⟨rfl, rfl, mem_itemsOf.mpr ⟨hlo, hhi⟩⟩]
  · rw [claimHolder_each hf, if_neg fun hin => hout ⟨hin.1, hin.2.1, mem_itemsOf.mp hin.2.2⟩]

theorem HoldersSet.of_claims {r : Option Nat} {y : Device} (h : HoldersSet kind w first count r y e) (hc : y.cmd.claims = d.cmd.claims) :
    HoldersSet kind w first count r d e := ⟨h.1, fun k v m hout => (h.2 k v m hout).trans (claimHolder_congr hc)⟩

theorem firstHeld_fold {cs : List ClaimRec} {f : Option ClaimRec → ClaimRec → Option ClaimRec} (hf : ∀ m c, (f m c).isSome = true)
    (hnone : cs.foldl f none = none) : cs = [] := by
  rcases List.eq_nil_or_concat cs with rfl | ⟨ys, c, rfl⟩
  · rfl
  · rw [List.concat_eq_append, List.foldl_append, List.foldl_cons, List.foldl_nil] at hnone
    exact absurd (hf _ c) (by rw [hnone]; decide)

/-- None of a run is held by another: whoever holds an item of it is the requester. -/
theorem holder_of_firstHeld (hnone : firstHeld d kind w first count id = none) (hlo : first ≤ j) (hhi : j < first + count)
    (hheld : claimHolder d kind w j = some holder) : holder = id := by
  have hempty := firstHeld_fold (fun m c => by cases m <;> rfl) hnone
  obtain ⟨c, hc, rfl⟩ := Option.map_eq_some_iff.mp hheld
  have hkey := List.find?_some hc
  have hmem := List.mem_of_find?_eq_some hc
  by_contra hne
  have hin : c ∈ d.cmd.claims.filter (fun c =>
      c.kind == kind && c.where_ == w && decide (first ≤ c.item ∧ c.item < first + count) && c.holder != id) := by
    simp only [Bool.and_eq_true, beq_iff_eq] at hkey
    obtain ⟨⟨hk, hw⟩, hi⟩ := hkey
    refine List.mem_filter.mpr ⟨hmem, ?_⟩
    simp [hk, hw, hi, hlo, hhi, hne]
  rw [hempty] at hin
  exact List.not_mem_nil hin

/-- UNCLAIM drops what the requester holds: the run is then held by nobody. -/
theorem unclaimed_holders (hnone : firstHeld d kind w first count id = none) :
    HoldersSet kind w first count none d
      (d.each ((itemsOf first count).filter fun i => claimHolder d kind w i == some id) fun d i => dropClaim kind w i d) := by
  have hstep (e : Device) (i k v j : Nat) := claimHolder_dropClaim (d := e) (kind := kind) (w := w) (i := i) (k := k) (v := v) (j := j)
  refine ⟨fun m hlo hhi => ?_, fun k v m hout => ?_⟩
  · rw [claimHolder_each hstep]
    split_ifs with hin
    · rfl
    · cases hheld : claimHolder d kind w m with
      | none => rfl
      | some y =>
        obtain rfl := holder_of_firstHeld hnone hlo hhi hheld
        exact absurd ⟨rfl, rfl, List.mem_filter.mpr ⟨mem_itemsOf.mpr ⟨hlo, hhi⟩, by simp [hheld]⟩⟩ hin
  · rw [claimHolder_each hstep, if_neg fun hin => hout ⟨hin.1, hin.2.1, mem_itemsOf.mp (List.mem_filter.mp hin.2.2).1⟩]

/-- A run in range is no request for the lowest free pages. -/
theorem not_lowest_free {wher : Nat} (hr : claimInRange kind wher first count = true) : ¬ (kind = 1 ∧ first = 0xFFFFFFFF) := by
  rintro ⟨rfl, rfl⟩
  have hr' : claimWhere 1 wher < 2 ∧ 1 ≤ count ∧ 0xFFFFFFFF + count ≤ 256 := by simpa [claimInRange, claimPlaces, claimItems, nth] using hr
  omega

section
variable {wher : Nat} (hr : claimInRange kind wher first count = true)
include hr

theorem claimAct_of_held {c : ClaimRec} (hheld : firstHeld d kind (claimWhere kind wher) first count x.id = some c) :
    claimAct kind wher first count x d = claimed c.holder c.item d := by
  simp only [claimAct, not_lowest_free hr, if_false, hheld]

theorem claimAct_of_free (hfree : firstHeld d kind (claimWhere kind wher) first count x.id = none) :
    claimAct kind wher first count x d =
      ok (leBytes first 4 ++ leBytes count 4) (d.each (itemsOf first count) fun d i => takeClaim x kind (claimWhere kind wher) i d) := by
  simp only [claimAct, not_lowest_free hr, if_false, hfree, hr, Bool.not_true, Bool.false_eq_true]

theorem unclaimAct_of_free (hfree : firstHeld d kind (claimWhere kind wher) first count x.id = none) :
    unclaimAct kind wher first count x d =
      ok [] (d.each ((itemsOf first count).filter fun i => claimHolder d kind (claimWhere kind wher) i == some x.id)
        fun d i => dropClaim kind (claimWhere kind wher) i d) := by
  simp only [unclaimAct, hfree, hr, if_false, Bool.not_true, Bool.false_eq_true]

/-- OVERRIDE gives the run to the new holder, or to nobody. -/
theorem overrideAct_sets (hh : holder ≠ 255) : ∃ e, overrideAct kind wher first count holder x d = ok [] e ∧
    HoldersSet kind (claimWhere kind wher) first count (if holder = 0 then none else some holder) d e := by
  have hrange : ¬ ((!claimInRange kind wher first count) = true ∨ holder = 255) := by simp [hr, hh]
  simp only [overrideAct, hrange, if_false]
  split_ifs with h0
  · exact ⟨_, rfl, (HoldersSet.of_each fun _ _ _ _ _ => claimHolder_dropClaim).of_claims rfl⟩
  · exact ⟨_, rfl, (HoldersSet.of_each fun _ _ _ _ _ => (claimHolder_congr showOwner_claims).trans claimHolder_putClaim).of_claims rfl⟩

end

theorem takeClaim_holders : HoldersSet kind w first count (some x.id) d (d.each (itemsOf first count) fun d i => takeClaim x kind w i d) :=
  HoldersSet.of_each fun _ _ _ _ _ => (claimHolder_congr showOwner_claims).trans claimHolder_putClaim

theorem claimQueryAct_answers {wher item : Nat} (hr : claimInRange kind wher item 1 = true) :
    claimQueryAct kind wher item d = ok (leBytes ((claimHolder d kind (claimWhere kind wher) item).getD 0) 1) d := by
  simp only [claimQueryAct, hr, Bool.not_true, Bool.false_eq_true, if_false]

end
end Sys2Proof.Machine
end

section
/-!
The requests for memory, mending, recording, updates, keys, claims, registers, queues and links (21_command_protocol R537 to R551).
-/
namespace Sys2Proof.Machine

section
variable {d e : Device} {s : State} {rq : ReqCtx} {x : Session} {n k : Nat}

theorem byte_toNat (h : n < 256) : (BitVec.ofNat 8 n).toNat = n := by
  rw [BitVec.toNat_ofNat, Nat.mod_eq_of_lt h]

/-! ### Memory and Lining (R537) -/

theorem scrubAct_starts {n : Fin 8} {base limit : Nat} (hbusy : passBusy d n.val = false)
    (hlong : d.cmd.long.any (fun y => y.op == .scrub n) = false) (hbase : base < 2 ^ 29) (hlimit : limit < 2 ^ 29)
    (hstart : passStart n.val ((d.setFld (mchA n.val 0x908) 0 29 base).setFld (mchA n.val 0x90C) 0 29 limit) = (0, e)) :
    scrubAct rq n.val base limit d = startLong rq (.scrub n) 0x0401 0 none e := by
  have hrange : ¬ (base ≥ 2 ^ 29 ∨ limit ≥ 2 ^ 29) := by omega
  simp only [scrubAct, n.isLt, dite_true, Fin.eta, hbusy, hlong, Bool.or_self, Bool.false_eq_true, if_false, hrange, hstart]

theorem trainAct_locks {c0 c1 : List Word} (hn : n ≤ 7) :
    trainAct n 1 c0 c1 d = ok (word4 (d.putBit (mchA n 0) 28 true) (mchA n 8)) (d.putBit (mchA n 0) 28 true) := by
  simp [trainAct, Nat.not_lt.mpr hn]

theorem trainAct_unlocks {c0 c1 : List Word} (hn : n ≤ 7) :
    trainAct n 2 c0 c1 d = ok (word4 (d.putBit (mchA n 0) 28 false) (mchA n 8)) (d.putBit (mchA n 0) 28 false) := by
  simp [trainAct, Nat.not_lt.mpr hn]

theorem trainAct_measures {c0 c1 : List Word} (hn : n ≤ 7) (hst : d.chanState n = 2) (hfree : d.bit (mchA n 0) 28 = false) :
    trainAct n 0 c0 c1 d = ok (word4 (driftNow n c0 c1 d) (mchA n 8)) (driftNow n c0 c1 d) := by
  simp [trainAct, Nat.not_lt.mpr hn, hst, hfree]

theorem markAct_marks {r dev : Nat} {b : Bool} (hn : n ≤ 7) (hr : r ≤ 1) (hdev : dev ≤ 31)
    (hmark : eccMark n r dev (eccFields n r dev d) = (b, e)) :
    markAct n r dev 1 d = if b then answerWith stWrongMode e else ok (word4 e (markA n r)) e := by
  have hrange : ¬ (n > 7 ∨ r > 1 ∨ 1 = 0 ∨ 1 > 4 ∨ dev > 31) := by omega
  simp only [markAct, hrange, if_false, hmark]

/-- The registers of a range while it is closed. -/
def rangeWritten (i base limit rights : Nat) (d : Device) : Device :=
  ((((d.setReg (rngA i 0) (BitVec.ofNat 32 (base % 2 ^ 32))).setReg (rngA i 4) (BitVec.ofNat 32 (base / 2 ^ 32))).setReg (rngA i 8)
    (BitVec.ofNat 32 (limit % 2 ^ 32 / 4096 * 4096))).setReg (rngA i 0xC) (BitVec.ofNat 32 (limit / 2 ^ 32))).setReg (rngA i 0x10)
    (BitVec.ofNat 32 (rights % 2 ^ 18))

theorem linRangeAct_in_range {i base limit : Nat} (hi : i ≤ 15) (hb : base < 2 ^ 39) (hl : limit < 2 ^ 39) (hb4 : base % 4096 = 0)
    (hl4 : limit % 4096 = 4095) : ¬ (i > 15 ∨ base ≥ 2 ^ 39 ∨ limit ≥ 2 ^ 39 ∨ base % 4096 ≠ 0 ∨ limit % 4096 ≠ 4095) := by omega

theorem linRangeAct_of_closed {i base limit rights : Nat}
    (hrange : ¬ (i > 15 ∨ base ≥ 2 ^ 39 ∨ limit ≥ 2 ^ 39 ∨ base % 4096 ≠ 0 ∨ limit % 4096 ≠ 4095)) (hst : rngState d i = 0) :
    linRangeAct i base limit rights d = ok (word4 (rangeWritten i base limit rights d) (rngA i 0x14)) (rangeWritten i base limit rights d) := by
  simp only [linRangeAct, hrange, if_false, hst, if_true, rangeWritten]

theorem linRangeAct_of_other {i base limit rights : Nat}
    (hrange : ¬ (i > 15 ∨ base ≥ 2 ^ 39 ∨ limit ≥ 2 ^ 39 ∨ base % 4096 ≠ 0 ∨ limit % 4096 ≠ 4095)) (hst : rngState d i ≠ 0)
    (hother : ¬ (base = rngBase d i ∧ limit = rngLimit d i)) : linRangeAct i base limit rights d = answerWith stWrongMode d := by
  simp only [linRangeAct, hrange, hst, hother, if_false]

section
variable {i base limit rights : Nat} (hw : tabWf regDefault d.regs = true)
include hw

theorem rangeWritten_reg : (rangeWritten i base limit rights d).reg (rngA i 0) = BitVec.ofNat 32 (base % 2 ^ 32) ∧
    (rangeWritten i base limit rights d).reg (rngA i 4) = BitVec.ofNat 32 (base / 2 ^ 32) ∧
    (rangeWritten i base limit rights d).reg (rngA i 8) = BitVec.ofNat 32 (limit % 2 ^ 32 / 4096 * 4096) ∧
    (rangeWritten i base limit rights d).reg (rngA i 0xC) = BitVec.ofNat 32 (limit / 2 ^ 32) ∧
    (rangeWritten i base limit rights d).reg (rngA i 0x10) = BitVec.ofNat 32 (rights % 2 ^ 18) := by
  have hall := ((((RegsAre.of_wf hw).setReg (a := rngA i 0) (w := BitVec.ofNat 32 (base % 2 ^ 32))).setReg (a := rngA i 4)
    (w := BitVec.ofNat 32 (base / 2 ^ 32))).setReg (a := rngA i 8) (w := BitVec.ofNat 32 (limit % 2 ^ 32 / 4096 * 4096))).setReg (a := rngA i 0xC)
    (w := BitVec.ofNat 32 (limit / 2 ^ 32)) |>.setReg (a := rngA i 0x10) (w := BitVec.ofNat 32 (rights % 2 ^ 18))
  have hne {o o' : Nat} (ho : o % 32 ≠ o' % 32) : rngA i o ≠ rngA i o' := rngA_ne ho
  refine ⟨?_, ?_, ?_, ?_, ?_⟩ <;> refine (hall.reg _).trans ?_ <;> simp [Function.update, hne]

theorem rangeWritten_base (hb : base < 2 ^ 39) (hb4 : base % 4096 = 0) : rngBase (rangeWritten i base limit rights d) i = base := by
  obtain ⟨h0, h4, -⟩ := rangeWritten_reg (i := i) (base := base) (limit := limit) (rights := rights) hw
  rw [rngBase, Device.fld, Device.fld, h0, h4, fieldOf, fieldOf, bitsAt_eq, bitsAt_eq, BitVec.toNat_ofNat, BitVec.toNat_ofNat]
  omega

theorem rangeWritten_limit (hl : limit < 2 ^ 39) (hl4 : limit % 4096 = 4095) : rngLimit (rangeWritten i base limit rights d) i = limit := by
  obtain ⟨-, -, h8, hC, -⟩ := rangeWritten_reg (i := i) (base := base) (limit := limit) (rights := rights) hw
  rw [rngLimit, Device.fld, Device.fld, h8, hC, fieldOf, fieldOf, bitsAt_eq, bitsAt_eq, BitVec.toNat_ofNat, BitVec.toNat_ofNat]
  omega

end

theorem linCmdAct_opens {i : Fin 16} {mode : Bool} (ho : liningOpen i.val mode (linFields i.val mode d) = (0, e)) :
    linCmdAct rq i.val 1 (b2n mode) d = startLong rq (.lining i) 0x0405 0 none e := by
  have hm : (b2n mode == 1) = mode := by cases mode <;> rfl
  have hrange : ¬ (1 = 0 ∨ 1 > 3 ∨ b2n mode > 1) := by cases mode <;> decide
  simp only [linCmdAct, i.isLt, dite_true, hrange, if_false, hm, ho, Fin.eta]

theorem linCmdAct_closes {i : Fin 16} {mode : Bool} (ho : liningClose i.val mode (linFields i.val mode d) = (0, e)) :
    linCmdAct rq i.val 2 (b2n mode) d = startLong rq (.lining i) 0x0405 0 none e := by
  have hm : (b2n mode == 1) = mode := by cases mode <;> rfl
  have hrange : ¬ (2 = 0 ∨ 2 > 3 ∨ b2n mode > 1) := by cases mode <;> decide
  simp only [linCmdAct, i.isLt, dite_true, hrange, if_false, hm, ho, Fin.eta]

theorem linCmdAct_rekeys {i : Fin 16} {mode : Bool} (ho : liningRekey i.val (linFields i.val mode d) = (0, e)) :
    linCmdAct rq i.val 3 (b2n mode) d = startLong rq (.lining i) 0x0405 0 none e := by
  have hm : (b2n mode == 1) = mode := by cases mode <;> rfl
  have hrange : ¬ (3 = 0 ∨ 3 > 3 ∨ b2n mode > 1) := by cases mode <;> decide
  simp only [linCmdAct, i.isLt, dite_true, hrange, if_false, hm, ho, Fin.eta]

/-! ### Mending and seam (R538) -/

theorem mendAct_starts {f : Fin 32} {kind target : Nat} (h1 : 1 ≤ kind) (h3 : kind ≤ 3)
    (hreq : mendRequest f.val ⟨kind, target, false⟩ false (d.setFld (fldA f.val 0x10) 0 9 target) = (0, e)) :
    mendAct rq f.val kind target d = startLong rq (.mend f) 0x0501 (kind * 65536 + target) none e := by
  have hrange : ¬ (kind = 0 ∨ kind > 3) := by omega
  simp only [mendAct, f.isLt, dite_true, hrange, if_false, hreq, Fin.eta, if_true]
  rfl

theorem walkAct_sets {fields : BitVec 32} {we am : Bool} {period : Nat}
    (hsafe : we = true → ∀ f ∈ regionFields fields, d.bit (fldA f 0) 28 = true) :
    walkAct fields (b2n we) (b2n am) period d = ok [] (d.each (regionFields fields) fun d f =>
      walkCfgWrite f (BitVec.ofNat 32 (b2n we * 2 ^ 31 + b2n am * 2 ^ 30 + period)) d) := by
  have hrange : ¬ (b2n we > 1 ∨ b2n am > 1) := by cases we <;> cases am <;> decide
  have hallowed : (b2n we == 1 && (regionFields fields).any fun f => !d.bit (fldA f 0) 28) = false := by
    cases we with
    | false => rfl
    | true => exact List.any_eq_false.mpr fun f hf => by simp [hsafe rfl f hf]
  simp only [walkAct, hrange, hallowed, if_false, Bool.false_eq_true]

theorem mendStatusAct_answers {f : Nat} (hf : f ≤ 31) : mendStatusAct f d =
    ok (words d [fldA f 0x18, fldA f 0x20, fldA f 0x24, fldA f 0x28, fldA f 0x30, fldA f 0x34]) d := if_neg (Nat.not_lt.mpr hf)

theorem seamRetrainAct_segment {g : Nat} (hg : g < 110) : seamRetrainAct g d = ok [] (retrainSegment 3 g d) := by
  simp only [seamRetrainAct, if_neg (show ¬ g = 255 by omega), if_neg (show ¬ g > 109 by omega)]

/-! ### Recording, the log and the sensors (R539, R540) -/

theorem bobCmdAct_answers {cmd : Nat} {b : Bool} (h1 : 1 ≤ cmd) (h4 : cmd ≤ 4) (hcmd : bobCmd cmd d = (b, e)) :
    bobCmdAct cmd d = if b then answerWith stWrongMode e else ok (word4 e (bobA 4)) e := by
  have hrange : ¬ (cmd = 0 ∨ cmd > 4) := by omega
  simp only [bobCmdAct, hrange, if_false, hcmd]

theorem sensors_length : ((upto 32).flatMap (fun p => leBytes (d.fld (tempA p) 0 16) 2) ++
    (upto 64).flatMap fun n => leBytes (domMilli d n) 2 ++ leBytes (d.fld (domStatA n) 0 12) 2).length = 320 := by
  simp [List.length_flatMap, leBytes_length, upto]

theorem faultIe_shows {ws : List Word} (hw : tabWf regDefault d.regs = true) :
    (∀ i, i < 8 → (d.each (upto 8) fun d i => d.setReg (thmA (0x2400 + 4 * i)) (nth ws i 0)).reg (thmA (0x2400 + 4 * i)) = ws.getD i 0) ∧
      ∀ a, (∀ i, i < 8 → a ≠ thmA (0x2400 + 4 * i)) →
        (d.each (upto 8) fun d i => d.setReg (thmA (0x2400 + 4 * i)) (nth ws i 0)).reg a = d.reg a := by
  obtain ⟨-, hshown, hother⟩ := each_setReg (n := 8) (addr := fun i => thmA (0x2400 + 4 * i)) (v := fun i => nth ws i 0)
    (fun i j he => by unfold thmA at he; omega) hw
  exact ⟨hshown, hother⟩

/-! ### Updates and keys (R541) -/

theorem updateBeginAct_begins {ty total : Nat} (hty : ty ∈ [1, 2, 3, 5, 7, 8]) (hnone : d.cmd.update = none)
    (hlong : d.cmd.long.any (fun y => y.op == .update) = false) : updateBeginAct x ty total d =
      ok [] { d with cmd := { d.cmd with update := some { rtype := ty, total := total, bytes := [], id := x.id } } } := by
  have hknown : ([1, 2, 3, 5, 7, 8] : List Nat).contains ty = true := by simpa using hty
  simp only [updateBeginAct, hknown, hnone, hlong, Bool.not_true, Bool.false_eq_true, if_false, Option.isSome_none, Bool.or_self]

theorem updateDataAct_of_job {off : Nat} {data : List Byte} {u : UpdJob} (hu : d.cmd.update = some u) :
    updateDataAct off data d = if off ≠ u.bytes.length ∨ off + data.length > u.total then answerWith stRange d
      else ok [] { d with cmd := { d.cmd with update := some { u with bytes := u.bytes ++ data } } } := by
  simp only [updateDataAct, hu]

theorem updateEndAct_accepted {sig : Bool} {u : UpdJob} (hu : d.cmd.update = some u) : (updateEndAct rq sig d).1 = (1, []) := by
  simp only [updateEndAct, hu]
  split_ifs <;> rfl

/-- The load state with one of the two pointers replaced. -/
theorem pointerSetAct_sets {fallback auto : Bool} {ports t page : Nat} (hargs : flashArgsOk ports t = true) :
    ∃ e, pointerSetAct (b2n fallback) ports t (b2n auto) page d = ok [] e ∧
      (if fallback then e.load.fallbackPtr else e.load.primaryPtr) = { ports := ports, page := page, t := t, auto := auto } ∧
      (if fallback then e.load.primaryPtr = d.load.primaryPtr else e.load.fallbackPtr = d.load.fallbackPtr) ∧ e.regs = d.regs := by
  cases fallback <;> cases auto <;> exact ⟨_, if_neg (by simp [b2n, hargs]), rfl, rfl, rfl⟩

section
variable (hk : tabWf keyReset d.load.keys = true)
include hk

theorem keyEnrollAct_enrolls {slot : Nat} {digest : BitVec 384} (hslot : slot ≤ 3) (hfree : (tabGet keyReset d.load.keys slot).enrolled = false) :
    ∃ e, keyEnrollAct slot digest d = ok [] e ∧
      tabGet keyReset e.load.keys slot = { tabGet keyReset d.load.keys slot with hash := digest, enrolled := true } ∧
      ∀ j, j ≠ slot → tabGet keyReset e.load.keys j = tabGet keyReset d.load.keys j :=
  ⟨_, if_neg (by simp [hfree]; omega), tabGet_tabSet_same _ _ _ _ hk, fun j hj => tabGet_tabSet_ne _ _ _ _ _ hj hk⟩

theorem keyRevokeAct_revokes {slot : Nat} (hslot : slot ≤ 3) :
    ∃ e, keyRevokeAct slot d = ok [] e ∧ (tabGet keyReset e.load.keys slot).revoked = true :=
  ⟨_, if_neg (Nat.not_lt.mpr hslot), congrArg KeySlot.revoked (tabGet_tabSet_same _ _ _ _ hk)⟩

end

theorem patternKeyAct_stores {slot : Nat} {key : BitVec 256} (hk : tabWf noPatKey d.load.patKeys = true) (hslot : slot ≤ 1)
    (hfree : tabGet noPatKey d.load.patKeys slot = none) :
    ∃ e, patternKeyAct slot key d = ok [] e ∧ tabGet noPatKey e.load.patKeys slot = some key :=
  ⟨_, if_neg (by simp [hfree]; omega), tabGet_tabSet_same _ _ _ _ hk⟩

/-! ### Registers (R543, R546, R547) -/

theorem accesses_one {a : BitVec 48} {len : Nat} : accesses a.toNat 1 len = [a.toNat] := by
  have h := a.isLt
  simp only [accesses, List.range_one, List.map_cons, List.map_nil, Nat.mul_zero, Nat.add_zero, Nat.mod_eq_of_lt h]

/-- Bytes of one access. -/
def accessLen (wide : Bool) : Nat := if wide then 8 else 4

theorem accessLen_eq {wide : Bool} : (if b2n wide = 1 then 8 else 4) = accessLen wide := by cases wide <;> rfl

theorem one_access_in_range {wide : Bool} : ¬ (b2n wide > 1 ∨ 1 = 0 ∨ 1 > 4000 / accessLen wide) := by cases wide <;> decide

theorem regReadAct_one {a : BitVec 48} {wide : Bool} {r : Answer}
    (hread : busRead (byClass d (accessClass x a.toNat (accessLen wide) d)) a.toNat (accessLen wide) d = (r, e)) :
    regReadAct a.toNat 1 (b2n wide) x d =
      ok (if r.status = 0 then [1, 0, 0, 0] ++ r.data else [0, 0] ++ leBytes r.status 1 ++ [0]) e := by
  simp only [regReadAct, accessLen_eq, one_access_in_range, if_false, accesses_one, List.foldl_cons, List.foldl_nil, ne_eq, not_true_eq_false, hread]
  split_ifs <;> simp [ok, leBytes]

theorem accessData_whole {len : Nat} {data : List Byte} (hlen : data.length = len) : accessData len data 0 = data := by
  rw [accessData, Nat.mul_zero, List.drop_zero, ← hlen, List.take_length]

section
variable {a : BitVec 48} {wide : Bool} {data : List Byte} {st : Nat} (hlen : data.length = accessLen wide)
  (hrules : writeRules x [a.toNat] (accessLen wide) data d = none)
  (hwrite : busWrite (byClass d (accessClass x a.toNat (accessLen wide) d)) 2 a.toNat data d = (st, e))
include hlen hrules hwrite

theorem regWriteAct_one (hst : st ≠ notTaken) :
    regWriteAct a.toNat 1 (b2n wide) data x d = ok (leBytes (if st = 0 then 1 else 0) 2 ++ leBytes st 1) e := by
  simp only [regWriteAct, accessLen_eq, accesses_one, hrules, one_access_in_range, if_false, List.range_one, List.zip_cons_cons, List.zip_nil_left,
    List.foldl_cons, List.foldl_nil, ne_eq, not_true_eq_false, accessData_whole hlen, hwrite]
  by_cases h0 : st = 0
  · have hok : ¬ 0 = notTaken := by decide
    simp [h0, hok]
  · simp [h0, hst]

theorem regWriteAct_waits (hst : st = notTaken) : regWriteAct a.toNat 1 (b2n wide) data x d = ((waits, []), d) := by
  have h0 : ¬ notTaken = 0 := by decide
  simp only [regWriteAct, accessLen_eq, accesses_one, hrules, one_access_in_range, if_false, List.range_one, List.zip_cons_cons, List.zip_nil_left,
    List.foldl_cons, List.foldl_nil, ne_eq, not_true_eq_false, accessData_whole hlen, hwrite, hst, h0, if_true]

end

theorem regRmwAct_writes {a : Nat} {m v : Word} {r : Answer} {st : Nat} {y : Device}
    (hread : busRead (byClass d (accessClass x a 4 d)) a 4 d = (r, e)) (hok : r.status = 0)
    (hrule : writeRule x a ((leWord r.data &&& ~~~m) ||| (v &&& m)) d = none)
    (hwrite : busWrite (byClass e (accessClass x a 4 e)) 2 a (leBytes ((leWord r.data &&& ~~~m) ||| (v &&& m)).toNat 4) e = (st, y))
    (hst : st ≠ notTaken) : regRmwAct a m v x d = ok (leBytes (leWord r.data).toNat 4 ++ leBytes st 1) y := by
  simp only [regRmwAct, hread, hrule, hok, ne_eq, not_true_eq_false, if_false, hwrite, hst]

/-! ### Queues and links (R544, R545) -/

theorem queueSetAct_sets {q : Nat} {ctx : List Byte} {c : Ctx} (hlen : ctx.length = 56) (hq : q < 2 ^ 20) (hclaim : needClaim d 3 0 q x.id = none)
    (hn : n = cEngine (BitVec.ofNat 512 (leNat ctx))) (hruns : shtRuns d n = true)
    (hc : c = setCfld (BitVec.ofNat 512 (leNat ctx)) 0x38 0 16 (epochOf d (engHalf n)))
    (hset : ctxWrite n q c ((d.setFld (shtA n 0x300) 0 20 q).each (upto 16) fun d i =>
      d.setReg (shtA n (0x310 + 4 * i)) (BitVec.ofNat 32 (bitsAt c.toNat (32 * i) 32))) = (false, e)) :
    queueSetAct q ctx x d = ok (word4 e (shtA n 4)) e := by
  have htake : ctx.take 56 = ctx := by rw [← hlen, List.take_length]
  subst hn hc
  simp only [queueSetAct, hclaim, htake, ge_iff_le, Nat.not_le.mpr hq, if_false, hruns, Bool.not_true, Bool.false_eq_true, hset]

theorem queueGetAct_reads {q : Nat} {c : Ctx} (hq : q < 2 ^ 20) (hn : n = queueEngine d q) (hruns : shtRuns d n = true)
    (hread : ctxRead n q (d.setFld (shtA n 0x300) 0 20 q) = (c, e)) : queueGetAct q d = ok (ctxBytes c) e := by
  subst hn
  simp only [queueGetAct, ge_iff_le, Nat.not_le.mpr hq, if_false, hruns, Bool.not_true, Bool.false_eq_true, hread]

theorem queueCtlAct_acts {q cmd : Nat} (hq : q < 2 ^ 20) (hcmd : cmd = 3 ∨ cmd = 4) (hclaim : needClaim d 3 0 q x.id = none)
    (hn : n = queueEngine d q) (hruns : shtRuns d n = true) (hstate : ctxState n q cmd (d.setFld (shtA n 0x300) 0 20 q) = (false, e)) :
    queueCtlAct q cmd x d = ok (leBytes (cfld (ctxGet n q e).1 0x20 0 64) 8) (ctxGet n q e).2 := by
  have hrange : ¬ (q ≥ 2 ^ 20 ∨ cmd ≠ 3 ∧ cmd ≠ 4) := by omega
  subst hn
  simp only [queueCtlAct, hclaim, hrange, if_false, hruns, Bool.not_true, Bool.false_eq_true, hstate]

theorem slvForwardAct_reached {dev : Nat} {bs : List Byte} (hdev : dev ≤ 7)
    (hup : (routeLink d dev).any (fun k => slvState d k == 3) = true) : slvForwardAct dev (some bs) d = ok (bs.take 4076) d := by
  simp only [slvForwardAct, if_neg (Nat.not_lt.mpr hdev), gt_iff_lt, hup, if_true]

theorem slvForwardAct_unreached {dev : Nat} {ans : Option (List Byte)} (hdev : dev ≤ 7)
    (hdown : (routeLink d dev).any (fun k => slvState d k == 3) = false ∨ ans = none) : slvForwardAct dev ans d = hwFault 5 d := by
  have hnone : (if (routeLink d dev).any (fun k => slvState d k == 3) then ans else none) = none := by
    rcases hdown with h | h <;> simp [h]
  simp only [slvForwardAct, if_neg (Nat.not_lt.mpr hdev), gt_iff_lt, hnone]

end
end Sys2Proof.Machine
end

section
/-!
The requests of memory, mending, updates, claims, registers, queues and links, command by command (21_command_protocol R537 to R551).
-/
namespace Sys2Proof.Machine

section
variable {s : State} {rq : ReqCtx} {x : Session} {op n : Nat} {p ps : List Byte} {act : Session → Device → Res}
  {after : Device → Device} {e : Device} {i : Instr}

theorem mode_byte {b : Bool} : (if b then 1 else 0 : Byte).toNat = b2n b := by cases b <;> rfl

/-- An accepted request: what follows its reply is done. -/
theorem gives_of_accepted (hadm : s.dev.admits rq op x) (hexec : exec i s = s.liftMode (serveRequest rq op p act after))
    (hfit : fitsRow op p) (hop : op ≠ 1) (hact : act x s.dev = ((1, ps), e)) : gives i s (s.dev.moved (after (e.replied rq op p 1 ps))) := by
  have h := gives_of_admits hadm hexec hfit hop hact (by decide)
  rwa [if_pos (show 1 = stOk ∨ 1 = stAccepted from Or.inr rfl)] at h

/-- A request that waits leaves the device as it is. -/
theorem gives_of_waits (hadm : s.dev.admits rq op x) (hexec : exec i s = s.liftMode (serveRequest rq op p act after))
    (hfit : fitsRow op p) (hop : op ≠ 1) (hact : act x s.dev = ((waits, ps), e)) : gives i s (s.dev.moved s.dev) :=
  (hexec.trans (liftMode_gives s _)).trans (congrArg (fun y => Host.Outcome.next { s with dev := s.dev.moved y })
    (serveRequest_of_waits hadm.1.1 (.of_asks hadm.1 hop hfit) (by rwa [bobPacket_none _ _ _ hadm.2])))

theorem rights_low (w : Word) : BitVec.ofNat 32 (w.toNat % 2 ^ 18) = w &&& 0x3FFFF := by
  apply BitVec.eq_of_toNat_eq
  rw [BitVec.toNat_ofNat, BitVec.toNat_and, show (0x3FFFF : Word).toNat = 2 ^ 18 - 1 from rfl, Nat.and_two_pow_sub_one_eq_mod]
  omega

/-- The parameters of a REG_WRITE of one access. -/
theorem fitsRow_oneWrite {a : BitVec 48} {wide : Bool} {data : List Byte} (hlen : data.length = accessLen wide) :
    fitsRow 0x0A02 (leBytes a.toNat 8 ++ [1, 0] ++ leBytes (b2n wide) 1 ++ data) := by
  have h8 : accessLen wide ≤ 8 := by cases wide <;> decide
  have hwidth : u8 (leBytes a.toNat 8 ++ [1, 0] ++ leBytes (b2n wide) 1 ++ data) 10 = b2n wide := by
    cases wide <;> simp [u8, byteAt, leBytes, b2n]
  refine fitsRow_regWrite ?_ (by simp [leBytes_length, hlen]; omega)
  have hcount : u16 (leBytes a.toNat 8 ++ [1, 0] ++ leBytes (b2n wide) 1 ++ data) 8 = 1 := by
    simp only [u16, leBytes]
    rfl
  rw [hwidth, hcount, accessLen_eq, Nat.one_mul, ← hlen]
  simp [leBytes_length]
  omega

/-- SLV_FORWARD to another device. -/
theorem slvForwardOwn_of_other {dev : Nat} {inner : List Byte} {ans : Option (List Byte)} {d : Device} (hdev : dev ≠ devId d) :
    slvForwardOwn rq dev inner ans d = slvForwardAct dev ans d := if_neg hdev

/-- SLV_FORWARD to the own id: the reply of the packet inside. -/
theorem slvForwardOwn_replies {inner bs : List Byte} {ans : Option (List Byte)} {st : Nat} {d : Device}
    (hreply : packetReply 8 rq.carrier inner d = ((st, bs), e)) (hwait : st ≠ waits) (hok : st ≠ stOk) (hacc : st ≠ stAccepted) :
    slvForwardOwn rq (devId d) inner ans d = ok (bs.take 4076) e := by
  simp only [slvForwardOwn, if_true, hreply, hwait, hok, hacc, or_self, if_false]

theorem devId_lt {d : Device} : devId d < 8 := d.sys.straps.isLt

end

/-- Settles O59: request by request, by what its operation answers. UNCLAIM of items nobody holds answers OK (log 54), any session
continues an update and LOG_READ's indices wrap (log 56), and the link requests act on the links of this device (log 57). -/
theorem blockRequestsComplete : Obligations.BlockRequestsComplete := by
  unfold Obligations.BlockRequestsComplete
  intro s rq x
  refine ⟨?_, ?_, ?_, ?_, ?_, ?_, ?_, ?_, ?_, ?_, ?_, ?_, ?_, ?_, ?_, ?_, ?_, ?_, ?_, ?_, ?_, ?_, ?_, ?_, ?_, ?_, ?_, ?_, ?_, ?_, ?_, ?_, ?_, ?_⟩
  · intro n base limit d hadm hbusy hlong hbase hlimit hstart
    refine serves_of_admits hadm rfl (fitsRow_exact (n := 12) (by decide) (by simp [leBytes_length])) (by decide) ?_ (by decide)
    rw [byte_toNat (by omega), scrubAct_starts hbusy hlong hbase hlimit hstart]
    rfl
  · intro n c0 c1 hadm
    have hn : (BitVec.ofNat 8 n.val).toNat = n.val := byte_toNat (by omega)
    have hfit (b : Byte) : fitsRow 0x0402 [BitVec.ofNat 8 n.val, b] := fitsRow_exact (n := 2) (by decide) rfl
    refine ⟨?_, ?_, ?_⟩
    · rintro d rfl
      exact serves_of_admits hadm rfl (hfit _) (by decide) (by rw [hn]; exact trainAct_locks (by omega)) (by decide)
    · rintro d rfl
      exact serves_of_admits hadm rfl (hfit _) (by decide) (by rw [hn]; exact trainAct_unlocks (by omega)) (by decide)
    · rintro hst hfree d rfl
      exact serves_of_admits hadm rfl (hfit _) (by decide) (by rw [hn]; exact trainAct_measures (by omega) hst hfree) (by decide)
  · intro n r dev d hadm
    have hfit : fitsRow 0x0403 [BitVec.ofNat 8 n.val, BitVec.ofNat 8 r.val, BitVec.ofNat 8 dev.val, 1] := fitsRow_exact (n := 4) (by decide) rfl
    have hact {b : Bool} (hmark : eccMark n.val r.val dev.val (eccFields n.val r.val dev.val s.dev) = (b, d)) :
        markAct (BitVec.ofNat 8 n.val).toNat (BitVec.ofNat 8 r.val).toNat (BitVec.ofNat 8 dev.val).toNat (1 : Byte).toNat s.dev =
          if b then answerWith stWrongMode d else ok (word4 d (markA n.val r.val)) d := by
      rw [byte_toNat (by omega), byte_toNat (by omega), byte_toNat (by omega)]
      exact markAct_marks (by omega) (by omega) (by omega) hmark
    exact ⟨fun hmark => serves_of_admits hadm rfl hfit (by decide) (hact hmark) (by decide),
      fun hmark => serves_of_admits hadm rfl hfit (by decide) (hact hmark) (by decide)⟩
  · rintro i base limit rights hadm hw hb hl hb4 hl4 p rfl
    have hrange := linRangeAct_in_range (i := i.val) (by omega) hb hl hb4 hl4
    have hi : (BitVec.ofNat 8 i.val).toNat = i.val := byte_toNat (by omega)
    have hserves {st : Nat} {ps : List Byte} {e : Device} (hact : linRangeAct i.val base.toNat limit.toNat rights.toNat s.dev = ((st, ps), e))
        (hst : st ≠ waits) : serves (.linRange rq (BitVec.ofNat 8 i.val) base limit rights) s rq 0x0404
          ([BitVec.ofNat 8 i.val, 0, 0, 0] ++ leBytes base.toNat 8 ++ leBytes limit.toNat 8 ++ leBytes rights.toNat 4) st ps e :=
      serves_of_admits hadm rfl (fitsRow_exact (n := 24) (by decide) (by simp [leBytes_length])) (by decide) (by rw [hi]; exact hact) hst
    refine ⟨fun hclosed => ?_, fun hopen hother => hserves (linRangeAct_of_other hrange hopen hother) (by decide)⟩
    refine ⟨_, hserves (linRangeAct_of_closed hrange hclosed) (by decide), rangeWritten_base hw hb hb4, rangeWritten_limit hw hl hl4, ?_, rfl⟩
    obtain ⟨-, -, -, -, h10⟩ := rangeWritten_reg (i := i.val) (base := base.toNat) (limit := limit.toNat) (rights := rights.toNat) hw
    exact h10.trans (rights_low rights)
  · rintro i mode d hadm m rfl
    have hfit (c m : Byte) : fitsRow 0x0405 [BitVec.ofNat 8 i.val, c, m] := fitsRow_exact (n := 3) (by decide) rfl
    have hi : (BitVec.ofNat 8 i.val).toNat = i.val := byte_toNat (by omega)
    exact ⟨fun h => serves_of_admits hadm rfl (hfit _ _) (by decide) (by rw [hi, mode_byte]; exact linCmdAct_opens h) (by decide),
      fun h => serves_of_admits hadm rfl (hfit _ _) (by decide) (by rw [hi, mode_byte]; exact linCmdAct_closes h) (by decide),
      fun h => serves_of_admits hadm rfl (hfit _ _) (by decide) (by rw [hi, mode_byte]; exact linCmdAct_rekeys h) (by decide)⟩
  · intro f k target d hadm hreq
    refine serves_of_admits hadm rfl (fitsRow_exact (n := 4) (by decide) (by simp [leBytes_length])) (by decide) ?_ (by decide)
    rw [byte_toNat (by omega), byte_toNat (by omega), mendAct_starts (by omega) (by omega) hreq]
    rfl
  · rintro fields we am period hadm a b rfl rfl hsafe
    refine serves_of_admits hadm rfl (fitsRow_exact (n := 8) (by decide) (by simp [leBytes_length])) (by decide) ?_ (by decide)
    rw [mode_byte, mode_byte]
    exact walkAct_sets hsafe
  · intro f hadm
    exact serves_of_admits hadm rfl (fitsRow_exact (n := 1) (by decide) rfl) (by decide)
      (by rw [byte_toNat (by omega)]; exact mendStatusAct_answers (by omega)) (by decide)
  · intro hadm
    have hfit (b : Byte) : fitsRow 0x0504 [b] := fitsRow_exact (n := 1) (by decide) rfl
    exact ⟨serves_of_admits hadm rfl (hfit _) (by decide) rfl (by decide), fun g => serves_of_admits hadm rfl (hfit _) (by decide)
      (by rw [byte_toNat (by omega)]; exact seamRetrainAct_segment g.isLt) (by decide)⟩
  · intro hadm
    have hfit : fitsRow 0x0505 [] := fitsRow_exact (n := 0) (by decide) rfl
    exact ⟨fun hmode => serves_of_admits hadm rfl hfit (by decide) (if_pos hmode) (by decide),
      fun hmode => serves_of_admits hadm rfl hfit (by decide) (if_neg hmode) (by decide)⟩
  · intro k d hadm
    have hfit (b : Byte) : fitsRow 0x0601 [b] := fitsRow_exact (n := 1) (by decide) rfl
    have hact {b : Bool} (hcmd : bobCmd (k.val + 1) s.dev = (b, d)) : bobCmdAct (BitVec.ofNat 8 (k.val + 1)).toNat s.dev =
        if b then answerWith stWrongMode d else ok (word4 d (bobA 4)) d := by
      rw [byte_toNat (by omega)]
      exact bobCmdAct_answers (by omega) (by omega) hcmd
    exact ⟨fun hcmd => serves_of_admits hadm rfl (hfit _) (by decide) (hact hcmd) (by decide),
      fun hcmd => serves_of_admits hadm rfl (hfit _) (by decide) (hact hcmd) (by decide)⟩
  · exact fun hadm => serves_of_admits hadm rfl (fitsRow_exact (n := 0) (by decide) rfl) (by decide) rfl (by decide)
  · intro first count hadm
    have hfit : fitsRow 0x0701 (leBytes first.toNat 2 ++ [count]) := fitsRow_exact (n := 3) (by decide) (by simp [leBytes_length])
    refine ⟨fun hf h1 h120 => serves_of_admits hadm rfl hfit (by decide) (if_neg (by omega)) (by decide), fun hbad => ?_⟩
    refine serves_of_admits hadm rfl hfit (by decide) (if_pos (Or.inr ?_)) (by decide)
    exact hbad.imp (congrArg BitVec.toNat) id
  · exact fun hadm => ⟨_, serves_of_admits hadm rfl (fitsRow_exact (n := 0) (by decide) rfl) (by decide) rfl (by decide), sensors_length⟩
  · intro ws hadm hlen hw
    obtain ⟨hshown, hother⟩ := faultIe_shows (ws := ws) hw
    refine ⟨_, serves_of_admits hadm rfl (fitsRow_exact (n := 32) (by decide) ?_) (by decide) rfl (by decide), hshown, hother⟩
    simp [List.length_flatMap, leBytes_length, hlen]
  · intro ty total hadm hty hnone hlong
    exact serves_of_admits hadm rfl (fitsRow_exact (n := 8) (by decide) (by simp [leBytes_length])) (by decide)
      (updateBeginAct_begins hty hnone hlong) (by decide)
  · intro off data u hadm h1 h4072 hu
    have hfit : fitsRow 0x0802 (leBytes off.toNat 4 ++ data) := fitsRow_of_length (lo := 5) (hi := 4076) (by decide) (by decide)
      (by rw [List.length_append, leBytes_length]; omega) (by rw [List.length_append, leBytes_length]; omega)
    have hact := updateDataAct_of_job (off := off.toNat) (data := data) hu
    exact ⟨fun hnext hroom => serves_of_admits hadm rfl hfit (by decide) (hact.trans (if_neg (by omega))) (by decide),
      fun hother => serves_of_admits hadm rfl hfit (by decide) (hact.trans (if_pos (Or.inl hother))) (by decide)⟩
  · rintro sig wr u q hadm hu rfl
    have hq := updateEndAct_accepted (rq := rq) (sig := sig) hu
    exact ⟨hq, gives_of_accepted hadm rfl (fitsRow_exact (n := 0) (by decide) rfl) (by decide) (Prod.ext hq rfl)⟩
  · exact fun hadm hrom => serves_of_admits hadm rfl (fitsRow_exact (n := 0) (by decide) rfl) (by decide) (if_neg (by simp [hrom])) (by decide)
  · exact fun hadm => serves_of_admits hadm rfl (fitsRow_exact (n := 0) (by decide) rfl) (by decide) rfl (by decide)
  · rintro fallback auto ports t page hadm hargs a b rfl rfl
    obtain ⟨d, hact, hptr, hsame, hregs⟩ := pointerSetAct_sets (d := s.dev) (fallback := fallback) (auto := auto) (page := page.toNat) hargs
    exact ⟨d, serves_of_admits hadm rfl (fitsRow_exact (n := 8) (by decide) (by simp [leBytes_length])) (by decide)
      (by rw [mode_byte, mode_byte]; exact hact) (by decide), hptr, hsame, hregs⟩
  · rintro slot digest hadm hk p rfl
    have hfit : fitsRow 0x0807 ([BitVec.ofNat 8 slot.val] ++ leBytes 0 3 ++ leBytes digest.toNat 48) :=
      fitsRow_exact (n := 52) (by decide) (by simp [leBytes_length])
    have hslot : (BitVec.ofNat 8 slot.val).toNat = slot.val := byte_toNat (by omega)
    refine ⟨fun hfree => ?_, fun hused => serves_of_admits hadm rfl hfit (by decide) (if_pos (by rw [hslot]; simp [hused])) (by decide)⟩
    obtain ⟨d, hact, hkey, hothers⟩ := keyEnrollAct_enrolls (digest := digest) hk (by omega) hfree
    exact ⟨d, serves_of_admits hadm rfl hfit (by decide) (by rw [hslot]; exact hact) (by decide), hkey, hothers⟩
  · intro slot hadm hk
    obtain ⟨d, hact, hrev⟩ := keyRevokeAct_revokes (slot := slot.val) hk (by omega)
    exact ⟨d, serves_of_admits hadm rfl (fitsRow_exact (n := 1) (by decide) rfl) (by decide)
      (by rw [byte_toNat (by omega)]; exact hact) (by decide), hrev⟩
  · rintro slot key hadm hk p rfl
    have hfit : fitsRow 0x0809 ([BitVec.ofNat 8 slot.val] ++ leBytes 0 3 ++ leBytes key.toNat 32) :=
      fitsRow_exact (n := 36) (by decide) (by simp [leBytes_length])
    have hslot : (BitVec.ofNat 8 slot.val).toNat = slot.val := byte_toNat (by omega)
    refine ⟨fun hfree => ?_, fun hused => serves_of_admits hadm rfl hfit (by decide)
      (if_pos (by rw [hslot]; simp [Option.isSome_iff_ne_none.mpr hused])) (by decide)⟩
    obtain ⟨d, hact, hkey⟩ := patternKeyAct_stores (key := key) hk (by omega) hfree
    exact ⟨d, serves_of_admits hadm rfl hfit (by decide) (by rw [hslot]; exact hact) (by decide), hkey⟩
  · rintro kind wher first count w rfl hr
    have hfit : fitsRow 0x0901 (claimBytes kind wher first count) := fitsRow_exact (n := 12) (by decide) (by simp [claimBytes, leBytes_length])
    have hfit' : fitsRow 0x0902 (claimBytes kind wher first count) := fitsRow_exact (n := 12) (by decide) (by simp [claimBytes, leBytes_length])
    have hfit'' (holder : Byte) : fitsRow 0x0903 (claimBytes kind wher first count ++ [holder]) :=
      fitsRow_exact (n := 13) (by decide) (by simp [claimBytes, leBytes_length])
    refine ⟨fun hadm => ⟨fun c hc => serves_of_admits hadm rfl hfit (by decide) (claimAct_of_held hr hc) (by decide), fun hfree => ?_⟩,
      fun hadm hfree => ?_, fun holder hadm hholder => ?_⟩
    · obtain ⟨hin, hout⟩ := takeClaim_holders (d := s.dev) (x := x) (kind := kind.toNat) (w := claimWhere kind.toNat wher.toNat)
        (first := first.toNat) (count := count.toNat)
      exact ⟨_, serves_of_admits hadm rfl hfit (by decide) (claimAct_of_free hr hfree) (by decide), hin, hout⟩
    · obtain ⟨hin, hout⟩ := unclaimed_holders hfree
      exact ⟨_, serves_of_admits hadm rfl hfit' (by decide) (unclaimAct_of_free hr hfree) (by decide), hin, hout⟩
    · have hne : holder.toNat ≠ 255 := fun h => hholder (BitVec.eq_of_toNat_eq h)
      obtain ⟨d, hact, hin, hout⟩ := overrideAct_sets (d := s.dev) (x := x) hr hne
      refine ⟨d, serves_of_admits hadm rfl (hfit'' holder) (by decide) hact (by decide), fun i hlo hhi => (hin i hlo hhi).trans ?_, hout⟩
      exact if_congr ⟨fun h => BitVec.eq_of_toNat_eq h, fun h => congrArg BitVec.toNat h⟩ rfl rfl
  · intro kind wher item hadm hr
    exact serves_of_admits hadm rfl (fitsRow_exact (n := 8) (by decide) (by simp [leBytes_length])) (by decide) (claimQueryAct_answers hr) (by decide)
  · rintro a wide len rfl
    refine ⟨fun r d hadm hread => serves_of_admits hadm rfl (fitsRow_exact (n := 11) (by decide) (by simp [leBytes_length])) (by decide)
      (regReadAct_one hread) (by decide), fun data st d hadm hlen hrules hwrite => ⟨fun hst => ?_, fun hst => ?_⟩⟩
    · exact serves_of_admits hadm rfl (fitsRow_oneWrite hlen) (by decide) (regWriteAct_one hlen hrules hwrite hst) (by decide)
    · exact gives_of_waits hadm rfl (fitsRow_oneWrite hlen) (by decide) (regWriteAct_waits hlen hrules hwrite hst)
  · rintro a mask value r d d' st hadm hread hok old new rfl rfl hrule hwrite hst
    exact serves_of_admits hadm rfl (fitsRow_exact (n := 16) (by decide) (by simp [leBytes_length])) (by decide)
      (regRmwAct_writes hread hok hrule hwrite hst) (by decide)
  · intro q ctx d hadm hlen hq hclaim n c hn hruns hc hset
    rw [← (session_of_admits hadm).1] at hclaim
    exact serves_of_admits hadm rfl (fitsRow_exact (n := 60) (by decide) (by simp [leBytes_length, hlen])) (by decide)
      (queueSetAct_sets hlen hq hclaim hn hruns hc hset) (by decide)
  · intro q c d n hadm hq hn hruns hread
    exact serves_of_admits hadm rfl (fitsRow_exact (n := 4) (by decide) leBytes_length) (by decide) (queueGetAct_reads hq hn hruns hread) (by decide)
  · intro q cmd d n hadm hq hcmd hclaim hn hruns hstate
    rw [← (session_of_admits hadm).1] at hclaim
    have hcmd' : cmd.toNat = 3 ∨ cmd.toNat = 4 := hcmd.imp (congrArg BitVec.toNat) (congrArg BitVec.toNat)
    exact serves_of_admits hadm rfl (fitsRow_exact (n := 8) (by decide) (by simp [leBytes_length])) (by decide)
      (queueCtlAct_acts hq hcmd' hclaim hn hruns hstate) (by decide)
  · intro k
    have hk : (BitVec.ofNat 8 k.val).toNat = k.val := byte_toNat (by omega)
    refine ⟨fun hadm => ?_, fun hadm => ?_, fun dev hadm => ?_⟩
    · exact serves_of_admits hadm rfl (fitsRow_exact (n := 1) (by decide) rfl) (by decide) (by rw [hk]; exact if_neg (by omega)) (by decide)
    · exact serves_of_admits hadm rfl (fitsRow_exact (n := 1) (by decide) rfl) (by decide) (by rw [hk]; exact if_neg (by omega)) (by decide)
    · refine serves_of_admits hadm rfl (fitsRow_exact (n := 2) (by decide) rfl) (by decide) ?_ (by decide)
      rw [hk, byte_toNat (by omega)]
      exact if_neg (by omega)
  · intro dev inner ans hadm h1 h4072 hother
    have hdev : (BitVec.ofNat 8 dev.val).toNat = dev.val := byte_toNat (by omega)
    have hfit : fitsRow 0x0B04 ([BitVec.ofNat 8 dev.val, 0, 0, 0] ++ inner) := fitsRow_of_length (lo := 4) (hi := 4076) (by decide) (by decide)
      (by simp) (by simp; omega)
    have hact (ans : Option (List Byte)) : slvForwardOwn rq (BitVec.ofNat 8 dev.val).toNat inner ans s.dev = slvForwardAct dev.val ans s.dev := by
      rw [hdev, slvForwardOwn_of_other hother]
    refine ⟨fun bs hup hans => ?_, fun hdown => ?_⟩
    · subst hans
      exact serves_of_admits hadm rfl hfit (by decide) ((hact _).trans (slvForwardAct_reached (by omega) hup)) (by decide)
    · exact serves_of_admits hadm rfl hfit (by decide) ((hact _).trans (slvForwardAct_unreached (by omega) hdown)) (by decide)
  · intro inner bs ans st d hadm h1 h4072 hreply hwait hok hacc
    refine serves_of_admits hadm rfl (fitsRow_of_length (lo := 4) (hi := 4076) (by decide) (by decide) (by simp) (by simp; omega))
      (by decide) ?_ (by decide)
    rw [byte_toNat (devId_lt.trans (by decide))]
    exact slvForwardOwn_replies hreply hwait hok hacc

end Sys2Proof.Machine
end

section
/-!
What leaves every domain's state as it is (22_power_package R559 to R561): the recorder, the fault log, lanes and the network, while the device
runs. The transitions under way, the domains' status registers and the halves that are up stay; an integrity halt may begin, none ends.
-/
namespace Sys2Proof.Machine

/-- The status registers of the domains. -/
def domReg (a : Nat) : Prop := domStatA 0 ≤ a ∧ a < domStatA 64

/-- Device `e` runs, with the domains of `d`. -/
structure DomainsKept (d e : Device) : Prop where
  wf : tabWf regDefault e.regs = true
  reg : ∀ a, domReg a → e.reg a = d.reg a
  pwr : e.pwr = d.pwr
  running : e.sys.mode = .running
  up : ∀ h, e.up h = d.up h
  halt : d.sys.integrity = true → e.sys.integrity = true

section
variable {d e x : Device} {a k lo n v l o g : Nat} {h : Half}

/-! ### Addresses -/

theorem domStatA_domReg (hn : n < 64) : domReg (domStatA n) := by
  unfold domReg domStatA pwrA
  omega

theorem not_domReg_low (ha : a < domStatA 0) : ¬ domReg a := fun hd => absurd hd.1 (Nat.not_le.mpr ha)

theorem thmA_not_domReg (ho : o < 0x10000) : ¬ domReg (thmA o) := not_domReg_low (by unfold thmA domStatA pwrA; omega)
theorem bobA_not_domReg (ho : o < 0x10000) : ¬ domReg (bobA o) := not_domReg_low (by unfold bobA domStatA pwrA; omega)
theorem linA_not_domReg (ho : o < 0x10000) : ¬ domReg (linA o) := not_domReg_low (by unfold linA domStatA pwrA; omega)

theorem segStat_not_domReg (hg : g < 110) : ¬ domReg (segStat g) :=
  not_domReg_low (by simp only [segStat, seamA, domStatA, pwrA]; omega)

theorem rngA_not_domReg (hk : k < 16) (ho : o < 0x20) : ¬ domReg (rngA k o) := linA_not_domReg (by omega)

/-- The windows of 64 KiB: a register of a channel at another offset than the domains' status. -/
theorem mchA_not_domReg (ho : o < 0x700 ∨ 0x800 ≤ o) (ho' : o < 0x10000) : ¬ domReg (mchA n o) := by
  unfold domReg mchA domStatA pwrA
  omega

theorem shtA_not_domReg (ho : o < 0x700) : ¬ domReg (shtA n o) := by
  unfold domReg shtA domStatA pwrA
  omega

theorem laneStat_not_domReg : ¬ domReg (laneStat l) := by
  unfold domReg laneStat laneA quadA domStatA pwrA
  omega

theorem stileStat_not_domReg : ¬ domReg (stileStat k) := by
  unfold domReg stileStat fldA domStatA pwrA
  omega

theorem domReg_not_stateReg (ha : domReg a) : stateReg a = false := by
  refine stateReg_eq_false.mpr ⟨?_, ?_⟩ <;> rintro rfl <;> exact thmA_not_domReg (by decide) ha

/-! ### What is kept shows the same -/

theorem DomainsKept.bit (h : DomainsKept d e) (hn : n < 64) : e.bit (domStatA n) k = d.bit (domStatA n) k :=
  Device.bit_congr (h.reg _ (domStatA_domReg hn))

theorem DomainsKept.fld (h : DomainsKept d e) (hn : n < 64) : e.fld (domStatA n) lo k = d.fld (domStatA n) lo k :=
  Device.fld_congr (h.reg _ (domStatA_domReg hn))

theorem DomainsKept.domState (h : DomainsKept d e) (hn : n < 64) : e.domState n = d.domState n := h.fld hn

theorem DomainsKept.transitions (h : DomainsKept d e) : e.trans n = d.trans n := by rw [Device.trans, h.pwr, Device.trans]

/-- Safe hold stands while no domain is released, no half is lost and no integrity halt ends. -/
theorem safeCause_stays (hforced : ∀ m, m < 64 → d.forced m = true → e.forced m = true) (hup : ∀ h, e.up h = d.up h)
    (hhalt : d.sys.integrity = true → e.sys.integrity = true) (hd : d.safeCause ≠ 0) : e.safeCause ≠ 0 := by
  have hclock : d.clockCause = true → e.clockCause = true := by
    simp only [Device.clockCause, List.any_eq_true, Bool.and_eq_true]
    rintro ⟨m, hm, hf, hu⟩
    exact ⟨m, hm, hforced m (List.mem_range.mp hm) hf, (hup _).trans hu⟩
  have hb : d.clockCause = true ∨ d.sys.integrity = true := by
    by_contra hnone
    simp only [not_or, Bool.not_eq_true] at hnone
    exact hd (by simp [Device.safeCause, hnone, b2n])
  rcases hb with hc | hi
  · simp [Device.safeCause, hclock hc, b2n]
  · simp [Device.safeCause, hhalt hi, b2n]

theorem DomainsKept.safeCause (h : DomainsKept d e) (hd : d.safeCause ≠ 0) : e.safeCause ≠ 0 :=
  safeCause_stays (fun _ hm hf => (h.bit hm).trans hf) h.up h.halt hd

/-! ### Updates -/

theorem DomainsKept.refl (hw : tabWf regDefault d.regs = true) (hrun : d.sys.mode = .running) : DomainsKept d d :=
  ⟨hw, fun _ _ => rfl, rfl, hrun, fun _ => rfl, id⟩

section
variable {fresh log fab bram clv net time clk mend load seam lanes eth host jesd mem sht pins bob cmd slv rsp}

/-- An update `{ e with … }` of anything but the registers, the modes and power. -/
theorem DomainsKept.frame (h : DomainsKept d e) :
    DomainsKept d ⟨e.regs, fresh, e.sys, log, fab, bram, clv, net, time, clk, e.pwr, mend, load, seam, lanes, eth, host, jesd, mem, sht, pins,
      bob, cmd, slv, rsp⟩ :=
  ⟨h.wf, h.reg, h.pwr, h.running, fun k => (by cases k <;> rfl : _ = e.up k).trans (h.up k), h.halt⟩

end

section
variable {c : Prop} [Decidable c] {α β γ : Type}

theorem DomainsKept.ite (h : DomainsKept d e) (hx : DomainsKept d x) : DomainsKept d (if c then e else x) := by
  split <;> assumption

theorem DomainsKept.ite_snd {p q : α × Device} (hp : DomainsKept d p.2) (hq : DomainsKept d q.2) : DomainsKept d (if c then p else q).2 := by
  split <;> assumption

theorem DomainsKept.ite_third {p q : α × β × Device} (hp : DomainsKept d p.2.2) (hq : DomainsKept d q.2.2) :
    DomainsKept d (if c then p else q).2.2 := by
  split <;> assumption

theorem DomainsKept.pair {y : α} (h : DomainsKept d e) : DomainsKept d (y, e).2 := h
theorem DomainsKept.triple {y : α} {z : β} (h : DomainsKept d e) : DomainsKept d (y, z, e).2.2 := h

theorem DomainsKept.foldl {xs : List α} {f : Device → α → Device} (h : DomainsKept d e)
    (hf : ∀ y a, a ∈ xs → DomainsKept d y → DomainsKept d (f y a)) : DomainsKept d (xs.foldl f e) :=
  List.foldlRecOn xs f h fun y hy a ha => hf y a ha hy

theorem DomainsKept.foldl_snd {xs : List α} {f : β × Device → α → β × Device} {p : β × Device} (h : DomainsKept d p.2)
    (hf : ∀ (q : β × Device) a, DomainsKept d q.2 → DomainsKept d (f q a).2) : DomainsKept d (xs.foldl f p).2 :=
  List.foldlRecOn (motive := fun q => DomainsKept d q.2) xs f h fun q hq a _ => hf q a hq

theorem DomainsKept.foldl_third {xs : List α} {f : β × γ × Device → α → β × γ × Device} {p : β × γ × Device} (h : DomainsKept d p.2.2)
    (hf : ∀ (q : β × γ × Device) a, DomainsKept d q.2.2 → DomainsKept d (f q a).2.2) : DomainsKept d (xs.foldl f p).2.2 :=
  List.foldlRecOn (motive := fun q => DomainsKept d q.2.2) xs f h fun q hq a _ => hf q a hq

theorem DomainsKept.each {xs : List α} {f : Device → α → Device} (h : DomainsKept d e)
    (hf : ∀ y a, a ∈ xs → DomainsKept d y → DomainsKept d (f y a)) : DomainsKept d (e.each xs f) := h.foldl hf

theorem DomainsKept.when {b : Bool} {f : Device → Device} (h : DomainsKept d e) (hf : ∀ y, DomainsKept d y → DomainsKept d (f y)) :
    DomainsKept d (e.when b f) := .ite (hf e h) h

end

theorem DomainsKept.setReg {w : Word} (h : DomainsKept d e) (ha : ¬ domReg a) : DomainsKept d (e.setReg a w) where
  wf := Device.setReg_wf _ _ _ h.wf
  reg b hb := (Device.reg_setReg_ne _ _ _ _ (by rintro rfl; exact ha hb) h.wf).trans (h.reg b hb)
  pwr := h.pwr
  running := h.running
  up k := (by cases k <;> rfl : _ = e.up k).trans (h.up k)
  halt := h.halt

theorem DomainsKept.setFld (h : DomainsKept d e) (ha : ¬ domReg a) : DomainsKept d (e.setFld a lo n v) := h.setReg ha
theorem DomainsKept.putBit {b : Bool} (h : DomainsKept d e) (ha : ¬ domReg a) : DomainsKept d (e.putBit a k b) := h.setFld ha
theorem DomainsKept.setBit (h : DomainsKept d e) (ha : ¬ domReg a) : DomainsKept d (e.setBit a k) := h.putBit ha
theorem DomainsKept.bump (h : DomainsKept d e) (ha : ¬ domReg a) : DomainsKept d (e.bump a lo n v) := h.setFld ha
theorem DomainsKept.bumpSat (h : DomainsKept d e) (ha : ¬ domReg a) : DomainsKept d (e.bumpSat a lo n v) := h.setFld ha
theorem DomainsKept.setFab {y} (h : DomainsKept d e) : DomainsKept d (e.setFab y) := h.frame
theorem DomainsKept.setLane {y} (h : DomainsKept d e) : DomainsKept d (e.setLane l y) := h.frame
theorem DomainsKept.setSegment {y} (h : DomainsKept d e) : DomainsKept d (e.setSegment k y) := h.frame
theorem DomainsKept.setChan {y} (h : DomainsKept d e) : DomainsKept d (e.setChan k y) := h.frame
theorem DomainsKept.setRuns {key rs} (h : DomainsKept d e) : DomainsKept d (e.setRuns key rs) := h.frame
theorem DomainsKept.setBobHalf {h' b} (h : DomainsKept d e) : DomainsKept d (e.setBobHalf h' b) := by cases h' <;> exact h.frame
theorem DomainsKept.setFifo {h' rs} (h : DomainsKept d e) : DomainsKept d (e.setFifo h' rs) := by cases h' <;> exact h.frame
theorem DomainsKept.takeFree (h : DomainsKept d e) : DomainsKept d e.takeFree.2 := h.frame
theorem DomainsKept.setShuttle {y} (h : DomainsKept d e) : DomainsKept d (e.setShuttle k y) :=
  DomainsKept.setFld h.frame (shtA_not_domReg (by decide))

theorem DomainsKept.settle (h : DomainsKept d e) : DomainsKept d e.settle := by
  rw [settle_eq]
  exact h.frame

/-! ### The recorder, the fault log and lanes -/

theorem DomainsKept.bobRecord {h' r} (h : DomainsKept d e) : DomainsKept d (e.bobRecord h' r) := .ite h (.ite h.setBobHalf h.setBobHalf)

theorem DomainsKept.bobGap {h' c} (h : DomainsKept d e) : DomainsKept d (e.bobGap h' c) :=
  .ite h (.ite h.setBobHalf (DomainsKept.bobRecord (h.setBobHalf.bump (bobA_not_domReg (by decide)))))

theorem DomainsKept.bobData {h' sub unit start data} (h : DomainsKept d e) : DomainsKept d (e.bobData h' sub unit start data) :=
  h.each fun _ _ _ hy => hy.bobRecord

theorem DomainsKept.bobTrigger {source} (h : DomainsKept d e) : DomainsKept d (e.bobTrigger source) :=
  .ite ((h.setFld (bobA_not_domReg (by decide))).each fun _ _ _ hx => hx.bobRecord.setBobHalf) (h.bump (bobA_not_domReg (by decide)))

theorem DomainsKept.fault {h' cls src detail} (h : DomainsKept d e) : DomainsKept d (e.fault h' cls src detail) := by
  have hdrop : DomainsKept d (match h' with
      | .w => { e.bumpSat (thmA 0x2420) 0 16 1 with log := { e.log with dropW := e.log.dropW + 1 } }
      | .e => { e.bumpSat (thmA 0x2420) 0 16 1 with log := { e.log with dropE := e.log.dropE + 1 } }) := by
    have hcount : DomainsKept d (e.bumpSat (thmA 0x2420) 0 16 1) := h.bumpSat (thmA_not_domReg (by decide))
    cases h' <;> exact hcount.frame
  exact .ite (DomainsKept.ite h.setFifo hdrop).bobTrigger (.ite h.setFifo hdrop)

theorem DomainsKept.laneEval (h : DomainsKept d e) : DomainsKept d (laneEval l e) :=
  have hput {b c : Bool} : DomainsKept d ((e.putBit (laneStat l) 29 b).putBit (laneStat l) 27 c) :=
    (h.putBit laneStat_not_domReg).putBit laneStat_not_domReg
  .ite hput.setLane (.ite hput.setLane hput)

/-- A running device is in no load. -/
theorem DomainsKept.abandonOnHold (h : DomainsKept d e) : DomainsKept d (abandonOnHold e) := by
  have hrun : ¬ ((e.sys.mode == BaseMode.loading && decide (e.safeCause ≠ 0)) = true) := by simp [h.running]
  rwa [Machine.abandonOnHold, if_neg hrun]

/-! ### The network -/

theorem DomainsKept.answerFrom {p hdr st data poison} (h : DomainsKept d e) : DomainsKept d (answerFrom p hdr st data poison e) := h.frame.setRuns
theorem DomainsKept.showOutst (h : DomainsKept d e) : DomainsKept d (showOutst k e) := h.setFld stileStat_not_domReg
theorem DomainsKept.stileRefuse {st} (h : DomainsKept d e) : DomainsKept d (stileRefuse k st e) :=
  h.frame.each fun _ _ _ hy => (hy.setBit stileStat_not_domReg).answerFrom
theorem DomainsKept.stileApply (h : DomainsKept d e) : DomainsKept d (stileApply k e) := .ite (h.frame.when fun _ hy => hy.stileRefuse) h
theorem DomainsKept.recordBeats {chan bs} (h : DomainsKept d e) : DomainsKept d (recordBeats k chan bs e) :=
  .ite (h.each fun _ _ _ hy => hy.bobData) h

theorem DomainsKept.netComplete {o' an} (h : DomainsKept d e) : DomainsKept d (netComplete o' an e) := by
  unfold Machine.netComplete
  extract_lets _ d1
  have h1 : DomainsKept d d1 := h.frame
  split
  · exact h1
  · exact ((h1.when fun _ hy => hy.setBit stileStat_not_domReg).when fun _ hy =>
      hy.setBit stileStat_not_domReg).recordBeats.showOutst.stileApply

/-! ### What a domain whose clock fails does -/

theorem DomainsKept.srTrigger {why} (h : DomainsKept d e) : DomainsKept d (srTrigger k why e) :=
  .ite (DomainsKept.setChan (h.setFld (mchA_not_domReg (by decide) (by decide)))) h

theorem DomainsKept.shtTimeouts (h : DomainsKept d e) : DomainsKept d (shtTimeouts k e) :=
  h.foldl fun _ _ _ hy => .ite hy.takeFree.setShuttle hy

theorem DomainsKept.forceEffects (h : DomainsKept d e) : DomainsKept d (forceEffects k e) := by
  unfold Machine.forceEffects
  exact .ite h (.ite (h.each fun _ _ _ hy => hy.laneEval) (.ite h.srTrigger (.ite (h.each fun _ _ _ hy => hy.shtTimeouts)
    (.ite (h.each fun _ _ _ hy => hy.netComplete) (h.each fun _ _ _ hy => hy.laneEval)))))

/-! ### The seam -/

theorem DomainsKept.seamTrainStart (h : DomainsKept d e) : DomainsKept d (seamTrainStart e) :=
  h.each fun y g hg hy => by
    have hpaused : DomainsKept d (setPaused g false y) := .ite hy hy.frame
    exact hpaused.setSegment.setBit (segStat_not_domReg (List.mem_range.mp hg))

theorem DomainsKept.rejoinCheck (h : DomainsKept d e) : DomainsKept d (rejoinCheck e) := .ite h.frame.seamTrainStart h

/-- Waking ends in Dormant only. -/
theorem DomainsKept.wakeDone (h : DomainsKept d e) : DomainsKept d (wakeDone e) := by rwa [wakeDone_of_running h.running]

end
end Sys2Proof.Machine
end

section
/-!
What leaves every domain's state as it is: the memory channels' codes, the Lining, the queues of a channel and the Shuttle's cache of contexts
(13_memory_channels, 14_memory_codes, 15_lining, 16_shuttle_dma). One lemma for each operation, in the order of the model's text.
-/
namespace Sys2Proof.Machine

section
variable {d e : Device} {n line lvl x i k l dev r first count fuel : Nat} {bs : List Byte} {b : Bool}

/-! ### Addresses -/

theorem rankOf_le_one : rankOf d n l ≤ 1 := by
  rw [rankOf]
  split
  · rw [bitsAt_eq]
    omega
  · exact Nat.zero_le _

theorem markA_not_domReg (hr : r ≤ 1) : ¬ domReg (markA n r) := mchA_not_domReg (by omega) (by omega)
theorem eccStat_not_domReg : ¬ domReg (eccStat n) := mchA_not_domReg (by decide) (by decide)
theorem persistA_not_domReg (hr : r ≤ 1) (hdev : dev < 20) : ¬ domReg (persistA n r dev) := mchA_not_domReg (by omega) (by omega)
theorem linCh_not_domReg {o : Nat} (ho : o < 0x100) : ¬ domReg (linCh n o) := mchA_not_domReg (by omega) (by omega)

theorem rangeAt_lt {a : Nat} (h : rangeAt d a = some i) : i < 16 := List.mem_range.mp (List.mem_of_find?_eq_some h)

theorem lineRange_lt (h : lineRange d n line = some i) : i < 16 := by
  rw [lineRange] at h
  split at h
  · exact rangeAt_lt h
  · exact absurd h (by simp)

theorem lineView_lt (h : lineView d n line = .lined i) : i < 16 := by
  rw [lineView] at h
  split at h
  · exact absurd h (by simp)
  · next j hj =>
    have hlt := lineRange_lt hj
    split at h
    · split at h
      · split_ifs at h
        rwa [← LineView.lined.inj h]
      · exact absurd h (by simp)
    · exact absurd h (by simp)
    · rwa [← LineView.lined.inj h]

/-! ### Codes -/

theorem DomainsKept.setPoisoned (h : DomainsKept d e) : DomainsKept d (e.setPoisoned n line b) := h.frame
theorem DomainsKept.setSymErrs {xs} (h : DomainsKept d e) : DomainsKept d (e.setSymErrs n line xs) := h.frame
theorem DomainsKept.setLineBytes (h : DomainsKept d e) : DomainsKept d (e.setLineBytes n line bs) := h.frame
theorem DomainsKept.saveMarks (h : DomainsKept d e) : DomainsKept d (saveMarks n r e) := h.frame

theorem DomainsKept.markDevice (h : DomainsKept d e) (hr : r ≤ 1) : DomainsKept d (markDevice n r dev e) := by
  have ha : ¬ domReg (markA n r) := markA_not_domReg hr
  have hcount : DomainsKept d (if passBusy e n then e.bumpSat (mchA n 0x920) 0 8 1 else e) :=
    .ite (h.bumpSat (mchA_not_domReg (by decide) (by decide))) h
  exact .ite h (.ite (((hcount.setFld ha).setBit ha).setBit eccStat_not_domReg).fault.saveMarks
    (.ite (((hcount.setFld ha).setBit ha).setBit eccStat_not_domReg).fault.saveMarks
      ((((hcount.setFld ha).setBit ha).setBit ha).setBit eccStat_not_domReg).fault.saveMarks))

theorem DomainsKept.setRpt {y} (h : DomainsKept d e) : DomainsKept d (setRpt n k y e) := h.setChan

theorem DomainsKept.rptFree (h : DomainsKept d e) : DomainsKept d (rptFree n line e) := by
  unfold Machine.rptFree
  split
  · exact h.setRpt
  · exact h

theorem DomainsKept.poisonLine (h : DomainsKept d e) : DomainsKept d (poisonLine n line e) :=
  have hfree := (h.setPoisoned (n := n) (line := line) (b := true)).setSymErrs (n := n) (line := line) (xs := []) |>.rptFree (n := n) (line := line)
  DomainsKept.fault ((((hfree.bump (mchA_not_domReg (by decide) (by decide))).setBit eccStat_not_domReg).setFld
    (mchA_not_domReg (by decide) (by decide))).setFld (mchA_not_domReg (by decide) (by decide)))

theorem DomainsKept.persistCount (h : DomainsKept d e) (hr : r ≤ 1) (hdev : dev < 20) : DomainsKept d (persistCount n r line dev e) := by
  unfold Machine.persistCount
  extract_lets _ _ d1 d2
  have h2 : DomainsKept d d2 := (DomainsKept.setChan h).bumpSat (persistA_not_domReg hr hdev)
  exact .ite h (.ite (h2.markDevice hr) h2)

theorem DomainsKept.onCorrected {syms} (h : DomainsKept d e) : DomainsKept d (onCorrected n line syms b e) := by
  unfold Machine.onCorrected
  extract_lets r d1 q c d2 _ entry d3 d4
  have hr : r ≤ 1 := rankOf_le_one
  have h1 : DomainsKept d d1 := (h.setBit eccStat_not_domReg).bump (mchA_not_domReg (by decide) (by decide))
  have h3 : DomainsKept d d3 := h1.setChan.setRpt
  have h4 : DomainsKept d d4 :=
    .ite (h3.each fun _ _ hmem hy => hy.persistCount hr (List.mem_range.mp (List.mem_filter.mp hmem).1)) h3
  exact .ite (DomainsKept.bump h4.setRpt.setSymErrs (mchA_not_domReg (by decide) (by decide))) h4.setRpt

theorem DomainsKept.rptWrite (h : DomainsKept d e) : DomainsKept d (rptWrite n line e) := by
  unfold Machine.rptWrite
  split
  · split
    · exact h.setChan.setRpt
    · exact h
  · exact h

theorem DomainsKept.salvageRead (h : DomainsKept d e) : DomainsKept d (salvageRead n line e) :=
  .ite h (.ite (h.each fun _ _ _ hy => hy.setSymErrs) (h.each fun _ _ _ hy => hy.poisonLine))

theorem DomainsKept.readLine (h : DomainsKept d e) : DomainsKept d (readLine n line b e).2 := by
  unfold Machine.readLine
  refine .ite_snd (.pair h.salvageRead) ?_
  split
  · exact .pair h.onCorrected
  · exact .pair h.poisonLine
  · exact .pair h

theorem DomainsKept.storeLine (h : DomainsKept d e) : DomainsKept d (storeLine n line bs b e) :=
  have hstored := (h.setLineBytes (n := n) (line := line) (bs := bs)).setPoisoned (n := n) (line := line) (b := false)
  have harmed := hstored.putBit (k := 31) (b := false) (mchA_not_domReg (n := n) (o := 0x940) (by decide) (by decide))
  .ite (.ite harmed.setPoisoned.setSymErrs.rptFree harmed.setSymErrs) hstored.setSymErrs

/-! ### The Lining -/

theorem DomainsKept.setRngState {st} (h : DomainsKept d e) (hi : i < 16) : DomainsKept d (setRngState i st e) :=
  h.setFld (rngA_not_domReg hi (by decide))
theorem DomainsKept.setMix {y} (h : DomainsKept d e) : DomainsKept d (setMix n line y e) := h.frame
theorem DomainsKept.setCtr {v} (h : DomainsKept d e) : DomainsKept d (setCtr n lvl k v e) := h.frame
theorem DomainsKept.setGen {v} (h : DomainsKept d e) : DomainsKept d (setGen n lvl x v e) := h.frame
theorem DomainsKept.zeroCtrs (h : DomainsKept d e) : DomainsKept d (zeroCtrs n lvl x e) := h.frame
theorem DomainsKept.setSel (h : DomainsKept d e) : DomainsKept d (setSel n x b e) := h.frame
theorem DomainsKept.freeBytes (h : DomainsKept d e) : DomainsKept d (freeBytes n e).2 := .pair h.takeFree

theorem DomainsKept.writeBlock (h : DomainsKept d e) : DomainsKept d (writeBlock n lvl x e) := by
  unfold Machine.writeBlock
  exact .ite h.freeBytes.storeLine (.ite (h.freeBytes.storeLine.frame.storeLine.frame.putBit (linCh_not_domReg (by decide)))
    (.ite (h.freeBytes.storeLine.frame.frame.setBit (linCh_not_domReg (by decide))) h.freeBytes.storeLine.frame.frame))

theorem DomainsKept.integrityHalt {what} (h : DomainsKept d e) : DomainsKept d (integrityHalt n lvl l what e) := by
  unfold Machine.integrityHalt
  extract_lets _ d1 d2 d3 d4 _ d5 _ d6 _ d7 d8
  have hlin {o : Nat} (ho : o < 0x10000) : ¬ domReg (linA o) := linA_not_domReg ho
  have h1 : DomainsKept d d1 := h.frame
  have h2 : DomainsKept d d2 := ((h1.setBit (hlin (by decide))).setFld (hlin (by decide))).setFld (hlin (by decide))
  have h3 : DomainsKept d d3 := (h2.setFld (hlin (by decide))).setFld (hlin (by decide))
  have h4 : DomainsKept d d4 := h3.fault
  have h5 : DomainsKept d d5 := h4.each fun _ _ _ hy => DomainsKept.setFab (.ite hy.bobGap hy)
  have h6 : DomainsKept d d6 := ⟨h5.wf, h5.reg, h5.pwr, h5.running, fun m => (by cases m <;> rfl : _ = d5.up m).trans (h5.up m), fun _ => rfl⟩
  have h7 : DomainsKept d d7 := h6.setFab
  have h8 : DomainsKept d d8 := h7.each fun _ _ _ hy => hy.laneEval
  exact .ite h4 (h8.each fun _ _ _ hy => hy.forceEffects).abandonOnHold

theorem DomainsKept.setCache {c} (h : DomainsKept d e) : DomainsKept d (setCache n c e) := h.frame
theorem DomainsKept.cacheTouch {st} (h : DomainsKept d e) : DomainsKept d (cacheTouch n k st e) := h.setCache
theorem DomainsKept.touchBlocks (h : DomainsKept d e) : DomainsKept d (touchBlocks n line e) := h.cacheTouch.cacheTouch
theorem DomainsKept.poisonRun (h : DomainsKept d e) : DomainsKept d (poisonRun n first count e) := h.each fun _ _ _ hy => hy.poisonLine
theorem DomainsKept.nodeRebuild (h : DomainsKept d e) : DomainsKept d (nodeRebuild n lvl x e) :=
  (h.zeroCtrs.setGen.setBit (linCh_not_domReg (by decide))).fault.writeBlock.poisonRun
theorem DomainsKept.tagMemFault (h : DomainsKept d e) : DomainsKept d (tagMemFault n lvl e) :=
  (h.setBit (linCh_not_domReg (by decide))).fault

theorem DomainsKept.fetchBlock (h : DomainsKept d e) : DomainsKept d (fetchBlock n lvl x e).2 := by
  unfold Machine.fetchBlock
  extract_lets q d1 _ halt m d2
  have h1 : DomainsKept d d1 := h.readLine
  have hhalt : ∀ y, DomainsKept d y → DomainsKept d (halt y).2 := fun _ hy => .pair hy.integrityHalt
  clear_value halt
  have h2 : DomainsKept d d2 := h1.readLine
  have hmended : DomainsKept d ((d2.setBit (linCh n 4) 2).bump (linCh n 0x1C) 0 32 1) :=
    (h2.setBit (linCh_not_domReg (by decide))).bump (linCh_not_domReg (by decide))
  exact .ite_snd (.ite_snd (.pair h1) (.pair h1.poisonRun.writeBlock.tagMemFault))
    (.ite_snd (.pair h1) (.ite_snd (hhalt _ h1)
    (.ite_snd (.pair h1.nodeRebuild) (.ite_snd (.pair hmended.writeBlock) (.ite_snd (hhalt _ h2) (.pair h2.nodeRebuild))))))

/-- By recursion on the levels above the block. -/
theorem DomainsKept.need : ∀ {fuel n lvl x e}, DomainsKept d e → DomainsKept d (need fuel n lvl x e).2
  | 0, _, _, _, _, h => h
  | fuel + 1, n, lvl, x, e, h => by
    unfold Machine.need
    refine .ite_snd (.pair (h.cacheTouch.bump (linCh_not_domReg (by decide)))) ?_
    extract_lets up q
    have hup : DomainsKept d up.2 := .ite_snd h h.need
    have hq : DomainsKept d q.2 := (hup.bump (linCh_not_domReg (by decide))).fetchBlock
    clear_value up q
    split
    · split
      · exact hq.cacheTouch
      · exact hq
    · exact hup

theorem DomainsKept.ctrEnd (h : DomainsKept d e) : DomainsKept d (ctrEnd n e) :=
  (h.setBit (linCh_not_domReg (by decide))).bump (linCh_not_domReg (by decide))
theorem DomainsKept.bumpCtr (h : DomainsKept d e) : DomainsKept d (bumpCtr n lvl k e) :=
  .ite h.setCtr (.ite h.zeroCtrs.ctrEnd.setGen h.zeroCtrs.ctrEnd.setGen.frame)

theorem DomainsKept.writeBack (h : DomainsKept d e) : DomainsKept d (writeBack n k e) := by
  unfold Machine.writeBack
  extract_lets _ _ up d1 d2
  have hup : DomainsKept d up.2 := .ite_snd (.pair h) h.need
  have h1 : DomainsKept d d1 := hup.bumpCtr
  have h2 : DomainsKept d d2 := .ite h1 h1.cacheTouch
  refine .ite h.writeBlock.setCache (.ite h.setCache ?_)
  split
  · exact h2.writeBlock.setCache
  · exact hup

/-- By recursion on the bound of the evictions. -/
theorem DomainsKept.cacheTrim : ∀ {fuel n e}, DomainsKept d e → DomainsKept d (cacheTrim fuel n e)
  | 0, _, _, h => h
  | fuel + 1, n, e, h => by
    unfold Machine.cacheTrim
    refine .ite h ?_
    extract_lets can
    split
    · exact (DomainsKept.ite h h.writeBack).setCache.cacheTrim
    · exact h

theorem DomainsKept.cacheFlush (h : DomainsKept d e) : DomainsKept d (cacheFlush n e) :=
  h.each fun _ _ _ hy => hy.each fun _ _ _ hz => hz.writeBack

theorem DomainsKept.needBlocks (h : DomainsKept d e) : DomainsKept d (needBlocks n line e).2 := by
  unfold Machine.needBlocks
  extract_lets t c
  have ht : DomainsKept d t.2 := h.need
  have hc : DomainsKept d c.2 := ht.need
  split
  · exact .pair hc.cacheTrim
  · exact .pair ht.cacheTrim

theorem DomainsKept.dropTagBad (h : DomainsKept d e) : DomainsKept d (dropTagBad n line e) := h.frame

theorem DomainsKept.initLine (h : DomainsKept d e) : DomainsKept d (initLine i n line e) := by
  unfold Machine.initLine
  extract_lets
  refine .ite h ?_
  split
  · extract_lets d1 q d2
    have h1 : DomainsKept d d1 := .ite h.dropTagBad.touchBlocks.cacheTrim h
    have h2 : DomainsKept d d2 := h1.readLine
    exact .ite h1.storeLine.setMix (.ite (.ite h2.storeLine.setMix h2.setMix) h1)
  · exact h

theorem DomainsKept.tagCheck {o} (h : DomainsKept d e) : DomainsKept d (tagCheck n line o e).2 :=
  .ite_snd (.ite_snd (.pair h.integrityHalt) (.pair h.poisonLine.tagMemFault)) (.pair h)

theorem DomainsKept.linedCheck (h : DomainsKept d e) : DomainsKept d (linedCheck n line e).2 := by
  unfold Machine.linedCheck
  extract_lets q b
  have hq : DomainsKept d q.2 := h.readLine
  have hb : DomainsKept d b.2 := hq.needBlocks
  refine .ite_snd (.pair hq) ?_
  split
  · exact hb.tagCheck
  · exact .pair hb

theorem DomainsKept.linedRead (h : DomainsKept d e) : DomainsKept d (linedRead n line e).2.2 := by
  unfold Machine.linedRead
  extract_lets t
  have ht : DomainsKept d t.2 := h.linedCheck
  split <;> exact .triple ht

theorem DomainsKept.sweepRead (h : DomainsKept d e) : DomainsKept d (sweepRead n line e).2 :=
  .ite_snd (.pair h.linedCheck) (.pair h.linedCheck)

theorem DomainsKept.remixBlock (h : DomainsKept d e) : DomainsKept d (remixBlock i n x e) := by
  unfold Machine.remixBlock
  extract_lets plains d1 d2
  have hplains : DomainsKept d plains.2 := (DomainsKept.pair h).foldl_snd fun _ _ hy => .pair hy.sweepRead
  have h2 : DomainsKept d d2 := by
    refine hplains.zeroCtrs.setGen.setSel.each fun _ _ _ hy => ?_
    extract_lets d3
    have h3 : DomainsKept d d3 := hy.setMix
    split
    · exact h3.storeLine
    · exact h3
  exact .ite hplains h2.touchBlocks.cacheTrim

section
variable (h : DomainsKept d e) (hi : i < 16)
include h hi

theorem DomainsKept.setSweep {y} : DomainsKept d (setSweep i y e) := by
  unfold Machine.setSweep
  extract_lets _ d1
  have h1 : DomainsKept d d1 := h.frame
  split
  · exact (h1.setFld (rngA_not_domReg hi (by decide))).setFld (rngA_not_domReg hi (by decide))
  · exact h1

theorem DomainsKept.rekeyStart {a} : DomainsKept d (rekeyStart i a e) := by
  unfold Machine.rekeyStart
  exact ((h.frame.frame.setRngState hi).putBit (rngA_not_domReg hi (by decide))).setSweep hi

theorem DomainsKept.nextCounter : DomainsKept d (nextCounter i n line e).2 := by
  unfold Machine.nextCounter
  extract_lets _ _ d1 _ _ d2 d3 _ d4 d' d'1
  have h1 : DomainsKept d d1 := h.ctrEnd
  have h3 : DomainsKept d d3 := by
    refine h1.zeroCtrs.setGen.each fun _ _ _ hy => ?_
    extract_lets q
    have hq : DomainsKept d q.2 := hy.sweepRead
    split
    · exact hq.storeLine.setMix
    · exact hq
  have h4 : DomainsKept d d4 := h1.frame
  have h' : DomainsKept d d' := h1.remixBlock
  have h'1 : DomainsKept d d'1 := (h1.rekeyStart hi).remixBlock
  exact .ite_snd (.pair h.setCtr) (.ite_snd (.pair h3) (.ite_snd (.ite_snd (.pair (h4.setBit (rngA_not_domReg hi (by decide))))
    (.ite_snd (.pair h') (.pair h'.setCtr))) (.ite_snd (.pair h'1) (.pair h'1.setCtr))))

end

/-! ### The memory channels -/

theorem DomainsKept.chanReadLine {mc} (h : DomainsKept d e) : DomainsKept d (chanReadLine n line mc e).2.2 := by
  unfold Machine.chanReadLine
  extract_lets plainDecode
  have hplain : ∀ y, DomainsKept d y → DomainsKept d (plainDecode y).2.2 := fun _ hy => .ite_third (.triple hy.readLine) (.triple hy.readLine)
  clear_value plainDecode
  refine .ite_third (.triple h) ?_
  split
  · exact hplain _ h
  · exact .triple h
  · exact .ite_third (hplain _ (.ite h.initLine h)) (DomainsKept.ite h.initLine h).linedRead

theorem DomainsKept.drainUpdate (h : DomainsKept d e) : DomainsKept d (drainUpdate n e) :=
  .ite (h.setBit (mchA_not_domReg (by decide) (by decide))) (.ite (h.putBit (mchA_not_domReg (by decide) (by decide))) h)
theorem DomainsKept.wqLost (h : DomainsKept d e) : DomainsKept d (wqLost n e) := h.setBit (mchA_not_domReg (by decide) (by decide))

theorem DomainsKept.entryStore {y} (h : DomainsKept d e) : DomainsKept d (entryStore n y bs e).2 := by
  unfold Machine.entryStore
  split
  · next hview =>
    have hnext := h.nextCounter (lineView_lt hview) (n := n) (line := y.line)
    exact .ite_snd (.pair hnext.dropTagBad.setMix.storeLine.touchBlocks.cacheTrim) (.pair hnext)
  · exact .pair h.setMix.storeLine

theorem DomainsKept.issueEntry {y} (h : DomainsKept d e) : DomainsKept d (issueEntry n y e) := by
  unfold Machine.issueEntry
  extract_lets gone issued counted lost view d1 store q q1 b q2
  have hgone : ∀ z, DomainsKept d z → DomainsKept d (gone z) := fun _ hz => hz.setChan.drainUpdate
  have hissued : ∀ z, DomainsKept d z → DomainsKept d (issued z) := fun _ hz => hgone _ <|
    .ite (hz.bump (mchA_not_domReg (by decide) (by decide)))
      ((hz.bump (mchA_not_domReg (by decide) (by decide))).bump (mchA_not_domReg (by decide) (by decide)))
  have hcounted : ∀ z, DomainsKept d z → DomainsKept d (counted z) := fun _ hz => hissued _ hz.rptWrite
  have hlost : ∀ z, DomainsKept d z → DomainsKept d (lost z) := fun _ hz => hissued _ hz.wqLost
  have h1 : DomainsKept d d1 := by
    unfold d1
    clear_value view
    split
    · exact .ite h.initLine h
    · exact h
  have hstore : ∀ bs z, DomainsKept d z → DomainsKept d (store bs z) := fun _ _ hz => .ite (hcounted _ hz.entryStore) hz.entryStore
  clear_value store
  have hq : DomainsKept d q.2 := h1.needBlocks
  have hq1 : DomainsKept d q1.2 := h1.readLine
  have hb : DomainsKept d b.2 := hq1.needBlocks
  have hq2 : DomainsKept d q2.2.2 := h1.linedRead
  refine .ite (hgone _ h1.wqLost) (.ite ?_ ?_)
  · clear_value view
    split
    · exact .ite (hlost _ hq) (hstore _ _ hq)
    · exact hstore _ _ h1
  · clear_value view
    split
    · exact .ite (.ite (hstore _ _ hb) (hlost _ hb)) (.ite (hstore _ _ hq2) (hlost _ hq2))
    · exact .ite (hstore _ _ hq1) (hlost _ hq1)

theorem DomainsKept.drainAll (h : DomainsKept d e) : DomainsKept d (drainAll n e) := h.each fun _ _ _ hy => hy.issueEntry
theorem DomainsKept.chanAnswer {rid a} (h : DomainsKept d e) : DomainsKept d (chanAnswer n rid a e) := h.setChan

theorem DomainsKept.chanRead {mc addr len} (h : DomainsKept d e) : DomainsKept d (chanRead n mc addr len e).2 := by
  unfold Machine.chanRead
  extract_lets r _ d1 d2
  have hr : DomainsKept d r.2.2 := by
    refine (DomainsKept.triple h).foldl_third fun _ _ hy => ?_
    extract_lets d3 d4 _ q
    have h4 : DomainsKept d d4 := by
      unfold d4
      split
      · exact .ite hy hy.issueEntry
      · exact hy
    have hq : DomainsKept d q.2.2 := h4.chanReadLine
    split
    · exact .ite_third (.triple h4) (.ite_third (.triple hq) (.triple hq))
    · exact .ite_third (.triple hq) (.triple hq)
  have h1 : DomainsKept d d1 := hr.bump (mchA_not_domReg (by decide) (by decide))
  have h2 : DomainsKept d d2 := .ite (h1.bump (mchA_not_domReg (by decide) (by decide))) h1
  exact .pair (.ite (h2.bump (mchA_not_domReg (by decide) (by decide))) h2)

theorem DomainsKept.serveRead {y} (h : DomainsKept d e) : DomainsKept d (serveRead n y e) :=
  (DomainsKept.ite_snd (.pair h) h.chanRead).setChan.chanAnswer

theorem DomainsKept.serveAll (h : DomainsKept d e) : DomainsKept d (serveAll n e) := h.each fun _ _ _ hy => hy.serveRead

theorem DomainsKept.queueWrite {rid mc cls addr} (h : DomainsKept d e) : DomainsKept d (queueWrite n rid mc cls addr bs e) := by
  unfold Machine.queueWrite
  extract_lets _ d1 d2
  have h1 : DomainsKept d d1 := h.each fun _ _ _ hy => hy.serveRead
  have h2 : DomainsKept d d2 := by
    refine h1.each fun _ _ _ hy => ?_
    extract_lets _ d3
    have h3 : DomainsKept d d3 := by
      unfold d3
      split
      · exact .ite hy hy.issueEntry
      · exact hy
    split <;> exact h3.setChan
  exact h2.drainUpdate

theorem DomainsKept.chanWriteNow {mc cls addr} (h : DomainsKept d e) : DomainsKept d (chanWriteNow n mc cls addr bs e).2 :=
  .ite_snd (.pair (.ite (h.setBit eccStat_not_domReg) h)) (.pair (h.each fun _ _ _ hy => hy.issueEntry).queueWrite)

theorem DomainsKept.srEnter_domain {c} (h : DomainsKept d e) : DomainsKept d (srEnter n (.domain c) e) :=
  .ite h.srTrigger h.srTrigger.serveAll.drainAll.cacheFlush.setChan.drainUpdate

theorem DomainsKept.chanEntered (h : DomainsKept d e) : DomainsKept d (chanEntered n e) := .ite h.srEnter_domain h

/-! ### The Shuttle's cache of contexts -/

theorem DomainsKept.dramWrite {mc cls a} (h : DomainsKept d e) : DomainsKept d (dramWrite mc cls a bs e).2 := by
  refine (DomainsKept.pair h).foldl_snd fun q p hq => ?_
  split
  · exact hq
  · exact .pair hq.chanWriteNow

theorem DomainsKept.ctxWriteBack {y} (h : DomainsKept d e) : DomainsKept d (ctxWriteBack y e) := .ite h.dramWrite h

theorem DomainsKept.shtFlush {c} (h : DomainsKept d e) : DomainsKept d (shtFlush c e) := by
  have hwritten : DomainsKept d (e.each (ctxCache e c) fun d s => Machine.ctxWriteBack s d) := h.each fun _ _ _ hy => hy.ctxWriteBack
  cases c <;> exact hwritten.frame

end
end Sys2Proof.Machine
end

section
/-!
The commands of domains, regulators and temperatures (22_power_package R559 to R565).
-/
namespace Sys2Proof.Machine

section
variable {d e y z : Device} {s : State} {n m st v k p : Nat} {h : Half} {t : DomTrans}

/-! ### Addresses -/

theorem domStatA_ne_domCtrlA (hm : m < 64) : domStatA n ≠ domCtrlA m := by
  unfold domStatA domCtrlA pwrA
  omega

theorem domStatA_notLane : ¬ (quadA 0 0 ≤ domStatA n ∧ domStatA n < gpioA 0 0) := by
  unfold domStatA pwrA quadA gpioA
  omega

theorem domStatA_ne_of_ne (hne : m ≠ n) : domStatA m ≠ domStatA n := by
  unfold domStatA pwrA
  omega

/-! ### Requests (R560) -/

theorem trans_setTrans_same {o : Option DomTrans} (hp : tabWf noTrans d.pwr.trans = true) : (d.setTrans n o).trans n = o :=
  tabGet_tabSet_same _ _ _ _ hp

theorem setTrans_shows {o : Option DomTrans} (hw : tabWf regDefault d.regs = true) :
    (d.setTrans n o).bit (domStatA n) 29 = o.isSome ∧ (d.setTrans n o).domState n = d.domState n :=
  ⟨Device.bit_putBit_same (by decide) hw, Device.fld_putBit_ne (by decide) (by omega) hw⟩

/-- A field whose domain is not On does not run: it has no clocks to stop. -/
theorem stopping_of_off {act : Device → Device} (hoff : d.domOn n = false) : d.stopping n act = act d :=
  if_neg (by simp [Device.fieldRuns, hoff])

/-- The transition that starts at a domain in Deep sleep. -/
def wakingTo (target : Nat) : DomTrans := { next := 1, final := target, waiting := none, queued := false }

/-- From Deep sleep toward On or Sleep, Sleep comes first. -/
theorem startTrans_of_deep (hw : tabWf regDefault d.regs = true) (hst : d.domState n = 2) (ht : st < 2) :
    LanesKept (d.setTrans n (some (wakingTo st))) (startTrans n st d) := by
  have hnext : nextState 2 st = 1 := by simp [nextState, show ¬ st = 3 by omega, show ¬ 2 < st by omega]
  have hoff : d.domOn n = false := by simp [Device.domOn, hst]
  have hset : (if n < 32 then d.stopping n (fun e => e.setTrans n (some (wakingTo st))) else d.setTrans n (some (wakingTo st))) =
      d.setTrans n (some (wakingTo st)) := by
    split
    · exact stopping_of_off hoff
    · rfl
  have hwf : tabWf regDefault (d.setTrans n (some (wakingTo st))).regs = true := Device.putBit_wf (d := { d with pwr := _ }) hw
  have hstart : startTrans n st d = if 32 ≤ n ∧ n < 44 then
      (d.setTrans n (some (wakingTo st))).each (groupLanes n) (fun d l => laneEval l d) else d.setTrans n (some (wakingTo st)) := by
    have h23 : ¬ (2 = st) := by omega
    simp only [startTrans, hst, h23, if_false, hnext]
    simpa [wakingTo] using congrArg (fun y => if 32 ≤ n ∧ n < 44 then y.each (groupLanes n) (fun d l => laneEval l d) else y) hset
  rw [hstart]
  split
  · next hgroup =>
    refine List.foldlRecOn (groupLanes n) _ (LanesKept.refl hwf) fun y hy l hl => hy.trans (laneEval_kept hy.wf ?_)
    obtain ⟨i, hi, rfl⟩ := List.mem_map.mp hl
    have := List.mem_range.mp hi
    omega
  · exact .refl hwf

/-! ### A step of a transition ends (R559 to R561) -/

/-- Domain `n` has come to state `st`, and no domain of the running device is on its way; a cause of Safe hold still stands. -/
structure Arrived (n st : Nat) (d e : Device) : Prop where
  wf : tabWf regDefault e.regs = true
  running : e.sys.mode = .running
  state : e.domState n = st
  shown : e.bit (domStatA n) 29 = false
  still : ∀ m, e.trans m = none
  safe : d.safeCause ≠ 0 → e.safeCause ≠ 0

theorem Arrived.refl (h : Arrived n st d e) : DomainsKept e e := .refl h.wf h.running

theorem Arrived.kept (h : Arrived n st d e) (hn : n < 64) (hx : DomainsKept e z) : Arrived n st d z :=
  ⟨hx.wf, hx.running, (hx.domState hn).trans h.state, (hx.bit hn).trans h.shown, fun m => hx.transitions.trans (h.still m),
    fun hd => hx.safeCause (h.safe hd)⟩

/-- The registers and the table once domain `n` is in state `st`. -/
def stepEnded (n st : Nat) (d : Device) : Device := (stateVout n st (d.setFld (domStatA n) 30 2 st)).setTrans n none

theorem stepEnded_reg (hw : tabWf regDefault d.regs = true) : ∃ v, RegsAre (stepEnded n st d)
    (fldSet (fldSet (fldSet d.reg (domStatA n) 30 2 st) (domStatA n) 16 8 v) (domStatA n) 29 1 0) := by
  refine ⟨_, RegsAre.putBit (b := false) (RegsAre.congr (x := { stateVout n st (d.setFld (domStatA n) 30 2 st) with pwr := _ })
    ((RegsAre.of_wf hw).setFld.setFld) rfl)⟩

/-- Only domain `n` was on its way. -/
theorem stepEnded_still {o : Option DomTrans} (htr : d.pwr.trans = [(n, o)]) : (stepEnded n st d).trans m = none := by
  have htab : (stepEnded n st d).pwr.trans = tabSet noTrans d.pwr.trans n none := rfl
  rw [Device.trans, htab, htr]
  simp [tabSet, tabGet, noTrans]

theorem stepEnded_arrived (h : DomainsKept d y) (hst : st < 4) {o : Option DomTrans} (htr : d.pwr.trans = [(n, o)]) :
    Arrived n st d (stepEnded n st y) := by
  obtain ⟨v, hr⟩ := stepEnded_reg (n := n) (st := st) h.wf
  have hfield {lo k : Nat} (hlo : lo + k ≤ 16 ∨ 24 ≤ lo) (hlo' : lo + k ≤ 29 ∨ 30 ≤ lo) (hlo2 : lo + k ≤ 30) :
      (stepEnded n st y).fld (domStatA n) lo k = y.fld (domStatA n) lo k := by
    rw [hr.fld]
    simp only [fldSet_self]
    rw [fieldOf_withField_ne _ _ _ _ _ _ (by decide) (by omega), fieldOf_withField_ne _ _ _ _ _ _ (by decide) (by omega),
      fieldOf_withField_ne _ _ _ _ _ _ (by decide) (by omega)]
    rfl
  have hforced (m : Nat) (_ : m < 64) (hf : y.forced m = true) : (stepEnded n st y).forced m = true := by
    by_cases hm : m = n
    · subst hm
      rwa [Device.forced, Device.bit, hfield (by decide) (by decide) (by decide)]
    · have hne := domStatA_ne_of_ne hm
      rw [Device.forced, Device.bit, hr.fld, fldSet_ne hne, fldSet_ne hne, fldSet_ne hne]
      exact hf
  refine ⟨hr.wf, h.running, ?_, ?_, fun m => stepEnded_still (h.pwr ▸ htr), fun hd => ?_⟩
  · rw [Device.domState, hr.fld]
    simp only [fldSet_self]
    rw [fieldOf_withField_ne _ _ _ _ _ _ (by decide) (by decide), fieldOf_withField_ne _ _ _ _ _ _ (by decide) (by decide),
      fieldOf_withField_same _ _ _ _ (by decide)]
    omega
  · rw [hr.bit]
    simp only [fldSet_self]
    rw [fieldOf_withField_same _ _ _ _ (by decide)]
    rfl
  · exact safeCause_stays hforced (fun c => by cases c <;> rfl) id (h.safeCause hd)

theorem Arrived.setForced (h : Arrived n st d e) : Arrived n st d (e.setBit (domStatA n) 28) := by
  have hforced (m : Nat) (_ : m < 64) (hf : e.forced m = true) : (e.setBit (domStatA n) 28).forced m = true := by
    by_cases hm : m = n
    · subst hm
      exact Device.bit_setBit_same (by decide) h.wf
    · exact (Device.bit_congr (Device.reg_setBit_ne (domStatA_ne_of_ne hm) h.wf)).trans hf
  exact ⟨Device.setBit_wf h.wf, h.running, (Device.fld_putBit_ne (by decide) (by decide) h.wf).trans h.state,
    (Device.bit_setBit_ne (by decide) (by decide) h.wf).trans h.shown, h.still,
    fun hd => safeCause_stays hforced (fun c => by cases c <;> rfl) id (h.safe hd)⟩

/-- A domain that arrives with a gate on a dead PLL's clock is forced there. -/
theorem Arrived.clockCheck (h : Arrived n st d e) (hn : n < 64) (hfield : 32 ≤ n) : Arrived n st d (clockCheck n e) := by
  have hforce : Arrived n st d (forceDomain n e) := by
    have hnot : ¬ n < 32 := by omega
    simp only [forceDomain, hnot, decide_false, Bool.false_and, Bool.false_eq_true, if_false]
    split
    · exact h
    · exact h.setForced.kept hn h.setForced.refl.forceEffects
  have hfailed : Arrived n st d (forceFailed n e) := by
    rw [forceFailed]
    split
    · exact hforce
    · exact h
  exact hfailed.kept hn hfailed.refl.abandonOnHold

theorem Arrived.rampQueued (h : Arrived n st d e) : rampQueued e = e :=
  Device.each_of_fixed fun m _ => by rw [h.still m]

/-- What follows every command. -/
theorem DomainsKept.updated (x : Device) (h : DomainsKept d e) : DomainsKept d (x.updated e) := by
  obtain ⟨line, msgs, hs⟩ := (ModesKept.refl (d := e)).updated (y := x)
  refine ⟨updated_wf h.wf, fun a ha => (updated_reg x h.wf (domReg_not_stateReg ha)).trans (h.reg a ha), (updated_pwr x e).trans h.pwr,
    (updated_mode x e).trans h.running, fun c => Eq.trans ?_ (h.up c), fun hi => ?_⟩
  · cases c <;> simp only [Device.up, hs]
  · rw [hs]
    exact h.halt hi

theorem Arrived.moved (x : Device) (h : Arrived n st x e) (hn : n < 64) : Arrived n st x (x.moved e) := by
  have hend : holdEnd (fun _ => e) x = e := if_neg (by simpa using h.safe)
  have hmode : DomainsKept e (modeEffects (fun _ => e) x) := by
    unfold modeEffects seamWatch
    simp only [hend]
    exact h.refl.wakeDone.each fun _ _ _ hy => hy.bobGap.bobGap
  exact h.kept hn (hmode.updated x)

/-- What a memory channel and a Shuttle half do before their domain changes state. -/
def blocksReadied (n : Nat) (d : Device) : Device :=
  let d := if 44 ≤ n ∧ n < 52 then chanEntered (n - 44) d else d
  if (n = 52 ∨ n = 53) ∧ d.domOn n then shtFlush (halfOf (n - 52)) d else d

theorem DomainsKept.blocksReadied (h : DomainsKept d e) : DomainsKept d (blocksReadied n e) :=
  have hchan : DomainsKept d (if 44 ≤ n ∧ n < 52 then Machine.chanEntered (n - 44) e else e) := .ite h.chanEntered h
  .ite hchan.shtFlush hchan

/-- One step of a domain that is neither a field nor a transceiver group. -/
theorem enterState_of_block (hn : 44 ≤ n) (hready : (blocksReadied n d).domState n ≠ 3) (hto : st ≠ 3) :
    enterState n st d = stateVout n st ((blocksReadied n d).setFld (domStatA n) 30 2 st) := by
  have hgroup : ¬ (32 ≤ n ∧ n < 44) := by omega
  simp only [enterState, hto, hgroup, if_false]
  exact if_neg hready

/-- The last step of a transition of such a domain. -/
theorem transitionDone_of_block (hn : 44 ≤ n) (hn' : n < 64) (hst : st < 3) (hw : tabWf regDefault d.regs = true)
    (hrun : d.sys.mode = .running) (hfree : shtBusy d n = false) (hon : d.domState n ≠ 3)
    (htr : d.pwr.trans = [(n, some { next := st, final := st, waiting := none, queued := false })]) : Arrived n st d (transitionDone n d) := by
  have hready : DomainsKept d (blocksReadied n d) := (DomainsKept.refl hw hrun).blocksReadied
  have harrived : Arrived n st d (stepEnded n st (blocksReadied n d)) := stepEnded_arrived hready (by omega) htr
  have htrans : d.trans n = some { next := st, final := st, waiting := none, queued := false } := by simp [Device.trans, htr, tabGet]
  have henter : (enterState n st d).setTrans n none = stepEnded n st (blocksReadied n d) := by
    rw [enterState_of_block hn (by rwa [hready.domState hn']) (by omega)]
    rfl
  have hdone : transitionDone n d = (wakeDone (rejoinCheck (Machine.clockCheck n (stepEnded n st (blocksReadied n d))))).settle := by
    simp only [transitionDone, htrans, hfree, hon, Bool.or_self, Bool.false_eq_true, false_and, if_false, ne_eq, not_true_eq_false, henter,
      harrived.rampQueued]
  rw [hdone]
  have hchecked := harrived.clockCheck hn' (by omega)
  exact hchecked.kept hn' hchecked.refl.rejoinCheck.wakeDone.settle

/-! ### The adaptive loop and the limits (R562, R563) -/

section
variable {worst : Int} {mar v : Nat} (hon : d.domOn n = true) (hloop : d.bit (domCtrlA n) 29 = true) (hm : mar = d.fld (domCtrlA n) 8 8)
  (hv : v = d.fld (domStatA n) 16 8)
include hon hloop hm hv

theorem avsStep_of_closed : avsStep n worst d =
    if worst > (mar : Int) + 10 then (if v > 36 then d.setFld (domStatA n) 16 8 (v - 1) else d)
    else if worst < (mar : Int) then (if v < 64 then d.setFld (domStatA n) 16 8 (v + 1) else d.setBit (domStatA n) 26) else d := by
  subst hm hv
  simp only [avsStep, hon, hloop, Bool.not_true, Bool.false_eq_true, if_false]

end

/-- A limit of a domain sets its flag and the interrupt of power. -/
theorem limit_shows (hw : tabWf regDefault d.regs = true) (hk : k < 32) :
    ((d.setBit (domStatA n) k).raiseInt 3).bit (domStatA n) k = true ∧ ((d.setBit (domStatA n) k).raiseInt 3).bit (thmA 0x44) 3 = true := by
  have hne : domStatA n ≠ thmA 0x44 := by
    unfold domStatA pwrA thmA
    omega
  have hreg : ((d.setBit (domStatA n) k).raiseInt 3).reg (domStatA n) = (d.setBit (domStatA n) k).reg (domStatA n) := by
    rw [Device.raiseInt, Device.reg, Device.mgmt_regs]
    exact Device.reg_setBit_ne hne (Device.setBit_wf hw)
  exact ⟨(Device.bit_congr hreg).trans (Device.bit_setBit_same hk hw), Device.raiseInt_bit (by decide) (Device.setBit_wf hw)⟩

/-! ### Temperatures (R564, R565) -/

/-- Device `e` has the registers of `d` but for two, and names the same point. -/
structure TempsKept (d e : Device) : Prop where
  wf : tabWf regDefault e.regs = true
  reg : ∀ a, a ≠ thermStat → a ≠ thmA 0x44 → e.reg a = d.reg a
  point : e.fld thermStat 16 5 = d.fld thermStat 16 5

theorem thermStat_ne_thmA : thermStat ≠ thmA 0x44 := by decide

theorem tempA_ne (hp : p < 32) : tempA p ≠ thermStat ∧ tempA p ≠ thmA 0x44 := by
  unfold tempA thermStat pwrA thmA
  omega

theorem TempsKept.refl (hw : tabWf regDefault d.regs = true) : TempsKept d d := ⟨hw, fun _ _ _ => rfl, rfl⟩

theorem TempsKept.temp (h : TempsKept d e) (hp : p < 32) : e.reg (tempA p) = d.reg (tempA p) := h.reg _ (tempA_ne hp).1 (tempA_ne hp).2

theorem TempsKept.ite {c : Prop} [Decidable c] (h : TempsKept d e) (hx : TempsKept d z) : TempsKept d (if c then e else z) := by
  split <;> assumption

theorem TempsKept.putBit {b : Bool} (h : TempsKept d e) (hk : 21 ≤ k ∧ k < 32) : TempsKept d (e.putBit thermStat k b) where
  wf := Device.putBit_wf h.wf
  reg a ha ha' := (Device.reg_putBit_ne ha h.wf).trans (h.reg a ha ha')
  point := (Device.fld_putBit_ne (by omega) (by omega) h.wf).trans h.point

theorem TempsKept.raiseInt (h : TempsKept d e) : TempsKept d (e.raiseInt k) := by
  have hregs : (e.raiseInt k).regs = (e.setBit (thmA 0x44) k).regs := by rw [Device.raiseInt, Device.mgmt_regs]
  have hreg {a : Nat} (ha : a ≠ thmA 0x44) : (e.raiseInt k).reg a = e.reg a := by
    rw [Device.reg, hregs]
    exact Device.reg_setBit_ne ha h.wf
  exact ⟨hregs ▸ Device.setBit_wf h.wf, fun a ha ha' => (hreg ha').trans (h.reg a ha ha'),
    (Device.fld_congr (hreg thermStat_ne_thmA)).trans h.point⟩

theorem TempsKept.threshold {lo now flag : Nat} (h : TempsKept d e) (hnow : 21 ≤ now ∧ now < 32) (hflag : 21 ≤ flag ∧ flag < 32) :
    TempsKept d (threshold lo now flag e) :=
  .ite (.ite (h.putBit hnow) h) (.ite ((h.putBit hnow).putBit hflag).raiseInt h)

theorem tempOf_congr (h : e.reg (tempA p) = d.reg (tempA p)) : tempOf e p = tempOf d p := by
  rw [tempOf, Device.fld_congr h, tempOf]

theorem hottest_fold_congr {ps : List Nat} (h : ∀ p, p < 32 → e.reg (tempA p) = d.reg (tempA p)) (hps : ∀ p ∈ ps, p < 32) (hm : m < 32) :
    ps.foldl (fun m p => if tempOf e p > tempOf e m then p else m) m = ps.foldl (fun m p => if tempOf d p > tempOf d m then p else m) m := by
  induction ps generalizing m with
  | nil => rw [List.foldl_nil, List.foldl_nil]
  | cons q qs ih =>
    have hq := hps q (by simp)
    have htemps : tempOf e q = tempOf d q ∧ tempOf e m = tempOf d m := ⟨tempOf_congr (h q hq), tempOf_congr (h m hm)⟩
    rw [List.foldl_cons, List.foldl_cons, htemps.1, htemps.2]
    refine ih (fun p hp => hps p (by simp [hp])) ?_
    split
    · exact hq
    · exact hm

/-- The search for the hottest point looks at the temperatures alone. -/
theorem hottest_congr (h : ∀ p, p < 32 → e.reg (tempA p) = d.reg (tempA p)) : hottest e = hottest d :=
  hottest_fold_congr h (fun _ hp => List.mem_range.mp hp) (by omega)

/-- No point is hotter than the one found, which is one of them. -/
theorem hottest_max : hottest d < 32 ∧ ∀ p, p < 32 → tempOf d p ≤ tempOf d (hottest d) := by
  have hfold (ps : List Nat) (hps : ∀ p ∈ ps, p < 32) (m : Nat) (hm : m < 32) :
      ps.foldl (fun m p => if tempOf d p > tempOf d m then p else m) m < 32 ∧
        tempOf d m ≤ tempOf d (ps.foldl (fun m p => if tempOf d p > tempOf d m then p else m) m) ∧
        ∀ p ∈ ps, tempOf d p ≤ tempOf d (ps.foldl (fun m p => if tempOf d p > tempOf d m then p else m) m) := by
    induction ps generalizing m with
    | nil => exact ⟨hm, le_rfl, fun p hp => absurd hp (by simp)⟩
    | cons q qs ih =>
      have hq := hps q (by simp)
      have hlt : (if tempOf d q > tempOf d m then q else m) < 32 := by split <;> assumption
      obtain ⟨hbound, hstart, hrest⟩ := ih (fun p hp => hps p (by simp [hp])) _ hlt
      have hboth : tempOf d m ≤ tempOf d (if tempOf d q > tempOf d m then q else m) ∧
          tempOf d q ≤ tempOf d (if tempOf d q > tempOf d m then q else m) := by split <;> omega
      refine ⟨hbound, hboth.1.trans hstart, fun p hp => ?_⟩
      rcases List.mem_cons.mp hp with rfl | hp
      · exact hboth.2.trans hstart
      · exact hrest p hp
  obtain ⟨hbound, -, hall⟩ := hfold (upto 32) (fun p hp => List.mem_range.mp hp) 0 (by decide)
  exact ⟨hbound, fun p hp => hall p (List.mem_range.mpr hp)⟩

/-- The registers once a conversion has named its hottest point. -/
def tempsShown (xs : List (BitVec 16)) (d : Device) : Device :=
  let d := d.each (upto 32) (fun d p => d.setReg (tempA p) ((nth xs p 0).setWidth 32))
  (d.setFld thermStat 16 5 (hottest d)).setFld thermStat 0 16 (d.fld (tempA (hottest d)) 0 16)

theorem tempsShown_reads {xs : List (BitVec 16)} (hw : tabWf regDefault d.regs = true) : tabWf regDefault (tempsShown xs d).regs = true ∧
    (∀ p, p < 32 → (tempsShown xs d).reg (tempA p) = (nth xs p 0).setWidth 32) ∧
    (∀ a, a ≠ thermStat → (∀ p, p < 32 → a ≠ tempA p) → (tempsShown xs d).reg a = d.reg a) ∧
    (tempsShown xs d).fld thermStat 16 5 = hottest (tempsShown xs d) := by
  obtain ⟨hwf, hsame, hother⟩ := each_setReg (d := d) (n := 32) (addr := tempA) (v := fun p => (nth xs p 0).setWidth 32)
    (fun i j he => by unfold tempA pwrA at he; omega) hw
  have hreg {a : Nat} (ha : a ≠ thermStat) : (tempsShown xs d).reg a =
      (d.each (upto 32) fun d p => d.setReg (tempA p) ((nth xs p 0).setWidth 32)).reg a :=
    (Device.reg_setFld_ne ha (Device.setFld_wf hwf)).trans (Device.reg_setFld_ne ha hwf)
  refine ⟨Device.setFld_wf (Device.setFld_wf hwf), fun p hp => (hreg (tempA_ne hp).1).trans (hsame p hp),
    fun a ha ha' => (hreg ha).trans (hother a ha'), ?_⟩
  rw [hottest_congr fun p hp => hreg (tempA_ne hp).1]
  refine (Device.fld_setFld_ne _ _ _ _ _ _ _ (by decide) (by decide) (Device.setFld_wf hwf)).trans
    ((Device.fld_setFld_same _ _ _ _ _ (by decide) hwf).trans (Nat.mod_eq_of_lt hottest_max.1))

/-- With the flags of both thresholds. -/
def tempsFlagged (xs : List (BitVec 16)) (d : Device) : Device := threshold 16 30 27 (threshold 24 31 28 (tempsShown xs d))

theorem tempsFlagged_kept {xs : List (BitVec 16)} (hw : tabWf regDefault (tempsShown xs d).regs = true) :
    TempsKept (tempsShown xs d) (tempsFlagged xs d) :=
  ((TempsKept.refl hw).threshold (by decide) (by decide)).threshold (by decide) (by decide)

theorem tempConvert_regs {xs : List (BitVec 16)} (hsrc : tempSrc (tempsFlagged xs d) = true) :
    (tempConvert xs d).regs = (tempsFlagged xs d).regs := by
  have hregs : (tempConvert xs d).regs = (if tempSrc (tempsFlagged xs d) then tempsFlagged xs d
    else (tempsFlagged xs d).each [Half.w, Half.e] fun d l => if (d.lark l).on then tempRead l d else d).regs := rfl
  rw [hregs, if_pos hsrc]

/-- A conversion while the Larks take their temperature elsewhere. -/
theorem tempConvert_shows {xs : List (BitVec 16)} (hw : tabWf regDefault d.regs = true) (hsrc : tempSrc d = true) :
    (∀ p, p < 32 → (tempConvert xs d).fld (tempA p) 0 16 = (nth xs p 0).toNat) ∧
      (tempConvert xs d).fld thermStat 16 5 = hottest (tempConvert xs d) := by
  obtain ⟨hwf, htemps, hother, hpoint⟩ := tempsShown_reads (xs := xs) hw
  have hkept := tempsFlagged_kept hwf
  have hlark : lrkWide 0xE0 ≠ thermStat ∧ lrkWide 0xE0 ≠ thmA 0x44 ∧ ∀ p, lrkWide 0xE0 ≠ tempA p := by
    refine ⟨by decide, by decide, fun p => ?_⟩
    simp only [lrkWide, lrkA, hn, tempA, pwrA]
    omega
  have hsrc' : tempSrc (tempsFlagged xs d) = true := by
    rw [tempSrc, Device.bit_congr (hkept.reg _ hlark.1 hlark.2.1), Device.bit_congr (hother _ hlark.1 fun p _ => hlark.2.2 p)]
    exact hsrc
  have hreg (a : Nat) : (tempConvert xs d).reg a = (tempsFlagged xs d).reg a := by
    rw [Device.reg, tempConvert_regs hsrc', Device.reg]
  refine ⟨fun p hp => ?_, ?_⟩
  · rw [Device.fld, hreg, hkept.temp hp, htemps p hp, fieldOf, bitsAt_eq, BitVec.toNat_setWidth]
    omega
  · rw [Device.fld_congr (hreg _), hkept.point, hpoint, hottest_congr fun p hp => (hreg _).trans (hkept.temp hp)]

end
end Sys2Proof.Machine
end

section
/-!
Domains, regulators and temperatures, command by command (22_power_package R559 to R565).
-/
namespace Sys2Proof.Machine

section
variable {d e : Device} {s : State} {n m st k p : Nat}

/-- A request that Thimble makes of a domain that is not frozen. -/
theorem domStateRequest_taken (hfree : n < 32 → d.frozen n = false) : domStateRequest n 3 st d = (domRequest n st d).answer 0 [] := by
  refine if_pos ⟨rfl, ?_⟩
  by_cases hn : n < 32
  · simp [hfree hn]
  · simp [hn]

theorem domStateRequest_gives (n : Fin 64) (mc : MClass) (st : BitVec 2) :
    gives (.domainStateRequest n mc st) s (domStateRequest n.val mc st.toNat s.dev) := rfl

theorem domStateRequest_refused {mc : MClass} (hmc : mc.val ≠ 3) : domStateRequest n mc st d = d.answer 8 [] := if_neg fun h => hmc h.1

/-- A request that meets a transition waits. -/
theorem domRequest_waits {x : DomTrans} (hx : d.trans n = some x) :
    domRequest n st d = (d.setFld (domCtrlA n) 30 2 st).setTrans n (some { x with waiting := some st }) := by
  have hx' : (d.setFld (domCtrlA n) 30 2 st).trans n = some x := hx
  simp only [domRequest, hx']

/-- From Deep sleep to On. -/
theorem domRequest_of_deep (hw : tabWf regDefault d.regs = true) (hn : n < 64) (hnone : d.trans n = none) (hst : d.domState n = 2) :
    LanesKept ((d.setFld (domCtrlA n) 30 2 0).setTrans n (some (wakingTo 0))) (domRequest n 0 d) := by
  have hnone' : (d.setFld (domCtrlA n) 30 2 0).trans n = none := hnone
  have hst' : (d.setFld (domCtrlA n) 30 2 0).domState n = 2 :=
    (Device.fld_congr (Device.reg_setFld_ne (domStatA_ne_domCtrlA hn) hw)).trans hst
  rw [domRequest, hnone']
  exact startTrans_of_deep (Device.setFld_wf hw) hst' (by decide)

/-- A trip: the device is due for a reset. -/
def tripped (d : Device) : Device :=
  { d.setBit thermStat 29 with sys := { (d.setBit thermStat 29).sys with tripLow := true, tripReset := true } }

theorem thermalTrip_gives (p : Fin 32) : gives (.thermalTrip p) s (thermalTrip p.val s.dev) := rfl

theorem thermalTrip_of_hot (hhot : 16 * signed 8 (d.fld (pwrA 0x800) 8 8) ≤ tempOf d p) : thermalTrip p d = tripped d := if_pos hhot

theorem thermalTrip_of_cool (hcool : tempOf d p < 16 * signed 8 (d.fld (pwrA 0x800) 8 8)) : thermalTrip p d = d := if_neg (Int.not_le.mpr hcool)

theorem LanesKept.domain (h : LanesKept d e) :
    e.bit (domStatA n) k = d.bit (domStatA n) k ∧ e.domState n = d.domState n ∧ e.trans n = d.trans n := by
  have hreg := h.reg (domStatA n) domStatA_notLane
  obtain ⟨-, -, _, _, rfl⟩ := h
  exact ⟨Device.bit_congr hreg, Device.fld_congr hreg, rfl⟩

end

/-- Settles O37: a request starts or waits, a step of a transition ends (R559 to R561), the adaptive loop and the limits (R562, R563), and the
temperatures (R564, R565). AVS moves the voltage by one step with each AVS_STEP, and the thermal trip is a command of its own (log 19). -/
theorem powerCompletes : Obligations.PowerCompletes := by
  unfold Obligations.PowerCompletes
  intro s hw hp
  refine ⟨?_, ?_, ?_, ?_, ?_, ?_, ?_, ?_, ?_, ?_⟩
  · intro n hnone hst hfree
    have hset := setTrans_shows (n := n.val) (o := some (wakingTo 0)) (Device.setFld_wf (a := domCtrlA n.val) (lo := 30) (n := 2) (v := 0) hw)
    have hstart := domRequest_of_deep hw n.isLt hnone hst
    obtain ⟨hbit, hstate, htrans⟩ := hstart.domain (n := n.val) (k := 29)
    refine ⟨_, gives_of_eq (domStateRequest_gives n 3 0) (domStateRequest_taken hfree), rfl, hbit.trans hset.1,
      htrans.trans (trans_setTrans_same hp), hstate.trans (hset.2.trans ?_)⟩
    exact (Device.fld_congr (Device.reg_setFld_ne (domStatA_ne_domCtrlA n.isLt) hw)).trans hst
  · intro n x st hx hn
    refine ⟨_, gives_of_eq (domStateRequest_gives n 3 st) (domStateRequest_taken fun hlt => absurd hlt (by omega)), ?_⟩
    rw [domRequest_waits hx]
    exact trans_setTrans_same hp
  · exact fun n mc st hmc => gives_of_eq (domStateRequest_gives n mc st) (domStateRequest_refused hmc)
  · intro n hn htr hst hrun hidle
    have harrived := transitionDone_of_block hn n.isLt (by decide) hw hrun hidle (by rw [hst]; decide) htr
    have hmoved := harrived.moved s.dev n.isLt
    exact ⟨_, liftMode_gives s _, hmoved.state, hmoved.still n.val, hmoved.shown⟩
  · intro n hnone
    refine gives_of_eq (d := s.dev.moved (transitionDone n.val s.dev)) (liftMode_gives s _) ?_
    rw [transitionDone, hnone]
  · intro n worst hon hloop mar v hm hv
    have hstep := avsStep_of_closed (worst := worst) hon hloop hm hv
    refine ⟨fun hhigh hv36 => ?_, fun hlow hv64 => ?_, fun hlow hv64 => ?_, fun hlo hhi => ?_⟩
    · exact gives_of_eq (d := avsStep n.val worst s.dev) rfl (by rw [hstep, if_pos (by omega), if_pos hv36])
    · exact gives_of_eq (d := avsStep n.val worst s.dev) rfl (by rw [hstep, if_neg (by omega), if_pos hlow, if_pos hv64])
    · exact gives_of_eq (d := avsStep n.val worst s.dev) rfl (by rw [hstep, if_neg (by omega), if_pos hlow, if_neg (by omega)])
    · exact gives_of_eq (d := avsStep n.val worst s.dev) rfl (by rw [hstep, if_neg (by omega), if_neg (by omega)])
  · exact fun n => ⟨⟨_, rfl, limit_shows hw (by decide)⟩, ⟨_, rfl, limit_shows hw (by decide)⟩⟩
  · intro xs p hsrc hlen
    obtain ⟨htemps, hpoint⟩ := tempConvert_shows (xs := xs) hw hsrc
    exact ⟨_, rfl, htemps p.val p.isLt, hpoint, hottest_max.2 p.val p.isLt⟩
  · exact fun p hhot => ⟨_, gives_of_eq (thermalTrip_gives p) (thermalTrip_of_hot hhot), rfl, rfl, Device.bit_setBit_same (by decide) hw⟩
  · exact fun p hcool => gives_of_eq (thermalTrip_gives p) (thermalTrip_of_cool hcool)

end Sys2Proof.Machine
end
